-- ==== Sys2Proof/Word.lean ====
section
/-! DEFINITION. The word types of the BL1680's register space: 32-bit registers (R11), bytes and 16-bit
epochs (R34). -/
namespace Sys2Proof

/-- A register word (R11: every register is 32 bits wide). -/
abbrev Word := BitVec 32
/-- A byte of a buffer, a frame or the NOR flash. -/
abbrev Byte := BitVec 8
/-- The 16-bit epoch of R34. -/
abbrev Epoch := BitVec 16
/-- A point of ring time, in picoseconds: ring time counts nanoseconds and TCLK advances it by 2.5 ns (R27). -/
abbrev Time := Nat

end Sys2Proof
end

