-- ==== Sys2Proof/Types.lean ====
section
/-! DEFINITION. The names and plain records the commands and the state share: halves, lanes, device states, pages'
owners, flits, frames, descriptors and the operands an event brings from outside. -/
namespace Sys2Proof

/-- A lane number, 0 to 15. -/
abbrev LaneIx := Fin 16
/-- An outlet of a lane, O0 to O7. -/
abbrev OutIx := Fin 8
/-- A global outlet number, 8 n + k (R5). -/
abbrev GOut := Fin 128

/-- The two control halves. -/
inductive Half where
  | a
  | b
  deriving DecidableEq, Repr

/-- The other half. -/
def Half.other : Half → Half
  | .a => .b
  | .b => .a

/-- 0 for A, 1 for B. -/
def Half.ix : Half → Fin 2
  | .a => 0
  | .b => 1

/-- The two ring ports. -/
inductive Ring where
  | a
  | b
  deriving DecidableEq, Repr

def Ring.other : Ring → Ring
  | .a => .b
  | .b => .a

def Ring.ix : Ring → Fin 2
  | .a => 0
  | .b => 1

/-- The members of the family (R2, Table 0-1). -/
inductive Member where
  | bl0280
  | bl0480
  | bl0880
  | bl1680
  deriving DecidableEq, Repr

/-- The device states of Table 1-6. -/
inductive DevState where
  | off
  | reset
  | boot
  | primrose
  | idle
  | armed
  | run
  | standby
  deriving DecidableEq, Repr

/-- The code of a state in SYS.STATE (Table 1-7); OFF has none. -/
def DevState.code : DevState → Nat
  | .off => 0
  | .reset => 1
  | .boot => 2
  | .primrose => 3
  | .idle => 4
  | .armed => 5
  | .run => 6
  | .standby => 7

/-- The roles of a half (Table 12-1), coded as LAUREL.HALF_STAT codes them. -/
inductive Role where
  | boot
  | charge
  | shadow
  | rejoin
  | quarantined
  | absent
  deriving DecidableEq, Repr

def Role.code : Role → Nat
  | .boot => 0
  | .charge => 1
  | .shadow => 2
  | .rejoin => 3
  | .quarantined => 4
  | .absent => 5

/-- What the BOOT steps of Table 16-2 found outside the device's own stored data. -/
structure BootResult where
  /-- Step 1: the ROM check. -/
  romOk : Bool
  /-- Steps 2 and 3 of Half A and Half B. -/
  halfAOk : Bool
  halfBOk : Bool
  /-- Step 4: bit n set where lane n trained and passed its self-check. -/
  laneOk : BitVec 16
  /-- Step 4: the number of the first failing self-test of each lane, 0 if none. -/
  laneTest : List (BitVec 16)
  /-- Step 5. -/
  ringAOk : Bool
  ringBOk : Bool
  /-- Step 6: a flash answers, and its JEDEC ID. -/
  norPresent : Bool
  jedec : BitVec 24
  /-- How long BOOT took, ms. -/
  ms : BitVec 16
  deriving DecidableEq, Repr

/-- One segment of a host-to-device queue (R382). -/
structure Seg where
  first : Bool
  last : Bool
  cmpl : Bool
  seq : BitVec 16
  tag : BitVec 16
  data : List Byte
  deriving DecidableEq, Repr

/-- One item of a device-to-host queue, always one segment (R382). -/
structure DItem where
  seq : BitVec 16
  tag : BitVec 16
  /-- Ring time of posting, ps. -/
  time : Time
  data : List Byte
  deriving DecidableEq, Repr

/-- A completion entry (R385). -/
structure Completion where
  queue : Nat
  status : Nat
  seq : BitVec 16
  tag : BitVec 16
  detail : BitVec 16
  deriving DecidableEq, Repr

/-- A supply of Table 17-7, by its code. -/
abbrev Supply := Fin 6

/-- A flit of a die-to-die segment (chapter 1): type, sequence number, epoch, payload and the CRC-8 over the first 56
bits. -/
structure Flit where
  typ : BitVec 4
  seq : BitVec 4
  epoch : Epoch
  payload : Word
  crc : Byte
  deriving DecidableEq, Repr

/-- The two directions of a segment (Table 1-2). -/
inductive Dir where
  | dn
  | up
  deriving DecidableEq, Repr

/-- The classes of ring frame (Table 13-3), coded as CTL codes them. -/
inductive FrameClass where
  | pace
  | ctrl
  | bulk
  | stroke
  deriving DecidableEq, Repr

def FrameClass.code : FrameClass → Nat
  | .pace => 0
  | .ctrl => 1
  | .bulk => 2
  | .stroke => 3

/-- A ring frame (R347, Table 13-2): its header fields, payload, checks, status character and how it ended. -/
structure Frame where
  cls : FrameClass
  lring : Ring
  turns : BitVec 2
  bcast : Bool
  ack : Bool
  flag : Bool
  port : BitVec 2
  tun : Bool
  qbr : Bool
  enum_ : Bool
  src : BitVec 10
  dst : BitVec 10
  fseq : BitVec 16
  rgen : Epoch
  hops : BitVec 12
  hcrc : Byte
  payload : List Byte
  crc : Word
  fs : Byte
  eofBad : Bool
  deriving DecidableEq, Repr

/-- A completed heartbeat check's evidence (R323): the word, if any, that each path brought to the Laurel logic and to
the other half before the check instant. -/
structure HbArrivals where
  laurel0 : Option Word
  laurel1 : Option Word
  other0 : Option Word
  other1 : Option Word
  deriving DecidableEq, Repr

/-- An antenna fix and attitude as the GNSS baseband delivers it (R303, R304). -/
structure Solution where
  /-- Measurement instant, ns of ring time. -/
  time : BitVec 64
  /-- Antenna easting, northing and up, mm. -/
  e : Word
  n : Word
  u : Word
  hAcc : BitVec 16
  vAcc : BitVec 16
  /-- Velocity east and north, µm/s. -/
  ve : Word
  vn : Word
  qual : BitVec 4
  nsv : Byte
  corrAge : BitVec 16
  refStn : BitVec 12
  deriving DecidableEq, Repr

/-- A converter sample: its sampling instant and code (R181, R216). -/
structure Sample where
  time : Time
  code : BitVec 12
  deriving DecidableEq, Repr

/-- What a ring receiver has seen of its line: no signal; for how many ns it has had no valid ordered set; the code violations
and disparity errors of the last 1 µs, and all of them since the receiver's latest row (R346). -/
structure LineLoss where
  los : Bool
  quiet : Nat
  burst : Nat
  codeErrs : BitVec 16
  deriving DecidableEq, Repr

/-- The legs of a feedback interface's channels from an instant on, bit c for channel c: P against the threshold, the sign of
P − N, and for how many consecutive TCLK cycles the channel's raw level then holds (R276). -/
structure Legs where
  p : BitVec 3
  diff : BitVec 3
  hold : Vector Nat 3
  deriving DecidableEq, Repr

/-- A map word that a read finds wrong in one half: a coverage or a prescription word, corrected or uncorrectable
(R110, R111). -/
structure EccFault where
  half : Half
  presc : Bool
  word : BitVec 19
  unc : Bool
  deriving DecidableEq, Repr

/-- What a time solution adds (R310): the ring time, ps, at which GPS second `sec` begins, the frequency offset in
0.01 ppb, the accuracy in ns and the GPS − UTC offset. -/
structure TimeSol where
  sec : BitVec 40
  at_ : BitVec 64
  freq : Word
  acc : Word
  leap : Byte
  leapValid : Bool
  deriving DecidableEq, Repr

/-- A channel of the pool assigned to a signal by the firmware of the half in charge (R300). -/
structure ChanAssign where
  half : Half
  ch : BitVec 6
  sys : Byte
  sv : Byte
  sig : BitVec 4
  deriving DecidableEq, Repr

/-- The samples of one band in one millisecond: how often each code 0b00 to 0b11 came on I and on Q (R294, R296). -/
structure IfCounts where
  i : Vector (BitVec 16) 4
  q : Vector (BitVec 16) 4
  deriving DecidableEq, Repr

/-- What a channel brings at a measurement instant (R300, R307): its tracking state, and its measurement. -/
structure ChanMeas where
  half : Half
  ch : BitVec 6
  /-- The channel finds its signal: TRACK, else PULL_IN or ACQ by `pull`. -/
  track : Bool
  pull : Bool
  /-- The satellite is below ELEV_MIN. -/
  low : Bool
  /-- FLAGS of the record without EXCLUDED. -/
  flags : BitVec 5
  pr : BitVec 64
  cp : BitVec 64
  dop : Word
  cn0 : BitVec 16
  lock : BitVec 16
  deriving DecidableEq, Repr

/-- The time fields of an observable header (Table 11-4). -/
structure ObsTime where
  week : BitVec 16
  leap : Byte
  leapValid : Bool
  valid : Bool
  tow : BitVec 64
  bias : Word
  deriving DecidableEq, Repr

/-- One copy of the token (R325). -/
structure TokenCopy where
  holder : Half
  epoch : Epoch
  crc : Byte
  deriving DecidableEq, Repr

end Sys2Proof
end

