-- ==== Sys2Proof/Syntax.lean ====
section
/-! DEFINITION. The commands of the block: one constructor for each row of spec/opcode_table.json, in the table's order.
Every command carries `t`, the ring time in picoseconds at which it falls; the other operands are what the row's wire,
pin, flash or host brings. -/
namespace Sys2Proof

/-- The commands and events of the BL1680. -/
inductive Instr where
  /-- All of VDD_CORE, VDD_SRAM, VDDA18, VIO33 and VIO_HN come within range, and the device leaves OFF for RESET with a power-on clear. (R30) -/
  | powerOn (t : Time)
  /-- PORST_N rises: the straps are sampled into SYS.STRAP, the system PLL locks and the device enters BOOT. (R431) -/
  | porstNRise (t : Time) (straps : BitVec 4) (lockUs : BitVec 16)
  /-- PORST_N goes low in any state except OFF: the device enters RESET and every lane goes to safe state. (R30) -/
  | porstNLow (t : Time)
  /-- The BOOT steps complete; the device enters PRIMROSE, or IDLE with a sealed image, then writes the token, sends EPOCH_ADV and starts the root's enumeration. (R432) -/
  | bootExit (t : Time) (r : BootResult)
  /-- A SYS.RUN_CTRL write with SOFT_RESET = 1 resets the device, whatever other bits it sets. (R32) -/
  | softReset (t : Time)
  /-- UNSEAL written in IDLE moves the device to PRIMROSE, with lanes in safe state and RWL fields writable. (R435) -/
  | unseal (t : Time)
  /-- STANDBY written in IDLE moves the device to STANDBY: lanes stop and GNSS runs in bursts. (R444) -/
  | standby (t : Time)
  /-- WAKE written in STANDBY starts powering up the lane blocks and the other baseband. (R445) -/
  | wake (t : Time)
  /-- Once the lane blocks and the other baseband are powered, the device enters IDLE and continuous tracking resumes. (R445) -/
  | wakeComplete (t : Time)
  /-- ARM written in IDLE moves the device to ARMED: outlet travel is zeroed and lanes leave safe state with outlets closed. (R63) -/
  | arm (t : Time)
  /-- DISARM written in ARMED or RUN sends DRAIN to the lanes and moves the device to IDLE. (R175) -/
  | disarm (t : Time)
  /-- In RUN, speed is invalid or pose quality has been below minimum for 2 s: the device returns to ARMED and sends QEND to each lane. (R30) -/
  | speedInvalid (t : Time)
  /-- PFAIL_N falls: SAFE_N goes low on all lanes, outputs freeze, state changes are refused and the recorder flush begins. (R30) -/
  | pfailFall (t : Time)
  /-- 1 ms after PFAIL_N falls, the power-fail flush set closes and the port programs it. (R422) -/
  | pfailSetClose (t : Time)
  /-- The power-fail flush completes and PFAIL_DONE is set. (R422) -/
  | pfailDone (t : Time)
  /-- REFCLK is lost for 2 µs or the system PLL loses lock: the internal oscillator takes over the safety logic, lanes go to safe state and record CLOCK_LOSS is written. (R27) -/
  | clockLoss (t : Time) (pll : Bool)
  /-- A ring SerDes PLL loses lock, and that ring's receiver declares its link down. (R459) -/
  | serdesUnlock (t : Time) (p : Ring)
  /-- A supply has been outside its window for 5 µs: OOR is set and recorded, and supplies 0, 1, 3 and 5 take every lane to safe state. (R460) -/
  | supplyOor (t : Time) (i : Supply) (meas : BitVec 16)
  /-- A supply has been inside its window for 100 µs and is back in range. (R460) -/
  | supplyInRange (t : Time) (i : Supply) (meas : BitVec 16)
  /-- The 1 ms reading of a die temperature sets or clears TEMP_HI against TWARN. (R461) -/
  | tempRead (t : Time) (laneDie : Bool) (temp : BitVec 16)
  /-- A write to SYS.FENCE fences a lane at once by a 1, or unfences it by a 0 in PRIMROSE only. (R446) -/
  | fence (t : Time) (v : Word)
  /-- A lane reports an internal self-check failure and is FENCED with cause 2. (R31) -/
  | laneSelfFail (t : Time) (n : LaneIx) (test : BitVec 16)
  /-- FENCE_THR link faults of a lane fall within one second of ring time while AUTOFENCE = 1, and the spine fences the lane. (R463) -/
  | autofence (t : Time) (n : LaneIx)
  /-- With both halves in service, no half has been in charge for 20 µs, and the spine drives every SAFE_N low. (R24) -/
  | noChargeTimeout (t : Time)
  /-- In single-half operation, DR_MS has passed since the remaining half was declared stopped, and every SAFE_N is driven low. (R3) -/
  | singleHalfStop (t : Time)
  /-- SAFE_N of a lane goes low: the lane cancels every entry and enters safe state within 100 ns, and its engine stops. (R175) -/
  | safeNFall (t : Time) (n : LaneIx)
  /-- SAFE_N of a lane rises: the lane leaves safe state and sends QCLR with cause SAFE_N. (R175) -/
  | safeNRise (t : Time) (n : LaneIx)
  /-- The 1 µs minimum interval expires, and the spine's port or the lane sends an IDLE flit on its segment. (R20) -/
  | idleFlitSend (t : Time) (n : LaneIx) (d : Dir)
  /-- An IDLE link flit arrives and its acknowledgement releases the sender's held flits. (R491) -/
  | idleFlit (t : Time) (n : LaneIx) (d : Dir) (f : Flit)
  /-- A PORT_IDLE flit arrives at a lane, carrying an acknowledgement and restarting its 4 µs count without clearing LOST. (R329) -/
  | portIdle (t : Time) (n : LaneIx) (f : Flit)
  /-- A NAK flit arrives, and the sender resends from the flit named, counting link faults after three failed resends. (R491) -/
  | nak (t : Time) (n : LaneIx) (d : Dir) (f : Flit)
  /-- No acknowledgement has advanced for 4 µs while flits are held, and the sender resends from the oldest held flit. (R491) -/
  | resendTimeout (t : Time) (n : LaneIx) (d : Dir)
  /-- A lane has accepted no DN flit for 4 µs: it sets LOST and goes on by dead reckoning. (R22) -/
  | linkLost (t : Time) (n : LaneIx)
  /-- A lane's UP queue reaches 992 flits, and the lane expires its dead reckoning at once. (R492) -/
  | upQueueHigh (t : Time) (n : LaneIx)
  /-- An EVT_A and EVT_B pair arrives at a lane, which checks and admits the event or rejects it, then answers EVT_ACK or EVT_FULL. (R155) -/
  | evt (t : Time) (n : LaneIx) (a : Flit) (b : Option Flit)
  /-- A lane receives the 17 flits of a travel update and stores T_k, s_k and t_k of each outlet. (R158) -/
  | travelUpdate (t : Time) (n : LaneIx) (fs : List Flit)
  /-- A lane receives EPOCH_ADV and adopts the new epoch if both copies agree and it is ahead. (R172) -/
  | epochAdv (t : Time) (n : LaneIx) (f : Flit)
  /-- A lane receives QEND and queues an implicit OFF for every open outlet that has no queued OFF. (R174) -/
  | qend (t : Time) (n : LaneIx) (f : Flit)
  /-- A lane receives DRAIN: it admits no new event, treats open outlets as at QEND and starts its drain. (R175) -/
  | drain (t : Time) (n : LaneIx) (f : Flit)
  /-- DRAIN_MS after DRAIN, the lane closes its outlets, cancels its entries, enters safe state and sends QCLR with cause DRAIN_END. (R175) -/
  | drainEnd (t : Time) (n : LaneIx)
  /-- No travel update has been accepted for DR_MS: the lane closes every outlet, cancels every entry and sets DR_EXPIRED. (R170) -/
  | drExpired (t : Time) (n : LaneIx)
  /-- A lane receives an SP_DEM flit and, if its epoch is accepted, keeps the demand value as the set-point source. (R256) -/
  | spDem (t : Time) (n : LaneIx) (f : Flit)
  /-- The spine receives EVT_ACK for an event that the lane admitted or found to be a duplicate. (R157) -/
  | evtAck (t : Time) (n : LaneIx) (f : Flit)
  /-- The spine receives EVT_FULL, and the half in charge holds the event for a later offer. (R168) -/
  | evtFull (t : Time) (n : LaneIx) (f : Flit)
  /-- At each re-aim instant, the half in charge re-offers held events to their lanes, oldest first. (R168) -/
  | holdReoffer (t : Time)
  /-- The spine receives FIRE_A and FIRE_B, and the Footprint Engine takes the firing travel X_f from them. (R164) -/
  | fireReport (t : Time) (n : LaneIx) (fs : List Flit)
  /-- The spine receives QCLR: the named outlets become commanded OFF, and their deferred and held events are discarded. (R171) -/
  | qclr (t : Time) (n : LaneIx) (f : Flit)
  /-- The spine receives MOTION_A and MOTION_B, and the Footprint Engine uses the reported motion for confirmation and painting. (R219) -/
  | motion (t : Time) (n : LaneIx) (fs : List Flit)
  /-- The spine receives a DLY flit with a new published delay, for use from the next tick. (R227) -/
  | dly (t : Time) (n : LaneIx) (f : Flit)
  /-- The spine receives PEAK_RPT for a first opening that waited, and the wait is added once to the published d_on. (R196) -/
  | peakRpt (t : Time) (n : LaneIx) (f : Flit)
  /-- At a TMARK edge, the lane latches travel and entries, computes the firing cycle of each waiting entry and arms those due. (R162) -/
  | reaim (t : Time) (n : LaneIx)
  /-- An armed entry's comparator reaches its firing cycle: the action goes to the outlet or the engine, and FIRE_A and FIRE_B go out on UP. (R164) -/
  | fire (t : Time) (n : LaneIx) (sm : List Sample)
  /-- At pose instant t_k the propagator forms pose word k from the inputs before the cutoff, and publishes it and sends it in a PACE frame. (R44) -/
  | poseWord (t : Time) (hitch : List (BitVec 12)) (peer : Word)
  /-- At t_k + 30 µs, travel and speed of every enabled outlet are updated and sent to the lanes as travel updates. (R62) -/
  | travelCompute (t : Time)
  /-- A PACE pose word arrives from the ring and is taken as pose word k if it matches and is in time, or counted as stale. (R51) -/
  | ringPoseWord (t : Time) (p : Ring) (f : Frame)
  /-- The acceptance time passes without a ring pose word, and the device extrapolates its previous word. (R51) -/
  | ringMiss (t : Time)
  /-- An edge on GSA or GSB passes the width test and is accepted, or the pulse is rejected as a glitch. (R52) -/
  | gsEdge (t : Time) (b : Bool) (rise : Bool) (stamp : Time)
  /-- An IMU_INT edge stamps the sample time and starts the SPI burst, or is counted as an overrun. (R73) -/
  | imuInt (t : Time) (rise : Bool)
  /-- The SPI burst completes and the gyro and accelerometer words are mapped and scaled. (R73) -/
  | imuBurstDone (t : Time) (bytes : List Byte)
  /-- No IMU sample has been read for 5 periods: LOST is set and IMU_OK clears. (R74) -/
  | imuLost (t : Time)
  /-- No solution with QUAL ≥ SPS has come for two measurement intervals, and the propagator starts coasting. (R48) -/
  | solutionLost (t : Time)
  /-- The coast has lasted COAST_MS, and QUAL becomes DR. (R48) -/
  | coastExpired (t : Time)
  /-- 1,000 ms have passed without a solution, and record GNSS_LOST is written. (R48) -/
  | gnssLost (t : Time) (h : Half)
  /-- Two speed sources have disagreed for DIS_MS: SPD_DISAGREE is set and recorded, and with three sources the outlier is invalidated. (R56) -/
  | spdDisagree (t : Time)
  /-- With no valid speed source, IMU_COAST_MS passes, and SPD_VALID becomes 0 with SPEED held. (R57) -/
  | imuCoastEnd (t : Time)
  /-- The hitch sensor and the model have disagreed for 200 ms, and the model is used. (R71) -/
  | hitchDisagree (t : Time)
  /-- A half delivers the solution of a measurement instant to its pose propagator and its time model. (R303) -/
  | gnssSolution (t : Time) (h : Half) (sol : Solution) (ts : Option TimeSol)
  /-- At a measurement instant, the channels produce measurements, the assignment epoch may advance, and observables go to Q13. (R303) -/
  | measurement (t : Time) (ms : List ChanMeas) (asg : List ChanAssign) (o : ObsTime)
  /-- The parser takes an RTCM 3.x transport frame from Q2 and checks, accepts or discards the message. (R305) -/
  | rtcmFrame (t : Time)
  /-- Every 26,000 REFCLK cycles, the GIF_CLK count is checked, and a bad count discards that millisecond. (R295) -/
  | gifClkCheck (t : Time) (count : BitVec 17)
  /-- At the end of each millisecond, GIF_AGC duty is updated from the share of magnitude-3 samples. (R296) -/
  | agcUpdate (t : Time) (l1 l5 : IfCounts)
  /-- In STANDBY, a whole second of ring time starts a 60 ms tracking burst. (R308) -/
  | burstStart (t : Time)
  /-- The burst ends, and channels go to BURST_HOLD. (R308) -/
  | burstEnd (t : Time)
  /-- At I_S − 200 ms, the time-pulse edge of second S is fixed, with slew or step applied, and NEXT_READY is set. (R311) -/
  | pulsePrepare (t : Time)
  /-- The prepared TPULSE edge is issued. (R310) -/
  | tpulse (t : Time)
  /-- A periodic sub-pulse of TPULSE_B is issued. (R312) -/
  | tpulseB (t : Time)
  /-- No time solution for max(1,000 ms, 2 intervals): the time validity enters HOLDOVER and the model freezes. (R313) -/
  | timeHoldover (t : Time)
  /-- The holdover reaches HOLD_S, and the validity becomes EXPIRED, stopping pulses under STOP_EXP. (R313) -/
  | timeExpired (t : Time)
  /-- At τ_m, the tick begins: the paint set closes and the engine takes its pose word. (R94) -/
  | footprintTick (t : Time) (ecc : List EccFault) (ain0 : List Sample) (ain1 : List Sample)
  /-- An admitted tile item takes effect at the start of the next tick, after checks 4 and 5 are repeated, and retires with its completion. (R92) -/
  | tileEffect (t : Time) (cov : Bool)
  /-- At τ_m + 50 µs, the wanted set is formed and slots change state, with requests and evictions queued. (R94) -/
  | demandPhase (t : Time)
  /-- At τ_m + 80 µs, each outlet's window is sampled, its ON, OFF and rate events are decided and posted within the bucket. (R130) -/
  | decisionPhase (t : Time) (ecc : List EccFault) (dur : BitVec 16)
  /-- At τ_m + 180 µs, strokes of the tick are formed and sent, demand and status are published, and SP_DEM flits are sent. (R143) -/
  | strokeForm (t : Time)
  /-- At τ_m + 190 µs, the halves exchange and compare decision and slot digests. (R147) -/
  | decisionDigest (t : Time) (dec slots : Word)
  /-- After the KAT ticks following a disagreement, identification names the faulty half or finds it undetermined, and R335 acts. (R334) -/
  | xchkIdentify (t : Time) (okA : Bool) (okB : Bool)
  /-- 60 s without a mismatch clear SUSPECT. (R335) -/
  | suspectClear (t : Time)
  /-- No confirmed opening within CONF_TMO_MS after an ON fired: NO_MOTION is set and nothing is painted. (R145) -/
  | noMotion (t : Time) (j : GOut)
  /-- RATE.TBL_CTRL.SWAP written 1 makes the inactive rate-table banks active at the next τ_m. (R142) -/
  | rateSwap (t : Time)
  /-- A tile item arrives on Q0 or Q1 and is admitted, or discarded with its completion status. (R91) -/
  | tileItem (t : Time) (cov : Bool)
  /-- A queued tile request is posted on Q9 when credit and the per-tick limit allow. (R96) -/
  | tileRequestPost (t : Time)
  /-- RETRY_MS has passed since a request with a plane still missing, and the request is queued again. (R95) -/
  | requestRetry (t : Time) (slot : BitVec 11)
  /-- A waiting evicted coverage item is posted on Q8 as credit returns. (R98) -/
  | evictPost (t : Time)
  /-- A waiting spill item is posted on Q14 as credit returns. (R109) -/
  | spillPost (t : Time)
  /-- A STROKE frame is delivered to both halves, which accept it and tag its tile parts, or discard it and count it. (R106) -/
  | strokeFrame (t : Time) (p : Ring) (f : Frame)
  /-- The scrubber reads the next map word, corrects a single-bit error or repairs an uncorrectable one. (R110) -/
  | scrub (t : Time) (ecc : List EccFault)
  /-- MAP.WIN_CTRL.FLUSH written 1 sends every occupied slot to EVICTING, unless refused in RUN. (R114) -/
  | flush (t : Time)
  /-- MAP.WIN_CTRL.ADV_JOB written 1 advances the job epoch when every slot is FREE, or is refused. (R114) -/
  | advJob (t : Time)
  /-- A waiting peak request is granted, and the outlet enters its peak phase. (R193) -/
  | peakGrant (t : Time) (n : LaneIx) (sm : List Sample)
  /-- A peak request has waited PEAK_WAIT_US: it sets PEAK_LATE and stays queued, or it is skipped under SKIP. (R195) -/
  | peakWaitTimeout (t : Time) (n : LaneIx) (k : OutIx)
  /-- An unblanked sample reaches the target code of a CURRENT phase, and the next phase is entered. (R186) -/
  | phaseEndCurrent (t : Time) (n : LaneIx) (k : OutIx) (sm : List Sample)
  /-- DUR_US after entry, a TIME phase ends and the next phase is entered. (R186) -/
  | phaseEndTime (t : Time) (n : LaneIx) (k : OutIx) (sm : List Sample)
  /-- A CURRENT phase reaches TMAX_US without its target: it ends with PEAK_TMO, and OPEN_LOAD where the current stayed low. (R186) -/
  | peakTmo (t : Time) (n : LaneIx) (k : OutIx) (sm : List Sample)
  /-- A sample crosses the upper or lower chop code, and the LG turns off into a chop decay or back on. (R187) -/
  | chopToggle (t : Time) (n : LaneIx) (k : OutIx) (sm : List Sample)
  /-- A sample reaches the new lower code, the step-down decay ends and the new phase regulates. (R188) -/
  | stepDownEnd (t : Time) (n : LaneIx) (k : OutIx) (sm : List Sample)
  /-- 8 consecutive samples below the decay-end code end a turn-off decay; the outlet goes to CLOSED or PULSE_OFF. (R190) -/
  | decayEnd (t : Time) (n : LaneIx) (k : OutIx) (sm : List Sample)
  /-- A turn-off decay reaches DECAY_TMAX_US and ends with DECAY_TMO set. (R190) -/
  | decayTmo (t : Time) (n : LaneIx) (k : OutIx) (sm : List Sample)
  /-- OC_N consecutive samples at or above the over-current code put the outlet in FAULT. (R208) -/
  | overCurrent (t : Time) (n : LaneIx) (k : OutIx) (sm : List Sample)
  /-- RETRY_MS after a fault, with retries left and ON in force, the outlet restarts as on ON. (R206) -/
  | faultRetry (t : Time) (n : LaneIx) (k : OutIx) (sm : List Sample)
  /-- A write of 1 to a bit of OUTLn.FAULT_CLR returns that FAULT outlet to CLOSED. (R206) -/
  | faultClr (t : Time) (n : LaneIx) (v : Byte)
  /-- VBST reaches VBST_OV, and FAST decays are served as CLAMP until it falls below VBST_OV − VBST_HYST. (R192) -/
  | clampDemote (t : Time) (n : LaneIx) (vb : BitVec 12) (va : BitVec 12)
  /-- A VBST result falls below VBST_MIN, and boost peaks are handled under BOOST_NR until VBST is ready again. (R198) -/
  | vbstNotReady (t : Time) (n : LaneIx) (vb : BitVec 12) (va : BitVec 12)
  /-- A spray outlet reaches its grid opening o_p and starts its next pulse from PULSE_OFF. (R199) -/
  | gridOpening (t : Time) (n : LaneIx) (k : OutIx) (sm : List Sample)
  /-- A spray pulse reaches its close instant and starts a turn-off decay. (R200) -/
  | pulseClose (t : Time) (n : LaneIx) (k : OutIx) (sm : List Sample)
  /-- A PROP period ends, and the sequencer computes the drive of the next period. (R204) -/
  | propPeriod (t : Time) (n : LaneIx) (k : OutIx) (sm : List Sample)
  /-- The opening search window starts, and the dip tracker is cleared. (R218) -/
  | openWindowStart (t : Time) (n : LaneIx) (k : OutIx)
  /-- The opening window ends without a dip: NOT_FOUND, with an ASSUMED report where configured. (R220) -/
  | openWindowEnd (t : Time) (n : LaneIx) (k : OutIx)
  /-- The closing search window of O6 or O7 starts. (R218) -/
  | closeWindowStart (t : Time) (n : LaneIx) (k : OutIx)
  /-- The closing window ends without a kink: NOT_FOUND, and the closing is reported ESTIMATED. (R218) -/
  | closeWindowEnd (t : Time) (n : LaneIx) (k : OutIx)
  /-- A current dip is confirmed: the opening is reported and learned if eligible. (R215) -/
  | dipConfirmed (t : Time) (n : LaneIx) (k : OutIx) (sm : List Sample)
  /-- The drain-voltage kink is found, and the closing is reported MEASURED and learned if eligible. (R217) -/
  | kinkFound (t : Time) (n : LaneIx) (k : OutIx) (vs : List Sample)
  /-- REJ_MAX NOT_FOUND windows in a row start the relearning of a delay quantity. (R223) -/
  | relearn (t : Time) (n : LaneIx) (k : OutIx) (off : Bool)
  /-- STUCK_N consecutive NOT_FOUND openings write record VALVE_STUCK. (R229) -/
  | valveStuck (t : Time) (n : LaneIx) (k : OutIx)
  /-- STUCK_N consecutive NOT_FOUND closings on O6 or O7 write record CLOSE_FAIL. (R229) -/
  | closeFail (t : Time) (n : LaneIx) (k : OutIx)
  /-- A generator's period ends: closed shadow pairs transfer, j advances and the new period starts. (R239) -/
  | reload (t : Time) (n : LaneIx) (g : Fin 4)
  /-- A host write of Gg_CMP lands in the shadow and, under AUTO_COMMIT, closes the pair, or is ignored under LOOP. (R238) -/
  | gCmpWrite (t : Time) (n : LaneIx) (g : Fin 4) (v : Word)
  /-- A host write of Gg_PER lands in the shadow, holding it, and may set ORDER. (R240) -/
  | gPerWrite (t : Time) (n : LaneIx) (g : Fin 4) (v : Word)
  /-- A write of 1 to a bit of PWMGn.COMMIT closes the shadow pair of that generator. (R238) -/
  | commit (t : Time) (n : LaneIx) (v : BitVec 4)
  /-- A host write of Gg_MODE takes effect at the next reload of the generator. (R241) -/
  | gModeWrite (t : Time) (n : LaneIx) (g : Fin 4) (v : Word)
  /-- Gg_CFG.EN set to 1 starts the generator at u = 0 and j = 0 with the shadow values active. (R246) -/
  | generatorEnable (t : Time) (n : LaneIx) (g : Fin 4)
  /-- A sync pulse from PWMSYNC_IN or an OWN source reaches the lanes, and accepting generators trim or reload at t_s + 4. (R245) -/
  | syncPulse (t : Time) (src : Option LaneIx)
  /-- An accepted trigger is an L0 sample: due loops compute and the compare set is written, or the trigger is refused as an overrun. (R251) -/
  | loopTrigger (t : Time) (n : LaneIx) (ain : List Sample) (isns : List (BitVec 12))
  /-- The filtered Hall state changes: counts are made or HALL_BAD and HALL_SKIP are set, and a compare set follows 2.5 µs later. (R280) -/
  | hallChange (t : Time) (n : LaneIx) (x : Legs)
  /-- With the Hall state lost, the interval passes and commutation dead-reckons one sector, stopping the motor after DR_MAX steps. (R268) -/
  | commDrStep (t : Time) (n : LaneIx)
  /-- A write of 1 to ENG_CTRL.SWAP bit ℓ makes the other coefficient bank of that loop active from its next sample. (R263) -/
  | loopSwap (t : Time) (n : LaneIx) (v : BitVec 3)
  /-- A write of 1 to ENG_CTRL.RESTART ends a SAFE stop so that the engine may start again. (R268) -/
  | restart (t : Time) (n : LaneIx)
  /-- A write to COEF_WIN writes a coefficient into the selected bank, or is refused for the live bank. (R264) -/
  | coefWrite (t : Time) (n : LaneIx) (i : Fin 30) (v : Word)
  /-- A filtered edge of A or B in QUAD mode makes a count through the hysteresis, or an illegal transition. (R279) -/
  | quadEdge (t : Time) (n : LaneIx) (x : Legs)
  /-- An accepted edge of A in PULSE mode moves the position by its sign. (R285) -/
  | pulseEdge (t : Time) (n : LaneIx) (x : Legs)
  /-- An index event forms the index error, and flags it or corrects the position under POLICY. (R282) -/
  | index (t : Time) (n : LaneIx) (x : Legs)
  /-- Both legs of a differential channel read the same level for more than WIRE_CYC cycles, and wire disagreement begins. (R277) -/
  | wireDisagree (t : Time) (n : LaneIx) (c : Fin 3) (hold : Nat)
  /-- At an update instant, the interface computes and publishes speed, frequency and position. (R284) -/
  | speedUpdate (t : Time) (n : LaneIx)
  /-- A write of FBKn.POS_LOAD sets c and p and clears PEND. (R287) -/
  | posLoad (t : Time) (n : LaneIx) (v : Word)
  /-- With e_o ≠ e_t and MINT cycles passed, the emulated encoder output moves one step. (R290) -/
  | emStep (t : Time) (n : LaneIx)
  /-- A half in CHARGE or SHADOW sends heartbeat k on its enabled paths. (R322) -/
  | heartbeatSend (t : Time) (h : Half)
  /-- At a check instant, each observer finds heartbeat k received or missed. (R323) -/
  | heartbeatCheck (t : Time) (h : Half) (arr : HbArrivals)
  /-- The fourth consecutive missed heartbeat, or a RESIGN heartbeat, declares the other half's heartbeat lost. (R323) -/
  | heartbeatLoss (t : Time) (h : Half)
  /-- A half detects a self-fault, sets RESIGN and stops posting within 100 ns. (R322) -/
  | selfFault (t : Time) (h : Half)
  /-- A token copy fails its CRC or is outvoted: all copies are rewritten, or the token becomes invalid. (R325) -/
  | tokenCopyError (t : Time) (c0 : TokenCopy) (c1 : TokenCopy) (c2 : TokenCopy)
  /-- A half claims the token, and the Laurel logic grants or refuses it; a grant starts the new holder's driving. (R327) -/
  | claim (t : Time)
  /-- 4 µs after an equal-epoch tie, the token is written to Half A and Half B becomes SHADOW. (R328) -/
  | conflictEnd (t : Time)
  /-- At the first TMARK at least 2 µs after a grant, the new holder sends EPOCH_ADV, the travel update and re-posts. (R330) -/
  | takeover (t : Time)
  /-- LAUREL_CTRL.HANDOVER written 1 makes the holder resign to the shadow, or is refused. (R332) -/
  | handover (t : Time)
  /-- LAUREL_CTRL.KAT_NOW written 1 runs the known-answer test in both halves. (R336) -/
  | katNow (t : Time) (okA : Bool) (okB : Bool)
  /-- Every KAT_S seconds each half in service runs the known-answer test. (R336) -/
  | katPeriodic (t : Time) (okA : Bool) (okB : Bool)
  /-- A write of REJOIN_A or REJOIN_B resets and boots a QUARANTINED half, or is refused. (R337) -/
  | rejoin (t : Time) (h : Half)
  /-- The rejoining half completes boot, KAT and state copy, and enters SHADOW at the next τ_m. (R337) -/
  | rejoinDone (t : Time) (h : Half) (ok : Bool)
  /-- A ring receiver declares its link down, sets LINK_DOWN and sends RFAULT. (R361) -/
  | linkDown (t : Time) (p : Ring) (x : LineLoss)
  /-- A ring link is up again after comma alignment and 64 valid ordered sets. (R346) -/
  | linkUp (t : Time) (p : Ring) (sets : Nat)
  /-- Three consecutive RFAULT ordered sets make the node treat that hop as down. (R361) -/
  | rfault (t : Time) (p : Ring)
  /-- A hop has been down for WRAP_HOLD_US, and the node wraps at the end of the frame in progress. (R362) -/
  | wrap (t : Time) (p : Ring)
  /-- A wrapped hop has been up for UNWRAP_US, and both ends unwrap and send TOPO. (R364) -/
  | unwrap (t : Time) (p : Ring) (linkOk : Bool)
  /-- A node receives a later TOPO, adopts and relays it, and starts its go-backs. (R363) -/
  | topo (t : Time) (p : Ring) (gen : Epoch) (orig : BitVec 10)
  /-- A frame arrives at a ring port, which forwards, strips, discards or copies it. (R349) -/
  | frameRx (t : Time) (p : Ring) (f : Frame)
  /-- The transit buffer empties, or an own frame has waited 20 µs, and the node sends its next own frame. (R350) -/
  | frameSend (t : Time) (p : Ring)
  /-- RING_CTRL.ENUM written 1 at the root starts a FULL enumeration, or is refused. (R352) -/
  | enum (t : Time)
  /-- RING_CTRL.ENUM_JOIN written 1 makes the root send a JOIN. (R353) -/
  | enumJoin (t : Time)
  /-- A node receives an ENUM frame in MODE FULL, takes NEXT as its ID and forwards it, or the root closes the enumeration. (R352) -/
  | enumFull (t : Time) (p : Ring) (f : Frame)
  /-- A node receives DONE, sets ASSIGNED and N_NODES and joins the ring. (R352) -/
  | enumDone (t : Time) (p : Ring) (f : Frame)
  /-- An unassigned node receives JOIN and takes the lowest free ID. (R353) -/
  | join (t : Time) (p : Ring) (f : Frame)
  /-- ENUM has not returned after 10 ms: the root tries again, or sets ENUM_FAIL after three attempts. (R352) -/
  | enumRetry (t : Time)
  /-- Every PRES_MS, an assigned node sends a PRESENCE frame. (R354) -/
  | presenceSend (t : Time)
  /-- A PRESENCE frame arrives and marks its sender present. (R354) -/
  | presence (t : Time) (p : Ring) (f : Frame)
  /-- A node has sent nothing for 3 × PRES_MS and is marked absent. (R354) -/
  | nodeAbsent (t : Time) (node : BitVec 10)
  /-- A CTRL or BULK stream frame arrives and is delivered if expected, discarded or NAKed. (R355) -/
  | ringDataFrame (t : Time) (p : Ring) (f : Frame)
  /-- An ACK frame arrives, advancing the stream's acknowledged frames and credit. (R355) -/
  | ackFrame (t : Time) (p : Ring) (f : Frame)
  /-- A NAK frame arrives, and the sender goes back from the first unacknowledged frame. (R355) -/
  | nakFrame (t : Time) (p : Ring) (f : Frame)
  /-- ACK_TMO_US passes without progress, and the sender goes back or abandons the stream. (R355) -/
  | ackTimeout (t : Time) (dst : BitVec 10) (cls : FrameClass)
  /-- A sender's STROKE frame returns and counts as delivered or as MISS, or its return times out, causing a go-back. (R356) -/
  | strokeReturn (t : Time) (p : Ring) (f : Option Frame)
  /-- A ring item from Q16 to Q23 is taken and sent as a frame, or completes BAD_ITEM. (R366) -/
  | ringItemEgress (t : Time) (q : Fin 32)
  /-- A queue-bridge segment from PROXY_NODE arrives and is reassembled into its host-to-device queue. (R367) -/
  | qbrSegment (t : Time) (p : Ring) (f : Frame)
  /-- RTUN.TUN_CTRL.GO written sends one tunnel request to TUN_NODE, or is refused while BUSY. (R368) -/
  | tunGo (t : Time) (v : Word)
  /-- A tunnel request arrives, and the target performs the words and answers. (R368) -/
  | tunRequest (t : Time) (p : Ring) (f : Frame)
  /-- A tunnel response arrives, completing the request with its STATUS. (R368) -/
  | tunResponse (t : Time) (p : Ring) (f : Frame)
  /-- No tunnel response within TMO_MS, and the request ends with TIMEOUT. (R368) -/
  | tunTimeout (t : Time)
  /-- After each multiple of 10,000 ns of ring time, a node sends SYNC on each live transmitter. (R358) -/
  | syncSend (t : Time) (p : Ring)
  /-- A SYNC from the source arrives, and the node trims, steps or flags its ring time and updates RT_LOCK. (R359) -/
  | sync (t : Time) (p : Ring) (data : BitVec 48)
  /-- 100 µs without SYNC: RT_LOCK clears and the node enters RT_HOLD. (R359) -/
  | rtHold (t : Time)
  /-- Every 1 ms, a port sends DREQ to measure its hop delay. (R357) -/
  | delayMeasure (t : Time) (p : Ring)
  /-- A DREQ arrives and is answered with DRESP. (R357) -/
  | dreq (t : Time) (p : Ring) (seq : BitVec 16) (t2 : Time)
  /-- A DRESP arrives, and the hop delay is computed. (R357) -/
  | dresp (t : Time) (p : Ring) (seq : BitVec 16) (turn : Word)
  /-- A host RD burst reads incrementing words, with wait bytes, start byte and CRC-8. (R378) -/
  | rd (t : Time) (addr : BitVec 24) (count : Fin 64) (ready : Bool)
  /-- A host RDF burst reads every word from one address. (R378) -/
  | rdf (t : Time) (addr : BitVec 24) (count : Fin 64) (ready : Bool)
  /-- A host WR burst is checked and applied word by word in address order, then answered with an ACK byte. (R377) -/
  | wr (t : Time) (addr : BitVec 24) (data : List Word) (crc : Option Byte)
  /-- A host WRF burst writes every word to one address and is answered with an ACK byte. (R377) -/
  | wrf (t : Time) (addr : BitVec 24) (data : List Word) (crc : Option Byte)
  /-- A host pushes a segment to a host-to-device queue, which is checked and joins the queue or is refused. (R384) -/
  | qpush (t : Time) (sel : Byte) (desc : List Byte) (data : List Byte) (crc : Option Word)
  /-- A host pops a device-to-host queue, removing the acknowledged head and returning the next. (R387) -/
  | qpop (t : Time) (sel : Byte) (ackSeq : BitVec 16)
  /-- A host removes ACK_N completions and reads up to MAX_N more. (R386) -/
  | cmpl (t : Time) (ackN : Byte) (maxN : Byte)
  /-- An unknown command byte makes the port ignore the lines until HSPI_CS_N rises, and is counted. (R374) -/
  | unknownCommand (t : Time) (code : Byte)
  /-- A write of 1 to a bit of HOSTQ.Q_FLUSH empties that queue. (R389) -/
  | qFlush (t : Time) (v : Word)
  /-- The head item of a device-to-host queue reaches AGE_MS, and its QIRQ_RAW bit sets. (R388) -/
  | queueAge (t : Time) (q : Fin 32)
  /-- HOLDOFF_US after HIRQ_N rose, it falls again while a summary bit is set. (R380) -/
  | hirqHoldoffEnd (t : Time)
  /-- A Q3 item is applied record by record as writes and completes OK, LOCKED or BAD_ITEM. (R390) -/
  | bulkConfig (t : Time)
  /-- A write to Mk_TX adds a word to the mailbox transmit FIFO, or is ignored and counted. (R391) -/
  | mkTx (t : Time) (k : Fin 8) (w : Word)
  /-- A write of Mk_DB.DB = 1 marks the FIFO words as one message and sets TX_PEND. (R391) -/
  | db (t : Time) (k : Fin 8)
  /-- The receiving half takes the last word of a message: TX_PEND clears and EMPTY sets. (R391) -/
  | mailboxTaken (t : Time) (k : Fin 8)
  /-- A half fills a mailbox receive FIFO and rings its doorbell, setting RX_READY and DB_IN. (R392) -/
  | mailboxReply (t : Time) (k : Fin 8)
  /-- A read of Mk_RX removes one word from the receive FIFO, or counts an underrun. (R392) -/
  | mkRx (t : Time) (k : Fin 8)
  /-- Resident command GET_INFO returns ROM_ID, patch version, member and node, and the NOR JEDEC ID. (R398) -/
  | getInfo (t : Time) (k : Fin 8)
  /-- Resident command ECHO returns its argument words. (R398) -/
  | echo (t : Time) (k : Fin 8)
  /-- Resident command NOR_READ starts reading a NOR range to Q11. (R398) -/
  | norRead (t : Time) (k : Fin 8)
  /-- Resident command NOR_ERASE starts erasing a NOR range, unless protected. (R398) -/
  | norErase (t : Time) (k : Fin 8)
  /-- Resident command NOR_WRITE starts programming a NOR range from a Q4 payload. (R398) -/
  | norWrite (t : Time) (k : Fin 8)
  /-- Resident command NOR_CRC starts computing the CRC-32 of a NOR range. (R398) -/
  | norCrc (t : Time) (k : Fin 8)
  /-- Resident command DIR_SET writes NOR_MODE and the log region into the directory. (R398) -/
  | dirSet (t : Time) (k : Fin 8)
  /-- Resident command PATCH_STAGE starts writing and checking a patch image in the inactive slot. (R403) -/
  | patchStage (t : Time) (k : Fin 8)
  /-- Resident command PATCH_SELECT re-authenticates a slot and makes it active, optionally raising PATCH_MIN. (R398) -/
  | patchSelect (t : Time) (k : Fin 8)
  /-- Resident command CFG_SAVE starts writing the sealed configuration into the inactive slot. (R398) -/
  | cfgSave (t : Time) (k : Fin 8)
  /-- Resident command CFG_CLEAR clears the saved configuration. (R398) -/
  | cfgClear (t : Time) (k : Fin 8)
  /-- Resident command LOG_READ starts posting records of a log zone or volatile copy to Q10. (R424) -/
  | logRead (t : Time) (k : Fin 8)
  /-- Resident command ABORT stops the named long command at its next boundary. (R396) -/
  | abort (t : Time) (k : Fin 8)
  /-- Resident command KEY_REVOKE fuses the revocation of a key. (R398) -/
  | keyRevoke (t : Time) (k : Fin 8)
  /-- A long command finishes and sends its final response with its status. (R396) -/
  | longCommandEnd (t : Time)
  /-- 1 s passes without a new payload segment, and the command ends with NO_PAYLOAD. (R397) -/
  | payloadTimeout (t : Time)
  /-- A NOR page program or erase completes, as polled on the status register. (R400) -/
  | norOpDone (t : Time)
  /-- A NOR erase or program has not finished within OP_TMO_MS, and the operation ends with NOR_ERR. (R400) -/
  | norTimeout (t : Time)
  /-- A block hands Yew a record, which is admitted and placed in the ring, or suppressed or dropped. (R412) -/
  | record (t : Time) (code : BitVec 10) (page : BitVec 12) (h : Half) (a0 : Word) (a1 : Word) (a2 : Word)
  /-- At each whole millisecond, every code's bucket gains RATE units. (R412) -/
  | bucketRefill (t : Time)
  /-- Eight eligible records wait or the oldest has waited FLUSH_MS, and the half in charge flushes to NOR. (R417) -/
  | yewFlush (t : Time)
  /-- A record becomes eligible and is posted to Q10, or skipped without credit. (R423) -/
  | streamPost (t : Time)
  /-- A write of the expected CRC to SYS.SEAL in PRIMROSE snapshots the configuration and starts the seal. (R437) -/
  | seal (t : Time) (crc : Word)
  /-- The seal ends PASSED, entering IDLE and applying R439, or FAILED, staying in PRIMROSE. (R437) -/
  | sealDone (t : Time) (retrain : BitVec 16)
  /-- A write of PG_CTRL.EN = 1 restarts the page's block and clears DRAINED. (R450) -/
  | pageEnable (t : Time) (page : BitVec 12)
  /-- A write of PG_CTRL.EN = 0 or DRAIN = 1 starts the block's drain, or is refused on other pages. (R450) -/
  | pageDrain (t : Time) (page : BitVec 12) (drain : Bool)
  /-- A write of PG_CTRL.SOFT_RST = 1 returns the page's events, counters and errors to reset, or is refused. (R451) -/
  | softRst (t : Time) (page : BitVec 12)
  /-- A write of PG_CTRL.FREEZE takes or ends a snapshot of the page's runtime registers. (R452) -/
  | freeze (t : Time) (page : BitVec 12) (on : Bool)
  /-- A write to a register without a row of its own acts by its access code, recording LOCKED_WRITE or UNDEF_WRITE where due. (R11) -/
  | registerWrite (t : Time) (addr : BitVec 24) (v : Word)
  /-- A read of an RC field returns its value and clears it. (R11) -/
  | rcRead (t : Time) (addr : BitVec 24)
  /-- A read of POSE_CUR0 latches POSE_CUR1 to POSE_CUR15 of the same pose word. (R78) -/
  | poseCur0 (t : Time)
  /-- A read of GEOM_TRV_LO latches the high travel bits, speed and residue of the selected outlet. (R66) -/
  | geomTrvLo (t : Time)
  /-- A read of MAP.SLOT_STAT latches SLOT_COL and SLOT_ROW of the selected slot. (R118) -/
  | slotStat (t : Time)
  /-- A read of FPE.OUT_LEAD latches the other per-outlet values of the selected outlet. (R150) -/
  | outLead (t : Time)
  /-- A read of LANEn.SQ_E0 latches the other words of the selected queue entry. (R179) -/
  | sqE0 (t : Time) (n : LaneIx)
  /-- A read of LANEn.LTRV_LO latches LTRV_HI and LTRV_SPD of the selected outlet. (R179) -/
  | ltrvLo (t : Time) (n : LaneIx)
  /-- A read of Gg_PER_ACT latches Gg_CMP_ACT. (R249) -/
  | gPerAct (t : Time) (n : LaneIx) (g : Fin 4)
  /-- A read of FBKn.POS latches SPD and FREQ of the same update. (R293) -/
  | fbkPos (t : Time) (n : LaneIx)
  /-- A read of SOL_TIME_LO latches the other solution registers of the same solution. (R304) -/
  | solTimeLo (t : Time) (h : Half)
  /-- A read of CH_STAT latches CH_MEAS of the selected channel. (R319) -/
  | chStat (t : Time) (h : Half)
  /-- A read of TP_NEXT_RT_LO latches TP_NEXT_RT_HI. (R320) -/
  | tpNextRtLo (t : Time)
  /-- A read of RT_NOW_LO latches RT_NOW_HI. (R371) -/
  | rtNowLo (t : Time)
  /-- A read of FLUSH_RT_LO latches FLUSH_RT_HI. (R427) -/
  | flushRtLo (t : Time)
  /-- A read of YEW.REC_W0 latches words 1 to 7 of the selected record. (R425) -/
  | recW0 (t : Time)
  /-- A read of HOSTQ.Q_ITEMS latches Q_DROP of the selected queue. (R406) -/
  | qItems (t : Time)
  /-- The test access port instruction IDCODE reads 0x1168_0C2D. (R484) -/
  | idcode (t : Time)
  /-- The test access port instruction EXTEST drives boundary cells, except LG, HSG and PWM balls while VGD is in range. (R484) -/
  | extest (t : Time)
  /-- For a closing of O0 to O5, the instant s_c + published d_off is reached and the lane reports the closing ESTIMATED with MOTION_A and MOTION_B. (R218) -/
  | estimatedClosing (t : Time) (n : LaneIx) (k : OutIx)
  /-- A VBST result reaches VBST_MIN + VBST_HYST, VBST becomes ready again and boost peaks waiting under WAIT may be granted. (R198) -/
  | vbstReady (t : Time) (n : LaneIx) (vb : BitVec 12) (va : BitVec 12)
  /-- VBST falls below VBST_OV − VBST_HYST and FAST decays are no longer served as CLAMP. (R192) -/
  | demotionEnd (t : Time) (n : LaneIx) (vb : BitVec 12) (va : BitVec 12)
  /-- The two legs of a differential feedback channel read different levels again, ending wire disagreement and clearing its bit in FBKn.STAT.WIRE. (R277) -/
  | wireDisagreeEnd (t : Time) (n : LaneIx) (c : Fin 3)
  deriving DecidableEq, Repr

end Sys2Proof
end

