-- ==== Sys2Proof/Decode.lean ====
section
/-! DEFINITION. The block is commanded by operations and events, not by encoded words: no row of the opcode table gives bits, so no
word spells a command. -/
namespace Sys2Proof

/-- The command that a word spells by the table's bits: none, for every word. -/
def decodeTableWord (_ _ : Nat) : Option Instr := none

end Sys2Proof
end

