-- ==== Sys2Proof/Machine/Bits.lean ====
section
/-! DEFINITION. Bit fields, sign extension, rounding and saturation, said once (R6, R9, R10, R15). -/
namespace Sys2Proof.Machine

/-- Bits [hi:lo] of a number (R6). -/
def bf (v hi lo : Nat) : Nat := (v >>> lo) % 2 ^ (hi + 1 - lo)

/-- Bit `i` of a number. -/
def bitOf (v i : Nat) : Bool := v.testBit i

/-- `v` with bits [hi:lo] replaced by the low bits of `x`. -/
def setBf (v hi lo x : Nat) : Nat :=
  v - (bf v hi lo) <<< lo + (x % 2 ^ (hi + 1 - lo)) <<< lo

/-- 0 or 1. -/
def b2n (b : Bool) : Nat := if b then 1 else 0

/-- The number whose bit `i` is `b` and every other bit 0. -/
def bitAt (i : Nat) (b : Bool) : Nat := if b then 1 <<< i else 0

/-- The word that holds a number modulo 2^32. -/
def wd (n : Nat) : Word := BitVec.ofNat 32 n

/-- The word that holds an integer, two's complement. -/
def wdI (i : Int) : Word := BitVec.ofInt 32 i

/-- The low `n` bits of `v` as a two's-complement integer (R9). -/
def sx (n v : Nat) : Int :=
  let u := v % 2 ^ n
  if u < 2 ^ (n - 1) then (u : Int) else (u : Int) - (2 ^ n : Nat)

/-- The word `w` as a signed number. -/
def sgn (w : Word) : Int := w.toInt

/-- Division truncated toward minus infinity (R10). -/
def fdiv (a b : Int) : Int := a.fdiv b

/-- Division rounded to the nearest integer, a tie away from zero (R10). -/
def rdiv (a b : Int) : Int :=
  if b = 0 then 0
  else
    let n := if b < 0 then -a else a
    let d := if b < 0 then -b else b
    if 0 ≤ n then (2 * n + d) / (2 * d) else -((2 * (-n) + d) / (2 * d))

/-- Shift right, truncated toward minus infinity (R10). -/
def shr (a : Int) (n : Nat) : Int := a.fdiv ((2 ^ n : Nat) : Int)

/-- Clamp into [lo, hi]. -/
def clampI (lo hi x : Int) : Int := if x < lo then lo else if hi < x then hi else x

/-- Clamp to the range of an `n`-bit signed number. -/
def satS (n : Nat) (x : Int) : Int :=
  clampI (-((2 ^ (n - 1) : Nat) : Int)) (((2 ^ (n - 1) : Nat) : Int) - 1) x

/-- Add and saturate at the all-ones value of `n` bits (R15). -/
def satAdd (n v d : Nat) : Nat := min (v + d) (2 ^ n - 1)

/-- Ceiling division. -/
def cdiv (a b : Nat) : Nat := (a + b - 1) / b

/-- Integer square root by Newton-free bisection on the bits, from bit `n`. -/
def isqrtAux : Nat → Nat → Nat → Nat
  | 0, _, r => r
  | n + 1, v, r =>
    let c := r + 2 ^ n
    isqrtAux n v (if c * c ≤ v then c else r)

/-- floor(√v) for v < 2^128. -/
def isqrt (v : Nat) : Nat := isqrtAux 64 v 0

/-- The little-endian bytes of a number, `n` of them. -/
def leBytes : Nat → Nat → List Byte
  | 0, _ => []
  | n + 1, v => BitVec.ofNat 8 v :: leBytes n (v / 256)

/-- The big-endian bytes of a number, `n` of them. -/
def beBytes (n v : Nat) : List Byte := (leBytes n v).reverse

/-- The number a little-endian list of bytes spells. -/
def leNat : List Byte → Nat
  | [] => 0
  | b :: bs => b.toNat + 256 * leNat bs

/-- The number a big-endian list of bytes spells. -/
def beNat (bs : List Byte) : Nat := leNat bs.reverse

/-- `n` bytes from offset `o`, read little-endian; 0 past the end. -/
def leAt (bs : List Byte) (o n : Nat) : Nat := leNat ((bs.drop o).take n)

/-- The words of a byte string, least significant byte first. -/
def wordsLE : Nat → List Byte → List Word
  | 0, _ => []
  | _, [] => []
  | n + 1, bs => wd (leNat (bs.take 4)) :: wordsLE n (bs.drop 4)

/-- The 16-bit signed difference of R35: how far epoch `e` is ahead of `c`. -/
def epochDiff (e c : Epoch) : Int := (e - c).toInt

/-- Element `i` of a list, or `d` past its end. -/
def nth {α : Type} (d : α) (l : List α) (i : Nat) : α := (l[i]?).getD d

/-- Change element `i` of a list. -/
def modNth {α : Type} (f : α → α) : Nat → List α → List α
  | _, [] => []
  | 0, x :: xs => f x :: xs
  | n + 1, x :: xs => x :: modNth f n xs

/-- Change element `i` of a vector. -/
def vmod {α : Type} {n : Nat} (v : Vector α n) (i : Fin n) (f : α → α) : Vector α n :=
  v.set i (f (v.get i))

/-- The smallest index in [i, i + fuel) that a test takes. -/
def findIdxFrom (p : Nat → Bool) : Nat → Nat → Option Nat
  | 0, _ => none
  | f + 1, i => if p i then some i else findIdxFrom p f (i + 1)

end Sys2Proof.Machine
end

