-- ==== Sys2Proof/Machine/Crc.lean ====
section
/-! DEFINITION. The checks the part computes: CRC-8 (R375, R322, R325), CRC-32 of IEEE 802.3 (R375, R436), CRC-24Q of
an RTCM 3 transport frame (R305) and SHA-256 (R401). All are structural recursions over bytes and bits. -/
namespace Sys2Proof.Machine

/-- One bit of CRC-8, polynomial 0x07, most significant bit first. -/
def crc8Bit (c : Nat) : Nat := if c.testBit 7 then ((c <<< 1) ^^^ 0x107) % 256 else c <<< 1

/-- CRC-8 of a byte string from a running value. -/
def crc8From : Nat → List Byte → Nat
  | c, [] => c
  | c, b :: bs =>
    crc8From (crc8Bit (crc8Bit (crc8Bit (crc8Bit (crc8Bit (crc8Bit (crc8Bit (crc8Bit (c ^^^ b.toNat))))))))) bs

/-- CRC-8: polynomial 0x07, initial value 0, no reflection, no final XOR (R375). DESIGN CHOICE (log 155): for the flits of R21 and
the messages of R322 and R325 the spec gives the polynomial alone; they take the same initial value and bit order. -/
def crc8 (bs : List Byte) : Byte := BitVec.ofNat 8 (crc8From 0 bs)

/-- One bit of the reflected CRC-32. -/
def crc32Bit (c : Nat) : Nat := if c.testBit 0 then (c >>> 1) ^^^ 0xEDB88320 else c >>> 1

/-- CRC-32 of a byte string from a running value. -/
def crc32From : Nat → List Byte → Nat
  | c, [] => c
  | c, b :: bs =>
    crc32From (crc32Bit (crc32Bit (crc32Bit (crc32Bit (crc32Bit (crc32Bit (crc32Bit (crc32Bit (c ^^^ b.toNat))))))))) bs

/-- CRC-32 of IEEE 802.3: reflected, initial value 0xFFFF_FFFF and a final complement (R375). -/
def crc32 (bs : List Byte) : Word := wd (crc32From 0xFFFFFFFF bs ^^^ 0xFFFFFFFF)

/-- One bit of CRC-24Q, polynomial 0x1864CFB. -/
def crc24Bit (c : Nat) : Nat := if c.testBit 23 then ((c <<< 1) ^^^ 0x1864CFB) % 0x1000000 else c <<< 1

/-- CRC-24Q of a byte string from a running value. -/
def crc24From : Nat → List Byte → Nat
  | c, [] => c
  | c, b :: bs =>
    crc24From (crc24Bit (crc24Bit (crc24Bit (crc24Bit (crc24Bit (crc24Bit (crc24Bit (crc24Bit (c ^^^ (b.toNat <<< 16)))))))))) bs

/-- CRC-24Q of a byte string. -/
def crc24 (bs : List Byte) : Nat := crc24From 0 bs

/-- Rotate a 32-bit number right. -/
def rotr32 (n x : Nat) : Nat := ((x >>> n) ||| (x <<< (32 - n))) % 4294967296

/-- The eight 32-bit words of a 256-bit number, the most significant first. -/
def octet32 (n : Nat) : List Nat := (List.range 8).map (fun i => (n >>> (224 - 32 * i)) % 4294967296)

/-- The round constants of SHA-256, eight to a number. -/
def sha256K : List Nat :=
  [ 0x428a2f9871374491b5c0fbcfe9b5dba53956c25b59f111f1923f82a4ab1c5ed5,
    0xd807aa9812835b01243185be550c7dc372be5d7480deb1fe9bdc06a7c19bf174,
    0xe49b69c1efbe47860fc19dc6240ca1cc2de92c6f4a7484aa5cb0a9dc76f988da,
    0x983e5152a831c66db00327c8bf597fc7c6e00bf3d5a7914706ca635114292967,
    0x27b70a852e1b21384d2c6dfc53380d13650a7354766a0abb81c2c92e92722c85,
    0xa2bfe8a1a81a664bc24b8b70c76c51a3d192e819d6990624f40e3585106aa070,
    0x19a4c1161e376c082748774c34b0bcb5391c0cb34ed8aa4a5b9cca4f682e6ff3,
    0x748f82ee78a5636f84c878148cc7020890befffaa4506cebbef9a3f7c67178f2].flatMap octet32

/-- The initial hash value of SHA-256. -/
def sha256H : List Nat := octet32 0x6a09e667bb67ae853c6ef372a54ff53a510e527f9b05688c1f83d9ab5be0cd19

/-- Extend the message schedule, kept newest first, by `n` words. -/
def sha256Sched : Nat → List Nat → List Nat
  | 0, w => w
  | n + 1, w =>
    let w2 := nth 0 w 1
    let w7 := nth 0 w 6
    let w15 := nth 0 w 14
    let w16 := nth 0 w 15
    let s0 := rotr32 7 w15 ^^^ rotr32 18 w15 ^^^ (w15 >>> 3)
    let s1 := rotr32 17 w2 ^^^ rotr32 19 w2 ^^^ (w2 >>> 10)
    sha256Sched n (((w16 + s0 + w7 + s1) % 4294967296) :: w)

/-- The compression rounds of SHA-256 over the schedule words and constants. -/
def sha256Rounds : List (Nat × Nat) → List Nat → List Nat
  | [], h => h
  | (w, k) :: r, h =>
    match h with
    | [a, b, c, d, e, f, g, x] =>
      let s1 := rotr32 6 e ^^^ rotr32 11 e ^^^ rotr32 25 e
      let ch := (e &&& f) ^^^ ((e ^^^ 0xFFFFFFFF) &&& g)
      let t1 := x + s1 + ch + k + w
      let s0 := rotr32 2 a ^^^ rotr32 13 a ^^^ rotr32 22 a
      let mj := (a &&& b) ^^^ (a &&& c) ^^^ (b &&& c)
      sha256Rounds r [(t1 + s0 + mj) % 4294967296, a, b, c, (d + t1) % 4294967296, e, f, g]
    | _ => h

/-- One 64-byte block of SHA-256. -/
def sha256Block (h : List Nat) (blk : List Byte) : List Nat :=
  let w0 := (List.range 16).map (fun i => beNat ((blk.drop (4 * i)).take 4))
  let w := (sha256Sched 48 w0.reverse).reverse
  (h.zip (sha256Rounds (w.zip sha256K) h)).map (fun p => (p.1 + p.2) % 4294967296)

/-- Fold SHA-256 over `n` blocks. -/
def sha256Blocks : Nat → List Byte → List Nat → List Nat
  | 0, _, h => h
  | n + 1, bs, h => sha256Blocks n (bs.drop 64) (sha256Block h (bs.take 64))

/-- SHA-256 of a byte string (R401). -/
def sha256 (bs : List Byte) : List Byte :=
  let pad := (119 - bs.length % 64) % 64
  let m := bs ++ [0x80] ++ List.replicate pad 0 ++ beBytes 8 (8 * bs.length)
  (sha256Blocks (m.length / 64) m sha256H).flatMap (beBytes 4)

end Sys2Proof.Machine
end

