-- ==== Sys2Proof/Config.lean ====
section
/-! DEFINITION. What the spec leaves open, as constants without a body: nothing in Lean can prove a value of them. -/
namespace Sys2Proof.Config

/-- A free value: the `n`-th value that the spec does not state. -/
opaque freeValue : Nat → BitVec 64

/-- Whether the signal of a SIG_EN bit has a pilot component; the spec does not list them (R297). -/
opaque sigPilot : Nat → Bool

/-- ECDSA P-256 verification of R401 under ROM key `k` of a digest and a signature r, s: the keys are in the ROM and
the spec does not give them. -/
opaque sigVerifies : Nat → List Byte → List Byte → Bool

end Sys2Proof.Config
end

