-- ==== Sys2Proof/Machine/Codes.lean ====
section
/-! DEFINITION. The record codes of Yew (R428, Table 15-5) with the severities of the writing blocks' tables
(2-14, 3-12, 4-4, 5-8, 6-9, 7-4, 8-6, 9-9, 10-5, 11-9, 12-7, 13-9, 14-12, 15-6) and the origins of R411. -/
namespace Sys2Proof.Machine

/-- The ORIGIN of a record (R411): delivered to both halves, computed by both, or one half's own. -/
inductive Origin where
  | shared
  | mirror
  | own
  deriving DecidableEq, Repr

/-- A record code: its number, its severity and its origin. -/
structure RecCode where
  num : Nat
  sev : Nat
  origin : Origin
  deriving DecidableEq, Repr

namespace Rec
def STATE_CHANGE : RecCode := ⟨0x1, 1, .shared⟩
def SEAL_FAIL : RecCode := ⟨0x2, 3, .shared⟩
def LANE_FENCE : RecCode := ⟨0x3, 5, .shared⟩
def SUPPLY_OOR : RecCode := ⟨0x4, 6, .shared⟩
def PATCH_ROM_ONLY : RecCode := ⟨0x5, 6, .shared⟩
def PFAIL : RecCode := ⟨0x6, 6, .shared⟩
def CLOCK_LOSS : RecCode := ⟨0x7, 7, .shared⟩
def LOG_INIT : RecCode := ⟨0x20, 2, .own⟩
def PFAIL_FLUSH : RecCode := ⟨0x21, 3, .own⟩
def FLUSH_LATE : RecCode := ⟨0x22, 4, .own⟩
def LOG_KEEP_FULL : RecCode := ⟨0x23, 5, .own⟩
def TOKEN_CE : RecCode := ⟨0x40, 2, .own⟩
def REJOINED : RecCode := ⟨0x41, 3, .own⟩
def HANDOVER : RecCode := ⟨0x42, 4, .own⟩
def HB_PATH : RecCode := ⟨0x43, 5, .own⟩
def XCHK_DISAGREE : RecCode := ⟨0x44, 5, .own⟩
def LAUREL_TAKEOVER : RecCode := ⟨0x45, 6, .own⟩
def LAUREL_TIE : RecCode := ⟨0x46, 6, .own⟩
def KAT_FAIL : RecCode := ⟨0x47, 6, .own⟩
def QUARANTINE : RecCode := ⟨0x48, 6, .own⟩
def HP_CRC : RecCode := ⟨0x60, 2, .shared⟩
def CMPL_OVF : RecCode := ⟨0x61, 3, .shared⟩
def MB_DISCARD : RecCode := ⟨0x62, 3, .shared⟩
def PATCH_STAGED : RecCode := ⟨0x63, 3, .shared⟩
def CMD_ABORTED : RecCode := ⟨0x64, 4, .shared⟩
def DIR_REPAIR : RecCode := ⟨0x65, 4, .shared⟩
def PATCH_AUTH_FAIL : RecCode := ⟨0x66, 5, .shared⟩
def NOR_ERR : RecCode := ⟨0x67, 5, .shared⟩
def KEY_REVOKE : RecCode := ⟨0x68, 6, .shared⟩
def UNWRAP : RecCode := ⟨0x80, 2, .shared⟩
def ENUM_DONE : RecCode := ⟨0x81, 2, .shared⟩
def RT_STEP : RecCode := ⟨0x82, 3, .shared⟩
def RT_HOLD : RecCode := ⟨0x83, 3, .shared⟩
def LINK_DOWN : RecCode := ⟨0x84, 4, .shared⟩
def WRAP : RecCode := ⟨0x85, 4, .shared⟩
def NODE_ABSENT : RecCode := ⟨0x86, 4, .shared⟩
def RT_FAR : RecCode := ⟨0x87, 4, .shared⟩
def DEST_UNREACH : RecCode := ⟨0x88, 4, .shared⟩
def ENUM_FAIL : RecCode := ⟨0x89, 5, .shared⟩
def STROKE_ABANDON : RecCode := ⟨0x8a, 5, .shared⟩
def ROOT_CONFLICT : RecCode := ⟨0x8b, 6, .shared⟩
def OBS_STALE : RecCode := ⟨0xa0, 1, .mirror⟩
def TIME_LOCKED : RecCode := ⟨0xa1, 2, .mirror⟩
def GNSS_BACK : RecCode := ⟨0xa2, 2, .mirror⟩
def RTCM_BAD : RecCode := ⟨0xa3, 2, .mirror⟩
def GNSS_LOST : RecCode := ⟨0xa4, 3, .mirror⟩
def TIME_HOLDOVER : RecCode := ⟨0xa5, 3, .mirror⟩
def REF_CHANGE : RecCode := ⟨0xa6, 3, .mirror⟩
def AGC_LIMIT : RecCode := ⟨0xa7, 3, .mirror⟩
def TIME_EXPIRED : RecCode := ⟨0xa8, 4, .mirror⟩
def TIME_STEP : RecCode := ⟨0xa9, 4, .mirror⟩
def GIF_CLK_BAD : RecCode := ⟨0xaa, 5, .mirror⟩
def POS_STEP : RecCode := ⟨0xc0, 4, .mirror⟩
def SPD_DISAGREE : RecCode := ⟨0xc1, 4, .mirror⟩
def HITCH_DISAGREE : RecCode := ⟨0xc2, 4, .mirror⟩
def MAP_CE : RecCode := ⟨0xe0, 1, .own⟩
def TILE_LATE : RecCode := ⟨0xe1, 3, .mirror⟩
def SLOT_CONFLICT : RecCode := ⟨0xe2, 3, .mirror⟩
def WIN_STALL : RecCode := ⟨0xe3, 4, .mirror⟩
def MAP_UE : RecCode := ⟨0xe4, 5, .own⟩
def MAP_DIVERGE : RecCode := ⟨0xe5, 5, .mirror⟩
def SPILL_LOST : RecCode := ⟨0xe6, 5, .mirror⟩
def EVT_DEFER : RecCode := ⟨0x100, 2, .mirror⟩
def LEAD_CLAMP : RecCode := ⟨0x101, 3, .mirror⟩
def LATE_TARGET : RecCode := ⟨0x102, 3, .mirror⟩
def PRESS_LOW : RecCode := ⟨0x103, 3, .mirror⟩
def NO_MOTION : RecCode := ⟨0x104, 4, .mirror⟩
def DEC_MISMATCH : RecCode := ⟨0x105, 4, .mirror⟩
def XCHK_FAIL : RecCode := ⟨0x106, 6, .mirror⟩
def EVT_LATE : RecCode := ⟨0x120, 3, .shared⟩
def EVT_FULL : RecCode := ⟨0x121, 3, .shared⟩
def EVT_LOST : RecCode := ⟨0x122, 5, .mirror⟩
def DR_EXPIRED : RecCode := ⟨0x123, 5, .shared⟩
def PEAK_LATE : RecCode := ⟨0x140, 3, .shared⟩
def PEAK_SKIP : RecCode := ⟨0x141, 3, .shared⟩
def BOOST_SUB : RecCode := ⟨0x142, 3, .shared⟩
def PEAK_TMO : RecCode := ⟨0x143, 3, .shared⟩
def OPEN_LOAD : RecCode := ⟨0x144, 4, .shared⟩
def DECAY_TMO : RecCode := ⟨0x145, 4, .shared⟩
def VBST_OV : RecCode := ⟨0x146, 4, .shared⟩
def OUT_OC : RecCode := ⟨0x147, 5, .shared⟩
def NO_DIP : RecCode := ⟨0x160, 2, .shared⟩
def NO_CLOSE : RecCode := ⟨0x161, 2, .shared⟩
def LEARNED : RecCode := ⟨0x162, 1, .shared⟩
def VALVE_STUCK : RecCode := ⟨0x163, 5, .shared⟩
def CLOSE_FAIL : RecCode := ⟨0x164, 5, .shared⟩
def VALVE_WEAR : RecCode := ⟨0x165, 3, .shared⟩
def RELEARN : RecCode := ⟨0x166, 4, .shared⟩
def DLY_CLAMP : RecCode := ⟨0x167, 3, .shared⟩
def PWM_ORDER : RecCode := ⟨0x180, 2, .shared⟩
def SYNC_SLIP : RecCode := ⟨0x181, 3, .shared⟩
def SYNC_GLITCH : RecCode := ⟨0x182, 3, .shared⟩
def LIVE_WRITE : RecCode := ⟨0x1a0, 1, .shared⟩
def LOOP_SAT : RecCode := ⟨0x1a1, 2, .shared⟩
def HW_PLAUS : RecCode := ⟨0x1a2, 2, .shared⟩
def LOOP_OVERRUN : RecCode := ⟨0x1a3, 3, .shared⟩
def HW_IMPLAUS : RecCode := ⟨0x1a4, 4, .shared⟩
def COMM_LOST : RecCode := ⟨0x1a5, 4, .shared⟩
def HW_SAFE : RecCode := ⟨0x1a6, 5, .shared⟩
def IDX_RESYNC : RecCode := ⟨0x1c0, 2, .shared⟩
def IDX_ERR : RecCode := ⟨0x1c1, 3, .shared⟩
def QUAD_ILLEGAL : RecCode := ⟨0x1c2, 3, .shared⟩
def HALL_SKIP : RecCode := ⟨0x1c3, 3, .shared⟩
def EM_LAG : RecCode := ⟨0x1c4, 3, .shared⟩
def HALL_BAD : RecCode := ⟨0x1c5, 4, .shared⟩
def FBK_WIRE : RecCode := ⟨0x1c6, 4, .shared⟩
end Rec

end Sys2Proof.Machine
end

