-- ==== Sys2Proof/Machine/Sparse.lean ====
section
/-! DEFINITION. Sparse storage in one canonical form: (key, value) pairs with strictly rising keys, and no pair
whose value is what an unlisted key reads as. Registers, map words, NOR bytes and recorder slots use it. -/
namespace Sys2Proof.Machine

/-- A sparse map: the pairs that differ from the default, by rising key. -/
abbrev Sparse (α : Type) := List (Nat × α)

/-- The value at key `k`; `d` gives what an unlisted key reads as. -/
def Sparse.get {α : Type} (d : Nat → α) : Sparse α → Nat → α
  | [], k => d k
  | (i, v) :: m, k => if i = k then v else if k < i then d k else Sparse.get d m k

/-- Remove key `k`. -/
def Sparse.erase {α : Type} : Sparse α → Nat → Sparse α
  | [], _ => []
  | (i, v) :: m, k => if i = k then m else if k < i then (i, v) :: m else (i, v) :: Sparse.erase m k

/-- Put `x` at key `k`. -/
def Sparse.put {α : Type} : Sparse α → Nat → α → Sparse α
  | [], k, x => [(k, x)]
  | (i, v) :: m, k, x =>
    if i = k then (k, x) :: m else if k < i then (k, x) :: (i, v) :: m else (i, v) :: Sparse.put m k x

/-- Write `x` at key `k`, keeping the canonical form. -/
def Sparse.set {α : Type} [DecidableEq α] (d : Nat → α) (m : Sparse α) (k : Nat) (x : α) : Sparse α :=
  if x = d k then Sparse.erase m k else Sparse.put m k x

/-- Every key of the map is above `k`. -/
def Sparse.above {α : Type} (k : Nat) : Sparse α → Bool
  | [] => true
  | (i, _) :: m => decide (k < i) && Sparse.above k m

/-- The canonical form: keys strictly rising, no pair equal to the default. -/
def Sparse.wf {α : Type} [DecidableEq α] (d : Nat → α) : Sparse α → Bool
  | [] => true
  | (i, v) :: m => decide (v ≠ d i) && Sparse.above i m && Sparse.wf d m

/-- Write consecutive keys from `k`. -/
def Sparse.setRun {α : Type} [DecidableEq α] (d : Nat → α) : Sparse α → Nat → List α → Sparse α
  | m, _, [] => m
  | m, k, x :: xs => Sparse.setRun d (Sparse.set d m k x) (k + 1) xs

/-- Read `n` consecutive keys from `k`. -/
def Sparse.getRun {α : Type} (d : Nat → α) (m : Sparse α) : Nat → Nat → List α
  | _, 0 => []
  | k, n + 1 => Sparse.get d m k :: Sparse.getRun d m (k + 1) n

/-- Return every key in [lo, hi) to the default. -/
def Sparse.clearRange {α : Type} (m : Sparse α) (lo hi : Nat) : Sparse α :=
  m.filter (fun p => decide (p.1 < lo) || decide (hi ≤ p.1))

end Sys2Proof.Machine
end

