-- ==== Sys2Proof/Machine/Blocks1.lean ====
section
/-! DEFINITION. State of the recorder, the host port, the mailboxes, the NOR port, Laurel, the die-to-die segments, the
lane schedulers and the ring: plain records, one for each block the spec gives. -/
namespace Sys2Proof.Machine

/-! The Yew recorder (chapter 15). -/

/-- One record of a volatile ring (R409), with whether it is retired (R415). -/
structure YewRec where
  seq : Nat
  /-- RING_TIME, ps. -/
  time : Time
  code : Nat
  sev : Nat
  src : Nat
  half : Half
  supp : Nat
  pfail : Bool
  holder : Bool
  origin : Origin
  a0 : Word
  a1 : Word
  a2 : Word
  retired : Bool
  /-- Already offered to the flush and to the live stream (R416, R423). -/
  streamed : Bool
  deriving DecidableEq, Repr

/-- One half's copy of the recorder: ring, next SEQ, buckets, suppression counts and counters (R412 to R414). -/
structure YewCopy where
  slots : Sparse (Option YewRec)
  seq : Nat
  /-- Bucket of each code, in 1/60,000 record; unlisted codes are full at the reset BURST. -/
  buckets : Sparse Nat
  supp : Sparse Nat
  /-- Records admitted of each code, modulo 2^16. -/
  admitted : Sparse Nat
  suppCnt : Nat
  drop : Nat
  ovw : Nat
  deriving DecidableEq, Repr

/-- The write position of a zone of the NOR log (R419): the sector within the zone, its SSEQ and the next slot. -/
structure ZonePos where
  sector : Nat
  sseq : Nat
  slot : Nat
  /-- Whether the sector's header has been programmed. -/
  opened : Bool
  full : Bool
  deriving DecidableEq, Repr

/-- The recorder's part in the port: zones, FLUSH_RT and the flush under way (R417 to R422). -/
structure YewPort where
  logOk : Bool
  keep : ZonePos
  roll : ZonePos
  keepFull : Bool
  backlogHi : Bool
  /-- FLUSH_RT in ps; none before the first confirmed flush. -/
  flushRt : Time
  pfailActive : Bool
  pfailDone : Bool
  /-- The records of the power-fail flush set, by half and SEQ, once it has closed. -/
  pfailSet : List (Half × Nat)
  pfailClosed : Bool
  pfailAt : Time
  /-- Records and duration of the last power-fail flush, kept for PFAIL_FLUSH at the next BOOT (R422). -/
  pfailCount : Nat
  pfailMs01 : Nat
  pfailPending : Bool
  deriving DecidableEq, Repr

/-! The host port (chapter 14). -/

/-- One hardware queue (R381 to R389): segments waiting from the host, or items waiting for it. -/
structure Queue where
  segs : List Seg
  items : List DItem
  /-- Host to device: the expected SEQ. Device to host: the next SEQ to post. -/
  seq : BitVec 16
  open_ : Bool
  /-- Segments of a partly taken item that a block has accepted (R397, R305). -/
  taken : Nat
  passed : Nat
  seqErr : Nat
  flushed : Nat
  /-- How many items at the front have been handed to the queue bridge (R367). -/
  bridged : Nat
  deriving DecidableEq, Repr

/-- One mailbox (R391, R392) with the message its receiving half has taken and the replies that wait. -/
structure Mailbox where
  tx : List Word
  txPend : Bool
  rx : List Word
  rxLen : Nat
  rxReady : Bool
  discard : Bool
  noTarget : Bool
  /-- The message taken by the receiving half and not yet executed. -/
  inbox : Option (List Word)
  replies : List (List Word)
  deriving DecidableEq, Repr

/-- What a flash operation does. -/
inductive NorKind where
  | erase4
  | erase64
  | program
  | read
  | readBack
  deriving DecidableEq, Repr

/-- One operation of the NOR port. -/
structure NorOp where
  kind : NorKind
  addr : Nat
  data : List Byte
  /-- The recorder's operations carry the records they hold (R404). -/
  recorder : Bool
  recs : List (Half × Nat)
  deriving DecidableEq, Repr

/-- A long resident command under way (R396): the steps left, what it has done, and its end once it has one. -/
structure LongCmd where
  op : Nat
  tag : Nat
  mailbox : Nat
  args : List Nat
  /-- Byte, block or record count done; for PATCH_STAGE the erased, programmed and read-back bytes. -/
  done : Nat
  done2 : Nat
  done3 : Nat
  /-- Where the command stands: 0 running, 1 second stage, 2 third stage. -/
  stage : Nat
  /-- Position reported in PG_PROG_POS. -/
  pos : Nat
  /-- Records posted by LOG_READ. -/
  posted : Nat
  /-- Payload bytes taken from Q4 and not programmed yet, and how many were taken in all. -/
  buf : List Byte
  got : Nat
  /-- SEQ and TAG of the payload segment taken last. -/
  lastSeq : BitVec 16
  lastTag : BitVec 16
  /-- ABORT, or PFAIL_N: the command stops at its next boundary. -/
  aborting : Bool
  /-- Final status, detail and results, once known. -/
  final : Option (Nat × Nat × List Word)
  lastSeg : Time
  deriving DecidableEq, Repr

/-- A directory copy read from the flash (R399, Table 14-9). -/
structure Dir399 where
  copy : Nat
  gen : Nat
  norMode : Nat
  slots : Nat
  logBase : Nat
  logSize : Nat
  deriving DecidableEq, Repr

/-- The NOR port and what it holds (R398 to R404). -/
structure NorState where
  flash : Sparse Byte
  present : Bool
  jedec : Nat
  dir : Option Dir399
  patchVer : Nat
  /-- One-time fused values: the anti-rollback minimum and the revoked keys. -/
  patchMin : Nat
  keyStat : BitVec 4
  cur : Option NorOp
  curSince : Time
  suspended : Option NorOp
  recQ : List NorOp
  cmdQ : List NorOp
  long : Option LongCmd
  /-- The port's table of accepted commands: mailbox, OP and TAG, at most 8 (R396). -/
  accepted : List (Nat × Nat × Nat)
  deriving DecidableEq, Repr

/-! Laurel (chapter 12). -/

/-- What Laurel and the other half know of one half. -/
structure HalfState where
  role : Role
  katFail : Bool
  suspect : Bool
  resign : Bool
  /-- RESIGN was set by a planned handover (R332). -/
  handover : Bool
  /-- The half was identified faulty and resigns for it: the step of Table 12-2 (R335). -/
  identStep : Nat
  /-- The cause of a resignation, as record QUARANTINE codes it, and whether the last heartbeat received carried it. -/
  resignCause : Nat
  resignSeen : Bool
  /-- Counted an uncorrectable map word, or a clock or parity fault (R334 step 1), with the tick. -/
  faultTick : Option Nat
  /-- Consecutive heartbeats of this half missed at the Laurel logic, and at the other half. -/
  missLaurel : Nat
  missOther : Nat
  /-- The loss of this half declared by the Laurel logic, and by the other half (R323). -/
  lostLaurel : Bool
  lostOther : Bool
  /-- t_h: the check instant of the last heartbeat received from this half. -/
  lastHb : Time
  /-- The largest epoch this half has held (R327). -/
  maxEpoch : Epoch
  /-- The heartbeat word this half sent last (R322). -/
  hbSent : Word
  deriving DecidableEq, Repr

/-- A grant whose takeover has not yet run (R330). -/
structure Grant where
  time : Time
  oldHolder : Half
  newHolder : Half
  /-- t_h, or the cycle in which the token became invalid. -/
  tH : Time
  resign : Bool
  handover : Bool
  invalid : Bool
  deriving DecidableEq, Repr

structure LaurelState where
  copies : Vector TokenCopy 3
  valid : Bool
  invalidAt : Time
  /-- The latest vote that gave a token: holder and epoch. -/
  voted : Half × Epoch
  /-- The Laurel logic has declared the holder's heartbeat lost, and no grant has followed (R324). -/
  declared : Bool
  /-- CONFLICT with the epoch claimed, from its vote cycle (R328). -/
  conflict : Option (Time × Epoch)
  /-- Since when neither half is in charge: the declaration, or the invalid token (R24, R324). -/
  noChargeAt : Option Time
  /-- Since when the half that was in charge is declared stopped (R3). -/
  singleStopAt : Option Time
  /-- A CLAIM that a half makes and Laurel has not voted yet, with its epoch. -/
  claims : List (Half × Epoch)
  grant : Option Grant
  half : Vector HalfState 2
  /-- OK and consecutive deliveries of paths HB0 and HB1. -/
  pathOk : Vector Bool 2
  pathRun : Vector Nat 2
  /-- Consecutive mismatches of decisions, poses and slots (R333). -/
  decRun : Nat
  poseRun : Nat
  slotRun : Nat
  lastMismatch : Option Time
  /-- The first tick of a disagreement being identified (R334). -/
  ident : Option Nat
  identAt : Time
  katAt : Time
  /-- Map words copied by a rejoining half (R337). -/
  copied : Nat
  deriving DecidableEq, Repr

/-! The die-to-die segments and the lane schedulers (chapters 1 and 5). -/

/-- A sequenced flit at its sender (R491). -/
structure TxFlit where
  typ : Nat
  seq : BitVec 4
  epoch : Epoch
  payload : Word
  /-- Times resent, and resends that failed (R21). -/
  resent : Nat
  fails : Nat
  deriving DecidableEq, Repr

/-- One direction of a segment: its sender and its receiver (R491). -/
structure LinkDir where
  txSeq : BitVec 4
  held : List TxFlit
  waiting : List TxFlit
  /-- The last sequence number the receiver accepted. -/
  rxLast : BitVec 4
  /-- The receiver has answered a discard since the last accepted flit. -/
  naked : Bool
  /-- When an acknowledgement last advanced, or the oldest flit was sent. -/
  ackAt : Time
  lastLinkSend : Time
  /-- The latest flit that the sender put on the wire, link flits included. -/
  wire : Option Flit
  deriving DecidableEq, Repr

/-- The states of Table 5-2; FREE entries are not stored. -/
inductive EntryState where
  | waiting
  | armed
  deriving DecidableEq, Repr

/-- The event types of Table 5-1. -/
inductive EvtType where
  | on
  | off
  | rate
  deriving DecidableEq, Repr

def EvtType.code : EvtType → Nat
  | .on => 0
  | .off => 1
  | .rate => 2

/-- One entry of a lane's event queue. -/
structure QEntry where
  st : EntryState
  outlet : OutIx
  typ : EvtType
  /-- The TYPE whose delay places its firing cycle: an ON that has become a RATE keeps its own (R162, R166). -/
  aimTyp : EvtType
  cls : BitVec 3
  val : Nat
  /-- X_v, 48 bits. -/
  xv : Nat
  /-- c of the latest re-aim (R162). -/
  c : Int
  /-- Admission sequence number and instant. -/
  adm : Nat
  admAt : Time
  fireAt : Time
  late : Bool
  lateness : Nat
  /-- An implicit OFF of R174, not acknowledged. -/
  implicit : Bool
  /-- The VALUE and admission number of a later ON that was retired into this one and applies right after it (R166). -/
  also : Option (Nat × Nat)
  deriving DecidableEq, Repr

/-- A lane's copy of one outlet's travel (R159). -/
structure LaneTravel where
  tk : Nat
  sk : Int
  tl : Nat
  deriving DecidableEq, Repr

/-- A travel update as the lane took it: the travel of every outlet after it, its t_k and when it came (R158, R219). -/
structure TravUpd where
  at_ : Time
  tk : Time
  trav : Vector LaneTravel 8
  deriving DecidableEq, Repr

/-- Why a lane is FENCED, coded as record LANE_FENCE codes it. -/
inductive FenceCause where
  | host
  | link
  | selfCheck
  deriving DecidableEq, Repr

def FenceCause.code : FenceCause → Nat
  | .host => 0
  | .link => 1
  | .selfCheck => 2

/-- The value in force of an outlet, and the admission number of the event that set it (R165). -/
structure ValueInForce where
  val : Nat
  adm : Nat
  deriving DecidableEq, Repr

/-- One lane: its segment and its scheduler. -/
structure LaneState where
  dn : LinkDir
  up : LinkDir
  /-- Ring time at which the lane last accepted a DN flit (R22). -/
  lastDn : Time
  lost : Bool
  fenced : Option FenceCause
  selfOk : Bool
  selfTest : Nat
  /-- SAFE_N is low as the lane sees it. -/
  safeLow : Bool
  /-- The drain after DISARM has ended, so SAFE_N stays low in IDLE (R24). -/
  drained : Bool
  /-- The outlets that the clear at the SAFE_N fall closed, for its QCLR (R175). -/
  safeMask : Nat
  faultTimes : List Time
  queue : Sparse (Option QEntry)
  nextAdm : Nat
  /-- An accepted EVT_A that waits for its EVT_B, and the flits of a travel update received so far (R155, R158). -/
  pendA : Option Flit
  trvAsm : List Flit
  trav : Vector LaneTravel 8
  /-- t_k of the last accepted travel update, and when it was accepted. -/
  tk : Time
  updAt : Time
  /-- The travel updates that a motion instant may still lie in, newest first. -/
  hist : List TravUpd
  inForce : Vector ValueInForce 8
  /-- Target of the outlet's last queued event (R174). -/
  lastTarget : Vector Nat 8
  draining : Option Time
  drExpired : Bool
  /-- A QCLR payload that waits for the DN link to carry flits again (R170). -/
  qclrWait : Option Word
  /-- The queue and the travel at the latest re-aim instant (R179). -/
  qSnap : Sparse (Option QEntry)
  tSnap : Vector LaneTravel 8
  disabled : Bool
  /-- One-flit commands that wait in the half until the spine's port has places: type and payload (R491). -/
  halfQ : List (Nat × Word)
  /-- A FIRE_A and a MOTION_A that the spine has accepted and whose second flit is still to come. -/
  pendFire : Option Flit
  pendMot : Option Flit
  deriving DecidableEq, Repr

/-! The ring (chapter 13). -/

/-- The state of a receive link (PORT_STAT.LINK). -/
inductive LinkSt where
  | down
  | aligning
  | up
  deriving DecidableEq, Repr

def LinkSt.code : LinkSt → Nat
  | .down => 0
  | .aligning => 1
  | .up => 2

/-- One ring port: RX p, TX p and the hop of RX p. -/
structure PortState where
  link : LinkSt
  /-- When the hop of RX p went down or came up, for WRAP_HOLD_US and UNWRAP_US. -/
  since : Time
  rfaultRun : Nat
  rfault : Bool
  wrapped : Bool
  sendRfault : Bool
  /-- The port's self-test at BOOT passed (R365). -/
  bypTest : Bool
  /-- Own frames waiting for TX p, each with when it was queued. -/
  txq : List (Time × Frame)
  /-- The transit buffer: frames that wait behind the frame in progress. -/
  transit : List Frame
  /-- When the frame in progress on TX p ends. -/
  busyUntil : Time
  /-- The frame and the ordered set (type, data) that TX p sent last. -/
  lastTx : Option Frame
  lastSet : Option (Nat × Nat)
  /-- Hop delay measurement: sequence and t1 of the DREQ sent on TX p, and the latest delay behind RX p. -/
  dreqSeq : BitVec 16
  dreqAt : Option Time
  dly : Nat
  /-- Characters received in the current millisecond of ring time, and in the one before. -/
  loadMs : Nat
  loadCur : Nat
  loadPrev : Nat
  deriving DecidableEq, Repr

/-- A sent stream frame that is not acknowledged. -/
structure OutFrame where
  fseq : BitVec 16
  frame : Frame
  /-- The host queue and item the frame belongs to, for the completion. -/
  queue : Option Nat
  seq : BitVec 16
  tag : BitVec 16
  cmpl : Bool
  sentAt : Time
  /-- The go-backs from this STROKE frame (R356). -/
  tries : Nat
  deriving DecidableEq, Repr

/-- A stream of this node as sender (R355). -/
structure TxStream where
  dst : Nat
  cls : FrameClass
  next : BitVec 16
  out : List OutFrame
  wait : List OutFrame
  credit : Nat
  retries : Nat
  restart : Bool
  progressAt : Time
  deriving DecidableEq, Repr

/-- A stream of this node as receiver (R355). -/
structure RxStream where
  src : Nat
  cls : FrameClass
  expect : BitVec 16
  naked : Bool
  deriving DecidableEq, Repr

/-- What the two ports share: enumeration, presence, streams and strokes. -/
structure RingState where
  root : Bool
  nodeId : BitVec 10
  assigned : Bool
  nNodes : Nat
  nonce : Option Word
  enumAt : Option Time
  enumTries : Nat
  /-- RGEN of the FULL enumeration this node has answered. -/
  enumSeen : Option Epoch
  /-- Present nodes with when each was last heard. -/
  present : List (Nat × Time)
  /-- Nodes whose first absence has been recorded. -/
  absentSeen : List Nat
  presAt : Time
  topoGen : Epoch
  tx : List TxStream
  rx : List RxStream
  /-- Next FSEQ of this node's PACE frames on each PORT, and the last FSEQ delivered from each (SRC, PORT) (R349). -/
  paceSeq : Vector (BitVec 16) 4
  paceSeen : List (Nat × Nat × Nat)
  /-- Outstanding and held STROKE frames, and the sender's frame count SEQ (R105, R356). -/
  strokeOut : List OutFrame
  strokeHeld : List OutFrame
  strokeSeq : Word
  strokeRsync : Bool
  /-- Next expected FSEQ of each of 7 group senders at the receiving port. -/
  strokeRx : List (Nat × BitVec 16)
  /-- Queue-bridge items being reassembled: queue and bytes (R367). -/
  asm : List (Nat × List Byte)
  deriving DecidableEq, Repr

/-- Ring time synchronisation (R358 to R360). -/
structure RTimeState where
  lock : Bool
  hold : Bool
  far : Bool
  srcB : Bool
  h : Nat
  /-- h last heard on each receiver, and when (R358). -/
  heard : Vector (Option (Nat × Time)) 2
  errs : List Int
  goodRun : Nat
  badRun : Nat
  lastSync : Option Time
  stepLast : Int
  lastErr : Int
  /-- The correction pending and the instant of the last adjusted cycle (R359). -/
  corr : Int
  lastAdj : Time
  deriving DecidableEq, Repr

/-- The remote register tunnel (R368). -/
structure RTunState where
  busy : Bool
  done : Bool
  status : Nat
  words : Nat
  tag : BitVec 16
  op : Nat
  count : Nat
  sentAt : Time
  deriving DecidableEq, Repr

end Sys2Proof.Machine
end

