-- ==== Sys2Proof/Machine/Blocks2.lean ====
section
/-! DEFINITION. State of a lane's outlet drive and of Harebell (chapters 6 and 7): plain records. -/
namespace Sys2Proof.Machine

/-- The outlet states of Table 6-5, coded as OUTk_STAT codes them. -/
inductive OutSt where
  | closed
  | peakWait
  | phase
  | pulseOff
  | decay
  | fault
  deriving DecidableEq, Repr

def OutSt.code : OutSt → Nat
  | .closed => 0
  | .peakWait => 1
  | .phase => 2
  | .pulseOff => 3
  | .decay => 4
  | .fault => 5

/-- The kinds of decay (R189), coded as OUTk_STAT codes them. -/
inductive DecayKind where
  | none
  | chop
  | stepDown
  | turnOff
  deriving DecidableEq, Repr

def DecayKind.code : DecayKind → Nat
  | .none => 0
  | .chop => 1
  | .stepDown => 2
  | .turnOff => 3

/-- The turn-off styles of Table 6-3. -/
inductive Style where
  | slow
  | fast
  | clamp
  deriving DecidableEq, Repr

/-- One outlet's sequencer. -/
structure OutletState where
  st : OutSt
  prof : Nat
  /-- Phase index; 6 is the implied OFF of R184. -/
  ph : Nat
  entry : Time
  /-- The LG's level, and the instants at which it last rose and last fell. -/
  lg : Bool
  lgRise : Time
  lgFall : Time
  decay : DecayKind
  style : Style
  decayAt : Time
  /-- The decay was demoted from FAST to CLAMP (R192); it ran under row 2 of Table 6-4. -/
  demoted : Bool
  row2 : Bool
  /-- The turn-off decay follows a pulse close (Table 6-5). -/
  afterPulse : Bool
  /-- A peak with END = TIME has reached its target and is chopped. -/
  reached : Bool
  /-- The last action in force is ON (R206). -/
  lastOn : Bool
  retries : Nat
  faultAt : Time
  /-- The running grid index, and the instant at which the pulse closes; none while it does not close (R200). -/
  pulse : Int
  closeAt : Option Time
  /-- H of the running pulse, ns, by the D that governs it (R200, R201). -/
  hNs : Nat
  firstPulse : Bool
  /-- The peak request: its cycle, whether it is the first opening of an ON, and whether it opens a later pulse of the
  train (R194, R195). -/
  reqAt : Time
  reqFirst : Bool
  reqTrain : Bool
  lateFlag : Bool
  boostSub : Bool
  /-- PROP: accumulator, period index, duty, previous mean, sum and count of the period, its start (R204). -/
  acc : Nat
  propN : Nat
  duty : Nat
  propM : Nat
  propSum : Nat
  propCnt : Nat
  propAt : Time
  /-- The latest code, the highest of the actuation, and the latest 16 codes. -/
  code : Nat
  maxCode : Nat
  recent : List Nat
  /-- The latest unblanked code with its sampling instant, and the highest unblanked code of the phase (R182). -/
  reg : Nat
  regAt : Time
  phMax : Nat
  ocRun : Nat
  decRun : Nat
  deriving DecidableEq, Repr

/-- The detector states of Table 7-1. -/
inductive DetSt where
  | quiet
  | openWait
  | openSearch
  | closeWait
  | closeSearch
  deriving DecidableEq, Repr

/-- One learned quantity (R222, R223). -/
structure LearnQ where
  n : Nat
  e : Nat
  /-- NOT_FOUND windows in a row. -/
  run : Nat
  relearn : Bool
  /-- The reference of a relearned quantity until n reaches 8. -/
  ref : Option Nat
  /-- The published delay, ns, once learned or seeded. -/
  pub : Option Nat
  clamped : Bool
  deriving DecidableEq, Repr

/-- The dip tracker of R215: the LG rise that began its on-interval, the interval's highest sample, and the candidate's
minimum with its sampling instant. -/
structure DipTrack where
  rise : Option Time
  h : Option Nat
  cand : Option (Nat × Time)
  deriving DecidableEq, Repr

def DipTrack.clear : DipTrack := { rise := none, h := none, cand := none }

/-- A span of time in which an outlet was peak owner of the bank (R197); no end while it still is. -/
structure PeakSpan where
  who : OutIx
  start : Time
  stop : Option Time
  deriving DecidableEq, Repr

/-- One outlet's detector and its learned delays. -/
structure DetState where
  st : DetSt
  so : Time
  sc : Time
  /-- The reference r of the window in force, ns, and the window's bounds. -/
  r : Nat
  winLo : Time
  winHi : Time
  reopen : Bool
  suspended : Bool
  subst : Bool
  actOpen : Bool
  actClose : Bool
  /-- The end of the turn-off decay, once known, and whether it timed out, was demoted or ran under row 2. -/
  decayEnd : Option Time
  badDecay : Bool
  /-- A closing of O0 to O5 whose ESTIMATED report is due (R218). -/
  pendEst : Bool
  /-- The opening start waits for the peak grant (R213), with the ACT mark it will carry. -/
  openPend : Bool
  openPendAct : Bool
  maxCode : Nat
  /-- The tracker of the opening search, and the instant of the first dip it has confirmed. -/
  trk : DipTrack
  dip : Option Time
  lastSc : Option Time
  don : LearnQ
  doff : LearnQ
  /-- The pending peak wait w, ns (R226). -/
  w : Nat
  wear : Bool
  /-- Consecutive NOT_FOUND openings with LG drive present (R229). -/
  stuckRun : Nat
  stuck : Bool
  closeFail : Bool
  lastOn : Nat
  lastOff : Nat
  /-- The d_on and d_off last sent in DLY. -/
  sentOn : Option Nat
  sentOff : Option Nat
  /-- Consecutive L1 samples of a MOTOR outlet that met the run or the stop condition (R228). -/
  motorRun : Nat
  /-- The first of those samples. -/
  motorAt : Time
  deriving DecidableEq, Repr

/-- One lane's bank: sequencers, peak arbitration, boost readiness (chapter 6) and detectors (chapter 7). -/
structure BankState where
  out : Vector OutletState 8
  det : Vector DetState 8
  owner : Option OutIx
  /-- The latest spans of peak ownership, newest first: they mark the samples of the other outlets BANK_PEAK (R197). -/
  spans : List PeakSpan
  requests : List OutIx
  lastGrant : OutIx
  hsOn : Bool
  /-- Latest VBST and VBAT, 10 mV (R183). -/
  vbst : Nat
  vbat : Nat
  vbstReady : Bool
  demote : Bool
  deriving DecidableEq, Repr

def OutletState.reset : OutletState :=
  { st := .closed, prof := 0, ph := 0, entry := 0, lg := false, lgRise := 0, lgFall := 0, decay := .none, style := .slow,
    decayAt := 0, demoted := false, row2 := false, afterPulse := false, reached := false, lastOn := false,
    retries := 0, faultAt := 0, pulse := 0, closeAt := none, hNs := 0, firstPulse := false, reqAt := 0,
    reqFirst := false, reqTrain := false, lateFlag := false, boostSub := false, acc := 0, propN := 0, duty := 0, propM := 0, propSum := 0, propCnt := 0,
    propAt := 0, code := 0, maxCode := 0, recent := [], reg := 0, regAt := 0, phMax := 0, ocRun := 0, decRun := 0 }

def LearnQ.reset : LearnQ :=
  { n := 0, e := 0, run := 0, relearn := false, ref := none, pub := none, clamped := false }

def DetState.reset : DetState :=
  { st := .quiet, so := 0, sc := 0, r := 0, winLo := 0, winHi := 0, reopen := false, suspended := false,
    subst := false, actOpen := false, actClose := false, decayEnd := none, badDecay := false, pendEst := false,
    openPend := false, openPendAct := false, maxCode := 0, trk := .clear, dip := none,
    lastSc := none,     don := .reset, doff := .reset, w := 0, wear := false, stuckRun := 0, stuck := false, closeFail := false, lastOn := 0,
    lastOff := 0, sentOn := none, sentOff := none, motorRun := 0, motorAt := 0 }

/-- A bank after reset: every outlet CLOSED, every gate low, VBST ready until a result is below VBST_MIN (R198). -/
def BankState.reset : BankState :=
  { out := Vector.replicate 8 .reset, det := Vector.replicate 8 .reset, owner := none, spans := [], requests := [],
    lastGrant := 7, hsOn := false, vbst := 0, vbat := 0, vbstReady := true, demote := false }

end Sys2Proof.Machine
end

