-- ==== Sys2Proof/Machine/Blocks3.lean ====
section
/-! DEFINITION. State of a lane's PWM generators, closed-loop engine and feedback interface (chapters 8, 9 and 10): plain
records. -/
namespace Sys2Proof.Machine

/-- One PWM generator (R233 to R246). Positions count TCLK cycles. -/
structure GenState where
  running : Bool
  draining : Bool
  /-- The TCLK cycle at which u was, or would have been, 0 in the current period. -/
  base : Nat
  /-- L_k, P_k and C_k of the current period, and its frame index. -/
  len : Nat
  per : Nat
  cmp : Nat
  j : Nat
  /-- Active MODE and OE, the carrier kind last selected and that of the running period (true: CENTER), and the active PERIOD
  and CMP words. -/
  mode : Nat
  oe : Bool
  center : Bool
  cur : Bool
  perAct : Nat
  cmpAct : Nat
  /-- The shadow pair: PERIOD and CMP written since the last transfer, closed, HELD, and the cycles of the latest CMP or
  COMMIT and of the latest write. -/
  perW : Bool
  cmpW : Bool
  cmpHost : Bool
  closed : Bool
  held : Bool
  closedAt : Nat
  /-- The latest reload transferred a host-written CMP without a PERIOD (R240). -/
  cmpOnly : Bool
  /-- MODE and OE that wait for a reload, with the cycle they were written in (R241, R242). -/
  modePend : Option (Nat × Bool × Nat)
  /-- The level S had at the end of the previous segment, since which cycle, and the cycle the segment began. -/
  prevLvl : Bool
  prevSince : Nat
  segLo : Nat
  /-- Safe state has ended and no reload has come since (R247). -/
  afterSafe : Bool
  /-- G1 or G2 runs under LINK while G0, whose counter it uses, stands (R236). -/
  halted : Bool
  /-- The cycle of the latest reload or start. -/
  reAt : Nat
  /-- The cycles of the latest ZERO mark and of the latest with frame index 0, and the ZERO and MID marks of the periods up
  to the present one's start (R233, R243). -/
  zeroAt : Option Nat
  zero0 : Option Nat
  zeros : Nat
  mids : Nat
  deriving DecidableEq, Repr

/-- MODE and OE for one phase in a compare set; no MODE where the set leaves it. -/
structure PhaseSet where
  mode : Option Nat
  oe : Bool
  deriving DecidableEq, Repr

/-- A compare set of the engine, due at an instant (R242, R268): an L0 sample's set carries |u|, any other the CMP of the
latest L0 sample. -/
structure EngSet where
  due : Time
  u : Option Nat
  phases : Option (PhaseSet × PhaseSet × PhaseSet)
  deriving DecidableEq, Repr

/-- The generators of one lane. -/
structure PwmState where
  gen : Vector GenState 4
  sets : List EngSet
  /-- When safe state began. -/
  safeAt : Option Time
  deriving DecidableEq, Repr

/-- A biquad section's histories, Q23.16 (R258). -/
structure Section where
  x1 : Int
  x2 : Int
  y1 : Int
  y2 : Int
  deriving DecidableEq, Repr

/-- One loop of the engine (R251 to R266). -/
structure LoopSt where
  secs : List Section
  sp : Int
  y : Int
  u : Int
  yhat : Int
  satHi : Bool
  satLo : Bool
  frozen : Bool
  /-- Hawthorn: the model Y^, the state, the runs of bad and of good samples, the samples spent IMPLAUSIBLE. -/
  model : Int
  first : Bool
  implaus : Bool
  badRun : Nat
  goodRun : Nat
  implausN : Nat
  bank : Fin 2
  swapPend : Bool
  /-- A live write of the loop has been recorded since the seal. -/
  liveSeen : Bool
  deriving DecidableEq, Repr

/-- What the runtime registers of a loop and of its engine show of one sample (R252, R275). -/
structure EngShow where
  loops : Vector LoopSt 3
  fric : Int
  cog : Int
  uNeg : Bool
  running : Bool
  stopped : Bool
  safeStop : Bool
  count : Nat
  freq : Nat
  deriving DecidableEq, Repr

/-- Edge timing of R52 as R253 applies it to AIN. -/
structure EdgeFreq where
  refAt : Option Time
  lastAt : Option Time
  n : Nat
  eLast : Nat
  f : Nat
  deriving DecidableEq, Repr

/-- The engine of one lane. -/
structure EngState where
  running : Bool
  stopped : Bool
  safeStop : Bool
  draining : Bool
  i : Nat
  j : Nat
  lastTrig : Option Time
  loops : Vector LoopSt 3
  /-- Coefficients by (2 × loop + bank) × 32 + i (R263). -/
  coef : Sparse Word
  cmpLast : Nat
  uNeg : Bool
  uZero : Bool
  fric : Int
  cog : Int
  /-- Commutation: the sector in use, its direction, the instants of the last valid Hall changes, dead reckoning. -/
  sigma : Nat
  hallOk : Bool
  dirNeg : Bool
  hallAt : Option Time
  hallInt : Option Time
  commLost : Bool
  commSeen : Bool
  dr : Bool
  drSteps : Nat
  drAt : Time
  /-- The last non-zero set-point of L1 (R228). -/
  spNonzero : Int
  /-- Latest AIN code and the one before it, whether a result ≤ LO has come since the last edge, and the frequency. -/
  ain : Nat
  ainOld : Nat
  ainLow : Bool
  ainF : EdgeFreq
  /-- The instant of the latest conversion known. -/
  ainAt : Option Time
  dem : Word
  /-- The marks its trigger generator had emitted when the engine started (R250). -/
  trigBase : Nat
  /-- The set-point input before its first change in an LCLK cycle, with that cycle (R252). -/
  spLatch : Option (Nat × Int)
  /-- What the runtime registers go on showing until the compare set of the latest sample is written (R252). -/
  shown : EngShow
  showAt : Time
  deriving DecidableEq, Repr

/-- What the engine latches of a feedback interface (R286). -/
structure FbkLatch where
  p : Int
  spd : Int
  freq : Nat
  wire : BitVec 3
  hallBad : Bool
  faultSeen : Bool
  deriving DecidableEq, Repr

/-- The feedback interface of one lane (chapter 10). -/
structure FbkState where
  active : Bool
  c : Int
  p : Int
  dNeg : Bool
  pend : Bool
  /-- Filtered [Z B A]. -/
  lvl : BitVec 3
  sigmaLast : Option Nat
  hallBad : Bool
  wire : BitVec 3
  homed : Bool
  idxErr : Option Int
  idxLast : Int
  /-- Reference count, latest count, counts since the reference, and E_last (R284). -/
  refAt : Option Time
  refP : Int
  lastAt : Option Time
  n : Nat
  eLast : Nat
  lastNeg : Bool
  timeout : Bool
  /-- Published at the latest update. -/
  posPub : Int
  spd : Int
  freq : Nat
  edges : Nat
  /-- HALL_SKIP or ILLEGAL since the engine's previous accepted trigger, and in the LCLK cycle of `latch` (R286). -/
  faultSeen : Bool
  faultNow : Bool
  /-- What the interface gave before its first change in an LCLK cycle, with that cycle (R252). -/
  latch : Option (Nat × FbkLatch)
  /-- Emulation: b, e_o, the last step, lag. -/
  emB : Int
  emO : Int
  emAt : Time
  emLag : Bool
  emSeen : Bool
  deriving DecidableEq, Repr

def GenState.reset : GenState :=
  { running := false, draining := false, base := 0, len := 20000, per := 20000, cmp := 0, j := 0, mode := 0,
    oe := true, center := false, cur := false, perAct := 0x4E200, cmpAct := 0, perW := false, cmpW := false, cmpHost := false,
    closed := false, held := false, closedAt := 0, cmpOnly := false, modePend := none, prevLvl := false,
    prevSince := 0, segLo := 0, afterSafe := false, halted := false, reAt := 0, zeroAt := none, zero0 := none,
    zeros := 0, mids := 0 }

def PwmState.reset : PwmState := { gen := Vector.replicate 4 .reset, sets := [], safeAt := some 0 }

def Section.zero : Section := { x1 := 0, x2 := 0, y1 := 0, y2 := 0 }

def LoopSt.reset : LoopSt :=
  { secs := List.replicate 6 .zero, sp := 0, y := 0, u := 0, yhat := 0, satHi := false, satLo := false,
    frozen := false, model := 0, first := true, implaus := false, badRun := 0, goodRun := 0, implausN := 0, bank := 0,
    swapPend := false, liveSeen := false }

def EdgeFreq.reset : EdgeFreq := { refAt := none, lastAt := none, n := 0, eLast := 0, f := 0 }

def EngShow.reset : EngShow :=
  { loops := Vector.replicate 3 .reset, fric := 0, cog := 0, uNeg := false, running := false, stopped := false,
    safeStop := false, count := 0, freq := 0 }

def EngState.reset : EngState :=
  { running := false, stopped := false, safeStop := false, draining := false, i := 0, j := 0, lastTrig := none,
    loops := Vector.replicate 3 .reset, coef := [], cmpLast := 0, uNeg := false, uZero := true, fric := 0, cog := 0,
    sigma := 0, hallOk := false, dirNeg := false, hallAt := none, hallInt := none, commLost := false,
    commSeen := false, dr := false, drSteps := 0, drAt := 0, spNonzero := 0, ain := 0, ainOld := 0, ainLow := false,
    ainF := .reset, ainAt := none, dem := 0, trigBase := 0, spLatch := none, shown := .reset, showAt := 0 }

def FbkState.reset : FbkState :=
  { active := false, c := 0, p := 0, dNeg := false, pend := false, lvl := 0, sigmaLast := none, hallBad := false,
    wire := 0, homed := false, idxErr := none, idxLast := 0, refAt := none, refP := 0, lastAt := none, n := 0,
    eLast := 0, lastNeg := false, timeout := false, posPub := 0, spd := 0, freq := 0, edges := 0, faultSeen := false,
    faultNow := false, latch := none, emB := 0, emO := 0, emAt := 0, emLag := false, emSeen := false }

end Sys2Proof.Machine
end

