-- ==== Sys2Proof/Machine/Blocks4.lean ====
section
/-! DEFINITION. State of the coverage and prescription maps (chapter 3): plain records. -/
namespace Sys2Proof.Machine

/-- A stroke (R104). Coordinates in mm. -/
structure Stroke where
  e0 : Int
  n0 : Int
  e1 : Int
  n1 : Int
  width : Nat
  paint : Nat
  outlet : Nat
  job : Nat
  tick : Nat
  deriving DecidableEq, Repr

/-- The slot states of Table 3-6, coded as SLOT_STAT codes them. -/
inductive SlotSt where
  | free
  | requested
  | resident
  | evicting
  deriving DecidableEq, Repr

def SlotSt.code : SlotSt → Nat
  | .free => 0
  | .requested => 1
  | .resident => 2
  | .evicting => 3

/-- One slot of the window, with each half's copy of its cells: 256 coverage words and 128 prescription words (R88). -/
structure Slot where
  st : SlotSt
  tc : Int
  tr : Int
  gen : Nat
  covOk : Bool
  prxOk : Bool
  damaged : Bool
  /-- Evicted before its seed was merged (R89). -/
  partial_ : Bool
  /-- Its tile is wanted in the latest demand phase. -/
  wanted : Bool
  /-- A prescription tile flagged DEFAULT_RATE is in force. -/
  defRate : Bool
  /-- When the last request was posted, and its RETRY. -/
  reqAt : Option Time
  retry : Nat
  /-- The evicted item has been posted, and consumed. -/
  posted : Bool
  consumed : Bool
  /-- A late read of the tile has been recorded in this residency. -/
  lateSeen : Bool
  cov : Vector (Sparse Nat) 2
  prx : Vector (Sparse Nat) 2
  deriving DecidableEq, Repr

/-- The device's verdict on a tile item that waits to retire: admitted, or discarded with STATUS and DETAIL. -/
structure Verdict where
  at_ : Time
  discard : Option (Nat × Nat)
  deriving DecidableEq, Repr

/-- The kept end line of an outlet of a node (R144): the point, the chord and the tick of the stroke. -/
structure EndLine where
  node : Nat
  outlet : Nat
  e : Int
  n : Int
  de : Int
  dn : Int
  tick : Nat
  deriving DecidableEq, Repr

/-- A stroke with its start line resolved: the normal of the line through (E0, N0). -/
structure LinedStroke where
  st : Stroke
  de : Int
  dn : Int
  deriving DecidableEq, Repr

/-- The part of a received stroke for one tile, tagged with the slot's GEN at admission (R107). -/
structure RxPart where
  ls : LinedStroke
  tc : Int
  tr : Int
  gen : Nat
  at_ : Time
  deriving DecidableEq, Repr

/-- A spill item that waits for Q14 credit (R109). -/
structure Spill where
  tc : Int
  tr : Int
  reason : Nat
  job : Nat
  strokes : List Stroke
  deriving DecidableEq, Repr

structure MapState where
  slots : Sparse Slot
  /-- Verdicts on the items at the front of Q0 and Q1. -/
  verdicts : Vector (List Verdict) 2
  /-- Queued requests: slot and GEN. -/
  reqQ : List (Nat × Nat)
  /-- The tick of the latest request posted, and how many that tick has posted (R96). -/
  reqTick : Nat
  reqN : Nat
  /-- This device's strokes of the latest tick, not painted yet. -/
  own : List Stroke
  /-- Received stroke parts, in arrival order. -/
  rx : List RxPart
  ends : List EndLine
  /-- The sender table of R106: node and last SEQ admitted. -/
  senders : List (Nat × Option Nat)
  spills : List Spill
  flushing : Bool
  flushN : Nat
  /-- Tiles of which a conflict was recorded in this tick, and a stalled or a slotless late read in this residency. -/
  conflictSeen : List (Int × Int)
  stallSeen : List (Int × Int)
  lateSeen : List (Int × Int)
  /-- Situations of Table 3-8 that the reads of the decision phase have met. -/
  late : Bool
  conflict : Bool
  stalled : Bool
  /-- WIN_READY and MAP_WANTED of the latest demand phase, published at τ_m + 80 µs (R100). -/
  readyNext : Bool
  wantedNext : Nat
  /-- The CRC-32 of the slot table after the latest demand phase (R333). -/
  slotCrc : Word
  deriving DecidableEq, Repr

def Slot.reset : Slot :=
  { st := .free, tc := 0, tr := 0, gen := 0, covOk := false, prxOk := false, damaged := false, partial_ := false,
    wanted := false, defRate := false, reqAt := none, retry := 0, posted := false, consumed := false,
    lateSeen := false, cov := Vector.replicate 2 [], prx := Vector.replicate 2 [] }

def MapState.reset : MapState :=
  { slots := [], verdicts := Vector.replicate 2 [], reqQ := [], reqTick := 0, reqN := 0, own := [], rx := [],
    ends := [], senders := [], spills := [], flushing := false, flushN := 0, conflictSeen := [], stallSeen := [],
    lateSeen := [], late := false, conflict := false, stalled := false,
    readyNext := false, wantedNext := 0, slotCrc := 0 }

end Sys2Proof.Machine
end

