-- ==== Sys2Proof/Machine/Blocks5.lean ====
section
/-! DEFINITION. State of the pose propagator, the ground-speed inputs, the IMU port, outlet travel and the Footprint Engine
(chapters 2 and 4): plain records. Both halves compute the same (R17, R146), so one copy is kept. -/
namespace Sys2Proof.Machine

/-- A pose word (Table 2-2) without its CRC; `k` is RING_TIME / 100,000 ns and gives SEQ. -/
structure PoseWord where
  k : Nat
  east : Int
  north : Int
  up : Int
  heading : Nat
  yaw : Int
  speed : Int
  quality : Nat
  pitch : Int
  roll : Int
  hAcc : Nat
  vAcc : Nat
  implH : Nat
  hitch : Nat
  accel : Int
  node : Nat
  deriving DecidableEq, Repr

/-- A ground-speed input (R52). -/
structure GsIn where
  /-- Accepted edges not used yet: stamp and instant of acceptance. -/
  acc : List (Time × Time)
  /-- The reference edge: the last edge used. -/
  ref : Option Time
  /-- The last measured period: time over so many edges. -/
  meas : Option (Nat × Nat)
  spd : Int
  /-- Accepted edges since the input was enabled, up to 2. -/
  cnt : Nat
  deriving DecidableEq, Repr

/-- A disagreement of two sources (R56): since which pose instant, and whether it has been recorded. -/
structure Disagree where
  since : Time
  seen : Bool
  deriving DecidableEq, Repr

structure PoseState where
  cur : PoseWord
  /-- The latest word was formed while no half could send it (R331). -/
  unsent : Bool
  /-- A position is held (R49). -/
  have_ : Bool
  /-- Position in units of 1 / (2^31 × 10^7) mm. -/
  e : Int
  n : Int
  u : Int
  /-- HEADING × 2^24, modulo 2^56. -/
  hacc : Nat
  yaw : Int
  /-- The latest course of R490 and its measurement instant, ns. -/
  course : Option (Nat × Nat)
  qual : Nat
  coastAt : Option Time
  coastDone : Bool
  /-- H_ACC in 1/10,000 mm, V_ACC in mm. -/
  accU : Nat
  vAcc : Nat
  /-- The correction being slewed, in the units of the position. -/
  corr : Option (Int × Int × Int)
  /-- Delivered solutions not used yet, with their delivery stamps. -/
  sols : List (Time × Solution)
  lastSol : Option Solution
  /-- Delivery of the latest solution with QUAL ≥ SPS. -/
  goodAt : Option Time
  /-- GNSS_LOST has been written for this loss. -/
  lostSeen : Bool
  gs : Vector GsIn 2
  /-- GSB as a direction level (R53): the level in effect, and the changes that have been stable for MINW_US, with when they
  were, that no pose instant has used yet. -/
  dirLevel : Bool
  dirQ : List (Time × Bool)
  gnssSpd : Int
  gnssOk : Bool
  /-- Pairs GSA-GSB, GSA-GNSS, GSB-GNSS. -/
  dis : Vector (Option Disagree) 3
  /-- The outlier that R56 treats as invalid, by its code. -/
  excl : Nat
  sel : Nat
  spdCoast : Option Time
  spdCoastDone : Bool
  /-- acc of R69, and ψi of the latest word. -/
  iacc : Nat
  psiI : Nat
  /-- φs and φmodel of the latest word, signed. -/
  phiS : Int
  phiM : Int
  /-- Since when sensor and model disagree, and agree (R71), and the flag in force. -/
  hBad : Option Time
  hGood : Option Time
  hDis : Bool
  ux : Int
  wi : Int
  /-- Consecutive extrapolated words (R51). -/
  missRun : Nat
  /-- GSOUT: INC, the phase at the cycle `gsAt`, running, clamped (R75, R76). -/
  gsInc : Nat
  gsPhase : Nat
  gsAt : Nat
  gsOn : Bool
  gsClamp : Bool
  deriving DecidableEq, Repr

/-- A burst on the IMU port (R73): the stamp of its sample, when ISPI_CS_N went low, the command byte, how many bytes are read,
SPI mode 3 instead of 0, and the SCLK cycles of a half period of ISPI_CLK. -/
structure ImuBurst where
  stamp : Time
  start : Time
  cmd : Byte
  len : Nat
  mode3 : Bool
  half : Nat
  deriving DecidableEq, Repr

/-- The IMU port (R73, R74). -/
structure ImuState where
  ok : Bool
  lost : Bool
  run : Nat
  /-- The burst in progress. -/
  busy : Option ImuBurst
  lastRead : Time
  yaw : Int
  /-- Scaled body rates (µrad/s) and accelerations (µm/s²) of the latest sample. -/
  rates : Int × Int × Int
  accs : Int × Int × Int
  deriving DecidableEq, Repr

/-- One outlet's travel (R62). -/
structure OutTrav where
  t : Nat
  r : Nat
  sPrev : Int
  s : Int
  deriving DecidableEq, Repr

structure TravState where
  /-- The pose instant of the latest update, with the word and body motion it used. -/
  k : Nat
  word : PoseWord
  ux : Int
  wi : Int
  outs : Vector OutTrav 128
  /-- The pose instant whose update is to be replaced by the zeroing (R63). -/
  zeroK : Option Nat
  /-- The lane's next update carries ZEROED (R160). -/
  zeroFlag : Vector Bool 16
  deriving DecidableEq, Repr

/-- One actuation of an outlet in painting (R143). -/
structure Actuation where
  xOn : Nat
  g0 : Option Nat
  xF : Option Nat
  xOff : Option Nat
  deriving DecidableEq, Repr

/-- A centre of the paint history: travel and field position. -/
structure Centre where
  t : Nat
  e : Int
  n : Int
  deriving DecidableEq, Repr

/-- What the Footprint Engine holds of one outlet. -/
structure OutFpe where
  cmd : Bool
  win : Option Nat
  /-- Targets of the last ON and OFF events. -/
  lastOn : Option Nat
  lastOff : Option Nat
  /-- V_last (R140). -/
  vLast : Nat
  /-- LEAD_CLAMP has been recorded in this ON period. -/
  clampSeen : Bool
  conf : Bool
  /-- The latest state event that fired was ON (R143, R145). -/
  isOn : Bool
  acts : List Actuation
  /-- An OFF that fired before the opening was confirmed. -/
  xfPend : Option Nat
  hist : List Centre
  /-- An ON that fired and waits for its confirmation, with d_on at the firing, ns. -/
  onFired : Option (Time × Nat)
  /-- NO_MOTION was declared for the actuation in progress (R145). -/
  dead : Bool
  /-- Published delays in use, and those that DLY has brought since τ_m. -/
  dOn : Option Nat
  dOff : Option Nat
  dOnNew : Option Nat
  dOffNew : Option Nat
  /-- Results of the latest tick. -/
  lead : Nat
  flow : Nat
  duty : Nat
  free : Nat
  rx : Nat
  deriving DecidableEq, Repr

/-- What step 3 of Table 4-1 found for an outlet in the present tick. -/
structure Prep where
  j : Nat
  /-- The outlet's lane is not FENCED: it takes decisions (R133). -/
  live : Bool
  tk : Nat
  s : Int
  tm : Nat
  dLand : Nat
  dOn : Nat
  dOff : Nat
  rev : Bool
  clamped : Bool
  win : Option (Nat × Nat)
  e : Int
  n : Int
  deriving DecidableEq, Repr

/-- An event of the Footprint Engine (R28), by global outlet, with the tick that decided it. -/
structure FEvent where
  j : Nat
  typ : Nat
  cls : Nat
  val : Nat
  xv : Nat
  tick : Nat
  deriving DecidableEq, Repr

structure FpeState where
  outs : Vector OutFpe 128
  tick : Nat
  /-- The preparations of the present tick, and the word and body motion they used. -/
  prep : List Prep
  prepOk : Bool
  word : PoseWord
  ux : Int
  wi : Int
  /-- Buckets of R135, thousandths of an event, and deferred events of each lane. -/
  bucket : Vector Nat 16
  deferred : Vector (List FEvent) 16
  /-- Events posted to each lane and not acknowledged. -/
  posted : Vector (List FEvent) 16
  /-- Events held for each lane (R168). -/
  hold : Vector (List FEvent) 16
  /-- Rate tables, by (2 × product + bank) × 256 + entry. -/
  tables : Sparse Word
  bank : Nat
  swapPend : Bool
  press : Vector Int 2
  /-- The PSRC lane is FENCED or absent. -/
  pBad : Vector Bool 2
  pLow : Vector Bool 2
  pulse : Vector Nat 2
  /-- The demand of the present tick, published at τ_m + 180 µs. -/
  demand : Vector Nat 2
  decMax : Nat
  decLast : Nat
  /-- The events that the latest decision phase posted, in posting order (R147). -/
  posts : List FEvent
  /-- The present tick has been decided (R147), and the last decided tick (R173). -/
  decided : Bool
  decTick : Nat
  deriving DecidableEq, Repr

def PoseWord.zero : PoseWord :=
  { k := 0, east := 0, north := 0, up := 0, heading := 0, yaw := 0, speed := 0, quality := 0, pitch := 0, roll := 0,
    hAcc := 0, vAcc := 0, implH := 0, hitch := 0, accel := 0, node := 0 }

def GsIn.reset : GsIn := { acc := [], ref := none, meas := none, spd := 0, cnt := 0 }

def PoseState.reset : PoseState :=
  { cur := .zero, unsent := false, have_ := false, e := 0, n := 0, u := 0, hacc := 0, yaw := 0, course := none,
    qual := 0, coastAt := none, coastDone := false, accU := 0, vAcc := 0, corr := none, sols := [], lastSol := none,
    goodAt := none, lostSeen := false, gs := Vector.replicate 2 .reset, dirLevel := false, dirQ := [], gnssSpd := 0, gnssOk := false, dis := Vector.replicate 3 none, excl := 0, sel := 0,
    spdCoast := none, spdCoastDone := false, iacc := 0, psiI := 0, phiS := 0, phiM := 0, hBad := none, hGood := none,
    hDis := false, ux := 0, wi := 0, missRun := 0, gsInc := 0, gsPhase := 0, gsAt := 0, gsOn := false,
    gsClamp := false }

def ImuState.reset : ImuState :=
  { ok := false, lost := false, run := 0, busy := none, lastRead := 0, yaw := 0, rates := (0, 0, 0), accs := (0, 0, 0) }

def OutTrav.reset : OutTrav := { t := 0, r := 0, sPrev := 0, s := 0 }

def TravState.reset : TravState :=
  { k := 0, word := .zero, ux := 0, wi := 0, outs := Vector.replicate 128 .reset, zeroK := none, zeroFlag := Vector.replicate 16 false }

def OutFpe.reset : OutFpe :=
  { cmd := false, win := none, lastOn := none, lastOff := none, vLast := 0, clampSeen := false, conf := false, isOn := false,
    acts := [], xfPend := none, hist := [], onFired := none, dead := false, dOn := none, dOff := none, dOnNew := none,
    dOffNew := none, lead := 0, flow := 0, duty := 0, free := 0, rx := 0 }

def FpeState.reset : FpeState :=
  { outs := Vector.replicate 128 .reset, tick := 0, prep := [], prepOk := false, word := .zero, ux := 0, wi := 0,
    bucket := Vector.replicate 16 8000, deferred := Vector.replicate 16 [], posted := Vector.replicate 16 [],
    hold := Vector.replicate 16 [], tables := [], bank := 0, swapPend := false, press := Vector.replicate 2 0, pBad := Vector.replicate 2 false,
    pLow := Vector.replicate 2 false, pulse := Vector.replicate 2 0, demand := Vector.replicate 2 0, decMax := 0,
    decLast := 0, posts := [], decided := false, decTick := 0 }

end Sys2Proof.Machine
end

