-- ==== Sys2Proof/Machine/Blocks6.lean ====
section
/-! DEFINITION. State of the satellite navigation basebands and of the time pulse (chapter 11): plain records. -/
namespace Sys2Proof.Machine

/-- The channel states of R302, coded as CH_STAT.STATE. -/
inductive ChanSt where
  | idle
  | acq
  | pullIn
  | track
  | burstHold
  deriving DecidableEq, Repr

def ChanSt.code : ChanSt → Nat
  | .idle => 0
  | .acq => 1
  | .pullIn => 2
  | .track => 3
  | .burstHold => 4

/-- One channel of a baseband. -/
structure Chan where
  st : ChanSt
  epoch : Epoch
  sys : Nat
  sv : Nat
  sig : Nat
  cn0 : Nat
  lock : Nat
  /-- Consecutive bursts without signal (R308). -/
  missed : Nat
  deriving DecidableEq, Repr

/-- The MSM messages of one station and epoch time that are being assembled (R306). -/
structure MsmEpoch where
  stn : Nat
  time : Nat
  msgs : List Nat
  deriving DecidableEq, Repr

structure GnssState where
  /-- Channels by 64 × half + channel; unlisted ones are IDLE. -/
  chans : Sparse Chan
  /-- The latest solution of each half. -/
  sol : Vector (Option Solution) 2
  /-- Whether each half's solution is lost (SOL_LOST), and its latest delivery with QUAL ≥ SPS. -/
  lost : Vector Bool 2
  solAt : Vector Time 2
  /-- The first stale measurement after an advance has been recorded (R300). -/
  staleSeen : Bool
  /-- The epoch is to be advanced at the next measurement instant (R301, R309). -/
  advance : Bool
  gifOk : Bool
  gifRun : Nat
  duty : Nat
  dutyRun : Nat
  /-- DUTY as the ball GIF_AGC last took it (R18, R296). -/
  dutyOut : Nat
  burst : Bool
  /-- The parser's bytes, the station in use, the MSM epoch in assembly, the latest complete corrections. -/
  buf : List Byte
  stn : Option Nat
  /-- The message 1005 or 1006 that set the base position. -/
  base : Option (List Byte)
  msm : Option MsmEpoch
  corrAt : Option Time
  rtcmOk : Bool
  /-- Carrier-phase corrections are held (R306). -/
  phaseOk : Bool
  deriving DecidableEq, Repr

/-- The states of Table 11-6, coded as TP_STAT.VALID. -/
inductive TimeVal where
  | none
  | locked
  | holdover
  | expired
  deriving DecidableEq, Repr

def TimeVal.code : TimeVal → Nat
  | .none => 0
  | .locked => 1
  | .holdover => 2
  | .expired => 3

/-- A prepared pulse (R311): the second, its edge and its ideal instant. -/
structure Prepared where
  sec : Nat
  edge : Time
  ideal : Time
  deriving DecidableEq, Repr

structure TimeState where
  val : TimeVal
  model : Option TimeSol
  /-- A of R310, ps. -/
  a : Int
  tAcc0 : Nat
  /-- Latest time solution, and entry to HOLDOVER. -/
  solAt : Time
  holdAt : Time
  next : Option Prepared
  /-- The second last prepared; none while pulses have not started. -/
  lastSec : Option Nat
  /-- The latest edge of the pulse train, and the latest that the ball issued (R18, R316). -/
  lastEdge : Option Time
  outEdge : Option Time
  lastSecIdeal : Option Time
  /-- Ring time of the edge prepared last, ns (R320). -/
  nextRt : Nat
  stopped : Bool
  slewing : Bool
  /-- Sub-pulses of TPULSE_B issued of the present second, and the last one (R312). -/
  subN : Nat
  subLast : Option Time
  deriving DecidableEq, Repr

def Chan.reset : Chan := { st := .idle, epoch := 0, sys := 0, sv := 0, sig := 0, cn0 := 0, lock := 0, missed := 0 }

def GnssState.reset : GnssState :=
  { chans := [], sol := Vector.replicate 2 none, lost := Vector.replicate 2 false, solAt := Vector.replicate 2 0, staleSeen := false,
    advance := false, gifOk := false, gifRun := 0, duty := 0, dutyRun := 0, dutyOut := 0, burst := false, buf := [], stn := none,
    base := none, msm := none, corrAt := none, rtcmOk := false, phaseOk := false }

def TimeState.reset : TimeState :=
  { val := .none, model := none, a := 0, tAcc0 := 0, solAt := 0, holdAt := 0, next := none, lastSec := none,
    lastEdge := none, outEdge := none, lastSecIdeal := none, nextRt := 0, stopped := false, slewing := false, subN := 0, subLast := none }

end Sys2Proof.Machine
end

