-- ==== Sys2Proof/Machine/RegMap.lean ====
section
/-! DEFINITION. The register map: every register of every page with its address (R7, R457), its reset value, its
access codes by bit (R11, R12) and its named fields (R6). Tables 1-7, 1-8, 2-8 to 2-13, 3-16, 4-9 to 4-11, 5-9, 5-10,
6-10 to 6-13, 7-8, 7-9, 8-7, 9-10, 9-11, 10-6, 10-7, 11-10, 11-11, 12-8, 13-10 to 13-12, 14-13 to 14-15, 15-4, 16-8,
17-2, 17-5, 17-6, 17-8 and 17-9 of spec/. The page chapter governs where a summary differs (R16). -/
namespace Sys2Proof.Machine

/-- A named field: the host address of its register and its bits [hi:lo] (R6). -/
structure Fld where
  addr : Nat
  hi : Nat
  lo : Nat
  deriving DecidableEq, Repr

/-- One register, or one array of registers, of a page: offset, counts and strides, reset value, and the bits of each
access code (Table 0-3). Bits in no mask are reserved or read-only. -/
structure RegDef where
  off : Nat
  n1 : Nat := 1
  s1 : Nat := 4096
  n2 : Nat := 1
  s2 : Nat := 4096
  rst : Nat := 0
  rwl : Nat := 0
  rw : Nat := 0
  w1c : Nat := 0
  rc : Nat := 0
  wo : Nat := 0
  deriving DecidableEq, Repr

/-- The kinds of page of Table 17-4. -/
inductive PageKind where
  | sys
  | clk
  | pwr
  | laurel
  | hostq
  | mbox
  | yew
  | nor
  | rtx
  | rtime
  | rtun
  | gnss
  | tpls
  | imu
  | pose
  | gspd
  | fpe
  | map
  | geom
  | rate
  | sched
  | lane
  | outl
  | pwmg
  | loop
  | fbk
  | snap
  deriving DecidableEq, Repr

/-- The header of every page (Table 17-2). -/
def regsHdr : List RegDef :=
  [ { off := 0x0 },
    { off := 0x4, rst := 0x1, rw := 5, wo := 0xa },
    { off := 0x8, rst := 0x10, w1c := 1 },
    { off := 0xc, w1c := 0x3ffff },
    { off := 0x10, rw := 0xffffffff },
    { off := 0x14 },
    { off := 0x18, w1c := 0x80000000 },
    { off := 0x1c },
    { off := 0x20 },
    { off := 0x24 },
    { off := 0x28 } ]

/-- The registers of the SYS page. -/
def regsSys : List RegDef :=
  [ { off := 0x800, rst := 0x102 },
    { off := 0x804, wo := 0x7e },
    { off := 0x808, rw := 0xffff },
    { off := 0x80c, wo := 0xffffffff },
    { off := 0x810 },
    { off := 0x814 },
    { off := 0x818 },
    { off := 0x81c },
    { off := 0x820 },
    { off := 0x824, rst := 0x32100100 },
    { off := 0x828 },
    { off := 0x82c },
    { off := 0x830, w1c := 0x1f } ]

/-- The registers of the CLK page. -/
def regsClk : List RegDef :=
  [ { off := 0x800 },
    { off := 0x804, w1c := 0xf },
    { off := 0x808 },
    { off := 0x80c, rc := 0xffffffff } ]

/-- The registers of the PWR page. -/
def regsPwr : List RegDef :=
  [ { off := 0x100, rst := 0x96006c, rwl := 0x3ff03ff },
    { off := 0x104, rst := 0x87, rwl := 0xff },
    { off := 0x800 },
    { off := 0x804, w1c := 0xff },
    { off := 0x808 },
    { off := 0x80c },
    { off := 0x810 },
    { off := 0x814 },
    { off := 0x818, rc := 0xffffffff },
    { off := 0x81c, rc := 0xffffffff } ]

/-- The registers of the LAUREL page. -/
def regsLaurel : List RegDef :=
  [ { off := 0x100, rst := 0xc0000404, rwl := 0xc003ffff },
    { off := 0x104, rst := 0x3c, rwl := 0xffff },
    { off := 0x800, rst := 0x40000001 },
    { off := 0x804, rst := 0x210030 },
    { off := 0x808, w1c := 0x3ff },
    { off := 0x80c, rc := 0xffffffff },
    { off := 0x810 },
    { off := 0x814, rc := 0xffffffff },
    { off := 0x818, rc := 0xffffffff },
    { off := 0x81c, rc := 0xffffffff },
    { off := 0x820, rc := 0xffffffff },
    { off := 0x824, rc := 0xffffffff },
    { off := 0x828 },
    { off := 0x82c, rc := 0xffffffff },
    { off := 0x840, wo := 0x33 } ]

/-- The registers of the HOSTQ page. -/
def regsHostq : List RegDef :=
  [ { off := 0x100, n1 := 32, s1 := 4, rwl := 0xffffffff },
    { off := 0x800, rst := 0x80040000, rw := 0x800fffff },
    { off := 0x804, w1c := 0x7f },
    { off := 0x808 },
    { off := 0x80c, rc := 0xffffffff },
    { off := 0x810, rc := 0xffffffff },
    { off := 0x814, rc := 0xffffffff },
    { off := 0x818, w1c := 0xffffffff },
    { off := 0x81c, rw := 0xffffffff },
    { off := 0x820 },
    { off := 0x824, wo := 0xffffffff },
    { off := 0x828, rst := 0x1, rw := 0x3ff },
    { off := 0x830, n1 := 4, s1 := 4 },
    { off := 0x880, n1 := 32, s1 := 4 },
    { off := 0x900, n1 := 32, s1 := 4 },
    { off := 0xc00, rw := 0x1f },
    { off := 0xc04 },
    { off := 0xc08, rc := 0xffffffff } ]

/-- The registers of the MBOX page. -/
def regsMbox : List RegDef :=
  [ { off := 0x800, w1c := 0xffff },
    { off := 0x804, rc := 0xffffffff },
    { off := 0x810, n1 := 8, s1 := 0x10, wo := 0xffffffff },
    { off := 0x814, n1 := 8, s1 := 0x10 },
    { off := 0x818, n1 := 8, s1 := 0x10, wo := 1 },
    { off := 0x81c, n1 := 8, s1 := 0x10 } ]

/-- The registers of the YEW page. -/
def regsYew : List RegDef :=
  [ { off := 0x100, rst := 0x32, rwl := 0x8700ffff },
    { off := 0x104, rst := 0x400, rwl := 0xffff },
    { off := 0x800 },
    { off := 0x804, w1c := 0x3f },
    { off := 0x808 },
    { off := 0x80c },
    { off := 0x810, rc := 0xffffffff },
    { off := 0x814, rc := 0xffffffff },
    { off := 0x818, rc := 0xffffffff },
    { off := 0x81c, rc := 0xffffffff },
    { off := 0x820 },
    { off := 0x824 },
    { off := 0x828 },
    { off := 0x82c },
    { off := 0x830 },
    { off := 0xc00, rw := 0x3ff },
    { off := 0xc04, rst := 0x80140258, rw := 0x80ffffff },
    { off := 0xc08 },
    { off := 0xc10, rw := 0x107ff },
    { off := 0xc14, n1 := 8, s1 := 4 } ]

/-- The registers of the NOR page. -/
def regsNor : List RegDef :=
  [ { off := 0x100, rst := 0xbb8, rwl := 0xffff },
    { off := 0x800 },
    { off := 0x804, w1c := 0x3f },
    { off := 0x808 },
    { off := 0x80c },
    { off := 0x810 },
    { off := 0x814 },
    { off := 0x818, rst := 0x10001 },
    { off := 0x81c },
    { off := 0x820 },
    { off := 0x824, rc := 0xffffffff },
    { off := 0x828 } ]

/-- The registers of the RTX pages. -/
def regsRtx : List RegDef :=
  [ { off := 0x100, rst := 0x8100000a, rwl := 0xff00ffff },
    { off := 0x104, rst := 0xc80810, rwl := 0xffffffff },
    { off := 0x108, rst := 0x3e80801, rwl := 0xffffff01 },
    { off := 0x10c, rwl := 0x800003ff },
    { off := 0x800 },
    { off := 0x804, w1c := 0x3ff },
    { off := 0x808 },
    { off := 0x80c, rc := 0xffffffff },
    { off := 0x810, rc := 0xffffffff },
    { off := 0x814, rc := 0xffffffff },
    { off := 0x818, rc := 0xffffffff },
    { off := 0x81c, rc := 0xffffffff },
    { off := 0x820, rc := 0xffffffff },
    { off := 0x824, rc := 0xffffffff },
    { off := 0x828 },
    { off := 0x82c },
    { off := 0x830 },
    { off := 0x840, wo := 3 },
    { off := 0xc00, rw := 0x1f },
    { off := 0xc04 } ]

/-- The registers of the RTIME page. -/
def regsRtime : List RegDef :=
  [ { off := 0x100, rst := 0x50, rwl := 0x1ffff },
    { off := 0x800 },
    { off := 0x804, w1c := 0xf },
    { off := 0x808 },
    { off := 0x80c },
    { off := 0x810 },
    { off := 0x814 },
    { off := 0x818 },
    { off := 0x81c },
    { off := 0x820 } ]

/-- The registers of the RTUN page. -/
def regsRtun : List RegDef :=
  [ { off := 0x100, rst := 0xc000000a, rwl := 0xc000ffff },
    { off := 0x800 },
    { off := 0x804, w1c := 1 },
    { off := 0x808, rw := 0x3ff },
    { off := 0x80c, rw := 0xffffff },
    { off := 0x810, wo := 0x8003001f },
    { off := 0x814, rc := 0xffffffff },
    { off := 0xc00, n1 := 16, s1 := 4, rw := 0xffffffff } ]

/-- The registers of the GNSS pages. -/
def regsGnss : List RegDef :=
  [ { off := 0x100, rst := 0x80000003, rwl := 0x80010303 },
    { off := 0x104, rwl := 0xffffffff },
    { off := 0x108, rwl := 0xffffffff },
    { off := 0x10c, rst := 0x22110200, rwl := 0xbffff3ff },
    { off := 0x110, rst := 0x3ff, rwl := 0x3ff },
    { off := 0x114, rst := 0x200008, rwl := 0x7f007f },
    { off := 0x118, rst := 0xa09c4, rwl := 0xffffff },
    { off := 0x11c, rst := 0x64, rwl := 0xc000ffff },
    { off := 0x120, rst := 0x80000064, rwl := 0x9fffffff },
    { off := 0x124, rst := 0x20, rwl := 0x7f },
    { off := 0x800 },
    { off := 0x804, w1c := 0xff },
    { off := 0x808 },
    { off := 0x80c },
    { off := 0x810 },
    { off := 0x814 },
    { off := 0x818 },
    { off := 0x81c },
    { off := 0x820 },
    { off := 0x824 },
    { off := 0x828 },
    { off := 0x82c },
    { off := 0x830, rc := 0xffffffff },
    { off := 0x834, rc := 0xffffffff },
    { off := 0x838, rc := 0xffffffff },
    { off := 0xc00, rw := 0x3f },
    { off := 0xc04 },
    { off := 0xc08 } ]

/-- The registers of the TPLS page. -/
def regsTpls : List RegDef :=
  [ { off := 0x100, rst := 0x800186a0, rwl := 0xf00fffff },
    { off := 0x104, rwl := 0xffffffff },
    { off := 0x108, rwl := 0xe3ffffff },
    { off := 0x10c, rst := 0x258000a, rwl := 0xffffffff },
    { off := 0x110, rst := 0x6400c8, rwl := 0xffff00ff },
    { off := 0x800 },
    { off := 0x804, w1c := 0x3f },
    { off := 0x808, rst := 0xffffffff },
    { off := 0x80c },
    { off := 0x810 },
    { off := 0x814 },
    { off := 0x818 },
    { off := 0x81c },
    { off := 0x820 },
    { off := 0x824 },
    { off := 0x828 },
    { off := 0x82c } ]

/-- The registers of the IMU page. -/
def regsImu : List RegDef :=
  [ { off := 0x100, rst := 0xc2700, rwl := 0xffffff07 },
    { off := 0x104, rst := 0x210, rwl := 0x777 },
    { off := 0x108, rst := 0x600, rwl := 0x1ffff },
    { off := 0x10c, rwl := 0xffffffff },
    { off := 0x110, rwl := 0xffffffff },
    { off := 0x114, rwl := 0xfff0fff },
    { off := 0x800 },
    { off := 0x804 },
    { off := 0x808, rc := 0xffffffff },
    { off := 0x80c } ]

/-- The registers of the POSE page. -/
def regsPose : List RegDef :=
  [ { off := 0x100, rst := 0x30, rwl := 0x3ff00f3 },
    { off := 0x104, rwl := 0xffffffff },
    { off := 0x108, rwl := 0xffffffff },
    { off := 0x10c, rwl := 0xffffffff },
    { off := 0x110, rwl := 0xffffffff },
    { off := 0x114, rwl := 0xffffffff },
    { off := 0x118, rwl := 0xffffffff },
    { off := 0x11c, rst := 0x7d00032, rwl := 0xffffffff },
    { off := 0x120, rst := 0xc8, rwl := 0xffff },
    { off := 0x124, rst := 0x321388, rwl := 0xffffffff },
    { off := 0x128, rst := 0x1f4, rwl := 0xffff },
    { off := 0x12c, rst := 0x320031, rwl := 0xff0fff },
    { off := 0x130, rst := 0x186a0, rwl := 0xffffff },
    { off := 0x134, rst := 0x12c01f4, rwl := 0xffffffff },
    { off := 0x138, rst := 0x16c0000, rwl := 0xffff0003 },
    { off := 0x13c, rwl := 0xffffffff },
    { off := 0x140, rst := 0x800, rwl := 0xfff },
    { off := 0x144, rwl := 0xffffffff },
    { off := 0x148, rst := 0x140028, rwl := 0xffffffff },
    { off := 0x800 },
    { off := 0x804, w1c := 0x7f },
    { off := 0x808 },
    { off := 0x80c },
    { off := 0x810, rc := 0xffffffff },
    { off := 0x814, rc := 0xffffffff },
    { off := 0x818, rc := 0xffffffff },
    { off := 0x840, n1 := 16, s1 := 4 } ]

/-- The registers of the GSPD page. -/
def regsGspd : List RegDef :=
  [ { off := 0x100, rst := 0x1f41400, rwl := 0xffffff0d },
    { off := 0x104, rwl := 0xffffffff },
    { off := 0x108, rst := 0x1f41400, rwl := 0xffffff3d },
    { off := 0x10c, rwl := 0xffffffff },
    { off := 0x110, rst := 0x10, rwl := 0x3f },
    { off := 0x114, rwl := 0xffffffff },
    { off := 0x800 },
    { off := 0x804 },
    { off := 0x808 },
    { off := 0x80c },
    { off := 0x810 },
    { off := 0x814 },
    { off := 0x818, rc := 0xffffffff },
    { off := 0x81c } ]

/-- The registers of the FPE page. -/
def regsFpe : List RegDef :=
  [ { off := 0x100, rst := 0x80400000, rwl := 0xffffff01 },
    { off := 0x104, rst := 0x1901388, rwl := 0xffffffff },
    { off := 0x108, rwl := 0xffffffff },
    { off := 0x10c, rwl := 0xffff },
    { off := 0x110, rst := 0xa, rwl := 0xffff },
    { off := 0x114, rst := 0x32, rwl := 0xffff },
    { off := 0x118, rst := 0x4, rwl := 0xff },
    { off := 0x11c, rwl := 3 },
    { off := 0x400, n1 := 128, s1 := 4, rwl := 0xf000ffff },
    { off := 0x800 },
    { off := 0x804, w1c := 0x1ff },
    { off := 0x808 },
    { off := 0x80c },
    { off := 0x810 },
    { off := 0x814, rc := 0xffffffff },
    { off := 0x818, rc := 0xffffffff },
    { off := 0x81c, rc := 0xffffffff },
    { off := 0x820, rc := 0xffffffff },
    { off := 0x824, rc := 0xffffffff },
    { off := 0x828, rc := 0xffffffff },
    { off := 0x830, n1 := 4, s1 := 4 },
    { off := 0x840, n1 := 4, s1 := 4 },
    { off := 0x850, n1 := 4, s1 := 4, rw := 0xffffffff },
    { off := 0x860, n1 := 4, s1 := 4, rw := 0xffffffff },
    { off := 0x870, rw := 3 },
    { off := 0xc00, rw := 0x7f },
    { off := 0xc04 },
    { off := 0xc08 },
    { off := 0xc0c },
    { off := 0xc10 },
    { off := 0xc14 },
    { off := 0xc18 } ]

/-- The registers of the MAP page. -/
def regsMap : List RegDef :=
  [ { off := 0x100, rst := 0x641030, rwl := 0x3ff1130 },
    { off := 0x104, rst := 0x56, rwl := 0xff },
    { off := 0x108, rst := 0x19000500, rwl := 0xffffffff },
    { off := 0x10c, rst := 0x801f4, rwl := 0xffffff },
    { off := 0x110, rwl := 0xff },
    { off := 0x114, rwl := 0xc07f },
    { off := 0x118, rst := 0x103e8, rwl := 0x1ffff },
    { off := 0x800 },
    { off := 0x804, w1c := 0x1ff },
    { off := 0x808 },
    { off := 0x80c, rst := 0x800 },
    { off := 0x810 },
    { off := 0x820 },
    { off := 0x824 },
    { off := 0x828, rc := 0xffffffff },
    { off := 0x82c, rc := 0xffffffff },
    { off := 0x830, rc := 0xffffffff },
    { off := 0x834, rc := 0xffffffff },
    { off := 0x838, rc := 0xffffffff },
    { off := 0x83c, rc := 0xffffffff },
    { off := 0x840, wo := 3 },
    { off := 0x844, rc := 0xffffffff },
    { off := 0x848 },
    { off := 0x84c, rc := 0xffffffff },
    { off := 0x850, rc := 0xffffffff },
    { off := 0x854, rc := 0xffffffff },
    { off := 0x858, rc := 0xffffffff },
    { off := 0x85c, rc := 0xffffffff },
    { off := 0x860, rc := 0xffffffff },
    { off := 0x864 },
    { off := 0xc00, rw := 0x7ff },
    { off := 0xc04 },
    { off := 0xc08 },
    { off := 0xc0c },
    { off := 0xc10, rw := 0xfff },
    { off := 0xc14 } ]

/-- The registers of the GEOM page. -/
def regsGeom : List RegDef :=
  [ { off := 0x400, n1 := 128, s1 := 8, rwl := 0xffffffff },
    { off := 0x404, n1 := 128, s1 := 8, rwl := 0xc000ffff },
    { off := 0x800 },
    { off := 0x810, n1 := 4, s1 := 4 },
    { off := 0xc00, rw := 0x7f },
    { off := 0xc04 },
    { off := 0xc08 },
    { off := 0xc0c },
    { off := 0xc10 } ]

/-- The registers of the RATE page. -/
def regsRate : List RegDef :=
  [ { off := 0x100, n1 := 2, s1 := 0x20, rst := 0x12c, rwl := 0xfff0ffff },
    { off := 0x104, n1 := 2, s1 := 0x20, rwl := 0xffffffff },
    { off := 0x108, n1 := 2, s1 := 0x20, rwl := 0xffffffff },
    { off := 0x10c, n1 := 2, s1 := 0x20, rwl := 0xffffffff },
    { off := 0x110, n1 := 2, s1 := 0x20, rwl := 0xffff0fff },
    { off := 0x114, n1 := 2, s1 := 0x20, rwl := 0x3ffffff },
    { off := 0x180, wo := 1 },
    { off := 0x184, rw := 0x11 },
    { off := 0x188, n1 := 2, s1 := 4, rst := 0x3e8, rw := 0x7ff },
    { off := 0x800 },
    { off := 0x804, w1c := 0xf },
    { off := 0x808, n1 := 2, s1 := 4 },
    { off := 0x810, n1 := 2, s1 := 4 },
    { off := 0x818, n1 := 2, s1 := 4 },
    { off := 0x820, rc := 0xffffffff },
    { off := 0x824, rc := 0xffffffff },
    { off := 0xc00, n1 := 256, s1 := 4, rw := 0xffffffff } ]

/-- The registers of the SCHED page. -/
def regsSched : List RegDef :=
  [ { off := 0x100, rst := 0x320014, rwl := 0xffffffff },
    { off := 0x104, rst := 0x10, rwl := 0x1f },
    { off := 0x108, rst := 0x64, rwl := 0xffff },
    { off := 0x800 },
    { off := 0x804, w1c := 0x7f },
    { off := 0x808 },
    { off := 0x80c },
    { off := 0x810 },
    { off := 0x814, rc := 0xffffffff } ]

/-- The registers of the LANE pages. -/
def regsLane : List RegDef :=
  [ { off := 0x100, rst := 0x80000010, rwl := 0x800000ff },
    { off := 0x800, rc := 0xffff },
    { off := 0x804, w1c := 0xf },
    { off := 0x808, rc := 0xffffffff },
    { off := 0x80c },
    { off := 0x810 },
    { off := 0x880 },
    { off := 0x884, rc := 0x7f },
    { off := 0x888 },
    { off := 0x88c, rc := 0xffffffff },
    { off := 0x890, rc := 0xffffffff },
    { off := 0x894, rc := 0xffffffff },
    { off := 0x898, rc := 0xffffffff },
    { off := 0x89c, rc := 0xffffffff },
    { off := 0x8a0, rc := 0xffffffff },
    { off := 0x8a4 },
    { off := 0xc00, rw := 0x3f },
    { off := 0xc04 },
    { off := 0xc08 },
    { off := 0xc0c },
    { off := 0xc10 },
    { off := 0xc20, rw := 7 },
    { off := 0xc24 },
    { off := 0xc28 },
    { off := 0xc2c } ]

/-- The registers of the OUTL pages. -/
def regsOutl : List RegDef :=
  [ { off := 0x100, rst := 0x19001f4, rwl := 0xffff07ff },
    { off := 0x104, rst := 0x2bc00014, rwl := 0x3fffffff },
    { off := 0x108, rst := 0x7d00032, rwl := 0xffff0fff },
    { off := 0x10c, rst := 0x19010000, rwl := 0xff03ffff },
    { off := 0x110, rst := 0x3e803e8, rwl := 0xffffffff },
    { off := 0x114, rst := 0x32, rwl := 0xff },
    { off := 0x120, n1 := 8, s1 := 4, rwl := 0x730fffff },
    { off := 0x140, n1 := 8, s1 := 4, rst := 0xfa02000, rwl := 0xffffffff },
    { off := 0x200, n1 := 8, s1 := 0x40, rwl := 0xe700ffff },
    { off := 0x204, n1 := 8, s1 := 0x40, n2 := 6, s2 := 8, rwl := 0xffffffff },
    { off := 0x208, n1 := 8, s1 := 0x40, n2 := 6, s2 := 8, rwl := 0xffffffff },
    { off := 0x234, n1 := 8, s1 := 0x40, rwl := 0xffffffff },
    { off := 0x238, n1 := 8, s1 := 0x40, rwl := 0xffffffff },
    { off := 0x23c, n1 := 8, s1 := 0x40, rwl := 0x1ff0fff },
    { off := 0x800 },
    { off := 0x804, w1c := 0x7ff },
    { off := 0x808 },
    { off := 0x80c, rc := 0x7ffffff },
    { off := 0x810, rc := 0xffffffff },
    { off := 0x814, rc := 0xffffffff },
    { off := 0x818, rc := 0xffffffff },
    { off := 0x81c, rc := 0xffffffff },
    { off := 0x820, rc := 0xffffffff },
    { off := 0x824 },
    { off := 0x828, wo := 0xff },
    { off := 0x840, n1 := 8, s1 := 4 },
    { off := 0x860, n1 := 8, s1 := 4 } ]

/-- The registers of the PWMG pages. -/
def regsPwmg : List RegDef :=
  [ { off := 0x100, rst := 0x80000000, rwl := 0xf0000000 },
    { off := 0x104, rst := 0x40000000, rwl := 0xc00f0000 },
    { off := 0x108, rwl := 0x1ffff },
    { off := 0x10c, rwl := 0x1ffff },
    { off := 0x110, n1 := 4, s1 := 4, rwl := 0x80000001 },
    { off := 0x120, n1 := 3, s1 := 4, rst := 0x280028, rwl := 0x3ff03ff },
    { off := 0x800, w1c := 0xf0000 },
    { off := 0x804, w1c := 0x1f },
    { off := 0x808, wo := 0xf },
    { off := 0x80c },
    { off := 0x810, rc := 0xffffffff },
    { off := 0x814, rc := 0xffffffff },
    { off := 0x818, rc := 0xffffffff },
    { off := 0x81c, rc := 0xffffffff },
    { off := 0x840, n1 := 4, s1 := 0x10, rst := 0x4e200, rw := 0xfffff },
    { off := 0x844, n1 := 4, s1 := 0x10, rw := 0xfffff },
    { off := 0x848, n1 := 4, s1 := 0x10, rst := 0x10, rw := 0x13 },
    { off := 0x84c, n1 := 4, s1 := 0x10 },
    { off := 0x880, n1 := 4, s1 := 8, rst := 0x4e200 },
    { off := 0x884, n1 := 4, s1 := 8 } ]

/-- The registers of the LOOP pages. -/
def regsLoop : List RegDef :=
  [ { off := 0x100, rst := 0x10110, rwl := 0xb73f3f13 },
    { off := 0x104, rwl := 0xf01f0100 },
    { off := 0x108, rst := 0x1, rwl := 0xffffffff },
    { off := 0x10c, rwl := 0xffffff },
    { off := 0x110, rwl := 0xffffffff },
    { off := 0x114, rst := 0x1c0, rwl := 0x1ff },
    { off := 0x118, rwl := 0x8fff0fff },
    { off := 0x11c, rst := 0x1f4, rwl := 0xffff },
    { off := 0x120, rwl := 0xc0ffffff },
    { off := 0x124, rwl := 0xffffffff },
    { off := 0x140, n1 := 3, s1 := 0x20, rwl := 0xf71f0000 },
    { off := 0x144, n1 := 3, s1 := 0x20, rst := 0x1, rwl := 0xffffffff },
    { off := 0x148, n1 := 3, s1 := 0x20, rwl := 0xffffff },
    { off := 0x14c, n1 := 3, s1 := 0x20, rst := 0x7fffff, rwl := 0xffffff },
    { off := 0x150, n1 := 3, s1 := 0x20, rst := 0x800000, rwl := 0xffffff },
    { off := 0x154, n1 := 3, s1 := 0x20, rwl := 0xffffffff },
    { off := 0x158, n1 := 3, s1 := 0x20, rst := 0x8032ffff, rwl := 0xc0ffffff },
    { off := 0x15c, n1 := 3, s1 := 0x20, rwl := 0xffffffff },
    { off := 0x800 },
    { off := 0x804, w1c := 0xff },
    { off := 0x808, rw := 0xffffff },
    { off := 0x80c, wo := 0x701 },
    { off := 0x810, rw := 7 },
    { off := 0x814, n1 := 3, s1 := 4, rst := 0x7070, rw := 0x7777 },
    { off := 0x820, n1 := 3, s1 := 0x10 },
    { off := 0x824, n1 := 3, s1 := 0x10 },
    { off := 0x828, n1 := 3, s1 := 0x10 },
    { off := 0x82c, n1 := 3, s1 := 0x10 },
    { off := 0x850 },
    { off := 0x854, rc := 0xffffffff },
    { off := 0x858, rc := 0xffffff },
    { off := 0x85c, rc := 0xffffff },
    { off := 0x860 },
    { off := 0x864 },
    { off := 0x868 },
    { off := 0x86c },
    { off := 0xc00, rw := 0x31 },
    { off := 0xc40, n1 := 30, s1 := 4, rw := 0xffffffff },
    { off := 0xd00, n1 := 16, s1 := 4, rw := 0xffff },
    { off := 0xe00, n1 := 128, s1 := 4, rw := 0xffffffff } ]

/-- The registers of the FBK pages. -/
def regsFbk : List RegDef :=
  [ { off := 0x100, rst := 0x8000028, rwl := 0xff0000ff },
    { off := 0x104, rst := 0x10050, rwl := 0x1ffff },
    { off := 0x108, rst := 0x80000000, rwl := 0xfeffffff },
    { off := 0x10c, rwl := 0xffffff },
    { off := 0x110, rst := 0x1f4000a, rwl := 0xffff03ff },
    { off := 0x114, rwl := 0xf },
    { off := 0x118, rst := 0x4000064, rwl := 0xcfffffff },
    { off := 0x11c, rst := 0x10001, rwl := 0xffffffff },
    { off := 0x800 },
    { off := 0x804, w1c := 0xfe },
    { off := 0x808 },
    { off := 0x80c },
    { off := 0x810 },
    { off := 0x814, rc := 0xffffffff },
    { off := 0x818, rc := 0xffffffff },
    { off := 0x81c, rc := 0xffffffff },
    { off := 0x820, rc := 0xffffff },
    { off := 0x824 },
    { off := 0x828 },
    { off := 0x82c, wo := 0xffffffff },
    { off := 0x830 } ]

/-- The registers of the SNAP pages. -/
def regsSnap : List RegDef :=
  [ { off := 0x100, rst := 0x10400410, rwl := 0xffff8fff },
    { off := 0x104, rst := 0x14001e, rwl := 0xffff00ff },
    { off := 0x108, rst := 0x500a, rwl := 0xffff },
    { off := 0x120, n1 := 8, s1 := 4, rst := 0xd0000000, rwl := 0xf8000000 },
    { off := 0x140, n1 := 8, s1 := 4, rwl := 0xffffffff },
    { off := 0x160, n1 := 8, s1 := 4, rwl := 0xffffffff },
    { off := 0x800 },
    { off := 0x804, w1c := 0xff },
    { off := 0x808, rc := 0xffffffff },
    { off := 0x80c, rc := 0xffffffff },
    { off := 0x810, rc := 0xffffffff },
    { off := 0x814, rc := 0xffffffff },
    { off := 0x818 },
    { off := 0x840, n1 := 8, s1 := 4 },
    { off := 0x860, n1 := 8, s1 := 4 },
    { off := 0x880, n1 := 8, s1 := 4 },
    { off := 0x8a0, n1 := 8, s1 := 4 },
    { off := 0x8c0, n1 := 8, s1 := 4 } ]

/-! The addresses and fields of SYS. -/
namespace SYS
def STATE : Nat := 0x800
def STATE.LANE_FENCED : Fld := ⟨STATE, 31, 16⟩
def STATE.PFAIL : Fld := ⟨STATE, 15, 15⟩
def STATE.PATCH_OK : Fld := ⟨STATE, 14, 14⟩
def STATE.PREV_STATE : Fld := ⟨STATE, 11, 8⟩
def STATE.DEV_STATE : Fld := ⟨STATE, 3, 0⟩
def RUN_CTRL : Nat := 0x804
def RUN_CTRL.SOFT_RESET : Fld := ⟨RUN_CTRL, 6, 6⟩
def RUN_CTRL.UNSEAL : Fld := ⟨RUN_CTRL, 5, 5⟩
def RUN_CTRL.WAKE : Fld := ⟨RUN_CTRL, 4, 4⟩
def RUN_CTRL.STANDBY : Fld := ⟨RUN_CTRL, 3, 3⟩
def RUN_CTRL.DISARM : Fld := ⟨RUN_CTRL, 2, 2⟩
def RUN_CTRL.ARM : Fld := ⟨RUN_CTRL, 1, 1⟩
def FENCE : Nat := 0x808
def FENCE.LANE : Fld := ⟨FENCE, 15, 0⟩
def SEAL : Nat := 0x80c
def SEAL_STAT : Nat := 0x810
def SEAL_STAT.RESULT : Fld := ⟨SEAL_STAT, 31, 28⟩
def SEAL_STAT.CAUSE : Fld := ⟨SEAL_STAT, 27, 24⟩
def SEAL_STAT.PAGE : Fld := ⟨SEAL_STAT, 23, 12⟩
def SEAL_STAT.OFFSET : Fld := ⟨SEAL_STAT, 11, 0⟩
def SEAL_CRC_CALC : Nat := 0x814
def ARM_STAT : Nat := 0x818
def ARM_STAT.CHARGE : Fld := ⟨ARM_STAT, 4, 4⟩
def ARM_STAT.RING : Fld := ⟨ARM_STAT, 3, 3⟩
def ARM_STAT.WIN : Fld := ⟨ARM_STAT, 2, 2⟩
def ARM_STAT.QUAL : Fld := ⟨ARM_STAT, 1, 1⟩
def ARM_STAT.SPD : Fld := ⟨ARM_STAT, 0, 0⟩
def STRAP : Nat := 0x81c
def BOOT_STAT : Nat := 0x820
def BOOT_STAT.BOOT_MS : Fld := ⟨BOOT_STAT, 31, 16⟩
def BOOT_STAT.CFG_OK : Fld := ⟨BOOT_STAT, 7, 7⟩
def BOOT_STAT.CFG_TRIED : Fld := ⟨BOOT_STAT, 6, 6⟩
def BOOT_STAT.PATCH_OK : Fld := ⟨BOOT_STAT, 5, 5⟩
def BOOT_STAT.PATCH_TRIED : Fld := ⟨BOOT_STAT, 4, 4⟩
def BOOT_STAT.NOR_DIR_OK : Fld := ⟨BOOT_STAT, 3, 3⟩
def BOOT_STAT.LANES_OK : Fld := ⟨BOOT_STAT, 2, 2⟩
def BOOT_STAT.HALVES_OK : Fld := ⟨BOOT_STAT, 1, 1⟩
def BOOT_STAT.ROM_OK : Fld := ⟨BOOT_STAT, 0, 0⟩
def DEV_ID : Nat := 0x824
def UID_LO : Nat := 0x828
def UID_HI : Nat := 0x82c
def SYS_EVT : Nat := 0x830
def SYS_EVT.STATE_CHANGE : Fld := ⟨SYS_EVT, 4, 4⟩
def SYS_EVT.SEAL_DONE : Fld := ⟨SYS_EVT, 3, 3⟩
def SYS_EVT.PFAIL : Fld := ⟨SYS_EVT, 2, 2⟩
def SYS_EVT.LANE_FENCE : Fld := ⟨SYS_EVT, 1, 1⟩
def SYS_EVT.CLOCK_LOSS : Fld := ⟨SYS_EVT, 0, 0⟩
end SYS

/-! The addresses and fields of CLK. -/
namespace CLK
def CLK_STAT : Nat := 0x1800
def CLK_STAT.REFCLK_OK : Fld := ⟨CLK_STAT, 31, 31⟩
def CLK_STAT.SYS_PLL_LOCK : Fld := ⟨CLK_STAT, 30, 30⟩
def CLK_STAT.SERDES_A_LOCK : Fld := ⟨CLK_STAT, 29, 29⟩
def CLK_STAT.SERDES_B_LOCK : Fld := ⟨CLK_STAT, 28, 28⟩
def CLK_STAT.INT_OSC : Fld := ⟨CLK_STAT, 27, 27⟩
def CLK_STAT.PLL : Fld := ⟨CLK_STAT, 15, 0⟩
def CLK_EVT : Nat := 0x1804
def CLK_EVT.SERDES_B_UNLOCK : Fld := ⟨CLK_EVT, 3, 3⟩
def CLK_EVT.SERDES_A_UNLOCK : Fld := ⟨CLK_EVT, 2, 2⟩
def CLK_EVT.PLL_UNLOCK : Fld := ⟨CLK_EVT, 1, 1⟩
def CLK_EVT.REFCLK_LOSS : Fld := ⟨CLK_EVT, 0, 0⟩
def REF_MEAS : Nat := 0x1808
def REF_MEAS.REFCLK : Fld := ⟨REF_MEAS, 15, 0⟩
def SERDES_LOCK_CNT : Nat := 0x180c
end CLK

/-! The addresses and fields of PWR. -/
namespace PWR
def PWR_CFG : Nat := 0x2100
def PWR_CFG.VGD_MAX : Fld := ⟨PWR_CFG, 25, 16⟩
def PWR_CFG.VGD_MIN : Fld := ⟨PWR_CFG, 9, 0⟩
def TEMP_CFG : Nat := 0x2104
def TEMP_CFG.TWARN : Fld := ⟨TEMP_CFG, 7, 0⟩
def PWR_STAT : Nat := 0x2800
def PWR_STAT.PFAIL_N : Fld := ⟨PWR_STAT, 18, 18⟩
def PWR_STAT.TEMP_HI : Fld := ⟨PWR_STAT, 17, 17⟩
def PWR_STAT.OOR : Fld := ⟨PWR_STAT, 13, 8⟩
def PWR_EVT : Nat := 0x2804
def PWR_EVT.TEMP_HI : Fld := ⟨PWR_EVT, 7, 7⟩
def PWR_EVT.PFAIL : Fld := ⟨PWR_EVT, 6, 6⟩
def PWR_EVT.OOR : Fld := ⟨PWR_EVT, 5, 0⟩
def V_CORE : Nat := 0x2808
def V_CORE.VDD_SRAM : Fld := ⟨V_CORE, 31, 16⟩
def V_CORE.VDD_CORE : Fld := ⟨V_CORE, 15, 0⟩
def V_AUX : Nat := 0x280c
def V_AUX.VIO33 : Fld := ⟨V_AUX, 31, 16⟩
def V_AUX.VDDA18 : Fld := ⟨V_AUX, 15, 0⟩
def V_IO : Nat := 0x2810
def V_IO.VGD : Fld := ⟨V_IO, 31, 16⟩
def V_IO.VIO_HN : Fld := ⟨V_IO, 15, 0⟩
def TEMP : Nat := 0x2814
def TEMP_MAX : Nat := 0x2818
def OOR_CNT : Nat := 0x281c
end PWR

/-! The addresses and fields of LAUREL. -/
namespace LAUREL
def LAUREL_CFG : Nat := 0x3100
def LAUREL_CFG.HB0_EN : Fld := ⟨LAUREL_CFG, 31, 31⟩
def LAUREL_CFG.HB1_EN : Fld := ⟨LAUREL_CFG, 30, 30⟩
def LAUREL_CFG.UNDET : Fld := ⟨LAUREL_CFG, 17, 16⟩
def LAUREL_CFG.POSE_LIMIT : Fld := ⟨LAUREL_CFG, 15, 8⟩
def LAUREL_CFG.SLOT_LIMIT : Fld := ⟨LAUREL_CFG, 7, 0⟩
def KAT_CFG : Nat := 0x3104
def KAT_CFG.KAT_S : Fld := ⟨KAT_CFG, 15, 0⟩
def TOKEN : Nat := 0x3800
def TOKEN.HOLDER : Fld := ⟨TOKEN, 31, 31⟩
def TOKEN.VALID : Fld := ⟨TOKEN, 30, 30⟩
def TOKEN.CONFLICT : Fld := ⟨TOKEN, 29, 29⟩
def TOKEN.EPOCH : Fld := ⟨TOKEN, 15, 0⟩
def HALF_STAT : Nat := 0x3804
def HALF_STAT.ROLE_B : Fld := ⟨HALF_STAT, 22, 20⟩
def HALF_STAT.ROLE_A : Fld := ⟨HALF_STAT, 18, 16⟩
def HALF_STAT.SUSPECT_B : Fld := ⟨HALF_STAT, 9, 9⟩
def HALF_STAT.SUSPECT_A : Fld := ⟨HALF_STAT, 8, 8⟩
def HALF_STAT.HB1_OK : Fld := ⟨HALF_STAT, 5, 5⟩
def HALF_STAT.HB0_OK : Fld := ⟨HALF_STAT, 4, 4⟩
def HALF_STAT.SINGLE : Fld := ⟨HALF_STAT, 3, 3⟩
def HALF_STAT.KAT_FAIL_B : Fld := ⟨HALF_STAT, 1, 1⟩
def HALF_STAT.KAT_FAIL_A : Fld := ⟨HALF_STAT, 0, 0⟩
def LAUREL_EVT : Nat := 0x3808
def LAUREL_EVT.HB_PATH : Fld := ⟨LAUREL_EVT, 9, 9⟩
def LAUREL_EVT.REJOINED : Fld := ⟨LAUREL_EVT, 8, 8⟩
def LAUREL_EVT.QUARANTINE : Fld := ⟨LAUREL_EVT, 7, 7⟩
def LAUREL_EVT.KAT_FAIL : Fld := ⟨LAUREL_EVT, 6, 6⟩
def LAUREL_EVT.XCHK_DISAGREE : Fld := ⟨LAUREL_EVT, 5, 5⟩
def LAUREL_EVT.CLAIM_REFUSED : Fld := ⟨LAUREL_EVT, 4, 4⟩
def LAUREL_EVT.TOKEN_CE : Fld := ⟨LAUREL_EVT, 3, 3⟩
def LAUREL_EVT.TIE : Fld := ⟨LAUREL_EVT, 2, 2⟩
def LAUREL_EVT.HANDOVER : Fld := ⟨LAUREL_EVT, 1, 1⟩
def LAUREL_EVT.TAKEOVER : Fld := ⟨LAUREL_EVT, 0, 0⟩
def TAKEOVER_CNT : Nat := 0x380c
def TAKEOVER_LAST : Nat := 0x3810
def TAKEOVER_LAST.INVALID : Fld := ⟨TAKEOVER_LAST, 29, 29⟩
def TOKEN_CE_CNT : Nat := 0x3814
def CLAIM_REFUSED_CNT : Nat := 0x3818
def HB_MISS_CNT : Nat := 0x381c
def POSE_MISMATCH_CNT : Nat := 0x3820
def SLOT_MISMATCH_CNT : Nat := 0x3824
def XCHK_STAT : Nat := 0x3828
def XCHK_STAT.RESULT : Fld := ⟨XCHK_STAT, 31, 30⟩
def TIE_CNT : Nat := 0x382c
def LAUREL_CTRL : Nat := 0x3840
def LAUREL_CTRL.REJOIN_B : Fld := ⟨LAUREL_CTRL, 5, 5⟩
def LAUREL_CTRL.REJOIN_A : Fld := ⟨LAUREL_CTRL, 4, 4⟩
def LAUREL_CTRL.KAT_NOW : Fld := ⟨LAUREL_CTRL, 1, 1⟩
def LAUREL_CTRL.HANDOVER : Fld := ⟨LAUREL_CTRL, 0, 0⟩
end LAUREL

/-! The addresses and fields of HOSTQ. -/
namespace HOSTQ
def Q_CFG (q : Nat) : Nat := 0x4100 + 4 * q
def Q_CFG.BUF_BLK (q : Nat) : Fld := ⟨Q_CFG q, 31, 16⟩
def Q_CFG.THR (q : Nat) : Fld := ⟨Q_CFG q, 15, 8⟩
def Q_CFG.AGE_MS (q : Nat) : Fld := ⟨Q_CFG q, 7, 0⟩
def HP_CFG : Nat := 0x4800
def HP_CFG.HIRQ_EN : Fld := ⟨HP_CFG, 31, 31⟩
def HP_CFG.DUMMY : Fld := ⟨HP_CFG, 19, 16⟩
def HP_CFG.HOLDOFF_US : Fld := ⟨HP_CFG, 15, 0⟩
def HP_EVT : Nat := 0x4804
def HP_EVT.SEQ_ERR : Fld := ⟨HP_EVT, 6, 6⟩
def HP_EVT.REFUSED : Fld := ⟨HP_EVT, 5, 5⟩
def HP_EVT.CRC_ERR : Fld := ⟨HP_EVT, 4, 4⟩
def HP_EVT.CMPL_OVF : Fld := ⟨HP_EVT, 3, 3⟩
def HP_EVT.CMPL : Fld := ⟨HP_EVT, 2, 2⟩
def HP_EVT.QIRQ : Fld := ⟨HP_EVT, 1, 1⟩
def HP_EVT.TIMEOUT : Fld := ⟨HP_EVT, 0, 0⟩
def HP_STAT : Nat := 0x4808
def HP_STAT.DRAINING : Fld := ⟨HP_STAT, 16, 16⟩
def CRC_ERR_CNT : Nat := 0x480c
def REFUSE_CNT : Nat := 0x4810
def CMPL_DROP_CNT : Nat := 0x4814
def QIRQ_RAW : Nat := 0x4818
def QIRQ_MASK : Nat := 0x481c
def QIRQ_PEND : Nat := 0x4820
def Q_FLUSH : Nat := 0x4824
def CMPL_THR : Nat := 0x4828
def IRQ_SUM (i : Nat) : Nat := 0x4830 + 4 * i
def Q_CRED (q : Nat) : Nat := 0x4880 + 4 * q
def Q_SEQ (q : Nat) : Nat := 0x4900 + 4 * q
def Q_SEQ.SEQ (q : Nat) : Fld := ⟨Q_SEQ q, 31, 16⟩
def Q_IDX : Nat := 0x4c00
def Q_ITEMS : Nat := 0x4c04
def Q_DROP : Nat := 0x4c08
def Q_DROP.SEQ_ERR : Fld := ⟨Q_DROP, 31, 16⟩
end HOSTQ

/-! The addresses and fields of MBOX. -/
namespace MBOX
def MB_EVT : Nat := 0x5800
def MB_EVT.EMPTY : Fld := ⟨MB_EVT, 15, 8⟩
def MB_EVT.DB_IN : Fld := ⟨MB_EVT, 7, 0⟩
def MB_BUSY_CNT : Nat := 0x5804
def M_TX (k : Nat) : Nat := 0x5810 + 0x10 * k
def M_RX (k : Nat) : Nat := 0x5814 + 0x10 * k
def M_DB (k : Nat) : Nat := 0x5818 + 0x10 * k
def M_DB.DB (k : Nat) : Fld := ⟨M_DB k, 0, 0⟩
def M_STAT (k : Nat) : Nat := 0x581c + 0x10 * k
def M_STAT.TX_PEND (k : Nat) : Fld := ⟨M_STAT k, 31, 31⟩
def M_STAT.RX_READY (k : Nat) : Fld := ⟨M_STAT k, 30, 30⟩
def M_STAT.DISCARD (k : Nat) : Fld := ⟨M_STAT k, 29, 29⟩
def M_STAT.NO_TARGET (k : Nat) : Fld := ⟨M_STAT k, 28, 28⟩
def M_STAT.RX_LEN (k : Nat) : Fld := ⟨M_STAT k, 12, 8⟩
end MBOX

/-! The addresses and fields of YEW. -/
namespace YEW
def YEW_CFG : Nat := 0x6100
def YEW_CFG.STREAM_EN : Fld := ⟨YEW_CFG, 31, 31⟩
def YEW_CFG.STREAM_MIN_SEV : Fld := ⟨YEW_CFG, 26, 24⟩
def YEW_CFG.FLUSH_MS : Fld := ⟨YEW_CFG, 15, 0⟩
def LOG_CFG : Nat := 0x6104
def LOG_CFG.KEEP_KIB : Fld := ⟨LOG_CFG, 15, 0⟩
def YEW_STAT : Nat := 0x6800
def YEW_STAT.LOG_OK : Fld := ⟨YEW_STAT, 31, 31⟩
def YEW_STAT.KEEP_FULL : Fld := ⟨YEW_STAT, 30, 30⟩
def YEW_STAT.BACKLOG_HI : Fld := ⟨YEW_STAT, 29, 29⟩
def YEW_STAT.PFAIL : Fld := ⟨YEW_STAT, 28, 28⟩
def YEW_STAT.PFAIL_DONE : Fld := ⟨YEW_STAT, 27, 27⟩
def YEW_EVT : Nat := 0x6804
def YEW_EVT.FLUSH_LATE : Fld := ⟨YEW_EVT, 5, 5⟩
def YEW_EVT.KEEP_FULL : Fld := ⟨YEW_EVT, 4, 4⟩
def YEW_EVT.DROP : Fld := ⟨YEW_EVT, 3, 3⟩
def YEW_EVT.OVERWRITE : Fld := ⟨YEW_EVT, 2, 2⟩
def YEW_EVT.SUPPRESS : Fld := ⟨YEW_EVT, 1, 1⟩
def YEW_EVT.SEV6 : Fld := ⟨YEW_EVT, 0, 0⟩
def SEQ_A : Nat := 0x6808
def SEQ_B : Nat := 0x680c
def DROP_CNT : Nat := 0x6810
def OVW_CNT : Nat := 0x6814
def SUPP_CNT : Nat := 0x6818
def STREAM_SKIP_CNT : Nat := 0x681c
def FLUSH_RT_LO : Nat := 0x6820
def FLUSH_RT_HI : Nat := 0x6824
def WP_KEEP : Nat := 0x6828
def WP_ROLL : Nat := 0x682c
def PFAIL_TIME : Nat := 0x6830
def CODE_IDX : Nat := 0x6c00
def CODE_CFG : Nat := 0x6c04
def CODE_CFG.EN : Fld := ⟨CODE_CFG, 31, 31⟩
def CODE_CFG.BURST : Fld := ⟨CODE_CFG, 23, 16⟩
def CODE_CFG.RATE : Fld := ⟨CODE_CFG, 15, 0⟩
def CODE_STAT : Nat := 0x6c08
def REC_SEL : Nat := 0x6c10
def REC_W (i : Nat) : Nat := 0x6c14 + 4 * i
end YEW

/-! The addresses and fields of NOR. -/
namespace NOR
def NOR_CFG : Nat := 0x7100
def NOR_CFG.OP_TMO_MS : Fld := ⟨NOR_CFG, 15, 0⟩
def NOR_STAT : Nat := 0x7800
def NOR_STAT.BUSY : Fld := ⟨NOR_STAT, 31, 31⟩
def NOR_STAT.OP : Fld := ⟨NOR_STAT, 27, 24⟩
def NOR_STAT.DIR_OK : Fld := ⟨NOR_STAT, 1, 1⟩
def NOR_STAT.PRESENT : Fld := ⟨NOR_STAT, 0, 0⟩
def NOR_EVT : Nat := 0x7804
def NOR_EVT.PFAIL_ABORT : Fld := ⟨NOR_EVT, 5, 5⟩
def NOR_EVT.DIR_REPAIR : Fld := ⟨NOR_EVT, 4, 4⟩
def NOR_EVT.AUTH_FAIL : Fld := ⟨NOR_EVT, 3, 3⟩
def NOR_EVT.VERIFY_ERR : Fld := ⟨NOR_EVT, 2, 2⟩
def NOR_EVT.TIMEOUT : Fld := ⟨NOR_EVT, 1, 1⟩
def NOR_EVT.CMD_DONE : Fld := ⟨NOR_EVT, 0, 0⟩
def NOR_ID : Nat := 0x7808
def NOR_ID.JEDEC : Fld := ⟨NOR_ID, 23, 0⟩
def DIR_GEN : Nat := 0x780c
def DIR_SLOTS : Nat := 0x7810
def PATCH_VER : Nat := 0x7814
def ROM_ID : Nat := 0x7818
def PATCH_MIN : Nat := 0x781c
def KEY_STAT : Nat := 0x7820
def ERR_CNT : Nat := 0x7824
def CMD_STAT : Nat := 0x7828
def CMD_STAT.OP : Fld := ⟨CMD_STAT, 31, 24⟩
def CMD_STAT.STATUS : Fld := ⟨CMD_STAT, 23, 16⟩
def CMD_STAT.TAG : Fld := ⟨CMD_STAT, 15, 0⟩
end NOR

/-! The addresses and fields of RTX. -/
namespace RTX
def RING_CFG (n : Nat) : Nat := (0x8 + n) * 4096 + 0x100
def RING_CFG.PACE (n : Nat) : Fld := ⟨RING_CFG n, 31, 30⟩
def RING_CFG.CTRL (n : Nat) : Fld := ⟨RING_CFG n, 29, 28⟩
def RING_CFG.STROKE (n : Nat) : Fld := ⟨RING_CFG n, 27, 26⟩
def RING_CFG.BULK (n : Nat) : Fld := ⟨RING_CFG n, 25, 24⟩
def RING_CFG.PRES_MS (n : Nat) : Fld := ⟨RING_CFG n, 15, 0⟩
def REL_CFG (n : Nat) : Nat := (0x8 + n) * 4096 + 0x104
def REL_CFG.ACK_TMO_US (n : Nat) : Fld := ⟨REL_CFG n, 31, 16⟩
def REL_CFG.RETRY_MAX (n : Nat) : Fld := ⟨REL_CFG n, 15, 8⟩
def REL_CFG.WIN (n : Nat) : Fld := ⟨REL_CFG n, 7, 0⟩
def LINK_CFG (n : Nat) : Nat := (0x8 + n) * 4096 + 0x108
def LINK_CFG.UNWRAP_US (n : Nat) : Fld := ⟨LINK_CFG n, 31, 16⟩
def LINK_CFG.WRAP_HOLD_US (n : Nat) : Fld := ⟨LINK_CFG n, 15, 8⟩
def LINK_CFG.WRAP_EN (n : Nat) : Fld := ⟨LINK_CFG n, 0, 0⟩
def PROXY_CFG (n : Nat) : Nat := (0x8 + n) * 4096 + 0x10c
def PROXY_CFG.PROXY_EN (n : Nat) : Fld := ⟨PROXY_CFG n, 31, 31⟩
def PROXY_CFG.PROXY_NODE (n : Nat) : Fld := ⟨PROXY_CFG n, 9, 0⟩
def PORT_STAT (n : Nat) : Nat := (0x8 + n) * 4096 + 0x800
def PORT_STAT.LINK (n : Nat) : Fld := ⟨PORT_STAT n, 31, 30⟩
def PORT_STAT.WRAPPED (n : Nat) : Fld := ⟨PORT_STAT n, 28, 28⟩
def PORT_STAT.RFAULT (n : Nat) : Fld := ⟨PORT_STAT n, 27, 27⟩
def PORT_STAT.BYP_HOLD (n : Nat) : Fld := ⟨PORT_STAT n, 26, 26⟩
def PORT_STAT.ROOT (n : Nat) : Fld := ⟨PORT_STAT n, 25, 25⟩
def PORT_STAT.ASSIGNED (n : Nat) : Fld := ⟨PORT_STAT n, 24, 24⟩
def PORT_STAT.NODE_ID (n : Nat) : Fld := ⟨PORT_STAT n, 9, 0⟩
def PORT_EVT (n : Nat) : Nat := (0x8 + n) * 4096 + 0x804
def PORT_EVT.ROOT_CONFLICT (n : Nat) : Fld := ⟨PORT_EVT n, 9, 9⟩
def PORT_EVT.ENUM_FAIL (n : Nat) : Fld := ⟨PORT_EVT n, 8, 8⟩
def PORT_EVT.ENUM_DONE (n : Nat) : Fld := ⟨PORT_EVT n, 7, 7⟩
def PORT_EVT.NODE_ABSENT (n : Nat) : Fld := ⟨PORT_EVT n, 6, 6⟩
def PORT_EVT.DEST_UNREACH (n : Nat) : Fld := ⟨PORT_EVT n, 5, 5⟩
def PORT_EVT.STROKE_ABANDON (n : Nat) : Fld := ⟨PORT_EVT n, 4, 4⟩
def PORT_EVT.TOPO (n : Nat) : Fld := ⟨PORT_EVT n, 3, 3⟩
def PORT_EVT.UNWRAP (n : Nat) : Fld := ⟨PORT_EVT n, 2, 2⟩
def PORT_EVT.WRAP (n : Nat) : Fld := ⟨PORT_EVT n, 1, 1⟩
def PORT_EVT.LINK_DOWN (n : Nat) : Fld := ⟨PORT_EVT n, 0, 0⟩
def RING_STAT (n : Nat) : Nat := (0x8 + n) * 4096 + 0x808
def RING_STAT.TOPO_GEN (n : Nat) : Fld := ⟨RING_STAT n, 31, 16⟩
def RING_STAT.N_NODES (n : Nat) : Fld := ⟨RING_STAT n, 10, 0⟩
def CRC_ERR_CNT (n : Nat) : Nat := (0x8 + n) * 4096 + 0x80c
def CRC_ERR_CNT.HDR (n : Nat) : Fld := ⟨CRC_ERR_CNT n, 31, 16⟩
def CRC_ERR_CNT.CRC32 (n : Nat) : Fld := ⟨CRC_ERR_CNT n, 15, 0⟩
def CODE_ERR_CNT (n : Nat) : Nat := (0x8 + n) * 4096 + 0x810
def LINK_DOWN_CNT (n : Nat) : Nat := (0x8 + n) * 4096 + 0x814
def HOPS_DISC_CNT (n : Nat) : Nat := (0x8 + n) * 4096 + 0x818
def HOPS_DISC_CNT.STALE (n : Nat) : Fld := ⟨HOPS_DISC_CNT n, 31, 16⟩
def HOPS_DISC_CNT.HOPS (n : Nat) : Fld := ⟨HOPS_DISC_CNT n, 15, 0⟩
def RESEND_CNT (n : Nat) : Nat := (0x8 + n) * 4096 + 0x81c
def UNREACH_CNT (n : Nat) : Nat := (0x8 + n) * 4096 + 0x820
def MISS_CNT (n : Nat) : Nat := (0x8 + n) * 4096 + 0x824
def MISS_CNT.OVF (n : Nat) : Fld := ⟨MISS_CNT n, 31, 16⟩
def MISS_CNT.STROKE (n : Nat) : Fld := ⟨MISS_CNT n, 15, 0⟩
def TX_FRAMES (n : Nat) : Nat := (0x8 + n) * 4096 + 0x828
def RX_FRAMES (n : Nat) : Nat := (0x8 + n) * 4096 + 0x82c
def LOAD (n : Nat) : Nat := (0x8 + n) * 4096 + 0x830
def RING_CTRL (n : Nat) : Nat := (0x8 + n) * 4096 + 0x840
def RING_CTRL.ENUM_JOIN (n : Nat) : Fld := ⟨RING_CTRL n, 1, 1⟩
def RING_CTRL.ENUM (n : Nat) : Fld := ⟨RING_CTRL n, 0, 0⟩
def PRES_IDX (n : Nat) : Nat := (0x8 + n) * 4096 + 0xc00
def PRES_MAP (n : Nat) : Nat := (0x8 + n) * 4096 + 0xc04
end RTX

/-! The addresses and fields of RTIME. -/
namespace RTIME
def RT_CFG : Nat := 0xa100
def RT_CFG.USE_CFG : Fld := ⟨RT_CFG, 16, 16⟩
def RT_CFG.HOP_DLY_NS : Fld := ⟨RT_CFG, 15, 0⟩
def RT_STAT : Nat := 0xa800
def RT_STAT.RT_LOCK : Fld := ⟨RT_STAT, 31, 31⟩
def RT_STAT.RT_HOLD : Fld := ⟨RT_STAT, 30, 30⟩
def RT_STAT.FAR : Fld := ⟨RT_STAT, 29, 29⟩
def RT_EVT : Nat := 0xa804
def RT_EVT.STEP : Fld := ⟨RT_EVT, 3, 3⟩
def RT_EVT.FAR : Fld := ⟨RT_EVT, 2, 2⟩
def RT_EVT.HOLD : Fld := ⟨RT_EVT, 1, 1⟩
def RT_EVT.LOCK_LOST : Fld := ⟨RT_EVT, 0, 0⟩
def RT_NOW_LO : Nat := 0xa808
def RT_NOW_HI : Nat := 0xa80c
def RT_ERR : Nat := 0xa810
def DLY_A : Nat := 0xa814
def DLY_B : Nat := 0xa818
def ADJ_CNT : Nat := 0xa81c
def STEP_LAST : Nat := 0xa820
end RTIME

/-! The addresses and fields of RTUN. -/
namespace RTUN
def TUN_CFG : Nat := 0xb100
def TUN_CFG.ALLOW_RD : Fld := ⟨TUN_CFG, 31, 31⟩
def TUN_CFG.ALLOW_WR : Fld := ⟨TUN_CFG, 30, 30⟩
def TUN_CFG.TMO_MS : Fld := ⟨TUN_CFG, 15, 0⟩
def TUN_STAT : Nat := 0xb800
def TUN_STAT.BUSY : Fld := ⟨TUN_STAT, 31, 31⟩
def TUN_STAT.DONE : Fld := ⟨TUN_STAT, 30, 30⟩
def TUN_STAT.STATUS : Fld := ⟨TUN_STAT, 27, 24⟩
def TUN_EVT : Nat := 0xb804
def TUN_EVT.DONE : Fld := ⟨TUN_EVT, 0, 0⟩
def TUN_NODE : Nat := 0xb808
def TUN_ADDR : Nat := 0xb80c
def TUN_CTRL : Nat := 0xb810
def TUN_CTRL.GO : Fld := ⟨TUN_CTRL, 31, 31⟩
def TUN_CTRL.OP : Fld := ⟨TUN_CTRL, 17, 16⟩
def TUN_CTRL.COUNT : Fld := ⟨TUN_CTRL, 4, 0⟩
def REMOTE_CNT : Nat := 0xb814
def TUN_BUF (i : Nat) : Nat := 0xbc00 + 4 * i
end RTUN

/-! The addresses and fields of GNSS. -/
namespace GNSS
def IF_CFG (n : Nat) : Nat := (0x10 + n) * 4096 + 0x100
def IF_CFG.EN (n : Nat) : Fld := ⟨IF_CFG n, 31, 31⟩
def IF_CFG.ENC (n : Nat) : Fld := ⟨IF_CFG n, 16, 16⟩
def IF_CFG.L5_QINV (n : Nat) : Fld := ⟨IF_CFG n, 9, 9⟩
def IF_CFG.L1_QINV (n : Nat) : Fld := ⟨IF_CFG n, 8, 8⟩
def IF_CFG.L5_EN (n : Nat) : Fld := ⟨IF_CFG n, 1, 1⟩
def IF_CFG.L1_EN (n : Nat) : Fld := ⟨IF_CFG n, 0, 0⟩
def IF_OFS_L1 (n : Nat) : Nat := (0x10 + n) * 4096 + 0x104
def IF_OFS_L5 (n : Nat) : Nat := (0x10 + n) * 4096 + 0x108
def AGC_CFG (n : Nat) : Nat := (0x10 + n) * 4096 + 0x10c
def AGC_CFG.MODE (n : Nat) : Fld := ⟨AGC_CFG n, 31, 31⟩
def AGC_CFG.BAND (n : Nat) : Fld := ⟨AGC_CFG n, 29, 28⟩
def AGC_CFG.TARGET_PCT (n : Nat) : Fld := ⟨AGC_CFG n, 27, 20⟩
def AGC_CFG.GAIN (n : Nat) : Fld := ⟨AGC_CFG n, 19, 12⟩
def AGC_CFG.DUTY_FIX (n : Nat) : Fld := ⟨AGC_CFG n, 9, 0⟩
def SIG_EN (n : Nat) : Nat := (0x10 + n) * 4096 + 0x110
def TRK_CFG (n : Nat) : Nat := (0x10 + n) * 4096 + 0x114
def TRK_CFG.SPACING10 (n : Nat) : Fld := ⟨TRK_CFG n, 22, 16⟩
def TRK_CFG.SPACING1 (n : Nat) : Fld := ⟨TRK_CFG n, 6, 0⟩
def MASK_CFG (n : Nat) : Nat := (0x10 + n) * 4096 + 0x118
def MASK_CFG.ELEV_MIN (n : Nat) : Fld := ⟨MASK_CFG n, 23, 16⟩
def MASK_CFG.CN0_MIN (n : Nat) : Fld := ⟨MASK_CFG n, 15, 0⟩
def MEAS_CFG (n : Nat) : Nat := (0x10 + n) * 4096 + 0x11c
def MEAS_CFG.OBS_EN (n : Nat) : Fld := ⟨MEAS_CFG n, 31, 31⟩
def MEAS_CFG.SOL_OUT (n : Nat) : Fld := ⟨MEAS_CFG n, 30, 30⟩
def MEAS_CFG.MEAS_MS (n : Nat) : Fld := ⟨MEAS_CFG n, 15, 0⟩
def RTK_CFG (n : Nat) : Nat := (0x10 + n) * 4096 + 0x120
def RTK_CFG.RTK_EN (n : Nat) : Fld := ⟨RTK_CFG n, 31, 31⟩
def RTK_CFG.STN_LOCK (n : Nat) : Fld := ⟨RTK_CFG n, 28, 28⟩
def RTK_CFG.STN_ID (n : Nat) : Fld := ⟨RTK_CFG n, 27, 16⟩
def RTK_CFG.AGE_MAX (n : Nat) : Fld := ⟨RTK_CFG n, 15, 0⟩
def STBY_CFG (n : Nat) : Nat := (0x10 + n) * 4096 + 0x124
def STBY_CFG.BURST_CH (n : Nat) : Fld := ⟨STBY_CFG n, 6, 0⟩
def GNSS_STAT (n : Nat) : Nat := (0x10 + n) * 4096 + 0x800
def GNSS_STAT.QUAL (n : Nat) : Fld := ⟨GNSS_STAT n, 31, 28⟩
def GNSS_STAT.NSV (n : Nat) : Fld := ⟨GNSS_STAT n, 27, 20⟩
def GNSS_STAT.RTCM_OK (n : Nat) : Fld := ⟨GNSS_STAT n, 11, 11⟩
def GNSS_STAT.ASSIGNER (n : Nat) : Fld := ⟨GNSS_STAT n, 10, 10⟩
def GNSS_STAT.BURST (n : Nat) : Fld := ⟨GNSS_STAT n, 9, 9⟩
def GNSS_STAT.GIF_CLK_OK (n : Nat) : Fld := ⟨GNSS_STAT n, 8, 8⟩
def GNSS_STAT.RUNNING (n : Nat) : Fld := ⟨GNSS_STAT n, 0, 0⟩
def GNSS_EVT (n : Nat) : Nat := (0x10 + n) * 4096 + 0x804
def GNSS_EVT.AGC_LIMIT (n : Nat) : Fld := ⟨GNSS_EVT n, 7, 7⟩
def GNSS_EVT.GIF_CLK_BAD (n : Nat) : Fld := ⟨GNSS_EVT n, 6, 6⟩
def GNSS_EVT.REF_CHANGE (n : Nat) : Fld := ⟨GNSS_EVT n, 5, 5⟩
def GNSS_EVT.RTCM_BAD (n : Nat) : Fld := ⟨GNSS_EVT n, 4, 4⟩
def GNSS_EVT.OBS_STALE (n : Nat) : Fld := ⟨GNSS_EVT n, 3, 3⟩
def GNSS_EVT.OBS_DROP (n : Nat) : Fld := ⟨GNSS_EVT n, 2, 2⟩
def GNSS_EVT.SOL_BACK (n : Nat) : Fld := ⟨GNSS_EVT n, 1, 1⟩
def GNSS_EVT.SOL_LOST (n : Nat) : Fld := ⟨GNSS_EVT n, 0, 0⟩
def AGC_STAT (n : Nat) : Nat := (0x10 + n) * 4096 + 0x808
def AGC_STAT.DUTY (n : Nat) : Fld := ⟨AGC_STAT n, 25, 16⟩
def AGC_STAT.M_L5 (n : Nat) : Fld := ⟨AGC_STAT n, 14, 8⟩
def AGC_STAT.M_L1 (n : Nat) : Fld := ⟨AGC_STAT n, 6, 0⟩
def GIF_CLK_CNT (n : Nat) : Nat := (0x10 + n) * 4096 + 0x80c
def SOL_TIME_LO (n : Nat) : Nat := (0x10 + n) * 4096 + 0x810
def SOL_TIME_HI (n : Nat) : Nat := (0x10 + n) * 4096 + 0x814
def SOL_E (n : Nat) : Nat := (0x10 + n) * 4096 + 0x818
def SOL_N (n : Nat) : Nat := (0x10 + n) * 4096 + 0x81c
def SOL_U (n : Nat) : Nat := (0x10 + n) * 4096 + 0x820
def SOL_ACC (n : Nat) : Nat := (0x10 + n) * 4096 + 0x824
def SOL_ACC.V_ACC (n : Nat) : Fld := ⟨SOL_ACC n, 31, 16⟩
def SOL_ACC.H_ACC (n : Nat) : Fld := ⟨SOL_ACC n, 15, 0⟩
def SOL_AGE (n : Nat) : Nat := (0x10 + n) * 4096 + 0x828
def SOL_AGE.REF_STN (n : Nat) : Fld := ⟨SOL_AGE n, 27, 16⟩
def SOL_AGE.CORR_AGE (n : Nat) : Fld := ⟨SOL_AGE n, 15, 0⟩
def RTCM_RX_CNT (n : Nat) : Nat := (0x10 + n) * 4096 + 0x82c
def RTCM_BAD_CNT (n : Nat) : Nat := (0x10 + n) * 4096 + 0x830
def RTCM_BAD_CNT.CRC (n : Nat) : Fld := ⟨RTCM_BAD_CNT n, 31, 16⟩
def RTCM_BAD_CNT.DISC (n : Nat) : Fld := ⟨RTCM_BAD_CNT n, 15, 0⟩
def OBS_STALE_CNT (n : Nat) : Nat := (0x10 + n) * 4096 + 0x834
def OBS_DROP_CNT (n : Nat) : Nat := (0x10 + n) * 4096 + 0x838
def CH_IDX (n : Nat) : Nat := (0x10 + n) * 4096 + 0xc00
def CH_STAT (n : Nat) : Nat := (0x10 + n) * 4096 + 0xc04
def CH_STAT.EPOCH (n : Nat) : Fld := ⟨CH_STAT n, 31, 16⟩
def CH_STAT.STATE (n : Nat) : Fld := ⟨CH_STAT n, 15, 13⟩
def CH_STAT.SIG (n : Nat) : Fld := ⟨CH_STAT n, 11, 8⟩
def CH_STAT.SV (n : Nat) : Fld := ⟨CH_STAT n, 7, 0⟩
def CH_MEAS (n : Nat) : Nat := (0x10 + n) * 4096 + 0xc08
def CH_MEAS.CN0 (n : Nat) : Fld := ⟨CH_MEAS n, 31, 16⟩
def CH_MEAS.LOCK (n : Nat) : Fld := ⟨CH_MEAS n, 15, 0⟩
end GNSS

/-! The addresses and fields of TPLS. -/
namespace TPLS
def TP_CFG : Nat := 0x12100
def TP_CFG.EN : Fld := ⟨TP_CFG, 31, 31⟩
def TP_CFG.POL : Fld := ⟨TP_CFG, 30, 30⟩
def TP_CFG.SCALE : Fld := ⟨TP_CFG, 29, 29⟩
def TP_CFG.STOP_EXP : Fld := ⟨TP_CFG, 28, 28⟩
def TP_CFG.WIDTH_US : Fld := ⟨TP_CFG, 19, 0⟩
def TP_DLY : Nat := 0x12104
def TP_DLY.CABLE_NS : Fld := ⟨TP_DLY, 31, 16⟩
def TP_DLY.USER_NS : Fld := ⟨TP_DLY, 15, 0⟩
def TPB_CFG : Nat := 0x12108
def TPB_CFG.MODE : Fld := ⟨TPB_CFG, 31, 30⟩
def TPB_CFG.POL : Fld := ⟨TPB_CFG, 29, 29⟩
def TPB_CFG.PB_MS : Fld := ⟨TPB_CFG, 25, 16⟩
def TPB_CFG.WIDTH_US : Fld := ⟨TPB_CFG, 15, 0⟩
def TP_HOLD : Nat := 0x1210c
def TP_HOLD.HOLD_S : Fld := ⟨TP_HOLD, 31, 16⟩
def TP_HOLD.GROW_NS_S : Fld := ⟨TP_HOLD, 15, 0⟩
def TP_LIMIT : Nat := 0x12110
def TP_LIMIT.ACC_MAX : Fld := ⟨TP_LIMIT, 31, 16⟩
def TP_LIMIT.SLEW_NS_S : Fld := ⟨TP_LIMIT, 7, 0⟩
def TP_STAT : Nat := 0x12800
def TP_STAT.VALID : Fld := ⟨TP_STAT, 31, 29⟩
def TP_STAT.SLEWING : Fld := ⟨TP_STAT, 28, 28⟩
def TP_STAT.STOPPED : Fld := ⟨TP_STAT, 27, 27⟩
def TP_STAT.LEAP_VALID : Fld := ⟨TP_STAT, 26, 26⟩
def TP_STAT.GPS : Fld := ⟨TP_STAT, 7, 0⟩
def TP_EVT : Nat := 0x12804
def TP_EVT.NEXT_READY : Fld := ⟨TP_EVT, 5, 5⟩
def TP_EVT.TIME_STEP : Fld := ⟨TP_EVT, 4, 4⟩
def TP_EVT.EXPIRED : Fld := ⟨TP_EVT, 3, 3⟩
def TP_EVT.HOLDOVER : Fld := ⟨TP_EVT, 2, 2⟩
def TP_EVT.LOCKED : Fld := ⟨TP_EVT, 1, 1⟩
def TP_EVT.PULSE : Fld := ⟨TP_EVT, 0, 0⟩
def TP_ACC : Nat := 0x12808
def TP_QERR : Nat := 0x1280c
def TP_NEXT : Nat := 0x12810
def TP_NEXT_RT_LO : Nat := 0x12814
def TP_NEXT_RT_HI : Nat := 0x12818
def TP_FREQ : Nat := 0x1281c
def TP_SLEW_LEFT : Nat := 0x12820
def TP_STEP_LAST : Nat := 0x12824
def TP_CNT : Nat := 0x12828
def HOLD_AGE : Nat := 0x1282c
end TPLS

/-! The addresses and fields of IMU. -/
namespace IMU
def IMU_CFG : Nat := 0x13100
def IMU_CFG.RD_CMD : Fld := ⟨IMU_CFG, 31, 24⟩
def IMU_CFG.BURST_LEN : Fld := ⟨IMU_CFG, 23, 16⟩
def IMU_CFG.DIV : Fld := ⟨IMU_CFG, 15, 8⟩
def IMU_CFG.INT_EDGE : Fld := ⟨IMU_CFG, 2, 2⟩
def IMU_CFG.MODE : Fld := ⟨IMU_CFG, 1, 1⟩
def IMU_CFG.EN : Fld := ⟨IMU_CFG, 0, 0⟩
def IMU_MAP : Nat := 0x13104
def IMU_LAYOUT : Nat := 0x13108
def IMU_LAYOUT.BE : Fld := ⟨IMU_LAYOUT, 16, 16⟩
def IMU_LAYOUT.ACC_OFS : Fld := ⟨IMU_LAYOUT, 15, 8⟩
def IMU_LAYOUT.GYRO_OFS : Fld := ⟨IMU_LAYOUT, 7, 0⟩
def IMU_GSCALE : Nat := 0x1310c
def IMU_ASCALE : Nat := 0x13110
def IMU_TIMING : Nat := 0x13114
def IMU_TIMING.LAT_US : Fld := ⟨IMU_TIMING, 27, 16⟩
def IMU_TIMING.ODR_HZ : Fld := ⟨IMU_TIMING, 11, 0⟩
def IMU_STAT : Nat := 0x13800
def IMU_STAT.LOST : Fld := ⟨IMU_STAT, 1, 1⟩
def IMU_STAT.ACTIVE : Fld := ⟨IMU_STAT, 0, 0⟩
def IMU_COUNT : Nat := 0x13804
def IMU_OVR_CNT : Nat := 0x13808
def IMU_YAW : Nat := 0x1380c
end IMU

/-! The addresses and fields of POSE. -/
namespace POSE
def POSE_CFG : Nat := 0x14100
def POSE_CFG.RING_NODE : Fld := ⟨POSE_CFG, 25, 16⟩
def POSE_CFG.MIN_QUAL : Fld := ⟨POSE_CFG, 7, 4⟩
def POSE_CFG.SRC : Fld := ⟨POSE_CFG, 1, 1⟩
def POSE_CFG.FRAME : Fld := ⟨POSE_CFG, 0, 0⟩
def POSE_ORG_LAT : Nat := 0x14104
def POSE_ORG_LON : Nat := 0x14108
def POSE_ORG_H : Nat := 0x1410c
def POSE_ANT_X : Nat := 0x14110
def POSE_ANT_Y : Nat := 0x14114
def POSE_ANT_UP : Nat := 0x14118
def POSE_CORR : Nat := 0x1411c
def POSE_CORR.STEP_MM : Fld := ⟨POSE_CORR, 31, 16⟩
def POSE_CORR.JUMP_MM : Fld := ⟨POSE_CORR, 15, 0⟩
def POSE_SLEW : Nat := 0x14120
def POSE_SLEW.SLEW_MM_S : Fld := ⟨POSE_SLEW, 15, 0⟩
def POSE_COAST : Nat := 0x14124
def POSE_COAST.DRIFT_MM_S : Fld := ⟨POSE_COAST, 31, 16⟩
def POSE_COAST.COAST_MS : Fld := ⟨POSE_COAST, 15, 0⟩
def POSE_ACC_LIM : Nat := 0x14128
def POSE_ACC_LIM.ACC_LIMIT_MM : Fld := ⟨POSE_ACC_LIM, 15, 0⟩
def POSE_SPD_CFG : Nat := 0x1412c
def POSE_SPD_CFG.TOL_PCT : Fld := ⟨POSE_SPD_CFG, 23, 16⟩
def POSE_SPD_CFG.PRI2 : Fld := ⟨POSE_SPD_CFG, 11, 8⟩
def POSE_SPD_CFG.PRI1 : Fld := ⟨POSE_SPD_CFG, 7, 4⟩
def POSE_SPD_CFG.PRI0 : Fld := ⟨POSE_SPD_CFG, 3, 0⟩
def POSE_SPD_TOL : Nat := 0x14130
def POSE_SPD_TOL.TOL_ABS_UMS : Fld := ⟨POSE_SPD_TOL, 23, 0⟩
def POSE_SPD_TIME : Nat := 0x14134
def POSE_SPD_TIME.IMU_COAST_MS : Fld := ⟨POSE_SPD_TIME, 31, 16⟩
def POSE_SPD_TIME.DIS_MS : Fld := ⟨POSE_SPD_TIME, 15, 0⟩
def POSE_HITCH_CFG : Nat := 0x14138
def POSE_HITCH_CFG.TOL : Fld := ⟨POSE_HITCH_CFG, 31, 16⟩
def POSE_HITCH_CFG.MODE : Fld := ⟨POSE_HITCH_CFG, 1, 0⟩
def POSE_HITCH_GEOM : Nat := 0x1413c
def POSE_HITCH_GEOM.L_MM : Fld := ⟨POSE_HITCH_GEOM, 31, 16⟩
def POSE_HITCH_GEOM.HITCH_X_MM : Fld := ⟨POSE_HITCH_GEOM, 15, 0⟩
def POSE_HITCH_ZERO : Nat := 0x14140
def POSE_HITCH_GAIN : Nat := 0x14144
def POSE_RING_TMO : Nat := 0x14148
def POSE_RING_TMO.DR_WORDS : Fld := ⟨POSE_RING_TMO, 31, 16⟩
def POSE_RING_TMO.ACCEPT_US : Fld := ⟨POSE_RING_TMO, 15, 0⟩
def POSE_STAT : Nat := 0x14800
def POSE_STAT.SPD_SRC : Fld := ⟨POSE_STAT, 27, 24⟩
def POSE_STAT.SPD_VALID : Fld := ⟨POSE_STAT, 15, 15⟩
def POSE_STAT.POS_VALID : Fld := ⟨POSE_STAT, 14, 14⟩
def POSE_STAT.COAST : Fld := ⟨POSE_STAT, 13, 13⟩
def POSE_STAT.SLEWING : Fld := ⟨POSE_STAT, 12, 12⟩
def POSE_STAT.HITCH_OK : Fld := ⟨POSE_STAT, 11, 11⟩
def POSE_STAT.IMU_OK : Fld := ⟨POSE_STAT, 10, 10⟩
def POSE_STAT.RING_DR : Fld := ⟨POSE_STAT, 9, 9⟩
def POSE_STAT.REVERSE : Fld := ⟨POSE_STAT, 8, 8⟩
def POSE_STAT.QUAL : Fld := ⟨POSE_STAT, 3, 0⟩
def POSE_EVT : Nat := 0x14804
def POSE_EVT.SRC_CHANGE : Fld := ⟨POSE_EVT, 6, 6⟩
def POSE_EVT.IMU_LOST : Fld := ⟨POSE_EVT, 5, 5⟩
def POSE_EVT.HITCH_DISAGREE : Fld := ⟨POSE_EVT, 4, 4⟩
def POSE_EVT.HITCH_INVALID : Fld := ⟨POSE_EVT, 3, 3⟩
def POSE_EVT.RING_MISS : Fld := ⟨POSE_EVT, 2, 2⟩
def POSE_EVT.SPD_DISAGREE : Fld := ⟨POSE_EVT, 1, 1⟩
def POSE_EVT.POS_STEP : Fld := ⟨POSE_EVT, 0, 0⟩
def POSE_ACC : Nat := 0x14808
def POSE_ACC.V_ACC : Fld := ⟨POSE_ACC, 31, 16⟩
def POSE_ACC.H_ACC : Fld := ⟨POSE_ACC, 15, 0⟩
def POSE_CORR_LEFT : Nat := 0x1480c
def POSE_LATE_CNT : Nat := 0x14810
def POSE_RING_MISS_CNT : Nat := 0x14814
def POSE_RING_STALE_CNT : Nat := 0x14818
def POSE_CUR (i : Nat) : Nat := 0x14840 + 4 * i
end POSE

/-! The addresses and fields of GSPD. -/
namespace GSPD
def GSA_CFG : Nat := 0x15100
def GSA_CFG.TIMEOUT_MS : Fld := ⟨GSA_CFG, 31, 16⟩
def GSA_CFG.MINW_US : Fld := ⟨GSA_CFG, 15, 8⟩
def GSA_CFG.EDGE : Fld := ⟨GSA_CFG, 3, 2⟩
def GSA_CFG.EN : Fld := ⟨GSA_CFG, 0, 0⟩
def GSA_UMPP : Nat := 0x15104
def GSB_CFG : Nat := 0x15108
def GSB_CFG.TIMEOUT_MS : Fld := ⟨GSB_CFG, 31, 16⟩
def GSB_CFG.MINW_US : Fld := ⟨GSB_CFG, 15, 8⟩
def GSB_CFG.MODE : Fld := ⟨GSB_CFG, 5, 4⟩
def GSB_CFG.EDGE : Fld := ⟨GSB_CFG, 3, 2⟩
def GSB_CFG.EN : Fld := ⟨GSB_CFG, 0, 0⟩
def GSB_UMPP : Nat := 0x1510c
def GSOUT_CFG : Nat := 0x15110
def GSOUT_CFG.INVALID : Fld := ⟨GSOUT_CFG, 5, 5⟩
def GSOUT_CFG.REV_ZERO : Fld := ⟨GSOUT_CFG, 4, 4⟩
def GSOUT_CFG.SRC : Fld := ⟨GSOUT_CFG, 3, 1⟩
def GSOUT_CFG.EN : Fld := ⟨GSOUT_CFG, 0, 0⟩
def GSOUT_UMPP : Nat := 0x15114
def GSPD_STAT : Nat := 0x15800
def GSPD_STAT.GSOUT_CLAMP : Fld := ⟨GSPD_STAT, 5, 5⟩
def GSPD_STAT.GSOUT_ACTIVE : Fld := ⟨GSPD_STAT, 4, 4⟩
def GSPD_STAT.GNSS_VALID : Fld := ⟨GSPD_STAT, 3, 3⟩
def GSPD_STAT.GSB_REV : Fld := ⟨GSPD_STAT, 2, 2⟩
def GSPD_STAT.GSB_VALID : Fld := ⟨GSPD_STAT, 1, 1⟩
def GSPD_STAT.GSA_VALID : Fld := ⟨GSPD_STAT, 0, 0⟩
def GSA_SPD : Nat := 0x15804
def GSB_SPD : Nat := 0x15808
def GNSS_SPD : Nat := 0x1580c
def GSA_EDGES : Nat := 0x15810
def GSB_EDGES : Nat := 0x15814
def GS_GLITCH : Nat := 0x15818
def GS_GLITCH.GSB : Fld := ⟨GS_GLITCH, 31, 16⟩
def GS_GLITCH.GSA : Fld := ⟨GS_GLITCH, 15, 0⟩
def GSOUT_MHZ : Nat := 0x1581c
end GSPD

/-! The addresses and fields of FPE. -/
namespace FPE
def FPE_CFG : Nat := 0x18100
def FPE_CFG.ON_Q : Fld := ⟨FPE_CFG, 31, 24⟩
def FPE_CFG.OFF_Q : Fld := ⟨FPE_CFG, 23, 16⟩
def FPE_CFG.EXCL_Q : Fld := ⟨FPE_CFG, 15, 8⟩
def FPE_CFG.RX_SEL : Fld := ⟨FPE_CFG, 0, 0⟩
def LEAD_CFG : Nat := 0x18104
def LEAD_CFG.MAX_LEAD_MM : Fld := ⟨LEAD_CFG, 31, 16⟩
def LEAD_CFG.QUEUE_US : Fld := ⟨LEAD_CFG, 15, 0⟩
def LEN_CFG : Nat := 0x18108
def LEN_CFG.MIN_ON_MM : Fld := ⟨LEN_CFG, 31, 16⟩
def LEN_CFG.MIN_OFF_MM : Fld := ⟨LEN_CFG, 15, 0⟩
def EXCL_CFG : Nat := 0x1810c
def EXCL_CFG.GUARD_MM : Fld := ⟨EXCL_CFG, 15, 0⟩
def RATE_CFG : Nat := 0x18110
def RATE_CFG.RATE_DB : Fld := ⟨RATE_CFG, 15, 0⟩
def PAINT_CFG : Nat := 0x18114
def PAINT_CFG.CONF_TMO_MS : Fld := ⟨PAINT_CFG, 15, 0⟩
def XCHK_CFG : Nat := 0x18118
def XCHK_CFG.LIMIT : Fld := ⟨XCHK_CFG, 7, 0⟩
def TRACE_CFG : Nat := 0x1811c
def TRACE_CFG.MODE : Fld := ⟨TRACE_CFG, 1, 0⟩
def OUT_CFG (j : Nat) : Nat := 0x18400 + 4 * j
def OUT_CFG.KIND (j : Nat) : Fld := ⟨OUT_CFG j, 31, 30⟩
def OUT_CFG.PROD (j : Nat) : Fld := ⟨OUT_CFG j, 29, 29⟩
def OUT_CFG.TRACE (j : Nat) : Fld := ⟨OUT_CFG j, 28, 28⟩
def OUT_CFG.LAND_US (j : Nat) : Fld := ⟨OUT_CFG j, 15, 0⟩
def FPE_STAT : Nat := 0x18800
def FPE_STAT.NOT_RUN : Fld := ⟨FPE_STAT, 4, 4⟩
def FPE_STAT.HITCH : Fld := ⟨FPE_STAT, 3, 3⟩
def FPE_STAT.QUAL : Fld := ⟨FPE_STAT, 2, 2⟩
def FPE_STAT.SPD : Fld := ⟨FPE_STAT, 1, 1⟩
def FPE_STAT.DECIDING : Fld := ⟨FPE_STAT, 0, 0⟩
def FPE_EVT : Nat := 0x18804
def FPE_EVT.HIST_SHORT : Fld := ⟨FPE_EVT, 8, 8⟩
def FPE_EVT.XCHK_FAIL : Fld := ⟨FPE_EVT, 7, 7⟩
def FPE_EVT.DEC_MISMATCH : Fld := ⟨FPE_EVT, 6, 6⟩
def FPE_EVT.NO_MOTION : Fld := ⟨FPE_EVT, 5, 5⟩
def FPE_EVT.LATE_TARGET : Fld := ⟨FPE_EVT, 4, 4⟩
def FPE_EVT.EVT_DEFER : Fld := ⟨FPE_EVT, 3, 3⟩
def FPE_EVT.SHORT_GAP : Fld := ⟨FPE_EVT, 2, 2⟩
def FPE_EVT.LEAD_CLAMP : Fld := ⟨FPE_EVT, 1, 1⟩
def FPE_EVT.TRACE_DROP : Fld := ⟨FPE_EVT, 0, 0⟩
def TICK_CNT : Nat := 0x18808
def DEC_TIME : Nat := 0x1880c
def EVT_POSTED : Nat := 0x18810
def EVT_DEFER_CNT : Nat := 0x18814
def MISMATCH_CNT : Nat := 0x18818
def NO_MOTION_CNT : Nat := 0x1881c
def SHORT_GAP_CNT : Nat := 0x18820
def LATE_TARGET_CNT : Nat := 0x18824
def TRACE_DROP_CNT : Nat := 0x18828
def ON_STATE (i : Nat) : Nat := 0x18830 + 4 * i
def CONF_STATE (i : Nat) : Nat := 0x18840 + 4 * i
def FORCE_OFF (i : Nat) : Nat := 0x18850 + 4 * i
def FORCE_ON (i : Nat) : Nat := 0x18860 + 4 * i
def MASTER : Nat := 0x18870
def OUT_IDX : Nat := 0x18c00
def OUT_LEAD : Nat := 0x18c04
def OUT_FLOW : Nat := 0x18c08
def OUT_VALUE : Nat := 0x18c0c
def OUT_FREE : Nat := 0x18c10
def OUT_FREE.FREE : Fld := ⟨OUT_FREE, 7, 0⟩
def OUT_WIN_LO : Nat := 0x18c14
def OUT_WIN_HI : Nat := 0x18c18
end FPE

/-! The addresses and fields of MAP. -/
namespace MAP
def MAP_CFG : Nat := 0x19100
def MAP_CFG.PITCH_MM : Fld := ⟨MAP_CFG, 25, 16⟩
def MAP_CFG.UE_POLICY : Fld := ⟨MAP_CFG, 12, 12⟩
def MAP_CFG.NR_POLICY : Fld := ⟨MAP_CFG, 8, 8⟩
def MAP_CFG.PRX_EN : Fld := ⟨MAP_CFG, 5, 5⟩
def MAP_CFG.COV_EN : Fld := ⟨MAP_CFG, 4, 4⟩
def WIN_SHAPE : Nat := 0x19104
def WIN_SHAPE.LOG_H : Fld := ⟨WIN_SHAPE, 7, 4⟩
def WIN_SHAPE.LOG_W : Fld := ⟨WIN_SHAPE, 3, 0⟩
def WIN_DEMAND : Nat := 0x19108
def WIN_DEMAND.HORIZON_MM : Fld := ⟨WIN_DEMAND, 31, 16⟩
def WIN_DEMAND.BEHIND_MM : Fld := ⟨WIN_DEMAND, 15, 0⟩
def WIN_REQ : Nat := 0x1910c
def WIN_REQ.REQ_PER_TICK : Fld := ⟨WIN_REQ, 23, 16⟩
def WIN_REQ.RETRY_MS : Fld := ⟨WIN_REQ, 15, 0⟩
def DEF_RATE : Nat := 0x19110
def DEF_RATE.IDX : Fld := ⟨DEF_RATE, 7, 0⟩
def GRP_CFG : Nat := 0x19114
def GRP_CFG.STROKE_TX : Fld := ⟨GRP_CFG, 15, 15⟩
def GRP_CFG.STROKE_RX : Fld := ⟨GRP_CFG, 14, 14⟩
def GRP_CFG.GROUP : Fld := ⟨GRP_CFG, 6, 0⟩
def SCRUB_CFG : Nat := 0x19118
def SCRUB_CFG.EN : Fld := ⟨SCRUB_CFG, 16, 16⟩
def SCRUB_CFG.SCRUB_MS : Fld := ⟨SCRUB_CFG, 15, 0⟩
def MAP_STAT : Nat := 0x19800
def MAP_STAT.WIN_READY : Fld := ⟨MAP_STAT, 3, 3⟩
def MAP_STAT.STALLED : Fld := ⟨MAP_STAT, 2, 2⟩
def MAP_STAT.CONFLICT : Fld := ⟨MAP_STAT, 1, 1⟩
def MAP_STAT.LATE : Fld := ⟨MAP_STAT, 0, 0⟩
def MAP_EVT : Nat := 0x19804
def MAP_EVT.ORG_MISMATCH : Fld := ⟨MAP_EVT, 8, 8⟩
def MAP_EVT.DIVERGE : Fld := ⟨MAP_EVT, 7, 7⟩
def MAP_EVT.SPILL_LOST : Fld := ⟨MAP_EVT, 6, 6⟩
def MAP_EVT.UE : Fld := ⟨MAP_EVT, 5, 5⟩
def MAP_EVT.CE : Fld := ⟨MAP_EVT, 4, 4⟩
def MAP_EVT.SLOT_CONFLICT : Fld := ⟨MAP_EVT, 3, 3⟩
def MAP_EVT.WIN_STALL : Fld := ⟨MAP_EVT, 2, 2⟩
def MAP_EVT.TILE_LATE : Fld := ⟨MAP_EVT, 1, 1⟩
def MAP_EVT.TILE_REJECT : Fld := ⟨MAP_EVT, 0, 0⟩
def MAP_OCC : Nat := 0x19808
def MAP_OCC.RESIDENT : Fld := ⟨MAP_OCC, 27, 16⟩
def MAP_OCC.REQUESTED : Fld := ⟨MAP_OCC, 11, 0⟩
def MAP_OCC2 : Nat := 0x1980c
def MAP_OCC2.EVICTING : Fld := ⟨MAP_OCC2, 27, 16⟩
def MAP_OCC2.FREE : Fld := ⟨MAP_OCC2, 11, 0⟩
def MAP_WANTED : Nat := 0x19810
def REQ_TOTAL : Nat := 0x19820
def EVICT_TOTAL : Nat := 0x19824
def TILE_STALE_CNT : Nat := 0x19828
def TILE_STALE_CNT.AHEAD : Fld := ⟨TILE_STALE_CNT, 31, 16⟩
def TILE_STALE_CNT.STALE : Fld := ⟨TILE_STALE_CNT, 15, 0⟩
def TILE_BAD_CNT : Nat := 0x1982c
def TILE_BAD_CNT.BAD : Fld := ⟨TILE_BAD_CNT, 31, 16⟩
def TILE_BAD_CNT.DUP : Fld := ⟨TILE_BAD_CNT, 15, 0⟩
def LATE_READ_CNT : Nat := 0x19830
def CONFLICT_CNT : Nat := 0x19834
def STALL_CNT : Nat := 0x19838
def SPILL_CNT : Nat := 0x1983c
def WIN_CTRL : Nat := 0x19840
def WIN_CTRL.ADV_JOB : Fld := ⟨WIN_CTRL, 1, 1⟩
def WIN_CTRL.FLUSH : Fld := ⟨WIN_CTRL, 0, 0⟩
def SPILL_LOST_CNT : Nat := 0x19844
def STROKE_RX_CNT : Nat := 0x19848
def STROKE_DISC_CNT : Nat := 0x1984c
def STROKE_DISC_CNT.OUTSIDE : Fld := ⟨STROKE_DISC_CNT, 31, 16⟩
def STROKE_DISC_CNT.STALE : Fld := ⟨STROKE_DISC_CNT, 15, 8⟩
def STROKE_DISC_CNT.DUP : Fld := ⟨STROKE_DISC_CNT, 7, 0⟩
def STROKE_GAP_CNT : Nat := 0x19850
def ECC_CNT : Nat := 0x19854
def ECC_CNT.UE : Fld := ⟨ECC_CNT, 31, 16⟩
def ECC_CNT.CE : Fld := ⟨ECC_CNT, 15, 0⟩
def DIVERGE_CNT : Nat := 0x19858
def PUSH_REFUSED_CNT : Nat := 0x1985c
def ORG_GRP_CNT : Nat := 0x19860
def ORG_GRP_CNT.GROUP_FULL : Fld := ⟨ORG_GRP_CNT, 31, 16⟩
def ORG_GRP_CNT.ORG_MISMATCH : Fld := ⟨ORG_GRP_CNT, 15, 0⟩
def SCRUB_POS : Nat := 0x19864
def SLOT_IDX : Nat := 0x19c00
def SLOT_STAT : Nat := 0x19c04
def SLOT_STAT.GEN : Fld := ⟨SLOT_STAT, 31, 16⟩
def SLOT_STAT.STATE : Fld := ⟨SLOT_STAT, 15, 13⟩
def SLOT_STAT.DAMAGED : Fld := ⟨SLOT_STAT, 12, 12⟩
def SLOT_STAT.WANTED : Fld := ⟨SLOT_STAT, 11, 11⟩
def SLOT_STAT.PRX_OK : Fld := ⟨SLOT_STAT, 9, 9⟩
def SLOT_STAT.COV_OK : Fld := ⟨SLOT_STAT, 8, 8⟩
def SLOT_COL : Nat := 0x19c08
def SLOT_ROW : Nat := 0x19c0c
def CELL_IDX : Nat := 0x19c10
def CELL_DATA : Nat := 0x19c14
end MAP

/-! The addresses and fields of GEOM. -/
namespace GEOM
def GEOM_OUT_POS (j : Nat) : Nat := 0x1a400 + 8 * j
def GEOM_OUT_POS.X_MM (j : Nat) : Fld := ⟨GEOM_OUT_POS j, 31, 16⟩
def GEOM_OUT_POS.Y_MM (j : Nat) : Fld := ⟨GEOM_OUT_POS j, 15, 0⟩
def GEOM_OUT_ATTR (j : Nat) : Nat := 0x1a404 + 8 * j
def GEOM_OUT_ATTR.EN (j : Nat) : Fld := ⟨GEOM_OUT_ATTR j, 31, 31⟩
def GEOM_OUT_ATTR.BODY (j : Nat) : Fld := ⟨GEOM_OUT_ATTR j, 30, 30⟩
def GEOM_OUT_ATTR.SWATH_MM (j : Nat) : Fld := ⟨GEOM_OUT_ATTR j, 15, 0⟩
def GEOM_UPD_CNT : Nat := 0x1a800
def GEOM_REV (i : Nat) : Nat := 0x1a810 + 4 * i
def GEOM_TRV_IDX : Nat := 0x1ac00
def GEOM_TRV_LO : Nat := 0x1ac04
def GEOM_TRV_HI : Nat := 0x1ac08
def GEOM_SPD : Nat := 0x1ac0c
def GEOM_TRV_RES : Nat := 0x1ac10
end GEOM

/-! The addresses and fields of RATE. -/
namespace RATE
def PROD_CFG (p : Nat) : Nat := 0x1b100 + 0x20 * p
def PROD_CFG.EN (p : Nat) : Fld := ⟨PROD_CFG p, 31, 31⟩
def PROD_CFG.TURN_COMP (p : Nat) : Fld := ⟨PROD_CFG p, 30, 30⟩
def PROD_CFG.SRC (p : Nat) : Fld := ⟨PROD_CFG p, 29, 28⟩
def PROD_CFG.PSRC_LANE (p : Nat) : Fld := ⟨PROD_CFG p, 27, 24⟩
def PROD_CFG.PULSE_LANE (p : Nat) : Fld := ⟨PROD_CFG p, 23, 20⟩
def PROD_CFG.P_REF (p : Nat) : Fld := ⟨PROD_CFG p, 15, 0⟩
def PROD_NOZ (p : Nat) : Nat := 0x1b104 + 0x20 * p
def PROD_DOSE (p : Nat) : Nat := 0x1b108 + 0x20 * p
def PROD_FIXED (p : Nat) : Nat := 0x1b10c + 0x20 * p
def PROD_PSCALE (p : Nat) : Nat := 0x1b110 + 0x20 * p
def PROD_PSCALE.P_GAIN (p : Nat) : Fld := ⟨PROD_PSCALE p, 31, 16⟩
def PROD_PSCALE.P_OFS (p : Nat) : Fld := ⟨PROD_PSCALE p, 11, 0⟩
def PROD_LIM (p : Nat) : Nat := 0x1b114 + 0x20 * p
def PROD_LIM.DUTY_MIN (p : Nat) : Fld := ⟨PROD_LIM p, 25, 16⟩
def PROD_LIM.P_MIN (p : Nat) : Fld := ⟨PROD_LIM p, 15, 0⟩
def TBL_CTRL : Nat := 0x1b180
def TBL_CTRL.SWAP : Fld := ⟨TBL_CTRL, 0, 0⟩
def TBL_SEL : Nat := 0x1b184
def TBL_SEL.READ_ACTIVE : Fld := ⟨TBL_SEL, 4, 4⟩
def TBL_SEL.PROD : Fld := ⟨TBL_SEL, 0, 0⟩
def PROD_SCALE (p : Nat) : Nat := 0x1b188 + 4 * p
def PROD_SCALE.SCALE (p : Nat) : Fld := ⟨PROD_SCALE p, 10, 0⟩
def RATE_STAT : Nat := 0x1b800
def RATE_STAT.P1_LOW : Fld := ⟨RATE_STAT, 5, 5⟩
def RATE_STAT.P0_LOW : Fld := ⟨RATE_STAT, 4, 4⟩
def RATE_STAT.SWAP_PEND : Fld := ⟨RATE_STAT, 1, 1⟩
def RATE_STAT.ACTIVE_BANK : Fld := ⟨RATE_STAT, 0, 0⟩
def RATE_EVT : Nat := 0x1b804
def RATE_EVT.UNDER_RATE : Fld := ⟨RATE_EVT, 3, 3⟩
def RATE_EVT.OVER_RATE : Fld := ⟨RATE_EVT, 2, 2⟩
def RATE_EVT.P_LOW1 : Fld := ⟨RATE_EVT, 1, 1⟩
def RATE_EVT.P_LOW0 : Fld := ⟨RATE_EVT, 0, 0⟩
def PROD_PRESS (p : Nat) : Nat := 0x1b808 + 4 * p
def PROD_DEMAND (p : Nat) : Nat := 0x1b810 + 4 * p
def PROD_PULSE (p : Nat) : Nat := 0x1b818 + 4 * p
def OVER_CNT : Nat := 0x1b820
def UNDER_CNT : Nat := 0x1b824
def TBL_WIN (i : Nat) : Nat := 0x1bc00 + 4 * i
end RATE

/-! The addresses and fields of SCHED. -/
namespace SCHED
def SCHED_CFG : Nat := 0x1c100
def SCHED_CFG.DR_MS : Fld := ⟨SCHED_CFG, 31, 16⟩
def SCHED_CFG.DRAIN_MS : Fld := ⟨SCHED_CFG, 15, 0⟩
def SCHED_HOLD : Nat := 0x1c104
def SCHED_HOLD.HOLD_MAX : Fld := ⟨SCHED_HOLD, 4, 0⟩
def SCHED_LATE : Nat := 0x1c108
def SCHED_LATE.LATE_REC_US : Fld := ⟨SCHED_LATE, 15, 0⟩
def SCHED_STAT : Nat := 0x1c800
def SCHED_EVT : Nat := 0x1c804
def SCHED_EVT.EVT_LOST : Fld := ⟨SCHED_EVT, 6, 6⟩
def SCHED_EVT.DR_EXPIRED : Fld := ⟨SCHED_EVT, 5, 5⟩
def SCHED_EVT.EVT_FULL : Fld := ⟨SCHED_EVT, 4, 4⟩
def SCHED_EVT.PAIR_CANCEL : Fld := ⟨SCHED_EVT, 3, 3⟩
def SCHED_EVT.TORN : Fld := ⟨SCHED_EVT, 2, 2⟩
def SCHED_EVT.STALE : Fld := ⟨SCHED_EVT, 1, 1⟩
def SCHED_EVT.LATE : Fld := ⟨SCHED_EVT, 0, 0⟩
def SCHED_HOLD_STAT : Nat := 0x1c808
def ADMIT_TOTAL : Nat := 0x1c80c
def FIRED_TOTAL : Nat := 0x1c810
def EVT_LOST_CNT : Nat := 0x1c814
end SCHED

/-! The addresses and fields of LANE. -/
namespace LANE
def LINK_CFG (n : Nat) : Nat := (0x100 + n) * 4096 + 0x100
def LINK_CFG.AUTOFENCE (n : Nat) : Fld := ⟨LINK_CFG n, 31, 31⟩
def LINK_CFG.FENCE_THR (n : Nat) : Fld := ⟨LINK_CFG n, 7, 0⟩
def LINK_STAT (n : Nat) : Nat := (0x100 + n) * 4096 + 0x800
def LINK_STAT.LOST (n : Nat) : Fld := ⟨LINK_STAT n, 31, 31⟩
def LINK_STAT.SAFE_N (n : Nat) : Fld := ⟨LINK_STAT n, 30, 30⟩
def LINK_STAT.FENCED (n : Nat) : Fld := ⟨LINK_STAT n, 29, 29⟩
def LINK_STAT.FAULT_CNT (n : Nat) : Fld := ⟨LINK_STAT n, 15, 0⟩
def LANE_EVT (n : Nat) : Nat := (0x100 + n) * 4096 + 0x804
def LANE_EVT.SELF_FAIL (n : Nat) : Fld := ⟨LANE_EVT n, 3, 3⟩
def LANE_EVT.FENCED (n : Nat) : Fld := ⟨LANE_EVT n, 2, 2⟩
def LANE_EVT.LOST (n : Nat) : Fld := ⟨LANE_EVT n, 1, 1⟩
def LANE_EVT.LINK_FAULT (n : Nat) : Fld := ⟨LANE_EVT n, 0, 0⟩
def NAK_CNT (n : Nat) : Nat := (0x100 + n) * 4096 + 0x808
def NAK_CNT.UP (n : Nat) : Fld := ⟨NAK_CNT n, 31, 16⟩
def NAK_CNT.DN (n : Nat) : Fld := ⟨NAK_CNT n, 15, 0⟩
def FLIT_CNT (n : Nat) : Nat := (0x100 + n) * 4096 + 0x80c
def SELF_STAT (n : Nat) : Nat := (0x100 + n) * 4096 + 0x810
def SELF_STAT.SELF_OK (n : Nat) : Fld := ⟨SELF_STAT n, 31, 31⟩
def SQ_STAT (n : Nat) : Nat := (0x100 + n) * 4096 + 0x880
def SQ_STAT.DRAINING (n : Nat) : Fld := ⟨SQ_STAT n, 31, 31⟩
def SQ_STAT.DR (n : Nat) : Fld := ⟨SQ_STAT n, 30, 30⟩
def SQ_STAT.DR_EXPIRED (n : Nat) : Fld := ⟨SQ_STAT n, 29, 29⟩
def SQ_STAT.OCC (n : Nat) : Fld := ⟨SQ_STAT n, 6, 0⟩
def SQ_PEAK (n : Nat) : Nat := (0x100 + n) * 4096 + 0x884
def FIRED_CNT (n : Nat) : Nat := (0x100 + n) * 4096 + 0x888
def LATE_CNT (n : Nat) : Nat := (0x100 + n) * 4096 + 0x88c
def LATE_MAX (n : Nat) : Nat := (0x100 + n) * 4096 + 0x890
def EPOCH_CNT (n : Nat) : Nat := (0x100 + n) * 4096 + 0x894
def EPOCH_CNT.AHEAD (n : Nat) : Fld := ⟨EPOCH_CNT n, 31, 16⟩
def EPOCH_CNT.STALE (n : Nat) : Fld := ⟨EPOCH_CNT n, 15, 0⟩
def DISC_CNT (n : Nat) : Nat := (0x100 + n) * 4096 + 0x898
def DISC_CNT.TORN (n : Nat) : Fld := ⟨DISC_CNT n, 31, 24⟩
def DISC_CNT.DUP (n : Nat) : Fld := ⟨DISC_CNT n, 23, 16⟩
def DISC_CNT.MERGED (n : Nat) : Fld := ⟨DISC_CNT n, 15, 8⟩
def DISC_CNT.PAIR_CANCEL (n : Nat) : Fld := ⟨DISC_CNT n, 7, 0⟩
def QFULL_CNT (n : Nat) : Nat := (0x100 + n) * 4096 + 0x89c
def CANCEL_CNT (n : Nat) : Nat := (0x100 + n) * 4096 + 0x8a0
def TRV_AGE (n : Nat) : Nat := (0x100 + n) * 4096 + 0x8a4
def SQ_IDX (n : Nat) : Nat := (0x100 + n) * 4096 + 0xc00
def SQ_E0 (n : Nat) : Nat := (0x100 + n) * 4096 + 0xc04
def SQ_E1 (n : Nat) : Nat := (0x100 + n) * 4096 + 0xc08
def SQ_E1.STATE (n : Nat) : Fld := ⟨SQ_E1 n, 31, 30⟩
def SQ_E1.TYPE (n : Nat) : Fld := ⟨SQ_E1 n, 25, 24⟩
def SQ_E1.CLASS (n : Nat) : Fld := ⟨SQ_E1 n, 23, 21⟩
def SQ_E2 (n : Nat) : Nat := (0x100 + n) * 4096 + 0xc0c
def SQ_E2.VALUE (n : Nat) : Fld := ⟨SQ_E2 n, 23, 0⟩
def SQ_E3 (n : Nat) : Nat := (0x100 + n) * 4096 + 0xc10
def LTRV_IDX (n : Nat) : Nat := (0x100 + n) * 4096 + 0xc20
def LTRV_LO (n : Nat) : Nat := (0x100 + n) * 4096 + 0xc24
def LTRV_HI (n : Nat) : Nat := (0x100 + n) * 4096 + 0xc28
def LTRV_HI.T_L (n : Nat) : Fld := ⟨LTRV_HI n, 15, 0⟩
def LTRV_SPD (n : Nat) : Nat := (0x100 + n) * 4096 + 0xc2c
end LANE

/-! The addresses and fields of OUTL. -/
namespace OUTL
def BANK_CFG (n : Nat) : Nat := (0x110 + n) * 4096 + 0x100
def BANK_CFG.PEAK_WAIT_US (n : Nat) : Fld := ⟨BANK_CFG n, 31, 16⟩
def BANK_CFG.BLANK_NS (n : Nat) : Fld := ⟨BANK_CFG n, 10, 0⟩
def SUP_CFG (n : Nat) : Nat := (0x110 + n) * 4096 + 0x104
def SUP_CFG.VBST_OV (n : Nat) : Fld := ⟨SUP_CFG n, 29, 20⟩
def SUP_CFG.VBST_MIN (n : Nat) : Fld := ⟨SUP_CFG n, 19, 10⟩
def SUP_CFG.VBST_HYST (n : Nat) : Fld := ⟨SUP_CFG n, 9, 0⟩
def DECAY_CFG (n : Nat) : Nat := (0x110 + n) * 4096 + 0x108
def DECAY_CFG.DECAY_TMAX_US (n : Nat) : Fld := ⟨DECAY_CFG n, 31, 16⟩
def DECAY_CFG.DECAY_END_MA (n : Nat) : Fld := ⟨DECAY_CFG n, 11, 0⟩
def SPRAY_CFG (n : Nat) : Nat := (0x110 + n) * 4096 + 0x10c
def SPRAY_CFG.FREQ_HZ (n : Nat) : Fld := ⟨SPRAY_CFG n, 31, 24⟩
def SPRAY_CFG.INTLV (n : Nat) : Fld := ⟨SPRAY_CFG n, 17, 16⟩
def SPRAY_CFG.STAGGER_US (n : Nat) : Fld := ⟨SPRAY_CFG n, 15, 0⟩
def SPRAY_LIM (n : Nat) : Nat := (0x110 + n) * 4096 + 0x110
def SPRAY_LIM.MIN_ON_US (n : Nat) : Fld := ⟨SPRAY_LIM n, 31, 16⟩
def SPRAY_LIM.MIN_OFF_US (n : Nat) : Fld := ⟨SPRAY_LIM n, 15, 0⟩
def PROP_CFG (n : Nat) : Nat := (0x110 + n) * 4096 + 0x114
def PROP_CFG.PROP_PER_US (n : Nat) : Fld := ⟨PROP_CFG n, 7, 0⟩
def OUT_CFG (n k : Nat) : Nat := (0x110 + n) * 4096 + 0x120 + 4 * k
def OUT_CFG.PROF (n k : Nat) : Fld := ⟨OUT_CFG n k, 30, 28⟩
def OUT_CFG.GAIN (n k : Nat) : Fld := ⟨OUT_CFG n k, 25, 24⟩
def OUT_CFG.SHUNT_UOHM (n k : Nat) : Fld := ⟨OUT_CFG n k, 19, 0⟩
def OUT_PROT (n k : Nat) : Nat := (0x110 + n) * 4096 + 0x140 + 4 * k
def OUT_PROT.OC_MA (n k : Nat) : Fld := ⟨OUT_PROT n k, 31, 16⟩
def OUT_PROT.OC_N (n k : Nat) : Fld := ⟨OUT_PROT n k, 15, 12⟩
def OUT_PROT.OC_RETRY (n k : Nat) : Fld := ⟨OUT_PROT n k, 11, 8⟩
def OUT_PROT.RETRY_MS (n k : Nat) : Fld := ⟨OUT_PROT n k, 7, 0⟩
def PROF_CFG (n p : Nat) : Nat := (0x110 + n) * 4096 + 0x200 + 0x40 * p
def PROF_CFG.PEAK_POL (n p : Nat) : Fld := ⟨PROF_CFG n p, 31, 31⟩
def PROF_CFG.BOOST_NR (n p : Nat) : Fld := ⟨PROF_CFG n p, 30, 29⟩
def PROF_CFG.PULSE_FIRST (n p : Nat) : Fld := ⟨PROF_CFG n p, 26, 24⟩
def PROF_CFG.ACC0 (n p : Nat) : Fld := ⟨PROF_CFG n p, 15, 0⟩
def PROF_PH (n p q : Nat) : Nat := (0x110 + n) * 4096 + 0x204 + 0x40 * p + 8 * q
def PROF_PH.MODE (n p q : Nat) : Fld := ⟨PROF_PH n p q, 31, 29⟩
def PROF_PH.OFF_STY (n p q : Nat) : Fld := ⟨PROF_PH n p q, 28, 27⟩
def PROF_PH.END (n p q : Nat) : Fld := ⟨PROF_PH n p q, 26, 25⟩
def PROF_PH.CHOP_STY (n p q : Nat) : Fld := ⟨PROF_PH n p q, 24, 23⟩
def PROF_PH.HYST (n p q : Nat) : Fld := ⟨PROF_PH n p q, 22, 16⟩
def PROF_PH.TGT_MA (n p q : Nat) : Fld := ⟨PROF_PH n p q, 15, 0⟩
def PROF_PH_T (n p q : Nat) : Nat := (0x110 + n) * 4096 + 0x208 + 0x40 * p + 8 * q
def PROF_PH_T.DUR_US (n p q : Nat) : Fld := ⟨PROF_PH_T n p q, 31, 16⟩
def PROF_PH_T.TMAX_US (n p q : Nat) : Fld := ⟨PROF_PH_T n p q, 15, 0⟩
def PROF_PROP_MAP (n p : Nat) : Nat := (0x110 + n) * 4096 + 0x234 + 0x40 * p
def PROF_PROP_MAP.I0_MA (n p : Nat) : Fld := ⟨PROF_PROP_MAP n p, 31, 16⟩
def PROF_PROP_MAP.SLOPE (n p : Nat) : Fld := ⟨PROF_PROP_MAP n p, 15, 0⟩
def PROF_PROP_REG (n p : Nat) : Nat := (0x110 + n) * 4096 + 0x238 + 0x40 * p
def PROF_PROP_REG.KP (n p : Nat) : Fld := ⟨PROF_PROP_REG n p, 31, 16⟩
def PROF_PROP_REG.KI (n p : Nat) : Fld := ⟨PROF_PROP_REG n p, 15, 0⟩
def PROF_DITH (n p : Nat) : Nat := (0x110 + n) * 4096 + 0x23c + 0x40 * p
def PROF_DITH.DITH_HZ (n p : Nat) : Fld := ⟨PROF_DITH n p, 24, 16⟩
def PROF_DITH.DITH_MA (n p : Nat) : Fld := ⟨PROF_DITH n p, 11, 0⟩
def OUTL_STAT (n : Nat) : Nat := (0x110 + n) * 4096 + 0x800
def OUTL_STAT.HS_ON (n : Nat) : Fld := ⟨OUTL_STAT n, 7, 7⟩
def OUTL_STAT.VBST (n : Nat) : Fld := ⟨OUTL_STAT n, 5, 5⟩
def OUTL_STAT.PEAK_BUSY (n : Nat) : Fld := ⟨OUTL_STAT n, 4, 4⟩
def OUTL_EVT (n : Nat) : Nat := (0x110 + n) * 4096 + 0x804
def OUTL_EVT.DECAY_TMO (n : Nat) : Fld := ⟨OUTL_EVT n, 10, 10⟩
def OUTL_EVT.OPEN_LOAD (n : Nat) : Fld := ⟨OUTL_EVT n, 9, 9⟩
def OUTL_EVT.OC (n : Nat) : Fld := ⟨OUTL_EVT n, 8, 8⟩
def OUTL_EVT.PEAK_TMO (n : Nat) : Fld := ⟨OUTL_EVT n, 7, 7⟩
def OUTL_EVT.PEAK_LATE (n : Nat) : Fld := ⟨OUTL_EVT n, 6, 6⟩
def OUTL_EVT.PEAK_SKIP (n : Nat) : Fld := ⟨OUTL_EVT n, 5, 5⟩
def OUTL_EVT.BOOST_SUB (n : Nat) : Fld := ⟨OUTL_EVT n, 4, 4⟩
def OUTL_EVT.PEAK_SHARED (n : Nat) : Fld := ⟨OUTL_EVT n, 3, 3⟩
def OUTL_EVT.CLAMP_DEMOTE (n : Nat) : Fld := ⟨OUTL_EVT n, 2, 2⟩
def OUTL_EVT.PULSE_CLIP (n : Nat) : Fld := ⟨OUTL_EVT n, 1, 1⟩
def OUTL_EVT.MIN_ON_STRETCH (n : Nat) : Fld := ⟨OUTL_EVT n, 0, 0⟩
def SUP_STAT (n : Nat) : Nat := (0x110 + n) * 4096 + 0x808
def SUP_STAT.VBST (n : Nat) : Fld := ⟨SUP_STAT n, 31, 16⟩
def SUP_STAT.VBAT (n : Nat) : Fld := ⟨SUP_STAT n, 15, 0⟩
def PEAK_WAIT_MAX (n : Nat) : Nat := (0x110 + n) * 4096 + 0x80c
def PEAK_LATE_CNT (n : Nat) : Nat := (0x110 + n) * 4096 + 0x810
def PEAK_SKIP_CNT (n : Nat) : Nat := (0x110 + n) * 4096 + 0x814
def BOOST_SUB_CNT (n : Nat) : Nat := (0x110 + n) * 4096 + 0x818
def OC_CNT (n : Nat) : Nat := (0x110 + n) * 4096 + 0x81c
def DEMOTE_CNT (n : Nat) : Nat := (0x110 + n) * 4096 + 0x820
def PULSE_CNT (n : Nat) : Nat := (0x110 + n) * 4096 + 0x824
def FAULT_CLR (n : Nat) : Nat := (0x110 + n) * 4096 + 0x828
def OUT_STAT (n k : Nat) : Nat := (0x110 + n) * 4096 + 0x840 + 4 * k
def OUT_STAT.STATE (n k : Nat) : Fld := ⟨OUT_STAT n k, 31, 28⟩
def OUT_IMA (n k : Nat) : Nat := (0x110 + n) * 4096 + 0x860 + 4 * k
end OUTL

/-! The addresses and fields of PWMG. -/
namespace PWMG
def BRIDGE_CFG (n : Nat) : Nat := (0x120 + n) * 4096 + 0x100
def BRIDGE_CFG.LINK (n : Nat) : Fld := ⟨BRIDGE_CFG n, 31, 31⟩
def BRIDGE_CFG.BRAKE (n : Nat) : Fld := ⟨BRIDGE_CFG n, 30, 30⟩
def BRIDGE_CFG.COMM_IMM (n : Nat) : Fld := ⟨BRIDGE_CFG n, 29, 29⟩
def BRIDGE_CFG.CMP_SRC (n : Nat) : Fld := ⟨BRIDGE_CFG n, 28, 28⟩
def SYNC_CFG (n : Nat) : Nat := (0x120 + n) * 4096 + 0x104
def SYNC_CFG.OUT_SEL (n : Nat) : Fld := ⟨SYNC_CFG n, 31, 30⟩
def SYNC_CFG.IN_EN (n : Nat) : Fld := ⟨SYNC_CFG n, 19, 16⟩
def SYNC_PH_BR (n : Nat) : Nat := (0x120 + n) * 4096 + 0x108
def SYNC_PH_BR.PHASE (n : Nat) : Fld := ⟨SYNC_PH_BR n, 16, 0⟩
def SYNC_PH_G3 (n : Nat) : Nat := (0x120 + n) * 4096 + 0x10c
def SYNC_PH_G3.PHASE (n : Nat) : Fld := ⟨SYNC_PH_G3 n, 16, 0⟩
def G_CFG (n g : Nat) : Nat := (0x120 + n) * 4096 + 0x110 + 4 * g
def G_CFG.COMMIT (n g : Nat) : Fld := ⟨G_CFG n g, 31, 31⟩
def G_CFG.EN (n g : Nat) : Fld := ⟨G_CFG n g, 0, 0⟩
def G_DT (n g : Nat) : Nat := (0x120 + n) * 4096 + 0x120 + 4 * g
def G_DT.DT_FALL (n g : Nat) : Fld := ⟨G_DT n g, 25, 16⟩
def G_DT.DT_RISE (n g : Nat) : Fld := ⟨G_DT n g, 9, 0⟩
def STAT (n : Nat) : Nat := (0x120 + n) * 4096 + 0x800
def STAT.PEND (n : Nat) : Fld := ⟨STAT n, 31, 28⟩
def STAT.HELD (n : Nat) : Fld := ⟨STAT n, 27, 24⟩
def STAT.ORDER (n : Nat) : Fld := ⟨STAT n, 19, 16⟩
def STAT.BRAKE_ON (n : Nat) : Fld := ⟨STAT n, 9, 9⟩
def STAT.SAFE (n : Nat) : Fld := ⟨STAT n, 8, 8⟩
def EVT (n : Nat) : Nat := (0x120 + n) * 4096 + 0x804
def EVT.PER_MIN (n : Nat) : Fld := ⟨EVT n, 4, 4⟩
def EVT.CMP_FULL (n : Nat) : Fld := ⟨EVT n, 3, 3⟩
def EVT.SYNC_GLITCH (n : Nat) : Fld := ⟨EVT n, 2, 2⟩
def EVT.SYNC_SLIP (n : Nat) : Fld := ⟨EVT n, 1, 1⟩
def EVT.ORDER (n : Nat) : Fld := ⟨EVT n, 0, 0⟩
def COMMIT (n : Nat) : Nat := (0x120 + n) * 4096 + 0x808
def OUT_LVL (n : Nat) : Nat := (0x120 + n) * 4096 + 0x80c
def OUT_LVL.CL (n : Nat) : Fld := ⟨OUT_LVL n, 5, 5⟩
def OUT_LVL.CH (n : Nat) : Fld := ⟨OUT_LVL n, 4, 4⟩
def OUT_LVL.BL (n : Nat) : Fld := ⟨OUT_LVL n, 3, 3⟩
def OUT_LVL.BH (n : Nat) : Fld := ⟨OUT_LVL n, 2, 2⟩
def OUT_LVL.AL (n : Nat) : Fld := ⟨OUT_LVL n, 1, 1⟩
def OUT_LVL.AH (n : Nat) : Fld := ⟨OUT_LVL n, 0, 0⟩
def SLIP_CNT (n : Nat) : Nat := (0x120 + n) * 4096 + 0x810
def ORDER_CNT (n : Nat) : Nat := (0x120 + n) * 4096 + 0x814
def GLITCH_CNT (n : Nat) : Nat := (0x120 + n) * 4096 + 0x818
def CMP_FULL_CNT (n : Nat) : Nat := (0x120 + n) * 4096 + 0x81c
def G_PER (n g : Nat) : Nat := (0x120 + n) * 4096 + 0x840 + 0x10 * g
def G_PER.PER_INT (n g : Nat) : Fld := ⟨G_PER n g, 19, 4⟩
def G_PER.PER_FRAC (n g : Nat) : Fld := ⟨G_PER n g, 3, 0⟩
def G_CMP (n g : Nat) : Nat := (0x120 + n) * 4096 + 0x844 + 0x10 * g
def G_CMP.CMP_INT (n g : Nat) : Fld := ⟨G_CMP n g, 19, 4⟩
def G_CMP.CMP_FRAC (n g : Nat) : Fld := ⟨G_CMP n g, 3, 0⟩
def G_MODE (n g : Nat) : Nat := (0x120 + n) * 4096 + 0x848 + 0x10 * g
def G_MODE.OE (n g : Nat) : Fld := ⟨G_MODE n g, 4, 4⟩
def G_MODE.MODE (n g : Nat) : Fld := ⟨G_MODE n g, 1, 0⟩
def G_POS (n g : Nat) : Nat := (0x120 + n) * 4096 + 0x84c + 0x10 * g
def G_PER_ACT (n g : Nat) : Nat := (0x120 + n) * 4096 + 0x880 + 8 * g
def G_CMP_ACT (n g : Nat) : Nat := (0x120 + n) * 4096 + 0x884 + 8 * g
end PWMG

/-! The addresses and fields of LOOP. -/
namespace LOOP
def ENG_CFG (n : Nat) : Nat := (0x130 + n) * 4096 + 0x100
def ENG_CFG.EN (n : Nat) : Fld := ⟨ENG_CFG n, 31, 31⟩
def ENG_CFG.TOP (n : Nat) : Fld := ⟨ENG_CFG n, 29, 28⟩
def ENG_CFG.D1C (n : Nat) : Fld := ⟨ENG_CFG n, 26, 24⟩
def ENG_CFG.D2 (n : Nat) : Fld := ⟨ENG_CFG n, 21, 16⟩
def ENG_CFG.TRIG_G (n : Nat) : Fld := ⟨ENG_CFG n, 13, 13⟩
def ENG_CFG.TRIG_MARK (n : Nat) : Fld := ⟨ENG_CFG n, 12, 12⟩
def ENG_CFG.TRIG_DIV (n : Nat) : Fld := ⟨ENG_CFG n, 11, 8⟩
def ENG_CFG.PROP (n : Nat) : Fld := ⟨ENG_CFG n, 4, 4⟩
def ENG_CFG.OUT_MODE (n : Nat) : Fld := ⟨ENG_CFG n, 1, 0⟩
def SP_CFG (n : Nat) : Nat := (0x130 + n) * 4096 + 0x104
def SP_CFG.SRC (n : Nat) : Fld := ⟨SP_CFG n, 31, 28⟩
def SP_CFG.SP_SHIFT (n : Nat) : Fld := ⟨SP_CFG n, 20, 16⟩
def SP_CFG.ZERO_OFF (n : Nat) : Fld := ⟨SP_CFG n, 8, 8⟩
def SP_GAIN (n : Nat) : Nat := (0x130 + n) * 4096 + 0x108
def SP_OFS (n : Nat) : Nat := (0x130 + n) * 4096 + 0x10c
def SP_SLEW (n : Nat) : Nat := (0x130 + n) * 4096 + 0x110
def SP_SLEW.SLEW_DN (n : Nat) : Fld := ⟨SP_SLEW n, 31, 16⟩
def SP_SLEW.SLEW_UP (n : Nat) : Fld := ⟨SP_SLEW n, 15, 0⟩
def COMM_CFG (n : Nat) : Nat := (0x130 + n) * 4096 + 0x114
def COMM_CFG.COMM_DR (n : Nat) : Fld := ⟨COMM_CFG n, 8, 8⟩
def COMM_CFG.DR_MAX (n : Nat) : Fld := ⟨COMM_CFG n, 7, 4⟩
def COMM_CFG.DIR_INV (n : Nat) : Fld := ⟨COMM_CFG n, 3, 3⟩
def COMM_CFG.HALL_OFS (n : Nat) : Fld := ⟨COMM_CFG n, 2, 0⟩
def AIN_CFG (n : Nat) : Nat := (0x130 + n) * 4096 + 0x118
def AIN_CFG.PULSE_EN (n : Nat) : Fld := ⟨AIN_CFG n, 31, 31⟩
def AIN_CFG.HI (n : Nat) : Fld := ⟨AIN_CFG n, 27, 16⟩
def AIN_CFG.LO (n : Nat) : Fld := ⟨AIN_CFG n, 11, 0⟩
def AIN_TMO (n : Nat) : Nat := (0x130 + n) * 4096 + 0x11c
def FF_CFG (n : Nat) : Nat := (0x130 + n) * 4096 + 0x120
def FF_CFG.FRIC_EN (n : Nat) : Fld := ⟨FF_CFG n, 31, 31⟩
def FF_CFG.COG_EN (n : Nat) : Fld := ⟨FF_CFG n, 30, 30⟩
def FF_CFG.FRIC_STEP (n : Nat) : Fld := ⟨FF_CFG n, 23, 0⟩
def COG_CFG (n : Nat) : Nat := (0x130 + n) * 4096 + 0x124
def COG_CFG.COG_CPR (n : Nat) : Fld := ⟨COG_CFG n, 31, 16⟩
def COG_CFG.COG_OFS (n : Nat) : Fld := ⟨COG_CFG n, 15, 0⟩
def L_FB (n l : Nat) : Nat := (0x130 + n) * 4096 + 0x140 + 0x20 * l
def L_FB.FB_SRC (n l : Nat) : Fld := ⟨L_FB n l, 31, 28⟩
def L_FB.ISNS_SEL (n l : Nat) : Fld := ⟨L_FB n l, 26, 24⟩
def L_FB.FB_SHIFT (n l : Nat) : Fld := ⟨L_FB n l, 20, 16⟩
def L_FB_GAIN (n l : Nat) : Nat := (0x130 + n) * 4096 + 0x144 + 0x20 * l
def L_FB_OFS (n l : Nat) : Nat := (0x130 + n) * 4096 + 0x148 + 0x20 * l
def L_OUT_MAX (n l : Nat) : Nat := (0x130 + n) * 4096 + 0x14c + 0x20 * l
def L_OUT_MIN (n l : Nat) : Nat := (0x130 + n) * 4096 + 0x150 + 0x20 * l
def L_KFF (n l : Nat) : Nat := (0x130 + n) * 4096 + 0x154 + 0x20 * l
def L_HW_CFG (n l : Nat) : Nat := (0x130 + n) * 4096 + 0x158 + 0x20 * l
def L_HW_CFG.ACTION (n l : Nat) : Fld := ⟨L_HW_CFG n l, 31, 30⟩
def L_HW_CFG.THR (n l : Nat) : Fld := ⟨L_HW_CFG n l, 15, 0⟩
def L_HW_MODEL (n l : Nat) : Nat := (0x130 + n) * 4096 + 0x15c + 0x20 * l
def L_HW_MODEL.ALPHA (n l : Nat) : Fld := ⟨L_HW_MODEL n l, 31, 16⟩
def L_HW_MODEL.CORR (n l : Nat) : Fld := ⟨L_HW_MODEL n l, 15, 0⟩
def ENG_STAT (n : Nat) : Nat := (0x130 + n) * 4096 + 0x800
def ENG_STAT.IMPLAUSIBLE (n : Nat) : Fld := ⟨ENG_STAT n, 26, 24⟩
def ENG_STAT.DR (n : Nat) : Fld := ⟨ENG_STAT n, 3, 3⟩
def ENG_STAT.STOPPED (n : Nat) : Fld := ⟨ENG_STAT n, 2, 2⟩
def ENG_STAT.SAFE_STOP (n : Nat) : Fld := ⟨ENG_STAT n, 1, 1⟩
def ENG_STAT.RUNNING (n : Nat) : Fld := ⟨ENG_STAT n, 0, 0⟩
def ENG_EVT (n : Nat) : Nat := (0x130 + n) * 4096 + 0x804
def ENG_EVT.DR (n : Nat) : Fld := ⟨ENG_EVT n, 7, 7⟩
def ENG_EVT.COMM_LOST (n : Nat) : Fld := ⟨ENG_EVT n, 6, 6⟩
def ENG_EVT.HW_SAFE (n : Nat) : Fld := ⟨ENG_EVT n, 5, 5⟩
def ENG_EVT.HW_IMPLAUS (n : Nat) : Fld := ⟨ENG_EVT n, 4, 4⟩
def ENG_EVT.LIVE_WRITE (n : Nat) : Fld := ⟨ENG_EVT n, 3, 3⟩
def ENG_EVT.SEC_SAT (n : Nat) : Fld := ⟨ENG_EVT n, 2, 2⟩
def ENG_EVT.OUT_SAT (n : Nat) : Fld := ⟨ENG_EVT n, 1, 1⟩
def ENG_EVT.OVERRUN (n : Nat) : Fld := ⟨ENG_EVT n, 0, 0⟩
def SP_REG (n : Nat) : Nat := (0x130 + n) * 4096 + 0x808
def ENG_CTRL (n : Nat) : Nat := (0x130 + n) * 4096 + 0x80c
def ENG_CTRL.SWAP (n : Nat) : Fld := ⟨ENG_CTRL n, 10, 8⟩
def ENG_CTRL.RESTART (n : Nat) : Fld := ⟨ENG_CTRL n, 0, 0⟩
def BANK_LIVE (n : Nat) : Nat := (0x130 + n) * 4096 + 0x810
def BANK_LIVE.LIVE (n : Nat) : Fld := ⟨BANK_LIVE n, 2, 0⟩
def L_BANK_SEC (n l : Nat) : Nat := (0x130 + n) * 4096 + 0x814 + 4 * l
def L_BANK_SEC.INT_SEC (n l : Nat) : Fld := ⟨L_BANK_SEC n l, 14, 12⟩
def L_BANK_SEC.N_SEC (n l : Nat) : Fld := ⟨L_BANK_SEC n l, 10, 8⟩
def L_SP (n l : Nat) : Nat := (0x130 + n) * 4096 + 0x820 + 0x10 * l
def L_Y (n l : Nat) : Nat := (0x130 + n) * 4096 + 0x824 + 0x10 * l
def L_U (n l : Nat) : Nat := (0x130 + n) * 4096 + 0x828 + 0x10 * l
def L_YHAT (n l : Nat) : Nat := (0x130 + n) * 4096 + 0x82c + 0x10 * l
def FF_VAL (n : Nat) : Nat := (0x130 + n) * 4096 + 0x850
def OVR_CNT (n : Nat) : Nat := (0x130 + n) * 4096 + 0x854
def SAT_CNT (n : Nat) : Nat := (0x130 + n) * 4096 + 0x858
def SAT_CNT.L2 (n : Nat) : Fld := ⟨SAT_CNT n, 23, 16⟩
def SAT_CNT.L1 (n : Nat) : Fld := ⟨SAT_CNT n, 15, 8⟩
def SAT_CNT.L0 (n : Nat) : Fld := ⟨SAT_CNT n, 7, 0⟩
def HW_CNT (n : Nat) : Nat := (0x130 + n) * 4096 + 0x85c
def HW_CNT.L2 (n : Nat) : Fld := ⟨HW_CNT n, 23, 16⟩
def HW_CNT.L1 (n : Nat) : Fld := ⟨HW_CNT n, 15, 8⟩
def HW_CNT.L0 (n : Nat) : Fld := ⟨HW_CNT n, 7, 0⟩
def L0_CNT (n : Nat) : Nat := (0x130 + n) * 4096 + 0x860
def AIN_CODE (n : Nat) : Nat := (0x130 + n) * 4096 + 0x864
def AIN_FREQ (n : Nat) : Nat := (0x130 + n) * 4096 + 0x868
def DEM_SP (n : Nat) : Nat := (0x130 + n) * 4096 + 0x86c
def COEF_SEL (n : Nat) : Nat := (0x130 + n) * 4096 + 0xc00
def COEF_WIN (n i : Nat) : Nat := (0x130 + n) * 4096 + 0xc40 + 4 * i
def FRIC_TBL (n i : Nat) : Nat := (0x130 + n) * 4096 + 0xd00 + 4 * i
def COG_TBL (n i : Nat) : Nat := (0x130 + n) * 4096 + 0xe00 + 4 * i
end LOOP

/-! The addresses and fields of FBK. -/
namespace FBK
def IN_CFG (n : Nat) : Nat := (0x140 + n) * 4096 + 0x100
def IN_CFG.MODE (n : Nat) : Fld := ⟨IN_CFG n, 31, 30⟩
def IN_CFG.CNT_INV (n : Nat) : Fld := ⟨IN_CFG n, 29, 29⟩
def IN_CFG.DOUBLE_STEP (n : Nat) : Fld := ⟨IN_CFG n, 28, 28⟩
def IN_CFG.HYST_EN (n : Nat) : Fld := ⟨IN_CFG n, 27, 27⟩
def IN_CFG.DIFF (n : Nat) : Fld := ⟨IN_CFG n, 26, 24⟩
def IN_CFG.FILT (n : Nat) : Fld := ⟨IN_CFG n, 7, 0⟩
def WIRE_CFG (n : Nat) : Nat := (0x140 + n) * 4096 + 0x104
def WIRE_CFG.WIRE_EN (n : Nat) : Fld := ⟨WIRE_CFG n, 16, 16⟩
def WIRE_CFG.WIRE_CYC (n : Nat) : Fld := ⟨WIRE_CFG n, 15, 0⟩
def IDX_CFG (n : Nat) : Nat := (0x140 + n) * 4096 + 0x108
def IDX_CFG.POLICY (n : Nat) : Fld := ⟨IDX_CFG n, 31, 30⟩
def IDX_CFG.IDX_EN (n : Nat) : Fld := ⟨IDX_CFG n, 29, 29⟩
def IDX_CFG.HOME_FIRST (n : Nat) : Fld := ⟨IDX_CFG n, 28, 28⟩
def IDX_CFG.GATE_EN (n : Nat) : Fld := ⟨IDX_CFG n, 27, 27⟩
def IDX_CFG.GATE_AB (n : Nat) : Fld := ⟨IDX_CFG n, 26, 25⟩
def IDX_CFG.CPR (n : Nat) : Fld := ⟨IDX_CFG n, 23, 0⟩
def IDX_POS (n : Nat) : Nat := (0x140 + n) * 4096 + 0x10c
def SPD_CFG (n : Nat) : Nat := (0x140 + n) * 4096 + 0x110
def SPD_CFG.TMO_MS (n : Nat) : Fld := ⟨SPD_CFG n, 31, 16⟩
def SPD_CFG.UPD_US (n : Nat) : Fld := ⟨SPD_CFG n, 9, 0⟩
def PULSE_CFG (n : Nat) : Nat := (0x140 + n) * 4096 + 0x114
def PULSE_CFG.EDGE (n : Nat) : Fld := ⟨PULSE_CFG n, 3, 2⟩
def PULSE_CFG.DIR_EN (n : Nat) : Fld := ⟨PULSE_CFG n, 1, 1⟩
def PULSE_CFG.DIR_POL (n : Nat) : Fld := ⟨PULSE_CFG n, 0, 0⟩
def EM_CFG (n : Nat) : Nat := (0x140 + n) * 4096 + 0x118
def EM_CFG.EN (n : Nat) : Fld := ⟨EM_CFG n, 31, 31⟩
def EM_CFG.JUMP (n : Nat) : Fld := ⟨EM_CFG n, 30, 30⟩
def EM_CFG.LAG_MAX (n : Nat) : Fld := ⟨EM_CFG n, 27, 16⟩
def EM_CFG.MINT (n : Nat) : Fld := ⟨EM_CFG n, 15, 0⟩
def EM_RATIO (n : Nat) : Nat := (0x140 + n) * 4096 + 0x11c
def EM_RATIO.NUM (n : Nat) : Fld := ⟨EM_RATIO n, 31, 16⟩
def EM_RATIO.DEN (n : Nat) : Fld := ⟨EM_RATIO n, 15, 0⟩
def STAT (n : Nat) : Nat := (0x140 + n) * 4096 + 0x800
def STAT.WIRE (n : Nat) : Fld := ⟨STAT n, 18, 16⟩
def STAT.HOMED (n : Nat) : Fld := ⟨STAT n, 13, 13⟩
def STAT.PEND (n : Nat) : Fld := ⟨STAT n, 12, 12⟩
def STAT.DIR (n : Nat) : Fld := ⟨STAT n, 11, 11⟩
def STAT.HALL_BAD (n : Nat) : Fld := ⟨STAT n, 7, 7⟩
def STAT.TIMEOUT (n : Nat) : Fld := ⟨STAT n, 6, 6⟩
def STAT.EM_LAG (n : Nat) : Fld := ⟨STAT n, 5, 5⟩
def STAT.ACTIVE (n : Nat) : Fld := ⟨STAT n, 0, 0⟩
def EVT (n : Nat) : Nat := (0x140 + n) * 4096 + 0x804
def EVT.EM_LAG (n : Nat) : Fld := ⟨EVT n, 7, 7⟩
def EVT.IDX_RESYNC (n : Nat) : Fld := ⟨EVT n, 6, 6⟩
def EVT.IDX_ERR (n : Nat) : Fld := ⟨EVT n, 5, 5⟩
def EVT.ILLEGAL (n : Nat) : Fld := ⟨EVT n, 4, 4⟩
def EVT.HALL_SKIP (n : Nat) : Fld := ⟨EVT n, 3, 3⟩
def EVT.HALL_BAD (n : Nat) : Fld := ⟨EVT n, 2, 2⟩
def EVT.WIRE (n : Nat) : Fld := ⟨EVT n, 1, 1⟩
def POS (n : Nat) : Nat := (0x140 + n) * 4096 + 0x808
def SPD (n : Nat) : Nat := (0x140 + n) * 4096 + 0x80c
def FREQ (n : Nat) : Nat := (0x140 + n) * 4096 + 0x810
def ILLEGAL_CNT (n : Nat) : Nat := (0x140 + n) * 4096 + 0x814
def ILLEGAL_CNT.HALL_SKIP (n : Nat) : Fld := ⟨ILLEGAL_CNT n, 31, 16⟩
def ILLEGAL_CNT.ILLEGAL (n : Nat) : Fld := ⟨ILLEGAL_CNT n, 15, 0⟩
def IDX_ERR_CNT (n : Nat) : Nat := (0x140 + n) * 4096 + 0x818
def HALL_BAD_CNT (n : Nat) : Nat := (0x140 + n) * 4096 + 0x81c
def WIRE_CNT (n : Nat) : Nat := (0x140 + n) * 4096 + 0x820
def IDX_ERR_LAST (n : Nat) : Nat := (0x140 + n) * 4096 + 0x824
def EM_CNT (n : Nat) : Nat := (0x140 + n) * 4096 + 0x828
def POS_LOAD (n : Nat) : Nat := (0x140 + n) * 4096 + 0x82c
def EDGE_CNT (n : Nat) : Nat := (0x140 + n) * 4096 + 0x830
end FBK

/-! The addresses and fields of SNAP. -/
namespace SNAP
def SNAP_CFG (n : Nat) : Nat := (0x150 + n) * 4096 + 0x100
def SNAP_CFG.DIP_THR (n : Nat) : Fld := ⟨SNAP_CFG n, 31, 24⟩
def SNAP_CFG.KINK_THR (n : Nat) : Fld := ⟨SNAP_CFG n, 23, 16⟩
def SNAP_CFG.KINK_POL (n : Nat) : Fld := ⟨SNAP_CFG n, 15, 15⟩
def SNAP_CFG.STUCK_N (n : Nat) : Fld := ⟨SNAP_CFG n, 11, 8⟩
def SNAP_CFG.REJ_MAX (n : Nat) : Fld := ⟨SNAP_CFG n, 7, 0⟩
def SNAP_TIME (n : Nat) : Nat := (0x150 + n) * 4096 + 0x104
def SNAP_TIME.CL_BLANK_US (n : Nat) : Fld := ⟨SNAP_TIME n, 31, 16⟩
def SNAP_TIME.DRIFT_PCT (n : Nat) : Fld := ⟨SNAP_TIME n, 7, 0⟩
def MOTOR_CFG (n : Nat) : Nat := (0x150 + n) * 4096 + 0x108
def MOTOR_CFG.RUN_PCT (n : Nat) : Fld := ⟨MOTOR_CFG n, 15, 8⟩
def MOTOR_CFG.STOP_PCT (n : Nat) : Fld := ⟨MOTOR_CFG n, 7, 0⟩
def OUT_CFG (n k : Nat) : Nat := (0x150 + n) * 4096 + 0x120 + 4 * k
def OUT_CFG.LEARN_ON (n k : Nat) : Fld := ⟨OUT_CFG n k, 31, 31⟩
def OUT_CFG.LEARN_OFF (n k : Nat) : Fld := ⟨OUT_CFG n k, 30, 30⟩
def OUT_CFG.CONF_MODE (n k : Nat) : Fld := ⟨OUT_CFG n k, 29, 29⟩
def OUT_CFG.SIB (n k : Nat) : Fld := ⟨OUT_CFG n k, 28, 27⟩
def OUT_NOM (n k : Nat) : Nat := (0x150 + n) * 4096 + 0x140 + 4 * k
def OUT_NOM.NOM_OFF_US (n k : Nat) : Fld := ⟨OUT_NOM n k, 31, 16⟩
def OUT_NOM.NOM_ON_US (n k : Nat) : Fld := ⟨OUT_NOM n k, 15, 0⟩
def OUT_SEED (n k : Nat) : Nat := (0x150 + n) * 4096 + 0x160 + 4 * k
def OUT_SEED.SEED_OFF_US (n k : Nat) : Fld := ⟨OUT_SEED n k, 31, 16⟩
def OUT_SEED.SEED_ON_US (n k : Nat) : Fld := ⟨OUT_SEED n k, 15, 0⟩
def SNAP_STAT (n : Nat) : Nat := (0x150 + n) * 4096 + 0x800
def SNAP_STAT.CLOSE_FAIL (n : Nat) : Fld := ⟨SNAP_STAT n, 3, 3⟩
def SNAP_EVT (n : Nat) : Nat := (0x150 + n) * 4096 + 0x804
def SNAP_EVT.LEARNED (n : Nat) : Fld := ⟨SNAP_EVT n, 7, 7⟩
def SNAP_EVT.DLY_CLAMP (n : Nat) : Fld := ⟨SNAP_EVT n, 6, 6⟩
def SNAP_EVT.RELEARN (n : Nat) : Fld := ⟨SNAP_EVT n, 5, 5⟩
def SNAP_EVT.WEAR (n : Nat) : Fld := ⟨SNAP_EVT n, 4, 4⟩
def SNAP_EVT.CLOSE_FAIL (n : Nat) : Fld := ⟨SNAP_EVT n, 3, 3⟩
def SNAP_EVT.VALVE_STUCK (n : Nat) : Fld := ⟨SNAP_EVT n, 2, 2⟩
def SNAP_EVT.NO_CLOSE (n : Nat) : Fld := ⟨SNAP_EVT n, 1, 1⟩
def SNAP_EVT.NO_DIP (n : Nat) : Fld := ⟨SNAP_EVT n, 0, 0⟩
def NODIP_CNT (n : Nat) : Nat := (0x150 + n) * 4096 + 0x808
def NOCLOSE_CNT (n : Nat) : Nat := (0x150 + n) * 4096 + 0x80c
def UNLEARN_CNT (n : Nat) : Nat := (0x150 + n) * 4096 + 0x810
def UNLEARN_CNT.SUSPENDED (n : Nat) : Fld := ⟨UNLEARN_CNT n, 31, 24⟩
def UNLEARN_CNT.BOOST_SUB (n : Nat) : Fld := ⟨UNLEARN_CNT n, 23, 16⟩
def UNLEARN_CNT.REOPEN (n : Nat) : Fld := ⟨UNLEARN_CNT n, 15, 8⟩
def UNLEARN_CNT.DEMOTED (n : Nat) : Fld := ⟨UNLEARN_CNT n, 7, 0⟩
def RELEARN_CNT (n : Nat) : Nat := (0x150 + n) * 4096 + 0x814
def WAIT_PEND (n : Nat) : Nat := (0x150 + n) * 4096 + 0x818
def OUT_DON (n k : Nat) : Nat := (0x150 + n) * 4096 + 0x840 + 4 * k
def OUT_DOFF (n k : Nat) : Nat := (0x150 + n) * 4096 + 0x860 + 4 * k
def OUT_LASTON (n k : Nat) : Nat := (0x150 + n) * 4096 + 0x880 + 4 * k
def OUT_LASTOFF (n k : Nat) : Nat := (0x150 + n) * 4096 + 0x8a0 + 4 * k
def OUT_LASTOFF.KIND (n k : Nat) : Fld := ⟨OUT_LASTOFF n k, 29, 28⟩
def OUT_LRN (n k : Nat) : Nat := (0x150 + n) * 4096 + 0x8c0 + 4 * k
end SNAP

/-! The offsets of the common header (R448, Table 17-2). -/
namespace HDR
def PG_ID : Nat := 0x000
def PG_CTRL : Nat := 0x004
def PG_STAT : Nat := 0x008
def PG_IRQ_RAW : Nat := 0x00C
def PG_IRQ_MASK : Nat := 0x010
def PG_IRQ_PEND : Nat := 0x014
def PG_ERR_FIRST : Nat := 0x018
def PG_CFG_CRC : Nat := 0x01C
def PG_PROG_PCT : Nat := 0x020
def PG_PROG_POS : Nat := 0x024
def PG_EPOCH : Nat := 0x028
end HDR

/-- The register table of a page kind. -/
def regsOf : PageKind → List RegDef
  | .sys => regsSys
  | .clk => regsClk
  | .pwr => regsPwr
  | .laurel => regsLaurel
  | .hostq => regsHostq
  | .mbox => regsMbox
  | .yew => regsYew
  | .nor => regsNor
  | .rtx => regsRtx
  | .rtime => regsRtime
  | .rtun => regsRtun
  | .gnss => regsGnss
  | .tpls => regsTpls
  | .imu => regsImu
  | .pose => regsPose
  | .gspd => regsGspd
  | .fpe => regsFpe
  | .map => regsMap
  | .geom => regsGeom
  | .rate => regsRate
  | .sched => regsSched
  | .lane => regsLane
  | .outl => regsOutl
  | .pwmg => regsPwmg
  | .loop => regsLoop
  | .fbk => regsFbk
  | .snap => regsSnap

/-- The page number of instance 0 of a page kind (Table 17-4), which is its TYPE (R449). -/
def pageBase : PageKind → Nat
  | .sys => 0x0
  | .clk => 0x1
  | .pwr => 0x2
  | .laurel => 0x3
  | .hostq => 0x4
  | .mbox => 0x5
  | .yew => 0x6
  | .nor => 0x7
  | .rtx => 0x8
  | .rtime => 0xa
  | .rtun => 0xb
  | .gnss => 0x10
  | .tpls => 0x12
  | .imu => 0x13
  | .pose => 0x14
  | .gspd => 0x15
  | .fpe => 0x18
  | .map => 0x19
  | .geom => 0x1a
  | .rate => 0x1b
  | .sched => 0x1c
  | .lane => 0x100
  | .outl => 0x110
  | .pwmg => 0x120
  | .loop => 0x130
  | .fbk => 0x140
  | .snap => 0x150

/-- The kind and instance of a page number within a BL1680 (Table 17-4); `none` for an absent page (R457). -/
def pageKind (p : Nat) : Option (PageKind × Nat) :=
  if p = 0x0 then some (.sys, 0)
  else if p = 0x1 then some (.clk, 0)
  else if p = 0x2 then some (.pwr, 0)
  else if p = 0x3 then some (.laurel, 0)
  else if p = 0x4 then some (.hostq, 0)
  else if p = 0x5 then some (.mbox, 0)
  else if p = 0x6 then some (.yew, 0)
  else if p = 0x7 then some (.nor, 0)
  else if 0x8 ≤ p ∧ p < 0xa then some (.rtx, p - 0x8)
  else if p = 0xa then some (.rtime, 0)
  else if p = 0xb then some (.rtun, 0)
  else if 0x10 ≤ p ∧ p < 0x12 then some (.gnss, p - 0x10)
  else if p = 0x12 then some (.tpls, 0)
  else if p = 0x13 then some (.imu, 0)
  else if p = 0x14 then some (.pose, 0)
  else if p = 0x15 then some (.gspd, 0)
  else if p = 0x18 then some (.fpe, 0)
  else if p = 0x19 then some (.map, 0)
  else if p = 0x1a then some (.geom, 0)
  else if p = 0x1b then some (.rate, 0)
  else if p = 0x1c then some (.sched, 0)
  else if 0x100 ≤ p ∧ p < 0x110 then some (.lane, p - 0x100)
  else if 0x110 ≤ p ∧ p < 0x120 then some (.outl, p - 0x110)
  else if 0x120 ≤ p ∧ p < 0x130 then some (.pwmg, p - 0x120)
  else if 0x130 ≤ p ∧ p < 0x140 then some (.loop, p - 0x130)
  else if 0x140 ≤ p ∧ p < 0x150 then some (.fbk, p - 0x140)
  else if 0x150 ≤ p ∧ p < 0x160 then some (.snap, p - 0x150)
  else none

/-- Whether a register definition covers offset `o`. -/
def RegDef.covers (d : RegDef) (o : Nat) : Bool :=
  decide (d.off ≤ o) &&
    (let r := o - d.off
     decide (r / d.s1 < d.n1) && decide ((r % d.s1) / d.s2 < d.n2) && decide ((r % d.s1) % d.s2 = 0))

/-- The definition of the register at offset `o` of a page kind, the header included. -/
def findReg (k : PageKind) (o : Nat) : Option RegDef :=
  if o < 0x02C then regsHdr.find? (·.covers o) else (regsOf k).find? (·.covers o)

/-- BUF_BLK of a queue at reset (Table 14-3). -/
def bufBlkReset (q : Nat) : Nat :=
  if q = 0 then 4352 else if q = 1 then 8448 else if q = 2 then 1024 else if q = 3 then 1024
  else if q = 4 then 2048 else if q = 8 then 8448 else if q = 9 then 256 else if q = 13 then 4096
  else if q = 10 ∨ q = 11 ∨ q = 12 ∨ q = 14 then 1024 else if 16 ≤ q ∧ q < 32 then 1024 else 0

/-- The reset value that the page tables give the register at a host address; 0 where there is none. -/
def regReset (a : Nat) : Word :=
  match pageKind (a / 4096) with
  | none => 0
  | some (k, _) =>
    let o := a % 4096
    if k = .hostq ∧ 0x100 ≤ o ∧ o < 0x180 then wd (bufBlkReset ((o - 0x100) / 4) * 65536 + 0x100)
    else match findReg k o with
      | none => 0
      | some d => wd d.rst

/-- The bits of a register that a read returns as 0 whatever they hold: its WO bits (Table 0-3). -/
def RegDef.writeMask (d : RegDef) : Nat := d.rwl ||| d.rw ||| d.w1c ||| d.wo

end Sys2Proof.Machine
end

