-- ==== Sys2Proof/Machine/State.lean ====
section
/-! DEFINITION. The whole state of the block, as plain data, and its value right after reset. -/
namespace Sys2Proof.Machine

/-- Why a step faults: no command of this block faults, since every command has a meaning in every state. -/
inductive Fault where
  deriving DecidableEq

/-- Why a command is refused. -/
inductive Refusal where
  /-- The command has no meaning in the model yet. Raised by the arms of exec only; safe. -/
  | notModelled (mnemonic : String)
  deriving DecidableEq, Repr

/-- The levels of the ball outputs that PFAIL_N freezes (R30). -/
structure Balls where
  gsout : Bool
  tpulse : Bool
  tpulseB : Bool
  gifAgc : Bool
  deriving DecidableEq, Repr

structure State where
  /-- The commands that are waiting, first in, first out. -/
  pending : List Instr
  /-- Ring time, ps. -/
  now : Time
  member : Member
  dev : DevState
  prev : DevState
  /-- When the state last changed. -/
  devAt : Time
  /-- The changes since the instant of the latest travel update, oldest first: when, and the state left (R63). -/
  devLog : List (Time × DevState)
  regs : Sparse Word
  /-- Snapshots taken by PG_CTRL.FREEZE, by host address (R452). -/
  frozen : Sparse Word
  /-- The last values a FENCED lane reported, by host address (R488). -/
  held : Sparse Word
  freeIdx : Nat
  /-- The whole second, plus 1, in which each first-in-one-second filter last passed. -/
  firstSeen : Sparse Nat
  /-- PFAIL_N seen low since reset. -/
  pfail : Bool
  /-- The ball outputs as PFAIL_N's fall froze them. -/
  pfailBalls : Option Balls
  /-- The safety logic runs on the internal oscillator (R27). -/
  clockLost : Bool
  /-- A supply of R460 has taken every lane to safe state until RESET. -/
  supplySafe : Bool
  /-- Supplies in range, by code. -/
  inRange : Vector Bool 6
  /-- IDLE was entered from ARMED or RUN (R24). -/
  idleDrain : Bool
  /-- A DRAIN or QEND is due that no half could send (R175, R174, R330). -/
  ctrlDue : Bool
  /-- A WAKE is powering the lanes up (R445), since when. -/
  waking : Option Time
  patchOk : Bool
  /-- The seal being checked: the expected CRC, the snapshot and its checks (R437). -/
  checking : Bool
  sealExp : Word
  sealSnap : Sparse Word
  /-- The lowest page and offset that a failing condition names on the snapshot. -/
  sealFail : Option (Nat × Nat)
  /-- Consecutive pose words with SPD_VALID = 1, up to 2,000 (R441). -/
  spdRun : Nat
  /-- Since when the pose words in a row have had their quality below the minimum (Table 1-6). -/
  qualLow : Option Time
  /-- The ROM check of BOOT failed: the device stays in BOOT (Table 16-2). -/
  romFail : Bool
  /-- TEMP_MAX holds a reading of the spine die and of the lane die since it was last read (Table 17-8). -/
  tempSeen : Vector Bool 2
  yew : Vector YewCopy 2
  yewPort : YewPort
  /-- CODE_CFG of each record code. -/
  yewCfg : Sparse Word
  hq : Vector Queue 32
  cmpl : List Completion
  /-- Completions that no half could drive, kept for the next grant (R18). -/
  cmplWait : List Completion
  /-- The queue whose counters Q_DROP has latched (R406). -/
  dropQ : Nat
  /-- HIRQ_N is low, and when it last rose (R380). -/
  hirqLow : Bool
  hirqRose : Time
  mbox : Vector Mailbox 8
  nor : NorState
  laurel : LaurelState
  lanes : Vector LaneState 16
  banks : Vector BankState 16
  pwm : Vector PwmState 16
  eng : Vector EngState 16
  fbk : Vector FbkState 16
  /-- The last accepted edge of PWMSYNC_IN and the last pulse of PWMSYNC_OUT (R244). -/
  syncIn : Option Time
  syncOut : Option Time
  pose : PoseState
  imu : ImuState
  trav : TravState
  fpe : FpeState
  gnss : GnssState
  time : TimeState
  map : MapState
  ports : Vector PortState 2
  ring : RingState
  rtime : RTimeState
  rtun : RTunState
  /-- The bytes the port has driven in the latest host transaction, and the word of the latest register read. -/
  hostTx : List Byte
  lastRead : Word
  /-- The word the test access port has shifted out last, and EXTEST in force (R484). -/
  tdo : Word
  extest : Bool
  deriving DecidableEq, Repr

/-- A record ring after reset: empty, buckets full (R412). -/
def YewCopy.reset : YewCopy :=
  { slots := [], seq := 0, buckets := [], supp := [], admitted := [], suppCnt := 0, drop := 0, ovw := 0 }

def ZonePos.reset : ZonePos := { sector := 0, sseq := 0, slot := 0, opened := false, full := false }

def YewPort.reset : YewPort :=
  { logOk := false, keep := .reset, roll := .reset, keepFull := false, backlogHi := false, flushRt := 0,
    pfailActive := false, pfailDone := false, pfailSet := [], pfailClosed := false, pfailAt := 0, pfailCount := 0,
    pfailMs01 := 0, pfailPending := false }

def Queue.reset : Queue :=
  { segs := [], items := [], seq := 0, open_ := false, taken := 0, passed := 0, seqErr := 0, flushed := 0, bridged := 0 }

def Mailbox.reset : Mailbox :=
  { tx := [], txPend := false, rx := [], rxLen := 0, rxReady := false, discard := false, noTarget := false,
    inbox := none, replies := [] }

def NorState.reset : NorState :=
  { flash := [], present := false, jedec := 0, dir := none, patchVer := 0, patchMin := 0, keyStat := 0, cur := none,
    curSince := 0, suspended := none, recQ := [], cmdQ := [], long := none, accepted := [] }

def HalfState.reset : HalfState :=
  { role := .boot, katFail := false, suspect := false, resign := false, handover := false, identStep := 0,
    resignCause := 0, resignSeen := false,
    faultTick := none, missLaurel := 0, missOther := 0, lostLaurel := false, lostOther := false, lastHb := 0,
    maxEpoch := 1, hbSent := 0 }

/-- The CRC-8 of a token copy: polynomial 0x07 over HOLDER and EPOCH, 17 bits, most significant first (R325). -/
def tokenCrc (h : Half) (e : Epoch) : Byte :=
  let v := (if h = .b then 65536 else 0) + e.toNat
  BitVec.ofNat 8 ((List.range 17).foldl
    (fun c i =>
      let fb := Bool.xor (c.testBit 7) (v.testBit (16 - i))
      let d := (c <<< 1) % 256
      if fb then d ^^^ 0x07 else d) 0)

def TokenCopy.mk' (h : Half) (e : Epoch) : TokenCopy := { holder := h, epoch := e, crc := tokenCrc h e }

def LaurelState.reset : LaurelState :=
  { copies := Vector.replicate 3 (TokenCopy.mk' .a 1), valid := true, invalidAt := 0, voted := (.a, 1), declared := false,
    conflict := none,
    noChargeAt := none, singleStopAt := none, claims := [], grant := none, half := Vector.replicate 2 .reset,
    pathOk := Vector.replicate 2 true, pathRun := Vector.replicate 2 16, decRun := 0, poseRun := 0, slotRun := 0,
    lastMismatch := none, ident := none, identAt := 0, katAt := 0, copied := 0 }

def LinkDir.reset : LinkDir :=
  { txSeq := 15, held := [], waiting := [], rxLast := 15, naked := false, ackAt := 0, lastLinkSend := 0,
    wire := none }

def LaneState.reset : LaneState :=
  { dn := .reset, up := .reset, lastDn := 0, lost := false, fenced := none, selfOk := false, selfTest := 0,
    safeLow := true, drained := false, safeMask := 0, faultTimes := [], queue := [], nextAdm := 0, pendA := none, trvAsm := [],
    trav := Vector.replicate 8 { tk := 0, sk := 0, tl := 0 }, tk := 0, updAt := 0, hist := [],
    inForce := Vector.replicate 8 { val := 0, adm := 0 }, lastTarget := Vector.replicate 8 0, draining := none,
    drExpired := false, qclrWait := none, qSnap := [], tSnap := Vector.replicate 8 { tk := 0, sk := 0, tl := 0 },
    disabled := false, halfQ := [], pendFire := none, pendMot := none }

def PortState.reset : PortState :=
  { link := .down, since := 0, rfaultRun := 0, rfault := false, wrapped := false, sendRfault := false, bypTest := false,
    txq := [], transit := [], busyUntil := 0, lastTx := none, lastSet := none, dreqSeq := 0, dreqAt := none, dly := 0,
    loadMs := 0, loadCur := 0, loadPrev := 0 }

def RingState.reset : RingState :=
  { root := false, nodeId := 0, assigned := false, nNodes := 0, nonce := none, enumAt := none,
    enumTries := 0, enumSeen := none, present := [], absentSeen := [], presAt := 0, topoGen := 0, tx := [], rx := [],
    paceSeq := Vector.replicate 4 0, paceSeen := [], strokeOut := [], strokeHeld := [], strokeSeq := 0,
    strokeRsync := true, strokeRx := [], asm := [] }

def RTimeState.reset : RTimeState :=
  { lock := false, hold := false, far := false, srcB := false, h := 0, heard := Vector.replicate 2 none, errs := [],
    goodRun := 0, badRun := 0, lastSync := none, stepLast := 0, lastErr := 0, corr := 0, lastAdj := 0 }

def RTunState.reset : RTunState :=
  { busy := false, done := false, status := 0, words := 0, tag := 0, op := 0, count := 0, sentAt := 0 }

/-- The machine right after reset: in BOOT, straps low, every register at the reset value its page table gives. -/
def State.reset : State :=
  { pending := [], now := 0, member := .bl1680, dev := .boot, prev := .reset, devAt := 0, devLog := [], regs := [], frozen := [], held := [],
    freeIdx := 0, firstSeen := [], pfail := false, pfailBalls := none, clockLost := false, supplySafe := false,
    inRange := Vector.replicate 6 true, idleDrain := false, ctrlDue := false, waking := none, patchOk := false, checking := false,
    sealExp := 0, sealSnap := [], sealFail := none, spdRun := 0, qualLow := none, romFail := false,
    tempSeen := Vector.replicate 2 false, yew := Vector.replicate 2 .reset, yewPort := .reset,
    yewCfg := [], hq := Vector.replicate 32 .reset, cmpl := [], cmplWait := [], dropQ := 0, hirqLow := false, hirqRose := 0,
    mbox := Vector.replicate 8 .reset, nor := .reset, laurel := .reset, lanes := Vector.replicate 16 .reset,
    banks := Vector.replicate 16 .reset, pwm := Vector.replicate 16 .reset, eng := Vector.replicate 16 .reset,
    fbk := Vector.replicate 16 .reset, syncIn := none, syncOut := none, pose := .reset,
    imu := .reset, trav := .reset, fpe := .reset, gnss := .reset, time := .reset, map := .reset, ports := Vector.replicate 2 .reset, ring := .reset, rtime := .reset,
    rtun := .reset, hostTx := [], lastRead := 0, tdo := 0, extest := false }

end Sys2Proof.Machine
end

