-- ==== Sys2Proof/Machine/Ops.lean ====
section
/-! DEFINITION. The shared operations over the state: ring time, registers and their fields, free values, the
first-in-one-second filter, the epoch rule, roles and charge, page presence. -/
namespace Sys2Proof.Machine

/-- The result of a command. -/
abbrev Res := Host.Outcome State Fault Refusal

/-! Ring time (R27). -/

/-- The instant of a command: ring time never runs back by a command's stamp. -/
def State.at (s : State) (t : Time) : State := { s with now := max s.now t }

/-- Ring time in ns. -/
def State.ns (s : State) : Nat := s.now / 1000

/-- The SCLK cycle of an instant. -/
def sclkOf (t : Time) : Nat := t / 2500

/-- One nanosecond, microsecond, millisecond, second and TCLK cycle in ps. -/
def nsPs : Nat := 1000
def usPs : Nat := 1000000
def msPs : Nat := 1000000000
def secPs : Nat := 1000000000000
def tclkPs : Nat := 2500

/-- One LCLK cycle. -/
def lclkPs : Nat := 5000

/-! Members, pages (R2, R457). -/

def memberLanes : Member → Nat
  | .bl0280 => 2
  | .bl0480 => 4
  | .bl0880 => 8
  | .bl1680 => 16

def memberHalves : Member → Nat
  | .bl0280 => 1
  | .bl0480 => 1
  | .bl0880 => 2
  | .bl1680 => 2

def memberRings : Member → Nat
  | .bl0280 => 1
  | .bl0480 => 1
  | .bl0880 => 2
  | .bl1680 => 2

/-- The member's code in DEV_ID and in GET_INFO. -/
def memberCode : Member → Nat
  | .bl0280 => 0
  | .bl0480 => 1
  | .bl0880 => 2
  | .bl1680 => 3

/-- Slots of the coverage window (Table 0-1). -/
def memberTiles : Member → Nat
  | .bl0280 => 256
  | .bl0480 => 512
  | .bl0880 => 1024
  | .bl1680 => 2048

/-- SYS.DEV_ID of a member (R458). -/
def memberDevId : Member → Nat
  | .bl0280 => 0x01020100
  | .bl0480 => 0x11040100
  | .bl0880 => 0x22080100
  | .bl1680 => 0x32100100

/-- The kind and instance of a page of this member; none for an absent page (R2, R457). -/
def pageOf (m : Member) (p : Nat) : Option (PageKind × Nat) :=
  match pageKind p with
  | none => none
  | some (k, i) =>
    match k with
    | .lane | .outl | .pwmg | .loop | .fbk | .snap => if i < memberLanes m then some (k, i) else none
    | .gnss => if i < memberHalves m then some (k, i) else none
    | .rtx => if i < memberRings m then some (k, i) else none
    | _ => some (k, i)

/-- The page is one of a lane. -/
def PageKind.isLane : PageKind → Bool
  | .lane | .outl | .pwmg | .loop | .fbk | .snap => true
  | _ => false

/-- The present pages in increasing order (R436). -/
def presentPages (m : Member) : List Nat :=
  (List.range 0x160).filter (fun p => (pageOf m p).isSome)

/-! Registers. -/

/-- The home of a host address: GNSSB's configuration is GNSSA's (R319), the ring's common registers are RTXA's
(R370). -/
def home (a : Nat) : Nat :=
  if 0x11100 ≤ a ∧ a < 0x11800 then a - 0x1000
  else if a = 0x9100 ∨ a = 0x9104 ∨ a = 0x910C ∨ a = 0x9808 then a - 0x1000
  else a

/-- The stored word of a register. -/
def State.reg (s : State) (a : Nat) : Word := Sparse.get regReset s.regs (home a)

/-- Store a word in a register. -/
def State.setReg (s : State) (a : Nat) (w : Word) : State :=
  { s with regs := Sparse.set regReset s.regs (home a) w }

/-- The value of a field. -/
def State.fld (s : State) (f : Fld) : Nat := bf (s.reg f.addr).toNat f.hi f.lo

/-- A one-bit field. -/
def State.flag (s : State) (f : Fld) : Bool := (s.reg f.addr).toNat.testBit f.lo

/-- The value of a field as a signed number. -/
def State.sfld (s : State) (f : Fld) : Int := sx (f.hi + 1 - f.lo) (s.fld f)

/-- Set a field. -/
def State.setFld (s : State) (f : Fld) (v : Nat) : State :=
  s.setReg f.addr (wd (setBf (s.reg f.addr).toNat f.hi f.lo v))

/-- Add to a saturating counter field (R15). -/
def State.bump (s : State) (f : Fld) (n : Nat) : State :=
  s.setFld f (satAdd (f.hi + 1 - f.lo) (s.fld f) n)

/-- Keep the larger value in a field, saturated to its width. -/
def State.keepMax (s : State) (f : Fld) (v : Nat) : State :=
  s.setFld f (max (s.fld f) (min v (2 ^ (f.hi + 1 - f.lo) - 1)))

/-- Add to a 32-bit register modulo 2^32. -/
def State.count (s : State) (a n : Nat) : State := s.setReg a (s.reg a + wd n)

/-- Add to a whole-register saturating counter (R15). -/
def State.bumpReg (s : State) (a n : Nat) : State := s.bump ⟨a, 31, 0⟩ n

/-- A header register of a page. -/
def hdr (page off : Nat) : Nat := page * 4096 + off

/-! Free values. -/

/-- The next free value, and the state that has used it. -/
def State.free (s : State) : BitVec 64 × State :=
  (Config.freeValue s.freeIdx, { s with freeIdx := s.freeIdx + 1 })

/-! Filters: the first occurrence in one second of ring time. -/

/-- A filter that has not passed yet. -/
def noStamp : Nat → Nat := fun _ => 0

/-- Whether an occurrence under `key` is the first in this whole second of ring time, and the state that notes it. -/
def State.firstInSec (s : State) (key : Nat) : Bool × State :=
  let sec := s.now / secPs + 1
  if Sparse.get noStamp s.firstSeen key = sec then (false, s)
  else (true, { s with firstSeen := Sparse.set noStamp s.firstSeen key sec })

/-- The filter key of a record code and what it is counted for. -/
def recKey (c : RecCode) (sub : Nat) : Nat := c.num * 1048576 + sub

/-! The epoch rule (R35). -/

/-- What R35 makes of an arriving epoch. -/
inductive EpochCheck where
  | accepted
  | stale
  | ahead
  deriving DecidableEq, Repr

/-- Compare an arriving epoch with the receiver's (R35). -/
def epochCheck (e c : Epoch) : EpochCheck :=
  if e = c then .accepted else if epochDiff e c < 0 then .stale else .ahead

/-- The current epoch of a page (R34). -/
def State.epoch (s : State) (page : Nat) : Epoch := (s.reg (hdr page HDR.PG_EPOCH)).setWidth 16

def State.setEpoch (s : State) (page : Nat) (e : Epoch) : State :=
  s.setReg (hdr page HDR.PG_EPOCH) (e.setWidth 32)

/-! Pages by number. -/

def pgLane (n : Nat) : Nat := 0x100 + n
def pgOutl (n : Nat) : Nat := 0x110 + n
def pgPwmg (n : Nat) : Nat := 0x120 + n
def pgLoop (n : Nat) : Nat := 0x130 + n
def pgFbk (n : Nat) : Nat := 0x140 + n
def pgSnap (n : Nat) : Nat := 0x150 + n
def pgGnss (h : Half) : Nat := 0x010 + h.ix
def pgRtx (p : Ring) : Nat := 0x008 + p.ix

/-! Halves. -/

def State.half (s : State) (h : Half) : HalfState := s.laurel.half.get h.ix
def State.modHalf (s : State) (h : Half) (f : HalfState → HalfState) : State :=
  { s with laurel := { s.laurel with half := vmod s.laurel.half h.ix f } }
def State.setLaurel (s : State) (f : LaurelState → LaurelState) : State := { s with laurel := f s.laurel }

/-- The role a half reports: Half B of a one-half member is ABSENT (R321). -/
def State.role (s : State) (h : Half) : Role :=
  if memberHalves s.member = 1 then (if h = .a then .charge else .absent) else (s.half h).role

/-- The copies whose CRC-8 is good. -/
def goodCopies (l : LaurelState) : List TokenCopy := l.copies.toList.filter (fun c => c.crc = tokenCrc c.holder c.epoch)

/-- The bit that two of three votes hold. -/
def maj (a b c : Bool) : Bool := (a && b) || (a && c) || (b && c)

/-- The vote of R325: holder and epoch, or none when the token is invalid. -/
def vote (l : LaurelState) : Option (Half × Epoch) :=
  match goodCopies l with
  | [x] => some (x.holder, x.epoch)
  | [x, y] => if x.holder = y.holder ∧ x.epoch = y.epoch then some (x.holder, x.epoch) else none
  | [x, y, z] =>
    some (if maj (decide (x.holder = .b)) (decide (y.holder = .b)) (decide (z.holder = .b)) then .b else .a,
      (x.epoch &&& y.epoch) ||| (x.epoch &&& z.epoch) ||| (y.epoch &&& z.epoch))
  | _ => none

/-- The voted token epoch (LAUREL.TOKEN.EPOCH): the latest vote's, where the token is invalid. -/
def State.tokenEpoch (s : State) : Epoch := s.laurel.voted.2

/-- The half the token names, or named last. -/
def State.tokenHolder (s : State) : Half := s.laurel.voted.1

/-- The half in charge (R324): the token is valid and names it, and the Laurel logic has not declared its heartbeat lost
since the last grant. On a one-half member Half A, until its heartbeat is declared lost (R3). -/
def State.inCharge (s : State) : Option Half :=
  if s.laurel.conflict.isSome || !s.laurel.valid || s.laurel.declared then none
  else some (if memberHalves s.member = 1 then Half.a else s.tokenHolder)

/-- A half drives the shared outputs: one is in charge, and it has not resigned (R18, R322). -/
def State.drives (s : State) : Bool :=
  match s.inCharge with
  | some h => !(s.half h).resign
  | none => false

/-- The ball outputs run: a half drives them, and PFAIL_N has not frozen them (R18, R30). -/
def State.ballsRun (s : State) : Bool := s.drives && !s.pfail

/-- A half may send on the lanes: one drives, and no grant waits for its takeover (R20, R329). -/
def State.maySend (s : State) : Bool := s.drives && s.laurel.grant.isNone

/-- Both halves in service: CHARGE and SHADOW. -/
def State.bothInService (s : State) : Bool :=
  decide (s.role .a = .charge ∨ s.role .a = .shadow) && decide (s.role .b = .charge ∨ s.role .b = .shadow)

/-- Single-half operation (R339): a one-half member, or a half that is QUARANTINED, in REJOIN or in BOOT. -/
def State.single (s : State) : Bool := !s.bothInService

/-- The halves that run and so keep a recorder copy: neither ABSENT nor held in reset. -/
def State.runs (s : State) (h : Half) : Bool :=
  decide (s.role h ≠ .quarantined ∧ s.role h ≠ .absent)

/-! Lanes. -/

def State.lane (s : State) (n : LaneIx) : LaneState := s.lanes.get n
def State.modLane (s : State) (n : LaneIx) (f : LaneState → LaneState) : State :=
  { s with lanes := vmod s.lanes n f }
/-- A lane this member has. -/
def State.hasLane (s : State) (n : LaneIx) : Bool := decide (n.val < memberLanes s.member)
/-- The lanes of this member. -/
def State.laneList (s : State) : List LaneIx := (List.finRange 16).filter s.hasLane
def State.fenced (s : State) (n : LaneIx) : Bool := (s.lane n).fenced.isSome

/-! The seal. -/

/-- RWL fields behave as sealed (R11, R437): every state after a passed seal, and PRIMROSE while CHECKING. -/
def State.sealed (s : State) : Bool :=
  match s.dev with
  | .idle | .armed | .run | .standby => true
  | _ => s.checking

/-- Clear the bit range of a W1C register. -/
def State.clearBits (s : State) (a m : Nat) : State := s.setReg a (s.reg a &&& ~~~ (wd m))

/-- Fold a state change over a list. -/
def overList {α : Type} (l : List α) (f : α → State → State) (s : State) : State := l.foldl (fun u x => f x u) s

end Sys2Proof.Machine
end

