-- ==== Sys2Proof/Machine/Flags.lean ====
section
/-! DEFINITION. Event bits, the interrupt tree's RAW bits, FAULT, the first-error register and the recorder's admission:
what every block does when it sets a flag or hands Yew a record (R379, R410 to R414, R453, R454). -/
namespace Sys2Proof.Machine

/-- The host port is disabled by STRAP[2], which is ignored on a root (Table 16-1). -/
def State.hpOff (s : State) : Bool := (s.reg SYS.STRAP).toNat.testBit 2 && !(s.reg SYS.STRAP).toNat.testBit 0

/-- HIRQ_N may be low: enabled, driven, and held high for HOLDOFF_US since it rose (R380). -/
def State.hirqMay (s : State) : Bool :=
  s.flag HOSTQ.HP_CFG.HIRQ_EN && !s.hpOff && (s.hirqLow || decide (s.hirqRose + s.fld HOSTQ.HP_CFG.HOLDOFF_US * usPs ≤ s.now))

/-- Set bit `i` of PG_IRQ_RAW of a page; an enabled bit pulls HIRQ_N low (R379, R380). -/
def State.setRaw (s : State) (page i : Nat) : State :=
  let s := s.setReg (hdr page HDR.PG_IRQ_RAW) (s.reg (hdr page HDR.PG_IRQ_RAW) ||| wd (1 <<< i))
  if (s.reg (hdr page HDR.PG_IRQ_MASK)).toNat.testBit i ∧ s.hirqMay = true then { s with hirqLow := true } else s

/-- Set an event bit; its rise sets the page's RAW bit (R379). -/
def State.setEvt (s : State) (f : Fld) : State :=
  if s.flag f then s else (s.setFld f 1).setRaw (f.addr / 4096) f.lo

/-- Set PG_STAT.FAULT of a page; its rise sets RAW bit 16 (R453). -/
def State.setFault (s : State) (page : Nat) : State :=
  let a := hdr page HDR.PG_STAT
  if (s.reg a).toNat.testBit 0 then s else (s.setReg a (s.reg a ||| 1)).setRaw page 16

/-- Set PG_STAT.DRAINED of a page; its rise sets RAW bit 17. -/
def State.setDrained (s : State) (page : Nat) : State :=
  let a := hdr page HDR.PG_STAT
  if (s.reg a).toNat.testBit 1 then s else (s.setReg a (s.reg a ||| 2)).setRaw page 17

def State.drainedBit (s : State) (page : Nat) : Bool := (s.reg (hdr page HDR.PG_STAT)).toNat.testBit 1

def State.clearDrained (s : State) (page : Nat) : State := s.clearBits (hdr page HDR.PG_STAT) 2

/-- PG_CTRL.EN of a page. -/
def State.en (s : State) (page : Nat) : Bool := (s.reg (hdr page HDR.PG_CTRL)).toNat.testBit 0

/-- The codes of Table 17-3. -/
inductive ErrCode where
  | lockedWrite
  | stateRefused
  | undefWrite
  | mapBusy
  | loopOwned
  | activeBank
  | handoverRefused
  | rejoinRefused
  | ringBusy
  | tunBusy
  deriving DecidableEq, Repr

def ErrCode.code : ErrCode → Nat
  | .lockedWrite => 1
  | .stateRefused => 2
  | .undefWrite => 3
  | .mapBusy => 4
  | .loopOwned => 5
  | .activeBank => 6
  | .handoverRefused => 7
  | .rejoinRefused => 8
  | .ringBusy => 9
  | .tunBusy => 10

/-- Record an error in PG_ERR_FIRST of a page unless one is held there (R454). -/
def State.err (s : State) (page off : Nat) (c : ErrCode) : State :=
  let a := hdr page HDR.PG_ERR_FIRST
  if (s.reg a).toNat.testBit 31 then s
  else s.setReg a (wd (0x80000000 + c.code * 65536 + off % 4096))

/-! The recorder's admission (R412 to R414). -/

def State.copy (s : State) (h : Half) : YewCopy := s.yew.get h.ix
def State.modCopy (s : State) (h : Half) (f : YewCopy → YewCopy) : State := { s with yew := vmod s.yew h.ix f }

/-- CODE_CFG of a code at reset (R412). -/
def codeReset : Nat → Word := fun _ => 0x80140258

/-- CODE_CFG of a code. -/
def State.codeCfg (s : State) (c : Nat) : Nat := (Sparse.get codeReset s.yewCfg c).toNat

/-- The bucket an unlisted code holds: full at the reset BURST of 20. -/
def bucketFull : Nat → Nat := fun _ => 1200000

def zero : Nat → Nat := fun _ => 0

/-- The bucket's decision for one record of a code: whether it is admitted and what the bucket holds after (R412). -/
def bucketTake (en : Bool) (sev b : Nat) : Bool × Nat :=
  if sev = 7 then (true, b - 60000)
  else if en && decide (60000 ≤ b) then (true, b - 60000)
  else (false, b)

/-- How old a record is by SEQ: its distance behind the next SEQ, modulo 2^32. -/
def seqAge (next seq : Nat) : Nat := (next + 4294967296 - seq) % 4294967296

/-- The first slot below 2,048 that holds no record. -/
def emptySlot (m : Sparse (Option YewRec)) : Option Nat :=
  if m.length < 2048 then findIdxFrom (fun i => (Sparse.get (fun _ => none) m i).isNone) 2048 0 else none

/-- The oldest record, by SEQ, that a test takes, with its slot. -/
def oldestSlot (next : Nat) (p : YewRec → Bool) : Sparse (Option YewRec) → Option (Nat × YewRec)
  | [] => none
  | (i, some r) :: m =>
    match oldestSlot next p m with
    | none => if p r then some (i, r) else none
    | some (j, q) => if p r && decide (seqAge next q.seq < seqAge next r.seq) then some (i, r) else some (j, q)
  | (_, none) :: m => oldestSlot next p m

/-- Where an admitted record goes (R414): its slot and whether it overwrites an unretired record. -/
def placeSlot (c : YewCopy) (sev : Nat) : Option (Nat × Bool) :=
  match emptySlot c.slots with
  | some i => some (i, false)
  | none =>
    match oldestSlot c.seq (fun r => r.retired) c.slots with
    | some (i, _) => some (i, false)
    | none =>
      match oldestSlot c.seq (fun r => decide (r.sev < sev)) c.slots with
      | some (i, _) => some (i, true)
      | none => none

def noRec : Nat → Option YewRec := fun _ => none

/-- Hand one half's Yew a record (R412 to R414). -/
def State.recHalf (s : State) (h : Half) (c : RecCode) (page : Nat) (a0 a1 a2 : Word) : State :=
  let y := s.copy h
  let cfg := s.codeCfg c.num
  let b := Sparse.get bucketFull y.buckets c.num
  let (adm, b') := bucketTake (cfg.testBit 31) c.sev b
  let y := { y with buckets := Sparse.set bucketFull y.buckets c.num b' }
  if adm then
    let supp := Sparse.get zero y.supp c.num
    let y := { y with supp := Sparse.set zero y.supp c.num 0,
                      admitted := Sparse.set zero y.admitted c.num ((Sparse.get zero y.admitted c.num + 1) % 65536) }
    match placeSlot y c.sev with
    | none =>
      let s := s.modCopy h (fun _ => { y with drop := satAdd 16 y.drop 1 })
      s.setEvt YEW.YEW_EVT.DROP
    | some (i, ow) =>
      let r : YewRec :=
        { seq := y.seq, time := s.now, code := c.num, sev := c.sev, src := page, half := h, supp := supp,
          pfail := s.pfail, holder := decide (s.inCharge = some h), origin := c.origin, a0 := a0, a1 := a1, a2 := a2,
          retired := false, streamed := false }
      let y := { y with slots := Sparse.set noRec y.slots i (some r), seq := (y.seq + 1) % 4294967296,
                        ovw := if ow then satAdd 16 y.ovw 1 else y.ovw }
      let s := s.modCopy h (fun _ => y)
      let s := if ow then s.setEvt YEW.YEW_EVT.OVERWRITE else s
      if 6 ≤ c.sev then s.setEvt YEW.YEW_EVT.SEV6 else s
  else
    let y := { y with supp := Sparse.set zero y.supp c.num (satAdd 16 (Sparse.get zero y.supp c.num) 1),
                      suppCnt := satAdd 32 y.suppCnt 1 }
    (s.modCopy h (fun _ => y)).setEvt YEW.YEW_EVT.SUPPRESS

/-- FAULT of the reporting page for severity 5 or more (R453). -/
def State.faultFor (s : State) (c : RecCode) (page : Nat) : State := if 5 ≤ c.sev then s.setFault page else s

/-- A SHARED or MIRROR record: every half that runs admits its own instance (R411). -/
def State.record (s : State) (c : RecCode) (page : Nat) (a0 a1 a2 : Word) : State :=
  let s := s.faultFor c page
  let s := if s.runs .a then s.recHalf .a c page a0 a1 a2 else s
  if s.runs .b then s.recHalf .b c page a0 a1 a2 else s

/-- An OWN record of one half. -/
def State.recordOwn (s : State) (h : Half) (c : RecCode) (page : Nat) (a0 a1 a2 : Word) : State :=
  (s.faultFor c page).recHalf h c page a0 a1 a2

/-- A record written on the first occurrence in one second only. -/
def State.recordFirst (s : State) (c : RecCode) (sub page : Nat) (a0 a1 a2 : Word) : State :=
  match s.firstInSec (recKey c sub) with
  | (true, s') => s'.record c page a0 a1 a2
  | (false, s') => s'

/-- The half that writes an OWN record of the port or the recorder: the half in charge, or Half A before there is one. -/
def State.ownHalf (s : State) : Half := s.inCharge.getD .a

/-- The device is powered and out of RESET. -/
def State.running (s : State) : Bool := decide (s.dev ≠ .off ∧ s.dev ≠ .reset)

/-! State changes (R30). -/

/-- Change the device state; record STATE_CHANGE and set the event (Table 1-6). -/
def State.toState (s : State) (d : DevState) : State :=
  let s := { s with
    prev := s.dev, dev := d, devAt := s.now,
    devLog := s.devLog.filter (fun (c : Time × DevState) => decide (s.trav.k * 100000000 ≤ c.1)) ++ [(s.now, s.dev)] }
  let s := s.setEvt SYS.SYS_EVT.STATE_CHANGE
  s.record Rec.STATE_CHANGE 0 (wd d.code) (wd s.prev.code) 0

/-- PFAIL_N falls in this very SCLK cycle, with its command still waiting behind this one (R33). -/
def State.pfailNow (s : State) : Bool :=
  s.pending.any (fun i => match i with | .pfailFall t => decide (sclkOf (max s.now t) = sclkOf s.now) | _ => false)

/-- A state change is refused once PFAIL_N has been seen low, or falls in this very SCLK cycle (Table 1-6, R33, R442), and after a
loss of clocks (R27). -/
def State.mayChange (s : State) : Bool := !s.pfail && !s.clockLost && !s.pfailNow

end Sys2Proof.Machine
end

