-- ==== Sys2Proof/Machine/Operands.lean ====
section
/-! DEFINITION. The operands that pass through the host queues: descriptors, credit, posting and retiring items,
completions and queue interrupts (R381 to R389). -/
namespace Sys2Proof.Machine

/-- Host to device: Q0 to Q7 and Q16 to Q23 (R381). -/
def qH2D (q : Nat) : Bool := decide (q < 8) || (decide (16 ≤ q) && decide (q < 24))

/-- Q5 to Q7 and Q15 are unassigned (Table 14-3). -/
def qAssigned (q : Nat) : Bool := !(decide (5 ≤ q) && decide (q ≤ 7)) && decide (q ≠ 15)

/-- Blocks of 64 bytes that a segment occupies (R383). -/
def blocksOf (len : Nat) : Nat := cdiv len 64

def State.q (s : State) (q : Nat) : Queue := s.hq.get (Fin.ofNat 32 q)
def State.modQ (s : State) (q : Nat) (f : Queue → Queue) : State := { s with hq := vmod s.hq (Fin.ofNat 32 q) f }

/-- Descriptors and blocks in use. -/
def Queue.desc (u : Queue) : Nat := u.segs.length + u.items.length
def Queue.blocks (u : Queue) : Nat :=
  (u.segs.map (fun g => blocksOf g.data.length)).sum + (u.items.map (fun i => blocksOf i.data.length)).sum

/-- BUF_BLK of a queue. -/
def State.bufBlk (s : State) (q : Nat) : Nat := s.fld (HOSTQ.Q_CFG.BUF_BLK q)

/-- A segment of `len` bytes fits (R383). -/
def State.qFits (s : State) (q len : Nat) : Bool :=
  decide ((s.q q).desc < 256) && decide ((s.q q).blocks + blocksOf len ≤ s.bufBlk q)

/-- HOSTQ.PG_CTRL.EN = 0: the host port drains (R389). -/
def State.hostDraining (s : State) : Bool := !s.en 4

/-- A device-to-host queue has credit for an item of `len` bytes (R383, R389). -/
def State.credit (s : State) (q len : Nat) : Bool := !s.hostDraining && s.qFits q len

/-- Set bit q of QIRQ_RAW; a rise of a bit of QIRQ_PEND sets QIRQ (R388). -/
def State.setQirq (s : State) (q : Nat) : State :=
  if (s.reg HOSTQ.QIRQ_RAW).toNat.testBit q then s
  else
    let s := s.setReg HOSTQ.QIRQ_RAW (s.reg HOSTQ.QIRQ_RAW ||| wd (1 <<< q))
    if (s.reg HOSTQ.QIRQ_MASK).toNat.testBit q then s.setEvt HOSTQ.HP_EVT.QIRQ else s

/-- A count that rises from `a` to `b` reaches THR of a queue. -/
def State.thrCross (s : State) (q a b : Nat) : State :=
  let thr := s.fld (HOSTQ.Q_CFG.THR q)
  if a < thr ∧ thr ≤ b then s.setQirq q else s

/-- The head item of a device-to-host queue has reached AGE_MS (R388). -/
def State.ageDue (s : State) (q : Nat) : Bool :=
  let a := s.fld (HOSTQ.Q_CFG.AGE_MS q)
  match (s.q q).items with
  | [] => false
  | i :: _ => decide (a ≠ 0) && decide (i.time + a * msPs ≤ s.now)

/-- Set the queue interrupt where an item that is already old becomes the head. -/
def State.ageHead (s : State) (q : Nat) : State := if s.ageDue q then s.setQirq q else s

/-- Post an item on a device-to-host queue if it has credit; answers whether it did. -/
def State.post (s : State) (q : Nat) (tag : BitVec 16) (data : List Byte) : Bool × State :=
  if s.credit q data.length then
    let u := s.q q
    let it : DItem := { seq := u.seq, tag := tag, time := s.now, data := data }
    let s := s.modQ q (fun u => { u with items := u.items ++ [it], seq := u.seq + 1 })
    let s := s.thrCross q u.items.length (u.items.length + 1)
    (true, if u.items.isEmpty then s.ageHead q else s)
  else (false, s)

/-! Consumption (R387, R98). -/

def noSlot : Nat → Slot := fun _ => Slot.reset
def State.slot (s : State) (i : Nat) : Slot := Sparse.get noSlot s.map.slots i
def State.setSlot (s : State) (i : Nat) (x : Slot) : State :=
  { s with map := { s.map with slots := Sparse.set noSlot s.map.slots i x } }

/-- An item of Q8 is consumed: its slot may be freed in the next demand phase. -/
def State.q8Consumed (s : State) (data : List Byte) : State :=
  let i := leAt data 6 2
  let x := s.slot i
  if x.st = .evicting ∧ x.posted ∧ x.gen = leAt data 4 2 then s.setSlot i { x with consumed := true } else s

/-- Remove the head item of a device-to-host queue, as consumed. -/
def State.consumeHead (s : State) (q : Nat) : State :=
  match (s.q q).items with
  | [] => s
  | i :: r =>
    let s := s.modQ q (fun u => { u with items := r, passed := (u.passed + 1) % 4294967296, bridged := u.bridged - 1 })
    let s := if q = 8 then s.q8Consumed i.data else s
    s.ageHead q

/-! Items from the host. -/

/-- Split a whole item, FIRST to LAST, off the front of a list of segments. -/
def splitItem : List Seg → Option (List Seg × List Seg)
  | [] => none
  | g :: gs => if g.last then some ([g], gs) else (splitItem gs).map (fun r => (g :: r.1, r.2))

/-- The bytes of an item. -/
def itemData (gs : List Seg) : List Byte := gs.flatMap (·.data)

/-- The segment whose descriptor ends an item. -/
def itemLast (gs : List Seg) : Seg :=
  (gs.getLast?).getD { first := true, last := true, cmpl := false, seq := 0, tag := 0, data := [] }

/-- The whole items of a queue, in order, as far as they are complete. -/
def itemsOf : Nat → List Seg → List (List Seg)
  | 0, _ => []
  | n + 1, gs =>
    match splitItem gs with
    | none => []
    | some (i, r) => i :: itemsOf n r

/-- The whole items that wait in a host-to-device queue. -/
def Queue.whole (u : Queue) : List (List Seg) := itemsOf u.segs.length u.segs

/-- STATUS of a completion (Table 14-5). -/
def stOk : Nat := 0
def stBadItem : Nat := 1
def stUnreachable : Nat := 2
def stStale : Nat := 3
def stRejected : Nat := 4
def stLocked : Nat := 5
def stFlushed : Nat := 6

/-- Post a completion; one that finds 512 entries is dropped (R385). -/
def State.postCmpl (s : State) (c : Completion) : State :=
  let n := s.cmpl.length
  if 512 ≤ n then
    let s := (s.bumpReg HOSTQ.CMPL_DROP_CNT 1).setEvt HOSTQ.HP_EVT.CMPL_OVF
    match s.firstInSec (recKey Rec.CMPL_OVF 0) with
    | (true, s) => s.record Rec.CMPL_OVF 4 (wd c.queue) (wd c.queue) (wd c.tag.toNat)
    | (false, s) => s
  else
    let s := { s with cmpl := s.cmpl ++ [c] }
    let thr := (s.reg HOSTQ.CMPL_THR).toNat
    if n < thr ∧ thr ≤ n + 1 then s.setEvt HOSTQ.HP_EVT.CMPL else s

/-- A completion is due: a half in charge drives it to the host, else it waits for the next grant (R18). -/
def State.complete (s : State) (q status : Nat) (seq tag : BitVec 16) (detail : Nat) : State :=
  let c : Completion := { queue := q, status := status, seq := seq, tag := tag, detail := BitVec.ofNat 16 detail }
  if s.drives then s.postCmpl c else { s with cmplWait := s.cmplWait ++ [c] }

/-- At a grant the new holder drives the completions that waited (R18, R331). -/
def State.postWaiting (s : State) : State := s.cmplWait.foldl State.postCmpl { s with cmplWait := [] }

/-- Post the completion of an item where its LAST descriptor wants one or its status is not OK. -/
def State.completeItem (s : State) (q : Nat) (l : Seg) (status detail : Nat) : State :=
  if l.cmpl ∨ status ≠ stOk then s.complete q status l.seq l.tag detail else s

/-- Retire the first `n` segments of a host-to-device queue, one whole or partial item, with a status (R385). -/
def State.retire (s : State) (q n status detail : Nat) : State :=
  let u := s.q q
  let gs := u.segs.take n
  let free := 256 - u.desc
  let s := s.modQ q (fun u => { u with segs := u.segs.drop n, taken := u.taken - n, passed := (u.passed + 1) % 4294967296 })
  let s := s.thrCross q free (free + gs.length)
  s.completeItem q (itemLast gs) status detail

/-- Retire the whole item at the head of a queue. -/
def State.retireHead (s : State) (q status detail : Nat) : State :=
  match (s.q q).whole with
  | [] => s
  | i :: _ => s.retire q i.length status detail

end Sys2Proof.Machine
end

