-- ==== Sys2Proof/Machine/Ring.lean ====
section
/-! DEFINITION. Retrix: frames, launch, streams, strokes' return, enumeration by the root, presence, links, wrap and ring
time (R343 to R366). Reception is in RingRx.lean. -/
namespace Sys2Proof.Machine

/-! Frames (R347, R348). -/

/-- The 15 header bytes before HCRC, with TURNS and HOPS as given. -/
def hdrBytes (f : Frame) (turns hops : Nat) : List Byte :=
  let ctl := f.cls.code * 64 + (if f.lring = .b then 32 else 0) + turns % 4 * 8 + b2n f.bcast * 4 + b2n f.ack * 2 + b2n f.flag
  let prt := f.port.toNat * 64 + b2n f.tun * 32 + b2n f.qbr * 16 + b2n f.enum_ * 8
  [BitVec.ofNat 8 ctl, BitVec.ofNat 8 prt] ++ leBytes 2 f.src.toNat ++ leBytes 2 f.dst.toNat ++
    leBytes 2 f.payload.length ++ leBytes 2 f.fseq.toNat ++ leBytes 2 f.rgen.toNat ++ leBytes 2 hops ++ [0]

/-- HCRC: CRC-8 over bytes 0x00 to 0x0E as sent. -/
def frameHcrc (f : Frame) : Byte := crc8 (hdrBytes f f.turns.toNat f.hops.toNat)

/-- CRC-32 over the header with TURNS, HOPS and HCRC as 0, then the payload. -/
def frameCrc (f : Frame) : Word := crc32 (hdrBytes f 0 0 ++ [0] ++ f.payload)

/-- A frame with both checks. -/
def sealFrame (f : Frame) : Frame :=
  let f := { f with crc := frameCrc f }
  { f with hcrc := frameHcrc f }

def hcrcGood (f : Frame) : Bool := decide (f.hcrc = frameHcrc f)
def crcGood (f : Frame) : Bool := decide (f.crc = frameCrc f)

/-- A received FS with four or more bits set reads MISS. -/
def fsMiss (b : Byte) : Bool := decide (4 ≤ ((List.range 8).filter (fun i => b.toNat.testBit i)).length)

/-- A frame before launch. -/
def newFrame (cls : FrameClass) (src dst : BitVec 10) (fseq : BitVec 16) (rgen : Epoch) (hops : BitVec 12)
    (payload : List Byte) : Frame :=
  { cls := cls, lring := .a, turns := 0, bcast := false, ack := false, flag := false, port := 0, tun := false,
    qbr := false, enum_ := false, src := src, dst := dst, fseq := fseq, rgen := rgen, hops := hops, hcrc := 0,
    payload := payload, crc := 0, fs := 0, eofBad := false }

/-! The ports. -/

def State.port (s : State) (p : Ring) : PortState := s.ports.get p.ix
def State.modPort (s : State) (p : Ring) (f : PortState → PortState) : State := { s with ports := vmod s.ports p.ix f }
def State.modRing (s : State) (f : RingState → RingState) : State := { s with ring := f s.ring }

/-- The member has this ring port. -/
def State.hasRing (s : State) (p : Ring) : Bool := decide (p = .a) || decide (memberRings s.member = 2)

/-- The port is enabled. -/
def State.ringEn (s : State) (p : Ring) : Bool := s.hasRing p && s.en (pgRtx p)

/-- The device is out of OFF, RESET and BOOT. -/
def State.up (s : State) : Bool := decide (s.dev ≠ .off ∧ s.dev ≠ .reset ∧ s.dev ≠ .boot)

/-- The port is powered and takes what its line brings. -/
def State.ringLive (s : State) (p : Ring) : Bool := s.hasRing p && decide (s.dev ≠ .off ∧ s.dev ≠ .reset)

/-- The hop of RX p is down: the receiver's link is down or RFAULT is received (R361). -/
def State.hopDown (s : State) (p : Ring) : Bool := decide ((s.port p).link ≠ .up) || (s.port p).rfault

/-- RGEN, held in PG_EPOCH of RTXA and RTXB. -/
def State.rgen (s : State) : Epoch := s.epoch 0x008
def State.setRgen (s : State) (e : Epoch) : State := (s.setEpoch 0x008 e).setEpoch 0x009 e

/-- HOPS at launch (R348). -/
def State.launchHops (s : State) : BitVec 12 :=
  BitVec.ofNat 12 (if s.ring.nNodes = 0 then 2052 else 2 * s.ring.nNodes + 4)

/-- The transmitter that a frame launched on ring `r` leaves on, its launch ring and TURNS (R349, R362). -/
def State.txPort (s : State) (r : Ring) : Option (Ring × Ring × Nat) :=
  let q := r.other
  if s.ringEn r then
    if s.hasRing q ∧ (s.port q).wrapped then some (q, r, 1)
    else if s.hasRing q ∧ s.hopDown q ∧ s.ringEn q ∧ !s.hopDown r then some (q, q, 0)
    else some (r, r, 0)
  else if s.ringEn q then some (q, q, 0)
  else none

/-- Queue an own frame for launch on ring `r`. -/
def State.launchOn (s : State) (r : Ring) (f : Frame) : State :=
  match s.txPort r with
  | none => s
  | some (p, lr, tn) =>
    let f := sealFrame { f with lring := lr, turns := BitVec.ofNat 2 tn }
    s.modPort p (fun x => { x with txq := x.txq ++ [(s.now, f)] })

/-- The launch ring field of a class: 0 A, 1 B, 2 both. -/
def State.classRing (s : State) (c : FrameClass) : Nat :=
  s.fld (match c with
    | .pace => RTX.RING_CFG.PACE 0
    | .ctrl => RTX.RING_CFG.CTRL 0
    | .stroke => RTX.RING_CFG.STROKE 0
    | .bulk => RTX.RING_CFG.BULK 0)

/-- Queue an own frame on the launch ring of its class. Only the half in charge sends, nothing once PFAIL_N has frozen the
outputs (R18, R30), and nothing before the node is assigned (R352). -/
def State.launch (s : State) (f : Frame) : State :=
  if s.ballsRun = false ∨ s.ring.assigned = false then s
  else
    let v := s.classRing f.cls
    if v = 2 ∧ memberRings s.member = 2 then (s.launchOn .a f).launchOn .b f
    else s.launchOn (if v = 1 then .b else .a) f

/-- Draw a free word for a value the spec does not state. -/
def State.freeWord (s : State) : Word × State :=
  let (v, s) := s.free
  (v.setWidth 32, s)

/-- A ring record: Table 13-9 gives the arguments as port, value, value and states no value. -/
def State.recRing (s : State) (c : RecCode) (p : Ring) : State :=
  let (v, s) := s.freeWord
  let (w, s) := s.freeWord
  s.record c (pgRtx p) (wd p.ix.val) v w

/-! PACE frames (R50, R354). -/

/-- Send a PACE broadcast on a PORT. -/
def State.sendPace (s : State) (port : Fin 4) (payload : List Byte) : State :=
  let q := s.ring.paceSeq.get port
  let s := s.modRing (fun r => { r with paceSeq := vmod r.paceSeq port (· + 1) })
  if s.ring.assigned then
    s.launch { newFrame .pace s.ring.nodeId 0 q s.rgen s.launchHops payload with bcast := true, port := BitVec.ofNat 2 port.val }
  else s

/-! Streams (R355). -/

/-- The sending stream to a destination in a class; a new one where none is kept. -/
def State.txStream (s : State) (dst : Nat) (cls : FrameClass) : TxStream :=
  (s.ring.tx.find? (fun x => decide (x.dst = dst ∧ x.cls = cls))).getD
    { dst := dst, cls := cls, next := 0, out := [], wait := [], credit := 255, retries := 0, restart := false,
      progressAt := 0 }

/-- Replace a sending stream. -/
def State.setTxStream (s : State) (x : TxStream) : State :=
  s.modRing (fun r =>
    { r with tx := if r.tx.any (fun y => decide (y.dst = x.dst ∧ y.cls = x.cls))
                   then r.tx.map (fun y => if y.dst = x.dst ∧ y.cls = x.cls then x else y)
                   else r.tx ++ [x] })

/-- Send waiting frames of a stream while the window and the receiver's credit allow. -/
def State.pumpStream : Nat → State → Nat → FrameClass → State
  | 0, s, _, _ => s
  | fuel + 1, s, dst, cls =>
    let x := s.txStream dst cls
    match x.wait with
    | [] => s
    | o :: w =>
      if s.fld (RTX.REL_CFG.WIN 0) ≤ x.out.length ∨ x.credit ≤ x.out.length then s
      else
        let f := { o.frame with fseq := x.next, flag := x.restart, rgen := s.rgen }
        let o := { o with fseq := x.next, frame := f, sentAt := s.now }
        let s := s.setTxStream { x with
          next := x.next + 1, out := x.out ++ [o], wait := w, restart := false,
          progressAt := if x.out.isEmpty then s.now else x.progressAt }
        State.pumpStream fuel (s.launch f) dst cls

/-- Give a frame to its stream. -/
def State.streamSend (s : State) (o : OutFrame) : State :=
  let dst := o.frame.dst.toNat
  let x := s.txStream dst o.frame.cls
  (s.setTxStream { x with wait := x.wait ++ [o] }).pumpStream 32 dst o.frame.cls

/-- An acknowledged frame completes its item: an egress item completes OK, the last segment of a bridged item consumes
the item (R366, R367). -/
def State.frameDone (s : State) (o : OutFrame) : State :=
  match o.queue with
  | none => s
  | some q =>
    if 16 ≤ q then (if o.cmpl then s.complete q stOk o.seq o.tag 0 else s)
    else if o.cmpl ∧ ((s.q q).items.head?.map (·.seq)) = some o.seq then s.consumeHead q
    else s

/-- An ACK or a NAK brings the next expected FSEQ and CREDIT. -/
def State.streamAck (s : State) (dst : Nat) (cls : FrameClass) (next : BitVec 16) (credit : Nat) : State :=
  let x := s.txStream dst cls
  let done := x.out.takeWhile (fun o => decide (0 < (next - o.fseq).toInt))
  let s := s.setTxStream { x with
    out := x.out.drop done.length, credit := credit,
    retries := if done.isEmpty then x.retries else 0,
    progressAt := if done.isEmpty then x.progressAt else s.now }
  let s := done.foldl State.frameDone s
  s.pumpStream 32 dst cls

/-- Resend a stream from its first unacknowledged frame; each frame counts in RESEND_CNT. -/
def State.streamGoBack (s : State) (dst : Nat) (cls : FrameClass) : State :=
  let x := s.txStream dst cls
  let s := s.setTxStream { x with progressAt := s.now }
  let s := s.bumpReg (RTX.RESEND_CNT 0) x.out.length
  x.out.foldl (fun s o => s.launch o.frame) s

/-- A tunnel request ends: its STATUS, the words done, DONE (R368, Table 13-12). -/
def State.tunEnd (s : State) (status words : Nat) : State :=
  let u : State := { s with rtun := { s.rtun with busy := false, done := true, status := status, words := words } }
  u.setEvt RTUN.TUN_EVT.DONE

/-- The frame carries a tunnel request. -/
def isTunRequest (f : Frame) : Bool := f.tun && decide (leAt f.payload 0 1 < 128)

/-- A frame of an abandoned stream: its item completes UNREACHABLE, or its bridged item stays queued. -/
def State.abandonFrame (s : State) (dst : Nat) (o : OutFrame) : State :=
  match o.queue with
  | none => s
  | some q => if 16 ≤ q then s.complete q stUnreachable o.seq o.tag dst else s.modQ q (fun u => { u with bridged := 0 })

/-- Abandon a stream: its items complete UNREACHABLE with the destination as DETAIL, and so does a tunnel request. -/
def State.streamAbandon (s : State) (dst : Nat) (cls : FrameClass) : State :=
  let x := s.txStream dst cls
  let s := s.setTxStream { x with out := [], wait := [], next := 0, retries := 0, restart := true, credit := 255 }
  let s := (x.out ++ x.wait).foldl (fun s o => s.abandonFrame dst o) s
  let s := if s.rtun.busy && (x.out ++ x.wait).any (fun o => isTunRequest o.frame) then s.tunEnd 4 0 else s
  let s := (s.setEvt (RTX.PORT_EVT.DEST_UNREACH 0)).bumpReg (RTX.UNREACH_CNT 0) 1
  s.recRing Rec.DEST_UNREACH .a

/-- A go-back without progress: it spends a retry, and RETRY_MAX of them abandon the stream. -/
def State.streamRetry (s : State) (dst : Nat) (cls : FrameClass) : State :=
  let x := s.txStream dst cls
  if s.fld (RTX.REL_CFG.RETRY_MAX 0) ≤ x.retries then s.streamAbandon dst cls
  else (s.setTxStream { x with retries := x.retries + 1 }).streamGoBack dst cls

/-- Restart every stream at FSEQ 0, as after an enumeration. -/
def State.streamsReset (s : State) : State :=
  let xs := s.ring.tx
  let s := s.modRing (fun r =>
    { r with tx := r.tx.map (fun x => { x with next := 0, wait := x.out ++ x.wait, out := [], credit := 255, retries := 0 }),
             rx := [], strokeRsync := true })
  xs.foldl (fun s x => s.pumpStream 32 x.dst x.cls) s

/-! The queue bridge's outgoing side (R367). -/

/-- The BULK frames of one device-to-host item for PROXY_NODE. -/
def bridgeFrames (q : Nat) (i : DItem) : Nat → Nat → List (Bool × List Byte)
  | 0, _ => []
  | fuel + 1, off =>
    let len := i.data.length
    let part := (i.data.drop off).take 248
    let last := decide (len ≤ off + 248)
    let h := [BitVec.ofNat 8 q, BitVec.ofNat 8 (b2n (decide (off = 0)) + 2 * b2n last)] ++ leBytes 2 off ++
      leBytes 2 len ++ leBytes 2 i.tag.toNat
    (last, h ++ part) :: (if last then [] else bridgeFrames q i fuel (off + 248))

/-- Hand the items of Q8 to Q15 that the bridge has not had yet to its stream. -/
def State.bridgePump (s : State) (q : Nat) : State :=
  if s.flag (RTX.PROXY_CFG.PROXY_EN 0) then
    let u := s.q q
    let node := s.fld (RTX.PROXY_CFG.PROXY_NODE 0)
    let s := s.modQ q (fun u => { u with bridged := u.items.length })
    (u.items.drop u.bridged).foldl (fun s i =>
      (bridgeFrames q i 64 0).foldl (fun s p =>
        let f := { newFrame .bulk s.ring.nodeId (BitVec.ofNat 10 node) 0 s.rgen s.launchHops p.2 with qbr := true }
        s.streamSend { fseq := 0, frame := f, queue := some q, seq := i.seq, tag := i.tag, cmpl := p.1, sentAt := s.now, tries := 0 }) s) s
  else s

/-- Post an item on a device-to-host queue, and hand it to the bridge where the device has one. -/
def State.postItem (s : State) (q : Nat) (tag : BitVec 16) (data : List Byte) : Bool × State :=
  match s.post q tag data with
  | (true, s) => (true, if 8 ≤ q ∧ q < 16 then s.bridgePump q else s)
  | (false, s) => (false, s)

/-! STROKE frames (R105, R356). -/

/-- Launch held STROKE frames while fewer than 32 are outstanding. -/
def State.pumpStrokes : Nat → State → State
  | 0, s => s
  | fuel + 1, s =>
    match s.ring.strokeHeld with
    | [] => s
    | o :: w =>
      if 32 ≤ s.ring.strokeOut.length then s
      else
        let f := { o.frame with flag := s.ring.strokeRsync, rgen := s.rgen }
        let s := s.modRing (fun r =>
          { r with strokeHeld := w, strokeRsync := false, strokeOut := r.strokeOut ++ [{ o with frame := f, sentAt := s.now }] })
        State.pumpStrokes fuel (s.launch f)

/-- Send a STROKE payload; beyond 64 held frames it is dropped, and takes no SEQ. FSEQ is SEQ[15:0] of the payload. -/
def State.sendStroke (s : State) (payload : Word → List Byte) : State :=
  let q := s.ring.strokeSeq
  let f := { newFrame .stroke s.ring.nodeId 0 (q.setWidth 16) s.rgen s.launchHops (payload q) with bcast := true }
  let o : OutFrame :=
    { fseq := f.fseq, frame := f, queue := none, seq := 0, tag := 0, cmpl := false, sentAt := s.now, tries := 0 }
  if s.ring.assigned = false then s
  else if 32 ≤ s.ring.strokeOut.length ∧ 64 ≤ s.ring.strokeHeld.length then s.bump (RTX.MISS_CNT.OVF 0) 1
  else (s.modRing (fun r => { r with strokeHeld := r.strokeHeld ++ [o], strokeSeq := r.strokeSeq + 1 })).pumpStrokes 32

/-- Resend the outstanding STROKE frames from the `i`-th. -/
def State.strokeGoBack (s : State) (i : Nat) : State :=
  let os := s.ring.strokeOut.drop i
  let s := s.modRing (fun r =>
    { r with strokeOut := r.strokeOut.take i ++ (r.strokeOut.drop i).map (fun o => { o with sentAt := s.now }) })
  let s := s.bumpReg (RTX.RESEND_CNT 0) os.length
  os.foldl (fun s o => s.launch o.frame) s

/-- A go-back from the `i`-th outstanding frame that spends one of its retries; after RETRY_MAX of that frame the outstanding
frames are dropped (R356). -/
def State.strokeRetry (s : State) (i : Nat) : State :=
  if s.ring.strokeOut[i]?.any (fun o => decide (s.fld (RTX.REL_CFG.RETRY_MAX 0) ≤ o.tries)) then
    let s := s.modRing (fun r => { r with strokeOut := [], strokeRsync := true })
    ((s.setEvt (RTX.PORT_EVT.STROKE_ABANDON 0)).recRing Rec.STROKE_ABANDON .a).pumpStrokes 32
  else
    (s.modRing (fun r => { r with strokeOut := modNth (fun o => { o with tries := o.tries + 1 }) i r.strokeOut })).strokeGoBack i

/-- Every go-back that a TOPO starts, without spending a retry (R363). -/
def State.topoGoBack (s : State) : State :=
  let s := s.ring.tx.foldl (fun s x => s.streamGoBack x.dst x.cls) s
  s.strokeGoBack 0

/-- STROKE_RETURN: a stripped STROKE frame returns, or with none ACK_TMO_US has passed for the oldest outstanding one. -/
def State.strokeBack (s : State) (f : Option Frame) : State :=
  match f with
  | none =>
    match s.ring.strokeOut with
    | [] => s
    | o :: _ => if o.sentAt + s.fld (RTX.REL_CFG.ACK_TMO_US 0) * usPs ≤ s.now then s.strokeRetry 0 else s
  | some f =>
    let os := s.ring.strokeOut
    match os.findIdx? (fun o => decide (o.fseq = f.fseq)) with
    | none => s
    | some i =>
      if !crcGood f || f.eofBad then s
      else if fsMiss f.fs then (s.bump (RTX.MISS_CNT.STROKE 0) 1).strokeRetry i
      else (s.modRing (fun r => { r with strokeOut := r.strokeOut.eraseIdx i })).pumpStrokes 32

/-! Rows: sending. -/

/-- The rank of an own frame in the insertion order of Table 13-3. -/
def frameRank (f : Frame) : Nat :=
  match f.cls with
  | .pace => 0
  | .ctrl => if f.ack then 1 else 2
  | .stroke => 3
  | .bulk => 4

/-- The first queued frame of the lowest rank. -/
def pickOwn (q : List (Time × Frame)) : Option (Nat × Frame) :=
  (List.range q.length).foldl (fun b i =>
    match q[i]? with
    | none => b
    | some (_, f) =>
      match b with
      | none => some (i, f)
      | some (_, g) => if frameRank f < frameRank g then some (i, f) else b) none

/-- Put a frame on TX p: LEN + 31 characters of 4 ns with its gap. -/
def State.emit (s : State) (p : Ring) (f : Frame) : State :=
  (s.modPort p (fun x => { x with lastTx := some f, busyUntil := s.now + (f.payload.length + 31) * 4 * nsPs })).count
    (RTX.TX_FRAMES p.ix) 1

/-- FRAME_SEND: the next transit frame, or the next own frame when the transit buffer is empty or an own frame has waited
20 µs (R350); the transmitter stands once PFAIL_N has frozen the outputs (R30). -/
def execFrameSend (t : Time) (p : Ring) (s : State) : Res :=
  let s := s.at t
  let x := s.port p
  if s.ringLive p ∧ x.busyUntil ≤ s.now ∧ s.pfail = false then
    let waited := x.txq.any (fun q => decide (q.1 + 20 * usPs ≤ s.now))
    match x.transit, pickOwn x.txq with
    | f :: fs, none => .next ((s.modPort p (fun x => { x with transit := fs })).emit p f)
    | [], none => .next s
    | [], some (i, f) =>
      if s.ringEn p ∧ s.drives then .next ((s.modPort p (fun x => { x with txq := x.txq.eraseIdx i })).emit p f)
      else .next s
    | g :: gs, some (i, f) =>
      if waited ∧ s.ringEn p ∧ s.drives then
        .next ((s.modPort p (fun x => { x with txq := x.txq.eraseIdx i })).emit p f)
      else .next ((s.modPort p (fun x => { x with transit := gs })).emit p g)
  else .next s

/-- ACK_TIMEOUT: ACK_TMO_US has passed without progress; with CREDIT 0 one frame probes and no retry is spent (R355). -/
def execAckTimeout (t : Time) (dst : BitVec 10) (cls : FrameClass) (s : State) : Res :=
  let s := s.at t
  let x := s.txStream dst.toNat cls
  if s.up ∧ (x.out ≠ [] ∨ (x.credit = 0 ∧ x.wait ≠ [])) ∧ x.progressAt + s.fld (RTX.REL_CFG.ACK_TMO_US 0) * usPs ≤ s.now then
    if x.credit = 0 then
      match x.out, x.wait with
      | o :: _, _ =>
        let s := s.setTxStream { x with progressAt := s.now }
        .next ((s.bumpReg (RTX.RESEND_CNT 0) 1).launch o.frame)
      | [], o :: w =>
        let f := { o.frame with fseq := x.next, flag := x.restart, rgen := s.rgen }
        let s := s.setTxStream { x with
          next := x.next + 1, out := [{ o with fseq := x.next, frame := f, sentAt := s.now }], wait := w,
          restart := false, progressAt := s.now }
        .next (s.launch f)
      | [], [] => .next s
    else .next (s.streamRetry dst.toNat cls)
  else .next s

/-- STROKE_RETURN (R356). -/
def execStrokeReturn (t : Time) (p : Ring) (f : Option Frame) (s : State) : Res :=
  let s := s.at t
  if s.ringLive p then
    match f with
    | none => .next (s.strokeBack none)
    | some f =>
      if hcrcGood f ∧ f.cls = .stroke ∧ f.src = s.ring.nodeId ∧ s.ring.assigned ∧ f.turns.toNat % 2 = 0 then
        .next (s.strokeBack (some f))
      else .next s
  else .next s

/-- A ring item at the head of queue `q` is sent as a frame, or completes BAD_ITEM (R366). -/
def State.egressItem (s : State) (q : Nat) (cls : FrameClass) (gs : List Seg) : State :=
  let d := itemData gs
  let l := itemLast gs
  let node := leAt d 0 2
  let len := leAt d 4 2
  if leAt d 2 1 ≠ cls.code ∨ 256 < len ∨ d.length ≠ 16 + len then s.retireHead q stBadItem 0
  else
    let tag : BitVec 16 := BitVec.ofNat 16 (leAt d 6 2)
    let free := 256 - (s.q q).desc
    let s := s.modQ q (fun u => { u with segs := u.segs.drop gs.length, passed := (u.passed + 1) % 4294967296 })
    let s := s.thrCross q free (free + gs.length)
    let pb := leAt d 3 1
    let f := { newFrame cls s.ring.nodeId (BitVec.ofNat 10 node) 0 s.rgen s.launchHops (d.drop 16) with
      bcast := node.testBit 15, port := BitVec.ofNat 2 pb, qbr := pb.testBit 4 }
    let o : OutFrame := { fseq := 0, frame := f, queue := some q, seq := l.seq, tag := tag, cmpl := l.cmpl, sentAt := s.now, tries := 0 }
    if f.bcast then (s.launch f).frameDone o else s.streamSend o

/-- RING_ITEM_EGRESS: the head item of Q16 to Q23 becomes a frame, or completes BAD_ITEM (R366). -/
def execRingItemEgress (t : Time) (q : Fin 32) (s : State) : Res :=
  let s := s.at t
  let u := s.q q.val
  let cls : FrameClass := if q.val < 20 then .ctrl else .bulk
  let lo := if q.val < 20 then 16 else 20
  let before := (List.range 32).any (fun i => decide (lo ≤ i ∧ i < q.val) && !(s.q i).whole.isEmpty)
  match u.whole with
  | [] => .next s
  | gs :: _ =>
    if s.up ∧ 16 ≤ q.val ∧ q.val < 24 ∧ before = false ∧ s.ballsRun then
      .next (s.egressItem q.val cls gs)
    else .next s

/-! Rows: enumeration and presence (R352 to R354). -/

/-- The ENUM payload (Table 13-5). -/
def enumPayload (nonce : Word) (mode next : Nat) (rgen : Epoch) (map : List Byte) : List Byte :=
  leBytes 4 nonce.toNat ++ [BitVec.ofNat 8 mode, 0] ++ leBytes 2 next ++ leBytes 2 rgen.toNat ++ List.replicate 6 0 ++ map

/-- Send an ENUM frame: CTRL on ring A, broadcast. -/
def State.sendEnum (s : State) (payload : List Byte) : State :=
  if s.ballsRun = false then s
  else s.launchOn .a { newFrame .ctrl s.ring.nodeId 0 0 s.rgen s.launchHops payload with bcast := true, enum_ := true }

/-- One FULL enumeration by the root: RGEN advances and a NONCE is drawn (R352). -/
def State.enumStart (s : State) (tries : Nat) : State :=
  let s := s.setRgen (s.rgen + 1)
  let (v, s) := s.freeWord
  let s := s.modRing (fun r => { r with nonce := some v, enumAt := some s.now, enumTries := tries })
  s.sendEnum (enumPayload v 0 1 s.rgen [])

/-- The presence map as 128 bytes, bit i for node i. -/
def presBytes (m : List (Nat × Time)) : List Byte :=
  (List.range 128).map (fun b =>
    BitVec.ofNat 8 ((List.range 8).foldl (fun a i => a + bitAt i (m.any (fun p => decide (p.1 = 8 * b + i)))) 0))

/-- The root sends JOIN with its presence map (R353). -/
def State.sendJoin (s : State) : State :=
  match s.ring.nonce with
  | none => s
  | some v => s.sendEnum (enumPayload v 2 0 s.rgen (presBytes s.ring.present))

/-- RING_CTRL.ENUM written 1: only the root enumerates, and only in PRIMROSE, IDLE or STANDBY (R352). -/
def State.enumCtrl (s : State) : State :=
  if s.dev = .primrose ∨ s.dev = .idle ∨ s.dev = .standby then (if s.ring.root then s.enumStart 1 else s)
  else s.err 0x008 0x840 .ringBusy

def execEnum (t : Time) (s : State) : Res :=
  let s := s.at t
  if s.running then .next s.enumCtrl else .next s

/-- RING_CTRL.ENUM_JOIN written 1: the root sends JOIN, in any device state (R353). -/
def State.joinCtrl (s : State) : State := if s.ring.root then s.sendJoin else s

def execEnumJoin (t : Time) (s : State) : Res :=
  let s := s.at t
  if s.running then .next s.joinCtrl else .next s

/-- ENUM_RETRY: ENUM has not returned after 10 ms (R352). -/
def execEnumRetry (t : Time) (s : State) : Res :=
  let s := s.at t
  match s.ring.enumAt with
  | none => .next s
  | some a =>
    if a + 10 * msPs ≤ s.now then
      if s.ring.enumTries < 3 then .next (s.enumStart (s.ring.enumTries + 1))
      else
        let s := s.modRing (fun r => { r with enumAt := none })
        .next ((s.setEvt (RTX.PORT_EVT.ENUM_FAIL 0)).recRing Rec.ENUM_FAIL .a)
    else .next s

/-- Mark a node present. -/
def markPresent (m : List (Nat × Time)) (node : Nat) (now : Time) : List (Nat × Time) :=
  if m.any (fun p => decide (p.1 = node)) then m.map (fun p => if p.1 = node then (node, now) else p) else m ++ [(node, now)]

/-- RT_LOCK: the root is always locked (R359). -/
def State.rtLock (s : State) : Bool := s.ring.root || s.rtime.lock

/-- PRESENCE_SEND: every PRES_MS, an assigned node (R354). -/
def execPresenceSend (t : Time) (s : State) : Res :=
  let s := s.at t
  if s.up ∧ s.ring.assigned ∧ s.ring.presAt + s.fld (RTX.RING_CFG.PRES_MS 0) * msPs ≤ s.now then
    let s := s.modRing (fun r => { r with presAt := s.now, present := markPresent r.present r.nodeId.toNat s.now })
    let w := (s.port .a).wrapped || (s.port .b).wrapped
    .next (s.sendPace 1 (leBytes 4 (s.dev.code + 16 * b2n s.rtLock + 32 * b2n w)))
  else .next s

/-- NODE_ABSENT: a node has sent nothing for 3 × PRES_MS (R354). -/
def execNodeAbsent (t : Time) (node : BitVec 10) (s : State) : Res :=
  let s := s.at t
  match s.ring.present.find? (fun p => decide (p.1 = node.toNat)) with
  | none => .next s
  | some p =>
    if s.up ∧ node ≠ s.ring.nodeId ∧ p.2 + 3 * s.fld (RTX.RING_CFG.PRES_MS 0) * msPs ≤ s.now then
      let first := !s.ring.absentSeen.contains node.toNat
      let s := s.modRing (fun r =>
        { r with present := r.present.filter (fun q => decide (q.1 ≠ node.toNat)),
                 absentSeen := if first then r.absentSeen ++ [node.toNat] else r.absentSeen })
      let s := s.setEvt (RTX.PORT_EVT.NODE_ABSENT 0)
      .next (if first then s.recRing Rec.NODE_ABSENT .a else s)
    else .next s

/-! Rows: links, wrap and topology (R361 to R364). -/

/-- Send an ordered set on TX p. -/
def State.emitSet (s : State) (p : Ring) (typ data : Nat) : State :=
  s.modPort p (fun x => { x with lastSet := some (typ, data) })

/-- The receiver of a port declares its link down (R361). -/
def State.linkDown (s : State) (p : Ring) : State :=
  let s := s.modPort p (fun x =>
    { x with link := .down, since := if x.link = .up ∧ !x.rfault ∨ x.wrapped then s.now else x.since, sendRfault := true })
  let s := (s.setEvt (RTX.PORT_EVT.LINK_DOWN p.ix)).bumpReg (RTX.LINK_DOWN_CNT p.ix) 1
  let s := s.recRing Rec.LINK_DOWN p
  s.emitSet p.other 4 (s.ring.nodeId.toNat + 65536 * b2n (!s.ring.assigned))

/-- What makes a receiver declare its link down (R346): loss of signal, 4,000 ns without a valid ordered set, or 16 code
violations or disparity errors within 1 µs. -/
def lineDown (x : LineLoss) : Bool := x.los || decide (4000 ≤ x.quiet) || decide (16 ≤ x.burst)

/-- LINK_DOWN: a receiver's line goes bad; its code violations are counted whether or not the link goes down (R346, R361). -/
def execLinkDown (t : Time) (p : Ring) (x : LineLoss) (s : State) : Res :=
  let s := s.at t
  if s.ringLive p then
    let s := s.bumpReg (RTX.CODE_ERR_CNT p.ix) x.codeErrs.toNat
    if lineDown x then
      if (s.port p).link = .up then .next (s.linkDown p) else .next (s.modPort p (fun y => { y with link := .down }))
    else .next s
  else .next s

/-- LINK_UP: commas are aligned and `sets` consecutive valid ordered sets have come. With 64 of them the link is up, or its RFAULT
has ended, and the node answers with LINK_OK; before, the port aligns (R346, R364). -/
def execLinkUp (t : Time) (p : Ring) (sets : Nat) (s : State) : Res :=
  let s := s.at t
  if s.ringLive p = false ∨ s.hopDown p = false then .next s
  else if sets < 64 then
    .next (if (s.port p).link = .down then s.modPort p (fun x => { x with link := .aligning }) else s)
  else
    let s := s.setFld (if p = .a then CLK.CLK_STAT.SERDES_A_LOCK else CLK.CLK_STAT.SERDES_B_LOCK) 1
    let s := s.modPort p (fun x => { x with link := .up, rfault := false, rfaultRun := 0, since := s.now, sendRfault := false })
    .next (s.emitSet p.other 5 s.ring.nodeId.toNat)

/-- An ordered set other than RFAULT ends a run of fewer than three RFAULT (R361). -/
def State.heardSet (s : State) (p : Ring) : State :=
  s.modPort p (fun x => if x.rfault then x else { x with rfaultRun := 0 })

/-- RFAULT: the third in a row makes the hop down (R361). -/
def execRfault (t : Time) (p : Ring) (s : State) : Res :=
  let s := s.at t
  if s.ringLive p then
    let x := s.port p
    if x.rfaultRun < 2 then .next (s.modPort p (fun x => { x with rfaultRun := x.rfaultRun + 1 }))
    else .next (s.modPort p (fun x =>
      { x with rfaultRun := 3, rfault := true, since := if (x.link = .up ∧ !x.rfault) ∨ x.wrapped then s.now else x.since }))
  else .next s

/-- The hop of TX p, whose other pair arrives at the other ring's receiver, is live. -/
def State.txLive (s : State) (p : Ring) : Bool := s.ringEn p && (!s.hasRing p.other || !s.hopDown p.other)

/-- Send TOPO on every live transmitter but one (R363). -/
def State.sendTopo (s : State) (g : Epoch) (orig : Nat) (skip : Option Ring) : State :=
  let d := g.toNat + 65536 * orig
  let s := if s.txLive .a ∧ skip ≠ some .a then s.emitSet .a 6 d else s
  if s.txLive .b ∧ skip ≠ some .b then s.emitSet .b 6 d else s

/-- Advance the topology generation, send it and start the go-backs (R363). -/
def State.newTopo (s : State) : State :=
  let s := s.modRing (fun r => { r with topoGen := r.topoGen + 1 })
  (s.sendTopo s.ring.topoGen s.ring.nodeId.toNat none).topoGoBack

/-- WRAP: a hop has been down for WRAP_HOLD_US (R362). -/
def execWrap (t : Time) (p : Ring) (s : State) : Res :=
  let s := s.at t
  let x := s.port p
  if s.ringLive p ∧ memberRings s.member = 2 ∧ s.flag (RTX.LINK_CFG.WRAP_EN p.ix) ∧ s.hopDown p ∧ x.wrapped = false ∧
      x.since + s.fld (RTX.LINK_CFG.WRAP_HOLD_US p.ix) * usPs ≤ s.now then
    let s := s.modPort p (fun x => { x with wrapped := true })
    let dead := p.other
    let q := (s.port dead).txq
    let r := (s.port dead).transit
    let turn := fun (f : Frame) => let f := { f with turns := f.turns + 1 }; { f with hcrc := frameHcrc f }
    let s := s.modPort dead (fun x => { x with txq := [], transit := [] })
    let s := s.modPort p (fun x =>
      { x with txq := x.txq ++ q.map (fun e => (e.1, turn e.2)), transit := x.transit ++ r.map turn })
    let s := (s.setEvt (RTX.PORT_EVT.WRAP p.ix)).recRing Rec.WRAP p
    .next s.newTopo
  else .next s

/-- UNWRAP: a wrapped hop has been up for UNWRAP_US, with LINK_OK received; the root then sends JOIN (R364). -/
def execUnwrap (t : Time) (p : Ring) (linkOk : Bool) (s : State) : Res :=
  let s := s.at t
  let x := s.port p
  if s.ringLive p ∧ linkOk ∧ x.wrapped ∧ s.hopDown p = false ∧ x.since + s.fld (RTX.LINK_CFG.UNWRAP_US p.ix) * usPs ≤ s.now then
    let s := s.modPort p (fun x => { x with wrapped := false })
    let s := (s.setEvt (RTX.PORT_EVT.UNWRAP p.ix)).recRing Rec.UNWRAP p
    let s := s.newTopo
    .next (if s.ring.root then s.sendJoin else s)
  else .next s

/-- TOPO: a later generation is adopted, relayed once on the other live transmitter, and starts the go-backs (R363). It tells the
root that a hop has wrapped or unwrapped, and the root sends JOIN (R353, R364). -/
def execTopo (t : Time) (p : Ring) (gen : Epoch) (orig : BitVec 10) (s : State) : Res :=
  let s := (s.at t).heardSet p
  if s.ringLive p ∧ 0 < epochDiff gen s.ring.topoGen then
    let s := s.modRing (fun r => { r with topoGen := gen })
    let s := s.setEvt (RTX.PORT_EVT.TOPO p.ix)
    let s := (s.sendTopo gen orig.toNat (some p.other)).topoGoBack
    .next (if s.ring.root then s.sendJoin else s)
  else .next s

/-- A port disabled by PG_CTRL.EN = 0: unacknowledged frames go to the other ring or complete UNREACHABLE (R365). -/
def State.ringDrain (s : State) (p : Ring) : State :=
  let q := (s.port p).txq
  let s := s.modPort p (fun x => { x with txq := [] })
  let o := p.other
  let s :=
    if s.ringEn o then
      (q.foldl (fun s e => s.launchOn o e.2) s).topoGoBack
    else
      let s := s.ring.tx.foldl (fun s x => if x.out.isEmpty ∧ x.wait.isEmpty then s else s.streamAbandon x.dst x.cls) s
      s.modRing (fun r => { r with strokeOut := [], strokeHeld := [] })
  s.setDrained (pgRtx p)

/-- BYP_HOLD of a ring (R365). -/
def State.bypHold (s : State) (p : Ring) : Bool := s.up && s.ringEn p && !s.pfail && (s.port p).bypTest

/-! Rows: ring time (R357 to R360). -/

/-- The hop behind RX p delays by d, ps. -/
def State.hopDelay (s : State) (p : Ring) : Nat :=
  if s.flag RTIME.RT_CFG.USE_CFG ∨ memberRings s.member = 1 ∨ !s.ringEn .a ∨ !s.ringEn .b then
    s.fld RTIME.RT_CFG.HOP_DLY_NS * nsPs
  else (s.port p).dly

/-- The instant nearest `now` that is congruent to `v` units of 0.4 ns modulo 2^36. -/
def nearUnits (now : Time) (v : Nat) : Time :=
  let u := now / 400
  (((u : Int) + sx 36 ((v + 68719476736 - u % 68719476736) % 68719476736)).toNat) * 400

/-- The receiver that a node synchronises to: the live one with the smallest h, RX A on a tie (R358). -/
def State.syncSrc (s : State) : Option Ring :=
  let get := fun (p : Ring) => if s.hopDown p ∨ (s.port p).wrapped then none else (s.rtime.heard.get p.ix).map (·.1)
  match get .a, get .b with
  | none, none => none
  | some _, none => some .a
  | none, some _ => some .b
  | some x, some y => if y < x then some .b else some .a

/-- h that this node sends: 1 at the root, one more than its source's elsewhere. -/
def State.syncH (s : State) : Nat := if s.ring.root then 1 else (s.rtime.h + 1) % 4096

/-- SYNC_SEND: on a live transmitter, at the first opportunity after each multiple of 10,000 ns (R358). -/
def execSyncSend (t : Time) (p : Ring) (s : State) : Res :=
  let s := s.at t
  if s.ringLive p ∧ s.txLive p then
    .next (s.emitSet p 1 (s.syncH * 68719476736 + s.now / 400 % 68719476736))
  else .next s

/-- The mean of the last 16 errors. -/
def meanErr (es : List Int) : Int := if es.isEmpty then 0 else rdiv es.sum (es.length : Int)

/-- Lock after 100 good errors, loss after 10 bad ones (R359). -/
def State.syncLock (s : State) (e : Int) : State :=
  let r := s.rtime
  let good := if e.natAbs ≤ 10000 then r.goodRun + 1 else 0
  let bad := if 20000 < e.natAbs then r.badRun + 1 else 0
  let lost := r.lock && decide (10 ≤ bad)
  let lock := (r.lock && !lost) || decide (100 ≤ good)
  let s : State := { s with rtime := { r with goodRun := min good 100, badRun := min bad 10, lock := lock } }
  if lost then s.setEvt RTIME.RT_EVT.LOCK_LOST else s

/-- SYNC: from the source, the error trims, steps or flags ring time (R358 to R360). -/
def execSync (t : Time) (p : Ring) (data : BitVec 48) (s : State) : Res :=
  let s := (s.at t).heardSet p
  if s.ringLive p then
    let h := data.toNat / 68719476736
    let s : State := { s with rtime := { s.rtime with heard := s.rtime.heard.set p.ix (some (h, s.now)) } }
    if s.ring.root ∨ s.syncSrc ≠ some p then .next s
    else
      let dep := nearUnits s.now (data.toNat % 68719476736)
      let d := s.hopDelay p
      let e : Int := (s.now : Int) - ((dep + d : Nat) : Int)
      let s : State := { s with rtime := { s.rtime with
        h := h, srcB := decide (p = Ring.b), lastSync := some s.now, lastErr := e, hold := false,
        errs := (s.rtime.errs ++ [e]).drop (s.rtime.errs.length + 1 - 16) } }
      if 1000000 < e.natAbs then
        if s.dev = .primrose ∨ s.dev = .idle ∨ s.dev = .standby then
          let s : State := { s with
            now := dep + d,
            rtime := { s.rtime with lastSync := some (dep + d), stepLast := satS 32 (-(e.tdiv 1000)), errs := [], goodRun := 0, badRun := 0, far := false } }
          .next ((s.setEvt RTIME.RT_EVT.STEP).recRing Rec.RT_STEP p)
        else
          let s := s.syncLock e
          if s.rtime.far then .next s
          else
            let s : State := { s with rtime := { s.rtime with far := true } }
            .next ((s.setEvt RTIME.RT_EVT.FAR).recRing Rec.RT_FAR p)
      else
        let s : State := { s with rtime := { s.rtime with far := false } }
        let s := s.syncLock e
        let m := meanErr s.rtime.errs
        if 1250 ≤ m.natAbs ∧ s.rtime.lastAdj + 40000 * tclkPs ≤ s.now then
          .next (({ s with rtime := { s.rtime with lastAdj := s.now, corr := m } } : State).count RTIME.ADJ_CNT 1)
        else .next { s with rtime := { s.rtime with corr := m } }
  else .next s

/-- RT_HOLD: 100 µs without SYNC (R359). -/
def execRtHold (t : Time) (s : State) : Res :=
  let s := s.at t
  match s.rtime.lastSync with
  | none => .next s
  | some a =>
    if s.up ∧ s.ring.root = false ∧ s.rtime.hold = false ∧ a + 100 * usPs ≤ s.now then
      let s := if s.rtime.lock then s.setEvt RTIME.RT_EVT.LOCK_LOST else s
      let s : State := { s with rtime := { s.rtime with lock := false, hold := true, goodRun := 0, badRun := 0 } }
      .next ((s.setEvt RTIME.RT_EVT.HOLD).recRing Rec.RT_HOLD (if s.rtime.srcB then .b else .a))
    else .next s

/-- DELAY_MEASURE: DREQ on TX p (R357). -/
def execDelayMeasure (t : Time) (p : Ring) (s : State) : Res :=
  let s := s.at t
  if s.ringLive p ∧ s.ringEn p ∧ memberRings s.member = 2 then
    let q := (s.port p).dreqSeq + 1
    let s := s.modPort p (fun x => { x with dreqSeq := q, dreqAt := some s.now })
    .next (s.emitSet p 2 q.toNat)
  else .next s

/-- An instant at a ball in units of 0.4 ns (R357). -/
def lineUnits (t : Time) : Nat := t / 400

/-- DREQ arrived on RX p at `t2`; the answer leaves on the transmitter of the same hop (R357). -/
def execDreq (t : Time) (p : Ring) (seq : BitVec 16) (t2 : Time) (s : State) : Res :=
  let s := (s.at t).heardSet p
  if s.ringLive p ∧ s.ringEn p.other then
    .next (s.emitSet p.other 3 (seq.toNat * 4294967296 + (lineUnits s.now - lineUnits t2) % 4294967296))
  else .next s

/-- DRESP on RX p answers the DREQ sent on the transmitter of the same hop: d := ((t4 − t1) − (t3 − t2)) / 2 (R357). -/
def execDresp (t : Time) (p : Ring) (seq : BitVec 16) (turn : Word) (s : State) : Res :=
  let s := (s.at t).heardSet p
  let x := s.port p.other
  match x.dreqAt with
  | none => .next s
  | some t1 =>
    if s.ringLive p ∧ x.dreqSeq = seq then
      let s := s.modPort p.other (fun x => { x with dreqAt := none })
      .next (s.modPort p (fun y => { y with dly := (lineUnits s.now - lineUnits t1 - turn.toNat) * 200 }))
    else .next s

end Sys2Proof.Machine
end

