-- ==== Sys2Proof/Machine/Nor.lean ====
section
/-! DEFINITION. The NOR flash and its port: regions and directory, the operations of the port and their order, protected
ranges, and the authentication of patch images (R399 to R404). -/
namespace Sys2Proof.Machine

def pgNor : Nat := 0x007

def State.modNor (s : State) (f : NorState → NorState) : State := { s with nor := f s.nor }

/-! The flash array. -/

/-- An erased byte. -/
def erased : Nat → Byte := fun _ => 0xFF

/-- Read `n` bytes of the flash. -/
def State.readNor (s : State) (a n : Nat) : List Byte := Sparse.getRun erased s.nor.flash a n

/-- Erase `n` bytes. -/
def State.eraseNor (s : State) (a n : Nat) : State := s.modNor (fun x => { x with flash := Sparse.clearRange x.flash a (a + n) })

/-- Program bytes from `a`: a program clears bits and sets none. -/
def progBytes (m : Sparse Byte) : Nat → List Byte → Sparse Byte
  | _, [] => m
  | a, b :: bs => progBytes (Sparse.set erased m a (Sparse.get erased m a &&& b)) (a + 1) bs

def State.progNor (s : State) (a : Nat) (d : List Byte) : State := s.modNor (fun x => { x with flash := progBytes x.flash a d })

/-- The bytes an address may reach: 16 MiB, or 4 GiB with 4-byte addressing (R399, R400). -/
def State.norSize (s : State) : Nat :=
  match s.nor.dir with
  | some d => if d.norMode.testBit 31 then 4294967296 else 16777216
  | none => 16777216

/-! The directory (Table 14-9). -/

/-- A directory copy, if its MAGIC and CRC-32 are correct. -/
def State.dirCopy (s : State) (i : Nat) : Option Dir399 :=
  let d := s.readNor (i * 0x1000) 64
  if leAt d 0 4 = 0x52494457 ∧ leAt d 60 4 = (crc32 (d.take 60)).toNat then
    some { copy := i, gen := leAt d 4 4, norMode := leAt d 8 4, slots := leAt d 12 4, logBase := leAt d 16 4, logSize := leAt d 20 4 }
  else none

/-- The later of two generations, by signed 32-bit difference. -/
def laterGen (a b : Nat) : Bool := decide (0 < sx 32 (a + 4294967296 - b % 4294967296))

/-- The directory in force (R399). -/
def State.dirInForce (s : State) : Option Dir399 :=
  match s.dirCopy 0, s.dirCopy 1 with
  | some a, some b => some (if laterGen b.gen a.gen then b else a)
  | some a, none => some a
  | none, b => b

/-- The bytes of a directory. -/
def dirBytes (d : Dir399) : List Byte :=
  let h := leBytes 4 0x52494457 ++ leBytes 4 d.gen ++ leBytes 4 d.norMode ++ leBytes 4 d.slots ++ leBytes 4 d.logBase ++
    leBytes 4 d.logSize ++ List.replicate 36 0
  h ++ leBytes 4 (crc32 h).toNat

/-- What the device works with when no directory is valid: 0x03 at CLK_DIV = 14, and the log at its default place. -/
def dirDefault : Dir399 :=
  { copy := 1, gen := 0, norMode := 0x0E000302, slots := 0, logBase := 0x800000, logSize := 0x800000 }

def State.dirNow (s : State) : Dir399 := s.nor.dir.getD dirDefault

/-- Write a directory with GEN + 1 into the copy that is not in force; it is in force once it is read back. -/
def State.writeDir (s : State) (d : Dir399) : State :=
  let d := { d with copy := 1 - d.copy, gen := (d.gen + 1) % 4294967296 }
  let s := (s.eraseNor (d.copy * 0x1000) 0x1000).progNor (d.copy * 0x1000) (dirBytes d)
  s.modNor (fun x => { x with dir := some d })

def patchSlotAddr (i : Nat) : Nat := 0x100000 * (i + 1)
def cfgSlotAddr (i : Nat) : Nat := 0x300000 + 0x10000 * i

/-- SLOTS: the valid bits and the active slots. -/
def State.patchValid (s : State) : Bool := s.dirNow.slots.testBit 1
def State.patchSlot (s : State) : Nat := bf s.dirNow.slots 0 0
def State.cfgValid (s : State) : Bool := s.dirNow.slots.testBit 9
def State.cfgSlot (s : State) : Nat := bf s.dirNow.slots 8 8

/-- Two ranges overlap. -/
def overlap (a n b m : Nat) : Bool := decide (a < b + m) && decide (b < a + n)

/-- A range touches a protected region (R399). -/
def State.protected_ (s : State) (a n : Nat) : Bool :=
  overlap a n 0 0x2000 ||
  (s.patchValid && overlap a n (patchSlotAddr s.patchSlot) 0x100000) ||
  (s.cfgValid && overlap a n (cfgSlotAddr s.cfgSlot) 0x10000) ||
  overlap a n s.dirNow.logBase s.dirNow.logSize

/-! Patch images (R401). -/

/-- Checks 1 to 5 of R401 on a header: the number of the first that fails, 0 if all pass. -/
def State.patchHead (s : State) (h : List Byte) : Nat :=
  if leAt h 0 4 ≠ 0x54504C42 ∨ leAt h 4 2 ≠ 1 ∨ ((h.drop 0x14).take 12).any (fun b => b ≠ 0) ∨ h.length < 128 then 1
  else if leAt h 8 4 ≠ (s.reg NOR.ROM_ID).toNat then 2
  else if 4 ≤ leAt h 6 2 ∨ s.nor.keyStat.toNat.testBit (leAt h 6 2) then 3
  else if leAt h 0x0C 4 < s.nor.patchMin then 4
  else if 1048448 < leAt h 0x10 4 then 5
  else 0

/-- The checks of R401 on the image in a slot: the first that fails, 0 if all pass. -/
def State.patchCheck (s : State) (slot : Nat) : Nat :=
  let a := patchSlotAddr slot
  let h := s.readNor a 128
  let k := s.patchHead h
  if k ≠ 0 then k
  else if sha256 (s.readNor (a + 128) (leAt h 0x10 4)) ≠ (h.drop 0x20).take 32 then 6
  else if Config.sigVerifies (leAt h 6 2) (sha256 (h.take 64)) (h.drop 64) = false then 7
  else 0

/-! The port's operations (R400, R404). -/

/-- How many bytes an operation covers. -/
def NorOp.size (o : NorOp) : Nat :=
  match o.kind with
  | .erase4 => 4096
  | .erase64 => 65536
  | _ => o.data.length

/-- An erase. -/
def NorOp.isErase (o : NorOp) : Bool := decide (o.kind = .erase4 ∨ o.kind = .erase64)

/-- NOR_STAT.OP of an operation. -/
def NorOp.code (o : NorOp) : Nat :=
  match o.kind with
  | .read => 1
  | .erase4 => 2
  | .erase64 => 2
  | .program => 3
  | .readBack => 4

/-- Start the next operation of an idle port: the recorder's first; a suspended erase resumes when the recorder has
nothing left, and never after PFAIL_N has fallen; then the commands'. With a backlog the recorder's alone (R417). Only a half in charge drives the flash, so without one
nothing starts, and an operation under way ends by itself (R18, R331). -/
def State.norStart (s : State) : State :=
  let x := s.nor
  if s.drives = false then s
  else match x.cur with
  | some _ => s
  | none =>
    match x.recQ, x.suspended, x.cmdQ with
    | o :: r, _, _ => s.modNor (fun x => { x with cur := some o, curSince := s.now, recQ := r })
    | [], some o, _ =>
      if s.pfail ∨ s.yewPort.backlogHi then s else s.modNor (fun x => { x with cur := some o, curSince := s.now, suspended := none })
    | [], none, o :: r =>
      if s.yewPort.backlogHi then s else s.modNor (fun x => { x with cur := some o, curSince := s.now, cmdQ := r })
    | [], none, [] => s

/-- Suspend an erase in progress. -/
def State.norSuspend (s : State) : State :=
  match s.nor.cur with
  | some o => if o.isErase ∧ s.nor.suspended.isNone then (s.modNor (fun x => { x with cur := none, suspended := some o })).norStart else s
  | none => s

/-- Queue an operation of a command. -/
def State.norCmdOp (s : State) (o : NorOp) : State := (s.modNor (fun x => { x with cmdQ := x.cmdQ ++ [o] })).norStart

/-- Queue operations of the recorder. -/
def State.norRecOps (s : State) (os : List NorOp) : State := (s.modNor (fun x => { x with recQ := x.recQ ++ os })).norStart

/-- An operation of the active command is queued, suspended or in progress. -/
def State.cmdOpBusy (s : State) : Bool :=
  !s.nor.cmdQ.isEmpty || (match s.nor.cur with | some o => !o.recorder | none => false) ||
  (match s.nor.suspended with | some o => !o.recorder | none => false)

/-- What a completed operation leaves in the flash. -/
def State.norEffect (s : State) (o : NorOp) : State :=
  if o.isErase then s.eraseNor o.addr o.size
  else if o.kind = .program then s.progNor o.addr o.data
  else s

/-- Record NOR_ERR: the mailbox or 0, the address, the TAG. -/
def State.norErr (s : State) (mb addr tag : Nat) : State := s.record Rec.NOR_ERR pgNor (wd mb) (wd addr) (wd tag)

/-! Views (R408). -/

/-- NOR_STAT. -/
def State.norStat (s : State) : Nat :=
  let x := s.nor
  bitAt 31 x.cur.isSome + bitAt 30 s.cmdOpBusy +
    bitAt 29 (!x.recQ.isEmpty || (match x.cur with | some o => o.recorder | none => false)) +
    (match x.cur with | some o => o.code | none => 0) * 16777216 + bitAt 1 x.dir.isSome + bitAt 0 x.present

end Sys2Proof.Machine
end

