-- ==== Sys2Proof/Machine/Yew.lean ====
section
/-! DEFINITION. The Yew recorder beyond admission: the flush stream of the half in charge, the two zones of the NOR log, the
power-fail flush, the live stream and the buckets' refill (R412, R415 to R423). -/
namespace Sys2Proof.Machine

def pgYew : Nat := 0x006

def State.modYewPort (s : State) (f : YewPort → YewPort) : State := { s with yewPort := f s.yewPort }

/-! RECORD and the codes (R428). -/

def recsA : List RecCode :=
  [Rec.STATE_CHANGE, Rec.SEAL_FAIL, Rec.LANE_FENCE, Rec.SUPPLY_OOR, Rec.PATCH_ROM_ONLY, Rec.PFAIL, Rec.CLOCK_LOSS, Rec.LOG_INIT,
   Rec.PFAIL_FLUSH, Rec.FLUSH_LATE, Rec.LOG_KEEP_FULL, Rec.TOKEN_CE, Rec.REJOINED, Rec.HANDOVER, Rec.HB_PATH, Rec.XCHK_DISAGREE,
   Rec.LAUREL_TAKEOVER, Rec.LAUREL_TIE, Rec.KAT_FAIL, Rec.QUARANTINE, Rec.HP_CRC, Rec.CMPL_OVF, Rec.MB_DISCARD, Rec.PATCH_STAGED,
   Rec.CMD_ABORTED, Rec.DIR_REPAIR, Rec.PATCH_AUTH_FAIL, Rec.NOR_ERR, Rec.KEY_REVOKE, Rec.UNWRAP, Rec.ENUM_DONE, Rec.RT_STEP,
   Rec.RT_HOLD, Rec.LINK_DOWN, Rec.WRAP, Rec.NODE_ABSENT, Rec.RT_FAR, Rec.DEST_UNREACH, Rec.ENUM_FAIL, Rec.STROKE_ABANDON,
   Rec.ROOT_CONFLICT]
def recsB : List RecCode :=
  [Rec.OBS_STALE, Rec.TIME_LOCKED, Rec.GNSS_BACK, Rec.RTCM_BAD, Rec.GNSS_LOST, Rec.TIME_HOLDOVER, Rec.REF_CHANGE, Rec.AGC_LIMIT,
   Rec.TIME_EXPIRED, Rec.TIME_STEP, Rec.GIF_CLK_BAD, Rec.POS_STEP, Rec.SPD_DISAGREE, Rec.HITCH_DISAGREE, Rec.MAP_CE, Rec.TILE_LATE,
   Rec.SLOT_CONFLICT, Rec.WIN_STALL, Rec.MAP_UE, Rec.MAP_DIVERGE, Rec.SPILL_LOST, Rec.EVT_DEFER, Rec.LEAD_CLAMP, Rec.LATE_TARGET,
   Rec.PRESS_LOW, Rec.NO_MOTION, Rec.DEC_MISMATCH, Rec.XCHK_FAIL, Rec.EVT_LATE, Rec.EVT_FULL, Rec.EVT_LOST, Rec.DR_EXPIRED]
def recsC : List RecCode :=
  [Rec.PEAK_LATE, Rec.PEAK_SKIP, Rec.BOOST_SUB, Rec.PEAK_TMO, Rec.OPEN_LOAD, Rec.DECAY_TMO, Rec.VBST_OV, Rec.OUT_OC, Rec.NO_DIP,
   Rec.NO_CLOSE, Rec.LEARNED, Rec.VALVE_STUCK, Rec.CLOSE_FAIL, Rec.VALVE_WEAR, Rec.RELEARN, Rec.DLY_CLAMP, Rec.PWM_ORDER,
   Rec.SYNC_SLIP, Rec.SYNC_GLITCH, Rec.LIVE_WRITE, Rec.LOOP_SAT, Rec.HW_PLAUS, Rec.LOOP_OVERRUN, Rec.HW_IMPLAUS, Rec.COMM_LOST,
   Rec.HW_SAFE, Rec.IDX_RESYNC, Rec.IDX_ERR, Rec.QUAD_ILLEGAL, Rec.HALL_SKIP, Rec.EM_LAG, Rec.HALL_BAD, Rec.FBK_WIRE]

/-- The record code of a number; none for a reserved one. -/
def recOf (n : Nat) : Option RecCode := (recsA ++ recsB ++ recsC).find? (fun c => decide (c.num = n))

/-- RECORD: a block hands Yew a record; an OWN record is that of one half (R410 to R414). -/
def execRecord (t : Time) (code : BitVec 10) (page : BitVec 12) (h : Half) (a0 a1 a2 : Word) (s : State) : Res :=
  let s := s.at t
  match recOf code.toNat with
  | none => .next s
  | some c =>
    if s.dev = .off ∨ s.dev = .reset then .next s
    else if c.origin = .own then .next (if s.runs h then s.recordOwn h c page.toNat a0 a1 a2 else s)
    else .next (s.record c page.toNat a0 a1 a2)

/-! Buckets (R412). -/

/-- BURST of a CODE_CFG word; 0 is taken as 1. -/
def burstOf (cfg : Nat) : Nat := max 1 (bf cfg 23 16)

/-- One bucket's gain of a millisecond. -/
def refill (cfg b : Nat) : Nat := min (b + bf cfg 15 0) (burstOf cfg * 60000)

/-- The codes whose bucket or configuration differs from the reset ones. -/
def State.bucketCodes (s : State) (y : YewCopy) : List Nat :=
  (y.buckets.map (·.1) ++ (s.yewCfg.map (·.1))).eraseDups

def State.refillCopy (s : State) (y : YewCopy) : YewCopy :=
  (s.bucketCodes y).foldl (fun y c =>
    { y with buckets := Sparse.set bucketFull y.buckets c (refill (s.codeCfg c) (Sparse.get bucketFull y.buckets c)) }) y

/-- BUCKET_REFILL: a whole millisecond of ring time. -/
def execBucketRefill (t : Time) (s : State) : Res :=
  let s := s.at t
  if s.now % msPs = 0 ∧ s.dev ≠ .off ∧ s.dev ≠ .reset then
    .next { s with yew := s.yew.map (fun y => s.refillCopy y) }
  else .next s

/-! The flush stream (R415, R416). -/

/-- A record's place in its half's ring. -/
abbrev Held := Half × Nat × YewRec

/-- The records a half's copy holds, with their slots. -/
def State.heldRecs (s : State) (h : Half) : List Held :=
  (s.copy h).slots.filterMap (fun p => p.2.map (fun r => (h, p.1, r)))

/-- Insert by RING_TIME, then half A before B, then SEQ. -/
def heldBefore (next : Half → Nat) (a b : Held) : Bool :=
  decide (a.2.2.time < b.2.2.time) ||
    (decide (a.2.2.time = b.2.2.time) &&
      (decide (a.1.ix.val < b.1.ix.val) ||
        (decide (a.1 = b.1) && decide (seqAge (next b.1) b.2.2.seq < seqAge (next a.1) a.2.2.seq))))

def insertHeld (next : Half → Nat) (x : Held) : List Held → List Held
  | [] => [x]
  | y :: ys => if heldBefore next x y then x :: y :: ys else y :: insertHeld next x ys

/-- The half whose copy the stream takes whole: the half in charge. -/
def State.streamHalf (s : State) : Half := s.inCharge.getD s.tokenHolder

/-- The stream: every record of the half in charge and the OWN records of the shadow, in order (R416). -/
def State.streamRecs (s : State) : List Held :=
  let h := s.streamHalf
  let own := if s.role h.other = .shadow then (s.heldRecs h.other).filter (fun r => decide (r.2.2.origin = .own)) else []
  (s.heldRecs h ++ own).foldl (fun l r => insertHeld (fun h => (s.copy h).seq) r l) []

/-- Already in a queued or running recorder operation. -/
def State.inFlight (s : State) (h : Half) (seq : Nat) : Bool :=
  let hit := fun (o : NorOp) => o.recs.any (fun p => decide (p = (h, seq)))
  s.nor.recQ.any hit || (match s.nor.cur with | some o => hit o | none => false)

/-- The unflushed records of the stream: neither retired nor on their way. -/
def State.unflushed (s : State) : List Held := s.streamRecs.filter (fun r => !r.2.2.retired && !s.inFlight r.1 r.2.2.seq)

/-- Eligible: 10 µs after RING_TIME. -/
def State.eligible (s : State) (r : Held) : Bool := decide (r.2.2.time + 10 * usPs ≤ s.now)

/-- Records of the stream that are not retired, as YEW_STAT counts them. -/
def State.unflushedCount (s : State) : Nat := (s.streamRecs.filter (fun r => !r.2.2.retired)).length

/-- The same SHARED or MIRROR record in another copy. -/
def twin (a b : YewRec) : Bool :=
  decide (a.origin ≠ .own ∧ b.origin ≠ .own) && decide (a.time = b.time ∧ a.code = b.code ∧ a.src = b.src)

/-- Change a record, and its twins in the other copy. -/
def State.markRec (s : State) (h : Half) (r : YewRec) (f : YewRec → YewRec) : State :=
  let upd := fun (p : YewRec → Bool) (y : YewCopy) =>
    { y with slots := y.slots.map (fun e => (e.1, e.2.map (fun q => if p q then f q else q))) }
  let s := s.modCopy h (upd (fun q => decide (q.seq = r.seq)))
  s.modCopy h.other (upd (fun q => twin r q))

/-- The record of a half with a SEQ. -/
def State.recBySeq (s : State) (h : Half) (seq : Nat) : Option YewRec :=
  ((s.heldRecs h).find? (fun r => decide (r.2.2.seq = seq))).map (·.2.2)

/-- A confirmed flush of records: they are retired, and FLUSH_RT follows the SHARED and MIRROR ones (R415, R418). -/
def State.confirm (s : State) (recs : List (Half × Nat)) : State :=
  recs.foldl (fun s p =>
    match s.recBySeq p.1 p.2 with
    | none => s
    | some r =>
      let s := s.markRec p.1 r (fun q => { q with retired := true })
      if r.origin = .own then s else s.modYewPort (fun y => { y with flushRt := max y.flushRt r.time })) s

/-- At a takeover the new holder skips the SHARED and MIRROR records of its own copy up to FLUSH_RT (R418). -/
def State.takeStream (s : State) (h : Half) : State :=
  s.modCopy h (fun y => { y with slots := y.slots.map (fun e => (e.1, e.2.map (fun r =>
    if r.origin ≠ .own ∧ r.time ≤ s.yewPort.flushRt then { r with retired := true } else r))) })

/-! The record's bytes (R409). -/

def YewRec.bytes (r : YewRec) : List Byte :=
  leBytes 4 r.seq ++ leBytes 8 (r.time / nsPs) ++ leBytes 2 r.code ++
    leBytes 2 (r.half.ix.val * 32768 + r.sev * 4096 + r.src % 4096) ++
    leBytes 4 (r.supp * 65536 + bitAt 3 r.pfail + bitAt 2 r.holder +
      (match r.origin with | .shared => 0 | .mirror => 1 | .own => 2)) ++
    leBytes 4 r.a0.toNat ++ leBytes 4 r.a1.toNat ++ leBytes 4 r.a2.toNat

/-! Zones of the log (R419 to R421). -/

/-- Bytes of the keep zone, and the base and number of sectors of a zone. -/
def State.keepBytes (s : State) : Nat := s.fld YEW.LOG_CFG.KEEP_KIB * 1024
def State.zoneBase (s : State) (roll : Bool) : Nat := s.dirNow.logBase + (if roll then s.keepBytes else 0)
def State.zoneSectors (s : State) (roll : Bool) : Nat :=
  (if roll then s.dirNow.logSize - s.keepBytes else s.keepBytes) / 4096
def State.sectorAddr (s : State) (roll : Bool) (i : Nat) : Nat := s.zoneBase roll + 4096 * i

def State.zone (s : State) (roll : Bool) : ZonePos := if roll then s.yewPort.roll else s.yewPort.keep
def State.setZone (s : State) (roll : Bool) (z : ZonePos) : State :=
  s.modYewPort (fun y => if roll then { y with roll := z } else { y with keep := z })

/-- A sector header. -/
def zoneHeader (roll : Bool) (sseq : Nat) : List Byte :=
  let h := leBytes 4 0x4C574559 ++ leBytes 4 sseq ++ [if roll then 1 else 0] ++ List.replicate 19 0
  h ++ leBytes 4 (crc32 h).toNat

/-- The SSEQ of a sector with a valid header of its zone. -/
def State.headerAt (s : State) (roll : Bool) (i : Nat) : Option Nat :=
  let h := s.readNor (s.sectorAddr roll i) 32
  if h = zoneHeader roll (leAt h 4 4) then some (leAt h 4 4) else none

/-- The bytes of a slot of a sector; none where it is empty. -/
def State.slotBytes (s : State) (roll : Bool) (i slot : Nat) : Option (List Byte) :=
  let d := s.readNor (s.sectorAddr roll i + 32 * slot) 32
  if d.all (fun b => b = 0xFF) then none else some d

/-- POS. -/
def posOf (sseq slot : Nat) : Nat := (sseq * 128 + slot) % 4294967296

/-- POS of the next slot of a zone. -/
def State.nextPos (s : State) (roll : Bool) : Nat :=
  let z := s.zone roll
  if z.slot ≤ 127 then posOf z.sseq z.slot else posOf (z.sseq + 1) 1

/-- The sector of a zone's next record: the current one, or the one after it; none where the keep zone is full. -/
def State.openSlot (s : State) (roll : Bool) : Option ZonePos :=
  let z := s.zone roll
  let n := s.zoneSectors roll
  if z.full then none
  else if z.slot ≤ 127 then some z
  else if roll ∨ z.sector + 1 < n then
    some { sector := (z.sector + 1) % (max 1 n), sseq := (z.sseq + 1) % 4294967296, slot := 1, opened := false, full := false }
  else none

/-- Write one record at the next slot of a zone: its program, its sector's header with the first record, and the erase of
the sector after it. -/
def State.placeRec (s : State) (roll : Bool) (z : ZonePos) (h : Half) (r : YewRec) : List NorOp × State :=
  let a := s.sectorAddr roll z.sector
  let n := s.zoneSectors roll
  let prog := fun (x : Nat) (d : List Byte) (rs : List (Half × Nat)) =>
    ({ kind := .program, addr := x, data := d, recorder := true, recs := rs } : NorOp)
  let mine := prog (a + 32 * z.slot) r.bytes [(h, r.seq)]
  let ops : List NorOp :=
    if z.opened then [mine]
    else
      let ers : NorOp := { kind := .erase4, addr := s.sectorAddr roll ((z.sector + 1) % (max 1 n)), data := [], recorder := true, recs := [] }
      prog a (zoneHeader roll z.sseq) [] :: mine :: (if roll ∨ z.sector + 1 < n then [ers] else [])
  (ops, s.setZone roll { z with slot := z.slot + 1, opened := true })

/-- The keep zone has just filled (R421). -/
def State.keepFull (s : State) : State :=
  if s.yewPort.keepFull then s
  else
    let s := s.modYewPort (fun y => { y with keepFull := true, keep := { y.keep with full := true } })
    (s.setEvt YEW.YEW_EVT.KEEP_FULL).recordOwn s.ownHalf Rec.LOG_KEEP_FULL pgYew (wd (s.nextPos false)) 0 0

/-- Place one record by its severity. -/
def State.logRec (s : State) (h : Half) (r : YewRec) : List NorOp × State :=
  if 6 ≤ r.sev then
    match s.openSlot false with
    | some z =>
      let (ops, s) := s.placeRec false z h r
      (ops, if (s.openSlot false).isNone then s.keepFull else s)
    | none =>
      match s.openSlot true with
      | some z => s.placeRec true z h r
      | none => ([], s)
  else
    match s.openSlot true with
    | some z => s.placeRec true z h r
    | none => ([], s)

/-- Join programs of neighbouring slots of one page into one page program. -/
def mergeOps : List NorOp → List NorOp
  | [] => []
  | o :: os =>
    match mergeOps os with
    | [] => [o]
    | p :: ps =>
      if o.kind = .program ∧ p.kind = .program ∧ o.addr + o.data.length = p.addr ∧ o.addr / 256 = (p.addr + p.data.length - 1) / 256 then
        { o with data := o.data ++ p.data, recs := o.recs ++ p.recs } :: ps
      else o :: p :: ps

/-- Place a list of records. -/
def State.logRecs (s : State) : List Held → List NorOp × State
  | [] => ([], s)
  | r :: rs =>
    let (a, s) := s.logRec r.1 r.2.2
    let (b, s) := State.logRecs s rs
    (a ++ b, s)

/-- Queue the programs of a flush. -/
def State.flushRecs (s : State) (rs : List Held) : State :=
  let (ops, s) := s.logRecs rs
  s.norRecOps (mergeOps ops)

/-- More than 128 unflushed records: an erase in progress is suspended, BACKLOG_HI and FLUSH_LATE (R417). -/
def State.backlog (s : State) : State :=
  let n := s.unflushedCount
  if 128 < n then
    let s := (s.modYewPort (fun y => { y with backlogHi := true })).norSuspend
    match s.firstInSec (recKey Rec.FLUSH_LATE 0) with
    | (true, s) => (s.setEvt YEW.YEW_EVT.FLUSH_LATE).recordOwn s.ownHalf Rec.FLUSH_LATE pgYew (wd n) 0 0
    | (false, s) => s
  else s.modYewPort (fun y => { y with backlogHi := false })

/-- YEW_FLUSH: the half in charge flushes when eight eligible records wait or the oldest has waited FLUSH_MS (R417). -/
def execYewFlush (t : Time) (s : State) : Res :=
  let s := s.at t
  let rs := s.unflushed.filter s.eligible
  let old := match rs with | r :: _ => decide (r.2.2.time + 10 * usPs + s.fld YEW.YEW_CFG.FLUSH_MS * msPs ≤ s.now) | [] => false
  if s.up ∧ s.drives ∧ s.yewPort.logOk ∧ s.pfail = false ∧ (8 ≤ rs.length ∨ old = true) then .next (s.flushRecs rs).backlog
  else .next s

/-! The live stream (R423). -/

/-- Post a record on Q10, or count it as skipped (R423). -/
def State.streamRec (s : State) (r : YewRec) : State :=
  let p := s.postItem 10 0 r.bytes
  if p.1 then p.2 else p.2.bumpReg YEW.STREAM_SKIP_CNT 1

/-- STREAM_POST: the next record of the stream becomes eligible. It is posted where its severity is high enough, or skipped;
without a log it is retired then. -/
def execStreamPost (t : Time) (s : State) : Res :=
  let s := s.at t
  match s.streamRecs.find? (fun r => !r.2.2.streamed && s.eligible r) with
  | none => .next s
  | some (h, _, r) =>
    if s.up ∧ s.drives then
      let s := s.markRec h r (fun q => { q with streamed := true })
      if s.flag YEW.YEW_CFG.STREAM_EN ∧ s.fld YEW.YEW_CFG.STREAM_MIN_SEV ≤ r.sev then
        let s := s.streamRec r
        .next (if s.yewPort.logOk then s else s.markRec h r (fun q => { q with retired := true }))
      else .next s
    else .next s

/-! BOOT and the directory (R420). -/

/-- Initialise a zone: its first two sectors erased, SSEQ from 1, record LOG_INIT. -/
def State.initZone (s : State) (roll : Bool) : State :=
  let s := (s.eraseNor (s.sectorAddr roll 0) 4096).eraseNor (s.sectorAddr roll 1) 4096
  let s := s.setZone roll { sector := 0, sseq := 1, slot := 1, opened := false, full := false }
  let s := if roll then s else s.modYewPort (fun y => { y with keepFull := false })
  s.recordOwn s.ownHalf Rec.LOG_INIT pgYew (wd (b2n roll)) (wd s.dirNow.logBase) (wd s.dirNow.logSize)

/-- The sector with a valid header and the latest SSEQ. -/
def State.currentSector (s : State) (roll : Bool) : Option (Nat × Nat) :=
  (List.range (s.zoneSectors roll)).foldl (fun best i =>
    match s.headerAt roll i, best with
    | some q, some (j, p) => if laterGen q p then some (i, q) else some (j, p)
    | some q, none => some (i, q)
    | none, b => b) none

/-- Find a zone's write pointer, or initialise the zone. -/
def State.findZone (s : State) (roll : Bool) : State :=
  match s.currentSector roll with
  | none => s.initZone roll
  | some (i, q) =>
    let slot := ((findIdxFrom (fun k => (s.slotBytes roll i k).isNone) 127 1)).getD 128
    let full := !roll && decide (127 < slot) && decide (s.zoneSectors false ≤ i + 1)
    let s := s.setZone roll { sector := i, sseq := q, slot := slot, opened := true, full := full }
    -- the sector after the current one is kept erased (R421), though a power failure may have cut its erase short
    let s := if roll ∨ i + 1 < s.zoneSectors roll then s.eraseNor (s.sectorAddr roll ((i + 1) % max 1 (s.zoneSectors roll))) 4096 else s
    if roll then s else s.modYewPort (fun y => { y with keepFull := full })

/-- BOOT: LOG_OK and the two zones, where a flash answers. -/
def State.bootLog (s : State) : State :=
  if s.nor.present then ((s.modYewPort (fun y => { y with logOk := true })).findZone false).findZone true
  else s.modYewPort (fun y => { y with logOk := false })

/-! The power-fail flush (R422). -/

/-- PFAIL_SET_CLOSE: 1 ms after the fall, at most 128 unflushed records make the set, which the port programs. -/
def execPfailSetClose (t : Time) (s : State) : Res :=
  let s := s.at t
  let y := s.yewPort
  if s.pfail ∧ y.pfailActive ∧ y.pfailClosed = false ∧ y.pfailAt + msPs ≤ s.now then
    let rs := (s.unflushed.filter (fun r => decide (r.2.2.time ≤ y.pfailAt + msPs))).take 128
    let s := s.modYewPort (fun y => { y with pfailClosed := true, pfailSet := rs.map (fun r => (r.1, r.2.2.seq)), pfailCount := rs.length })
    .next (if s.yewPort.logOk then s.flushRecs rs else s)
  else .next s

/-- PFAIL_DONE: the set is programmed. -/
def execPfailDone (t : Time) (s : State) : Res :=
  let s := s.at t
  let y := s.yewPort
  let idle := s.nor.recQ.isEmpty && (match s.nor.cur with | some o => !o.recorder | none => true)
  if y.pfailActive ∧ y.pfailClosed ∧ idle = true then
    let d := (s.now - y.pfailAt) / (msPs / 10)
    let s := s.modYewPort (fun y => { y with pfailActive := false, pfailDone := true, pfailMs01 := min 65535 d, pfailPending := true })
    .next (s.setReg YEW.PFAIL_TIME (wd (min 65535 d)))
  else .next s

/-- The recorder's part in the fall of PFAIL_N: the flush begins; an erase in progress is suspended and not resumed. -/
def State.pfailYew (s : State) : State :=
  let s := s.modYewPort (fun y => { y with pfailActive := true, pfailDone := false, pfailAt := s.now, pfailClosed := false, pfailSet := [] })
  match s.nor.cur with
  | some o => if o.isErase then (s.modNor (fun x => { x with cur := none })).norStart else s
  | none => s

/-! Views (R427). -/

def State.yewStat (s : State) : Nat :=
  let y := s.yewPort
  bitAt 31 y.logOk + bitAt 30 y.keepFull + bitAt 29 y.backlogHi + bitAt 28 y.pfailActive + bitAt 27 y.pfailDone +
    min 511 s.unflushedCount

end Sys2Proof.Machine
end

