-- ==== Sys2Proof/Machine/Commands.lean ====
section
/-! DEFINITION. The mailboxes and the resident commands: checks, short commands, the progress of a long command, the
completion of flash operations, and the answers (R391 to R398, R403, R424). -/
namespace Sys2Proof.Machine

def pgMbox : Nat := 0x005

def State.mb (s : State) (k : Nat) : Mailbox := s.mbox.get (Fin.ofNat 8 k)
def State.modMb (s : State) (k : Nat) (f : Mailbox → Mailbox) : State := { s with mbox := vmod s.mbox (Fin.ofNat 8 k) f }

/-- Set one bit of MB_EVT. -/
def State.mbEvt (s : State) (bit : Nat) : State := s.setEvt ⟨MBOX.MB_EVT, bit, bit⟩

/-! Mailboxes (R391 to R393). -/

/-- MK_TX: a word joins the transmit FIFO, or is ignored. -/
def State.mkTx (s : State) (k : Nat) (w : Word) : State :=
  if 6 ≤ k then s
  else if (s.mb k).txPend ∨ 16 ≤ (s.mb k).tx.length then s.bump ⟨MBOX.MB_BUSY_CNT, 15, 0⟩ 1
  else s.modMb k (fun m => { m with tx := m.tx ++ [w] })

def execMkTx (t : Time) (k : Fin 8) (w : Word) (s : State) : Res :=
  let s := s.at t
  if s.running then .next (s.mkTx k.val w) else .next s

/-- A message is discarded (R393). -/
def State.mbDiscard (s : State) (k : Nat) (noTarget : Bool) : State :=
  let tag := ((nth (0 : Word) (s.mb k).tx 1).toNat) / 65536
  let s := s.modMb k (fun m => { m with tx := [], txPend := false, discard := true, noTarget := noTarget })
  (s.mbEvt (8 + k)).record Rec.MB_DISCARD pgMbox (wd k) (wd k) (wd tag)

/-- The half that receives a mailbox's messages, by its number: 4 A, 5 B, else the half in charge (Table 14-6). -/
def State.mbHalf (s : State) (k : Nat) : Option Half :=
  if k = 4 then some .a else if k = 5 then some .b else if k < 4 then s.inCharge else none

/-- A half that is QUARANTINED, REJOIN or absent receives no message. -/
def State.noTarget (s : State) (k : Nat) : Bool :=
  match s.mbHalf k with
  | some h => decide (s.role h = .quarantined ∨ s.role h = .rejoin ∨ s.role h = .absent)
  | none => false

/-- DB: the words in the FIFO are one message. -/
def State.doorbell (s : State) (k : Nat) : State :=
  let m := s.mb k
  if 6 ≤ k ∨ m.tx.isEmpty ∨ m.txPend then s
  else
    let s := s.modMb k (fun m => { m with txPend := true, discard := false, noTarget := false })
    if s.noTarget k then s.mbDiscard k true else s

def execDb (t : Time) (k : Fin 8) (s : State) : Res :=
  let s := s.at t
  if s.running then .next (s.doorbell k.val) else .next s

/-- MAILBOX_REPLY: a half fills the receive FIFO once the host has read the last reply. -/
def execMailboxReply (t : Time) (k : Fin 8) (s : State) : Res :=
  let s := s.at t
  let m := s.mb k.val
  match m.replies with
  | [] => .next s
  | r :: rs =>
    if s.up ∧ m.rx.isEmpty then
      let s := s.modMb k.val (fun m => { m with rx := r, rxLen := r.length, rxReady := true, replies := rs })
      .next (s.mbEvt k.val)
    else .next s

/-- A read of Mk_RX: the word it returns. -/
def State.mkRx (s : State) (k : Nat) : Word × State :=
  match (s.mb k).rx with
  | [] => (0, if 6 ≤ k then s else s.bump ⟨MBOX.MB_BUSY_CNT, 31, 16⟩ 1)
  | w :: ws => (w, s.modMb k (fun m => { m with rx := ws, rxReady := !ws.isEmpty }))

def execMkRx (t : Time) (k : Fin 8) (s : State) : Res :=
  let s := s.at t
  if s.running then
    let (w, s) := s.mkRx k.val
    .next { s with lastRead := w }
  else .next s

/-- Mk_STAT. -/
def Mailbox.stat (m : Mailbox) : Nat :=
  bitAt 31 m.txPend + bitAt 30 m.rxReady + bitAt 29 m.discard + bitAt 28 m.noTarget + m.tx.length * 65536 +
    m.rxLen * 256 + m.rx.length

/-- A half's reply waits in the firmware, up to 8 per mailbox. -/
def State.reply (s : State) (k op status tag detail : Nat) (res : List Word) : State :=
  let r := wd (op * 16777216 + res.length * 1048576 + status * 256) :: wd (tag * 65536 + detail % 65536) :: res
  s.modMb k (fun m => if m.replies.length < 8 then { m with replies := m.replies ++ [r] } else m)

/-! The command set (Tables 14-7 and 14-8). -/

def rsOk : Nat := 0
def rsAccepted : Nat := 1
def rsBusy : Nat := 2
def rsStaleEpoch : Nat := 3
def rsBadCmd : Nat := 4
def rsBadArg : Nat := 5
def rsState : Nat := 6
def rsAuthFail : Nat := 7
def rsNorErr : Nat := 8
def rsNoPayload : Nat := 9
def rsAborted : Nat := 10
def rsProtected : Nat := 11

def opGetInfo : Nat := 0x01
def opEcho : Nat := 0x02
def opNorRead : Nat := 0x10
def opNorErase : Nat := 0x11
def opNorWrite : Nat := 0x12
def opNorCrc : Nat := 0x13
def opDirSet : Nat := 0x14
def opPatchStage : Nat := 0x20
def opPatchSelect : Nat := 0x21
def opCfgSave : Nat := 0x30
def opCfgClear : Nat := 0x31
def opLogRead : Nat := 0x40
def opAbort : Nat := 0x50
def opKeyRevoke : Nat := 0x60

/-- The arguments a command takes. -/
def opArgs (op : Nat) : Option Nat :=
  if op = opGetInfo ∨ op = opEcho ∨ op = opCfgSave ∨ op = opCfgClear then some 0
  else if op = opPatchSelect ∨ op = opAbort ∨ op = opKeyRevoke then some 1
  else if op = opNorRead ∨ op = opNorErase ∨ op = opNorCrc ∨ op = opPatchStage then some 2
  else if op = opNorWrite ∨ op = opDirSet ∨ op = opLogRead then some 3
  else none

/-- The commands that answer ACCEPTED. -/
def opLong (op : Nat) : Bool :=
  [opNorRead, opNorErase, opNorWrite, opNorCrc, opPatchStage, opCfgSave, opLogRead].contains op

/-- A command message (R394). -/
structure Cmd where
  k : Nat
  op : Nat
  tag : Nat
  epoch : Nat
  args : List Nat
  words : Nat
  narg : Nat
  deriving DecidableEq, Repr

def parseCmd (k : Nat) (ws : List Word) : Cmd :=
  let w0 := (nth (0 : Word) ws 0).toNat
  let w1 := (nth (0 : Word) ws 1).toNat
  { k := k, op := bf w0 31 24, tag := w1 / 65536, epoch := w0 % 65536, args := (ws.drop 2).map (·.toNat), words := ws.length,
    narg := bf w0 23 20 }

def Cmd.arg (c : Cmd) (i : Nat) : Nat := nth 0 c.args i

/-- Check 1 of Table 14-7; M4 and M5 know GET_INFO and ECHO only. -/
def Cmd.known (c : Cmd) : Bool :=
  decide (c.words = c.narg + 2) && (opArgs c.op).isSome && (decide (c.k < 4) || decide (c.op = opGetInfo ∨ c.op = opEcho))

/-- Check 3: the device states a command allows. -/
def State.cmdState (s : State) (c : Cmd) : Bool :=
  let quiet := decide (s.dev ≠ .armed ∧ s.dev ≠ .run)
  decide (s.dev ≠ .boot) &&
  (if c.op = opDirSet ∨ c.op = opKeyRevoke then decide (s.dev = .primrose)
   else if c.op = opCfgSave then decide (s.dev = .idle)
   else if c.op = opCfgClear then decide (s.dev = .primrose ∨ s.dev = .idle)
   else if c.op = opGetInfo ∨ c.op = opEcho ∨ c.op = opNorCrc ∨ c.op = opAbort then true
   else if c.op = opLogRead then quiet || !(c.arg 0).testBit 31
   else quiet)

/-- The records of the volatile copy that LOG_READ names, from the oldest. -/
def State.volatileRecs (s : State) (h : Half) : List YewRec :=
  let y := s.copy h
  let rs := (s.heldRecs h).map (·.2.2)
  rs.foldl (fun l r =>
    let younger := l.dropWhile (fun q => decide (seqAge y.seq r.seq < seqAge y.seq q.seq))
    let older := l.takeWhile (fun q => decide (seqAge y.seq r.seq < seqAge y.seq q.seq))
    older ++ r :: younger) []

/-- The sector of a zone that holds an SSEQ. -/
def State.norSectorOf (s : State) (roll : Bool) (sseq : Nat) : Option Nat :=
  let z := s.zone roll
  let n := s.zoneSectors roll
  let back := (z.sseq + 33554432 - sseq % 33554432) % 33554432
  if n ≤ back then none
  else
    let i := (z.sector + n - back) % n
    match s.headerAt roll i with
    | some q => if q % 33554432 = sseq % 33554432 then some i else none
    | none => none

/-- The record bytes at a POS of a zone. -/
def State.zoneRec (s : State) (roll : Bool) (pos : Nat) : Option (List Byte) :=
  let slot := pos % 128
  if slot = 0 then none
  else match s.norSectorOf roll (pos / 128) with
    | some i => s.slotBytes roll i slot
    | none => none

/-- The oldest POS a zone holds: the first record of its oldest sector with a header. -/
def State.oldestPos (s : State) (roll : Bool) : Nat :=
  let z := s.zone roll
  let n := s.zoneSectors roll
  let m := 33554432
  let back := (findIdxFrom (fun k => (s.norSectorOf roll ((z.sseq + m - (n - k) % m) % m)).isSome) n 1).getD n
  posOf ((z.sseq + m - (n - back) % m) % m) 1

/-- LOG_READ's START: the POS or SEQ that the command begins at, none where it names no record held. -/
def State.logStart (s : State) (c : Cmd) : Option Nat :=
  let src := bf (c.arg 0) 1 0
  let st := c.arg 1
  if src < 2 then
    let roll := decide (src = 1)
    if st = 0xFFFFFFFF then some (s.oldestPos roll)
    else if (s.zoneRec roll st).isSome then some st else none
  else
    let rs := s.volatileRecs (if src = 2 then .a else .b)
    if st = 0xFFFFFFFF then some ((rs.head?.map (·.seq)).getD (s.copy (if src = 2 then .a else .b)).seq)
    else if rs.any (fun r => decide (r.seq = st)) then some st else none

/-- Check 4: the index of the first argument out of range. -/
def State.badArg (s : State) (c : Cmd) : Option Nat :=
  let need := (opArgs c.op).getD 0
  let a := c.arg 0
  let n := c.arg 1
  let range := fun (a n : Nat) => decide (a + n ≤ s.norSize)
  if c.narg < need then some c.narg
  else if c.op = opNorRead then
    if !range a 1 then some 0 else if n = 0 ∨ 1048576 < n ∨ range a n = false then some 1 else none
  else if c.op = opNorErase then
    if a % 4096 ≠ 0 ∨ range a 1 = false then some 0 else if n = 0 ∨ n % 4096 ≠ 0 ∨ range a n = false then some 1 else none
  else if c.op = opNorWrite then
    if !range a 1 then some 0 else if n = 0 ∨ range a n = false then some 1 else if 65536 ≤ c.arg 2 then some 2 else none
  else if c.op = opNorCrc then
    if !range a 1 then some 0 else if n = 0 ∨ range a n = false then some 1 else none
  else if c.op = opDirSet then
    let div := bf a 27 24
    let rc := bf a 15 8
    let pc := bf a 7 0
    let size := c.arg 2
    if div = 0 ∨ div = 15 ∨ (rc ≠ 0x03 ∧ rc ≠ 0xEB) ∨ (pc ≠ 0x02 ∧ pc ≠ 0x32) then some 0
    else
      let lim := if a.testBit 31 then 4294967296 else 16777216
      if n % 65536 ≠ 0 ∨ lim ≤ n then some 1 else if size = 0 ∨ size % 65536 ≠ 0 ∨ lim < n + size then some 2 else none
  else if c.op = opPatchStage then
    if 65536 ≤ a then some 0 else if n = 0 ∨ 1048576 < n then some 1 else none
  else if c.op = opLogRead then
    let src := bf a 1 0
    if (a.testBit 31 ∧ src ≠ 0) ∨ (src = 3 ∧ memberHalves s.member = 1) then some 0
    else if (s.logStart c).isNone then some 1
    else if c.arg 2 = 0 ∨ 1048576 < c.arg 2 then some 2 else none
  else if c.op = opAbort then
    match s.nor.long with
    | some l => if l.tag = a % 65536 then none else some 0
    | none => some 0
  else if c.op = opKeyRevoke then (if 4 ≤ a then some 0 else none)
  else none

/-- Check 5: the argument whose range touches a protected region (R399). -/
def State.protArg (s : State) (c : Cmd) : Option Nat :=
  if (c.op = opNorErase ∨ c.op = opNorWrite) ∧ s.protected_ (c.arg 0) (c.arg 1) then some 0 else none

/-- The checks of Table 14-7 after the first: STATUS and DETAIL of the first that fails. -/
def State.cmdCheck (s : State) (c : Cmd) : Option (Nat × Nat) :=
  if !c.known then some (rsBadCmd, c.words)
  else if c.k < 4 ∧ c.epoch ≠ s.tokenEpoch.toNat then some (rsStaleEpoch, s.tokenEpoch.toNat)
  else if !s.cmdState c then some (rsState, s.dev.code)
  else
    match s.badArg c with
    | some i => some (rsBadArg, i)
    | none =>
      match s.protArg c with
      | some i => some (rsProtected, i)
      | none =>
        if opLong c.op then
          match s.nor.long with
          | some l => some (rsBusy, l.tag)
          | none => none
        else none

/-! The image of CFG_SAVE (R398, R433). -/

/-- A register of a page that has an RWL field. -/
def hasRwl (k : PageKind) (o : Nat) : Bool :=
  match findReg k o with
  | some d => decide (d.rwl ≠ 0)
  | none => false

/-- The configuration offsets, 0x100 to 0x7FF. -/
def cfgOffsets : List Nat := (List.range 448).map (fun i => 0x100 + 4 * i)

/-- Runs of at most 64 words, counted from the first word of each run. -/
def splitRuns : List (Nat × Nat) → Nat → List Nat → List (Nat × Nat)
  | acc, _, [] => acc.reverse
  | (a, n) :: acc, last, o :: os =>
    if o = last + 4 ∧ n < 64 then splitRuns ((a, n + 1) :: acc) o os else splitRuns ((o, 1) :: (a, n) :: acc) o os
  | [], _, o :: os => splitRuns [(o, 1)] o os

/-- The Q3 records of one page. -/
def State.pageRecords (s : State) (p : Nat) : List Byte :=
  match pageOf s.member p with
  | none => []
  | some (k, _) =>
    (splitRuns [] 0 (cfgOffsets.filter (hasRwl k))).flatMap (fun r =>
      leBytes 4 ((p * 4096 + r.1) / 4 * 1024 + (r.2 - 1)) ++
        (List.range r.2).flatMap (fun i => leBytes 4 (s.reg (p * 4096 + r.1 + 4 * i)).toNat))

/-- The configuration image. -/
def State.cfgImage (s : State) : List Byte :=
  let body := (presentPages s.member).flatMap s.pageRecords
  let h := leBytes 4 0x47464352 ++ leBytes 2 1 ++ leBytes 2 (memberCode s.member) ++ leBytes 4 (s.reg NOR.ROM_ID).toNat ++
    leBytes 4 body.length ++ leBytes 4 (s.reg SYS.SEAL_CRC_CALC).toNat ++ List.replicate 36 0 ++ leBytes 4 (crc32 body).toNat
  h ++ leBytes 4 (crc32 h).toNat ++ body

/-! A long command's progress (R396, R397, R403, R424). -/

/-- PG_PROG_PCT and PG_PROG_POS of the NOR page. -/
def State.norProg (s : State) (pct pos : Nat) : State :=
  (s.setReg (hdr pgNor HDR.PG_PROG_PCT) (wd (min 10000 pct))).setReg (hdr pgNor HDR.PG_PROG_POS) (wd pos)

def State.setLong (s : State) (c : LongCmd) : State := s.modNor (fun x => { x with long := some c })

/-- The command ends with a status, a detail and results. -/
def LongCmd.ends (c : LongCmd) (status detail : Nat) (res : List Word) : LongCmd := { c with final := some (status, detail, res) }

def LongCmd.arg (c : LongCmd) (i : Nat) : Nat := nth 0 c.args i

/-- Drop the segment at the head of Q4 that the command has taken; the last one of the item completes it. -/
def State.takeSeg (s : State) (g : Seg) : State :=
  if g.last then s.retire 4 1 stOk 0
  else
    let free := 256 - (s.q 4).desc
    (s.modQ 4 (fun u => { u with segs := u.segs.drop 1 })).thrCross 4 free (free + 1)

/-- What the payload on Q4 offers: the next segment, or that it is not the command's. -/
inductive Payload where
  | wait
  | seg (g : Seg)
  | bad
  deriving DecidableEq, Repr

/-- R397: the head item has TAG = PTAG and LEN bytes in all. -/
def State.payload (s : State) (c : LongCmd) (ptag len : Nat) : Payload :=
  let u := s.q 4
  match u.segs with
  | [] => .wait
  | g :: _ =>
    if c.got = 0 ∧ g.tag.toNat ≠ ptag then .bad
    else
      let total := c.got + (match splitItem u.segs with | some (i, _) => (itemData i).length | none => (itemData u.segs).length)
      let whole := (splitItem u.segs).isSome
      if len < total ∨ (whole ∧ total ≠ len) then .bad else .seg g

/-- Take the next segment into the command's buffer; the command ends with NO_PAYLOAD where the item is not its own. -/
def State.takePayload (s : State) (c : LongCmd) (ptag len : Nat) : Option State :=
  match s.payload c ptag len with
  | .wait => none
  | .bad => some (s.setLong (c.ends rsNoPayload 0 []))
  | .seg g =>
    let c := { c with buf := c.buf ++ g.data, got := c.got + g.data.length, lastSeg := s.now, lastSeq := g.seq, lastTag := g.tag }
    some ((s.setLong c).takeSeg g)

/-- Program the next page of the command's buffer at `a`. -/
def State.progPage (s : State) (c : LongCmd) (a : Nat) : State :=
  let n := min (256 - a % 256) c.buf.length
  (s.setLong { c with buf := c.buf.drop n }).norCmdOp
    { kind := .program, addr := a, data := c.buf.take n, recorder := false, recs := [] }

/-- Erase the next block of [a, a + n) of which `done` bytes are erased. -/
def State.eraseNext (s : State) (a n done : Nat) : State :=
  let x := a + done
  let k := if x % 65536 = 0 ∧ 65536 ≤ n - done then NorKind.erase64 else NorKind.erase4
  s.norCmdOp { kind := k, addr := x, data := [], recorder := false, recs := [] }

/-- LOG_READ over a zone: examine from `pos` until Q10 has no credit, COUNT is reached or the newest record is passed.
Answers whether it ended. -/
def State.logZone : Nat → State → LongCmd → Bool → Bool × LongCmd × State
  | 0, s, c, _ => (true, c, s)
  | n + 1, s, c, roll =>
    if c.pos = s.nextPos roll then (true, c, s)
    else
      let nextp := if c.pos % 128 = 127 then posOf (c.pos / 128 + 1) 1 else c.pos + 1
      match s.zoneRec roll c.pos with
      | none => (true, c, s)
      | some d =>
        let c' := { c with done := c.done + 1, pos := nextp }
        if bf (leAt d 0x0E 2) 14 12 < bf (c.arg 0) 18 16 then State.logZone n s c' roll
        else
          match s.postItem 10 (BitVec.ofNat 16 c.tag) d with
          | (true, s) => State.logZone n s { c' with posted := c.posted + 1 } roll
          | (false, s) => (false, c, s)

/-- LOG_READ over a volatile copy. -/
def State.logVol : State → LongCmd → Nat → List YewRec → Bool × LongCmd × State
  | s, c, _, [] => (true, c, s)
  | s, c, next, r :: rs =>
    if c.arg 2 ≤ c.done then (true, c, s)
    else
      let c' := { c with done := c.done + 1, pos := (match rs with | q :: _ => q.seq | [] => next) }
      if r.sev < bf (c.arg 0) 18 16 then State.logVol s c' next rs
      else
        match s.postItem 10 (BitVec.ofNat 16 c.tag) r.bytes with
        | (true, s) => State.logVol s { c' with posted := c.posted + 1 } next rs
        | (false, s) => (false, c, s)

/-- One step of LOG_READ. -/
def State.logStep (s : State) (c : LongCmd) : Option State :=
  let src := bf (c.arg 0) 1 0
  let count := c.arg 2
  if c.stage = 0 then
    let (fin, c', s) : Bool × LongCmd × State :=
      if src < 2 then State.logZone (count - c.done) s c (decide (src = 1))
      else
        let h : Half := if src = 2 then .a else .b
        let rs := (s.volatileRecs h).dropWhile (fun r => decide (seqAge (s.copy h).seq c.pos < seqAge (s.copy h).seq r.seq))
        s.logVol c (s.copy h).seq rs
    let s := s.norProg (10000 * c'.done / max 1 count) c'.pos
    if fin then
      if (c.arg 0).testBit 31 then some (s.setLong { c' with stage := 1 })
      else some (s.setLong (c'.ends rsOk 0 [wd c'.posted, wd c'.pos]))
    else if c'.done = c.done then none
    else some (s.setLong c')
  else if s.keepBytes ≤ c.done2 then
    let s := s.setZone false { sector := 0, sseq := 1, slot := 1, opened := false, full := false }
    let s := s.modYewPort (fun y => { y with keepFull := false })
    some (s.setLong (c.ends rsOk 0 [wd c.posted, wd c.pos]))
  else some (s.eraseNext (s.zoneBase false) s.keepBytes c.done2)

/-- One step of PATCH_STAGE (R403). -/
def State.stageStep (s : State) (c : LongCmd) : Option State :=
  let ptag := c.arg 0
  let len := c.arg 1
  let slot := 1 - s.patchSlot
  let a := patchSlotAddr slot
  let blocks := cdiv len 65536 * 65536
  let pct := 10000 * (min c.done len + c.done2 + c.done3) / (3 * len)
  if c.stage = 0 then
    if 128 ≤ c.buf.length ∨ (len ≤ c.got ∧ 0 < c.got) then
      let k := s.patchHead c.buf
      some (if k = 0 then s.setLong { c with stage := 1 } else s.setLong (c.ends rsAuthFail k []))
    else s.takePayload c ptag len
  else if c.stage = 1 then
    let s := s.norProg pct (a + c.done)
    if blocks ≤ c.done then some (s.setLong { c with stage := 2 }) else some (s.eraseNext a blocks c.done)
  else if c.stage = 2 then
    let s := s.norProg pct (a + c.done2)
    if len ≤ c.done2 then some (s.setLong { c with stage := 3, done3 := len })
    else if c.buf.isEmpty then s.takePayload c ptag len
    else some (s.progPage c (a + c.done2))
  else
    let s := s.norProg pct (a + c.done3)
    let k := s.patchCheck slot
    some (s.setLong (if k = 0 then c.ends rsOk 0 [wd (leAt (s.readNor a 128) 0x0C 4)] else c.ends rsAuthFail k []))

/-- NOR_READ: the next 4,096 bytes go to Q11. -/
def State.readStep (s : State) (c : LongCmd) : Option State :=
  let a := c.arg 0
  let n := c.arg 1
  if n ≤ c.done then some (s.setLong (c.ends rsOk 0 []))
  else
    let m := min 4096 (n - c.done)
    let r := s.postItem 11 (BitVec.ofNat 16 c.tag) (s.readNor (a + c.done) m)
    if r.1 then some ((r.2.setLong { c with done := c.done + m }).norProg (10000 * (c.done + m) / n) (a + c.done + m)) else none

/-- NOR_ERASE: the next sector or block. -/
def State.eraseStep (s : State) (c : LongCmd) : Option State :=
  let a := c.arg 0
  let n := c.arg 1
  let s := s.norProg (10000 * c.done / n) (a + c.done)
  if n ≤ c.done then some (s.setLong (c.ends rsOk 0 [])) else some (s.eraseNext a n c.done)

/-- NOR_WRITE: the next payload segment or page. -/
def State.writeStep (s : State) (c : LongCmd) : Option State :=
  let a := c.arg 0
  let n := c.arg 1
  let s := s.norProg (10000 * c.done / n) (a + c.done)
  if n ≤ c.done then some (s.setLong (c.ends rsOk 0 []))
  else if c.buf.isEmpty then s.takePayload c (c.arg 2) n
  else some (s.progPage c (a + c.done))

/-- CFG_SAVE: the image, the erase of the inactive slot, its pages, and the directory that makes it active (R396). -/
def State.cfgStep (s : State) (c : LongCmd) : Option State :=
  let slot := 1 - s.cfgSlot
  let base := cfgSlotAddr slot
  let total := c.got
  if c.stage = 0 then
    let img := s.cfgImage
    some (s.setLong { c with stage := 1, buf := img, got := img.length, args := [(crc32 img).toNat] })
  else if c.stage = 1 then
    if 65536 ≤ c.done2 then some (s.setLong { c with stage := 2 }) else some (s.eraseNext base 65536 c.done2)
  else
    let s := s.norProg (10000 * c.done / max 1 total) (base + c.done)
    if total ≤ c.done then
      let d := s.dirNow
      let s := s.writeDir { d with slots := setBf (setBf d.slots 8 8 slot) 9 9 1 }
      some (s.setLong (c.ends rsOk 0 [wd total, wd (c.arg 0)]))
    else some (s.progPage c (base + c.done))

/-- One step of a long command that has no flash operation under way; none where it must wait. -/
def State.longStep (s : State) (c : LongCmd) : Option State :=
  if c.final.isSome ∨ s.cmdOpBusy then none
  else if c.aborting then some (s.setLong (c.ends rsAborted 0 []))
  else if s.nor.present = false ∧ ¬(c.op = opLogRead ∧ 2 ≤ bf (c.arg 0) 1 0) then some (s.setLong (c.ends rsNorErr 0 []))
  else if c.op = opNorRead then s.readStep c
  else if c.op = opNorErase then s.eraseStep c
  else if c.op = opNorWrite then s.writeStep c
  else if c.op = opNorCrc then
    let a := c.arg 0
    let n := c.arg 1
    some ((s.setLong (c.ends rsOk 0 [crc32 (s.readNor a n)])).norProg 10000 (a + n))
  else if c.op = opPatchStage then s.stageStep c
  else if c.op = opCfgSave then s.cfgStep c
  else s.logStep c

/-- Carry the active long command as far as it goes without waiting. -/
def State.pumpLong : Nat → State → State
  | 0, s => s
  | n + 1, s =>
    match s.nor.long with
    | none => s
    | some c =>
      match s.longStep c with
      | none => s
      | some s => State.pumpLong n s

def State.pump (s : State) : State := s.pumpLong 600

/-- A completed operation of the active command counts as progress. -/
def State.longDone (s : State) (o : NorOp) : State :=
  match s.nor.long with
  | none => s
  | some c =>
    s.setLong
      (if c.op = opPatchStage ∧ c.stage = 2 then { c with done2 := c.done2 + o.size }
       else if c.op = opCfgSave ∧ c.stage = 1 then { c with done2 := c.done2 + o.size }
       else if c.op = opLogRead then { c with done2 := c.done2 + o.size }
       else { c with done := c.done + o.size })

/-- NOR_OP_DONE: the operation in progress completes; the next starts (R400, R404). -/
def execNorOpDone (t : Time) (s : State) : Res :=
  let s := s.at t
  match s.nor.cur with
  | none => .next s
  | some o =>
    let s := s.norEffect o
    let s := s.modNor (fun x => { x with cur := none })
    let s := if o.recorder then (s.confirm o.recs).backlog else s.longDone o
    .next s.norStart.pump

/-- NOR_TIMEOUT: OP_TMO_MS has passed without the operation's end. -/
def execNorTimeout (t : Time) (s : State) : Res :=
  let s := s.at t
  match s.nor.cur with
  | none => .next s
  | some o =>
    if s.nor.curSince + s.fld NOR.NOR_CFG.OP_TMO_MS * msPs ≤ s.now then
      let s := s.modNor (fun x => { x with cur := none })
      let s := (s.bump ⟨NOR.ERR_CNT, 31, 16⟩ 1).setEvt NOR.NOR_EVT.TIMEOUT
      let s : State :=
        match o.recorder, s.nor.long with
        | false, some c => (s.norErr c.mailbox o.addr c.tag).setLong (c.ends rsNorErr 0 [])
        | _, _ => s.norErr 0 o.addr 0
      .next s.norStart.pump
    else .next s

/-! Ends of long commands. -/

/-- CMD_STAT. -/
def State.cmdStat (s : State) (op status tag : Nat) : State := s.setReg NOR.CMD_STAT (wd (op * 16777216 + status * 65536 + tag))

/-- The final response of the active command. -/
def State.finish (s : State) (c : LongCmd) (status detail : Nat) (res : List Word) : State :=
  let s := (s.reply c.mailbox c.op status c.tag detail res).cmdStat c.op status c.tag
  let s := s.modNor (fun x => { x with
    long := none, cmdQ := [], accepted := x.accepted.filter (fun a => decide (a ≠ (c.mailbox, c.op, c.tag))) })
  let s := s.setEvt NOR.NOR_EVT.CMD_DONE
  let s : State :=
    if status = rsAuthFail then
      (s.setEvt NOR.NOR_EVT.AUTH_FAIL).record Rec.PATCH_AUTH_FAIL pgNor (wd c.mailbox) (wd detail) (wd c.tag)
    else if status = rsAborted then s.record Rec.CMD_ABORTED pgNor (wd c.mailbox) (wd c.op) (wd c.tag)
    else s
  if status = rsOk ∧ c.op = opPatchStage then
    s.record Rec.PATCH_STAGED pgNor (wd c.mailbox) (nth 0 res 0) (wd c.tag)
  else s

/-- LONG_COMMAND_END: the active command has reached its end, and answers (R396). -/
def execLongCommandEnd (t : Time) (s : State) : Res :=
  let s := (s.at t).pump
  match s.nor.long with
  | some c =>
    match c.final with
    | some (st, d, r) => .next (s.finish c st d r)
    | none => .next s
  | none => .next s

/-- Abort the active command: with a boundary of its own still to come, it stops there. -/
def State.abortLong (s : State) (c : LongCmd) : State := (s.setLong { c with aborting := true }).pump

/-- PAYLOAD_TIMEOUT: 1 s without a new payload segment; the partial item is retired BAD_ITEM (R397). -/
def execPayloadTimeout (t : Time) (s : State) : Res :=
  let s := s.at t
  match s.nor.long with
  | some c =>
    let wants := decide (c.op = opNorWrite ∨ c.op = opPatchStage) && c.buf.isEmpty ||
      decide (c.op = opPatchStage ∧ c.stage = 0)
    let len := c.arg 1
    if wants = true ∧ c.final.isNone ∧ c.got < len ∧ s.cmdOpBusy = false ∧ c.lastSeg + secPs ≤ s.now then
      let u := s.q 4
      let rest := u.segs.takeWhile (fun g => !g.first)
      let s : State :=
        if c.got = 0 then s
        else if rest.isEmpty then
          (s.modQ 4 (fun u => { u with open_ := if u.segs.isEmpty then false else u.open_ })).complete 4 stBadItem c.lastSeq c.lastTag 0
        else
          let s := s.retire 4 rest.length stBadItem 0
          if rest.any (·.last) then s else s.modQ 4 (fun u => { u with open_ := if u.segs.isEmpty then false else u.open_ })
      .next (s.setLong (c.ends rsNoPayload 0 []))
    else .next s
  | none => .next s

/-! Taking and executing commands. -/

/-- MAILBOX_TAKEN: the receiving half has taken the message; one that fails check 1 is answered at once. -/
def execMailboxTaken (t : Time) (k : Fin 8) (s : State) : Res :=
  let s := s.at t
  let m := s.mb k.val
  match s.mbHalf k.val with
  | none => .next s
  | some h =>
    if s.up ∧ m.txPend ∧ m.inbox.isNone ∧ s.runs h then
      let c := parseCmd k.val m.tx
      let s := s.modMb k.val (fun m => { m with tx := [], txPend := false, inbox := some m.tx })
      let s := s.mbEvt (8 + k.val)
      if c.known then
        .next (s.modNor (fun x => { x with accepted := (x.accepted ++ [(k.val, c.op, c.tag)]).take 8 }))
      else
        .next ((s.modMb k.val (fun m => { m with inbox := none })).reply k.val c.op rsBadCmd c.tag c.words [])
    else .next s

/-- The command that waits in a mailbox, if it is `op`; the mailbox is then free. -/
def State.takeCmd (s : State) (k op : Nat) : Option (Cmd × State) :=
  match (s.mb k).inbox with
  | none => none
  | some ws =>
    let c := parseCmd k ws
    if c.op = op then some (c, s.modMb k (fun m => { m with inbox := none })) else none

/-- A command leaves the port's table. -/
def State.dropAccepted (s : State) (c : Cmd) : State :=
  s.modNor (fun x => { x with accepted := x.accepted.filter (fun a => decide (a ≠ (c.k, c.op, c.tag))) })

/-- Run a short command: the checks, then its effect, which answers OK or another status. -/
def State.shortCmd (s : State) (k op : Nat) (f : State → Cmd → (Nat × Nat × List Word) × State) : State :=
  match s.takeCmd k op with
  | none => s
  | some (c, s) =>
    let s := s.dropAccepted c
    match s.cmdCheck c with
    | some (st, d) => s.reply k c.op st c.tag d []
    | none =>
      let ((st, d, r), s) := f s c
      s.reply k c.op st c.tag d r

/-- A long command that passed its checks: ACCEPTED, its progress, and its first steps (R396). -/
def State.startLong (s : State) (k : Nat) (c : Cmd) : State :=
  let pos := if c.op = opLogRead then (s.logStart c).getD 0
    else if c.op = opNorRead ∨ c.op = opNorErase ∨ c.op = opNorWrite ∨ c.op = opNorCrc then c.arg 0 else 0
  let s := (s.reply k c.op rsAccepted c.tag 0 []).cmdStat c.op rsAccepted c.tag
  let s := (s.norProg 0 pos).setLong
    { op := c.op, tag := c.tag, mailbox := k, args := c.args, done := 0, done2 := 0, done3 := 0, stage := 0, pos := pos,
      posted := 0, buf := [], got := 0, lastSeq := 0, lastTag := 0, aborting := false, final := none, lastSeg := s.now }
  s.pump

/-- Start a long command: ACCEPTED, then its progress (R396). -/
def State.longCmd (s : State) (k op : Nat) : State :=
  match s.takeCmd k op with
  | none => s
  | some (c, s) =>
    match s.cmdCheck c with
    | some (st, d) => (s.dropAccepted c).reply k c.op st c.tag d []
    | none =>
      s.startLong k c

/-- Whether the half of a mailbox can execute. -/
def State.cmdReady (s : State) (k : Nat) : Bool :=
  s.up && (match s.mbHalf k with | some h => s.runs h | none => false)

def execGetInfo (t : Time) (k : Fin 8) (s : State) : Res :=
  let s := s.at t
  if s.cmdReady k.val then
    .next (s.shortCmd k.val opGetInfo (fun s _ =>
      ((rsOk, 0, [s.reg NOR.ROM_ID, wd s.nor.patchVer,
        wd (memberCode s.member * 268435456 + s.ring.nodeId.toNat * 65536 + b2n s.patchOk), wd s.nor.jedec]), s)))
  else .next s

def execEcho (t : Time) (k : Fin 8) (s : State) : Res :=
  let s := s.at t
  if s.cmdReady k.val then .next (s.shortCmd k.val opEcho (fun s c => ((rsOk, 0, c.args.map wd), s))) else .next s

def execNorRead (t : Time) (k : Fin 8) (s : State) : Res :=
  let s := s.at t
  if s.cmdReady k.val then .next (s.longCmd k.val opNorRead) else .next s

def execNorErase (t : Time) (k : Fin 8) (s : State) : Res :=
  let s := s.at t
  if s.cmdReady k.val then .next (s.longCmd k.val opNorErase) else .next s

def execNorWrite (t : Time) (k : Fin 8) (s : State) : Res :=
  let s := s.at t
  if s.cmdReady k.val then .next (s.longCmd k.val opNorWrite) else .next s

def execNorCrc (t : Time) (k : Fin 8) (s : State) : Res :=
  let s := s.at t
  if s.cmdReady k.val then .next (s.longCmd k.val opNorCrc) else .next s

/-- The effect of DIR_SET once its checks have passed. -/
def State.doDirSet (s : State) (c : Cmd) : (Nat × Nat × List Word) × State :=
  if s.nor.present = false then ((rsNorErr, 0, []), s)
  else
    let d := s.dirNow
    let moved := decide (d.logBase ≠ c.arg 1 ∨ d.logSize ≠ c.arg 2)
    let s := s.writeDir { d with norMode := c.arg 0, logBase := c.arg 1, logSize := c.arg 2 }
    ((rsOk, 0, []), if moved then (s.initZone false).initZone true else s)

/-- DIR_SET: a new directory; a log region that changes is initialised again (R420). -/
def execDirSet (t : Time) (k : Fin 8) (s : State) : Res :=
  let s := s.at t
  if s.cmdReady k.val then
    .next (s.shortCmd k.val opDirSet State.doDirSet)
  else .next s

def execPatchStage (t : Time) (k : Fin 8) (s : State) : Res :=
  let s := s.at t
  if s.cmdReady k.val then .next (s.longCmd k.val opPatchStage) else .next s

/-- The effect of PATCH_SELECT once its checks have passed. -/
def State.doPatchSelect (s : State) (c : Cmd) : (Nat × Nat × List Word) × State :=
  let slot := (c.arg 0) % 2
  if s.nor.present = false then ((rsNorErr, 0, []), s)
  else
    let n := s.patchCheck slot
    if n ≠ 0 then
      ((rsAuthFail, n, []), (s.setEvt NOR.NOR_EVT.AUTH_FAIL).record Rec.PATCH_AUTH_FAIL pgNor (wd c.k) (wd n) (wd c.tag))
    else
      let d := s.dirNow
      let s := s.writeDir { d with slots := setBf (setBf d.slots 0 0 slot) 1 1 1 }
      let ver := leAt (s.readNor (patchSlotAddr slot) 128) 0x0C 4
      if (c.arg 0).testBit 8 then
        ((rsOk, 0, []), (s.modNor (fun x => { x with patchMin := ver })).record Rec.KEY_REVOKE pgNor (wd c.k) (wd ver) (wd c.tag))
      else ((rsOk, 0, []), s)

/-- PATCH_SELECT: the image authenticates, the directory names its slot, and RAISE_MIN fuses PATCH_MIN (R398). -/
def execPatchSelect (t : Time) (k : Fin 8) (s : State) : Res :=
  let s := s.at t
  if s.cmdReady k.val then
    .next (s.shortCmd k.val opPatchSelect State.doPatchSelect)
  else .next s

def execCfgSave (t : Time) (k : Fin 8) (s : State) : Res :=
  let s := s.at t
  if s.cmdReady k.val then .next (s.longCmd k.val opCfgSave) else .next s

/-- The effect of CFG_CLEAR once its checks have passed. -/
def State.doCfgClear (s : State) (_c : Cmd) : (Nat × Nat × List Word) × State :=
  if s.nor.present = false then ((rsNorErr, 0, []), s)
  else
    let d := s.dirNow
    ((rsOk, 0, []), s.writeDir { d with slots := setBf d.slots 9 9 0 })

/-- CFG_CLEAR: the directory names no configuration. -/
def execCfgClear (t : Time) (k : Fin 8) (s : State) : Res :=
  let s := s.at t
  if s.cmdReady k.val then
    .next (s.shortCmd k.val opCfgClear State.doCfgClear)
  else .next s

def execLogRead (t : Time) (k : Fin 8) (s : State) : Res :=
  let s := s.at t
  if s.cmdReady k.val then .next (s.longCmd k.val opLogRead) else .next s

/-- The effect of ABORT once its checks have passed. -/
def State.doAbort (s : State) (_c : Cmd) : (Nat × Nat × List Word) × State :=
  match s.nor.long with
  | some l => ((rsOk, 0, []), s.abortLong l)
  | none => ((rsOk, 0, []), s)

def execAbort (t : Time) (k : Fin 8) (s : State) : Res :=
  let s := s.at t
  if s.cmdReady k.val then
    .next (s.shortCmd k.val opAbort State.doAbort)
  else .next s

/-- KEY_REVOKE: the key's bit is fused. -/
def execKeyRevoke (t : Time) (k : Fin 8) (s : State) : Res :=
  let s := s.at t
  if s.cmdReady k.val then
    .next (s.shortCmd k.val opKeyRevoke (fun s c =>
      let s := s.modNor (fun x => { x with keyStat := x.keyStat ||| BitVec.ofNat 4 (1 <<< c.arg 0) })
      ((rsOk, 0, []), s.record Rec.KEY_REVOKE pgNor (wd c.k) (wd (c.arg 0)) (wd c.tag))))
  else .next s

/-! What a grant and PFAIL_N do to commands (R393, R396, R404). -/

/-- The active long command is answered ABORTED; an operation under way completes by itself. -/
def State.abortNow (s : State) (c : LongCmd) : State := s.finish c rsAborted 0 []

/-- A taken message that has not been executed is answered ABORTED. -/
def State.abortInbox (s : State) (k : Nat) : State :=
  match (s.mb k).inbox with
  | none => s
  | some ws =>
    let c := parseCmd k ws
    let s := s.modMb k (fun m => { m with inbox := none })
    (s.record Rec.CMD_ABORTED pgNor (wd k) (wd c.op) (wd c.tag)).reply k c.op rsAborted c.tag 0 []

/-- At a Laurel grant: messages in M0 to M3 are discarded, and every command that the old holder had not finished is answered
ABORTED. -/
def State.grantCmds (s : State) : State :=
  let s := (List.range 4).foldl (fun s k => if (s.mb k).txPend then s.mbDiscard k false else s) s
  let s := match s.nor.long with | some c => s.abortNow c | none => s
  let s := (List.range 4).foldl State.abortInbox s
  s.modNor (fun x => { x with accepted := [] })

/-- At the fall of PFAIL_N: the active command ends at its current page program. -/
def State.pfailCmds (s : State) : State :=
  match s.nor.long with
  | some c =>
    let s := s.setEvt NOR.NOR_EVT.PFAIL_ABORT
    let s := s.modNor (fun x => { x with cmdQ := [] })
    s.abortLong c
  | none => s

end Sys2Proof.Machine
end

