-- ==== Sys2Proof/Machine/Link.lean ====
section
/-! DEFINITION. The die-to-die segments (R20 to R23, R491, R492): sequence numbers, hold and resend, link flits, the
port's waiting places and the lane's UP queue. -/
namespace Sys2Proof.Machine

/-! Flit types (Table 5-1, Table 7-2, R196, R491). -/

def ftIdle : Nat := 0x0
def ftPortIdle : Nat := 0x1
def ftNak : Nat := 0x2
def ftEvtA : Nat := 0x4
def ftEvtB : Nat := 0x5
def ftTrvHdr : Nat := 0x6
def ftTrvT : Nat := 0x7
def ftTrvS : Nat := 0x8
def ftEpochAdv : Nat := 0x9
def ftQend : Nat := 0xA
def ftDrain : Nat := 0xB
def fuAck : Nat := 0x4
def fuFull : Nat := 0x5
def fuFireA : Nat := 0x6
def fuFireB : Nat := 0x7
def fuQclr : Nat := 0x8
def fuPeakRpt : Nat := 0x9
def fuMotionA : Nat := 0xA
def fuMotionB : Nat := 0xB
def fuDly : Nat := 0xC

/-- The 56 bits a flit's CRC-8 covers, as seven bytes in the order the layout lists them. -/
def flitBytes (typ seq epoch payload : Nat) : List Byte :=
  BitVec.ofNat 8 (typ % 16 * 16 + seq % 16) :: (beBytes 2 epoch ++ beBytes 4 payload)

/-- The CRC-8 of a flit. Chapter 1 gives the polynomial 0x07 and the 56 bits; initial value 0 and most significant bit first
are the model's choice (log entry 155). -/
def flitCheck (f : Flit) : Byte := crc8 (flitBytes f.typ.toNat f.seq.toNat f.epoch.toNat f.payload.toNat)

/-- The CRC-8 is correct. -/
def flitGood (f : Flit) : Bool := decide (f.crc = flitCheck f)

/-- A flit with its CRC-8. -/
def mkFlit (typ : Nat) (seq : BitVec 4) (epoch : Epoch) (payload : Word) : Flit :=
  { typ := BitVec.ofNat 4 typ, seq := seq, epoch := epoch, payload := payload,
    crc := crc8 (flitBytes typ seq.toNat epoch.toNat payload.toNat) }

/-- A link flit (R491): IDLE, PORT_IDLE on DN, NAK. -/
def flitIsLink (f : Flit) : Bool := decide (f.typ.toNat ≤ 2)

/-- A sequenced flit as it stands on the wire. -/
def TxFlit.onWire (f : TxFlit) : Flit := mkFlit f.typ f.seq f.epoch f.payload

/-! One direction. -/

/-- Move waiting flits into the held ones, numbering them, until 15 are held; answers how many were sent. -/
def LinkDir.pump (now : Time) : Nat → LinkDir → LinkDir × Nat
  | 0, l => (l, 0)
  | fuel + 1, l =>
    match l.waiting with
    | [] => (l, 0)
    | f :: w =>
      if 15 ≤ l.held.length then (l, 0)
      else
        let g := { f with seq := l.txSeq + 1 }
        let l' := { l with waiting := w, held := l.held ++ [g], txSeq := l.txSeq + 1, wire := some g.onWire,
                           ackAt := if l.held.isEmpty then now else l.ackAt }
        let (l'', n) := LinkDir.pump now fuel l'
        (l'', n + 1)

/-- Queue a flit. -/
def LinkDir.push (l : LinkDir) (typ : Nat) (e : Epoch) (p : Word) : LinkDir :=
  { l with waiting := l.waiting ++ [{ typ := typ, seq := 0, epoch := e, payload := p, resent := 0, fails := 0 }] }

/-- Apply an acknowledgement of sequence number `q`: release every held flit up to it; whether it advanced. -/
def LinkDir.ack (l : LinkDir) (q : BitVec 4) (now : Time) : LinkDir × Bool :=
  if l.held.any (fun f => f.seq = q) then
    let rest := (l.held.dropWhile (fun f => f.seq ≠ q)).drop 1
    ({ l with held := rest, ackAt := now }, true)
  else (l, false)

/-- Put a link flit on the wire: it carries the sequence number of the latest sequenced flit and advances nothing. -/
def LinkDir.link (l : LinkDir) (typ : Nat) (e : Epoch) (ack : BitVec 4) (now : Time) : LinkDir :=
  { l with wire := some (mkFlit typ l.txSeq e (ack.setWidth 32)), lastLinkSend := now }

/-- Receive a sequenced flit: accepted when it follows the last accepted one (R491). -/
def LinkDir.inOrder (l : LinkDir) (q : BitVec 4) : Bool := decide (q = l.rxLast + 1)

/-- The receiver accepts a sequenced flit. -/
def LinkDir.took (l : LinkDir) (q : BitVec 4) : LinkDir := { l with rxLast := q, naked := false }

/-! The segment of a lane. -/

def State.modDn (s : State) (n : LaneIx) (f : LinkDir → LinkDir) : State := s.modLane n (fun l => { l with dn := f l.dn })
def State.modUp (s : State) (n : LaneIx) (f : LinkDir → LinkDir) : State := s.modLane n (fun l => { l with up := f l.up })

/-- Send on UP what the lane's queue allows. -/
def State.pumpUp (s : State) (n : LaneIx) : State := s.modUp n (fun u => (u.pump s.now 16).1)

/-- Send on DN what the port's waiting places allow, counting each flit in FLIT_CNT. -/
def State.pumpDn (s : State) (n : LaneIx) : State :=
  let (d, k) := (s.lane n).dn.pump s.now 16
  (s.modDn n (fun _ => d)).count (LANE.FLIT_CNT n) k

/-- A lane places an UP flit in its queue (R492); a FENCED lane's queue is gone. -/
def State.sendUp (s : State) (n : LaneIx) (typ : Nat) (p : Word) : State :=
  let l := s.lane n
  if l.fenced.isSome || decide (1024 ≤ l.up.held.length + l.up.waiting.length) then s
  else
    let e := s.epoch (pgLane n)
    (s.modUp n (fun u => u.push typ e p)).pumpUp n

/-- The places left at the spine's port: 15 held and 64 waiting (R491). -/
def State.dnRoom (s : State) (n : LaneIx) : Nat :=
  let d := (s.lane n).dn
  (15 - d.held.length) + (64 - d.waiting.length)

/-- The spine's port takes flits of one message for a lane when all of them fit; answers whether it did. -/
def State.sendDn (s : State) (n : LaneIx) (fs : List (Nat × Word)) : Bool × State :=
  if s.fenced n || !s.hasLane n then (true, s)
  else if s.dnRoom n < fs.length then (false, s)
  else
    let e := s.tokenEpoch
    let s := s.modDn n (fun d => fs.foldl (fun d f => d.push f.1 e f.2) d)
    (true, s.pumpDn n)

/-- The flits that wait in the half go to the port as places become free (R491). -/
def State.pumpHalf (s : State) (n : LaneIx) : State :=
  let q := (s.lane n).halfQ
  let k := s.dnRoom n
  if s.maySend ∧ q ≠ [] ∧ 0 < k then
    ((s.modLane n (fun l => { l with halfQ := q.drop k })).sendDn n (q.take k)).2
  else s

/-- A one-flit command of the half to a lane: it waits in the half until the port has a place (R491). -/
def State.sendOne (s : State) (n : LaneIx) (typ : Nat) (p : Word) : State :=
  if s.fenced n || !s.hasLane n then s
  else (s.modLane n (fun l => { l with halfQ := l.halfQ ++ [(typ, p)] })).pumpHalf n

/-- Count one link fault of a lane, with its instant (R21, R463). -/
def State.linkFault (s : State) (n : LaneIx) : State :=
  let s := s.bump ⟨LANE.LINK_STAT n, 15, 0⟩ 1
  let s := s.setEvt (LANE.LANE_EVT.LINK_FAULT n)
  s.modLane n (fun l => { l with faultTimes := (l.faultTimes ++ [s.now]).reverse.take 256 |>.reverse })

/-- Resend from the flit that starts the list: mark a resend of each, and count a failed resend of the first when it had
been resent before; answers the list and whether three resends of it have now failed. -/
def resendFrom : List TxFlit → List TxFlit × Bool
  | [] => ([], false)
  | f :: fs =>
    let fails := if 0 < f.resent then f.fails + 1 else f.fails
    let fault := decide (0 < f.resent) && decide (fails % 3 = 0)
    ({ f with resent := f.resent + 1, fails := fails } :: fs, fault)

/-- The sender puts its held flits on the wire again from sequence number `q`; answers it, how many went, and whether three
resends of the first have now failed. -/
def LinkDir.resend (l : LinkDir) (q : BitVec 4) (now : Time) : LinkDir × Nat × Bool :=
  let pre := l.held.takeWhile (fun f => f.seq ≠ q)
  let (post, fault) := resendFrom (l.held.dropWhile (fun f => f.seq ≠ q))
  ({ l with held := pre ++ post, ackAt := now, wire := (post.getLast?.map TxFlit.onWire).or l.wire }, post.length, fault)

/-- Resend DN flits of a lane from sequence number `q`, counting a link fault after each three failed resends (R21). -/
def State.resendDn (s : State) (n : LaneIx) (q : BitVec 4) : State :=
  let (d, k, fault) := (s.lane n).dn.resend q s.now
  let s := (s.modDn n (fun _ => d)).count (LANE.FLIT_CNT n) k
  if fault then s.linkFault n else s

/-- Resend UP flits of a lane from sequence number `q`. -/
def State.resendUp (s : State) (n : LaneIx) (q : BitVec 4) : State := s.modUp n (fun u => (u.resend q s.now).1)

/-- Resend from `q` on either wire. -/
def State.resendDir (s : State) (n : LaneIx) (d : Dir) (q : BitVec 4) : State :=
  match d with
  | .dn => s.resendDn n q
  | .up => s.resendUp n q

/-- New flits go out on either wire as far as the sender's places allow. -/
def State.pumpDir (s : State) (n : LaneIx) (d : Dir) : State :=
  match d with
  | .dn => (s.pumpDn n).pumpHalf n
  | .up => s.pumpUp n

/-- An acknowledgement releases held flits of a direction's sender. -/
def State.release (s : State) (n : LaneIx) (d : Dir) (q : BitVec 4) : State :=
  match d with
  | .dn => s.modDn n (fun x => (x.ack q s.now).1)
  | .up => s.modUp n (fun x => (x.ack q s.now).1)

/-- An acknowledgement arrives at the sender of a direction: held flits are released and waiting ones go out. -/
def State.ackDir (s : State) (n : LaneIx) (d : Dir) (q : BitVec 4) : State := (s.release n d q).pumpDir n d

/-- A NAK arrives at the sender of a direction: it covers the flits before the one named, and the sender resends from that
one before any new flit (R491, R154). -/
def State.nakDir (s : State) (n : LaneIx) (d : Dir) (q : BitVec 4) : State :=
  ((s.release n d (q - 1)).resendDir n d q).pumpDir n d

/-- The receiver of a direction puts a link flit on the other wire, acknowledging what it accepted last or, for NAK, naming
the flit it expects (R491). On DN it is the spine's port's, with the token's epoch or, for PORT_IDLE, the lane's. -/
def State.sendLink (s : State) (n : LaneIx) (d : Dir) (typ : Nat) : State :=
  let l := s.lane n
  let nak : BitVec 4 := if typ = ftNak then 1 else 0
  match d with
  | .dn =>
    let e := if typ = ftPortIdle then s.epoch (pgLane n) else s.tokenEpoch
    (s.modDn n (fun x => x.link typ e (l.up.rxLast + nak) s.now)).count (LANE.FLIT_CNT n) 1
  | .up => s.modUp n (fun x => x.link typ (s.epoch (pgLane n)) (l.dn.rxLast + nak) s.now)

/-- The lane discards a DN flit: the first discard after an accepted flit is answered with one NAK (R21, R491). -/
def State.discardDn (s : State) (n : LaneIx) : State :=
  if (s.lane n).dn.naked then s else (s.modDn n (fun d => { d with naked := true })).sendLink n .up ftNak

/-- The spine discards an UP flit of a lane; a failing CRC-8 is counted in NAK_CNT (Table 17-9). -/
def State.discardUp (s : State) (n : LaneIx) (badCrc : Bool) : State :=
  let s := if badCrc then s.bump (LANE.NAK_CNT.UP n) 1 else s
  if (s.lane n).up.naked then s else (s.modUp n (fun d => { d with naked := true })).sendLink n .dn ftNak

/-- A lane has accepted a DN flit: the 4 µs count restarts, and LOST clears on the lane's current epoch unless the flit
is PORT_IDLE (R22); a QCLR that waited for the link goes out (R170). -/
def State.dnAccepted (s : State) (n : LaneIx) (e : Epoch) (portIdle : Bool) : State :=
  let c := !portIdle && decide (e = s.epoch (pgLane n))
  let s := s.modLane n (fun l => { l with lastDn := s.now, lost := l.lost && !c })
  match (s.lane n).qclrWait with
  | some p => (s.modLane n (fun l => { l with qclrWait := none })).sendUp n fuQclr p
  | none => s

/-- A lane receives a sequenced DN flit (R491): a bad CRC-8 or a broken sequence is discarded and answered with one
NAK; EPOCH_ADV is accepted on a correct CRC-8 alone. Answers whether the flit is accepted. -/
def State.rxDn (s : State) (n : LaneIx) (f : Flit) : Bool × State :=
  if flitGood f && ((s.lane n).dn.inOrder f.seq || decide (f.typ.toNat = ftEpochAdv)) then
    (true, (s.modDn n (fun d => d.took f.seq)).dnAccepted n f.epoch false)
  else (false, s.discardDn n)

/-- The spine receives a sequenced UP flit (R491). -/
def State.rxUp (s : State) (n : LaneIx) (f : Flit) : Bool × State :=
  if flitGood f && (s.lane n).up.inOrder f.seq then (true, s.modUp n (fun d => d.took f.seq))
  else (false, s.discardUp n (!flitGood f))

end Sys2Proof.Machine
end

