-- ==== Sys2Proof/Machine/Harebell.lean ====
section
/-! DEFINITION. Lane travel (R156, R159) and Harebell: detector states, reports, learning and published delays
(chapter 7, R213 to R231). -/
namespace Sys2Proof.Machine

/-! Lane travel. -/

/-- The value nearest `ref` (48 bits) whose low 32 bits are `lo` (R156). -/
def nearest48 (ref lo : Nat) : Nat :=
  (((ref : Int) + sx 32 ((lo + 4294967296 - ref % 4294967296) % 4294967296)) % (2 ^ 48 : Nat)).toNat

/-- The comparison of R64: the signed 48-bit difference a − b. -/
def diff48 (a b : Nat) : Int := sx 48 ((a % 2 ^ 48 + 2 ^ 48 - b % 2 ^ 48) % 2 ^ 48)

/-- The larger of two travels by R64. -/
def max48 (a b : Nat) : Nat := if diff48 b a ≤ 0 then a else b

/-- (T_k + floor(s⁺ (t − t_k) / 10^9)) mod 2^48 (R159); the instants are in ps. -/
def trvLine (v : LaneTravel) (tk t : Time) : Nat :=
  (((v.tk : Int) + (max v.sk 0 * ((t : Int) - (tk : Int))).fdiv 1000000000000) % (2 ^ 48 : Nat)).toNat

/-- T_L of an outlet at ring time `t` (R159). -/
def LaneState.tl (l : LaneState) (k : OutIx) (t : Time) : Nat :=
  max48 (l.trav.get k).tl (trvLine (l.trav.get k) l.tk t)

/-- T_L of an outlet at a past or present instant (R219): the formula of R159 over the travel update then in force. -/
def LaneState.tlAt (l : LaneState) (k : OutIx) (t : Time) : Nat :=
  match l.hist.find? (fun u => decide (u.at_ ≤ t)) with
  | some u => max48 (u.trav.get k).tl (trvLine (u.trav.get k) u.tk t)
  | none => l.tl k t

/-! Access. -/

def State.bank (s : State) (n : LaneIx) : BankState := s.banks.get n
def State.modBank (s : State) (n : LaneIx) (f : BankState → BankState) : State := { s with banks := vmod s.banks n f }
def State.out (s : State) (n : LaneIx) (k : OutIx) : OutletState := (s.bank n).out.get k
def State.modOut (s : State) (n : LaneIx) (k : OutIx) (f : OutletState → OutletState) : State :=
  s.modBank n (fun b => { b with out := vmod b.out k f })
def State.det (s : State) (n : LaneIx) (k : OutIx) : DetState := (s.bank n).det.get k
def State.modDet (s : State) (n : LaneIx) (k : OutIx) (f : DetState → DetState) : State :=
  s.modBank n (fun b => { b with det := vmod b.det k f })

/-- The global outlet number 8 n + k (R5). -/
def gout (n : LaneIx) (k : OutIx) : Nat := 8 * n.val + k.val

/-- KIND of an outlet: 0 SPRAY, 1 PROP, 2 MOTOR, 3 ONOFF. -/
def State.kind (s : State) (n : LaneIx) (k : OutIx) : Nat := s.fld (FPE.OUT_CFG.KIND (gout n k))

/-- GEOM EN of an outlet. -/
def State.outEn (s : State) (n : LaneIx) (k : OutIx) : Bool := s.flag (GEOM.GEOM_OUT_ATTR.EN (gout n k))

/-- A lane of this member that is not FENCED. -/
def State.laneLive (s : State) (n : LaneIx) : Bool := s.running && s.hasLane n && !s.fenced n

/-- A lane in safe state (R25): SAFE_N low, FENCED, or disabled. -/
def State.inSafe (s : State) (n : LaneIx) : Bool :=
  let l := s.lane n
  l.safeLow || l.fenced.isSome || l.disabled

/-! Published delays (R222, R225, R226). -/

def State.nomOn (s : State) (n : LaneIx) (k : OutIx) : Nat := s.fld (SNAP.OUT_NOM.NOM_ON_US n k)
def State.nomOff (s : State) (n : LaneIx) (k : OutIx) : Nat := s.fld (SNAP.OUT_NOM.NOM_OFF_US n k)

/-- Whether d_off of an outlet is learned on the outlet itself: O6, O7 and a MOTOR O0 (R216, R228). -/
def State.ownOff (s : State) (n : LaneIx) (k : OutIx) : Bool :=
  decide (6 ≤ k.val) || (decide (k.val = 0) && decide (s.kind n k = 2))

/-- d_on without the pending peak wait, ns. -/
def State.baseOn (s : State) (n : LaneIx) (k : OutIx) : Nat := (s.det n k).don.pub.getD (1000 * s.nomOn n k)

/-- The published d_on, ns (R226). -/
def State.pubOn (s : State) (n : LaneIx) (k : OutIx) : Nat := s.baseOn n k + (s.det n k).w

/-- d_off of an outlet that learns its own. -/
def State.srcOff (s : State) (n : LaneIx) (k : OutIx) : Nat := (s.det n k).doff.pub.getD (1000 * s.nomOff n k)

/-- A source of R225 is available: n ≥ 8 and LEARN_OFF = 1. -/
def State.srcAvail (s : State) (n : LaneIx) (k : OutIx) : Bool :=
  decide (8 ≤ (s.det n k).doff.n) && s.flag (SNAP.OUT_CFG.LEARN_OFF n k)

/-- The selected available sources of O0 to O5 (R225). -/
def State.sources (s : State) (n : LaneIx) (k : OutIx) : List OutIx :=
  let sib := s.fld (SNAP.OUT_CFG.SIB n k)
  let sel := if sib = 0 then [6] else if sib = 1 then [7] else if sib = 2 then [6, 7] else []
  sel.filter (s.srcAvail n)

/-- Clamp a delay as R222 does. -/
def clampDelay (nom d : Nat) : Nat := min (4000 * nom) (max (1000 * (nom / 4)) d)

/-- The published d_off, ns (R222, R225). -/
def State.pubOff (s : State) (n : LaneIx) (k : OutIx) : Nat :=
  if s.ownOff n k then s.srcOff n k
  else
    match s.sources n k with
    | [] => 1000 * s.nomOff n k
    | a =>
      clampDelay (s.nomOff n k)
        (1000 * s.nomOff n k * (a.map (s.srcOff n)).sum / (a.map (fun j => 1000 * s.nomOff n j)).sum)

/-- Send DLY for one published value (Table 7-2). -/
def State.sendDly (s : State) (n : LaneIx) (k : OutIx) (off : Bool) (v : Nat) : State :=
  s.sendUp n fuDly (wd (k.val * 536870912 + b2n off * 268435456 + min v 268435455))

/-- Send DLY for every published value that has changed since the last one sent (R227). -/
def State.publish (s : State) (n : LaneIx) : State :=
  overList (List.finRange 8) (fun k s =>
    let on := s.pubOn n k
    let off := s.pubOff n k
    let s := if (s.det n k).sentOn = some on then s
             else (s.sendDly n k false on).modDet n k (fun d => { d with sentOn := some on })
    if (s.det n k).sentOff = some off then s
    else (s.sendDly n k true off).modDet n k (fun d => { d with sentOff := some off })) s

/-! Reports (R219, Table 7-2). -/

/-- Send MOTION_A and MOTION_B for a motion at instant `tm`; `kind` 0 MEASURED, 1 ESTIMATED, 2 ALREADY. -/
def State.sendMotion (s : State) (n : LaneIx) (k : OutIx) (closing : Bool) (kind : Nat) (act learned : Bool)
    (delay : Nat) (tm : Time) : State :=
  let l := s.lane n
  let s := s.sendUp n fuMotionA (wd (l.tlAt k tm))
  s.sendUp n fuMotionB (wd (k.val * 536870912 + b2n closing * 268435456 + kind * 67108864 + b2n act * 33554432 +
    b2n learned * 16777216 + min (delay / 10) 16777215))

/-- The value of OUTk_LASTON and OUTk_LASTOFF (Table 7-8). -/
def lastWord (res kind delay : Nat) : Nat := res * 1073741824 + kind * 268435456 + min (delay / 10) 16777215

/-- Report a closing ESTIMATED at instant `tm` (R218). -/
def State.estClosing (s : State) (n : LaneIx) (k : OutIx) (res : Nat) (tm : Time) : State :=
  let d := s.det n k
  let x := (tm - d.sc) / 1000
  let s := s.modDet n k (fun d => { d with pendEst := false, lastOff := lastWord res 1 x })
  s.sendMotion n k true 1 d.actClose false x tm

/-- s_c + published d_off of an outlet, ps. -/
def State.estAt (s : State) (n : LaneIx) (k : OutIx) : Time := (s.det n k).sc + s.pubOff n k * 1000

/-! Flags of R229. -/

/-- The wear condition of a learned quantity, with its set or its clear bound. -/
def wearOver (q : LearnQ) (nom drift m : Nat) : Bool :=
  match q.pub with
  | some d => decide (8 ≤ q.n) && decide (drift * 1000 * nom < (if d < 1000 * nom then 1000 * nom - d else d - 1000 * nom) * m)
  | none => false

/-- Set or clear WEAR of an outlet after a learned or a seeded value (R229); the record names the delay that meets the
condition. -/
def State.wearUpdate (s : State) (n : LaneIx) (k : OutIx) : State :=
  let d := s.det n k
  let drift := s.fld (SNAP.SNAP_TIME.DRIFT_PCT n)
  let wornOn := wearOver d.don (s.nomOn n k) drift 100
  let worn := wornOn || wearOver d.doff (s.nomOff n k) drift 100
  let v := ((if wornOn then d.don else d.doff).pub).getD 0
  let stay := wearOver d.don (s.nomOn n k) drift 200 || wearOver d.doff (s.nomOff n k) drift 200
  if worn && !d.wear then
    let s := s.modDet n k (fun d => { d with wear := true })
    let s := s.setEvt (SNAP.SNAP_EVT.WEAR n)
    s.record Rec.VALVE_WEAR (pgSnap n) (wd n.val) (wd k.val) (wd (v / 1000))
  else if d.wear && !stay then s.modDet n k (fun d => { d with wear := false })
  else s

/-! Learning (R222, R223). -/

/-- Learn one sample; answers the quantity and whether the clamp changed E. -/
def learnQ (q : LearnQ) (nom x : Nat) : LearnQ × Bool :=
  if q.relearn then
    ({ q with n := 1, e := x, relearn := false, ref := some x, run := 0 }, false)
  else
    let e := if q.n < 8 then q.e + x else q.e - q.e / 8 + x
    let n := min 255 (q.n + 1)
    if 8 ≤ n then
      let ec := min (32000 * nom) (max (8000 * (nom / 4)) e)
      ({ q with n := n, e := ec, run := 0, ref := none, pub := some ((ec + 4) / 8) }, decide (ec ≠ e))
    else ({ q with n := n, e := e, run := 0 }, false)

/-- Put a learned sample into d_on or d_off of an outlet, with the records and events of Table 7-4. -/
def State.learn (s : State) (n : LaneIx) (k : OutIx) (off : Bool) (x : Nat) : State :=
  let d := s.det n k
  let q := if off then d.doff else d.don
  let nom := if off then s.nomOff n k else s.nomOn n k
  let (q', cl) := learnQ q nom x
  let a0 := wd n.val
  let a1 := wd k.val
  let pg := pgSnap n
  let firstClamp := cl && !q.clamped
  let q' := { q' with clamped := q.clamped || cl }
  let s := s.modDet n k (fun d => if off then { d with doff := q' } else { d with don := q' })
  let s :=
    if q.relearn then
      let s := (s.bumpReg (SNAP.RELEARN_CNT n) 1).setEvt (SNAP.SNAP_EVT.RELEARN n)
      s.record Rec.RELEARN pg a0 a1 (wd (x / 1000))
    else s
  let v := q'.pub.getD 0
  let s :=
    if cl then
      let s := s.setEvt (SNAP.SNAP_EVT.DLY_CLAMP n)
      if firstClamp then s.record Rec.DLY_CLAMP pg a0 a1 (wd (v / 1000)) else s
    else s
  let s :=
    if q'.n = 8 ∧ q.n = 7 then
      (s.setEvt (SNAP.SNAP_EVT.LEARNED n)).record Rec.LEARNED pg a0 a1 (wd (v / 1000))
    else s
  (s.wearUpdate n k).publish n

/-- The reference r of a quantity, ns, and the bounds of its window relative to its start, ns (R214, R223). -/
def refOf (q : LearnQ) (nom base : Nat) : Nat × Nat × Nat :=
  if q.relearn then (1000 * nom, 250 * nom, 4000 * nom)
  else
    let r := match q.ref with
      | some x => if q.n < 8 then x else base
      | none => if q.n < 8 then 1000 * nom else base
    (r, r / 2, 2 * r)

/-! Results. -/

/-- A found opening (R219, R221): learned if eligible, counted under the first reason that holds otherwise, reported
MEASURED. -/
def State.openFound (s : State) (n : LaneIx) (k : OutIx) (tm : Time) : State :=
  let d := s.det n k
  let x := (tm - d.so) / 1000
  let elig := s.flag (SNAP.OUT_CFG.LEARN_ON n k) && !d.suspended && !d.subst && !d.reopen
  let s := s.modDet n k (fun d => { d with
    st := .quiet, stuck := false, stuckRun := 0,
    don := { d.don with run := 0 }, lastOn := lastWord (if elig then 1 else 2) 0 x })
  let s :=
    if elig then s.learn n k false x
    else if d.suspended then s.bump (SNAP.UNLEARN_CNT.SUSPENDED n) 1
    else if d.subst then s.bump (SNAP.UNLEARN_CNT.BOOST_SUB n) 1
    else if d.reopen then s.bump (SNAP.UNLEARN_CNT.REOPEN n) 1
    else s
  s.sendMotion n k false 0 d.actOpen elig x tm

/-- LG drive was present in the opening's window: the LG is on, or has fallen since the opening start (R229). -/
def State.driven (s : State) (n : LaneIx) (k : OutIx) : Bool :=
  (s.out n k).lg || decide ((s.det n k).so < (s.out n k).lgFall)

/-- An opening that ends NOT_FOUND (R218, R220, R229). -/
def State.openNotFound (s : State) (n : LaneIx) (k : OutIx) : State :=
  let d := s.det n k
  let dr := s.driven n k
  let s := s.modDet n k (fun d => { d with
    st := .quiet, stuckRun := if dr then satAdd 8 d.stuckRun 1 else d.stuckRun, don := { d.don with run := satAdd 8 d.don.run 1 },
    lastOn := lastWord 3 0 0 })
  let s := (s.bumpReg (SNAP.NODIP_CNT n) 1).setEvt (SNAP.SNAP_EVT.NO_DIP n)
  let s := s.recordFirst Rec.NO_DIP (gout n k) (pgSnap n) (wd n.val) (wd k.val) (wd (d.r / 1000))
  if d.actOpen && s.flag (SNAP.OUT_CFG.CONF_MODE n k) then
    let x := s.pubOn n k
    s.sendMotion n k false 1 true false x (d.so + x * 1000)
  else s

/-- A found closing of an outlet that learns its own d_off; one that is not learned counts as DEMOTED (R221). -/
def State.closeFound (s : State) (n : LaneIx) (k : OutIx) (tm : Time) : State :=
  let d := s.det n k
  let x := (tm - d.sc) / 1000
  let elig := s.flag (SNAP.OUT_CFG.LEARN_OFF n k) && !d.badDecay
  let s := s.modDet n k (fun d => { d with
    st := .quiet, closeFail := false,
    doff := { d.doff with run := 0 }, lastOff := lastWord (if elig then 1 else 2) 0 x })
  let s :=
    if elig then s.learn n k true x
    else s.bump (SNAP.UNLEARN_CNT.DEMOTED n) 1
  s.sendMotion n k true 0 d.actClose elig x tm

/-- A closing window that ends without a kink (R218, R229); NO_CLOSE is of O6 and O7 (R231). -/
def State.closeNotFound (s : State) (n : LaneIx) (k : OutIx) : State :=
  let d := s.det n k
  let s := s.modDet n k (fun d => { d with st := .quiet, doff := { d.doff with run := satAdd 8 d.doff.run 1 } })
  let s :=
    if 6 ≤ k.val then
      let s := (s.bumpReg (SNAP.NOCLOSE_CNT n) 1).setEvt (SNAP.SNAP_EVT.NO_CLOSE n)
      s.recordFirst Rec.NO_CLOSE (gout n k) (pgSnap n) (wd n.val) (wd k.val) (wd (d.r / 1000))
    else s
  s.estClosing n k 3 (s.estAt n k)

/-! Starts (R213, Table 7-1). -/

/-- An opening start at `t`; `act` marks an ON on a CLOSED outlet, `search` is false for a pulse from PULSE_FIRST > 0. -/
def State.openingStart (s : State) (n : LaneIx) (k : OutIx) (t : Time) (act search : Bool) : State :=
  let d := s.det n k
  let closing := decide (d.st = .closeWait ∨ d.st = .closeSearch)
  let due := s.estAt n k
  let s := if closing || d.pendEst then s.estClosing n k 0 (min due t) else s
  let reopen := closing || (match d.lastSc with | some _ => decide (t < due) | none => false)
  if search then
    let (r, lo, hi) := refOf d.don (s.nomOn n k) (s.baseOn n k)
    s.modDet n k (fun d => { d with
      st := .openWait, so := t, r := r, winLo := t + lo * 1000, winHi := t + hi * 1000,
      reopen := reopen, suspended := false, subst := false, actOpen := act, maxCode := 0, trk := .clear, dip := none,
      motorRun := 0, openPend := false })
  else s.modDet n k (fun d => { d with st := .quiet, openPend := false })

/-- A closing start at `t` (R213): an opening still searched ends NOT_FOUND; O6, O7 and a MOTOR O0 wait for the window,
the others await their estimated instant. -/
def State.closingStart (s : State) (n : LaneIx) (k : OutIx) (t : Time) (act : Bool) : State :=
  let d := s.det n k
  let s := if d.st = .openWait ∨ d.st = .openSearch then s.openNotFound n k else s
  let (r, lo, hi) := refOf d.doff (s.nomOff n k) (s.srcOff n k)
  if s.ownOff n k then
    s.modDet n k (fun d => { d with
      st := .closeWait, sc := t, lastSc := some t, r := r, winLo := t + lo * 1000,
      winHi := t + hi * 1000, actClose := act, decayEnd := none, badDecay := false, motorRun := 0 })
  else
    s.modDet n k (fun d => { d with st := .quiet, sc := t, lastSc := some t, actClose := act, pendEst := true })

/-- The end of the turn-off decay bounds the closing window (R214). -/
def State.detDecayEnd (s : State) (n : LaneIx) (k : OutIx) (t : Time) (bad : Bool) : State :=
  s.modDet n k (fun d =>
    if d.st = .closeWait then { d with
      decayEnd := some t, badDecay := d.badDecay || bad,
      winLo := max d.winLo (t + s.fld (SNAP.SNAP_TIME.CL_BLANK_US n) * usPs) }
    else d)

/-- Safe state, lane disable, drain end or fence: QUIET; an outlet that was open is reported closed ESTIMATED (R218). -/
def State.detShutdown (s : State) (n : LaneIx) (k : OutIx) (wasOpen : Bool) : State :=
  let t := s.now
  s.modDet n k (fun d =>
    if wasOpen then { d with st := .quiet, sc := t, lastSc := some t, actClose := true, pendEst := true, openPend := false }
    else if d.st = .closeWait ∨ d.st = .closeSearch then { d with st := .quiet, pendEst := true, openPend := false }
    else { d with st := .quiet, openPend := false })

/-- An OFF in PULSE_OFF or PEAK_WAIT is reported at once as a closing ALREADY (R219). -/
def State.alreadyClosed (s : State) (n : LaneIx) (k : OutIx) : State :=
  (s.modDet n k (fun d => { d with lastOff := lastWord 0 2 0, openPend := false })).sendMotion n k true 2 true false 0 s.now

/-- Learned state is cleared at RESET and at a seal; a seed loads its quantity (R224). -/
def seedQ (seed : Nat) : LearnQ :=
  if seed = 0 then LearnQ.reset else { LearnQ.reset with n := 8, e := 8000 * seed, pub := some (1000 * seed) }

/-- Every quantity of a lane after a successful seal, with DLY for every outlet (R224, R227). -/
def State.sealHarebell (s : State) (n : LaneIx) : State :=
  let s := overList (List.finRange 8) (fun k s =>
    s.modDet n k (fun d => { d with
      don := seedQ (s.fld (SNAP.OUT_SEED.SEED_ON_US n k)),
      doff := if s.ownOff n k then seedQ (s.fld (SNAP.OUT_SEED.SEED_OFF_US n k)) else LearnQ.reset,
      w := 0, wear := false, stuckRun := 0, stuck := false, closeFail := false, sentOn := none, sentOff := none })) s
  let s := overList (List.finRange 8) (fun k s => s.wearUpdate n k) s
  if s.fenced n then s else s.publish n

/-! The rows of chapter 7. -/

/-- OPEN_WINDOW_START: the search begins with a cleared tracker (Table 7-1). -/
def execOpenWindowStart (t : Time) (n : LaneIx) (k : OutIx) (s : State) : Res :=
  let s := s.at t
  let d := s.det n k
  if s.laneLive n ∧ d.st = .openWait ∧ d.winLo ≤ s.now then
    .next (s.modDet n k (fun d => { d with st := .openSearch, trk := .clear }))
  else .next s

/-- OPEN_WINDOW_END: NOT_FOUND (R218, R220). -/
def execOpenWindowEnd (t : Time) (n : LaneIx) (k : OutIx) (s : State) : Res :=
  let s := s.at t
  let d := s.det n k
  if s.laneLive n ∧ (d.st = .openWait ∨ d.st = .openSearch) ∧ d.winHi ≤ s.now then .next (s.openNotFound n k)
  else .next s

/-- CLOSE_WINDOW_START: the closing search begins once the decay has ended (R214). A MOTOR O0 has no decay (R228). -/
def execCloseWindowStart (t : Time) (n : LaneIx) (k : OutIx) (s : State) : Res :=
  let s := s.at t
  let d := s.det n k
  if s.laneLive n ∧ d.st = .closeWait ∧ (d.decayEnd.isSome ∨ s.kind n k = 2) ∧ d.winLo ≤ s.now then
    .next (s.modDet n k (fun d => { d with st := .closeSearch }))
  else .next s

/-- CLOSE_WINDOW_END: NOT_FOUND, reported ESTIMATED (R218). -/
def execCloseWindowEnd (t : Time) (n : LaneIx) (k : OutIx) (s : State) : Res :=
  let s := s.at t
  let d := s.det n k
  if s.laneLive n ∧ (d.st = .closeWait ∨ d.st = .closeSearch) ∧ d.winHi ≤ s.now then .next (s.closeNotFound n k)
  else .next s

/-- One unblanked sample of an on-interval in the tracker of R215; answers the tracker and the instant of a dip that this
sample confirms. -/
def DipTrack.step (t : DipTrack) (thr c : Nat) (at_ : Time) : DipTrack × Option Time :=
  let h := max (t.h.getD 0) c
  match t.cand with
  | some (m, tm) =>
    if c < m then ({ t with h := some h, cand := some (c, at_) }, none)
    else ({ t with h := some h }, if m + thr ≤ c then some tm else none)
  | none => ({ t with h := some h, cand := if c + thr ≤ h then some (c, at_) else none }, none)

/-- The samples of a window: taken inside its bounds (R214). -/
def inWin (d : DetState) (τ : Time) : Bool := decide (d.winLo ≤ τ) && decide (τ ≤ d.winHi)

/-- How a current sample was taken: with the LG on since `rise`, within BLANK_NS of it, and marked BANK_PEAK (R182, R197,
R215). -/
structure SampleMark where
  on : Option Time
  blanked : Bool
  peak : Bool
  deriving DecidableEq, Repr

/-- An opening search takes one current sample (R215): a marked one ends the on-interval and makes the window SUSPENDED, one
with the LG off ends the interval, a blanked one takes no part, and only the first confirmed dip counts. -/
def DetState.take (d : DetState) (thr : Nat) (m : SampleMark) (x : Sample) : DetState :=
  if d.st = .openSearch ∧ inWin d x.time ∧ d.dip = none then
    let d := { d with maxCode := max d.maxCode x.code.toNat, suspended := d.suspended || m.peak }
    if m.peak then { d with trk := .clear }
    else
      match m.on with
      | none => { d with trk := .clear }
      | some r =>
        if m.blanked then d
        else
          let t := if d.trk.rise = some r then d.trk else { DipTrack.clear with rise := some r }
          let p := t.step thr x.code.toNat x.time
          { d with trk := p.1, dip := p.2 }
  else d

/-- The sum y_i of R217 from index i − 3 of a list of codes. -/
def kinkY (v : List Nat) (i : Nat) : Int :=
  ((nth 0 v (i - 3) + nth 0 v (i - 2) + nth 0 v (i - 1) + nth 0 v i : Nat) : Int)

/-- D_i of R217. -/
def kinkD (v : List Nat) (i : Nat) : Int := kinkY v i - 2 * kinkY v (i - 8) + kinkY v (i - 16)

/-- The VSNS sampling grid of R216: O6 at i × 1,000 ns and O7 500 ns later. -/
def onVsns (k : OutIx) (τ : Time) : Bool := decide (τ % 1000000 = (if k.val = 6 then 0 else 500000))

/-- KINK_FOUND: the first i of R217 whose twenty samples, 1 µs apart, lie in the window; t_c is the instant of v_(i−9) less
500 ns. -/
def execKinkFound (t : Time) (n : LaneIx) (k : OutIx) (vs : List Sample) (s : State) : Res :=
  let s := s.at t
  let d := s.det n k
  let w := vs.filter (fun x => inWin d x.time && onVsns k x.time && decide (x.time ≤ s.now))
  let v := w.map (·.code.toNat)
  let at_ := fun i => (w[i]?.map (·.time)).getD 0
  let thr : Int := (s.fld (SNAP.SNAP_CFG.KINK_THR n) : Nat)
  let neg := s.flag (SNAP.SNAP_CFG.KINK_POL n)
  let hit := fun i => decide (at_ i = at_ (i - 19) + 19 * usPs) &&
    (if neg then decide (kinkD v i ≤ -thr) else decide (thr ≤ kinkD v i))
  if s.laneLive n ∧ d.st = .closeSearch ∧ 6 ≤ k.val then
    match findIdxFrom hit (v.length - 19) 19 with
    | some i => .next (s.closeFound n k (at_ (i - 9) - 500 * nsPs))
    | none => .next s
  else .next s

/-- RELEARN: REJ_MAX NOT_FOUND windows in a row start the relearning of d_on, or with `off` of d_off (R223). -/
def execRelearn (t : Time) (n : LaneIx) (k : OutIx) (off : Bool) (s : State) : Res :=
  let s := s.at t
  let d := s.det n k
  let q := if off then d.doff else d.don
  let m := s.fld (SNAP.SNAP_CFG.REJ_MAX n)
  if s.laneLive n ∧ 0 < m ∧ m ≤ q.run ∧ q.relearn = false ∧ (off = false ∨ s.ownOff n k) then
    let q' := { q with relearn := true, ref := none }
    .next (s.modDet n k (fun d => if off then { d with doff := q' } else { d with don := q' }))
  else .next s

/-- VALVE_STUCK: STUCK_N consecutive NOT_FOUND openings with LG drive present (R229). -/
def execValveStuck (t : Time) (n : LaneIx) (k : OutIx) (s : State) : Res :=
  let s := s.at t
  let d := s.det n k
  let m := s.fld (SNAP.SNAP_CFG.STUCK_N n)
  if s.laneLive n ∧ 0 < m ∧ m ≤ d.stuckRun ∧ d.stuck = false then
    let s := s.modDet n k (fun d => { d with stuck := true })
    let s := s.setEvt (SNAP.SNAP_EVT.VALVE_STUCK n)
    .next (s.record Rec.VALVE_STUCK (pgSnap n) (wd n.val) (wd k.val) (wd d.maxCode))
  else .next s

/-- CLOSE_FAIL: STUCK_N consecutive NOT_FOUND closings on O6 or O7 (R229). -/
def execCloseFail (t : Time) (n : LaneIx) (k : OutIx) (s : State) : Res :=
  let s := s.at t
  let d := s.det n k
  let m := s.fld (SNAP.SNAP_CFG.STUCK_N n)
  if s.laneLive n ∧ 6 ≤ k.val ∧ 0 < m ∧ m ≤ d.doff.run ∧ d.closeFail = false then
    let s := s.modDet n k (fun d => { d with closeFail := true })
    let s := s.setEvt (SNAP.SNAP_EVT.CLOSE_FAIL n)
    .next (s.record Rec.CLOSE_FAIL (pgSnap n) (wd n.val) (wd k.val) (wd (d.r / 1000)))
  else .next s

/-- ESTIMATED_CLOSING: s_c + published d_off is reached (R218). -/
def execEstimatedClosing (t : Time) (n : LaneIx) (k : OutIx) (s : State) : Res :=
  let s := s.at t
  if s.laneLive n ∧ (s.det n k).pendEst ∧ s.estAt n k ≤ s.now then .next (s.estClosing n k 0 (s.estAt n k))
  else .next s

end Sys2Proof.Machine
end

