-- ==== Sys2Proof/Machine/Outlet.lean ====
section
/-! DEFINITION. The outlet drive: conversion of currents, profiles and phases, peak arbitration, the bank's high side,
spray pulses, PROP regulation and the outlet state machine of Table 6-5 (chapter 6, R180 to R212). -/
namespace Sys2Proof.Machine

/-! Sensing (R181, R182). -/

/-- The gain of an outlet's converter input. -/
def State.gain (s : State) (n : LaneIx) (k : OutIx) : Nat :=
  let g := s.fld (OUTL.OUT_CFG.GAIN n k)
  if g = 0 then 5 else if g = 1 then 10 else 20

/-- c(I): the code of a current in mA (R181). -/
def State.codeOf (s : State) (n : LaneIx) (k : OutIx) (ma : Nat) : Nat :=
  min 4095 (rdiv ((ma * s.fld (OUTL.OUT_CFG.SHUNT_UOHM n k) * s.gain n k * 4096 : Nat) : Int) 1000000000).toNat

/-- A code in mA (R181). -/
def State.maOf (s : State) (n : LaneIx) (k : OutIx) (x : Nat) : Nat :=
  x * 1000000000 / (s.fld (OUTL.OUT_CFG.SHUNT_UOHM n k) * s.gain n k * 4096)

/-- An instant rounded up to a TCLK cycle. -/
def ceilTclk (t : Time) : Time := cdiv t tclkPs * tclkPs

/-! Profiles (R184 to R188). Index 6 is the implied OFF phase with END TERMINAL. -/

def modeOff : Nat := 0
def modeBoost : Nat := 1
def modeBat : Nat := 2
def modeHold : Nat := 3
def modeProp : Nat := 4
def modeSpray : Nat := 5

/-- Whether phase `q` of profile `p` is configured: an unconfigured word is the implied OFF of R184. -/
def State.phUsed (s : State) (n : LaneIx) (p q : Nat) : Bool :=
  decide (q < 6) && decide (s.reg (OUTL.PROF_PH n p q) ≠ 0)

def State.phMode (s : State) (n : LaneIx) (p q : Nat) : Nat :=
  if s.phUsed n p q then s.fld (OUTL.PROF_PH.MODE n p q) else modeOff

/-- END of a phase: 0 CURRENT, 1 TIME, 2 TERMINAL. -/
def State.phEnd (s : State) (n : LaneIx) (p q : Nat) : Nat :=
  if s.phUsed n p q then s.fld (OUTL.PROF_PH.END n p q) else 2

/-- A style field. -/
def styleOf (v : Nat) : Style := if v = 1 then .fast else if v = 2 then .clamp else .slow

def State.offSty (s : State) (n : LaneIx) (p q : Nat) : Style := styleOf (s.fld (OUTL.PROF_PH.OFF_STY n p (min q 5)))
def State.chopSty (s : State) (n : LaneIx) (p q : Nat) : Style := styleOf (s.fld (OUTL.PROF_PH.CHOP_STY n p (min q 5)))
def State.tgtMa (s : State) (n : LaneIx) (p q : Nat) : Nat := s.fld (OUTL.PROF_PH.TGT_MA n p (min q 5))
def State.hystMa (s : State) (n : LaneIx) (p q : Nat) : Nat := 2 * s.fld (OUTL.PROF_PH.HYST n p (min q 5))
def isPeakMode (m : Nat) : Bool := decide (m = modeBoost) || decide (m = modeBat)

/-- The upper and lower chop codes U and L (R187). -/
def State.upper (s : State) (n : LaneIx) (k : OutIx) (p q : Nat) : Nat := s.codeOf n k (s.tgtMa n p q + s.hystMa n p q)
def State.lower (s : State) (n : LaneIx) (k : OutIx) (p q : Nat) : Nat := s.codeOf n k (s.tgtMa n p q - s.hystMa n p q)

/-- The code a step-down to a phase ends at: the target of a peak phase, L otherwise (R188). -/
def State.entryCode (s : State) (n : LaneIx) (k : OutIx) (p q : Nat) : Nat :=
  if isPeakMode (s.phMode n p q) then s.codeOf n k (s.tgtMa n p q) else s.lower n k p q

/-- The index of the SPRAY_PWM phase of a profile. -/
def State.sprayIx (s : State) (n : LaneIx) (p : Nat) : Option Nat :=
  findIdxFrom (fun q => decide (s.phMode n p q = modeSpray)) 6 0

/-! Spray grid (R199, R200). -/

/-- P, ns. -/
def State.gridP (s : State) (n : LaneIx) : Nat := 1000000000 / s.fld (OUTL.SPRAY_CFG.FREQ_HZ n)

/-- φ_k, ns. -/
def State.gridPhi (s : State) (n : LaneIx) (k : OutIx) : Nat :=
  (if s.fld (OUTL.SPRAY_CFG.INTLV n) = 1 then (k.val % 2) * (s.gridP n / 2) else 0) +
    (k.val / 2) * 1000 * s.fld (OUTL.SPRAY_CFG.STAGGER_US n)

/-- o_p as an instant in ps, at the first TCLK cycle at or after it; p may be −1 before the first opening. -/
def State.gridO (s : State) (n : LaneIx) (k : OutIx) (p : Int) : Time :=
  ceilTclk ((p * (s.gridP n : Int) + (s.gridPhi n k : Int)).toNat * 1000)

/-- The grid index p with o_p ≤ f < o_(p+1). -/
def State.gridIx (s : State) (n : LaneIx) (k : OutIx) (f : Time) : Int :=
  fdiv ((f / 1000 : Nat) - (s.gridPhi n k : Int)) (s.gridP n)

/-- H before and after MIN_ON_US, ns, for the value in force. -/
def State.pulseH0 (s : State) (n : LaneIx) (k : OutIx) : Nat := ((s.lane n).inForce.get k).val * s.gridP n / 1000
def State.pulseH (s : State) (n : LaneIx) (k : OutIx) : Nat := max (s.pulseH0 n k) (1000 * s.fld (OUTL.SPRAY_LIM.MIN_ON_US n))

/-- The pulse closes between openings: P − H is not below MIN_OFF_US (R200). -/
def State.pulseCloses (s : State) (n : LaneIx) (k : OutIx) : Bool :=
  decide (s.pulseH n k + 1000 * s.fld (OUTL.SPRAY_LIM.MIN_OFF_US n) ≤ s.gridP n)

/-- c_p, ps. -/
def State.closeOf (s : State) (n : LaneIx) (k : OutIx) (p : Int) : Time :=
  ceilTclk ((p * (s.gridP n : Int) + (s.gridPhi n k : Int) + (s.pulseH n k : Int)).toNat * 1000)

/-- Govern pulse `p`: its close instant by the value in force, with MIN_ON_STRETCH where H is stretched. -/
def State.setPulse (s : State) (n : LaneIx) (k : OutIx) (p : Int) : State :=
  let s := if s.pulseH0 n k < 1000 * s.fld (OUTL.SPRAY_LIM.MIN_ON_US n) then s.setEvt (OUTL.OUTL_EVT.MIN_ON_STRETCH n) else s
  let c := if s.pulseCloses n k then some (s.closeOf n k p) else none
  let h := s.pulseH n k
  s.modOut n k (fun o => { o with pulse := p, closeAt := c, hNs := h })

/-! Samples. -/

/-- The sampling grid of R181: outlet k at i × 1,000 ns + (k mod 4) × 250 ns. -/
def onGrid (k : OutIx) (τ : Time) : Bool := decide (τ % 1000000 = (k.val % 4) * 250000)

/-- The LG was on at instant `τ`, near the outlet's present: the rise that began that on-interval. -/
def OutletState.onSince (o : OutletState) (τ : Time) : Option Time :=
  if o.lgRise ≤ τ then (if o.lg = true ∨ τ ≤ o.lgFall then some o.lgRise else none) else none

/-- A sample within BLANK_NS after a rising edge of the outlet's own LG (R182). -/
def OutletState.blanked (o : OutletState) (blank : Nat) (τ : Time) : Bool :=
  decide (0 < o.lgRise) && decide (o.lgRise ≤ τ) && decide (τ ≤ o.lgRise + blank * nsPs)

/-- A sample of outlet `k` is marked BANK_PEAK: another outlet is the bank's peak owner at its instant (R197). -/
def BankState.bankPeak (b : BankState) (k : OutIx) (τ : Time) : Bool :=
  b.spans.any (fun p => decide (p.who ≠ k) && decide (p.start ≤ τ) &&
    (match p.stop with | some e => decide (τ < e) | none => true))

/-- One sample: the latest and the highest code and the mean of 16 take it as it is (R212); if it is not blanked,
regulation, over-current, decay end and the period sum of PROP take it as well (R182). -/
def takeSample (oc de blank : Nat) (o : OutletState) (x : Sample) : OutletState :=
  let c := x.code.toNat
  let o := { o with code := c, maxCode := max o.maxCode c, recent := (c :: o.recent).take 16 }
  if o.blanked blank x.time then o
  else { o with
    reg := c, regAt := x.time, phMax := if o.entry ≤ x.time then max o.phMax c else o.phMax,
    ocRun := if oc ≤ c then o.ocRun + 1 else 0,
    decRun := if c < de then (if o.decayAt ≤ x.time then o.decRun + 1 else o.decRun) else 0,
    propSum := o.propSum + c, propCnt := o.propCnt + 1 }

/-- Feed an outlet and its detector the samples since the outlet's previous event: those on the grid of R181 and 250 ns old
(R182, R215). -/
def State.feed (s : State) (n : LaneIx) (k : OutIx) (sm : List Sample) : State :=
  let oc := s.codeOf n k (s.fld (OUTL.OUT_PROT.OC_MA n k))
  let de := s.codeOf n k (s.fld (OUTL.DECAY_CFG.DECAY_END_MA n))
  let bl := s.fld (OUTL.BANK_CFG.BLANK_NS n)
  let thr := s.fld (SNAP.SNAP_CFG.DIP_THR n)
  let b := s.bank n
  let o := s.out n k
  let xs := sm.filter (fun x => onGrid k x.time && decide (x.time + 250 * nsPs ≤ s.now))
  let s := s.modOut n k (fun o => xs.foldl (takeSample oc de bl) o)
  s.modDet n k (fun d => xs.foldl (fun d x =>
    d.take thr { on := o.onSince x.time, blanked := o.blanked bl x.time, peak := b.bankPeak k x.time } x) d)

/-! The bank's high side (R191, Table 6-4). -/

def isOffStyle (y : Style) : Bool := decide (y ≠ .slow)

/-- Some outlet of the bank is in a decay that a test takes. -/
def BankState.anyDecay (b : BankState) (p : OutletState → Bool) : Bool := b.out.toList.any p

/-- Row 1: a turn-off decay of style FAST or CLAMP is in progress. -/
def BankState.row1 (b : BankState) : Bool := b.anyDecay (fun o => decide (o.decay = .turnOff) && isOffStyle o.style)

/-- The mode in which the peak owner runs: BOOST_PEAK run as BAT_PEAK counts as BAT_PEAK (R198). -/
def State.ownerMode (s : State) (n : LaneIx) : Option Nat :=
  (s.bank n).owner.map (fun k =>
    let o := s.out n k
    let m := s.phMode n o.prof o.ph
    if m = modeBoost ∧ o.boostSub then modeBat else m)

/-- The owner's BOOST_PEAK conducts, or is in the chop decay of an END = TIME peak: not a step-down. -/
def State.ownerBoost (s : State) (n : LaneIx) : Bool :=
  decide (s.ownerMode n = some modeBoost)

/-- Re-evaluate HSGn by the rows of Table 6-4; a BOOST_PEAK that loses it under row 1 sets PEAK_SHARED, and a turn-off
decay under row 2 is marked. -/
def State.evalHs (s : State) (n : LaneIx) : State :=
  let b := s.bank n
  if b.row1 then
    let s := s.modBank n (fun b => { b with hsOn := false })
    if s.ownerBoost n then s.setEvt (OUTL.OUTL_EVT.PEAK_SHARED n) else s
  else if s.ownerBoost n then
    s.modBank n (fun b => { b with
      hsOn := true, out := b.out.map (fun o => if o.decay = .turnOff then { o with row2 := true } else o) })
  else if s.ownerMode n = some modeBat then s.modBank n (fun b => { b with hsOn := false })
  else if b.anyDecay (fun o => decide (o.decay = .stepDown ∨ o.decay = .chop) && isOffStyle o.style) then
    s.modBank n (fun b => { b with hsOn := false })
  else s.modBank n (fun b => { b with hsOn := b.anyDecay (fun o => decide (o.decay ≠ .none) && !isOffStyle o.style) })

/-! Decays (R189, R192). -/

/-- The LG goes low at instant `t`. -/
def OutletState.gateOff (o : OutletState) (t : Time) : OutletState :=
  { o with lg := false, lgFall := if o.lg then t else o.lgFall }

/-- The LG goes high at instant `t`: a rising edge where it was low (R182). -/
def OutletState.gateOn (o : OutletState) (t : Time) : OutletState :=
  { o with lg := true, lgRise := if o.lg then o.lgRise else t, decay := .none }

/-- A decay begins at instant `t`; FAST is served as CLAMP while VBST is at VBST_OV, counted and flagged (R192). -/
def State.decayFrom (s : State) (n : LaneIx) (k : OutIx) (d : DecayKind) (y : Style) (t : Time) : State :=
  let dem := (s.bank n).demote && decide (y = .fast)
  let s := if dem then (s.bumpReg (OUTL.DEMOTE_CNT n) 1).setEvt (OUTL.OUTL_EVT.CLAMP_DEMOTE n) else s
  s.modOut n k (fun o => { (o.gateOff t) with
    decay := d, style := if dem then .clamp else y, demoted := dem, row2 := false, decayAt := t, decRun := 0 })

def State.startDecay (s : State) (n : LaneIx) (k : OutIx) (d : DecayKind) (y : Style) : State := s.decayFrom n k d y s.now

/-- Turn the LG on. -/
def State.lgOn (s : State) (n : LaneIx) (k : OutIx) : State :=
  let t := s.now
  s.modOut n k (fun o => o.gateOn t)

/-- The instant at which the LG goes off in the running PROP period: `on` TCLK cycles after the period's start (R204). -/
def State.propOff (s : State) (n : LaneIx) (k : OutIx) : Time :=
  let o := s.out n k
  o.propAt + o.duty * s.fld (OUTL.PROP_CFG.PROP_PER_US n) * 400 / 65536 * tclkPs

/-- In a PROP phase the LG goes off into a chop decay once the period's on-time is over (R204). -/
def State.settleProp (s : State) (n : LaneIx) (k : OutIx) : State :=
  let o := s.out n k
  if o.st = .phase ∧ s.phMode n o.prof o.ph = modeProp ∧ o.lg = true ∧ s.propOff n k ≤ s.now then
    (s.decayFrom n k .chop (s.chopSty n o.prof o.ph) (s.propOff n k)).evalHs n
  else s

/-- Every PROP outlet of the bank is settled, and the high side follows (R191, R204). -/
def State.settleBank (s : State) (n : LaneIx) : State :=
  overList (List.finRange 8) (fun k s => s.settleProp n k) s

/-- A period of PROP begins at instant `t`: the LG is on for its on-time, or the period is one chop decay (R204). -/
def State.propStart (s : State) (n : LaneIx) (k : OutIx) (t : Time) : State :=
  let s := s.modOut n k (fun o => { o with propAt := t, propSum := 0, propCnt := 0 })
  if t < s.propOff n k then s.lgOn n k
  else s.startDecay n k .chop (s.chopSty n (s.out n k).prof (s.out n k).ph)

/-- Release the peak if this outlet owns it, and withdraw its request. -/
def State.releasePeak (s : State) (n : LaneIx) (k : OutIx) : State :=
  let t := s.now
  s.modBank n (fun b => { b with
    owner := if b.owner = some k then none else b.owner,
    spans := b.spans.map (fun p => if p.who = k ∧ p.stop = none then { p with stop := some t } else p),
    requests := b.requests.filter (· ≠ k) })

/-- The style in which the LG stays off where the outlet leaves its phase: the phase's OFF_STY, or that of the turn-off decay
that an ON interrupts (R188). -/
def State.leaveSty (s : State) (n : LaneIx) (k : OutIx) : Style :=
  let o := s.out n k
  if o.decay = .turnOff then o.style else s.offSty n o.prof o.ph

/-- The turn-off decay begins (R189): with OFF_STY of the phase, or, for an OFF firing and a shutdown in a step-down, as
that decay in its own style (R188, R210). -/
def State.beginOff (s : State) (n : LaneIx) (k : OutIx) (afterPulse cont : Bool) : State :=
  let s := s.releasePeak n k
  let o := s.out n k
  let t := s.now
  let s :=
    if cont ∧ o.decay = .stepDown then s.modOut n k (fun o => { o with decay := .turnOff, decayAt := t, decRun := 0 })
    else s.startDecay n k .turnOff (s.offSty n o.prof o.ph)
  s.modOut n k (fun o => { o with st := .decay, afterPulse := afterPulse })

/-- A turn-off, which is a closing start of Harebell with its ACT mark (R189, R213, R219). -/
def State.turnOff (s : State) (n : LaneIx) (k : OutIx) (afterPulse act cont : Bool) : State :=
  let s := s.beginOff n k afterPulse cont
  (s.closingStart n k s.now act).evalHs n

/-- The outlet is left without a drive: CLOSED with no decay of its own; a turn-off decay that still runs goes on (R190,
R203). -/
def State.restOutlet (s : State) (n : LaneIx) (k : OutIx) : State :=
  let t := s.now
  let s := s.releasePeak n k
  s.modOut n k (fun o => { (o.gateOff t) with st := .closed, decay := if o.decay = .turnOff then .turnOff else .none })

/-! Phases. -/

/-- Request the peak for phase `q` (R193): `first` is the first opening of an ON, `train` opens a later pulse. -/
def State.requestPeak (s : State) (n : LaneIx) (k : OutIx) (q : Nat) (first train : Bool) : State :=
  let t := s.now
  let s := s.modOut n k (fun o => { (o.gateOff t) with
    st := .peakWait, ph := q, entry := t, reqAt := t, reqFirst := first, reqTrain := train, lateFlag := false })
  s.modBank n (fun b => { b with requests := b.requests.filter (· ≠ k) ++ [k] })

/-- Enter phase `q` (R186): its counts start afresh, a TERMINAL phase restores the retries (R208), and PROP takes its
starting duty (R205). -/
def State.phaseEntry (s : State) (n : LaneIx) (k : OutIx) (q : Nat) : State :=
  let o := s.out n k
  let acc0 := s.fld (OUTL.PROF_CFG.ACC0 n o.prof)
  let term := decide (s.phEnd n o.prof q = 2)
  let t := s.now
  s.modOut n k (fun o => { o with
    st := .phase, ph := q, entry := t, reached := false, phMax := 0, retries := if term then 0 else o.retries,
    acc := acc0, duty := acc0, propN := 0, propM := 0, propSum := 0, propCnt := 0, propAt := t })

/-- The LG turns on in the phase, or PROP starts its first period. -/
def State.driveOn (s : State) (n : LaneIx) (k : OutIx) : State :=
  let o := s.out n k
  if s.phMode n o.prof o.ph = modeProp then s.propStart n k s.now else s.lgOn n k

/-- Conduct in phase `q`, left from a phase whose step-down style is `y`: a present sample above the phase's lower code
keeps the LG off in a step-down decay (R188). -/
def State.conduct (s : State) (n : LaneIx) (k : OutIx) (q : Nat) (y : Style) : State :=
  let o := s.out n k
  let down := decide (s.entryCode n k o.prof q < o.reg)
  let s := s.phaseEntry n k q
  let s := if down then s.startDecay n k .stepDown y else s.driveOn n k
  s.evalHs n

/-- Enter phase `q` from a conducting phase (Table 6-5): OFF is a turn-off, a peak waits for its grant. -/
def State.enterPhase (s : State) (n : LaneIx) (k : OutIx) (q : Nat) (first train : Bool) : State :=
  let o := s.out n k
  let y := s.leaveSty n k
  let m := s.phMode n o.prof q
  let term := decide (s.phEnd n o.prof q = 2)
  let s := s.releasePeak n k
  if isPeakMode m then (s.requestPeak n k q first train).evalHs n
  else if m = modeHold ∨ m = modeProp then s.conduct n k q y
  else if o.st = .phase ∧ s.phMode n o.prof o.ph ≠ modeOff then
    (s.modOut n k (fun o => { o with retries := if term then 0 else o.retries })).turnOff n k false false false
  else
    let s := s.phaseEntry n k q
    let t := s.now
    (s.modOut n k (fun o => { (o.gateOff t) with decay := if o.decay = .turnOff then .turnOff else .none })).evalHs n

/-- Leave the present phase for the next (R186). -/
def State.nextPhase (s : State) (n : LaneIx) (k : OutIx) : State := s.enterPhase n k ((s.out n k).ph + 1) false false

/-! Actuations (R184, R199 to R203, R206). -/

/-- A spray pulse opens (R212). -/
def State.pulseOpens (s : State) (n : LaneIx) (k : OutIx) : State :=
  if s.kind n k = 0 then s.count (OUTL.PULSE_CNT n) 1 else s

/-- Start a pulse or an actuation at phase `q`; a peak defers the opening start to its grant (R213). -/
def State.startAt (s : State) (n : LaneIx) (k : OutIx) (q : Nat) (act : Bool) : State :=
  let s := s.modOut n k (fun o => { o with boostSub := false, afterPulse := false })
  if isPeakMode (s.phMode n (s.out n k).prof q) then
    let s := s.modDet n k (fun d => { d with openPend := decide (q = 0), openPendAct := act })
    s.enterPhase n k q act (!act)
  else ((s.pulseOpens n k).enterPhase n k q act (!act)).openingStart n k s.now act (decide (q = 0))

/-- ON on a CLOSED outlet, a DECAY or a retry: the selected profile starts at PH0; a SPRAY outlet takes its pulse by
R201. -/
def State.startOn (s : State) (n : LaneIx) (k : OutIx) : State :=
  let f := s.now
  let p := s.fld (OUTL.OUT_CFG.PROF n k)
  let s := s.modOut n k (fun o => { o with prof := p, ph := 0, firstPulse := true, closeAt := none, maxCode := 0 })
  let s :=
    if s.kind n k = 0 then
      let i := s.gridIx n k f
      if f + s.fld (OUTL.SPRAY_LIM.MIN_ON_US n) * usPs ≤ s.closeOf n k i then s.setPulse n k i
      else s.setPulse n k (i + 1)
    else s
  s.startAt n k 0 true

/-- A RATE or an ON that fires in the very cycle of the grid opening governs that pulse (R200). -/
def State.regovern (s : State) (n : LaneIx) (k : OutIx) : State :=
  let o := s.out n k
  if s.kind n k = 0 ∧ (o.st = .phase ∨ o.st = .peakWait) ∧ s.gridO n k o.pulse / tclkPs = s.now / tclkPs then
    s.setPulse n k o.pulse
  else s

/-- An action of the scheduler on an outlet that is not MOTOR (R164, R203, R206, R207). The value in force is the
scheduler's. -/
def State.outletAct (s : State) (n : LaneIx) (k : OutIx) (typ : EvtType) : State :=
  let o := s.out n k
  match typ with
  | .rate => s.regovern n k
  | .on =>
    let s := s.modOut n k (fun o => { o with lastOn := true })
    let s := (s.modDet n k (fun d => { d with w := 0 })).publish n
    match o.st with
    | .closed | .decay => s.startOn n k
    | _ => s.regovern n k
  | .off =>
    let s := s.modOut n k (fun o => { o with lastOn := false })
    match o.st with
    | .peakWait | .pulseOff => ((s.restOutlet n k).alreadyClosed n k).evalHs n
    | .phase => s.turnOff n k false true true
    | .decay =>
      let s := s.modOut n k (fun o => { o with afterPulse := false })
      s.modDet n k (fun d => { d with actClose := true })
    | _ => s

/-! Shutdowns (R175, R210). -/

/-- An outlet is open in PEAK_WAIT, PHASE and PULSE_OFF (R207); a MOTOR outlet while its last action is ON. -/
def State.isOpen (s : State) (n : LaneIx) (k : OutIx) : Bool :=
  let o := s.out n k
  if s.kind n k = 2 then o.lastOn else decide (o.st = .peakWait ∨ o.st = .phase ∨ o.st = .pulseOff)

/-- Safe state: every gate off at full strength; FAULT stays latched. -/
def State.outletSafe (s : State) (n : LaneIx) (k : OutIx) : State :=
  let wasOpen := s.isOpen n k
  let t := s.now
  let s := s.modOut n k (fun o => { (o.gateOff t) with
    st := if o.st = .fault then .fault else .closed, decay := .none, lastOn := false, afterPulse := false, closeAt := none })
  (s.releasePeak n k).detShutdown n k wasOpen

/-- Every outlet of a lane enters safe state (R25, R210). -/
def State.bankSafe (s : State) (n : LaneIx) : State :=
  (overList (List.finRange 8) (fun k s => s.outletSafe n k) s).modBank n (fun b => { b with hsOn := false })

/-- End the actuation of an outlet at a drain end, a lane disable or DR expiry: an open outlet runs its present phase's
turn-off style, no pulse or retry follows, and Harebell's windows are abandoned (R170, R175, R206, R210, R218). -/
def State.outletClose (s : State) (n : LaneIx) (k : OutIx) : State :=
  let o := s.out n k
  let was := s.isOpen n k
  let s := s.modOut n k (fun o => { o with lastOn := false, afterPulse := false, closeAt := none })
  let s :=
    match o.st with
    | .phase => s.beginOff n k false true
    | .peakWait | .pulseOff => s.restOutlet n k
    | _ => s
  (s.detShutdown n k was).evalHs n

/-- The outlets of a lane that are open (R207), as a mask. -/
def State.openMask (s : State) (n : LaneIx) : Nat :=
  ((List.finRange 8).map (fun k => bitAt k.val (s.isOpen n k))).sum

/-- Every outlet current has decayed: no turn-off decay is in progress (R190). -/
def State.allDecayed (s : State) (n : LaneIx) : Bool :=
  !(s.bank n).anyDecay (fun o => decide (o.decay = .turnOff))

/-- A disabled lane is DRAINED when every outlet current has decayed (R175). -/
def State.checkLaneDrained (s : State) (n : LaneIx) : State :=
  if (s.lane n).disabled ∧ s.allDecayed n then s.setDrained (pgLane n) else s

/-- The outlet with its samples fed and the bank's PROP gates settled, when the lane is live. -/
def State.outletEvent (s : State) (n : LaneIx) (k : OutIx) (sm : List Sample) : State :=
  if s.laneLive n then (s.settleBank n).feed n k sm else s

/-! Peak arbitration (R193 to R198). -/

/-- The order of a request within one TCLK cycle: first openings, then from the outlet after the one granted last. -/
def State.reqRank (s : State) (n : LaneIx) (k : OutIx) : Nat × Nat × Nat :=
  let o := s.out n k
  (o.reqAt / tclkPs, if o.reqFirst then 0 else 1, (k.val + 15 - (s.bank n).lastGrant.val) % 8)

def rankLt (a b : Nat × Nat × Nat) : Bool :=
  decide (a.1 < b.1) || (decide (a.1 = b.1) && (decide (a.2.1 < b.2.1) ||
    (decide (a.2.1 = b.2.1) && decide (a.2.2 < b.2.2))))

/-- The request that is next in order. -/
def State.nextReq (s : State) (n : LaneIx) : Option OutIx :=
  (s.bank n).requests.foldl (fun r k =>
    match r with
    | none => some k
    | some j => if rankLt (s.reqRank n k) (s.reqRank n j) then some k else some j) none

/-- A pulse-train request is withdrawn: the period's pulse is not delivered (R195, R198). -/
def State.skipPulse (s : State) (n : LaneIx) (k : OutIx) : State :=
  let o := s.out n k
  let s := s.releasePeak n k
  let t := s.now
  let s := s.modOut n k (fun o => { (o.gateOff t) with st := .pulseOff })
  let s := s.modDet n k (fun d => { d with openPend := false })
  let s := (s.bumpReg (OUTL.PEAK_SKIP_CNT n) 1).setEvt (OUTL.OUTL_EVT.PEAK_SKIP n)
  (s.recordFirst Rec.PEAK_SKIP (gout n k) (pgOutl n) (wd n.val) (wd k.val) (wd ((s.now - o.reqAt) / usPs))).evalHs n

/-- A BOOST_PEAK is granted as BAT_PEAK under BOOST_SUB: counted, and recorded once a second (R198). -/
def State.markSub (s : State) (n : LaneIx) (k : OutIx) (sub : Bool) : State :=
  if sub then
    let s := (s.bumpReg (OUTL.BOOST_SUB_CNT n) 1).setEvt (OUTL.OUTL_EVT.BOOST_SUB n)
    s.recordFirst Rec.BOOST_SUB n.val (pgOutl n) (wd n.val) (wd k.val) (wd (s.bank n).vbst)
  else s

/-- PEAK_RPT of a first opening that waited `wait` TCLK cycles, which the published d_on then holds too (R196, R226). -/
def State.reportWait (s : State) (n : LaneIx) (k : OutIx) (sub : Bool) (wait : Nat) : State :=
  let s := s.sendUp n fuPeakRpt (wd (k.val * 536870912 + b2n sub * 134217728 + wait))
  (s.modDet n k (fun d => { d with w := wait * 5 / 2 })).publish n

/-- A late pulse closes at its actual opening + H, but no later than MIN_OFF_US before the next grid opening (R202). -/
def State.lateClose (s : State) (n : LaneIx) (k : OutIx) (pulse : Int) (hNs : Nat) : State :=
  let lim := s.gridO n k (pulse + 1) - s.fld (OUTL.SPRAY_LIM.MIN_OFF_US n) * usPs
  let c := ceilTclk (s.now + hNs * nsPs)
  let s := if lim < c then s.setEvt (OUTL.OUTL_EVT.PULSE_CLIP n) else s
  s.modOut n k (fun o => { o with closeAt := some (min c lim) })

/-- Grant the peak to outlet `k`; `sub` runs a BOOST_PEAK as BAT_PEAK. A granted opening opens its pulse, and one that waited
closes at its opening + H, but MIN_OFF_US before the next opening (R196, R198, R202, R213). -/
def State.grantPeak (s : State) (n : LaneIx) (k : OutIx) (sub : Bool) : State :=
  let o := s.out n k
  let t := s.now
  let wait := min ((t - o.reqAt) / tclkPs) 134217727
  let opens := o.reqFirst || o.reqTrain
  let s := s.modBank n (fun b => { b with
    owner := some k, lastGrant := k, requests := b.requests.filter (· ≠ k),
    spans := { who := k, start := t, stop := none } :: b.spans.filter (fun p =>
      match p.stop with | some e => decide (t ≤ e + 100 * msPs) | none => true) })
  let s := s.keepMax ⟨OUTL.PEAK_WAIT_MAX n, 26, 0⟩ wait
  let s := s.modOut n k (fun o => { o with boostSub := sub })
  let s := s.markSub n k sub
  let s := if o.reqFirst ∧ 0 < wait then s.reportWait n k sub wait else s
  let s := if s.kind n k = 0 ∧ opens ∧ 0 < wait ∧ o.closeAt.isSome then s.lateClose n k o.pulse o.hNs else s
  let s := if opens then s.pulseOpens n k else s
  let d := s.det n k
  let s := if d.openPend then s.openingStart n k t d.openPendAct true else s
  let s := s.modDet n k (fun d => { d with subst := d.subst || sub })
  s.conduct n k o.ph (if o.decay = .turnOff then o.style else s.offSty n o.prof (o.ph - 1))

/-- Consider the next request for grant (R193, R198). -/
def State.arbitrate (s : State) (n : LaneIx) : State :=
  if (s.bank n).owner.isSome || (s.bank n).row1 then s
  else
    match s.nextReq n with
    | none => s
    | some k =>
      let o := s.out n k
      let nr := s.fld (OUTL.PROF_CFG.BOOST_NR n o.prof)
      if s.phMode n o.prof o.ph = modeBoost ∧ (s.bank n).vbstReady = false then
        if nr = 1 then s.grantPeak n k true
        else if nr = 2 then (if o.reqTrain then s.skipPulse n k else s.grantPeak n k true)
        else s
      else s.grantPeak n k false

/-! The rows of chapter 6. -/

/-- PEAK_GRANT: the next waiting request is considered; `sm` are the samples of the outlet it concerns. -/
def execPeakGrant (t : Time) (n : LaneIx) (sm : List Sample) (s : State) : Res :=
  let s := s.at t
  if s.laneLive n then
    let s := match s.nextReq n with
      | some k => s.outletEvent n k sm
      | none => s
    .next (s.arbitrate n)
  else .next s

/-- PEAK_WAIT_TIMEOUT: PEAK_WAIT_US without a grant (R195). -/
def execPeakWaitTimeout (t : Time) (n : LaneIx) (k : OutIx) (s : State) : Res :=
  let s := s.at t
  let o := s.out n k
  if s.laneLive n ∧ o.st = .peakWait ∧ o.lateFlag = false ∧
      o.reqAt + s.fld (OUTL.BANK_CFG.PEAK_WAIT_US n) * usPs ≤ s.now then
    if o.reqTrain ∧ s.flag (OUTL.PROF_CFG.PEAK_POL n o.prof) then .next (s.skipPulse n k)
    else
      let s := s.modOut n k (fun o => { o with lateFlag := true })
      let s := (s.bumpReg (OUTL.PEAK_LATE_CNT n) 1).setEvt (OUTL.OUTL_EVT.PEAK_LATE n)
      .next (s.recordFirst Rec.PEAK_LATE (gout n k) (pgOutl n) (wd n.val) (wd k.val) (wd ((s.now - o.reqAt) / usPs)))
  else .next s

/-- PHASE_END_CURRENT: an unblanked sample ≥ c(TGT) ends a CURRENT phase (R186). -/
def execPhaseEndCurrent (t : Time) (n : LaneIx) (k : OutIx) (sm : List Sample) (s : State) : Res :=
  let s := (s.at t).outletEvent n k sm
  let o := s.out n k
  if s.laneLive n ∧ o.st = .phase ∧ o.decay = .none ∧ s.phEnd n o.prof o.ph = 0 ∧ o.entry ≤ o.regAt ∧
      s.codeOf n k (s.tgtMa n o.prof o.ph) ≤ o.reg then .next (s.nextPhase n k)
  else .next s

/-- PHASE_END_TIME: DUR_US after its entry a TIME phase ends (R186). -/
def execPhaseEndTime (t : Time) (n : LaneIx) (k : OutIx) (sm : List Sample) (s : State) : Res :=
  let s := (s.at t).outletEvent n k sm
  let o := s.out n k
  if s.laneLive n ∧ o.st = .phase ∧ s.phEnd n o.prof o.ph = 1 ∧
      o.entry + s.fld (OUTL.PROF_PH_T.DUR_US n o.prof (min o.ph 5)) * usPs ≤ s.now then .next (s.nextPhase n k)
  else .next s

/-- PEAK_TMO: TMAX_US without the target; OPEN_LOAD where no sample reached a quarter of it (R186). -/
def execPeakTmo (t : Time) (n : LaneIx) (k : OutIx) (sm : List Sample) (s : State) : Res :=
  let s := (s.at t).outletEvent n k sm
  let o := s.out n k
  let tgt := s.codeOf n k (s.tgtMa n o.prof o.ph)
  if s.laneLive n ∧ o.st = .phase ∧ s.phEnd n o.prof o.ph = 0 ∧
      o.entry + s.fld (OUTL.PROF_PH_T.TMAX_US n o.prof (min o.ph 5)) * usPs ≤ s.now then
    let s := s.setEvt (OUTL.OUTL_EVT.PEAK_TMO n)
    let s := s.record Rec.PEAK_TMO (pgOutl n) (wd n.val) (wd k.val) (wd o.phMax)
    let s :=
      if o.phMax < tgt / 4 then
        (s.setEvt (OUTL.OUTL_EVT.OPEN_LOAD n)).record Rec.OPEN_LOAD (pgOutl n) (wd n.val) (wd k.val) (wd o.phMax)
      else s
    .next (s.nextPhase n k)
  else .next s

/-- A chopped phase: HOLD_CHOP, or a peak with END = TIME (R187). -/
def State.chopped (s : State) (n : LaneIx) (k : OutIx) : Bool :=
  let o := s.out n k
  let m := s.phMode n o.prof o.ph
  decide (m = modeHold) || (isPeakMode m && decide (s.phEnd n o.prof o.ph = 1))

/-- CHOP_TOGGLE: the upper code turns the LG off into a chop decay, the lower code turns it on; a peak with END = TIME
first runs to its target (R185, R187). -/
def execChopToggle (t : Time) (n : LaneIx) (k : OutIx) (sm : List Sample) (s : State) : Res :=
  let s := (s.at t).outletEvent n k sm
  let o := s.out n k
  let m := s.phMode n o.prof o.ph
  let up := if isPeakMode m && !o.reached then s.codeOf n k (s.tgtMa n o.prof o.ph) else s.upper n k o.prof o.ph
  if s.laneLive n ∧ o.st = .phase ∧ s.chopped n k then
    if o.lg = true ∧ up ≤ o.reg then
      let s := s.startDecay n k .chop (s.chopSty n o.prof o.ph)
      .next ((s.modOut n k (fun o => { o with reached := true })).evalHs n)
    else if o.lg = false ∧ o.decay = .chop ∧ o.reg ≤ s.lower n k o.prof o.ph then .next ((s.lgOn n k).evalHs n)
    else .next s
  else .next s

/-- STEP_DOWN_END: a sample ≤ the new lower code ends the step-down and the new phase regulates (R188). -/
def execStepDownEnd (t : Time) (n : LaneIx) (k : OutIx) (sm : List Sample) (s : State) : Res :=
  let s := (s.at t).outletEvent n k sm
  let o := s.out n k
  if s.laneLive n ∧ o.st = .phase ∧ o.decay = .stepDown ∧ o.reg ≤ s.entryCode n k o.prof o.ph then
    .next ((s.driveOn n k).evalHs n)
  else .next s

/-- A turn-off decay ends (R190, Table 6-5). -/
def State.decayOver (s : State) (n : LaneIx) (k : OutIx) (tmo : Bool) : State :=
  let o := s.out n k
  let s := s.modOut n k (fun o => { o with
    decay := .none,
    st := if o.st = .decay then (if o.afterPulse then .pulseOff else .closed) else o.st })
  let s := s.detDecayEnd n k s.now (tmo || o.demoted || o.row2)
  (s.evalHs n).checkLaneDrained n

/-- DECAY_END: 8 consecutive samples below the decay-end code (R190). -/
def execDecayEnd (t : Time) (n : LaneIx) (k : OutIx) (sm : List Sample) (s : State) : Res :=
  let s := (s.at t).outletEvent n k sm
  let o := s.out n k
  if s.laneLive n ∧ o.decay = .turnOff ∧ 8 ≤ o.decRun then .next (s.decayOver n k false) else .next s

/-- DECAY_TMO: DECAY_TMAX_US after the decay began (R190). -/
def execDecayTmo (t : Time) (n : LaneIx) (k : OutIx) (sm : List Sample) (s : State) : Res :=
  let s := (s.at t).outletEvent n k sm
  let o := s.out n k
  if s.laneLive n ∧ o.decay = .turnOff ∧ o.decayAt + s.fld (OUTL.DECAY_CFG.DECAY_TMAX_US n) * usPs ≤ s.now then
    let s := s.setEvt (OUTL.OUTL_EVT.DECAY_TMO n)
    let s := s.record Rec.DECAY_TMO (pgOutl n) (wd n.val) (wd k.val) (wd o.code)
    .next (s.decayOver n k true)
  else .next s

/-- OVER_CURRENT: OC_N consecutive unblanked samples at or above c(OC_MA) (R208). The LG goes off at full strength into a
turn-off decay that demands no high side (R189, Table 6-5). -/
def execOverCurrent (t : Time) (n : LaneIx) (k : OutIx) (sm : List Sample) (s : State) : Res :=
  let s := (s.at t).outletEvent n k sm
  let o := s.out n k
  let m := s.fld (OUTL.OUT_PROT.OC_N n k)
  if s.laneLive n ∧ s.kind n k ≠ 2 ∧ o.st ≠ .fault ∧ 0 < m ∧ m ≤ o.ocRun then
    let now := s.now
    let s := s.setEvt (OUTL.OUTL_EVT.OC n)
    let s := s.bump ⟨OUTL.OC_CNT n, 4 * k.val + 3, 4 * k.val⟩ 1
    let s := s.record Rec.OUT_OC (pgOutl n) (wd n.val) (wd k.val) (wd o.reg)
    let s := s.releasePeak n k
    let s := s.modOut n k (fun o => { (o.gateOff now) with
      st := .fault, decay := .turnOff, style := .fast, demoted := false, row2 := false, decayAt := now, decRun := 0,
      faultAt := now, ocRun := 0 })
    let s := if o.st = .phase then s.closingStart n k now false else s
    .next (s.evalHs n)
  else .next s

/-- FAULT_RETRY: RETRY_MS after the fault, with retries left and ON in force, as CLOSED on ON (Table 6-5). -/
def execFaultRetry (t : Time) (n : LaneIx) (k : OutIx) (sm : List Sample) (s : State) : Res :=
  let s := (s.at t).outletEvent n k sm
  let o := s.out n k
  if s.laneLive n ∧ s.inSafe n = false ∧ o.st = .fault ∧ o.lastOn = true ∧ o.retries < s.fld (OUTL.OUT_PROT.OC_RETRY n k) ∧
      o.faultAt + s.fld (OUTL.OUT_PROT.RETRY_MS n k) * msPs ≤ s.now then
    .next ((s.modOut n k (fun o => { o with retries := o.retries + 1, st := .closed })).startOn n k)
  else .next s

/-- FAULT_CLR: each bit written 1 returns a FAULT outlet to CLOSED (Table 6-5). -/
def State.faultClr (s : State) (n : LaneIx) (v : Nat) : State :=
  overList (List.finRange 8) (fun k s =>
    if v.testBit k.val ∧ (s.out n k).st = .fault then s.modOut n k (fun o => { o with st := .closed }) else s) s

def execFaultClr (t : Time) (n : LaneIx) (v : Byte) (s : State) : Res :=
  let s := s.at t
  if s.laneLive n then .next (s.faultClr n v.toNat) else .next s

/-- A result of the lane die's VBST and VBAT conversion, the same for every lane (R183). -/
def State.supply (s : State) (vb va : BitVec 12) : State :=
  { s with banks := s.banks.map (fun b => { b with vbst := vb.toNat * 7200 / 4096, vbat := va.toNat * 4500 / 4096 }) }

/-- CLAMP_DEMOTE: VBST ≥ VBST_OV begins the demotion of FAST decays (R192). -/
def execClampDemote (t : Time) (n : LaneIx) (vb va : BitVec 12) (s : State) : Res :=
  let s := ((s.at t).settleBank n).supply vb va
  let b := s.bank n
  if s.laneLive n ∧ b.demote = false ∧ s.fld (OUTL.SUP_CFG.VBST_OV n) * 10 ≤ b.vbst then
    let s := s.modBank n (fun b => { b with demote := true })
    .next (s.record Rec.VBST_OV (pgOutl n) (wd n.val) 0 (wd b.vbst))
  else .next s

/-- DEMOTION_END: VBST < VBST_OV − VBST_HYST (R192). -/
def execDemotionEnd (t : Time) (n : LaneIx) (vb va : BitVec 12) (s : State) : Res :=
  let s := ((s.at t).settleBank n).supply vb va
  let b := s.bank n
  if s.laneLive n ∧ b.demote = true ∧
      b.vbst + s.fld (OUTL.SUP_CFG.VBST_HYST n) * 10 < s.fld (OUTL.SUP_CFG.VBST_OV n) * 10 then
    .next (s.modBank n (fun b => { b with demote := false }))
  else .next s

/-- VBST_NOT_READY: a result below VBST_MIN (R198). -/
def execVbstNotReady (t : Time) (n : LaneIx) (vb va : BitVec 12) (s : State) : Res :=
  let s := (s.at t).supply vb va
  let b := s.bank n
  if s.laneLive n ∧ b.vbstReady = true ∧ b.vbst < s.fld (OUTL.SUP_CFG.VBST_MIN n) * 10 then
    .next (s.modBank n (fun b => { b with vbstReady := false }))
  else .next s

/-- VBST_READY: a result ≥ VBST_MIN + VBST_HYST (R198). -/
def execVbstReady (t : Time) (n : LaneIx) (vb va : BitVec 12) (s : State) : Res :=
  let s := (s.at t).supply vb va
  let b := s.bank n
  if s.laneLive n ∧ b.vbstReady = false ∧
      (s.fld (OUTL.SUP_CFG.VBST_MIN n) + s.fld (OUTL.SUP_CFG.VBST_HYST n)) * 10 ≤ b.vbst then
    .next (s.modBank n (fun b => { b with vbstReady := true }))
  else .next s

/-- GRID_OPENING: o_(p+1) is reached; an outlet in PULSE_OFF starts its next pulse from PULSE_FIRST, and one that did not
close between pulses takes its next close instant (R199, R200). -/
def execGridOpening (t : Time) (n : LaneIx) (k : OutIx) (sm : List Sample) (s : State) : Res :=
  let s := (s.at t).outletEvent n k sm
  let o := s.out n k
  if s.laneLive n ∧ s.inSafe n = false ∧ s.kind n k = 0 ∧ s.gridO n k (o.pulse + 1) ≤ s.now then
    if o.st = .pulseOff then
      let s := s.setPulse n k (o.pulse + 1)
      let s := s.modOut n k (fun o => { o with firstPulse := false })
      .next (s.startAt n k (s.fld (OUTL.PROF_CFG.PULSE_FIRST n o.prof)) false)
    else if o.closeAt = none ∧ (o.st = .phase ∨ o.st = .peakWait) then .next (s.setPulse n k (o.pulse + 1))
    else .next s
  else .next s

/-- PULSE_CLOSE: the pulse reaches its close instant (R200). -/
def execPulseClose (t : Time) (n : LaneIx) (k : OutIx) (sm : List Sample) (s : State) : Res :=
  let s := (s.at t).outletEvent n k sm
  let o := s.out n k
  match o.closeAt with
  | none => .next s
  | some c =>
    if s.laneLive n ∧ o.st = .phase ∧ c ≤ s.now then .next (s.turnOff n k true false false) else .next s

/-- The drive current's base and triangle of R204. -/
def propTarget (tgt i0 slope value hz ma per n : Nat) : Nat :=
  let base := min tgt (i0 + value * slope / 65536)
  let tri : Int :=
    if hz = 0 then 0
    else
      let nd := max 2 (rdiv 1000000 ((hz * per : Nat) : Int)).toNat
      let i := n % nd
      let a : Int := ((4 * i : Nat) : Int) - ((2 * nd : Nat) : Int)
      rdiv ((ma : Int) * ((a.natAbs : Int) - (nd : Int))) (nd : Int)
  (min (tgt : Int) (max 0 ((base : Int) + tri))).toNat

/-- PROP_PERIOD: the drive of the next period (R204, R205). -/
def execPropPeriod (t : Time) (n : LaneIx) (k : OutIx) (sm : List Sample) (s : State) : Res :=
  let s := (s.at t).outletEvent n k sm
  let o := s.out n k
  let per := s.fld (OUTL.PROP_CFG.PROP_PER_US n)
  if s.laneLive n ∧ o.st = .phase ∧ s.phMode n o.prof o.ph = modeProp ∧ o.decay ≠ .stepDown ∧
      o.propAt + per * usPs ≤ s.now then
    let p := o.prof
    let tgt := propTarget (s.tgtMa n p o.ph) (s.fld (OUTL.PROF_PROP_MAP.I0_MA n p)) (s.fld (OUTL.PROF_PROP_MAP.SLOPE n p))
      ((s.lane n).inForce.get k).val (s.fld (OUTL.PROF_DITH.DITH_HZ n p)) (s.fld (OUTL.PROF_DITH.DITH_MA n p)) per o.propN
    let m := if o.propCnt = 0 then o.propM else o.propSum / o.propCnt
    let e : Int := (s.codeOf n k tgt : Int) - (m : Int)
    let acc := (clampI 0 65535 ((o.acc : Int) + shr ((s.fld (OUTL.PROF_PROP_REG.KI n p) : Int) * e) 8)).toNat
    let duty := (clampI 0 65535 ((acc : Int) + shr ((s.fld (OUTL.PROF_PROP_REG.KP n p) : Int) * e) 4)).toNat
    let s := s.modOut n k (fun o => { o with acc := acc, duty := duty, propN := o.propN + 1, propM := m })
    .next ((s.propStart n k (o.propAt + per * usPs)).evalHs n)
  else .next s

/-- DIP_CONFIRMED: the tracker of R215 has confirmed a dip in the samples taken so far; its result is the opening's. -/
def execDipConfirmed (t : Time) (n : LaneIx) (k : OutIx) (sm : List Sample) (s : State) : Res :=
  let s := (s.at t).outletEvent n k sm
  let d := s.det n k
  if s.laneLive n ∧ d.st = .openSearch then
    match d.dip with
    | some tm => .next (s.openFound n k tm)
    | none => .next s
  else .next s

/-! Live views of the OUTL and SNAP pages (R212, R231). -/

/-- OUTL_STAT. -/
def State.outlStat (s : State) (n : LaneIx) : Nat :=
  let b := s.bank n
  let m := fun (p : OutletState → Bool) => ((List.finRange 8).map (fun k => bitAt k.val (p (s.out n k)))).sum
  m (fun o => decide (o.st = .fault)) * 16777216 + m (fun o => decide (o.st = .peakWait)) * 65536 +
    m (fun o => decide (o.st = .phase ∨ o.st = .decay)) * 256 + b2n b.hsOn * 128 + b2n b.demote * 64 +
    b2n (!b.vbstReady) * 32 + b2n b.owner.isSome * 16 + (match b.owner with | some k => k.val | none => 0)

/-- OUTk_STAT. -/
def State.outStat (s : State) (n : LaneIx) (k : OutIx) : Nat :=
  let o := s.out n k
  o.st.code * 268435456 + (o.ph % 8) * 16777216 + (o.prof % 8) * 1048576 + o.decay.code * 262144 + o.code % 4096

/-- OUTk_IMA. -/
def State.outIma (s : State) (n : LaneIx) (k : OutIx) : Nat :=
  let o := s.out n k
  (s.maOf n k o.maxCode % 65536) * 65536 + s.maOf n k (o.recent.sum / max 1 o.recent.length) % 65536

/-- SNAP_STAT. -/
def State.snapStat (s : State) (n : LaneIx) : Nat :=
  let m := fun (p : DetState → Bool) => ((List.finRange 8).map (fun k => bitAt k.val (p (s.det n k)))).sum
  m (·.wear) * 16777216 + m (·.stuck) * 65536 + m (fun d => decide (8 ≤ d.don.n)) * 256 +
    bitAt 3 (s.det n 7).closeFail + bitAt 2 (s.det n 6).closeFail + bitAt 1 (decide (8 ≤ (s.det n 7).doff.n)) +
    bitAt 0 (decide (8 ≤ (s.det n 6).doff.n))

/-- WAIT_PEND. -/
def State.waitPend (s : State) (n : LaneIx) : Nat :=
  ((List.finRange 8).map (fun k => bitAt k.val (decide ((s.det n k).w ≠ 0)))).sum

/-- OUTk_LRN. -/
def State.outLrn (s : State) (n : LaneIx) (k : OutIx) : Nat :=
  let d := s.det n k
  d.don.n * 16777216 + (min d.don.run 255) * 65536 +
    (if 6 ≤ k.val ∨ s.ownOff n k then d.doff.n * 256 + min d.doff.run 255 else 0)

end Sys2Proof.Machine
end

