-- ==== Sys2Proof/Machine/Pwm.lean ====
section
/-! DEFINITION. The PWM generators: carriers, shadow pairs and reloads, complementary outputs, the SYNC chain, enable,
drain and safe state (chapter 8, R232 to R249). -/
namespace Sys2Proof.Machine

/-- The TCLK cycle of ring time. -/
def State.cyc (s : State) : Nat := s.now / tclkPs

def State.gen (s : State) (n : LaneIx) (g : Fin 4) : GenState := (s.pwm.get n).gen.get g
def State.modPwm (s : State) (n : LaneIx) (f : PwmState → PwmState) : State := { s with pwm := vmod s.pwm n f }
def State.modGen (s : State) (n : LaneIx) (g : Fin 4) (f : GenState → GenState) : State :=
  s.modPwm n (fun p => { p with gen := vmod p.gen g f })

/-- The LCLK cycle of ring time. -/
def State.lcyc (s : State) : Nat := s.now / lclkPs

def State.linked (s : State) (n : LaneIx) : Bool := s.flag (PWMG.BRIDGE_CFG.LINK n)

/-! Carriers (R233 to R235). -/

/-- rev(j): the four bits of j reversed (R234). -/
def rev4 (j : Nat) : Nat := (j % 2) * 8 + (j / 2 % 2) * 4 + (j / 4 % 2) * 2 + j / 8 % 2

/-- e(f, j) of R234. -/
def fracBit (f j : Nat) : Nat := if rev4 j < f then 1 else 0

/-- P_k of an active PERIOD word; below 16 it is 16 with fraction 0 (R235). -/
def perOf (w j : Nat) : Nat := if bf w 19 4 < 16 then 16 else bf w 19 4 + fracBit (bf w 3 0) j

/-- C_k of an active CMP word. -/
def cmpOf (w j : Nat) : Nat := bf w 19 4 + fracBit (bf w 3 0) j

/-- L_k (Table 8-2). -/
def lenOf (center : Bool) (per : Nat) : Nat := if center then 2 * per else per

/-- S in a cycle and the cycle of the last change of S inside the period, if any (Table 8-2). -/
def GenState.sRaw (g : GenState) (cyc : Nat) : Bool × Option Nat :=
  let u := cyc - g.base
  if g.draining || g.halted || !g.running then (false, none)
  else if g.mode = 2 then (true, none)
  else if g.mode = 3 then (false, none)
  else if g.per ≤ g.cmp then (true, none)
  else if g.cmp = 0 then (false, none)
  else if g.cur then
    if u < g.per - g.cmp then (false, none)
    else if u < g.per + g.cmp then (true, some (g.base + g.per - g.cmp))
    else (false, some (g.base + g.per + g.cmp))
  else if u < g.cmp then (true, none)
  else (false, some (g.base + g.cmp))

/-- S in a cycle and since which cycle it has held that level; before the present segment, S as that segment found it. -/
def GenState.level (g : GenState) (cyc : Nat) : Bool × Nat :=
  if cyc < g.segLo then (g.prevLvl, g.prevSince)
  else
    let (v, e) := g.sRaw cyc
    let start := if g.prevLvl = v then g.prevSince else g.segLo
    match e with
    | some c => if g.segLo < c then (v, c) else (v, start)
    | none => (v, start)

/-- End the segment before cycle `cyc`: S's level and its age are kept for the dead times of R237. -/
def GenState.closeSeg (g : GenState) (cyc : Nat) : GenState :=
  if cyc ≤ g.segLo then g
  else
    let (v, c) := g.level (cyc - 1)
    { g with prevLvl := v, prevSince := c, segLo := cyc }

/-- Start the period whose u is 0 at cycle `base`, with P_k, frame index and carrier kind given. -/
def GenState.startPeriod (g : GenState) (base j per : Nat) (center : Bool) : GenState :=
  { g with
    base := base, j := j, per := per, cmp := cmpOf g.cmpAct j, cur := center, len := lenOf center per }

/-! Marks (R233). -/

/-- The cycle of the period's MID mark: u = floor(L_k / 2). -/
def GenState.midAt (g : GenState) : Nat := g.base + g.len / 2

/-- The period has reached MID by cycle `cyc`, at or after the cycle it began in. -/
def GenState.midDone (g : GenState) (cyc : Nat) : Bool := decide (g.reAt ≤ g.midAt ∧ g.midAt ≤ cyc)

/-- The generator emits marks: it runs on a counter that runs. -/
def GenState.marks (g : GenState) : Bool := g.running && !g.halted

/-- The ZERO marks, or under `mid` the MID marks, that the generator has emitted up to and in cycle `cyc`. -/
def GenState.markCount (g : GenState) (mid : Bool) (cyc : Nat) : Nat :=
  if mid then g.mids + b2n (g.marks && g.midDone cyc) else g.zeros

/-- The generator emits its ZERO, or under `mid` its MID, mark in cycle `cyc`. -/
def GenState.markAt (g : GenState) (mid : Bool) (cyc : Nat) : Bool :=
  g.marks && (if mid then g.midDone cyc && decide (g.midAt = cyc) else decide (g.zeroAt = some cyc))

/-- The period ends before cycle `cyc`: its MID mark is counted. -/
def GenState.endPeriod (g : GenState) (cyc : Nat) : GenState :=
  { g with mids := g.mids + b2n (g.marks && decide (0 < cyc) && g.midDone (cyc - 1)) }

/-- A period begins in cycle `cyc`; with u = 0 there it is a ZERO mark, and a sync load to another u takes the place of a
natural reload of that cycle (R245). -/
def GenState.mark (g : GenState) (cyc : Nat) : GenState :=
  let g := { g with reAt := cyc }
  if g.base = cyc then
    { g with zeroAt := some cyc, zeros := g.zeros + 1, zero0 := if g.j = 0 then some cyc else g.zero0 }
  else if g.zeroAt = some cyc then
    { g with zeroAt := none, zeros := g.zeros - 1, zero0 := if g.zero0 = some cyc then none else g.zero0 }
  else g

/-! Transfers (R239, R241). -/

/-- Transfer a closed pair and a pending MODE at a reload in cycle `cyc`; a write in that cycle waits for the next. -/
def GenState.transfer (g : GenState) (cyc shPer shCmp : Nat) : GenState :=
  let go := g.closed && decide (g.closedAt < cyc)
  let g :=
    if go then
      { g with
        perAct := shPer, cmpAct := shCmp, perW := false, cmpW := false, closed := false, held := false,
        cmpOnly := g.cmpW && g.cmpHost && !g.perW, cmpHost := false }
    else { g with cmpOnly := false }
  match g.modePend with
  | some (m, oe, c) =>
    if c < cyc then
      { g with mode := m, oe := oe, modePend := none, center := if m = 0 then false else if m = 1 then true else g.center }
    else g
  | none => g

def State.shPer (s : State) (n : LaneIx) (g : Fin 4) : Nat := (s.reg (PWMG.G_PER n g)).toNat
def State.shCmp (s : State) (n : LaneIx) (g : Fin 4) : Nat := (s.reg (PWMG.G_CMP n g)).toNat

/-- The generators that reload together: G0 to G2 under LINK (R236). -/
def State.reloadGroup (s : State) (n : LaneIx) (g : Fin 4) : List (Fin 4) :=
  if s.linked n then (if g = 0 then [0, 1, 2] else if g = 3 then [3] else []) else [g]

/-- A drained generator stops: its outputs go to 0 and pending pairs are dropped (R246). -/
def GenState.stop (g : GenState) : GenState :=
  { g with
    running := false, draining := false, halted := false, perW := false, cmpW := false, cmpHost := false, closed := false,
    held := false, modePend := none }

/-- The generator has a counter of its own; under LINK G1 and G2 use that of G0 (R236). -/
def State.ownCounter (s : State) (n : LaneIx) (g : Fin 4) : Bool := !(s.linked n && decide (g = 1 ∨ g = 2))

/-- Set PER_MIN, CMP_FULL and its count for a period that starts (R235); under LINK the PERIOD of G1 and G2 is not used. -/
def State.periodFlags (s : State) (n : LaneIx) (g : Fin 4) : State :=
  let x := s.gen n g
  let s := if s.ownCounter n g ∧ bf x.perAct 19 4 < 16 then s.setEvt (PWMG.EVT.PER_MIN n) else s
  if x.marks ∧ x.per ≤ x.cmp then (s.bumpReg (PWMG.CMP_FULL_CNT n) 1).setEvt (PWMG.EVT.CMP_FULL n) else s

/-- One generator's part of a reload in cycle `cyc`: a draining one stops, any other takes its closed pair and its MODE. -/
def State.reloadOne (s : State) (n : LaneIx) (cyc : Nat) (h : Fin 4) : State :=
  if (s.gen n h).draining then s.modGen n h GenState.stop
  else s.modGen n h (fun x =>
    let x := ((x.closeSeg cyc).endPeriod cyc).transfer cyc (s.shPer n h) (s.shCmp n h)
    { x with afterSafe := x.afterSafe && s.inSafe n })

/-- One running generator starts the period that G0's, or its own, counter starts: u is `u` in cycle `cyc`. A period whose
reload has already come in this cycle (`again`) is not flagged twice. -/
def State.beginPeriod (s : State) (n : LaneIx) (cyc u j per : Nat) (center again : Bool) (h : Fin 4) : State :=
  if (s.gen n h).running then
    let full := again && decide ((s.gen n h).per ≤ (s.gen n h).cmp)
    let s := s.modGen n h (fun x => (x.startPeriod (cyc - u) j per center).mark cyc)
    if full then s else s.periodFlags n h
  else s

/-- Reload generator g, and G1 and G2 with G0 under LINK, in cycle `cyc`. A natural reload (no `ph`) starts at u = 0 with the
next frame index; a sync load starts at u* = `ph` mod L with j = 0, and is one reload with a natural one of that cycle (R245). -/
def State.reloadGen (s : State) (n : LaneIx) (g : Fin 4) (cyc : Nat) (ph : Option Nat) : State :=
  let grp := s.reloadGroup n g
  let again := decide ((s.gen n g).reAt = cyc)
  let s := if again then s else overList grp (fun h s => s.reloadOne n cyc h) s
  let x0 := s.gen n g
  let j := if ph.isSome then 0 else (x0.j + 1) % 16
  let per := perOf x0.perAct j
  let u := match ph with
    | some p => p % max 1 (lenOf x0.center per)
    | none => 0
  overList grp (fun h s => s.beginPeriod n cyc u j per x0.center again h) s

/-- DRAINED once every generator has stopped (R246). -/
def State.pwmDrained (s : State) (n : LaneIx) : State :=
  if !s.en (pgPwmg n) && (List.finRange 4).all (fun g => !(s.gen n g).running) then s.setDrained (pgPwmg n) else s

/-! Compare sets of the engine (R242). -/

/-- Apply MODE and OE of a set to one generator: at the next reload, or at once under COMM_IMM. -/
def GenState.takePhase (g : GenState) (ps : PhaseSet) (imm : Bool) (cyc : Nat) : GenState :=
  let m := ps.mode.getD g.mode
  if imm then
    let g := g.closeSeg (cyc + 1)
    { g with mode := m, oe := ps.oe, modePend := none, center := if m = 0 then false else if m = 1 then true else g.center }
  else { g with modePend := some (m, ps.oe, cyc) }

def State.engOf (s : State) (n : LaneIx) : EngState := s.eng.get n
def State.modEng (s : State) (n : LaneIx) (f : EngState → EngState) : State := { s with eng := vmod s.eng n f }

/-- Write one compare set into the shadows of G0, G1 and G2 and close the three pairs. -/
def State.applySet (s : State) (n : LaneIx) (e : EngSet) : State :=
  let cyc := e.due / tclkPs
  let imm := s.flag (PWMG.BRIDGE_CFG.COMM_IMM n)
  let s := match e.u with
    | some u => s.modEng n (fun x => { x with cmpLast := u * (s.gen n 0).perAct / 65536 })
    | none => s
  let s := overList [0, 1, 2] (fun g s =>
    (s.setReg (PWMG.G_CMP n (g : Fin 4)) (wd ((s.engOf n).cmpLast % 1048576))).modGen n g (fun x => { x with
      closed := true, cmpW := true, cmpHost := false, closedAt := cyc })) s
  match e.phases with
  | none => s
  | some (a, b, c) =>
    ((s.modGen n 0 (·.takePhase a imm cyc)).modGen n 1 (·.takePhase b imm cyc)).modGen n 2 (·.takePhase c imm cyc)

/-- Apply, in the order of their instants, the sets due by cycle `cyc`. -/
def State.setsUntil (s : State) (n : LaneIx) (cyc : Nat) : State :=
  let q := (s.pwm.get n).sets
  let due := fun (e : EngSet) => decide (e.due / tclkPs ≤ cyc)
  let s := s.modPwm n (fun p => { p with sets := q.filter (fun e => !due e) })
  overList (q.filter due) (fun e s => s.applySet n e) s

/-- Apply every set that is due. -/
def State.settleSets (s : State) (n : LaneIx) : State := s.setsUntil n s.cyc

/-- The sets of a queue and one more; two due in one LCLK cycle are one, with the later phases and the CMP of the sample among
them (R252, R268). -/
def mergeSets (q : List EngSet) (e : EngSet) : List EngSet :=
  let same := fun (x : EngSet) => decide (x.due / lclkPs = e.due / lclkPs)
  let u := (q.filter same).foldl (fun a x => x.u.orElse (fun _ => a)) none
  let ph := (q.filter same).foldl (fun a x => x.phases.orElse (fun _ => a)) none
  q.filter (fun x => !same x) ++ [{ e with u := e.u.orElse (fun _ => u), phases := e.phases.orElse (fun _ => ph) }]

/-- Queue a compare set for 2.500 µs after the present instant. -/
def State.queueSet (s : State) (n : LaneIx) (u : Option Nat) (ph : Option (PhaseSet × PhaseSet × PhaseSet)) : State :=
  if s.flag (PWMG.BRIDGE_CFG.CMP_SRC n) then
    s.modPwm n (fun p => { p with sets := mergeSets p.sets { due := s.now + 2500000, u := u, phases := ph } })
  else s

/-! The rows of chapter 8. -/

/-- The reload of generator g, if its period has ended: the sets written before that cycle count (R239, R242). -/
def State.reloadDue (s : State) (n : LaneIx) (g : Fin 4) : State :=
  let x := s.gen n g
  let c := x.base + x.len
  if s.laneLive n ∧ x.running ∧ x.halted = false ∧ s.ownCounter n g ∧ c ≤ s.cyc then
    ((s.setsUntil n (c - 1)).reloadGen n g c none).pwmDrained n
  else s

/-- The generators of a lane at the present instant: reloads that have come, then the sets that are due. -/
def State.pwmNow (s : State) (n : LaneIx) : State :=
  (overList (List.finRange 4) (fun g s => s.reloadDue n g) s).settleSets n

/-- RELOAD: the period ends (R239). -/
def execReload (t : Time) (n : LaneIx) (g : Fin 4) (s : State) : Res := .next (((s.at t).reloadDue n g).settleSets n)

/-- Whether the engine owns the compare and mode of a generator (R242). -/
def State.loopOwned (s : State) (n : LaneIx) (g : Fin 4) : Bool := s.flag (PWMG.BRIDGE_CFG.CMP_SRC n) && decide (g ≠ 3)

/-- A host write of Gg_CMP that reaches the lane in cycle `cyc` (R238, R242). -/
def State.writeCmp (s : State) (n : LaneIx) (g : Fin 4) (v : Word) (cyc : Nat) : State :=
  if s.loopOwned n g then s.err (pgPwmg n) (PWMG.G_CMP n g) .loopOwned
  else
    let auto := !s.flag (PWMG.G_CFG.COMMIT n g)
    (s.setReg (PWMG.G_CMP n g) (v &&& 0xFFFFF#32)).modGen n g (fun x => { x with
      cmpW := true, cmpHost := true, closed := x.closed || auto, closedAt := if auto then cyc else x.closedAt })

/-- A host write of Gg_PER (R238, R240). -/
def State.writePer (s : State) (n : LaneIx) (g : Fin 4) (v : Word) : State :=
  let auto := !s.flag (PWMG.G_CFG.COMMIT n g)
  let order := auto && (s.gen n g).cmpOnly
  let w := v &&& 0xFFFFF#32
  let s := (s.setReg (PWMG.G_PER n g) w).modGen n g (fun x => { x with perW := true, held := x.held || auto })
  if order then
    let s := s.setReg (PWMG.STAT n) (s.reg (PWMG.STAT n) ||| wd (1 <<< (16 + g.val)))
    let s := (s.bumpReg (PWMG.ORDER_CNT n) 1).setEvt (PWMG.EVT.ORDER n)
    s.recordFirst Rec.PWM_ORDER (4 * n.val + g.val) (pgPwmg n) (wd n.val) (wd g.val) w
  else s

/-- A write of COMMIT (R238): under MANUAL, each bit closes a pair that has a write since the last transfer. -/
def State.writeCommit (s : State) (n : LaneIx) (v cyc : Nat) : State :=
  overList (List.finRange 4) (fun g s =>
    let x := s.gen n g
    if v.testBit g.val ∧ s.flag (PWMG.G_CFG.COMMIT n g) ∧ (x.perW ∨ x.cmpW) then
      s.modGen n g (fun x => { x with closed := true, closedAt := cyc })
    else s) s

/-- A host write of Gg_MODE (R241, R242). -/
def State.writeMode (s : State) (n : LaneIx) (g : Fin 4) (v : Word) (cyc : Nat) : State :=
  if s.loopOwned n g then s.err (pgPwmg n) (PWMG.G_MODE n g) .loopOwned
  else
    let w := v &&& 0x13#32
    (s.setReg (PWMG.G_MODE n g) w).modGen n g (fun x => { x with
      modePend := some (bf w.toNat 1 0, w.toNat.testBit 4, cyc) })

def execGCmpWrite (t : Time) (n : LaneIx) (g : Fin 4) (v : Word) (s : State) : Res :=
  let s := (s.at t).pwmNow n
  if s.laneLive n then .next (s.writeCmp n g v s.cyc) else .next s

def execGPerWrite (t : Time) (n : LaneIx) (g : Fin 4) (v : Word) (s : State) : Res :=
  let s := (s.at t).pwmNow n
  if s.laneLive n then .next (s.writePer n g v) else .next s

def execCommit (t : Time) (n : LaneIx) (v : BitVec 4) (s : State) : Res :=
  let s := (s.at t).pwmNow n
  if s.laneLive n then .next (s.writeCommit n v.toNat s.cyc) else .next s

def execGModeWrite (t : Time) (n : LaneIx) (g : Fin 4) (v : Word) (s : State) : Res :=
  let s := (s.at t).pwmNow n
  if s.laneLive n then .next (s.writeMode n g v s.cyc) else .next s

/-- G1 and G2 follow the counter of G0 under LINK: where it is in its period, or halted while it stands (R236). -/
def State.follow (s : State) (n : LaneIx) (cyc : Nat) (h : Fin 4) : State :=
  let x := s.gen n 0
  if s.ownCounter n h ∨ (s.gen n h).running = false then s
  else if x.running then
    (s.modGen n h (fun y =>
      let y := { (y.closeSeg cyc) with halted := false }
      { (y.startPeriod x.base x.j x.per x.cur).mark cyc with reAt := x.reAt })).periodFlags n h
  else if (s.gen n h).draining then s.modGen n h GenState.stop
  else s.modGen n h (fun y => { (y.closeSeg cyc).endPeriod cyc with halted := true })

/-- The followers of G0 after its start or stop. -/
def State.followers (s : State) (n : LaneIx) (cyc : Nat) : State := (s.follow n cyc 1).follow n cyc 2

/-- Start generator g at u = 0 and j = 0 with the shadow values active (R246). -/
def State.startGen (s : State) (n : LaneIx) (g : Fin 4) (cyc : Nat) : State :=
  let m := (s.reg (PWMG.G_MODE n g)).toNat
  let s := s.modGen n g (fun x => { x with
    running := true, draining := false, perAct := s.shPer n g, cmpAct := s.shCmp n g, perW := false, cmpW := false,
    cmpHost := false, closed := false, held := false, cmpOnly := false, modePend := none, mode := bf m 1 0,
    oe := m.testBit 4, center := if bf m 1 0 = 0 then false else if bf m 1 0 = 1 then true else x.center,
    prevLvl := false, prevSince := cyc, segLo := cyc, halted := false })
  let s :=
    if s.ownCounter n g then
      (s.modGen n g (fun x => (x.startPeriod cyc 0 (perOf x.perAct 0) x.center).mark cyc)).periodFlags n g
    else s.follow n cyc g
  if g = 0 then s.followers n cyc else s

/-- Gg_CFG.EN = 0: the outputs of generator g are 0 and it emits no marks (R246). -/
def State.stopGen (s : State) (n : LaneIx) (g : Fin 4) : State :=
  let s := s.modGen n g GenState.stop
  (if g = 0 then s.followers n s.cyc else s).pwmDrained n

/-- GENERATOR_ENABLE: Gg_CFG.EN is set to 1; the register is RWL (R11, R246). -/
def execGeneratorEnable (t : Time) (n : LaneIx) (g : Fin 4) (s : State) : Res :=
  let s := s.at t
  if s.laneLive n then
    if s.sealed then .next (s.err (pgPwmg n) (PWMG.G_CFG n g) .lockedWrite)
    else
      let s := (s.pwmNow n).setFld (PWMG.G_CFG.EN n g) 1
      if (s.gen n g).running = true ∨ s.en (pgPwmg n) = false then .next s else .next (s.startGen n g s.cyc)
  else .next s

/-- PG_CTRL.EN = 0: every generator runs with S = 0 until its next reload (R246). -/
def State.pwmDrain (s : State) (n : LaneIx) : State :=
  let s := s.pwmNow n
  let cyc := s.cyc
  let s := overList (List.finRange 4) (fun g s =>
    let x := s.gen n g
    if x.running then
      if x.reAt = cyc ∨ x.halted then s.modGen n g GenState.stop
      else s.modGen n g (fun x => { x.closeSeg (cyc + 1) with draining := true })
    else s) s
  s.pwmDrained n

/-- PG_CTRL.EN = 1: the enabled generators start (R246, R450). -/
def State.pwmEnable (s : State) (n : LaneIx) : State :=
  overList (List.finRange 4) (fun g s =>
    if s.flag (PWMG.G_CFG.EN n g) ∧ !(s.gen n g).running then s.startGen n g s.cyc else s) s

/-- Safe state of the outputs begins or ends (R247). -/
def State.pwmSafe (s : State) (n : LaneIx) : State := s.modPwm n (fun p => { p with safeAt := some (p.safeAt.getD s.now) })
def State.pwmUnsafe (s : State) (n : LaneIx) : State :=
  s.modPwm n (fun p => { p with safeAt := none, gen := p.gen.map (fun x => { x with afterSafe := true }) })

/-! The SYNC chain (R243 to R245). -/

/-- What lane n sends down the chain: 0 OFF, 1 PASS, 2 OWN_G0, 3 OWN_G3; a FENCED lane passes (R243). -/
def State.syncSel (s : State) (n : LaneIx) : Nat := if s.fenced n then 1 else s.fld (PWMG.SYNC_CFG.OUT_SEL n)

/-- The lanes from number `i` on that receive a pulse, and whether it leaves the last lane. -/
def State.syncReach (s : State) : List LaneIx → List LaneIx × Bool
  | [] => ([], true)
  | n :: ns => if s.syncSel n = 1 then
      let (r, o) := s.syncReach ns
      (n :: r, o)
    else ([n], false)

/-- One generator receives a pulse in the present cycle (R245). -/
def State.syncGen (s : State) (n : LaneIx) (g : Fin 4) : State :=
  let x := s.gen n g
  let cyc := s.cyc
  let ph := (if g = 3 then s.fld (PWMG.SYNC_PH_G3.PHASE n) else s.fld (PWMG.SYNC_PH_BR.PHASE n)) + 4
  let len := max 1 x.len
  let u := cyc - x.base
  let us := ph % len
  let trim := fun (f : Nat → Nat) => overList (s.reloadGroup n g) (fun h s =>
    s.modGen n h (fun y => { y.closeSeg cyc with base := f y.base })) s
  if us = u then s
  else if us = (u + 1) % len then trim (fun b => b - 1)
  else if u = (us + 1) % len then trim (fun b => b + 1)
  else
    let s := s.reloadGen n g cyc (some ph)
    let s := (s.bumpReg (PWMG.SLIP_CNT n) 1).setEvt (PWMG.EVT.SYNC_SLIP n)
    let l := max 1 (s.gen n g).len
    s.recordFirst Rec.SYNC_SLIP n.val (pgPwmg n) (wd n.val) (wd g.val) (wd ((u + l - ph % l) % l))

/-- The accepting generators of a lane: under LINK bit 0 governs G0 to G2. -/
def State.syncLane (s : State) (n : LaneIx) : State :=
  let en := s.fld (PWMG.SYNC_CFG.IN_EN n)
  let s := overList (List.finRange 4) (fun g s =>
    if en.testBit g.val ∧ (s.gen n g).running ∧ s.ownCounter n g then s.syncGen n g else s) (s.pwmNow n)
  s.pwmDrained n

/-- SYNC_PULSE: a pulse from PWMSYNC_IN (no source lane) or from an OWN lane acts at t_s + 4; `t` is that instant. -/
def execSyncPulse (t : Time) (src : Option LaneIx) (s : State) : Res :=
  let s := s.at t
  match src with
  | none =>
    let early := match s.syncIn with
      | some a => decide (s.now < a + 64 * tclkPs)
      | none => false
    if early then
      let d := (s.now - s.syncIn.getD 0) / tclkPs
      let s := (s.bumpReg (PWMG.GLITCH_CNT 0) 1).setEvt (PWMG.EVT.SYNC_GLITCH 0)
      .next (s.recordFirst Rec.SYNC_GLITCH 0 (pgPwmg 0) 0 0 (wd d))
    else
      let s := { s with syncIn := some s.now }
      let (r, o) := s.syncReach s.laneList
      let s := if o then { s with syncOut := some s.now } else s
      .next (overList (r.filter (fun n => !s.fenced n)) (fun n s => s.syncLane n) s)
  | some m =>
    let g : Fin 4 := if s.syncSel m = 2 then 0 else 3
    if s.laneLive m ∧ 2 ≤ s.syncSel m ∧ (s.gen m g).zero0.any (fun z => decide (z + 4 = s.cyc)) then
      let (r, o) := s.syncReach (s.laneList.filter (fun n => decide (m.val < n.val)))
      let s := if o then { s with syncOut := some s.now } else s
      .next (overList (r.filter (fun n => !s.fenced n)) (fun n s => s.syncLane n) s)
    else .next s

/-- PWMSYNC_OUT is high for 16 TCLK cycles from each pulse that leaves lane 15 (R243). -/
def State.pwmSyncOut (s : State) : Bool := s.syncOut.any (fun a => decide (s.cyc < a / tclkPs + 16))

/-! Live views (R237, R247, R249). -/

/-- BRAKE applies: safe state of a sealed device (R247). -/
def State.brakeOn (s : State) (n : LaneIx) : Bool :=
  s.inSafe n && s.flag (PWMG.BRIDGE_CFG.BRAKE n) &&
    (match s.dev with | .idle | .armed | .run | .standby => true | _ => false)

/-- The two ball levels of a bridge generator: high side, low side. -/
def State.bridge (s : State) (n : LaneIx) (g : Fin 4) : Bool × Bool :=
  let x := s.gen n g
  let cyc := s.cyc
  let rise := s.fld (PWMG.G_DT.DT_RISE n g)
  let fall := s.fld (PWMG.G_DT.DT_FALL n g)
  if s.inSafe n then
    (false, s.brakeOn n && decide (((s.pwm.get n).safeAt.getD 0) / tclkPs + fall ≤ cyc))
  else if !x.running || x.afterSafe || !x.oe then (false, false)
  else
    let (v, c) := x.level cyc
    (v && decide (c + rise ≤ cyc), !v && decide (c + fall ≤ cyc))

/-- OUT_LVL. -/
def State.outLvl (s : State) (n : LaneIx) : Nat :=
  let a := s.bridge n 0
  let b := s.bridge n 1
  let c := s.bridge n 2
  bitAt 6 ((s.gen n 3).running && ((s.gen n 3).level s.cyc).1) + bitAt 5 c.2 + bitAt 4 c.1 + bitAt 3 b.2 + bitAt 2 b.1 +
    bitAt 1 a.2 + bitAt 0 a.1

/-- PWMG STAT. -/
def State.pwmStat (s : State) (n : LaneIx) : Nat :=
  let m := fun (p : GenState → Bool) => ((List.finRange 4).map (fun g => bitAt g.val (p (s.gen n g)))).sum
  m (·.closed) * 268435456 + m (·.held) * 16777216 + s.fld (PWMG.STAT.ORDER n) * 65536 + bitAt 9 (s.brakeOn n) +
    bitAt 8 (s.inSafe n) + m (·.running)

/-- Gg_POS. -/
def State.genPos (s : State) (n : LaneIx) (g : Fin 4) : Nat :=
  let x := s.gen n g
  x.j * 268435456 + (if x.marks then (s.cyc - x.base) % 131072 else 0)

end Sys2Proof.Machine
end

