-- ==== Sys2Proof/Machine/Loop.lean ====
section
/-! DEFINITION. The closed-loop engine: triggers, feedback and set-points, biquad sections, Hawthorn, commutation, start
and stop (chapter 9, R250 to R275). -/
namespace Sys2Proof.Machine

def State.loopSt (s : State) (n : LaneIx) (l : Fin 3) : LoopSt := (s.engOf n).loops.get l
def State.modLoop (s : State) (n : LaneIx) (l : Fin 3) (f : LoopSt → LoopSt) : State :=
  s.modEng n (fun e => { e with loops := vmod e.loops l f })
def State.fbkOf (s : State) (n : LaneIx) : FbkState := s.fbk.get n
def State.modFbk (s : State) (n : LaneIx) (f : FbkState → FbkState) : State := { s with fbk := vmod s.fbk n f }

/-- sat24 and sat40 of R254 and R258. -/
def sat24 (x : Int) : Int := satS 24 x
def sat40 (x : Int) : Int := satS 40 x

/-- A register as a signed number of `w` bits. -/
def State.sreg (s : State) (a w : Nat) : Int := sx w (s.reg a).toNat

/-! AIN (R253). -/

/-- One accepted edge of an edge-timed input (R52). -/
def EdgeFreq.edge (e : EdgeFreq) (τ : Time) : EdgeFreq :=
  match e.refAt with
  | none => { e with refAt := some τ, lastAt := some τ, n := 0 }
  | some _ => { e with lastAt := some τ, n := e.n + 1 }

/-- The frequency at an instant, mHz, with the timeout in ms (R52, R253). -/
def EdgeFreq.update (e : EdgeFreq) (now : Time) (tmo : Nat) : EdgeFreq :=
  match e.refAt, e.lastAt with
  | some r, some l =>
    let d := (l - r) / 1000
    let q := (now - l) / 1000
    if 0 < e.n then { e with f := e.n * 1000000000000 / d, eLast := d / e.n, refAt := some l, n := 0 }
    else if tmo * 1000000 < q then { e with f := 0 }
    else if 0 < e.f ∧ e.eLast < q then { e with f := 1000000000000 / q }
    else e
  | _, _ => e

/-- A conversion of AIN that is new: at a multiple of 1,000 ns, after the latest one known. -/
def EngState.newSample (e : EngState) (x : Sample) : Bool :=
  decide (x.time % 1000000 = 0) && !e.ainAt.any (fun a => decide (x.time ≤ a))

/-- One AIN conversion: the latest code, and an edge when a result ≥ HI follows a result ≤ LO. -/
def State.ainSample (s : State) (n : LaneIx) (x : Sample) : State :=
  let c := x.code.toNat
  let hi := s.fld (LOOP.AIN_CFG.HI n)
  let lo := s.fld (LOOP.AIN_CFG.LO n)
  let en := s.flag (LOOP.AIN_CFG.PULSE_EN n)
  s.modEng n (fun e =>
    if !e.newSample x then e
    else if en && e.ainLow && decide (hi ≤ c) then
      { e with ain := c, ainOld := e.ain, ainAt := some x.time, ainLow := false, ainF := e.ainF.edge x.time }
    else { e with ain := c, ainOld := e.ain, ainAt := some x.time, ainLow := e.ainLow || decide (c ≤ lo) })

/-- The conversions of a list, in order. -/
def State.ainSamples (s : State) (n : LaneIx) (xs : List Sample) : State := overList xs (fun x s => s.ainSample n x) s

/-- The code of the latest result available by an instant: a result is available 500 ns after its conversion. -/
def EngState.ainBy (e : EngState) (t : Time) : Nat := if e.ainAt.any (fun a => decide (t < a + 500000)) then e.ainOld else e.ain

/-- No later conversion than the latest known has a result at the present instant. -/
def EngState.ainKnown (e : EngState) (now : Time) : Bool := e.ainAt.any (fun a => decide (now < a + 1500000))

/-! Feedback and set-points (R254 to R257). -/

/-- What a feedback interface gives now. -/
def FbkState.present (f : FbkState) : FbkLatch :=
  { p := f.p, spd := f.spd, freq := f.freq, wire := f.wire, hallBad := f.hallBad, faultSeen := f.faultSeen }

/-- What the engine latches of it in an LCLK cycle: a change in that cycle counts for the next trigger (R252, R286). -/
def FbkState.seen (f : FbkState) (cyc : Nat) : FbkLatch :=
  match f.latch with
  | some (c, l) => if c = cyc then l else f.present
  | none => f.present

/-- Keep what the interface gives before its first change in the present LCLK cycle. -/
def State.fbkLatch (s : State) (n : LaneIx) : State :=
  s.modFbk n (fun f => if f.latch.any (fun x => decide (x.1 = s.lcyc)) then f
    else { f with latch := some (s.lcyc, f.present), faultNow := false })

/-- HALL_SKIP or ILLEGAL has occurred. -/
def State.fbkFlag (s : State) (n : LaneIx) : State := s.modFbk n (fun f => { f with faultSeen := true, faultNow := true })

/-- An accepted trigger has taken the fault indication; a fault of the same LCLK cycle counts for the next. -/
def State.fbkTaken (s : State) (n : LaneIx) : State :=
  s.modFbk n (fun f => match f.latch with
    | some (c, l) =>
      if c = s.lcyc then { f with faultSeen := f.faultNow, latch := some (c, { l with faultSeen := false }) }
      else { f with faultSeen := false }
    | none => { f with faultSeen := false })

/-- The feedback interface's fault indication (R286): a channel in use in wire disagreement, HALL_BAD, or HALL_SKIP or
ILLEGAL since the previous trigger. -/
def State.fbkFault (s : State) (n : LaneIx) : Bool :=
  let f := (s.fbkOf n).seen s.lcyc
  let m := s.fld (FBK.IN_CFG.MODE n)
  let used := if m = 1 then 7 else if m = 2 then (if s.flag (FBK.IDX_CFG.IDX_EN n) then 7 else 3)
    else if m = 3 then (if s.flag (FBK.PULSE_CFG.DIR_EN n) then 3 else 1) else 0
  decide (f.wire.toNat &&& used ≠ 0) || f.hallBad || f.faultSeen

/-- The raw feedback of a loop and its fault (Table 9-2). -/
def State.fbRaw (s : State) (n : LaneIx) (l : Fin 3) (isns : List (BitVec 12)) (flt : Bool) : Int × Bool :=
  let src := s.fld (LOOP.L_FB.FB_SRC n l)
  let e := s.engOf n
  let f := (s.fbkOf n).seen s.lcyc
  if src = 1 then ((e.ain : Int), decide (e.ain = 0 ∨ e.ain = 4095))
  else if src = 2 then ((e.ainF.f : Int), false)
  else if src = 3 then (f.spd, flt)
  else if src = 4 then (f.p, flt)
  else if src = 5 then ((f.freq : Int), flt)
  else if src = 6 then
    let k := s.fld (LOOP.L_FB.ISNS_SEL n l)
    ((((isns[k]?).map (·.toNat)).getD ((s.bank n).out.toList[k]?.map (·.code) |>.getD 0) : Nat), false)
  else (0, false)

/-- y of R254. -/
def State.fbY (s : State) (n : LaneIx) (l : Fin 3) (raw : Int) : Int :=
  if s.fld (LOOP.L_FB.FB_SRC n l) = 0 then 0
  else sat24 (shr (raw * s.sreg (LOOP.L_FB_GAIN n l) 32) (s.fld (LOOP.L_FB.FB_SHIFT n l)) + s.sreg (LOOP.L_FB_OFS n l) 24)

/-- The set-point input that a register, the decision or a demand gives now (Table 9-3). -/
def State.spInput (s : State) (n : LaneIx) : Int :=
  let src := s.fld (LOOP.SP_CFG.SRC n)
  if src = 0 then s.sreg (LOOP.SP_REG n) 24
  else if src = 1 then
    (if s.kind n 0 = 2 ∧ (s.out n 0).lastOn = true then (((s.lane n).inForce.get 0).val : Int) else 0)
  else if src = 2 ∨ src = 3 then ((s.engOf n).dem.toNat : Int)
  else 0

/-- Keep the set-point input before its first change in the present LCLK cycle (R252). -/
def State.spKeep (s : State) (n : LaneIx) : State :=
  let v := s.spInput n
  s.modEng n (fun e => if e.spLatch.any (fun x => decide (x.1 = s.lcyc)) then e else { e with spLatch := some (s.lcyc, v) })

/-- sp_t of R255; the target of a draining engine is 0 (R271). -/
def State.target (s : State) (n : LaneIx) : Int :=
  let src := s.fld (LOOP.SP_CFG.SRC n)
  let e := s.engOf n
  let v : Int :=
    if src = 4 then (e.ain : Int)
    else if src = 5 then (e.ainF.f : Int)
    else if src = 6 then (((s.fbkOf n).seen s.lcyc).freq : Int)
    else match e.spLatch with
      | some (c, v) => if c = s.lcyc then v else s.spInput n
      | none => s.spInput n
  if e.draining then 0
  else sat24 (shr (v * s.sreg (LOOP.SP_GAIN n) 32) (s.fld (LOOP.SP_CFG.SP_SHIFT n)) + s.sreg (LOOP.SP_OFS n) 24)

/-- The slew of R257. -/
def slew (sp spt : Int) (up dn : Nat) : Int :=
  if sp < spt then
    let lim := if 0 ≤ sp then up else dn
    if lim = 0 then spt else min spt (sp + lim)
  else if spt < sp then
    let lim := if 0 < sp then dn else up
    if lim = 0 then spt else max spt (sp - lim)
  else sp

/-! Sections (R258, R260). -/

/-- One biquad section: its new histories, output and whether it saturated. -/
def biquad (b0 b1 b2 a1 a2 : Int) (h : Section) (x : Int) : Section × Int × Bool :=
  let acc := b0 * x + b1 * h.x1 + b2 * h.x2 - a1 * h.y1 - a2 * h.y2
  let r := rdiv acc 536870912
  let o := sat40 r
  ({ x1 := x, x2 := h.x1, y1 := o, y2 := h.y1 }, o, decide (o ≠ r))

/-- Run the sections from index `i`; the integrator is frozen by the loop's previous saturation (R260). -/
def runSecs (co : Nat → Int) (nsec intSec : Nat) (hi lo : Bool) : Nat → List Section → Int → List Section × Int × Bool × Bool
  | _, [], x => ([], x, false, false)
  | i, h :: hs, x =>
    if nsec ≤ i then (h :: hs, x, false, false)
    else
      let fz := decide (i = intSec) && ((hi && decide (0 < x)) || (lo && decide (x < 0)))
      if fz then
        let (r, o, st, _) := runSecs co nsec intSec hi lo (i + 1) hs h.y1
        (h :: r, o, st, true)
      else
        let (h', o, sat) := biquad (co (5 * i)) (co (5 * i + 1)) (co (5 * i + 2)) (co (5 * i + 3)) (co (5 * i + 4)) h x
        let (r, o', st, f) := runSecs co nsec intSec hi lo (i + 1) hs o
        (h' :: r, o', sat || st, f)

/-- A coefficient of a loop's bank. -/
def State.coef (s : State) (n : LaneIx) (l : Fin 3) (bank i : Nat) : Word :=
  Sparse.get (fun _ => 0) (s.engOf n).coef ((2 * l.val + bank) * 32 + i)

/-- N_SEC and INT_SEC of a bank (R263). -/
def State.nSec (s : State) (n : LaneIx) (l : Fin 3) (bank : Nat) : Nat := bf (s.reg (LOOP.L_BANK_SEC n l)).toNat (8 * bank + 2) (8 * bank)
def State.intSec (s : State) (n : LaneIx) (l : Fin 3) (bank : Nat) : Nat := bf (s.reg (LOOP.L_BANK_SEC n l)).toNat (8 * bank + 6) (8 * bank + 4)

/-! Feed-forward (R262). -/

def isign (x : Int) : Int := if 0 < x then 1 else if x < 0 then -1 else 0

def State.fricTbl (s : State) (n : LaneIx) (i : Nat) : Int := s.sreg (LOOP.FRIC_TBL n i) 16
def State.cogTbl (s : State) (n : LaneIx) (q : Nat) : Int :=
  sx 16 ((s.reg (LOOP.COG_TBL n (q / 2))).toNat >>> (16 * (q % 2)))

/-- The friction term. -/
def State.fric (s : State) (n : LaneIx) (y sp : Int) : Int :=
  let st := s.fld (LOOP.FF_CFG.FRIC_STEP n)
  let a := y.natAbs
  let i := min 15 (a / st)
  let f := if i = 15 then s.fricTbl n 15
    else s.fricTbl n i + fdiv ((s.fricTbl n (i + 1) - s.fricTbl n i) * ((a - i * st : Nat) : Int)) (st : Int)
  (if y ≠ 0 then isign y else isign sp) * f

/-- The cogging term. -/
def State.cog (s : State) (n : LaneIx) (pos : Int) : Int :=
  let cpr := s.fld (LOOP.COG_CFG.COG_CPR n)
  let m := ((pos - (s.fld (LOOP.COG_CFG.COG_OFS n) : Int)) % (cpr : Int)).toNat
  s.cogTbl n (m * 256 / cpr)

/-! Hawthorn (R265, R266, Table 9-4). -/

/-- The outcome of one Hawthorn sample: the loop with its new state, y', r, and the transitions. -/
structure HawOut where
  l : LoopSt
  used : Int
  r : Int
  toBad : Bool
  toGood : Bool
  /-- ACTION is in effect in this sample. -/
  act : Bool
  deriving DecidableEq, Repr

/-- Before the loop computes: prediction, residual, state change, feedback as used. `action` 0 FLAG, 1 HOLD, 2 MODEL,
3 SAFE. -/
def hawthorn (l : LoopSt) (y : Int) (thr n action : Nat) (flt : Bool) : HawOut :=
  let m := if l.first then y * 65536 else l.model
  let yh := rdiv m 65536
  let r := y - yh
  let bad := decide ((thr : Int) < (r.natAbs : Int)) || flt
  let br := if bad then l.badRun + 1 else 0
  let gr := if bad then 0 else l.goodRun + 1
  let toBad := !l.implaus && bad && decide (n ≤ br)
  let toGood := l.implaus && decide (action ≠ 3) && decide (4 * n ≤ gr)
  let act := l.implaus || toBad
  { l := { l with
      model := m, first := false, yhat := yh, badRun := br, goodRun := if toBad then 0 else gr,
      implaus := (l.implaus || toBad) && !toGood,
      implausN := if toBad then 1 else if l.implaus then l.implausN + 1 else 0 },
    used := if act && decide (action = 2) then yh else y, r := r, toBad := toBad, toGood := toGood, act := act }

/-- After the loop computes: the model follows the set-point, and is corrected while PLAUSIBLE. -/
def modelNext (m sp r : Int) (alpha corr : Nat) (plausible : Bool) : Int :=
  let m1 := m + shr ((sp * 65536 - m) * (alpha : Int)) 16
  satS 40 (if plausible then m1 + shr ((corr : Int) * r * 65536) 16 else m1)

/-! Stops (R268, R270 to R272). -/

/-- The phases of a stopped motor: OE = 0, or under BRAKE CONST_OFF with OE = 1 (R268). -/
def State.stopPhases (s : State) (n : LaneIx) (brake : Bool) : PhaseSet × PhaseSet × PhaseSet :=
  let p : PhaseSet := if brake && s.flag (PWMG.BRIDGE_CFG.BRAKE n) then ⟨some 3, true⟩ else ⟨none, false⟩
  (p, p, p)

/-- A loop with its histories cleared and its bank kept. -/
def LoopSt.cleared (l : LoopSt) : LoopSt :=
  { LoopSt.reset with bank := l.bank, swapPend := l.swapPend, liveSeen := l.liveSeen }

/-- The SAFE stop (R268): cause 0 Hawthorn, 1 commutation. -/
def State.safeStop (s : State) (n : LaneIx) (cause : Nat) (l : Nat) : State :=
  let s := s.queueSet n none (some (s.stopPhases n true))
  let s := s.modEng n (fun e => { e with running := false, stopped := false, safeStop := true, dr := false })
  let s := s.setEvt (LOOP.ENG_EVT.HW_SAFE n)
  s.record Rec.HW_SAFE (pgLoop n) (wd n.val) (wd l) (wd cause)

/-- Safe state of the lane stops the engine and discards its histories, set-points and Hawthorn states (R272). -/
def State.engSafe (s : State) (n : LaneIx) : State :=
  let s := s.modEng n (fun e => { e with
    running := false, stopped := false, safeStop := false, dr := false, commLost := false, showAt := 0,
    loops := e.loops.map LoopSt.cleared })
  s.modPwm n (fun p => { p with sets := [] })

/-! Commutation (R267, Table 9-5). -/

/-- The sector of a Hall state [Z B A]. -/
def sectorOf (h : BitVec 3) : Option Nat :=
  match h.toNat with
  | 1 => some 0
  | 3 => some 1
  | 2 => some 2
  | 6 => some 3
  | 4 => some 4
  | 5 => some 5
  | _ => none

/-- σ_e of R267, with the sign of u of L0. -/
def State.sigmaE (s : State) (n : LaneIx) (uNeg : Bool) : Nat :=
  let b := ((s.engOf n).sigma + s.fld (LOOP.COMM_CFG.HALL_OFS n)) % 6
  if Bool.xor uNeg (s.flag (LOOP.COMM_CFG.DIR_INV n)) then (b + 3) % 6 else b

/-- The high and the low phase of a sector (Table 9-5), 0 A, 1 B, 2 C. -/
def phasesOf (e : Nat) : Nat × Nat :=
  match e with
  | 0 => (0, 1)
  | 1 => (0, 2)
  | 2 => (1, 2)
  | 3 => (1, 0)
  | 4 => (2, 0)
  | _ => (2, 1)

/-- The phases a compare set drives (R267). -/
def State.drivePhases (s : State) (n : LaneIx) : PhaseSet × PhaseSet × PhaseSet :=
  let e := s.engOf n
  let (h, l) := phasesOf (s.sigmaE n e.uNeg)
  let f := fun (i : Nat) => (if e.uZero then ⟨none, false⟩
    else if i = h then ⟨some (b2n (s.gen n 0).center), true⟩
    else if i = l then ⟨some 3, true⟩ else ⟨none, false⟩ : PhaseSet)
  (f 0, f 1, f 2)

def State.sixstep (s : State) (n : LaneIx) : Bool := decide (s.fld (LOOP.ENG_CFG.OUT_MODE n) = 1)

/-- The engine drives its bridge. -/
def State.driving (s : State) (n : LaneIx) : Bool :=
  let e := s.engOf n
  e.running && !e.stopped && !e.safeStop && s.sixstep n

/-- A set with the CMP of the latest L0 sample and the present phases (R268). -/
def State.commSet (s : State) (n : LaneIx) : State :=
  if s.driving n then s.queueSet n none (some (s.drivePhases n)) else s

/-- The Hall state is impossible or the interface reports a fault (R268). -/
def State.commFault (s : State) (n : LaneIx) : State :=
  let e := s.engOf n
  if s.driving n ∧ e.commLost = false then
    let s := s.modEng n (fun e => { e with commLost := true, commSeen := true, drSteps := 0, drAt := e.hallAt.getD s.now })
    let s := s.setEvt (LOOP.ENG_EVT.COMM_LOST n)
    let s := if e.commSeen then s
      else s.record Rec.COMM_LOST (pgLoop n) (wd n.val) 0 (wd (s.fbkOf n).lvl.toNat)
    if s.flag (LOOP.COMM_CFG.COMM_DR n) then s else s.safeStop n 1 0
  else s

/-- A valid Hall sector is delivered to the engine, with the direction of the change where it has one (R268, R280). -/
def State.commHall (s : State) (n : LaneIx) (σ : Nat) (dir : Option Bool) : State :=
  let s := s.modEng n (fun e => { e with
    sigma := σ, hallOk := true, dirNeg := dir.getD e.dirNeg,
    hallInt := (match e.hallAt with | some a => some (s.now - a) | none => e.hallInt), hallAt := some s.now,
    commLost := false, dr := false, drSteps := 0 })
  s.commSet n

/-! One sample (R251, R252, R258, R259). -/

/-- What one loop's sample computes, and what it reports: a section that saturated, an output that was clamped, a residual
that made the feedback implausible, and the samples spent so when it became plausible again. -/
structure LoopOut where
  l : LoopSt
  fric : Int
  cog : Int
  secSat : Bool
  outSat : Option Int
  toBad : Option Int
  toGood : Option Nat
  deriving DecidableEq, Repr

/-- Run one loop's Hawthorn and, unless the engine is STOPPED, its arithmetic; `sp` is its set-point. The computation. -/
def State.loopOut (s : State) (n : LaneIx) (l : Fin 3) (sp : Int) (isns : List (BitVec 12)) (flt : Bool) : LoopOut :=
  let x := s.loopSt n l
  let (raw, f) := s.fbRaw n l isns flt
  let y := s.fbY n l raw
  let active := decide (s.fld (LOOP.L_FB.FB_SRC n l) ≠ 0)
  let action := s.fld (LOOP.L_HW_CFG.ACTION n l)
  let h := hawthorn x y (s.fld (LOOP.L_HW_CFG.THR n l)) (bf (s.reg (LOOP.L_HW_CFG n l)).toNat 23 16) action f
  let used := if active then h.used else 0
  let x1 := if active then h.l else { x with yhat := 0 }
  let hold := active && h.act && decide (action = 1)
  let stopped := (s.engOf n).stopped
  let bank := x1.bank.val
  let pos := ((s.fbkOf n).seen s.lcyc).p
  let fric := if l.val = 1 ∧ s.flag (LOOP.FF_CFG.FRIC_EN n) then s.fric n used sp else 0
  let cog := if l.val = 1 ∧ s.flag (LOOP.FF_CFG.COG_EN n) then s.cog n pos else 0
  let (secs, o, st, fz) := runSecs (fun i => (s.coef n l bank i).toInt) (s.nSec n l bank) (s.intSec n l bank) x.satHi x.satLo 0
    x1.secs (sat24 (sp - used) * 65536)
  let upre := rdiv o 65536 + shr (sp * s.sreg (LOOP.L_KFF n l) 32) 16 + fric + cog
  let mx := s.sreg (LOOP.L_OUT_MAX n l) 24
  let mn := s.sreg (LOOP.L_OUT_MIN n l) 24
  let u := min mx (max mn upre)
  let inner := match l with
    | 0 => LoopSt.reset
    | 1 => s.loopSt n 0
    | 2 => s.loopSt n 1
  let prop := s.flag (LOOP.ENG_CFG.PROP n)
  let run := !stopped && !hold
  let x2 : LoopSt :=
    if run then
      { x1 with
        secs := secs, u := u, frozen := fz, satHi := decide (mx < upre) || (prop && inner.satHi),
        satLo := decide (upre < mn) || (prop && inner.satLo) }
    else { x1 with frozen := hold }
  let x3 : LoopSt := { x2 with
    sp := sp, y := used,
    model := if active then modelNext h.l.model sp h.r (s.fld (LOOP.L_HW_MODEL.ALPHA n l)) (s.fld (LOOP.L_HW_MODEL.CORR n l))
      (!h.l.implaus) else x2.model }
  { l := x3, fric := fric, cog := cog, secSat := run && st, outSat := if run && decide (u ≠ upre) then some upre else none,
    toBad := if active && h.toBad then some h.r else none, toGood := if active && h.toGood then some x.implausN else none }

/-- The events and records of a loop's sample. -/
def State.loopReport (s : State) (n : LaneIx) (l : Fin 3) (o : LoopOut) : State :=
  let s := if o.secSat then s.setEvt (LOOP.ENG_EVT.SEC_SAT n) else s
  let s := match o.outSat with
    | some upre =>
      let s := (s.bump ⟨LOOP.SAT_CNT n, 8 * l.val + 7, 8 * l.val⟩ 1).setEvt (LOOP.ENG_EVT.OUT_SAT n)
      s.recordFirst Rec.LOOP_SAT (4 * n.val + l.val) (pgLoop n) (wd n.val) (wd l.val) (wdI upre)
    | none => s
  let s := match o.toBad with
    | some r =>
      let s := (s.bump ⟨LOOP.HW_CNT n, 8 * l.val + 7, 8 * l.val⟩ 1).setEvt (LOOP.ENG_EVT.HW_IMPLAUS n)
      s.record Rec.HW_IMPLAUS (pgLoop n) (wd n.val) (wd l.val) (wdI r)
    | none => s
  match o.toGood with
  | some k => s.record Rec.HW_PLAUS (pgLoop n) (wd n.val) (wd l.val) (wd k)
  | none => s

/-- One loop's sample: a bank swap that waits, the computation, its state and its reports. -/
def State.runLoop (s : State) (n : LaneIx) (l : Fin 3) (sp : Int) (isns : List (BitVec 12)) (flt : Bool) : State :=
  let s := s.modLoop n l (fun x => if x.swapPend then { x with bank := 1 - x.bank, swapPend := false } else x)
  let o := s.loopOut n l sp isns flt
  let s := s.modLoop n l (fun _ => o.l)
  let s := if l.val = 1 then s.modEng n (fun e => { e with fric := o.fric, cog := o.cog }) else s
  s.loopReport n l o

/-- The run and stop confirmations of a MOTOR outlet at an L1 sample (R228, R273). -/
def State.motorSample (s : State) (n : LaneIx) : State :=
  let x := s.loopSt n 1
  let s := if x.sp ≠ 0 then s.modEng n (fun e => { e with spNonzero := x.sp }) else s
  if s.kind n 0 = 2 then
    let d := s.det n 0
    let y := x.y.natAbs * 100
    let ok := match d.st with
      | .openSearch => decide (s.fld (SNAP.MOTOR_CFG.RUN_PCT n) * x.sp.natAbs ≤ y)
      | .closeSearch => decide (y < s.fld (SNAP.MOTOR_CFG.STOP_PCT n) * (s.engOf n).spNonzero.natAbs)
      | _ => false
    if ok then
      let at0 := if d.motorRun = 0 then s.now else d.motorAt
      if d.motorRun + 1 = 4 then
        let s := s.modDet n 0 (fun d => { d with motorRun := 0 })
        if d.st = .openSearch then s.openFound n 0 at0 else s.closeFound n 0 at0
      else s.modDet n 0 (fun d => { d with motorRun := d.motorRun + 1, motorAt := at0 })
    else s.modDet n 0 (fun d => { d with motorRun := 0 })
  else s

/-- Whether the engine may start (R269). -/
def State.engMayStart (s : State) (n : LaneIx) : Bool :=
  s.flag (LOOP.ENG_CFG.EN n) && s.en (pgLoop n) && !s.inSafe n && decide (s.dev = .armed ∨ s.dev = .run) &&
    !(s.engOf n).safeStop

/-- The generator whose marks trigger the engine (R250). -/
def State.trigGen (s : State) (n : LaneIx) : Fin 4 := if s.flag (LOOP.ENG_CFG.TRIG_G n) then 3 else 0

/-- The marks of the kind TRIG_MARK that generator has emitted up to now. -/
def State.trigMarks (s : State) (n : LaneIx) : Nat :=
  (s.gen n (s.trigGen n)).markCount (s.flag (LOOP.ENG_CFG.TRIG_MARK n)) s.cyc

/-- A trigger falls in this TCLK cycle: every TRIG_DIV-th mark, counted from the engine's latest start (R250). -/
def State.trigNow (s : State) (n : LaneIx) : Bool :=
  (s.gen n (s.trigGen n)).markAt (s.flag (LOOP.ENG_CFG.TRIG_MARK n)) s.cyc &&
    decide ((s.trigMarks n - (s.engOf n).trigBase) % max 1 (s.fld (LOOP.ENG_CFG.TRIG_DIV n)) = 0)

/-- Start, or restart from STOPPED: histories, set-points, i and j at 0 (R269, R270). -/
def State.engStart (s : State) (n : LaneIx) : State :=
  let f := s.fbkOf n
  let base := s.trigMarks n
  s.modEng n (fun e => { e with
    running := true, stopped := false, i := 0, j := 0, trigBase := base, loops := e.loops.map LoopSt.cleared, commLost := false,
    commSeen := false, dr := false, drSteps := 0, uZero := true, uNeg := false, cmpLast := 0,
    sigma := (sectorOf f.lvl).getD e.sigma, hallOk := (sectorOf f.lvl).isSome })

/-- STOPPED (R270): OE = 0 on every phase, section histories cleared. -/
def State.engStopZero (s : State) (n : LaneIx) : State :=
  let s := s.queueSet n none (some (s.stopPhases n false))
  s.modEng n (fun e => { e with
    stopped := true, loops := e.loops.map (fun l => { l with secs := List.replicate 6 Section.zero, u := 0 }) })

/-- The loops due at this sample, outermost first (R251). -/
def State.dueLoops (s : State) (n : LaneIx) : List (Fin 3) :=
  let top := s.fld (LOOP.ENG_CFG.TOP n)
  let e := s.engOf n
  let d1 := decide (1 ≤ top) && decide (e.i % 2 ^ s.fld (LOOP.ENG_CFG.D1C n) = 0)
  let d2 := decide (2 ≤ top) && d1 && decide (e.j % s.fld (LOOP.ENG_CFG.D2 n) = 0)
  (if d2 then [2] else []) ++ (if d1 then [1] else []) ++ [0]

/-- The set-point of a loop in this sample: the slewed one for the TOP loop, the outer loop's latest output otherwise. -/
def State.loopSp (s : State) (n : LaneIx) (l : Fin 3) (topSp : Int) : Int :=
  if l.val = s.fld (LOOP.ENG_CFG.TOP n) then topSp
  else match l with
    | 0 => (s.loopSt n 1).u
    | 1 => (s.loopSt n 2).u
    | 2 => topSp

/-- Some loop is IMPLAUSIBLE under ACTION SAFE (R266). -/
def State.hawSafe (s : State) (n : LaneIx) : Option (Fin 3) :=
  [(0 : Fin 3), 1, 2].find? (fun l => (s.loopSt n l).implaus && decide (s.fld (LOOP.L_HW_CFG.ACTION n l) = 3))

/-- After the loops of a sample: a SAFE stop by Hawthorn, else the compare set of the sample, with the phases of the
commutation or, without it, the compare alone (R242, R251, R266, R268). -/
def State.engDrive (s : State) (n : LaneIx) (flt : Bool) : State :=
  match s.hawSafe n with
  | some l => s.safeStop n 0 l.val
  | none =>
    let u := (s.loopSt n 0).u
    let s := s.modEng n (fun e => { e with uNeg := decide (u < 0), uZero := decide (u = 0) })
    if s.driving n then
      let s := if flt then s.commFault n else s
      if s.driving n then s.queueSet n (some u.natAbs) (some (s.drivePhases n)) else s
    else if s.sixstep n = false ∧ (s.engOf n).stopped = false then s.queueSet n (some u.natAbs) none
    else s

/-- The top loop of the cascade (ENG_CFG.TOP). -/
def State.topLoop (s : State) (n : LaneIx) : Fin 3 :=
  let top := s.fld (LOOP.ENG_CFG.TOP n)
  if top = 1 then 1 else if top = 0 then 0 else 2

/-- The due loops of a sample, with the set-point `sp` of the top loop and the target `spt`, and the compare set. -/
def State.engLoops (s : State) (n : LaneIx) (isns : List (BitVec 12)) (flt : Bool) (spt sp : Int) : State :=
  let due := s.dueLoops n
  let zero := due.contains (s.topLoop n) && s.flag (LOOP.SP_CFG.ZERO_OFF n) && decide (spt = 0) && decide (sp = 0) &&
    !(s.engOf n).stopped
  let s := if zero then s.engStopZero n else s
  let s := overList due (fun l s => s.runLoop n l (s.loopSp n l sp) isns flt) s
  let l1 := due.contains 1
  let s := if l1 then s.motorSample n else s
  let s := s.modEng n (fun e => { e with i := e.i + 1, j := if l1 then e.j + 1 else e.j })
  s.engDrive n flt

/-- One accepted sample of a running engine (Table 9-1), with the interface's fault indication. -/
def State.engSample (s : State) (n : LaneIx) (isns : List (BitVec 12)) (flt : Bool) : State :=
  let topF := s.topLoop n
  let spt := s.target n
  let s := if (s.dueLoops n).contains topF && (s.engOf n).stopped && decide (spt ≠ 0) then s.engStart n else s
  let sp0 := (s.loopSt n topF).sp
  let sp := if (s.dueLoops n).contains topF then slew sp0 spt (s.fld (LOOP.SP_SLEW.SLEW_UP n)) (s.fld (LOOP.SP_SLEW.SLEW_DN n)) else sp0
  if (s.engOf n).draining ∧ sp = 0 then
    let s := s.queueSet n none (some (s.stopPhases n false))
    (s.modEng n (fun e => { e with running := false, stopped := false, draining := false })).setDrained (pgLoop n)
  else s.engLoops n isns flt spt sp

/-- What the runtime registers of an engine show. -/
def EngState.shows (e : EngState) (now : Time) : EngShow :=
  if now < e.showAt then e.shown
  else
    { loops := e.loops, fric := e.fric, cog := e.cog, uNeg := e.uNeg, running := e.running, stopped := e.stopped,
      safeStop := e.safeStop, count := e.i, freq := e.ainF.f }

/-- The runtime registers go on showing what they show until the compare set of this sample is written (Table 9-1 step 3). -/
def State.engHold (s : State) (n : LaneIx) : State :=
  s.modEng n (fun e => { e with shown := e.shows s.now, showAt := s.now + 2500000 })

/-- A trigger less than 25 µs after the last accepted one is an overrun, else it is an L0 sample (R251). -/
def State.trigger (s : State) (n : LaneIx) (isns : List (BitVec 12)) : State :=
  let e := s.engOf n
  let early := match e.lastTrig with
    | some a => decide (s.now < a + 25000000)
    | none => false
  if early then
    let s := (s.bumpReg (LOOP.OVR_CNT n) 1).setEvt (LOOP.ENG_EVT.OVERRUN n)
    s.recordFirst Rec.LOOP_OVERRUN n.val (pgLoop n) (wd n.val) 0 (wd ((s.now - e.lastTrig.getD 0) / tclkPs))
  else
    let flt := s.fbkFault n
    let s := (s.modEng n (fun e => { e with lastTrig := some s.now })).fbkTaken n
    let s := if e.running then s else if s.engMayStart n then s.engStart n else s
    if (s.engOf n).running then s.engSample n isns flt else s

/-- A mark of the trigger generator: the AIN results up to the mark give the frequency, then that of step 2 is taken (R253). -/
def State.ainTrigger (s : State) (n : LaneIx) (ain : List Sample) : State :=
  let s := s.ainSamples n (ain.filter (fun x => decide (x.time + 500000 ≤ s.now)))
  let s := s.modEng n (fun e => { e with ainF := e.ainF.update s.now (s.fld (⟨LOOP.AIN_TMO n, 15, 0⟩ : Fld)) })
  s.ainSamples n ain

/-- LOOP_TRIGGER: an accepted trigger is an L0 sample; one less than 25.000 µs after the previous is refused (R250).
`ain` are the AIN conversions since the previous trigger, the last being that of step 2; `isns` the sense codes. -/
def execLoopTrigger (t : Time) (n : LaneIx) (ain : List Sample) (isns : List (BitVec 12)) (s : State) : Res :=
  let s := (s.at t).pwmNow n
  if s.laneLive n then
    if s.trigNow n then
      let s := (s.engHold n).ainTrigger n ain
      if s.flag (LOOP.ENG_CFG.EN n) then .next (s.trigger n isns) else .next s
    else .next (s.ainSamples n ain)
  else .next s

/-! The other rows of chapter 9. -/

/-- COMM_DR_STEP: the interval between the last two valid Hall changes has passed again (R268). -/
def execCommDrStep (t : Time) (n : LaneIx) (s : State) : Res :=
  let s := (s.at t).pwmNow n
  let e := s.engOf n
  match e.hallInt with
  | none => .next s
  | some d =>
    if s.laneLive n ∧ s.driving n ∧ e.commLost ∧ s.flag (LOOP.COMM_CFG.COMM_DR n) ∧ e.drAt + d ≤ s.now then
      let s := s.modEng n (fun e => { e with
        sigma := (e.sigma + (if e.dirNeg then 5 else 1)) % 6, dr := true, drSteps := e.drSteps + 1, drAt := s.now })
      let s := s.setEvt (LOOP.ENG_EVT.DR n)
      let s := s.commSet n
      if s.fld (LOOP.COMM_CFG.DR_MAX n) ≤ e.drSteps + 1 then .next (s.safeStop n 1 0) else .next s
    else .next s

/-- SWAP bits of ENG_CTRL: a second SWAP of a loop before its next sample is ignored (R263). -/
def State.swapLoops (s : State) (n : LaneIx) (v : Nat) : State :=
  overList (List.finRange 3) (fun l s => if v.testBit l.val then s.modLoop n l (fun x => { x with swapPend := true }) else s) s

def execLoopSwap (t : Time) (n : LaneIx) (v : BitVec 3) (s : State) : Res :=
  let s := s.at t
  if s.laneLive n then .next (s.swapLoops n v.toNat) else .next s

/-- RESTART ends a SAFE stop; a loop left IMPLAUSIBLE under SAFE is PLAUSIBLE at the next start (R268, Table 9-4). -/
def State.engRestart (s : State) (n : LaneIx) : State := s.modEng n (fun e => { e with safeStop := false })

def execRestart (t : Time) (n : LaneIx) (s : State) : Res :=
  let s := s.at t
  if s.laneLive n then .next (s.engRestart n) else .next s

/-- A write of COEF_WINi (R264). -/
def State.coefWrite (s : State) (n : LaneIx) (i : Nat) (v : Word) : State :=
  let sel := (s.reg (LOOP.COEF_SEL n)).toNat
  let b := sel % 2
  match bf sel 5 4 with
  | 3 => s
  | lv =>
    let l : Fin 3 := if lv = 0 then 0 else if lv = 1 then 1 else 2
    let x := s.loopSt n l
    let put := fun (s : State) => s.modEng n (fun e => { e with
      coef := Sparse.set (fun _ => 0) e.coef ((2 * l.val + b) * 32 + i) v })
    if x.bank.val ≠ b then put s
    else if (s.fld (LOOP.BANK_LIVE.LIVE n)).testBit l.val then
      let s := (put s).setEvt (LOOP.ENG_EVT.LIVE_WRITE n)
      if x.liveSeen then s
      else (s.modLoop n l (fun x => { x with liveSeen := true })).record Rec.LIVE_WRITE (pgLoop n) (wd n.val) (wd l.val)
        (wd (LOOP.COEF_WIN n i % 4096))
    else s.err (pgLoop n) (LOOP.COEF_WIN n i) .activeBank

def execCoefWrite (t : Time) (n : LaneIx) (i : Fin 30) (v : Word) (s : State) : Res :=
  let s := s.at t
  if s.laneLive n then .next (s.coefWrite n i.val v) else .next s

/-- An action of the scheduler on a MOTOR outlet, handed to the engine (R164, R228, R255). -/
def State.motorAct (s : State) (n : LaneIx) (k : OutIx) (typ : EvtType) : State :=
  let on := (s.out n k).lastOn
  match typ with
  | .rate => s
  | .on =>
    let s := s.modOut n k (fun o => { o with lastOn := true })
    if on then s else s.openingStart n k s.now true true
  | .off =>
    let s := s.modOut n k (fun o => { o with lastOn := false })
    if on then s.closingStart n k s.now true else s

/-- PG_CTRL.EN = 0 of LOOPn: the target of a running engine becomes 0 until its first sample with sp = 0, a STOPPED one's
too; an engine that takes no samples is drained at once (R271). -/
def State.loopDrain (s : State) (n : LaneIx) : State :=
  if (s.engOf n).running then s.modEng n (fun e => { e with draining := true }) else s.setDrained (pgLoop n)

/-- A successful seal makes BANK0 active and forgets the live writes recorded (R263). -/
def State.sealLoop (s : State) (n : LaneIx) : State :=
  s.modEng n (fun e => { e with
    loops := e.loops.map (fun l => { l with bank := 0, swapPend := false, liveSeen := false }) })

/-! Live views (R275). -/

/-- ENG_STAT. -/
def State.engStat (s : State) (n : LaneIx) : Nat :=
  let e := s.engOf n
  let x := e.shows s.now
  let m := fun (p : LoopSt → Bool) => ((List.finRange 3).map (fun l => bitAt l.val (p (x.loops.get l)))).sum
  m (·.implaus) * 16777216 + m (fun l => l.satHi || l.satLo) * 1048576 + m (·.frozen) * 65536 +
    m (fun l => decide (l.bank = 1)) * 4096 +
    (if s.fld (FBK.IN_CFG.MODE n) = 1 then (s.fbkOf n).lvl.toNat else 0) * 256 + s.sigmaE n x.uNeg * 16 +
    bitAt 3 e.dr + bitAt 2 x.stopped + bitAt 1 x.safeStop + bitAt 0 x.running

end Sys2Proof.Machine
end

