-- ==== Sys2Proof/Machine/Feedback.lean ====
section
/-! DEFINITION. The position and speed feedback interface: decoding, direction hysteresis, index, speed and frequency,
encoder emulation (chapter 10, R276 to R293). -/
namespace Sys2Proof.Machine

/-- Wrap a position to 32 bits, signed (Table 9-2). -/
def wrap32 (x : Int) : Int := (BitVec.ofInt 32 x).toInt

/-- The decoder of a lane runs, in a given mode: 1 HALL, 2 QUAD, 3 PULSE. -/
def State.fbkIn (s : State) (n : LaneIx) (m : Nat) : Bool :=
  s.laneLive n && (s.fbkOf n).active && decide (s.fld (FBK.IN_CFG.MODE n) = m)

/-! The input stage (R276). -/

/-- The raw levels of the channels: a differential one reads the sign of P − N, a single-ended one its P leg. -/
def rawLevels (diff : BitVec 3) (x : Legs) : BitVec 3 := (diff &&& x.diff) ||| (~~~diff &&& x.p)

/-- The channels whose raw level holds for FILT + 1 cycles. -/
def heldMask (filt : Nat) (x : Legs) : BitVec 3 :=
  BitVec.ofNat 3 ((List.finRange 3).map (fun c => bitAt c.val (decide (filt < x.hold.get c)))).sum

/-- The filtered levels after the raw levels of `x`: a level that holds too briefly never reaches the decoder. -/
def State.filtered (s : State) (n : LaneIx) (x : Legs) : BitVec 3 :=
  let m := heldMask (s.fld (FBK.IN_CFG.FILT n)) x
  ((s.fbkOf n).lvl &&& ~~~m) ||| (rawLevels (BitVec.ofNat 3 (s.fld (FBK.IN_CFG.DIFF n))) x &&& m)

/-- The filter follows its inputs in every mode, and while the interface stands. -/
def State.fbkInput (s : State) (n : LaneIx) (x : Legs) : State :=
  let v := s.filtered n x
  (s.fbkLatch n).modFbk n (fun f => { f with lvl := v })

/-! Emulation targets (R290, R291). -/

/-- floor(p × NUM / DEN). -/
def State.emScale (s : State) (n : LaneIx) (p : Int) : Int :=
  fdiv (p * (s.fld (FBK.EM_RATIO.NUM n) : Int)) (s.fld (FBK.EM_RATIO.DEN n) : Int)

/-- e_t of R290. -/
def State.emTarget (s : State) (n : LaneIx) : Int := s.emScale n (s.fbkOf n).p - (s.fbkOf n).emB

/-- Follow |e_t − e_o| against LAG_MAX (R291). -/
def State.emCheck (s : State) (n : LaneIx) : State :=
  if s.flag (FBK.EM_CFG.EN n) then
    let f := s.fbkOf n
    let d := s.emTarget n - f.emO
    let lag := decide (s.fld (FBK.EM_CFG.LAG_MAX n) < d.natAbs)
    let s := s.modFbk n (fun f => { f with emLag := lag, emSeen := f.emSeen || lag })
    if lag && !f.emSeen then
      (s.setEvt (FBK.EVT.EM_LAG n)).record Rec.EM_LAG (pgFbk n) (wd n.val) 0 (wdI d)
    else s
  else s

/-- EM_CFG.EN becomes 1 on a running interface: b is taken from the present position, and e_o starts at 0 (R290). -/
def State.emStart (s : State) (n : LaneIx) : State :=
  s.modFbk n (fun f => { f with emB := s.emScale n f.p, emO := 0, emAt := s.now, emLag := false })

/-- [EMn_B EMn_A]: the state of e_o mod 4 in the sequence 0b00, 0b01, 0b11, 0b10 (R290). -/
def State.emLevels (s : State) (n : LaneIx) : BitVec 2 :=
  match ((s.fbkOf n).emO % 4).toNat with
  | 0 => 0
  | 1 => 1
  | 2 => 3
  | _ => 2

/-- Under REBASE a jump of the position moves b, so the output makes no steps (R291). -/
def State.emJump (s : State) (n : LaneIx) (p0 p1 : Int) : State :=
  if s.flag (FBK.EM_CFG.EN n) ∧ s.flag (FBK.EM_CFG.JUMP n) then
    s.modFbk n (fun f => { f with emB := f.emB + (s.emScale n p1 - s.emScale n p0) })
  else s

/-! Counts (R281, R284). -/

/-- The direction hysteresis of Table 10-2 for one count; `neg` is the count's direction after CNT_INV. -/
def hystStep (hyst : Bool) (f : FbkState) (neg : Bool) : FbkState :=
  let d : Int := if neg then -1 else 1
  let c := wrap32 (f.c + d)
  if !hyst then { f with c := c, p := c, dNeg := neg }
  else if f.pend then
    if neg = f.dNeg then { f with c := c, pend := false }
    else { f with c := c, p := wrap32 (f.p + 2 * d), dNeg := neg, pend := false }
  else if neg = f.dNeg then { f with c := c, p := wrap32 (f.p + d) }
  else { f with c := c, pend := true }

/-- Time one count: the first after a start is the reference (R284). -/
def FbkState.stamp (f : FbkState) (now : Time) : FbkState :=
  let f := { f with lastAt := some now, timeout := false, edges := (f.edges + 1) % 4294967296 }
  match f.refAt with
  | none => { f with refAt := some now, refP := f.p, n := 0 }
  | some _ => { f with n := f.n + 1 }

/-- One count of a HALL or QUAD decoder. -/
def State.count1 (s : State) (n : LaneIx) (neg : Bool) : State :=
  let inv := s.flag (FBK.IN_CFG.CNT_INV n)
  let hyst := s.flag (FBK.IN_CFG.HYST_EN n)
  let t := s.now
  s.modFbk n (fun f => (hystStep hyst f (Bool.xor neg inv)).stamp t)

/-- `k` counts in one direction. -/
def State.counts (s : State) (n : LaneIx) : Nat → Bool → State
  | 0, _ => s
  | k + 1, neg => (s.count1 n neg).counts n k neg

/-! The rows of chapter 10. -/

/-- A change of two or three sectors sets HALL_SKIP (R281). -/
def State.hallSkip (s : State) (n : LaneIx) (δ : Nat) : State :=
  if 2 ≤ δ ∧ δ ≤ 4 then
    let dv : Int := if δ = 4 then -2 else (δ : Int)
    let s := s.fbkFlag n
    let s := (s.bump (FBK.ILLEGAL_CNT.HALL_SKIP n) 1).setEvt (FBK.EVT.HALL_SKIP n)
    s.recordFirst Rec.HALL_SKIP n.val (pgFbk n) (wd n.val) 0 (wdI dv)
  else s

/-- The counts of a change of `δ` sectors, modulo 6 (R280). -/
def State.hallCount (s : State) (n : LaneIx) (δ : Nat) : State :=
  if δ = 1 then s.counts n 1 false else if δ = 2 then s.counts n 2 false
  else if δ = 4 then s.counts n 2 true else if δ = 5 then s.counts n 1 true else s

/-- The filtered Hall state has become `h` = [Z B A], an impossible state or a sector (R280); both reach the engine (R268). -/
def State.hallInput (s : State) (n : LaneIx) (h : BitVec 3) : State :=
  let last := (s.fbkOf n).sigmaLast
  match sectorOf h with
  | none =>
    let s := s.modFbk n (fun f => { f with hallBad := true })
    let s := (s.bumpReg (FBK.HALL_BAD_CNT n) 1).setEvt (FBK.EVT.HALL_BAD n)
    let s := s.recordFirst Rec.HALL_BAD n.val (pgFbk n) (wd n.val) 0 (wd h.toNat)
    s.commFault n
  | some σ =>
    let s := s.modFbk n (fun f => { f with hallBad := false, sigmaLast := some σ })
    match last with
    | none => s.commHall n σ none
    | some σ0 =>
      let δ := (σ + 6 - σ0) % 6
      let s := ((s.hallSkip n δ).hallCount n δ).emCheck n
      if δ = 0 then s.commHall n σ none
      else s.commHall n σ (if δ = 3 then none else some (decide (4 ≤ δ)))

/-- HALL_CHANGE: the filtered Hall state changes (R280). -/
def execHallChange (t : Time) (n : LaneIx) (x : Legs) (s : State) : Res :=
  let s := (s.at t).pwmNow n
  let old := (s.fbkOf n).lvl
  let s := s.fbkInput n x
  let h := (s.fbkOf n).lvl
  if s.fbkIn n 1 ∧ old ≠ h then .next (s.hallInput n h) else .next s

/-- The place of q = [B A] in the forward sequence 0b00, 0b01, 0b11, 0b10 (R279). -/
def quadIx (q : Nat) : Nat := match q % 4 with
  | 0 => 0
  | 1 => 1
  | 3 => 2
  | _ => 3

/-- The count of a change from q to q' = [B A]; a change of both bits is illegal (R279). -/
def State.quadCount (s : State) (n : LaneIx) (q q' : Nat) : State :=
  let d := (quadIx q' + 4 - quadIx q) % 4
  if d = 0 then s
  else if d = 2 then
    let neg := (s.fbkOf n).dNeg
    let s := s.fbkFlag n
    let s := (s.bump (FBK.ILLEGAL_CNT.ILLEGAL n) 1).setEvt (FBK.EVT.ILLEGAL n)
    let s := s.recordFirst Rec.QUAD_ILLEGAL n.val (pgFbk n) (wd n.val) 0 (wd q)
    if s.flag (FBK.IN_CFG.DOUBLE_STEP n) then
      (s.counts n 2 (Bool.xor neg (s.flag (FBK.IN_CFG.CNT_INV n)))).emCheck n
    else s
  else (s.counts n 1 (decide (d = 3))).emCheck n

/-- An edge of A to level `a`, with B at level `b`: one of the configured polarity moves p by its sign (R285). -/
def State.pulseCount (s : State) (n : LaneIx) (a b : Bool) : State :=
  let e := s.fld (FBK.PULSE_CFG.EDGE n)
  if e = 2 ∨ (e = 0 ∧ a = true) ∨ (e = 1 ∧ a = false) then
    let rev := s.flag (FBK.PULSE_CFG.DIR_EN n) && (if s.flag (FBK.PULSE_CFG.DIR_POL n) then !b else b)
    let neg := Bool.xor rev (s.flag (FBK.IN_CFG.CNT_INV n))
    let t := s.now
    let s := s.modFbk n (fun f =>
      let p := wrap32 (f.p + (if neg then -1 else 1))
      ({ f with c := p, p := p, lastNeg := neg }).stamp t)
    s.emCheck n
  else s

/-- PULSE_EDGE: an edge of the filtered A in PULSE mode (R285). -/
def execPulseEdge (t : Time) (n : LaneIx) (x : Legs) (s : State) : Res :=
  let s := s.at t
  let old := (s.fbkOf n).lvl
  let s := s.fbkInput n x
  let v := (s.fbkOf n).lvl
  if s.fbkIn n 3 ∧ old.getLsbD 0 ≠ v.getLsbD 0 then .next (s.pulseCount n (v.getLsbD 0) (v.getLsbD 1)) else .next s

/-- The error of an index event, in the range −floor(CPR / 2) to CPR − 1 − floor(CPR / 2) (R282). -/
def idxError (c : Int) (pos cpr : Nat) : Int := (c - (pos : Int) + ((cpr / 2 : Nat) : Int)) % (cpr : Int) - ((cpr / 2 : Nat) : Int)

/-- A correction or a load moves c, p and the speed's reference by the same amount (R283, R284, R287). -/
def State.moveTo (s : State) (n : LaneIx) (c p : Int) : State :=
  let p0 := (s.fbkOf n).p
  let s := s.modFbk n (fun f => { f with c := c, p := p, refP := f.refP + (p - p0) })
  (s.emJump n p0 p).emCheck n

/-- The position is corrected by the index error `e` (R282). -/
def State.idxFix (s : State) (n : LaneIx) (c p e : Int) : State :=
  ((s.moveTo n (wrap32 (c - e)) (wrap32 (p - e))).setEvt (FBK.EVT.IDX_RESYNC n)).record Rec.IDX_RESYNC (pgFbk n)
    (wd n.val) 0 (wdI e)

/-- A nonzero index error `e`: counted, flagged and, by POLICY, corrected; `f` is the interface before the event (R282). -/
def State.idxFault (s : State) (n : LaneIx) (f : FbkState) (e : Int) : State :=
  let pol := s.fld (FBK.IDX_CFG.POLICY n)
  let s := (s.bumpReg (FBK.IDX_ERR_CNT n) 1).setEvt (FBK.EVT.IDX_ERR n)
  let s := s.recordFirst Rec.IDX_ERR n.val (pgFbk n) (wd n.val) 0 (wdI e)
  if pol = 1 then s.idxFix n f.c f.p e
  else if pol = 2 ∧ f.idxErr = some e then s.idxFix n f.c f.p e
  else s

/-- An index event: the error, the first homing, or the fault (R282, R283). -/
def State.idxEvent (s : State) (n : LaneIx) (f : FbkState) : State :=
  let e := idxError f.c (s.fld (⟨FBK.IDX_POS n, 23, 0⟩ : Fld)) (s.fld (FBK.IDX_CFG.CPR n))
  let pol := s.fld (FBK.IDX_CFG.POLICY n)
  let home := s.flag (FBK.IDX_CFG.HOME_FIRST n) && !f.homed
  let s := s.modFbk n (fun f => { f with
    idxLast := e, homed := f.homed || s.flag (FBK.IDX_CFG.HOME_FIRST n), idxErr := if e = 0 then none else some e })
  if e = 0 then s
  else if home ∧ (pol = 1 ∨ pol = 2) then s.idxFix n f.c f.p e
  else s.idxFault n f e

/-- The filtered levels of a QUAD interface have changed from `old` to `new`: the count of A and B, then the index event of an
edge of Z in the direction of motion (R279, R282, R287). -/
def State.quadInput (s : State) (n : LaneIx) (old new : BitVec 3) : State :=
  let s := s.quadCount n (old.toNat % 4) (new.toNat % 4)
  let f := s.fbkOf n
  let gate := !s.flag (FBK.IDX_CFG.GATE_EN n) || decide (new.toNat % 4 = s.fld (FBK.IDX_CFG.GATE_AB n))
  let rise := new.getLsbD 2
  if old.getLsbD 2 ≠ rise ∧ s.flag (FBK.IDX_CFG.IDX_EN n) ∧ rise = !f.dNeg ∧ gate then s.idxEvent n f else s

/-- QUAD_EDGE: a filtered edge of A or B in QUAD mode (R279). -/
def execQuadEdge (t : Time) (n : LaneIx) (x : Legs) (s : State) : Res :=
  let s := s.at t
  let old := (s.fbkOf n).lvl
  let s := s.fbkInput n x
  let new := (s.fbkOf n).lvl
  if s.fbkIn n 2 ∧ old.toNat % 4 ≠ new.toNat % 4 then .next (s.quadInput n old new) else .next s

/-- INDEX: an edge of the filtered Z in QUAD mode (R282, R283). -/
def execIndex (t : Time) (n : LaneIx) (x : Legs) (s : State) : Res :=
  let s := s.at t
  let old := (s.fbkOf n).lvl
  let s := s.fbkInput n x
  let new := (s.fbkOf n).lvl
  if s.fbkIn n 2 ∧ old.getLsbD 2 ≠ new.getLsbD 2 then .next (s.quadInput n old new) else .next s

/-- Channel `c` is watched for wire disagreement: differential, with WIRE_EN = 1 (R277). -/
def State.wireWatched (s : State) (n : LaneIx) (c : Fin 3) : Bool :=
  s.laneLive n && s.flag (FBK.WIRE_CFG.WIRE_EN n) && (s.fld (FBK.IN_CFG.DIFF n)).testBit c.val

/-- WIRE_DISAGREE: both legs have read the same level for `hold` consecutive cycles (R277); in HALL mode the disagreement is an
interface fault for commutation (R268). -/
def execWireDisagree (t : Time) (n : LaneIx) (c : Fin 3) (hold : Nat) (s : State) : Res :=
  let s := s.at t
  if s.wireWatched n c ∧ s.fld (FBK.WIRE_CFG.WIRE_CYC n) < hold ∧ (s.fbkOf n).wire.getLsbD c.val = false then
    let s := (s.fbkLatch n).modFbk n (fun f => { f with wire := f.wire ||| BitVec.ofNat 3 (1 <<< c.val) })
    let s := s.setEvt (FBK.EVT.WIRE n)
    let s := s.bump ⟨FBK.WIRE_CNT n, 8 * c.val + 7, 8 * c.val⟩ 1
    let s := s.recordFirst Rec.FBK_WIRE (4 * n.val + c.val) (pgFbk n) (wd n.val) (wd c.val) (wd c.val)
    .next (if s.fbkIn n 1 then s.commFault n else s)
  else .next s

/-- WIRE_DISAGREE_END (R277). -/
def execWireDisagreeEnd (t : Time) (n : LaneIx) (c : Fin 3) (s : State) : Res :=
  let s := s.at t
  if s.laneLive n ∧ (s.fbkOf n).wire.getLsbD c.val = true then
    .next ((s.fbkLatch n).modFbk n (fun f => { f with wire := f.wire &&& ~~~ (BitVec.ofNat 3 (1 <<< c.val)) }))
  else .next s

/-- A frequency in mHz from `n` edges over `d` TCLK cycles, saturating to 32 bits (R285). -/
def edgeRate (n d : Nat) : Nat := min 4294967295 (n * 400000000000 / d)

/-- s in PULSE mode: the sign of the latest edge × floor(F × 256 / 1,000). -/
def pulseSpeed (neg : Bool) (fr : Nat) : Int := (if neg then -1 else 1) * ((fr * 256 / 1000 : Nat) : Int)

/-- Speed and frequency at an update instant, `d` cycles from the reference to the latest count and `e` from that to the
instant; `free` is the result where counts came within one cycle, d = 0, which the spec leaves open (R284, R285). -/
def FbkState.update (f : FbkState) (pulse : Bool) (tmo d e : Nat) (l : Time) (free : Word) : FbkState :=
  if 0 < f.n then
    let delta : Int := wrap32 (f.p - f.refP)
    let fr := if pulse then (if d = 0 then free.toNat else edgeRate f.n d) else 0
    let sp : Int :=
      if pulse then pulseSpeed f.lastNeg fr
      else if delta = 0 then 0
      else if d = 0 then free.toInt
      else satS 32 (fdiv (delta * 102400000000) (d : Int))
    { f with freq := fr, spd := sp, eLast := d / f.n, refAt := some l, refP := f.p, n := 0 }
  else if 400000 * tmo < e then { f with spd := 0, freq := 0, timeout := true }
  else if f.eLast < e then
    if pulse then
      let fr := if f.freq = 0 then 0 else edgeRate 1 e
      { f with freq := fr, spd := pulseSpeed f.lastNeg fr }
    else { f with spd := isign f.spd * ((102400000000 / e : Nat) : Int) }
  else f

/-- SPEED_UPDATE: an update instant, a multiple of 1,000 × UPD_US ns (R284 to R286). -/
def execSpeedUpdate (t : Time) (n : LaneIx) (s : State) : Res :=
  let s := s.at t
  let f := s.fbkOf n
  let m := s.fld (FBK.IN_CFG.MODE n)
  let upd := s.fld (FBK.SPD_CFG.UPD_US n)
  let tmo := s.fld (FBK.SPD_CFG.TMO_MS n)
  if s.laneLive n ∧ f.active ∧ m ≠ 0 ∧ s.now % (upd * usPs) = 0 then
    let s := s.fbkLatch n
    match f.refAt, f.lastAt with
    | some r, some l =>
      let d := (l - r) / tclkPs
      let e := (s.now - l) / tclkPs
      let (free, s) := if 0 < f.n ∧ d = 0 then s.free else (0, s)
      .next (s.modFbk n (fun f =>
        let f := f.update (decide (m = 3)) tmo d e l (free.setWidth 32)
        { f with posPub := f.p }))
    | _, _ => .next (s.modFbk n (fun f => { f with posPub := f.p }))
  else .next s

/-- POS_LOAD: c := p := the written value, PEND clears, d is unchanged (R287). -/
def State.posLoad (s : State) (n : LaneIx) (v : Word) : State :=
  ((s.fbkLatch n).moveTo n v.toInt v.toInt).modFbk n (fun f => { f with pend := false })

def execPosLoad (t : Time) (n : LaneIx) (v : Word) (s : State) : Res :=
  let s := s.at t
  if s.laneLive n then .next (s.posLoad n v) else .next s

/-- EM_STEP: e_o moves one step toward e_t, MINT cycles after the last step; in safe state the outputs hold (R290, R291). -/
def execEmStep (t : Time) (n : LaneIx) (s : State) : Res :=
  let s := s.at t
  let f := s.fbkOf n
  let et := s.emTarget n
  if s.laneLive n ∧ f.active ∧ s.flag (FBK.EM_CFG.EN n) ∧ s.inSafe n = false ∧ et ≠ f.emO ∧
      f.emAt + s.fld (FBK.EM_CFG.MINT n) * tclkPs ≤ s.now then
    .next ((s.modFbk n (fun f => { f with emO := f.emO + isign (et - f.emO), emAt := s.now })).emCheck n)
  else .next s

/-! Start and stop (R288, R289). -/

/-- A seal starts the interface with the present levels and no count; with MODE = OFF everything it publishes reads 0 (R278). -/
def State.fbkStart (s : State) (n : LaneIx) : State :=
  let m := s.fld (FBK.IN_CFG.MODE n)
  if s.fenced n then s
  else s.modFbk n (fun f => { FbkState.reset with
    active := decide (m ≠ 0), lvl := f.lvl, sigmaLast := if m = 1 then sectorOf f.lvl else none, wire := f.wire,
    edges := f.edges, emAt := s.now })

/-- A write of 1 to PG_CTRL.EN starts it too, with MODE ≠ OFF (R288). -/
def State.fbkEnable (s : State) (n : LaneIx) : State := if s.fld (FBK.IN_CFG.MODE n) ≠ 0 then s.fbkStart n else s

/-- PG_CTRL.EN = 0 stops counting and updating at once (R289). -/
def State.fbkStop (s : State) (n : LaneIx) : State :=
  (s.modFbk n (fun f => { f with active := false })).setDrained (pgFbk n)

/-! Live views (R293). -/

/-- FBK STAT. -/
def State.fbkStat (s : State) (n : LaneIx) : Nat :=
  let f := s.fbkOf n
  f.wire.toNat * 65536 + bitAt 13 f.homed + bitAt 12 f.pend + bitAt 11 f.dNeg + f.lvl.toNat * 256 + bitAt 7 f.hallBad +
    bitAt 6 f.timeout + bitAt 5 f.emLag + bitAt 0 f.active

end Sys2Proof.Machine
end

