-- ==== Sys2Proof/Machine/Lane.lean ====
section
/-! DEFINITION. A lane's side of the die-to-die segment and its scheduler: link flits, admission, travel updates, re-aim,
firing, queue end, drain, dead reckoning and safe state (R20 to R25, R152 to R176, R491, R492). -/
namespace Sys2Proof.Machine

/-! SAFE_N (R24). -/

/-- SAFE_N of a lane is driven low, by the cases of R24. -/
def State.safeNLow (s : State) (n : LaneIx) : Bool :=
  s.fenced n || s.pfail || s.clockLost || s.supplySafe ||
  (match s.dev with
   | .off | .reset | .boot | .primrose | .standby => true
   | .idle => !s.idleDrain || (s.lane n).drained
   | _ => false) ||
  (if s.single then
     match s.laurel.singleStopAt with
     | some a => decide (a + s.fld SCHED.SCHED_CFG.DR_MS * msPs ≤ s.now)
     | none => false
   else
     match s.laurel.noChargeAt with
     | some a => decide (a + 20 * usPs ≤ s.now)
     | none => false)

/-! The event queue (Table 5-2). -/

def noEntry : Nat → Option QEntry := fun _ => none

/-- The queue's entries with their numbers. -/
def LaneState.entries (l : LaneState) : List (Nat × QEntry) :=
  l.queue.filterMap (fun p => p.2.map (fun e => (p.1, e)))

/-- OCC: the entries that are not FREE. -/
def LaneState.occ (l : LaneState) : Nat := l.entries.length

/-- The first FREE entry. -/
def LaneState.freeEntry (l : LaneState) : Option Nat :=
  if l.queue.length < 64 then findIdxFrom (fun i => (Sparse.get noEntry l.queue i).isNone) 64 0 else none

/-- Put an event into the queue; none where no entry is FREE. -/
def LaneState.accept (l : LaneState) (e : QEntry) : Option LaneState :=
  l.freeEntry.map (fun i => { l with
    queue := Sparse.set noEntry l.queue i (some { e with adm := l.nextAdm + 1 }), nextAdm := l.nextAdm + 1,
    lastTarget := l.lastTarget.set e.outlet e.xv })

/-- Count in DISC_CNT. -/
def State.torn (s : State) (n : LaneIx) : State := (s.bump (LANE.DISC_CNT.TORN n) 1).setEvt SCHED.SCHED_EVT.TORN
def State.merged (s : State) (n : LaneIx) : State := s.bump (LANE.DISC_CNT.MERGED n) 1
def State.pairCancel (s : State) (n : LaneIx) : State :=
  (s.bump (LANE.DISC_CNT.PAIR_CANCEL n) 1).setEvt SCHED.SCHED_EVT.PAIR_CANCEL

/-- Cancel every entry, counted in CANCEL_CNT (Table 5-2). -/
def State.cancelAll (s : State) (n : LaneIx) : State :=
  (s.bumpReg (LANE.CANCEL_CNT n) (s.lane n).occ).modLane n (fun l => { l with queue := [] })

/-- A QCLR payload (Table 5-1): cause 1 SAFE_N, 2 DR_EXPIRED, 3 DRAIN_END, 4 LANE_DISABLED. -/
def qclrWord (cause mask : Nat) : Word := wd (cause * 256 + mask)

/-! Safe state (R25, R175, R176). -/

/-- The lane enters safe state by SAFE_N: every entry is cancelled, outlets, engine and generators stop. -/
def State.enterSafe (s : State) (n : LaneIx) : State :=
  let m := s.openMask n
  let s := s.cancelAll n
  let s := s.bankSafe n
  let s := (s.engSafe n).pwmSafe n
  s.modLane n (fun l => { l with safeLow := true, safeMask := m, draining := none })

/-- SAFE_N rises: the lane leaves safe state and sends QCLR with cause SAFE_N. -/
def State.leaveSafe (s : State) (n : LaneIx) : State :=
  let l := s.lane n
  let s := s.modLane n (fun l => { l with safeLow := false, safeMask := 0 })
  let s := s.pwmUnsafe n
  s.sendUp n fuQclr (qclrWord 1 l.safeMask)

/-- SAFE_N_FALL: the level of R24 has gone low. -/
def execSafeNFall (t : Time) (n : LaneIx) (s : State) : Res :=
  let s := s.at t
  if s.laneLive n ∧ s.safeNLow n ∧ (s.lane n).safeLow = false then .next (s.enterSafe n) else .next s

/-- SAFE_N_RISE: no case of R24 holds any more. -/
def execSafeNRise (t : Time) (n : LaneIx) (s : State) : Res :=
  let s := s.at t
  if s.laneLive n ∧ s.safeNLow n = false ∧ (s.lane n).safeLow then .next (s.leaveSafe n) else .next s

/-! Admitting an event (R155 to R157). -/

/-- An EVT_A that waits is torn by the next sequenced flit that is not its EVT_B (R155). -/
def State.tear (s : State) (n : LaneIx) : State :=
  if (s.lane n).pendA.isSome then (s.modLane n (fun l => { l with pendA := none })).torn n else s

/-- The payload of EVT_ACK and EVT_FULL (Table 5-1). -/
def ackWord (k : OutIx) (typ : Nat) (dup : Bool) (xlo : Nat) : Word :=
  wd (k.val * 536870912 + typ * 134217728 + b2n dup * 67108864 + xlo % 16777216)

def evtTypeOf (v : Nat) : Option EvtType := if v = 0 then some .on else if v = 1 then some .off else if v = 2 then some .rate else none

/-- The lane checks an event at the end of its EVT_B and admits it, or counts and discards it (R155 to R157). -/
def State.admitEvent (s : State) (n : LaneIx) (a b : Flit) : State :=
  let p := b.payload.toNat
  let k : OutIx := Fin.ofNat 8 (bf p 31 29)
  let cls := bf p 26 24
  let val := bf p 23 0
  match epochCheck a.epoch (s.epoch (pgLane n)) with
  | .stale => (s.bump (LANE.EPOCH_CNT.STALE n) 1).setEvt SCHED.SCHED_EVT.STALE
  | .ahead => s.bump (LANE.EPOCH_CNT.AHEAD n) 1
  | .accepted =>
    match evtTypeOf (bf p 28 27) with
    | none => s.torn n
    | some typ =>
      if 3 < cls then s.torn n
      else
        let l := s.lane n
        if l.draining.isSome then s
        else
          let xv := nearest48 (l.trav.get k).tl a.payload.toNat
          if l.entries.any (fun q => decide (q.2.outlet = k ∧ q.2.typ = typ ∧ q.2.xv = xv ∧ q.2.val = val)) then
            (s.bump (LANE.DISC_CNT.DUP n) 1).sendUp n fuAck (ackWord k typ.code true xv)
          else
            let e : QEntry :=
              { st := .waiting, outlet := k, typ := typ, aimTyp := typ, cls := BitVec.ofNat 3 cls, val := val, xv := xv,
                c := 0, adm := 0, admAt := s.now, fireAt := 0, late := false, lateness := 0, implicit := false,
                also := none }
            match l.accept e with
            | none =>
              let s := (s.bumpReg (LANE.QFULL_CNT n) 1).setEvt SCHED.SCHED_EVT.EVT_FULL
              let s := s.recordFirst Rec.EVT_FULL n.val (pgLane n) (wd n.val) (wd k.val) (wd l.occ)
              s.sendUp n fuFull (ackWord k typ.code false xv)
            | some l' =>
              let s := s.modLane n (fun _ => l')
              let s := s.keepMax ⟨LANE.SQ_PEAK n, 6, 0⟩ l'.occ
              let s := if l.safeLow ∨ l.disabled then s.cancelAll n else s
              s.sendUp n fuAck (ackWord k typ.code false xv)

/-- An EVT_B: with the EVT_A that it directly follows it makes an event. -/
def State.takeEvtB (s : State) (n : LaneIx) (f : Flit) : State :=
  match (s.lane n).pendA with
  | none => s
  | some a =>
    let s := s.modLane n (fun l => { l with pendA := none })
    if a.epoch = f.epoch ∧ f.seq = a.seq + 1 then s.admitEvent n a f else s.torn n

/-! Travel updates (R158 to R160). -/

/-- The TRV_T, TRV_S pairs of an update for outlets 0 to 7, as raw words; none where types, epochs or sequence break. -/
def trvPairs (e : Epoch) : Nat → BitVec 4 → List Flit → Option (List (Word × Word))
  | 0, _, [] => some []
  | k + 1, q, a :: b :: fs =>
    if a.typ.toNat = ftTrvT ∧ b.typ.toNat = ftTrvS ∧ a.epoch = e ∧ b.epoch = e ∧ a.seq = q + 1 ∧ b.seq = q + 2 then
      (trvPairs e k (q + 2) fs).map (fun r => (a.payload, b.payload) :: r)
    else none
  | _, _, _ => none

/-- t_k: the multiple of 100,000 ns nearest the lane's ring time with the given k[30:0] (R158). -/
def poseInstant (now : Time) (k31 : Nat) : Time :=
  let kn := now / 100000000
  let d := sx 31 ((k31 + 2147483648 - kn % 2147483648) % 2147483648)
  (((kn : Int) + d).toNat) * 100000000

/-- Accept a whole update. The updates of the last 100 ms are kept: no search window is longer than 80 ms (R214, R219,
R223). -/
def State.takeUpdate (s : State) (n : LaneIx) (h : Flit) (ps : List (Word × Word)) : State :=
  let zeroed := h.payload.toNat.testBit 31
  let tk := poseInstant s.now (h.payload.toNat % 2147483648)
  s.modLane n (fun l =>
    let trav := Vector.ofFn (fun (k : Fin 8) =>
      let v := l.trav.get k
      let p := nth (0, 0) ps k.val
      if zeroed then ({ tk := p.1.toNat, sk := p.2.toInt, tl := p.1.toNat } : LaneTravel)
      else { tk := nearest48 v.tl p.1.toNat, sk := p.2.toInt, tl := v.tl })
    { l with
      trav := trav, tk := tk, updAt := s.now, drExpired := false,
      hist := { at_ := s.now, tk := tk, trav := trav } :: l.hist.filter (fun u => decide (s.now ≤ u.at_ + 100 * msPs)) })

/-- A flit of a travel update: the header starts one, and the seventeenth completes it; it counts only whole, in order, with
one epoch that R35 accepts. -/
def State.takeTrv (s : State) (n : LaneIx) (f : Flit) : State :=
  let fs := if f.typ.toNat = ftTrvHdr then [f] else if (s.lane n).trvAsm.isEmpty then [] else (s.lane n).trvAsm ++ [f]
  let s := s.modLane n (fun l => { l with trvAsm := if fs.length < 17 then fs else [] })
  match fs with
  | [] => s
  | h :: r =>
    if fs.length < 17 then s
    else
      match trvPairs h.epoch 8 h.seq r, epochCheck h.epoch (s.epoch (pgLane n)) with
      | some ps, .accepted => s.takeUpdate n h ps
      | some _, .stale => (s.bump (LANE.EPOCH_CNT.STALE n) 1).setEvt SCHED.SCHED_EVT.STALE
      | some _, .ahead => s.bump (LANE.EPOCH_CNT.AHEAD n) 1
      | none, _ => s

/-! EPOCH_ADV, QEND, DRAIN, SP_DEM (R172, R174, R175, R256). -/

/-- EPOCH_ADV: the two copies must agree and lead the lane's epoch (R172). -/
def State.takeAdv (s : State) (n : LaneIx) (f : Flit) : State :=
  let e : Epoch := f.payload.setWidth 16
  if f.payload.toNat ≠ f.epoch.toNat then s.torn n
  else if 0 < epochDiff e (s.epoch (pgLane n)) then
    (s.setEpoch (pgLane n) e).modLane n (fun l => { l with lost := false })
  else (s.bump (LANE.EPOCH_CNT.STALE n) 1).setEvt SCHED.SCHED_EVT.STALE

/-- An ON that falls due in this very cycle goes ahead of QEND or DRAIN, and counts as a queued event (R176). -/
def LaneState.onDue (l : LaneState) (k : OutIx) (now : Time) : Bool :=
  l.entries.any (fun q => decide (q.2.outlet = k ∧ q.2.typ = .on ∧ q.2.st = .armed ∧ q.2.fireAt ≤ now))

/-- Queue an implicit OFF for every outlet that is open and has no queued OFF (R174). -/
def State.queueEnd (s : State) (n : LaneIx) : State :=
  overList (List.finRange 8) (fun k s =>
    let l := s.lane n
    if (s.isOpen n k ∨ l.onDue k s.now) ∧ !(l.entries.any (fun q => decide (q.2.outlet = k ∧ q.2.typ = .off))) then
      let tl := l.tl k s.now
      let e : QEntry :=
        { st := .waiting, outlet := k, typ := .off, aimTyp := .off, cls := 0, val := 0,
          xv := max48 (l.lastTarget.get k) tl, c := 0, adm := 0, admAt := s.now, fireAt := 0, late := false,
          lateness := 0, implicit := true, also := none }
      match l.accept e with
      | some l' => (s.modLane n (fun _ => l')).keepMax ⟨LANE.SQ_PEAK n, 6, 0⟩ l'.occ
      | none => s
    else s) s

def ftSpDem : Nat := 0xC

/-- A one-flit command that R35 has accepted: QEND (R174); DRAIN, after which no new event is admitted and open outlets are
treated as at QEND (R175); SP_DEM, the latest demand of the lane's product (R256). -/
def State.takeCtrl (s : State) (n : LaneIx) (f : Flit) : State :=
  if f.typ.toNat = ftQend then s.queueEnd n
  else if f.typ.toNat = ftDrain then (s.queueEnd n).modLane n (fun l => { l with draining := some s.now })
  else if f.typ.toNat = ftSpDem then s.modEng n (fun e => { e with dem := f.payload })
  else s

/-- An accepted sequenced flit takes its effect. One that continues no event tears the EVT_A that waits, and one that is no
part of a travel update ends the update. -/
def State.laneTakes (s : State) (n : LaneIx) (f : Flit) : State :=
  if f.typ.toNat = ftEvtB then (s.modLane n (fun l => { l with trvAsm := [] })).takeEvtB n f
  else
    let s := s.tear n
    if f.typ.toNat = ftTrvHdr ∨ f.typ.toNat = ftTrvT ∨ f.typ.toNat = ftTrvS then s.takeTrv n f
    else
      let s := s.modLane n (fun l => { l with trvAsm := [] })
      if f.typ.toNat = ftEvtA then s.modLane n (fun l => { l with pendA := some f })
      else if f.typ.toNat = ftEpochAdv then s.takeAdv n f
      else
        match epochCheck f.epoch (s.epoch (pgLane n)) with
        | .accepted => s.takeCtrl n f
        | .stale => (s.bump (LANE.EPOCH_CNT.STALE n) 1).setEvt SCHED.SCHED_EVT.STALE
        | .ahead => s.bump (LANE.EPOCH_CNT.AHEAD n) 1

/-- A link flit with a correct CRC-8 arrives at the lane: it counts as accepted, and its acknowledgement goes to the lane's
own sender (R22, R491). -/
def State.linkDn (s : State) (n : LaneIx) (f : Flit) : State :=
  let s := s.dnAccepted n f.epoch (decide (f.typ.toNat = ftPortIdle))
  let q : BitVec 4 := f.payload.setWidth 4
  if f.typ.toNat = ftNak then s.nakDir n .up q else s.ackDir n .up q

/-- A flit arrives on DN at a lane (R491). -/
def State.flitDn (s : State) (n : LaneIx) (f : Flit) : State :=
  if flitIsLink f ∧ flitGood f then s.linkDn n f
  else
    let r := s.rxDn n f
    if r.1 then r.2.laneTakes n f else r.2

/-- Flits arrive on DN one after the other. -/
def State.flitsDn (s : State) (n : LaneIx) (fs : List Flit) : State := fs.foldl (fun s f => s.flitDn n f) s

/-- EVT: an EVT_A with the EVT_B that follows it, or one of the two alone (R155). -/
def execEvt (t : Time) (n : LaneIx) (a : Flit) (b : Option Flit) (s : State) : Res :=
  let s := s.at t
  if s.laneLive n then .next (s.flitsDn n (a :: b.toList)) else .next s

/-- TRAVEL_UPDATE: the flits of an update, or those that a resend brings to complete one (R158, R491). -/
def execTravelUpdate (t : Time) (n : LaneIx) (fs : List Flit) (s : State) : Res :=
  let s := s.at t
  if s.laneLive n then .next (s.flitsDn n fs) else .next s

/-- EPOCH_ADV (R172). -/
def execEpochAdv (t : Time) (n : LaneIx) (f : Flit) (s : State) : Res :=
  let s := s.at t
  if s.laneLive n then .next (s.flitDn n f) else .next s

/-- QEND (R174). -/
def execQend (t : Time) (n : LaneIx) (f : Flit) (s : State) : Res :=
  let s := s.at t
  if s.laneLive n then .next (s.flitDn n f) else .next s

/-- DRAIN (R175). -/
def execDrain (t : Time) (n : LaneIx) (f : Flit) (s : State) : Res :=
  let s := s.at t
  if s.laneLive n then .next (s.flitDn n f) else .next s

/-- SP_DEM (R256). -/
def execSpDem (t : Time) (n : LaneIx) (f : Flit) (s : State) : Res :=
  let s := s.at t
  if s.laneLive n then .next (s.flitDn n f) else .next s

/-! Drain and disable (R175). -/

/-- Close every outlet that is open with its present phase's turn-off style, and end the actuation of every other (R170,
R175, R206). -/
def State.closeOpen (s : State) (n : LaneIx) : State :=
  overList (List.finRange 8) (fun k s => s.outletClose n k) s

/-- DRAIN_END: DRAIN_MS after DRAIN the lane closes its open outlets, cancels the rest and enters safe state (R175). -/
def execDrainEnd (t : Time) (n : LaneIx) (s : State) : Res :=
  let s := s.at t
  match (s.lane n).draining with
  | none => .next s
  | some a =>
    if s.laneLive n ∧ a + s.fld SCHED.SCHED_CFG.DRAIN_MS * msPs ≤ s.now then
      let m := s.openMask n
      let s := (s.closeOpen n).cancelAll n
      let s := (s.engSafe n).pwmSafe n
      let s := s.modLane n (fun l => { l with draining := none, drained := true, safeLow := true, safeMask := 0 })
      let s := s.sendUp n fuQclr (qclrWord 3 m)
      .next (s.setDrained (pgLane n))
    else .next s

/-- PG_CTRL.EN = 0 of LANEn (R175). -/
def State.laneDisable (s : State) (n : LaneIx) : State :=
  let m := s.openMask n
  let s := (s.closeOpen n).cancelAll n
  let s := (s.engSafe n).pwmSafe n
  let s := s.modLane n (fun l => { l with disabled := true, draining := none })
  let s := s.sendUp n fuQclr (qclrWord 4 m)
  s.checkLaneDrained n

/-- PG_CTRL.EN = 1 of LANEn (R450). -/
def State.laneEnable (s : State) (n : LaneIx) : State :=
  let s := s.modLane n (fun l => { l with disabled := false })
  if (s.lane n).safeLow then s else s.pwmUnsafe n

/-! Dead reckoning (R22, R170, R492). -/

/-- Expire the dead reckoning: open outlets close, every entry is cancelled, QCLR waits for the DN link (R170). -/
def State.drExpire (s : State) (n : LaneIx) : State :=
  let m := s.openMask n
  let age := (s.now - (s.lane n).updAt) / usPs
  let s := (s.closeOpen n).cancelAll n
  let s := s.modLane n (fun l => { l with drExpired := true, qclrWait := some (qclrWord 2 m) })
  let s := s.setEvt SCHED.SCHED_EVT.DR_EXPIRED
  s.record Rec.DR_EXPIRED (pgLane n) (wd n.val) 0 (wd age)

/-- DR_EXPIRED: no travel update for DR_MS (R170). -/
def execDrExpired (t : Time) (n : LaneIx) (s : State) : Res :=
  let s := s.at t
  let l := s.lane n
  if s.laneLive n ∧ l.drExpired = false ∧ l.updAt + s.fld SCHED.SCHED_CFG.DR_MS * msPs ≤ s.now then
    .next (s.drExpire n)
  else .next s

/-- UP_QUEUE_HIGH: the UP queue holds 992 flits (R492). -/
def execUpQueueHigh (t : Time) (n : LaneIx) (s : State) : Res :=
  let s := s.at t
  let u := (s.lane n).up
  if s.laneLive n ∧ (s.lane n).drExpired = false ∧ 992 ≤ u.held.length + u.waiting.length then .next (s.drExpire n)
  else .next s

/-- LINK_LOST: no DN flit accepted for 4 µs (R22). -/
def execLinkLost (t : Time) (n : LaneIx) (s : State) : Res :=
  let s := s.at t
  let l := s.lane n
  if s.laneLive n ∧ l.lost = false ∧ l.lastDn + 4 * usPs ≤ s.now then
    .next ((s.modLane n (fun l => { l with lost := true })).setEvt (LANE.LANE_EVT.LOST n))
  else .next s

/-! Link flits (R20, R21, R491). -/

/-- What the spine's port sends of its own on DN: PORT_IDLE from a grant to its takeover (R329), IDLE while a half is in
charge and during CONFLICT (R20, R328), else nothing. -/
def State.portIdles (s : State) : Option Nat :=
  if s.laurel.grant.isSome then some ftPortIdle
  else if s.inCharge.isSome || s.laurel.conflict.isSome then some ftIdle
  else none

/-- IDLE_FLIT_SEND: the 1 µs interval of a segment's sender has passed (R20, R491). -/
def execIdleFlitSend (t : Time) (n : LaneIx) (d : Dir) (s : State) : Res :=
  let s := s.at t
  let l := s.lane n
  if s.laneLive n then
    match d with
    | .dn =>
      match s.portIdles with
      | some typ => if l.dn.lastLinkSend + usPs ≤ s.now then .next (s.sendLink n .dn typ) else .next s
      | none => .next s
    | .up => if l.up.lastLinkSend + usPs ≤ s.now then .next (s.sendLink n .up ftIdle) else .next s
  else .next s

/-- RESEND_TIMEOUT: flits are held on `d` and no acknowledgement has advanced for 4 µs (R491). -/
def execResendTimeout (t : Time) (n : LaneIx) (d : Dir) (s : State) : Res :=
  let s := s.at t
  let l := s.lane n
  let x := match d with | .dn => l.dn | .up => l.up
  match x.held with
  | [] => .next s
  | f :: _ =>
    if s.laneLive n ∧ x.ackAt + 4 * usPs ≤ s.now then .next (s.resendDir n d f.seq) else .next s

/-! Re-aim (R162, R163, R166, R167). -/

/-- What a re-aim finds for one entry: c with its lateness, or none while it stays WAITING without one. -/
structure Aim where
  c : Int
  overdue : Bool
  late : Bool
  lateness : Nat
  deriving DecidableEq, Repr

/-- The formula of R162: round(2 ((X_v − T_r) 10^9 − d s⁺) / (5 s⁺)). -/
def aimFormula (dist : Int) (d sp : Nat) : Int := rdiv (2 * (dist * 1000000000 - (d : Int) * (sp : Int))) ((5 * sp : Nat) : Int)

/-- c of R162 and lateness of R163 for an entry at distance `dist` ahead, with delay `d` ns and s⁺ µm/s. -/
def aimOf (dist : Int) (d sp : Nat) : Option Aim :=
  if dist ≤ 0 then
    let late := if sp = 0 then 0 else (-(aimFormula dist d sp)).toNat
    some { c := 0, overdue := true, late := true, lateness := late }
  else if sp = 0 then none
  else
    let c := aimFormula dist d sp
    some { c := c, overdue := false, late := decide (c < 0), lateness := (-c).toNat }

/-- An entry with what the re-aim found. -/
structure Aimed where
  ix : Nat
  e : QEntry
  aim : Option Aim
  deriving DecidableEq, Repr

/-- `b` has a firing cycle at or before `a`'s. -/
def firesFirst (a b : Option Aim) : Bool :=
  match b, a with
  | none, _ => false
  | some _, none => true
  | some y, some x => decide (max y.c 0 ≤ max x.c 0)

/-- R166 over the state events of one outlet in admission order; `st` holds those kept so far, newest first. Answers the
kept events, newest first, the entries retired as MERGED and as PAIR_CANCEL, and those kept as RATE. -/
def pairUp : List Aimed → List Aimed → List Aimed × List Nat × List Nat × List Aimed
  | st, [] => (st, [], [], [])
  | st, b :: bs =>
    match st with
    | [] => pairUp [b] bs
    | a :: rest =>
      if firesFirst a.aim b.aim then
        if a.e.typ = .off ∧ b.e.typ = .on then
          let (k, m, p, r) := pairUp rest bs
          (k, m, a.ix :: p, { b with e := { b.e with typ := .rate } } :: r)
        else if a.e.typ = .on ∧ b.e.typ = .off then
          let (k, m, p, r) := pairUp rest bs
          (k, m, a.ix :: b.ix :: p, r)
        else if a.e.typ = .on then
          let (k, m, p, r) := pairUp ({ a with e := { a.e with also := some (b.e.also.getD (b.e.val, b.e.adm)) } } :: rest) bs
          (k, b.ix :: m, p, r)
        else
          let (k, m, p, r) := pairUp st bs
          (k, b.ix :: m, p, r)
      else pairUp (b :: st) bs

/-- A RATE's aim moved to an ON's cycle: its lateness stays its own (R163, R167). -/
def heldAim (on rate : Option Aim) : Option Aim :=
  match on, rate with
  | some y, some z => some { z with c := y.c }
  | _, _ => none

/-- R167: a RATE that would fire before an earlier-admitted ON of its outlet fires in that ON's cycle. -/
def holdRate (ons : List Aimed) (x : Aimed) : Aimed :=
  ons.foldl (fun x a =>
    if decide (a.e.typ = .on) && decide (a.e.outlet = x.e.outlet) && decide (a.e.adm < x.e.adm) && firesFirst a.aim x.aim
    then { x with aim := heldAim a.aim x.aim } else x) x

/-- Arm an entry whose cycle falls in the coming interval, or keep it WAITING with its c (Table 5-2). -/
def armEntry (next : Time) (x : Aimed) : QEntry :=
  match x.aim with
  | none => x.e
  | some a =>
    if a.c < 4000 then
      { x.e with
        st := .armed, c := a.c, fireAt := next + (max a.c 0).toNat * tclkPs, late := a.late, lateness := a.lateness }
    else { x.e with c := a.c }

/-- Insertion by admission number. -/
def insertAdm (x : Aimed) : List Aimed → List Aimed
  | [] => [x]
  | y :: ys => if x.e.adm < y.e.adm then x :: y :: ys else y :: insertAdm x ys

/-- REAIM: at a TMARK edge, a multiple of 10,000 ns (R162). -/
def State.reaim (s : State) (n : LaneIx) : State :=
  let tr := s.now
  let next := tr + 10 * usPs
  -- T_L at t_r
  let s := s.modLane n (fun l => { l with
    trav := Vector.ofFn (fun (k : Fin 8) => { l.trav.get k with tl := l.tl k tr }) })
  let l := s.lane n
  let aim := fun (p : Nat × QEntry) =>
    let k := p.2.outlet
    let d := match p.2.aimTyp with | .on => s.pubOn n k | .off => s.pubOff n k | .rate => 0
    let dist := diff48 p.2.xv (l.tl k next)
    ({ ix := p.1, e := p.2, aim := aimOf dist d (max (l.trav.get k).sk 0).toNat } : Aimed)
  let lat := (l.entries.filter (fun p => decide (p.2.st = .waiting ∧ p.2.admAt < tr))).map aim
  let srt := lat.foldr insertAdm []
  let states := srt.filter (fun x => decide (x.e.typ ≠ .rate))
  let rates := srt.filter (fun x => decide (x.e.typ = .rate))
  let per := (List.finRange 8).map (fun (k : OutIx) => pairUp [] (states.filter (fun x => decide (x.e.outlet = k))))
  let kept := (per.map (·.1)).flatten
  let mer := (per.map (·.2.1)).flatten
  let can := (per.map (·.2.2.1)).flatten
  let made := (per.map (·.2.2.2)).flatten
  let allRates := (rates ++ made).map (holdRate kept)
  let q := (mer ++ can).foldl (fun q i => Sparse.set noEntry q i none) l.queue
  let q := (kept ++ allRates).foldl (fun q x => Sparse.set noEntry q x.ix (some (armEntry next x))) q
  let s := s.modLane n (fun l => { l with queue := q, qSnap := q, tSnap := l.trav })
  let s := overList mer (fun _ s => s.merged n) s
  overList can (fun _ s => s.pairCancel n) s

def execReaim (t : Time) (n : LaneIx) (s : State) : Res :=
  let s := s.at t
  if s.laneLive n ∧ s.now % (10 * usPs) = 0 then .next (s.reaim n) else .next s

/-! Firing (R164, R165). -/

/-- The due ARMED entry that fires first: least firing cycle, then admission order. -/
def LaneState.nextFire (l : LaneState) (now : Time) : Option (Nat × QEntry) :=
  (l.entries.filter (fun p => decide (p.2.st = .armed ∧ p.2.fireAt ≤ now))).foldl (fun r p =>
    match r with
    | none => some p
    | some q => if p.2.fireAt < q.2.fireAt ∨ (p.2.fireAt = q.2.fireAt ∧ p.2.adm < q.2.adm) then some p else some q) none

/-- The VALUE of an ON or RATE applies only if it was admitted after the one in force; an older one counts MERGED
(R165). -/
def State.applyValue (s : State) (n : LaneIx) (e : QEntry) : State :=
  match e.typ with
  | .off => s
  | _ =>
    if ((s.lane n).inForce.get e.outlet).adm < e.adm then
      s.modLane n (fun l => { l with inForce := l.inForce.set e.outlet { val := e.val, adm := e.adm } })
    else s.merged n

/-- The VALUE of an ON that was retired into this entry applies right after it (R166). -/
def State.applyAlso (s : State) (n : LaneIx) (e : QEntry) : State :=
  match e.also with
  | some (v, a) =>
    if ((s.lane n).inForce.get e.outlet).adm < a then
      s.modLane n (fun l => { l with inForce := l.inForce.set e.outlet { val := v, adm := a } })
    else s
  | none => s

/-- Fire one entry. -/
def State.fireEntry (s : State) (n : LaneIx) (i : Nat) (e : QEntry) : State :=
  let k := e.outlet
  let x := (s.lane n).tl k s.now
  let s := s.spKeep n
  let s := s.modLane n (fun l => { l with
    queue := Sparse.set noEntry l.queue i none, trav := l.trav.set k { l.trav.get k with tl := x } })
  let s := s.count (LANE.FIRED_CNT n) 1
  let s :=
    if e.late then
      let s := (s.bumpReg (LANE.LATE_CNT n) 1).setEvt SCHED.SCHED_EVT.LATE
      let s := s.keepMax ⟨LANE.LATE_MAX n, 31, 0⟩ e.lateness
      if s.fld SCHED.SCHED_LATE.LATE_REC_US * 400 < e.lateness then
        s.record Rec.EVT_LATE (pgLane n) (wd n.val) (wd k.val) (wd e.lateness)
      else s
    else s
  let s := s.sendUp n fuFireA (wd x)
  let s := s.sendUp n fuFireB (wd (k.val * 536870912 + e.typ.code * 134217728 + b2n e.late * 67108864 + min e.lateness 67108863))
  let s := (s.applyValue n e).applyAlso n e
  if s.kind n k = 2 then s.motorAct n k e.typ else s.outletAct n k e.typ

/-- SAFE_N's fall, the end of a drain or a write of EN = 0 falls in this very SCLK cycle, with its command still waiting
behind this one: the cancellation takes effect first (R176). -/
def State.cancelNow (s : State) (n : LaneIx) : Bool :=
  let same := fun (t : Time) => decide (sclkOf (max s.now t) = sclkOf s.now)
  s.pending.any (fun i => match i with
    | .safeNFall t m => decide (m = n) && same t
    | .drainEnd t m => decide (m = n) && same t
    | .pfailFall t => same t
    | .pageDrain t p d => decide (p.toNat = pgLane n) && !d && same t
    | _ => false)

/-- FIRE: the comparator of an ARMED entry reaches its firing cycle; SAFE_N low and a disable cancel first (R176). `sm` are
the samples of its outlet since that outlet's previous event. -/
def execFire (t : Time) (n : LaneIx) (sm : List Sample) (s : State) : Res :=
  let s := s.at t
  if s.laneLive n ∧ s.inSafe n = false ∧ s.cancelNow n = false then
    match (s.lane n).nextFire s.now with
    | some (i, e) => .next ((s.outletEvent n e.outlet sm).fireEntry n i e)
    | none => .next s
  else .next s

/-! The fence of a lane (R31, R21, R218, R492): the lane's own part. -/

/-- The lane stops: queues of both directions are dropped, it enters safe state, Harebell and the feedback stop. -/
def State.fenceLane (s : State) (n : LaneIx) (cause : FenceCause) : State :=
  let s := s.enterSafe n
  let s := s.modFbk n (fun f => { f with active := false })
  s.modLane n (fun l => { l with
    fenced := some cause, dn := { l.dn with held := [], waiting := [] }, up := { l.up with held := [], waiting := [] },
    pendA := none, trvAsm := [], halfQ := [], pendFire := none, pendMot := none, qclrWait := none, disabled := false })

/-! Live views (R179). -/

/-- SQ_STAT. -/
def State.sqStat (s : State) (n : LaneIx) : Nat :=
  let l := s.lane n
  bitAt 31 l.draining.isSome + bitAt 30 l.lost + bitAt 29 l.drExpired + l.occ

/-- LINK_STAT without FAULT_CNT, which the register holds. -/
def State.linkStat (s : State) (n : LaneIx) : Nat :=
  let l := s.lane n
  bitAt 31 l.lost + bitAt 30 l.safeLow + bitAt 29 l.fenced.isSome +
    (match l.fenced with | some c => c.code * 16777216 | none => 0) + s.fld (LANE.LINK_STAT.FAULT_CNT n)

/-- TRV_AGE. -/
def State.trvAge (s : State) (n : LaneIx) : Nat := min 65535 ((s.now - (s.lane n).updAt) / usPs)

end Sys2Proof.Machine
end

