-- ==== Sys2Proof/Machine/Map.lean ====
section
/-! DEFINITION. The coverage and prescription maps: cells, tiles and slots, tile items, requests, evictions, painting,
spills, received strokes, scrubbing and the window's control (R82 to R118, R144). -/
namespace Sys2Proof.Machine

def pgMap : Nat := 0x019

/-- The footprint tick, 250,000 ns. -/
def tickPs : Nat := 250000000

/-- m of an instant, and τ_m. -/
def tickOf (t : Time) : Nat := t / tickPs
def tickStart (t : Time) : Time := tickOf t * tickPs

def State.modMap (s : State) (f : MapState → MapState) : State := { s with map := f s.map }

/-! Geometry of the window (R82 to R88). -/

def State.pitch (s : State) : Nat := s.fld MAP.MAP_CFG.PITCH_MM
def State.winW (s : State) : Nat := 2 ^ s.fld MAP.WIN_SHAPE.LOG_W
def State.winH (s : State) : Nat := 2 ^ s.fld MAP.WIN_SHAPE.LOG_H
def State.nSlots (s : State) : Nat := s.winW * s.winH

/-- The slot that tile (tc, tr) may occupy (R87). -/
def State.slotOf (s : State) (tc tr : Int) : Nat :=
  (tr.emod (s.winH : Int)).toNat * s.winW + (tc.emod (s.winW : Int)).toNat

/-- The coverage cell of a field point (R82). -/
def State.cellOf (s : State) (e n : Int) : Int × Int := (fdiv e s.pitch, fdiv n s.pitch)

/-- A cell's tile, and its place in the tile (R85). -/
def tileOf (col row : Int) : Int × Int := (fdiv col 64, fdiv row 64)
def inTile (col row : Int) : Nat × Nat := ((col.emod 64).toNat, (row.emod 64).toNat)

/-- The four bits of coverage cell (cx, cy) of a tile's words (R88). -/
def covCell (m : Sparse Nat) (cx cy : Nat) : Nat :=
  (Sparse.get zero m (cy * 4 + cx / 16) >>> (4 * (cx % 16))) % 16

/-- The byte of prescription cell (pcx, pcy). -/
def prxCell (m : Sparse Nat) (pcx pcy : Nat) : Nat :=
  (Sparse.get zero m (pcy * 4 + pcx / 8) >>> (8 * (pcx % 8))) % 256

/-- The halves' copies of a slot, by half. -/
def Slot.covOf (x : Slot) (h : Half) : Sparse Nat := x.cov.get h.ix
def Slot.prxOf (x : Slot) (h : Half) : Sparse Nat := x.prx.get h.ix

/-- The copy that decisions, items and reads use: the half in charge's (R118), Half A's where there is none. -/
def State.mapHalf (s : State) : Half := s.inCharge.getD .a

def State.covEn (s : State) : Bool := s.flag MAP.MAP_CFG.COV_EN
def State.prxEn (s : State) : Bool := s.flag MAP.MAP_CFG.PRX_EN
def State.mapEn (s : State) : Bool := s.en pgMap
def State.lineFrame (s : State) : Bool := s.flag POSE.POSE_CFG.FRAME
def State.defRate (s : State) : Nat := s.fld MAP.DEF_RATE.IDX

/-- [26:16] slot and [15:0] GEN of a map record. -/
def slotWord (i gen : Nat) : Word := wd (i % 2048 * 65536 + gen % 65536)

/-! Reads (R99, Table 3-8). -/

/-- The situations of Table 3-8 that raise a flag. -/
inductive Sit where
  | late
  | stall
  | conflict
  deriving DecidableEq, Repr

/-- A coverage read of cell (col, row). -/
def State.readCov (s : State) (col row : Int) : Nat × Option Sit :=
  if !s.mapEn || !s.covEn then (0, none)
  else
    let (tc, tr) := tileOf col row
    let (cx, cy) := inTile col row
    let x := s.slot (s.slotOf tc tr)
    let nr := if s.flag MAP.MAP_CFG.NR_POLICY then 4 else 0
    let own := decide (x.tc = tc ∧ x.tr = tr)
    match x.st with
    | .evicting => (nr, some .stall)
    | .free => (nr, some .late)
    | _ =>
      if own then
        let c := covCell (x.covOf s.mapHalf) cx cy
        if x.covOk then (c, none) else (c ||| nr, some .late)
      else if x.wanted then (nr, some .conflict)
      else (nr, some .late)

/-- A prescription read at the coverage cell (col, row). -/
def State.readPrx (s : State) (col row : Int) : Nat × Option Sit :=
  if !s.mapEn || !s.prxEn then (s.defRate, none)
  else
    let (tc, tr) := tileOf col row
    let (cx, cy) := inTile col row
    let x := s.slot (s.slotOf tc tr)
    let own := decide (x.tc = tc ∧ x.tr = tr)
    match x.st with
    | .evicting => (s.defRate, some .stall)
    | .free => (s.defRate, some .late)
    | _ =>
      if own then
        if x.prxOk then (if x.defRate then s.defRate else prxCell (x.prxOf s.mapHalf) (cx / 2) (cy / 2), none)
        else (s.defRate, some .late)
      else if x.wanted then (s.defRate, some .conflict)
      else (s.defRate, some .late)

/-- Note one flagged read: the counter, the event bit, and a record where the table of R112 gives one. -/
def State.noteRead (s : State) (col row : Int) (k : Sit) : State :=
  let (tc, tr) := tileOf col row
  let i := s.slotOf tc tr
  let x := s.slot i
  let w := slotWord i x.gen
  match k with
  | .late =>
    let s := ((s.bumpReg MAP.LATE_READ_CNT 1).setEvt MAP.MAP_EVT.TILE_LATE).modMap (fun m => { m with late := true })
    if (x.st = .requested ∨ x.st = .resident) ∧ x.tc = tc ∧ x.tr = tr then
      if x.lateSeen then s
      else (s.setSlot i { x with lateSeen := true }).record Rec.TILE_LATE pgMap (wdI tc) (wdI tr) w
    else if s.map.lateSeen.contains (tc, tr) then s
    else (s.modMap (fun m => { m with lateSeen := m.lateSeen ++ [(tc, tr)] })).record Rec.TILE_LATE pgMap (wdI tc) (wdI tr) w
  | .conflict =>
    let s := ((s.bumpReg MAP.CONFLICT_CNT 1).setEvt MAP.MAP_EVT.SLOT_CONFLICT).modMap (fun m => { m with conflict := true })
    if s.map.conflictSeen.contains (tc, tr) then s
    else (s.modMap (fun m => { m with conflictSeen := m.conflictSeen ++ [(tc, tr)] })).record Rec.SLOT_CONFLICT pgMap
      (wdI tc) (wdI tr) w
  | .stall =>
    let s := ((s.bumpReg MAP.STALL_CNT 1).setEvt MAP.MAP_EVT.WIN_STALL).modMap (fun m => { m with stalled := true })
    if s.map.stallSeen.contains (tc, tr) then s
    else (s.modMap (fun m => { m with stallSeen := m.stallSeen ++ [(tc, tr)] })).record Rec.WIN_STALL pgMap
      (wdI tc) (wdI tr) w

/-! Protection (R110, R111). -/

/-- The word a half's copy holds. -/
def State.mapWord (s : State) (h : Half) (presc : Bool) (w : Nat) : Nat :=
  if presc then Sparse.get zero ((s.slot (w / 128)).prxOf h) (w % 128)
  else Sparse.get zero ((s.slot (w / 256)).covOf h) (w % 256)

/-- Store a word in one half's copy. -/
def State.setMapWord (s : State) (h : Half) (presc : Bool) (w v : Nat) : State :=
  if presc then
    let x := s.slot (w / 128)
    s.setSlot (w / 128) { x with prx := vmod x.prx h.ix (fun m => Sparse.set zero m (w % 128) v) }
  else
    let x := s.slot (w / 256)
    s.setSlot (w / 256) { x with cov := vmod x.cov h.ix (fun m => Sparse.set zero m (w % 256) v) }

/-- `n` copies of a `k`-bit value. -/
def repl (k v : Nat) : Nat → Nat
  | 0 => 0
  | n + 1 => v + repl k v n * 2 ^ k

/-- A half whose copy can repair a word: in CHARGE or SHADOW. A half in REJOIN or BOOT repairs nothing, and the word is
replaced then (R111, R339, Table 12-4). -/
def State.repairs (s : State) (h : Half) : Bool := decide (s.role h = .charge ∨ s.role h = .shadow)

/-- One faulty word that a read or a scrub has found; `all` are the faulty words of the same reads. -/
def State.eccFix (s : State) (all : List EccFault) (f : EccFault) : State :=
  let w := f.word.toNat
  let i := if f.presc then w / 128 else w / 256
  let x := s.slot i
  if !s.runs f.half || decide (s.nSlots ≤ i) then s
  else if !f.unc then
    ((s.bump MAP.ECC_CNT.CE 1).setEvt MAP.MAP_EVT.CE).recordOwn f.half Rec.MAP_CE pgMap (wdI x.tc) (wdI x.tr) (slotWord i x.gen)
  else
    let s := (s.bump MAP.ECC_CNT.UE 1).setEvt MAP.MAP_EVT.UE
    let s := s.modHalf f.half (fun h => { h with faultTick := some (tickOf s.now) })
    let o := f.half.other
    let both := all.any (fun g => decide (g.half = o ∧ g.presc = f.presc ∧ g.word = f.word ∧ g.unc))
    if memberHalves s.member = 2 ∧ s.repairs o ∧ both = false then s.setMapWord f.half f.presc w (s.mapWord o f.presc w)
    else
      let v := if f.presc then repl 8 s.defRate 8 else if s.flag MAP.MAP_CFG.UE_POLICY then repl 4 4 16 else 0
      let s := s.setMapWord f.half f.presc w v
      let s := s.setSlot i { s.slot i with damaged := true }
      s.recordOwn f.half Rec.MAP_UE pgMap (wdI x.tc) (wdI x.tr) (slotWord i x.gen)

def State.eccAll (s : State) (fs : List EccFault) : State := fs.foldl (fun s f => s.eccFix fs f) s

/-- SCRUB: the next word of each half (R110). DEDUCED (log 122): one pass takes the coverage words and then the prescription
words, each in word order, and SCRUB_POS counts through both. -/
def execScrub (t : Time) (ecc : List EccFault) (s : State) : Res :=
  let s := s.at t
  if s.up ∧ s.flag MAP.SCRUB_CFG.EN then
    let cw := s.nSlots * 256
    let pos := (s.reg MAP.SCRUB_POS).toNat
    let presc := decide (cw ≤ pos)
    let w := if presc then pos - cw else pos
    let s := s.eccAll (ecc.filter (fun f => decide (f.presc = presc ∧ f.word.toNat = w)))
    .next (s.setReg MAP.SCRUB_POS (wd (if pos + 1 < s.nSlots * 384 then pos + 1 else 0)))
  else .next s

/-! Tile items (R89 to R92, R102). -/

/-- The 256 coverage words or 128 prescription words of a tile's cell bytes (R86, R88). -/
def wordsOf8 : Nat → List Byte → List Nat
  | 0, _ => []
  | n + 1, bs => leNat (bs.take 8) :: wordsOf8 n (bs.drop 8)

/-- A plane of words in canonical form. -/
def planeOf (ws : List Nat) : Sparse Nat := Sparse.setRun zero [] 0 ws

/-- What a tile item says. -/
structure TileItem where
  typ : Nat
  flags : Nat
  job : Nat
  gen : Nat
  slot : Nat
  tc : Int
  tr : Int
  pitch : Nat
  cellCrc : Nat
  hdrCrc : Nat
  cells : List Byte
  deriving DecidableEq, Repr

def parseTile (d : List Byte) : TileItem :=
  { typ := leAt d 0 1, flags := leAt d 1 1, job := leAt d 2 2, gen := leAt d 4 2, slot := leAt d 6 2,
    tc := sx 32 (leAt d 8 4), tr := sx 32 (leAt d 12 4), pitch := leAt d 16 2, cellCrc := leAt d 24 4,
    hdrCrc := leAt d 28 4, cells := d.drop 32 }

def TileItem.unsol (i : TileItem) : Bool := i.flags.testBit 2

/-- Checks 4 and 5 of Table 3-4: the order of the first that fails. -/
def State.tileCheck45 (s : State) (cov : Bool) (i : TileItem) : Option Nat :=
  let x := s.slot i.slot
  if !(decide ((x.st = .requested ∨ x.st = .resident) ∧ x.tc = i.tc ∧ x.tr = i.tr) && (i.unsol || decide (x.gen = i.gen))) then
    some 4
  else if !i.unsol && (if cov then x.covOk else x.prxOk) then some 5
  else none

/-- The order of the first check of Table 3-4 that fails. -/
def State.tileCheck (s : State) (cov : Bool) (d : List Byte) : Option Nat :=
  let i := parseTile d
  let short := if cov then i.flags.testBit 0 else i.flags.testBit 1
  let len := if short then 32 else if cov then 2080 else 1056
  if d.length < 32 ∨ i.hdrCrc ≠ (crc32 (d.take 28)).toNat ∨ i.typ ≠ (if cov then 1 else 2) ∨ d.length ≠ len then some 1
  else if i.pitch ≠ s.pitch ∨ i.slot ≠ s.slotOf i.tc i.tr then some 2
  else if epochCheck (BitVec.ofNat 16 i.job) (s.epoch pgMap) ≠ .accepted then some 3
  else
    match s.tileCheck45 cov i with
    | some k => some k
    | none => if i.cellCrc ≠ (crc32 i.cells).toNat then some 6 else none

/-- Count a discarded item under its check (Table 3-4); STATUS and DETAIL of its completion (R91). -/
def State.tileReject (s : State) (i : TileItem) (k : Nat) : State × (Nat × Nat) :=
  let s := s.setEvt MAP.MAP_EVT.TILE_REJECT
  if k = 3 then
    let s := match epochCheck (BitVec.ofNat 16 i.job) (s.epoch pgMap) with
      | .ahead => s.bump MAP.TILE_STALE_CNT.AHEAD 1
      | _ => s.bump MAP.TILE_STALE_CNT.STALE 1
    (s, (stStale, 3))
  else if k = 4 then
    if i.unsol then (s.bumpReg MAP.PUSH_REFUSED_CNT 1, (stRejected, 4))
    else (s.bump MAP.TILE_STALE_CNT.STALE 1, (stStale, 4))
  else if k = 5 then (s.bump MAP.TILE_BAD_CNT.DUP 1, (stRejected, 5))
  else (s.bump MAP.TILE_BAD_CNT.BAD 1, (stRejected, k))

def covQ (cov : Bool) : Nat := if cov then 1 else 0

/-- 1 for coverage and Q1, 0 for prescription and Q0. -/
def planeIx (cov : Bool) : Fin 2 := if cov then 1 else 0

def State.verdicts (s : State) (cov : Bool) : List Verdict := s.map.verdicts.get (planeIx cov)
def State.setVerdicts (s : State) (cov : Bool) (v : List Verdict) : State :=
  s.modMap (fun m => { m with verdicts := m.verdicts.set (planeIx cov) v })

/-- Retire discarded items that have come to the head of their queue. -/
def State.settleTiles : Nat → State → Bool → State
  | 0, s, _ => s
  | fuel + 1, s, cov =>
    match s.verdicts cov with
    | { at_ := _, discard := some (st, d) } :: r =>
      State.settleTiles fuel ((s.retireHead (covQ cov) st d).setVerdicts cov r) cov
    | _ => s

/-- TILE_ITEM: the next whole item of Q1 (coverage) or Q0 is checked by Table 3-4. -/
def execTileItem (t : Time) (cov : Bool) (s : State) : Res :=
  let s := s.at t
  let vs := s.verdicts cov
  match (s.q (covQ cov)).whole[vs.length]? with
  | none => .next s
  | some gs =>
    if s.up then
      let d := itemData gs
      match s.tileCheck cov d with
      | none => .next (s.setVerdicts cov (vs ++ [{ at_ := s.now, discard := none }]))
      | some k =>
        let (s, r) := s.tileReject (parseTile d) k
        .next ((s.setVerdicts cov (vs ++ [{ at_ := s.now, discard := some r }])).settleTiles 257 cov)
    else .next s

/-- APPLIED of the 16 cells of a word. -/
def appliedMask : Nat := 0x1111111111111111

/-- Seed S merged into C: S OR C, with OVERLAP where both hold APPLIED for a solicited seed (R102). -/
def mergeWord (solicited : Bool) (c v : Nat) : Nat :=
  (c ||| v) ||| (if solicited then ((c &&& v) &&& appliedMask) <<< 1 else 0)

def mergePlane (solicited : Bool) (m : Sparse Nat) (ws : List Nat) : Sparse Nat :=
  planeOf ((List.range 256).map (fun i => mergeWord solicited (Sparse.get zero m i) (nth 0 ws i)))

/-- A REQUESTED slot with both planes becomes RESIDENT (Table 3-6). -/
def residentIf (x : Slot) : Slot := if x.st = .requested ∧ x.covOk ∧ x.prxOk then { x with st := .resident } else x

/-- The effect of an admitted item on its slot, in both halves (R92, R102). -/
def applyTile (cov : Bool) (i : TileItem) (x : Slot) : Slot :=
  if cov then
    let ws := wordsOf8 256 i.cells
    let x := if i.flags.testBit 0 then x else { x with cov := x.cov.map (fun m => mergePlane (!i.unsol) m ws) }
    residentIf (if i.unsol then x else { x with covOk := true })
  else
    let x := if i.flags.testBit 1 then { x with defRate := true }
             else { x with defRate := false, prx := x.prx.map (fun _ => planeOf (wordsOf8 128 i.cells)) }
    residentIf (if i.unsol then x else { x with prxOk := true })

/-- TILE_EFFECT: at the start of the next tick an admitted item takes effect, after checks 4 and 5 again (R92). -/
def execTileEffect (t : Time) (cov : Bool) (s : State) : Res :=
  let s := s.at t
  match s.verdicts cov, (s.q (covQ cov)).whole with
  | { at_ := a, discard := none } :: r, gs :: _ =>
    if s.up ∧ a < tickStart s.now then
      let i := parseTile (itemData gs)
      let s := s.setVerdicts cov r
      match s.tileCheck45 cov i with
      | some k =>
        let (s, (st, d)) := s.tileReject i k
        .next ((s.retireHead (covQ cov) st d).settleTiles 257 cov)
      | none =>
        let s := s.setSlot i.slot (applyTile cov i (s.slot i.slot))
        .next ((s.retireHead (covQ cov) stOk 0).settleTiles 257 cov)
    else .next s
  | _, _ => .next s

/-! Slots: freeing, giving, evicting (R90, R95, R98, R112). -/

/-- The numbers of the slots that a test takes. -/
def State.slotsWith (s : State) (p : Slot → Bool) : List Nat :=
  (s.map.slots.filter (fun e => p e.2)).map (·.1)

def State.allFree (s : State) : Bool := s.map.slots.all (fun e => decide (e.2.st = .free))
def State.occupied (s : State) : Nat := (s.slotsWith (fun x => decide (x.st ≠ .free))).length

/-- A slot becomes FREE; a flush's progress and its end, and DRAINED (R114, R115). -/
def State.freeSlot (s : State) (i : Nat) : State :=
  let x := s.slot i
  let s := s.setSlot i { x with st := .free, wanted := false, posted := false, consumed := false, reqAt := none }
  let s := s.modMap (fun m => { m with
    stallSeen := m.stallSeen.filter (fun p => decide (s.slotOf p.1 p.2 ≠ i)) })
  if s.map.flushing then
    let n := s.map.flushN
    let s := s.setReg (hdr pgMap HDR.PG_PROG_PCT) (wd (if n = 0 then 0 else 10000 * (n - s.occupied) / n))
    if s.allFree then
      let s := s.modMap (fun m => { m with flushing := false })
      if s.mapEn then s else s.setDrained pgMap
    else s
  else s

/-- Give a FREE slot to a tile (Table 3-6). -/
def State.giveSlot (s : State) (i : Nat) (tc tr : Int) : State :=
  let x := s.slot i
  let p := planeOf (List.replicate 128 (repl 8 s.defRate 8))
  let gen := (x.gen + 1) % 65536
  let y : Slot := { Slot.reset with
    st := .requested, tc := tc, tr := tr, gen := gen, covOk := !s.covEn, prxOk := !s.prxEn, wanted := true,
    prx := Vector.replicate 2 p }
  let s := s.modMap (fun m => { m with lateSeen := m.lateSeen.filter (fun q => decide (q ≠ (tc, tr))) })
  let s := s.setSlot i (residentIf y)
  if y.covOk ∧ y.prxOk then s else s.modMap (fun m => { m with reqQ := m.reqQ ++ [(i, gen)] })

/-- The bytes of a coverage tile. -/
def covBytes (m : Sparse Nat) : List Byte := (List.range 256).flatMap (fun i => leBytes 8 (Sparse.get zero m i))

/-- A signed 32-bit number's bytes. -/
def leInt (v : Int) : List Byte := leBytes 4 (wdI v).toNat

/-- The evicted coverage item of a slot, from one half's copy (R89, R98). -/
def State.evictItem (s : State) (i : Nat) (x : Slot) (h : Half) : List Byte :=
  let cells := covBytes (x.covOf h)
  let b := [3, BitVec.ofNat 8 (8 * b2n x.damaged + 16 * b2n x.partial_)] ++ leBytes 2 (s.epoch pgMap).toNat ++ leBytes 2 x.gen ++
    leBytes 2 i ++ leInt x.tc ++ leInt x.tr ++ leBytes 2 s.pitch ++ leBytes 2 s.ring.nodeId.toNat ++ List.replicate 4 0 ++
    leBytes 4 (crc32 cells).toNat
  b ++ leBytes 4 (crc32 b).toNat ++ cells

/-- Post waiting evicted items on Q8 in slot order while it has credit (R98). -/
def State.postEvictions : Nat → State → State
  | 0, s => s
  | fuel + 1, s =>
    match s.inCharge, s.slotsWith (fun x => decide (x.st = .evicting) && !x.posted) with
    | some h, i :: _ =>
      let x := s.slot i
      match s.postItem 8 0 (s.evictItem i x h) with
      | (false, s) => s
      | (true, s) => State.postEvictions fuel ((s.setSlot i { x with posted := true }).count MAP.EVICT_TOTAL 1)
    | _, _ => s

/-- CELL_CRC of one half's copy of a coverage tile. -/
def Slot.cellCrc (x : Slot) (h : Half) : Word := crc32 (covBytes (x.covOf h))

/-- Compare the CELL_CRC of the two halves' copies of an evicted tile (R112); equal copies have equal CRCs. -/
def State.compareEvict (s : State) (i : Nat) (x : Slot) : State :=
  if s.bothInService ∧ x.cov.get 0 ≠ x.cov.get 1 ∧ x.cellCrc .a ≠ x.cellCrc .b then
    ((s.setEvt MAP.MAP_EVT.DIVERGE).bumpReg MAP.DIVERGE_CNT 1).record Rec.MAP_DIVERGE pgMap (wdI x.tc) (wdI x.tr) (slotWord i x.gen)
  else s

/-- A slot leaves REQUESTED or RESIDENT: EVICTING, or FREE with COV_EN = 0 (Table 3-6). -/
def State.evict (s : State) (i : Nat) : State :=
  let x := s.slot i
  if !s.covEn then s.freeSlot i
  else
    let s := s.compareEvict i x
    s.setSlot i { x with st := .evicting, partial_ := !x.covOk, prxOk := false, posted := false, consumed := false }

/-- The wanted tiles of boxes given in half-millimetres (R93). -/
def State.wantedTiles (s : State) (boxes : List (Int × Int × Int × Int)) : List (Int × Int) :=
  let span : Int := 128 * s.pitch
  (boxes.flatMap (fun b =>
    let (e0, n0, e1, n1) := b
    let c0 := fdiv e0 span
    let r0 := fdiv n0 span
    let nc := (fdiv e1 span - c0 + 1).toNat
    let nr := (fdiv n1 span - r0 + 1).toNat
    (List.range nc).flatMap (fun (i : Nat) => (List.range nr).map (fun (j : Nat) => (c0 + (i : Int), r0 + (j : Int)))))).eraseDups

/-- Insert by a key, after equal keys. -/
def insertBy {α : Type} (key : α → Nat) (x : α) : List α → List α
  | [] => [x]
  | y :: ys => if key x < key y then x :: y :: ys else y :: insertBy key x ys

def sortBy {α : Type} (key : α → Nat) (xs : List α) : List α := xs.foldl (fun l x => insertBy key x l) []

/-- Chebyshev distance in tiles from the VRP's tile, then slot number (R94). DESIGN CHOICE (log 119): two wanted tiles of one
slot at one distance tie in both keys; the one that comes first in the outlets' boxes claims the slot. -/
def State.tileKey (s : State) (v : Int × Int) (t : Int × Int) : Nat :=
  max (t.1 - v.1).natAbs (t.2 - v.2).natAbs * 4096 + s.slotOf t.1 t.2

/-- One wanted tile's claim in the demand phase (R95, Table 3-6). -/
def State.claimSlot (s : State) (wanted : List (Int × Int)) (t : Int × Int) : State :=
  let i := s.slotOf t.1 t.2
  let x := s.slot i
  match x.st with
  | .free => s.giveSlot i t.1 t.2
  | .evicting => s
  | _ =>
    if x.tc = t.1 ∧ x.tr = t.2 then s
    else if wanted.contains (x.tc, x.tr) then s
    else
      let s := s.evict i
      if (s.slot i).st = .free then s.giveSlot i t.1 t.2 else s

/-- Mark the slots whose tile is wanted. -/
def State.markWanted (s : State) (wanted : List (Int × Int)) : State :=
  s.modMap (fun m => { m with
    slots := m.slots.map (fun e =>
    (e.1, { e.2 with wanted := decide (e.2.st = .requested ∨ e.2.st = .resident) && wanted.contains (e.2.tc, e.2.tr) })) })

/-- One slot in the table that R333's digest covers. DESIGN CHOICE (log 162): STATE in one byte, GEN, tc and tr, little-endian. -/
def slotRow (x : Slot) : List Byte := BitVec.ofNat 8 x.st.code :: leBytes 2 x.gen ++ leInt x.tc ++ leInt x.tr

/-- The CRC-32 over the slot table, in slot order (R333). -/
def State.slotTableCrc (s : State) : Word := crc32 ((List.range s.nSlots).flatMap (fun i => slotRow (s.slot i)))

/-- Step 3 of Table 3-5: consumed evictions free their slots; where a wanted set is formed, tiles claim theirs. -/
def State.mapSlots (s : State) (boxes : Option (List (Int × Int × Int × Int))) (vrp : Int × Int) : State :=
  let s := (s.slotsWith (fun x => decide (x.st = .evicting) && x.consumed)).foldl State.freeSlot s
  let s := s.postEvictions 2048
  match boxes with
  | some bs =>
    if s.mapEn ∧ s.map.flushing = false then
      let w := s.wantedTiles bs
      let s := s.markWanted w
      let s := (sortBy (s.tileKey vrp) w).foldl (fun s t => s.claimSlot w t) s
      let s := s.markWanted w
      let s := s.postEvictions 2048
      let ready := w.all (fun t => let x := s.slot (s.slotOf t.1 t.2); decide (x.st = .resident ∧ x.tc = t.1 ∧ x.tr = t.2))
      s.modMap (fun m => { m with readyNext := ready, wantedNext := w.length })
    else (s.markWanted []).modMap (fun m => { m with readyNext := false, wantedNext := 0 })
  | none => (s.markWanted []).modMap (fun m => { m with readyNext := false, wantedNext := 0 })

/-- The demand phase: the slot changes, and then the digest of the slot table (R94 step 3, R333). -/
def State.mapDemand (s : State) (boxes : Option (List (Int × Int × Int × Int))) (vrp : Int × Int) : State :=
  let s := s.mapSlots boxes vrp
  s.modMap (fun m => { m with slotCrc := s.slotTableCrc })

/-- WIN_READY and MAP_WANTED are published at τ_m + 80 µs (R100). -/
def State.publishWindow (s : State) : State :=
  (s.setFld MAP.MAP_STAT.WIN_READY (b2n s.map.readyNext)).setReg MAP.MAP_WANTED (wd (s.map.wantedNext % 4096))

/-- MAP_STAT[2:0] is published at τ_m + 180 µs (R100). -/
def State.publishReads (s : State) : State :=
  let m := s.map
  ((s.setFld MAP.MAP_STAT.LATE (b2n m.late)).setFld MAP.MAP_STAT.CONFLICT (b2n m.conflict)).setFld MAP.MAP_STAT.STALLED (b2n m.stalled)

/-! Requests (R96). -/

/-- The bytes of a tile request (Table 3-7). -/
def State.requestItem (s : State) (i : Nat) (x : Slot) : List Byte :=
  leInt x.tc ++ leInt x.tr ++ leBytes 2 x.gen ++ leBytes 2 (s.epoch pgMap).toNat ++ leBytes 2 i ++
    [BitVec.ofNat 8 (b2n (!x.covOk) + 2 * b2n (!x.prxOk)), BitVec.ofNat 8 x.retry]

/-- Drop queued requests of slots that have been given out again or left REQUESTED. -/
def State.liveRequests (s : State) : List (Nat × Nat) :=
  s.map.reqQ.filter (fun r => let x := s.slot r.1; decide (x.st = .requested ∧ x.gen = r.2))

/-- TILE_REQUEST_POST: the first queued request, with Q9 credit and under REQ_PER_TICK (R96). -/
def execTileRequestPost (t : Time) (s : State) : Res :=
  let s := s.at t
  let s := s.modMap (fun m => { m with reqQ := s.liveRequests })
  match s.map.reqQ with
  | [] => .next s
  | (i, _) :: r =>
    let m := tickOf s.now
    let n := if s.map.reqTick = m then s.map.reqN else 0
    if s.up ∧ s.drives ∧ n < s.fld MAP.WIN_REQ.REQ_PER_TICK then
      let x := s.slot i
      let p := s.postItem 9 0 (s.requestItem i x)
      if p.1 then
        let s := p.2.setSlot i { x with reqAt := some s.now }
        let s := s.modMap (fun q => { q with reqQ := r, reqTick := m, reqN := n + 1 })
        .next (s.count MAP.REQ_TOTAL 1)
      else .next p.2
    else .next s

/-- REQUEST_RETRY: RETRY_MS since the last request with a plane still missing (Table 3-6). -/
def execRequestRetry (t : Time) (slot : BitVec 11) (s : State) : Res :=
  let s := s.at t
  let i := slot.toNat
  let x := s.slot i
  match x.reqAt with
  | none => .next s
  | some a =>
    if s.up ∧ x.st = .requested ∧ (x.covOk ∧ x.prxOk) = false ∧ a + s.fld MAP.WIN_REQ.RETRY_MS * msPs ≤ s.now then
      let s := s.setSlot i { x with reqAt := none, retry := min (x.retry + 1) 255 }
      .next (s.modMap (fun m => { m with reqQ := m.reqQ ++ [(i, x.gen)] }))
    else .next s

/-- EVICT_POST: waiting evicted items go out as credit returns, in slot order (R98). -/
def execEvictPost (t : Time) (s : State) : Res :=
  let s := s.at t
  if s.up then .next (s.postEvictions 2048) else .next s

/-! Painting (R101, R104, R107 to R109, R113, R144). -/

/-- The bytes of a stroke (Table 3-9). -/
def strokeBytes (k : Stroke) : List Byte :=
  leInt k.e0 ++ leInt k.n0 ++ leInt k.e1 ++ leInt k.n1 ++ leBytes 2 k.width ++
    [BitVec.ofNat 8 k.paint, BitVec.ofNat 8 k.outlet] ++ leBytes 2 k.job ++ leBytes 2 k.tick

def parseStroke (d : List Byte) : Stroke :=
  { e0 := sx 32 (leAt d 0 4), n0 := sx 32 (leAt d 4 4), e1 := sx 32 (leAt d 8 4), n1 := sx 32 (leAt d 12 4),
    width := leAt d 16 2, paint := leAt d 18 1, outlet := leAt d 19 1, job := leAt d 20 2, tick := leAt d 22 2 }

/-- Resolve a stroke's start line against the kept end line of its (node, outlet), and keep its own (R144). -/
def State.lineUp (s : State) (node : Nat) (k : Stroke) : LinedStroke × State :=
  let de := k.e1 - k.e0
  let dn := k.n1 - k.n0
  let prev := s.map.ends.find? (fun l => decide (l.node = node ∧ l.outlet = k.outlet))
  let rest := s.map.ends.filter (fun l => !decide (l.node = node ∧ l.outlet = k.outlet))
  let start : Int × Int :=
    match prev with
    | some l => if l.e = k.e0 ∧ l.n = k.n0 ∧ (l.tick + 1) % 65536 = k.tick then (l.de, l.dn) else (de, dn)
    | none => (de, dn)
  let ls : LinedStroke := { st := k, de := start.1, dn := start.2 }
  if de = 0 ∧ dn = 0 then
    (ls, s.modMap (fun m => { m with
      ends := m.ends.map (fun l =>
      if l.node = node ∧ l.outlet = k.outlet then { l with tick := k.tick } else l) }))
  else
    (ls, s.modMap (fun m => { m with
      ends := rest ++
      [{ node := node, outlet := k.outlet, e := k.e1, n := k.n1, de := de, dn := dn, tick := k.tick }] }))

/-- The cell whose centre is (x, y) half-millimetres is painted by a stroke in field frame (R144). -/
def strokeHits (l : LinedStroke) (x y : Int) : Bool :=
  let k := l.st
  let de := k.e1 - k.e0
  let dn := k.n1 - k.n0
  let ax := x - 2 * k.e0
  let ay := y - 2 * k.n0
  let bx := x - 2 * k.e1
  let by_ := y - 2 * k.n1
  let cr := ax * dn - ay * de
  let w2 := (k.width : Int) * k.width * (de * de + dn * dn)
  decide (de ≠ 0 ∨ dn ≠ 0) && decide (bx * de + by_ * dn < 0) && decide (0 ≤ ax * l.de + ay * l.dn) &&
    (decide (0 ≤ cr) || decide (cr * cr ≤ w2)) && (decide (cr < 0) || decide (cr * cr < w2))

/-- In line frame: column `outlet`, the rows whose centre lies in [N0, N1), modulo 2^32 (R113). -/
def lineHits (p : Nat) (k : Stroke) (col row : Int) : Bool :=
  let c := (2 * row * p + p - 2 * k.n0).emod 8589934592
  decide (col = (k.outlet : Int)) && decide (c < (2 * (k.n1 - k.n0)).emod 8589934592)

/-- A box, in half-millimetres, that holds every cell centre the stroke can paint. Where the chord turns 90° or more from the
start line's direction, the three conditions of R144 bound the strip on one side only, and the box is the whole field. -/
def strokeBox (l : LinedStroke) : Int × Int × Int × Int :=
  let k := l.st
  let de := k.e1 - k.e0
  let dn := k.n1 - k.n0
  let dot := de * l.de + dn * l.dn
  let crs := de * l.dn - dn * l.de
  let w : Int := k.width
  let m := w + (w * crs.natAbs + dot - 1) / dot + 1
  if de = 0 ∧ dn = 0 then (2 * k.e0, 2 * k.n0, 2 * k.e0, 2 * k.n0)
  else if dot ≤ 0 then (-4294967296, -4294967296, 4294967295, 4294967295)
  else (2 * min k.e0 k.e1 - m, 2 * min k.n0 k.n1 - m, 2 * max k.e0 k.e1 + m, 2 * max k.n0 k.n1 + m)

/-- The tiles that a box meets. -/
def State.boxTiles (s : State) (b : Int × Int × Int × Int) : List (Int × Int) := s.wantedTiles [b]

/-- The mask of painted cells of one coverage word of a tile. -/
def State.paintWord (s : State) (l : LinedStroke) (tc tr : Int) (i : Nat) : Nat :=
  let p : Int := s.pitch
  let row := 64 * tr + ((i / 4 : Nat) : Int)
  let col0 := 64 * tc + ((16 * (i % 4) : Nat) : Int)
  let line := s.lineFrame
  let b := strokeBox l
  let y := 2 * row * p + p
  let x0 := 2 * col0 * p + p
  if !line && (decide (y < b.2.1) || decide (b.2.2.2 < y) || decide (x0 + 30 * p < b.1) || decide (b.2.2.1 < x0)) then 0
  else
    (List.range 16).foldl (fun a (c : Nat) =>
      let hit := if line then lineHits s.pitch l.st (col0 + (c : Int)) row else strokeHits l (x0 + 2 * (c : Int) * p) y
      if hit then a + 2 ^ (4 * c) else a) 0

/-- The words of a tile in which a stroke paints cells, with their masks. -/
def State.paintMask (s : State) (l : LinedStroke) (tc tr : Int) : List (Nat × Nat) :=
  ((List.range 256).map (fun i => (i, s.paintWord l tc tr i))).filter (fun p => decide (p.2 ≠ 0))

/-- Paint the cells of a mask with paint bits APPLIED and PRODUCT2 (R101); no other bit of PAINT paints (R83, R104). -/
def paintCells (b w m : Nat) : Nat :=
  w ||| (if b.testBit 0 then ((w &&& m) &&& appliedMask) <<< 1 else 0) ||| (m * (b &&& 9))

/-- Paint a stroke's part in a slot, in both halves. -/
def State.paintSlot (s : State) (i : Nat) (b : Nat) (ms : List (Nat × Nat)) : State :=
  let x := s.slot i
  s.setSlot i { x with
    cov := x.cov.map (fun m =>
    ms.foldl (fun m p => Sparse.set zero m p.1 (paintCells b (Sparse.get zero m p.1) p.2)) m) }

/-- The bytes of a spill item (R109). -/
def spillItem (p : Spill) : List Byte :=
  leInt p.tc ++ leInt p.tr ++ [BitVec.ofNat 8 p.reason, BitVec.ofNat 8 p.strokes.length] ++ leBytes 2 p.job ++
    List.replicate 4 0 ++ p.strokes.flatMap strokeBytes

/-- Gather the parts that one paint phase spills, by tile, reason and job, 10 strokes to an item. DESIGN CHOICE (log 121): a
part never joins an item that waits from an earlier tick. -/
def addSpill (l : List Spill) (tc tr : Int) (reason job : Nat) (k : Stroke) : List Spill :=
  match l.findIdx? (fun p => decide (p.tc = tc ∧ p.tr = tr ∧ p.reason = reason ∧ p.job = job ∧ p.strokes.length < 10)) with
  | some i => modNth (fun p => { p with strokes := p.strokes ++ [k] }) i l
  | none => l ++ [{ tc := tc, tr := tr, reason := reason, job := job, strokes := [k] }]

/-- A stroke part that is lost is counted and recorded (R109). -/
def State.partLost (s : State) (p : Spill) : State :=
  let s := (s.bumpReg MAP.SPILL_LOST_CNT 1).setEvt MAP.MAP_EVT.SPILL_LOST
  let i := s.slotOf p.tc p.tr
  s.record Rec.SPILL_LOST pgMap (wdI p.tc) (wdI p.tr) (slotWord i (s.slot i).gen)

/-- A spill item that is lost, with each of its parts. -/
def State.spillLost (s : State) (p : Spill) : State := p.strokes.foldl (fun s _ => s.partLost p) s

/-- A spill item that waits for credit, or is lost with 32 waiting (R109). DESIGN CHOICE (log 121): SPILL_CNT counts its parts
when it starts to wait. -/
def State.spillWait (s : State) (p : Spill) : State :=
  if s.map.spills.length < 32 then
    (s.modMap (fun m => { m with spills := m.spills ++ [p] })).bumpReg MAP.SPILL_CNT p.strokes.length
  else s.spillLost p

/-- Post a spill item on Q14, or make it wait; beyond 32 waiting items its parts are lost (R109). -/
def State.spill (s : State) (p : Spill) : State :=
  let n := p.strokes.length
  if s.map.spills.isEmpty ∧ s.drives then
    match s.postItem 14 0 (spillItem p) with
    | (true, s) => s.bumpReg MAP.SPILL_CNT n
    | (false, s) => s.spillWait p
  else s.spillWait p

/-- SPILL_POST: the first waiting spill item, as Q14 credit returns (R109). -/
def execSpillPost (t : Time) (s : State) : Res :=
  let s := s.at t
  match s.map.spills with
  | [] => .next s
  | p :: r =>
    if s.up ∧ s.drives then
      let x := s.postItem 14 0 (spillItem p)
      if x.1 then .next (x.2.modMap (fun m => { m with spills := r })) else .next x.2
    else .next s

/-- The tile rows that a line-frame stroke meets, its interval taken modulo 2^32 (R113). -/
def lineRows (pitch : Nat) (k : Stroke) : List Int :=
  let p : Int := 64 * pitch
  let a := k.n0.emod 4294967296
  let b := a + (k.n1 - k.n0).emod 4294967296
  let rows := fun (lo hi : Int) =>
    (List.range (fdiv hi p - fdiv lo p + 1).toNat).map (fun (j : Nat) => fdiv lo p + (j : Int))
  if b < 4294967296 then rows a b else rows a 4294967295 ++ rows 0 (b - 4294967296)

/-- Paint one tile with an own stroke, or add it to the spills. -/
def State.paintTile (s : State) (l : LinedStroke) (k : Stroke) (sp : List Spill) (t : Int × Int) : List Spill × State :=
  let ms := s.paintMask l t.1 t.2
  if ms.isEmpty then (sp, s)
  else
    let i := s.slotOf t.1 t.2
    let x := s.slot i
    match x.st with
    | .evicting => (addSpill sp t.1 t.2 4 k.job k, s)
    | .free => (addSpill sp t.1 t.2 1 k.job k, s)
    | _ =>
      if x.tc = t.1 ∧ x.tr = t.2 then (sp, s.paintSlot i k.paint ms)
      else if x.wanted then (addSpill sp t.1 t.2 3 k.job k, s)
      else (addSpill sp t.1 t.2 1 k.job k, s)

/-- Paint one own stroke: each tile's part is painted or spilled (R108). -/
def State.paintOwn (s : State) (k : Stroke) (sp : List Spill) : List Spill × State :=
  let (l, s) := s.lineUp s.ring.nodeId.toNat k
  let tiles := if s.lineFrame then
      (lineRows s.pitch k).map (fun r => (fdiv (k.outlet : Int) 64, r))
    else s.boxTiles (strokeBox l)
  tiles.foldl (fun (a : List Spill × State) t => a.2.paintTile l k a.1 t) (sp, s)

/-- Paint one part of a received stroke; a changed GEN or an EVICTING slot spills it (R108). -/
def State.paintRx (s : State) (r : RxPart) (sp : List Spill) : List Spill × State :=
  let i := s.slotOf r.tc r.tr
  let x := s.slot i
  if x.gen = r.gen ∧ (x.st = .requested ∨ x.st = .resident) then
    (sp, s.paintSlot i r.ls.st.paint (s.paintMask r.ls r.tc r.tr))
  else (addSpill sp r.tc r.tr 2 r.ls.st.job r.ls.st, s)

def State.mapsOff (s : State) : Bool := !s.mapEn || !s.covEn

/-- The paint phase of tick m: own strokes of tick m − 1, then the paint set, which closed at τ_m (R94 step 2). -/
def State.paintPhase (s : State) : State :=
  let τ := tickStart s.now
  let own := s.map.own
  let set := s.map.rx.filter (fun r => decide (r.at_ < τ))
  let s := s.modMap (fun m => { m with own := [], rx := m.rx.filter (fun r => !decide (r.at_ < τ)), conflictSeen := [] })
  if s.mapsOff then s.bump MAP.STROKE_DISC_CNT.OUTSIDE set.length
  else
    let a := own.foldl (fun (a : List Spill × State) k => a.2.paintOwn k a.1) ([], s)
    let a := set.foldl (fun (a : List Spill × State) r => a.2.paintRx r a.1) a
    a.1.foldl State.spill a.2

/-! Received strokes (R105 to R107). -/

/-- ORG of R105. -/
def State.orgCrc (s : State) : Word :=
  crc32 (leBytes 4 (s.reg POSE.POSE_ORG_LAT).toNat ++ leBytes 4 (s.reg POSE.POSE_ORG_LON).toNat ++
    leBytes 4 (s.reg POSE.POSE_ORG_H).toNat)

/-- The strokes of a payload. -/
def strokesOf : Nat → List Byte → List Stroke
  | 0, _ => []
  | n + 1, d => parseStroke (d.take 24) :: strokesOf n (d.drop 24)

/-- Tag the tile parts of a received stroke with their slots' GEN, or count them OUTSIDE (R107). -/
def State.tagStroke (s : State) (node : Nat) (k : Stroke) : State :=
  let (l, s) := s.lineUp node k
  (s.boxTiles (strokeBox l)).foldl (fun s t =>
    if (s.paintMask l t.1 t.2).isEmpty then s
    else
      let x := s.slot (s.slotOf t.1 t.2)
      if (x.st = .requested ∨ x.st = .resident) ∧ x.tc = t.1 ∧ x.tr = t.2 ∧ s.mapsOff = false then
        s.modMap (fun m => { m with rx := m.rx ++ [{ ls := l, tc := t.1, tr := t.2, gen := x.gen, at_ := s.now }] })
      else s.bump MAP.STROKE_DISC_CNT.OUTSIDE 1) s

/-- A STROKE payload reaches both halves (R106). DESIGN CHOICE (log 163): R106 names no counter for a frame of another GROUP or
of the own NODE; it is discarded uncounted. -/
def State.admitStrokes (s : State) (d : List Byte) (rsync : Bool) : State :=
  let node := leAt d 0 2 % 1024
  let seq := BitVec.ofNat 32 (leAt d 4 4)
  if !s.flag MAP.GRP_CFG.STROKE_RX ∨ leAt d 2 1 % 128 ≠ s.fld MAP.GRP_CFG.GROUP ∨ node = s.ring.nodeId.toNat then s
  else if leAt d 8 4 ≠ s.orgCrc.toNat then
    (s.bump MAP.ORG_GRP_CNT.ORG_MISMATCH 1).setEvt MAP.MAP_EVT.ORG_MISMATCH
  else
    let n := leAt d 3 1
    let ks := strokesOf n (d.drop 16)
    let jobOk := ks.all (fun k => decide (epochCheck (BitVec.ofNat 16 k.job) (s.epoch pgMap) = .accepted))
    if !jobOk then s.bump MAP.STROKE_DISC_CNT.STALE 1
    else
      let s := if rsync then
          s.modMap (fun m => { m with senders := m.senders.map (fun e => if e.1 = node then (node, none) else e) })
        else s
      match s.map.senders.find? (fun e => decide (e.1 = node)) with
      | none =>
        if 7 ≤ s.map.senders.length then s.bump MAP.ORG_GRP_CNT.GROUP_FULL 1
        else
          let s := s.modMap (fun m => { m with senders := m.senders ++ [(node, some seq.toNat)] })
          (ks.foldl (fun s k => s.tagStroke node k) s).count MAP.STROKE_RX_CNT 1
      | some (_, last) =>
        let diff : Int := match last with
          | none => 1
          | some q => (seq - BitVec.ofNat 32 q).toInt
        if diff ≤ 0 then s.bump MAP.STROKE_DISC_CNT.DUP 1
        else
          let s := if 1 < diff then s.bumpReg MAP.STROKE_GAP_CNT 1 else s
          let s := s.modMap (fun m => { m with senders := m.senders.map (fun e => if e.1 = node then (node, some seq.toNat) else e) })
          (ks.foldl (fun s k => s.tagStroke node k) s).count MAP.STROKE_RX_CNT 1

/-! Control of the window (R114, R115). -/

/-- Every REQUESTED and RESIDENT slot goes to EVICTING. -/
def State.startFlush (s : State) : State :=
  let n := s.occupied
  let s := s.modMap (fun m => { m with flushing := decide (n ≠ 0), flushN := n })
  let s := if n = 0 then s else s.setReg (hdr pgMap HDR.PG_PROG_PCT) 0
  let s := (s.slotsWith (fun x => decide (x.st = .requested ∨ x.st = .resident))).foldl State.evict s
  let s := s.postEvictions 2048
  if n = 0 ∧ s.mapEn = false then s.setDrained pgMap else s

/-- WIN_CTRL.FLUSH written 1, refused in RUN (R114). -/
def State.winFlush (s : State) : State := if s.dev = .run then s.err pgMap 0x840 .mapBusy else s.startFlush

def execFlush (t : Time) (s : State) : Res :=
  let s := s.at t
  if s.running then .next s.winFlush else .next s

/-- WIN_CTRL.ADV_JOB written 1; only with every slot FREE, refused in RUN (R114). -/
def State.advJob (s : State) : State :=
  if s.dev = .run ∨ s.allFree = false then s.err pgMap 0x840 .mapBusy else s.setEpoch pgMap (s.epoch pgMap + 1)

def execAdvJob (t : Time) (s : State) : Res :=
  let s := s.at t
  if s.running then .next s.advJob else .next s

/-! Views. -/

def State.mapOcc (s : State) : Word :=
  wd ((s.slotsWith (fun x => decide (x.st = .resident))).length * 65536 + (s.slotsWith (fun x => decide (x.st = .requested))).length)

def State.mapOcc2 (s : State) : Word :=
  wd ((s.slotsWith (fun x => decide (x.st = .evicting))).length * 65536 + (memberTiles s.member - s.occupied) % 4096)

/-- SLOT_STAT of a slot. -/
def slotStatWord (x : Slot) : Word :=
  wd (x.gen * 65536 + x.st.code * 8192 + 4096 * b2n x.damaged + 2048 * b2n x.wanted + 512 * b2n x.prxOk + 256 * b2n x.covOk)

/-- CELL_DATA: the cells of the selected slot that CELL_IDX names, from the copy of the half in charge. -/
def State.cellData (s : State) : Word :=
  let x := s.slot ((s.reg MAP.SLOT_IDX).toNat % 2048)
  let i := (s.reg MAP.CELL_IDX).toNat % 4096
  let cx := i % 64
  let cy := i / 64
  let p := if x.defRate then s.defRate else prxCell (x.prxOf s.mapHalf) (cx / 2) (cy / 2)
  wd (p * 256 + covCell (x.covOf s.mapHalf) cx cy)

end Sys2Proof.Machine
end

