-- ==== Sys2Proof/Machine/Pose.lean ====
section
/-! DEFINITION. The pose propagator, the ground-speed inputs, GSOUT, the IMU port and outlet travel (R40 to R76, R489, R490),
and the half's side of the cross-check (R333). -/
namespace Sys2Proof.Machine

def pgPose : Nat := 0x014
def pgGspd : Nat := 0x015
def pgImu : Nat := 0x013

def State.modPose (s : State) (f : PoseState → PoseState) : State := { s with pose := f s.pose }
def State.modImu (s : State) (f : ImuState → ImuState) : State := { s with imu := f s.imu }

/-- The pose interval, 100,000 ns. -/
def posePs : Nat := 100000000

/-- A free signed number of `n` bits. -/
def State.freeInt (s : State) (n : Nat) : Int × State :=
  let (v, s) := s.free
  (sx n v.toNat, s)

/-- A free number below 2^n. -/
def State.freeNat (s : State) (n : Nat) : Nat × State :=
  let (v, s) := s.free
  (v.toNat % 2 ^ n, s)

/-! Cross-check (R333). -/

/-- A disagreement that began in tick `f`: event, record of the half in charge, and identification starts. -/
def State.disagree (s : State) (f : Nat) : State :=
  let s := s.setEvt LAUREL.LAUREL_EVT.XCHK_DISAGREE
  let h := s.ownHalf
  let (v, s) := s.freeWord
  let (w, s) := s.freeWord
  let s := s.recordOwn h Rec.XCHK_DISAGREE 3 (wd h.ix.val) v w
  s.setLaurel (fun l => { l with ident := some (l.ident.getD f), identAt := s.now, decRun := 0, poseRun := 0, slotRun := 0 })

/-- The 60 bytes of a pose word before its CRC, and all 64 (Table 2-2). -/
def PoseWord.body (w : PoseWord) : List Byte :=
  leBytes 8 (w.k * 100000) ++ leInt w.east ++ leInt w.north ++ leInt w.up ++ leBytes 4 w.heading ++ leInt w.yaw ++
    leInt w.speed ++ leBytes 4 w.quality ++ leBytes 2 (wdI w.pitch).toNat ++ leBytes 2 (wdI w.roll).toNat ++
    leBytes 2 w.hAcc ++ leBytes 2 w.vAcc ++ leBytes 4 w.implH ++ leBytes 4 w.hitch ++ leInt w.accel ++
    leBytes 2 w.k ++ leBytes 2 w.node

def PoseWord.bytes (w : PoseWord) : List Byte := w.body ++ leBytes 4 (crc32 w.body).toNat

/-- One comparison of the CRC fields of the halves' pose words: `peer` is the other half's. A mismatch is counted, and
POSE_LIMIT in a row make a disagreement. -/
def State.comparePose (s : State) (peer : Word) : State :=
  if !s.bothInService then s
  else if peer = crc32 s.pose.cur.body then s.setLaurel (fun l => { l with poseRun := 0 })
  else
    let s := (s.bumpReg LAUREL.POSE_MISMATCH_CNT 1).setLaurel (fun l =>
      { l with poseRun := l.poseRun + 1, lastMismatch := some s.now })
    if s.fld LAUREL.LAUREL_CFG.POSE_LIMIT ≤ s.laurel.poseRun then s.disagree (tickOf (s.now - (s.laurel.poseRun - 1) * posePs)) else s

/-! The pose word (R46, R47). -/

/-- The word that 64 bytes spell, and whether its CRC is valid. -/
def parsePose (d : List Byte) : PoseWord × Bool :=
  let g := fun (o n : Nat) => leAt d o n
  let i := fun (o : Nat) => sx 32 (leAt d o 4)
  ({ k := g 0 8 / 100000, east := i 8, north := i 12, up := i 16, heading := g 20 4, yaw := i 24, speed := i 28,
     quality := g 32 4, pitch := sx 16 (g 36 2), roll := sx 16 (g 38 2), hAcc := g 40 2, vAcc := g 42 2,
     implH := g 44 4, hitch := g 48 4, accel := i 52, node := g 58 2 % 1024 },
   decide (d.length = 64) && decide (g 60 4 = (crc32 (d.take 60)).toNat) && decide (g 0 8 % 100000 = 0))

def PoseWord.qual (w : PoseWord) : Nat := w.quality % 16
def PoseWord.spdValid (w : PoseWord) : Bool := w.quality.testBit 15
def PoseWord.hitchOk (w : PoseWord) : Bool := w.quality.testBit 11

/-- The quality condition of arming and of R133: QUAL ≥ MIN_QUAL, or in line frame SPD_VALID. -/
def State.qualOk (s : State) (w : PoseWord) : Bool :=
  if s.lineFrame then w.spdValid else decide (s.fld POSE.POSE_CFG.MIN_QUAL ≤ w.qual)

/-- SRC = RING. -/
def State.poseRing (s : State) : Bool := s.flag POSE.POSE_CFG.SRC

/-- Publish a word: the registers that show it, the run of R58, and since when the quality has been low (Table 1-6). -/
def State.takeWord (s : State) (w : PoseWord) : State :=
  let s := s.modPose (fun p => { p with cur := w })
  let s := s.setReg POSE.POSE_STAT (wd w.quality)
  let s := s.setReg POSE.POSE_ACC (wd (w.vAcc * 65536 + w.hAcc))
  { s with
    spdRun := if w.spdValid then min (s.spdRun + 1) 2000 else 0,
    qualLow := if s.qualOk w then none else some (s.qualLow.getD s.now) }

/-! Ground speed (R52, R53). -/

def gsIx (b : Bool) : Fin 2 := if b then 1 else 0
def gsEn (b : Bool) : Fld := if b then GSPD.GSB_CFG.EN else GSPD.GSA_CFG.EN
def gsMinw (b : Bool) : Fld := if b then GSPD.GSB_CFG.MINW_US else GSPD.GSA_CFG.MINW_US
def gsEdge (b : Bool) : Fld := if b then GSPD.GSB_CFG.EDGE else GSPD.GSA_CFG.EDGE
def gsTmo (b : Bool) : Fld := if b then GSPD.GSB_CFG.TIMEOUT_MS else GSPD.GSA_CFG.TIMEOUT_MS
def gsUmpp (b : Bool) : Nat := if b then GSPD.GSB_UMPP else GSPD.GSA_UMPP

/-- GSB is a direction level. -/
def State.gsDir (s : State) : Bool :=
  let m := s.fld GSPD.GSB_CFG.MODE
  s.flag GSPD.GSB_CFG.EN && (decide (m = 1) || decide (m = 2))

/-- GS_EDGE: an edge on GSA or GSB whose fate is known: the pulse has lasted MINW_US, or it has ended before (R52). A pulse
that is too short counts in GS_GLITCH whatever EDGE selects (log entry 156). The level of GSB is followed while the input is
disabled or counts speed, so that a direction level in use starts from it. -/
def execGsEdge (t : Time) (b rise : Bool) (stamp : Time) (s : State) : Res :=
  let s := s.at t
  if s.up ∧ stamp ≤ s.now then
    let acc := stamp + s.fld (gsMinw b) * usPs
    if s.now < acc then
      .next (if s.flag (gsEn b) then s.bump (if b then GSPD.GS_GLITCH.GSB else GSPD.GS_GLITCH.GSA) 1 else s)
    else
    let s := if b then s.modPose (fun p => { p with dirQ := p.dirQ ++ [(acc, rise)] }) else s
    if s.flag (gsEn b) = false ∨ (b = true ∧ s.gsDir = true) then .next s
    else
      let e := s.fld (gsEdge b)
      if e = 2 ∨ (e = 0 ∧ rise) ∨ (e = 1 ∧ rise = false) then
        let s := s.modPose (fun p => { p with
          gs := vmod p.gs (gsIx b) (fun x => { x with acc := x.acc ++ [(stamp / tclkPs * tclkPs, acc)] }) })
        .next (s.count (if b then GSPD.GSB_EDGES else GSPD.GSA_EDGES) 1)
      else .next s
  else .next s

/-- An edge counts at pose instant `tk`: stamped by then, and accepted by the cutoff (R45, R52). -/
def gsDue (tk : Time) (e : Time × Time) : Bool := decide (e.1 ≤ tk ∧ e.2 ≤ tk + 5 * usPs)

/-- One input at pose instant `tk` (R52): its new state. -/
def gsStep (x : GsIn) (umpp tmo : Nat) (tk : Time) : GsIn :=
  let ready := (x.acc.filter (gsDue tk)).map (·.1)
  let rest := x.acc.filter (fun e => !gsDue tk e)
  let cnt := min 2 (x.cnt + ready.length)
  let r : Option Time × List Time := match x.ref, ready with
    | none, e :: es => (some e, es)
    | r, es => (r, es)
  match r with
  | (none, _) => { x with acc := rest, cnt := cnt }
  | (some a, es) =>
    match es.getLast? with
    | some l =>
      if a < l then
        { acc := rest, ref := some l, meas := some (l - a, es.length), cnt := cnt,
          spd := ((umpp * es.length * 1000000000000 / ((l - a) * 4096) : Nat) : Int) }
      else { x with acc := rest, ref := some l, cnt := cnt }
    | none =>
      let e := tk - a
      let y := { x with acc := rest, ref := some a, cnt := cnt }
      if tmo * msPs < e then { y with spd := 0 }
      else
        match x.meas with
        | some (d, n) => if d < e * n then { y with spd := ((umpp * 1000000000000 / (e * 4096) : Nat) : Int) } else y
        | none => y

/-- Both inputs at pose instant `tk`: speeds and validity of GSA and GSB. A speed beyond its register's range shows as the
end of the range (log entry 157). -/
def State.gsUpdate (s : State) (tk : Time) : State :=
  let go := fun (b : Bool) => gsStep (s.pose.gs.get (gsIx b)) (s.reg (gsUmpp b)).toNat (s.fld (gsTmo b)) tk
  let off := fun (x : GsIn) => { x with acc := [], spd := 0, cnt := 0, ref := none, meas := none }
  let a := if s.flag GSPD.GSA_CFG.EN then go false else off (s.pose.gs.get 0)
  let b := if s.flag GSPD.GSB_CFG.EN ∧ s.gsDir = false then go true else off (s.pose.gs.get 1)
  let due := s.pose.dirQ.filter (fun e => decide (e.1 ≤ tk))
  let lvl := (due.getLast?.map (·.2)).getD s.pose.dirLevel
  let rev := s.gsDir && decide (lvl = decide (s.fld GSPD.GSB_CFG.MODE = 1))
  let s := s.modPose (fun p => { p with
    gs := (p.gs.set 0 (if rev then { a with spd := -a.spd } else a)).set 1 b, dirLevel := lvl,
    dirQ := p.dirQ.filter (fun e => !decide (e.1 ≤ tk)) })
  let s := (s.setReg GSPD.GSA_SPD (wdI (satS 32 (if rev then -a.spd else a.spd)))).setReg GSPD.GSB_SPD (wdI (satS 32 b.spd))
  ((s.setFld GSPD.GSPD_STAT.GSB_REV (b2n rev)).setFld GSPD.GSPD_STAT.GSA_VALID (b2n (decide (2 ≤ a.cnt)))).setFld
    GSPD.GSPD_STAT.GSB_VALID (b2n (decide (2 ≤ b.cnt)))

/-- Speed of source 1 GSA, 2 GSB, 3 GNSS at the latest pose instant, and its validity. -/
def State.srcSpeed (s : State) (c : Nat) : Int :=
  if c = 1 then (s.pose.gs.get 0).spd else if c = 2 then (s.pose.gs.get 1).spd else s.pose.gnssSpd
def State.srcOk (s : State) (c : Nat) : Bool :=
  if c = 1 then s.flag GSPD.GSPD_STAT.GSA_VALID else if c = 2 then s.flag GSPD.GSPD_STAT.GSB_VALID
  else s.pose.gnssOk && !s.lineFrame

/-- The valid sources (R54, R56); the GNSS speed is not used in line frame (R72). -/
def State.valid3 (s : State) : List Nat := [1, 2, 3].filter s.srcOk

/-- The valid sources among those that PRI0 to PRI2 name, in that order (R55). -/
def State.sources3 (s : State) : List Nat :=
  ([s.fld POSE.POSE_SPD_CFG.PRI0, s.fld POSE.POSE_SPD_CFG.PRI1, s.fld POSE.POSE_SPD_CFG.PRI2].filter
    (fun c => decide (c = 1 ∨ c = 2 ∨ c = 3) && s.srcOk c)).eraseDups

/-- The two sources of a pair. -/
def pairOf (i : Fin 3) : Nat × Nat := if i = 0 then (1, 2) else if i = 1 then (1, 3) else (2, 3)

/-- R56: the two speeds differ by more than the tolerance; `v` is the previous word's SPEED. -/
def State.disagrees (s : State) (v : Int) (a b : Nat) : Bool :=
  let d := (s.srcSpeed a - s.srcSpeed b).natAbs
  decide (max (s.fld POSE.POSE_SPD_CFG.TOL_PCT * v.natAbs) (1000 * s.fld POSE.POSE_SPD_TOL.TOL_ABS_UMS) < 1000 * d)

/-- The pair disagrees, and has done so for DIS_MS. -/
def State.longDis (s : State) (i : Fin 3) (now : Time) : Bool :=
  match s.pose.dis.get i with
  | some d => decide (d.since + s.fld POSE.POSE_SPD_TIME.DIS_MS * msPs ≤ now)
  | none => false

/-- The one source that has disagreed with both others for DIS_MS, 0 if none; where each of the three has, no one stands out
(R56, log entry 124). -/
def State.outlier (s : State) (now : Time) : Nat :=
  match s.longDis 0 now, s.longDis 1 now, s.longDis 2 now with
  | true, true, false => 1
  | true, false, true => 2
  | false, true, true => 3
  | _, _, _ => 0

/-- The pairs that hold a source. -/
def pairsWith (c : Nat) : List (Fin 3) := [0, 1, 2].filter (fun i => decide ((pairOf i).1 = c ∨ (pairOf i).2 = c))

/-- Follow the disagreements at pose instant `tk` (R56). -/
def State.followDis (s : State) (tk : Time) : State :=
  let vs := s.valid3
  let v := s.pose.cur.speed
  let s := s.modPose (fun p => { p with
    dis := Vector.ofFn (fun (i : Fin 3) =>
      let (a, b) := pairOf i
      if vs.contains a ∧ vs.contains b ∧ s.disagrees v a b then some ((p.dis.get i).getD { since := tk, seen := false })
      else none) })
  let c := s.pose.excl
  let keep := decide (vs.length = 3) && (pairsWith c).any (fun i => (s.pose.dis.get i).isSome)
  let o := if vs.length = 3 then s.outlier tk else 0
  s.modPose (fun p => { p with excl := if o ≠ 0 then o else if keep then c else 0 })

/-- SPD_DISAGREE: event and record of a pair that has disagreed for DIS_MS; with three valid sources the outlier is
treated as invalid (R56). -/
def execSpdDisagree (t : Time) (s : State) : Res :=
  let s := s.at t
  match ([0, 1, 2] : List (Fin 3)).find? (fun i =>
      s.longDis i s.now && (match s.pose.dis.get i with | some d => !d.seen | none => false)) with
  | none => .next s
  | some i =>
    if s.up then
      let (a, b) := pairOf i
      let s := s.modPose (fun p => { p with dis := vmod p.dis i (Option.map (fun d => { d with seen := true })) })
      let o := if s.valid3.length = 3 then s.outlier s.now else 0
      let s := s.modPose (fun p => { p with excl := if o ≠ 0 then o else p.excl })
      let s := s.setEvt POSE.POSE_EVT.SPD_DISAGREE
      .next (s.record Rec.SPD_DISAGREE pgPose (wd a) (wd b) (wd (min (s.srcSpeed a - s.srcSpeed b).natAbs 4294967295)))
    else .next s

/-! Propagation (R48, R49, R54 to R57, R72, R490). -/

/-- Units of position per mm. -/
def posUnit : Int := 2 * 10000000 * 1073741824

/-- Advance a heading accumulator by a rate in µrad/s over 100 µs (R69). -/
def accStep (acc : Nat) (w : Int) : Nat := (((acc : Int) + w * 1146832).emod 72057594037927936).toNat

/-- A solution's course sets HEADING and YAW_RATE, and is kept for the next one's YAW_RATE; while the IMU gives the heading it
is only kept (R490). -/
def PoseState.course_ (imu : Bool) (p : PoseState) (x : Solution) : PoseState :=
  let ve := x.ve.toInt
  let vn := x.vn.toInt
  if x.qual.toNat < 2 then p
  else if 90000000000 ≤ ve * ve + vn * vn then
    let c := (courseOf ve vn + (if p.cur.speed < 0 then 2147483648 else 0)) % 4294967296
    let y := match p.course with
      | some (c0, t0) =>
        if t0 < x.time.toNat then
          fdiv (sx 32 (c + 4294967296 - c0) * 6283185307179586) (4294967296 * ((x.time.toNat - t0 : Nat) : Int))
        else 0
      | none => 0
    if imu then { p with course := some (c, x.time.toNat) }
    else { p with hacc := c * 16777216, yaw := satS 32 y, course := some (c, x.time.toNat) }
  else if imu then p
  else { p with yaw := 0 }

/-- HEADING and YAW_RATE of the word at `tk`; answers the headings before and after the advance. -/
def State.headStep (s : State) (ready : List Solution) : Nat × Nat × State :=
  if s.lineFrame then (0, 0, s.modPose (fun p => { p with hacc := 0, yaw := 0 }))
  else
    let h0 := s.pose.hacc / 16777216
    if s.imu.ok then
      let (h, s) := s.freeNat 32
      let (y, s) := s.freeInt 32
      (h0, h, s.modPose (fun p => ready.foldl (PoseState.course_ true) { p with hacc := h * 16777216, yaw := y }))
    else
      let s := s.modPose (fun p => { p with hacc := accStep p.hacc p.yaw })
      let h := s.pose.hacc / 16777216
      (h0, h, s.modPose (fun p => ready.foldl (PoseState.course_ false) p))

/-- The GNSS speed of R54 at `tk`; the age of a solution counts from its measurement instant (R303). -/
def State.gnssStep (s : State) (tk : Time) : State :=
  let h := s.pose.hacc / 16777216
  let (v, ok) := match s.pose.lastSol with
    | none => ((0 : Int), false)
    | some x =>
      ((x.ve.toInt * sin32 h + x.vn.toInt * cos32 h) / 1073741824,
        decide (2 ≤ x.qual.toNat) && decide (tk ≤ x.time.toNat * nsPs + 200 * msPs))
  let s := s.modPose (fun p => { p with gnssSpd := v, gnssOk := ok })
  (s.setReg GSPD.GNSS_SPD (wdI v)).setFld GSPD.GSPD_STAT.GNSS_VALID (b2n ok)

/-- The selection of R55 to R57; answers SPEED, SPD_SRC and SPD_VALID. -/
def State.speedStep (s : State) (tk : Time) (accel : Int) : Int × Nat × Bool × State :=
  let s := s.followDis tk
  let sel := (s.sources3.find? (fun c => decide (c ≠ s.pose.excl))).getD 0
  let s := if sel ≠ s.pose.sel then s.setEvt POSE.POSE_EVT.SRC_CHANGE else s
  let s := s.modPose (fun p => { p with sel := sel })
  let v := s.pose.cur.speed
  if sel ≠ 0 then
    let s := s.modPose (fun p => { p with spdCoast := none, spdCoastDone := false })
    if s.imu.ok ∧ s.lineFrame = false then
      let (x, s) := s.freeInt 32
      (x, sel, true, s)
    else (satS 32 (s.srcSpeed sel), sel, true, s)
  else
    let a := s.pose.spdCoast.getD tk
    let on := s.imu.ok && !s.pose.spdCoastDone && decide (tk < a + s.fld POSE.POSE_SPD_TIME.IMU_COAST_MS * msPs)
    let s := s.modPose (fun p => { p with spdCoast := some a, spdCoastDone := !on })
    if on then
      (satS 32 (v + fdiv accel 10000), 4, true, s)
    else (v, 0, false, s)

/-- The VRP that a solution gives, carried to `tk`, in units of position (R490). -/
def State.solPos (s : State) (x : Solution) (tk : Time) : Int × Int × Int :=
  let h := s.pose.hacc / 16777216
  let ax := sgn (s.reg POSE.POSE_ANT_X)
  let ay := sgn (s.reg POSE.POSE_ANT_Y)
  let dt : Int := ((tk / nsPs : Nat) : Int) - (x.time.toNat : Int)
  let e := (x.e.toInt - (ax * sin32 h + ay * cos32 h) / 1073741824) * posUnit + fdiv (x.ve.toInt * dt * 1073741824) 50000
  let n := (x.n.toInt - (ax * cos32 h - ay * sin32 h) / 1073741824) * posUnit + fdiv (x.vn.toInt * dt * 1073741824) 50000
  (e, n, (x.u.toInt - sgn (s.reg POSE.POSE_ANT_UP)) * posUnit)

/-- A solution meets the propagated position (R48, R49). -/
def State.applySol (s : State) (stamp tk : Time) (x : Solution) : State :=
  if x.qual.toNat < 2 then s
  else
    let (e, n, u) := s.solPos x tk
    let p := s.pose
    let de := e - p.e
    let dn := n - p.n
    let d2 := de * de + dn * dn
    let j : Int := s.fld POSE.POSE_CORR.JUMP_MM * posUnit
    let st : Int := s.fld POSE.POSE_CORR.STEP_MM * posUnit
    let step := decide (st * st < d2)
    let held := p.have_ && decide (p.qual ≠ 0)
    let s := s.modPose (fun p => { p with
      have_ := true, qual := x.qual.toNat, coastAt := none, coastDone := false, accU := x.hAcc.toNat * 10000,
      vAcc := x.vAcc.toNat, goodAt := some stamp })
    if held = false ∨ d2 ≤ j * j ∨ step then
      let s := s.modPose (fun p => { p with e := e, n := n, u := u, corr := none })
      if held ∧ step ∧ ¬ d2 ≤ j * j then
        let mm := isqrt ((de / (posUnit / 1000)).natAbs ^ 2 + (dn / (posUnit / 1000)).natAbs ^ 2) / 1000
        (s.setEvt POSE.POSE_EVT.POS_STEP).record Rec.POS_STEP pgPose (wd (min mm 4294967295)) (wd x.qual.toNat) 0
      else s
    else s.modPose (fun p => { p with corr := some (de, dn, u - p.u) })

/-- One word's share of a correction being slewed (R49). -/
def State.slewStep (s : State) : State :=
  match s.pose.corr with
  | none => s
  | some (de, dn, du) =>
    let j : Int := s.fld POSE.POSE_CORR.JUMP_MM * posUnit
    if de * de + dn * dn < j * j ∨ (de = 0 ∧ dn = 0) then
      s.modPose (fun p => { p with e := p.e + de, n := p.n + dn, u := p.u + du, corr := none })
    else
      let nm := posUnit / 1000000
      let d := isqrt ((de / nm).natAbs ^ 2 + (dn / nm).natAbs ^ 2)
      let m := 100 * s.fld POSE.POSE_SLEW.SLEW_MM_S
      if d ≤ m then s.modPose (fun p => { p with e := p.e + de, n := p.n + dn, u := p.u + du, corr := none })
      else
        let f := fun (x : Int) => x * (m : Int) / (d : Int)
        s.modPose (fun p => { p with
          e := p.e + f de, n := p.n + f dn, u := p.u + f du, corr := some (de - f de, dn - f dn, du - f du) })

/-- H_ACC grows while the position coasts; QUAL becomes DR on either limit (R48). -/
def State.coastStep (s : State) : State :=
  if s.pose.coastAt.isSome then
    let a := s.pose.accU + s.fld POSE.POSE_COAST.DRIFT_MM_S
    let dr := s.pose.coastDone || decide (s.fld POSE.POSE_ACC_LIM.ACC_LIMIT_MM * 10000 < a)
    s.modPose (fun p => { p with accU := a, qual := if dr then 1 else p.qual })
  else s

/-! The hitch (R67, R69 to R71). -/

/-- Hitch velocity in the implement frame (R69): ux and uy. -/
def hitchVel (v w : Int) (phi : Nat) (hx : Int) : Int × Int :=
  let hy := fdiv (w * hx) 1000
  ((v * cos32 phi - hy * sin32 phi) / 1073741824, (v * sin32 phi + hy * cos32 phi) / 1073741824)

/-- A change of heading over one pose interval as a rate in µrad/s. -/
def rateOf (d : Int) : Int := fdiv (d * 16777216) 1146832

def State.hitchMode (s : State) : Nat := s.fld POSE.POSE_HITCH_CFG.MODE

/-- ωi of R69; with L = 0 the spec states no result. -/
def State.irate (s : State) (uy : Int) : Int × State :=
  let l := s.fld POSE.POSE_HITCH_GEOM.L_MM
  if l = 0 then s.freeInt 32 else (fdiv (uy * 1000) (l : Int), s)

/-- Sensor and model compared at one pose instant: how long they have agreed or disagreed (R71). -/
def PoseState.hitchJudge (p : PoseState) (ok far : Bool) (phiM : Int) (tk : Time) : PoseState :=
  let good := if ok && !far then some (p.hGood.getD tk) else none
  let bad := if ok && far then some (p.hBad.getD tk) else none
  let dis := p.hDis && !(match good with | some a => decide (a + 200 * msPs ≤ tk) | none => false)
  { p with phiM := phiM, hGood := good, hBad := bad, hDis := dis }

/-- The sensor has disagreed with the model for 200 ms, and the two have not agreed for 200 ms since (R71). -/
def PoseState.hitchLost (p : PoseState) (tk : Time) : Bool :=
  p.hDis || (match p.hBad with | some a => decide (a + 200 * msPs ≤ tk) | none => false)

/-- The code of a pose instant: the floor of the mean of the last 10 samples (R67). -/
def hitchCode (codes : List (BitVec 12)) : Nat := (codes.map (·.toNat)).sum / codes.length

/-- φs of a code (R67). -/
def State.hitchAngle (s : State) (c : Nat) : Int :=
  let p := ((c : Int) - ((s.reg POSE.POSE_HITCH_ZERO).toNat % 4096 : Nat)) * sgn (s.reg POSE.POSE_HITCH_GAIN) / 256
  sx 32 (p.emod 4294967296).toNat

/-- A code of a valid sensor (R67). -/
def hitchGood (c : Nat) : Bool := decide (16 ≤ c ∧ c ≤ 4079)

/-- The sensor at a pose instant, whatever the mode: φs, and HITCH_INVALID for a code out of range (R67). -/
def State.hitchSense (s : State) (codes : List (BitVec 12)) : State :=
  let s := s.modPose (fun p => { p with phiS := s.hitchAngle (hitchCode codes) })
  if hitchGood (hitchCode codes) then s else s.setEvt POSE.POSE_EVT.HITCH_INVALID

/-- The implement's motion from the hitch sensor (R67, R70): ψi, ux by R69, and ωi from the change of ψi. -/
def State.hitchFromSensor (s : State) (h psiS : Nat) (v w hx : Int) : Nat × State :=
  let (ux, _) := hitchVel v w ((h + 4294967296 - psiS) % 4294967296) hx
  (psiS, s.modPose (fun p => { p with ux := ux, wi := rateOf (sx 32 (psiS + 4294967296 - p.psiI)) }))

/-- The implement's motion from the trailer model (R69, R70), which advances acc. -/
def State.hitchFromModel (s : State) (h : Nat) (v w hx : Int) : Nat × State :=
  let (ux, uy) := hitchVel v w ((h + 4294967296 - s.pose.iacc / 16777216) % 4294967296) hx
  let (wi, s) := s.irate uy
  let acc := accStep s.pose.iacc wi
  (acc / 16777216, s.modPose (fun p => { p with iacc := acc, ux := ux, wi := wi }))

/-- SENSOR_MODEL (R70, R71): the sensor while it is valid and has not disagreed for 200 ms, else the model. acc is reloaded
from the sensor in each word in which the two agree, and otherwise goes on from the last such value (log entry 128). -/
def State.hitchBoth (s : State) (ok : Bool) (h psiS : Nat) (v w hx : Int) (tk : Time) : Nat × State :=
  let (im, sm) := s.hitchFromModel h v w hx
  let phiM := sx 32 (h + 4294967296 - im)
  let far := decide (s.fld POSE.POSE_HITCH_CFG.TOL * 65536 < (sx 32 ((s.pose.phiS - phiM).emod 4294967296).toNat).natAbs)
  let sm := sm.modPose (·.hitchJudge ok far phiM tk)
  if ok = true ∧ sm.pose.hitchLost tk = false then
    let (i, u) := sm.hitchFromSensor h psiS v w hx
    (i, if far then u else u.modPose (fun p => { p with iacc := psiS * 16777216 }))
  else (im, sm)

/-- The implement at the word with heading `h`, speed `v` and yaw rate `w`; answers ψi and HITCH_OK (R70, R71). -/
def State.hitchStep (s : State) (codes : List (BitVec 12)) (h : Nat) (v w : Int) (tk : Time) : Nat × Bool × State :=
  let mode := s.hitchMode
  let ok := hitchGood (hitchCode codes)
  let hx := s.sfld POSE.POSE_HITCH_GEOM.HITCH_X_MM
  let psiS := ((h : Int) - s.pose.phiS).emod 4294967296 |>.toNat
  let r : Nat × Bool × State :=
    if mode = 0 then (h, true, s.modPose (fun p => { p with iacc := h * 16777216, ux := v, wi := w }))
    else if mode = 1 then
      let (i, s) := s.hitchFromSensor h psiS v w hx
      (i, ok, s)
    else if mode = 2 then
      let (i, s) := s.hitchFromModel h v w hx
      (i, true, s.modPose (fun p => { p with phiM := sx 32 (h + 4294967296 - i) }))
    else
      let (i, s) := s.hitchBoth ok h psiS v w hx tk
      (i, true, s)
  (r.1, r.2.1, r.2.2.modPose (fun p => { p with psiI := r.1 }))

/-- HITCH_DISAGREE: sensor and model have disagreed for 200 ms (R71). -/
def execHitchDisagree (t : Time) (s : State) : Res :=
  let s := s.at t
  match s.pose.hBad with
  | none => .next s
  | some a =>
    if s.up ∧ s.hitchMode = 3 ∧ s.pose.hDis = false ∧ a + 200 * msPs ≤ s.now then
      let s := s.modPose (fun p => { p with hDis := true })
      let s := s.setEvt POSE.POSE_EVT.HITCH_DISAGREE
      .next (s.record Rec.HITCH_DISAGREE pgPose (wdI s.pose.phiS) (wdI s.pose.phiM) 0)
    else .next s

/-! GSOUT (R75, R76). -/

/-- The phase of GSOUT at TCLK cycle `c`. -/
def PoseState.gsPhaseAt (p : PoseState) (c : Nat) : Nat :=
  if p.gsOn then (p.gsPhase + p.gsInc * (c - p.gsAt)) % 281474976710656 else 0

/-- The level of the GSOUT ball. -/
def State.gsLevel (s : State) : Bool := (s.pose.gsPhaseAt s.cyc).testBit 47

/-- GSOUT at a pose word: only a half in charge drives it, and PFAIL_N freezes it; else it holds its settings (R18, R30). -/
def State.gsoutStep (s : State) : State :=
  if s.ballsRun = false then s
  else
    let src := s.fld GSPD.GSOUT_CFG.SRC
    let w := s.pose.cur
    let (v, s) : Int × State :=
      if src = 0 then (w.speed, s) else if src ≤ 3 then (s.srcSpeed src, s) else s.freeInt 32
    let stop := !s.flag GSPD.GSOUT_CFG.EN || (decide (v < 0) && s.flag GSPD.GSOUT_CFG.REV_ZERO) ||
      (!w.spdValid && !s.flag GSPD.GSOUT_CFG.INVALID)
    let c := s.cyc + 1
    if stop then
      let s := s.modPose (fun p => { p with gsOn := false, gsPhase := 0, gsInc := 0, gsAt := c, gsClamp := false })
      ((s.setFld GSPD.GSPD_STAT.GSOUT_ACTIVE 0).setFld GSPD.GSPD_STAT.GSOUT_CLAMP 0).setReg GSPD.GSOUT_MHZ 0
    else
      let u := (s.reg GSPD.GSOUT_UMPP).toNat
      let hold := !w.spdValid
      let (raw, s) : Nat × State :=
        if hold then (s.pose.gsInc, s)
        else if u = 0 then s.freeNat 48
        else (v.natAbs * 281474976710656 / (u * 400000000), s)
      let clamp := decide (70368744177 < raw) || (hold && s.pose.gsClamp)
      let inc := min raw 70368744177
      let s := s.modPose (fun p => { p with gsPhase := p.gsPhaseAt c, gsAt := c, gsInc := inc, gsOn := true, gsClamp := clamp })
      ((s.setFld GSPD.GSPD_STAT.GSOUT_ACTIVE 1).setFld GSPD.GSPD_STAT.GSOUT_CLAMP (b2n clamp)).setReg GSPD.GSOUT_MHZ
        (wd (inc * 400000000000 / 281474976710656))

/-! Forming a word. -/

/-- The QUALITY field (Table 2-3). -/
def qualWord (src : Nat) (valid coast slewing hitchOk imuOk : Bool) (v : Int) (q : Nat) : Nat :=
  src * 16777216 + bitAt 15 valid + bitAt 14 (decide (2 ≤ q)) + bitAt 13 coast + bitAt 12 slewing + bitAt 11 hitchOk +
    bitAt 10 imuOk + bitAt 8 (decide (v < 0)) + q % 16

/-- EAST and NORTH advance by the trapezoid of SPEED along the mean heading (R490); in line frame NORTH alone (R72). -/
def PoseState.move (p : PoseState) (h0 h : Nat) (v0 v : Int) : PoseState :=
  let hm := ((h0 : Int) + fdiv (sx 32 (h + 4294967296 - h0 % 4294967296)) 2).emod 4294967296 |>.toNat
  { p with e := p.e + (v0 + v) * sin32 hm, n := p.n + (v0 + v) * cos32 hm }

/-- A free signed number of `n` bits where `c` holds, else 0. -/
def State.freeIf (s : State) (c : Bool) (n : Nat) : Int × State := if c then s.freeInt n else (0, s)

/-- A free number of `n` bits where `c` holds, else `d`. -/
def State.freeNatIf (s : State) (c : Bool) (n d : Nat) : Nat × State := if c then s.freeNat n else (d, s)

/-- What the motion part of a pose word gives: ACCEL, SPEED, the source and its validity. -/
structure Motion where
  accel : Int
  v : Int
  src : Nat
  valid : Bool
  deriving DecidableEq, Repr

/-- The solutions that pose instant `tk` may use are taken from the list. -/
def State.takeSols (s : State) (tk : Time) (ready : List (Time × Solution)) : State :=
  s.modPose (fun p => { p with
    sols := p.sols.filter (fun x => !decide (x.1 ≤ tk)), lastSol := (ready.getLast?.map (·.2)).or p.lastSol })

/-- Heading, GNSS, ACCEL and SPEED of the word of `tk`, and the move from the word before (R47, R50, R55 to R57). -/
def State.formMotion (s : State) (tk : Time) (ready : List (Time × Solution)) (free : Bool) : Motion × State :=
  let h := (s.gsUpdate tk).headStep (ready.map (·.2))
  let s := h.2.2.gnssStep tk
  let a := s.freeIf free 32
  let v0 := a.2.pose.cur.speed
  let v := a.2.speedStep tk a.1
  ({ accel := a.1, v := v.1, src := v.2.1, valid := v.2.2.1 }, v.2.2.2.modPose (fun p => p.move h.1 h.2.1 v0 v.1))

/-- The position of the word: free from the IMU, corrected by the solutions, slewed and coasted (R47, R48, R489). -/
def State.formPos (s : State) (tk : Time) (ready : List (Time × Solution)) : State :=
  let e := s.freeIf s.imu.ok 32
  let n := e.2.freeIf s.imu.ok 32
  let u := n.2.freeIf s.imu.ok 32
  let w := u.2
  let w := if s.imu.ok then w.modPose (fun p => { p with e := e.1 * posUnit, n := n.1 * posUnit, u := u.1 * posUnit }) else w
  (ready.foldl (fun s x => s.applySol x.1 tk x.2) w).slewStep.coastStep

/-- The implement's heading of the word: none of its own in the line frame. -/
def State.formHitch (s : State) (line : Bool) (codes : List (BitVec 12)) (hd : Nat) (v : Int) (tk : Time) : Nat × Bool × State :=
  if line then (0, true, s.modPose (fun p => { p with ux := v, wi := 0, iacc := 0, psiI := 0 })) else s.hitchStep codes hd v s.pose.yaw tk

/-- Form pose word k from the inputs at the cutoff (R44, R45, R490, R72). -/
def State.formWord (s : State) (k : Nat) (codes : List (BitVec 12)) : State :=
  let tk := k * posePs
  let line := s.lineFrame
  let ready := s.pose.sols.filter (fun x => decide (x.1 ≤ tk))
  let free := s.imu.ok || line
  let m := (s.takeSols tk ready).formMotion tk ready free
  let pitch := m.2.freeIf free 16
  let roll := pitch.2.freeIf free 16
  let s := if line then roll.2.modPose (fun p => { p with e := 0, corr := none }) else roll.2.formPos tk ready
  let hd := s.pose.hacc / 16777216
  let i := (s.hitchSense codes).formHitch line codes hd m.1.v tk
  let up_ : Int × State := if line then i.2.2.freeInt 32 else (i.2.2.pose.u / posUnit, i.2.2)
  let ha := up_.2.freeNatIf line 16 (min 65535 (up_.2.pose.accU / 10000))
  let va := ha.2.freeNatIf line 16 ha.2.pose.vAcc
  let s := va.2
  let p := s.pose
  let q := if line then 6 else p.qual
  let left := match p.corr with
    | some (de, dn, _) => isqrt ((de / (posUnit / 1000)).natAbs ^ 2 + (dn / (posUnit / 1000)).natAbs ^ 2) / 1000
    | none => 0
  let w : PoseWord :=
    { k := k, east := sx 32 ((p.e / posUnit).emod 4294967296).toNat, north := sx 32 ((p.n / posUnit).emod 4294967296).toNat,
      up := up_.1, heading := hd, yaw := p.yaw, speed := m.1.v,
      quality := qualWord m.1.src m.1.valid (p.coastAt.isSome && !line) p.corr.isSome i.2.1 s.imu.ok m.1.v q, pitch := pitch.1,
      roll := roll.1, hAcc := ha.1, vAcc := va.1, implH := i.1, hitch := (hd + 4294967296 - i.1) % 4294967296,
      accel := m.1.accel, node := s.ring.nodeId.toNat }
  (s.setReg POSE.POSE_CORR_LEFT (wd left)).takeWord w

/-- The inputs at a pose instant of a device that takes its pose from the ring: ground speed, the GNSS speed on the latest
word's heading, and the hitch sensor (R52, R54, R67). -/
def State.ringInputs (s : State) (tk : Time) (hitch : List (BitVec 12)) : State :=
  (((s.gsUpdate tk).takeSols tk (s.pose.sols.filter (fun x => decide (x.1 ≤ tk)))).gnssStep tk).hitchSense hitch

/-- POSE_WORD: pose word k of t_k is published by t_k + 20 µs and, with SRC = LOCAL, sent in a PACE frame (R44, R50). `peer` is
the CRC field of the other half's word (R333). -/
def execPoseWord (t : Time) (hitch : List (BitVec 12)) (peer : Word) (s : State) : Res :=
  let s := s.at t
  let k := s.now / posePs
  if s.up then
    if s.poseRing then .next (s.ringInputs (k * posePs) hitch)
    else if k ≤ s.pose.cur.k then .next s
    else
      let s := s.formWord k hitch
      let s := s.gsoutStep
      let s := s.modPose (fun p => { p with unsent := !s.drives })
      let s := s.sendPace 0 s.pose.cur.bytes
      .next (s.comparePose peer)
  else .next s

/-! Pose from the ring (R51). -/

/-- The position and heading accumulators follow a word taken from the ring, and the implement's motion. -/
def State.followRing (s : State) (w : PoseWord) : State :=
  let old := s.pose.cur
  let hx := s.sfld POSE.POSE_HITCH_GEOM.HITCH_X_MM
  let mode := s.hitchMode
  let (ux, uy) := hitchVel w.speed w.yaw w.hitch hx
  let (wi, s) : Int × State :=
    if mode = 0 then (w.yaw, s)
    else if mode = 1 then (rateOf (sx 32 (w.implH + 4294967296 - old.implH)), s)
    else s.irate uy
  s.modPose (fun p => { p with
    e := w.east * posUnit, n := w.north * posUnit, u := w.up * posUnit, hacc := w.heading * 16777216, yaw := w.yaw,
    iacc := w.implH * 16777216, psiI := w.implH, ux := if mode = 0 then w.speed else ux, wi := wi })

/-- A ring pose word in a PACE payload: taken as word k, or discarded as stale. It is used unchanged (R51), so SPD_SRC keeps
the producer's code and code 5 of Table 2-3 is never formed (log entry 159). -/
def State.ringPose (s : State) (d : List Byte) : State :=
  let (w, ok) := parsePose d
  let tk := w.k * posePs
  if s.poseRing ∧ ok ∧ w.node = s.fld POSE.POSE_CFG.RING_NODE then
    if tk + s.fld POSE.POSE_RING_TMO.ACCEPT_US * usPs < s.now then s.bumpReg POSE.POSE_RING_STALE_CNT 1
    else if tk ≤ s.now ∧ s.pose.cur.k < w.k then
      let s := s.followRing w
      ((s.modPose (fun p => { p with missRun := 0 })).takeWord w).gsoutStep
    else s
  else s

/-- The previous word extrapolated by 100 µs at constant speed and yaw rate. -/
def PoseState.extrapolate (p : PoseState) (k : Nat) (dr : Bool) : PoseWord × PoseState :=
  let w := p.cur
  let h0 := p.hacc / 16777216
  let p := { p with hacc := accStep p.hacc w.yaw }
  let h := p.hacc / 16777216
  let p := p.move h0 h w.speed w.speed
  let q := if dr then 1 else w.qual
  let quality := setBf (setBf (setBf w.quality 9 9 1) 3 0 q) 14 14 (b2n (decide (2 ≤ q)))
  ({ w with
     k := k, east := sx 32 ((p.e / posUnit).emod 4294967296).toNat, north := sx 32 ((p.n / posUnit).emod 4294967296).toNat,
     heading := h, implH := (h + 4294967296 - w.hitch % 4294967296) % 4294967296, quality := quality }, p)

/-- RING_MISS: the acceptance time of word k has passed without it (R51). QUAL becomes DR in the DR_WORDS-th extrapolated word
itself (log entry 160). -/
def execRingMiss (t : Time) (s : State) : Res :=
  let s := s.at t
  let k := (s.now - s.fld POSE.POSE_RING_TMO.ACCEPT_US * usPs) / posePs
  if s.up ∧ s.poseRing ∧ s.pose.cur.k < k then
    let run := s.pose.missRun + 1
    let (w, p) := s.pose.extrapolate k (decide (s.fld POSE.POSE_RING_TMO.DR_WORDS ≤ run))
    let s := (s.modPose (fun _ => { p with missRun := run })).takeWord w
    .next (((s.setEvt POSE.POSE_EVT.RING_MISS).bumpReg POSE.POSE_RING_MISS_CNT 1).gsoutStep)
  else .next s

/-! GNSS events of the propagator (R48). -/

/-- Two measurement intervals, or 2,000 ms in STANDBY. -/
def State.lossPs (s : State) : Nat :=
  if s.dev = .standby then 2000 * msPs else 2 * s.fld (GNSS.MEAS_CFG.MEAS_MS 0) * msPs

/-- SOLUTION_LOST: no solution with QUAL ≥ SPS for two measurement intervals (R48). -/
def execSolutionLost (t : Time) (s : State) : Res :=
  let s := s.at t
  match s.pose.goodAt with
  | none => .next s
  | some a =>
    if s.up ∧ s.pose.coastAt = none ∧ a + s.lossPs ≤ s.now then
      .next (s.modPose (fun p => { p with coastAt := some s.now }))
    else .next s

/-- COAST_EXPIRED: the coast has lasted COAST_MS (R48). -/
def execCoastExpired (t : Time) (s : State) : Res :=
  let s := s.at t
  match s.pose.coastAt with
  | none => .next s
  | some a =>
    if s.up ∧ a + s.fld POSE.POSE_COAST.COAST_MS * msPs ≤ s.now then
      .next (s.modPose (fun p => { p with coastDone := true, qual := 1 }))
    else .next s

/-- IMU_COAST_END: IMU_COAST_MS without a valid speed source; SPD_VALID becomes 0 and SPEED holds (R57). -/
def execImuCoastEnd (t : Time) (s : State) : Res :=
  let s := s.at t
  match s.pose.spdCoast with
  | none => .next s
  | some a =>
    if s.up ∧ s.pose.spdCoastDone = false ∧ a + s.fld POSE.POSE_SPD_TIME.IMU_COAST_MS * msPs ≤ s.now then
      let s := s.modPose (fun p => { p with
        spdCoastDone := true, cur := { p.cur with quality := setBf (setBf p.cur.quality 15 15 0) 27 24 0 } })
      .next ({ s.setReg POSE.POSE_STAT (wd s.pose.cur.quality) with spdRun := 0 } : State)
    else .next s

/-! The IMU port (R73, R74). -/

/-- The burst that an IMU_INT edge now starts (R73): RD_CMD, BURST_LEN bytes, the SPI mode and the half period of ISPI_CLK. -/
def State.imuBurst (s : State) : ImuBurst :=
  { stamp := s.now - s.fld IMU.IMU_TIMING.LAT_US * usPs, start := s.now, cmd := BitVec.ofNat 8 (s.fld IMU.IMU_CFG.RD_CMD),
    len := s.fld IMU.IMU_CFG.BURST_LEN, mode3 := s.flag IMU.IMU_CFG.MODE, half := s.fld IMU.IMU_CFG.DIV + 1 }

/-- IMU_INT: an edge of the polarity of INT_EDGE stamps the sample and starts the burst, or is an overrun. -/
def execImuInt (t : Time) (rise : Bool) (s : State) : Res :=
  let s := s.at t
  if s.up ∧ s.flag IMU.IMU_CFG.EN ∧ rise ≠ s.flag IMU.IMU_CFG.INT_EDGE then
    if s.imu.busy.isSome then .next (s.bumpReg IMU.IMU_OVR_CNT 1)
    else .next (s.modImu (fun i => { i with busy := some s.imuBurst }))
  else .next s

/-- When a burst can end at the earliest: RD_CMD and its bytes, eight ISPI_CLK periods each (R73). -/
def ImuBurst.earliest (b : ImuBurst) : Time := b.start + (1 + b.len) * 8 * (2 * b.half) * 2500

/-- The 16-bit signed word at an offset of a burst. -/
def imuWord (be : Bool) (d : List Byte) (o : Nat) : Int :=
  let b := (d.drop o).take 2
  sx 16 (if be then beNat b else leNat b)

/-- One body axis from three source axes by a nibble of IMU_MAP. Source 3 is no axis: its value is free. -/
def State.imuAxis (s : State) (nib : Nat) (v : Nat → Int) : Int × State :=
  let (x, s) := if nib % 4 = 3 then s.freeInt 16 else (v (nib % 4), s)
  (if nib.testBit 2 then -x else x, s)

/-- A raw word scaled by a UQ16.16 factor. -/
def imuScale (x : Int) (k : Nat) : Int := x * (k : Int) / 65536

/-- The three body axes of a sensor whose words begin at `ofs` of a burst; words that the burst does not hold are free. -/
def State.imuThree (s : State) (bytes : List Byte) (ofs k : Nat) : (Int × Int × Int) × State :=
  let m := (s.reg IMU.IMU_MAP).toNat
  let be := s.flag IMU.IMU_LAYOUT.BE
  let raw : (Nat → Int) × State :=
    if ofs + 6 ≤ bytes.length then (fun i => imuWord be bytes (ofs + 2 * i), s)
    else
      let (a, s) := s.freeInt 16
      let (b, s) := s.freeInt 16
      let (c, s) := s.freeInt 16
      (fun i => if i = 0 then a else if i = 1 then b else c, s)
  let (x, s) := raw.2.imuAxis (bf m 3 0) raw.1
  let (y, s) := s.imuAxis (bf m 7 4) raw.1
  let (z, s) := s.imuAxis (bf m 11 8) raw.1
  ((imuScale x k, imuScale y k, imuScale z k), s)

/-- Five periods of ODR_HZ have passed since the latest sample (R74). -/
def State.imuGap (s : State) : Bool :=
  let hz := s.fld IMU.IMU_TIMING.ODR_HZ
  decide (hz ≠ 0 ∧ 5 * secPs ≤ (s.now - s.imu.lastRead) * hz)

/-- IMU_BURST_DONE: the BURST_LEN bytes of the burst have been read; their words are mapped and scaled, and a sample past its
cutoff is counted (R45, R73, R74). IMU_OK sets after 10 samples without a gap of R74 between them; IMU_STAT.ACTIVE shows
IMU_OK (log entry 161). -/
def execImuBurstDone (t : Time) (bytes : List Byte) (s : State) : Res :=
  let s := s.at t
  match s.imu.busy with
  | none => .next s
  | some b =>
    if s.up ∧ bytes.length = b.len ∧ b.earliest ≤ s.now then
      let run := if s.imuGap then 1 else min (s.imu.run + 1) 10
      let ok := s.imu.ok || decide (10 ≤ run)
      let (g, s) := s.imuThree bytes (s.fld IMU.IMU_LAYOUT.GYRO_OFS) (s.reg IMU.IMU_GSCALE).toNat
      let (a, s) := s.imuThree bytes (s.fld IMU.IMU_LAYOUT.ACC_OFS) (s.reg IMU.IMU_ASCALE).toNat
      let s := s.modImu (fun i => { i with
        busy := none, lastRead := s.now, run := run, ok := ok, lost := i.lost && !ok, rates := g, accs := a, yaw := g.2.2 })
      let s := (s.count IMU.IMU_COUNT 1).setReg IMU.IMU_YAW (wdI g.2.2)
      let s := (s.setFld IMU.IMU_STAT.ACTIVE (b2n ok)).setFld IMU.IMU_STAT.LOST (b2n s.imu.lost)
      .next (if cdiv b.stamp posePs * posePs + 5 * usPs < s.now then s.bumpReg POSE.POSE_LATE_CNT 1 else s)
    else .next s

/-- A write of IMU_CFG.EN: the port stops, and IMU_OK clears; or it starts, and R74 counts from here. -/
def State.imuEnable (s : State) (on : Bool) : State :=
  if on then s.modImu (fun i => { i with lastRead := s.now })
  else
    (s.modImu (fun i => { i with ok := false, lost := false, run := 0, busy := none })).setReg IMU.IMU_STAT 0

/-- IMU_LOST: no sample for 5 periods of ODR_HZ (R74). While LOST is set, a further gap starts the run of samples anew. -/
def execImuLost (t : Time) (s : State) : Res :=
  let s := s.at t
  if s.up ∧ s.flag IMU.IMU_CFG.EN ∧ s.imu.lost = true ∧ s.imuGap = true then .next (s.modImu (fun i => { i with run := 0 }))
  else if s.up ∧ s.flag IMU.IMU_CFG.EN ∧ s.imuGap = true then
    let s := s.modImu (fun i => { i with lost := true, ok := false, run := 0 })
    let s := (s.setFld IMU.IMU_STAT.LOST 1).setFld IMU.IMU_STAT.ACTIVE 0
    .next (s.setEvt POSE.POSE_EVT.IMU_LOST)
  else .next s

/-! Outlet travel (R59 to R65, R158, R160). -/

/-- EN of a global outlet in GEOM, on a lane that this member has. -/
def State.geomEn (s : State) (j : Nat) : Bool := decide (j / 8 < memberLanes s.member) && s.flag (GEOM.GEOM_OUT_ATTR.EN j)
def State.onImpl (s : State) (j : Nat) : Bool := s.flag (GEOM.GEOM_OUT_ATTR.BODY j)

/-- vx and vy of an outlet (R59, R60). -/
def State.outVel (s : State) (w : PoseWord) (ux wi : Int) (j : Nat) : Int × Int :=
  let x := s.sfld (GEOM.GEOM_OUT_POS.X_MM j)
  let y := s.sfld (GEOM.GEOM_OUT_POS.Y_MM j)
  if s.onImpl j then (ux - fdiv (wi * y) 1000, fdiv (wi * x) 1000)
  else (w.speed - fdiv (w.yaw * y) 1000, fdiv (w.yaw * x) 1000)

/-- s of R61. -/
def outSpeed (vx vy : Int) : Int :=
  let m : Int := (min (isqrt ((vx * vx + vy * vy).toNat % 18446744073709551616)) 2147483647 : Nat)
  if vx < 0 then -m else m

/-- The trapezoid of R62. -/
def travStep (o : OutTrav) (v : Int) : OutTrav :=
  let a := (max o.sPrev 0 + max v 0).toNat + o.r
  { t := (o.t + a / 20000) % 281474976710656, r := a % 20000, sPrev := v, s := v }

/-- The device state at an instant (R63): a change in that cycle or later has not happened yet. -/
def State.devAtTime (s : State) (t : Time) : DevState :=
  match s.devLog.find? (fun c => decide (t ≤ c.1)) with
  | some c => c.2
  | none => s.dev

/-- The reverse bits GEOM_REV0 to GEOM_REV3. -/
def State.setRev (s : State) : State :=
  (List.range 4).foldl (fun s i =>
    s.setReg (GEOM.GEOM_REV i) (wd ((List.range 32).foldl (fun a b =>
      let j := 32 * i + b
      a + bitAt b (s.geomEn j && decide ((s.trav.outs.get (Fin.ofNat 128 j)).s ≤ 0))) 0))) s

/-- The flits of a lane's travel update (R158). -/
def State.travFlits (s : State) (n : LaneIx) : List (Nat × Word) :=
  (ftTrvHdr, wd (s.trav.k % 2147483648 + 2147483648 * b2n (s.trav.zeroFlag.get n))) ::
    (List.range 8).flatMap (fun k =>
      let o := s.trav.outs.get (Fin.ofNat 128 (8 * n.val + k))
      [(ftTrvT, wd o.t), (ftTrvS, wdI o.s)])

/-- The half in charge sends the update of the latest instant to every lane that is not FENCED; a port without room for it
skips it, and ZEROED then stays due (R160, R491). -/
def State.sendTravel (s : State) : State :=
  if s.maySend = false ∨ s.dev = .standby then s
  else
    overList s.laneList (fun n s =>
      let r := s.sendDn n (s.travFlits n)
      if r.1 then { r.2 with trav := { r.2.trav with zeroFlag := r.2.trav.zeroFlag.set n false } } else r.2) s

/-- The zeroing of R63: T and r are 0, s_prev is the outlet's speed of the instant. -/
def State.zeroTravel (s : State) : State :=
  let s : State := { s with
    trav := { s.trav with
      outs := s.trav.outs.map (fun o => { o with t := 0, r := 0, sPrev := o.s }), zeroK := none, zeroFlag := Vector.replicate 16 true } }
  s.setReg GEOM.GEOM_UPD_CNT 0

/-- TRAVEL_COMPUTE: travel and speed of every enabled outlet for the instant of the latest word (R59 to R63). -/
def execTravelCompute (t : Time) (s : State) : Res :=
  let s := s.at t
  let w := s.pose.cur
  if s.up ∧ s.trav.k < w.k then
    let d := s.devAtTime (w.k * posePs)
    let run := decide (d = .armed ∨ d = .run)
    let ux := s.pose.ux
    let wi := s.pose.wi
    let outs := Vector.ofFn (fun (j : Fin 128) =>
      let o := s.trav.outs.get j
      if s.geomEn j.val then
        let (vx, vy) := s.outVel w ux wi j.val
        let v := outSpeed vx vy
        if run then travStep o v else { o with s := v }
      else OutTrav.reset)
    let s : State := { s with trav := { s.trav with k := w.k, word := w, ux := ux, wi := wi, outs := outs } }
    let s := if run then s.bumpReg GEOM.GEOM_UPD_CNT 1 else s
    let s := if s.trav.zeroK.any (fun z => decide (z ≤ w.k)) then s.zeroTravel else s
    .next s.setRev.sendTravel
  else .next s

/-- Entry to ARMED from IDLE (R63, R70): the zeroing now, or with the update of the instant that is still due; under MODEL the
implement's heading starts from the vehicle's. -/
def State.armTravel (s : State) : State :=
  let k := s.now / posePs
  let s := if s.hitchMode = 2 then s.modPose (fun p => { p with iacc := p.hacc }) else s
  if k ≤ s.trav.k then s.zeroTravel else { s with trav := { s.trav with zeroK := some k } }

end Sys2Proof.Machine
end

