-- ==== Sys2Proof/Machine/Fpe.lean ====
section
/-! DEFINITION. The Footprint Engine: tick phases, lead, windows, cross lines, on and off decisions, rate, posting, painting,
cross-check digests and the trace (R93, R119 to R151, R168, R169, R441). -/
namespace Sys2Proof.Machine

def pgFpe : Nat := 0x018
def pgSched : Nat := 0x01C

def State.modFpe (s : State) (f : FpeState → FpeState) : State := { s with fpe := f s.fpe }
def gIx (j : Nat) : Fin 128 := Fin.ofNat 128 j
def State.fo (s : State) (j : Nat) : OutFpe := s.fpe.outs.get (gIx j)
def State.modFo (s : State) (j : Nat) (f : OutFpe → OutFpe) : State :=
  s.modFpe (fun e => { e with outs := vmod e.outs (gIx j) f })
def laneOf (j : Nat) : LaneIx := Fin.ofNat 16 (j / 8)
def outOf (j : Nat) : OutIx := Fin.ofNat 8 j

/-- ARMED or RUN, the states in which the engine computes (R121). -/
def State.engaged (s : State) : Bool := decide (s.dev = .armed ∨ s.dev = .run)

def State.swath (s : State) (j : Nat) : Nat := s.fld (GEOM.GEOM_OUT_ATTR.SWATH_MM j)
def State.prodOf (s : State) (j : Nat) : Nat := s.fld (FPE.OUT_CFG.PROD j)
def State.kindOf (s : State) (j : Nat) : Nat := s.fld (FPE.OUT_CFG.KIND j)

/-- Delays in use for an outlet, ns: the latest DLY, or what the seal published (R122, R227). -/
def seedNs (seed nom : Nat) : Nat := 1000 * (if seed = 0 then nom else seed)
def State.fpeOn (s : State) (j : Nat) : Nat :=
  let n := (laneOf j).val
  let k := (outOf j).val
  (s.fo j).dOn.getD (seedNs (s.fld (SNAP.OUT_SEED.SEED_ON_US n k)) (s.fld (SNAP.OUT_NOM.NOM_ON_US n k)))
def State.fpeOff (s : State) (j : Nat) : Nat :=
  let n := (laneOf j).val
  let k := (outOf j).val
  (s.fo j).dOff.getD (seedNs (s.fld (SNAP.OUT_SEED.SEED_OFF_US n k)) (s.fld (SNAP.OUT_NOM.NOM_OFF_US n k)))

/-- Travel modulo 2^48. -/
def mod48 (x : Int) : Nat := (x.emod 281474976710656).toNat

/-- round(s⁺ × d / 10^9) µm for d in ns. -/
def alongNs (sp : Int) (d : Nat) : Int := rdiv (sp * (d : Int)) 1000000000

/-! The path of an outlet ahead of the pose (R126). -/

/-- What R126 computes once for an outlet: Ej, Nj, vE, vN, |s|, ω and ψ. -/
structure Path where
  line : Bool
  ej : Int
  nj : Int
  ve : Int
  vn : Int
  s : Int
  w : Int
  h : Nat
  deriving DecidableEq, Repr

def State.path (s : State) (j : Nat) : Path :=
  let w := s.fpe.word
  let x := s.sfld (GEOM.GEOM_OUT_POS.X_MM j)
  let y := s.sfld (GEOM.GEOM_OUT_POS.Y_MM j)
  let (vx, vy) := s.outVel w s.fpe.ux s.fpe.wi j
  let v : Int := (outSpeed vx vy).natAbs
  if s.lineFrame then
    let p : Int := s.pitch
    { line := true, ej := p * (j : Int) + fdiv p 2, nj := w.north.emod 4294967296 + x, ve := 0, vn := 0, s := v, w := 0, h := 0 }
  else
    let impl := s.onImpl j
    let h := if impl then w.implH else w.heading
    let hx := s.sfld POSE.POSE_HITCH_GEOM.HITCH_X_MM
    let l : Int := s.fld POSE.POSE_HITCH_GEOM.L_MM
    let (eb, nb) :=
      if impl then
        (w.east + shr (hx * sin32 w.heading) 30 - shr (l * sin32 h) 30,
          w.north + shr (hx * cos32 w.heading) 30 - shr (l * cos32 h) 30)
      else (w.east, w.north)
    { line := false, ej := eb + shr (x * sin32 h + y * cos32 h) 30, nj := nb + shr (x * cos32 h - y * sin32 h) 30,
      ve := shr (vx * sin32 h + vy * cos32 h) 30, vn := shr (vx * cos32 h - vy * sin32 h) 30, s := v,
      w := if impl then s.fpe.wi else w.yaw, h := h }

/-- centre(d): the centre and the chord direction. -/
def Path.centre (p : Path) (d : Int) : Int × Int × Int × Int :=
  if p.line then (p.ej, p.nj + fdiv d 1000, 0, 0)
  else if p.s = 0 then (p.ej, p.nj, sin32 p.h, cos32 p.h)
  else
    let b := ((fdiv (p.w * d * 44798134) (p.s * 131072)).emod 4294967296).toNat
    let ee := shr (p.ve * cos32 b + p.vn * sin32 b) 30
    let en := shr (p.vn * cos32 b - p.ve * sin32 b) 30
    (p.ej + fdiv (d * ee) (p.s * 1000), p.nj + fdiv (d * en) (p.s * 1000), ee, en)

/-- n_c of R127. -/
def crossN (swath p : Nat) : Nat := min 64 (max 1 (cdiv swath p))

/-- The cells of the cross line at distance d (R127, R128). -/
def State.cross (s : State) (p : Path) (j : Nat) (d : Int) : List (Int × Int) :=
  if p.line then [((j : Int), fdiv ((p.nj + fdiv d 1000).emod 4294967296) s.pitch)]
  else
    let sw := s.swath j
    let nc := crossN sw s.pitch
    let (e, n, ee, en) := p.centre d
    let v := if p.s = 0 then 1073741824 else p.s
    (List.range nc).map (fun (c : Nat) =>
      let o := fdiv ((2 * (c : Int) + 1 - (nc : Int)) * (sw : Int)) (2 * (nc : Int))
      s.cellOf (e + fdiv (o * en) v) (n - fdiv (o * ee) v))

/-! Step 3 of Table 4-1. -/

/-- Prepare one enabled outlet from the travel taken for the tick (R119, R122 to R126). -/
def State.prepOut (s : State) (m : Nat) (j : Nat) : State :=
  let o := s.fo j
  let tr := s.trav.outs.get (gIx j)
  let sp := max tr.s 0
  let dt : Nat := m * 250000 - s.trav.k * 100000
  let tm := (tr.t + (sp * (dt : Int) / 1000000000).toNat) % 281474976710656
  let land := 1000 * s.fld (FPE.OUT_CFG.LAND_US j)
  let don := s.fpeOn j
  let doff := s.fpeOff j
  let raw := alongNs sp (max don doff + land + 1000 * s.fld FPE.LEAD_CFG.QUEUE_US)
  let cap : Int := 1000 * s.fld FPE.LEAD_CFG.MAX_LEAD_MM
  let clamped := decide (cap < raw)
  let lead := min raw cap
  let live := !s.fenced (laneOf j)
  let rev := decide (tr.s ≤ 0)
  let s := if clamped then s.setEvt FPE.FPE_EVT.LEAD_CLAMP else s
  let s := if clamped ∧ o.cmd ∧ o.clampSeen = false then
      let (v, s) := s.freeWord
      (s.modFo j (fun o => { o with clampSeen := true })).record Rec.LEAD_CLAMP pgFpe (wd j) (wd m) v
    else s
  let q := mod48 ((tm : Int) + lead)
  let w := o.win.getD q
  let wn := max48 w (mod48 ((q : Int) + alongNs sp 250000))
  let open_ := live && !rev
  let (e, n, _, _) := (s.path j).centre (diff48 tm tr.t)
  let p : Prep :=
    { j := j, live := live, tk := tr.t, s := tr.s, tm := tm, dLand := (alongNs sp land).toNat, dOn := don, dOff := doff,
      rev := rev, clamped := clamped, win := if open_ && decide (wn ≠ w) then some (w, wn) else none, e := e, n := n }
  let hist := o.hist ++ [{ t := tm, e := e, n := n : Centre }]
  let s := s.modFo j (fun o => { o with
    lead := lead.toNat, win := if open_ then some wn else o.win, hist := hist.drop (hist.length - 32) })
  s.modFpe (fun f => { f with prep := f.prep ++ [p] })

/-- The engine takes the travel of the pose instant of R119 and prepares every enabled outlet. -/
def State.prepare (s : State) : State :=
  let m := tickOf s.now
  let s := s.modFpe (fun f => { f with prep := [], prepOk := true, word := s.trav.word, ux := s.trav.ux, wi := s.trav.wi })
  ((List.range 128).filter s.geomEn).foldl (fun s j => s.prepOut m j) s

/-- The wanted box of an outlet in half-millimetres (R93); in line frame the outlet's own column (R113). DESIGN CHOICE (log
134): R93 gives no rounding; BEHIND × u and HORIZON × u are floored to whole millimetres, each before it is subtracted or added. -/
def State.wantedBox (s : State) (p : Prep) : List (Int × Int × Int × Int) :=
  let pt := s.path p.j
  let hz : Int := s.fld MAP.WIN_DEMAND.HORIZON_MM
  let bh : Int := s.fld MAP.WIN_DEMAND.BEHIND_MM
  let sw : Int := s.swath p.j
  let g : Int := if p.s < 0 then -1 else 1
  if pt.line then
    let n := p.n.emod 4294967296
    let a := 2 * min (n - g * bh) (n + g * hz) - sw
    let b := 2 * max (n - g * bh) (n + g * hz) + sw
    let x := 2 * (s.pitch : Int) * (p.j : Int) + (s.pitch : Int)
    let top : Int := 8589934591
    if a < 0 then [(x, a + 8589934592, x, top), (x, 0, x, b)]
    else if top < b then [(x, a, x, top), (x, 0, x, b - 8589934592)]
    else [(x, a, x, b)]
  else
    let sn := g * sin32 pt.h
    let cs := g * cos32 pt.h
    let e0 := p.e - shr (bh * sn) 30
    let e1 := p.e + shr (hz * sn) 30
    let n0 := p.n - shr (bh * cs) 30
    let n1 := p.n + shr (hz * cs) 30
    [(2 * min e0 e1 - sw, 2 * min n0 n1 - sw, 2 * max e0 e1 + sw, 2 * max n0 n1 + sw)]

/-! The tick (R94, R135, R139, R142). -/

/-- Pressure and pulse frequency of a product at τ_m, from the AIN conversions of its pressure lane since that lane's latest one
known: the code is the latest result available before τ_m (R138, R139 step 1, R253). -/
def State.latchProd (s : State) (p : Fin 2) (ain : List Sample) : State :=
  let pl := s.fld (RATE.PROD_CFG.PSRC_LANE p)
  let fl := s.fld (RATE.PROD_CFG.PULSE_LANE p)
  let ok := fun (n : Nat) => decide (n < memberLanes s.member) && !s.fenced (Fin.ofNat 16 n)
  let good := ok pl
  let (press, s) : Int × State :=
    if good then
      let n : LaneIx := Fin.ofNat 16 pl
      let s := s.ainSamples n (ain.filter (fun x => decide (x.time + 500000 < s.now)))
      (fdiv ((((s.engOf n).ainBy (s.now - 1) : Int) - (s.fld (RATE.PROD_PSCALE.P_OFS p) : Int)) * (s.fld (RATE.PROD_PSCALE.P_GAIN p) : Int)) 4096, s)
    else s.freeInt 32
  let f := if ok fl then (s.fbkOf (Fin.ofNat 16 fl)).freq else 0
  let s := s.modFpe (fun e => { e with
    press := e.press.set p press, pBad := e.pBad.set p (!good), pulse := e.pulse.set p f })
  (s.setReg (RATE.PROD_PRESS p) (wdI press)).setReg (RATE.PROD_PULSE p) (wd f)

/-- The pending swap of the rate tables takes effect. -/
def State.swapTables (s : State) : State :=
  let s := if s.fpe.swapPend then s.modFpe (fun e => { e with bank := 1 - e.bank, swapPend := false }) else s
  (s.setFld RATE.RATE_STAT.SWAP_PEND 0).setFld RATE.RATE_STAT.ACTIVE_BANK s.fpe.bank

/-- FOOTPRINT_TICK: τ_m (Table 4-1 step 1, Table 3-5 steps 1 and 2). `ain0` and `ain1` are the AIN conversions of the two products'
pressure lanes. -/
def execFootprintTick (t : Time) (ecc : List EccFault) (ain0 ain1 : List Sample) (s : State) : Res :=
  let s := s.at t
  let m := tickOf s.now
  if s.up ∧ s.fpe.tick < m then
    let s := s.modFpe (fun e => { e with
      tick := m, prep := [], prepOk := false, decided := false, bucket := e.bucket.map (fun b => min 8000 (b + 4096)),
      outs := e.outs.map (fun o => { o with
        dOn := o.dOnNew.or o.dOn, dOff := o.dOffNew.or o.dOff, dOnNew := none, dOffNew := none }) })
    let s := s.setReg FPE.TICK_CNT (wd m)
    let s := s.swapTables
    let s := if s.engaged then (s.latchProd 0 ain0).latchProd 1 ain1 else s
    let s := (s.eccAll ecc).paintPhase
    .next (if s.engaged ∧ s.poseRing then s.prepare else s)
  else .next s

/-- DEMAND_PHASE: τ_m + 50 µs (Table 4-1 steps 3 and 4). -/
def execDemandPhase (t : Time) (s : State) : Res :=
  let s := s.at t
  if s.up then
    if s.engaged then
      let s := if s.fpe.prepOk then s else s.prepare
      let w := s.fpe.word
      let n := if s.lineFrame then w.north.emod 4294967296 else w.north
      let vrp := tileOf (fdiv w.east s.pitch) (fdiv n s.pitch)
      .next (s.mapDemand (some ((s.fpe.prep.filter (·.live)).flatMap s.wantedBox)) vrp)
    else .next (s.mapDemand none (0, 0))
  else .next s

/-! Sampling (R127 to R130, R133, R136). -/

/-- One point of a cross line: coverage bits, prescription index and the situation met (R99, R127). -/
def State.readPoint (s : State) (c : Int × Int) : (Nat × Nat × Option Sit) × State :=
  let (cov, f1) := s.readCov c.1 c.2
  let (rx, f2) : Nat × Option Sit := if s.lineFrame then (s.defRate, none) else s.readPrx c.1 c.2
  let f := f1.or f2
  ((cov, rx, f), match f with
    | some k => s.noteRead c.1 c.2 k
    | none => s)

/-- The points of a cross line in order. -/
def State.readLine (s : State) : List (Int × Int) → List (Nat × Nat × Option Sit) × State
  | [] => ([], s)
  | c :: cs =>
    let (x, s) := s.readPoint c
    let (xs, s) := State.readLine s cs
    (x :: xs, s)

/-- Entry x of a bank of a product's rate table (R142). -/
def State.tableAt (s : State) (prod bank x : Nat) : Nat := (Sparse.get (fun _ => (0 : Word)) s.fpe.tables ((2 * prod + bank) * 256 + x)).toNat

/-- Q_tot of R138. -/
def State.qTot (s : State) (p : Fin 2) : Nat :=
  min 4294967295 ((s.reg (RATE.PROD_DOSE p)).toNat * s.fpe.pulse.get p * s.fld (RATE.PROD_SCALE.SCALE p) / 1000000)

def prodIx (p : Nat) : Fin 2 := Fin.ofNat 2 p

/-- The area rate of a sample, none for a product without EN, and the prescription index used (R136). -/
def State.areaRate (s : State) (prod : Nat) (xs : List Nat) : Option Nat × Nat :=
  let mid := nth 0 xs (xs.length / 2)
  let rate := s.tableAt prod s.fpe.bank
  let best := xs.foldl (fun a x => if rate a < rate x then x else a) (xs.headD 0)
  let x := if s.flag FPE.FPE_CFG.RX_SEL then best else mid
  if !s.flag (RATE.PROD_CFG.EN prod) then (none, x)
  else
    let src := s.fld (RATE.PROD_CFG.SRC prod)
    if src = 0 then (some (rate x), x)
    else if src = 1 then (some (b2n (decide (s.qTot (prodIx prod) ≠ 0))), x)
    else if src = 2 then (some (s.reg (RATE.PROD_FIXED prod)).toNat, x)
    else (some 0, x)

/-- The class of the rule that set a sample's state; `none` for rule 7 (Table 4-2). -/
inductive Why where
  | cover
  | excl
  | rate0
  | forced
  | none
  deriving DecidableEq, Repr

/-- CLASS of Table 5-1. -/
def Why.code : Why → Nat
  | .cover => 0
  | .excl => 1
  | .rate0 => 2
  | .forced => 3
  | .none => 0

/-- What the rules of Table 4-2 read for a sample. -/
structure RuleIn where
  off : Bool
  on : Bool
  supp : Bool
  onQ : Nat
  offQ : Nat
  exclQ : Nat
  nFree : Nat
  nExc : Nat
  nc : Nat
  rate0 : Bool
  deriving DecidableEq, Repr

/-- The first rule of Table 4-2 that applies, with the suppression of R133. -/
def decideSample (r : RuleIn) (prev : Bool) : Bool × Why :=
  if r.off then (false, .forced)
  else if 1 ≤ r.nExc ∧ r.exclQ * r.nc ≤ 256 * r.nExc then (false, .excl)
  else if r.rate0 then (false, .rate0)
  else if r.on ∧ (prev ∨ r.supp = false) then (true, .forced)
  else if prev = false ∧ r.supp = false ∧ r.onQ * r.nc ≤ 256 * r.nFree then (true, .cover)
  else if prev ∧ 256 * r.nFree < r.offQ * r.nc then (false, .cover)
  else (prev, .none)

/-- One sample's outcome. -/
structure Samp where
  x : Nat
  on : Bool
  why : Why
  free : Nat
  rate : Option Nat
  rx : Nat
  deriving DecidableEq, Repr

/-- The samples of one outlet in a tick, with the situations met. -/
structure Sampled where
  p : Prep
  samps : List Samp
  late : Bool
  stall : Bool
  conflict : Bool
  deriving DecidableEq, Repr

/-- σ_7. -/
def Sampled.last (d : Sampled) : Option Samp := d.samps.getLast?

/-- The causes of R133 that hold for every outlet: SPD, QUAL; and NOT_RUN. -/
def State.suppSpd (s : State) : Bool := !s.fpe.word.spdValid
def State.suppQual (s : State) : Bool := !s.lineFrame && decide (s.fpe.word.qual < s.fld POSE.POSE_CFG.MIN_QUAL)
def State.suppHitch (s : State) (j : Nat) : Bool := s.onImpl j && !s.fpe.word.hitchOk
def State.suppressed (s : State) (j : Nat) : Bool :=
  s.suppSpd || s.suppQual || s.suppHitch j || decide (s.dev ≠ .run)

/-- Bit j of a bank of four mask registers. -/
def State.maskBit (s : State) (a : Nat → Nat) (j : Nat) : Bool := (s.reg (a (j / 32))).toNat.testBit (j % 32)

/-- Sample one point of the window and carry σ (R125, R129, R130). -/
def State.sample (s : State) (pt : Path) (p : Prep) (a : Sampled) (x : Nat) : Sampled × State :=
  let d := diff48 x p.tk
  let (r0, s) := s.readLine (s.cross pt p.j d)
  let g : Int := s.fld FPE.EXCL_CFG.GUARD_MM
  let (r1, s) := if g = 0 then ([], s) else s.readLine (s.cross pt p.j (d + 1000 * g))
  let prod := s.prodOf p.j
  let bit := if prod = 1 then 3 else 0
  let nc := r0.length
  let nf := (r0.filter (fun c => !c.1.testBit 2 && !c.1.testBit bit)).length
  let ex := (List.range nc).filter (fun i => (nth (0, 0, none) r0 i).1.testBit 2 || (nth (0, 0, none) r1 i).1.testBit 2)
  let (rate, rx) := s.areaRate prod (r0.map (fun c => c.2.1))
  let prev := match a.last with
    | some q => q.on
    | none => (s.fo p.j).cmd
  let ri : RuleIn :=
    { off := s.maskBit FPE.FORCE_OFF p.j || !(s.reg FPE.MASTER).toNat.testBit prod, on := s.maskBit FPE.FORCE_ON p.j,
      supp := s.suppressed p.j, onQ := s.fld FPE.FPE_CFG.ON_Q, offQ := s.fld FPE.FPE_CFG.OFF_Q,
      exclQ := s.fld FPE.FPE_CFG.EXCL_Q, nFree := nf, nExc := ex.length, nc := nc, rate0 := decide (rate = some 0) }
  let (on, why) := decideSample ri prev
  let hit := fun (k : Sit) => (r0 ++ r1).any (fun c => decide (c.2.2 = some k))
  let q : Samp := { x := x, on := on, why := why, free := min 255 (256 * nf / nc), rate := rate, rx := rx }
  ({ a with samps := a.samps ++ [q], late := a.late || hit .late, stall := a.stall || hit .stall,
            conflict := a.conflict || hit .conflict }, s)

/-- The eight samples of a window (R125). -/
def State.sampleWindow (s : State) (p : Prep) (a b : Nat) : Sampled × State :=
  let span := (diff48 b a).toNat
  let pt := s.path p.j
  (List.range 8).foldl (fun (r : Sampled × State) i =>
      r.2.sample pt p r.1 ((a + i * span / 8) % 281474976710656))
    ({ p := p, samps := [], late := false, stall := false, conflict := false }, s)

/-- Sample every live outlet in global order; an outlet without a window has no samples. -/
def State.sampleAll (s : State) : List Prep → List Sampled × State
  | [] => ([], s)
  | p :: ps =>
    let (d, s) : Sampled × State := match p.win with
      | some (a, b) => s.sampleWindow p a b
      | none => ({ p := p, samps := [], late := false, stall := false, conflict := false }, s)
    let (ds, s) := State.sampleAll s ps
    (d :: ds, s)

/-- The state an outlet has after the decision phase. -/
def State.finalOn (s : State) (d : Sampled) : Bool :=
  if d.p.rev then false else (d.last.map (·.on)).getD (s.fo d.p.j).cmd

/-! Flow and value (R137 to R139). -/

/-- Σ w of R138 for each product. -/
def State.sumW (s : State) (ds : List Sampled) (prod : Nat) : Nat :=
  ((ds.filter (fun d => decide (s.prodOf d.p.j = prod) && s.finalOn d)).map (fun d => max (s.swath d.p.j) 1)).sum

/-- Q_j for an area rate, given Σ w; a product with EN = 0 gives no flow (R136 to R138). -/
def State.flowOf (s : State) (p : Prep) (rate sumw : Nat) : Nat :=
  let j := p.j
  let prod := s.prodOf j
  if s.flag (RATE.PROD_CFG.EN prod) = false then 0
  else if s.fld (RATE.PROD_CFG.SRC prod) = 1 then
    min 4294967295 (s.qTot (prodIx prod) * max (s.swath j) 1 / sumw)
  else
    let sr := if s.flag (RATE.PROD_CFG.TURN_COMP prod) then max p.s 0
      else max (if s.onImpl j then s.fpe.ux else s.fpe.word.speed) 0
    min 4294967295 (rate * s.fld (RATE.PROD_SCALE.SCALE prod) * s.swath j * sr.toNat / 1000000000000)

def pLowEvt (p : Fin 2) : Fld := if p = 1 then RATE.RATE_EVT.P_LOW1 else RATE.RATE_EVT.P_LOW0
def pLowStat (p : Fin 2) : Fld := if p = 1 then RATE.RATE_STAT.P1_LOW else RATE.RATE_STAT.P0_LOW

/-- Step 2 of R139: whether the pressure is low, noted for the product. -/
def State.lowPressure (s : State) (p : Fin 2) (j : Nat) : Bool × State :=
  let v := s.fpe.press.get p
  let low := s.fpe.pBad.get p || decide (v < (s.fld (RATE.PROD_LIM.P_MIN p) : Int)) || decide (v ≤ 0)
  let was := s.fpe.pLow.get p
  let s := (s.modFpe (fun e => { e with pLow := e.pLow.set p low })).setFld (pLowStat p) (b2n low)
  if low then
    let s := s.setEvt (pLowEvt p)
    if was then (true, s)
    else
      let (w, s) := s.freeWord
      (true, s.record Rec.PRESS_LOW pgFpe (wd j) (wd s.fpe.tick) w)
  else (false, s)

/-- The SPRAY duty of a flow (R139). -/
def State.dutyOf (s : State) (j q : Nat) : Nat × State :=
  let p := prodIx (s.prodOf j)
  let (low, s) := s.lowPressure p j
  let spr := isqrt (s.fld (RATE.PROD_CFG.P_REF p) * 65536)
  let sp := if low then spr else isqrt ((s.fpe.press.get p).toNat * 65536)
  let den := (s.reg (RATE.PROD_NOZ p)).toNat * sp
  let (d, s) : Nat × State := if den = 0 then s.freeNat 10 else ((rdiv ((q * 1000 * spr : Nat) : Int) (den : Int)).toNat, s)
  let lo := s.fld (RATE.PROD_LIM.DUTY_MIN p)
  if 1000 < d then (1000, (s.setEvt RATE.RATE_EVT.OVER_RATE).bumpReg RATE.OVER_CNT 1)
  else if d < lo then (lo, (s.setEvt RATE.RATE_EVT.UNDER_RATE).bumpReg RATE.UNDER_CNT 1)
  else (d, s)

/-- The VALUE of an ON or RATE event (R139, R153). -/
def State.valueOf (s : State) (j q : Nat) : Nat × State :=
  let k := s.kindOf j
  if k = 3 ∨ s.flag (RATE.PROD_CFG.EN (s.prodOf j)) = false then (0, s)
  else if k = 0 then
    let (d, s) := s.dutyOf j q
    (d, s.modFo j (fun o => { o with duty := d }))
  else (q / 256, s)

/-! The decision of one outlet (R131 to R133, R140). -/

def evOn : Nat := 0
def evOff : Nat := 1
def evRate : Nat := 2

/-- R132: move a target to at least `len` beyond the target of the opposite event. -/
def minLen (tgt : Nat) (ref : Option Nat) (len : Nat) : Nat :=
  match ref with
  | some r => if diff48 tgt r < (len : Int) then (r + len) % 281474976710656 else tgt
  | none => tgt

/-- The excursions of a window from the commanded state `c` that revert before sample 7 (R131). -/
def excursions (c : Bool) (l : List Samp) : Nat :=
  ((l.zip (l.drop 1)).filter (fun p => decide (p.1.on ≠ c ∧ p.2.on = c))).length

/-- The OFF target of a sample that a minimum length may move, and its class. DEDUCED (log 164): where the moved target lies
beyond that of an EXCL sample of the same window, the EXCL target stands (R132). -/
def offTarget (tgt : Nat) (why : Why) (land : Nat) (l : List Samp) : Nat × Why :=
  match l.find? (fun q => decide (q.why = .excl)) with
  | some q =>
    let x := mod48 ((q.x : Int) - (land : Int))
    if 0 < diff48 tgt x then (x, .excl) else (tgt, why)
  | none => (tgt, why)

/-- The smallest i for which σ_i to σ_7 all equal `v`. -/
def settleIx (v : Bool) (l : List Samp) : Nat := l.length - (l.reverse.takeWhile (fun q => decide (q.on = v))).length

/-- Add Q_j to the product's demand (R141). -/
def State.addDemand (s : State) (j q : Nat) : State :=
  let p := prodIx (s.prodOf j)
  if s.flag (RATE.PROD_CFG.EN p) then
    s.modFpe (fun e => { e with demand := vmod e.demand p (fun d => min 4294967295 (d + q)) })
  else s

/-- Decide one outlet; answers its events of the tick. -/
def State.decideOut (s : State) (d : Sampled) (sumw : Nat → Nat) : List FEvent × State :=
  let p := d.p
  let j := p.j
  let o := s.fo j
  let prod := s.prodOf j
  let m := s.fpe.tick
  let ev := fun (typ cls v x : Nat) => ({ j := j, typ := typ, cls := cls, val := v, xv := x, tick := m } : FEvent)
  if p.rev then
    if o.cmd then
      ([ev evOff 3 0 p.tm], s.modFo j (fun o => { o with cmd := false, lastOff := some p.tm }))
    else ([], s)
  else
    match d.samps with
    | [] =>
      if o.cmd then
        let q := if s.fld (RATE.PROD_CFG.SRC prod) = 1 then s.flowOf p 0 (sumw prod) else o.flow
        ([], (s.modFo j (fun o => { o with flow := q })).addDemand j q)
      else ([], s)
    | q0 :: _ =>
      let q7 := (d.last).getD q0
      let q := s.flowOf p (q0.rate.getD 0) (sumw prod)
      let s := s.modFo j (fun o => { o with flow := q, free := q7.free, rx := q0.rx })
      let gaps := excursions o.cmd d.samps
      let s := if gaps = 0 then s else (s.bumpReg FPE.SHORT_GAP_CNT gaps).setEvt FPE.FPE_EVT.SHORT_GAP
      if q7.on = o.cmd then
        if o.cmd then
          let (v, s) := (s.addDemand j q).valueOf j q
          let dv := ((v : Int) - (o.vLast : Int)).natAbs
          if s.dev = .run ∧ s.fld FPE.RATE_CFG.RATE_DB * o.vLast < dv * 1000 then
            ([ev evRate 0 v (mod48 ((q0.x : Int) - (p.dLand : Int)))], s)
          else ([], s)
        else ([], s)
      else
        let i := settleIx q7.on d.samps
        let qi := nth q0 d.samps i
        let x := mod48 ((qi.x : Int) - (p.dLand : Int))
        let moves := decide (qi.why = .cover ∨ qi.why = .rate0)
        if q7.on then
          let tgt := if moves then minLen x o.lastOff (1000 * s.fld FPE.LEN_CFG.MIN_OFF_MM) else x
          let q := s.flowOf p (qi.rate.getD 0) (sumw prod)
          let (v, s) := s.valueOf j q
          let s := s.modFo j (fun o => { o with
            cmd := true, lastOn := some tgt, clampSeen := false, flow := q, rx := qi.rx })
          ([ev evOn qi.why.code v tgt], s.addDemand j q)
        else
          let (tgt, why) := if moves then
              offTarget (minLen x o.lastOn (1000 * s.fld FPE.LEN_CFG.MIN_ON_MM)) qi.why p.dLand (d.samps.drop i)
            else (x, qi.why)
          ([ev evOff why.code 0 tgt], s.modFo j (fun o => { o with cmd := false, lastOff := some tgt }))

/-- Decide every outlet in global order. -/
def State.decideAll (s : State) (sumw : Nat → Nat) : List Sampled → List FEvent × State
  | [] => ([], s)
  | d :: ds =>
    let (es, s) := s.decideOut d sumw
    let (rs, s) := State.decideAll s sumw ds
    (es ++ rs, s)

/-! The hold of the half in charge (R168, R169). -/

def State.setHold (s : State) (n : LaneIx) (l : List FEvent) : State := s.modFpe (fun e => { e with hold := e.hold.set n l })
def State.setPosted (s : State) (n : LaneIx) (l : List FEvent) : State := s.modFpe (fun e => { e with posted := e.posted.set n l })
def State.setDeferred (s : State) (n : LaneIx) (l : List FEvent) : State := s.modFpe (fun e => { e with deferred := e.deferred.set n l })

/-- An event lost at a full hold. -/
def State.evtLost (s : State) (n : LaneIx) (e : FEvent) : State :=
  ((s.bumpReg SCHED.EVT_LOST_CNT 1).setEvt SCHED.SCHED_EVT.EVT_LOST).record Rec.EVT_LOST pgSched (wd n.val) (wd (e.j % 8)) (wd e.typ)

/-- The newest RATE event of a list, and the list without it. -/
def dropNewestRate (l : List FEvent) : Option (FEvent × List FEvent) :=
  match l.reverse.findIdx? (fun e => decide (e.typ = evRate)) with
  | none => none
  | some i =>
    let k := l.length - 1 - i
    (l[k]?).map (fun e => (e, l.eraseIdx k))

/-- An event joins a lane's hold. -/
def State.joinHold (s : State) (n : LaneIx) (e : FEvent) : State :=
  let h := s.fpe.hold.get n
  if e.typ = evRate ∧ h.any (fun x => decide (x.typ = evRate ∧ x.j = e.j)) then
    s.setHold n (h.map (fun x => if x.typ = evRate ∧ x.j = e.j then e else x))
  else if h.length < s.fld SCHED.SCHED_HOLD.HOLD_MAX then s.setHold n (h ++ [e])
  else if e.typ = evRate then s.evtLost n e
  else
    match dropNewestRate h with
    | some (x, l) => (s.setHold n (l ++ [e])).evtLost n x
    | none => s.evtLost n e

/-- The two flits of an event (Table 5-1). -/
def evtFlits (e : FEvent) : List (Nat × Word) :=
  [(ftEvtA, wd e.xv), (ftEvtB, wd (e.j % 8 * 536870912 + e.typ * 134217728 + e.cls * 16777216 + e.val % 16777216))]

/-- Hand an event to its lane's port, or to the hold. -/
def State.offerEvent (s : State) (n : LaneIx) (e : FEvent) : State :=
  if (s.fpe.hold.get n).isEmpty then
    if s.maySend then
      match s.sendDn n (evtFlits e) with
      | (true, s) => s.setPosted n (s.fpe.posted.get n ++ [e])
      | (false, s) => s.joinHold n e
    else s.setPosted n (s.fpe.posted.get n ++ [e])
  else s.joinHold n e

/-! Posting (R134, R135, R141). -/

/-- The class of an event in the order of R135. -/
def postRank (e : FEvent) : Nat :=
  if e.typ = evRate then 4 else if e.cls = 1 then 0 else if e.cls = 3 then 1 else if e.typ = evOff then 2 else 3

/-- Events in posting order: stable by rank, a state event never before an earlier state event of its outlet. -/
def postOrder (es : List FEvent) : List FEvent :=
  let rank := fun (i : Nat) (e : FEvent) =>
    ((es.take i).filter (fun x => decide (x.j = e.j ∧ x.typ ≠ evRate ∧ e.typ ≠ evRate))).foldl (fun a x => max a (postRank x)) (postRank e)
  ((List.range 5).flatMap (fun r =>
    ((List.range es.length).filterMap (fun i => (es[i]?).bind (fun e => if rank i e = r then some e else none)))))

/-- The preparation of an outlet in the present tick. -/
def State.prepFor (s : State) (j : Nat) : Option Prep := s.fpe.prep.find? (fun p => decide (p.j = j))

/-- R134. -/
def State.lateCheck (s : State) (e : FEvent) : State :=
  match s.prepFor e.j with
  | none => s
  | some p =>
    let sp := max p.s 0
    let d := if e.typ = evOn then p.dOn else if e.typ = evOff then p.dOff else 0
    if diff48 e.xv p.tm - alongNs sp d < alongNs sp 200000 then
      let s := (s.setEvt FPE.FPE_EVT.LATE_TARGET).bumpReg FPE.LATE_TARGET_CNT 1
      let (v, s) := s.freeWord
      s.record Rec.LATE_TARGET pgFpe (wd e.j) (wd s.fpe.tick) v
    else s

/-- Post one event, or defer it; answers whether it was posted. -/
def State.postEvent (s : State) (n : LaneIx) (e : FEvent) : Bool × State :=
  if 1000 ≤ s.fpe.bucket.get n then
    let s := s.modFpe (fun f => { f with bucket := vmod f.bucket n (· - 1000) })
    let s := if e.typ = evOff then s else s.modFo e.j (fun o => { o with vLast := e.val })
    let s := s.lateCheck e
    (true, (s.count FPE.EVT_POSTED 1).offerEvent n e)
  else
    let s := s.setDeferred n (s.fpe.deferred.get n ++ [e])
    let s := (s.bumpReg FPE.EVT_DEFER_CNT 1).setEvt FPE.FPE_EVT.EVT_DEFER
    match s.firstInSec (recKey Rec.EVT_DEFER n.val) with
    | (true, s) =>
      let (v, s) := s.freeWord
      (false, s.record Rec.EVT_DEFER pgFpe (wd e.j) (wd s.fpe.tick) v)
    | (false, s) => (false, s)

/-- Post a list of events; answers those posted. -/
def State.postEvents (s : State) (n : LaneIx) : List FEvent → List FEvent × State
  | [] => ([], s)
  | e :: es =>
    let (ok, s) := s.postEvent n e
    let (rs, s) := State.postEvents s n es
    (if ok then e :: rs else rs, s)

/-- Post a lane's events of the tick behind its deferred ones: a newer rate change replaces a deferred one, and a rate
change of an outlet that is OFF is not posted (R135, R140). -/
def State.postLane (s : State) (n : LaneIx) (new : List FEvent) : List FEvent × State :=
  let keep := (s.fpe.deferred.get n).filter (fun e =>
    !(decide (e.typ = evRate) &&
      (new.any (fun x => decide (x.typ = evRate ∧ x.j = e.j)) || !(s.fo e.j).cmd)))
  (s.setDeferred n []).postEvents n (postOrder (keep ++ new))

/-- Post every lane's events. -/
def State.postAll (s : State) (es : List FEvent) : List LaneIx → List FEvent × State
  | [] => ([], s)
  | n :: ns =>
    let (ps, s) := if s.fenced n then ([], s) else s.postLane n (es.filter (fun e => decide (laneOf e.j = n)))
    let (rs, s) := State.postAll s es ns
    (ps ++ rs, s)

/-! The trace (R148). -/

def traceBytes (m j flags v tgt free rx : Nat) : List Byte :=
  leBytes 4 m ++ [BitVec.ofNat 8 j, BitVec.ofNat 8 flags] ++ leBytes 2 v ++ leBytes 6 tgt ++
    [BitVec.ofNat 8 free, BitVec.ofNat 8 rx]

/-- The trace record of one outlet, where the mode asks for one. -/
def State.trace (s : State) (es posted : List FEvent) (d : Sampled) : State :=
  let j := d.p.j
  let mode := s.fld FPE.TRACE_CFG.MODE
  let mine := (posted.filter (fun e => decide (e.j = j))).getLast?
  let asked := (es.filter (fun e => decide (e.j = j))).getLast?
  let want := s.flag (FPE.OUT_CFG.TRACE j) &&
    ((decide (mode = 1) && mine.isSome) || (decide (mode = 2) && d.p.win.isSome))
  if !want ∨ s.drives = false then s
  else
    let o := s.fo j
    let e := mine.or asked
    let excl := match e with
      | some e => decide (e.cls = 1)
      | none => decide ((d.last.map (·.why)) = some .excl)
    let flags := bitAt 0 o.cmd + bitAt 1 mine.isSome + bitAt 2 excl + bitAt 3 d.late + bitAt 4 d.stall +
      bitAt 5 d.conflict + bitAt 6 (mine.isNone && asked.isSome) + bitAt 7 d.p.clamped
    let v := if s.kindOf j = 0 then o.duty else min 65535 (o.flow / 256)
    let tgt := match e with
      | some e => e.xv
      | none => o.win.getD 0
    match s.postItem 12 0 (traceBytes s.fpe.tick j flags v tgt o.free o.rx) with
    | (true, s) => s
    | (false, s) => (s.bumpReg FPE.TRACE_DROP_CNT 1).setEvt FPE.FPE_EVT.TRACE_DROP

/-! The decision phase. -/

/-- The start conditions of Table 16-5, as ARM_STAT shows them. -/
def State.armStat (s : State) : Nat :=
  let spd := decide (2000 ≤ s.spdRun)
  let win := !s.mapEn || (!s.covEn && !s.prxEn) || s.flag MAP.MAP_STAT.WIN_READY
  let ring := (s.ring.assigned && s.rtLock) ||
    (!s.poseRing && !s.flag MAP.GRP_CFG.STROKE_TX && !s.flag MAP.GRP_CFG.STROKE_RX)
  bitAt 0 spd + bitAt 1 (s.qualOk s.pose.cur) + bitAt 2 win + bitAt 3 ring + bitAt 4 s.inCharge.isSome

/-- A DISARM takes effect in this very SCLK cycle, with its command still waiting behind this one (R33, R442). -/
def State.disarmNow (s : State) : Bool :=
  s.pending.any (fun i => match i with
    | .disarm t => decide (sclkOf (max s.now t) = sclkOf s.now)
    | .registerWrite t a v => decide (sclkOf (max s.now t) = sclkOf s.now ∧ a.toNat = SYS.RUN_CTRL ∧ v.toNat % 128 = 4)
    | _ => false)

/-- R441: in ARMED, RUN is entered when every condition holds and no DISARM comes in the same cycle (R442). -/
def State.armCheck (s : State) : State :=
  if s.dev = .armed then
    let v := s.armStat
    let s := s.setReg SYS.ARM_STAT (wd v)
    if v = 31 ∧ s.mayChange = true ∧ s.disarmNow = false then s.toState .run else s
  else s

/-- DEC_TIME (R120). -/
def State.decTime (s : State) (dur : Nat) : State :=
  let s := s.modFpe (fun e => { e with decLast := dur, decMax := max e.decMax dur })
  s.setReg FPE.DEC_TIME (wd (s.fpe.decMax * 65536 + dur))

/-- The causes of R133 in FPE_STAT. -/
def State.fpeStat (s : State) (ps : List Prep) : Nat :=
  bitAt 4 (decide (s.dev ≠ .run)) + bitAt 3 (ps.any (fun p => s.suppHitch p.j)) + bitAt 2 s.suppQual + bitAt 1 s.suppSpd

/-- Decide, post and trace the tick. -/
def State.decideTick (s : State) : State :=
  let ps := s.fpe.prep.filter (·.live)
  let s := s.setReg FPE.FPE_STAT (wd (s.fpeStat ps))
  let s := s.modFpe (fun e => { e with demand := Vector.replicate 2 0, decided := true, decTick := e.tick })
  let (ds, s) := s.sampleAll ps
  let s0 := s
  let (es, s) := s.decideAll (fun p => s0.sumW ds p) ds
  let (posted, s) := s.postAll es s.laneList
  let s := s.modFpe (fun e => { e with posts := posted })
  ds.foldl (fun s d => s.trace es posted d) s

/-- DECISION_PHASE: τ_m + 80 µs (Table 4-1 step 5). -/
def execDecisionPhase (t : Time) (ecc : List EccFault) (dur : BitVec 16) (s : State) : Res :=
  let s := s.at t
  if s.up then
    let s := s.publishWindow.armCheck
    if s.engaged ∧ s.fpe.prepOk ∧ s.fpe.decided = false then
      let s := s.modMap (fun m => { m with late := false, conflict := false, stalled := false })
      .next (((s.eccAll ecc).decideTick).decTime dur.toNat)
    else .next s
  else .next s

/-! Painting (R143). -/

/-- The step from `a` to `b` in a 32-bit millimetre coordinate; the belt's NORTH runs modulo 2^32 (R113). -/
def mmStep (a b : Int) : Int := (b - a + 2147483648).emod 4294967296 - 2147483648

/-- The centre at travel `g`, linear between the held centres; whether `g` is older than the history. -/
def centreAt (g : Nat) : List Centre → Option (Int × Int × Bool)
  | [] => none
  | [c] => some (c.e, c.n, decide (diff48 g c.t < 0))
  | c :: d :: cs =>
    if diff48 g c.t < 0 then some (c.e, c.n, true)
    else if diff48 g d.t < 0 then
      let num := diff48 g c.t
      let den := diff48 d.t c.t
      some (c.e + fdiv (mmStep c.e d.e * num) den, c.n + fdiv (mmStep c.n d.n * num) den, false)
    else centreAt g (d :: cs)

/-- min of two travels by R64. -/
def min48 (a b : Nat) : Nat := if diff48 a b ≤ 0 then a else b

/-- The stroke of one actuation in this tick, and the actuation after it. -/
def State.strokeOf (s : State) (p : Prep) (a : Actuation) : Option (Stroke × Bool) × Actuation :=
  let g0 := a.g0.getD (mod48 ((a.xOn : Int) + (p.dLand : Int)))
  let lim := fun (x : Nat) => min48 p.tm (mod48 ((x : Int) + (p.dLand : Int)))
  let g1 := match a.xOff, a.xF with
    | some x, _ => lim x
    | none, some x => lim x
    | none, none => p.tm
  if diff48 g1 g0 ≤ 0 then (none, a)
  else
    let h := (s.fo p.j).hist
    match centreAt g0 h, centreAt g1 h with
    | some (e0, n0, short), some (e1, n1, _) =>
      (some ({ e0 := e0, n0 := n0, e1 := e1, n1 := n1, width := s.swath p.j, paint := if s.prodOf p.j = 1 then 9 else 1,
               outlet := p.j, job := (s.epoch pgMap).toNat, tick := s.fpe.tick % 65536 }, short),
        { a with g0 := some g1 })
    | _, _ => (none, a)

/-- A closed actuation has been painted to its end. -/
def actDone (p : Prep) (a : Actuation) : Bool :=
  match a.xOff with
  | some x => decide (0 ≤ diff48 p.tm (mod48 ((x : Int) + (p.dLand : Int))))
  | none => false

/-- The strokes of one outlet. -/
def State.formOut (s : State) (p : Prep) : List Stroke × State :=
  let rs := (s.fo p.j).acts.map (s.strokeOf p)
  let ks := rs.filterMap (·.1)
  let s := if ks.any (·.2) then s.setEvt FPE.FPE_EVT.HIST_SHORT else s
  (ks.map (·.1), s.modFo p.j (fun o => { o with acts := (rs.map (·.2)).filter (fun a => !actDone p a) }))

def State.formAll (s : State) : List Prep → List Stroke × State
  | [] => ([], s)
  | p :: ps =>
    let (a, s) := s.formOut p
    let (b, s) := State.formAll s ps
    (a ++ b, s)

/-- The payload of a STROKE frame (Table 3-10). -/
def strokePayload (node group : Nat) (org : Word) (ks : List Stroke) (seq : Word) : List Byte :=
  leBytes 2 node ++ [BitVec.ofNat 8 group, BitVec.ofNat 8 ks.length] ++ leBytes 4 seq.toNat ++ leBytes 4 org.toNat ++
    leBytes 4 0 ++ ks.flatMap strokeBytes

/-- Send the tick's strokes, ten to a frame (R105). -/
def State.sendStrokes : Nat → State → List Stroke → State
  | 0, s, _ => s
  | _, s, [] => s
  | k + 1, s, ks =>
    let s := s.sendStroke (strokePayload s.ring.nodeId.toNat (s.fld MAP.GRP_CFG.GROUP) s.orgCrc (ks.take 10))
    State.sendStrokes k s (ks.drop 10)

/-- SP_DEM to every lane that takes a product's demand as its set-point (R256). -/
def State.sendSpDem (s : State) : State :=
  if s.maySend then
    overList s.laneList (fun n s =>
      let src := s.fld (LOOP.SP_CFG.SRC n)
      if src = 2 ∨ src = 3 then s.sendOne n ftSpDem (s.reg (RATE.PROD_DEMAND (src - 2))) else s) s
  else s

/-- STROKE_FORM: τ_m + 180 µs (Table 4-1 step 6). -/
def execStrokeForm (t : Time) (s : State) : Res :=
  let s := s.at t
  if s.up then
    let s := s.publishReads
    let s : State :=
      if s.engaged ∧ s.fpe.decided then
        let s := (s.setReg (RATE.PROD_DEMAND 0) (wd (s.fpe.demand.get 0))).setReg (RATE.PROD_DEMAND 1) (wd (s.fpe.demand.get 1))
        let (ks, s) := s.formAll s.fpe.prep
        let s := s.modMap (fun m => { m with own := ks })
        if s.flag MAP.GRP_CFG.STROKE_TX ∧ s.drives ∧ s.lineFrame = false then s.sendStrokes ks.length ks else s
      else s
    .next s.sendSpDem
  else .next s

/-! Digests (R147, R333). -/

/-- A record whose first and third values Table 4-4 leaves open, for the present tick. -/
def State.recTick (s : State) (c : RecCode) : State :=
  let v := s.freeWord
  let w := v.2.freeWord
  w.2.record c pgFpe v.1 (wd s.fpe.tick) w.1

/-- The decision digests match, or a mismatch is counted and, in a run of LIMIT, is a disagreement (R147, R333). -/
def State.decDigest (s : State) (dec : Bool) : State :=
  if dec then s.setLaurel (fun l => { l with decRun := 0 })
  else
    let s := (s.setEvt FPE.FPE_EVT.DEC_MISMATCH).bumpReg FPE.MISMATCH_CNT 1
    let s := s.setLaurel (fun l => { l with decRun := l.decRun + 1, lastMismatch := some s.now })
    let s := s.recTick Rec.DEC_MISMATCH
    if s.fld FPE.XCHK_CFG.LIMIT ≤ s.laurel.decRun then
      ((s.setEvt FPE.FPE_EVT.XCHK_FAIL).recTick Rec.XCHK_FAIL).disagree (tickOf s.now - (s.laurel.decRun - 1))
    else s

/-- The slot digests, likewise (R333). -/
def State.slotDigest (s : State) (slots : Bool) : State :=
  if slots then s.setLaurel (fun l => { l with slotRun := 0 })
  else
    let s := (s.bumpReg LAUREL.SLOT_MISMATCH_CNT 1).setLaurel (fun l =>
      { l with slotRun := l.slotRun + 1, lastMismatch := some s.now })
    if s.fld LAUREL.LAUREL_CFG.SLOT_LIMIT ≤ s.laurel.slotRun then s.disagree (tickOf s.now - (s.laurel.slotRun - 1)) else s

/-- An event record in the digest. DESIGN CHOICE (log 162): the payloads of its EVT_A and EVT_B, little-endian. -/
def eventBytes (e : FEvent) : List Byte := (evtFlits e).flatMap (fun f => leBytes 4 f.2.toNat)

/-- The decision digest: a CRC-32 over the tick's posted event records in posting order, then the 128 commanded-state bits, bit
(j mod 8) of byte j / 8 for outlet j (R147). -/
def State.decisionCrc (s : State) : Word :=
  crc32 (s.fpe.posts.flatMap eventBytes ++
    leBytes 16 ((List.range 128).foldl (fun a j => a + bitAt j (s.fo j).cmd) 0))

/-- DECISION_DIGEST: τ_m + 190 µs; `dec` and `slots` are the digests that the other half has sent, and the half in charge
compares them with its own (R147, R333). -/
def execDecisionDigest (t : Time) (dec slots : Word) (s : State) : Res :=
  let s := s.at t
  if s.up ∧ s.bothInService then
    let a := decide (dec = s.decisionCrc)
    let b := decide (slots = s.map.slotCrc)
    .next ((if s.fpe.decided then s.decDigest a else s).slotDigest b)
  else .next s

/-- NO_MOTION: CONF_TMO_MS after an ON fired without a confirmed opening (R145). -/
def execNoMotion (t : Time) (j : GOut) (s : State) : Res :=
  let s := s.at t
  match (s.fo j.val).onFired with
  | none => .next s
  | some (a, d) =>
    if s.up ∧ a + s.fld FPE.PAINT_CFG.CONF_TMO_MS * msPs ≤ s.now then
      let s := s.modFo j.val (fun o => { o with onFired := none, xfPend := none, dead := true })
      let s := (s.setEvt FPE.FPE_EVT.NO_MOTION).bumpReg FPE.NO_MOTION_CNT 1
      .next (s.record Rec.NO_MOTION pgFpe (wd j.val) (wd (tickOf s.now)) (wd (d / 1000)))
    else .next s

/-- RATE_SWAP: TBL_CTRL.SWAP written 1 (R142). -/
def State.rateSwap (s : State) : State :=
  (s.modFpe (fun e => { e with swapPend := true })).setFld RATE.RATE_STAT.SWAP_PEND 1

def execRateSwap (t : Time) (s : State) : Res :=
  let s := s.at t
  if s.running then .next s.rateSwap else .next s

end Sys2Proof.Machine
end

