-- ==== Sys2Proof/Machine/Spine.lean ====
section
/-! DEFINITION. The spine's side of the lanes: what EVT_ACK, EVT_FULL, FIRE, QCLR, MOTION, DLY and PEAK_RPT do when they arrive,
the re-offer of held events, and the engine's part in state changes and fences (R121, R143, R157, R164, R168, R171, R196,
R219, R227, R338). -/
namespace Sys2Proof.Machine

/-! Actuations (R143). -/

/-- The actuation in progress is closed at travel `x`. -/
def closeActs (l : List Actuation) (x : Nat) : List Actuation :=
  l.map (fun a => if a.xOff.isNone then { a with xOff := some x } else a)

/-- A confirmed opening with ACT = 1 at travel `x`; a previous actuation without a closing report ends there. After NO_MOTION
the actuation paints nothing (R145). -/
def OutFpe.openAct (o : OutFpe) (x : Nat) : OutFpe :=
  { o with conf := true, onFired := none, xfPend := none,
           acts := closeActs o.acts x ++ (if o.dead then [] else [{ xOn := x, g0 := none, xF := o.xfPend, xOff := none }]) }

/-- A confirmed closing with ACT = 1 at travel `x`. An actuation that has fired since then is not its own, and goes on waiting
for its opening. -/
def OutFpe.closeAct (o : OutFpe) (x : Nat) : OutFpe :=
  { o with conf := false, isOn := o.isOn && o.onFired.isSome, acts := closeActs o.acts x }

/-- An ON fires: a new actuation waits for its confirmed opening (R145), whether or not the one before it has a closing report
(R143). DEDUCED (log 140): an ON of an outlet whose latest firing was an ON too, and which is open or still waits for its
opening, starts no actuation. -/
def OutFpe.onFires (now : Time) (d : Nat) (o : OutFpe) : OutFpe :=
  if o.isOn ∧ (o.conf ∨ o.onFired.isSome) then o
  else { o with isOn := true, onFired := some (now, d), xfPend := none, dead := false }

/-- The firing travel of an OFF for the actuation that is open, if it has none yet. -/
def offLast (l : List Actuation) (x : Nat) : List Actuation :=
  l.map (fun a => if a.xOff.isNone then { a with xF := some (a.xF.getD x) } else a)

/-- An OFF fires at travel `x`: it ends the actuation that waits for its opening, else the one that is open (R143). -/
def OutFpe.offFired (o : OutFpe) (x : Nat) : OutFpe :=
  if o.onFired.isSome then { o with isOn := false, xfPend := some (o.xfPend.getD x) }
  else { o with isOn := false, acts := offLast o.acts x }

/-! Messages on UP. -/

/-- The global outlet that a payload's bits [31:29] name. -/
def payOut (n : LaneIx) (p : Nat) : Nat := 8 * n.val + bf p 31 29

/-- The event an EVT_ACK or EVT_FULL payload names. -/
def ackNames (n : LaneIx) (p : Nat) (e : FEvent) : Bool :=
  decide (e.j = payOut n p) && decide (e.typ = bf p 28 27) && decide (e.xv % 16777216 = bf p 23 0)

/-- Remove the first element that a test takes. -/
def eraseFirst {α : Type} (p : α → Bool) : List α → List α
  | [] => []
  | x :: xs => if p x then xs else x :: eraseFirst p xs

/-- EVT_ACK: the event is no longer open; with DUP = 0 it counts as admitted (R157, R178). -/
def State.takeAck (s : State) (n : LaneIx) (f : Flit) : State :=
  let p := f.payload.toNat
  let s := s.setPosted n (eraseFirst (ackNames n p) (s.fpe.posted.get n))
  let s := s.setHold n (eraseFirst (ackNames n p) (s.fpe.hold.get n))
  if p.testBit 26 then s else s.count SCHED.ADMIT_TOTAL 1

/-- EVT_FULL: the half in charge holds the event (R168). -/
def State.takeFull (s : State) (n : LaneIx) (f : Flit) : State :=
  let q := s.fpe.posted.get n
  match q.find? (ackNames n f.payload.toNat) with
  | some e => (s.setPosted n (eraseFirst (ackNames n f.payload.toNat) q)).joinHold n e
  | none => s

/-- Offer a lane's held events again, oldest first, ON and OFF before RATE; they stay held until they are acknowledged. -/
def State.reoffer (s : State) (n : LaneIx) : State :=
  let h := s.fpe.hold.get n
  (h.filter (fun e => decide (e.typ ≠ evRate)) ++ h.filter (fun e => decide (e.typ = evRate))).foldl
    (fun s e => (s.sendDn n (evtFlits e)).2) s

/-- HOLD_REOFFER: a re-aim instant t_r (R168). -/
def execHoldReoffer (t : Time) (s : State) : Res :=
  let s := s.at t
  if s.up ∧ s.maySend then .next (overList (s.laneList.filter (fun n => !s.fenced n)) (fun n s => s.reoffer n) s)
  else .next s

/-- FIRE_A and FIRE_B: the engine takes the firing travel X_f (R143, R164). -/
def State.takeFire (s : State) (n : LaneIx) (a b : Flit) : State :=
  let p := b.payload.toNat
  let j := payOut n p
  let typ := bf p 28 27
  let x := nearest48 (s.trav.outs.get (gIx j)).t a.payload.toNat
  let d := s.fpeOn j
  let s := s.count SCHED.FIRED_TOTAL 1
  let now := s.now
  if typ = evOff then s.modFo j (fun o => o.offFired x)
  else if typ = evOn then s.modFo j (fun o => o.onFires now d)
  else s

/-- The engine's part of QCLR (R171). -/
def State.clearOutlets (s : State) (n : LaneIx) (mask : Nat) : State :=
  let hit := fun (e : FEvent) => mask.testBit (e.j % 8)
  let s := s.modFpe (fun f => { f with
    outs := Vector.ofFn (fun (j : Fin 128) =>
      let o := f.outs.get j
      if j.val / 8 = n.val ∧ mask.testBit (j.val % 8) then { o with cmd := false, win := none, isOn := false } else o) })
  (s.setDeferred n ((s.fpe.deferred.get n).filter (fun e => !hit e))).setHold n ((s.fpe.hold.get n).filter (fun e => !hit e))

/-- MOTION_A and MOTION_B: reports with ACT = 1 confirm and close (R143, R219). -/
def State.takeMotion (s : State) (n : LaneIx) (a b : Flit) : State :=
  let p := b.payload.toNat
  if p.testBit 25 then
    let j := payOut n p
    let x := nearest48 (s.trav.outs.get (gIx j)).t a.payload.toNat
    s.modFo j (fun o => if p.testBit 28 then o.closeAct x else o.openAct x)
  else s

/-- DLY: a published delay, for use from the next tick (R227). -/
def State.takeDly (s : State) (n : LaneIx) (f : Flit) : State :=
  let p := f.payload.toNat
  let v := some (bf p 27 0)
  s.modFo (payOut n p) (fun o => if p.testBit 28 then { o with dOffNew := v } else { o with dOnNew := v })

/-- An accepted UP flit takes its effect; FIRE_B and MOTION_B complete the A flit that they directly follow. PEAK_RPT needs
nothing here: the lane's Harebell has added the wait to the d_on it publishes, and the DLY that follows brings it (R196,
R226). -/
def State.spineTakes (s : State) (n : LaneIx) (f : Flit) : State :=
  let fire := (s.lane n).pendFire
  let mot := (s.lane n).pendMot
  let ty := f.typ.toNat
  let s := s.modLane n (fun l => { l with
    pendFire := if ty = fuFireA then some f else none, pendMot := if ty = fuMotionA then some f else none })
  if ty = fuAck then s.takeAck n f
  else if ty = fuFull then s.takeFull n f
  else if ty = fuFireB then (match fire with | some a => s.takeFire n a f | none => s)
  else if ty = fuMotionB then (match mot with | some a => s.takeMotion n a f | none => s)
  else if ty = fuQclr then s.clearOutlets n (f.payload.toNat % 256)
  else if ty = fuDly then s.takeDly n f
  else s

/-- A link flit with a correct CRC-8 arrives at the spine: its acknowledgement goes to the port (R491). -/
def State.linkUp_ (s : State) (n : LaneIx) (f : Flit) : State :=
  let q : BitVec 4 := f.payload.setWidth 4
  if f.typ.toNat = ftNak then (s.bump (LANE.NAK_CNT.DN n) 1).nakDir n .dn q else s.ackDir n .dn q

/-- A flit arrives on UP at the spine (R491); PORT_IDLE is no link flit there. -/
def State.flitUp (s : State) (n : LaneIx) (f : Flit) : State :=
  if flitIsLink f ∧ f.typ.toNat ≠ ftPortIdle ∧ flitGood f then s.linkUp_ n f
  else
    let r := s.rxUp n f
    if r.1 then r.2.spineTakes n f else r.2

/-- A flit arrives at the far end of a wire. -/
def State.flitOn (s : State) (n : LaneIx) (d : Dir) (f : Flit) : State :=
  match d with
  | .dn => s.flitDn n f
  | .up => s.flitUp n f

/-- IDLE_FLIT: its acknowledgement releases the other direction's held flits (R491). -/
def execIdleFlit (t : Time) (n : LaneIx) (d : Dir) (f : Flit) (s : State) : Res :=
  let s := s.at t
  if s.laneLive n then .next (s.flitOn n d f) else .next s

/-- PORT_IDLE arrives at a lane: it restarts the 4 µs count and clears no LOST (R22, R329). -/
def execPortIdle (t : Time) (n : LaneIx) (f : Flit) (s : State) : Res :=
  let s := s.at t
  if s.laneLive n then .next (s.flitDn n f) else .next s

/-- NAK arrives on direction `d`; the sender of the other direction resends from the flit named (R491, R154). -/
def execNak (t : Time) (n : LaneIx) (d : Dir) (f : Flit) (s : State) : Res :=
  let s := s.at t
  if s.laneLive n then .next (s.flitOn n d f) else .next s

/-- EVT_ACK (R157). -/
def execEvtAck (t : Time) (n : LaneIx) (f : Flit) (s : State) : Res :=
  let s := s.at t
  if s.laneLive n then .next (s.flitUp n f) else .next s

/-- EVT_FULL (R168). -/
def execEvtFull (t : Time) (n : LaneIx) (f : Flit) (s : State) : Res :=
  let s := s.at t
  if s.laneLive n then .next (s.flitUp n f) else .next s

/-- FIRE_REPORT: FIRE_A and FIRE_B, or what a resend brings of them (R164, R491). -/
def execFireReport (t : Time) (n : LaneIx) (fs : List Flit) (s : State) : Res :=
  let s := s.at t
  if s.laneLive n then .next (fs.foldl (fun s f => s.flitUp n f) s) else .next s

/-- QCLR: [7:0] of the payload names outlets that the lane closed (R171). -/
def execQclr (t : Time) (n : LaneIx) (f : Flit) (s : State) : Res :=
  let s := s.at t
  if s.laneLive n then .next (s.flitUp n f) else .next s

/-- MOTION: MOTION_A and MOTION_B, or what a resend brings of them (R219, R491). -/
def execMotion (t : Time) (n : LaneIx) (fs : List Flit) (s : State) : Res :=
  let s := s.at t
  if s.laneLive n then .next (fs.foldl (fun s f => s.flitUp n f) s) else .next s

/-- DLY (R227). -/
def execDly (t : Time) (n : LaneIx) (f : Flit) (s : State) : Res :=
  let s := s.at t
  if s.laneLive n then .next (s.flitUp n f) else .next s

/-- PEAK_RPT: both halves receive it (R196). -/
def execPeakRpt (t : Time) (n : LaneIx) (f : Flit) (s : State) : Res :=
  let s := s.at t
  if s.laneLive n then .next (s.flitUp n f) else .next s

/-! The engine's part in state changes and fences. -/

/-- Entry to ARMED from IDLE (R121, R135). -/
def State.armFpe (s : State) : State :=
  s.modFpe (fun f => { f with
    outs := f.outs.map (fun o => { OutFpe.reset with dOn := o.dOn, dOff := o.dOff, dOnNew := o.dOnNew, dOffNew := o.dOffNew }),
    bucket := Vector.replicate 16 8000, deferred := Vector.replicate 16 [], posted := Vector.replicate 16 [],
    hold := Vector.replicate 16 [], prep := [], prepOk := false })

/-- Entry to ARMED from RUN: deferred ON and rate events are dropped (R121). -/
def State.armFromRun (s : State) : State :=
  s.modFpe (fun f =>
    let all := f.deferred.toList.flatten
    { f with
      outs := Vector.ofFn (fun (j : Fin 128) =>
        let o := f.outs.get j
        if all.any (fun e => decide (e.j = j.val ∧ e.typ = evOn)) then { o with cmd := false, win := none } else o),
      deferred := f.deferred.map (fun l => l.filter (fun e => decide (e.typ = evOff))) })

/-- A lane becomes FENCED (Table 12-3): its outlets are commanded OFF, and each one confirmed open is reported closed. -/
def State.fenceFpe (s : State) (n : LaneIx) : State :=
  let s := (List.range 8).foldl (fun s k =>
    let j := 8 * n.val + k
    let tr := s.trav.outs.get (gIx j)
    let sp := max tr.s 0
    let dt : Nat := s.now - s.trav.k * posePs
    let x := mod48 ((tr.t : Int) + sp * (dt : Int) / 1000000000000 + alongNs sp (s.fpeOff j))
    s.modFo j (fun o =>
      let o := { o with cmd := false, win := none, isOn := false, onFired := none, xfPend := none }
      if o.conf then o.closeAct x else o)) s
  ((s.setDeferred n []).setPosted n []).setHold n []

end Sys2Proof.Machine
end

