-- ==== Sys2Proof/Machine/Gnss.lean ====
section
/-! DEFINITION. The satellite navigation basebands: GIF_CLK and AGC, channels and the assignment epoch, measurements, observable
and solution records, RTCM corrections and STANDBY bursts (R294 to R309, R48). -/
namespace Sys2Proof.Machine

def State.modGnss (s : State) (f : GnssState → GnssState) : State := { s with gnss := f s.gnss }

/-- The halves this member has. -/
def State.halves (s : State) : List Half := if memberHalves s.member = 2 then [.a, .b] else [.a]

/-- The baseband of a half runs: enabled, its half runs, and in STANDBY only with the half in charge (R308). -/
def State.basebandOn (s : State) (h : Half) : Bool :=
  s.up && s.flag (GNSS.IF_CFG.EN 0) && s.en (pgGnss h) && s.runs h && (decide (s.dev ≠ .standby) || decide (s.inCharge = some h))

/-- The half whose solutions the pose and the time take: the half in charge, or Half A before there is one. -/
def State.solver (s : State) : Half := s.inCharge.getD .a

/-- A MIRROR record of chapter 11: each half that runs admits its own instance, with its own number. -/
def State.recEach (s : State) (c : RecCode) (page : Half → Nat) (v : Word) : State :=
  s.halves.foldl (fun s h => if s.runs h then (s.faultFor c (page h)).recHalf h c (page h) (wd h.ix) v 0 else s) s

/-- Change the registers of each half's page. -/
def State.eachGnss (s : State) (f : State → Nat → State) : State := s.halves.foldl (fun s h => f s h.ix) s

/-! GIF_CLK and AGC (R295, R296). -/

/-- GIF_CLK_CHECK: the count of one millisecond. -/
def execGifClkCheck (t : Time) (count : BitVec 17) (s : State) : Res :=
  let s := s.at t
  if s.up then
    let c := count.toNat
    let s := s.eachGnss (fun s n => s.setReg (GNSS.GIF_CLK_CNT n) (wd c))
    let s : State :=
      if 51998 ≤ c ∧ c ≤ 52002 then
        s.modGnss (fun g => { g with gifRun := min 10 (g.gifRun + 1), gifOk := g.gifOk || decide (10 ≤ g.gifRun + 1) })
      else
        let first := decide (0 < s.gnss.gifRun)
        let s := s.modGnss (fun g => { g with gifRun := 0, gifOk := false })
        let s := s.eachGnss (fun s n => s.setEvt (GNSS.GNSS_EVT.GIF_CLK_BAD n))
        if first then s.recEach Rec.GIF_CLK_BAD pgGnss (wd c) else s
    .next (s.eachGnss (fun s n => s.setFld (GNSS.GNSS_STAT.GIF_CLK_OK n) (b2n s.gnss.gifOk)))
  else .next s

/-- Table 11-1: the value of a sample's two bits. -/
def ifValue (offsetBinary : Bool) (code : Nat) : Int :=
  if offsetBinary then 2 * (code : Int) - 3 else (if code.testBit 1 then -1 else 1) * (if code.testBit 0 then 3 else 1)

/-- A Q sample: L1_QINV or L5_QINV negates it (R294). -/
def ifQValue (offsetBinary inv : Bool) (code : Nat) : Int :=
  if inv then -ifValue offsetBinary code else ifValue offsetBinary code

/-- The centre of a band in Hz, shifted by its residual offset (R294). -/
def State.ifCentre (s : State) (l5 : Bool) : Int :=
  if l5 then 1176450000 + (s.reg (GNSS.IF_OFS_L5 0)).toInt else 1575420000 + (s.reg (GNSS.IF_OFS_L1 0)).toInt

/-- The samples of one band: those of magnitude 3 over I and Q, and all (R296). -/
def State.ifCount (s : State) (inv : Bool) (c : IfCounts) : Nat × Nat :=
  let enc := s.flag (GNSS.IF_CFG.ENC 0)
  let sum := fun (v : Vector (BitVec 16) 4) (p : Nat → Bool) =>
    (((List.range 4).filter p).map (fun k => (nth 0 v.toList k).toNat)).sum
  (sum c.i (fun k => decide ((ifValue enc k).natAbs = 3)) + sum c.q (fun k => decide ((ifQValue enc inv k).natAbs = 3)),
    sum c.i (fun _ => true) + sum c.q (fun _ => true))

/-- The floor of a percentage. -/
def percent (n m : Nat) : Nat := 100 * n / m

/-- The next DUTY under AUTO. -/
def agcDuty (duty target m gain : Nat) : Nat :=
  (clampI 0 1023 ((duty : Int) + shr (((target : Int) - (m : Int)) * (gain : Int)) 4)).toNat

/-- M of one millisecond for the band that AGC_CFG.BAND selects; BAND = 3 is not listed, and M is free (R296). -/
def State.agcM (s : State) (c1 c5 : Nat × Nat) : Nat × State :=
  let band := s.fld (GNSS.AGC_CFG.BAND 0)
  if band = 0 then (percent c1.1 c1.2, s) else if band = 1 then (percent c5.1 c5.2, s)
  else if band = 2 then (percent (c1.1 + c5.1) (c1.2 + c5.2), s) else s.freeNat 7

/-- AGC_UPDATE: the samples of one millisecond. With GIF_CLK_OK = 0 they are discarded: M is not taken, and DUTY stays under
AUTO (R295, R296). -/
def execAgcUpdate (t : Time) (l1 l5 : IfCounts) (s : State) : Res :=
  let s := s.at t
  if s.up ∧ (s.dev ≠ .standby ∨ s.gnss.burst) then
    let c1 := s.ifCount (s.flag (GNSS.IF_CFG.L1_QINV 0)) l1
    let c5 := s.ifCount (s.flag (GNSS.IF_CFG.L5_QINV 0)) l5
    let ok := s.gnss.gifOk
    let (m, s) : Nat × State := if ok then s.agcM c1 c5 else (0, s)
    let d := if s.flag (GNSS.AGC_CFG.MODE 0) then s.fld (GNSS.AGC_CFG.DUTY_FIX 0)
      else if ok then agcDuty s.gnss.duty (s.fld (GNSS.AGC_CFG.TARGET_PCT 0)) m (s.fld (GNSS.AGC_CFG.GAIN 0))
      else s.gnss.duty
    let run := if d = 0 ∨ d = 1023 then s.gnss.dutyRun + 1 else 0
    let out := if s.ballsRun then d else s.gnss.dutyOut
    let s := s.modGnss (fun g => { g with duty := d, dutyRun := run, dutyOut := out })
    let s := s.eachGnss (fun s n =>
      let s := s.setFld (GNSS.AGC_STAT.DUTY n) d
      if ok then (s.setFld (GNSS.AGC_STAT.M_L5 n) (percent c5.1 c5.2)).setFld (GNSS.AGC_STAT.M_L1 n) (percent c1.1 c1.2) else s)
    if run = 100 then
      .next ((s.eachGnss (fun s n => s.setEvt (GNSS.GNSS_EVT.AGC_LIMIT n))).recEach Rec.AGC_LIMIT pgGnss (wd d))
    else .next s
  else .next s

/-- The level of the ball GIF_AGC: high for DUTY of every 1,024 SCLK cycles (R296). DESIGN CHOICE (log 165): the periods start
at multiples of 1,024 cycles, and a new DUTY acts at once. -/
def State.agcLevel (s : State) : Bool :=
  decide (sclkOf s.now % 1024 < (if s.ballsRun then s.gnss.duty else s.gnss.dutyOut))

/-! Signals (R297, R299). -/

/-- A row of Table 11-2: the system, coded as SYS of Table 11-4, the band, BOC(1,1), and class 10. -/
structure SigRow where
  sys : Nat
  l5 : Bool
  boc : Bool
  class10 : Bool
  deriving DecidableEq, Repr

/-- Table 11-2, by SIG_EN bit. -/
def sigTable : List SigRow :=
  [⟨0, false, false, false⟩, ⟨0, false, true, false⟩, ⟨0, true, false, true⟩, ⟨2, false, true, false⟩, ⟨2, true, false, true⟩,
   ⟨3, false, true, false⟩, ⟨3, true, false, true⟩, ⟨4, false, false, false⟩, ⟨4, false, true, false⟩, ⟨4, true, false, true⟩]

/-- The component that a channel tracks, and the one its navigation data come from (R297). -/
inductive SigPart where
  | whole
  | pilot
  | data
  deriving DecidableEq, Repr

def trackedPart (sig : Nat) : SigPart := if Config.sigPilot sig then .pilot else .whole
def navPart (sig : Nat) : SigPart := if Config.sigPilot sig then .data else .whole

/-- The separation of the early and late replicas, in 1/64 chip; the prompt one is centred between them (R299). -/
def State.spacing (s : State) (r : SigRow) : Nat :=
  if r.class10 then s.fld (GNSS.TRK_CFG.SPACING10 0)
  else if r.boc then min (s.fld (GNSS.TRK_CFG.SPACING1 0)) 16 else s.fld (GNSS.TRK_CFG.SPACING1 0)

/-- A system and signal that Table 11-2 lists and SIG_EN enables. -/
def State.sigOn (s : State) (sys sig : Nat) : Bool :=
  (match sigTable[sig]? with
    | some r => decide (r.sys = sys)
    | none => false) && (s.reg (GNSS.SIG_EN 0)).toNat.testBit sig

/-! Channels (R298 to R302). -/

def noChan : Nat → Chan := fun _ => Chan.reset
/-- A channel of the pool by its half and number. -/
def poolIx (h : Half) (ch : Nat) : Nat := 64 * h.ix.val + ch
def State.chan (s : State) (i : Nat) : Chan := Sparse.get noChan s.gnss.chans i
def State.setChan (s : State) (i : Nat) (c : Chan) : State :=
  s.modGnss (fun g => { g with chans := Sparse.set noChan g.chans i c })

/-- The channels of a baseband that are assigned. -/
def State.assigned (s : State) (h : Half) : List Nat :=
  (s.gnss.chans.map (·.1)).filter (fun i => decide (i / 64 = h.ix.val) && decide ((s.chan i).st ≠ .idle))

/-- Assign a channel (R300, R301): a signal that another channel has been tracking starts in PULL_IN, any other in ACQ; a
signal that Table 11-2 does not list for its system, or SIG_EN does not enable, leaves the channel IDLE (R297). -/
def State.assign (s : State) (before : State) (a : ChanAssign) : State :=
  let i := poolIx a.half a.ch.toNat
  let c := s.chan i
  let sig := a.sig.toNat
  if s.sigOn a.sys.toNat sig = false then s.setChan i Chan.reset
  else if c.st ≠ .idle ∧ c.sys = a.sys.toNat ∧ c.sv = a.sv.toNat ∧ c.sig = sig then s
  else
    let seen := before.gnss.chans.any (fun e =>
      decide (e.2.st = .track ∨ e.2.st = .pullIn) && decide (e.2.sys = a.sys.toNat ∧ e.2.sv = a.sv.toNat ∧ e.2.sig = sig))
    s.setChan i { Chan.reset with
      st := if seen then .pullIn else .acq, epoch := c.epoch, sys := a.sys.toNat, sv := a.sv.toNat, sig := sig }

/-- A reissue changes at least one channel's signal. -/
def State.assignChanges (s : State) (asg : List ChanAssign) : Bool :=
  let u := asg.foldl (fun u a => u.assign s a) s
  asg.any (fun a => decide (u.chan (poolIx a.half a.ch.toNat) ≠ s.chan (poolIx a.half a.ch.toNat)))

/-- The signals of a half that has stopped move to free channels of the other baseband, by decreasing C/N0, and start in
PULL_IN there (R301). -/
def State.moveSignals (s : State) (h : Half) : State :=
  let src := sortBy (fun i => 65535 - (s.chan i).cn0) (s.assigned h)
  let free := ((List.range 64).map (poolIx h.other)).filter (fun i => decide ((s.chan i).st = .idle))
  let s := (src.zip free).foldl (fun s p => s.setChan p.2 { s.chan p.1 with st := .pullIn }) s
  src.foldl (fun s i => s.setChan i Chan.reset) s

/-- The half in charge advances the assignment epoch and reissues every channel with it. -/
def State.advanceEpoch (s : State) (asg : List ChanAssign) : State :=
  let e := s.epoch (pgGnss .a) + 1
  let s := s.halves.foldl (fun s h => if s.runs h then s else s.moveSignals h) s
  let s := asg.foldl (fun u a => u.assign s a) s
  let s := s.halves.foldl (fun s h => s.setEpoch (pgGnss h) e) s
  s.modGnss (fun g => { g with
    chans := g.chans.map (fun p => (p.1, { p.2 with epoch := e })), staleSeen := false, advance := false })

/-- A channel after a measurement instant (R302, R308). -/
def Chan.after (c : Chan) (standby : Bool) (m : ChanMeas) : Chan :=
  { c with
    st := if m.track then .track else if m.pull then .pullIn else .acq,
    cn0 := m.cn0.toNat, lock := m.lock.toNat, missed := if standby then (if m.track then 0 else c.missed + 1) else 0 }

/-! Observables (R307). -/

/-- A channel record (Table 11-4). -/
def obsRecord (i : Nat) (c : Chan) (m : ChanMeas) (excluded : Bool) : List Byte :=
  let f := m.flags.toNat
  let flags := f - (if f.testBit 2 then 4 else 0) + bitAt 2 excluded
  [2, BitVec.ofNat 8 c.sys, BitVec.ofNat 8 c.sv, BitVec.ofNat 8 c.sig, BitVec.ofNat 8 i, BitVec.ofNat 8 flags] ++
    leBytes 2 c.epoch.toNat ++ leBytes 8 m.pr.toNat ++ leBytes 8 m.cp.toNat ++ leBytes 4 m.dop.toNat ++
    leBytes 2 m.cn0.toNat ++ leBytes 2 m.lock.toNat

/-- The observable item: header and channel records. -/
def obsItem (node ns : Nat) (o : ObsTime) (recs : List (List Byte)) : List Byte :=
  let head := [1, BitVec.ofNat 8 recs.length] ++ leBytes 2 node ++ leBytes 8 ns ++ leBytes 2 o.week.toNat ++
    [o.leap, BitVec.ofNat 8 (bitAt 0 o.leapValid + bitAt 1 o.valid)] ++ leBytes 8 o.tow.toNat ++ leBytes 4 o.bias.toNat
  let body := recs.flatten
  head ++ leBytes 4 (crc32 (head ++ body)).toNat ++ body

/-- Write an item to Q13, or drop it. -/
def State.postGnss (s : State) (h : Half) (data : List Byte) : State :=
  match s.postItem 13 0 data with
  | (true, s) => s
  | (false, s) => (s.bumpReg (GNSS.OBS_DROP_CNT h.ix) 1).setEvt (GNSS.GNSS_EVT.OBS_DROP h.ix)

/-- The present instant is a measurement instant (R303, R308). -/
def State.measInstant (s : State) : Bool :=
  if s.dev = .standby then s.gnss.burst && decide (s.now % secPs = 50 * msPs)
  else decide (s.now % (s.fld (GNSS.MEAS_CFG.MEAS_MS 0) * msPs) = 0)

/-- A stale or ahead measurement is counted against the baseband that produced it (R300). -/
def State.staleMeas (s : State) (m : ChanMeas) : State :=
  let s := (s.bumpReg (GNSS.OBS_STALE_CNT m.half.ix) 1).setEvt (GNSS.GNSS_EVT.OBS_STALE m.half.ix)
  if s.gnss.staleSeen then s
  else (s.modGnss (fun g => { g with staleSeen := true })).recEach Rec.OBS_STALE pgGnss (wd (poolIx m.half m.ch.toNat))

/-- Insert a measurement by its place in the pool. -/
def sortMeas (ms : List ChanMeas) : List ChanMeas := sortBy (fun m => poolIx m.half m.ch.toNat) ms

/-- Corrections older than AGE_MAX are not used (R306). -/
def State.ageCorr (s : State) : State :=
  match s.gnss.corrAt with
  | some a =>
    if a + s.fld (GNSS.RTK_CFG.AGE_MAX 0) * 100 * msPs < s.now then s.modGnss (fun g => { g with rtcmOk := false }) else s
  | none => s

/-- MEASUREMENT: the channels' results, the assignment of the half in charge, and the header's time fields. -/
def execMeasurement (t : Time) (ms : List ChanMeas) (asg : List ChanAssign) (o : ObsTime) (s : State) : Res :=
  let s := s.at t
  if s.up ∧ s.measInstant then
    let s := s.ageCorr
    let live := if s.gnss.gifOk then
        (sortMeas ms).filter (fun m => s.basebandOn m.half && (s.assigned m.half).contains (poolIx m.half m.ch.toNat) &&
          decide ((s.chan (poolIx m.half m.ch.toNat)).st ≠ .burstHold))
      else []
    let s := live.foldl (fun s m =>
      let i := poolIx m.half m.ch.toNat
      s.setChan i ((s.chan i).after (decide (s.dev = .standby)) m)) s
    let old := s
    let s := if s.drives ∧ (s.gnss.advance ∨ s.assignChanges asg) then s.advanceEpoch asg else s
    let e := s.epoch (pgGnss .a)
    let got := live.filter (·.track)
    let ok := fun (m : ChanMeas) =>
      decide (epochCheck (old.chan (poolIx m.half m.ch.toNat)).epoch e = .accepted)
    let s := (got.filter (fun m => !ok m)).foldl State.staleMeas s
    match s.inCharge with
    | some h =>
      if s.flag (GNSS.MEAS_CFG.OBS_EN 0) then
        let cn := s.fld (GNSS.MASK_CFG.CN0_MIN 0)
        let recs := (got.filter ok).map (fun m =>
          let i := poolIx m.half m.ch.toNat
          obsRecord i (old.chan i) m (m.low || decide (m.cn0.toNat < cn)))
        .next (s.postGnss h (obsItem s.ring.nodeId.toNat s.ns o recs))
      else .next s
    | none => .next s
  else .next s

/-! RTCM 3.x (R305, R306, Table 11-3). -/

/-- Bit `i` of a byte string, the first bit of the first byte being bit 0. -/
def bitMsb (d : List Byte) (i : Nat) : Nat := b2n ((nth 0 d (i / 8)).toNat.testBit (7 - i % 8))

/-- `n` bits from bit `o`, most significant first. -/
def bitsMsb (d : List Byte) (o n : Nat) : Nat := (List.range n).foldl (fun a i => 2 * a + bitMsb d (o + i)) 0

/-- Bytes from the first preamble: 0xD3 with six zero bits after it. -/
def seekPreamble : List Byte → List Byte
  | [] => []
  | [b] => if b = 0xD3 then [b] else []
  | b :: c :: r => if b = 0xD3 ∧ c.toNat < 4 then b :: c :: r else seekPreamble (c :: r)

/-- The parser takes the bytes of Q2; a whole item completes as its last segment is taken. -/
def State.takeQ2 : Nat → State → State
  | 0, s => s
  | fuel + 1, s =>
    let u := s.q 2
    match u.segs[u.taken]? with
    | none => s
    | some g =>
      let s := s.modGnss (fun x => { x with buf := x.buf ++ g.data })
      let n := u.taken + 1
      let s := s.modQ 2 (fun u => { u with taken := n })
      State.takeQ2 fuel (if g.last then s.retire 2 n stOk 0 else s)

def isMsm (m : Nat) : Bool := [1074, 1077, 1094, 1097, 1114, 1117, 1124, 1127].contains m
def isArp (m : Nat) : Bool := decide (m = 1005 ∨ m = 1006)
def isEph (m : Nat) : Bool := [1019, 1042, 1044, 1046].contains m

/-- Add an MSM message to an epoch: MSM7 of a system replaces MSM4 and is not replaced by it. -/
def addMsm (l : List Nat) (m : Nat) : List Nat :=
  if m % 10 = 4 ∧ l.contains (m + 3) then l else (l.filter (fun x => decide (x / 10 ≠ m / 10))) ++ [m]

/-- An MSM message of the station in use (R306). -/
def State.takeMsm (s : State) (m stn : Nat) (d : List Byte) : State :=
  let time := bitsMsb d 24 30
  let more := bitsMsb d 54 1
  let used := fun (s : State) =>
    s.modGnss (fun g => { g with msm := none, corrAt := some s.now, rtcmOk := true, phaseOk := true })
  let (s, cur) : State × MsmEpoch := match s.gnss.msm with
    | some e => if e.time = time then (s, e) else (used s, { stn := stn, time := time, msgs := [] })
    | none => (s, { stn := stn, time := time, msgs := [] })
  let e := { cur with msgs := addMsm cur.msgs m }
  let s := s.modGnss (fun g => { g with msm := some e })
  if more = 0 then used s else s

/-- The station rule of R306; answers whether the message is accepted. -/
def State.station (s : State) (stn : Nat) : Bool × State :=
  if s.flag (GNSS.RTK_CFG.STN_LOCK 0) then (decide (stn = s.fld (GNSS.RTK_CFG.STN_ID 0)), s)
  else
    match s.gnss.stn with
    | none => (true, s.modGnss (fun g => { g with stn := some stn }))
    | some q =>
      if q = stn then (true, s)
      else
        let s := s.modGnss (fun g => { g with stn := some stn, msm := none, base := none, phaseOk := false })
        let s := s.eachGnss (fun s n => s.setEvt (GNSS.GNSS_EVT.REF_CHANGE n))
        (true, s.recEach Rec.REF_CHANGE pgGnss (wd stn))

/-- A correction message that is discarded, and one that is accepted, as each baseband counts them. -/
def State.rtcmDropped (s : State) : State := s.eachGnss (fun s n => s.bump (GNSS.RTCM_BAD_CNT.DISC n) 1)
def State.rtcmTaken (s : State) : State := s.eachGnss (fun s n => s.count (GNSS.RTCM_RX_CNT n) 1)

/-- A frame that passed its CRC (Table 11-3). -/
def State.rtcmMessage (s : State) (d : List Byte) : State :=
  let m := bitsMsb d 0 12
  let stn := bitsMsb d 12 12
  if isEph m then s.rtcmTaken
  else if isMsm m || isArp m || decide (m = 1033) then
    match s.station stn with
    | (false, s) => s.rtcmDropped
    | (true, s) =>
      let s := s.rtcmTaken
      if isMsm m then s.takeMsm m stn d
      else if isArp m then s.modGnss (fun g => { g with base := some d })
      else s
  else s.rtcmDropped

/-- A frame whose CRC-24 fails: its first byte goes, and the parser looks for the next preamble (R305). -/
def State.rtcmBad (s : State) (b d : List Byte) (len : Nat) : State :=
  let s := s.modGnss (fun g => { g with buf := b.drop 1 })
  let s := s.eachGnss (fun s n => (s.bump (GNSS.RTCM_BAD_CNT.CRC n) 1).setEvt (GNSS.GNSS_EVT.RTCM_BAD n))
  let r := s.firstInSec (recKey Rec.RTCM_BAD 0)
  if r.1 then r.2.recEach Rec.RTCM_BAD pgGnss (wd (if len < 2 then 0 else bitsMsb d 0 12)) else r.2

/-- Parse the frame that starts the parser's bytes, once it is complete (R305). -/
def State.rtcmParse (s : State) (b : List Byte) : State :=
  let s := s.modGnss (fun g => { g with buf := b })
  let len := bf (beNat ((b.drop 1).take 2)) 9 0
  if b.length < len + 6 ∨ b.length < 6 then s
  else
    let body := b.take (len + 3)
    let d := body.drop 3
    if crc24 body = beNat ((b.drop (len + 3)).take 3) then
      (s.modGnss (fun g => { g with buf := b.drop (len + 6) })).rtcmMessage d
    else s.rtcmBad b d len

/-- RTCM_FRAME: the next transport frame of the byte stream. -/
def execRtcmFrame (t : Time) (s : State) : Res :=
  let s := s.at t
  if s.up ∧ s.halves.any s.basebandOn then
    let s := State.takeQ2 (s.q 2).segs.length s
    .next (s.rtcmParse (seekPreamble s.gnss.buf))
  else .next s

/-! Loss of the solution (R48, Table 11-9). -/

/-- GNSS_LOST: 1,000 ms without a solution of half `h`. -/
def execGnssLost (t : Time) (h : Half) (s : State) : Res :=
  let s := s.at t
  if s.basebandOn h ∧ s.gnss.lost.get h.ix = false ∧ s.gnss.solAt.get h.ix + 1000 * msPs ≤ s.now then
    let q := match s.gnss.sol.get h.ix with
      | some x => x.qual.toNat
      | none => 0
    let s := s.modGnss (fun g => { g with lost := g.lost.set h.ix true })
    let s := s.setEvt (GNSS.GNSS_EVT.SOL_LOST h.ix)
    .next ((s.faultFor Rec.GNSS_LOST (pgGnss h)).recHalf h Rec.GNSS_LOST (pgGnss h) (wd h.ix) (wd q) 0)
  else .next s

/-! STANDBY (R308, R309). -/

/-- The channels of a baseband by decreasing C/N0, at most BURST_CH of them. -/
def State.burstChans (s : State) (h : Half) : List Nat :=
  (sortBy (fun i => 65535 - (s.chan i).cn0) (s.assigned h)).take (s.fld (GNSS.STBY_CFG.BURST_CH 0))

/-- BURST_START: a whole second in STANDBY. -/
def execBurstStart (t : Time) (s : State) : Res :=
  let s := s.at t
  match s.inCharge with
  | some h =>
    if s.dev = .standby ∧ s.gnss.burst = false ∧ s.now % secPs < 60 * msPs then
      let s := (s.burstChans h).foldl (fun s i =>
        let c := s.chan i
        s.setChan i { c with st := if 3 ≤ c.missed then .acq else .track }) s
      .next ((s.modGnss (fun g => { g with burst := true })).setFld (GNSS.GNSS_STAT.BURST h.ix) 1)
    else .next s
  | none => .next s

/-- Every assigned channel of a baseband goes to BURST_HOLD. -/
def State.holdChans (s : State) (h : Half) : State :=
  (s.assigned h).foldl (fun s i => s.setChan i { s.chan i with st := .burstHold }) s

/-- BURST_END: 60 ms after the start. -/
def execBurstEnd (t : Time) (s : State) : Res :=
  let s := s.at t
  if s.dev = .standby ∧ s.gnss.burst ∧ 60 * msPs ≤ s.now % secPs then
    let s := s.halves.foldl (fun s h => (s.holdChans h).setFld (GNSS.GNSS_STAT.BURST h.ix) 0) s
    .next (s.modGnss (fun g => { g with burst := false }))
  else .next s

/-- Entry to STANDBY: the channels of the half in charge hold, the other baseband is powered down. -/
def State.gnssStandby (s : State) : State :=
  match s.inCharge with
  | some h =>
    let s := s.holdChans h
    (s.assigned h.other).foldl (fun s i => s.setChan i Chan.reset) s
  | none => s

/-- WAKE: signals tracked in the last burst return through PULL_IN, and the epoch advances at the next instant (R309). -/
def State.gnssWake (s : State) : State :=
  let s := s.modGnss (fun g => { g with
    burst := false, advance := true,
    chans := g.chans.map (fun p =>
      (p.1, if p.2.st = .burstHold then { p.2 with st := if p.2.missed = 0 then .pullIn else .acq } else p.2)) })
  s.eachGnss (fun s n => s.setFld (GNSS.GNSS_STAT.BURST n) 0)

/-! Live views (R319). -/

/-- GNSS_STAT of a half. -/
def State.gnssStat (s : State) (h : Half) : Nat :=
  let x := s.gnss.sol.get h.ix
  let qual := match x with | some x => x.qual.toNat | none => 0
  let nsv := match x with | some x => x.nsv.toNat | none => 0
  let trk := (s.gnss.chans.filter (fun e => decide (e.1 / 64 = h.ix.val ∧ e.2.st = .track))).length
  qual * 268435456 + nsv * 1048576 + trk * 4096 + bitAt 11 s.gnss.rtcmOk + bitAt 10 (decide (s.inCharge = some h)) +
    bitAt 9 (s.flag (GNSS.GNSS_STAT.BURST h.ix)) + bitAt 8 s.gnss.gifOk + bitAt 0 (s.basebandOn h)

end Sys2Proof.Machine
end

