-- ==== Sys2Proof/Machine/Laurel.lean ====
section
/-! DEFINITION. Laurel: roles, heartbeats, the token and its copies, claims, grants, takeover and handover, identification
of a faulty half, known-answer tests and rejoin (R321 to R337, R172, R173). -/
namespace Sys2Proof.Machine

def pgLaurel : Nat := 0x003

/-- CHARGE or SHADOW. -/
def State.serving (s : State) (h : Half) : Bool := decide (s.role h = .charge ∨ s.role h = .shadow)

def State.twoHalves (s : State) : Bool := decide (memberHalves s.member = 2)

/-- A Laurel record of one half's copy: the half, then two values; values that Table 12-7 does not state are free. -/
def State.recLaurel (s : State) (w h : Half) (c : RecCode) : State :=
  let (v, s) := s.freeWord
  let (x, s) := s.freeWord
  s.recordOwn w c pgLaurel (wd h.ix.val) v x

/-! Quarantine (R321, R335). -/

/-- A half goes to QUARANTINED: held in reset; the record names the step and the cause, in the surviving half's copy. Its
signals move at the next measurement instant (R301). -/
def State.quarantine (s : State) (h : Half) (step cause : Nat) : State :=
  let s := s.modHalf h (fun x => { x with
    role := .quarantined, resign := false, handover := false, identStep := 0, resignSeen := false })
  let s := s.setEvt LAUREL.LAUREL_EVT.QUARANTINE
  let s := s.recordOwn h.other Rec.QUARANTINE pgLaurel (wd h.ix.val) (wd step) (wd cause)
  s.modGnss (fun g => { g with advance := true })

/-! Heartbeats (R322, R323). -/

/-- The heartbeat interval, 2,000 ns. -/
def hbPs : Nat := 2000000

/-- The heartbeat word of a half with sequence `k`. -/
def State.hbWord (s : State) (h : Half) (k : Nat) : Word :=
  let top := s.tokenEpoch.toNat * 256 + (k % 16) * 16 + (s.role h).code * 2 + b2n (s.half h).resign
  wd (top * 256 + (crc8 (beBytes 3 top)).toNat)

/-- HEARTBEAT_SEND: at k × 2,000 − 500 ns. A resignation that waits is carried from here on (R332, R335). -/
def execHeartbeatSend (t : Time) (h : Half) (s : State) : Res :=
  let s := s.at t
  if s.up ∧ s.serving h then
    let s := s.modHalf h (fun x => { x with resign := x.resign || x.handover || decide (x.identStep ≠ 0) })
    let w := s.hbWord h ((s.now + 500 * nsPs) / hbPs)
    .next (s.modHalf h (fun x => { x with hbSent := w }))
  else .next s

/-- A word that arrived is heartbeat k: its CRC-8 is correct and its SEQ is k mod 16. -/
def hbGood (k : Nat) (w : Option Word) : Bool :=
  match w with
  | none => false
  | some w => decide ((w.toNat % 256) = (crc8 (beBytes 3 (w.toNat / 256))).toNat) && decide (bf w.toNat 15 12 = k % 16)

/-- The path is in use. -/
def State.hbEn (s : State) (p : Fin 2) : Bool :=
  !s.twoHalves || s.flag (if p = 0 then LAUREL.LAUREL_CFG.HB0_EN else LAUREL.LAUREL_CFG.HB1_EN)

/-- One path at one check: whether every observer has the heartbeat from it, and whether one has it from the other path
only. -/
def State.pathCheck (s : State) (p : Fin 2) (own other : List Bool) : State :=
  if !s.hbEn p then s
  else if (own.zip other).any (fun x => !x.1 && x.2) then
    s.setLaurel (fun l => { l with pathOk := l.pathOk.set p false, pathRun := l.pathRun.set p 0 })
  else if own.all id then
    s.setLaurel (fun l =>
      let n := min 16 (l.pathRun.get p + 1)
      { l with pathRun := l.pathRun.set p n, pathOk := l.pathOk.set p (l.pathOk.get p || decide (16 ≤ n)) })
  else s.setLaurel (fun l => { l with pathRun := l.pathRun.set p 0 })

/-- HEARTBEAT_CHECK: the check instant of a heartbeat of half `h` (R323). A missed heartbeat is counted until the loss is
declared; a received one ends the episode, and with RESIGN it stands for the fourth miss. -/
def execHeartbeatCheck (t : Time) (h : Half) (arr : HbArrivals) (s : State) : Res :=
  let s := s.at t
  if s.up ∧ s.serving h then
    let k := s.now / hbPs
    let e0 := s.hbEn 0
    let e1 := s.hbEn 1
    let l0 := e0 && hbGood k arr.laurel0
    let l1 := e1 && hbGood k arr.laurel1
    let watch := s.twoHalves && s.serving h.other
    let o0 := e0 && hbGood k arr.other0
    let o1 := e1 && hbGood k arr.other1
    let gotL := l0 || l1
    let gotO := o0 || o1
    let resign := fun (a b : Bool) (x y : Option Word) =>
      (a && (x.getD 0).toNat.testBit 8) || (b && (y.getD 0).toNat.testBit 8)
    let rL := resign l0 l1 arr.laurel0 arr.laurel1
    let rO := resign o0 o1 arr.other0 arr.other1
    let s := (s.pathCheck 0 (if watch then [l0, o0] else [l0]) (if watch then [l1, o1] else [l1])).pathCheck 1
      (if watch then [l1, o1] else [l1]) (if watch then [l0, o0] else [l0])
    let x := s.half h
    let s := if !gotL && !x.lostLaurel then
        s.bump (if h = .b then ⟨LAUREL.HB_MISS_CNT, 31, 16⟩ else ⟨LAUREL.HB_MISS_CNT, 15, 0⟩) 1 else s
    let s := s.modHalf h (fun x =>
      if gotL then
        { x with missLaurel := if rL then 4 else 0, lostLaurel := x.lostLaurel && rL, lastHb := k * hbPs,
                 resignSeen := rL || (gotO && rO) }
      else if x.lostLaurel then x else { x with missLaurel := x.missLaurel + 1 })
    if watch then
      .next (s.modHalf h (fun x =>
        if gotO then { x with missOther := if rO then 4 else 0, lostOther := x.lostOther && rO,
                              resignSeen := rO || (gotL && rL) }
        else if x.lostOther then x else { x with missOther := x.missOther + 1 }))
    else .next s
  else .next s

/-- Neither half is in charge from now on: R24 counts 20 µs from here. -/
def State.noCharge (s : State) : State := s.setLaurel (fun l => { l with noChargeAt := some (l.noChargeAt.getD s.now) })

/-- The half that the token names is declared stopped: it is in charge no longer, and R24 counts its 20 µs, or in single-half
operation DR_MS (R3), from here, whatever the roles become before the next grant. -/
def State.declareStop (s : State) : State :=
  (s.setLaurel (fun l => { l with declared := true, singleStopAt := some (l.singleStopAt.getD s.now) })).noCharge

/-- The later of two epochs by R35. -/
def laterEpoch (a b : Epoch) : Epoch := if 0 < epochDiff b a then b else a

/-- A half claims the token with the epoch of R327. -/
def State.makeClaim (s : State) (h : Half) : State :=
  let e := laterEpoch s.tokenEpoch (s.half h).maxEpoch + 1
  s.setLaurel (fun l => { l with claims := l.claims.filter (fun c => decide (c.1 ≠ h)) ++ [(h, e)] })

/-- HEARTBEAT_LOSS: an observer that has missed four heartbeats of `h` in a row, or received its RESIGN, declares the loss:
the Laurel logic ends its charge; the half in charge quarantines its shadow; the shadow of the holder claims (R323, R324,
R327). -/
def execHeartbeatLoss (t : Time) (h : Half) (s : State) : Res :=
  let s := s.at t
  let x := s.half h
  if s.up ∧ s.serving h then
    let dL := decide (4 ≤ x.missLaurel) && !x.lostLaurel
    let dO := decide (4 ≤ x.missOther) && !x.lostOther && s.twoHalves && s.serving h.other
    let holder := s.inCharge
    let named := decide ((if s.twoHalves then s.tokenHolder else Half.a) = h)
    let s : State :=
      if dL then
        let s := s.modHalf h (fun x => { x with lostLaurel := true })
        if named then s.declareStop else s
      else s
    if dO then
      let s := s.modHalf h (fun x => { x with lostOther := true })
      if holder = some h.other ∧ s.role h = .shadow then
        .next (s.quarantine h 0 (if x.resignSeen then (if x.resign then x.resignCause else 2) else 1))
      else if named ∧ s.role h.other = .shadow then .next (s.makeClaim h.other)
      else .next s
    else .next s
  else .next s

/-- SELF_FAULT: RESIGN is set, and the half stops posting and sending (R322). -/
def State.selfFault (s : State) (h : Half) (cause : Nat) : State :=
  s.modHalf h (fun x => { x with resign := true, handover := false, resignCause := cause })

def execSelfFault (t : Time) (h : Half) (s : State) : Res :=
  let s := s.at t
  if s.up ∧ s.serving h then .next (s.selfFault h 2) else .next s

/-! The token (R325 to R328). -/

/-- Write the three copies. -/
def State.writeToken (s : State) (h : Half) (e : Epoch) : State :=
  s.setLaurel (fun l => { l with
    copies := Vector.replicate 3 (TokenCopy.mk' h e), valid := true, voted := (h, e), conflict := none })

/-- With the token invalid, the shadow claims, or the only half in service (R326). -/
def State.claimIf (s : State) (h : Half) : State :=
  if (s.half h).resign = false ∧ (s.role h = .shadow ∨ (s.role h = .charge ∧ s.role h.other ≠ .shadow)) then s.makeClaim h
  else s

/-- TOKEN_COPY_ERROR: the copies hold these values, and the logic votes. A copy excluded or outvoted makes it rewrite all
three; without a result the token is invalid, and the halves claim (R325, R327). -/
def execTokenCopyError (t : Time) (c0 c1 c2 : TokenCopy) (s : State) : Res :=
  let s := s.at t
  if s.up ∧ s.twoHalves then
    let s := s.setLaurel (fun l => { l with copies := Vector.ofFn (fun i : Fin 3 => if i = 0 then c0 else if i = 1 then c1 else c2) })
    match vote s.laurel with
    | some (h, e) =>
      let good := [c0, c1, c2].all (fun c => decide (c = TokenCopy.mk' h e))
      let s := (s.writeToken h e).setLaurel (fun l => if l.declared then l else { l with noChargeAt := none })
      if good then .next s
      else
        let s := (s.bumpReg LAUREL.TOKEN_CE_CNT 1).setEvt LAUREL.LAUREL_EVT.TOKEN_CE
        let r := s.firstInSec (recKey Rec.TOKEN_CE 0)
        if r.1 then .next (r.2.recLaurel r.2.ownHalf r.2.ownHalf Rec.TOKEN_CE) else .next r.2
    | none =>
      if s.laurel.valid then
        let s := (s.setLaurel (fun l => { l with valid := false, invalidAt := s.now })).noCharge
        .next ((s.claimIf .a).claimIf .b)
      else .next s
  else .next s

/-- The token goes to half `h` with epoch `e` at a grant: the roles of Table 12-1, the ports drop what they hold, the shared
outputs go on, the pose word that did not leave the device leaves now, and the assignment epoch will advance (R327, R331).
With `tie` the old holder takes the role SHADOW (R328). -/
def State.grantTo (s : State) (h : Half) (e : Epoch) (tie : Bool) : State :=
  let old := s.tokenHolder
  let x := s.half old
  let invalid := !s.laurel.valid
  let planned := x.handover && x.resignSeen
  let g : Grant :=
    { time := s.now, oldHolder := old, newHolder := h, tH := if invalid then s.laurel.invalidAt else x.lastHb,
      resign := x.resignSeen && !invalid, handover := planned && !invalid, invalid := invalid }
  let s := s.writeToken h e
  let s := s.setLaurel (fun l => { l with declared := false, noChargeAt := none, singleStopAt := none, claims := [], grant := some g })
  let s := s.modHalf h (fun y => { y with role := .charge, maxEpoch := e })
  let s : State :=
    if old = h then s
    else if invalid ∨ planned = true ∨ tie = true then
      s.modHalf old (fun y => { y with role := .shadow, resign := false, handover := false, resignSeen := false })
    else if x.identStep ≠ 0 then s.quarantine old x.identStep 0
    else s.quarantine old 0 (if x.resignSeen then x.resignCause else 1)
  let s := overList s.laneList (fun n s => s.modLane n (fun l => { l with dn := { l.dn with held := [], waiting := [] } })) s
  let s : State :=
    if s.pose.unsent ∧ s.now < s.pose.cur.k * posePs + s.fld POSE.POSE_RING_TMO.ACCEPT_US * usPs ∧ s.poseRing = false then
      s.sendPace 0 s.pose.cur.bytes
    else s
  ((((s.modPose (fun p => { p with unsent := false })).modGnss (fun g => { g with advance := true })).grantCmds).postWaiting).takeStream h |>.norStart

/-- The Laurel logic grants a claim: the claimant's heartbeat is current, and the holder is lost or the token invalid. -/
def State.claimHeard (s : State) (c : Half × Epoch) : Bool :=
  decide ((s.half c.1).missLaurel = 0) && (s.laurel.declared || !s.laurel.valid)

/-- A refused claim. -/
def State.refuseClaim (s : State) (c : Half × Epoch) : State :=
  let s := (s.bumpReg LAUREL.CLAIM_REFUSED_CNT 1).setEvt LAUREL.LAUREL_EVT.CLAIM_REFUSED
  match s.firstInSec (recKey Rec.HB_PATH 0) with
  | (true, s) => (s.setEvt LAUREL.LAUREL_EVT.HB_PATH).recLaurel c.1 c.1 Rec.HB_PATH
  | (false, s) => s

/-- CLAIM: the claims of one SCLK cycle are voted together (R327, R328). -/
def execClaim (t : Time) (s : State) : Res :=
  let s := s.at t
  let cs := s.laurel.claims
  let s := s.setLaurel (fun l => { l with claims := [] })
  if s.laurel.conflict.isSome then .next s
  else
    let good := cs.filter s.claimHeard
    let s := (cs.filter (fun c => !s.claimHeard c)).foldl State.refuseClaim s
    match good.filter (fun c => !s.laurel.valid || decide (0 < epochDiff c.2 s.tokenEpoch)) with
    | [] => .next s
    | [c] => .next (s.grantTo c.1 c.2 false)
    | c :: d :: _ =>
      if c.2 = d.2 then .next (s.setLaurel (fun l => { l with conflict := some (s.now, c.2) }))
      else if 0 < epochDiff c.2 d.2 then .next (s.grantTo c.1 c.2 false)
      else .next (s.grantTo d.1 d.2 false)

/-- CONFLICT_END: 4,000 ns after the vote cycle the token is (A, e) (R328). -/
def execConflictEnd (t : Time) (s : State) : Res :=
  let s := s.at t
  match s.laurel.conflict with
  | some (c, e) =>
    if c + 4 * usPs ≤ s.now then
      let s := s.grantTo .a e true
      let s := s.modHalf .b (fun x => { x with role := .shadow })
      let s := (s.setEvt LAUREL.LAUREL_EVT.TIE).bumpReg LAUREL.TIE_CNT 1
      .next (s.recLaurel .a .a Rec.LAUREL_TIE)
    else .next s
  | none => .next s

/-! Takeover and handover (R330 to R332). -/

/-- The takeover TMARK of a grant: the first multiple of 10,000 ns at or after g + 2,000 ns. -/
def takeoverAt (g : Time) : Time := cdiv (g + 2 * usPs) (10 * usPs) * (10 * usPs)

/-- EPOCH_ADV to every lane that is not FENCED (R172, R326). -/
def State.sendEpochAdv (s : State) : State :=
  overList (s.laneList.filter (fun n => !s.fenced n)) (fun n s =>
    ((s.sendDn n [(ftEpochAdv, wd s.tokenEpoch.toNat)]).2).pumpHalf n) s

/-- Re-post the events of the last decided tick that have no EVT_ACK (R173). -/
def State.repost (s : State) (n : LaneIx) : State :=
  let es := (s.fpe.posted.get n).filter (fun e => decide (e.tick = s.fpe.decTick))
  es.foldl (fun s e => s.offerEvent n e) (s.setPosted n [])

/-- A one-flit command to every lane that is not FENCED, now or, where no half may send, at the next takeover. -/
def State.sendCtrl (s : State) (typ : Nat) : State :=
  if s.maySend then
    overList (s.laneList.filter (fun n => !s.fenced n)) (fun n s => s.sendOne n typ 0) { s with ctrlDue := false }
  else { s with ctrlDue := true }

/-- The command that is due when a half may send again: DRAIN in IDLE, QEND in ARMED. -/
def State.lateCtrl (s : State) : State :=
  if s.ctrlDue then
    (if s.dev = .idle then s.sendCtrl ftDrain
     else if s.dev = .armed then s.sendCtrl ftQend
     else { s with ctrlDue := false })
  else s

/-- TAKEOVER: at t_r, EPOCH_ADV, the travel update of the latest pose instant and the re-posted events; TAKEOVER_LAST and
the record of the takeover or the handover. -/
def execTakeover (t : Time) (s : State) : Res :=
  let s := s.at t
  match s.laurel.grant with
  | some g =>
    if s.laurel.conflict.isNone ∧ takeoverAt g.time ≤ s.now then
      let s := s.setLaurel (fun l => { l with grant := none })
      let s := s.sendEpochAdv
      let s := s.sendTravel
      let s := overList (s.laneList.filter (fun n => !s.fenced n)) (fun n s => s.repost n) s
      let s := s.lateCtrl
      let d := takeoverAt g.time - g.tH
      let s := (s.bumpReg LAUREL.TAKEOVER_CNT 1).setReg LAUREL.TAKEOVER_LAST
        (wd (bitAt 31 g.resign + bitAt 30 (decide (g.newHolder = .b)) + bitAt 29 g.invalid + min 65535 (d / 10000)))
      let s := s.setEvt (if g.handover then LAUREL.LAUREL_EVT.HANDOVER else LAUREL.LAUREL_EVT.TAKEOVER)
      .next (s.recordOwn g.newHolder (if g.handover then Rec.HANDOVER else Rec.LAUREL_TAKEOVER) pgLaurel
        (wd g.oldHolder.ix.val) (wd s.tokenEpoch.toNat) (wd (d / nsPs)))
    else .next s
  | none => .next s

/-- HANDOVER: the holder accepts it when the other half is in SHADOW and no mismatch was counted in the last second. -/
def State.handover (s : State) : State :=
  if !s.twoHalves then s
  else
    match s.inCharge with
    | some h =>
      let quiet : Bool := match s.laurel.lastMismatch with | some m => decide (m + secPs < s.now) | none => true
      if s.role h.other = .shadow ∧ quiet = true then s.modHalf h (fun x => { x with handover := x.handover || !x.resign })
      else s.err pgLaurel 0x840 .handoverRefused
    | none => s.err pgLaurel 0x840 .handoverRefused

def execHandover (t : Time) (s : State) : Res :=
  let s := s.at t
  if s.running then .next s.handover else .next s

/-! Identification (R334, R335). -/

/-- The step of Table 12-2 that decides, and its result: 1 A, 2 B, 3 undetermined; `okA` and `okB` are the outcomes of the
known-answer tests. -/
def State.identify (s : State) (f : Nat) (okA okB : Bool) : Nat × Nat :=
  let bad := fun (h : Half) =>
    (s.half h).resign || (match (s.half h).faultTick with | some k => decide (f ≤ k + 1) | none => false)
  if bad .a ≠ bad .b then (1, if bad .a then 1 else 2)
  else if okA = false ∧ okB = false then (2, 3)
  else if okA = false then (2, 1)
  else if okB = false then (2, 2)
  else (3, 3)

/-- R335: what an identification result does. -/
def State.applyIdent (s : State) (step result : Nat) : State :=
  let holder := s.tokenHolder
  if result = 3 then
    if s.fld LAUREL.LAUREL_CFG.UNDET = 1 then s.quarantine holder.other step 0
    else (s.modHalf .a (fun x => { x with suspect := true })).modHalf .b (fun x => { x with suspect := true })
  else
    let h : Half := if result = 1 then .a else .b
    if h = holder then s.modHalf h (fun x => { x with identStep := step, resignCause := 0 })
    else s.quarantine h step 0

/-- XCHK_IDENTIFY: the known-answer tests run in the four ticks after the disagreement; step 1 needs none. -/
def execXchkIdentify (t : Time) (okA okB : Bool) (s : State) : Res :=
  let s := s.at t
  match s.laurel.ident with
  | some f =>
    if s.up ∧ s.bothInService then
      let (step, result) := s.identify f okA okB
      if step = 1 ∨ tickStart s.laurel.identAt + 4 * tickPs + 250 * usPs ≤ s.now then
        let s := s.setLaurel (fun l => { l with ident := none })
        let s := s.setReg LAUREL.XCHK_STAT (wd (result * 1073741824 + step * 268435456 + f % 65536))
        .next (s.applyIdent step result)
      else .next s
    else .next s
  | none => .next s

/-- SUSPECT_CLEAR: 60 s without a mismatch. -/
def execSuspectClear (t : Time) (s : State) : Res :=
  let s := s.at t
  let quiet : Bool := match s.laurel.lastMismatch with | some m => decide (m + 60 * secPs ≤ s.now) | none => true
  if s.up ∧ quiet then
    .next ((s.modHalf .a (fun x => { x with suspect := false })).modHalf .b (fun x => { x with suspect := false }))
  else .next s

/-! Known-answer tests (R336). -/

/-- A half fails the KAT: KAT_FAIL and its record. -/
def State.katFail (s : State) (h : Half) : State :=
  ((s.modHalf h (fun x => { x with katFail := true })).setEvt LAUREL.LAUREL_EVT.KAT_FAIL).recLaurel h h Rec.KAT_FAIL

/-- The KAT in every half in CHARGE or SHADOW. With both in service, one failing half is treated as identified faulty, and
two as undetermined by step 2. -/
def State.kat (s : State) (okA okB : Bool) : State :=
  let both := s.bothInService
  let fa := s.serving .a && !okA
  let fb := s.serving .b && !okB
  let s := if fa then s.katFail .a else s
  let s := if fb then s.katFail .b else s
  let s := s.setLaurel (fun l => { l with katAt := s.now })
  if !both then s
  else if fa && fb then s.applyIdent 2 3
  else if fa || fb then
    let h : Half := if fa then .a else .b
    if h = s.tokenHolder then s.selfFault h 3 else s.quarantine h 0 3
  else s

def execKatNow (t : Time) (okA okB : Bool) (s : State) : Res :=
  let s := s.at t
  if s.running then .next (s.kat okA okB) else .next s

/-- KAT_PERIODIC: every KAT_S seconds, never with KAT_S = 0. -/
def execKatPeriodic (t : Time) (okA okB : Bool) (s : State) : Res :=
  let s := s.at t
  let k := s.fld LAUREL.KAT_CFG.KAT_S
  if s.up ∧ k ≠ 0 ∧ s.laurel.katAt + k * secPs ≤ s.now then .next (s.kat okA okB) else .next s

/-! Rejoin (R337). -/

/-- REJOIN: a half in QUARANTINED is reset and boots while the other is in CHARGE; any other write is refused. -/
def State.rejoin (s : State) (h : Half) : State :=
  if !s.twoHalves then s
  else if s.role h = .quarantined ∧ s.role h.other = .charge then
    let s := s.modHalf h (fun x => { HalfState.reset with role := .rejoin, maxEpoch := x.maxEpoch })
    let s := (s.setLaurel (fun l => { l with copied := 0 })).modCopy h (fun _ => YewCopy.reset)
    s.setReg (hdr pgLaurel HDR.PG_PROG_PCT) 0
  else s.err pgLaurel 0x840 .rejoinRefused

def execRejoin (t : Time) (h : Half) (s : State) : Res :=
  let s := s.at t
  if s.running then .next (s.rejoin h) else .next s

/-- The map words a rejoining half copies (R337): 786,432. -/
def mapWords : Nat := 786432

/-- Every map word of half `h` becomes the other half's. -/
def copyPlanes (h : Half) (x : Slot) : Slot :=
  { x with cov := x.cov.set h.ix (x.cov.get h.other.ix), prx := x.prx.set h.ix (x.prx.get h.other.ix) }

/-- REJOIN_DONE: the half enters SHADOW with the holder's state and map, or returns to QUARANTINED. -/
def execRejoinDone (t : Time) (h : Half) (ok : Bool) (s : State) : Res :=
  let s := s.at t
  if s.up ∧ s.role h = .rejoin then
    if ok then
      let s := s.modHalf h (fun x => { x with role := .shadow })
      let s := s.modMap (fun m => { m with slots := m.slots.map (fun p => (p.1, copyPlanes h p.2)) })
      let s := s.setLaurel (fun l => { l with copied := mapWords, decRun := 0, poseRun := 0, slotRun := 0 })
      let s := s.setReg (hdr pgLaurel HDR.PG_PROG_PCT) 10000
      .next ((s.setEvt LAUREL.LAUREL_EVT.REJOINED).recLaurel h h Rec.REJOINED)
    else .next (s.quarantine h 0 3)
  else .next s

/-! Boot (R326, Table 12-1). -/

/-- The token at the end of BOOT, and the roles of the halves that passed: the holder is Half A if it passes, and Half B otherwise. -/
def State.bootRoles (s : State) (okA okB : Bool) : State :=
  if !s.twoHalves then (s.writeToken .a 1).modHalf .a (fun x => { x with role := .charge })
  else
    let hold : Half := if okA then .a else .b
    let s := s.writeToken hold 1
    let s := if okA || okB then s.modHalf hold (fun x => { x with role := .charge, maxEpoch := 1 }) else s
    if okA && okB then s.modHalf .b (fun x => { x with role := .shadow }) else s

/-! Views of the page (R342). -/

/-- TOKEN. -/
def State.tokenReg (s : State) : Nat :=
  bitAt 31 (decide (s.tokenHolder = .b)) + bitAt 30 s.laurel.valid + bitAt 29 s.laurel.conflict.isSome + s.tokenEpoch.toNat

/-- HALF_STAT. -/
def State.halfStat (s : State) : Nat :=
  let a := s.half .a
  let b := s.half .b
  (s.role .b).code * 1048576 + (s.role .a).code * 65536 + bitAt 9 b.suspect + bitAt 8 a.suspect +
    bitAt 5 (s.twoHalves && s.laurel.pathOk.get 1) + bitAt 4 (s.twoHalves && s.laurel.pathOk.get 0) + bitAt 3 s.single +
    bitAt 1 b.katFail + bitAt 0 a.katFail

end Sys2Proof.Machine
end

