-- ==== Sys2Proof/Machine/TimePulse.lean ====
section
/-! DEFINITION. The time model, its validity and the time pulses, and the delivery of a solution (R303, R304, R310 to R317). -/
namespace Sys2Proof.Machine

def pgTpls : Nat := 0x012

def State.modTime (s : State) (f : TimeState → TimeState) : State := { s with time := f s.time }

/-- A record of the time pulse, in each half's own number. -/
def State.recTime (s : State) (c : RecCode) (v : Word) : State := s.recEach c (fun _ => pgTpls) v

/-! The model (R310). -/

/-- Ring time, ps, of a span of GNSS time in ps: the model runs at 1 + freq × 10⁻¹¹ of ring time. -/
def ringSpan (m : TimeSol) (gnss : Int) : Int := fdiv (gnss * 100000000000) (100000000000 + m.freq.toInt)

/-- M_S, ps, for the second numbered `sec` in GPS time. -/
def secondAt (m : TimeSol) (sec : Int) : Int :=
  (m.at_.toNat : Int) + ringSpan m ((sec - (m.sec.toNat : Int)) * 1000000000000)

/-- − CABLE_NS + USER_NS, ps. -/
def State.pulseOfs (s : State) : Int := (s.sfld TPLS.TP_DLY.USER_NS - s.sfld TPLS.TP_DLY.CABLE_NS) * 1000

/-- I_S with the present A. -/
def State.idealAt (s : State) (m : TimeSol) (sec : Int) : Int := secondAt m sec + s.pulseOfs + s.time.a

/-- The first second whose ideal instant is not before `lo`, ps. -/
def State.secondFrom (s : State) (m : TimeSol) (lo : Int) : Int :=
  let k := (m.sec.toNat : Int) + fdiv (lo - s.pulseOfs - s.time.a - (m.at_.toNat : Int)) 1000000000000
  let ok := fun (x : Int) => decide (lo ≤ s.idealAt m x)
  if ok (k - 1) then k - 1 else if ok k then k else if ok (k + 1) then k + 1 else k + 2

/-- The next unprepared second. -/
def State.nextSecond (s : State) (m : TimeSol) : Int :=
  match s.time.lastSec with
  | some q => (q : Int) + 1
  | none => s.secondFrom m ((s.now : Int) + 200000000000)

/-- The measurement interval in ps (R308). -/
def State.measPs (s : State) : Nat := if s.dev = .standby then 1000 * msPs else s.fld (GNSS.MEAS_CFG.MEAS_MS 0) * msPs

/-! Validity (R313). -/

/-- h, ms. -/
def State.holdMs (s : State) : Nat := (s.now - s.time.holdAt) / msPs

/-- T_ACC, ns. -/
def State.tAcc (s : State) : Nat :=
  min 4294967295 (match s.time.val, s.time.model with
    | .none, _ => 4294967295
    | .locked, some m => m.acc.toNat + s.time.a.natAbs / 1000
    | .locked, none => 4294967295
    | _, _ => s.time.tAcc0 + s.fld TPLS.TP_HOLD.GROW_NS_S * s.holdMs / 1000)

/-- A time solution (R310). -/
def State.isTimeSol (s : State) (x : Solution) (m : TimeSol) : Bool :=
  decide (2 ≤ x.qual.toNat) && decide (m.acc.toNat ≤ s.fld TPLS.TP_LIMIT.ACC_MAX) &&
    (!s.flag TPLS.TP_CFG.SCALE || m.leapValid)

/-- The model takes a time solution (Table 11-6, R315). -/
def State.timeSolution (s : State) (m : TimeSol) : State :=
  let fresh := decide (s.time.val = .none) || (decide (s.time.val = .expired) && s.time.stopped)
  let was := s.time.val
  let s : State :=
    match s.time.model with
    | some old =>
      if fresh then s.modTime (fun x => { x with a := 0, stopped := false, lastSec := none, lastEdge := none, outEdge := none })
      else
        let k := s.nextSecond old
        let d := secondAt m k - secondAt old k
        s.modTime (fun x => { x with a := x.a - d })
    | none => s.modTime (fun x => { x with a := 0, stopped := false, lastSec := none, lastEdge := none, outEdge := none })
  let s := s.modTime (fun x => { x with val := .locked, model := some m, solAt := s.now })
  if was = .locked then s else (s.setEvt TPLS.TP_EVT.LOCKED).recTime Rec.TIME_LOCKED (wd s.tAcc)

/-- TIME_HOLDOVER: no time solution for max(1,000 ms, 2 × measurement interval). -/
def execTimeHoldover (t : Time) (s : State) : Res :=
  let s := s.at t
  if s.up ∧ s.time.val = .locked ∧ s.time.solAt + max (1000 * msPs) (2 * s.measPs) ≤ s.now then
    let a := s.tAcc
    let s := s.modTime (fun x => { x with val := .holdover, tAcc0 := a, holdAt := s.now })
    .next ((s.setEvt TPLS.TP_EVT.HOLDOVER).recTime Rec.TIME_HOLDOVER (wd a))
  else .next s

/-- TIME_EXPIRED: the holdover reaches HOLD_S; under STOP_EXP the pulses stop. -/
def execTimeExpired (t : Time) (s : State) : Res :=
  let s := s.at t
  let h := s.fld TPLS.TP_HOLD.HOLD_S
  if s.up ∧ s.time.val = .holdover ∧ h ≠ 0 ∧ 1000 * h ≤ s.holdMs then
    let stop := s.flag TPLS.TP_CFG.STOP_EXP
    let s := s.modTime (fun x => { x with val := .expired })
    let s := if stop then s.modTime (fun x => { x with
        stopped := true, next := none, lastSec := none, lastEdge := none, outEdge := none, lastSecIdeal := none, subLast := none }) else s
    .next ((s.setEvt TPLS.TP_EVT.EXPIRED).recTime Rec.TIME_EXPIRED (wd s.tAcc))
  else .next s

/-! Pulses (R310 to R312, R314 to R317). -/

/-- The TCLK cycle nearest an instant, in ps, a tie to the earlier. -/
def nearestCycle (i : Int) : Int := fdiv (i + 1249) 2500 * 2500

/-- The slew or step of R315; answers the second to prepare. -/
def State.slewOrStep (s : State) (m : TimeSol) (sec : Int) : Int × State :=
  let a := s.time.a
  if 10000000 ≤ a.natAbs then
    let v := satS 32 (fdiv (-a) 1000)
    let s := s.modTime (fun x => { x with a := 0, slewing := false })
    let s := (s.setEvt TPLS.TP_EVT.TIME_STEP).setReg TPLS.TP_STEP_LAST (wdI v)
    let s := s.recTime Rec.TIME_STEP (wdI v)
    match s.time.lastEdge with
    | some e => (s.secondFrom m ((e : Int) + 500000000000), s)
    | none => (sec, s)
  else
    let d : Int := min a.natAbs (s.fld TPLS.TP_LIMIT.SLEW_NS_S * 1000)
    let b := if 0 ≤ a then a - d else a + d
    (sec, s.modTime (fun x => { x with a := b, slewing := decide (b ≠ 0) }))

/-- TP_NEXT: the label of a GPS second in the selected scale. -/
def State.label (s : State) (m : TimeSol) (sec : Int) : Word :=
  let l := (if s.flag TPLS.TP_CFG.SCALE then sec - (m.leap.toNat : Int) else sec).toNat
  wd (l / 604800 % 4096 * 1048576 + l % 604800)

/-- The preparation of a second from the model (R311). -/
def State.prepareSecond (s : State) (m : TimeSol) (sec : Int) : State :=
  let (sec, s) := s.slewOrStep m sec
  let i := s.idealAt m sec
  let e := nearestCycle i
  let s := s.modTime (fun x => { x with
    next := some { sec := sec.toNat, edge := e.toNat, ideal := i.toNat }, lastSec := some sec.toNat,
    nextRt := e.toNat / nsPs })
  let s := (s.setReg TPLS.TP_QERR (wdI (i - e))).setReg TPLS.TP_NEXT (s.label m sec)
  s.setEvt TPLS.TP_EVT.NEXT_READY

/-- Pulses are prepared from the model: the page and TP_CFG enable them, and they have not stopped. -/
def State.pulsesOn (s : State) : Bool :=
  s.up && s.flag TPLS.TP_CFG.EN && s.en pgTpls && !s.time.stopped && decide (s.time.val ≠ .none)

/-- PULSE_PREPARE: I_S − 200 ms of the next second. -/
def execPulsePrepare (t : Time) (s : State) : Res :=
  let s := s.at t
  match s.time.model with
  | none => .next s
  | some m =>
    let sec := s.nextSecond m
    if s.pulsesOn ∧ s.idealAt m sec ≤ (s.now : Int) + 200000000000 then .next (s.prepareSecond m sec) else .next s

/-! Solutions (R303, R304). -/

/-- A solution record (Table 11-5). -/
def solRecord (x : Solution) : List Byte :=
  [3, BitVec.ofNat 8 x.qual.toNat, x.nsv, 0] ++ leBytes 2 x.corrAge.toNat ++ leBytes 2 x.hAcc.toNat ++
    leBytes 8 x.time.toNat ++ leBytes 4 x.e.toNat ++ leBytes 4 x.n.toNat ++ leBytes 4 x.u.toNat ++
    leBytes 2 x.vAcc.toNat ++ leBytes 2 x.refStn.toNat

/-- A half's solution is kept; one of QUAL 2 or more ends a loss (R303, R48). -/
def State.solTaken (s : State) (h : Half) (sol : Solution) : State :=
  let q := sol.qual.toNat
  let s := s.modGnss (fun g => { g with sol := g.sol.set h.ix (some sol) })
  if 2 ≤ q then
    let back := s.gnss.lost.get h.ix
    let s := s.modGnss (fun g => { g with solAt := g.solAt.set h.ix s.now, lost := g.lost.set h.ix false })
    if back then
      let s := s.setEvt (GNSS.GNSS_EVT.SOL_BACK h.ix)
      (s.faultFor Rec.GNSS_BACK (pgGnss h)).recHalf h Rec.GNSS_BACK (pgGnss h) (wd h.ix) (wd q) 0
    else s
  else s

/-- A preparation that falls in this very SCLK cycle comes before a time solution delivered in it (R317). -/
def State.prepareFirst (s : State) : State :=
  match s.time.model with
  | none => s
  | some m =>
    let sec := s.nextSecond m
    let due := s.idealAt m sec - 200000000000
    if s.pulsesOn ∧ (sclkOf s.now : Int) * 2500 ≤ due ∧ due < ((sclkOf s.now : Int) + 1) * 2500 then s.prepareSecond m sec
    else s

/-- The solution goes to the pose propagator, to Q13 under SOL_OUT, and to the time model (R303, R307, R310). -/
def State.solUsed (s : State) (h : Half) (sol : Solution) (ts : Option TimeSol) : State :=
  let now := s.now
  let s := s.modPose (fun p => { p with sols := p.sols ++ [(now, sol)] })
  let s := if s.flag (GNSS.MEAS_CFG.SOL_OUT 0) ∧ s.inCharge = some h then s.postGnss h (solRecord sol) else s
  match ts with
  | some m => if s.isTimeSol sol m then s.prepareFirst.timeSolution m else s
  | none => s

/-- GNSS_SOLUTION: half `h` delivers the solution of a measurement instant, with the time fields where it has them. -/
def execGnssSolution (t : Time) (h : Half) (sol : Solution) (ts : Option TimeSol) (s : State) : Res :=
  let s := s.at t
  if s.basebandOn h ∧ sol.time.toNat * nsPs ≤ s.now then
    let s := s.solTaken h sol
    if h = s.solver then .next (s.solUsed h sol ts) else .next s
  else .next s

/-- TPULSE: the prepared edge. The balls run while a half drives them and PFAIL_N has not frozen them; an edge that falls
outside that is not issued, and the train goes on from it (R18, R30). -/
def execTpulse (t : Time) (s : State) : Res :=
  let s := s.at t
  match s.time.next with
  | none => .next s
  | some p =>
    if s.up ∧ p.edge ≤ s.now then
      let s := s.modTime (fun x => { x with next := none, lastEdge := some p.edge, lastSecIdeal := some p.ideal, subN := 0 })
      if s.ballsRun then
        .next (((s.modTime (fun x => { x with outEdge := some p.edge })).count TPLS.TP_CNT 1).setEvt TPLS.TP_EVT.PULSE)
      else .next s
    else .next s

/-- TPULSE_B: the next sub-pulse of the present second; one closer than PB_MS / 2 to the previous is omitted (R312). -/
def execTpulseB (t : Time) (s : State) : Res :=
  let s := s.at t
  let pb := s.fld TPLS.TPB_CFG.PB_MS
  match s.time.lastSecIdeal, s.time.model with
  | some i0, some m =>
    let i := s.time.subN
    let e := (nearestCycle ((i0 : Int) + ringSpan m ((i * pb * msPs : Nat) : Int))).toNat
    if s.up ∧ s.fld TPLS.TPB_CFG.MODE = 1 ∧ s.time.stopped = false ∧ i * pb < 1000 ∧ e ≤ s.now then
      let near := !s.ballsRun || (match s.time.subLast with
        | some l => decide (2 * e < 2 * l + pb * msPs)
        | none => false)
      .next (s.modTime (fun x => { x with subN := x.subN + 1, subLast := if near then x.subLast else some e }))
    else .next s
  | _, _ => .next s

/-- The level of the TPULSE ball: WIDTH_US of active level from each edge, inactive otherwise (R310). -/
def State.tpulseLevel (s : State) : Bool :=
  let act := match s.time.outEdge with
    | some e => decide (s.now < e + s.fld TPLS.TP_CFG.WIDTH_US * usPs)
    | none => false
  Bool.xor act (s.flag TPLS.TP_CFG.POL)

/-- The level of the TPULSE_B ball (R312). -/
def State.tpulseBLevel (s : State) : Bool :=
  let mode := s.fld TPLS.TPB_CFG.MODE
  if mode = 0 then false
  else
    let act :=
      if mode = 1 then
        match s.time.subLast with
        | some e => !s.time.stopped && decide (s.now < e + s.fld TPLS.TPB_CFG.WIDTH_US * usPs)
        | none => false
      else decide (mode = 2) && decide (s.time.val = .locked)
    Bool.xor act (s.flag TPLS.TPB_CFG.POL)

/-! Live views (R320). -/

def State.tpStat (s : State) : Nat :=
  let (lv, lp) : Bool × Nat := match s.time.model with
    | some m => (m.leapValid, m.leap.toNat)
    | none => (false, 0)
  s.time.val.code * 536870912 + bitAt 28 s.time.slewing + bitAt 27 s.time.stopped + bitAt 26 lv + lp

def State.tpFreq (s : State) : Word := match s.time.model with
  | some m => m.freq
  | none => 0

def State.holdAge (s : State) : Nat :=
  if s.time.val = .holdover ∨ s.time.val = .expired then s.holdMs / 1000 else 0

/-- The time pulse page drains: a pulse that has been prepared is the last. -/
def State.tplsIdle (s : State) : Bool :=
  decide (s.time.next = none) && (match s.time.lastEdge with
    | some e => decide (e + s.fld TPLS.TP_CFG.WIDTH_US * usPs ≤ s.now)
    | none => true)

end Sys2Proof.Machine
end

