-- ==== Sys2Proof/Machine/View.lean ====
section
/-! DEFINITION. What a read of each register returns: the stored word, or the live value where the register reports a block
(R448 to R456, R380, R406 to R408 and the page tables of every chapter). -/
namespace Sys2Proof.Machine

/-- The value of an RW index field. -/
def State.idxOf (s : State) (a n : Nat) : Nat := (s.reg a).toNat % n

/-! The header (R448 to R456). -/

/-- The pages on which EN and DRAIN act (R450). -/
def PageKind.drains : PageKind → Bool
  | .hostq | .rtx | .map | .lane | .pwmg | .loop | .fbk => true
  | _ => false

/-- The page belongs to a FENCED lane. -/
def State.pageFenced (s : State) (k : PageKind) (i : Nat) : Bool := k.isLane && s.fenced (Fin.ofNat 16 i)

/-- PG_STAT.STATE: 0 DISABLED, 1 ACTIVE, 2 DRAINING, 3 FENCED (R450, R453). -/
def State.pgState (s : State) (p : Nat) (k : PageKind) (i : Nat) : Nat :=
  if s.pageFenced k i then 3
  else if k.drains = false ∨ s.en p then 1
  else if s.drainedBit p then 0 else 2

def State.pgPend (s : State) (p : Nat) : Word := s.reg (hdr p HDR.PG_IRQ_RAW) &&& s.reg (hdr p HDR.PG_IRQ_MASK)

/-- The free value `n` places ahead: what a converter or a counter outside the model's commands measures. -/
def State.peekFree (s : State) (n : Nat) : Word := (Config.freeValue (s.freeIdx + n)).setWidth 32

/-- A seal's check or a rejoin is under way: how far it has come is not stated (R337, R437). -/
def State.progOpen (s : State) (k : PageKind) : Bool :=
  match k with
  | .sys => s.checking
  | .laurel => decide (s.role .a = .rejoin ∨ s.role .b = .rejoin)
  | _ => false

/-- PG_EPOCH (R456). -/
def State.pgEpoch (s : State) (p : Nat) (k : PageKind) : Word :=
  match k with
  | .laurel => if s.up then s.tokenEpoch.setWidth 32 else 0
  | .map | .lane | .gnss | .rtx => s.reg (hdr p HDR.PG_EPOCH)
  | _ => 0

def State.viewHdr (s : State) (p : Nat) (k : PageKind) (i o : Nat) : Word :=
  if o = HDR.PG_ID then wd (pageBase k * 65536 + i * 256 + 1)
  else if o = HDR.PG_STAT then wd (s.pgState p k i * 16 + (s.reg (hdr p HDR.PG_STAT)).toNat % 4)
  else if o = HDR.PG_IRQ_PEND then s.pgPend p
  else if o = HDR.PG_EPOCH then s.pgEpoch p k
  else if o = HDR.PG_PROG_PCT ∧ s.progOpen k then wd ((s.peekFree 0).toNat % 10001)
  else s.reg (hdr p o)

/-! The spine's pages. -/

/-- A mask with one bit for each lane. -/
def State.laneMask (s : State) (f : LaneIx → Bool) : Nat := (s.laneList.map (fun n => bitAt n.val (f n))).sum

/-- SYS.STATE (Table 1-7). -/
def State.stateReg (s : State) : Nat :=
  s.laneMask s.fenced * 65536 + bitAt 15 s.pfail + bitAt 14 s.patchOk + s.prev.code * 256 + s.dev.code

/-- PWR_STAT (Table 17-8). -/
def State.pwrStat (s : State) : Nat :=
  let m := ((List.finRange 6).map (fun i => bitAt i.val (s.inRange.get i))).sum
  bitAt 18 s.pfail + bf (s.reg PWR.PWR_STAT).toNat 17 16 * 65536 + (63 - m) * 256 + m


/-- IRQ_SUM0 to IRQ_SUM3 (R380). -/
def State.irqSum (s : State) (i : Nat) : Nat :=
  let pend := fun (p : Nat) => decide (s.pgPend p ≠ 0)
  let lanes := fun (base : Nat) => (List.range (memberLanes s.member)).map (fun n => bitAt n (pend (base + n)))
  if i = 0 then ((List.range 32).map (fun p => bitAt p ((pageOf s.member p).isSome && pend p))).sum
  else
    let lo := if i = 1 then 0x100 else if i = 2 then 0x120 else 0x140
    (lanes lo).sum + 65536 * (lanes (lo + 16)).sum

/-- Any bit of the summary is set. -/
def State.irqAny (s : State) : Bool := (List.range 4).any (fun i => decide (s.irqSum i ≠ 0))

/-- Qq_CRED. -/
def State.qCred (s : State) (q : Nat) : Nat :=
  let u := s.q q
  if qH2D q then (s.bufBlk q - u.blocks) * 65536 + (256 - u.desc) else u.blocks * 65536 + u.desc

/-- Qq_SEQ. -/
def State.qSeq (s : State) (q : Nat) : Nat :=
  let u := s.q q
  (match u.items with | x :: _ => x.seq.toNat * 65536 | [] => 0) + u.seq.toNat

def State.qIdx (s : State) : Nat := s.idxOf HOSTQ.Q_IDX 32

/-- The counters of a queue as Q_DROP gives them. -/
def Queue.drops (u : Queue) : Nat := min 65535 u.seqErr * 65536 + min 65535 u.flushed

def State.viewHostq (s : State) (o : Nat) : Option Word :=
  if o = 0x808 then some (wd (bitAt 16 (decide (s.pgState 4 .hostq 0 = 2)) + s.cmpl.length))
  else if o = 0x820 then some (s.reg HOSTQ.QIRQ_RAW &&& s.reg HOSTQ.QIRQ_MASK)
  else if 0x830 ≤ o ∧ o < 0x840 then some (wd (s.irqSum ((o - 0x830) / 4)))
  else if 0x880 ≤ o ∧ o < 0x900 then some (wd (s.qCred ((o - 0x880) / 4)))
  else if 0x900 ≤ o ∧ o < 0x980 then some (wd (s.qSeq ((o - 0x900) / 4)))
  else if o = 0xC04 then some (wd (s.q s.qIdx).passed)
  else none

def State.viewMbox (s : State) (o : Nat) : Option Word :=
  if 0x810 ≤ o ∧ o < 0x890 then
    let m := s.mb ((o - 0x810) / 16)
    if (o - 0x810) % 16 = 4 then some (nth 0 m.rx 0)
    else if (o - 0x810) % 16 = 12 then some (wd m.stat)
    else none
  else none

/-- The record slot that REC_SEL selects. -/
def State.recSel (s : State) : Option YewRec :=
  let h : Half := if (s.reg YEW.REC_SEL).toNat.testBit 16 then .b else .a
  Sparse.get noRec (s.copy h).slots (s.idxOf YEW.REC_SEL 2048)

/-- Word `i` of the selected record; 0 for an empty slot. -/
def State.recWord (s : State) (i : Nat) : Word :=
  match s.recSel with
  | some r => wd (leAt r.bytes (4 * i) 4)
  | none => 0

/-- The copy that the counters without a half field report (R427). -/
def State.yewMain (s : State) : YewCopy := s.copy (s.inCharge.getD .a)

def State.viewYew (s : State) (o : Nat) : Option Word :=
  let a := s.copy .a
  let b := s.copy .b
  let c := s.idxOf YEW.CODE_IDX 1024
  if o = 0x800 then some (wd s.yewStat)
  else if o = 0x808 then some (wd a.seq)
  else if o = 0x80C then some (wd b.seq)
  else if o = 0x810 then some (wd (b.drop * 65536 + a.drop))
  else if o = 0x814 then some (wd (b.ovw * 65536 + a.ovw))
  else if o = 0x818 then some (wd s.yewMain.suppCnt)
  else if o = 0x820 then some (wd (s.yewPort.flushRt / nsPs))
  else if o = 0x828 then some (wd (s.nextPos false))
  else if o = 0x82C then some (wd (s.nextPos true))
  else if o = 0xC04 then some (wd (s.codeCfg c))
  else if o = 0xC08 then some (wd (Sparse.get zero s.yewMain.supp c * 65536 + Sparse.get zero s.yewMain.admitted c))
  else if o = 0xC14 then some (s.recWord 0)
  else none

def State.viewNor (s : State) (o : Nat) : Option Word :=
  let d := s.nor.dir
  if o = 0x800 then some (wd s.norStat)
  else if o = 0x808 then some (wd s.nor.jedec)
  else if o = 0x80C then some (wd ((d.map (·.gen)).getD 0))
  else if o = 0x810 then some (wd ((d.map (·.slots)).getD 0))
  else if o = 0x814 then some (wd s.nor.patchVer)
  else if o = 0x81C then some (wd s.nor.patchMin)
  else if o = 0x820 then some (wd s.nor.keyStat.toNat)
  else none

def ringOf (i : Nat) : Ring := if i = 0 then .a else .b

/-- LOAD: use of the receive link in the last whole millisecond, 0.01 %; 250,000 characters fill one. -/
def State.ringLoad (s : State) (p : Ring) : Nat :=
  let x := s.port p
  let ms := s.now / msPs
  (if x.loadMs = ms then x.loadPrev else if x.loadMs + 1 = ms then x.loadCur else 0) / 25

def State.presMap (s : State) : Nat :=
  let i := s.idxOf (RTX.PRES_IDX 0) 32
  ((List.range 32).map (fun k => bitAt k (s.ring.present.any (fun e => decide (e.1 = 32 * i + k))))).sum

def State.viewRtx (s : State) (p : Ring) (o : Nat) : Option Word :=
  let x := s.port p
  if o = 0x800 then
    some (wd (x.link.code * 1073741824 + bitAt 28 x.wrapped + bitAt 27 x.rfault + bitAt 26 (s.bypHold p) +
      bitAt 25 s.ring.root + bitAt 24 s.ring.assigned + s.ring.nodeId.toNat))
  else if o = 0x808 then some (wd (s.ring.topoGen.toNat * 65536 + s.ring.nNodes))
  else if o = 0x830 then some (wd (s.ringLoad p))
  else if o = 0xC04 then some (wd s.presMap)
  else none

def State.viewRtime (s : State) (o : Nat) : Option Word :=
  let x := s.rtime
  if o = 0x800 then
    some (wd (bitAt 31 s.rtLock + bitAt 30 x.hold + bitAt 29 x.far + bitAt 28 x.srcB + (if s.ring.root then 0 else x.h)))
  else if o = 0x808 then some (wd s.ns)
  else if o = 0x810 then some (wdI (satS 32 x.lastErr))
  else if o = 0x814 then some (wd (s.hopDelay .a))
  else if o = 0x818 then some (wd (s.hopDelay .b))
  else if o = 0x820 then some (wdI (satS 32 x.stepLast))
  else none

def State.viewRtun (s : State) (o : Nat) : Option Word :=
  let x := s.rtun
  if o = 0x800 then some (wd (bitAt 31 x.busy + bitAt 30 x.done + x.status * 16777216 + x.words)) else none

def halfIx (i : Nat) : Half := if i = 0 then .a else .b

/-- The channel that CH_IDX selects. -/
def State.chSel (s : State) (h : Half) : Chan := s.chan (poolIx h (s.idxOf (GNSS.CH_IDX h.ix) 64))

def State.viewGnss (s : State) (h : Half) (o : Nat) : Option Word :=
  if o = 0x800 then some (wd (s.gnssStat h))
  else if o = 0x810 then some (match s.gnss.sol.get h.ix with | some x => x.time.setWidth 32 | none => 0)
  else if o = 0xC04 then
    let c := s.chSel h
    some (wd (c.epoch.toNat * 65536 + c.st.code * 8192 + c.sig % 16 * 256 + c.sv % 256))
  else none

def State.viewTpls (s : State) (o : Nat) : Option Word :=
  if o = 0x800 then some (wd s.tpStat)
  else if o = 0x808 then some (wd s.tAcc)
  else if o = 0x814 then some (wd s.time.nextRt)
  else if o = 0x81C then some s.tpFreq
  else if o = 0x820 then some (wdI (satS 32 (fdiv s.time.a 1000)))
  else if o = 0x82C then some (wd s.holdAge)
  else none

/-- A mask word of 32 outlets. -/
def State.outMask (s : State) (i : Nat) (f : OutFpe → Bool) : Nat :=
  ((List.range 32).map (fun k => bitAt k (f (s.fo (32 * i + k))))).sum

def State.viewFpe (s : State) (o : Nat) : Option Word :=
  if 0x830 ≤ o ∧ o < 0x840 then some (wd (s.outMask ((o - 0x830) / 4) (·.cmd)))
  else if 0x840 ≤ o ∧ o < 0x850 then some (wd (s.outMask ((o - 0x840) / 4) (·.conf)))
  else if o = 0xC04 then some (wd (s.fo (s.idxOf FPE.OUT_IDX 128)).lead)
  else none

/-- The slot that SLOT_IDX selects. -/
def State.slotSel (s : State) : Slot := s.slot (s.idxOf MAP.SLOT_IDX 2048)

def State.viewMap (s : State) (o : Nat) : Option Word :=
  if o = 0x808 then some s.mapOcc
  else if o = 0x80C then some s.mapOcc2
  else if o = 0xC04 then some (slotStatWord s.slotSel)
  else if o = 0xC14 then some s.cellData
  else none

/-- The travel of the outlet that GEOM_TRV_IDX selects. -/
def State.trvSel (s : State) : OutTrav := s.trav.outs.get (gIx (s.idxOf GEOM.GEOM_TRV_IDX 128))

/-- A rate-table entry as TBL_WIN returns it (R142). -/
def State.tblWin (s : State) (x : Nat) : Word :=
  let act := s.flag RATE.TBL_SEL.READ_ACTIVE
  wd (s.tableAt (s.fld RATE.TBL_SEL.PROD) (if act then s.fpe.bank else 1 - s.fpe.bank) x)

def State.viewSched (s : State) (o : Nat) : Option Word :=
  if o = 0x800 then some (wd (s.laneMask (fun n => (s.lane n).lost) * 65536 + s.laneMask (fun n => (s.lane n).drExpired)))
  else if o = 0x808 then some (wd (s.laneMask (fun n => !(s.fpe.hold.get n).isEmpty)))
  else none

/-! The pages of a lane. -/

/-- The queue entry at the latest re-aim that SQ_IDX selects. -/
def State.sqSel (s : State) (n : LaneIx) : Option QEntry :=
  Sparse.get noEntry (s.lane n).qSnap (s.idxOf (LANE.SQ_IDX n) 64)

/-- The travel at the latest re-aim that LTRV_IDX selects. -/
def State.ltrvSel (s : State) (n : LaneIx) : LaneTravel :=
  (s.lane n).tSnap.get (Fin.ofNat 8 (s.idxOf (LANE.LTRV_IDX n) 8))

def State.viewLane (s : State) (n : LaneIx) (o : Nat) : Option Word :=
  if o = 0x800 then some (wd (s.linkStat n))
  else if o = 0x810 then some (wd (bitAt 31 (s.lane n).selfOk + (s.lane n).selfTest))
  else if o = 0x880 then some (wd (s.sqStat n))
  else if o = 0x8A4 then some (wd (s.trvAge n))
  else if o = 0xC04 then some (match s.sqSel n with | some e => wd e.xv | none => 0)
  else if o = 0xC24 then some (wd (s.ltrvSel n).tl)
  else none

def State.viewOutl (s : State) (n : LaneIx) (o : Nat) : Option Word :=
  if o = 0x800 then some (wd (s.outlStat n))
  else if o = 0x808 then some (wd ((s.bank n).vbst * 65536 + (s.bank n).vbat))
  else if 0x840 ≤ o ∧ o < 0x860 then some (wd (s.outStat n (Fin.ofNat 8 ((o - 0x840) / 4))))
  else if 0x860 ≤ o ∧ o < 0x880 then some (wd (s.outIma n (Fin.ofNat 8 ((o - 0x860) / 4))))
  else none

def State.viewPwmg (s : State) (n : LaneIx) (o : Nat) : Option Word :=
  if o = 0x800 then some (wd (s.pwmStat n))
  else if o = 0x80C then some (wd (s.outLvl n))
  else if 0x840 ≤ o ∧ o < 0x880 ∧ o % 16 = 12 then some (wd (s.genPos n (Fin.ofNat 4 ((o - 0x840) / 16))))
  else if 0x880 ≤ o ∧ o < 0x8A0 ∧ o % 8 = 0 then some (wd (s.gen n (Fin.ofNat 4 ((o - 0x880) / 8))).perAct)
  else none

def loopIx (i : Nat) : Fin 3 := if i = 0 then 0 else if i = 1 then 1 else 2

def State.viewLoop (s : State) (n : LaneIx) (o : Nat) : Option Word :=
  let e := s.engOf n
  let x := e.shows s.now
  if o = 0x800 then some (wd (s.engStat n))
  else if 0x820 ≤ o ∧ o < 0x850 then
    let l := x.loops.get (loopIx ((o - 0x820) / 16))
    let r := o % 16
    some (wdI (if r = 0 then l.sp else if r = 4 then l.y else if r = 8 then l.u else l.yhat))
  else if o = 0x850 then some (wd ((wdI x.cog).toNat % 65536 * 65536 + (wdI x.fric).toNat % 65536))
  else if o = 0x860 then some (wd x.count)
  else if o = 0x864 then some (if e.ainKnown s.now then wd (e.ainBy s.now) else wd ((s.peekFree 0).toNat % 4096))
  else if o = 0x868 then some (wd x.freq)
  else if o = 0x86C then some e.dem
  else if 0xC40 ≤ o ∧ o < 0xCB8 then
    let sel := (s.reg (LOOP.COEF_SEL n)).toNat
    some (if bf sel 5 4 = 3 then 0 else s.coef n (loopIx (bf sel 5 4)) (sel % 2) ((o - 0xC40) / 4))
  else none

def State.viewFbk (s : State) (n : LaneIx) (o : Nat) : Option Word :=
  let f := s.fbkOf n
  if o = 0x800 then some (wd (s.fbkStat n))
  else if o = 0x808 then some (wdI f.posPub)
  else if o = 0x824 then some (wdI f.idxLast)
  else if o = 0x828 then some (wdI f.emO)
  else if o = 0x830 then some (wd f.edges)
  else none

def State.viewSnap (s : State) (n : LaneIx) (o : Nat) : Option Word :=
  let k : OutIx := Fin.ofNat 8 (o / 4)
  if o = 0x800 then some (wd (s.snapStat n))
  else if o = 0x818 then some (wd (s.waitPend n))
  else if 0x840 ≤ o ∧ o < 0x860 then some (wd (min (s.pubOn n k) 268435455))
  else if 0x860 ≤ o ∧ o < 0x880 then some (wd (min (s.pubOff n k) 268435455))
  else if 0x880 ≤ o ∧ o < 0x8A0 then some (wd (s.det n k).lastOn)
  else if 0x8A0 ≤ o ∧ o < 0x8C0 then some (wd (s.det n k).lastOff)
  else if 0x8C0 ≤ o ∧ o < 0x8E0 then some (wd (s.outLrn n k))
  else none

/-! Any page. -/

/-- The live value of a register of a page, where it is not a stored word. -/
def State.liveReg (s : State) (k : PageKind) (i o : Nat) : Option Word :=
  let n : LaneIx := Fin.ofNat 16 i
  match k with
  | .sys =>
    if o = 0x800 then some (wd s.stateReg) else if o = 0x824 then some (wd (memberDevId s.member)) else none
  | .clk => if o = 0x808 then some (wd ((s.peekFree 3).toNat % 65536)) else none
  | .pwr =>
    if o = 0x800 then some (wd s.pwrStat)
    else if o = 0x808 then some (s.peekFree 0)
    else if o = 0x80C then some (s.peekFree 1)
    else if o = 0x810 then some (s.peekFree 2)
    else none
  | .laurel => if o = 0x800 then some (wd s.tokenReg) else if o = 0x804 then some (wd s.halfStat) else none
  | .hostq => s.viewHostq o
  | .mbox => s.viewMbox o
  | .yew => s.viewYew o
  | .nor => s.viewNor o
  | .rtx => s.viewRtx (ringOf i) o
  | .rtime => s.viewRtime o
  | .rtun => s.viewRtun o
  | .gnss => s.viewGnss (halfIx i) o
  | .tpls => s.viewTpls o
  | .imu => none
  | .pose => if o = 0x840 then some (wd (leAt s.pose.cur.bytes 0 4)) else none
  | .gspd => none
  | .fpe => s.viewFpe o
  | .map => s.viewMap o
  | .geom => if o = 0xC04 then some (wd s.trvSel.t) else none
  | .rate => if 0xC00 ≤ o then some (s.tblWin ((o - 0xC00) / 4)) else none
  | .sched => s.viewSched o
  | .lane => s.viewLane n o
  | .outl => s.viewOutl n o
  | .pwmg => s.viewPwmg n o
  | .loop => s.viewLoop n o
  | .fbk => s.viewFbk n o
  | .snap => s.viewSnap n o

/-- The word of a register as the block itself has it: no snapshot, no copy, WO bits 0. Undefined offsets read 0. -/
def State.liveView (s : State) (p : Nat) (k : PageKind) (i o : Nat) : Word :=
  if o < 0x02C then s.viewHdr p k i o
  else
    match findReg k o with
    | none => 0
    | some d => ((s.liveReg k i o).getD (s.reg (p * 4096 + o))) &&& ~~~ (wd d.wo)

/-- The LANEn registers that the spine itself keeps (R488). -/
def spineReg (k : PageKind) (o : Nat) : Bool := decide (k = .lane) && decide (o < 0x880)

/-- Whether an offset of a page is answered from the spine's copy: the runtime region and the windows of a FENCED lane. -/
def State.fromCopy (s : State) (k : PageKind) (i o : Nat) : Bool :=
  s.pageFenced k i && decide (0x800 ≤ o) && !spineReg k o

def noWord : Nat → Word := fun _ => 0

/-- What a read of an offset of a page returns (R452, R488). -/
def State.view (s : State) (p : Nat) (k : PageKind) (i o : Nat) : Word :=
  if (s.reg (hdr p HDR.PG_CTRL)).toNat.testBit 2 ∧ 0x800 ≤ o ∧ o < 0xC00 then Sparse.get noWord s.frozen (p * 4096 + o)
  else if s.fromCopy k i o then Sparse.get noWord s.held (p * 4096 + o)
  else s.liveView p k i o

/-- What a read of a host address returns; an absent page reads 0 (R2). -/
def State.readWord (s : State) (a : Nat) : Word :=
  match pageOf s.member (a / 4096) with
  | none => 0
  | some (k, i) => s.view (a / 4096) k i (a % 4096)

/-- The offsets of the registers of a page in a range. -/
def RegDef.offsets (d : RegDef) : List Nat :=
  (List.range d.n1).flatMap (fun i => (List.range d.n2).map (fun j => d.off + i * d.s1 + j * d.s2))

def regOffsets (k : PageKind) (lo hi : Nat) : List Nat :=
  ((regsOf k).flatMap (·.offsets)).filter (fun o => decide (lo ≤ o) && decide (o < hi))

/-- Store the words that `rd` gives of a page, for a range of offsets. -/
def snapPage (rd : Nat → Word) (m : Sparse Word) (p : Nat) (k : PageKind) (lo hi : Nat) : Sparse Word :=
  (regOffsets k lo hi).foldl (fun m o => Sparse.set noWord m (p * 4096 + o) (rd o)) m

end Sys2Proof.Machine
end

