-- ==== Sys2Proof/Machine/Fence.lean ====
section
/-! DEFINITION. Fencing a lane and letting it leave FENCED, and what SAFE_N does when a level of R24 changes (R23, R24, R31,
R338, R446, R463, R488). -/
namespace Sys2Proof.Machine

/-- The pages of a lane with their kinds. -/
def lanePages (n : LaneIx) : List (Nat × PageKind) :=
  [(pgLane n.val, .lane), (pgOutl n.val, .outl), (pgPwmg n.val, .pwmg), (pgLoop n.val, .loop), (pgFbk n.val, .fbk),
   (pgSnap n.val, .snap)]

/-- The spine's copy keeps the last values that the lane reported, whatever a FREEZE snapshot shows (R488). -/
def State.holdPages (s : State) (n : LaneIx) : State :=
  { s with held := (lanePages n).foldl (fun m e =>
      snapPage (s.liveView e.1 e.2 n.val) m e.1 e.2 (if e.2 = .lane then 0x880 else 0x800) 0x1000) s.held }

/-- Set or clear bit n of SYS.FENCE. -/
def State.setFenceBit (s : State) (n : LaneIx) (b : Bool) : State :=
  let v := s.reg SYS.FENCE
  s.setReg SYS.FENCE (if b then v ||| wd (1 <<< n.val) else v &&& ~~~ (wd (1 <<< n.val)))

/-- What every fence reports (R31, R446, R453). -/
def State.fenceReport (s : State) (n : LaneIx) (cause : FenceCause) : State :=
  let s := (s.setFenceBit n true).setEvt SYS.SYS_EVT.LANE_FENCE
  let s := s.record Rec.LANE_FENCE 0 (wd n.val) (wd cause.code) 0
  let s := s.setEvt (LANE.LANE_EVT.FENCED n)
  overList (lanePages n) (fun e s => s.setFault e.1) s

/-- A lane becomes FENCED (R31, R338); a fence of a FENCED lane sets its bit again. -/
def State.fenceNow (s : State) (n : LaneIx) (cause : FenceCause) : State :=
  if s.hasLane n = false then s
  else if s.fenced n then s.setFenceBit n true
  else (((s.holdPages n).fenceLane n cause).fenceFpe n).fenceReport n cause

/-- A lane leaves FENCED: its segment is retrained, and the lane takes the spine's copy of its configuration; the closings that the fence left unreported go out first (R31, R218, R488). -/
def State.unfence (s : State) (n : LaneIx) : State :=
  let s := s.setEpoch (pgLane n.val) s.tokenEpoch
  let s := s.modLane n (fun l => { l with up := .reset, fenced := none })
  let s := overList (List.finRange 8) (fun k s =>
    if (s.det n k).pendEst then s.estClosing n k 0 (s.estAt n k) else s) s
  let s := s.modLane n (fun l =>
    { LaneState.reset with
      up := l.up, selfOk := true, selfTest := 0, faultTimes := l.faultTimes, lastDn := s.now, updAt := s.now })
  { s with
    held := (lanePages n).foldl (fun m e => Sparse.clearRange m (e.1 * 4096) (e.1 * 4096 + 4096)) s.held,
    banks := s.banks.set n .reset, eng := vmod s.eng n (fun e => { EngState.reset with coef := e.coef }),
    pwm := vmod s.pwm n (fun p => { p with gen := p.gen.map GenState.stop, sets := [] }),
    fbk := vmod s.fbk n (fun f => { FbkState.reset with lvl := f.lvl }) }

/-- The retraining or the self-check of a lane fails at the seal: it stays FENCED with cause 2 (R31). -/
def State.staysFenced (s : State) (n : LaneIx) : State :=
  (s.modLane n (fun l => { l with fenced := some .selfCheck })).fenceReport n .selfCheck

/-- Every lane whose SAFE_N the levels of R24 now pull low enters safe state. -/
def State.settleSafe (s : State) : State :=
  overList s.laneList (fun n s => if s.laneLive n ∧ s.safeNLow n ∧ (s.lane n).safeLow = false then s.enterSafe n else s) s

/-- Every lane whose SAFE_N is high again leaves safe state. -/
def State.releaseSafe (s : State) : State :=
  overList s.laneList (fun n s => if s.laneLive n ∧ s.safeNLow n = false ∧ (s.lane n).safeLow then s.leaveSafe n else s) s

/-! The rows. -/

/-- A write to SYS.FENCE: a 1 fences at once, a 0 to a set bit is taken in PRIMROSE only (R446). -/
def State.writeFence (s : State) (v : Nat) : State :=
  overList s.laneList (fun n s =>
    if v.testBit n.val then s.fenceNow n .host
    else if s.dev = .primrose then s.setFenceBit n false else s) s

def execFence (t : Time) (v : Word) (s : State) : Res :=
  let s := s.at t
  if s.running then .next (s.writeFence v.toNat) else .next s

/-- LANE_SELF_FAIL: the lane reports a failed self-check (R31). -/
def execLaneSelfFail (t : Time) (n : LaneIx) (test : BitVec 16) (s : State) : Res :=
  let s := s.at t
  if s.laneLive n then
    let s := s.modLane n (fun l => { l with selfOk := false, selfTest := test.toNat })
    .next ((s.setEvt (LANE.LANE_EVT.SELF_FAIL n)).fenceNow n .selfCheck)
  else .next s

/-- FENCE_THR link faults of a lane lie within one second of ring time (R463). -/
def State.faultBurst (s : State) (n : LaneIx) : Bool :=
  let thr := s.fld (LANE.LINK_CFG.FENCE_THR n)
  let ts := (s.lane n).faultTimes
  let last := ts.drop (ts.length - thr)
  s.flag (LANE.LINK_CFG.AUTOFENCE n) && decide (0 < thr) && decide (thr ≤ ts.length) &&
    (match last.head?, last.getLast? with
     | some a, some b => decide (b - a ≤ secPs)
     | _, _ => false)

def execAutofence (t : Time) (n : LaneIx) (s : State) : Res :=
  let s := s.at t
  if s.laneLive n ∧ s.faultBurst n then .next (s.fenceNow n .link) else .next s

end Sys2Proof.Machine
end

