-- ==== Sys2Proof/Machine/Seal.lean ====
section
/-! DEFINITION. The configuration seal: the seal CRC, the conditions of every chapter's seal-check table, and what a seal does
(R77, R117, R149, R177, R211, R230, R248, R274, R292, R318, R341, R369, R405, R426, R436 to R440, R462, R464). -/
namespace Sys2Proof.Machine

/-! The seal CRC (R436). -/

/-- A configuration word of a page ANDed with the mask of its RWL fields. -/
def State.maskedWord (s : State) (p : Nat) (k : PageKind) (o : Nat) : Word :=
  match findReg k o with
  | some d => s.reg (p * 4096 + o) &&& wd d.rwl
  | none => 0

/-- The 448 masked words of a page, each least significant byte first. -/
def State.pageBytes (s : State) (p : Nat) : List Byte :=
  match pageOf s.member p with
  | none => []
  | some (k, _) => cfgOffsets.flatMap (fun o => leBytes 4 (s.maskedWord p k o).toNat)

/-- The CRC-32 of the pages' bytes: the sequence of R436. -/
def State.sealCrc (s : State) : Word := crc32 ((presentPages s.member).flatMap s.pageBytes)

/-! The conditions. Each list holds the addresses that failing conditions name. -/

/-- An address that fails where a condition holds. -/
def failIf (c : Bool) (a : Nat) : List Nat := if c then [a] else []

/-- A lane FENCED, with its SYS.FENCE bit set, or absent (R77, R149, R440). -/
def State.laneOut (s : State) (n : Nat) : Bool :=
  decide (memberLanes s.member ≤ n) || (s.reg SYS.FENCE).toNat.testBit n || s.fenced (Fin.ofNat 16 n)

/-- GEOM EN of a global outlet. -/
def State.gEn (s : State) (j : Nat) : Bool := s.flag (GEOM.GEOM_OUT_ATTR.EN j)

def outsAll : List Nat := List.range 128

/-- GEOM entries (Tables 2-7 and 4-8). -/
def State.chkGeom (s : State) : List Nat :=
  outsAll.flatMap (fun j =>
    let a := GEOM.GEOM_OUT_ATTR j
    failIf (s.gEn j && s.laneOut (j / 8)) a ++
    failIf (s.flag (GEOM.GEOM_OUT_ATTR.BODY j) && (decide (s.hitchMode = 0) || s.lineFrame)) a ++
    failIf (!s.lineFrame && s.gEn j && decide (s.swath j = 0)) a)

/-- A PRI field that names an input it may not (Table 2-7); codes above 3 name no input. -/
def State.badPri (s : State) (c : Nat) : Bool :=
  if c = 0 then false
  else if c = 1 then !s.flag GSPD.GSA_CFG.EN || decide (s.reg GSPD.GSA_UMPP = 0)
  else if c = 2 then
    !s.flag GSPD.GSB_CFG.EN || decide (s.reg GSPD.GSB_UMPP = 0) ||
      decide (s.fld GSPD.GSB_CFG.MODE = 1 ∨ s.fld GSPD.GSB_CFG.MODE = 2)
  else if c = 3 then !s.flag (GNSS.IF_CFG.EN 0) || s.lineFrame
  else true

def State.pris (s : State) : List Nat :=
  [s.fld POSE.POSE_SPD_CFG.PRI0, s.fld POSE.POSE_SPD_CFG.PRI1, s.fld POSE.POSE_SPD_CFG.PRI2]

/-- Table 2-7 but for GEOM. -/
def State.chkPose (s : State) : List Nat :=
  let m := s.hitchMode
  let imu := s.flag IMU.IMU_CFG.EN
  let odr := s.fld IMU.IMU_TIMING.ODR_HZ
  let burst := s.fld IMU.IMU_CFG.BURST_LEN
  failIf (decide (m = 2 ∨ m = 3) && decide (s.fld POSE.POSE_HITCH_GEOM.L_MM = 0)) POSE.POSE_HITCH_GEOM ++
  failIf (decide (m = 1 ∨ m = 3) && decide (s.reg POSE.POSE_HITCH_GAIN = 0)) POSE.POSE_HITCH_GAIN ++
  failIf (s.lineFrame && (decide (m ≠ 0) || s.poseRing)) POSE.POSE_CFG ++
  failIf (decide (s.fld POSE.POSE_SPD_CFG.PRI0 = 0) || s.pris.any s.badPri) POSE.POSE_SPD_CFG ++
  failIf (imu && (decide (s.fld IMU.IMU_CFG.DIV < 19) || decide (burst < 12 ∨ 32 < burst))) IMU.IMU_CFG ++
  failIf (imu && decide (s.reg IMU.IMU_GSCALE = 0)) IMU.IMU_GSCALE ++
  failIf (imu && decide (s.reg IMU.IMU_ASCALE = 0)) IMU.IMU_ASCALE ++
  failIf (imu && decide (odr = 0 ∨ 2000 < odr)) IMU.IMU_TIMING ++
  failIf (decide (s.fld GSPD.GSA_CFG.EDGE = 3)) GSPD.GSA_CFG ++
  failIf (decide (s.fld GSPD.GSB_CFG.EDGE = 3 ∨ s.fld GSPD.GSB_CFG.MODE = 3)) GSPD.GSB_CFG ++
  failIf (s.flag GSPD.GSOUT_CFG.EN && decide (s.reg GSPD.GSOUT_UMPP = 0)) GSPD.GSOUT_UMPP

/-- The highest enabled global outlet. -/
def State.topOutlet (s : State) : Option Nat := (outsAll.filter s.gEn).getLast?

/-- LOG_W + LOG_H of the member (R87). -/
def memberLog : Member → Nat
  | .bl0280 => 8
  | .bl0480 => 9
  | .bl0880 => 10
  | .bl1680 => 11

/-- Table 3-15. -/
def State.chkMap (s : State) : List Nat :=
  let p := s.pitch
  let w := s.fld MAP.WIN_SHAPE.LOG_W
  let h := s.fld MAP.WIN_SHAPE.LOG_H
  let strokes := s.flag MAP.GRP_CFG.STROKE_TX || s.flag MAP.GRP_CFG.STROKE_RX
  let hz := s.fld MAP.WIN_DEMAND.HORIZON_MM
  let shape := if s.lineFrame then (match s.topOutlet with | some j => decide (64 * 2 ^ w ≤ j) | none => false)
    else decide (w < 3 ∨ 8 < w ∨ h < 3 ∨ 8 < h)
  let ms := s.fld MAP.SCRUB_CFG.SCRUB_MS
  let req := s.fld MAP.WIN_REQ.REQ_PER_TICK
  failIf (decide (p < 10 ∨ 1000 < p)) MAP.MAP_CFG ++
  failIf (decide (w + h ≠ memberLog s.member) || shape) MAP.WIN_SHAPE ++
  failIf (decide (hz < 64 * p ∨ hz < s.fld MAP.WIN_DEMAND.BEHIND_MM)) MAP.WIN_DEMAND ++
  failIf (decide (req = 0 ∨ 64 < req ∨ s.fld MAP.WIN_REQ.RETRY_MS < 10)) MAP.WIN_REQ ++
  failIf (s.lineFrame && (s.prxEn || strokes)) MAP.MAP_CFG ++
  failIf (strokes && !s.ringEn .a && !s.ringEn .b) MAP.GRP_CFG ++
  failIf (s.flag MAP.SCRUB_CFG.EN && decide (ms < 100 ∨ 10000 < ms)) MAP.SCRUB_CFG

/-- A SPRAY outlet of a product is enabled. -/
def State.sprayOf (s : State) (k : Nat) : Bool :=
  outsAll.any (fun j => s.gEn j && decide (s.kindOf j = 0) && decide (s.prodOf j = k))

/-- Table 4-8 but for GEOM. -/
def State.chkFpe (s : State) : List Nat :=
  failIf (decide (s.fld FPE.FPE_CFG.ON_Q ≤ s.fld FPE.FPE_CFG.OFF_Q)) FPE.FPE_CFG ++
  failIf (decide (s.fld FPE.LEAD_CFG.QUEUE_US < 1000) ||
    decide (s.fld MAP.WIN_DEMAND.HORIZON_MM ≤ s.fld FPE.LEAD_CFG.MAX_LEAD_MM + s.fld FPE.EXCL_CFG.GUARD_MM)) FPE.LEAD_CFG ++
  failIf (decide (s.fld FPE.XCHK_CFG.LIMIT = 0)) FPE.XCHK_CFG ++
  outsAll.flatMap (fun j =>
    failIf (s.gEn j && !s.flag (RATE.PROD_CFG.EN (s.prodOf j)) && decide (s.kindOf j ≠ 3)) (FPE.OUT_CFG j) ++
    failIf (decide (s.kindOf j = 2) && decide (j % 8 ≠ 0)) (FPE.OUT_CFG j)) ++
  [0, 1].flatMap (fun k =>
    let src := s.fld (RATE.PROD_CFG.SRC k)
    failIf (decide (src = 0) && (!s.prxEn || s.lineFrame)) (RATE.PROD_CFG k) ++
    failIf (decide (src = 1) && s.laneOut (s.fld (RATE.PROD_CFG.PULSE_LANE k))) (RATE.PROD_CFG k) ++
    failIf (s.flag (RATE.PROD_CFG.EN k) && decide (src = 3)) (RATE.PROD_CFG k) ++
    failIf (s.sprayOf k && (decide (s.reg (RATE.PROD_NOZ k) = 0) || decide (s.fld (RATE.PROD_CFG.P_REF k) = 0) ||
      decide (s.fld (RATE.PROD_PSCALE.P_GAIN k) = 0) || s.laneOut (s.fld (RATE.PROD_CFG.PSRC_LANE k)))) (RATE.PROD_NOZ k) ++
    failIf (decide (1000 < s.fld (RATE.PROD_LIM.DUTY_MIN k))) (RATE.PROD_LIM k))

/-- Table 5-7. -/
def State.chkSched (s : State) : List Nat :=
  let dr := s.fld SCHED.SCHED_CFG.DR_MS
  failIf (decide (dr = 0 ∨ 1000 < dr ∨ 1000 < s.fld SCHED.SCHED_CFG.DRAIN_MS)) SCHED.SCHED_CFG ++
  failIf (decide (16 < s.fld SCHED.SCHED_HOLD.HOLD_MAX)) SCHED.SCHED_HOLD

/-! OUTLn (Table 6-8). -/

/-- An outlet in use: GEOM EN = 1 and KIND ≠ MOTOR (R211). -/
def State.outUse (s : State) (n : LaneIx) (k : OutIx) : Bool := s.outEn n k && decide (s.kind n k ≠ 2)

def outIxs : List OutIx := List.finRange 8

/-- The outlets in use of a lane that select a profile. -/
def State.profUsers (s : State) (n : LaneIx) (p : Nat) : List OutIx :=
  outIxs.filter (fun k => s.outUse n k && decide (s.fld (OUTL.OUT_CFG.PROF n k) = p))

/-- The modes of the configured phases of a profile. -/
def State.profModes (s : State) (n : LaneIx) (p : Nat) : List Nat :=
  ((List.range 6).filter (s.phUsed n p)).map (s.phMode n p)

/-- The END codes of Table 6-2. -/
def endAllowed (mode e : Nat) : Bool :=
  if mode = 0 ∨ mode = 3 ∨ mode = 4 then decide (e = 1 ∨ e = 2)
  else if mode = 1 ∨ mode = 2 then decide (e = 0 ∨ e = 1)
  else if mode = 5 then decide (e = 2) else false

/-- A phase of a profile in use fails: mode, styles, END, its times, or a target at the top code. -/
def State.badPhase (s : State) (n : LaneIx) (p q : Nat) : Bool :=
  let e := s.fld (OUTL.PROF_PH.END n p q)
  decide (5 < s.phMode n p q) || decide (s.fld (OUTL.PROF_PH.OFF_STY n p q) = 3 ∨ s.fld (OUTL.PROF_PH.CHOP_STY n p q) = 3) ||
    !endAllowed (s.phMode n p q) e || (decide (e = 0) && decide (s.fld (OUTL.PROF_PH_T.TMAX_US n p q) = 0)) ||
    (decide (e = 1) && decide (s.fld (OUTL.PROF_PH_T.DUR_US n p q) = 0)) ||
    (s.profUsers n p).any (fun k => decide (s.codeOf n k (s.tgtMa n p q + 4 * s.fld (OUTL.PROF_PH.HYST n p q)) = 4095))

/-- A SPRAY_PWM phase stands wrongly in its profile. -/
def State.badSpray (s : State) (n : LaneIx) (p q : Nat) : Bool :=
  decide (s.phMode n p q = modeSpray) &&
    (decide (q = 0) || !(decide (s.phMode n p (q - 1) = modeHold ∨ s.phMode n p (q - 1) = modeProp) && decide (s.phEnd n p (q - 1) = 2)) ||
      decide (q ≤ s.fld (OUTL.PROF_CFG.PULSE_FIRST n p)))

/-- The profile of an outlet does not suit its KIND. -/
def State.badKind (s : State) (n : LaneIx) (k : OutIx) : Bool :=
  let m := s.profModes n (s.fld (OUTL.OUT_CFG.PROF n k))
  match s.kind n k with
  | 0 => !m.contains modeSpray
  | 1 => !m.contains modeProp
  | 3 => m.contains modeSpray || m.contains modeProp
  | _ => false

def State.chkOutl (s : State) (n : LaneIx) : List Nat :=
  let f := s.fld (OUTL.SPRAY_CFG.FREQ_HZ n)
  let per := 1000000000 / f
  let fOk := decide (5 ≤ f) && decide (f ≤ 200)
  let spray := outIxs.any (fun k => s.outUse n k && decide (s.kind n k = 0))
  let lim := if s.fld (OUTL.SPRAY_CFG.INTLV n) = 1 then per / 2 else per
  let ov := s.fld (OUTL.SUP_CFG.VBST_OV n)
  let pp := s.fld (OUTL.PROP_CFG.PROP_PER_US n)
  outIxs.flatMap (fun k =>
    let use := s.outUse n k
    failIf (use && (decide (s.fld (OUTL.OUT_CFG.SHUNT_UOHM n k) = 0 ∨ s.fld (OUTL.OUT_CFG.GAIN n k) = 3) || s.badKind n k))
      (OUTL.OUT_CFG n k) ++
    failIf (use && (decide (s.fld (OUTL.OUT_PROT.OC_N n k) = 0) ||
      decide (s.codeOf n k (s.fld (OUTL.OUT_PROT.OC_MA n k)) = 4095))) (OUTL.OUT_PROT n k)) ++
  (List.range 8).flatMap (fun p =>
    let use := !(s.profUsers n p).isEmpty
    let d := s.fld (OUTL.PROF_DITH.DITH_HZ n p)
    (List.range 6).flatMap (fun q =>
      failIf (use && s.phUsed n p q && s.badPhase n p q) (OUTL.PROF_PH n p q) ++
      failIf (s.phUsed n p q && s.badSpray n p q) (OUTL.PROF_CFG n p)) ++
    failIf (decide (d ≠ 0) && decide (d < 25 ∨ 400 < d)) (OUTL.PROF_DITH n p)) ++
  failIf (spray && (!fOk || decide (lim ≤ 3000 * s.fld (OUTL.SPRAY_CFG.STAGGER_US n)))) (OUTL.SPRAY_CFG n) ++
  failIf (spray && fOk && decide (per ≤ 1000 * (s.fld (OUTL.SPRAY_LIM.MIN_ON_US n) + s.fld (OUTL.SPRAY_LIM.MIN_OFF_US n))))
    (OUTL.SPRAY_LIM n) ++
  failIf (decide (pp < 10 ∨ 200 < pp)) (OUTL.PROP_CFG n) ++
  failIf (decide (ov ≤ s.fld (OUTL.SUP_CFG.VBST_MIN n) + s.fld (OUTL.SUP_CFG.VBST_HYST n)) || decide (720 < ov)) (OUTL.SUP_CFG n) ++
  failIf (decide (2000 < s.fld (OUTL.BANK_CFG.BLANK_NS n)) || decide (s.fld (OUTL.BANK_CFG.PEAK_WAIT_US n) < 10)) (OUTL.BANK_CFG n) ++
  failIf (decide (s.fld (OUTL.DECAY_CFG.DECAY_END_MA n) = 0)) (OUTL.DECAY_CFG n)

/-! SNAPn (Table 7-7). -/

/-- A NOM value outside 1 to 20,000. -/
def badNom (v : Nat) : Bool := decide (v = 0) || decide (20000 < v)

/-- A non-zero seed outside NOM / 4 to 4 × NOM. -/
def badSeed (seed nom : Nat) : Bool := decide (seed ≠ 0) && (decide (4 * seed < nom) || decide (4 * nom < seed))

/-- The outlets that SIB names: 0 O6, 1 O7, 2 both. -/
def sibs (v : Nat) : List OutIx := if v = 0 then [6] else if v = 1 then [7] else if v = 2 then [6, 7] else []

def State.chkSnap (s : State) (n : LaneIx) : List Nat :=
  let dr := s.fld (SNAP.SNAP_TIME.DRIFT_PCT n)
  let run := s.fld (SNAP.MOTOR_CFG.RUN_PCT n)
  failIf (decide (s.fld (SNAP.SNAP_CFG.DIP_THR n) = 0 ∨ s.fld (SNAP.SNAP_CFG.KINK_THR n) = 0 ∨
    s.fld (SNAP.SNAP_CFG.STUCK_N n) = 0 ∨ s.fld (SNAP.SNAP_CFG.REJ_MAX n) = 0)) (SNAP.SNAP_CFG n) ++
  failIf (decide (dr = 0 ∨ 100 < dr)) (SNAP.SNAP_TIME n) ++
  outIxs.flatMap (fun k =>
    let use := s.outEn n k
    let on := s.nomOn n k
    let off := s.nomOff n k
    let sb := s.fld (SNAP.OUT_CFG.SIB n k)
    failIf (use && (badNom on || badNom off || decide (1000000 * s.fld FPE.PAINT_CFG.CONF_TMO_MS ≤ 8000 * max on off))) (SNAP.OUT_NOM n k) ++
    failIf (badSeed (s.fld (SNAP.OUT_SEED.SEED_ON_US n k)) on || badSeed (s.fld (SNAP.OUT_SEED.SEED_OFF_US n k)) off) (SNAP.OUT_SEED n k) ++
    failIf (decide (k.val < 6) && decide (sb ≠ 3) && !(sibs sb).any (s.outEn n)) (SNAP.OUT_CFG n k)) ++
  failIf (outIxs.any (fun k => decide (s.kind n k = 2)) && (decide (100 < run) || decide (run ≤ s.fld (SNAP.MOTOR_CFG.STOP_PCT n))))
    (SNAP.MOTOR_CFG n)

/-! PWMGn (Table 8-5). -/

def gens : List (Fin 4) := List.finRange 4

def State.genEn (s : State) (n : LaneIx) (g : Fin 4) : Bool := s.flag (PWMG.G_CFG.EN n g)

def State.chkPwmg (s : State) (n : LaneIx) : List Nat :=
  let sel := s.fld (PWMG.SYNC_CFG.OUT_SEL n)
  let inEn := s.fld (PWMG.SYNC_CFG.IN_EN n)
  let prevOff := decide (1 ≤ n.val) && decide (s.fld (PWMG.SYNC_CFG.OUT_SEL (n.val - 1)) = 0)
  let unchecked := fun (g : Fin 4) => s.linked n && decide (g = 1 ∨ g = 2)
  gens.flatMap (fun g =>
    failIf (decide (g ≠ 3) && s.genEn n g && decide (s.fld (PWMG.G_DT.DT_RISE n g) < 4 ∨ s.fld (PWMG.G_DT.DT_FALL n g) < 4)) (PWMG.G_DT n g)) ++
  failIf (s.flag (PWMG.BRIDGE_CFG.CMP_SRC n) && (!s.linked n || !s.genEn n 0 || !s.flag (LOOP.ENG_CFG.EN n))) (PWMG.BRIDGE_CFG n) ++
  failIf ((decide (inEn ≠ 0) && prevOff) || gens.any (fun g => inEn.testBit g.val && !s.genEn n g && !unchecked g) ||
    (decide (sel = 2) && !s.genEn n 0) || (decide (sel = 3) && !s.genEn n 3)) (PWMG.SYNC_CFG n) ++
  failIf (decide (131069 < s.fld (PWMG.SYNC_PH_BR.PHASE n))) (PWMG.SYNC_PH_BR n) ++
  failIf (decide (131069 < s.fld (PWMG.SYNC_PH_G3.PHASE n))) (PWMG.SYNC_PH_G3 n)

/-! LOOPn (Table 9-8). -/

/-- TRIG_DIV × L of the trigger generator in TCLK cycles, from its shadow PER and MODE. -/
def State.trigCycles (s : State) (n : LaneIx) : Nat :=
  let g := s.trigGen n
  let m := s.fld (PWMG.G_MODE.MODE n g)
  let center := if m = 0 then false else if m = 1 then true else (s.gen n g).center
  s.fld (LOOP.ENG_CFG.TRIG_DIV n) * lenOf center (perOf (s.shPer n g) 15)

/-- TCLK cycles between the samples of a loop (R251). -/
def State.loopCycles (s : State) (n : LaneIx) (l : Fin 3) : Nat :=
  let d1 := 2 ^ s.fld (LOOP.ENG_CFG.D1C n)
  let d2 := s.fld (LOOP.ENG_CFG.D2 n)
  s.trigCycles n * (if l = 0 then 1 else if l = 1 then d1 else d1 * d2)

/-- A feedback source that a loop in use may not have. -/
def State.badFb (s : State) (n : LaneIx) (l : Fin 3) : Bool :=
  let src := s.fld (LOOP.L_FB.FB_SRC n l)
  let sel := s.fld (LOOP.L_FB.ISNS_SEL n l)
  let mode := s.fld (FBK.IN_CFG.MODE n)
  let k : OutIx := Fin.ofNat 8 sel
  decide (7 ≤ src) ||
    (decide (src = 6) && (decide (sel = 0) || s.outEn n k || decide (s.fld (OUTL.OUT_CFG.GAIN n k) = 3))) ||
    (decide (src = 3 ∨ src = 4 ∨ src = 5) && decide (mode = 0)) || (decide (src = 5) && decide (mode ≠ 3)) ||
    (decide (src = 3 ∨ src = 5) && decide (s.loopCycles n l < 400 * s.fld (FBK.SPD_CFG.UPD_US n)))

def State.chkLoop (s : State) (n : LaneIx) : List Nat :=
  let en := s.flag (LOOP.ENG_CFG.EN n)
  let top := s.fld (LOOP.ENG_CFG.TOP n)
  let mode := s.fld (FBK.IN_CFG.MODE n)
  let motor := outIxs.any (fun k => decide (s.kind n k = 2))
  let src := s.fld (LOOP.SP_CFG.SRC n)
  let fric := s.flag (LOOP.FF_CFG.FRIC_EN n)
  let cog := s.flag (LOOP.FF_CFG.COG_EN n)
  let use := fun (l : Fin 3) => en && decide (l.val ≤ top)
  failIf (en && (decide (4 < s.fld (LOOP.ENG_CFG.D1C n)) || decide (s.fld (LOOP.ENG_CFG.D2 n) = 0) ||
    decide (s.fld (LOOP.ENG_CFG.TRIG_DIV n) = 0) || decide (top = 3) || !s.genEn n (s.trigGen n) ||
    decide (s.trigCycles n < 10000))) (LOOP.ENG_CFG n) ++
  failIf (s.sixstep n && (!s.flag (PWMG.BRIDGE_CFG.CMP_SRC n) || decide (mode ≠ 1))) (LOOP.ENG_CFG n) ++
  failIf (motor && (!en || decide (top = 0))) (LOOP.ENG_CFG n) ++
  failIf ((decide (src = 1) && decide (s.kind n 0 ≠ 2)) || (decide (src = 5) && !s.flag (LOOP.AIN_CFG.PULSE_EN n)) ||
    (decide (src = 6) && decide (mode ≠ 3)) || decide (7 ≤ src)) (LOOP.SP_CFG n) ++
  failIf (((fric || cog) && decide (top = 0)) || (fric && decide (s.fld (LOOP.FF_CFG.FRIC_STEP n) = 0))) (LOOP.FF_CFG n) ++
  failIf (cog && decide (s.fld (LOOP.COG_CFG.COG_CPR n) = 0)) (LOOP.COG_CFG n) ++
  (List.finRange 3).flatMap (fun (l : Fin 3) =>
    let hi := s.sreg (LOOP.L_OUT_MAX n l) 24
    let lo := s.sreg (LOOP.L_OUT_MIN n l) 24
    let fb := decide (s.fld (LOOP.L_FB.FB_SRC n l) ≠ 0)
    failIf (use l && s.badFb n l) (LOOP.L_FB n l) ++
    failIf (use l && (decide (hi < lo) || (s.sixstep n && decide (l = 0) && (decide (65536 < hi) || decide (lo < -65536))))) (LOOP.L_OUT_MAX n l) ++
    failIf (use l && fb && decide (bf (s.reg (LOOP.L_HW_CFG n l)).toNat 23 16 = 0)) (LOOP.L_HW_CFG n l) ++
    failIf (use l && fb && decide (s.fld (LOOP.L_HW_MODEL.ALPHA n l) = 0)) (LOOP.L_HW_MODEL n l))

/-! FBKn (Table 10-4). -/

def State.chkFbk (s : State) (n : LaneIx) : List Nat :=
  let m := s.fld (FBK.IN_CFG.MODE n)
  let dbl := s.flag (FBK.IN_CFG.DOUBLE_STEP n)
  let ix := s.flag (FBK.IDX_CFG.IDX_EN n)
  let cpr := s.fld (FBK.IDX_CFG.CPR n)
  let upd := s.fld (FBK.SPD_CFG.UPD_US n)
  let em := s.flag (FBK.EM_CFG.EN n)
  failIf ((decide (m = 1) && dbl) || (decide (m = 3) && (s.flag (FBK.IN_CFG.HYST_EN n) || dbl))) (FBK.IN_CFG n) ++
  failIf (s.flag (FBK.WIRE_CFG.WIRE_EN n) && decide (s.fld (FBK.WIRE_CFG.WIRE_CYC n) = 0)) (FBK.WIRE_CFG n) ++
  failIf ((ix && (decide (m ≠ 2) || decide (cpr = 0))) || decide (s.fld (FBK.IDX_CFG.POLICY n) = 3)) (FBK.IDX_CFG n) ++
  failIf (ix && decide (cpr ≤ (s.reg (FBK.IDX_POS n)).toNat)) (FBK.IDX_POS n) ++
  failIf (decide (upd < 10 ∨ 1000 < upd) || decide (s.fld (FBK.SPD_CFG.TMO_MS n) = 0)) (FBK.SPD_CFG n) ++
  failIf (decide (s.fld (FBK.PULSE_CFG.EDGE n) = 3) || (s.flag (FBK.PULSE_CFG.DIR_EN n) && decide (m ≠ 3))) (FBK.PULSE_CFG n) ++
  failIf (em && (decide (m = 0) || decide (s.fld (FBK.EM_CFG.MINT n) < 4) || decide (s.fld (FBK.EM_CFG.LAG_MAX n) = 0))) (FBK.EM_CFG n) ++
  failIf (em && decide (s.fld (FBK.EM_RATIO.NUM n) = 0 ∨ s.fld (FBK.EM_RATIO.DEN n) = 0)) (FBK.EM_RATIO n)

/-! The shared pages (Tables 11-8, 12-6, 13-8, 14-11, 15-3, R462). -/

/-- SIG_EN bits of band L5; the others are of L1 (Table 11-2). -/
def sigL5 : List Nat := [2, 4, 6, 9]

def State.chkGnss (s : State) : List Nat :=
  let en := s.flag (GNSS.IF_CFG.EN 0)
  let l1 := s.flag (GNSS.IF_CFG.L1_EN 0)
  let l5 := s.flag (GNSS.IF_CFG.L5_EN 0)
  let sig := (s.reg (GNSS.SIG_EN 0)).toNat
  let tp := s.fld (GNSS.AGC_CFG.TARGET_PCT 0)
  let s1 := s.fld (GNSS.TRK_CFG.SPACING1 0)
  let s10 := s.fld (GNSS.TRK_CFG.SPACING10 0)
  let ms := s.fld (GNSS.MEAS_CFG.MEAS_MS 0)
  let ch := s.fld (GNSS.STBY_CFG.BURST_CH 0)
  let offBand := (List.range 10).any (fun b => sig.testBit b && !(if sigL5.contains b then l5 else l1))
  failIf ((en && !l1 && !l5) || (!s.poseRing && !s.lineFrame && !en)) (GNSS.IF_CFG 0) ++
  failIf (!s.flag (GNSS.AGC_CFG.MODE 0) && (decide (s.fld (GNSS.AGC_CFG.GAIN 0) = 0) || decide (tp = 0 ∨ 90 < tp))) (GNSS.AGC_CFG 0) ++
  failIf (en && (decide (sig % 1024 = 0) || offBand)) (GNSS.SIG_EN 0) ++
  failIf (decide (s1 < 2 ∨ 64 < s1 ∨ s10 < 13 ∨ 64 < s10)) (GNSS.TRK_CFG 0) ++
  failIf (!([50, 100, 200, 500, 1000].contains ms) || (decide (100 < ms) && s.pris.contains 3)) (GNSS.MEAS_CFG 0) ++
  failIf ((s.flag (GNSS.RTK_CFG.STN_LOCK 0) && decide (s.fld (GNSS.RTK_CFG.STN_ID 0) = 0)) ||
    decide (s.fld (GNSS.RTK_CFG.AGE_MAX 0) = 0)) (GNSS.RTK_CFG 0) ++
  failIf (decide (ch = 0 ∨ 64 < ch)) (GNSS.STBY_CFG 0)

def State.chkTpls (s : State) : List Nat :=
  let w := s.fld TPLS.TP_CFG.WIDTH_US
  let pb := s.fld TPLS.TPB_CFG.PB_MS
  let sl := s.fld TPLS.TP_LIMIT.SLEW_NS_S
  failIf (decide (w = 0 ∨ 999999 < w)) TPLS.TP_CFG ++
  failIf (decide (30000 < (s.sfld TPLS.TP_DLY.CABLE_NS).natAbs ∨ 30000 < (s.sfld TPLS.TP_DLY.USER_NS).natAbs)) TPLS.TP_DLY ++
  failIf (decide (s.fld TPLS.TPB_CFG.MODE = 1) && (decide (pb = 0) || decide (1000 % pb ≠ 0) ||
    decide (1000 * pb ≤ s.fld TPLS.TPB_CFG.WIDTH_US))) TPLS.TPB_CFG ++
  failIf (decide (sl = 0 ∨ 200 < sl ∨ s.fld TPLS.TP_LIMIT.ACC_MAX = 0)) TPLS.TP_LIMIT

def State.chkLaurel (s : State) : List Nat :=
  let kat := s.fld LAUREL.KAT_CFG.KAT_S
  failIf ((decide (memberHalves s.member = 2) && !s.flag LAUREL.LAUREL_CFG.HB0_EN && !s.flag LAUREL.LAUREL_CFG.HB1_EN) ||
    decide (s.fld LAUREL.LAUREL_CFG.POSE_LIMIT = 0 ∨ s.fld LAUREL.LAUREL_CFG.SLOT_LIMIT = 0 ∨ 2 ≤ s.fld LAUREL.LAUREL_CFG.UNDET)) LAUREL.LAUREL_CFG ++
  failIf (decide (1 ≤ kat) && decide (kat ≤ 9)) LAUREL.KAT_CFG

/-- The rings a launch field names. -/
def launchRings (v : Nat) : List Ring := if v = 0 then [.a] else if v = 1 then [.b] else [.a, .b]

def State.chkRing (s : State) : List Nat :=
  let classes := [s.classRing .pace, s.classRing .ctrl, s.classRing .stroke, s.classRing .bulk]
  let win := s.fld (RTX.REL_CFG.WIN 0)
  let badLaunch := classes.any (fun v => (launchRings v).any (fun r => !s.ringEn r && s.ringEn r.other))
  failIf (badLaunch || decide (s.fld (RTX.RING_CFG.PRES_MS 0) = 0)) (RTX.RING_CFG 0) ++
  failIf (decide (win = 0 ∨ 16 < win ∨ s.fld (RTX.REL_CFG.RETRY_MAX 0) = 0 ∨ s.fld (RTX.REL_CFG.ACK_TMO_US 0) < 20)) (RTX.REL_CFG 0) ++
  [Ring.a, Ring.b].flatMap (fun p =>
    failIf (s.hasRing p && decide (12 < s.fld (RTX.LINK_CFG.WRAP_HOLD_US p.ix) ∨ s.fld (RTX.LINK_CFG.UNWRAP_US p.ix) < 1000)) (RTX.LINK_CFG p.ix)) ++
  failIf (s.flag (RTX.PROXY_CFG.PROXY_EN 0) && (decide (s.fld (RTX.PROXY_CFG.PROXY_NODE 0) = s.ring.nodeId.toNat) || s.ring.root)) (RTX.PROXY_CFG 0) ++
  failIf (decide (s.fld RTIME.RT_CFG.HOP_DLY_NS = 0) && (decide (memberRings s.member = 1) || s.flag RTIME.RT_CFG.USE_CFG)) RTIME.RT_CFG ++
  failIf (decide (s.fld RTUN.TUN_CFG.TMO_MS = 0)) RTUN.TUN_CFG

/-- ceil(largest item / 64) of a queue (Table 14-11). -/
def qMin (q : Nat) : Nat := if q = 0 then 17 else if q = 1 ∨ q = 8 then 33 else if q = 13 then 65 else if 16 ≤ q then 5 else 1

def State.chkHost (s : State) : List Nat :=
  let kk := s.fld YEW.LOG_CFG.KEEP_KIB
  let fl := s.fld YEW.YEW_CFG.FLUSH_MS
  let lo := s.fld PWR.PWR_CFG.VGD_MIN
  let hi := s.fld PWR.PWR_CFG.VGD_MAX
  let tw := s.fld PWR.TEMP_CFG.TWARN
  failIf (decide (65536 < ((List.range 32).map s.bufBlk).sum)) (HOSTQ.Q_CFG 0) ++
  (List.range 32).flatMap (fun q =>
    failIf (qAssigned q && (decide (s.bufBlk q < qMin q) || decide (s.fld (HOSTQ.Q_CFG.THR q) = 0))) (HOSTQ.Q_CFG q)) ++
  failIf (decide (s.fld NOR.NOR_CFG.OP_TMO_MS = 0)) NOR.NOR_CFG ++
  failIf (decide (fl = 0 ∨ 1000 < fl)) YEW.YEW_CFG ++
  failIf (decide (kk % 64 ≠ 0) || decide (s.dirNow.logSize / 1024 - 64 ≤ kk)) YEW.LOG_CFG ++
  failIf (decide (hi ≤ lo) || decide (lo < 108 ∨ 150 < lo ∨ hi < 108 ∨ 150 < hi)) PWR.PWR_CFG ++
  failIf (decide (tw < 100 ∨ 150 < tw)) PWR.TEMP_CFG

/-- Table 16-4 and R464 for a lane. -/
def State.chkCross (s : State) (n : LaneIx) : List Nat :=
  let out := s.laneOut n.val
  failIf (out && s.flag (LOOP.ENG_CFG.EN n)) (LOOP.ENG_CFG n) ++
  failIf (out && decide (s.fld (FBK.IN_CFG.MODE n) ≠ 0)) (FBK.IN_CFG n) ++
  gens.flatMap (fun g => failIf (out && s.genEn n g) (PWMG.G_CFG n g)) ++
  failIf (s.flag (LANE.LINK_CFG.AUTOFENCE n) && decide (s.fld (LANE.LINK_CFG.FENCE_THR n) = 0)) (LANE.LINK_CFG n)

/-- Every address that a failing condition names (R437). -/
def State.sealFails (s : State) : List Nat :=
  s.chkGeom ++ s.chkPose ++ s.chkMap ++ s.chkFpe ++ s.chkSched ++
  s.laneList.flatMap (fun n => s.chkOutl n ++ s.chkSnap n ++ s.chkPwmg n ++ s.chkLoop n ++ s.chkFbk n ++ s.chkCross n) ++
  s.chkGnss ++ s.chkTpls ++ s.chkLaurel ++ s.chkRing ++ s.chkHost

/-- The lowest of them, as page and offset. -/
def State.sealVerdict (s : State) : Option (Nat × Nat) :=
  match s.sealFails with
  | [] => none
  | a :: as => let m := as.foldl min a; some (m / 4096, m % 4096)

/-! What a seal does. -/

/-- SEAL_STAT.RESULT and CAUSE. -/
def srChecking : Nat := 1
def srPassed : Nat := 2
def srFailed : Nat := 3
def scCrc : Nat := 1
def scCheck : Nat := 2
def scImage : Nat := 3
def scAbandoned : Nat := 4

/-- The seal ends: SEAL_STAT, and SEAL_DONE as RESULT leaves CHECKING. -/
def State.sealStat (s : State) (result cause page off : Nat) : State :=
  (s.setReg SYS.SEAL_STAT (wd (result * 268435456 + cause * 16777216 + page % 4096 * 4096 + off % 4096))).setEvt SYS.SYS_EVT.SEAL_DONE

/-- A failed seal: the device stays in PRIMROSE; record SEAL_FAIL (R437). -/
def State.sealFailed (s : State) (cause page off : Nat) : State :=
  ((({ s with checking := false }).sealStat srFailed cause page off)).record Rec.SEAL_FAIL 0 (wd page) (wd off) 0

/-- PG_CFG_CRC of every present page, from the snapshot's registers (R436). -/
def State.pageCrcs (s : State) (snap : State) : State :=
  overList (presentPages s.member) (fun p s => s.setReg (hdr p HDR.PG_CFG_CRC) (crc32 (snap.pageBytes p))) s

/-- What a successful seal does in the cycle in which it enters IDLE (R439, R31, R446): `leave` are the lanes that may leave
FENCED, and those of them with their bit in `retrain` are retrained and pass their self-check. -/
def State.sealEffects (s : State) (leave : LaneIx → Bool) (retrain : BitVec 16) : State :=
  let s := overList s.laneList (fun n s =>
    if s.fenced n && leave n then (if retrain.toNat.testBit n.val then s.unfence n else s.staysFenced n) else s) s
  let s := s.modFpe (fun f => { f with outs := f.outs.map (fun o =>
    { o with dOn := none, dOff := none, dOnNew := none, dOffNew := none }) })
  let s := overList s.laneList (fun n s => (s.sealHarebell n).sealLoop n) s
  let s := overList s.laneList (fun n s => s.fbkStart n) s
  overList s.laneList (fun n s => if (s.reg SYS.FENCE).toNat.testBit n.val then s.fenceNow n .host else s) s

/-- The device enters IDLE sealed. -/
def State.sealPassed (s : State) (leave : LaneIx → Bool) (retrain : BitVec 16) : State :=
  let s := ({ s with checking := false, idleDrain := false }).sealStat srPassed 0 0 0
  (s.toState .idle).sealEffects leave retrain

/-- A write of SYS.SEAL (R437). -/
def State.writeSeal (s : State) (crc : Word) : State :=
  if s.dev = .primrose ∧ s.checking = false ∧ s.mayChange = true then
    let s := { s with checking := true, sealExp := crc, sealSnap := s.regs, sealFail := s.sealVerdict }
    (s.setReg SYS.SEAL_STAT (wd (srChecking * 268435456))).setReg (hdr 0 HDR.PG_PROG_PCT) 0
  else s.err 0 0x80C .stateRefused

def execSeal (t : Time) (crc : Word) (s : State) : Res :=
  let s := s.at t
  if s.running then .next (s.writeSeal crc) else .next s

/-- SEAL_DONE: the seal ends (R437 steps 2 to 5); after a loss of clocks the device waits for reset instead (R27). -/
def execSealDone (t : Time) (retrain : BitVec 16) (s : State) : Res :=
  let s := s.at t
  if s.checking ∧ s.mayChange = true then
    let snap := { s with regs := s.sealSnap }
    let crc := snap.sealCrc
    let s := (s.pageCrcs snap).setReg SYS.SEAL_CRC_CALC crc
    let s := s.setReg (hdr 0 HDR.PG_PROG_PCT) 10000
    if crc ≠ s.sealExp then .next (s.sealFailed scCrc 0 0x80C)
    else match s.sealFail with
      | some (p, o) => .next (s.sealFailed scCheck p o)
      | none =>
        let bits := (snap.reg SYS.FENCE).toNat ||| (s.reg SYS.FENCE).toNat
        .next (s.sealPassed (fun n => !bits.testBit n.val) retrain)
  else .next s

end Sys2Proof.Machine
end

