-- ==== Sys2Proof/Machine/Write.lean ====
section
/-! DEFINITION. Writing a word to a register by its access codes, and the records of a configuration image and of queue Q3
(R11 to R13, R390, R433, R434, R454, R455). -/
namespace Sys2Proof.Machine

/-- Write the fields of a register by their access codes (Table 0-3): RW and, while unsealed, RWL fields take the value; a 1
clears a W1C bit; a write that meets a sealed RWL field is recorded. -/
def State.writeFields (s : State) (p : Nat) (d : RegDef) (o : Nat) (v : Word) : State :=
  let a := hdr p o
  let old := s.reg a
  let m := wd (d.rw ||| (if s.sealed then 0 else d.rwl))
  let s := s.setReg a (((old &&& ~~~m) ||| (v &&& m)) &&& ~~~(v &&& wd d.w1c))
  if s.sealed && decide (d.rwl ≠ 0) then s.err p o .lockedWrite else s

/-- What a configuration write starts or stops, with the register's word before it: a generator of a lane that is not FENCED
follows its EN bit (R246), G1 and G2 the counter that LINK gives them (R236), the encoder emulation its EN bit (R290), and
the IMU port its own (R73, R74). -/
def State.cfgSide (s : State) (k : PageKind) (i o : Nat) (was : Nat) : State :=
  if k = .pwmg ∧ 0x110 ≤ o ∧ o < 0x120 then
    let n : LaneIx := Fin.ofNat 16 i
    let g : Fin 4 := Fin.ofNat 4 ((o - 0x110) / 4)
    if s.fenced n then s
    else if s.flag (PWMG.G_CFG.EN n g) then
      if (s.gen n g).running || !s.en (pgPwmg n) then s else s.startGen n g s.cyc
    else s.stopGen n g
  else if k = .pwmg ∧ o = 0x100 then
    let n : LaneIx := Fin.ofNat 16 i
    if s.flag (PWMG.BRIDGE_CFG.LINK n) = was.testBit 31 then s
    else if s.linked n then s.followers n s.cyc
    else overList [1, 2] (fun g s => s.modGen n g (fun x => { x.closeSeg s.cyc with halted := false })) s
  else if k = .fbk ∧ (o = 0x118 ∨ o = 0x11C) then
    let n : LaneIx := Fin.ofNat 16 i
    if s.fenced n then s
    else if o = 0x118 ∧ s.flag (FBK.EM_CFG.EN n) = true ∧ was.testBit 31 = false then (s.emStart n).emCheck n
    else s.emCheck n
  else if k = .imu ∧ o = 0x100 then
    let on := s.flag IMU.IMU_CFG.EN
    if on = was.testBit 0 then s else s.imuEnable on
  else s

/-- Write a word of a configuration region, and whether it was ignored as a locked write. -/
def State.writeCfg (s : State) (p : Nat) (k : PageKind) (i o : Nat) (v : Word) : State × Bool :=
  match findReg k o with
  | none => (s.err p o .undefWrite, false)
  | some d => ((s.writeFields p d o v).cfgSide k i o (s.reg (hdr p o)).toNat, s.sealed && decide (d.rwl ≠ 0))

/-! Records (R390). -/

/-- A record of Q3: the host address of its first word and its data words. -/
structure CfgRec where
  addr : Nat
  words : List Word
  deriving DecidableEq, Repr

/-- The record at the front of a byte string, and the bytes after it; none where the bytes end before the record does. -/
def takeRec (bs : List Byte) : Option (CfgRec × List Byte) :=
  let h := leNat (bs.take 4)
  let n := bf h 5 0 + 1
  if bs.length < 4 + 4 * n then none
  else some ({ addr := bf h 31 10 * 4, words := wordsLE n (bs.drop 4) }, bs.drop (4 + 4 * n))

/-- All records of a body; none where it does not divide into records. -/
def recsOf : Nat → List Byte → Option (List CfgRec)
  | _, [] => some []
  | 0, _ => none
  | n + 1, bs =>
    match takeRec bs with
    | none => none
    | some (r, rest) => (recsOf n rest).map (fun l => r :: l)

/-- The record stays within the configuration region of one present page. -/
def CfgRec.inCfg (m : Member) (r : CfgRec) : Bool :=
  let o := r.addr % 4096
  (pageOf m (r.addr / 4096)).isSome && decide (0x100 ≤ o) && decide (o + 4 * r.words.length ≤ 0x800)

/-- Apply the words of a record in order. -/
def State.applyRec (s : State) (r : CfgRec) : State :=
  match pageOf s.member (r.addr / 4096) with
  | none => s
  | some (k, i) =>
    (r.words.foldl (fun (u : State × Nat) w => ((u.1.writeCfg (r.addr / 4096) k i u.2 w).1, u.2 + 4)) (s, r.addr % 4096)).1

/-! Configuration images (R433, R434). -/

/-- An image that the checks 1 to 4 of R434 pass, or the number of the check that fails. -/
inductive Image where
  | bad (check : Nat)
  | good (sealCrc : Word) (recs : List CfgRec)
  deriving DecidableEq, Repr

/-- Checks 1 to 4 of R434 on the active configuration slot. -/
def State.readImage (s : State) : Image :=
  let a := cfgSlotAddr s.cfgSlot
  let h := s.readNor a 64
  let len := leAt h 0x0C 4
  if leAt h 0x3C 4 ≠ (crc32 (h.take 60)).toNat ∨ leAt h 0 4 ≠ 0x47464352 ∨ leAt h 4 2 ≠ 1 ∨
      ((h.drop 0x14).take 0x24).any (fun b => decide (b ≠ 0)) = true then .bad 1
  else if leAt h 6 2 ≠ memberCode s.member ∨ leAt h 8 4 ≠ (s.reg NOR.ROM_ID).toNat then .bad 2
  else if 65472 < len then .bad 3
  else
    let body := s.readNor (a + 64) len
    if leAt h 0x38 4 ≠ (crc32 body).toNat then .bad 3
    else match recsOf body.length body with
      | none => .bad 4
      | some rs => if rs.all (fun r => r.inCfg s.member) then .good (wd (leAt h 0x10 4)) rs else .bad 4

end Sys2Proof.Machine
end

