-- ==== Sys2Proof/Machine/Startup.lean ====
section
/-! DEFINITION. Reset, BOOT, the state changes of SYS.RUN_CTRL, the supply, clock and temperature monitors and PFAIL_N
(R3, R24, R27, R30 to R33, R39, R63, R121, R174, R175, R429 to R446, R459 to R461). -/
namespace Sys2Proof.Machine

/-! Reset. -/

/-- The reset value of MAP.WIN_SHAPE (R118). -/
def winShapeReset : Member → Nat
  | .bl0280 => 0x44
  | .bl0480 => 0x45
  | .bl0880 => 0x55
  | .bl1680 => 0x56

/-- RESET: every register and block at its reset value. What stays: the flash and the fused values, what the recorder keeps for
PFAIL_FLUSH, the supplies as the monitor sees them, the levels at the feedback and direction inputs, and the test access port. -/
def State.clear (s : State) : State :=
  let r : State := { State.reset with
    pending := s.pending, member := s.member, dev := .reset, prev := s.dev, freeIdx := s.freeIdx, inRange := s.inRange,
    nor := { NorState.reset with flash := s.nor.flash, patchMin := s.nor.patchMin, keyStat := s.nor.keyStat },
    yewPort := { YewPort.reset with
      pfailCount := s.yewPort.pfailCount, pfailMs01 := s.yewPort.pfailMs01, pfailPending := s.yewPort.pfailPending },
    tdo := s.tdo, extest := s.extest,
    fbk := s.fbk.map (fun f => { FbkState.reset with lvl := f.lvl }),
    pose := { PoseState.reset with dirLevel := s.pose.dirLevel } }
  ((r.setReg SYS.UID_LO (s.reg SYS.UID_LO)).setReg SYS.UID_HI (s.reg SYS.UID_HI)).setReg MAP.WIN_SHAPE
    (wd (winShapeReset s.member))

/-- The clocks run: REFCLK, the system PLL and the SerDes PLL of each ring (R459). -/
def State.clocksOk (s : State) : State :=
  let s := (s.setFld CLK.CLK_STAT.REFCLK_OK 1).setFld CLK.CLK_STAT.SYS_PLL_LOCK 1
  let s := s.setFld CLK.CLK_STAT.SERDES_A_LOCK 1
  if s.hasRing .b then s.setFld CLK.CLK_STAT.SERDES_B_LOCK 1 else s

/-- BOOT begins with the straps latched (R431, R352). -/
def State.enterBoot (s : State) (straps lockUs : Nat) : State :=
  let s := (s.setReg SYS.STRAP (wd straps)).modRing (fun r => { r with root := straps.testBit 0 })
  (s.clocksOk.setFld CLK.CLK_STAT.PLL lockUs).toState .boot

/-- POWER_ON: OFF to RESET with a power-on clear (R30). -/
def execPowerOn (t : Time) (s : State) : Res :=
  let s := s.at t
  if s.dev = .off then
    .next { s.clear with inRange := Vector.ofFn (fun (i : Fin 6) => decide (i.val < 5) || s.inRange.get i) }
  else .next s

/-- PORST_N_RISE: the straps are sampled, the system PLL locks, and the device enters BOOT (R431). -/
def execPorstNRise (t : Time) (straps : BitVec 4) (lockUs : BitVec 16) (s : State) : Res :=
  let s := s.at t
  if s.dev = .reset then .next (s.enterBoot straps.toNat lockUs.toNat) else .next s

/-- PORST_N_LOW: any state but OFF goes to RESET (R30). -/
def execPorstNLow (t : Time) (s : State) : Res :=
  let s := s.at t
  if s.running then .next s.clear else .next s

/-- SOFT_RESET: RESET, and at once BOOT where the system PLL is locked, since PORST_N is high (Table 1-6, R32). After a
loss of clocks the device stays in RESET until PORST_N_RISE brings the lock. -/
def State.softReset (s : State) : State :=
  if s.clockLost then s.clear else s.clear.enterBoot (s.reg SYS.STRAP).toNat (s.fld CLK.CLK_STAT.PLL)

/-- A RUN_CTRL write that changes nothing (R32). -/
def State.refuseRun (s : State) : State := s.err 0 0x804 .stateRefused

def execSoftReset (t : Time) (s : State) : Res :=
  let s := s.at t
  if s.running then .next (if s.pfailNow then s.refuseRun else s.softReset) else .next s

/-! BOOT (Table 16-2). -/

/-- Steps 2 and 3: a half that fails its memory tests, its self-check or its KAT is QUARANTINED (Table 12-1). -/
def State.bootHalves (s : State) (okA okB : Bool) : State :=
  if !s.twoHalves then s
  else
    let s := if okA then s else s.quarantine .a 0 3
    if okB then s else s.quarantine .b 0 3

/-- Step 4: a lane that fails its training or its self-check is FENCED with cause 2. -/
def State.bootLanes (s : State) (r : BootResult) : State :=
  overList s.laneList (fun n s =>
    if r.laneOk.toNat.testBit n.val then
      s.modLane n (fun l => { l with selfOk := true, selfTest := 0, lastDn := s.now, updAt := s.now })
    else
      let test := (nth 0 r.laneTest n.val).toNat
      let s := s.modLane n (fun l => { l with selfOk := false, selfTest := test })
      let s := if test = 0 then s else s.setEvt (LANE.LANE_EVT.SELF_FAIL n)
      s.fenceNow n .selfCheck) s

/-- The valid directory is written over the copy found invalid; record DIR_REPAIR. -/
def State.repairDir (s : State) (i : Nat) (d : Dir399) : State :=
  let s := (s.eraseNor (i * 0x1000) 0x1000).progNor (i * 0x1000) (dirBytes d)
  (s.setEvt NOR.NOR_EVT.DIR_REPAIR).record Rec.DIR_REPAIR pgNor 0 (wd d.gen) 0

/-- Step 6: the JEDEC ID and the directory (R399, R400). -/
def State.bootNor (s : State) (r : BootResult) : State :=
  if r.norPresent then
    let s := s.modNor (fun x => { x with present := true, jedec := r.jedec.toNat })
    let s := match s.dirCopy 0, s.dirCopy 1 with
      | some d, none => s.repairDir 1 d
      | none, some d => s.repairDir 0 d
      | _, _ => s
    let s := s.modNor (fun x => { x with dir := s.dirInForce })
    s.setFld SYS.BOOT_STAT.NOR_DIR_OK (b2n s.nor.dir.isSome)
  else s

/-- STRAP[1]: NOR_SKIP (Table 16-1). -/
def State.norSkip (s : State) : Bool := (s.reg SYS.STRAP).toNat.testBit 1

/-- Step 7: the patch image of the active slot (R402). -/
def State.bootPatch (s : State) : State :=
  if s.norSkip || !s.nor.present || !s.patchValid then s
  else
    let n := s.patchCheck s.patchSlot
    let s := s.setFld SYS.BOOT_STAT.PATCH_TRIED 1
    if n = 0 then
      let ver := leAt (s.readNor (patchSlotAddr s.patchSlot) 128) 0x0C 4
      { (s.setFld SYS.BOOT_STAT.PATCH_OK 1).modNor (fun x => { x with patchVer := ver }) with patchOk := true }
    else
      let s := (s.setEvt NOR.NOR_EVT.AUTH_FAIL).record Rec.PATCH_AUTH_FAIL pgNor 0 (wd n) 0
      s.record Rec.PATCH_ROM_ONLY 0 (wd n) 0 0

/-- An image that fails checks 1 to 4: CAUSE IMAGE, and record SEAL_FAIL with page 0x007 and the check's number (R434). -/
def State.imageBad (s : State) (k : Nat) : State :=
  (s.setReg SYS.SEAL_STAT (wd (srFailed * 268435456 + scImage * 16777216 + 0x007 * 4096 + k))).record Rec.SEAL_FAIL 0
    (wd 0x007) (wd k) 0

/-- Check 5 of R434: the seal, with every record applied. -/
def State.imageSeal (s : State) (crc : Word) : State :=
  let c := s.sealCrc
  let s := ((s.pageCrcs s).setReg SYS.SEAL_CRC_CALC c).setReg (hdr 0 HDR.PG_PROG_PCT) 10000
  if c ≠ crc then s.sealFailed scCrc 0 0x80C
  else match s.sealVerdict with
    | some (p, o) => s.sealFailed scCheck p o
    | none => (s.setFld SYS.BOOT_STAT.CFG_OK 1).sealPassed (fun _ => false) 0

/-- Step 8: the configuration image (R434). The device is in IDLE where its seal passes. -/
def State.bootImage (s : State) : State :=
  if s.norSkip || !s.nor.present || !s.cfgValid then s
  else
    let s := s.setFld SYS.BOOT_STAT.CFG_TRIED 1
    match s.readImage with
    | .bad k => s.imageBad k
    | .good crc rs => (rs.foldl State.applyRec s).imageSeal crc

/-- The first BOOT after a power-fail flush writes record PFAIL_FLUSH (R422). -/
def State.bootPfail (s : State) : State :=
  if s.yewPort.pfailPending then
    let y := s.yewPort
    (s.modYewPort (fun y => { y with pfailPending := false })).recordOwn s.ownHalf Rec.PFAIL_FLUSH pgYew
      (wd y.pfailMs01) (wd y.pfailCount) 0
  else s

/-- Step 9: the token and the roles, EPOCH_ADV to every lane that is not FENCED, and the root's FULL enumeration. -/
def State.bootToken (s : State) (r : BootResult) : State :=
  let s := s.bootRoles r.halfAOk r.halfBOk
  let s := s.setLaurel (fun l => { l with half := l.half.map (fun h => { h with lastHb := s.now }), katAt := s.now })
  let s := s.sendEpochAdv
  if s.ring.root then
    let s := s.modRing (fun g => { g with
      nodeId := 0, assigned := true, nNodes := 1, present := markPresent g.present 0 s.now })
    s.enumStart 1
  else s

/-- BOOT_EXIT: the steps of Table 16-2 complete. -/
def State.bootExit (s : State) (r : BootResult) : State :=
  let s := s.setFld SYS.BOOT_STAT.BOOT_MS r.ms.toNat
  if r.romOk then
    let s := s.clocksOk.setFld SYS.BOOT_STAT.ROM_OK 1
    let s := s.setFld SYS.BOOT_STAT.HALVES_OK (b2n (r.halfAOk && (r.halfBOk || decide (memberHalves s.member = 1))))
    let s := (s.bootHalves r.halfAOk r.halfBOk).bootLanes r
    let s := s.setFld SYS.BOOT_STAT.LANES_OK (b2n (s.laneList.all (fun n => !s.fenced n)))
    let s := (s.modPort .a (fun p => { p with bypTest := r.ringAOk })).modPort .b (fun p => { p with bypTest := r.ringBOk })
    let s := ((s.bootNor r).bootPatch).bootImage
    let s := if s.dev = .boot then s.toState .primrose else s
    (s.bootLog.bootPfail).bootToken r
  else { s with romFail := true }

def execBootExit (t : Time) (r : BootResult) (s : State) : Res :=
  let s := s.at t
  if s.dev = .boot ∧ s.romFail = false ∧ s.mayChange = true then .next (s.bootExit r) else .next s

/-! SYS.RUN_CTRL (Table 1-8, R32, R33, R442, R445). -/

/-- State changes are open: no PFAIL_N fall, not even in this SCLK cycle (R33), no clock loss, no WAKE under way. -/
def State.runOpen (s : State) : Bool := s.mayChange && s.waking.isNone

/-- The WAKE that has just completed did so in this SCLK cycle (R442). -/
def State.wokeNow (s : State) : Bool := decide (s.dev = .idle ∧ s.prev = .standby ∧ s.devAt / tclkPs = s.now / tclkPs)

/-- ARM: outlet travel is zeroed and the lanes leave safe state (R63, R121, Table 1-6). -/
def State.arm (s : State) : State :=
  if s.dev = .idle ∧ s.runOpen = true ∧ s.wokeNow = false then
    let u : State := { s with idleDrain := false, lanes := s.lanes.map (fun l => { l with drained := false }) }
    let s := u.toState .armed
    (s.armTravel.armFpe).releaseSafe
  else s.refuseRun

def execArm (t : Time) (s : State) : Res :=
  let s := s.at t
  if s.running then .next s.arm else .next s

/-- DISARM: DRAIN to the lanes, and IDLE (R175). -/
def State.disarm (s : State) : State :=
  if (s.dev = .armed ∨ s.dev = .run) ∧ s.runOpen = true then
    let u : State := { s with idleDrain := true, lanes := s.lanes.map (fun l => { l with drained := false }) }
    let s := u.toState .idle
    s.sendCtrl ftDrain
  else s.refuseRun

def execDisarm (t : Time) (s : State) : Res :=
  let s := s.at t
  if s.running then .next s.disarm else .next s

/-- UNSEAL: PRIMROSE, with every register value, map slot and learned delay kept (R435). -/
def State.unseal (s : State) : State :=
  if s.dev = .idle ∧ s.runOpen = true then (s.toState .primrose).settleSafe else s.refuseRun

def execUnseal (t : Time) (s : State) : Res :=
  let s := s.at t
  if s.running then .next s.unseal else .next s

/-- STANDBY: the lanes stop, and GNSS runs in bursts (R444, R308). -/
def State.standby (s : State) : State :=
  if s.dev = .idle ∧ s.runOpen = true then
    let s := (s.toState .standby).settleSafe
    let s := overList s.laneList (fun n s => s.modPwm n (fun p => { p with gen := p.gen.map GenState.stop, sets := [] })) s
    s.gnssStandby
  else s.refuseRun

def execStandby (t : Time) (s : State) : Res :=
  let s := s.at t
  if s.running then .next s.standby else .next s

/-- WAKE: the lane blocks and the other baseband are powered (R445). -/
def State.wake (s : State) : State :=
  if s.dev = .standby ∧ s.runOpen = true then { s with waking := some s.now } else s.refuseRun

def execWake (t : Time) (s : State) : Res :=
  let s := s.at t
  if s.running then .next s.wake else .next s

/-- WAKE_COMPLETE: IDLE; enabled generators restart at u = 0 and j = 0, and GNSS tracks continuously (R309, R445). -/
def execWakeComplete (t : Time) (s : State) : Res :=
  let s := s.at t
  if s.dev = .standby ∧ s.waking.isSome ∧ s.mayChange = true then
    let s := ({ s with waking := none, idleDrain := false }).toState .idle
    let s := overList (s.laneList.filter (fun n => !s.fenced n && s.en (pgPwmg n))) (fun n s => s.pwmEnable n) s
    .next s.gnssWake
  else .next s

/-- A write of SYS.RUN_CTRL: SOFT_RESET whatever else is set, else exactly one bit that applies (R32). -/
def State.runCtrl (s : State) (v : Nat) : State :=
  if v.testBit 6 then (if s.pfailNow then s.refuseRun else s.softReset)
  else
    let b := bf v 5 1
    if b = 1 then s.arm
    else if b = 2 then s.disarm
    else if b = 4 then s.standby
    else if b = 8 then s.wake
    else if b = 16 then s.unseal
    else s.refuseRun

/-- SPEED_INVALID: in RUN the latest pose word has no valid speed, or the quality has been below the minimum for 2 s
(Table 1-6). Deferred ON and rate events go, and QEND is sent to each lane (R121, R174). -/
def execSpeedInvalid (t : Time) (s : State) : Res :=
  let s := s.at t
  let low : Bool := match s.qualLow with | some a => decide (a + 2 * secPs ≤ s.now) | none => false
  if s.dev = .run ∧ s.mayChange = true ∧ s.disarmNow = false ∧ (s.pose.cur.spdValid = false ∨ low = true) then
    .next (((s.toState .armed).armFromRun).sendCtrl ftQend)
  else .next s

/-! PFAIL_N (Table 1-6, R404, R422, R438, R445). -/

/-- A seal under way is abandoned (R438). -/
def State.abandonSeal (s : State) : State :=
  if s.checking then ({ s with checking := false }).sealStat srFailed scAbandoned 0 0 else s

/-- The levels of the ball outputs as the device drives them, and as they stand: PFAIL_N froze them (R30). -/
def State.liveBalls (s : State) : Balls :=
  { gsout := s.gsLevel, tpulse := s.tpulseLevel, tpulseB := s.tpulseBLevel, gifAgc := s.agcLevel }

def State.balls (s : State) : Balls := s.pfailBalls.getD s.liveBalls

/-- PFAIL_FALL: the outputs freeze, the recorder flushes, every lane is held safe, and no state changes until reset. -/
def execPfailFall (t : Time) (s : State) : Res :=
  let s := s.at t
  if s.running ∧ s.pfail = false then
    let s : State := { s with pfail := true, waking := none, pfailBalls := some s.liveBalls }
    let s := (s.setEvt SYS.SYS_EVT.PFAIL).setEvt PWR.PWR_EVT.PFAIL
    let s := s.record Rec.PFAIL 0 (wd s.dev.code) 0 0
    .next ((((s.abandonSeal).pfailYew).pfailCmds).settleSafe)
  else .next s

/-! Clocks, supplies and temperature (R27, R459 to R461). -/

/-- CLOCK_LOSS: the internal oscillator takes over the safety logic, and the device waits for reset (R27). -/
def execClockLoss (t : Time) (pll : Bool) (s : State) : Res :=
  let s := s.at t
  if s.running then
    let s : State := { s with clockLost := true }
    let s := (s.setFld CLK.CLK_STAT.INT_OSC 1).setFld (if pll then CLK.CLK_STAT.SYS_PLL_LOCK else CLK.CLK_STAT.REFCLK_OK) 0
    let s := (s.setEvt (if pll then CLK.CLK_EVT.PLL_UNLOCK else CLK.CLK_EVT.REFCLK_LOSS)).setEvt SYS.SYS_EVT.CLOCK_LOSS
    .next ((s.record Rec.CLOCK_LOSS 0 (wd (b2n pll)) 0 0).settleSafe)
  else .next s

/-- SERDES_UNLOCK: the ring's receiver declares its link down (R459). -/
def execSerdesUnlock (t : Time) (p : Ring) (s : State) : Res :=
  let s := s.at t
  if s.ringLive p then
    let s := s.setFld (if p = .a then CLK.CLK_STAT.SERDES_A_LOCK else CLK.CLK_STAT.SERDES_B_LOCK) 0
    let s := s.setEvt (if p = .a then CLK.CLK_EVT.SERDES_A_UNLOCK else CLK.CLK_EVT.SERDES_B_UNLOCK)
    let s := s.bump (if p = .a then ⟨CLK.SERDES_LOCK_CNT, 15, 0⟩ else ⟨CLK.SERDES_LOCK_CNT, 31, 16⟩) 1
    if (s.port p).link = .up then .next (s.linkDown p) else .next s
  else .next s

/-- SUPPLY_OOR: OOR, its count and record; supplies 0, 1, 3 and 5 take every lane to safe state until RESET (R460). -/
def execSupplyOor (t : Time) (i : Supply) (meas : BitVec 16) (s : State) : Res :=
  let s := s.at t
  if s.inRange.get i then
    let s : State := { s with inRange := s.inRange.set i false }
    if s.running then
      let s := s.setEvt ⟨PWR.PWR_EVT, i.val, i.val⟩
      let s := s.bump ⟨PWR.OOR_CNT, 4 * i.val + 3, 4 * i.val⟩ 1
      let s := s.record Rec.SUPPLY_OOR 0x002 (wd i.val) (wd meas.toNat) 0
      if i = 2 ∨ i = 4 then .next s else .next ({ s with supplySafe := true }).settleSafe
    else .next s
  else .next s

/-- SUPPLY_IN_RANGE: the supply has been inside its window for 100 µs (R460). -/
def execSupplyInRange (t : Time) (i : Supply) (_ : BitVec 16) (s : State) : Res :=
  let s := s.at t
  .next { s with inRange := s.inRange.set i true }

/-- TEMP_READ: a reading of the lane die or of the spine die, 0.1 °C (R461, Table 17-8). -/
def execTempRead (t : Time) (laneDie : Bool) (temp : BitVec 16) (s : State) : Res :=
  let s := s.at t
  if s.running then
    let hi := if laneDie then 31 else 15
    let ix : Fin 2 := if laneDie then 1 else 0
    let old := s.sfld ⟨PWR.TEMP_MAX, hi, hi - 15⟩
    let s := s.setFld ⟨PWR.TEMP, hi, hi - 15⟩ temp.toNat
    let s := if s.tempSeen.get ix = false ∨ old < temp.toInt then s.setFld ⟨PWR.TEMP_MAX, hi, hi - 15⟩ temp.toNat else s
    let s : State := { s with tempSeen := s.tempSeen.set ix true }
    let warn : Int := 10 * (s.fld PWR.TEMP_CFG.TWARN : Int)
    let bit : Fld := ⟨PWR.PWR_STAT, 16 + ix.val, 16 + ix.val⟩
    if warn ≤ temp.toInt then .next ((s.setFld bit 1).setEvt PWR.PWR_EVT.TEMP_HI)
    else if temp.toInt ≤ warn - 50 then .next (s.setFld bit 0)
    else .next s
  else .next s

/-! SAFE_N by the loss of both halves (R3, R24). -/

/-- NO_CHARGE_TIMEOUT: neither half in charge for 20 µs; SAFE_N of every lane goes low (R24). -/
def execNoChargeTimeout (t : Time) (s : State) : Res :=
  let s := s.at t
  if s.up then .next s.settleSafe else .next s

/-- SINGLE_HALF_STOP: DR_MS after the declaration, SAFE_N of every lane goes low (R3). -/
def execSingleHalfStop (t : Time) (s : State) : Res :=
  let s := s.at t
  if s.up then .next s.settleSafe else .next s

end Sys2Proof.Machine
end

