-- ==== Sys2Proof/Machine/Access.lean ====
section
/-! DEFINITION. What a host access does: the interrupt line, queue flushes, the page control register, the side effects of a read
and the action of a written word (R11 to R14, R379, R380, R389, R391, R392, R448 to R455, R488). The host port, the tunnel's
target and a bulk item all use it. -/
namespace Sys2Proof.Machine

/-! HIRQ_N (R380). -/

/-- The level HIRQ_N takes: it rises when no summary bit is left or HIRQ_EN is 0, and falls when one is set and the hold-off
has passed. -/
def State.hirqSettle (s : State) : State :=
  if s.hirqLow then
    if s.flag HOSTQ.HP_CFG.HIRQ_EN && !s.hpOff && s.irqAny then s else { s with hirqLow := false, hirqRose := s.now }
  else if s.hirqMay && s.irqAny then { s with hirqLow := true }
  else s

/-! Queue flushes (R389). -/

/-- Retire every item of a host-to-device queue as FLUSHED, the open one last. -/
def State.flushItems : Nat → State → Nat → State
  | 0, s, _ => s
  | n + 1, s, q =>
    match (s.q q).segs with
    | [] => s
    | gs =>
      match splitItem gs with
      | some (i, _) => State.flushItems n (s.retire q i.length stFlushed 0) q
      | none => s.retire q gs.length stFlushed 0

/-- An open item of Q4 of which every segment that came has been taken completes FLUSHED too. -/
def State.flushTaken (s : State) (q : Nat) : State :=
  if q = 4 ∧ (s.q 4).open_ = true ∧ (s.q 4).segs = [] then
    match s.nor.long with
    | some c => if c.got = 0 then s else s.complete 4 stFlushed c.lastSeq c.lastTag 0
    | none => s
  else s

/-- Discard every item of a device-to-host queue, as consumed. -/
def State.discardItems : Nat → State → Nat → State
  | 0, s, _ => s
  | n + 1, s, q =>
    match (s.q q).items with
    | [] => s
    | _ :: _ =>
      State.discardItems n ((s.modQ q (fun u => { u with flushed := satAdd 16 u.flushed 1 })).consumeHead q) q

/-- Empty queue `q` (R389): the expected SEQ of a host-to-device queue is 0 afterwards (R384). -/
def State.flushQ (s : State) (q : Nat) : State :=
  if qH2D q then
    let s := (s.flushItems (s.q q).segs.length q).flushTaken q
    let s := if q ≤ 1 then s.setVerdicts (decide (q = 1)) [] else s
    s.modQ q (fun u => { u with seq := 0, open_ := false, taken := 0 })
  else (s.discardItems (s.q q).items.length q).modQ q (fun u => { u with bridged := 0 })

/-- A write of HOSTQ.Q_FLUSH; a long command may then go on, since Q4 or the credit of Q10 and Q11 has changed. -/
def State.flushMask (s : State) (v : Nat) : State :=
  ((List.range 32).foldl (fun s q => if v.testBit q then s.flushQ q else s) s).pump

/-- HOSTQ.PG_CTRL.EN = 0: every host-to-device queue is flushed, so the page is drained (R389). -/
def State.hostDrain (s : State) : State :=
  ((List.range 32).foldl (fun s q => if qH2D q then s.flushQ q else s) s).setDrained 4

/-! The tunnel's sender (R368). -/

/-- The words of TUN_BUF. -/
def State.tunBuf (s : State) (n : Nat) : List Byte :=
  (List.range n).flatMap (fun i => leBytes 4 (s.reg (RTUN.TUN_BUF i)).toNat)

/-- A write of TUN_CTRL: GO sends one request, or is refused while BUSY. -/
def State.tunGo (s : State) (v : Nat) : State :=
  let op := bf v 17 16
  let n := bf v 4 0
  if v.testBit 31 = false then s
  else if s.rtun.busy then s.err 0x00B 0x810 .tunBusy
  else if (op = 1 ∨ op = 2) ∧ 1 ≤ n ∧ n ≤ 16 then
    let tag := s.rtun.tag + 1
    let d := [BitVec.ofNat 8 op, BitVec.ofNat 8 n] ++ leBytes 2 tag.toNat ++
      leBytes 4 (bf (s.reg RTUN.TUN_ADDR).toNat 23 0) ++ (if op = 2 then s.tunBuf n else [])
    let s : State := { s with rtun := { s.rtun with
      busy := true, done := false, status := 0, words := 0, tag := tag, op := op, count := n, sentAt := s.now } }
    let node := bf (s.reg RTUN.TUN_NODE).toNat 9 0
    let f := { newFrame .ctrl s.ring.nodeId (BitVec.ofNat 10 node) 0 s.rgen s.launchHops d with tun := true }
    s.streamSend { fseq := 0, frame := f, queue := none, seq := 0, tag := 0, cmpl := false, sentAt := s.now, tries := 0 }
  else s

/-! PG_CTRL (R450 to R452). -/

/-- What EN = 0 starts on a page whose block drains. -/
def State.pageStop (s : State) (k : PageKind) (i : Nat) : State :=
  let n : LaneIx := Fin.ofNat 16 i
  match k with
  | .hostq => s.hostDrain
  | .rtx => s.ringDrain (ringOf i)
  | .map => s.startFlush
  | .lane => s.laneDisable n
  | .pwmg => s.pwmDrain n
  | .loop => s.loopDrain n
  | .fbk => s.fbkStop n
  | _ => s

/-- What EN = 1 restarts. -/
def State.pageStart (s : State) (k : PageKind) (i : Nat) : State :=
  let n : LaneIx := Fin.ofNat 16 i
  match k with
  | .lane => s.laneEnable n
  | .pwmg => s.pwmEnable n
  | .loop => s.modEng n (fun e => { e with draining := false })
  | .rtx => s.modRing (fun r => { r with strokeRsync := true })
  | .fbk => s.fbkEnable n
  | _ => s

/-- The EN bit a write of PG_CTRL gives a draining page: a change starts or ends the drain. The block of a FENCED lane stands
still, so its page is drained at once. -/
def State.writeEn (s : State) (p : Nat) (k : PageKind) (i : Nat) (want : Bool) : State :=
  let a := hdr p HDR.PG_CTRL
  if want = s.en p then (if want && decide (k = .fbk) && !s.pageFenced k i then s.pageStart k i else s)
  else
    let s := s.setReg a (wd (setBf (s.reg a).toNat 0 0 (b2n want)))
    if want then
      let s := s.clearDrained p
      if s.pageFenced k i then s else s.pageStart k i
    else if s.pageFenced k i then s.setDrained p else s.pageStop k i

/-- SOFT_RST is accepted on the page (R451). -/
def State.softOk (s : State) (p : Nat) (k : PageKind) : Bool :=
  if k.drains then s.drainedBit p else decide (s.dev = .primrose ∨ s.dev = .idle ∨ s.dev = .standby)

/-- The W1C and RC bits of a register of page `p` and its repeats return to 0. -/
def State.softReg (p : Nat) (d : RegDef) (s : State) : State :=
  if d.w1c ||| d.rc = 0 then s else overList d.offsets (fun o s => s.clearBits (p * 4096 + o) (d.w1c ||| d.rc)) s

/-- The counters and maxima that a page keeps outside its registers. -/
def State.softCounters (s : State) (k : PageKind) : State :=
  match k with
  | .yew => { s with yew := s.yew.map (fun y => { y with drop := 0, ovw := 0, suppCnt := 0 }) }
  | .hostq => { s with hq := s.hq.map (fun u => { u with seqErr := 0, flushed := 0 }) }
  | .pwr => { s with tempSeen := Vector.replicate 2 false }
  | _ => s

/-- What SOFT_RST returns to reset: W1C and RC fields, RAW, PG_ERR_FIRST and FAULT of the page, with the counters a block keeps
for it. -/
def State.softClear (s : State) (p : Nat) (k : PageKind) : State :=
  let s := overList (regsOf k) (State.softReg p) s
  let s := ((s.setReg (hdr p HDR.PG_IRQ_RAW) 0).setReg (hdr p HDR.PG_ERR_FIRST) 0).clearBits (hdr p HDR.PG_STAT) 1
  s.softCounters k

/-- FREEZE takes or ends the page's snapshot (R452). -/
def State.writeFreeze (s : State) (p : Nat) (k : PageKind) (i : Nat) (on : Bool) : State :=
  let a := hdr p HDR.PG_CTRL
  if on = (s.reg a).toNat.testBit 2 then s
  else if on then
    let u : State := { s with frozen := snapPage (s.view p k i) s.frozen p k 0x800 0xC00 }
    u.setReg a (wd (setBf (s.reg a).toNat 2 2 1))
  else
    let u : State := { s with frozen := Sparse.clearRange s.frozen (p * 4096 + 0x800) (p * 4096 + 0xC00) }
    u.setReg a (wd (setBf (s.reg a).toNat 2 2 0))

/-- A write of PG_CTRL: EN and DRAIN, then SOFT_RST, then FREEZE at the end of the cycle. -/
def State.writeCtrl (s : State) (p : Nat) (k : PageKind) (i v : Nat) : State :=
  if k = .sys ∧ v.testBit 1 then s.softReset
  else
    let want := v.testBit 0 && !v.testBit 3
    let ok := s.softOk p k
    let s := if k.drains then s.writeEn p k i want else if want then s else s.err p 0x004 .stateRefused
    let s := if v.testBit 1 then (if ok then s.softClear p k else s.err p 0x004 .stateRefused) else s
    s.writeFreeze p k i (v.testBit 2)

/-- What has come about in a lane's block since its last command, before the host sees or changes its page: gates of PROP
periods (R204), reloads and compare sets (R239, R242). -/
def State.settlePage (s : State) (k : PageKind) (i : Nat) : State :=
  let n : LaneIx := Fin.ofNat 16 i
  match k with
  | .outl => s.settleBank n
  | .pwmg => s.pwmNow n
  | _ => s

/-! Reads (R11, R14, R452). -/

/-- Store the words that follow a register in its page. -/
def State.latchWords (s : State) (a : Nat) (ws : List Word) : State :=
  (ws.foldl (fun (u : State × Nat) w => (u.1.setReg u.2 w, u.2 + 4)) (s, a)).1

/-- The three words that a read of SQ_E0 latches. -/
def sqWords (e : Option QEntry) : List Word :=
  match e with
  | none => [0, 0, 0]
  | some e =>
    let st := match e.st with | .waiting => 1 | .armed => 2
    [wd (st * 1073741824 + e.outlet.val * 67108864 + e.typ.code * 16777216 + e.cls.toNat * 2097152 + e.xv / 4294967296 % 65536),
      wd (e.val % 16777216), wdI (satS 32 e.c)]

/-- The six words that a read of SOL_TIME_LO latches. -/
def solWords (x : Option Solution) : List Word :=
  match x with
  | none => [0, 0, 0, 0, 0, 0]
  | some x => [wd (x.time.toNat / 4294967296), x.e, x.n, x.u, wd (x.vAcc.toNat * 65536 + x.hAcc.toNat),
      wd (x.refStn.toNat * 65536 + x.corrAge.toNat)]

/-- The words that a read of a register latches into the registers after it. -/
def State.latched (s : State) (k : PageKind) (i o : Nat) : List Word :=
  let n : LaneIx := Fin.ofNat 16 i
  match k with
  | .hostq => if o = 0xC04 then [wd (s.q s.qIdx).drops] else []
  | .yew =>
    if o = 0x820 then [wd (s.yewPort.flushRt / nsPs / 4294967296)]
    else if o = 0xC14 then (List.range 7).map (fun j => s.recWord (j + 1))
    else []
  | .rtime => if o = 0x808 then [wd (s.ns / 4294967296)] else []
  | .gnss =>
    if o = 0x810 then solWords (s.gnss.sol.get (halfIx i).ix)
    else if o = 0xC04 then let c := s.chSel (halfIx i); [wd (c.cn0 * 65536 + c.lock % 65536)]
    else []
  | .tpls => if o = 0x814 then [wd (s.time.nextRt / 4294967296)] else []
  | .pose => if o = 0x840 then (List.range 15).map (fun m => wd (leAt s.pose.cur.bytes (4 * (m + 1)) 4)) else []
  | .fpe =>
    if o = 0xC04 then
      let x := s.fo (s.idxOf FPE.OUT_IDX 128)
      let w := x.win.getD 0
      [wd x.flow, wd x.duty, wd x.free, wd w, wd (w / 4294967296 % 65536)]
    else []
  | .map => if o = 0xC04 then [wdI s.slotSel.tc, wdI s.slotSel.tr] else []
  | .geom => if o = 0xC04 then [wd (s.trvSel.t / 4294967296), wdI s.trvSel.s, wd s.trvSel.r] else []
  | .lane =>
    if o = 0xC04 then sqWords (s.sqSel n)
    else if o = 0xC24 then [wd ((s.ltrvSel n).tl / 4294967296), wdI (s.ltrvSel n).sk]
    else []
  | .pwmg =>
    if 0x880 ≤ o ∧ o < 0x8A0 ∧ o % 8 = 0 then [wd (s.gen n (Fin.ofNat 4 ((o - 0x880) / 8))).cmpAct] else []
  | .fbk => if o = 0x808 then [wdI (s.fbkOf n).spd, wd (s.fbkOf n).freq] else []
  | _ => []

/-- What a block's own counters and measurements do when their register is read. -/
def State.readBlock (s : State) (k : PageKind) (i o : Nat) (w : Word) : State :=
  if o = HDR.PG_PROG_PCT ∧ s.progOpen k then { s with freeIdx := s.freeIdx + 1 }
  else match k with
  | .clk => if o = 0x808 then { s with freeIdx := s.freeIdx + 4 } else s
  | .loop => if o = 0x864 then { s with freeIdx := s.freeIdx + 1 } else s
  | .pwr =>
    if o = 0x808 ∨ o = 0x80C ∨ o = 0x810 then { s with freeIdx := s.freeIdx + 4 }
    else if o = 0x818 then { s with tempSeen := Vector.replicate 2 false }
    else s
  | .yew =>
    if o = 0x810 then { s with yew := s.yew.map (fun y => { y with drop := 0 }) }
    else if o = 0x814 then { s with yew := s.yew.map (fun y => { y with ovw := 0 }) }
    else if o = 0x818 then s.modCopy (s.inCharge.getD .a) (fun y => { y with suppCnt := 0 })
    else s
  | .hostq =>
    if o = 0xC04 then { s with dropQ := s.qIdx }
    else if o = 0xC08 then
      s.modQ s.dropQ (fun u => { u with seqErr := u.seqErr - w.toNat / 65536, flushed := u.flushed - w.toNat % 65536 })
    else s
  | .lane =>
    -- the highest OCC since this read starts from the present one (R179)
    let n : LaneIx := Fin.ofNat 16 i
    if o = 0x884 then s.setFld ⟨LANE.SQ_PEAK n, 6, 0⟩ (s.lane n).occ else s
  | _ => s

/-- The side effects of a read that answered `w`: words latched, RC fields cleared. -/
def State.readSide (s : State) (p : Nat) (k : PageKind) (i o : Nat) (d : RegDef) (w : Word) : State :=
  let s := s.latchWords (p * 4096 + o + 4) (s.latched k i o)
  let s := if d.rc = 0 then s else s.clearBits (p * 4096 + o) d.rc
  s.readBlock k i o w

/-- A read comes from a snapshot or from the spine's copy, and so has no side effect (R452, R488). -/
def State.readQuiet (s : State) (p : Nat) (k : PageKind) (i o : Nat) : Bool :=
  ((s.reg (hdr p HDR.PG_CTRL)).toNat.testBit 2 && decide (0x800 ≤ o) && decide (o < 0xC00)) || s.fromCopy k i o

/-- One word read by the host: the value, and the state after. An absent page and an undefined offset read 0 (R2, R378). -/
def State.hostRead (s : State) (a : Nat) : Word × State :=
  match pageOf s.member (a / 4096) with
  | none => (0, s)
  | some (k, i) =>
    let o := a % 4096
    match findReg k o with
    | none => (0, s)
    | some d =>
      if s.readQuiet (a / 4096) k i o then (s.view (a / 4096) k i o, s)
      else if k = .mbox ∧ 0x814 ≤ o ∧ o % 16 = 4 then s.mkRx ((o - 0x810) / 16)
      else
        let s := s.settlePage k i
        let w := s.view (a / 4096) k i o
        (w, s.readSide (a / 4096) k i o d w)

/-! Writes. -/

/-- A write of a header register but PG_CTRL: 1s clear W1C bits, and a 1 to VALID clears PG_ERR_FIRST (R454). -/
def State.writeHdr (s : State) (p o : Nat) (d : RegDef) (v : Word) : State :=
  if o = HDR.PG_ERR_FIRST then (if v.toNat.testBit 31 then s.setReg (hdr p o) 0 else s) else s.writeFields p d o v

/-- QIRQ_MASK: a bit that becomes pending sets QIRQ (R388). -/
def State.writeQmask (s : State) (v : Word) : State :=
  let old := s.reg HOSTQ.QIRQ_RAW &&& s.reg HOSTQ.QIRQ_MASK
  let s := s.setReg HOSTQ.QIRQ_MASK v
  if s.reg HOSTQ.QIRQ_RAW &&& v &&& ~~~old = 0 then s else s.setEvt HOSTQ.HP_EVT.QIRQ

/-- LAUREL_CTRL (R332, R336, R337): the outcome of a KAT that a write starts comes from outside, so it is free. -/
def State.writeLaurel (s : State) (v : Nat) : State :=
  let s := if v.testBit 0 then s.handover else s
  let s :=
    if v.testBit 1 then
      let (a, s) := s.free
      let (b, s) := s.free
      s.kat (a.toNat.testBit 0) (b.toNat.testBit 0)
    else s
  let s := if v.testBit 4 then s.rejoin .a else s
  if v.testBit 5 then s.rejoin .b else s

/-- ENG_CTRL: SWAP of the loops and RESTART (R263, R268). -/
def State.writeEng (s : State) (n : LaneIx) (v : Nat) : State :=
  let s := if bf v 10 8 = 0 then s else s.swapLoops n (bf v 10 8)
  if v.testBit 0 then s.engRestart n else s

/-- MAP.WIN_CTRL (R114). DESIGN CHOICE (log 120): of a write with both bits, FLUSH acts first, and ADV_JOB is judged on the slots
that it leaves. -/
def State.writeWin (s : State) (v : Nat) : State :=
  let s := if v.testBit 0 then s.winFlush else s
  if v.testBit 1 then s.advJob else s

/-- TBL_WINx: entry x of the inactive bank of the selected product (R142). -/
def State.writeTbl (s : State) (x : Nat) (v : Word) : State :=
  let k := (2 * s.fld RATE.TBL_SEL.PROD + (1 - s.fpe.bank)) * 256 + x
  s.modFpe (fun e => { e with tables := Sparse.set noWord e.tables k v })

/-- CODE_CFG of the code that CODE_IDX selects (R412). -/
def State.writeCode (s : State) (v : Word) : State :=
  let c := s.idxOf YEW.CODE_IDX 1024
  { s with yewCfg := Sparse.set codeReset s.yewCfg c (v &&& 0x80FFFFFF#32) }

/-- RTXA.RING_CTRL (R352, R353). -/
def State.writeRing (s : State) (v : Nat) : State :=
  let s := if v.testBit 0 then s.enumCtrl else s
  if v.testBit 1 then s.joinCtrl else s

/-- The runtime registers of the PWMG page. -/
def State.writePwmg (s : State) (n : LaneIx) (d : RegDef) (o : Nat) (v : Word) : State :=
  let g : Fin 4 := Fin.ofNat 4 ((o - 0x840) / 16)
  if o = 0x808 then s.writeCommit n v.toNat s.cyc
  else if 0x840 ≤ o ∧ o < 0x880 then
    if o % 16 = 0 then s.writePer n g v
    else if o % 16 = 4 then s.writeCmp n g v s.cyc
    else if o % 16 = 8 then s.writeMode n g v s.cyc
    else s
  else s.writeFields (pgPwmg n.val) d o v

/-- A write of a register at 0x800 or above: its own action, or its access codes. -/
def State.writeRun (s : State) (p : Nat) (k : PageKind) (i : Nat) (d : RegDef) (o : Nat) (v : Word) : State :=
  let n : LaneIx := Fin.ofNat 16 i
  let plain := s.writeFields p d o v
  match k with
  | .sys =>
    if o = 0x804 then s.runCtrl v.toNat
    else if o = 0x808 then s.writeFence v.toNat
    else if o = 0x80C then s.writeSeal v
    else plain
  | .laurel => if o = 0x840 then s.writeLaurel v.toNat else plain
  | .hostq => if o = 0x824 then s.flushMask v.toNat else if o = 0x81C then s.writeQmask v else plain
  | .mbox =>
    if 0x810 ≤ o ∧ o % 16 = 0 then s.mkTx ((o - 0x810) / 16) v
    else if 0x810 ≤ o ∧ o % 16 = 8 then (if v.toNat.testBit 0 then s.doorbell ((o - 0x810) / 16) else s)
    else plain
  | .yew => if o = 0xC04 then s.writeCode v else plain
  | .rtx => if o = 0x840 then (if i = 0 then s.writeRing v.toNat else s) else plain
  | .rtun => if o = 0x810 then s.tunGo v.toNat else plain
  | .map => if o = 0x840 then s.writeWin v.toNat else plain
  | .rate => if 0xC00 ≤ o then s.writeTbl ((o - 0xC00) / 4) v else plain
  | .outl => if o = 0x828 then s.faultClr n v.toNat else plain
  | .pwmg => s.writePwmg n d o v
  | .loop =>
    if o = 0x80C then s.writeEng n v.toNat
    else if 0xC40 ≤ o ∧ o < 0xCB8 then s.coefWrite n ((o - 0xC40) / 4) v
    else if o = 0x808 then (s.spKeep n).writeFields p d o v
    else plain
  | .fbk => if o = 0x82C then s.posLoad n v else plain
  | _ => plain

/-- One word written by the host, and whether a sealed field ignored it (R11). A write to an absent page changes nothing. -/
def State.hostWord (s : State) (a : Nat) (v : Word) : State × Bool :=
  let p := a / 4096
  let o := a % 4096
  match pageOf s.member p with
  | none => (s, false)
  | some (k, i) =>
    if s.fromCopy k i o then (s, false)
    else
      let s := s.settlePage k i
      match findReg k o with
      | none => (s.err p o .undefWrite, false)
      | some d =>
        if o = HDR.PG_CTRL then (s.writeCtrl p k i v.toNat, false)
        else if o < 0x100 then (s.writeHdr p o d v, false)
        else if o < 0x800 then
          if k = .rate ∧ o = 0x180 then (if v.toNat.testBit 0 then s.rateSwap else s, false) else s.writeCfg p k i o v
        else (s.writeRun p k i d o v, false)

/-- A host write with what it does to HIRQ_N. -/
def State.hostWrite (s : State) (a : Nat) (v : Word) : State := (s.hostWord a v).1.hirqSettle

/-! Rows. -/

/-- The host port is powered and not disabled by its strap. -/
def State.hostLive (s : State) : Bool := s.running && !s.hpOff

/-- The pages that answer: all, or SYS alone after a failed ROM check (Table 16-2). -/
def State.answers (s : State) (a : Nat) : Bool := !s.romFail || decide (a / 4096 = 0)

/-- A write as a row of its own. -/
def State.rowWrite (s : State) (a : Nat) (v : Word) : State := if s.running && s.answers a then s.hostWrite a v else s

/-- A read as a row of its own: its word is kept in `lastRead`. -/
def State.rowRead (s : State) (a : Nat) : State :=
  if s.running && s.answers a then
    let (w, s) := s.hostRead a
    { s with lastRead := w }
  else s

/-- REGISTER_WRITE (R11, R12, R454, R455). -/
def execRegisterWrite (t : Time) (addr : BitVec 24) (v : Word) (s : State) : Res := .next ((s.at t).rowWrite addr.toNat v)

/-- PAGE_ENABLE: PG_CTRL.EN = 1, with FREEZE as it is (R450). -/
def execPageEnable (t : Time) (page : BitVec 12) (s : State) : Res :=
  let s := s.at t
  let a := hdr page.toNat HDR.PG_CTRL
  .next (s.rowWrite a ((s.reg a &&& 4) ||| 1))

/-- PAGE_DRAIN: PG_CTRL.EN = 0, or DRAIN = 1 (R450). -/
def execPageDrain (t : Time) (page : BitVec 12) (drain : Bool) (s : State) : Res :=
  let s := s.at t
  let a := hdr page.toNat HDR.PG_CTRL
  .next (s.rowWrite a ((s.reg a &&& 4) ||| (if drain then 9 else 0)))

/-- SOFT_RST: PG_CTRL.SOFT_RST = 1, with EN and FREEZE as they are (R451). -/
def execSoftRst (t : Time) (page : BitVec 12) (s : State) : Res :=
  let s := s.at t
  let a := hdr page.toNat HDR.PG_CTRL
  .next (s.rowWrite a ((s.reg a &&& 5) ||| 2))

/-- FREEZE: PG_CTRL.FREEZE, with EN as it is (R452). -/
def execFreeze (t : Time) (page : BitVec 12) (on : Bool) (s : State) : Res :=
  let s := s.at t
  let a := hdr page.toNat HDR.PG_CTRL
  .next (s.rowWrite a ((s.reg a &&& 1) ||| (if on then 4 else 0)))

/-- Q_FLUSH (R389). -/
def execQFlush (t : Time) (v : Word) (s : State) : Res := .next ((s.at t).rowWrite HOSTQ.Q_FLUSH v)

/-- TUN_GO: a write of TUN_CTRL (R368). -/
def execTunGo (t : Time) (v : Word) (s : State) : Res := .next ((s.at t).rowWrite RTUN.TUN_CTRL v)

/-- RC_READ (R11, R14). -/
def execRcRead (t : Time) (addr : BitVec 24) (s : State) : Res := .next ((s.at t).rowRead addr.toNat)

/-- POSE_CUR0 (R78). -/
def execPoseCur0 (t : Time) (s : State) : Res := .next ((s.at t).rowRead (POSE.POSE_CUR 0))

/-- GEOM_TRV_LO (R66). -/
def execGeomTrvLo (t : Time) (s : State) : Res := .next ((s.at t).rowRead GEOM.GEOM_TRV_LO)

/-- SLOT_STAT (R118). -/
def execSlotStat (t : Time) (s : State) : Res := .next ((s.at t).rowRead MAP.SLOT_STAT)

/-- OUT_LEAD (R150). -/
def execOutLead (t : Time) (s : State) : Res := .next ((s.at t).rowRead FPE.OUT_LEAD)

/-- SQ_E0 (R179). -/
def execSqE0 (t : Time) (n : LaneIx) (s : State) : Res := .next ((s.at t).rowRead (LANE.SQ_E0 n))

/-- LTRV_LO (R179). -/
def execLtrvLo (t : Time) (n : LaneIx) (s : State) : Res := .next ((s.at t).rowRead (LANE.LTRV_LO n))

/-- Gg_PER_ACT (R249). -/
def execGPerAct (t : Time) (n : LaneIx) (g : Fin 4) (s : State) : Res := .next ((s.at t).rowRead (PWMG.G_PER_ACT n g))

/-- FBKn.POS (R293). -/
def execFbkPos (t : Time) (n : LaneIx) (s : State) : Res := .next ((s.at t).rowRead (FBK.POS n))

/-- SOL_TIME_LO (R304). -/
def execSolTimeLo (t : Time) (h : Half) (s : State) : Res := .next ((s.at t).rowRead (GNSS.SOL_TIME_LO h.ix))

/-- CH_STAT (R319). -/
def execChStat (t : Time) (h : Half) (s : State) : Res := .next ((s.at t).rowRead (GNSS.CH_STAT h.ix))

/-- TP_NEXT_RT_LO (R320). -/
def execTpNextRtLo (t : Time) (s : State) : Res := .next ((s.at t).rowRead TPLS.TP_NEXT_RT_LO)

/-- RT_NOW_LO (R371). -/
def execRtNowLo (t : Time) (s : State) : Res := .next ((s.at t).rowRead RTIME.RT_NOW_LO)

/-- FLUSH_RT_LO (R427). -/
def execFlushRtLo (t : Time) (s : State) : Res := .next ((s.at t).rowRead YEW.FLUSH_RT_LO)

/-- REC_W0 (R425). -/
def execRecW0 (t : Time) (s : State) : Res := .next ((s.at t).rowRead (YEW.REC_W 0))

/-- Q_ITEMS (R406). -/
def execQItems (t : Time) (s : State) : Res := .next ((s.at t).rowRead HOSTQ.Q_ITEMS)

end Sys2Proof.Machine
end

