-- ==== Sys2Proof/Machine/HostPort.lean ====
section
/-! DEFINITION. The host port's transactions, its queues' ends at the host, and bulk configuration (R373 to R390). -/
namespace Sys2Proof.Machine

/-! Wire bytes (R373, R375). -/

/-- The bytes of a list of words, least significant byte first. -/
def wordBytes (ws : List Word) : List Byte := ws.flatMap (fun w => leBytes 4 w.toNat)

/-- The command, address and count bytes of a register transaction. -/
def regHead (code addr n : Nat) : List Byte := [BitVec.ofNat 8 code] ++ beBytes 3 addr ++ [BitVec.ofNat 8 (n - 1)]

def cmdRd : Nat := 0x0B
def cmdRdf : Nat := 0x0C
def cmdWr : Nat := 0x02
def cmdWrf : Nat := 0x03
def cmdQpush : Nat := 0x38
def cmdQpop : Nat := 0x3B
def cmdCmpl : Nat := 0x3E

/-- Start bytes (R376). -/
def sbData : Byte := 0xA5
def sbEmpty : Byte := 0x99
def sbNotD2H : Byte := 0xF0
def sbTimeout : Byte := 0xE7

/-- ACK bytes (Table 14-2). -/
inductive Ack where
  | done
  | crc
  | refused
  | noCredit
  | dup
  | seqErr
  | closed
  deriving DecidableEq, Repr

def Ack.byte : Ack → Byte
  | .done => 0xA5
  | .crc => 0x5A
  | .refused => 0x3C
  | .noCredit => 0x69
  | .dup => 0x96
  | .seqErr => 0x0F
  | .closed => 0xF0

/-- The bytes that the port drives in a transaction, wait bytes apart. -/
def State.drive (s : State) (bs : List Byte) : State := { s with hostTx := bs }

/-- Answer with an ACK byte; a failed CRC, a refusal and a closed queue are counted (R377, R384, Table 14-13). -/
def State.answer (s : State) (a : Ack) (cmd q : Nat) : State :=
  let s := s.drive [a.byte]
  match a with
  | .crc =>
    ((s.bumpReg HOSTQ.CRC_ERR_CNT 1).setEvt HOSTQ.HP_EVT.CRC_ERR).recordFirst Rec.HP_CRC 0 4 (wd q) (wd cmd) 0
  | .refused | .closed => (s.bumpReg HOSTQ.REFUSE_CNT 1).setEvt HOSTQ.HP_EVT.REFUSED
  | .seqErr =>
    (s.modQ q (fun u => { u with seqErr := satAdd 16 u.seqErr 1 })).setEvt HOSTQ.HP_EVT.SEQ_ERR
  | _ => s

/-- A transaction that HSPI_CS_N ends before its CRC is complete: nothing is applied, and it is counted (R377). -/
def State.cutShort (s : State) : State := ((s.drive []).bumpReg HOSTQ.CRC_ERR_CNT 1).setEvt HOSTQ.HP_EVT.CRC_ERR

/-! Register transactions (R376 to R378). -/

/-- A burst keeps R378: aligned, 1 to 64 words, an incrementing one within its page. -/
def burstOk (addr n : Nat) (fixed : Bool) : Bool :=
  decide (addr % 4 = 0) && decide (1 ≤ n) && decide (n ≤ 64) && (fixed || decide (addr % 4096 + 4 * n ≤ 4096))

/-- The address belongs to a page of a lane that is not FENCED: its data needs a flit round trip. -/
def State.laneRead (s : State) (a : Nat) : Bool :=
  match pageOf s.member (a / 4096) with
  | some (k, i) => k.isLane && !s.pageFenced k i
  | none => false

/-- Read `n` words, each with its effects; `step` is 4, or 0 for RDF. -/
def State.readRun : Nat → State → Nat → Nat → List Word × State
  | 0, s, _, _ => ([], s)
  | n + 1, s, a, step =>
    let (w, s) := s.hostRead a
    let (ws, s) := State.readRun n s (a + step) step
    (w :: ws, s)

/-- RD and RDF: data, or the start byte of a burst that R378 forbids or that is not ready within 2 µs. -/
def State.regRead (s : State) (code addr n : Nat) (ready fixed : Bool) : State :=
  if burstOk addr n fixed = false then s.drive [sbTimeout]
  else if s.answers addr = false ∨ (ready = false ∧ s.laneRead addr = true) then
    (s.drive [sbTimeout]).setEvt HOSTQ.HP_EVT.TIMEOUT
  else
    let (ws, s) := State.readRun n s addr (if fixed then 0 else 4)
    let c := crc8 (regHead code addr n ++ wordBytes ws)
    { s.drive ([sbData] ++ wordBytes ws ++ [c]) with lastRead := (ws.getLast?).getD 0 }

/-- The next SCLK cycle: each word of a burst acts in one of its own (R377). -/
def State.nextCycle (s : State) : State := s.at (s.now + 2500)

/-- Write words in order, one per SCLK cycle, from the cycle after the CRC byte. -/
def State.writeWords : List Word → State → Nat → Nat → State
  | [], s, _, _ => s
  | w :: ws, s, a, step => State.writeWords ws (s.nextCycle.hostWord a w).1 (a + step) step

/-- WR and WRF: checked, applied word by word, and answered. -/
def State.regWrite (s : State) (code addr : Nat) (ws : List Word) (crc : Option Byte) (fixed : Bool) : State :=
  match crc with
  | none => s.cutShort
  | some c =>
    if c ≠ crc8 (regHead code addr ws.length ++ wordBytes ws) then s.answer .crc code 0
    else if burstOk addr ws.length fixed = false ∨ pageOf s.member (addr / 4096) = none ∨ s.answers addr = false then
      s.answer .refused code 0
    else ((State.writeWords ws s addr (if fixed then 0 else 4)).hirqSettle).answer .done code 0

/-- RD (R376, R378). -/
def execRd (t : Time) (addr : BitVec 24) (count : Fin 64) (ready : Bool) (s : State) : Res :=
  let s := s.at t
  if s.hostLive then .next (s.regRead cmdRd addr.toNat (count.val + 1) ready false) else .next s

/-- RDF (R376, R378). -/
def execRdf (t : Time) (addr : BitVec 24) (count : Fin 64) (ready : Bool) (s : State) : Res :=
  let s := s.at t
  if s.hostLive then .next (s.regRead cmdRdf addr.toNat (count.val + 1) ready true) else .next s

/-- WR (R377). -/
def execWr (t : Time) (addr : BitVec 24) (data : List Word) (crc : Option Byte) (s : State) : Res :=
  let s := s.at t
  if s.hostLive then .next (s.regWrite cmdWr addr.toNat data crc false) else .next s

/-- WRF (R377). -/
def execWrf (t : Time) (addr : BitVec 24) (data : List Word) (crc : Option Byte) (s : State) : Res :=
  let s := s.at t
  if s.hostLive then .next (s.regWrite cmdWrf addr.toNat data crc true) else .next s

/-- UNKNOWN_COMMAND: ignored until HSPI_CS_N rises, and counted (R374). -/
def execUnknownCommand (t : Time) (code : Byte) (s : State) : Res :=
  let s := s.at t
  let known := [cmdRd, cmdRdf, cmdWr, cmdWrf, cmdQpush, cmdQpop, cmdCmpl].contains code.toNat
  if s.hostLive ∧ known = false then .next ((s.drive []).bumpReg HOSTQ.REFUSE_CNT 1) else .next s

/-! QPUSH (R382 to R384). -/

/-- The checks 2 to 7 of R384, in their order. -/
def State.pushCheck (s : State) (q sel : Nat) (desc : List Byte) (len : Nat) : Ack :=
  let u := s.q q
  let seq : BitVec 16 := BitVec.ofNat 16 (leAt desc 4 2)
  let flags := leAt desc 1 1
  if qAssigned q = false then .closed
  else if qH2D q = false then .refused
  else if s.hostDraining then .closed
  else if leAt desc 0 1 ≠ sel ∨ 32 ≤ sel ∨ 8192 < leAt desc 2 2 ∨ 8 ≤ flags then .refused
  else if seq + 1 = u.seq then .dup
  else if seq ≠ u.seq then .seqErr
  else if flags.testBit 0 = u.open_ then .refused
  else if s.qFits q len then .done
  else .noCredit

/-- An accepted segment joins its queue, and the expected SEQ advances. -/
def State.joinQueue (s : State) (q : Nat) (desc data : List Byte) : State :=
  let flags := leAt desc 1 1
  let g : Seg :=
    { first := flags.testBit 0, last := flags.testBit 1, cmpl := flags.testBit 2, seq := BitVec.ofNat 16 (leAt desc 4 2),
      tag := BitVec.ofNat 16 (leAt desc 6 2), data := data }
  let s := s.modQ q (fun u => { u with segs := u.segs ++ [g], seq := u.seq + 1, open_ := !g.last })
  if q = 4 then s.pump else s

/-- A push from the host, or from the queue bridge. -/
def State.push (s : State) (sel : Nat) (desc data : List Byte) : Ack × State :=
  let q := sel % 32
  match s.pushCheck q sel desc data.length with
  | .done => (.done, s.joinQueue q desc data)
  | a => (a, s)

/-- QPUSH (R384). Fewer bytes than the descriptor's LEN, or no CRC, are a transaction cut short. -/
def execQpush (t : Time) (sel : Byte) (desc data : List Byte) (crc : Option Word) (s : State) : Res :=
  let s := s.at t
  let q := sel.toNat % 32
  if s.hostLive then
    match crc with
    | none => .next s.cutShort
    | some c =>
      if desc.length ≠ 16 ∨ data.length ≠ leAt desc 2 2 then .next s.cutShort
      else if c ≠ crc32 ([BitVec.ofNat 8 cmdQpush, sel] ++ desc ++ data) then .next (s.answer .crc cmdQpush q)
      else
        let (a, s) := s.push sel.toNat desc data
        .next (s.answer a cmdQpush q)
  else .next s

/-! QPOP and CMPL (R386, R387). -/

/-- The descriptor of an item as QPOP returns it (Table 14-4). -/
def itemDesc (q : Nat) (i : DItem) : List Byte :=
  [BitVec.ofNat 8 q, 3] ++ leBytes 2 i.data.length ++ leBytes 2 i.seq.toNat ++ leBytes 2 i.tag.toNat ++ leBytes 8 (i.time / nsPs)

/-- Step 1 of R387: with ACK = 1 the head is removed where its SEQ is ACK_SEQ. -/
def State.popAck (s : State) (q : Nat) (ackSeq : BitVec 16) : State :=
  match (s.q q).items with
  | [] => s.setEvt HOSTQ.HP_EVT.SEQ_ERR
  | i :: _ => if i.seq = ackSeq then (s.consumeHead q).pump else s.setEvt HOSTQ.HP_EVT.SEQ_ERR

/-- QPOP (R387). -/
def execQpop (t : Time) (sel : Byte) (ackSeq : BitVec 16) (s : State) : Res :=
  let s := s.at t
  let q := sel.toNat % 32
  if s.hostLive then
    if qH2D q then .next (s.drive [sbNotD2H])
    else
      let s := if sel.toNat.testBit 7 then s.popAck q ackSeq else s
      match (s.q q).items with
      | [] => .next (s.drive [sbEmpty])
      | i :: _ =>
        let body := itemDesc q i ++ i.data
        let c := crc32 ([BitVec.ofNat 8 cmdQpop, sel] ++ leBytes 2 ackSeq.toNat ++ body)
        .next (s.drive ([sbData] ++ body ++ leBytes 4 c.toNat))
  else .next s

/-- The eight bytes of a completion (R385). -/
def Completion.bytes (c : Completion) : List Byte :=
  [BitVec.ofNat 8 c.queue, BitVec.ofNat 8 c.status] ++ leBytes 2 c.seq.toNat ++ leBytes 2 c.tag.toNat ++ leBytes 2 c.detail.toNat

/-- CMPL (R386). -/
def execCmpl (t : Time) (ackN maxN : Byte) (s : State) : Res :=
  let s := s.at t
  if s.hostLive then
    let s : State := { s with cmpl := s.cmpl.drop ackN.toNat }
    let out := s.cmpl.take (min 32 maxN.toNat)
    if out.isEmpty then .next (s.drive [sbEmpty])
    else
      let body := BitVec.ofNat 8 out.length :: out.flatMap Sys2Proof.Machine.Completion.bytes
      let c := crc32 ([BitVec.ofNat 8 cmdCmpl, ackN, maxN] ++ body)
      .next (s.drive ([sbData] ++ body ++ leBytes 4 c.toNat))
  else .next s

/-! Interrupts. -/

/-- QUEUE_AGE: the head item reaches AGE_MS (R388). -/
def execQueueAge (t : Time) (q : Fin 32) (s : State) : Res :=
  let s := s.at t
  if s.running ∧ qH2D q.val = false ∧ s.ageDue q.val = true then .next (s.setQirq q.val) else .next s

/-- HIRQ_HOLDOFF_END (R380). -/
def execHirqHoldoffEnd (t : Time) (s : State) : Res :=
  let s := s.at t
  if s.running then .next s.hirqSettle else .next s

/-! Bulk configuration (R390). -/

/-- How a bulk item ends: its status and detail. -/
structure BulkEnd where
  status : Nat
  detail : Nat
  deriving DecidableEq, Repr

/-- Apply the words of a record as a WR, from offset `off` of the item; `lock` is the offset of the first locked word. A word that
resets the device ends the item there. -/
def State.bulkWords : List Word → State → Nat → Nat → Option Nat → Option Nat × State
  | [], s, _, _, lock => (lock, s)
  | w :: ws, s, a, off, lock =>
    let (s, l) := s.nextCycle.hostWord a w
    let lock := if l && lock.isNone then some off else lock
    if s.up then State.bulkWords ws s (a + 4) (off + 4) lock else (lock, s)

/-- Apply the records of an item in order, from offset `off`. -/
def State.bulkRecs : Nat → State → List Byte → Nat → Option Nat → BulkEnd × State
  | 0, s, _, off, _ => ({ status := stBadItem, detail := off }, s)
  | n + 1, s, bs, off, lock =>
    if bs = [] then
      match lock with
      | some o => ({ status := stLocked, detail := o }, s)
      | none => ({ status := stOk, detail := 0 }, s)
    else
      match takeRec bs with
      | none => ({ status := stBadItem, detail := off }, s)
      | some (r, rest) =>
        if burstOk r.addr r.words.length false = false ∨ pageOf s.member (r.addr / 4096) = none then
          ({ status := stBadItem, detail := off }, s)
        else
          let (lock, s) := State.bulkWords r.words s r.addr (off + 4) lock
          State.bulkRecs n s rest (off + 4 + 4 * r.words.length) lock

/-- BULK_CONFIG: the head item of Q3 is applied record by record. -/
def execBulkConfig (t : Time) (s : State) : Res :=
  let s := s.at t
  match (s.q 3).whole with
  | [] => .next s
  | gs :: _ =>
    if s.up then
      let d := itemData gs
      let (e, s) := State.bulkRecs (d.length + 1) s d 0 none
      let s := s.hirqSettle
      if (s.q 3).whole.head? = some gs then .next (s.retireHead 3 e.status (e.detail % 65536)) else .next s
    else .next s

end Sys2Proof.Machine
end

