-- ==== Sys2Proof/Machine/RingRx.lean ====
section
/-! DEFINITION. Retrix: the reception of frames: forwarding, stripping, copying, enumeration, presence, streams, the queue
bridge and the tunnel (R51, R106, R349, R352 to R356, R366 to R368). -/
namespace Sys2Proof.Machine

/-! Kinds of frame (Tables 13-2 and 13-3). -/

def isPace (f : Frame) (port : Nat) : Bool := decide (f.cls = .pace ∧ f.port.toNat = port)
def isStroke (f : Frame) : Bool := decide (f.cls = .stroke)
/-- An ENUM frame with its MODE. -/
def isEnum (f : Frame) (mode : Nat) : Bool := f.enum_ && decide (f.cls = .ctrl) && decide (leAt f.payload 4 1 = mode)
def isAck (f : Frame) (nak : Bool) : Bool := decide (f.cls = .ctrl) && !f.enum_ && f.ack && (f.flag == nak)
/-- A frame of a stream, or a broadcast in CTRL or BULK. -/
def isData (f : Frame) : Bool := decide (f.cls = .bulk ∨ (f.cls = .ctrl ∧ f.enum_ = false ∧ f.ack = false))
def isQbr (f : Frame) : Bool := isData f && f.qbr
def isTunResponse (f : Frame) : Bool := isData f && f.tun && !isTunRequest f

/-! Transit (R349, R350). -/

/-- Characters received count toward LOAD. -/
def State.noteLoad (s : State) (p : Ring) (chars : Nat) : State :=
  let ms := s.now / msPs
  s.modPort p (fun x =>
    if x.loadMs = ms then { x with loadCur := x.loadCur + chars }
    else { x with loadMs := ms, loadPrev := if x.loadMs + 1 = ms then x.loadCur else 0, loadCur := chars })

/-- Forward a frame that arrived on RX `p`: HOPS − 1, TURNS + 1 where a wrap turns it, EOF_BAD where its CRC-32 failed; at once
when the transmitter is free, else through the transit buffer. -/
def State.forward (s : State) (p : Ring) (f : Frame) : State :=
  let turned := s.hasRing p.other && (s.port p.other).wrapped
  let q := if turned then p.other else p
  let f := { f with hops := f.hops - 1, turns := if turned then f.turns + 1 else f.turns, eofBad := f.eofBad || !crcGood f }
  let f := { f with hcrc := frameHcrc f }
  let x := s.port q
  if x.busyUntil ≤ s.now ∧ x.transit = [] ∧ s.pfail = false then s.emit q f else s.modPort q (fun x => { x with transit := x.transit ++ [f] })

/-! Enumeration (R352, R353). -/

/-- A frame with a new payload, and its CRC-32. -/
def withPayload (f : Frame) (d : List Byte) : Frame :=
  let g := { f with payload := d }
  { g with crc := frameCrc g }

/-- The payload with NEXT replaced. -/
def enumNext (d : List Byte) (next : Nat) : List Byte := d.take 6 ++ leBytes 2 next ++ d.drop 8

/-- ENUM_DONE: the event and its record. -/
def State.enumDone (s : State) : State := (s.setEvt (RTX.PORT_EVT.ENUM_DONE 0)).recRing Rec.ENUM_DONE .a

/-- FULL at a node that is not the root: the ID, and the frame as it goes on. -/
def State.enumFull (s : State) (f : Frame) : Frame × State :=
  let next := leAt f.payload 6 2
  let g : Epoch := BitVec.ofNat 16 (leAt f.payload 8 2)
  if s.ring.enumSeen = some g then (f, s)
  else
    let f := withPayload f (enumNext f.payload (next + 1))
    if 1024 ≤ next then (f, s.modRing (fun r => { r with assigned := false }))
    else (f, (s.setRgen g).modRing (fun r => { r with nodeId := BitVec.ofNat 10 next, enumSeen := some g }))

/-- DONE at a node that has taken its ID from this enumeration. -/
def State.enumClose (s : State) (f : Frame) : State :=
  if s.ring.enumSeen = some (BitVec.ofNat 16 (leAt f.payload 8 2)) then
    let s := s.modRing (fun r => { r with assigned := true, nNodes := leAt f.payload 6 2 })
    s.streamsReset.enumDone
  else s

/-- The lowest ID whose bit of MAP is clear. -/
def freeId (map : List Byte) : Option Nat := findIdxFrom (fun i => !(leAt map (i / 8) 1).testBit (i % 8)) 1024 0

/-- JOIN at an unassigned node: the lowest clear ID, and the frame with its bit set. -/
def State.enumTakeId (s : State) (f : Frame) : Frame × State :=
  let map := f.payload.drop 16
  match freeId map with
  | none => (f, s)
  | some i =>
    let g : Epoch := BitVec.ofNat 16 (leAt f.payload 8 2)
    let map := modNth (fun b => b ||| BitVec.ofNat 8 (1 <<< (i % 8))) (i / 8) map
    let s := (s.setRgen g).modRing (fun r => { r with nodeId := BitVec.ofNat 10 i, assigned := true, enumSeen := some g })
    (withPayload f (f.payload.take 16 ++ map), s.streamsReset)

/-- An ENUM frame reaches the root: another root's NONCE is a conflict; the return of FULL closes the enumeration. -/
def State.enumRoot (s : State) (f : Frame) : State :=
  let next := leAt f.payload 6 2
  match s.ring.nonce with
  | none => (s.setEvt (RTX.PORT_EVT.ROOT_CONFLICT 0)).recRing Rec.ROOT_CONFLICT .a
  | some v =>
    if leAt f.payload 0 4 ≠ v.toNat then (s.setEvt (RTX.PORT_EVT.ROOT_CONFLICT 0)).recRing Rec.ROOT_CONFLICT .a
    else if leAt f.payload 4 1 = 0 ∧ s.ring.enumAt.isSome = true ∧ leAt f.payload 8 2 = s.rgen.toNat then
      let s := s.modRing (fun r => { r with enumAt := none })
      if 1024 < next then
        let s := s.setEvt (RTX.PORT_EVT.ENUM_FAIL 0)
        let (w, s) := s.freeWord
        s.record Rec.ENUM_FAIL (pgRtx .a) 0 (wd 1024) w
      else
        let s := s.modRing (fun r => { r with nNodes := next })
        let s := s.sendEnum (enumPayload v 1 next s.rgen [])
        s.streamsReset.enumDone
    else s

/-- An ENUM frame at this node: the frame as it goes on, and the state after. -/
def State.enumRx (s : State) (f : Frame) : Frame × State :=
  if s.ring.root then (f, s.enumRoot f)
  else if isEnum f 0 then s.enumFull f
  else if isEnum f 1 then (f, s.enumClose f)
  else if isEnum f 2 ∧ s.ring.assigned = false then s.enumTakeId f
  else (f, s)

/-! Presence and PACE (R349, R354). -/

/-- A PACE frame of this SRC and PORT with this FSEQ was delivered last. -/
def State.paceDup (s : State) (f : Frame) : Bool := s.ring.paceSeen.any (fun e => decide (e = (f.src.toNat, f.port.toNat, f.fseq.toNat)))

def State.paceNote (s : State) (f : Frame) : State :=
  s.modRing (fun r => { r with
    paceSeen := (f.src.toNat, f.port.toNat, f.fseq.toNat) ::
      r.paceSeen.filter (fun e => !decide (e.1 = f.src.toNat ∧ e.2.1 = f.port.toNat)) })

/-- A node that is present has been heard. -/
def State.heardFrom (s : State) (node : Nat) : State :=
  s.modRing (fun r => { r with present := r.present.map (fun e => if e.1 = node then (node, s.now) else e) })

def State.paceRx (s : State) (f : Frame) : State :=
  let s := s.paceNote f
  if f.port = 0 then s.ringPose f.payload
  else if f.port = 1 then s.modRing (fun r => { r with present := markPresent r.present f.src.toNat s.now })
  else s

/-! Strokes (R106, R356). -/

/-- The frame is for this device's field group. -/
def State.strokeMine (s : State) (f : Frame) : Bool :=
  s.flag MAP.GRP_CFG.STROKE_RX && decide (leAt f.payload 2 1 % 128 = s.fld MAP.GRP_CFG.GROUP)

/-- No half runs to take a good STROKE frame of the group: the node marks it MISS. -/
def State.strokeMiss (s : State) (f : Frame) : Bool := s.strokeMine f && !s.runs .a && !s.runs .b

/-- Set the next expected FSEQ of a sender, of which seven are kept. -/
def State.strokeExpect (s : State) (src : Nat) (v : BitVec 16) : State :=
  s.modRing (fun r => { r with
    strokeRx :=
      if r.strokeRx.any (fun e => decide (e.1 = src)) then r.strokeRx.map (fun e => if e.1 = src then (src, v) else e)
      else if r.strokeRx.length < 7 then r.strokeRx ++ [(src, v)] else r.strokeRx })

/-- Deliver a STROKE frame to the map in the order of its sender. -/
def State.strokeRx (s : State) (f : Frame) : State :=
  let src := f.src.toNat
  if s.strokeMine f = false ∨ s.strokeMiss f = true then s
  else if f.flag then (s.strokeExpect src (f.fseq + 1)).admitStrokes f.payload true
  else
    match s.ring.strokeRx.find? (fun e => decide (e.1 = src)) with
    | none => (s.strokeExpect src (f.fseq + 1)).admitStrokes f.payload false
    | some (_, v) => if f.fseq = v then (s.strokeExpect src (v + 1)).admitStrokes f.payload false else s

/-! Streams (R355, R366). -/

/-- The receiving stream of a sender in a class. -/
def State.rxStream (s : State) (src : Nat) (cls : FrameClass) : RxStream :=
  (s.ring.rx.find? (fun x => decide (x.src = src ∧ x.cls = cls))).getD { src := src, cls := cls, expect := 0, naked := false }

def State.setRxStream (s : State) (x : RxStream) : State :=
  s.modRing (fun r => { r with
    rx := if r.rx.any (fun y => decide (y.src = x.src ∧ y.cls = x.cls))
          then r.rx.map (fun y => if y.src = x.src ∧ y.cls = x.cls then x else y) else r.rx ++ [x] })

/-- The ingress queue of a frame: Q24 + PORT for CTRL, Q28 + PORT for BULK. -/
def ingressQ (f : Frame) : Nat := (if f.cls = .ctrl then 24 else 28) + f.port.toNat

/-- The queue bridge takes the frame (R367). -/
def State.bridged (s : State) (f : Frame) : Bool := f.qbr && s.flag (RTX.PROXY_CFG.PROXY_EN 0)

/-- CREDIT: the frames of 256 bytes that the frame's queue still takes, at most 255. -/
def State.rxCredit (s : State) (f : Frame) : Nat :=
  if f.tun then 255
  else
    let q := if s.bridged f then leAt f.payload 0 1 % 16 else ingressQ f
    if s.hostDraining then 0 else min 255 (min (256 - (s.q q).desc) ((s.bufBlk q - (s.q q).blocks) / 5))

/-- Send an ACK, or with `nak` a NAK, of a stream. -/
def State.sendAck (s : State) (f : Frame) (credit : Nat) (expect : BitVec 16) (nak : Bool) : State :=
  let d := [BitVec.ofNat 8 f.cls.code, BitVec.ofNat 8 credit] ++ leBytes 2 expect.toNat
  s.launch { newFrame .ctrl s.ring.nodeId f.src 0 s.rgen s.launchHops d with ack := true, flag := nak }

/-- The ring item of a received frame (Table 13-7). -/
def State.ingressItem (s : State) (f : Frame) : List Byte :=
  leBytes 2 f.src.toNat ++ [BitVec.ofNat 8 f.cls.code, BitVec.ofNat 8 (f.port.toNat + 16 * b2n f.qbr)] ++
    leBytes 2 f.payload.length ++ leBytes 2 f.rgen.toNat ++ leBytes 8 s.ns ++ f.payload

/-! The queue bridge's incoming side (R367). -/

/-- Bytes in segments of at most 8,192. -/
def chunks : Nat → List Byte → List (List Byte)
  | 0, _ => []
  | n + 1, d => if d.length ≤ 8192 then [d] else d.take 8192 :: chunks n (d.drop 8192)

/-- The segments of an item placed as if by a host, or none where the queue is closed, open or without room. -/
def State.bridgeItem (s : State) (q : Nat) (tag : BitVec 16) (d : List Byte) : Option State :=
  let cs := chunks 8 d
  let u := s.q q
  if s.hostDraining ∨ u.open_ = true ∨ 256 < u.desc + cs.length ∨ s.bufBlk q < u.blocks + (cs.map (fun c => blocksOf c.length)).sum then none
  else
    let gs : List Seg := (List.range cs.length).map (fun i =>
      { first := decide (i = 0), last := decide (i + 1 = cs.length), cmpl := false, seq := u.seq + BitVec.ofNat 16 i, tag := tag,
        data := nth [] cs i })
    let s := s.modQ q (fun u => { u with segs := u.segs ++ gs, seq := u.seq + BitVec.ofNat 16 gs.length })
    some (if q = 4 then s.pump else s)

/-- One segment of a bridged item: none where its item has no room yet. -/
def State.bridgeSeg (s : State) (f : Frame) : Option State :=
  let q := leAt f.payload 0 1 % 16
  let flags := leAt f.payload 1 1
  let off := leAt f.payload 2 2
  let len := leAt f.payload 4 2
  let part := f.payload.drop 8
  if f.src.toNat ≠ s.fld (RTX.PROXY_CFG.PROXY_NODE 0) ∨ 8 ≤ q ∨ qAssigned q = false then some s
  else
    let old := if flags.testBit 0 then [] else ((s.ring.asm.find? (fun e => decide (e.1 = q))).map (·.2)).getD []
    let rest := s.ring.asm.filter (fun e => !decide (e.1 = q))
    let d := old ++ part
    if old.length ≠ off ∨ len < d.length then some (s.modRing (fun r => { r with asm := rest }))
    else if flags.testBit 1 then
      if d.length = len then
        (s.bridgeItem q (BitVec.ofNat 16 (leAt f.payload 6 2)) d).map (fun s => s.modRing (fun r => { r with asm := rest }))
      else some (s.modRing (fun r => { r with asm := rest }))
    else some (s.modRing (fun r => { r with asm := (q, d) :: rest }))

/-! The tunnel (R368). -/

/-- Answer a tunnel request. -/
def State.tunAnswer (s : State) (f : Frame) (status n : Nat) (d : List Byte) : State :=
  let h := [BitVec.ofNat 8 (leAt f.payload 0 1 + 128), BitVec.ofNat 8 n] ++ (f.payload.drop 2).take 2 ++
    [BitVec.ofNat 8 status, 0, 0, 0]
  let g := { newFrame .ctrl s.ring.nodeId f.src 0 s.rgen s.launchHops (h ++ d) with tun := true }
  s.streamSend { fseq := 0, frame := g, queue := none, seq := 0, tag := 0, cmpl := false, sentAt := s.now, tries := 0 }

/-- A write of a tunnel reaches the configuration region of a sealed target. -/
def State.tunLocked (s : State) (a : Nat) : Bool := s.sealed && decide (0x100 ≤ a % 4096) && decide (a % 4096 < 0x800)

/-- Perform the words of a tunnel write in order; answers whether one reached a locked offset. -/
def State.tunWords : List Word → State → Nat → Bool → Bool × State
  | [], s, _, l => (l, s)
  | w :: ws, s, a, l =>
    let l := l || s.tunLocked a
    let s := (s.hostWord a w).1
    if s.up then State.tunWords ws s (a + 4) l else (l, s)

/-- TUN_REQUEST at the target: the words, then the answer. -/
def State.tunServe (s : State) (f : Frame) : State :=
  let op := leAt f.payload 0 1
  let n := leAt f.payload 1 1
  let a := leAt f.payload 4 4 % 16777216
  if n = 0 ∨ 16 < n then s.tunAnswer f 1 0 []
  else if op = 1 ∧ s.flag RTUN.TUN_CFG.ALLOW_RD then
    let (ws, s) := State.readRun n (s.bumpReg RTUN.REMOTE_CNT 1) a 4
    s.tunAnswer f 0 n (wordBytes ws)
  else if op = 2 ∧ s.flag RTUN.TUN_CFG.ALLOW_WR then
    let (l, s) := State.tunWords (wordsLE n (f.payload.drop 8)) (s.bumpReg RTUN.REMOTE_CNT 1) a false
    if s.up then s.hirqSettle.tunAnswer f (if l then 2 else 0) n [] else s
  else s.tunAnswer f 1 0 []

/-- TUN_RESPONSE at the sender: STATUS, the words done and the read data. -/
def State.tunReply (s : State) (f : Frame) : State :=
  let st := leAt f.payload 4 1
  let n := min 16 (leAt f.payload 1 1)
  if s.rtun.busy ∧ leAt f.payload 2 2 = s.rtun.tag.toNat ∧ leAt f.payload 0 1 = s.rtun.op + 128 then
    let s := if s.rtun.op = 1 ∧ st = 0 then s.latchWords (RTUN.TUN_BUF 0) (wordsLE n (f.payload.drop 8)) else s
    s.tunEnd (st % 16) n
  else s

/-! Delivery. -/

/-- Deliver the frame a stream expects, or a broadcast: none where its queue has no room. -/
def State.deliver (s : State) (f : Frame) : Option State :=
  if f.tun then some (if isTunRequest f then s.tunServe f else s.tunReply f)
  else if s.bridged f then s.bridgeSeg f
  else
    match s.post (ingressQ f) 0 (s.ingressItem f) with
    | (true, s) => some s
    | (false, _) => none

/-- A CTRL or BULK frame of a stream: delivered if expected, discarded or NAKed. -/
def State.streamRx (s : State) (f : Frame) : State :=
  let x := s.rxStream f.src.toNat f.cls
  let x := if f.flag then { x with expect := f.fseq, naked := false } else x
  let diff : Int := (f.fseq - x.expect).toInt
  if diff = 0 then
    let u := s.setRxStream { x with expect := x.expect + 1, naked := false }
    match u.deliver f with
    | some s => if s.up then s.sendAck f (s.rxCredit f) (x.expect + 1) false else s
    | none => (s.setRxStream x).sendAck f 0 x.expect false
  else if diff < 0 then s.sendAck f (s.rxCredit f) x.expect false
  else if x.naked then s
  else (s.setRxStream { x with naked := true }).sendAck f (s.rxCredit f) x.expect true

/-- The class that an ACK frame names. -/
def ackClass (f : Frame) : FrameClass := if leAt f.payload 0 1 = 2 then .bulk else .ctrl

/-- ACK and NAK: the stream advances, and on a NAK the sender goes back. -/
def State.ackRx (s : State) (f : Frame) : State :=
  let dst := f.src.toNat
  let c := ackClass f
  let s := s.streamAck dst c (BitVec.ofNat 16 (leAt f.payload 2 2)) (leAt f.payload 1 1)
  if f.flag ∧ (s.txStream dst c).out ≠ [] then s.streamRetry dst c else s

/-- What a copied frame does. -/
def State.copyRx (s : State) (f : Frame) : State :=
  let s := s.heardFrom f.src.toNat
  match f.cls with
  | .pace => s.paceRx f
  | .stroke => s.strokeRx f
  | .ctrl | .bulk =>
    if f.cls = .ctrl ∧ f.ack then s.ackRx f
    else if f.bcast then (s.deliver f).getD s
    else s.streamRx f

/-- The frame's own conditions for a copy, but for RGEN: addressed here, from another node, whole (R349). Until it is assigned a
node takes part in the enumeration alone (R352). -/
def State.copies (s : State) (f : Frame) : Bool :=
  s.up && ((f.bcast && (f.enum_ || s.ring.assigned)) || (s.ring.assigned && decide (f.dst = s.ring.nodeId))) && !(s.ring.assigned && decide (f.src = s.ring.nodeId)) &&
    crcGood f && !f.eofBad

/-- The node's own frame comes back. -/
def State.stripRx (s : State) (f : Frame) : State :=
  if s.up = false ∨ crcGood f = false ∨ f.eofBad = true then s
  else if f.enum_ then (if s.ring.root then s.enumRoot f else s)
  else if f.cls = .stroke then s.strokeBack (some f)
  else s

/-- A frame arrives at RX `p` (R349). -/
def State.ringRx (s : State) (p : Ring) (f : Frame) : State :=
  if s.ringLive p = false then s
  else
    let s := s.noteLoad p (f.payload.length + 23)
    if hcrcGood f = false then s.bump (RTX.CRC_ERR_CNT.HDR p.ix) 1
    else if f.hops = 0 ∨ f.turns = 3 then s.bump (RTX.HOPS_DISC_CNT.HOPS p.ix) 1
    else
      let s := if crcGood f then s else s.bump (RTX.CRC_ERR_CNT.CRC32 p.ix) 1
      if s.ring.assigned ∧ f.src = s.ring.nodeId ∧ f.turns.toNat % 2 = 0 then s.stripRx f
      else if s.copies f = false then s.forward p f
      else if f.enum_ then
        let (g, s) := (s.count (RTX.RX_FRAMES p.ix) 1).enumRx f
        s.forward p g
      else if epochCheck f.rgen s.rgen ≠ .accepted then (s.bump (RTX.HOPS_DISC_CNT.STALE p.ix) 1).forward p f
      else if f.cls = .pace ∧ s.paceDup f then s.forward p f
      else
        let g := if f.cls = .stroke ∧ s.strokeMiss f then { f with fs := 0xFF } else f
        ((s.forward p g).count (RTX.RX_FRAMES p.ix) 1).copyRx f

/-! Rows. -/

/-- Handle an arriving frame where it is of the row's kind. -/
def State.rowRx (s : State) (p : Ring) (f : Frame) (kind : Bool) : State := if kind then s.ringRx p f else s

/-- FRAME_RX (R349). -/
def execFrameRx (t : Time) (p : Ring) (f : Frame) (s : State) : Res := .next ((s.at t).rowRx p f true)

/-- RING_POSE_WORD (R51). -/
def execRingPoseWord (t : Time) (p : Ring) (f : Frame) (s : State) : Res := .next ((s.at t).rowRx p f (isPace f 0))

/-- PRESENCE (R354). -/
def execPresence (t : Time) (p : Ring) (f : Frame) (s : State) : Res := .next ((s.at t).rowRx p f (isPace f 1))

/-- STROKE_FRAME (R106). -/
def execStrokeFrame (t : Time) (p : Ring) (f : Frame) (s : State) : Res := .next ((s.at t).rowRx p f (isStroke f))

/-- ENUM_FULL (R352). -/
def execEnumFull (t : Time) (p : Ring) (f : Frame) (s : State) : Res := .next ((s.at t).rowRx p f (isEnum f 0))

/-- ENUM_DONE (R352). -/
def execEnumDone (t : Time) (p : Ring) (f : Frame) (s : State) : Res := .next ((s.at t).rowRx p f (isEnum f 1))

/-- JOIN (R353). -/
def execJoin (t : Time) (p : Ring) (f : Frame) (s : State) : Res := .next ((s.at t).rowRx p f (isEnum f 2))

/-- RING_DATA_FRAME (R355). -/
def execRingDataFrame (t : Time) (p : Ring) (f : Frame) (s : State) : Res := .next ((s.at t).rowRx p f (isData f))

/-- ACK_FRAME (R355). -/
def execAckFrame (t : Time) (p : Ring) (f : Frame) (s : State) : Res := .next ((s.at t).rowRx p f (isAck f false))

/-- NAK_FRAME (R355). -/
def execNakFrame (t : Time) (p : Ring) (f : Frame) (s : State) : Res := .next ((s.at t).rowRx p f (isAck f true))

/-- QBR_SEGMENT (R367). -/
def execQbrSegment (t : Time) (p : Ring) (f : Frame) (s : State) : Res := .next ((s.at t).rowRx p f (isQbr f))

/-- TUN_REQUEST (R368). -/
def execTunRequest (t : Time) (p : Ring) (f : Frame) (s : State) : Res := .next ((s.at t).rowRx p f (isData f && isTunRequest f))

/-- TUN_RESPONSE (R368). -/
def execTunResponse (t : Time) (p : Ring) (f : Frame) (s : State) : Res := .next ((s.at t).rowRx p f (isTunResponse f))

/-- TUN_TIMEOUT: no response within TMO_MS (R368). -/
def execTunTimeout (t : Time) (s : State) : Res :=
  let s := s.at t
  if s.up ∧ s.rtun.busy ∧ s.rtun.sentAt + s.fld RTUN.TUN_CFG.TMO_MS * msPs ≤ s.now then .next (s.tunEnd 5 0) else .next s

end Sys2Proof.Machine
end

