-- ==== Sys2Proof/Machine/Tap.lean ====
section
/-! DEFINITION. The test access port and the balls of the lane outputs under it (R430, R484). -/
namespace Sys2Proof.Machine

/-- The device identification word: version 1, part 0x1680 and the manufacturer code. -/
def idcodeWord : Word := 0x11680C2D

/-- IDCODE: the identification word is shifted out; the boundary cells act normally. -/
def execIdcode (t : Time) (s : State) : Res := .next { s.at t with tdo := idcodeWord, extest := false }

/-- EXTEST: the boundary cells are in force. What the tester shifts into them is outside the state. -/
def execExtest (t : Time) (s : State) : Res := .next { s.at t with extest := true }

/-- The lane outputs follow the device: not under EXTEST, and not before VIO33 is in range or until RESET is left (R430). -/
def State.ballsDriven (s : State) : Bool := s.running && !s.extest

/-- The levels of the balls LGn_k, HSGn and PWMn_AH to PWMn_CL, with the bridge's high side before its low side. Under EXTEST they
stay low while VGD is in range; below 2 V of VGD the tester drives them, which is outside the state. -/
def State.lgBall (s : State) (n : LaneIx) (k : OutIx) : Bool := s.ballsDriven && (s.out n k).lg
def State.hsgBall (s : State) (n : LaneIx) : Bool := s.ballsDriven && (s.bank n).hsOn
def State.pwmBalls (s : State) (n : LaneIx) (g : Fin 3) : Bool × Bool :=
  let b := s.bridge n (g.castLE (by decide))
  (s.ballsDriven && b.1, s.ballsDriven && b.2)

end Sys2Proof.Machine
end

