-- ==== Sys2Proof/Machine/Dispatch.lean ====
section
/-! DEFINITION. The command table: one arm per constructor, each one direct call of its meaning. -/
namespace Sys2Proof.Machine

def exec (i : Instr) (s : State) : Host.Outcome State Fault Refusal :=
  match i with
  | .powerOn t => Sys2Proof.Machine.execPowerOn t s
  | .porstNRise t straps lockUs => Sys2Proof.Machine.execPorstNRise t straps lockUs s
  | .porstNLow t => Sys2Proof.Machine.execPorstNLow t s
  | .bootExit t r => Sys2Proof.Machine.execBootExit t r s
  | .softReset t => Sys2Proof.Machine.execSoftReset t s
  | .unseal t => Sys2Proof.Machine.execUnseal t s
  | .standby t => Sys2Proof.Machine.execStandby t s
  | .wake t => Sys2Proof.Machine.execWake t s
  | .wakeComplete t => Sys2Proof.Machine.execWakeComplete t s
  | .arm t => Sys2Proof.Machine.execArm t s
  | .disarm t => Sys2Proof.Machine.execDisarm t s
  | .speedInvalid t => Sys2Proof.Machine.execSpeedInvalid t s
  | .pfailFall t => Sys2Proof.Machine.execPfailFall t s
  | .pfailSetClose t => Sys2Proof.Machine.execPfailSetClose t s
  | .pfailDone t => Sys2Proof.Machine.execPfailDone t s
  | .clockLoss t pll => Sys2Proof.Machine.execClockLoss t pll s
  | .serdesUnlock t p => Sys2Proof.Machine.execSerdesUnlock t p s
  | .supplyOor t x meas => Sys2Proof.Machine.execSupplyOor t x meas s
  | .supplyInRange t x meas => Sys2Proof.Machine.execSupplyInRange t x meas s
  | .tempRead t laneDie temp => Sys2Proof.Machine.execTempRead t laneDie temp s
  | .fence t v => Sys2Proof.Machine.execFence t v s
  | .laneSelfFail t n test => Sys2Proof.Machine.execLaneSelfFail t n test s
  | .autofence t n => Sys2Proof.Machine.execAutofence t n s
  | .noChargeTimeout t => Sys2Proof.Machine.execNoChargeTimeout t s
  | .singleHalfStop t => Sys2Proof.Machine.execSingleHalfStop t s
  | .safeNFall t n => Sys2Proof.Machine.execSafeNFall t n s
  | .safeNRise t n => Sys2Proof.Machine.execSafeNRise t n s
  | .idleFlitSend t n d => Sys2Proof.Machine.execIdleFlitSend t n d s
  | .idleFlit t n d f => Sys2Proof.Machine.execIdleFlit t n d f s
  | .portIdle t n f => Sys2Proof.Machine.execPortIdle t n f s
  | .nak t n d f => Sys2Proof.Machine.execNak t n d f s
  | .resendTimeout t n d => Sys2Proof.Machine.execResendTimeout t n d s
  | .linkLost t n => Sys2Proof.Machine.execLinkLost t n s
  | .upQueueHigh t n => Sys2Proof.Machine.execUpQueueHigh t n s
  | .evt t n a b => Sys2Proof.Machine.execEvt t n a b s
  | .travelUpdate t n fs => Sys2Proof.Machine.execTravelUpdate t n fs s
  | .epochAdv t n f => Sys2Proof.Machine.execEpochAdv t n f s
  | .qend t n f => Sys2Proof.Machine.execQend t n f s
  | .drain t n f => Sys2Proof.Machine.execDrain t n f s
  | .drainEnd t n => Sys2Proof.Machine.execDrainEnd t n s
  | .drExpired t n => Sys2Proof.Machine.execDrExpired t n s
  | .spDem t n f => Sys2Proof.Machine.execSpDem t n f s
  | .evtAck t n f => Sys2Proof.Machine.execEvtAck t n f s
  | .evtFull t n f => Sys2Proof.Machine.execEvtFull t n f s
  | .holdReoffer t => Sys2Proof.Machine.execHoldReoffer t s
  | .fireReport t n fs => Sys2Proof.Machine.execFireReport t n fs s
  | .qclr t n f => Sys2Proof.Machine.execQclr t n f s
  | .motion t n fs => Sys2Proof.Machine.execMotion t n fs s
  | .dly t n f => Sys2Proof.Machine.execDly t n f s
  | .peakRpt t n f => Sys2Proof.Machine.execPeakRpt t n f s
  | .reaim t n => Sys2Proof.Machine.execReaim t n s
  | .fire t n sm => Sys2Proof.Machine.execFire t n sm s
  | .poseWord t hitch peer => Sys2Proof.Machine.execPoseWord t hitch peer s
  | .travelCompute t => Sys2Proof.Machine.execTravelCompute t s
  | .ringPoseWord t p f => Sys2Proof.Machine.execRingPoseWord t p f s
  | .ringMiss t => Sys2Proof.Machine.execRingMiss t s
  | .gsEdge t b rise stamp => Sys2Proof.Machine.execGsEdge t b rise stamp s
  | .imuInt t rise => Sys2Proof.Machine.execImuInt t rise s
  | .imuBurstDone t bytes => Sys2Proof.Machine.execImuBurstDone t bytes s
  | .imuLost t => Sys2Proof.Machine.execImuLost t s
  | .solutionLost t => Sys2Proof.Machine.execSolutionLost t s
  | .coastExpired t => Sys2Proof.Machine.execCoastExpired t s
  | .gnssLost t h => Sys2Proof.Machine.execGnssLost t h s
  | .spdDisagree t => Sys2Proof.Machine.execSpdDisagree t s
  | .imuCoastEnd t => Sys2Proof.Machine.execImuCoastEnd t s
  | .hitchDisagree t => Sys2Proof.Machine.execHitchDisagree t s
  | .gnssSolution t h sol ts => Sys2Proof.Machine.execGnssSolution t h sol ts s
  | .measurement t ms asg o => Sys2Proof.Machine.execMeasurement t ms asg o s
  | .rtcmFrame t => Sys2Proof.Machine.execRtcmFrame t s
  | .gifClkCheck t count => Sys2Proof.Machine.execGifClkCheck t count s
  | .agcUpdate t m1 m5 => Sys2Proof.Machine.execAgcUpdate t m1 m5 s
  | .burstStart t => Sys2Proof.Machine.execBurstStart t s
  | .burstEnd t => Sys2Proof.Machine.execBurstEnd t s
  | .pulsePrepare t => Sys2Proof.Machine.execPulsePrepare t s
  | .tpulse t => Sys2Proof.Machine.execTpulse t s
  | .tpulseB t => Sys2Proof.Machine.execTpulseB t s
  | .timeHoldover t => Sys2Proof.Machine.execTimeHoldover t s
  | .timeExpired t => Sys2Proof.Machine.execTimeExpired t s
  | .footprintTick t ecc ain0 ain1 => Sys2Proof.Machine.execFootprintTick t ecc ain0 ain1 s
  | .tileEffect t cov => Sys2Proof.Machine.execTileEffect t cov s
  | .demandPhase t => Sys2Proof.Machine.execDemandPhase t s
  | .decisionPhase t ecc dur => Sys2Proof.Machine.execDecisionPhase t ecc dur s
  | .strokeForm t => Sys2Proof.Machine.execStrokeForm t s
  | .decisionDigest t dec slots => Sys2Proof.Machine.execDecisionDigest t dec slots s
  | .xchkIdentify t okA okB => Sys2Proof.Machine.execXchkIdentify t okA okB s
  | .suspectClear t => Sys2Proof.Machine.execSuspectClear t s
  | .noMotion t j => Sys2Proof.Machine.execNoMotion t j s
  | .rateSwap t => Sys2Proof.Machine.execRateSwap t s
  | .tileItem t cov => Sys2Proof.Machine.execTileItem t cov s
  | .tileRequestPost t => Sys2Proof.Machine.execTileRequestPost t s
  | .requestRetry t slot => Sys2Proof.Machine.execRequestRetry t slot s
  | .evictPost t => Sys2Proof.Machine.execEvictPost t s
  | .spillPost t => Sys2Proof.Machine.execSpillPost t s
  | .strokeFrame t p f => Sys2Proof.Machine.execStrokeFrame t p f s
  | .scrub t ecc => Sys2Proof.Machine.execScrub t ecc s
  | .flush t => Sys2Proof.Machine.execFlush t s
  | .advJob t => Sys2Proof.Machine.execAdvJob t s
  | .peakGrant t n sm => Sys2Proof.Machine.execPeakGrant t n sm s
  | .peakWaitTimeout t n k => Sys2Proof.Machine.execPeakWaitTimeout t n k s
  | .phaseEndCurrent t n k sm => Sys2Proof.Machine.execPhaseEndCurrent t n k sm s
  | .phaseEndTime t n k sm => Sys2Proof.Machine.execPhaseEndTime t n k sm s
  | .peakTmo t n k sm => Sys2Proof.Machine.execPeakTmo t n k sm s
  | .chopToggle t n k sm => Sys2Proof.Machine.execChopToggle t n k sm s
  | .stepDownEnd t n k sm => Sys2Proof.Machine.execStepDownEnd t n k sm s
  | .decayEnd t n k sm => Sys2Proof.Machine.execDecayEnd t n k sm s
  | .decayTmo t n k sm => Sys2Proof.Machine.execDecayTmo t n k sm s
  | .overCurrent t n k sm => Sys2Proof.Machine.execOverCurrent t n k sm s
  | .faultRetry t n k sm => Sys2Proof.Machine.execFaultRetry t n k sm s
  | .faultClr t n v => Sys2Proof.Machine.execFaultClr t n v s
  | .clampDemote t n vb va => Sys2Proof.Machine.execClampDemote t n vb va s
  | .vbstNotReady t n vb va => Sys2Proof.Machine.execVbstNotReady t n vb va s
  | .gridOpening t n k sm => Sys2Proof.Machine.execGridOpening t n k sm s
  | .pulseClose t n k sm => Sys2Proof.Machine.execPulseClose t n k sm s
  | .propPeriod t n k sm => Sys2Proof.Machine.execPropPeriod t n k sm s
  | .openWindowStart t n k => Sys2Proof.Machine.execOpenWindowStart t n k s
  | .openWindowEnd t n k => Sys2Proof.Machine.execOpenWindowEnd t n k s
  | .closeWindowStart t n k => Sys2Proof.Machine.execCloseWindowStart t n k s
  | .closeWindowEnd t n k => Sys2Proof.Machine.execCloseWindowEnd t n k s
  | .dipConfirmed t n k sm => Sys2Proof.Machine.execDipConfirmed t n k sm s
  | .kinkFound t n k vs => Sys2Proof.Machine.execKinkFound t n k vs s
  | .relearn t n k off => Sys2Proof.Machine.execRelearn t n k off s
  | .valveStuck t n k => Sys2Proof.Machine.execValveStuck t n k s
  | .closeFail t n k => Sys2Proof.Machine.execCloseFail t n k s
  | .reload t n g => Sys2Proof.Machine.execReload t n g s
  | .gCmpWrite t n g v => Sys2Proof.Machine.execGCmpWrite t n g v s
  | .gPerWrite t n g v => Sys2Proof.Machine.execGPerWrite t n g v s
  | .commit t n v => Sys2Proof.Machine.execCommit t n v s
  | .gModeWrite t n g v => Sys2Proof.Machine.execGModeWrite t n g v s
  | .generatorEnable t n g => Sys2Proof.Machine.execGeneratorEnable t n g s
  | .syncPulse t src => Sys2Proof.Machine.execSyncPulse t src s
  | .loopTrigger t n ain isns => Sys2Proof.Machine.execLoopTrigger t n ain isns s
  | .hallChange t n x => Sys2Proof.Machine.execHallChange t n x s
  | .commDrStep t n => Sys2Proof.Machine.execCommDrStep t n s
  | .loopSwap t n v => Sys2Proof.Machine.execLoopSwap t n v s
  | .restart t n => Sys2Proof.Machine.execRestart t n s
  | .coefWrite t n x v => Sys2Proof.Machine.execCoefWrite t n x v s
  | .quadEdge t n x => Sys2Proof.Machine.execQuadEdge t n x s
  | .pulseEdge t n x => Sys2Proof.Machine.execPulseEdge t n x s
  | .index t n x => Sys2Proof.Machine.execIndex t n x s
  | .wireDisagree t n c hold => Sys2Proof.Machine.execWireDisagree t n c hold s
  | .speedUpdate t n => Sys2Proof.Machine.execSpeedUpdate t n s
  | .posLoad t n v => Sys2Proof.Machine.execPosLoad t n v s
  | .emStep t n => Sys2Proof.Machine.execEmStep t n s
  | .heartbeatSend t h => Sys2Proof.Machine.execHeartbeatSend t h s
  | .heartbeatCheck t h arr => Sys2Proof.Machine.execHeartbeatCheck t h arr s
  | .heartbeatLoss t h => Sys2Proof.Machine.execHeartbeatLoss t h s
  | .selfFault t h => Sys2Proof.Machine.execSelfFault t h s
  | .tokenCopyError t c0 c1 c2 => Sys2Proof.Machine.execTokenCopyError t c0 c1 c2 s
  | .claim t => Sys2Proof.Machine.execClaim t s
  | .conflictEnd t => Sys2Proof.Machine.execConflictEnd t s
  | .takeover t => Sys2Proof.Machine.execTakeover t s
  | .handover t => Sys2Proof.Machine.execHandover t s
  | .katNow t okA okB => Sys2Proof.Machine.execKatNow t okA okB s
  | .katPeriodic t okA okB => Sys2Proof.Machine.execKatPeriodic t okA okB s
  | .rejoin t h => Sys2Proof.Machine.execRejoin t h s
  | .rejoinDone t h ok => Sys2Proof.Machine.execRejoinDone t h ok s
  | .linkDown t p x => Sys2Proof.Machine.execLinkDown t p x s
  | .linkUp t p sets => Sys2Proof.Machine.execLinkUp t p sets s
  | .rfault t p => Sys2Proof.Machine.execRfault t p s
  | .wrap t p => Sys2Proof.Machine.execWrap t p s
  | .unwrap t p linkOk => Sys2Proof.Machine.execUnwrap t p linkOk s
  | .topo t p gen orig => Sys2Proof.Machine.execTopo t p gen orig s
  | .frameRx t p f => Sys2Proof.Machine.execFrameRx t p f s
  | .frameSend t p => Sys2Proof.Machine.execFrameSend t p s
  | .enum t => Sys2Proof.Machine.execEnum t s
  | .enumJoin t => Sys2Proof.Machine.execEnumJoin t s
  | .enumFull t p f => Sys2Proof.Machine.execEnumFull t p f s
  | .enumDone t p f => Sys2Proof.Machine.execEnumDone t p f s
  | .join t p f => Sys2Proof.Machine.execJoin t p f s
  | .enumRetry t => Sys2Proof.Machine.execEnumRetry t s
  | .presenceSend t => Sys2Proof.Machine.execPresenceSend t s
  | .presence t p f => Sys2Proof.Machine.execPresence t p f s
  | .nodeAbsent t node => Sys2Proof.Machine.execNodeAbsent t node s
  | .ringDataFrame t p f => Sys2Proof.Machine.execRingDataFrame t p f s
  | .ackFrame t p f => Sys2Proof.Machine.execAckFrame t p f s
  | .nakFrame t p f => Sys2Proof.Machine.execNakFrame t p f s
  | .ackTimeout t dst cls => Sys2Proof.Machine.execAckTimeout t dst cls s
  | .strokeReturn t p f => Sys2Proof.Machine.execStrokeReturn t p f s
  | .ringItemEgress t q => Sys2Proof.Machine.execRingItemEgress t q s
  | .qbrSegment t p f => Sys2Proof.Machine.execQbrSegment t p f s
  | .tunGo t v => Sys2Proof.Machine.execTunGo t v s
  | .tunRequest t p f => Sys2Proof.Machine.execTunRequest t p f s
  | .tunResponse t p f => Sys2Proof.Machine.execTunResponse t p f s
  | .tunTimeout t => Sys2Proof.Machine.execTunTimeout t s
  | .syncSend t p => Sys2Proof.Machine.execSyncSend t p s
  | .sync t p data => Sys2Proof.Machine.execSync t p data s
  | .rtHold t => Sys2Proof.Machine.execRtHold t s
  | .delayMeasure t p => Sys2Proof.Machine.execDelayMeasure t p s
  | .dreq t p seq t2 => Sys2Proof.Machine.execDreq t p seq t2 s
  | .dresp t p seq turn => Sys2Proof.Machine.execDresp t p seq turn s
  | .rd t addr count ready => Sys2Proof.Machine.execRd t addr count ready s
  | .rdf t addr count ready => Sys2Proof.Machine.execRdf t addr count ready s
  | .wr t addr data crc => Sys2Proof.Machine.execWr t addr data crc s
  | .wrf t addr data crc => Sys2Proof.Machine.execWrf t addr data crc s
  | .qpush t sel desc data crc => Sys2Proof.Machine.execQpush t sel desc data crc s
  | .qpop t sel ackSeq => Sys2Proof.Machine.execQpop t sel ackSeq s
  | .cmpl t ackN maxN => Sys2Proof.Machine.execCmpl t ackN maxN s
  | .unknownCommand t code => Sys2Proof.Machine.execUnknownCommand t code s
  | .qFlush t v => Sys2Proof.Machine.execQFlush t v s
  | .queueAge t q => Sys2Proof.Machine.execQueueAge t q s
  | .hirqHoldoffEnd t => Sys2Proof.Machine.execHirqHoldoffEnd t s
  | .bulkConfig t => Sys2Proof.Machine.execBulkConfig t s
  | .mkTx t k w => Sys2Proof.Machine.execMkTx t k w s
  | .db t k => Sys2Proof.Machine.execDb t k s
  | .mailboxTaken t k => Sys2Proof.Machine.execMailboxTaken t k s
  | .mailboxReply t k => Sys2Proof.Machine.execMailboxReply t k s
  | .mkRx t k => Sys2Proof.Machine.execMkRx t k s
  | .getInfo t k => Sys2Proof.Machine.execGetInfo t k s
  | .echo t k => Sys2Proof.Machine.execEcho t k s
  | .norRead t k => Sys2Proof.Machine.execNorRead t k s
  | .norErase t k => Sys2Proof.Machine.execNorErase t k s
  | .norWrite t k => Sys2Proof.Machine.execNorWrite t k s
  | .norCrc t k => Sys2Proof.Machine.execNorCrc t k s
  | .dirSet t k => Sys2Proof.Machine.execDirSet t k s
  | .patchStage t k => Sys2Proof.Machine.execPatchStage t k s
  | .patchSelect t k => Sys2Proof.Machine.execPatchSelect t k s
  | .cfgSave t k => Sys2Proof.Machine.execCfgSave t k s
  | .cfgClear t k => Sys2Proof.Machine.execCfgClear t k s
  | .logRead t k => Sys2Proof.Machine.execLogRead t k s
  | .abort t k => Sys2Proof.Machine.execAbort t k s
  | .keyRevoke t k => Sys2Proof.Machine.execKeyRevoke t k s
  | .longCommandEnd t => Sys2Proof.Machine.execLongCommandEnd t s
  | .payloadTimeout t => Sys2Proof.Machine.execPayloadTimeout t s
  | .norOpDone t => Sys2Proof.Machine.execNorOpDone t s
  | .norTimeout t => Sys2Proof.Machine.execNorTimeout t s
  | .record t code page h a0 a1 a2 => Sys2Proof.Machine.execRecord t code page h a0 a1 a2 s
  | .bucketRefill t => Sys2Proof.Machine.execBucketRefill t s
  | .yewFlush t => Sys2Proof.Machine.execYewFlush t s
  | .streamPost t => Sys2Proof.Machine.execStreamPost t s
  | .seal t crc => Sys2Proof.Machine.execSeal t crc s
  | .sealDone t retrain => Sys2Proof.Machine.execSealDone t retrain s
  | .pageEnable t page => Sys2Proof.Machine.execPageEnable t page s
  | .pageDrain t page drain => Sys2Proof.Machine.execPageDrain t page drain s
  | .softRst t page => Sys2Proof.Machine.execSoftRst t page s
  | .freeze t page on => Sys2Proof.Machine.execFreeze t page on s
  | .registerWrite t addr v => Sys2Proof.Machine.execRegisterWrite t addr v s
  | .rcRead t addr => Sys2Proof.Machine.execRcRead t addr s
  | .poseCur0 t => Sys2Proof.Machine.execPoseCur0 t s
  | .geomTrvLo t => Sys2Proof.Machine.execGeomTrvLo t s
  | .slotStat t => Sys2Proof.Machine.execSlotStat t s
  | .outLead t => Sys2Proof.Machine.execOutLead t s
  | .sqE0 t n => Sys2Proof.Machine.execSqE0 t n s
  | .ltrvLo t n => Sys2Proof.Machine.execLtrvLo t n s
  | .gPerAct t n g => Sys2Proof.Machine.execGPerAct t n g s
  | .fbkPos t n => Sys2Proof.Machine.execFbkPos t n s
  | .solTimeLo t h => Sys2Proof.Machine.execSolTimeLo t h s
  | .chStat t h => Sys2Proof.Machine.execChStat t h s
  | .tpNextRtLo t => Sys2Proof.Machine.execTpNextRtLo t s
  | .rtNowLo t => Sys2Proof.Machine.execRtNowLo t s
  | .flushRtLo t => Sys2Proof.Machine.execFlushRtLo t s
  | .recW0 t => Sys2Proof.Machine.execRecW0 t s
  | .qItems t => Sys2Proof.Machine.execQItems t s
  | .idcode t => Sys2Proof.Machine.execIdcode t s
  | .extest t => Sys2Proof.Machine.execExtest t s
  | .estimatedClosing t n k => Sys2Proof.Machine.execEstimatedClosing t n k s
  | .vbstReady t n vb va => Sys2Proof.Machine.execVbstReady t n vb va s
  | .demotionEnd t n vb va => Sys2Proof.Machine.execDemotionEnd t n vb va s
  | .wireDisagreeEnd t n c => Sys2Proof.Machine.execWireDisagreeEnd t n c s

end Sys2Proof.Machine
end

