-- ==== Sys2Proof/Machine/Canon.lean ====
section
/-! DEFINITION. The canonical form of the sparse stores of the state: keys strictly rising, no entry equal to what an
unlisted key reads as, so that equal stores are equal data. -/
namespace Sys2Proof.Machine

/-- The registers, the snapshots of PG_CTRL.FREEZE, the copies of FENCED lanes, the filters, the code configuration and the
NOR flash are in canonical form. -/
def State.canon (s : State) : Bool :=
  Sparse.wf regReset s.regs && Sparse.wf noWord s.frozen && Sparse.wf noWord s.held &&
    Sparse.wf noStamp s.firstSeen && Sparse.wf codeReset s.yewCfg && Sparse.wf erased s.nor.flash

end Sys2Proof.Machine
end

