-- ==== Sys2Proof/Safety.lean ====
section
/-! DEFINITION. What a safe run is: every step answers a next state, and every state on the way holds its stores in
canonical form and a device state other than OFF. What a command may change: the relation `Only`, in which the frame
statements are written. -/
namespace Sys2Proof

/-- A state that a powered device can be in: stores in canonical form, the device not OFF. -/
def Sound (s : Machine.State) : Prop := s.canon = true ∧ s.dev ≠ .off

/-- A run of `k` steps that never stops and stays in sound states. -/
def SafeRun : Nat → Machine.State → Prop
  | 0, s => Sound s
  | k + 1, s => Sound s ∧ ∃ u, Machine.step s = .next u ∧ SafeRun k u

end Sys2Proof

namespace Sys2Proof.Machine

/-- The fields of State, by name. -/
inductive Field where
  | pending | now | member | dev | prev | devAt | devLog | regs | frozen | held | freeIdx | firstSeen | pfail | pfailBalls | clockLost
  | supplySafe | inRange | idleDrain | ctrlDue | waking | patchOk | checking | sealExp | sealSnap | sealFail | spdRun
  | qualLow | romFail | tempSeen | yew | yewPort | yewCfg | hq | cmpl | cmplWait | dropQ | hirqLow | hirqRose | mbox | nor | laurel
  | lanes | banks | pwm | eng | fbk | syncIn | syncOut | pose | imu | trav | fpe | gnss | time | map | ports | ring | rtime
  | rtun | hostTx | lastRead | tdo | extest
  deriving DecidableEq, Repr

/-- What a command may change: fields of State; the pages below 256 (the spine's) whose registers it writes; lanes (their
pages and their state); and whether it also writes configuration registers of those pages. -/
structure May where
  fields : List Field
  pages : List Nat
  lanes : List LaneIx
  cfg : Bool := false

/-- Offsets of a page that blocks write: the runtime region and windows, PG_STAT, PG_IRQ_RAW, PG_ERR_FIRST, PG_PROG and
PG_EPOCH. -/
def runtimeOff (o : Nat) : Bool := decide (0x800 ≤ o) || [0x008, 0x00C, 0x018, 0x020, 0x024, 0x028].contains o

/-- The page is among those: a spine page by its number, a lane page by its lane. -/
def May.page (m : May) (p : Nat) : Prop := if p < 256 then p ∈ m.pages else ∃ n ∈ m.lanes, n.val = p % 16

/-- The register at the address may change. -/
def May.reg (m : May) (a : Nat) : Prop := m.page (home a / 4096) ∧ (m.cfg = true ∨ runtimeOff (home a % 4096) = true)

/-- Equal, unless the field may change. -/
def Unless (m : May) (f : Field) {α : Type} (a b : α) : Prop := f ∉ m.fields → a = b

/-- Equal, unless the field may change; and equal at every lane but those named. -/
def UnlessVec (m : May) (f : Field) {α : Type} (x y : Vector α 16) : Prop :=
  (f ∉ m.fields → x = y) ∧ ∀ n, n ∉ m.lanes → x.get n = y.get n

/-- The register file: equal, unless it may change; and every register but those that may change reads as before (in a state
whose file is in canonical form). -/
def OnlyRegs (m : May) (s : State) (x : Sparse Word) : Prop :=
  (Field.regs ∉ m.fields → x = s.regs) ∧ (Sparse.wf regReset s.regs = true → Sparse.wf regReset x = true ∧
    ∀ a, ¬ m.reg a → Sparse.get regReset x (home a) = Sparse.get regReset s.regs (home a))

/-- The state `u`, reached from `s`, differs from it only where `m` says. -/
structure Only (m : May) (s u : State) : Prop where
  pending : Unless m .pending u.pending s.pending
  now : Unless m .now u.now s.now
  member : Unless m .member u.member s.member
  dev : Unless m .dev u.dev s.dev
  prev : Unless m .prev u.prev s.prev
  devAt : Unless m .devAt u.devAt s.devAt
  devLog : Unless m .devLog u.devLog s.devLog
  regs : OnlyRegs m s u.regs
  frozen : Unless m .frozen u.frozen s.frozen
  held : Unless m .held u.held s.held
  freeIdx : Unless m .freeIdx u.freeIdx s.freeIdx
  firstSeen : Unless m .firstSeen u.firstSeen s.firstSeen
  pfail : Unless m .pfail u.pfail s.pfail
  pfailBalls : Unless m .pfailBalls u.pfailBalls s.pfailBalls
  clockLost : Unless m .clockLost u.clockLost s.clockLost
  supplySafe : Unless m .supplySafe u.supplySafe s.supplySafe
  inRange : Unless m .inRange u.inRange s.inRange
  idleDrain : Unless m .idleDrain u.idleDrain s.idleDrain
  ctrlDue : Unless m .ctrlDue u.ctrlDue s.ctrlDue
  waking : Unless m .waking u.waking s.waking
  patchOk : Unless m .patchOk u.patchOk s.patchOk
  checking : Unless m .checking u.checking s.checking
  sealExp : Unless m .sealExp u.sealExp s.sealExp
  sealSnap : Unless m .sealSnap u.sealSnap s.sealSnap
  sealFail : Unless m .sealFail u.sealFail s.sealFail
  spdRun : Unless m .spdRun u.spdRun s.spdRun
  qualLow : Unless m .qualLow u.qualLow s.qualLow
  romFail : Unless m .romFail u.romFail s.romFail
  tempSeen : Unless m .tempSeen u.tempSeen s.tempSeen
  yew : Unless m .yew u.yew s.yew
  yewPort : Unless m .yewPort u.yewPort s.yewPort
  yewCfg : Unless m .yewCfg u.yewCfg s.yewCfg
  hq : Unless m .hq u.hq s.hq
  cmpl : Unless m .cmpl u.cmpl s.cmpl
  cmplWait : Unless m .cmplWait u.cmplWait s.cmplWait
  dropQ : Unless m .dropQ u.dropQ s.dropQ
  hirqLow : Unless m .hirqLow u.hirqLow s.hirqLow
  hirqRose : Unless m .hirqRose u.hirqRose s.hirqRose
  mbox : Unless m .mbox u.mbox s.mbox
  nor : Unless m .nor u.nor s.nor
  laurel : Unless m .laurel u.laurel s.laurel
  lanes : UnlessVec m .lanes u.lanes s.lanes
  banks : UnlessVec m .banks u.banks s.banks
  pwm : UnlessVec m .pwm u.pwm s.pwm
  eng : UnlessVec m .eng u.eng s.eng
  fbk : UnlessVec m .fbk u.fbk s.fbk
  syncIn : Unless m .syncIn u.syncIn s.syncIn
  syncOut : Unless m .syncOut u.syncOut s.syncOut
  pose : Unless m .pose u.pose s.pose
  imu : Unless m .imu u.imu s.imu
  trav : Unless m .trav u.trav s.trav
  fpe : Unless m .fpe u.fpe s.fpe
  gnss : Unless m .gnss u.gnss s.gnss
  time : Unless m .time u.time s.time
  map : Unless m .map u.map s.map
  ports : Unless m .ports u.ports s.ports
  ring : Unless m .ring u.ring s.ring
  rtime : Unless m .rtime u.rtime s.rtime
  rtun : Unless m .rtun u.rtun s.rtun
  hostTx : Unless m .hostTx u.hostTx s.hostTx
  lastRead : Unless m .lastRead u.lastRead s.lastRead
  tdo : Unless m .tdo u.tdo s.tdo
  extest : Unless m .extest u.extest s.extest

/-- Each of the commands changes only these fields, registers of these pages and these lanes. -/
def Keeps (cs : List Instr) (fields : List Field) (pages : List Nat) (lanes : List LaneIx) : Prop :=
  ∀ c ∈ cs, ∀ s u : State, exec c s = .next u → Only ⟨fields, pages, lanes, false⟩ s u

/-- The same where configuration registers change too. -/
def KeepsCfg (cs : List Instr) (fields : List Field) (pages : List Nat) (lanes : List LaneIx) : Prop :=
  ∀ c ∈ cs, ∀ s u : State, exec c s = .next u → Only ⟨fields, pages, lanes, true⟩ s u

/-- Each of the commands changes only these fields, among the registers any. -/
def KeepsFields (cs : List Instr) (fields : List Field) : Prop :=
  KeepsCfg cs fields (List.range 256) (List.finRange 16)

end Sys2Proof.Machine
end

