-- ==== Sys2Proof/Certificates/Slice0/Obligations.lean ====
section
/-! DEFINITION. The statements for the provers. Most say of a command, under the conditions that its clause names, that it
answers a next state and what that state holds (`Answers`); the frame statements say what commands leave as it is (`Only` of
Safety.lean). -/
open Sys2Proof Sys2Proof.Machine

namespace Sys2Proof

/-- The command, run on the state, answers a next state of which `P` holds. -/
def Answers (c : Instr) (s : State) (P : State → Prop) : Prop := ∃ u, exec c s = .next u ∧ P u

/-- The host may read the register at an address live: the device is out of reset, its ROM check passed, and a register that
FREEZE covers is not frozen. -/
abbrev Readable (s : State) (a : Nat) : Prop :=
  s.running = true ∧ s.romFail = false ∧ (a % 4096 < 0xC00 → (s.reg (hdr (a / 4096) HDR.PG_CTRL)).toNat.testBit 2 = false)

/-- A write reaches the pages: the device is out of reset and its ROM check passed. -/
abbrev Writable (s : State) : Prop := s.running = true ∧ s.romFail = false

/-- Pages whose runtime registers have no action of their own on a write. -/
def plainPages : List PageKind := [.clk, .pwr, .nor, .rtime, .gnss, .tpls, .imu, .pose, .gspd, .fpe, .geom, .sched, .lane, .snap]

/-- A write of the page that starts nothing in a block and that no running block precedes: not of the outlets' and generators'
pages, nor of EM_CFG, its second word, and IMU_CFG. -/
def quietWrite (k : PageKind) (o : Nat) : Bool :=
  decide (k ≠ .pwmg) && decide (k ≠ .outl) && !(decide (k = .fbk) && decide (o = 0x118 ∨ o = 0x11C)) &&
    !(decide (k = .imu) && decide (o = 0x100))

/-- What a write of PG_CTRL with EN as it is does to the block: a feedback interface that is enabled starts again (R288). -/
def restarted (s : State) (p : Nat) (k : PageKind) (i : Nat) : State :=
  if k = .fbk ∧ s.en p = true ∧ s.pageFenced k i = false then s.pageStart k i else s

/-- The words of a reply (R394): op, count of results, STATUS, TAG, DETAIL, results. -/
def replyOf (c : Cmd) (status detail : Nat) (res : List Word) : List Word :=
  wd (c.op * 16777216 + res.length * 1048576 + status * 256) :: wd (c.tag * 65536 + detail % 65536) :: res
/-- A command that waits in mailbox `k`, with room for its reply. -/
abbrev CmdWaits (s : State) (k : Fin 8) (op : Nat) (c : Cmd) : Prop :=
  s.cmdReady k.val = true ∧ (s.mb k.val).replies.length < 8 ∧ c.op = op ∧
    ∃ ws, (s.mb k.val).inbox = some ws ∧ parseCmd k.val ws = c
/-- The command has left its mailbox, answered. -/
abbrev Answered (s : State) (k : Fin 8) (c : Cmd) (status detail : Nat) (res : List Word) (u : State) : Prop :=
  (u.mb k.val).inbox = none ∧ (u.mb k.val).replies = (s.mb k.val).replies ++ [replyOf c status detail res]
/-- A long command is under way. -/
abbrev Accepted (s : State) (k : Fin 8) (c : Cmd) (u : State) : Prop :=
  Answered s k c rsAccepted 0 [] u ∧ u.reg NOR.CMD_STAT = wd (c.op * 16777216 + rsAccepted * 65536 + c.tag) ∧
    ∃ l, u.nor.long = some l ∧ l.op = c.op ∧ l.tag = c.tag ∧ l.mailbox = k.val

/-- The port is free for an operation of a command, and a half drives it. -/
abbrev PortFree (s : State) : Prop :=
  s.nor.present = true ∧ s.drives = true ∧ s.nor.cur = none ∧ s.nor.recQ = [] ∧ s.nor.cmdQ = [] ∧ s.nor.suspended = none ∧
    s.yewPort.backlogHi = false

/-- The outlet has left the phase it was in for phase `q` of its profile, by the mode of `q` (Table 6-5). -/
abbrev EnteredPhase (v : State) (n : LaneIx) (k : OutIx) (q : Nat) (u : State) : Prop :=
  if isPeakMode (v.phMode n (v.out n k).prof q) = true then (u.out n k).st = .peakWait ∧ (u.out n k).ph = q ∧ (u.out n k).lg = false
  else if v.phMode n (v.out n k).prof q = modeHold ∨ v.phMode n (v.out n k).prof q = modeProp then
    (u.out n k).st = .phase ∧ (u.out n k).ph = q ∧ (u.out n k).entry = v.now
  else (u.out n k).st = .decay ∧ (u.out n k).decay = .turnOff ∧ (u.out n k).lg = false

/-- A frame is queued for launch, whole, on the transmitter that the present rings give a frame of ring `r`. -/
def Queued (s : State) (r : Ring) (now : Time) (ok : Frame → Prop) (u : State) : Prop :=
  ∀ p lr tn, s.txPort r = some (p, lr, tn) →
    ∃ f, (u.port p).txq = (s.port p).txq ++ [(now, f)] ∧ hcrcGood f = true ∧ crcGood f = true ∧ f.lring = lr ∧ ok f

/-- A whole frame that this node takes from RX `p`: of another node, addressed here, of the present ring generation. -/
abbrev Taken (s : State) (p : Ring) (f : Frame) : Prop :=
  s.ringLive p = true ∧ hcrcGood f = true ∧ f.hops ≠ 0 ∧ f.turns ≠ 3 ∧ s.copies f = true ∧
    epochCheck f.rgen s.rgen = .accepted
/-- The next frame of a stream to this node, not a broadcast. -/
abbrev NextOfStream (s : State) (f : Frame) : Prop :=
  isData f = true ∧ f.bcast = false ∧ f.flag = false ∧ f.enum_ = false ∧ f.fseq = (s.rxStream f.src.toNat f.cls).expect

/-- A flit of type `typ` that the spine takes next on the UP direction of a live lane. -/
abbrev TakenUp (s : State) (n : LaneIx) (f : Flit) (typ : Nat) : Prop :=
  s.laneLive n = true ∧ flitGood f = true ∧ f.seq = (s.lane n).up.rxLast + 1 ∧ f.typ.toNat = typ

/-- Completions are posted by the half that drives the host port, or wait for the next grant (R18). -/
def Completed (s u : State) (cs : List Completion) : Prop :=
  if s.drives = true then u.cmpl = s.cmpl ++ cs ∧ u.cmplWait = s.cmplWait else u.cmpl = s.cmpl ∧ u.cmplWait = s.cmplWait ++ cs

/-- The bytes of a QPOP's answer: the empty answer, or the head item's descriptor and data with their CRC-32. -/
def popAnswer (sel : Byte) (ack : BitVec 16) (items : List DItem) : List Byte :=
  match items with
  | [] => [0x99]
  | i :: _ =>
    let b := itemDesc (sel.toNat % 32) i ++ i.data
    0xA5 :: (b ++ leBytes 4 (crc32 ([0x3B, sel] ++ leBytes 2 ack.toNat ++ b)).toNat)

/-- The bytes of a CMPL's answer. -/
def cmplAnswer (ackN maxN : Byte) (out : List Completion) : List Byte :=
  if out = [] then [0x99]
  else
    let b := BitVec.ofNat 8 out.length :: out.flatMap Completion.bytes
    0xA5 :: (b ++ leBytes 4 (crc32 ([0x3E, ackN, maxN] ++ b)).toNat)

/-- An EVT_A and the EVT_B that follows it arrive whole and in sequence at a live lane. -/
abbrev EvtPair (s : State) (n : LaneIx) (a b : Flit) : Prop :=
  s.laneLive n = true ∧ flitGood a = true ∧ flitGood b = true ∧ a.typ.toNat = ftEvtA ∧ b.typ.toNat = ftEvtB ∧
    a.seq = (s.lane n).dn.rxLast + 1 ∧ b.seq = a.seq + 1 ∧ b.epoch = a.epoch

/-- The outlet of an EVT_B's payload. -/
abbrev evtOut (b : Flit) : OutIx := Fin.ofNat 8 (bf b.payload.toNat 31 29)

/-- A twin of an event waits in the lane's queue. -/
abbrev evtTwin (s : State) (n : LaneIx) (a b : Flit) (typ : EvtType) : Bool :=
  (s.lane n).entries.any (fun q => decide (q.2.outlet = evtOut b ∧ q.2.typ = typ ∧
    q.2.xv = nearest48 ((s.lane n).trav.get (evtOut b)).tl a.payload.toNat ∧ q.2.val = bf b.payload.toNat 23 0))

/-- The outlets of a lane after its actuations have been ended: none is open but a motor, and one that was in a phase decays. -/
abbrev OutletsEnded (s : State) (n : LaneIx) (u : State) : Prop :=
  ∀ k : OutIx, (u.out n k).st ≠ .peakWait ∧ (u.out n k).st ≠ .phase ∧ (u.out n k).st ≠ .pulseOff ∧ (u.out n k).lastOn = false ∧
    ((s.out n k).st = .phase → (u.out n k).st = .decay ∧ (u.out n k).decay = .turnOff)

/-- Every outlet of a lane is off at full strength. -/
abbrev OutletsOff (n : LaneIx) (u : State) : Prop :=
  (u.bank n).hsOn = false ∧ ∀ k : OutIx, (u.out n k).lg = false ∧ (u.out n k).decay = .none ∧
    ((u.out n k).st = .closed ∨ (u.out n k).st = .fault)

/-- A lane in safe state by SAFE_N or a fence: entries cancelled, outlets off, engine stopped. -/
abbrev LaneSafe (n : LaneIx) (u : State) : Prop :=
  (u.lane n).safeLow = true ∧ (u.lane n).queue = [] ∧ (u.lane n).draining = none ∧ OutletsOff n u ∧ (u.eng.get n).running = false

/-- A refused write: the page's first error names the register and the code. -/
abbrev Refused (p o : Nat) (c : ErrCode) (u : State) : Prop :=
  u.reg (hdr p HDR.PG_ERR_FIRST) = wd (0x80000000 + c.code * 65536 + o)
/-- No error is held in the page's first-error register. -/
abbrev NoError (s : State) (p : Nat) : Prop := (s.reg (hdr p HDR.PG_ERR_FIRST)).toNat.testBit 31 = false

/-- A one-flit command of a half is on the wire of every lane whose port was empty, or due at the next takeover where no half
may send. -/
abbrev CtrlSent (s : State) (typ : Nat) (u : State) : Prop :=
  if s.maySend = true then u.ctrlDue = false ∧ ∀ n : LaneIx, s.laneLive n = true → (s.lane n).halfQ = [] → (s.lane n).dn.held = [] →
    (s.lane n).dn.waiting = [] → (u.lane n).dn.held.map (fun f => (f.typ, f.epoch)) = [(typ, s.tokenEpoch)]
  else u.ctrlDue = true ∧ ∀ n : LaneIx, (u.lane n).dn = (s.lane n).dn

end Sys2Proof

/-- A step runs the command at the front of the queue, and an empty queue idles. For every command and state, a step with
the command in front is its execution on the state with the rest of the queue. The queue and the idle step are the model's
own. The model's readings and choices: log entries 1. -/
def Obligations.StepTakesFront : Prop :=
  (∀ (c : Instr) (cs : List Instr) (s : State), s.pending = c :: cs → step s = exec c { s with pending := cs }) ∧
  (∀ s : State, s.pending = [] → step s = .next s)

/-- What the state after reset holds. Every register reads the reset value of its page table, the queues are empty with
expected SEQ 0, the token names Half A with epoch 1, every lane is in safe state, and the state is sound. Which state right
after reset this is, is the choice of the model. Rules: R384. The model's readings and choices: log entries 6, 14, 17, 61. -/
def Obligations.ResetState : Prop :=
  Sound State.reset ∧ State.reset.pending = [] ∧ State.reset.dev = .boot ∧ State.reset.prev = .reset ∧
  (∀ a, State.reset.reg a = regReset (home a)) ∧
  State.reset.reg HOSTQ.CMPL_THR = 1 ∧ State.reset.reg (HOSTQ.Q_CFG 3) = 0x04000100 ∧ State.reset.reg (HOSTQ.Q_CFG 8) = 0x21000100 ∧
  (∀ k i p, pageOf State.reset.member p = some (k, i) → State.reset.en p = true) ∧
  (∀ q, (State.reset.q q).seq = 0 ∧ (State.reset.q q).segs = [] ∧ (State.reset.q q).items = []) ∧
  (∀ i, State.reset.laurel.copies.get i = TokenCopy.mk' .a 1) ∧ ∀ n, (State.reset.lane n).safeLow = true

/-- Every command answers a next state and keeps the queue, the member and a powered device. No command of the table faults
or is refused in any state; none touches the queue of waiting commands or the member, and none leaves a powered device OFF.
Rules: R30. The model's readings and choices: log entries 1, 34. -/
def Obligations.EveryCommandAnswers : Prop :=
  ∀ (c : Instr) (s : State), Answers c s fun u => u.pending = s.pending ∧ u.member = s.member ∧ (u.dev = .off → s.dev = .off)

/-- Every step keeps the invariant Sound, and every run from a sound state is safe. Sound: the registers, snapshots, copies
of fenced lanes, filters, code configuration and flash are in canonical form, and the device is not OFF. Every step from a
sound state ends in a sound state, and a run of any length goes on. Rules: R30. The model's readings and choices: log
entries 1, 34. -/
def Obligations.StepKeepsSound : Prop :=
  (∀ s u : State, Sound s → step s = .next u → Sound u) ∧ (∀ (k : Nat) (s : State), Sound s → SafeRun k s)

/-- A read of any register. A read answers the live word and clears its RC fields; an absent page and an undefined offset
read 0; a frozen page answers its snapshot and a FENCED lane the copy, both without effect; without an answer nothing
changes. Rules: R2, R11, R14, R452, R488. The model's readings and choices: log entries 10, 85, 88, 89, 149. -/
def Obligations.RegisterReads : Prop :=
  (∀ (t : Time) (a : BitVec 24) (k : PageKind) (i : Nat) (d : RegDef) (s : State), s.canon = true → Readable s a.toNat →
    pageOf s.member (a.toNat / 4096) = some (k, i) → findReg k (a.toNat % 4096) = some d → s.fromCopy k i (a.toNat % 4096) = false →
    ¬(k = .mbox ∧ 0x814 ≤ a.toNat % 4096 ∧ a.toNat % 16 = 4) → Answers (.rcRead t a) s fun u =>
      u.lastRead = ((s.at t).settlePage k i).liveView (a.toNat / 4096) k i (a.toNat % 4096) ∧
      (¬(k = .lane ∧ a.toNat % 4096 = 0x884) → u.reg a.toNat &&& wd d.rc = 0)) ∧
  (∀ (t : Time) (a : BitVec 24) (n : LaneIx) (s : State), s.canon = true → Readable s a.toNat → a.toNat = LANE.SQ_PEAK n →
    s.hasLane n = true → s.fenced n = false →
    Answers (.rcRead t a) s fun u => u.lastRead = s.reg (LANE.SQ_PEAK n) ∧
      u.fld ⟨LANE.SQ_PEAK n, 6, 0⟩ = (s.lane n).occ % 128) ∧
  (∀ (t : Time) (a : BitVec 24) (s : State), s.running = true → s.romFail = false →
    (∀ k i, pageOf s.member (a.toNat / 4096) = some (k, i) → findReg k (a.toNat % 4096) = none) →
    Answers (.rcRead t a) s fun u => u.lastRead = 0 ∧ u.regs = s.regs) ∧
  (∀ (t : Time) (a : BitVec 24) (k : PageKind) (i : Nat) (d : RegDef) (s : State), s.running = true → s.romFail = false →
    pageOf s.member (a.toNat / 4096) = some (k, i) → findReg k (a.toNat % 4096) = some d → 0x800 ≤ a.toNat % 4096 → a.toNat % 4096 < 0xC00 →
    (s.reg (hdr (a.toNat / 4096) HDR.PG_CTRL)).toNat.testBit 2 = true →
    Answers (.rcRead t a) s fun u => u.lastRead = Sparse.get noWord s.frozen a.toNat ∧ u.regs = s.regs) ∧
  (∀ (t : Time) (a : BitVec 24) (k : PageKind) (i : Nat) (d : RegDef) (s : State), Readable s a.toNat →
    pageOf s.member (a.toNat / 4096) = some (k, i) → findReg k (a.toNat % 4096) = some d → s.fromCopy k i (a.toNat % 4096) = true →
    Answers (.rcRead t a) s fun u => u.lastRead = Sparse.get noWord s.held a.toNat ∧ u.regs = s.regs ∧ u.held = s.held) ∧
  (∀ (t : Time) (a : BitVec 24) (s : State), s.running = false ∨ (s.romFail = true ∧ 4096 ≤ a.toNat) →
    Answers (.rcRead t a) s fun u => u = s.at t)

/-- Reads that latch the registers after them, on the pages of the spine. The register read answers its value and the
registers after it hold the rest of the same moment. Rules: R11, R66, R78, R118, R150, R304, R319, R320, R371, R406, R425,
R427. The model's readings and choices: log entries 10, 82, 89, 149. -/
def Obligations.SpineReads : Prop :=
  (∀ (t : Time) (s : State), s.canon = true → Readable s (POSE.POSE_CUR 0) →
    Answers (.poseCur0 t) s fun u => u.lastRead = wd (leAt s.pose.cur.bytes 0 4) ∧
      ∀ m, 1 ≤ m → m < 16 → u.reg (POSE.POSE_CUR m) = wd (leAt s.pose.cur.bytes (4 * m) 4)) ∧
  (∀ (t : Time) (s : State), s.canon = true → Readable s GEOM.GEOM_TRV_LO →
    Answers (.geomTrvLo t) s fun u => u.lastRead = wd s.trvSel.t ∧ u.reg GEOM.GEOM_TRV_HI = wd (s.trvSel.t / 4294967296) ∧
      u.reg 0x1AC0C = wdI s.trvSel.s ∧ u.reg GEOM.GEOM_TRV_RES = wd s.trvSel.r) ∧
  (∀ (t : Time) (s : State), s.canon = true → Readable s MAP.SLOT_STAT →
    Answers (.slotStat t) s fun u => u.lastRead = slotStatWord s.slotSel ∧ u.reg MAP.SLOT_COL = wdI s.slotSel.tc ∧
      u.reg MAP.SLOT_ROW = wdI s.slotSel.tr) ∧
  (∀ (t : Time) (x : OutFpe) (s : State), s.canon = true → Readable s FPE.OUT_LEAD → s.fo (s.idxOf FPE.OUT_IDX 128) = x →
    Answers (.outLead t) s fun u => u.lastRead = wd x.lead ∧ u.reg FPE.OUT_FLOW = wd x.flow ∧ u.reg FPE.OUT_VALUE = wd x.duty ∧
      u.reg FPE.OUT_FREE = wd x.free ∧ u.reg FPE.OUT_WIN_LO = wd (x.win.getD 0) ∧
      u.reg FPE.OUT_WIN_HI = wd (x.win.getD 0 / 4294967296 % 65536)) ∧
  (∀ (t : Time) (h : Half) (s : State), s.canon = true → Readable s (GNSS.SOL_TIME_LO h.ix) → h.ix.val < memberHalves s.member →
    (∀ x, s.gnss.sol.get h.ix = some x → Answers (.solTimeLo t h) s fun u => u.lastRead = x.time.setWidth 32 ∧
      u.reg (GNSS.SOL_TIME_HI h.ix) = wd (x.time.toNat / 4294967296) ∧ u.reg (GNSS.SOL_E h.ix) = x.e ∧
      u.reg (GNSS.SOL_N h.ix) = x.n ∧ u.reg (GNSS.SOL_U h.ix) = x.u ∧
      u.reg (GNSS.SOL_ACC h.ix) = wd (x.vAcc.toNat * 65536 + x.hAcc.toNat) ∧
      u.reg (GNSS.SOL_AGE h.ix) = wd (x.refStn.toNat * 65536 + x.corrAge.toNat)) ∧
    (s.gnss.sol.get h.ix = none → Answers (.solTimeLo t h) s fun u => u.lastRead = 0 ∧ u.reg (GNSS.SOL_E h.ix) = 0)) ∧
  (∀ (t : Time) (h : Half) (s : State), s.canon = true → Readable s (GNSS.CH_STAT h.ix) → h.ix.val < memberHalves s.member →
    Answers (.chStat t h) s fun u =>
      u.lastRead = wd ((s.chSel h).epoch.toNat * 65536 + (s.chSel h).st.code * 8192 + (s.chSel h).sig % 16 * 256 + (s.chSel h).sv % 256) ∧
      u.reg (GNSS.CH_MEAS h.ix) = wd ((s.chSel h).cn0 * 65536 + (s.chSel h).lock % 65536)) ∧
  (∀ (t : Time) (s : State), s.canon = true → Readable s TPLS.TP_NEXT_RT_LO →
    Answers (.tpNextRtLo t) s fun u => u.lastRead = wd s.time.nextRt ∧ u.reg TPLS.TP_NEXT_RT_HI = wd (s.time.nextRt / 4294967296)) ∧
  (∀ (t : Time) (s : State), s.canon = true → Readable s RTIME.RT_NOW_LO →
    Answers (.rtNowLo t) s fun u => u.lastRead = wd (max s.now t / 1000) ∧ u.reg RTIME.RT_NOW_HI = wd (max s.now t / 1000 / 4294967296)) ∧
  (∀ (t : Time) (s : State), s.canon = true → Readable s YEW.FLUSH_RT_LO →
    Answers (.flushRtLo t) s fun u => u.lastRead = wd (s.yewPort.flushRt / nsPs) ∧
      u.reg YEW.FLUSH_RT_HI = wd (s.yewPort.flushRt / nsPs / 4294967296)) ∧
  (∀ (t : Time) (s : State), s.canon = true → Readable s (YEW.REC_W 0) →
    Answers (.recW0 t) s fun u => u.lastRead = s.recWord 0 ∧ ∀ j, 1 ≤ j → j < 8 → u.reg (YEW.REC_W j) = s.recWord j) ∧
  (∀ (t : Time) (s : State), s.canon = true → Readable s HOSTQ.Q_ITEMS →
    Answers (.qItems t) s fun u => u.lastRead = wd (s.q s.qIdx).passed ∧ u.reg HOSTQ.Q_DROP = wd (s.q s.qIdx).drops ∧ u.dropQ = s.qIdx)

/-- Reads that latch the registers after them, on the pages of a lane. The register read answers its value and the registers
after it hold the rest of the same moment. Rules: R11, R179, R249, R293. The model's readings and choices: log entries 89,
149. -/
def Obligations.LaneReads : Prop :=
  (∀ (t : Time) (n : LaneIx) (s : State), s.canon = true → Readable s (LANE.SQ_E0 n) → s.hasLane n = true → s.fenced n = false →
    (s.sqSel n = none → Answers (.sqE0 t n) s fun u => u.lastRead = 0 ∧ u.reg (LANE.SQ_E1 n) = 0 ∧ u.reg (LANE.SQ_E2 n) = 0 ∧
      u.reg (LANE.SQ_E3 n) = 0) ∧
    (∀ e, s.sqSel n = some e → Answers (.sqE0 t n) s fun u => u.lastRead = wd e.xv ∧
      (u.reg (LANE.SQ_E1 n)).toNat / 1073741824 = (match e.st with | .waiting => 1 | .armed => 2) ∧
      bf (u.reg (LANE.SQ_E1 n)).toNat 28 26 = e.outlet.val ∧ bf (u.reg (LANE.SQ_E1 n)).toNat 25 24 = e.typ.code ∧
      bf (u.reg (LANE.SQ_E1 n)).toNat 23 21 = e.cls.toNat ∧ (u.reg (LANE.SQ_E1 n)).toNat % 65536 = e.xv / 4294967296 % 65536 ∧
      u.reg (LANE.SQ_E2 n) = wd (e.val % 16777216) ∧ u.reg (LANE.SQ_E3 n) = wdI (satS 32 e.c))) ∧
  (∀ (t : Time) (n : LaneIx) (s : State), s.canon = true → Readable s (LANE.LTRV_LO n) → s.hasLane n = true → s.fenced n = false →
    Answers (.ltrvLo t n) s fun u => u.lastRead = wd (s.ltrvSel n).tl ∧ u.reg (LANE.LTRV_HI n) = wd ((s.ltrvSel n).tl / 4294967296) ∧
      u.reg (LANE.LTRV_SPD n) = wdI (s.ltrvSel n).sk) ∧
  (∀ (t : Time) (n : LaneIx) (g : Fin 4) (s : State), s.canon = true → Readable s (PWMG.G_PER_ACT n g) → s.hasLane n = true →
    s.fenced n = false →
    Answers (.gPerAct t n g) s fun u => u.lastRead = wd (((s.at t).pwmNow n).gen n g).perAct ∧
      u.reg (PWMG.G_CMP_ACT n g) = wd (((s.at t).pwmNow n).gen n g).cmpAct) ∧
  (∀ (t : Time) (n : LaneIx) (s : State), s.canon = true → Readable s (FBK.POS n) → s.hasLane n = true → s.fenced n = false →
    Answers (.fbkPos t n) s fun u => u.lastRead = wdI (s.fbkOf n).posPub ∧ u.reg (FBK.SPD n) = wdI (s.fbkOf n).spd ∧
      u.reg (FBK.FREQ n) = wd (s.fbkOf n).freq)

/-- A write of a register follows the access codes of its fields. Each bit takes the value by its access code; a sealed
field keeps its value and the first such write is recorded; an undefined offset records UNDEF_WRITE; an absent page and a
FENCED lane take nothing; nothing else changes. Rules: R2, R11, R12, R488. The model's readings and choices: log entries 85,
89. -/
def Obligations.RegisterWrites : Prop :=
  (∀ (t : Time) (a : BitVec 24) (v : Word) (k : PageKind) (i : Nat) (d : RegDef) (s : State), s.canon = true → Writable s →
    pageOf s.member (a.toNat / 4096) = some (k, i) → findReg k (a.toNat % 4096) = some d → s.fromCopy k i (a.toNat % 4096) = false →
    (0x100 ≤ a.toNat % 4096 ∧ a.toNat % 4096 < 0x800 ∧ ¬(k = .rate ∧ a.toNat % 4096 = 0x180)) ∨ (k ∈ plainPages ∧ 0x800 ≤ a.toNat % 4096) →
    Answers (.registerWrite t a v) s fun u =>
      (∀ b, b < 32 → (u.reg a.toNat).getLsbD b =
        if d.w1c.testBit b && v.getLsbD b then false
        else if d.rw.testBit b || (d.rwl.testBit b && !s.sealed) then v.getLsbD b else (s.reg a.toNat).getLsbD b) ∧
      (s.sealed = true → d.rwl ≠ 0 → (s.reg (hdr (a.toNat / 4096) HDR.PG_ERR_FIRST)).toNat.testBit 31 = false →
        u.reg (hdr (a.toNat / 4096) HDR.PG_ERR_FIRST) = wd (0x80000000 + ErrCode.lockedWrite.code * 65536 + a.toNat % 4096)) ∧
      (quietWrite k (a.toNat % 4096) = true →
        (∀ b, home b ≠ home a.toNat → home b ≠ home (hdr (a.toNat / 4096) HDR.PG_ERR_FIRST) → u.reg b = s.reg b) ∧
        Only ⟨[.now, .regs, .hirqLow, .hirqRose], List.range 256, List.finRange 16, true⟩ s u) ∧
      Only ⟨[.now, .regs, .yew, .banks, .pwm, .eng, .fbk, .imu, .hirqLow, .hirqRose], List.range 256, List.finRange 16, true⟩ s u) ∧
  (∀ (t : Time) (a : BitVec 24) (v : Word) (k : PageKind) (i : Nat) (s : State), s.canon = true → Writable s →
    pageOf s.member (a.toNat / 4096) = some (k, i) → findReg k (a.toNat % 4096) = none → s.fromCopy k i (a.toNat % 4096) = false →
    (s.reg (hdr (a.toNat / 4096) HDR.PG_ERR_FIRST)).toNat.testBit 31 = false →
    Answers (.registerWrite t a v) s fun u => u.regs = (((s.at t).settlePage k i).setReg (hdr (a.toNat / 4096) HDR.PG_ERR_FIRST)
      (wd (0x80000000 + ErrCode.undefWrite.code * 65536 + a.toNat % 4096))).regs) ∧
  (∀ (t : Time) (a : BitVec 24) (v : Word) (s : State), Writable s →
    (∀ k i, pageOf s.member (a.toNat / 4096) = some (k, i) → s.fromCopy k i (a.toNat % 4096) = true) →
    Answers (.registerWrite t a v) s fun u => u = (s.at t).hirqSettle ∧ u.regs = s.regs ∧ u.held = s.held)

/-- The page control bits EN, DRAIN, SOFT_RST and FREEZE. EN and DRAIN act on the pages that drain and are refused on the
others; SOFT_RST clears events, counters and errors where it is accepted and resets the device on SYS; FREEZE holds what
each read of the runtime region gave. Rules: R389, R450, R451, R452. The model's readings and choices: log entries 38, 86,
87, 88, 89. -/
def Obligations.PageControl : Prop :=
  (∀ (t : Time) (p : BitVec 12) (k : PageKind) (i : Nat) (s : State), s.canon = true → Writable s →
    pageOf s.member p.toNat = some (k, i) → k.drains = true →
    (Answers (.pageEnable t p) s fun u => u.en p.toNat = true ∧ (s.en p.toNat = false → u.drainedBit p.toNat = false)) ∧
    ∀ drain, Answers (.pageDrain t p drain) s fun u => u.en p.toNat = false ∧
      (s.en p.toNat = true → s.pageFenced k i = true → u.drainedBit p.toNat = true) ∧
      (s.en p.toNat = true → k = .hostq → u.drainedBit p.toNat = true ∧ ∀ q, q < 32 → qH2D q = true → (u.q q).segs = [])) ∧
  (∀ (t : Time) (p : BitVec 12) (k : PageKind) (i : Nat) (drain : Bool) (s : State), s.canon = true → Writable s →
    pageOf s.member p.toNat = some (k, i) → k.drains = false →
    (s.reg (hdr p.toNat HDR.PG_ERR_FIRST)).toNat.testBit 31 = false →
    Answers (.pageDrain t p drain) s fun u => u.en p.toNat = s.en p.toNat ∧ u.drainedBit p.toNat = s.drainedBit p.toNat ∧
      u.reg (hdr p.toNat HDR.PG_ERR_FIRST) = wd (0x80000000 + ErrCode.stateRefused.code * 65536 + 4)) ∧
  (∀ (t : Time) (p : BitVec 12) (k : PageKind) (i : Nat) (s : State), s.canon = true → Writable s →
    pageOf s.member p.toNat = some (k, i) → k ≠ .sys →
    (((s.at t).settlePage k i).softOk p.toNat k = true → Answers (.softRst t p) s fun u =>
      u.reg (hdr p.toNat HDR.PG_IRQ_RAW) = 0 ∧ u.reg (hdr p.toNat HDR.PG_ERR_FIRST) = 0 ∧
      (u.reg (hdr p.toNat HDR.PG_STAT)).toNat.testBit 0 = false ∧ u.en p.toNat = s.en p.toNat ∧
      ∀ d ∈ regsOf k, ∀ o ∈ d.offsets, u.reg (p.toNat * 4096 + o) &&& wd (d.w1c ||| d.rc) = 0) ∧
    (((s.at t).settlePage k i).softOk p.toNat k = false → s.en p.toNat = true →
      (s.reg (hdr p.toNat HDR.PG_ERR_FIRST)).toNat.testBit 31 = false →
      Answers (.softRst t p) s fun u => u.regs = (((s.at t).settlePage k i).setReg (hdr p.toNat HDR.PG_ERR_FIRST)
        (wd (0x80000000 + ErrCode.stateRefused.code * 65536 + 4))).regs)) ∧
  (∀ (t : Time) (p : BitVec 12) (s : State), Writable s → p.toNat = 0 → Answers (.softRst t p) s fun u =>
    u.dev = (if s.clockLost = true then .reset else .boot) ∧ u.pfail = false ∧ u.lanes = State.reset.lanes) ∧
  (∀ (t : Time) (p : BitVec 12) (k : PageKind) (i : Nat) (s : State), s.canon = true → Writable s →
    pageOf s.member p.toNat = some (k, i) → s.en p.toNat = true ∨ k.drains = true →
    ((s.reg (hdr p.toNat HDR.PG_CTRL)).toNat.testBit 2 = false → Answers (.freeze t p true) s fun u =>
      (u.reg (hdr p.toNat HDR.PG_CTRL)).toNat.testBit 2 = true ∧
      ∀ o ∈ regOffsets k 0x800 0xC00, u.view p.toNat k i o = (restarted ((s.at t).settlePage k i) p.toNat k i).view p.toNat k i o) ∧
    Answers (.freeze t p false) s fun u => (u.reg (hdr p.toNat HDR.PG_CTRL)).toNat.testBit 2 = false)

/-- Register transactions of the host port. RD, RDF, WR and WRF: an answer of the words with their CRC, a refusal, a
time-out, a bad CRC, a transaction cut short, an unknown command byte, and a host port that does not run. Rules: R374, R375,
R377, R378. The model's readings and choices: log entries 40, 78, 79, 89, 93. -/
def Obligations.RegisterTransactions : Prop :=
  (∀ (t : Time) (a : BitVec 24) (c : Fin 64) (ready : Bool) (s : State), s.hostLive = true →
    (burstOk a.toNat (c.val + 1) false = false → Answers (.rd t a c ready) s fun u => u.hostTx = [0xE7] ∧ u.regs = s.regs) ∧
    (burstOk a.toNat (c.val + 1) true = false → Answers (.rdf t a c ready) s fun u => u.hostTx = [0xE7] ∧ u.regs = s.regs) ∧
    (s.canon = true → s.answers a.toNat = false ∨ s.laneRead a.toNat = true → burstOk a.toNat (c.val + 1) false = true →
      Answers (.rd t a c false) s fun u => u.hostTx = [0xE7] ∧ u.flag HOSTQ.HP_EVT.TIMEOUT = true) ∧
    (s.canon = true → s.answers a.toNat = false ∨ s.laneRead a.toNat = true → burstOk a.toNat (c.val + 1) true = true →
      Answers (.rdf t a c false) s fun u => u.hostTx = [0xE7] ∧ u.flag HOSTQ.HP_EVT.TIMEOUT = true)) ∧
  (∀ (t : Time) (a : BitVec 24) (c : Fin 64) (ready : Bool) (s : State), s.hostLive = true → s.answers a.toNat = true →
    ready = true ∨ s.laneRead a.toNat = false →
    (burstOk a.toNat (c.val + 1) false = true → Answers (.rd t a c ready) s fun u => ∃ (ws : List Word) (v : State),
      State.readRun (c.val + 1) (s.at t) a.toNat 4 = (ws, v) ∧ ws.length = c.val + 1 ∧ u.regs = v.regs ∧
      ws.head? = some ((s.at t).hostRead a.toNat).1 ∧ ws.getLast? = some u.lastRead ∧
      u.hostTx = 0xA5 :: (wordBytes ws ++ [crc8 (regHead 0x0B a.toNat (c.val + 1) ++ wordBytes ws)])) ∧
    (burstOk a.toNat (c.val + 1) true = true → Answers (.rdf t a c ready) s fun u => ∃ (ws : List Word) (v : State),
      State.readRun (c.val + 1) (s.at t) a.toNat 0 = (ws, v) ∧ ws.length = c.val + 1 ∧ u.regs = v.regs ∧
      ws.head? = some ((s.at t).hostRead a.toNat).1 ∧ ws.getLast? = some u.lastRead ∧
      u.hostTx = 0xA5 :: (wordBytes ws ++ [crc8 (regHead 0x0C a.toNat (c.val + 1) ++ wordBytes ws)]))) ∧
  (∀ (t : Time) (a : BitVec 24) (ws : List Word) (s : State), s.hostLive = true → s.answers a.toNat = true →
    (pageOf s.member (a.toNat / 4096)).isSome = true →
    (burstOk a.toNat ws.length false = true →
      Answers (.wr t a ws (some (crc8 (regHead 0x02 a.toNat ws.length ++ wordBytes ws)))) s fun u => u.hostTx = [0xA5] ∧
        u = { (State.writeWords ws (s.at t) a.toNat 4).hirqSettle with hostTx := [0xA5] }) ∧
    (burstOk a.toNat ws.length true = true →
      Answers (.wrf t a ws (some (crc8 (regHead 0x03 a.toNat ws.length ++ wordBytes ws)))) s fun u => u.hostTx = [0xA5] ∧
        u = { (State.writeWords ws (s.at t) a.toNat 0).hirqSettle with hostTx := [0xA5] })) ∧
  (∀ (t : Time) (a : BitVec 24) (ws : List Word) (s : State), s.canon = true → s.hostLive = true →
    (burstOk a.toNat ws.length false = false ∨ pageOf s.member (a.toNat / 4096) = none ∨ s.answers a.toNat = false →
      Answers (.wr t a ws (some (crc8 (regHead 0x02 a.toNat ws.length ++ wordBytes ws)))) s fun u => u.hostTx = [0x3C] ∧
        u.flag HOSTQ.HP_EVT.REFUSED = true ∧ u.dev = s.dev ∧ u.fld ⟨HOSTQ.REFUSE_CNT, 31, 0⟩ = satAdd 32 (s.fld ⟨HOSTQ.REFUSE_CNT, 31, 0⟩) 1) ∧
    (burstOk a.toNat ws.length true = false ∨ pageOf s.member (a.toNat / 4096) = none ∨ s.answers a.toNat = false →
      Answers (.wrf t a ws (some (crc8 (regHead 0x03 a.toNat ws.length ++ wordBytes ws)))) s fun u => u.hostTx = [0x3C] ∧
        u.flag HOSTQ.HP_EVT.REFUSED = true ∧ u.dev = s.dev)) ∧
  (∀ (t : Time) (a : BitVec 24) (ws : List Word) (b : Byte) (fixed : Bool) (s : State), s.canon = true → s.hostLive = true →
    (b ≠ crc8 (regHead (if fixed then 0x03 else 0x02) a.toNat ws.length ++ wordBytes ws) →
      Answers (if fixed then .wrf t a ws (some b) else .wr t a ws (some b)) s fun u => u.hostTx = [0x5A] ∧
        u.flag HOSTQ.HP_EVT.CRC_ERR = true ∧ u.dev = s.dev) ∧
    Answers (if fixed then .wrf t a ws none else .wr t a ws none) s fun u => u.hostTx = [] ∧
      u.fld ⟨HOSTQ.CRC_ERR_CNT, 31, 0⟩ = satAdd 32 (s.fld ⟨HOSTQ.CRC_ERR_CNT, 31, 0⟩) 1 ∧ u.dev = s.dev) ∧
  (∀ (t : Time) (b : Byte) (s : State), s.canon = true → s.hostLive = true → b.toNat ∉ [0x0B, 0x0C, 0x02, 0x03, 0x38, 0x3B, 0x3E] →
    Answers (.unknownCommand t b) s fun u => u.hostTx = [] ∧
      u.fld ⟨HOSTQ.REFUSE_CNT, 31, 0⟩ = satAdd 32 (s.fld ⟨HOSTQ.REFUSE_CNT, 31, 0⟩) 1) ∧
  (∀ (c : Instr) (t : Time) (a : BitVec 24) (n : Fin 64) (ready : Bool) (ws : List Word) (x : Option Byte) (s : State), s.hostLive = false →
    c = .rd t a n ready ∨ c = .rdf t a n ready ∨ c = .wr t a ws x ∨ c = .wrf t a ws x → Answers c s fun u => u = s.at t)

/-- QPUSH makes its checks in order, and only an accepted segment joins its queue. The answer is that of the first check
that fails; an accepted segment joins its queue and the expected SEQ advances; a refused one changes no queue; a SEQ error
is flagged and counted; a bad CRC-32 changes nothing. Rules: R382, R383, R384. The model's readings and choices: log entries
80. -/
def Obligations.QueuePushes : Prop :=
  (∀ (t : Time) (sel : Byte) (desc data : List Byte) (q : Nat) (s : State), s.canon = true → s.hostLive = true → desc.length = 16 →
    data.length = leAt desc 2 2 → q = sel.toNat % 32 →
    (s.pushCheck q sel.toNat desc data.length = .done →
      Answers (.qpush t sel desc data (some (crc32 ([0x38, sel] ++ desc ++ data)))) s fun u => u.hostTx = [0xA5] ∧
        (u.q q).seq = (s.q q).seq + 1 ∧ (u.q q).open_ = !(leAt desc 1 1).testBit 1 ∧ (q ≠ 4 ∨ s.nor.long = none →
          ∃ g, (u.q q).segs = (s.q q).segs ++ [g] ∧
          g.data = data ∧ g.first = (leAt desc 1 1).testBit 0 ∧ g.last = (leAt desc 1 1).testBit 1 ∧
          g.cmpl = (leAt desc 1 1).testBit 2 ∧ g.seq.toNat = leAt desc 4 2 ∧ g.tag.toNat = leAt desc 6 2)) ∧
    (∀ a, s.pushCheck q sel.toNat desc data.length = a → a ≠ .done →
      Answers (.qpush t sel desc data (some (crc32 ([0x38, sel] ++ desc ++ data)))) s fun u => u.hostTx = [a.byte] ∧
        (u.q q).segs = (s.q q).segs ∧ (u.q q).seq = (s.q q).seq ∧ (u.q q).open_ = (s.q q).open_ ∧
        (a = .seqErr → u.flag HOSTQ.HP_EVT.SEQ_ERR = true ∧ (u.q q).seqErr = satAdd 16 (s.q q).seqErr 1))) ∧
  (∀ (t : Time) (sel : Byte) (desc data : List Byte) (c : Word) (s : State), s.canon = true → s.hostLive = true → desc.length = 16 →
    data.length = leAt desc 2 2 → c ≠ crc32 ([0x38, sel] ++ desc ++ data) →
    Answers (.qpush t sel desc data (some c)) s fun u => u.hostTx = [0x5A] ∧ u.hq = s.hq ∧ u.flag HOSTQ.HP_EVT.CRC_ERR = true) ∧
  (∀ (q sel : Nat) (desc : List Byte) (len : Nat) (s : State),
    (qAssigned q = false → s.pushCheck q sel desc len = .closed) ∧
    (qAssigned q = true → qH2D q = false → s.pushCheck q sel desc len = .refused) ∧
    (qAssigned q = true → qH2D q = true →
      (s.hostDraining = true → s.pushCheck q sel desc len = .closed) ∧
      (s.hostDraining = false →
        (leAt desc 0 1 ≠ sel ∨ 32 ≤ sel ∨ 8192 < leAt desc 2 2 ∨ 8 ≤ leAt desc 1 1 → s.pushCheck q sel desc len = .refused) ∧
        (leAt desc 0 1 = sel → sel < 32 → leAt desc 2 2 ≤ 8192 → leAt desc 1 1 < 8 →
          (BitVec.ofNat 16 (leAt desc 4 2) + 1 = (s.q q).seq → s.pushCheck q sel desc len = .dup) ∧
          (BitVec.ofNat 16 (leAt desc 4 2) + 1 ≠ (s.q q).seq → BitVec.ofNat 16 (leAt desc 4 2) ≠ (s.q q).seq →
            s.pushCheck q sel desc len = .seqErr) ∧
          (BitVec.ofNat 16 (leAt desc 4 2) = (s.q q).seq →
            ((leAt desc 1 1).testBit 0 = (s.q q).open_ → s.pushCheck q sel desc len = .refused) ∧
            ((leAt desc 1 1).testBit 0 ≠ (s.q q).open_ →
              s.pushCheck q sel desc len = if s.qFits q len then .done else .noCredit))))))

/-- QPOP removes the acknowledged head, then returns the head. With ACK = 1 the head is removed where its SEQ is ACK_SEQ,
else nothing is removed and SEQ_ERR is set; the head item, if any, is then returned with its CRC and stays. A host-to-device
queue is refused. Rules: R387. -/
def Obligations.QueuePops : Prop :=
  (∀ (t : Time) (sel : Byte) (ack : BitVec 16) (s : State), s.hostLive = true → qH2D (sel.toNat % 32) = false →
    (sel.toNat.testBit 7 = false → Answers (.qpop t sel ack) s fun u => u.hq = s.hq ∧
      u.hostTx = popAnswer sel ack (s.q (sel.toNat % 32)).items) ∧
    (sel.toNat.testBit 7 = true →
      (∀ i r, (s.q (sel.toNat % 32)).items = i :: r → i.seq = ack → Answers (.qpop t sel ack) s fun u =>
        ∃ x, (u.q (sel.toNat % 32)).items = r ++ x ∧ (s.nor.long = none → x = []) ∧ u.hostTx = popAnswer sel ack (r ++ x)) ∧
      ((∀ i r, (s.q (sel.toNat % 32)).items = i :: r → i.seq ≠ ack) → Answers (.qpop t sel ack) s fun u => u.hq = s.hq ∧
        (s.canon = true → u.flag HOSTQ.HP_EVT.SEQ_ERR = true) ∧ u.hostTx = popAnswer sel ack (s.q (sel.toNat % 32)).items))) ∧
  (∀ (t : Time) (sel : Byte) (ack : BitVec 16) (s : State), s.hostLive = true → qH2D (sel.toNat % 32) = true →
    Answers (.qpop t sel ack) s fun u => u.hostTx = [0xF0] ∧ u.hq = s.hq)

/-- CMPL removes the acknowledged entries and returns the oldest. CMPL removes the ACK_N oldest completions, or all if fewer
are held, and returns the oldest MAX_N of those left, with their CRC, without removing them. Rules: R386. -/
def Obligations.CompletionReads : Prop :=
  ∀ (t : Time) (ackN maxN : Byte) (s : State), s.hostLive = true → ackN.toNat ≤ 32 → 1 ≤ maxN.toNat → maxN.toNat ≤ 32 →
    Answers (.cmpl t ackN maxN) s fun u => u.cmpl = s.cmpl.drop ackN.toNat ∧
      u.hostTx = cmplAnswer ackN maxN (u.cmpl.take maxN.toNat)

/-- Queue flushes, the age of a head item, the interrupt line, and CMPL counts out of range. A flush empties its queue; an
old head raises its queue interrupt; HIRQ_N falls and rises with the pending bits and its hold-off; CMPL with MAX_N of 0 or
above 32 is limited. Rules: R380, R386, R388, R389. The model's readings and choices: log entries 81, 83, 84. -/
def Obligations.QueueUpkeep : Prop :=
  (∀ (t : Time) (v : Word) (q : Nat) (s : State), Writable s → q < 32 → v.toNat.testBit q = true →
    (qH2D q = true → Answers (.qFlush t v) s fun u => (u.q q).segs = [] ∧ (u.q q).open_ = false ∧ (u.q q).seq = 0) ∧
    (qH2D q = false → s.nor.long = none → Answers (.qFlush t v) s fun u => (u.q q).items = []) ∧
    (∀ gs, v.toNat = 2 ^ q → q ≠ 4 → qH2D q = true → s.cmpl.length < 512 → (s.q q).segs = gs → splitItem gs = some (gs, []) →
      Answers (.qFlush t v) s fun u => (u.q q).segs = [] ∧
        Completed s u [{ queue := q, status := 6, seq := (itemLast gs).seq, tag := (itemLast gs).tag, detail := 0 }])) ∧
  (∀ (t : Time) (q : Fin 32) (i : DItem) (r : List DItem) (s : State), s.canon = true → s.running = true → qH2D q.val = false →
    (s.q q.val).items = i :: r → s.fld (HOSTQ.Q_CFG.AGE_MS q.val) ≠ 0 → i.time + s.fld (HOSTQ.Q_CFG.AGE_MS q.val) * msPs ≤ max s.now t →
    Answers (.queueAge t q) s fun u => (u.reg HOSTQ.QIRQ_RAW).toNat.testBit q.val = true) ∧
  (∀ (t : Time) (s : State), s.running = true → s.hpOff = false → s.flag HOSTQ.HP_CFG.HIRQ_EN = true →
    (s.irqAny = true → s.hirqLow = true ∨ s.hirqRose + s.fld HOSTQ.HP_CFG.HOLDOFF_US * usPs ≤ max s.now t →
      Answers (.hirqHoldoffEnd t) s fun u => u.hirqLow = true) ∧
    (s.irqAny = false → s.hirqLow = true → Answers (.hirqHoldoffEnd t) s fun u => u.hirqLow = false ∧ u.hirqRose = max s.now t)) ∧
  (∀ (t : Time) (ackN maxN : Byte) (s : State), s.hostLive = true → maxN = 0 ∨ 32 < maxN.toNat →
    Answers (.cmpl t ackN maxN) s fun u => u.cmpl = s.cmpl.drop ackN.toNat ∧
      u.hostTx = cmplAnswer ackN maxN (u.cmpl.take (min 32 maxN.toNat)))

/-- Bulk configuration items of Q3. An item of one record is applied and completed OK, or LOCKED where it meets a sealed
word; an item that does not divide into records is completed BAD_ITEM and applies nothing. Rules: R385, R390. The model's
readings and choices: log entries 92. -/
def Obligations.BulkItems : Prop :=
  (∀ (t : Time) (gs : List Seg) (rest : List (List Seg)) (r : CfgRec) (s : State), s.canon = true → s.up = true →
    (s.q 3).whole = gs :: rest → takeRec (itemData gs) = some (r, []) → burstOk r.addr r.words.length false = true →
    (pageOf s.member (r.addr / 4096)).isSome = true → 0x100 ≤ r.addr % 4096 → r.addr % 4096 + 4 * r.words.length ≤ 0x800 →
    r.addr / 4096 ≠ 0x1B → s.cmpl.length < 512 →
    (s.sealed = false → Answers (.bulkConfig t) s fun u => (u.q 3).segs = (s.q 3).segs.drop gs.length ∧
      (∀ j, j < r.words.length → u.reg (r.addr + 4 * j) = ((s.at t).applyRec r).reg (r.addr + 4 * j)) ∧
      Completed s u (if (itemLast gs).cmpl then
        [{ queue := 3, status := 0, seq := (itemLast gs).seq, tag := (itemLast gs).tag, detail := 0 }] else [])) ∧
    (∀ k i d, s.sealed = true → pageOf s.member (r.addr / 4096) = some (k, i) → findReg k (r.addr % 4096) = some d → d.rwl ≠ 0 →
      Answers (.bulkConfig t) s fun u => (u.q 3).segs = (s.q 3).segs.drop gs.length ∧
        Completed s u [{ queue := 3, status := 5, seq := (itemLast gs).seq, tag := (itemLast gs).tag, detail := 4 }])) ∧
  (∀ (t : Time) (gs : List Seg) (rest : List (List Seg)) (s : State), s.up = true →
    (s.q 3).whole = gs :: rest → itemData gs ≠ [] → takeRec (itemData gs) = none → s.cmpl.length < 512 →
    Answers (.bulkConfig t) s fun u => (u.q 3).segs = (s.q 3).segs.drop gs.length ∧
      Completed s u [{ queue := 3, status := 1, seq := (itemLast gs).seq, tag := (itemLast gs).tag, detail := 0 }])

/-- The mailboxes from a word sent to a reply read. A word joins the transmit FIFO, a doorbell sends the message or discards
it without a target, a half takes it, a reply fills the receive FIFO, and each read removes one word. Rules: R391, R392. The
model's readings and choices: log entries 89, 94, 95. -/
def Obligations.Mailboxes : Prop :=
  (∀ (t : Time) (k : Fin 8) (w : Word) (s : State), s.running = true →
    (6 ≤ k.val → Answers (.mkTx t k w) s fun u => u = s.at t) ∧
    (k.val < 6 → (s.mb k.val).txPend = false → (s.mb k.val).tx.length < 16 →
      Answers (.mkTx t k w) s fun u => u.mb k.val = { s.mb k.val with tx := (s.mb k.val).tx ++ [w] }) ∧
    (k.val < 6 → (s.mb k.val).txPend = true ∨ 16 ≤ (s.mb k.val).tx.length → Answers (.mkTx t k w) s fun u => u.mbox = s.mbox)) ∧
  (∀ (t : Time) (k : Fin 8) (s : State), s.running = true → k.val < 6 → (s.mb k.val).tx ≠ [] → (s.mb k.val).txPend = false →
    Answers (.db t k) s fun u =>
      if s.noTarget k.val = true then (u.mb k.val).tx = [] ∧ (u.mb k.val).txPend = false ∧ (u.mb k.val).discard = true ∧ (u.mb k.val).noTarget = true
      else u.mb k.val = { s.mb k.val with txPend := true, discard := false, noTarget := false }) ∧
  (∀ (t : Time) (k : Fin 8) (r : List Word) (rs : List (List Word)) (s : State), s.up = true → (s.mb k.val).replies = r :: rs →
    (s.mb k.val).rx = [] →
    Answers (.mailboxReply t k) s fun u => u.mb k.val = { s.mb k.val with rx := r, rxLen := r.length, rxReady := true, replies := rs }) ∧
  (∀ (t : Time) (k : Fin 8) (s : State), s.running = true →
    Answers (.mkRx t k) s fun u => u.lastRead = (s.mb k.val).rx.headD 0 ∧ (u.mb k.val).rx = (s.mb k.val).rx.drop 1 ∧
      ((s.mb k.val).rx ≠ [] → (u.mb k.val).rxReady = !((s.mb k.val).rx.drop 1).isEmpty)) ∧
  (∀ (t : Time) (k : Fin 8) (h : Half) (c : Cmd) (s : State), s.mbHalf k.val = some h → s.up = true → s.runs h = true →
    (s.mb k.val).txPend = true → (s.mb k.val).inbox = none → c = parseCmd k.val (s.mb k.val).tx →
    Answers (.mailboxTaken t k) s fun u => (u.mb k.val).tx = [] ∧ (u.mb k.val).txPend = false ∧
      (c.known = true → (u.mb k.val).inbox = some (s.mb k.val).tx ∧ u.nor.accepted = (s.nor.accepted ++ [(k.val, c.op, c.tag)]).take 8) ∧
      (c.known = false → (s.mb k.val).replies.length < 8 → Answered s k c rsBadCmd c.words [] u))

/-- Firmware commands that answer at once. GET_INFO, ECHO, DIR_SET, PATCH_SELECT, CFG_CLEAR, ABORT and KEY_REVOKE have their
effect and one response. Rules: R394, R396, R398. The model's readings and choices: log entries 12, 94, 95, 99. -/
def Obligations.ShortCommands : Prop :=
  (∀ (t : Time) (k : Fin 8) (c : Cmd) (s : State), CmdWaits s k opGetInfo c → s.cmdCheck c = none →
    Answers (.getInfo t k) s fun u => Answered s k c rsOk 0 [s.reg NOR.ROM_ID, wd s.nor.patchVer,
      wd (memberCode s.member * 268435456 + s.ring.nodeId.toNat * 65536 + b2n s.patchOk), wd s.nor.jedec] u) ∧
  (∀ (t : Time) (k : Fin 8) (c : Cmd) (s : State), CmdWaits s k opEcho c → s.cmdCheck c = none →
    Answers (.echo t k) s fun u => Answered s k c rsOk 0 (c.args.map wd) u) ∧
  (∀ (t : Time) (k : Fin 8) (c : Cmd) (s : State), CmdWaits s k opDirSet c → s.cmdCheck c = none → s.nor.present = true →
    Answers (.dirSet t k) s fun u => Answered s k c rsOk 0 [] u ∧ u.nor.dir = some { s.dirNow with
      copy := 1 - s.dirNow.copy, gen := (s.dirNow.gen + 1) % 4294967296, norMode := c.arg 0, logBase := c.arg 1, logSize := c.arg 2 }) ∧
  (∀ (t : Time) (k : Fin 8) (c : Cmd) (s : State), s.canon = true → CmdWaits s k opPatchSelect c → s.cmdCheck c = none →
    s.nor.present = true →
    Answers (.patchSelect t k) s fun u =>
      if s.patchCheck (c.arg 0 % 2) = 0 then
        Answered s k c rsOk 0 [] u ∧ u.patchSlot = c.arg 0 % 2 ∧ u.patchValid = true ∧
          u.nor.patchMin = if (c.arg 0).testBit 8 = true then leAt (s.readNor (patchSlotAddr (c.arg 0 % 2)) 128) 0x0C 4
            else s.nor.patchMin
      else Answered s k c rsAuthFail (s.patchCheck (c.arg 0 % 2)) [] u ∧ u.flag NOR.NOR_EVT.AUTH_FAIL = true ∧
        u.nor.flash = s.nor.flash ∧ u.nor.patchMin = s.nor.patchMin) ∧
  (∀ (t : Time) (k : Fin 8) (c : Cmd) (s : State), CmdWaits s k opCfgClear c → s.cmdCheck c = none → s.nor.present = true →
    Answers (.cfgClear t k) s fun u => Answered s k c rsOk 0 [] u ∧ u.cfgValid = false ∧ u.patchSlot = s.patchSlot ∧
      u.patchValid = s.patchValid) ∧
  (∀ (t : Time) (k : Fin 8) (c : Cmd) (l : LongCmd) (s : State), CmdWaits s k opAbort c → s.cmdCheck c = none → s.nor.long = some l →
    l.final = none →
    Answers (.abort t k) s fun u => Answered s k c rsOk 0 [] u ∧
      u.nor.long = some (if s.cmdOpBusy = true then { l with aborting := true }
        else { l with aborting := true, final := some (rsAborted, 0, []) })) ∧
  (∀ (t : Time) (k : Fin 8) (c : Cmd) (s : State), CmdWaits s k opKeyRevoke c → s.cmdCheck c = none →
    Answers (.keyRevoke t k) s fun u => Answered s k c rsOk 0 [] u ∧
      u.nor.keyStat = s.nor.keyStat ||| BitVec.ofNat 4 (1 <<< c.arg 0))

/-- Firmware commands that answer ACCEPTED and go on. Each long command answers ACCEPTED, shows in CMD_STAT and is under
way with its first step: NOR_READ posts bytes on Q11, NOR_ERASE, NOR_WRITE, PATCH_STAGE and CFG_SAVE start their first flash
operation, LOG_READ posts records on Q10, and NOR_CRC ends with the CRC-32 of its range. Rules: R394, R396, R397, R398, R403,
R424. The model's readings and choices: log entries 94, 98. -/
def Obligations.LongCommands : Prop :=
  (∀ (t : Time) (k : Fin 8) (c : Cmd) (s : State), s.canon = true → CmdWaits s k opNorRead c → s.cmdCheck c = none →
    Answers (.norRead t k) s fun u => Accepted s k c u ∧
      (s.nor.present = true → s.cmdOpBusy = false → s.credit 11 (min 4096 (c.arg 1)) = true →
        ∃ x r, (u.q 11).items = (s.q 11).items ++ x :: r ∧ x.tag.toNat = c.tag % 65536 ∧
          x.data = s.readNor (c.arg 0) (min 4096 (c.arg 1)))) ∧
  (∀ (t : Time) (k : Fin 8) (c : Cmd) (s : State), s.canon = true → CmdWaits s k opNorErase c → s.cmdCheck c = none →
    Answers (.norErase t k) s fun u => Accepted s k c u ∧
      (PortFree s → u.nor.cur = some ⟨if c.arg 0 % 65536 = 0 ∧ 65536 ≤ c.arg 1 then .erase64 else .erase4, c.arg 0, [], false, []⟩ ∧ u.nor.flash = s.nor.flash)) ∧
  (∀ (t : Time) (k : Fin 8) (c : Cmd) (s : State), s.canon = true → CmdWaits s k opNorWrite c → s.cmdCheck c = none →
    Answers (.norWrite t k) s fun u => Accepted s k c u ∧
      (∀ g, PortFree s → (s.q 4).segs = [g] → g.last = true → g.tag.toNat = c.arg 2 → g.data.length = c.arg 1 →
        (u.q 4).segs = [] ∧ u.nor.flash = s.nor.flash ∧ u.nor.cur = some ⟨.program, c.arg 0, g.data.take (256 - c.arg 0 % 256), false, []⟩)) ∧
  (∀ (t : Time) (k : Fin 8) (c : Cmd) (s : State), s.canon = true → CmdWaits s k opNorCrc c → s.cmdCheck c = none →
    Answers (.norCrc t k) s fun u => Accepted s k c u ∧
      (s.nor.present = true → s.cmdOpBusy = false →
        ∃ l, u.nor.long = some l ∧ l.final = some (rsOk, 0, [crc32 (s.readNor (c.arg 0) (c.arg 1))]))) ∧
  (∀ (t : Time) (k : Fin 8) (c : Cmd) (s : State), s.canon = true → CmdWaits s k opPatchStage c → s.cmdCheck c = none →
    Answers (.patchStage t k) s fun u => Accepted s k c u ∧
      (∀ g, PortFree s → (s.q 4).segs = [g] → g.last = true → g.tag.toNat = c.arg 0 → g.data.length = c.arg 1 →
        (s.patchHead g.data = 0 → u.nor.cur = some ⟨.erase64, patchSlotAddr (1 - s.patchSlot), [], false, []⟩) ∧
        (s.patchHead g.data ≠ 0 → ∃ l, u.nor.long = some l ∧ l.final = some (rsAuthFail, s.patchHead g.data, [])))) ∧
  (∀ (t : Time) (k : Fin 8) (c : Cmd) (s : State), s.canon = true → CmdWaits s k opCfgSave c → s.cmdCheck c = none →
    Answers (.cfgSave t k) s fun u => Accepted s k c u ∧
      (PortFree s → u.nor.cur = some ⟨.erase64, cfgSlotAddr (1 - s.cfgSlot), [], false, []⟩ ∧ ∃ l, u.nor.long = some l ∧ l.buf = s.cfgImage)) ∧
  (∀ (t : Time) (k : Fin 8) (c : Cmd) (s : State), s.canon = true → CmdWaits s k opLogRead c → s.cmdCheck c = none →
    Answers (.logRead t k) s fun u => Accepted s k c u ∧
      (∀ r, s.cmdOpBusy = false → bf (c.arg 0) 1 0 = 2 → bf (c.arg 0) 18 16 ≤ r.sev → s.volatileRecs .a = [r] →
        s.logStart c = some r.seq → s.credit 10 32 = true →
        ∃ x l, (u.q 10).items = (s.q 10).items ++ [x] ∧ x.data = r.bytes ∧ u.nor.long = some l ∧
          l.final = some (rsOk, 0, [1, wd (s.copy .a).seq])))

/-- A firmware command that a check stops is answered with that check and does nothing else. For each command of Table 14-8:
where a check of Table 14-7 fails, the response carries its STATUS and DETAIL, and the long command, flash, directory, keys
and registers stay. Rules: R395, R396, R398, R403, R424. The model's readings and choices: log entries 94, 95, 96. -/
def Obligations.CommandChecks : Prop :=
  ∀ (t : Time) (k : Fin 8) (c : Cmd) (st d : Nat) (op : Nat) (i : Instr) (s : State), CmdWaits s k op c → s.cmdCheck c = some (st, d) →
    (op, i) ∈ [(opGetInfo, Instr.getInfo t k), (opEcho, .echo t k), (opNorRead, .norRead t k), (opNorErase, .norErase t k),
      (opNorWrite, .norWrite t k), (opNorCrc, .norCrc t k), (opDirSet, .dirSet t k), (opPatchStage, .patchStage t k),
      (opPatchSelect, .patchSelect t k), (opCfgSave, .cfgSave t k), (opCfgClear, .cfgClear t k), (opLogRead, .logRead t k),
      (opAbort, .abort t k), (opKeyRevoke, .keyRevoke t k)] →
    Answers i s fun u => Answered s k c st d [] u ∧ u.nor.long = s.nor.long ∧ u.nor.flash = s.nor.flash ∧ u.nor.dir = s.nor.dir ∧
      u.nor.keyStat = s.nor.keyStat ∧ u.nor.patchMin = s.nor.patchMin ∧ u.regs = s.regs

/-- The ends of flash operations and of long commands. An erase or a program reaches the flash at its end, a time-out leaves
it, a finished long command reports and answers, and a missing payload ends NOR_WRITE. Rules: R396, R397, R400. The model's
readings and choices: log entries 36, 97, 98, 100. -/
def Obligations.PortEvents : Prop :=
  (∀ (t : Time) (o : NorOp) (s : State), s.nor.cur = some o → s.nor.long = none →
    Answers (.norOpDone t) s fun u => u.nor.flash =
      if o.isErase = true then Sparse.clearRange s.nor.flash o.addr (o.addr + o.size)
      else if o.kind = .program then progBytes s.nor.flash o.addr o.data else s.nor.flash) ∧
  (∀ (t : Time) (o : NorOp) (s : State), s.nor.cur = some o → o.recorder = true → s.nor.long = none →
    Answers (.norOpDone t) s fun u => ∀ (h : Half) e q, (h, q.seq) ∈ o.recs → e ∈ (u.copy h).slots → e.2 = some q → q.retired = true) ∧
  (∀ (t : Time) (o : NorOp) (c : LongCmd) (s : State), s.nor.cur = some o → o.recorder = false → s.nor.long = some c →
    c.op = opNorErase → c.final = none → c.aborting = false → s.nor.present = true → s.nor.cmdQ = [] → s.nor.recQ = [] →
    s.nor.suspended = none → c.arg 1 ≤ c.done + o.size →
    Answers (.norOpDone t) s fun u => u.nor.cur = none ∧
      u.nor.long = some { c with done := c.done + o.size, final := some (rsOk, 0, []) }) ∧
  (∀ (t : Time) (o : NorOp) (s : State), s.canon = true → s.nor.cur = some o →
    s.nor.curSince + s.fld NOR.NOR_CFG.OP_TMO_MS * msPs ≤ max s.now t →
    (∀ c, o.recorder = false → s.nor.long = some c → Answers (.norTimeout t) s fun u =>
      u.nor.long = some { c with final := some (rsNorErr, 0, []) } ∧ u.nor.flash = s.nor.flash ∧ u.flag NOR.NOR_EVT.TIMEOUT = true) ∧
    (s.nor.long = none → Answers (.norTimeout t) s fun u => u.nor.flash = s.nor.flash ∧ u.flag NOR.NOR_EVT.TIMEOUT = true)) ∧
  (∀ (t : Time) (c : LongCmd) (st d : Nat) (r : List Word) (s : State), s.canon = true → s.nor.long = some c → c.final = some (st, d, r) →
    Answers (.longCommandEnd t) s fun u => u.nor.long = none ∧ u.nor.cmdQ = [] ∧ u.flag NOR.NOR_EVT.CMD_DONE = true ∧
      u.reg NOR.CMD_STAT = wd (c.op * 16777216 + st * 65536 + c.tag) ∧
      ((s.mb c.mailbox).replies.length < 8 → (u.mb c.mailbox).replies = (s.mb c.mailbox).replies ++
        [wd (c.op * 16777216 + r.length * 1048576 + st * 256) :: wd (c.tag * 65536 + d % 65536) :: r])) ∧
  (∀ (t : Time) (c : LongCmd) (s : State), s.nor.long = some c → c.op = opNorWrite → c.buf = [] → c.final = none →
    c.got < c.arg 1 → s.cmdOpBusy = false → c.lastSeg + secPs ≤ max s.now t →
    Answers (.payloadTimeout t) s fun u => u.nor.long = some { c with final := some (rsNoPayload, 0, []) } ∧ u.nor.flash = s.nor.flash)

/-- The recorder: a record, the buckets, a flush, the stream. A record is admitted under its bucket into the slot that the
order gives, or counted as suppressed; a flush puts eligible records in flight; a streamed record is posted once. Rules:
R412, R417, R423. The model's readings and choices: log entries 21, 22, 23, 102. -/
def Obligations.RecorderEvents : Prop :=
  (∀ (t : Time) (code : BitVec 10) (page : BitVec 12) (h g : Half) (a0 a1 a2 : Word) (c : RecCode) (s : State),
    recOf code.toNat = some c → s.running = true → s.runs g = true → (c.origin = .own → g = h) →
    (∀ i ow, (bucketTake ((s.codeCfg c.num).testBit 31) c.sev (Sparse.get bucketFull (s.copy g).buckets c.num)).1 = true →
      placeSlot (s.copy g) c.sev = some (i, ow) →
      Answers (.record t code page h a0 a1 a2) s fun u => (u.copy g).seq = ((s.copy g).seq + 1) % 4294967296 ∧
        ∃ r, (u.copy g).slots = Sparse.set noRec (s.copy g).slots i (some r) ∧ r.code = c.num ∧ r.seq = (s.copy g).seq ∧
          r.time = max s.now t ∧ r.half = g ∧ r.sev = c.sev ∧ r.a0 = a0 ∧ r.a1 = a1 ∧ r.a2 = a2) ∧
    ((bucketTake ((s.codeCfg c.num).testBit 31) c.sev (Sparse.get bucketFull (s.copy g).buckets c.num)).1 = false →
      Answers (.record t code page h a0 a1 a2) s fun u => (u.copy g).slots = (s.copy g).slots ∧ (u.copy g).seq = (s.copy g).seq ∧
        (u.copy g).suppCnt = satAdd 32 (s.copy g).suppCnt 1) ∧
    ((bucketTake ((s.codeCfg c.num).testBit 31) c.sev (Sparse.get bucketFull (s.copy g).buckets c.num)).1 = true →
      placeSlot (s.copy g) c.sev = none →
      Answers (.record t code page h a0 a1 a2) s fun u => (u.copy g).slots = (s.copy g).slots ∧
        (u.copy g).drop = satAdd 16 (s.copy g).drop 1)) ∧
  (∀ (t : Time) (h : Half) (c : Nat) (s : State), max s.now t % msPs = 0 → s.running = true →
    Sparse.wf bucketFull (s.copy h).buckets = true → s.canon = true →
    Answers (.bucketRefill t) s fun u => Sparse.get bucketFull (u.copy h).buckets c =
      refill (s.codeCfg c) (Sparse.get bucketFull (s.copy h).buckets c)) ∧
  (∀ (t : Time) (rs : List Held) (s : State), rs = (s.at t).unflushed.filter (s.at t).eligible → s.up = true → s.drives = true →
    s.yewPort.logOk = true → s.pfail = false → 8 ≤ rs.length → s.yewPort.roll.full = false →
    Answers (.yewFlush t) s fun u => ∀ r, r ∈ rs → u.inFlight r.1 r.2.2.seq = true) ∧
  (∀ (t : Time) (h : Half) (i : Nat) (r : YewRec) (s : State),
    (s.at t).streamRecs.find? (fun r => !r.2.2.streamed && (s.at t).eligible r) = some (h, i, r) → s.up = true → s.drives = true →
    Answers (.streamPost t) s fun u => (∀ e q, e ∈ (u.copy h).slots → e.2 = some q → q.seq = r.seq → q.streamed = true) ∧
      (s.flag YEW.YEW_CFG.STREAM_EN = true → s.fld YEW.YEW_CFG.STREAM_MIN_SEV ≤ r.sev → s.credit 10 r.bytes.length = true →
        ∃ x, (u.q 10).items = (s.q 10).items ++ [x] ∧ x.data = r.bytes))

/-- The satellite basebands: clock and gain checks, measurements, corrections, loss, solutions, bursts. Each event sets the
counts, flags and items that its rule gives. Rules: R48, R295, R296, R303, R305, R308, R444. The model's readings and
choices: log entries 142, 143, 144, 145, 146. -/
def Obligations.GnssEvents : Prop :=
  (∀ (t : Time) (c : BitVec 17) (s : State), s.canon = true → s.up = true →
    (51998 ≤ c.toNat → c.toNat ≤ 52002 → Answers (.gifClkCheck t c) s fun u =>
      u.reg (GNSS.GIF_CLK_CNT 0) = wd c.toNat ∧ u.gnss.gifRun = min 10 (s.gnss.gifRun + 1) ∧
      u.gnss.gifOk = (s.gnss.gifOk || decide (10 ≤ s.gnss.gifRun + 1)) ∧ u.flag (GNSS.GNSS_STAT.GIF_CLK_OK 0) = u.gnss.gifOk) ∧
    (c.toNat < 51998 ∨ 52002 < c.toNat → Answers (.gifClkCheck t c) s fun u =>
      u.reg (GNSS.GIF_CLK_CNT 0) = wd c.toNat ∧ u.gnss.gifRun = 0 ∧ u.gnss.gifOk = false ∧
      u.flag (GNSS.GNSS_EVT.GIF_CLK_BAD 0) = true ∧ u.flag (GNSS.GNSS_STAT.GIF_CLK_OK 0) = false)) ∧
  (∀ (t : Time) (l1 l5 : IfCounts) (c1 c5 : Nat × Nat) (m d : Nat) (s : State), s.canon = true → s.up = true →
    s.dev ≠ .standby ∨ s.gnss.burst = true →
    c1 = s.ifCount (s.flag (GNSS.IF_CFG.L1_QINV 0)) l1 → c5 = s.ifCount (s.flag (GNSS.IF_CFG.L5_QINV 0)) l5 →
    (s.gnss.gifOk = true → s.fld (GNSS.AGC_CFG.BAND 0) < 3 →
      m = (if s.fld (GNSS.AGC_CFG.BAND 0) = 0 then percent c1.1 c1.2 else if s.fld (GNSS.AGC_CFG.BAND 0) = 1 then percent c5.1 c5.2
        else percent (c1.1 + c5.1) (c1.2 + c5.2)) →
      d = (if s.flag (GNSS.AGC_CFG.MODE 0) = true then s.fld (GNSS.AGC_CFG.DUTY_FIX 0)
        else agcDuty s.gnss.duty (s.fld (GNSS.AGC_CFG.TARGET_PCT 0)) m (s.fld (GNSS.AGC_CFG.GAIN 0))) →
      Answers (.agcUpdate t l1 l5) s fun u => u.gnss.duty = d ∧
        u.gnss.dutyRun = (if d = 0 ∨ d = 1023 then s.gnss.dutyRun + 1 else 0) ∧
        u.gnss.dutyOut = (if s.ballsRun = true then d else s.gnss.dutyOut) ∧
        u.fld (GNSS.AGC_STAT.DUTY 0) = d ∧ u.fld (GNSS.AGC_STAT.M_L1 0) = percent c1.1 c1.2 ∧
        u.fld (GNSS.AGC_STAT.M_L5 0) = percent c5.1 c5.2 ∧
        (u.gnss.dutyRun = 100 → u.flag (GNSS.GNSS_EVT.AGC_LIMIT 0) = true)) ∧
    (s.gnss.gifOk = false → s.flag (GNSS.AGC_CFG.MODE 0) = false →
      Answers (.agcUpdate t l1 l5) s fun u => u.gnss.duty = s.gnss.duty ∧
        u.fld (GNSS.AGC_STAT.M_L1 0) = s.fld (GNSS.AGC_STAT.M_L1 0) ∧ u.fld (GNSS.AGC_STAT.M_L5 0) = s.fld (GNSS.AGC_STAT.M_L5 0))) ∧
  (∀ (t : Time) (ms : List ChanMeas) (asg : List ChanAssign) (o : ObsTime) (h : Half) (s : State), s.canon = true → s.up = true →
    (s.at t).measInstant = true → s.inCharge = some h → s.flag (GNSS.MEAS_CFG.OBS_EN 0) = true →
    s.credit 13 (32 + 32 * ms.length) = true →
    Answers (.measurement t ms asg o) s fun u => ∃ x n, (u.q 13).items = (s.q 13).items ++ [x] ∧ n ≤ ms.length ∧
      x.data.take 2 = [1, BitVec.ofNat 8 n] ∧ x.data.length = 32 + 32 * n) ∧
  (∀ (t : Time) (m : ChanMeas) (o : ObsTime) (s : State), Sparse.wf noChan s.gnss.chans = true → s.up = true →
    (s.at t).measInstant = true → s.gnss.gifOk = true → s.gnss.advance = false → s.basebandOn m.half = true →
    poolIx m.half m.ch.toNat ∈ s.assigned m.half → (s.chan (poolIx m.half m.ch.toNat)).st ≠ .burstHold →
    Answers (.measurement t [m] [] o) s fun u =>
      u.chan (poolIx m.half m.ch.toNat) = (s.chan (poolIx m.half m.ch.toNat)).after (decide (s.dev = .standby)) m) ∧
  (∀ (t : Time) (b : List Byte) (len : Nat) (s v : State), s.canon = true → s.up = true → s.halves.any s.basebandOn = true →
    v = State.takeQ2 (s.q 2).segs.length (s.at t) → b = seekPreamble v.gnss.buf → len = bf (beNat ((b.drop 1).take 2)) 9 0 →
    (b.length < len + 6 → Answers (.rtcmFrame t) s fun u => u.gnss = { v.gnss with buf := b }) ∧
    (len + 6 ≤ b.length → crc24 (b.take (len + 3)) = beNat ((b.drop (len + 3)).take 3) →
      Answers (.rtcmFrame t) s fun u => u.gnss.buf = b.drop (len + 6) ∧
        (isEph (bitsMsb ((b.take (len + 3)).drop 3) 0 12) = true → u.reg (GNSS.RTCM_RX_CNT 0) = v.reg (GNSS.RTCM_RX_CNT 0) + 1) ∧
        (isMsm (bitsMsb ((b.take (len + 3)).drop 3) 0 12) = true → s.flag (GNSS.RTK_CFG.STN_LOCK 0) = true →
          bitsMsb ((b.take (len + 3)).drop 3) 12 12 = s.fld (GNSS.RTK_CFG.STN_ID 0) → bitsMsb ((b.take (len + 3)).drop 3) 54 1 = 0 →
          u.reg (GNSS.RTCM_RX_CNT 0) = v.reg (GNSS.RTCM_RX_CNT 0) + 1 ∧ u.gnss.corrAt = some (max s.now t) ∧ u.gnss.rtcmOk = true ∧
            u.gnss.msm = none)) ∧
    (len + 6 ≤ b.length → crc24 (b.take (len + 3)) ≠ beNat ((b.drop (len + 3)).take 3) →
      Answers (.rtcmFrame t) s fun u => u.gnss.buf = b.drop 1 ∧ u.flag (GNSS.GNSS_EVT.RTCM_BAD 0) = true)) ∧
  (∀ (t : Time) (h : Half) (s : State), s.canon = true → s.basebandOn h = true → s.gnss.lost.get h.ix = false →
    s.gnss.solAt.get h.ix + 1000 * msPs ≤ max s.now t →
    Answers (.gnssLost t h) s fun u => u.gnss.lost.get h.ix = true ∧ u.flag (GNSS.GNSS_EVT.SOL_LOST h.ix) = true) ∧
  (∀ (t : Time) (h : Half) (x : Solution) (ts : Option TimeSol) (s : State), s.basebandOn h = true → x.time.toNat * nsPs ≤ max s.now t →
    Answers (.gnssSolution t h x ts) s fun u => u.gnss.sol.get h.ix = some x ∧
      (2 ≤ x.qual.toNat → u.gnss.lost.get h.ix = false ∧ u.gnss.solAt.get h.ix = max s.now t) ∧
      u.pose.sols = (if h = s.solver then s.pose.sols ++ [(max s.now t, x)] else s.pose.sols) ∧
      (s.inCharge = some h → s.flag (GNSS.MEAS_CFG.SOL_OUT 0) = true → s.credit 13 32 = true →
        ∃ i, (u.q 13).items = (s.q 13).items ++ [i] ∧ i.data = solRecord x) ∧
      (∀ m, h = s.solver → ts = some m → s.isTimeSol x m = true →
        u.time.model = some m ∧ u.time.val = .locked ∧ u.time.solAt = max s.now t)) ∧
  (∀ (t : Time) (h : Half) (s : State), s.canon = true → Sparse.wf noChan s.gnss.chans = true → s.dev = .standby →
    (s.inCharge = some h → s.gnss.burst = false → max s.now t % secPs < 60 * msPs → Answers (.burstStart t) s fun u =>
      u.gnss.burst = true ∧ u.flag (GNSS.GNSS_STAT.BURST h.ix) = true ∧
        ∀ i ∈ s.burstChans h, (u.chan i).st = if 3 ≤ (s.chan i).missed then .acq else .track) ∧
    (s.gnss.burst = true → 60 * msPs ≤ max s.now t % secPs → Answers (.burstEnd t) s fun u =>
      u.gnss.burst = false ∧ u.flag (GNSS.GNSS_STAT.BURST 0) = false ∧ ∀ i ∈ s.assigned .a, (u.chan i).st = .burstHold))

/-- The time model's validity, the pulse and the sub-pulses. Holdover, expiry, the preparation of a pulse, its firing and
the sub-pulses of TPB; a pulse leaves its ball while a half drives it and PFAIL_N has not frozen it. Rules: R18, R30, R310,
R311, R312, R313. The model's readings and choices: log entries 148. -/
def Obligations.TimeEvents : Prop :=
  (∀ (t : Time) (s : State), s.canon = true → s.up = true → s.time.val = .locked →
    s.time.solAt + max (1000 * msPs) (2 * s.measPs) ≤ max s.now t →
    Answers (.timeHoldover t) s fun u => u.time.val = .holdover ∧ u.time.holdAt = max s.now t ∧ u.time.tAcc0 = (s.at t).tAcc ∧
      u.time.model = s.time.model ∧ u.flag TPLS.TP_EVT.HOLDOVER = true) ∧
  (∀ (t : Time) (s : State), s.canon = true → s.up = true → s.time.val = .holdover → s.fld TPLS.TP_HOLD.HOLD_S ≠ 0 →
    1000 * s.fld TPLS.TP_HOLD.HOLD_S ≤ (s.at t).holdMs →
    Answers (.timeExpired t) s fun u => u.time.val = .expired ∧ u.flag TPLS.TP_EVT.EXPIRED = true ∧
      (s.flag TPLS.TP_CFG.STOP_EXP = true → u.time.stopped = true ∧ u.time.next = none)) ∧
  (∀ (t : Time) (m : TimeSol) (s : State), s.canon = true → s.time.model = some m → s.up = true → s.flag TPLS.TP_CFG.EN = true →
    s.en pgTpls = true → s.time.stopped = false → s.time.val ≠ .none →
    s.idealAt m ((s.at t).nextSecond m) ≤ ((max s.now t : Nat) : Int) + 200000000000 →
    Answers (.pulsePrepare t) s fun u => u.flag TPLS.TP_EVT.NEXT_READY = true ∧ ∃ p, u.time.next = some p ∧
      u.time.lastSec = some p.sec ∧ (s.time.a.natAbs < 10000000 → p.sec = ((s.at t).nextSecond m).toNat)) ∧
  (∀ (t : Time) (p : Prepared) (s : State), s.canon = true → s.time.next = some p → s.up = true → p.edge ≤ max s.now t →
    Answers (.tpulse t) s fun u => u.time.next = none ∧ u.time.lastEdge = some p.edge ∧ u.time.lastSecIdeal = some p.ideal ∧
      (if s.ballsRun = true then u.time.outEdge = some p.edge ∧ u.flag TPLS.TP_EVT.PULSE = true ∧ u.reg TPLS.TP_CNT = s.reg TPLS.TP_CNT + 1
       else u.time.outEdge = s.time.outEdge ∧ u.regs = s.regs)) ∧
  (∀ (t i0 e : Time) (m : TimeSol) (s : State), s.time.lastSecIdeal = some i0 → s.time.model = some m → s.up = true →
    s.fld TPLS.TPB_CFG.MODE = 1 → s.time.stopped = false → s.time.subN * s.fld TPLS.TPB_CFG.PB_MS < 1000 →
    e = (nearestCycle ((i0 : Int) + ringSpan m ((s.time.subN * s.fld TPLS.TPB_CFG.PB_MS * msPs : Nat) : Int))).toNat →
    e ≤ max s.now t →
    Answers (.tpulseB t) s fun u => u.time.subN = s.time.subN + 1 ∧
      (s.ballsRun = false → u.time.subLast = s.time.subLast) ∧
      (∀ l, s.time.subLast = some l → 2 * e < 2 * l + s.fld TPLS.TPB_CFG.PB_MS * msPs → u.time.subLast = some l) ∧
      (s.ballsRun = true → (∀ l, s.time.subLast = some l → 2 * l + s.fld TPLS.TPB_CFG.PB_MS * msPs ≤ 2 * e) →
        u.time.subLast = some e))

/-- Link flits and time-outs of a segment. IDLE, and PORT_IDLE from a grant to its takeover, their acknowledgements, NAK for
the first discarded flit, the resend of what is held before any new flit, and a lost link. Rules: R20, R21, R22, R154, R329,
R491. The model's readings and choices: log entries 62, 89, 155. -/
def Obligations.LinkEvents : Prop :=
  (∀ (t : Time) (n : LaneIx) (typ : Nat) (s : State), s.canon = true → s.laneLive n = true →
    (s.lane n).dn.lastLinkSend + usPs ≤ max s.now t → typ = (if s.laurel.grant.isSome = true then ftPortIdle else ftIdle) →
    (s.laurel.grant.isSome = true ∨ s.inCharge.isSome = true ∨ s.laurel.conflict.isSome = true →
      Answers (.idleFlitSend t n .dn) s fun u => u.lane n = { s.lane n with dn := { (s.lane n).dn with
          lastLinkSend := max s.now t,
          wire := some (mkFlit typ (s.lane n).dn.txSeq (if typ = ftPortIdle then s.epoch (pgLane n) else s.tokenEpoch)
            ((s.lane n).up.rxLast.setWidth 32)) } } ∧
        u.reg (LANE.FLIT_CNT n) = s.reg (LANE.FLIT_CNT n) + 1) ∧
    (s.laurel.grant = none → s.inCharge = none → s.laurel.conflict = none →
      Answers (.idleFlitSend t n .dn) s fun u => u = s.at t)) ∧
  (∀ (t : Time) (n : LaneIx) (s : State), s.laneLive n = true → (s.lane n).up.lastLinkSend + usPs ≤ max s.now t →
    Answers (.idleFlitSend t n .up) s fun u => u.lane n = { s.lane n with up := { (s.lane n).up with
        lastLinkSend := max s.now t,
        wire := some (mkFlit ftIdle (s.lane n).up.txSeq (s.epoch (pgLane n)) ((s.lane n).dn.rxLast.setWidth 32)) } }) ∧
  (∀ (t : Time) (n : LaneIx) (f : Flit) (s : State), s.canon = true → s.laneLive n = true → flitGood f = true → f.typ.toNat = ftIdle →
    (Answers (.idleFlit t n .dn f) s fun u => (u.lane n).lastDn = max s.now t ∧ (u.lane n).dn = (s.lane n).dn ∧
      (u.lane n).lost = ((s.lane n).lost && decide (f.epoch ≠ s.epoch (pgLane n))) ∧
      ((s.lane n).qclrWait = none →
        (u.lane n).up = (((s.lane n).up.ack (f.payload.setWidth 4) (max s.now t)).1.pump (max s.now t) 16).1)) ∧
    ((s.lane n).halfQ = [] → Answers (.idleFlit t n .up f) s fun u => ∀ r,
      r = ((s.lane n).dn.ack (f.payload.setWidth 4) (max s.now t)).1.pump (max s.now t) 16 →
      (u.lane n).dn = r.1 ∧ u.reg (LANE.FLIT_CNT n) = s.reg (LANE.FLIT_CNT n) + wd r.2)) ∧
  (∀ (t : Time) (n : LaneIx) (f : Flit) (s : State), s.laneLive n = true → flitGood f = true → f.typ.toNat = ftPortIdle →
    Answers (.portIdle t n f) s fun u => (u.lane n).lastDn = max s.now t ∧ (u.lane n).lost = (s.lane n).lost ∧
      (u.lane n).dn = (s.lane n).dn ∧ ((s.lane n).qclrWait = none →
        (u.lane n).up = (((s.lane n).up.ack (f.payload.setWidth 4) (max s.now t)).1.pump (max s.now t) 16).1)) ∧
  (∀ (t : Time) (n : LaneIx) (f : Flit) (q : BitVec 4) (s : State), s.canon = true → s.laneLive n = true → flitGood f = true →
    f.typ.toNat = ftNak → q = f.payload.setWidth 4 →
    ((s.lane n).halfQ = [] → Answers (.nak t n .up f) s fun u =>
      (u.lane n).dn = ((((s.lane n).dn.ack (q - 1) (max s.now t)).1.resend q (max s.now t)).1.pump (max s.now t) 16).1 ∧
      u.fld (LANE.NAK_CNT.DN n) = satAdd 16 (s.fld (LANE.NAK_CNT.DN n)) 1) ∧
    ((s.lane n).qclrWait = none → Answers (.nak t n .dn f) s fun u => (u.lane n).lastDn = max s.now t ∧
      (u.lane n).dn = (s.lane n).dn ∧
      (u.lane n).up = ((((s.lane n).up.ack (q - 1) (max s.now t)).1.resend q (max s.now t)).1.pump (max s.now t) 16).1)) ∧
  (∀ (t : Time) (n : LaneIx) (f : Flit) (s : State), s.laneLive n = true → 2 < f.typ.toNat → f.typ.toNat ≠ ftEpochAdv →
    (flitGood f = false ∨ f.seq ≠ (s.lane n).dn.rxLast + 1) →
    Answers (.qend t n f) s fun u => (u.lane n).queue = (s.lane n).queue ∧ (u.lane n).dn = { (s.lane n).dn with naked := true } ∧
      ((s.lane n).dn.naked = false → (u.lane n).up.wire =
        some (mkFlit ftNak (s.lane n).up.txSeq (s.epoch (pgLane n)) (((s.lane n).dn.rxLast + 1).setWidth 32))) ∧
      ((s.lane n).dn.naked = true → (u.lane n).up = (s.lane n).up)) ∧
  (∀ (t : Time) (n : LaneIx) (f : Flit) (s : State), s.laneLive n = true → 2 < f.typ.toNat →
    (flitGood f = false ∨ f.seq ≠ (s.lane n).up.rxLast + 1) →
    Answers (.dly t n f) s fun u => u.fpe = s.fpe ∧ (u.lane n).up = { (s.lane n).up with naked := true } ∧
      ((s.lane n).up.naked = false → (u.lane n).dn.wire =
        some (mkFlit ftNak (s.lane n).dn.txSeq s.tokenEpoch (((s.lane n).up.rxLast + 1).setWidth 32)))) ∧
  (∀ (t : Time) (n : LaneIx) (f : TxFlit) (fs : List TxFlit) (s : State), s.laneLive n = true → (s.lane n).dn.held = f :: fs →
    (s.lane n).dn.ackAt + 4 * usPs ≤ max s.now t →
    Answers (.resendTimeout t n .dn) s fun u =>
      (u.lane n).dn.held = (resendFrom (f :: fs)).1 ∧ (u.lane n).dn.ackAt = max s.now t) ∧
  (∀ (t : Time) (n : LaneIx) (f : TxFlit) (fs : List TxFlit) (s : State), s.laneLive n = true → (s.lane n).up.held = f :: fs →
    (s.lane n).up.ackAt + 4 * usPs ≤ max s.now t →
    Answers (.resendTimeout t n .up) s fun u =>
      (u.lane n).up.held = (resendFrom (f :: fs)).1 ∧ (u.lane n).up.ackAt = max s.now t) ∧
  (∀ (t : Time) (n : LaneIx) (s : State), s.canon = true → s.laneLive n = true → (s.lane n).lost = false →
    (s.lane n).lastDn + 4 * usPs ≤ max s.now t →
    Answers (.linkLost t n) s fun u => u.lane n = { s.lane n with lost := true } ∧ u.flag (LANE.LANE_EVT.LOST n) = true)

/-- An event at a lane. A good EVT pair in sequence, of the present epoch and of no earlier twin, takes the first FREE entry,
waiting, with its outlet, type, value and unwrapped travel, and is acknowledged; a twin is acknowledged and counted, a full
queue answers EVT_FULL, an event of an earlier or later epoch, one of a reserved type or class, one while the lane drains and
a lone half of an event are not admitted. Rules: R35, R155, R156, R157, R168, R175. The model's readings and choices: log
entries 61, 66. -/
def Obligations.EventAdmission : Prop :=
  (∀ (t : Time) (n : LaneIx) (a b : Flit) (typ : EvtType) (i : Nat) (s : State), EvtPair s n a b → a.epoch = s.epoch (pgLane n) →
    (s.lane n).draining = none → (s.lane n).disabled = false → (s.lane n).safeLow = false →
    evtTypeOf (bf b.payload.toNat 28 27) = some typ → bf b.payload.toNat 26 24 ≤ 3 → evtTwin s n a b typ = false →
    (s.lane n).freeEntry = some i →
    Answers (.evt t n a (some b)) s fun u => ∃ e : QEntry,
      (u.lane n).queue = Sparse.set noEntry (s.lane n).queue i (some e) ∧ e.st = .waiting ∧ e.typ = typ ∧
      e.outlet = evtOut b ∧ e.val = bf b.payload.toNat 23 0 ∧ e.adm = (s.lane n).nextAdm + 1 ∧
      e.xv = nearest48 ((s.lane n).trav.get e.outlet).tl a.payload.toNat ∧ e.admAt = max s.now t ∧
      ((s.lane n).up.held = [] → (s.lane n).up.waiting = [] → (s.lane n).qclrWait = none →
        (u.lane n).up.held.map (fun f => (f.typ, f.payload)) = [(fuAck, ackWord e.outlet typ.code false e.xv)])) ∧
  (∀ (t : Time) (n : LaneIx) (a b : Flit) (typ : EvtType) (s : State), s.canon = true → EvtPair s n a b →
    a.epoch = s.epoch (pgLane n) → (s.lane n).draining = none → evtTypeOf (bf b.payload.toNat 28 27) = some typ →
    bf b.payload.toNat 26 24 ≤ 3 →
    (evtTwin s n a b typ = true → Answers (.evt t n a (some b)) s fun u => (u.lane n).queue = (s.lane n).queue ∧
      u.fld (LANE.DISC_CNT.DUP n) = satAdd 8 (s.fld (LANE.DISC_CNT.DUP n)) 1) ∧
    (evtTwin s n a b typ = false → (s.lane n).freeEntry = none → Answers (.evt t n a (some b)) s fun u =>
      (u.lane n).queue = (s.lane n).queue ∧ u.flag SCHED.SCHED_EVT.EVT_FULL = true ∧
      u.fld ⟨LANE.QFULL_CNT n, 31, 0⟩ = satAdd 32 (s.fld ⟨LANE.QFULL_CNT n, 31, 0⟩) 1)) ∧
  (∀ (t : Time) (n : LaneIx) (a b : Flit) (s : State), s.canon = true → EvtPair s n a b →
    (epochCheck a.epoch (s.epoch (pgLane n)) = .stale → Answers (.evt t n a (some b)) s fun u =>
      (u.lane n).queue = (s.lane n).queue ∧ u.fld (LANE.EPOCH_CNT.STALE n) = satAdd 16 (s.fld (LANE.EPOCH_CNT.STALE n)) 1) ∧
    (epochCheck a.epoch (s.epoch (pgLane n)) = .ahead → Answers (.evt t n a (some b)) s fun u =>
      (u.lane n).queue = (s.lane n).queue ∧ u.fld (LANE.EPOCH_CNT.AHEAD n) = satAdd 16 (s.fld (LANE.EPOCH_CNT.AHEAD n)) 1) ∧
    (a.epoch = s.epoch (pgLane n) → (s.lane n).draining.isSome = true → Answers (.evt t n a (some b)) s fun u =>
      (u.lane n).queue = (s.lane n).queue) ∧
    (a.epoch = s.epoch (pgLane n) → (s.lane n).pendA = none →
      evtTypeOf (bf b.payload.toNat 28 27) = none ∨ 3 < bf b.payload.toNat 26 24 → Answers (.evt t n a (some b)) s fun u =>
        (u.lane n).queue = (s.lane n).queue ∧ u.fld (LANE.DISC_CNT.TORN n) = satAdd 8 (s.fld (LANE.DISC_CNT.TORN n)) 1)) ∧
  (∀ (t : Time) (n : LaneIx) (f : Flit) (s : State), s.canon = true → s.laneLive n = true → flitGood f = true →
    f.seq = (s.lane n).dn.rxLast + 1 → (s.lane n).pendA = none →
    (f.typ.toNat = ftEvtA → Answers (.evt t n f none) s fun u => (u.lane n).pendA = some f ∧ (u.lane n).queue = (s.lane n).queue) ∧
    (f.typ.toNat = ftEvtB → Answers (.evt t n f none) s fun u => (u.lane n).pendA = none ∧ (u.lane n).queue = (s.lane n).queue))

/-- The other flits that a lane takes from its port. Travel updates, EPOCH_ADV, DRAIN, SP_DEM and QEND with the implicit OFF
of an open outlet. Rules: R158, R160, R172, R174, R175, R256. The model's readings and choices: log entries 61, 65, 66. -/
def Obligations.LaneFlits : Prop :=
  (∀ (t : Time) (n : LaneIx) (fs : List Flit) (ps : List (Word × Word)) (h : Flit) (r : List Flit) (s : State), s.laneLive n = true →
    (s.lane n).trvAsm ++ fs = h :: r → fs.head?.map (·.seq) = some ((s.lane n).dn.rxLast + 1) → fs.all flitGood = true →
    h.typ.toNat = ftTrvHdr → trvPairs h.epoch 8 h.seq r = some ps → h.epoch = s.epoch (pgLane n) →
    Answers (.travelUpdate t n fs) s fun u =>
      (u.lane n).updAt = max s.now t ∧ (u.lane n).drExpired = false ∧ (u.lane n).trvAsm = [] ∧
      (u.lane n).tk = poseInstant (max s.now t) (h.payload.toNat % 2147483648) ∧
      ∀ k : Fin 8, ((u.lane n).trav.get k).sk = (nth (0, 0) ps k.val).2.toInt ∧
        (if h.payload.toNat.testBit 31 = true then
          ((u.lane n).trav.get k).tk = (nth (0, 0) ps k.val).1.toNat ∧ ((u.lane n).trav.get k).tl = (nth (0, 0) ps k.val).1.toNat
        else ((u.lane n).trav.get k).tk = nearest48 ((s.lane n).trav.get k).tl (nth (0, 0) ps k.val).1.toNat ∧
          ((u.lane n).trav.get k).tl = ((s.lane n).trav.get k).tl)) ∧
  (∀ (t : Time) (n : LaneIx) (f : Flit) (s : State), s.canon = true → s.laneLive n = true → flitGood f = true → f.typ.toNat = ftEpochAdv →
    f.payload.toNat = f.epoch.toNat → 0 < epochDiff f.epoch (s.epoch (pgLane n)) →
    Answers (.epochAdv t n f) s fun u => u.epoch (pgLane n) = f.epoch ∧ (u.lane n).lost = false) ∧
  (∀ (t : Time) (n : LaneIx) (f : Flit) (s : State), s.canon = true → s.laneLive n = true → flitGood f = true → f.seq = (s.lane n).dn.rxLast + 1 →
    f.typ.toNat = ftDrain → f.epoch = s.epoch (pgLane n) →
    Answers (.drain t n f) s fun u => (u.lane n).draining = some (max s.now t)) ∧
  (∀ (t : Time) (n : LaneIx) (f : Flit) (s : State), s.canon = true → s.laneLive n = true → flitGood f = true → f.seq = (s.lane n).dn.rxLast + 1 →
    f.typ.toNat = ftSpDem → f.epoch = s.epoch (pgLane n) →
    Answers (.spDem t n f) s fun u => (u.eng.get n).dem = f.payload) ∧
  (∀ (t : Time) (n : LaneIx) (f : Flit) (s : State), s.canon = true → s.laneLive n = true → flitGood f = true → f.seq = (s.lane n).dn.rxLast + 1 →
    f.typ.toNat = ftQend → f.epoch = s.epoch (pgLane n) →
    (∀ k : OutIx, s.isOpen n k = false ∧ (s.lane n).onDue k (max s.now t) = false) →
    Answers (.qend t n f) s fun u => (u.lane n).queue = (s.lane n).queue ∧ (u.lane n).dn.rxLast = f.seq) ∧
  (∀ (t : Time) (n : LaneIx) (f : Flit) (k : OutIx) (s : State), s.canon = true → s.laneLive n = true → flitGood f = true → f.seq = (s.lane n).dn.rxLast + 1 →
    f.typ.toNat = ftQend → f.epoch = s.epoch (pgLane n) → s.isOpen n k = true → (s.lane n).queue = [] →
    Answers (.qend t n f) s fun u => ∃ e, e ∈ (u.lane n).entries ∧ e.2.outlet = k ∧ e.2.typ = .off ∧ e.2.implicit = true ∧
      e.2.xv = max48 ((s.lane n).lastTarget.get k) ((s.lane n).tl k (max s.now t)))

/-- What a lane does by its own clocks. The end of a drain (DRAIN_END), expired dead reckoning (DR_EXPIRED) and a full UP queue
(UP_QUEUE_HIGH) close the lane's outlets and cancel its entries; the re-aim (REAIM) gives every waiting entry its firing cycle
and arms those of the coming interval; the firing (FIRE) of the next entry reports it, puts its value in force and acts on its
outlet. Rules: R162, R163, R164, R165, R170, R171, R175, R492. The model's readings and choices: log entries 3, 64. -/
def Obligations.LaneTimers : Prop :=
  (∀ (t a : Time) (n : LaneIx) (s : State), s.canon = true → s.laneLive n = true → (s.lane n).draining = some a →
    a + s.fld SCHED.SCHED_CFG.DRAIN_MS * msPs ≤ max s.now t →
    Answers (.drainEnd t n) s fun u => (u.lane n).draining = none ∧ (u.lane n).drained = true ∧ (u.lane n).safeLow = true ∧
      (u.lane n).queue = [] ∧ OutletsEnded s n u ∧ u.drainedBit (pgLane n) = true ∧
      u.fld ⟨LANE.CANCEL_CNT n, 31, 0⟩ = satAdd 32 (s.fld ⟨LANE.CANCEL_CNT n, 31, 0⟩) (s.lane n).occ ∧
      ((s.lane n).up.held = [] → (s.lane n).up.waiting = [] →
        (u.lane n).up.held.map (fun f => (f.typ, f.payload)) = [(fuQclr, qclrWord 3 (s.openMask n))])) ∧
  (∀ (t : Time) (n : LaneIx) (s : State), s.canon = true → s.laneLive n = true → (s.lane n).drExpired = false →
    (s.lane n).updAt + s.fld SCHED.SCHED_CFG.DR_MS * msPs ≤ max s.now t →
    Answers (.drExpired t n) s fun u => (u.lane n).drExpired = true ∧ (u.lane n).queue = [] ∧ OutletsEnded s n u ∧
      (u.lane n).qclrWait = some (qclrWord 2 (s.openMask n)) ∧ u.flag SCHED.SCHED_EVT.DR_EXPIRED = true ∧
      u.fld ⟨LANE.CANCEL_CNT n, 31, 0⟩ = satAdd 32 (s.fld ⟨LANE.CANCEL_CNT n, 31, 0⟩) (s.lane n).occ) ∧
  (∀ (t : Time) (n : LaneIx) (s : State), s.canon = true → s.laneLive n = true → (s.lane n).drExpired = false →
    992 ≤ (s.lane n).up.held.length + (s.lane n).up.waiting.length →
    Answers (.upQueueHigh t n) s fun u => (u.lane n).drExpired = true ∧ (u.lane n).queue = [] ∧ OutletsEnded s n u ∧
      (u.lane n).qclrWait = some (qclrWord 2 (s.openMask n)) ∧ u.flag SCHED.SCHED_EVT.DR_EXPIRED = true ∧
      u.fld ⟨LANE.CANCEL_CNT n, 31, 0⟩ = satAdd 32 (s.fld ⟨LANE.CANCEL_CNT n, 31, 0⟩) (s.lane n).occ) ∧
  (∀ (t : Time) (n : LaneIx) (s : State), s.laneLive n = true → max s.now t % (10 * usPs) = 0 →
    Answers (.reaim t n) s fun u => (u.lane n).qSnap = (u.lane n).queue ∧ (u.lane n).tSnap = (u.lane n).trav ∧
      (∀ k : Fin 8, (u.lane n).trav.get k = { (s.lane n).trav.get k with tl := (s.lane n).tl k (max s.now t) }) ∧
      (∀ (i : Nat) (e : QEntry) (v : LaneTravel) (d : Nat) (next : Time), (s.lane n).queue = [(i, some e)] → e.st = .waiting →
        e.admAt < max s.now t → v = (s.lane n).trav.get e.outlet → next = max s.now t + 10 * usPs →
        d = (match e.aimTyp with | .on => s.pubOn n e.outlet | .off => s.pubOff n e.outlet | .rate => 0) →
        (u.lane n).queue = [(i, some (armEntry next ⟨i, e, aimOf
          (diff48 e.xv (max48 ((s.lane n).tl e.outlet (max s.now t)) (trvLine v (s.lane n).tk next))) d (max v.sk 0).toNat⟩))])) ∧
  (∀ (t : Time) (n : LaneIx) (sm : List Sample) (i x : Nat) (e : QEntry) (s : State), s.canon = true → s.laneLive n = true →
    s.inSafe n = false → (s.at t).cancelNow n = false → (s.lane n).nextFire (max s.now t) = some (i, e) →
    x = (s.lane n).tl e.outlet (max s.now t) →
    Answers (.fire t n sm) s fun u => (u.lane n).queue = Sparse.set noEntry (s.lane n).queue i none ∧
      ((u.lane n).trav.get e.outlet).tl = x ∧ u.reg (LANE.FIRED_CNT n) = s.reg (LANE.FIRED_CNT n) + 1 ∧
      (e.late = true → u.flag SCHED.SCHED_EVT.LATE = true ∧
        u.fld ⟨LANE.LATE_CNT n, 31, 0⟩ = satAdd 32 (s.fld ⟨LANE.LATE_CNT n, 31, 0⟩) 1) ∧
      (e.typ ≠ .off → ((s.lane n).inForce.get e.outlet).adm < e.adm → e.also = none →
        (u.lane n).inForce.get e.outlet = { val := e.val, adm := e.adm }) ∧
      (e.typ = .on → (u.out n e.outlet).lastOn = true) ∧
      (e.typ = .off → (u.out n e.outlet).lastOn = false ∧
        (s.kind n e.outlet ≠ 2 → (s.out n e.outlet).st = .phase → (u.out n e.outlet).st = .decay ∧ (u.out n e.outlet).decay = .turnOff)) ∧
      ((s.lane n).up.held = [] → (s.lane n).up.waiting = [] → ∃ a b r, (u.lane n).up.held = a :: b :: r ∧
        a.typ = fuFireA ∧ a.payload = wd x ∧ b.typ = fuFireB ∧ b.payload = wd (e.outlet.val * 536870912 + e.typ.code * 134217728 +
          b2n e.late * 67108864 + min e.lateness 67108863)))

/-- What a lane reports to the spine. Acknowledgements, EVT_FULL with the hold, FIRE reports, QCLR, motions, learned delays
and peak waits. Rules: R157, R164, R168, R171, R196, R219, R227. The model's readings and choices: log entries 62, 66, 67,
68. -/
def Obligations.UpReports : Prop :=
  (∀ (t : Time) (n : LaneIx) (f : Flit) (s : State), s.canon = true → TakenUp s n f fuAck →
    Answers (.evtAck t n f) s fun u =>
      u.fpe.posted.get n = eraseFirst (ackNames n f.payload.toNat) (s.fpe.posted.get n) ∧
      u.fpe.hold.get n = eraseFirst (ackNames n f.payload.toNat) (s.fpe.hold.get n) ∧
      u.reg SCHED.ADMIT_TOTAL = s.reg SCHED.ADMIT_TOTAL + (if f.payload.toNat.testBit 26 then 0 else 1)) ∧
  (∀ (t : Time) (n : LaneIx) (f : Flit) (e : FEvent) (s : State), TakenUp s n f fuFull →
    (s.fpe.posted.get n).find? (ackNames n f.payload.toNat) = some e →
    (s.fpe.hold.get n).length < s.fld SCHED.SCHED_HOLD.HOLD_MAX → e.typ ≠ evRate →
    Answers (.evtFull t n f) s fun u =>
      u.fpe.posted.get n = eraseFirst (ackNames n f.payload.toNat) (s.fpe.posted.get n) ∧
      u.fpe.hold.get n = s.fpe.hold.get n ++ [e]) ∧
  (∀ (t : Time) (s : State), s.up = true → s.maySend = true →
    Answers (.holdReoffer t) s fun u => u.fpe = s.fpe ∧
      ∀ (n : LaneIx) (e : FEvent), s.laneLive n = true → s.fpe.hold.get n = [e] → 2 ≤ s.dnRoom n →
        (u.lane n).dn = (((evtFlits e).foldl (fun d f => d.push f.1 s.tokenEpoch f.2) (s.lane n).dn).pump (max s.now t) 16).1) ∧
  (∀ (t : Time) (n : LaneIx) (a b : Flit) (j : Nat) (s : State), s.canon = true → TakenUp s n a fuFireA → flitGood b = true →
    b.seq = a.seq + 1 → b.typ.toNat = fuFireB → j = payOut n b.payload.toNat →
    Answers (.fireReport t n [a, b]) s fun u => u.reg SCHED.FIRED_TOTAL = s.reg SCHED.FIRED_TOTAL + 1 ∧
      (bf b.payload.toNat 28 27 = evOff →
        u.fo j = (s.fo j).offFired (nearest48 (s.trav.outs.get (gIx j)).t a.payload.toNat)) ∧
      (bf b.payload.toNat 28 27 = evOn → (s.fo j).isOn = false ∨ ((s.fo j).conf = false ∧ (s.fo j).onFired = none) →
        (u.fo j).onFired = some (max s.now t, s.fpeOn j) ∧ (u.fo j).isOn = true ∧ (u.fo j).dead = false ∧
        (u.fo j).acts = (s.fo j).acts) ∧
      (bf b.payload.toNat 28 27 ≠ evOff → bf b.payload.toNat 28 27 ≠ evOn → u.fo j = s.fo j)) ∧
  (∀ (t : Time) (n : LaneIx) (f : Flit) (s : State), TakenUp s n f fuQclr →
    Answers (.qclr t n f) s fun u => ∀ k : OutIx, (f.payload.toNat % 256).testBit k.val = true →
      (u.fo (8 * n.val + k.val)).cmd = false ∧ (u.fo (8 * n.val + k.val)).win = none ∧ (u.fo (8 * n.val + k.val)).isOn = false ∧
      (∀ e, e ∈ u.fpe.deferred.get n → e.j % 8 ≠ k.val) ∧ ∀ e, e ∈ u.fpe.hold.get n → e.j % 8 ≠ k.val) ∧
  (∀ (t : Time) (n : LaneIx) (a b : Flit) (s : State), TakenUp s n a fuMotionA → flitGood b = true → b.seq = a.seq + 1 →
    b.typ.toNat = fuMotionB → b.payload.toNat.testBit 25 = true →
    Answers (.motion t n [a, b]) s fun u =>
      u.fo (payOut n b.payload.toNat) =
        (let x := nearest48 (s.trav.outs.get (gIx (payOut n b.payload.toNat))).t a.payload.toNat;
         if b.payload.toNat.testBit 28 then (s.fo (payOut n b.payload.toNat)).closeAct x
         else (s.fo (payOut n b.payload.toNat)).openAct x)) ∧
  (∀ (t : Time) (n : LaneIx) (f : Flit) (s : State), TakenUp s n f fuDly →
    Answers (.dly t n f) s fun u =>
      if f.payload.toNat.testBit 28 then (u.fo (payOut n f.payload.toNat)).dOffNew = some (bf f.payload.toNat 27 0)
      else (u.fo (payOut n f.payload.toNat)).dOnNew = some (bf f.payload.toNat 27 0)) ∧
  (∀ (t : Time) (n : LaneIx) (f : Flit) (s : State), TakenUp s n f fuPeakRpt →
    Answers (.peakRpt t n f) s fun u => (u.lane n).up.rxLast = f.seq ∧ u.fpe = s.fpe)

/-- Fences. A fence by the host, by a self-check and by link faults marks the lane, sets its bit of SYS.FENCE, empties its queues
and takes it to safe state; the other lanes stay; a 0 clears a bit in PRIMROSE only. Rules: R31, R446, R463. The model's
readings and choices: log entries 150. -/
def Obligations.LaneFences : Prop :=
  (∀ (t : Time) (v : Word) (s : State), s.canon = true → s.running = true →
    Answers (.fence t v) s fun u => u.dev = s.dev ∧ ∀ n : LaneIx, s.hasLane n = true →
      (u.reg SYS.FENCE).getLsbD n.val =
        (if v.getLsbD n.val = true then true else if s.dev = .primrose then false else (s.reg SYS.FENCE).getLsbD n.val) ∧
      (if v.getLsbD n.val = true ∧ (s.lane n).fenced = none
       then (u.lane n).fenced = some .host ∧ LaneSafe n u ∧ u.flag SYS.SYS_EVT.LANE_FENCE = true
       else u.lane n = s.lane n ∧ u.bank n = s.bank n)) ∧
  (∀ (t : Time) (n : LaneIx) (test : BitVec 16) (s : State), s.canon = true → s.laneLive n = true →
    Answers (.laneSelfFail t n test) s fun u => (u.lane n).fenced = some .selfCheck ∧ (u.lane n).selfTest = test.toNat ∧
      LaneSafe n u ∧ (u.reg SYS.FENCE).getLsbD n.val = true ∧ u.flag (LANE.LANE_EVT.SELF_FAIL n) = true ∧
      ∀ m, m ≠ n → u.lane m = s.lane m) ∧
  (∀ (t : Time) (n : LaneIx) (s : State), s.canon = true → s.laneLive n = true → s.faultBurst n = true →
    Answers (.autofence t n) s fun u => (u.lane n).fenced = some .link ∧ (u.lane n).dn.held = [] ∧ (u.lane n).up.held = [] ∧
      LaneSafe n u ∧ (u.reg SYS.FENCE).getLsbD n.val = true ∧ ∀ m, m ≠ n → u.lane m = s.lane m)

/-- What takes lanes to safe state, and out of it. SAFE_N, no half in charge, a single half that stops, a power fail, a lost
clock and a supply out of range. Rules: R3, R24, R25, R27, R30, R175, R460. The model's readings and choices: log entries
37, 50, 51. -/
def Obligations.SafeStateEvents : Prop :=
  (∀ (t : Time) (n : LaneIx) (s : State), s.canon = true → s.laneLive n = true → (s.at t).safeNLow n = true →
    (s.lane n).safeLow = false →
    Answers (.safeNFall t n) s fun u => LaneSafe n u ∧ (u.lane n).safeMask = s.openMask n ∧
      u.fld ⟨LANE.CANCEL_CNT n, 31, 0⟩ = satAdd 32 (s.fld ⟨LANE.CANCEL_CNT n, 31, 0⟩) (s.lane n).occ ∧
      ∀ m, m ≠ n → u.lane m = s.lane m) ∧
  (∀ (t : Time) (n : LaneIx) (s : State), s.laneLive n = true → (s.at t).safeNLow n = false → (s.lane n).safeLow = true →
    Answers (.safeNRise t n) s fun u =>
      (u.lane n).safeLow = false ∧ (u.lane n).queue = (s.lane n).queue ∧ u.banks = s.banks ∧
      ((s.lane n).up.held = [] → (s.lane n).up.waiting = [] →
        (u.lane n).up.held.map (fun f => (f.typ, f.payload)) = [(fuQclr, qclrWord 1 (s.lane n).safeMask)]) ∧
      ∀ m, m ≠ n → u.lane m = s.lane m) ∧
  (∀ (t : Time) (s : State) (a : Time), s.up = true → s.laurel.noChargeAt = some a →
    s.bothInService = true → a + 20 * usPs ≤ max s.now t →
    Answers (.noChargeTimeout t) s fun u => ∀ n, s.laneLive n = true → (u.lane n).safeLow = true ∧
      ((s.lane n).safeLow = false → LaneSafe n u)) ∧
  (∀ (t : Time) (s : State), s.up = true → (∀ n, (s.at t).safeNLow n = false) →
    (Answers (.noChargeTimeout t) s fun u => u = s.at t) ∧ (Answers (.singleHalfStop t) s fun u => u = s.at t)) ∧
  (∀ (t : Time) (s : State) (a : Time), s.up = true → s.laurel.singleStopAt = some a →
    s.bothInService = false → a + s.fld SCHED.SCHED_CFG.DR_MS * msPs ≤ max s.now t →
    Answers (.singleHalfStop t) s fun u => ∀ n, s.laneLive n = true → (u.lane n).safeLow = true ∧
      ((s.lane n).safeLow = false → LaneSafe n u)) ∧
  (∀ (t : Time) (s : State), s.canon = true → s.running = true → s.pfail = false →
    Answers (.pfailFall t) s fun u => u.pfail = true ∧ u.dev = s.dev ∧ u.waking = none ∧ u.checking = false ∧
      u.pfailBalls = some (s.at t).liveBalls ∧ u.flag SYS.SYS_EVT.PFAIL = true ∧
      ∀ n, s.laneLive n = true → (u.lane n).safeLow = true ∧ ((s.lane n).safeLow = false → LaneSafe n u)) ∧
  (∀ (t : Time) (pll : Bool) (s : State), s.canon = true → s.running = true →
    Answers (.clockLoss t pll) s fun u => u.clockLost = true ∧ u.dev = s.dev ∧ u.flag CLK.CLK_STAT.INT_OSC = true ∧
      u.flag SYS.SYS_EVT.CLOCK_LOSS = true ∧
      ∀ n, s.laneLive n = true → (u.lane n).safeLow = true ∧ ((s.lane n).safeLow = false → LaneSafe n u)) ∧
  (∀ (t : Time) (i : Supply) (meas : BitVec 16) (s : State), s.canon = true → s.running = true → s.inRange.get i = true →
    Answers (.supplyOor t i meas) s fun u => u.inRange.get i = false ∧ u.flag ⟨PWR.PWR_EVT, i.val, i.val⟩ = true ∧
      (if i = 2 ∨ i = 4 then u.lanes = s.lanes
       else u.supplySafe = true ∧ ∀ n, s.laneLive n = true → (u.lane n).safeLow = true))

/-- The other monitors. A supply back in range, a temperature, a SerDes unlock, the close of the power-fail set and the end
of its flush. Rules: R422, R459, R460, R461. The model's readings and choices: log entries 39, 49, 103. -/
def Obligations.MonitorEvents : Prop :=
  (∀ (t : Time) (i : Supply) (meas : BitVec 16) (s : State),
    Answers (.supplyInRange t i meas) s fun u => u = { s.at t with inRange := s.inRange.set i true }) ∧
  (∀ (t : Time) (temp : BitVec 16) (s : State), s.canon = true → s.running = true →
    (Answers (.tempRead t false temp) s fun u => u.fld ⟨PWR.TEMP, 15, 0⟩ = temp.toNat ∧ u.tempSeen.get 0 = true ∧
      (s.tempSeen.get 0 = false → u.fld ⟨PWR.TEMP_MAX, 15, 0⟩ = temp.toNat) ∧
      (10 * (s.fld PWR.TEMP_CFG.TWARN : Int) ≤ temp.toInt → u.flag ⟨PWR.PWR_STAT, 16, 16⟩ = true ∧ u.flag PWR.PWR_EVT.TEMP_HI = true) ∧
      (temp.toInt ≤ 10 * (s.fld PWR.TEMP_CFG.TWARN : Int) - 50 → u.flag ⟨PWR.PWR_STAT, 16, 16⟩ = false)) ∧
    (Answers (.tempRead t true temp) s fun u => u.fld ⟨PWR.TEMP, 31, 16⟩ = temp.toNat ∧ u.tempSeen.get 1 = true ∧
      (s.tempSeen.get 1 = false → u.fld ⟨PWR.TEMP_MAX, 31, 16⟩ = temp.toNat) ∧
      (10 * (s.fld PWR.TEMP_CFG.TWARN : Int) ≤ temp.toInt → u.flag ⟨PWR.PWR_STAT, 17, 17⟩ = true ∧ u.flag PWR.PWR_EVT.TEMP_HI = true) ∧
      (temp.toInt ≤ 10 * (s.fld PWR.TEMP_CFG.TWARN : Int) - 50 → u.flag ⟨PWR.PWR_STAT, 17, 17⟩ = false))) ∧
  (∀ (t : Time) (p : Ring) (s : State), s.canon = true → s.ringLive p = true → (s.port p).link = .up →
    Answers (.serdesUnlock t p) s fun u => (u.port p).link = .down ∧ (u.port p).sendRfault = true ∧
      u.flag (if p = .a then CLK.CLK_STAT.SERDES_A_LOCK else CLK.CLK_STAT.SERDES_B_LOCK) = false ∧
      u.flag (RTX.PORT_EVT.LINK_DOWN p.ix) = true) ∧
  (∀ (t : Time) (s : State), s.pfail = true → s.yewPort.pfailActive = true → s.yewPort.pfailClosed = false →
    s.yewPort.pfailAt + msPs ≤ max s.now t →
    Answers (.pfailSetClose t) s fun u => u.yewPort.pfailClosed = true ∧ u.yewPort.pfailCount ≤ 128 ∧
      u.yewPort.pfailSet = (((s.at t).unflushed.filter (fun r => decide (r.2.2.time ≤ s.yewPort.pfailAt + msPs))).take 128).map
        (fun r => (r.1, r.2.2.seq))) ∧
  (∀ (t : Time) (s : State), s.canon = true → s.yewPort.pfailActive = true → s.yewPort.pfailClosed = true → s.nor.recQ = [] →
    (∀ o, s.nor.cur = some o → o.recorder = false) →
    Answers (.pfailDone t) s fun u => u.yewPort.pfailActive = false ∧ u.yewPort.pfailDone = true ∧ u.yewPort.pfailPending = true ∧
      u.reg YEW.PFAIL_TIME = wd (min 65535 ((max s.now t - s.yewPort.pfailAt) / (msPs / 10))))

/-- Power and reset. POWER_ON leads to RESET, the rise of PORST_N to BOOT, its fall to RESET, SOFT_RESET to BOOT, and BOOT
to PRIMROSE or IDLE, or nowhere after a failed ROM check. Rules: R30, R32, R431, R432. The model's readings and choices: log
entries 34, 35, 37, 38, 40. -/
def Obligations.ResetEvents : Prop :=
  (∀ (t : Time) (s : State), s.dev = .off →
    Answers (.powerOn t) s fun u => u.dev = .reset ∧ u.prev = .off ∧ ∀ i : Fin 6, i.val < 5 → u.inRange.get i = true) ∧
  (∀ (t : Time) (straps : BitVec 4) (lockUs : BitVec 16) (s : State), s.dev = .reset →
    Answers (.porstNRise t straps lockUs) s fun u =>
      u.dev = .boot ∧ u.prev = .reset ∧ u.devAt = max s.now t ∧ u.ring.root = straps.getLsbD 0) ∧
  (∀ (t : Time) (s : State), s.running = true →
    Answers (.porstNLow t) s fun u => u.dev = .reset ∧ u.prev = s.dev ∧ u.pfail = false ∧ u.lanes = State.reset.lanes ∧
      u.nor.flash = s.nor.flash) ∧
  (∀ (t : Time) (s : State), s.canon = true → s.running = true →
    ((s.at t).pfailNow = false → Answers (.softReset t) s fun u =>
      (if s.clockLost = true then u.dev = .reset ∧ u.prev = s.dev else u.dev = .boot ∧ u.prev = .reset) ∧
      u.pfail = false ∧ u.lanes = State.reset.lanes ∧ u.nor.flash = s.nor.flash) ∧
    ((s.at t).pfailNow = true → NoError s 0 → Answers (.softReset t) s fun u => u.dev = s.dev ∧ u.lanes = s.lanes ∧
      Refused 0 0x804 .stateRefused u)) ∧
  (∀ (t : Time) (r : BootResult) (s : State), s.dev = .boot → s.romFail = false → (s.at t).mayChange = true →
    Answers (.bootExit t r) s fun u =>
      if r.romOk then (u.dev = .primrose ∨ u.dev = .idle) ∧ u.prev = .boot ∧ (s.norSkip = true → u.dev = .primrose) ∧
        ∀ n, s.hasLane n = true → r.laneOk.getLsbD n.val = false → (u.lane n).fenced.isSome = true
      else u.dev = .boot ∧ u.romFail = true)

/-- Changes of the device state. ARM, DISARM, UNSEAL, STANDBY, WAKE and the end of waking, leaving RUN without a valid speed or
after 2 s of low quality, and what a change that is not open leaves. Rules: R30, R32, R63, R121, R174, R175, R309, R435, R444,
R445. The model's readings and choices: log entries 44, 45, 46, 47. -/
def Obligations.StateChanges : Prop :=
  (∀ (t : Time) (s : State), s.dev = .idle → (s.at t).runOpen = true → (s.at t).wokeNow = false →
    Answers (.arm t) s fun u => u.dev = .armed ∧ u.prev = .idle ∧ u.devAt = max s.now t ∧
      (if max s.now t / posePs ≤ s.trav.k then ∀ j, (u.trav.outs.get j).t = 0 ∧ (u.trav.outs.get j).r = 0
       else u.trav.zeroK = some (max s.now t / posePs)) ∧
      (∀ j, (u.fpe.outs.get j).cmd = false) ∧
      ∀ n, s.laneLive n = true → (u.lane n).drained = false ∧ (u.safeNLow n = false → (u.lane n).safeLow = false)) ∧
  (∀ (t : Time) (s : State), (s.dev = .armed ∨ s.dev = .run) → (s.at t).runOpen = true →
    Answers (.disarm t) s fun u => u.dev = .idle ∧ u.prev = s.dev ∧ u.idleDrain = true ∧ CtrlSent s ftDrain u) ∧
  (∀ (t : Time) (s : State), s.dev = .idle → (s.at t).runOpen = true →
    Answers (.unseal t) s fun u => u.dev = .primrose ∧ u.prev = .idle ∧ u.map = s.map ∧ u.laurel = s.laurel ∧
      ∀ n, s.laneLive n = true → (u.lane n).safeLow = true) ∧
  (∀ (t : Time) (s : State), s.dev = .idle → (s.at t).runOpen = true →
    Answers (.standby t) s fun u => u.dev = .standby ∧ u.prev = .idle ∧ u.map = s.map ∧
      ∀ n, s.laneLive n = true → (u.lane n).safeLow = true ∧ ∀ g, ((u.pwm.get n).gen.get g).running = false) ∧
  (∀ (t : Time) (s : State), s.dev = .standby → (s.at t).runOpen = true →
    Answers (.wake t) s fun u => u.dev = .standby ∧ u.waking = some (max s.now t)) ∧
  (∀ (t : Time) (s : State), s.dev = .standby → s.waking.isSome = true → (s.at t).mayChange = true →
    Answers (.wakeComplete t) s fun u => u.dev = .idle ∧ u.prev = .standby ∧ u.waking = none ∧ u.gnss.burst = false ∧
      u.gnss.advance = true) ∧
  (∀ (t : Time) (s : State), s.dev = .run → (s.at t).mayChange = true → (s.at t).disarmNow = false →
    s.pose.cur.spdValid = false ∨ (∃ a, s.qualLow = some a ∧ a + 2 * secPs ≤ max s.now t) →
    Answers (.speedInvalid t) s fun u => u.dev = .armed ∧ u.prev = .run ∧ u.devAt = max s.now t ∧ CtrlSent s ftQend u ∧
      ∀ n e, e ∈ u.fpe.deferred.get n → e.typ = evOff) ∧
  (∀ (t : Time) (i : Instr) (s : State), s.canon = true → s.running = true → (s.at t).runOpen = false → NoError s 0 →
    i ∈ [Instr.arm t, .disarm t, .unseal t, .standby t, .wake t] →
    Answers i s fun u => u.dev = s.dev ∧ u.lanes = s.lanes ∧ Refused 0 0x804 .stateRefused u)

/-- The seal: its start, its refusal and its three ends. A seal starts in PRIMROSE with a snapshot, is refused elsewhere,
and ends with a wrong CRC, a failed condition or IDLE, where the lanes of SYS.FENCE are FENCED; after a power fail or a loss of
clocks it does not end. Rules: R27, R437, R439, R446. The model's readings and choices: log entries 24, 25,
32. -/
def Obligations.SealEvents : Prop :=
  (∀ (t : Time) (crc : Word) (s : State), s.canon = true → s.dev = .primrose → (s.at t).mayChange = true → s.checking = false →
    Answers (.seal t crc) s fun u => u.checking = true ∧ u.sealExp = crc ∧ u.sealSnap = s.regs ∧ u.dev = .primrose ∧
      u.reg SYS.SEAL_STAT = 0x10000000) ∧
  (∀ (t : Time) (crc : Word) (s : State), s.canon = true → s.running = true →
    s.dev ≠ .primrose ∨ s.checking = true ∨ (s.at t).mayChange = false → NoError s 0 →
    Answers (.seal t crc) s fun u => u.checking = s.checking ∧ u.dev = s.dev ∧ u.sealExp = s.sealExp ∧ Refused 0 0x80C .stateRefused u) ∧
  (∀ (t : Time) (m : BitVec 16) (s : State), s.checking = false ∨ (s.at t).mayChange = false →
    Answers (.sealDone t m) s fun u => u = s.at t) ∧
  (∀ (t : Time) (m : BitVec 16) (s : State), s.canon = true → s.checking = true → (s.at t).mayChange = true →
    ({ s with regs := s.sealSnap } : State).sealCrc ≠ s.sealExp →
    Answers (.sealDone t m) s fun u => u.checking = false ∧ u.dev = s.dev ∧
      u.reg SYS.SEAL_STAT = wd (3 * 268435456 + 16777216 + 0x80C) ∧ u.reg SYS.SEAL_CRC_CALC = ({ s with regs := s.sealSnap } : State).sealCrc ∧
      u.flag SYS.SYS_EVT.SEAL_DONE = true) ∧
  (∀ (t : Time) (m : BitVec 16) (p o : Nat) (s : State), s.canon = true → s.checking = true → (s.at t).mayChange = true →
    ({ s with regs := s.sealSnap } : State).sealCrc = s.sealExp → s.sealFail = some (p, o) →
    Answers (.sealDone t m) s fun u => u.checking = false ∧ u.dev = s.dev ∧
      u.reg SYS.SEAL_STAT = wd (3 * 268435456 + 2 * 16777216 + p % 4096 * 4096 + o % 4096) ∧ u.flag SYS.SYS_EVT.SEAL_DONE = true) ∧
  (∀ (t : Time) (m : BitVec 16) (s : State), s.canon = true → s.checking = true → (s.at t).mayChange = true →
    ({ s with regs := s.sealSnap } : State).sealCrc = s.sealExp → s.sealFail = none →
    Answers (.sealDone t m) s fun u => u.checking = false ∧ u.dev = .idle ∧ u.prev = s.dev ∧ u.idleDrain = false ∧
      u.reg SYS.SEAL_STAT = 0x20000000 ∧
      ∀ n, s.hasLane n = true → (s.reg SYS.FENCE).getLsbD n.val = true → (u.lane n).fenced.isSome = true)

/-- The test access port. IDCODE loads the identification word and clears EXTEST; EXTEST is held as a flag. Rules: R484. The
model's readings and choices: log entries 151. -/
def Obligations.TestAccess : Prop :=
  ∀ (t : Time) (s : State),
    (Answers (.idcode t) s fun u => u = { s.at t with tdo := 0x11680C2D, extest := false }) ∧
    (Answers (.extest t) s fun u => u = { s.at t with extest := true })

/-- Heartbeats sent, checked and lost, and a half that finds itself faulty. A sent heartbeat is good for its number; a
received one clears the misses; the fourth miss declares the loss and what follows from it. Rules: R322, R323. The model's
readings and choices: log entries 52, 53, 54, 55. -/
def Obligations.Heartbeats : Prop :=
  (∀ (t : Time) (h : Half) (s : State), s.up = true → s.serving h = true →
    Answers (.heartbeatSend t h) s fun u => hbGood ((max s.now t + 500 * nsPs) / hbPs) (some (u.half h).hbSent) = true ∧
      (u.half h).resign = ((s.half h).resign || (s.half h).handover || decide ((s.half h).identStep ≠ 0))) ∧
  (∀ (t : Time) (h : Half) (arr : HbArrivals) (s : State), s.up = true → s.serving h = true →
    ((s.hbEn 0 && hbGood (max s.now t / hbPs) arr.laurel0 || s.hbEn 1 && hbGood (max s.now t / hbPs) arr.laurel1) = true →
      (arr.laurel0.getD 0).toNat.testBit 8 = false → (arr.laurel1.getD 0).toNat.testBit 8 = false →
      Answers (.heartbeatCheck t h arr) s fun u => (u.half h).missLaurel = 0 ∧ (u.half h).lostLaurel = false ∧
        (u.half h).lastHb = max s.now t / hbPs * hbPs) ∧
    ((s.hbEn 0 && hbGood (max s.now t / hbPs) arr.laurel0 || s.hbEn 1 && hbGood (max s.now t / hbPs) arr.laurel1) = false →
      (s.half h).lostLaurel = false →
      Answers (.heartbeatCheck t h arr) s fun u => (u.half h).missLaurel = (s.half h).missLaurel + 1 ∧
        (u.half h).lastHb = (s.half h).lastHb)) ∧
  (∀ (t : Time) (h : Half) (s : State), s.canon = true → s.up = true → s.serving h = true →
    (4 ≤ (s.half h).missLaurel → (s.half h).lostLaurel = false → Answers (.heartbeatLoss t h) s fun u => (u.half h).lostLaurel = true ∧
      (s.tokenHolder = h → s.twoHalves = true → u.laurel.declared = true ∧ u.inCharge = none ∧ u.laurel.noChargeAt.isSome = true)) ∧
    (s.twoHalves = true → 4 ≤ (s.half h).missOther → (s.half h).lostOther = false → s.serving h.other = true →
      (s.role h = .shadow → s.tokenHolder = h.other → s.inCharge = some h.other → Answers (.heartbeatLoss t h) s fun u =>
        u.role h = .quarantined ∧ u.flag LAUREL.LAUREL_EVT.QUARANTINE = true) ∧
      (s.role h = .charge → s.tokenHolder = h → s.role h.other = .shadow → Answers (.heartbeatLoss t h) s fun u =>
        (h.other, laterEpoch s.tokenEpoch (s.half h.other).maxEpoch + 1) ∈ u.laurel.claims))) ∧
  (∀ (t : Time) (h : Half) (s : State), s.up = true → s.serving h = true →
    Answers (.selfFault t h) s fun u => u.half h = { s.half h with resign := true, handover := false, resignCause := 2 } ∧
      u.laurel.voted = s.laurel.voted ∧ (s.inCharge = some h → u.drives = false))

/-- The token: a vote, a claim, a conflict, a takeover, a handover. The vote of three copies, a claim that is granted or
ties, the end of a conflict, the report of a takeover, and the start of a handover. Rules: R325, R327, R328, R330, R332. The
model's readings and choices: log entries 51, 57, 60. -/
def Obligations.TokenEvents : Prop :=
  (∀ (t : Time) (a b c : TokenCopy) (s : State), s.up = true → s.twoHalves = true →
    (∀ h e, vote { s.laurel with copies := Vector.ofFn (fun i : Fin 3 => if i = 0 then a else if i = 1 then b else c) } = some (h, e) →
      Answers (.tokenCopyError t a b c) s fun u => u.tokenHolder = h ∧ u.tokenEpoch = e ∧ u.laurel.valid = true ∧
        ∀ i, u.laurel.copies.get i = TokenCopy.mk' h e) ∧
    (vote { s.laurel with copies := Vector.ofFn (fun i : Fin 3 => if i = 0 then a else if i = 1 then b else c) } = none →
      s.laurel.valid = true → Answers (.tokenCopyError t a b c) s fun u => u.laurel.valid = false ∧
        u.laurel.invalidAt = max s.now t ∧ u.laurel.voted = s.laurel.voted ∧ u.inCharge = none)) ∧
  (∀ (t : Time) (h : Half) (e : Epoch) (s : State), s.laurel.conflict = none → s.claimHeard (h, e) = true →
    s.laurel.valid = false ∨ 0 < epochDiff e s.tokenEpoch →
    (s.laurel.claims = [(h, e)] → Answers (.claim t) s fun u => u.tokenHolder = h ∧ u.tokenEpoch = e ∧ u.laurel.valid = true ∧
      u.laurel.claims = [] ∧ u.laurel.grant.isSome = true ∧ (s.twoHalves = true → u.role h = .charge) ∧ u.laurel.declared = false ∧
      ∀ n, s.hasLane n = true → (u.lane n).dn.held = [] ∧ (u.lane n).dn.waiting = []) ∧
    (s.laurel.claims = [(.a, e), (.b, e)] → s.claimHeard (.a, e) = true → s.claimHeard (.b, e) = true →
      Answers (.claim t) s fun u => u.laurel.conflict = some (max s.now t, e) ∧ u.laurel.claims = [] ∧ u.inCharge = none)) ∧
  (∀ (t c : Time) (e : Epoch) (s : State), s.canon = true → s.laurel.conflict = some (c, e) → c + 4 * usPs ≤ max s.now t →
    Answers (.conflictEnd t) s fun u => u.tokenHolder = .a ∧ u.tokenEpoch = e ∧ u.laurel.conflict = none ∧
      u.flag LAUREL.LAUREL_EVT.TIE = true ∧ (s.twoHalves = true → u.role .a = .charge ∧ u.role .b = .shadow)) ∧
  (∀ (t : Time) (g : Grant) (s : State), s.canon = true → s.laurel.grant = some g → s.laurel.conflict = none → takeoverAt g.time ≤ max s.now t →
    Answers (.takeover t) s fun u => u.laurel.grant = none ∧
      u.reg LAUREL.TAKEOVER_LAST = wd (bitAt 31 g.resign + bitAt 30 (decide (g.newHolder = .b)) + bitAt 29 g.invalid +
        min 65535 ((takeoverAt g.time - g.tH) / 10000)) ∧
      (∀ n, s.laneLive n = true → (s.lane n).dn.held = [] → (s.lane n).dn.waiting = [] →
        ∃ f r, (u.lane n).dn.held = f :: r ∧ f.typ = ftEpochAdv ∧ f.epoch = s.tokenEpoch ∧ f.payload = wd s.tokenEpoch.toNat) ∧
      u.flag (if g.handover = true then LAUREL.LAUREL_EVT.HANDOVER else LAUREL.LAUREL_EVT.TAKEOVER) = true) ∧
  (∀ (t : Time) (h : Half) (s : State), s.running = true → s.twoHalves = true → s.inCharge = some h → s.role h.other = .shadow →
    (∀ m, s.laurel.lastMismatch = some m → m + secPs < max s.now t) → (s.half h).resign = false →
    Answers (.handover t) s fun u => u.half h = { s.half h with handover := true }) ∧
  (∀ (t : Time) (h : Half) (s : State), s.canon = true → s.running = true → s.twoHalves = true → NoError s pgLaurel →
    s.inCharge = none ∨ (s.inCharge = some h ∧ s.role h.other ≠ .shadow) →
    Answers (.handover t) s fun u => u.laurel = s.laurel ∧ Refused pgLaurel 0x840 .handoverRefused u)

/-- Identification, known-answer tests, suspicion and rejoin. The outcome of an identification, failed known-answer tests, a
cleared suspicion, and the steps of a rejoin. Rules: R334, R335, R336, R337. The model's readings and choices: log entries
48, 56, 58. -/
def Obligations.FaultyHalves : Prop :=
  (∀ (t : Time) (okA okB : Bool) (f st r : Nat) (s : State), s.canon = true → s.laurel.ident = some f → s.up = true →
    s.bothInService = true → s.identify f okA okB = (st, r) →
    st = 1 ∨ tickStart s.laurel.identAt + 4 * tickPs + 250 * usPs ≤ max s.now t →
    Answers (.xchkIdentify t okA okB) s fun u => u.laurel.ident = none ∧
      u.reg LAUREL.XCHK_STAT = wd (r * 1073741824 + st * 268435456 + f % 65536) ∧
      ∀ h : Half, r = (if h = .a then 1 else 2) →
        if h = s.tokenHolder then (u.half h).identStep = st else u.role h = .quarantined) ∧
  (∀ (t : Time) (s : State), s.up = true → (∀ m, s.laurel.lastMismatch = some m → m + 60 * secPs ≤ max s.now t) →
    Answers (.suspectClear t) s fun u => ∀ h, (u.half h).suspect = false) ∧
  (∀ (t : Time) (okA okB : Bool) (s : State), s.canon = true → s.running = true →
    Answers (.katNow t okA okB) s fun u => u.laurel.katAt = max s.now t ∧
      (s.serving .a = true → okA = false → (u.half .a).katFail = true ∧ u.flag LAUREL.LAUREL_EVT.KAT_FAIL = true) ∧
      (s.serving .b = true → okB = false → (u.half .b).katFail = true ∧ u.flag LAUREL.LAUREL_EVT.KAT_FAIL = true)) ∧
  (∀ (t : Time) (okA okB : Bool) (s : State), s.canon = true → s.up = true → s.fld LAUREL.KAT_CFG.KAT_S ≠ 0 →
    s.laurel.katAt + s.fld LAUREL.KAT_CFG.KAT_S * secPs ≤ max s.now t →
    Answers (.katPeriodic t okA okB) s fun u => u.laurel.katAt = max s.now t ∧
      (s.serving .a = true → okA = false → (u.half .a).katFail = true) ∧ (s.serving .b = true → okB = false → (u.half .b).katFail = true)) ∧
  (∀ (t : Time) (h : Half) (s : State), s.running = true → s.twoHalves = true →
    (s.role h = .quarantined → s.role h.other = .charge → Answers (.rejoin t h) s fun u => u.role h = .rejoin ∧
      u.role h.other = .charge ∧ u.laurel.copied = 0) ∧
    (s.role h ≠ .quarantined ∨ s.role h.other ≠ .charge → Answers (.rejoin t h) s fun u => u.laurel = s.laurel ∧ u.yew = s.yew)) ∧
  (∀ (t : Time) (h : Half) (s : State), s.canon = true → s.up = true → s.role h = .rejoin → s.twoHalves = true →
    (Answers (.rejoinDone t h true) s fun u => u.role h = .shadow ∧ u.flag LAUREL.LAUREL_EVT.REJOINED = true ∧
      u.map.slots = s.map.slots.map (fun p => (p.1, copyPlanes h p.2))) ∧
    (Answers (.rejoinDone t h false) s fun u => u.role h = .quarantined ∧ u.flag LAUREL.LAUREL_EVT.QUARANTINE = true))

/-- The maps: tile items, the scrub, requests, evictions, spills, the flush and the job. Each command changes the slots, the
queues and the counts that its rule gives, and leaves the other slots. Rules: R91, R92, R95, R96, R98, R109, R110, R114. The
model's readings and choices: log entries 16, 118, 119, 120, 122. -/
def Obligations.MapCommands : Prop :=
  (∀ (t : Time) (ecc : List EccFault) (s : State), s.canon = true → s.up = true → s.flag MAP.SCRUB_CFG.EN = true →
    Answers (.scrub t ecc) s fun u => u.reg MAP.SCRUB_POS =
        wd (if (s.reg MAP.SCRUB_POS).toNat + 1 < s.nSlots * 384 then (s.reg MAP.SCRUB_POS).toNat + 1 else 0) ∧
      (ecc = [] → u.map = s.map)) ∧
  (∀ (t : Time) (cov : Bool) (gs : List Seg) (s : State), s.canon = true → s.up = true → (s.q (covQ cov)).whole[(s.verdicts cov).length]? = some gs →
    (s.tileCheck cov (itemData gs) = none → Answers (.tileItem t cov) s fun u =>
      u.verdicts cov = s.verdicts cov ++ [{ at_ := max s.now t, discard := none }] ∧ u.hq = s.hq) ∧
    (∀ k, s.tileCheck cov (itemData gs) = some k → s.verdicts cov = [] → Answers (.tileItem t cov) s fun u =>
      u.verdicts cov = [] ∧ (u.q (covQ cov)).segs = (s.q (covQ cov)).segs.drop gs.length ∧ u.map.slots = s.map.slots ∧
      u.flag MAP.MAP_EVT.TILE_REJECT = true)) ∧
  (∀ (t a : Time) (cov : Bool) (r : List Verdict) (gs : List Seg) (w : List (List Seg)) (i : TileItem) (s : State), s.up = true →
    Sparse.wf noSlot s.map.slots = true → s.verdicts cov = { at_ := a, discard := none } :: r → (s.q (covQ cov)).whole = gs :: w →
    a < tickStart (max s.now t) → i = parseTile (itemData gs) →
    (s.tileCheck45 cov i = none → Answers (.tileEffect t cov) s fun u => u.slot i.slot = applyTile cov i (s.slot i.slot) ∧
      (r = [] → (u.q (covQ cov)).segs = (s.q (covQ cov)).segs.drop gs.length) ∧ ∀ j, j ≠ i.slot → u.slot j = s.slot j) ∧
    (s.tileCheck45 cov i ≠ none → Answers (.tileEffect t cov) s fun u => u.map.slots = s.map.slots ∧
      (r = [] → (u.q (covQ cov)).segs = (s.q (covQ cov)).segs.drop gs.length))) ∧
  (∀ (t : Time) (i g : Nat) (r : List (Nat × Nat)) (s : State), s.liveRequests = (i, g) :: r → s.up = true → s.drives = true →
    (if s.map.reqTick = tickOf (max s.now t) then s.map.reqN else 0) < s.fld MAP.WIN_REQ.REQ_PER_TICK →
    s.credit 9 (s.requestItem i (s.slot i)).length = true →
    Answers (.tileRequestPost t) s fun u => u.map.reqQ = r ∧
      ∃ x, (u.q 9).items = (s.q 9).items ++ [x] ∧ x.data = s.requestItem i (s.slot i)) ∧
  (∀ (t a : Time) (k : BitVec 11) (s : State), Sparse.wf noSlot s.map.slots = true → s.up = true → (s.slot k.toNat).reqAt = some a →
    (s.slot k.toNat).st = .requested → ((s.slot k.toNat).covOk && (s.slot k.toNat).prxOk) = false →
    a + s.fld MAP.WIN_REQ.RETRY_MS * msPs ≤ max s.now t →
    Answers (.requestRetry t k) s fun u => u.map.reqQ = s.map.reqQ ++ [(k.toNat, (s.slot k.toNat).gen)] ∧
      u.slot k.toNat = { s.slot k.toNat with reqAt := none, retry := min ((s.slot k.toNat).retry + 1) 255 }) ∧
  (∀ (t : Time) (h : Half) (i : Nat) (is : List Nat) (s : State), s.up = true → s.inCharge = some h →
    s.slotsWith (fun x => decide (x.st = .evicting) && !x.posted) = i :: is →
    s.credit 8 (s.evictItem i (s.slot i) h).length = true →
    Answers (.evictPost t) s fun u => ∃ x xs, (u.q 8).items = (s.q 8).items ++ x :: xs ∧ x.data = s.evictItem i (s.slot i) h) ∧
  (∀ (t : Time) (p : Spill) (r : List Spill) (s : State), s.map.spills = p :: r → s.up = true → s.drives = true →
    s.credit 14 (spillItem p).length = true →
    Answers (.spillPost t) s fun u => u.map.spills = r ∧ ∃ x, (u.q 14).items = (s.q 14).items ++ [x] ∧ x.data = spillItem p) ∧
  (∀ (t : Time) (s : State), s.running = true →
    (s.dev = .run → Answers (.flush t) s fun u => u.map = s.map ∧ u.hq = s.hq) ∧
    (s.dev ≠ .run → s.canon = true → Sparse.wf noSlot s.map.slots = true → Answers (.flush t) s fun u =>
      (s.covEn = true → u.map.flushing = decide (s.occupied ≠ 0)) ∧
      ∀ i, (u.slot i).st ≠ .requested ∧ (u.slot i).st ≠ .resident)) ∧
  (∀ (t : Time) (s : State), s.canon = true → s.running = true →
    Answers (.advJob t) s fun u => u.epoch pgMap = if s.dev = .run ∨ s.allFree = false then s.epoch pgMap else s.epoch pgMap + 1)

/-- The generators and the SYNC chain. A reload (RELOAD) and the transfer at it, writes of the shadow pair (G_CMP_WRITE,
G_PER_WRITE), COMMIT, G_MODE_WRITE and GENERATOR_ENABLE, and a pulse of the chain (SYNC_PULSE) with what it does to the
generators of the first lane that it reaches. A row first settles the reloads and sets that are due on its lane (`pwmNow`).
Rules: R236, R238, R239, R240, R241, R242, R243, R244, R245, R246. The model's readings and choices: log entries 4, 75, 89. -/
def Obligations.GeneratorEvents : Prop :=
  (∀ (t : Time) (n : LaneIx) (g h : Fin 4) (c : Nat) (s v : State), c = (s.gen n g).base + (s.gen n g).len →
    v = (s.at t).setsUntil n (c - 1) → s.canon = true → s.laneLive n = true → (s.gen n g).running = true →
    (s.gen n g).halted = false → s.ownCounter n g = true → c ≤ max s.now t / tclkPs → (s.gen n g).reAt ≠ c →
    h ∈ s.reloadGroup n g → (s.gen n h).running = true →
    ((s.gen n h).draining = true → Answers (.reload t n g) s fun u => (u.gen n h).running = false) ∧
    ((s.gen n h).draining = false → Answers (.reload t n g) s fun u =>
      (u.gen n h).running = true ∧ (u.gen n h).base = c ∧ (u.gen n h).j = ((s.gen n g).j + 1) % 16 ∧
      ((v.gen n h).closed = true → (v.gen n h).closedAt < c →
        (u.gen n h).perAct = v.shPer n h ∧ (u.gen n h).cmpAct = v.shCmp n h) ∧
      ((v.gen n h).closed = false ∨ c ≤ (v.gen n h).closedAt →
        (u.gen n h).perAct = (s.gen n h).perAct ∧ (u.gen n h).cmpAct = (s.gen n h).cmpAct) ∧
      ((s.pwm.get n).sets = [] → ∀ m oe a, (s.gen n h).modePend = some (m, oe, a) → a < c →
        (u.gen n h).mode = m ∧ (u.gen n h).oe = oe))) ∧
  (∀ (t : Time) (n : LaneIx) (g : Fin 4) (s : State), s.laneLive n = true → (s.pwm.get n).sets = [] →
    (∀ h : Fin 4, (s.gen n h).running = true → max s.now t / tclkPs < (s.gen n h).base + (s.gen n h).len) →
    Answers (.reload t n g) s fun u => ∀ h : Fin 4, u.gen n h = s.gen n h) ∧
  (∀ (t : Time) (n : LaneIx) (g : Fin 4) (w : Word) (s v : State), v = (s.at t).pwmNow n → s.canon = true → v.laneLive n = true →
    (v.loopOwned n g = false → Answers (.gCmpWrite t n g w) s fun u => u.reg (PWMG.G_CMP n g) = w &&& 0xFFFFF#32 ∧
      (u.gen n g).cmpW = true ∧ (v.flag (PWMG.G_CFG.COMMIT n g) = false → (u.gen n g).closed = true ∧ (u.gen n g).closedAt = v.cyc) ∧
      (v.flag (PWMG.G_CFG.COMMIT n g) = true → (u.gen n g).closed = (v.gen n g).closed)) ∧
    (v.loopOwned n g = true → Answers (.gCmpWrite t n g w) s fun u => u.pwm = v.pwm ∧
      u.reg (PWMG.G_CMP n g) = v.reg (PWMG.G_CMP n g) ∧
      (NoError v (pgPwmg n) → Refused (pgPwmg n) (PWMG.G_CMP n g % 4096) .loopOwned u))) ∧
  (∀ (t : Time) (n : LaneIx) (g : Fin 4) (w : Word) (s v : State), v = (s.at t).pwmNow n → s.canon = true → v.laneLive n = true →
    Answers (.gPerWrite t n g w) s fun u => u.reg (PWMG.G_PER n g) = w &&& 0xFFFFF#32 ∧ (u.gen n g).perW = true ∧
      (u.gen n g).closed = (v.gen n g).closed ∧
      (v.flag (PWMG.G_CFG.COMMIT n g) = false → (u.gen n g).held = true ∧ ((v.gen n g).cmpOnly = true →
        (u.reg (PWMG.STAT n)).toNat.testBit (16 + g.val) = true ∧ u.flag (PWMG.EVT.ORDER n) = true))) ∧
  (∀ (t : Time) (n : LaneIx) (c : BitVec 4) (s v : State), v = (s.at t).pwmNow n → v.laneLive n = true →
    Answers (.commit t n c) s fun u => ∀ g : Fin 4, u.gen n g =
      if c.toNat.testBit g.val = true ∧ v.flag (PWMG.G_CFG.COMMIT n g) = true ∧ ((v.gen n g).perW = true ∨ (v.gen n g).cmpW = true)
      then { v.gen n g with closed := true, closedAt := v.cyc } else v.gen n g) ∧
  (∀ (t : Time) (n : LaneIx) (g : Fin 4) (w : Word) (s v : State), v = (s.at t).pwmNow n → s.canon = true → v.laneLive n = true →
    (v.loopOwned n g = false →
      Answers (.gModeWrite t n g w) s fun u => u.reg (PWMG.G_MODE n g) = w &&& 0x13#32 ∧
        (u.gen n g).modePend = some (w.toNat % 4, w.toNat.testBit 4, v.cyc) ∧ (u.gen n g).mode = (v.gen n g).mode) ∧
    (v.loopOwned n g = true → Answers (.gModeWrite t n g w) s fun u => u.pwm = v.pwm ∧
      u.reg (PWMG.G_MODE n g) = v.reg (PWMG.G_MODE n g) ∧
      (NoError v (pgPwmg n) → Refused (pgPwmg n) (PWMG.G_MODE n g % 4096) .loopOwned u))) ∧
  (∀ (t : Time) (n : LaneIx) (g : Fin 4) (s v : State), v = (s.at t).pwmNow n → s.canon = true → s.laneLive n = true →
    (s.sealed = false → Answers (.generatorEnable t n g) s fun u => u.flag (PWMG.G_CFG.EN n g) = true ∧
      ((v.gen n g).running = true ∨ v.en (pgPwmg n) = false → u.gen n g = v.gen n g) ∧
      ((v.gen n g).running = false → v.en (pgPwmg n) = true → (u.gen n g).running = true ∧
        (u.gen n g).perAct = v.shPer n g ∧ (u.gen n g).cmpAct = v.shCmp n g ∧
        (v.ownCounter n g = true → (u.gen n g).base = v.cyc ∧ (u.gen n g).j = 0))) ∧
    (s.sealed = true → Answers (.generatorEnable t n g) s fun u => u.pwm = s.pwm ∧
      u.reg (PWMG.G_CFG n g) = s.reg (PWMG.G_CFG n g) ∧
      (NoError s (pgPwmg n) → Refused (pgPwmg n) (PWMG.G_CFG n g % 4096) .lockedWrite u))) ∧
  (∀ (t : Time) (s : State),
    (∀ a, s.syncIn = some a → max s.now t < a + 64 * tclkPs →
      Answers (.syncPulse t none) s fun u => u.syncIn = some a ∧ u.pwm = s.pwm ∧ u.syncOut = s.syncOut) ∧
    ((∀ a, s.syncIn = some a → a + 64 * tclkPs ≤ max s.now t) →
      Answers (.syncPulse t none) s fun u => u.syncIn = some (max s.now t) ∧
        u.syncOut = if (s.syncReach s.laneList).2 = true then some (max s.now t) else s.syncOut)) ∧
  (∀ (t : Time) (m : LaneIx) (s : State), s.laneLive m = true → 2 ≤ s.syncSel m →
    (s.gen m (if s.syncSel m = 2 then 0 else 3)).zero0.map (· + 4) = some (max s.now t / tclkPs) →
    Answers (.syncPulse t (some m)) s fun u => u.syncIn = s.syncIn ∧
      u.syncOut = if (s.syncReach (s.laneList.filter (fun n => decide (m.val < n.val)))).2 = true then some (max s.now t) else s.syncOut) ∧
  (∀ (t : Time) (n : LaneIx) (r : List LaneIx) (g : Fin 4) (x : GenState) (c p : Nat) (s : State), s.canon = true →
    (∀ a, s.syncIn = some a → a + 64 * tclkPs ≤ max s.now t) → (s.syncReach s.laneList).1 = n :: r → s.laneLive n = true →
    (s.pwm.get n).sets = [] →
    (∀ h : Fin 4, (s.gen n h).running = true → max s.now t / tclkPs < (s.gen n h).base + (s.gen n h).len) →
    x = s.gen n g → c = max s.now t / tclkPs → x.running = true → s.ownCounter n g = true →
    (s.fld (PWMG.SYNC_CFG.IN_EN n)).testBit g.val = true →
    p = (if g = 3 then s.fld (PWMG.SYNC_PH_G3.PHASE n) else s.fld (PWMG.SYNC_PH_BR.PHASE n)) + 4 →
    (p % max 1 x.len = c - x.base → Answers (.syncPulse t none) s fun u => u.gen n g = x) ∧
    (p % max 1 x.len ≠ c - x.base → p % max 1 x.len = (c - x.base + 1) % max 1 x.len →
      Answers (.syncPulse t none) s fun u => (u.gen n g).base = x.base - 1 ∧ (u.gen n g).j = x.j) ∧
    (p % max 1 x.len ≠ c - x.base → p % max 1 x.len ≠ (c - x.base + 1) % max 1 x.len →
      c - x.base = (p % max 1 x.len + 1) % max 1 x.len →
      Answers (.syncPulse t none) s fun u => (u.gen n g).base = x.base + 1 ∧ (u.gen n g).j = x.j) ∧
    (p % max 1 x.len ≠ c - x.base → p % max 1 x.len ≠ (c - x.base + 1) % max 1 x.len →
      c - x.base ≠ (p % max 1 x.len + 1) % max 1 x.len → x.draining = false →
      Answers (.syncPulse t none) s fun u => (u.gen n g).j = 0 ∧ (u.gen n g).base = c - p % max 1 (u.gen n g).len ∧
        u.flag (PWMG.EVT.SYNC_SLIP n) = true))

/-- The loop engine. LOOP_TRIGGER: a mark that is no trigger, a trigger less than 25 µs after the last one, and an accepted
one, with the new state of L0 where it is the only loop; COMM_DR_STEP, a swap of banks, a restart and a coefficient.
Rules: R250, R251, R263, R264, R268, R269. The model's readings and choices: log entries 75, 76, 77. -/
def Obligations.EngineEvents : Prop :=
  (∀ (t : Time) (n : LaneIx) (ain : List Sample) (isns : List (BitVec 12)) (s v : State), v = (s.at t).pwmNow n →
    v.laneLive n = true →
    (v.trigNow n = false → Answers (.loopTrigger t n ain isns) s fun u => (u.engOf n).lastTrig = (v.engOf n).lastTrig ∧
      (u.engOf n).i = (v.engOf n).i ∧ (u.engOf n).loops = (v.engOf n).loops ∧ (u.engOf n).running = (v.engOf n).running) ∧
    (∀ a, v.trigNow n = true → v.canon = true → v.flag (LOOP.ENG_CFG.EN n) = true → (v.engOf n).lastTrig = some a →
      max s.now t < a + 25000000 →
      Answers (.loopTrigger t n ain isns) s fun u => (u.engOf n).lastTrig = some a ∧ (u.engOf n).i = (v.engOf n).i ∧
        (u.engOf n).loops = (v.engOf n).loops ∧ (u.engOf n).running = (v.engOf n).running ∧
        u.flag (LOOP.ENG_EVT.OVERRUN n) = true) ∧
    (v.trigNow n = true → v.flag (LOOP.ENG_CFG.EN n) = true →
      (∀ a, (v.engOf n).lastTrig = some a → a + 25000000 ≤ max s.now t) →
      ((v.engOf n).running = false → v.engMayStart n = false →
        Answers (.loopTrigger t n ain isns) s fun u => (u.engOf n).lastTrig = some (max s.now t) ∧
          (u.engOf n).running = false ∧ (u.engOf n).i = (v.engOf n).i) ∧
      ((v.engOf n).running = false → v.engMayStart n = true → (v.engOf n).draining = false →
        Answers (.loopTrigger t n ain isns) s fun u => (u.engOf n).lastTrig = some (max s.now t) ∧ (u.engOf n).i = 1) ∧
      ((v.engOf n).running = true → (v.engOf n).stopped = false → (v.engOf n).draining = false →
        Answers (.loopTrigger t n ain isns) s fun u => (u.engOf n).lastTrig = some (max s.now t) ∧
          (u.engOf n).i = (v.engOf n).i + 1))) ∧
  (∀ (t : Time) (n : LaneIx) (ain : List Sample) (isns : List (BitVec 12)) (s v w : State), v = (s.at t).pwmNow n →
    w = ((((v.engHold n).ainTrigger n ain).modEng n (fun e => { e with lastTrig := some (max s.now t) })).fbkTaken n) →
    v.laneLive n = true → v.trigNow n = true → v.flag (LOOP.ENG_CFG.EN n) = true →
    (∀ a, (v.engOf n).lastTrig = some a → a + 25000000 ≤ max s.now t) → (v.engOf n).running = true →
    (v.engOf n).stopped = false → (v.engOf n).draining = false → v.fld (LOOP.ENG_CFG.TOP n) = 0 →
    v.flag (LOOP.SP_CFG.ZERO_OFF n) = false → (v.loopSt n 0).swapPend = false →
    Answers (.loopTrigger t n ain isns) s fun u => u.loopSt n 0 = (w.loopOut n 0
      (slew (v.loopSt n 0).sp (w.target n) (w.fld (LOOP.SP_SLEW.SLEW_UP n)) (w.fld (LOOP.SP_SLEW.SLEW_DN n))) isns
      (((v.engHold n).ainTrigger n ain).fbkFault n)).l) ∧
  (∀ (t d : Time) (n : LaneIx) (s v : State), v = (s.at t).pwmNow n → v.laneLive n = true → (v.engOf n).hallInt = some d →
    v.driving n = true → (v.engOf n).commLost = true → v.flag (LOOP.COMM_CFG.COMM_DR n) = true → (v.engOf n).drAt + d ≤ max s.now t →
    (Answers (.commDrStep t n) s fun u =>
      (u.engOf n).sigma = ((v.engOf n).sigma + (if (v.engOf n).dirNeg = true then 5 else 1)) % 6 ∧
      (u.engOf n).drSteps = (v.engOf n).drSteps + 1 ∧ (u.engOf n).drAt = max s.now t) ∧
    ((v.engOf n).drSteps + 1 < v.fld (LOOP.COMM_CFG.DR_MAX n) → v.canon = true → Answers (.commDrStep t n) s fun u =>
      (u.engOf n).dr = true ∧ (u.engOf n).running = true ∧ u.flag (LOOP.ENG_EVT.DR n) = true) ∧
    (v.fld (LOOP.COMM_CFG.DR_MAX n) ≤ (v.engOf n).drSteps + 1 → v.canon = true → Answers (.commDrStep t n) s fun u =>
      (u.engOf n).running = false ∧ (u.engOf n).safeStop = true ∧ u.flag (LOOP.ENG_EVT.HW_SAFE n) = true)) ∧
  (∀ (t : Time) (n : LaneIx) (w : BitVec 3) (s : State), s.laneLive n = true →
    Answers (.loopSwap t n w) s fun u => ∀ l : Fin 3, u.loopSt n l =
      if w.toNat.testBit l.val = true then { s.loopSt n l with swapPend := true } else s.loopSt n l) ∧
  (∀ (t : Time) (n : LaneIx) (s : State), s.laneLive n = true →
    Answers (.restart t n) s fun u => u.engOf n = { s.engOf n with safeStop := false }) ∧
  (∀ (t : Time) (n : LaneIx) (i : Fin 30) (w : Word) (l : Fin 3) (s : State), s.laneLive n = true →
    bf (s.reg (LOOP.COEF_SEL n)).toNat 5 4 = l.val →
    ((s.loopSt n l).bank.val ≠ (s.reg (LOOP.COEF_SEL n)).toNat % 2 ∨ (s.fld (LOOP.BANK_LIVE.LIVE n)).testBit l.val = true →
      Answers (.coefWrite t n i w) s fun u => (u.engOf n).coef = Sparse.set (fun _ => 0) (s.engOf n).coef
        ((2 * l.val + (s.reg (LOOP.COEF_SEL n)).toNat % 2) * 32 + i.val) w) ∧
    ((s.loopSt n l).bank.val = (s.reg (LOOP.COEF_SEL n)).toNat % 2 → (s.fld (LOOP.BANK_LIVE.LIVE n)).testBit l.val = false →
      Answers (.coefWrite t n i w) s fun u => u.eng = s.eng ∧
        (s.canon = true → NoError s (pgLoop n) → Refused (pgLoop n) (LOOP.COEF_WIN n i.val % 4096) .activeBank u)))

/-- The decoders and the index of a feedback interface: HALL_CHANGE, QUAD_EDGE, PULSE_EDGE and INDEX, on the levels that the
input stage makes of the legs; legs that change no filtered level change no position. Rules: R276, R279, R280, R281, R282,
R283, R285. The model's readings and choices: log entries 89. -/
def Obligations.FeedbackInputs : Prop :=
  (∀ (t : Time) (n : LaneIx) (x : Legs) (h : BitVec 3) (s v : State), v = (s.at t).pwmNow n → h = v.filtered n x →
    v.canon = true → v.fbkIn n 1 = true →
    ((v.fbkOf n).lvl = h → Answers (.hallChange t n x) s fun u => u.eng = v.eng ∧ (u.fbkOf n).lvl = h ∧
      (u.fbkOf n).c = (v.fbkOf n).c ∧ (u.fbkOf n).p = (v.fbkOf n).p) ∧
    ((v.fbkOf n).lvl ≠ h → sectorOf h = none → Answers (.hallChange t n x) s fun u => (u.fbkOf n).lvl = h ∧
      (u.fbkOf n).hallBad = true ∧ (u.fbkOf n).c = (v.fbkOf n).c ∧ (u.fbkOf n).p = (v.fbkOf n).p) ∧
    (∀ σ, (v.fbkOf n).lvl ≠ h → sectorOf h = some σ → Answers (.hallChange t n x) s fun u => (u.fbkOf n).lvl = h ∧
      (u.fbkOf n).hallBad = false ∧ (u.fbkOf n).sigmaLast = some σ ∧ (u.engOf n).sigma = σ ∧ (u.engOf n).commLost = false) ∧
    (∀ σ σ' δ, (v.fbkOf n).lvl ≠ h → sectorOf h = some σ → (v.fbkOf n).sigmaLast = some σ' → δ = (σ + 6 - σ') % 6 →
      (δ = 0 ∨ δ = 3 → Answers (.hallChange t n x) s fun u => (u.fbkOf n).c = (v.fbkOf n).c ∧ (u.fbkOf n).p = (v.fbkOf n).p) ∧
      (2 ≤ δ → δ ≤ 4 → Answers (.hallChange t n x) s fun u => (u.fbkOf n).faultSeen = true ∧
        u.flag (FBK.EVT.HALL_SKIP n) = true) ∧
      (δ = 1 ∨ δ = 5 → Answers (.hallChange t n x) s fun u => (u.fbkOf n).c = wrap32 ((v.fbkOf n).c +
        if decide (δ = 5) = v.flag (FBK.IN_CFG.CNT_INV n) then 1 else -1)) ∧
      (δ = 2 ∨ δ = 4 → Answers (.hallChange t n x) s fun u => (u.fbkOf n).c = wrap32 ((v.fbkOf n).c +
        if decide (δ = 4) = v.flag (FBK.IN_CFG.CNT_INV n) then 2 else -2)))) ∧
  (∀ (t : Time) (n : LaneIx) (x : Legs) (old new : BitVec 3) (d : Nat) (s : State), s.fbkIn n 2 = true → old = (s.fbkOf n).lvl →
    new = s.filtered n x → d = (quadIx (new.toNat % 4) + 4 - quadIx (old.toNat % 4)) % 4 →
    (d = 0 → Answers (.quadEdge t n x) s fun u => (u.fbkOf n).lvl = new ∧ (u.fbkOf n).c = (s.fbkOf n).c ∧
      (u.fbkOf n).p = (s.fbkOf n).p) ∧
    (d = 1 ∨ d = 3 → old.getLsbD 2 = new.getLsbD 2 ∨ s.flag (FBK.IDX_CFG.IDX_EN n) = false →
      Answers (.quadEdge t n x) s fun u => (u.fbkOf n).lvl = new ∧
      (u.fbkOf n).c = wrap32 ((s.fbkOf n).c + if (d == 3) != s.flag (FBK.IN_CFG.CNT_INV n) then -1 else 1) ∧
      (u.fbkOf n).edges = ((s.fbkOf n).edges + 1) % 4294967296) ∧
    (d = 2 → old.getLsbD 2 = new.getLsbD 2 ∨ s.flag (FBK.IDX_CFG.IDX_EN n) = false → s.canon = true →
      Answers (.quadEdge t n x) s fun u => (u.fbkOf n).lvl = new ∧ (u.fbkOf n).faultSeen = true ∧
      u.flag (FBK.EVT.ILLEGAL n) = true ∧
      (u.fbkOf n).c = if s.flag (FBK.IN_CFG.DOUBLE_STEP n) = true then
        wrap32 ((s.fbkOf n).c + if (s.fbkOf n).dNeg = true then -2 else 2) else (s.fbkOf n).c)) ∧
  (∀ (t : Time) (n : LaneIx) (x : Legs) (a b : Bool) (s : State), s.fbkIn n 3 = true → a = (s.filtered n x).getLsbD 0 →
    b = (s.filtered n x).getLsbD 1 →
    ((s.fbkOf n).lvl.getLsbD 0 ≠ a →
      s.fld (FBK.PULSE_CFG.EDGE n) = 2 ∨ s.fld (FBK.PULSE_CFG.EDGE n) = (if a = true then 0 else 1) →
      Answers (.pulseEdge t n x) s fun u =>
        (u.fbkOf n).p = wrap32 ((s.fbkOf n).p + if ((s.flag (FBK.PULSE_CFG.DIR_EN n) && (b != s.flag (FBK.PULSE_CFG.DIR_POL n))) !=
          s.flag (FBK.IN_CFG.CNT_INV n)) = true then -1 else 1) ∧ (u.fbkOf n).c = (u.fbkOf n).p ∧
        (u.fbkOf n).edges = ((s.fbkOf n).edges + 1) % 4294967296) ∧
    ((s.fbkOf n).lvl.getLsbD 0 = a ∨
      (s.fld (FBK.PULSE_CFG.EDGE n) ≠ 2 ∧ s.fld (FBK.PULSE_CFG.EDGE n) ≠ (if a = true then 0 else 1)) →
      Answers (.pulseEdge t n x) s fun u => (u.fbkOf n).lvl = s.filtered n x ∧ (u.fbkOf n).p = (s.fbkOf n).p ∧
        (u.fbkOf n).edges = (s.fbkOf n).edges)) ∧
  (∀ (t : Time) (n : LaneIx) (x : Legs) (old new : BitVec 3) (e : Int) (s v w : State), s.fbkIn n 2 = true →
    v = (s.at t).fbkInput n x → old = (s.fbkOf n).lvl → new = (v.fbkOf n).lvl →
    w = v.quadCount n (old.toNat % 4) (new.toNat % 4) →
    old.getLsbD 2 ≠ new.getLsbD 2 → e = idxError (w.fbkOf n).c (w.fld ⟨FBK.IDX_POS n, 23, 0⟩) (w.fld (FBK.IDX_CFG.CPR n)) →
    (w.flag (FBK.IDX_CFG.IDX_EN n) = false ∨ new.getLsbD 2 = (w.fbkOf n).dNeg ∨
      w.flag (FBK.IDX_CFG.GATE_EN n) = true ∧ new.toNat % 4 ≠ w.fld (FBK.IDX_CFG.GATE_AB n) →
      Answers (.index t n x) s fun u => u.fbkOf n = w.fbkOf n) ∧
    (w.flag (FBK.IDX_CFG.IDX_EN n) = true → new.getLsbD 2 = (!(w.fbkOf n).dNeg) →
      w.flag (FBK.IDX_CFG.GATE_EN n) = false ∨ new.toNat % 4 = w.fld (FBK.IDX_CFG.GATE_AB n) →
      Answers (.index t n x) s fun u => (u.fbkOf n).idxLast = e ∧ (u.fbkOf n).idxErr = (if e = 0 then none else some e) ∧
      ((u.fbkOf n).c, (u.fbkOf n).p) =
        if e ≠ 0 ∧ (w.fld (FBK.IDX_CFG.POLICY n) = 1 ∨ w.fld (FBK.IDX_CFG.POLICY n) = 2 ∧
          ((w.fbkOf n).idxErr = some e ∨ w.flag (FBK.IDX_CFG.HOME_FIRST n) = true ∧ (w.fbkOf n).homed = false))
        then (wrap32 ((w.fbkOf n).c - e), wrap32 ((w.fbkOf n).p - e)) else ((w.fbkOf n).c, (w.fbkOf n).p)) ∧
    (old.toNat % 4 ≠ new.toNat % 4 → exec (.quadEdge t n x) s = exec (.index t n x) s))

/-- A wire watch (WIRE_DISAGREE, WIRE_DISAGREE_END), SPEED_UPDATE, POS_LOAD and EM_STEP. Each sets the fields that its rule
gives; where counts came within one cycle the spec gives no speed, and none is stated. Rules: R277, R284, R285, R286, R287,
R290. The model's readings and choices: log entries 89. -/
def Obligations.FeedbackUpdates : Prop :=
  (∀ (t : Time) (n : LaneIx) (c : Fin 3) (h : Nat) (s : State), s.canon = true → s.wireWatched n c = true →
    (s.fbkOf n).wire.getLsbD c.val = false →
    (s.fld (FBK.WIRE_CFG.WIRE_CYC n) < h →
      Answers (.wireDisagree t n c h) s fun u => (u.fbkOf n).wire.getLsbD c.val = true ∧ u.flag (FBK.EVT.WIRE n) = true) ∧
    (h ≤ s.fld (FBK.WIRE_CFG.WIRE_CYC n) →
      Answers (.wireDisagree t n c h) s fun u => u = s.at t)) ∧
  (∀ (t : Time) (n : LaneIx) (c : Fin 3) (s : State), s.laneLive n = true → (s.fbkOf n).wire.getLsbD c.val = true →
    Answers (.wireDisagreeEnd t n c) s fun u => (u.fbkOf n).wire.getLsbD c.val = false) ∧
  (∀ (t : Time) (n : LaneIx) (f : FbkState) (s : State), f = s.fbkOf n → s.laneLive n = true → f.active = true →
    s.fld (FBK.IN_CFG.MODE n) ≠ 0 → max s.now t % (s.fld (FBK.SPD_CFG.UPD_US n) * usPs) = 0 →
    (Answers (.speedUpdate t n) s fun u => (u.fbkOf n).posPub = f.p ∧ (u.fbkOf n).p = f.p ∧ (u.fbkOf n).c = f.c) ∧
    (∀ r l d, f.refAt = some r → f.lastAt = some l → 0 < f.n → d = (l - r) / tclkPs →
      Answers (.speedUpdate t n) s fun u => (u.fbkOf n).refAt = some l ∧ (u.fbkOf n).refP = f.p ∧ (u.fbkOf n).n = 0 ∧
        (u.fbkOf n).eLast = d / f.n ∧
        (s.fld (FBK.IN_CFG.MODE n) ≠ 3 → wrap32 (f.p - f.refP) = 0 → (u.fbkOf n).spd = 0) ∧
        (s.fld (FBK.IN_CFG.MODE n) ≠ 3 → d ≠ 0 → (u.fbkOf n).freq = 0 ∧
          (u.fbkOf n).spd = satS 32 (fdiv (wrap32 (f.p - f.refP) * 102400000000) (d : Int))) ∧
        (s.fld (FBK.IN_CFG.MODE n) = 3 → d ≠ 0 → (u.fbkOf n).freq = min 4294967295 (f.n * 400000000000 / d) ∧
          (u.fbkOf n).spd = pulseSpeed f.lastNeg (u.fbkOf n).freq)) ∧
    (∀ r l e, f.refAt = some r → f.lastAt = some l → f.n = 0 → e = (max s.now t - l) / tclkPs →
      (400000 * s.fld (FBK.SPD_CFG.TMO_MS n) < e →
        Answers (.speedUpdate t n) s fun u => (u.fbkOf n).spd = 0 ∧ (u.fbkOf n).freq = 0 ∧ (u.fbkOf n).timeout = true) ∧
      (e ≤ 400000 * s.fld (FBK.SPD_CFG.TMO_MS n) → e ≤ f.eLast →
        Answers (.speedUpdate t n) s fun u => (u.fbkOf n).spd = f.spd ∧ (u.fbkOf n).freq = f.freq) ∧
      (e ≤ 400000 * s.fld (FBK.SPD_CFG.TMO_MS n) → f.eLast < e → Answers (.speedUpdate t n) s fun u =>
        (s.fld (FBK.IN_CFG.MODE n) ≠ 3 → (u.fbkOf n).spd = isign f.spd * ((102400000000 / e : Nat) : Int)) ∧
        (s.fld (FBK.IN_CFG.MODE n) = 3 → (u.fbkOf n).freq = (if f.freq = 0 then 0 else min 4294967295 (400000000000 / e)) ∧
          (u.fbkOf n).spd = pulseSpeed f.lastNeg (u.fbkOf n).freq)))) ∧
  (∀ (t : Time) (n : LaneIx) (w : Word) (s : State), s.laneLive n = true →
    Answers (.posLoad t n w) s fun u => (u.fbkOf n).c = w.toInt ∧ (u.fbkOf n).p = w.toInt ∧ (u.fbkOf n).pend = false ∧
      (u.fbkOf n).dNeg = (s.fbkOf n).dNeg ∧ (u.fbkOf n).refP = (s.fbkOf n).refP + (w.toInt - (s.fbkOf n).p)) ∧
  (∀ (t : Time) (n : LaneIx) (s : State), s.laneLive n = true → (s.fbkOf n).active = true → s.flag (FBK.EM_CFG.EN n) = true →
    s.inSafe n = false → s.emTarget n ≠ (s.fbkOf n).emO → (s.fbkOf n).emAt + s.fld (FBK.EM_CFG.MINT n) * tclkPs ≤ max s.now t →
    Answers (.emStep t n) s fun u => (u.fbkOf n).emO = (s.fbkOf n).emO + isign (s.emTarget n - (s.fbkOf n).emO) ∧
      (u.fbkOf n).emAt = max s.now t)

/-- The phases of an outlet, after the samples that a row carries. PHASE_END_CURRENT, PHASE_END_TIME and PEAK_TMO end a phase;
CHOP_TOGGLE, STEP_DOWN_END and PROP_PERIOD regulate; GRID_OPENING and PULSE_CLOSE bound a spray pulse. Rules: R186, R187,
R188, R199, R200, R204, R205. The model's readings and choices: log entries 69, 70, 72. -/
def Obligations.OutletPhases : Prop :=
  (∀ (t : Time) (n : LaneIx) (k : OutIx) (sm : List Sample) (s v : State), v = (s.at t).outletEvent n k sm →
    s.laneLive n = true → (v.out n k).st = .phase → (v.out n k).decay = .none → v.phEnd n (v.out n k).prof (v.out n k).ph = 0 →
    v.phMode n (v.out n k).prof (v.out n k).ph ≠ modeOff → (v.out n k).entry ≤ (v.out n k).regAt →
    v.codeOf n k (v.tgtMa n (v.out n k).prof (v.out n k).ph) ≤ (v.out n k).reg →
    Answers (.phaseEndCurrent t n k sm) s fun u => EnteredPhase v n k ((v.out n k).ph + 1) u) ∧
  (∀ (t : Time) (n : LaneIx) (k : OutIx) (sm : List Sample) (s v : State), v = (s.at t).outletEvent n k sm →
    s.laneLive n = true → (v.out n k).st = .phase → v.phEnd n (v.out n k).prof (v.out n k).ph = 1 →
    v.phMode n (v.out n k).prof (v.out n k).ph ≠ modeOff →
    (v.out n k).entry + v.fld (OUTL.PROF_PH_T.DUR_US n (v.out n k).prof (min (v.out n k).ph 5)) * usPs ≤ v.now →
    Answers (.phaseEndTime t n k sm) s fun u => EnteredPhase v n k ((v.out n k).ph + 1) u) ∧
  (∀ (t : Time) (n : LaneIx) (k : OutIx) (sm : List Sample) (s v : State), v = (s.at t).outletEvent n k sm → s.canon = true →
    s.laneLive n = true → (v.out n k).st = .phase → v.phEnd n (v.out n k).prof (v.out n k).ph = 0 →
    v.phMode n (v.out n k).prof (v.out n k).ph ≠ modeOff →
    (v.out n k).entry + v.fld (OUTL.PROF_PH_T.TMAX_US n (v.out n k).prof (min (v.out n k).ph 5)) * usPs ≤ v.now →
    (Answers (.peakTmo t n k sm) s fun u => EnteredPhase v n k ((v.out n k).ph + 1) u ∧ u.flag (OUTL.OUTL_EVT.PEAK_TMO n) = true) ∧
    ((v.out n k).phMax < v.codeOf n k (v.tgtMa n (v.out n k).prof (v.out n k).ph) / 4 →
      Answers (.peakTmo t n k sm) s fun u => u.flag (OUTL.OUTL_EVT.OPEN_LOAD n) = true)) ∧
  (∀ (t : Time) (n : LaneIx) (k : OutIx) (sm : List Sample) (s v : State), v = (s.at t).outletEvent n k sm →
    s.laneLive n = true → (v.out n k).st = .phase → v.chopped n k = true →
    ((v.out n k).lg = true → (if isPeakMode (v.phMode n (v.out n k).prof (v.out n k).ph) && !(v.out n k).reached
        then v.codeOf n k (v.tgtMa n (v.out n k).prof (v.out n k).ph)
        else v.upper n k (v.out n k).prof (v.out n k).ph) ≤ (v.out n k).reg →
      Answers (.chopToggle t n k sm) s fun u => (u.out n k).lg = false ∧ (u.out n k).decay = .chop ∧ (u.out n k).reached = true) ∧
    ((v.out n k).lg = false → (v.out n k).decay = .chop → (v.out n k).reg ≤ v.lower n k (v.out n k).prof (v.out n k).ph →
      Answers (.chopToggle t n k sm) s fun u => (u.out n k).lg = true ∧ (u.out n k).decay = .none ∧ (u.out n k).lgRise = v.now)) ∧
  (∀ (t : Time) (n : LaneIx) (k : OutIx) (sm : List Sample) (s v : State), v = (s.at t).outletEvent n k sm →
    s.laneLive n = true → (v.out n k).st = .phase → (v.out n k).decay = .stepDown →
    (v.out n k).reg ≤ v.entryCode n k (v.out n k).prof (v.out n k).ph →
    (v.phMode n (v.out n k).prof (v.out n k).ph ≠ modeProp →
      Answers (.stepDownEnd t n k sm) s fun u => (u.out n k).lg = true ∧ (u.out n k).decay = .none ∧ (u.out n k).ph = (v.out n k).ph) ∧
    (v.phMode n (v.out n k).prof (v.out n k).ph = modeProp →
      Answers (.stepDownEnd t n k sm) s fun u => (u.out n k).propAt = v.now ∧
        if 0 < (v.out n k).duty * v.fld (OUTL.PROP_CFG.PROP_PER_US n) * 400 / 65536
        then (u.out n k).lg = true ∧ (u.out n k).decay = .none else (u.out n k).lg = false ∧ (u.out n k).decay = .chop)) ∧
  (∀ (t : Time) (n : LaneIx) (k : OutIx) (sm : List Sample) (per m tgt : Nat) (e : Int) (o : OutletState) (s v : State),
    v = (s.at t).outletEvent n k sm → o = v.out n k → per = v.fld (OUTL.PROP_CFG.PROP_PER_US n) → s.laneLive n = true →
    o.st = .phase → v.phMode n o.prof o.ph = modeProp → o.decay ≠ .stepDown → o.propAt + per * usPs ≤ v.now →
    m = (if o.propCnt = 0 then o.propM else o.propSum / o.propCnt) →
    tgt = propTarget (v.tgtMa n o.prof o.ph) (v.fld (OUTL.PROF_PROP_MAP.I0_MA n o.prof)) (v.fld (OUTL.PROF_PROP_MAP.SLOPE n o.prof))
      ((v.lane n).inForce.get k).val (v.fld (OUTL.PROF_DITH.DITH_HZ n o.prof)) (v.fld (OUTL.PROF_DITH.DITH_MA n o.prof)) per o.propN →
    e = (v.codeOf n k tgt : Int) - (m : Int) →
    Answers (.propPeriod t n k sm) s fun u => (u.out n k).propN = o.propN + 1 ∧ (u.out n k).propAt = o.propAt + per * usPs ∧
      ((u.out n k).acc : Int) = clampI 0 65535 ((o.acc : Int) + shr ((v.fld (OUTL.PROF_PROP_REG.KI n o.prof) : Int) * e) 8) ∧
      ((u.out n k).duty : Int) =
        clampI 0 65535 (((u.out n k).acc : Int) + shr ((v.fld (OUTL.PROF_PROP_REG.KP n o.prof) : Int) * e) 4)) ∧
  (∀ (t : Time) (n : LaneIx) (k : OutIx) (sm : List Sample) (s v : State), v = (s.at t).outletEvent n k sm → s.canon = true →
    s.laneLive n = true → v.inSafe n = false → v.kind n k = 0 → v.gridO n k ((v.out n k).pulse + 1) ≤ v.now →
    ((v.out n k).st = .pulseOff → Answers (.gridOpening t n k sm) s fun u => (u.out n k).pulse = (v.out n k).pulse + 1 ∧
      (u.out n k).firstPulse = false ∧ (u.out n k).ph = v.fld (OUTL.PROF_CFG.PULSE_FIRST n (v.out n k).prof)) ∧
    ((v.out n k).st = .phase ∨ (v.out n k).st = .peakWait → (v.out n k).closeAt = none →
      Answers (.gridOpening t n k sm) s fun u => (u.out n k).pulse = (v.out n k).pulse + 1 ∧ (u.out n k).st = (v.out n k).st)) ∧
  (∀ (t : Time) (n : LaneIx) (k : OutIx) (sm : List Sample) (c : Time) (s v : State), v = (s.at t).outletEvent n k sm →
    s.laneLive n = true → (v.out n k).st = .phase → (v.out n k).closeAt = some c → c ≤ v.now →
    Answers (.pulseClose t n k sm) s fun u => (u.out n k).st = .decay ∧ (u.out n k).decay = .turnOff ∧ (u.out n k).lg = false ∧
      (u.out n k).afterPulse = true)

/-- Decays, over-current and its retries. DECAY_END and DECAY_TMO end a decay, OVER_CURRENT faults the outlet, FAULT_RETRY
starts it again outside safe state, and FAULT_CLR closes it. Rules: R189, R190, R206, R208. The model's readings and choices:
log entries 69, 70, 71, 72. -/
def Obligations.OutletDecaysAndFaults : Prop :=
  (∀ (t : Time) (n : LaneIx) (k : OutIx) (sm : List Sample) (s v : State), v = (s.at t).outletEvent n k sm →
    s.laneLive n = true → (v.out n k).decay = .turnOff → 8 ≤ (v.out n k).decRun →
    Answers (.decayEnd t n k sm) s fun u => (u.out n k).decay = .none ∧ (u.out n k).st =
      if (v.out n k).st = .decay then (if (v.out n k).afterPulse = true then .pulseOff else .closed) else (v.out n k).st) ∧
  (∀ (t : Time) (n : LaneIx) (k : OutIx) (sm : List Sample) (s v : State), v = (s.at t).outletEvent n k sm → s.canon = true →
    s.laneLive n = true → (v.out n k).decay = .turnOff →
    (v.out n k).decayAt + v.fld (OUTL.DECAY_CFG.DECAY_TMAX_US n) * usPs ≤ v.now →
    Answers (.decayTmo t n k sm) s fun u => u.flag (OUTL.OUTL_EVT.DECAY_TMO n) = true ∧ (u.out n k).decay = .none ∧ (u.out n k).st =
      if (v.out n k).st = .decay then (if (v.out n k).afterPulse = true then .pulseOff else .closed) else (v.out n k).st) ∧
  (∀ (t : Time) (n : LaneIx) (k : OutIx) (sm : List Sample) (s v : State), v = (s.at t).outletEvent n k sm → s.canon = true →
    s.laneLive n = true → v.kind n k ≠ 2 → (v.out n k).st ≠ .fault → 0 < v.fld (OUTL.OUT_PROT.OC_N n k) →
    v.fld (OUTL.OUT_PROT.OC_N n k) ≤ (v.out n k).ocRun →
    Answers (.overCurrent t n k sm) s fun u => (u.out n k).st = .fault ∧ (u.out n k).lg = false ∧
      (u.out n k).decay = .turnOff ∧ (u.out n k).decayAt = v.now ∧ (u.out n k).faultAt = v.now ∧ (u.bank n).owner ≠ some k ∧
      u.flag (OUTL.OUTL_EVT.OC n) = true) ∧
  (∀ (t : Time) (n : LaneIx) (k : OutIx) (sm : List Sample) (p : Nat) (s v : State), v = (s.at t).outletEvent n k sm →
    s.canon = true → s.laneLive n = true → v.inSafe n = false → (v.out n k).st = .fault → (v.out n k).lastOn = true →
    (v.out n k).retries < v.fld (OUTL.OUT_PROT.OC_RETRY n k) →
    (v.out n k).faultAt + v.fld (OUTL.OUT_PROT.RETRY_MS n k) * msPs ≤ v.now → p = v.fld (OUTL.OUT_CFG.PROF n k) →
    Answers (.faultRetry t n k sm) s fun u => (u.out n k).prof = p ∧ (u.out n k).ph = 0 ∧
      if isPeakMode (v.phMode n p 0) = true
      then (u.out n k).st = .peakWait ∧ (u.out n k).retries = (v.out n k).retries + 1
      else (u.out n k).st = .phase ∧ (u.out n k).retries = if v.phEnd n p 0 = 2 then 0 else (v.out n k).retries + 1) ∧
  (∀ (t : Time) (n : LaneIx) (b : Byte) (s : State), s.laneLive n = true →
    Answers (.faultClr t n b) s fun u => ∀ k : OutIx, u.out n k =
      if b.toNat.testBit k.val = true ∧ (s.out n k).st = .fault then { s.out n k with st := .closed } else s.out n k)

/-- The peak bank and its supplies. PEAK_GRANT, PEAK_WAIT_TIMEOUT, CLAMP_DEMOTE and DEMOTION_END, VBST_NOT_READY and
VBST_READY. Rules: R183, R192, R193, R195, R196, R198. The model's readings and choices: log entries 70, 72, 73. -/
def Obligations.BankEvents : Prop :=
  (∀ (t : Time) (n : LaneIx) (k : OutIx) (sm : List Sample) (o : OutletState) (nr : Nat) (s v : State),
    (s.at t).nextReq n = some k → v = (s.at t).outletEvent n k sm → s.laneLive n = true → o = v.out n k →
    nr = v.fld (OUTL.PROF_CFG.BOOST_NR n o.prof) → v.nextReq n = some k →
    ((v.bank n).owner = none → (v.bank n).row1 = false →
      (v.phMode n o.prof o.ph = modeBoost → (v.bank n).vbstReady = false → nr = 1 ∨ nr = 2 ∧ o.reqTrain = false) →
      Answers (.peakGrant t n sm) s fun u => (u.bank n).owner = some k ∧ (u.bank n).lastGrant = k ∧ k ∉ (u.bank n).requests ∧
        (u.out n k).st = .phase ∧ (u.out n k).ph = o.ph ∧ (u.out n k).entry = v.now ∧
        (u.out n k).boostSub = (decide (v.phMode n o.prof o.ph = modeBoost) && !(v.bank n).vbstReady)) ∧
    (s.canon = true → (v.bank n).owner = none → (v.bank n).row1 = false → v.phMode n o.prof o.ph = modeBoost →
      (v.bank n).vbstReady = false → nr = 2 → o.reqTrain = true →
      Answers (.peakGrant t n sm) s fun u => (u.out n k).st = .pulseOff ∧ k ∉ (u.bank n).requests ∧
        u.flag (OUTL.OUTL_EVT.PEAK_SKIP n) = true) ∧
    ((v.bank n).owner.isSome = true ∨ (v.bank n).row1 = true ∨
      v.phMode n o.prof o.ph = modeBoost ∧ (v.bank n).vbstReady = false ∧ nr ≠ 1 ∧ nr ≠ 2 →
      Answers (.peakGrant t n sm) s fun u => u = v)) ∧
  (∀ (t : Time) (n : LaneIx) (k : OutIx) (s : State), s.canon = true → s.laneLive n = true → (s.out n k).st = .peakWait →
    (s.out n k).lateFlag = false → (s.out n k).reqAt + s.fld (OUTL.BANK_CFG.PEAK_WAIT_US n) * usPs ≤ max s.now t →
    if (s.out n k).reqTrain = true ∧ s.flag (OUTL.PROF_CFG.PEAK_POL n (s.out n k).prof) = true
    then Answers (.peakWaitTimeout t n k) s fun u => (u.out n k).st = .pulseOff ∧ (u.out n k).lg = false ∧
      k ∉ (u.bank n).requests ∧ u.flag (OUTL.OUTL_EVT.PEAK_SKIP n) = true
    else Answers (.peakWaitTimeout t n k) s fun u => u.out n k = { s.out n k with lateFlag := true } ∧
      (u.bank n).requests = (s.bank n).requests ∧ u.flag (OUTL.OUTL_EVT.PEAK_LATE n) = true) ∧
  (∀ (t : Time) (n : LaneIx) (vb va : BitVec 12) (s : State), s.canon = true → s.laneLive n = true → (s.bank n).demote = false →
    s.fld (OUTL.SUP_CFG.VBST_OV n) * 10 ≤ vb.toNat * 7200 / 4096 →
    Answers (.clampDemote t n vb va) s fun u => (u.bank n).demote = true ∧
      ∀ m, (u.bank m).vbst = vb.toNat * 7200 / 4096 ∧ (u.bank m).vbat = va.toNat * 4500 / 4096) ∧
  (∀ (t : Time) (n : LaneIx) (vb va : BitVec 12) (s : State), s.canon = true → s.laneLive n = true → (s.bank n).demote = true →
    vb.toNat * 7200 / 4096 + s.fld (OUTL.SUP_CFG.VBST_HYST n) * 10 < s.fld (OUTL.SUP_CFG.VBST_OV n) * 10 →
    Answers (.demotionEnd t n vb va) s fun u => (u.bank n).demote = false) ∧
  (∀ (t : Time) (n : LaneIx) (vb va : BitVec 12) (s : State), s.laneLive n = true → (s.bank n).vbstReady = true →
    vb.toNat * 7200 / 4096 < s.fld (OUTL.SUP_CFG.VBST_MIN n) * 10 →
    Answers (.vbstNotReady t n vb va) s fun u => (u.bank n).vbstReady = false) ∧
  (∀ (t : Time) (n : LaneIx) (vb va : BitVec 12) (s : State), s.laneLive n = true → (s.bank n).vbstReady = false →
    (s.fld (OUTL.SUP_CFG.VBST_MIN n) + s.fld (OUTL.SUP_CFG.VBST_HYST n)) * 10 ≤ vb.toNat * 7200 / 4096 →
    Answers (.vbstReady t n vb va) s fun u => (u.bank n).vbstReady = true)

/-- The valve-motion detectors. The windows of a detector (OPEN_WINDOW_START and END, CLOSE_WINDOW_START and END), what is
found in them (DIP_CONFIRMED, KINK_FOUND), RELEARN, VALVE_STUCK, CLOSE_FAIL and ESTIMATED_CLOSING. Rules: R214, R215, R216,
R217, R218, R220, R221, R223, R229. The model's readings and choices: log entries 73. -/
def Obligations.DetectorEvents : Prop :=
  (∀ (t : Time) (n : LaneIx) (k : OutIx) (s : State), s.laneLive n = true → (s.det n k).st = .openWait → (s.det n k).winLo ≤ max s.now t →
    Answers (.openWindowStart t n k) s fun u => u.det n k = { s.det n k with st := .openSearch, trk := .clear }) ∧
  (∀ (t : Time) (n : LaneIx) (k : OutIx) (s : State), s.laneLive n = true → ((s.det n k).st = .openWait ∨ (s.det n k).st = .openSearch) →
    (s.det n k).winHi ≤ max s.now t →
    Answers (.openWindowEnd t n k) s fun u => (u.det n k).st = .quiet ∧ (u.det n k).don.run = satAdd 8 (s.det n k).don.run 1 ∧
      (u.det n k).lastOn = lastWord 3 0 0 ∧
      (u.det n k).stuckRun = if s.driven n k = true then satAdd 8 (s.det n k).stuckRun 1 else (s.det n k).stuckRun) ∧
  (∀ (t : Time) (n : LaneIx) (k : OutIx) (s : State), s.laneLive n = true → (s.det n k).st = .closeWait →
    ((s.det n k).decayEnd.isSome = true ∨ s.kind n k = 2) → (s.det n k).winLo ≤ max s.now t →
    Answers (.closeWindowStart t n k) s fun u => u.det n k = { s.det n k with st := .closeSearch }) ∧
  (∀ (t : Time) (n : LaneIx) (k : OutIx) (s : State), s.laneLive n = true → ((s.det n k).st = .closeWait ∨ (s.det n k).st = .closeSearch) →
    (s.det n k).winHi ≤ max s.now t →
    Answers (.closeWindowEnd t n k) s fun u => (u.det n k).st = .quiet ∧ (u.det n k).doff.run = satAdd 8 (s.det n k).doff.run 1 ∧
      (s.canon = true → 6 ≤ k.val → u.flag (SNAP.SNAP_EVT.NO_CLOSE n) = true)) ∧
  (∀ (t : Time) (n : LaneIx) (k : OutIx) (sm : List Sample) (d : DetState) (s v : State), v = (s.at t).outletEvent n k sm →
    s.laneLive n = true → d = v.det n k → d.st = .openSearch →
    (∀ tm, d.dip = some tm → Answers (.dipConfirmed t n k sm) s fun u => (u.det n k).st = .quiet ∧ (u.det n k).stuck = false ∧
      (u.det n k).stuckRun = 0 ∧ (u.det n k).lastOn = lastWord (if (v.flag (SNAP.OUT_CFG.LEARN_ON n k) && !d.suspended &&
        !d.subst && !d.reopen) = true then 1 else 2) 0 ((tm - d.so) / 1000)) ∧
    (d.dip = none → Answers (.dipConfirmed t n k sm) s fun u => u = v)) ∧
  (∀ (t : Time) (n : LaneIx) (k : OutIx) (vs w : List Sample) (hit : Nat → Bool) (i : Nat) (s : State), s.laneLive n = true →
    (s.det n k).st = .closeSearch → 6 ≤ k.val →
    w = vs.filter (fun x => inWin (s.det n k) x.time && onVsns k x.time && decide (x.time ≤ max s.now t)) →
    hit = (fun i => decide ((w[i]?.map (·.time)).getD 0 = (w[i - 19]?.map (·.time)).getD 0 + 19 * usPs) &&
      (if s.flag (SNAP.SNAP_CFG.KINK_POL n) = true
       then decide (kinkD (w.map (·.code.toNat)) i ≤ -(s.fld (SNAP.SNAP_CFG.KINK_THR n) : Int))
       else decide ((s.fld (SNAP.SNAP_CFG.KINK_THR n) : Int) ≤ kinkD (w.map (·.code.toNat)) i))) →
    19 ≤ i → i < w.length → hit i = true → (∀ j, 19 ≤ j → j < i → hit j = false) →
    Answers (.kinkFound t n k vs) s fun u => (u.det n k).st = .quiet ∧ (u.det n k).closeFail = false ∧
      (u.det n k).lastOff = lastWord (if (s.flag (SNAP.OUT_CFG.LEARN_OFF n k) && !(s.det n k).badDecay) = true then 1 else 2) 0
        (((w[i - 9]?.map (·.time)).getD 0 - 500 * nsPs - (s.det n k).sc) / 1000)) ∧
  (∀ (t : Time) (n : LaneIx) (k : OutIx) (s : State), s.laneLive n = true → 0 < s.fld (SNAP.SNAP_CFG.REJ_MAX n) →
    s.fld (SNAP.SNAP_CFG.REJ_MAX n) ≤ (s.det n k).don.run → (s.det n k).don.relearn = false →
    Answers (.relearn t n k false) s fun u => u.det n k =
      { s.det n k with don := { (s.det n k).don with relearn := true, ref := none } }) ∧
  (∀ (t : Time) (n : LaneIx) (k : OutIx) (s : State), s.laneLive n = true → 0 < s.fld (SNAP.SNAP_CFG.REJ_MAX n) →
    s.fld (SNAP.SNAP_CFG.REJ_MAX n) ≤ (s.det n k).doff.run → (s.det n k).doff.relearn = false → s.ownOff n k = true →
    Answers (.relearn t n k true) s fun u => u.det n k =
      { s.det n k with doff := { (s.det n k).doff with relearn := true, ref := none } }) ∧
  (∀ (t : Time) (n : LaneIx) (k : OutIx) (s : State), s.canon = true → s.laneLive n = true → 0 < s.fld (SNAP.SNAP_CFG.STUCK_N n) →
    s.fld (SNAP.SNAP_CFG.STUCK_N n) ≤ (s.det n k).stuckRun → (s.det n k).stuck = false →
    Answers (.valveStuck t n k) s fun u => u.det n k = { s.det n k with stuck := true } ∧
      u.flag (SNAP.SNAP_EVT.VALVE_STUCK n) = true) ∧
  (∀ (t : Time) (n : LaneIx) (k : OutIx) (s : State), s.canon = true → s.laneLive n = true → 6 ≤ k.val →
    0 < s.fld (SNAP.SNAP_CFG.STUCK_N n) → s.fld (SNAP.SNAP_CFG.STUCK_N n) ≤ (s.det n k).doff.run → (s.det n k).closeFail = false →
    Answers (.closeFail t n k) s fun u => u.det n k = { s.det n k with closeFail := true } ∧
      u.flag (SNAP.SNAP_EVT.CLOSE_FAIL n) = true) ∧
  (∀ (t : Time) (n : LaneIx) (k : OutIx) (s : State), s.laneLive n = true → (s.det n k).pendEst = true → s.estAt n k ≤ max s.now t →
    Answers (.estimatedClosing t n k) s fun u => (u.det n k).pendEst = false ∧ (u.det n k).lastOff = lastWord 0 1 (s.pubOff n k))

/-- Speed inputs, disagreements and the IMU. GS_EDGE under and over the minimum width, SPD_DISAGREE, HITCH_DISAGREE, and the
IMU's interrupts, bursts and loss (IMU_INT, IMU_BURST_DONE, IMU_LOST). Rules: R52, R53, R56, R71, R73, R74. The model's
readings and choices: log entries 123, 124, 130, 156, 161. -/
def Obligations.SensorEvents : Prop :=
  (∀ (t g : Time) (b rise : Bool) (acc : Time) (s : State), s.up = true → g ≤ max s.now t → acc = g + s.fld (gsMinw b) * usPs →
    (max s.now t < acc → Answers (.gsEdge t b rise g) s fun u => u.pose = s.pose ∧
      (s.canon = true → s.flag (gsEn b) = true → u.fld (if b = true then GSPD.GS_GLITCH.GSB else GSPD.GS_GLITCH.GSA) =
        satAdd 16 (s.fld (if b = true then GSPD.GS_GLITCH.GSB else GSPD.GS_GLITCH.GSA)) 1)) ∧
    (acc ≤ max s.now t → Answers (.gsEdge t b rise g) s fun u =>
      u.pose.dirQ = if b = true then s.pose.dirQ ++ [(acc, rise)] else s.pose.dirQ) ∧
    (acc ≤ max s.now t → Answers (.gsEdge t b rise g) s fun u => (u.pose.gs.get (gsIx b)).acc =
      if s.flag (gsEn b) = true ∧ (b && s.gsDir) = false ∧
        (s.fld (gsEdge b) = 2 ∨ s.fld (gsEdge b) = if rise = true then 0 else 1)
      then (s.pose.gs.get (gsIx b)).acc ++ [(g / tclkPs * tclkPs, acc)] else (s.pose.gs.get (gsIx b)).acc)) ∧
  (∀ (t : Time) (i : Fin 3) (d : Disagree) (s : State), s.canon = true → s.up = true → s.pose.dis.get i = some d → d.seen = false →
    d.since + s.fld POSE.POSE_SPD_TIME.DIS_MS * msPs ≤ max s.now t →
    (∀ j e, j < i → s.pose.dis.get j = some e → e.seen = true ∨ max s.now t < e.since + s.fld POSE.POSE_SPD_TIME.DIS_MS * msPs) →
    Answers (.spdDisagree t) s fun u => u.pose.dis.get i = some { d with seen := true } ∧
      (∀ j, j ≠ i → u.pose.dis.get j = s.pose.dis.get j) ∧ u.flag POSE.POSE_EVT.SPD_DISAGREE = true) ∧
  (∀ (t a : Time) (s : State), s.canon = true → s.pose.hBad = some a → s.up = true → s.hitchMode = 3 → s.pose.hDis = false →
    a + 200 * msPs ≤ max s.now t →
    Answers (.hitchDisagree t) s fun u => u.pose = { s.pose with hDis := true } ∧ u.flag POSE.POSE_EVT.HITCH_DISAGREE = true) ∧
  (∀ (t : Time) (rise : Bool) (s : State), s.up = true → s.flag IMU.IMU_CFG.EN = true →
    (rise ≠ s.flag IMU.IMU_CFG.INT_EDGE → s.imu.busy = none → Answers (.imuInt t rise) s fun u =>
      u.imu = { s.imu with busy := some ⟨max s.now t - s.fld IMU.IMU_TIMING.LAT_US * usPs, max s.now t,
        BitVec.ofNat 8 (s.fld IMU.IMU_CFG.RD_CMD), s.fld IMU.IMU_CFG.BURST_LEN, s.flag IMU.IMU_CFG.MODE,
        s.fld IMU.IMU_CFG.DIV + 1⟩ }) ∧
    (rise = s.flag IMU.IMU_CFG.INT_EDGE ∨ s.imu.busy.isSome = true → Answers (.imuInt t rise) s fun u => u.imu = s.imu)) ∧
  (∀ (t : Time) (b : ImuBurst) (bs : List Byte) (m : Nat) (s : State), s.imu.busy = some b → s.up = true → bs.length = b.len →
    b.start + (1 + b.len) * 8 * (2 * b.half) * 2500 ≤ max s.now t → m = (s.reg IMU.IMU_MAP).toNat →
    (Answers (.imuBurstDone t bs) s fun u => u.imu.busy = none ∧ u.imu.lastRead = max s.now t ∧
      u.imu.run = (if (s.at t).imuGap = true then 1 else min (s.imu.run + 1) 10) ∧
      u.imu.ok = (s.imu.ok || decide (10 ≤ u.imu.run)) ∧ u.imu.lost = (s.imu.lost && !u.imu.ok)) ∧
    (s.fld IMU.IMU_LAYOUT.GYRO_OFS + 6 ≤ bs.length → bf m 3 0 % 4 ≠ 3 → bf m 7 4 % 4 ≠ 3 → bf m 11 8 % 4 ≠ 3 →
      Answers (.imuBurstDone t bs) s fun u => u.imu.rates =
        (imuScale (s.imuAxis (bf m 3 0) (fun i => imuWord (s.flag IMU.IMU_LAYOUT.BE) bs (s.fld IMU.IMU_LAYOUT.GYRO_OFS + 2 * i))).1
          (s.reg IMU.IMU_GSCALE).toNat,
        imuScale (s.imuAxis (bf m 7 4) (fun i => imuWord (s.flag IMU.IMU_LAYOUT.BE) bs (s.fld IMU.IMU_LAYOUT.GYRO_OFS + 2 * i))).1
          (s.reg IMU.IMU_GSCALE).toNat,
        imuScale (s.imuAxis (bf m 11 8) (fun i => imuWord (s.flag IMU.IMU_LAYOUT.BE) bs (s.fld IMU.IMU_LAYOUT.GYRO_OFS + 2 * i))).1
          (s.reg IMU.IMU_GSCALE).toNat))) ∧
  (∀ (t : Time) (s : State), s.canon = true → s.up = true → s.flag IMU.IMU_CFG.EN = true →
    s.fld IMU.IMU_TIMING.ODR_HZ ≠ 0 → 5 * secPs ≤ (max s.now t - s.imu.lastRead) * s.fld IMU.IMU_TIMING.ODR_HZ →
    (s.imu.lost = false → Answers (.imuLost t) s fun u => u.imu = { s.imu with lost := true, ok := false, run := 0 } ∧
      u.flag POSE.POSE_EVT.IMU_LOST = true) ∧
    (s.imu.lost = true → Answers (.imuLost t) s fun u => u.imu = { s.imu with run := 0 }))

/-- Pose words, coasts and the outlets' travel. POSE_WORD forms the word of its instant, or with SRC = RING leaves the word;
RING_POSE_WORD takes an accepted word unchanged and counts a stale one; RING_MISS extrapolates; SOLUTION_LOST, COAST_EXPIRED
and IMU_COAST_END; TRAVEL_COMPUTE. Rules: R44, R48, R51, R57, R61, R62, R63, R490. The model's readings and choices: log
entries 125, 126, 128, 130, 159, 160. -/
def Obligations.PoseWords : Prop :=
  (∀ (t : Time) (hs : List (BitVec 12)) (peer : Word) (s : State), s.canon = true → s.up = true →
    (s.poseRing = false → s.pose.cur.k < max s.now t / posePs → Answers (.poseWord t hs peer) s fun u =>
      u.pose.cur.k = max s.now t / posePs ∧ u.pose.cur.node = s.ring.nodeId.toNat ∧ u.pose.unsent = !s.drives ∧
      u.reg POSE.POSE_STAT = wd u.pose.cur.quality) ∧
    (s.poseRing = false → s.pose.cur.k < max s.now t / posePs → s.lineFrame = false → s.imu.ok = false →
      (∀ x, x ∈ s.pose.sols → max s.now t / posePs * posePs < x.1) → Answers (.poseWord t hs peer) s fun u =>
        u.pose.cur.heading = accStep s.pose.hacc s.pose.yaw / 16777216 ∧ u.pose.cur.yaw = s.pose.yaw) ∧
    (s.poseRing = false → max s.now t / posePs ≤ s.pose.cur.k → Answers (.poseWord t hs peer) s fun u => u = s.at t) ∧
    (s.poseRing = true → Answers (.poseWord t hs peer) s fun u => u.pose.cur = s.pose.cur ∧ u.ports = s.ports)) ∧
  (∀ (t : Time) (p : Ring) (f : Frame) (w : PoseWord) (s : State), s.canon = true → Taken s p f → f.enum_ = false →
    s.paceDup f = false → isPace f 0 = true → s.poseRing = true → parsePose f.payload = (w, true) →
    w.node = s.fld POSE.POSE_CFG.RING_NODE →
    (w.k * posePs ≤ max s.now t → max s.now t ≤ w.k * posePs + s.fld POSE.POSE_RING_TMO.ACCEPT_US * usPs → s.pose.cur.k < w.k →
      Answers (.ringPoseWord t p f) s fun u => u.pose.cur = w ∧ u.pose.missRun = 0 ∧ u.reg POSE.POSE_STAT = wd w.quality ∧
        u.pose.e = w.east * posUnit ∧ u.pose.n = w.north * posUnit ∧ u.pose.hacc = w.heading * 16777216 ∧ u.pose.yaw = w.yaw) ∧
    (w.k * posePs + s.fld POSE.POSE_RING_TMO.ACCEPT_US * usPs < max s.now t → Answers (.ringPoseWord t p f) s fun u =>
      u.pose = s.pose ∧ (u.reg POSE.POSE_RING_STALE_CNT).toNat = satAdd 32 (s.reg POSE.POSE_RING_STALE_CNT).toNat 1)) ∧
  (∀ (t : Time) (k : Nat) (s : State), s.canon = true → s.up = true → s.poseRing = true →
    k = (max s.now t - s.fld POSE.POSE_RING_TMO.ACCEPT_US * usPs) / posePs → s.pose.cur.k < k →
    Answers (.ringMiss t) s fun u => u.pose.cur.k = k ∧ u.pose.cur.speed = s.pose.cur.speed ∧ u.pose.cur.yaw = s.pose.cur.yaw ∧
      u.pose.cur.heading = accStep s.pose.hacc s.pose.cur.yaw / 16777216 ∧ u.pose.missRun = s.pose.missRun + 1 ∧
      u.pose.cur.qual = (if s.fld POSE.POSE_RING_TMO.DR_WORDS ≤ s.pose.missRun + 1 then 1 else s.pose.cur.qual) ∧
      u.flag POSE.POSE_EVT.RING_MISS = true) ∧
  (∀ (t a : Time) (s : State), s.pose.goodAt = some a → s.up = true → s.pose.coastAt = none → a + s.lossPs ≤ max s.now t →
    Answers (.solutionLost t) s fun u => u.pose = { s.pose with coastAt := some (max s.now t) }) ∧
  (∀ (t a : Time) (s : State), s.pose.coastAt = some a → s.up = true → a + s.fld POSE.POSE_COAST.COAST_MS * msPs ≤ max s.now t →
    Answers (.coastExpired t) s fun u => u.pose = { s.pose with coastDone := true, qual := 1 }) ∧
  (∀ (t a : Time) (s : State), s.pose.spdCoast = some a → s.up = true → s.pose.spdCoastDone = false →
    a + s.fld POSE.POSE_SPD_TIME.IMU_COAST_MS * msPs ≤ max s.now t →
    Answers (.imuCoastEnd t) s fun u => u.pose.spdCoastDone = true ∧ u.spdRun = 0 ∧ u.pose.cur.spdValid = false ∧
      u.pose.cur.speed = s.pose.cur.speed) ∧
  (∀ (t : Time) (run : Bool) (new : Fin 128 → OutTrav) (s : State), s.up = true → s.trav.k < s.pose.cur.k →
    run = decide (s.devAtTime (s.pose.cur.k * posePs) = .armed ∨ s.devAtTime (s.pose.cur.k * posePs) = .run) →
    new = (fun j =>
      let v := (outSpeed (s.outVel s.pose.cur s.pose.ux s.pose.wi j.val).1 (s.outVel s.pose.cur s.pose.ux s.pose.wi j.val).2);
      if s.geomEn j.val = true then (if run = true then travStep (s.trav.outs.get j) v else { s.trav.outs.get j with s := v })
      else OutTrav.reset) →
    ((∀ z, s.trav.zeroK = some z → s.pose.cur.k < z) → Answers (.travelCompute t) s fun u => u.trav.k = s.pose.cur.k ∧
      ∀ j : Fin 128, u.trav.outs.get j = new j) ∧
    (∀ z, s.trav.zeroK = some z → z ≤ s.pose.cur.k → Answers (.travelCompute t) s fun u => u.trav.k = s.pose.cur.k ∧
      u.trav.zeroK = none ∧ ∀ j : Fin 128, u.trav.outs.get j = { new j with t := 0, r := 0, sPrev := (new j).s }))

/-- The footprint engine's tick. FOOTPRINT_TICK, DEMAND_PHASE, DECISION_PHASE and STROKE_FORM, the compare of the halves
(DECISION_DIGEST), a motion that does not come (NO_MOTION), and the swap of the rate tables (RATE_SWAP). Rules: R94, R130,
R142, R143, R145, R147, R333, R441. The model's readings and choices: log entries 132, 133, 138, 140, 141, 162. -/
def Obligations.TickPhases : Prop :=
  (∀ (t : Time) (ecc : List EccFault) (a b : List Sample) (s : State), s.canon = true → s.up = true → s.fpe.tick < tickOf (max s.now t) →
    Answers (.footprintTick t ecc a b) s fun u => u.fpe.tick = tickOf (max s.now t) ∧ u.fpe.decided = false ∧
      u.fpe.prepOk = (s.engaged && s.poseRing) ∧ u.fpe.swapPend = false ∧
      u.fpe.bank = (if s.fpe.swapPend = true then 1 - s.fpe.bank else s.fpe.bank) ∧
      u.fpe.bucket = s.fpe.bucket.map (fun x => min 8000 (x + 4096)) ∧
      (∀ j : GOut, (u.fo j.val).dOn = (s.fo j.val).dOnNew.or (s.fo j.val).dOn ∧
        (u.fo j.val).dOff = (s.fo j.val).dOffNew.or (s.fo j.val).dOff) ∧
      u.reg FPE.TICK_CNT = wd (tickOf (max s.now t))) ∧
  (∀ (t : Time) (s : State), s.up = true →
    (s.engaged = true → Answers (.demandPhase t) s fun u => u.fpe.prepOk = true ∧ u.map.slotCrc = u.slotTableCrc) ∧
    (s.engaged = false → Answers (.demandPhase t) s fun u => u.map.readyNext = false ∧ u.map.wantedNext = 0 ∧ u.fpe = s.fpe ∧
      u.map.slotCrc = u.slotTableCrc)) ∧
  (∀ (t : Time) (ecc : List EccFault) (dur : BitVec 16) (s v : State), v = (s.at t).publishWindow.armCheck → s.up = true →
    (v.engaged = true → v.fpe.prepOk = true → v.fpe.decided = false → Answers (.decisionPhase t ecc dur) s fun u =>
      u.fpe.decided = true ∧ u.fpe.decTick = v.fpe.tick ∧ u.fpe.tick = v.fpe.tick ∧ u.fpe.decLast = dur.toNat ∧
      u.fpe.decMax = max v.fpe.decMax dur.toNat) ∧
    (v.engaged = false ∨ v.fpe.prepOk = false ∨ v.fpe.decided = true → Answers (.decisionPhase t ecc dur) s fun u => u = v) ∧
    (s.dev = .armed → (s.at t).publishWindow.armStat = 31 → (s.at t).mayChange = true → (s.at t).disarmNow = false →
      Answers (.decisionPhase t ecc dur) s fun u => u.dev = .run) ∧
    (s.dev = .armed → (s.at t).publishWindow.armStat ≠ 31 ∨ (s.at t).mayChange = false ∨ (s.at t).disarmNow = true →
      Answers (.decisionPhase t ecc dur) s fun u => u.dev = .armed)) ∧
  (∀ (t : Time) (s : State), s.canon = true → s.up = true → s.engaged = true → s.fpe.decided = true →
    Answers (.strokeForm t) s fun u =>
      (∀ p : Fin 2, u.reg (RATE.PROD_DEMAND p) = wd (s.fpe.demand.get p)) ∧
      u.flag MAP.MAP_STAT.LATE = s.map.late ∧ u.flag MAP.MAP_STAT.CONFLICT = s.map.conflict ∧
      u.flag MAP.MAP_STAT.STALLED = s.map.stalled ∧
      ∀ k, k ∈ u.map.own → k.tick = s.fpe.tick % 65536 ∧ k.job = (s.epoch pgMap).toNat) ∧
  (∀ (t : Time) (dec slots : Word) (s : State), s.canon = true → s.up = true → s.bothInService = true → s.fpe.decided = true →
    (slots = s.map.slotCrc → dec = s.decisionCrc → Answers (.decisionDigest t dec slots) s fun u =>
      u.laurel.decRun = 0 ∧ u.laurel.slotRun = 0) ∧
    (slots = s.map.slotCrc → dec ≠ s.decisionCrc → s.laurel.decRun + 1 < s.fld FPE.XCHK_CFG.LIMIT →
      Answers (.decisionDigest t dec slots) s fun u =>
        u.laurel.decRun = s.laurel.decRun + 1 ∧ u.flag FPE.FPE_EVT.DEC_MISMATCH = true) ∧
    (slots = s.map.slotCrc → dec ≠ s.decisionCrc → s.fld FPE.XCHK_CFG.LIMIT ≤ s.laurel.decRun + 1 →
      Answers (.decisionDigest t dec slots) s fun u =>
        u.laurel.decRun = 0 ∧ u.laurel.ident.isSome = true ∧ u.flag FPE.FPE_EVT.XCHK_FAIL = true) ∧
    (slots ≠ s.map.slotCrc → dec = s.decisionCrc → s.laurel.slotRun + 1 < s.fld LAUREL.LAUREL_CFG.SLOT_LIMIT →
      Answers (.decisionDigest t dec slots) s fun u => u.laurel.slotRun = s.laurel.slotRun + 1 ∧ u.laurel.decRun = 0) ∧
    (slots ≠ s.map.slotCrc → s.fld LAUREL.LAUREL_CFG.SLOT_LIMIT ≤ s.laurel.slotRun + 1 → dec = s.decisionCrc →
      Answers (.decisionDigest t dec slots) s fun u => u.laurel.slotRun = 0 ∧ u.laurel.ident.isSome = true)) ∧
  (∀ (t a d : Time) (j : GOut) (s : State), s.canon = true → (s.fo j.val).onFired = some (a, d) → s.up = true →
    a + s.fld FPE.PAINT_CFG.CONF_TMO_MS * msPs ≤ max s.now t →
    Answers (.noMotion t j) s fun u => u.fo j.val = { s.fo j.val with onFired := none, xfPend := none, dead := true } ∧
      u.flag FPE.FPE_EVT.NO_MOTION = true) ∧
  (∀ (t : Time) (s : State), s.canon = true → s.running = true →
    Answers (.rateSwap t) s fun u => u.fpe.swapPend = true ∧ u.flag RATE.RATE_STAT.SWAP_PEND = true ∧ u.fpe.bank = s.fpe.bank)

/-- What a node sends, the return of what it sent, and a tunnel request. FRAME_SEND of transit and own frames, ACK_TIMEOUT of
streams, STROKE_RETURN of strokes that come back or do not, RING_ITEM_EGRESS, and a write of TUN_CTRL (TUN_GO). Rules: R350,
R355, R356, R366, R368. The model's readings and choices: log entries 90, 105, 106, 112, 114, 116. -/
def Obligations.RingSending : Prop :=
  (∀ (t : Time) (p : Ring) (f : Frame) (fs : List Frame) (s : State), s.ringLive p = true → (s.port p).busyUntil ≤ max s.now t →
    s.pfail = false → (s.port p).transit = f :: fs → (∀ e, e ∈ (s.port p).txq → max s.now t < e.1 + 20 * usPs) →
    Answers (.frameSend t p) s fun u => (u.port p).lastTx = some f ∧ (u.port p).transit = fs ∧ (u.port p).txq = (s.port p).txq ∧
      (u.port p).busyUntil = max s.now t + (f.payload.length + 31) * 4 * nsPs) ∧
  (∀ (t : Time) (p : Ring) (i : Nat) (f : Frame) (s : State), s.ringLive p = true → (s.port p).busyUntil ≤ max s.now t →
    s.pfail = false → (s.port p).transit = [] ∨ (∃ e, e ∈ (s.port p).txq ∧ e.1 + 20 * usPs ≤ max s.now t) →
    pickOwn (s.port p).txq = some (i, f) → s.ringEn p = true → s.drives = true →
    Answers (.frameSend t p) s fun u => (u.port p).lastTx = some f ∧ (u.port p).txq = (s.port p).txq.eraseIdx i ∧
      (u.port p).transit = (s.port p).transit ∧
      (u.port p).busyUntil = max s.now t + (f.payload.length + 31) * 4 * nsPs) ∧
  (∀ (t : Time) (p : Ring) (s : State), s.ringLive p = false ∨ max s.now t < (s.port p).busyUntil ∨ s.pfail = true →
    Answers (.frameSend t p) s fun u => u = s.at t) ∧
  (∀ (t : Time) (dst : BitVec 10) (cls : FrameClass) (x : TxStream) (s : State), x = s.txStream dst.toNat cls → s.canon = true → s.up = true →
    x.out ≠ [] → x.progressAt + s.fld (RTX.REL_CFG.ACK_TMO_US 0) * usPs ≤ max s.now t →
    (x.credit = 0 → Answers (.ackTimeout t dst cls) s fun u => u.txStream dst.toNat cls = { x with progressAt := max s.now t }) ∧
    (x.credit ≠ 0 → x.retries < s.fld (RTX.REL_CFG.RETRY_MAX 0) → Answers (.ackTimeout t dst cls) s fun u =>
      u.txStream dst.toNat cls = { x with progressAt := max s.now t, retries := x.retries + 1 }) ∧
    (x.credit ≠ 0 → s.fld (RTX.REL_CFG.RETRY_MAX 0) ≤ x.retries → Answers (.ackTimeout t dst cls) s fun u =>
      u.txStream dst.toNat cls = { x with out := [], wait := [], next := 0, retries := 0, restart := true, credit := 255 } ∧
      u.flag (RTX.PORT_EVT.DEST_UNREACH 0) = true)) ∧
  (∀ (t : Time) (dst : BitVec 10) (cls : FrameClass) (x : TxStream) (o : OutFrame) (w : List OutFrame) (s : State),
    x = s.txStream dst.toNat cls → s.up = true → x.out = [] → x.credit = 0 → x.wait = o :: w →
    x.progressAt + s.fld (RTX.REL_CFG.ACK_TMO_US 0) * usPs ≤ max s.now t →
    Answers (.ackTimeout t dst cls) s fun u => (u.txStream dst.toNat cls).wait = w ∧
      (u.txStream dst.toNat cls).out.map (fun o => (o.fseq, o.frame.payload)) = [(x.next, o.frame.payload)] ∧
      (u.txStream dst.toNat cls).next = x.next + 1 ∧ (u.txStream dst.toNat cls).retries = x.retries) ∧
  (∀ (t : Time) (p : Ring) (o : OutFrame) (os : List OutFrame) (s : State), s.canon = true → s.ringLive p = true →
    s.ring.strokeOut = o :: os → o.sentAt + s.fld (RTX.REL_CFG.ACK_TMO_US 0) * usPs ≤ max s.now t →
    (o.tries < s.fld (RTX.REL_CFG.RETRY_MAX 0) → Answers (.strokeReturn t p none) s fun u =>
      u.ring.strokeOut = ({ o with tries := o.tries + 1 } :: os).map (fun x => { x with sentAt := max s.now t })) ∧
    (s.fld (RTX.REL_CFG.RETRY_MAX 0) ≤ o.tries → s.ring.strokeHeld = [] → Answers (.strokeReturn t p none) s fun u =>
      u.ring.strokeOut = [] ∧ u.ring.strokeRsync = true ∧ u.flag (RTX.PORT_EVT.STROKE_ABANDON 0) = true)) ∧
  (∀ (t : Time) (p : Ring) (f : Frame) (i : Nat) (s : State), s.ringLive p = true → hcrcGood f = true → crcGood f = true →
    f.eofBad = false → f.cls = .stroke → f.src = s.ring.nodeId → s.ring.assigned = true → f.turns.toNat % 2 = 0 →
    s.ring.strokeOut.findIdx? (fun o => decide (o.fseq = f.fseq)) = some i → s.ring.strokeHeld = [] →
    (fsMiss f.fs = false →
      Answers (.strokeReturn t p (some f)) s fun u => u.ring.strokeOut = s.ring.strokeOut.eraseIdx i) ∧
    (∀ o, fsMiss f.fs = true → s.canon = true → s.ring.strokeOut[i]? = some o → o.tries < s.fld (RTX.REL_CFG.RETRY_MAX 0) →
      Answers (.strokeReturn t p (some f)) s fun u => u.ring.strokeOut = s.ring.strokeOut.take i ++
        ({ o with tries := o.tries + 1 } :: s.ring.strokeOut.drop (i + 1)).map (fun x => { x with sentAt := max s.now t }))) ∧
  (∀ (t : Time) (q : Fin 32) (gs : List Seg) (r : List (List Seg)) (d : List Byte) (cls : FrameClass) (s : State),
    (s.q q.val).whole = gs :: r → d = itemData gs → s.up = true → s.ballsRun = true → 16 ≤ q.val → q.val < 24 →
    (∀ i, i < q.val → (if q.val < 20 then 16 else 20) ≤ i → (s.q i).whole = []) →
    cls = (if q.val < 20 then .ctrl else .bulk) →
    (Answers (.ringItemEgress t q) s fun u => (u.q q.val).segs = (s.q q.val).segs.drop gs.length) ∧
    (leAt d 2 1 = cls.code → leAt d 4 2 ≤ 256 → d.length = 16 + leAt d 4 2 → (leAt d 0 2).testBit 15 = false →
      Answers (.ringItemEgress t q) s fun u =>
      ∃ o, (o ∈ (u.txStream (leAt d 0 2 % 1024) cls).out ∨ o ∈ (u.txStream (leAt d 0 2 % 1024) cls).wait) ∧
        o.frame.payload = d.drop 16 ∧ o.queue = some q.val ∧ o.tag = BitVec.ofNat 16 (leAt d 6 2))) ∧
  (∀ (t : Time) (v : Word) (s : State), Writable s → v.toNat.testBit 31 = true →
    (s.rtun.busy = false → bf v.toNat 17 16 = 1 ∨ bf v.toNat 17 16 = 2 → 1 ≤ bf v.toNat 4 0 → bf v.toNat 4 0 ≤ 16 →
      Answers (.tunGo t v) s fun u => u.rtun.busy = true ∧ u.rtun.done = false ∧ u.rtun.tag = s.rtun.tag + 1 ∧
        u.rtun.op = bf v.toNat 17 16 ∧ u.rtun.count = bf v.toNat 4 0 ∧ u.rtun.sentAt = max s.now t) ∧
    (s.rtun.busy = true → Answers (.tunGo t v) s fun u => u.rtun = s.rtun ∧ u.ring = s.ring))

/-- Enumeration by the root, presence, and a node that falls silent. ENUM, ENUM_JOIN, ENUM_RETRY, PRESENCE_SEND and
NODE_ABSENT. Rules: R352, R353, R354, R444. The model's readings and choices: log entries 105, 108, 109, 110. -/
def Obligations.RingNodes : Prop :=
  (∀ (t : Time) (s : State), s.canon = true → s.running = true →
    (s.dev = .primrose ∨ s.dev = .idle ∨ s.dev = .standby → s.ring.root = true → Answers (.enum t) s fun u => u.rgen = s.rgen + 1 ∧
      u.ring.nonce.isSome = true ∧ u.ring.enumAt = some (max s.now t) ∧ u.ring.enumTries = 1) ∧
    (s.dev = .primrose ∨ s.dev = .idle ∨ s.dev = .standby → s.ring.root = false → Answers (.enum t) s fun u =>
      u.ring = s.ring ∧ u.ports = s.ports) ∧
    (s.dev ≠ .primrose → s.dev ≠ .idle → s.dev ≠ .standby → NoError s 0x008 → Answers (.enum t) s fun u =>
      u.ring = s.ring ∧ u.ports = s.ports ∧ Refused 0x008 0x840 .ringBusy u)) ∧
  (∀ (t : Time) (v : Word) (s : State), s.running = true → s.ring.root = true → s.ring.nonce = some v → s.ballsRun = true →
    Answers (.enumJoin t) s fun u => Queued s .a (max s.now t) (fun f => f.enum_ = true ∧ f.bcast = true ∧ f.cls = .ctrl ∧
      f.payload = enumPayload v 2 0 s.rgen (presBytes s.ring.present)) u) ∧
  (∀ (t a : Time) (s : State), s.canon = true → s.ring.enumAt = some a → a + 10 * msPs ≤ max s.now t →
    (s.ring.enumTries < 3 → Answers (.enumRetry t) s fun u => u.rgen = s.rgen + 1 ∧ u.ring.enumTries = s.ring.enumTries + 1 ∧
      u.ring.enumAt = some (max s.now t)) ∧
    (3 ≤ s.ring.enumTries → Answers (.enumRetry t) s fun u => u.ring.enumAt = none ∧ u.flag (RTX.PORT_EVT.ENUM_FAIL 0) = true)) ∧
  (∀ (t : Time) (s : State), s.up = true → s.ring.assigned = true →
    s.ring.presAt + s.fld (RTX.RING_CFG.PRES_MS 0) * msPs ≤ max s.now t →
    Answers (.presenceSend t) s fun u => u.ring.presAt = max s.now t ∧
      u.ring.present = markPresent s.ring.present s.ring.nodeId.toNat (max s.now t) ∧
      u.ring.paceSeq.get 1 = s.ring.paceSeq.get 1 + 1) ∧
  (∀ (t : Time) (node : BitVec 10) (e : Nat × Time) (s : State), s.canon = true →
    s.ring.present.find? (fun p => decide (p.1 = node.toNat)) = some e → s.up = true → node ≠ s.ring.nodeId →
    e.2 + 3 * s.fld (RTX.RING_CFG.PRES_MS 0) * msPs ≤ max s.now t →
    Answers (.nodeAbsent t node) s fun u => (∀ x, x ∈ u.ring.present → x.1 ≠ node.toNat) ∧ node.toNat ∈ u.ring.absentSeen ∧
      u.flag (RTX.PORT_EVT.NODE_ABSENT 0) = true)

/-- Links, wraps and topology. LINK_DOWN and LINK_UP with what the line shows, RFAULT, WRAP and UNWRAP, and TOPO. Rules: R346,
R361, R362, R363, R364. The model's readings and choices: log entries 111. -/
def Obligations.RingLinks : Prop :=
  (∀ (t : Time) (p : Ring) (x : LineLoss) (s : State), s.canon = true → s.ringLive p = true →
    (x.los = true ∨ 4000 ≤ x.quiet ∨ 16 ≤ x.burst → (s.port p).link = .up →
      Answers (.linkDown t p x) s fun u => (u.port p).link = .down ∧ (u.port p).sendRfault = true ∧
      u.flag (RTX.PORT_EVT.LINK_DOWN p.ix) = true ∧
      (u.port p.other).lastSet = some (4, s.ring.nodeId.toNat + 65536 * b2n (!s.ring.assigned))) ∧
    (x.los = true ∨ 4000 ≤ x.quiet ∨ 16 ≤ x.burst → (s.port p).link ≠ .up →
      Answers (.linkDown t p x) s fun u => (u.port p).link = .down ∧ (u.port p).sendRfault = (s.port p).sendRfault) ∧
    (x.los = false → x.quiet < 4000 → x.burst < 16 → Answers (.linkDown t p x) s fun u => u.ports = s.ports ∧
      u.ring = s.ring)) ∧
  (∀ (t : Time) (p : Ring) (n : Nat) (s : State), s.ringLive p = true → s.hopDown p = true →
    (64 ≤ n → Answers (.linkUp t p n) s fun u => (u.port p).link = .up ∧ (u.port p).rfault = false ∧ (u.port p).sendRfault = false ∧
      (u.port p).since = max s.now t ∧ (u.port p.other).lastSet = some (5, s.ring.nodeId.toNat)) ∧
    (n < 64 → Answers (.linkUp t p n) s fun u =>
      (u.port p).link = if (s.port p).link = .down then .aligning else (s.port p).link)) ∧
  (∀ (t : Time) (p : Ring) (s : State), s.ringLive p = true →
    Answers (.rfault t p) s fun u => (u.port p).rfault = ((s.port p).rfault || decide (2 ≤ (s.port p).rfaultRun)) ∧
      (u.port p).rfaultRun = min 3 ((s.port p).rfaultRun + 1) ∧ (u.port p).link = (s.port p).link) ∧
  (∀ (t : Time) (p : Ring) (s : State), s.canon = true → s.ringLive p = true → memberRings s.member = 2 → s.flag (RTX.LINK_CFG.WRAP_EN p.ix) = true →
    s.hopDown p = true → (s.port p).wrapped = false →
    (s.port p).since + s.fld (RTX.LINK_CFG.WRAP_HOLD_US p.ix) * usPs ≤ max s.now t →
    Answers (.wrap t p) s fun u => (u.port p).wrapped = true ∧ u.ring.topoGen = s.ring.topoGen + 1 ∧
      u.flag (RTX.PORT_EVT.WRAP p.ix) = true ∧ (u.port p.other).transit = [] ∧
      (u.port p).transit.map (·.payload) = ((s.port p).transit ++ (s.port p.other).transit).map (·.payload)) ∧
  (∀ (t : Time) (p : Ring) (s : State), s.canon = true → s.ringLive p = true → (s.port p).wrapped = true → s.hopDown p = false →
    (s.port p).since + s.fld (RTX.LINK_CFG.UNWRAP_US p.ix) * usPs ≤ max s.now t →
    (Answers (.unwrap t p true) s fun u => (u.port p).wrapped = false ∧ u.ring.topoGen = s.ring.topoGen + 1 ∧
      u.flag (RTX.PORT_EVT.UNWRAP p.ix) = true) ∧
    (Answers (.unwrap t p false) s fun u => u = s.at t)) ∧
  (∀ (t : Time) (p : Ring) (g : Epoch) (orig : BitVec 10) (s : State), s.canon = true → s.ringLive p = true →
    (0 < epochDiff g s.ring.topoGen →
      Answers (.topo t p g orig) s fun u => u.ring.topoGen = g ∧ u.flag (RTX.PORT_EVT.TOPO p.ix) = true) ∧
    (epochDiff g s.ring.topoGen ≤ 0 →
      Answers (.topo t p g orig) s fun u => u.ring = s.ring ∧ u.regs = s.regs))

/-- Ring time. SYNC_SEND and SYNC, RT_HOLD, and the measurement of a hop's delay by DELAY_MEASURE, DREQ and DRESP. Rules: R357,
R358, R359, R360, R444. The model's readings and choices: log entries 116. -/
def Obligations.RingTime : Prop :=
  (∀ (t : Time) (p : Ring) (s : State), s.ringLive p = true → s.ringEn p = true → s.hasRing p.other = false ∨ s.hopDown p.other = false →
    Answers (.syncSend t p) s fun u => (u.port p).lastSet = some (1, s.syncH * 68719476736 + max s.now t / 400 % 68719476736)) ∧
  (∀ (t : Time) (p : Ring) (w : BitVec 48) (s v : State), s.ringLive p = true →
    v = { (s.at t).heardSet p with
      rtime := { s.rtime with heard := s.rtime.heard.set p.ix (some (w.toNat / 68719476736, max s.now t)) } } →
    (s.ring.root = true ∨ v.syncSrc ≠ some p → Answers (.sync t p w) s fun u => u = v) ∧
    (s.ring.root = false → v.syncSrc = some p → ∀ dep e,
      dep = nearUnits (max s.now t) (w.toNat % 68719476736) → e = ((max s.now t : Nat) : Int) - ((dep + s.hopDelay p : Nat) : Int) →
      (e.natAbs ≤ 1000000 → Answers (.sync t p w) s fun u => u.now = max s.now t ∧ u.rtime.lastErr = e ∧
        u.rtime.h = w.toNat / 68719476736 ∧ u.rtime.lastSync = some (max s.now t) ∧ u.rtime.hold = false ∧ u.rtime.far = false) ∧
      (1000000 < e.natAbs → (s.dev = .primrose ∨ s.dev = .idle ∨ s.dev = .standby) → Answers (.sync t p w) s fun u =>
        u.now = dep + s.hopDelay p ∧ u.rtime.lastErr = e ∧ u.rtime.errs = []) ∧
      (1000000 < e.natAbs → s.dev ≠ .primrose → s.dev ≠ .idle → s.dev ≠ .standby → Answers (.sync t p w) s fun u =>
        u.now = max s.now t ∧ u.rtime.lastErr = e ∧ u.rtime.far = true))) ∧
  (∀ (t a : Time) (s : State), s.canon = true → s.rtime.lastSync = some a → s.up = true → s.ring.root = false → s.rtime.hold = false →
    a + 100 * usPs ≤ max s.now t →
    Answers (.rtHold t) s fun u => u.rtime.hold = true ∧ u.rtime.lock = false ∧ u.flag RTIME.RT_EVT.HOLD = true ∧
      (s.rtime.lock = true → u.flag RTIME.RT_EVT.LOCK_LOST = true)) ∧
  (∀ (t : Time) (p : Ring) (s : State), s.ringLive p = true → s.ringEn p = true → memberRings s.member = 2 →
    Answers (.delayMeasure t p) s fun u => (u.port p).dreqSeq = (s.port p).dreqSeq + 1 ∧ (u.port p).dreqAt = some (max s.now t) ∧
      (u.port p).lastSet = some (2, ((s.port p).dreqSeq + 1).toNat)) ∧
  (∀ (t t2 : Time) (p : Ring) (q : BitVec 16) (s : State), s.ringLive p = true → s.ringEn p.other = true →
    Answers (.dreq t p q t2) s fun u =>
      (u.port p.other).lastSet = some (3, q.toNat * 4294967296 + (max s.now t / 400 - t2 / 400) % 4294967296)) ∧
  (∀ (t t1 : Time) (p : Ring) (q : BitVec 16) (turn : Word) (s : State), s.ringLive p = true → (s.port p.other).dreqAt = some t1 →
    (s.port p.other).dreqSeq = q →
    Answers (.dresp t p q turn) s fun u => (u.port p.other).dreqAt = none ∧
      (u.port p).dly = (max s.now t / 400 - t1 / 400 - turn.toNat) * 200)

/-- The reception of frames. FRAME_RX forwards; PRESENCE, STROKE_FRAME, ENUM_FULL, ENUM_DONE, JOIN, RING_DATA_FRAME,
ACK_FRAME, NAK_FRAME, QBR_SEGMENT, and TUN_REQUEST, TUN_RESPONSE and TUN_TIMEOUT take what is for this node. Rules: R106, R349,
R352, R353, R354, R355, R356, R366, R367, R368. The model's readings and choices: log entries 104, 105, 106, 108, 109, 112,
113, 115, 117. -/
def Obligations.RingReception : Prop :=
  (∀ (t : Time) (p : Ring) (f : Frame) (s : State), s.ringLive p = true → hcrcGood f = true → f.hops ≠ 0 → f.turns ≠ 3 →
    ¬ (s.ring.assigned = true ∧ f.src = s.ring.nodeId) → s.copies f = false → crcGood f = true → (s.port p.other).wrapped = false →
    (s.port p).busyUntil ≤ max s.now t → (s.port p).transit = [] → s.pfail = false →
    Answers (.frameRx t p f) s fun u => u.ring = s.ring ∧ ∃ g, (u.port p).lastTx = some g ∧ g.hops = f.hops - 1 ∧
      hcrcGood g = true ∧ crcGood g = true ∧ g.payload = f.payload ∧ g.src = f.src ∧ g.dst = f.dst ∧ g.fseq = f.fseq) ∧
  (∀ (t : Time) (p : Ring) (f : Frame) (s : State), Taken s p f → f.enum_ = false → s.paceDup f = false →
    (isPace f 0 = true → Answers (.ringPoseWord t p f) s fun u => (f.src.toNat, 0, f.fseq.toNat) ∈ u.ring.paceSeen) ∧
    (isPace f 1 = true → Answers (.presence t p f) s fun u => (f.src.toNat, max s.now t) ∈ u.ring.present)) ∧
  (∀ (t : Time) (p : Ring) (f : Frame) (s : State), s.canon = true → Taken s p f → f.enum_ = false → isStroke f = true →
    s.strokeMine f = true → s.strokeMiss f = false →
    f.flag = true ∨ (∀ e, e ∈ s.ring.strokeRx → e.1 = f.src.toNat → e.2 = f.fseq) → s.ring.strokeRx.length < 7 →
    (Answers (.strokeFrame t p f) s fun u => (f.src.toNat, f.fseq + 1) ∈ u.ring.strokeRx) ∧
    (f.flag = false → leAt f.payload 0 2 % 1024 ≠ s.ring.nodeId.toNat → leAt f.payload 8 4 = s.orgCrc.toNat →
      (∀ k, k ∈ strokesOf (leAt f.payload 3 1) (f.payload.drop 16) →
        epochCheck (BitVec.ofNat 16 k.job) (s.epoch pgMap) = .accepted) →
      (∀ e, e ∈ s.map.senders → e.1 ≠ leAt f.payload 0 2 % 1024) → s.map.senders.length < 7 →
      Answers (.strokeFrame t p f) s fun u =>
        u.map.senders = s.map.senders ++ [(leAt f.payload 0 2 % 1024, some (leAt f.payload 4 4 % 4294967296))] ∧
        u.reg MAP.STROKE_RX_CNT = s.reg MAP.STROKE_RX_CNT + 1)) ∧
  (∀ (t : Time) (p : Ring) (f : Frame) (g : Epoch) (s : State), s.canon = true → s.ringLive p = true → hcrcGood f = true → f.hops ≠ 0 →
    f.turns ≠ 3 → s.copies f = true → s.ring.root = false → g = BitVec.ofNat 16 (leAt f.payload 8 2) →
    (isEnum f 0 = true → s.ring.enumSeen ≠ some g → leAt f.payload 6 2 < 1024 →
      Answers (.enumFull t p f) s fun u => u.ring.nodeId = BitVec.ofNat 10 (leAt f.payload 6 2) ∧ u.ring.enumSeen = some g ∧
        u.rgen = g ∧ u.ring.assigned = s.ring.assigned) ∧
    (isEnum f 1 = true → s.ring.enumSeen = some g →
      Answers (.enumDone t p f) s fun u => u.ring.assigned = true ∧ u.ring.nNodes = leAt f.payload 6 2 ∧
        u.ring.nodeId = s.ring.nodeId ∧ u.flag (RTX.PORT_EVT.ENUM_DONE 0) = true) ∧
    (∀ i, isEnum f 2 = true → s.ring.assigned = false → freeId (f.payload.drop 16) = some i →
      Answers (.join t p f) s fun u => u.ring.assigned = true ∧ u.ring.nodeId = BitVec.ofNat 10 i ∧ u.rgen = g)) ∧
  (∀ (t : Time) (p : Ring) (f : Frame) (s : State), s.canon = true → Taken s p f → NextOfStream s f → f.tun = false → s.bridged f = false →
    s.credit (ingressQ f) (16 + f.payload.length) = true →
    Answers (.ringDataFrame t p f) s fun u => (u.rxStream f.src.toNat f.cls).expect = f.fseq + 1 ∧
      ∃ i, (u.q (ingressQ f)).items = (s.q (ingressQ f)).items ++ [i] ∧ i.data.drop 16 = f.payload) ∧
  (∀ (t : Time) (p : Ring) (f : Frame) (x : TxStream) (s : State), s.canon = true → Taken s p f → x = s.txStream f.src.toNat (ackClass f) → x.wait = [] →
    (isAck f false = true → Answers (.ackFrame t p f) s fun u =>
      (u.txStream f.src.toNat (ackClass f)).credit = leAt f.payload 1 1 ∧
      (u.txStream f.src.toNat (ackClass f)).out =
        x.out.dropWhile (fun o => decide (0 < (BitVec.ofNat 16 (leAt f.payload 2 2) - o.fseq).toInt))) ∧
    (isAck f true = true → x.retries < s.fld (RTX.REL_CFG.RETRY_MAX 0) → ∀ o os, x.out = o :: os →
      (BitVec.ofNat 16 (leAt f.payload 2 2) - o.fseq).toInt ≤ 0 →
      Answers (.nakFrame t p f) s fun u => (u.txStream f.src.toNat (ackClass f)).out = x.out ∧
        (u.txStream f.src.toNat (ackClass f)).retries = x.retries + 1)) ∧
  (∀ (t : Time) (p : Ring) (f : Frame) (s : State), s.canon = true → Taken s p f → NextOfStream s f → f.tun = false → s.bridged f = true →
    f.src.toNat = s.fld (RTX.PROXY_CFG.PROXY_NODE 0) → leAt f.payload 0 1 % 16 < 8 → qAssigned (leAt f.payload 0 1 % 16) = true →
    (leAt f.payload 1 1).testBit 0 = true → (leAt f.payload 1 1).testBit 1 = false → leAt f.payload 2 2 = 0 →
    (f.payload.drop 8).length ≤ leAt f.payload 4 2 →
    Answers (.qbrSegment t p f) s fun u => (leAt f.payload 0 1 % 16, f.payload.drop 8) ∈ u.ring.asm ∧
      (u.rxStream f.src.toNat f.cls).expect = f.fseq + 1) ∧
  (∀ (t : Time) (p : Ring) (f : Frame) (s : State), s.canon = true → Taken s p f → NextOfStream s f → isTunRequest f = true →
    8 ≤ f.payload.length → leAt f.payload 0 1 = 1 → 0 < leAt f.payload 1 1 → leAt f.payload 1 1 ≤ 16 →
    Answers (.tunRequest t p f) s fun u => ∃ o, (o ∈ (u.txStream f.src.toNat .ctrl).out ∨ o ∈ (u.txStream f.src.toNat .ctrl).wait) ∧
      o.frame.tun = true ∧ leAt o.frame.payload 0 1 = 129 ∧ leAt o.frame.payload 1 1 = (if s.flag RTUN.TUN_CFG.ALLOW_RD = true then leAt f.payload 1 1 else 0) ∧
      leAt o.frame.payload 4 1 = (if s.flag RTUN.TUN_CFG.ALLOW_RD = true then 0 else 1)) ∧
  (∀ (t : Time) (p : Ring) (f : Frame) (s : State), s.canon = true → Taken s p f → NextOfStream s f → isTunRequest f = true →
    8 ≤ f.payload.length → leAt f.payload 0 1 = 2 → s.flag RTUN.TUN_CFG.ALLOW_WR = false →
    Answers (.tunRequest t p f) s fun u => ∃ o, (o ∈ (u.txStream f.src.toNat .ctrl).out ∨ o ∈ (u.txStream f.src.toNat .ctrl).wait) ∧
      o.frame.tun = true ∧ leAt o.frame.payload 0 1 = 130 ∧ leAt o.frame.payload 1 1 = 0 ∧ leAt o.frame.payload 4 1 = 1) ∧
  (∀ (t : Time) (p : Ring) (f : Frame) (s : State), Taken s p f → NextOfStream s f → isTunResponse f = true → s.rtun.busy = true →
    leAt f.payload 2 2 = s.rtun.tag.toNat → leAt f.payload 0 1 = s.rtun.op + 128 →
    Answers (.tunResponse t p f) s fun u => u.rtun.busy = false ∧ u.rtun.done = true ∧ u.rtun.status = leAt f.payload 4 1 % 16 ∧
      u.rtun.words = min 16 (leAt f.payload 1 1)) ∧
  (∀ (t : Time) (s : State), s.up = true → s.rtun.busy = true → s.rtun.sentAt + s.fld RTUN.TUN_CFG.TMO_MS * msPs ≤ max s.now t →
    Answers (.tunTimeout t) s fun u => u.rtun.busy = false ∧ u.rtun.done = true ∧ u.rtun.status = 5)

/-- What outlet, valve-timing, generator, engine and feedback commands leave as it is. Every field of State, every register of every page and every lane
stays as it was, but those that the clause names for the command. -/
def Obligations.OutputFrames : Prop :=
  (∀ (t : Time) (n : LaneIx) (k : OutIx), Keeps [.openWindowStart t n k, .closeWindowStart t n k] [.now, .banks] [] [n]) ∧
  (∀ (t : Time) (n : LaneIx) (k : OutIx) (off : Bool), Keeps [.relearn t n k off] [.now, .banks] [] [n]) ∧
  (∀ (t : Time) (n : LaneIx) (v : Byte), Keeps [.faultClr t n v] [.now, .banks] [] [n]) ∧
  (∀ (t : Time) (n : LaneIx) (k : OutIx), Keeps [.openWindowEnd t n k, .closeWindowEnd t n k] [.now, .regs, .firstSeen, .yew,
    .hirqLow, .lanes, .banks] [0x006] [n]) ∧
  (∀ (t : Time) (n : LaneIx) (sm : List Sample), Keeps [.peakGrant t n sm] [.now, .regs, .firstSeen, .yew, .hirqLow, .lanes,
    .banks] [0x006] [n]) ∧
  (∀ (t : Time) (n : LaneIx) (k : OutIx) (sm : List Sample), Keeps [.phaseEndCurrent t n k sm, .phaseEndTime t n k sm,
    .peakTmo t n k sm, .decayEnd t n k sm, .decayTmo t n k sm, .overCurrent t n k sm, .faultRetry t n k sm, .gridOpening t n
    k sm, .pulseClose t n k sm] [.now, .regs, .firstSeen, .yew, .hirqLow, .lanes, .banks] [0x006] [n]) ∧
  (∀ (t : Time) (n : LaneIx) (k : OutIx) (vs : List Sample), Keeps [.kinkFound t n k vs] [.now, .regs, .yew, .hirqLow,
    .lanes, .banks] [0x006] [n]) ∧
  (∀ (t : Time) (n : LaneIx) (k : OutIx) (sm : List Sample), Keeps [.dipConfirmed t n k sm] [.now, .regs, .yew, .hirqLow,
    .lanes, .banks] [0x006] [n]) ∧
  (∀ (t : Time) (n : LaneIx) (k : OutIx), Keeps [.valveStuck t n k, .closeFail t n k] [.now, .regs, .yew, .hirqLow, .banks]
    [0x006] [n]) ∧
  (∀ (t : Time) (n : LaneIx) (k : OutIx), Keeps [.estimatedClosing t n k] [.now, .lanes, .banks] [] [n]) ∧
  (∀ (t : Time) (n : LaneIx) (k : OutIx), Keeps [.peakWaitTimeout t n k] [.now, .regs, .firstSeen, .yew, .hirqLow, .banks]
    [0x006] [n]) ∧
  (∀ (t : Time) (n : LaneIx) (k : OutIx) (sm : List Sample), Keeps [.chopToggle t n k sm, .stepDownEnd t n k sm, .propPeriod
    t n k sm] [.now, .regs, .hirqLow, .banks] [] [n]) ∧
  (∀ (t : Time) (n : LaneIx) (vb va : BitVec 12), Keeps [.clampDemote t n vb va] [.now, .regs, .yew, .hirqLow, .banks]
    [0x006] (List.finRange 16)) ∧
  (∀ (t : Time) (n : LaneIx) (vb va : BitVec 12), Keeps [.demotionEnd t n vb va] [.now, .regs, .hirqLow, .banks] []
    (List.finRange 16)) ∧
  (∀ (t : Time) (n : LaneIx) (vb va : BitVec 12), Keeps [.vbstNotReady t n vb va, .vbstReady t n vb va] [.now, .banks] []
    (List.finRange 16)) ∧
  (∀ (t : Time) (n : LaneIx) (g : Fin 4), Keeps [.reload t n g] [.now, .regs, .hirqLow, .pwm, .eng] [] [n]) ∧
  (∀ (t : Time) (n : LaneIx) (g : Fin 4) (v : Word), Keeps [.gCmpWrite t n g v, .gModeWrite t n g v] [.now, .regs, .hirqLow,
    .pwm, .eng] [] [n]) ∧
  (∀ (t : Time) (n : LaneIx) (v : BitVec 4), Keeps [.commit t n v] [.now, .regs, .hirqLow, .pwm, .eng] [] [n]) ∧
  (∀ (t : Time) (n : LaneIx) (g : Fin 4) (v : Word), Keeps [.gPerWrite t n g v] [.now, .regs, .firstSeen, .yew, .hirqLow,
    .pwm, .eng] [0x006] [n]) ∧
  (∀ (t : Time) (n : LaneIx) (g : Fin 4), KeepsCfg [.generatorEnable t n g] [.now, .regs, .hirqLow, .pwm, .eng] [] [n]) ∧
  (∀ (t : Time) (src : Option LaneIx), Keeps [.syncPulse t src] [.now, .regs, .firstSeen, .yew, .hirqLow, .pwm, .eng,
    .syncIn, .syncOut] [0x006] (List.finRange 16)) ∧
  (∀ (t : Time) (n : LaneIx) (ain : List Sample) (isns : List (BitVec 12)), Keeps [.loopTrigger t n ain isns] [.now, .regs,
    .firstSeen, .yew, .hirqLow, .lanes, .banks, .pwm, .eng, .fbk] [0x006] [n]) ∧
  (∀ (t : Time) (n : LaneIx), Keeps [.commDrStep t n, .restart t n] [.now, .regs, .yew, .hirqLow, .pwm, .eng] [0x006] [n]) ∧
  (∀ (t : Time) (n : LaneIx) (v : BitVec 3), Keeps [.loopSwap t n v] [.now, .eng] [] [n]) ∧
  (∀ (t : Time) (n : LaneIx) (i : Fin 30) (v : Word), Keeps [.coefWrite t n i v] [.now, .regs, .yew, .hirqLow, .eng] [0x006]
    [n]) ∧
  (∀ (t : Time) (n : LaneIx) (x : Legs), Keeps [.hallChange t n x] [.now, .regs, .firstSeen, .yew, .hirqLow, .pwm, .eng,
    .fbk] [0x006] [n]) ∧
  (∀ (t : Time) (n : LaneIx) (c : Fin 3) (hold : Nat), Keeps [.wireDisagree t n c hold] [.now, .regs, .firstSeen, .yew,
    .hirqLow, .pwm, .eng, .fbk] [0x006] [n]) ∧
  (∀ (t : Time) (n : LaneIx) (x : Legs), Keeps [.pulseEdge t n x] [.now, .regs, .yew, .hirqLow, .fbk] [0x006] [n]) ∧
  (∀ (t : Time) (n : LaneIx) (v : Word), Keeps [.posLoad t n v] [.now, .regs, .yew, .hirqLow, .fbk] [0x006] [n]) ∧
  (∀ (t : Time) (n : LaneIx), Keeps [.emStep t n] [.now, .regs, .yew, .hirqLow, .fbk] [0x006] [n]) ∧
  (∀ (t : Time) (n : LaneIx) (x : Legs), Keeps [.quadEdge t n x, .index t n x] [.now, .regs, .firstSeen, .yew, .hirqLow,
    .fbk] [0x006] [n]) ∧
  (∀ (t : Time) (n : LaneIx) (c : Fin 3), Keeps [.wireDisagreeEnd t n c] [.now, .fbk] [] [n]) ∧
  (∀ (t : Time) (n : LaneIx), Keeps [.speedUpdate t n] [.now, .freeIdx, .fbk] [] [n])

/-- What lane, link and fence commands leave as it is. Every field of State, every register of every page and every lane
stays as it was, but those that the clause names for the command. -/
def Obligations.LaneFrames : Prop :=
  (∀ (t : Time) (n : LaneIx), Keeps [.safeNFall t n] [.now, .regs, .yew, .hirqLow, .lanes, .banks, .pwm, .eng] [0x006] [n]) ∧
  (∀ (t : Time) (n : LaneIx), Keeps [.safeNRise t n] [.now, .lanes, .pwm] [] [n]) ∧
  (∀ (t : Time) (n : LaneIx) (a : Flit) (b : Option Flit), Keeps [.evt t n a b] [.now, .regs, .firstSeen, .yew, .hirqLow,
    .lanes, .eng] [0x006, 0x01C] [n]) ∧
  (∀ (t : Time) (n : LaneIx) (fs : List Flit), Keeps [.travelUpdate t n fs] [.now, .regs, .firstSeen, .yew, .hirqLow, .lanes,
    .eng] [0x006, 0x01C] [n]) ∧
  (∀ (t : Time) (n : LaneIx) (f : Flit), Keeps [.epochAdv t n f, .qend t n f, .drain t n f, .spDem t n f, .portIdle t n f]
    [.now, .regs, .firstSeen, .yew, .hirqLow, .lanes, .eng] [0x006, 0x01C] [n]) ∧
  (∀ (t : Time) (n : LaneIx), Keeps [.drainEnd t n] [.now, .regs, .firstSeen, .yew, .hirqLow, .lanes, .banks, .pwm, .eng]
    [0x006] [n]) ∧
  (∀ (t : Time) (n : LaneIx), Keeps [.drExpired t n, .upQueueHigh t n] [.now, .regs, .firstSeen, .yew, .hirqLow, .lanes,
    .banks] [0x006, 0x01C] [n]) ∧
  (∀ (t : Time) (n : LaneIx), Keeps [.linkLost t n] [.now, .regs, .hirqLow, .lanes] [] [n]) ∧
  (∀ (t : Time) (n : LaneIx) (d : Dir), Keeps [.resendTimeout t n d] [.now, .regs, .hirqLow, .lanes] [] [n]) ∧
  (∀ (t : Time) (n : LaneIx) (d : Dir), Keeps [.idleFlitSend t n d] [.now, .regs, .lanes] [] [n]) ∧
  (∀ (t : Time) (n : LaneIx), Keeps [.reaim t n] [.now, .regs, .hirqLow, .lanes] [0x01C] [n]) ∧
  (∀ (t : Time) (n : LaneIx) (sm : List Sample), Keeps [.fire t n sm] [.now, .regs, .firstSeen, .yew, .hirqLow, .lanes,
    .banks, .eng] [0x006, 0x01C] [n]) ∧
  (∀ (t : Time), Keeps [.holdReoffer t] [.now, .regs, .lanes] [] (List.finRange 16)) ∧
  (∀ (t : Time) (n : LaneIx) (d : Dir) (f : Flit), Keeps [.idleFlit t n d f, .nak t n d f] [.now, .regs, .firstSeen, .yew,
    .hirqLow, .lanes, .eng, .fpe] [0x006, 0x01C] [n]) ∧
  (∀ (t : Time) (n : LaneIx) (f : Flit), Keeps [.evtAck t n f, .evtFull t n f, .qclr t n f, .dly t n f, .peakRpt t n f]
    [.now, .regs, .yew, .hirqLow, .lanes, .fpe] [0x006, 0x01C] [n]) ∧
  (∀ (t : Time) (n : LaneIx) (fs : List Flit), Keeps [.fireReport t n fs, .motion t n fs] [.now, .regs, .yew, .hirqLow,
    .lanes, .fpe] [0x006, 0x01C] [n]) ∧
  (∀ (t : Time) (v : Word), Keeps [.fence t v] [.now, .regs, .held, .yew, .hirqLow, .lanes, .banks, .pwm, .eng, .fbk, .fpe]
    [0x000, 0x006] (List.finRange 16)) ∧
  (∀ (t : Time) (n : LaneIx) (test : BitVec 16), Keeps [.laneSelfFail t n test] [.now, .regs, .held, .yew, .hirqLow, .lanes,
    .banks, .pwm, .eng, .fbk, .fpe] [0x000, 0x006] [n]) ∧
  (∀ (t : Time) (n : LaneIx), Keeps [.autofence t n] [.now, .regs, .held, .yew, .hirqLow, .lanes, .banks, .pwm, .eng, .fbk,
    .fpe] [0x000, 0x006] [n]) ∧
  (∀ (t : Time) (n : LaneIx) (f : Flit), f.typ.toNat = ftQend ∨ f.typ.toNat = ftDrain ∨ f.typ.toNat = ftEpochAdv → Keeps
    [.qend t n f, .drain t n f, .epochAdv t n f] [.now, .regs, .hirqLow, .lanes] [0x01C] [n]) ∧
  (∀ (t : Time) (n : LaneIx) (f : Flit), f.typ.toNat = ftSpDem → Keeps [.spDem t n f] [.now, .regs, .hirqLow, .lanes, .eng]
    [0x01C] [n]) ∧
  (∀ (t : Time) (n : LaneIx) (fs : List Flit), (∀ f ∈ fs, f.typ.toNat = ftTrvHdr ∨ f.typ.toNat = ftTrvT ∨ f.typ.toNat =
    ftTrvS) → Keeps [.travelUpdate t n fs] [.now, .regs, .hirqLow, .lanes] [0x01C] [n]) ∧
  (∀ (t : Time) (n : LaneIx) (d : Dir) (f : Flit), f.typ.toNat = ftIdle → Keeps [.idleFlit t n d f] [.now, .regs, .lanes] []
    [n]) ∧
  (∀ (t : Time) (n : LaneIx) (f : Flit), f.typ.toNat = ftPortIdle → Keeps [.portIdle t n f] [.now, .regs, .lanes] [] [n]) ∧
  (∀ (t : Time) (n : LaneIx) (d : Dir) (f : Flit), f.typ.toNat = ftNak → Keeps [.nak t n d f] [.now, .regs, .hirqLow, .lanes]
    [] [n]) ∧
  (∀ (t : Time) (n : LaneIx) (f : Flit), f.typ.toNat = fuAck → Keeps [.evtAck t n f] [.now, .regs, .lanes, .fpe] [0x01C] [n]) ∧
  (∀ (t : Time) (n : LaneIx) (f : Flit), f.typ.toNat = fuQclr ∨ f.typ.toNat = fuDly → Keeps [.qclr t n f, .dly t n f] [.now,
    .regs, .lanes, .fpe] [] [n]) ∧
  (∀ (t : Time) (n : LaneIx) (f : Flit), f.typ.toNat = fuPeakRpt → Keeps [.peakRpt t n f] [.now, .regs, .lanes] [] [n]) ∧
  (∀ (t : Time) (n : LaneIx) (fs : List Flit), (∀ f ∈ fs, f.typ.toNat = fuFireA ∨ f.typ.toNat = fuFireB) → Keeps [.fireReport
    t n fs] [.now, .regs, .lanes, .fpe] [0x01C] [n]) ∧
  (∀ (t : Time) (n : LaneIx) (fs : List Flit), (∀ f ∈ fs, f.typ.toNat = fuMotionA ∨ f.typ.toNat = fuMotionB) → Keeps [.motion
    t n fs] [.now, .regs, .lanes, .fpe] [] [n])

/-- What ring, recorder and mailbox commands leave as it is. Every field of State, every register of every page and every lane
stays as it was, but those that the clause names for the command. -/
def Obligations.PortFrames : Prop :=
  (∀ (t : Time) (p : Ring), Keeps [.frameSend t p] [.now, .regs, .ports] [0x008, 0x009] []) ∧
  (∀ (t : Time) (dst : BitVec 10) (cls : FrameClass), Keeps [.ackTimeout t dst cls] [.now, .regs, .freeIdx, .firstSeen, .yew,
    .hq, .cmpl, .cmplWait, .hirqLow, .ports, .ring, .rtun] [0x004, 0x006, 0x008, 0x009, 0x00B] []) ∧
  (∀ (t : Time) (p : Ring) (f : Option Frame), Keeps [.strokeReturn t p f] [.now, .regs, .freeIdx, .yew, .hirqLow, .ports,
    .ring] [0x006, 0x008, 0x009] []) ∧
  (∀ (t : Time), Keeps [.enumRetry t] [.now, .regs, .freeIdx, .yew, .hirqLow, .ports, .ring] [0x006, 0x008, 0x009] []) ∧
  (∀ (t : Time) (p : Ring), Keeps [.wrap t p] [.now, .regs, .freeIdx, .yew, .hirqLow, .ports, .ring] [0x006, 0x008, 0x009] []) ∧
  (∀ (t : Time) (p : Ring) (linkOk : Bool), Keeps [.unwrap t p linkOk] [.now, .regs, .freeIdx, .yew, .hirqLow, .ports, .ring]
    [0x006, 0x008, 0x009] []) ∧
  (∀ (t : Time) (q : Fin 32), Keeps [.ringItemEgress t q] [.now, .regs, .freeIdx, .firstSeen, .yew, .hq, .cmpl, .cmplWait,
    .hirqLow, .map, .ports, .ring] [0x004, 0x006] []) ∧
  (∀ (t : Time), Keeps [.enum t] [.now, .regs, .freeIdx, .ports, .ring] [0x008, 0x009] []) ∧
  (∀ (t : Time), Keeps [.enumJoin t] [.now, .ports] [] []) ∧
  (∀ (t : Time) (p : Ring), Keeps [.rfault t p, .syncSend t p, .delayMeasure t p] [.now, .ports] [] []) ∧
  (∀ (t : Time) (p : Ring) (seq : BitVec 16) (t2 : Time), Keeps [.dreq t p seq t2] [.now, .ports] [] []) ∧
  (∀ (t : Time) (p : Ring) (seq : BitVec 16) (turn : Word), Keeps [.dresp t p seq turn] [.now, .ports] [] []) ∧
  (∀ (t : Time), Keeps [.presenceSend t] [.now, .ports, .ring] [] []) ∧
  (∀ (t : Time) (node : BitVec 10), Keeps [.nodeAbsent t node] [.now, .regs, .freeIdx, .yew, .hirqLow, .ring] [0x006, 0x008,
    0x009] []) ∧
  (∀ (t : Time) (p : Ring) (x : LineLoss), Keeps [.linkDown t p x] [.now, .regs, .freeIdx, .yew, .hirqLow, .ports] [0x006,
    0x008, 0x009] []) ∧
  (∀ (t : Time) (p : Ring) (sets : Nat), Keeps [.linkUp t p sets] [.now, .regs, .ports] [0x001] []) ∧
  (∀ (t : Time) (p : Ring) (gen : Epoch) (orig : BitVec 10), Keeps [.topo t p gen orig] [.now, .regs, .hirqLow, .ports,
    .ring] [0x008, 0x009] []) ∧
  (∀ (t : Time) (p : Ring) (data : BitVec 48), Keeps [.sync t p data] [.now, .regs, .freeIdx, .yew, .hirqLow, .ports, .rtime]
    [0x006, 0x008, 0x009, 0x00A] []) ∧
  (∀ (t : Time), Keeps [.rtHold t] [.now, .regs, .freeIdx, .yew, .hirqLow, .rtime] [0x006, 0x008, 0x009, 0x00A] []) ∧
  (∀ (t : Time) (code : BitVec 10) (page : BitVec 12) (h : Half) (a0 a1 a2 : Word), Keeps [.record t code page h a0 a1 a2]
    [.now, .regs, .yew, .hirqLow] [0x006, page.toNat] (List.finRange 16)) ∧
  (∀ (t : Time), Keeps [.bucketRefill t] [.now, .yew] [] []) ∧
  (∀ (t : Time), Keeps [.yewFlush t] [.now, .regs, .firstSeen, .yew, .yewPort, .hirqLow, .nor] [0x006] []) ∧
  (∀ (t : Time), Keeps [.streamPost t] [.now, .regs, .yew, .hq, .hirqLow, .ports, .ring] [0x004, 0x006] []) ∧
  (∀ (t : Time), Keeps [.pfailSetClose t] [.now, .regs, .yew, .yewPort, .hirqLow, .nor] [0x006] []) ∧
  (∀ (t : Time), Keeps [.pfailDone t] [.now, .regs, .yewPort] [0x006] []) ∧
  (∀ (t : Time) (k : Fin 8) (w : Word), Keeps [.mkTx t k w] [.now, .regs, .mbox] [0x005] []) ∧
  (∀ (t : Time) (k : Fin 8), Keeps [.db t k] [.now, .regs, .yew, .hirqLow, .mbox] [0x005, 0x006] []) ∧
  (∀ (t : Time) (k : Fin 8), Keeps [.mailboxReply t k] [.now, .regs, .hirqLow, .mbox] [0x005] []) ∧
  (∀ (t : Time) (k : Fin 8), Keeps [.mkRx t k] [.now, .regs, .mbox, .lastRead] [0x005] []) ∧
  (∀ (t : Time), Keeps [.norOpDone t, .norTimeout t] [.now, .regs, .freeIdx, .firstSeen, .yew, .yewPort, .hq, .cmpl,
    .cmplWait, .hirqLow, .nor, .ports, .ring] [0x004, 0x006, 0x007] []) ∧
  (∀ (t : Time), Keeps [.longCommandEnd t] [.now, .regs, .freeIdx, .firstSeen, .yew, .yewPort, .hq, .cmpl, .cmplWait,
    .hirqLow, .mbox, .nor, .ports, .ring] [0x004, 0x006, 0x007] []) ∧
  (∀ (t : Time) (k : Fin 8), Keeps [.norRead t k, .norErase t k, .norWrite t k, .norCrc t k, .patchStage t k, .cfgSave t k,
    .logRead t k, .abort t k] [.now, .regs, .freeIdx, .firstSeen, .yew, .yewPort, .hq, .cmpl, .cmplWait, .hirqLow, .mbox,
    .nor, .ports, .ring] [0x004, 0x006, 0x007] []) ∧
  (∀ (t : Time), Keeps [.payloadTimeout t] [.now, .regs, .freeIdx, .firstSeen, .yew, .hq, .cmpl, .cmplWait, .hirqLow, .nor]
    [0x004, 0x006] []) ∧
  (∀ (t : Time) (k : Fin 8), Keeps [.mailboxTaken t k] [.now, .regs, .hirqLow, .mbox, .nor] [0x005] []) ∧
  (∀ (t : Time) (k : Fin 8), Keeps [.getInfo t k, .echo t k, .cfgClear t k] [.now, .mbox, .nor] [] []) ∧
  (∀ (t : Time) (k : Fin 8), Keeps [.dirSet t k] [.now, .regs, .yew, .yewPort, .hirqLow, .mbox, .nor] [0x006] []) ∧
  (∀ (t : Time) (k : Fin 8), Keeps [.patchSelect t k, .keyRevoke t k] [.now, .regs, .yew, .hirqLow, .mbox, .nor] [0x006,
    0x007] [])

/-- What map, pose, footprint, GNSS and time commands leave as it is. Every field of State, every register of every page and every lane
stays as it was, but those that the clause names for the command. -/
def Obligations.FieldFrames : Prop :=
  (∀ (t : Time) (ecc : List EccFault), Keeps [.scrub t ecc] [.now, .regs, .yew, .hirqLow, .laurel, .map] [0x006, 0x019] []) ∧
  (∀ (t : Time) (cov : Bool), Keeps [.tileItem t cov, .tileEffect t cov] [.now, .regs, .freeIdx, .firstSeen, .yew, .hq,
    .cmpl, .cmplWait, .hirqLow, .map] [0x004, 0x006, 0x019] []) ∧
  (∀ (t : Time), Keeps [.tileRequestPost t, .evictPost t] [.now, .regs, .hq, .hirqLow, .map, .ports, .ring] [0x004, 0x019] []) ∧
  (∀ (t : Time) (slot : BitVec 11), Keeps [.requestRetry t slot] [.now, .map] [] []) ∧
  (∀ (t : Time), Keeps [.spillPost t] [.now, .regs, .hq, .hirqLow, .map, .ports, .ring] [0x004] []) ∧
  (∀ (t : Time), Keeps [.flush t] [.now, .regs, .freeIdx, .yew, .hq, .hirqLow, .map, .ports, .ring] [0x004, 0x006, 0x019] []) ∧
  (∀ (t : Time), Keeps [.advJob t] [.now, .regs] [0x019] []) ∧
  (∀ (t : Time) (b rise : Bool) (stamp : Time), Keeps [.gsEdge t b rise stamp] [.now, .regs, .pose] [0x015] []) ∧
  (∀ (t : Time), Keeps [.spdDisagree t, .hitchDisagree t] [.now, .regs, .yew, .hirqLow, .pose] [0x006, 0x014] []) ∧
  (∀ (t : Time) (hitch : List (BitVec 12)) (peer : Word), Keeps [.poseWord t hitch peer] [.now, .regs, .freeIdx, .spdRun,
    .qualLow, .yew, .hirqLow, .laurel, .pose, .ports, .ring] [0x003, 0x006, 0x014, 0x015] []) ∧
  (∀ (t : Time), Keeps [.ringMiss t] [.now, .regs, .freeIdx, .spdRun, .qualLow, .hirqLow, .pose] [0x014, 0x015] []) ∧
  (∀ (t : Time), Keeps [.solutionLost t, .coastExpired t] [.now, .pose] [] []) ∧
  (∀ (t : Time), Keeps [.imuCoastEnd t] [.now, .regs, .spdRun, .pose] [0x014] []) ∧
  (∀ (t : Time) (rise : Bool), Keeps [.imuInt t rise] [.now, .regs, .imu] [0x013] []) ∧
  (∀ (t : Time) (bytes : List Byte), Keeps [.imuBurstDone t bytes] [.now, .regs, .freeIdx, .imu] [0x013, 0x014] []) ∧
  (∀ (t : Time), Keeps [.imuLost t] [.now, .regs, .hirqLow, .imu] [0x013, 0x014] []) ∧
  (∀ (t : Time), Keeps [.travelCompute t] [.now, .regs, .lanes, .trav] [0x01A] (List.finRange 16)) ∧
  (∀ (t : Time) (ecc : List EccFault) (ain0 ain1 : List Sample), Keeps [.footprintTick t ecc ain0 ain1] [.now, .regs,
    .freeIdx, .yew, .hq, .hirqLow, .laurel, .eng, .fpe, .map, .ports, .ring] [0x004, 0x006, 0x018, 0x019, 0x01B]
    (List.finRange 16)) ∧
  (∀ (t : Time), Keeps [.demandPhase t] [.now, .regs, .freeIdx, .yew, .hq, .hirqLow, .fpe, .map, .ports, .ring] [0x004,
    0x006, 0x018, 0x019] []) ∧
  (∀ (t : Time) (ecc : List EccFault) (dur : BitVec 16), Keeps [.decisionPhase t ecc dur] [.now, .dev, .prev, .devAt,
    .devLog, .regs, .freeIdx, .firstSeen, .yew, .hq, .hirqLow, .laurel, .lanes, .fpe, .map, .ports, .ring] [0x000, 0x004,
    0x006, 0x018, 0x019, 0x01B, 0x01C] (List.finRange 16)) ∧
  (∀ (t : Time), Keeps [.strokeForm t] [.now, .regs, .hirqLow, .lanes, .fpe, .map, .ports, .ring] [0x008, 0x018, 0x019,
    0x01B] (List.finRange 16)) ∧
  (∀ (t : Time) (dec slots : Word), Keeps [.decisionDigest t dec slots] [.now, .regs, .freeIdx, .yew, .hirqLow, .laurel]
    [0x003, 0x006, 0x018] []) ∧
  (∀ (t : Time) (j : GOut), Keeps [.noMotion t j] [.now, .regs, .yew, .hirqLow, .fpe] [0x006, 0x018] []) ∧
  (∀ (t : Time), Keeps [.rateSwap t] [.now, .regs, .fpe] [0x01B] []) ∧
  (∀ (t : Time) (count : BitVec 17), Keeps [.gifClkCheck t count] [.now, .regs, .yew, .hirqLow, .gnss] [0x006, 0x010, 0x011]
    []) ∧
  (∀ (t : Time) (h : Half), Keeps [.gnssLost t h] [.now, .regs, .yew, .hirqLow, .gnss] [0x006, 0x010, 0x011] []) ∧
  (∀ (t : Time) (l1 l5 : IfCounts), Keeps [.agcUpdate t l1 l5] [.now, .regs, .freeIdx, .yew, .hirqLow, .gnss] [0x006, 0x010,
    0x011] []) ∧
  (∀ (t : Time) (ms : List ChanMeas) (asg : List ChanAssign) (o : ObsTime), Keeps [.measurement t ms asg o] [.now, .regs,
    .freeIdx, .yew, .hq, .hirqLow, .gnss, .ports, .ring] [0x004, 0x006, 0x010, 0x011] []) ∧
  (∀ (t : Time), Keeps [.rtcmFrame t] [.now, .regs, .freeIdx, .firstSeen, .yew, .hq, .cmpl, .cmplWait, .hirqLow, .gnss]
    [0x004, 0x006, 0x010, 0x011] []) ∧
  (∀ (t : Time), Keeps [.burstStart t, .burstEnd t] [.now, .regs, .gnss] [0x010, 0x011] []) ∧
  (∀ (t : Time), Keeps [.timeHoldover t, .timeExpired t, .pulsePrepare t] [.now, .regs, .yew, .hirqLow, .time] [0x006, 0x012]
    []) ∧
  (∀ (t : Time) (h : Half) (sol : Solution) (ts : Option TimeSol), Keeps [.gnssSolution t h sol ts] [.now, .regs, .yew, .hq,
    .hirqLow, .pose, .gnss, .time, .ports, .ring] [0x004, 0x006, 0x010, 0x011, 0x012] []) ∧
  (∀ (t : Time), Keeps [.tpulse t] [.now, .regs, .hirqLow, .time] [0x012] []) ∧
  (∀ (t : Time), Keeps [.tpulseB t] [.now, .time] [] [])

/-- What redundancy, seal, start-up, read, host port and frame commands leave as it is. Every field of State, every register of every page and every lane
stays as it was, but those that the clause names for the command. -/
def Obligations.ControlFrames : Prop :=
  (∀ (t : Time) (h : Half), Keeps [.heartbeatSend t h, .selfFault t h] [.now, .laurel] [] []) ∧
  (∀ (t : Time), Keeps [.suspectClear t] [.now, .laurel] [] []) ∧
  (∀ (t : Time) (h : Half) (arr : HbArrivals), Keeps [.heartbeatCheck t h arr] [.now, .regs, .laurel] [0x003] []) ∧
  (∀ (t : Time), Keeps [.handover t] [.now, .regs, .laurel] [0x003] []) ∧
  (∀ (t : Time) (h : Half), Keeps [.heartbeatLoss t h] [.now, .regs, .yew, .hirqLow, .laurel, .gnss] [0x003, 0x006] []) ∧
  (∀ (t : Time) (okA okB : Bool), Keeps [.xchkIdentify t okA okB] [.now, .regs, .yew, .hirqLow, .laurel, .gnss] [0x003,
    0x006] []) ∧
  (∀ (t : Time) (c0 c1 c2 : TokenCopy), Keeps [.tokenCopyError t c0 c1 c2] [.now, .regs, .freeIdx, .firstSeen, .yew,
    .hirqLow, .laurel] [0x003, 0x006] []) ∧
  (∀ (t : Time), Keeps [.claim t, .conflictEnd t] [.now, .regs, .freeIdx, .firstSeen, .yew, .cmpl, .cmplWait, .hirqLow,
    .mbox, .nor, .laurel, .lanes, .pose, .gnss, .ports, .ring] [0x003, 0x004, 0x005, 0x006, 0x007] (List.finRange 16)) ∧
  (∀ (t : Time), Keeps [.takeover t] [.now, .regs, .ctrlDue, .yew, .hirqLow, .laurel, .lanes, .trav, .fpe] [0x003, 0x006,
    0x01C] (List.finRange 16)) ∧
  (∀ (t : Time) (okA okB : Bool), Keeps [.katNow t okA okB, .katPeriodic t okA okB] [.now, .regs, .freeIdx, .yew, .hirqLow,
    .laurel, .gnss] [0x003, 0x006] []) ∧
  (∀ (t : Time) (h : Half), Keeps [.rejoin t h] [.now, .regs, .yew, .laurel] [0x003] []) ∧
  (∀ (t : Time) (h : Half) (ok : Bool), Keeps [.rejoinDone t h ok] [.now, .regs, .freeIdx, .yew, .hirqLow, .laurel, .gnss,
    .map] [0x003, 0x006] []) ∧
  (∀ (t : Time) (crc : Word), Keeps [.seal t crc] [.now, .regs, .checking, .sealExp, .sealSnap, .sealFail] [0x000] []) ∧
  (∀ (t : Time) (retrain : BitVec 16), KeepsFields [.sealDone t retrain] [.now, .dev, .prev, .devAt, .devLog, .regs, .held,
    .idleDrain, .checking, .yew, .hirqLow, .lanes, .banks, .pwm, .eng, .fbk, .fpe]) ∧
  (∀ (t : Time) (straps : BitVec 4) (lockUs : BitVec 16), Keeps [.porstNRise t straps lockUs] [.now, .dev, .prev, .devAt,
    .devLog, .regs, .yew, .hirqLow, .ring] [0x000, 0x001, 0x006] []) ∧
  (∀ (t : Time) (r : BootResult), KeepsFields [.bootExit t r] [.now, .dev, .prev, .devAt, .devLog, .regs, .held, .freeIdx,
    .idleDrain, .patchOk, .checking, .romFail, .yew, .yewPort, .hirqLow, .nor, .laurel, .lanes, .banks, .pwm, .eng, .fbk,
    .imu, .fpe, .gnss, .ports, .ring]) ∧
  (∀ (t : Time), Keeps [.arm t] [.now, .dev, .prev, .devAt, .devLog, .regs, .idleDrain, .yew, .hirqLow, .lanes, .pwm, .pose,
    .trav, .fpe] [0x000, 0x006, 0x01A] (List.finRange 16)) ∧
  (∀ (t : Time), Keeps [.disarm t] [.now, .dev, .prev, .devAt, .devLog, .regs, .idleDrain, .ctrlDue, .yew, .hirqLow, .lanes]
    [0x000, 0x006] (List.finRange 16)) ∧
  (∀ (t : Time), Keeps [.unseal t] [.now, .dev, .prev, .devAt, .devLog, .regs, .yew, .hirqLow, .lanes, .banks, .pwm, .eng]
    [0x000, 0x006] (List.finRange 16)) ∧
  (∀ (t : Time), Keeps [.standby t] [.now, .dev, .prev, .devAt, .devLog, .regs, .yew, .hirqLow, .lanes, .banks, .pwm, .eng,
    .gnss] [0x000, 0x006] (List.finRange 16)) ∧
  (∀ (t : Time), Keeps [.wake t] [.now, .dev, .prev, .devAt, .devLog, .regs, .waking, .yew, .hirqLow, .lanes, .banks, .pwm,
    .eng, .gnss] [0x000, 0x006] (List.finRange 16)) ∧
  (∀ (t : Time), Keeps [.wakeComplete t] [.now, .dev, .prev, .devAt, .devLog, .regs, .idleDrain, .waking, .yew, .hirqLow,
    .lanes, .banks, .pwm, .eng, .gnss] [0x000, 0x006, 0x010, 0x011] (List.finRange 16)) ∧
  (∀ (t : Time), Keeps [.speedInvalid t] [.now, .dev, .prev, .devAt, .devLog, .regs, .ctrlDue, .yew, .hirqLow, .lanes, .fpe]
    [0x000, 0x006] (List.finRange 16)) ∧
  (∀ (t : Time), Keeps [.pfailFall t] [.now, .regs, .freeIdx, .firstSeen, .pfail, .pfailBalls, .waking, .checking, .yew,
    .yewPort, .hq, .cmpl, .cmplWait, .hirqLow, .nor, .lanes, .banks, .pwm, .eng, .ports, .ring] [0x000, 0x002, 0x004, 0x006,
    0x007] (List.finRange 16)) ∧
  (∀ (t : Time) (pll : Bool), Keeps [.clockLoss t pll] [.now, .regs, .clockLost, .yew, .hirqLow, .lanes, .banks, .pwm, .eng]
    [0x000, 0x001, 0x006] (List.finRange 16)) ∧
  (∀ (t : Time) (p : Ring), Keeps [.serdesUnlock t p] [.now, .regs, .freeIdx, .yew, .hirqLow, .ports] [0x001, 0x006, 0x008,
    0x009] []) ∧
  (∀ (t : Time) (i : Supply) (meas : BitVec 16), Keeps [.supplyOor t i meas] [.now, .regs, .supplySafe, .inRange, .yew,
    .hirqLow, .lanes, .banks, .pwm, .eng] [0x002, 0x006] (List.finRange 16)) ∧
  (∀ (t : Time) (i : Supply) (x0 : BitVec 16), Keeps [.supplyInRange t i x0] [.now, .inRange] [] []) ∧
  (∀ (t : Time) (laneDie : Bool) (temp : BitVec 16), Keeps [.tempRead t laneDie temp] [.now, .regs, .tempSeen, .hirqLow]
    [0x002] []) ∧
  (∀ (t : Time), Keeps [.noChargeTimeout t, .singleHalfStop t] [.now, .regs, .yew, .hirqLow, .lanes, .banks, .pwm, .eng]
    [0x006] (List.finRange 16)) ∧
  (∀ (t : Time) (addr : BitVec 24), KeepsFields [.rcRead t addr] [.now, .regs, .freeIdx, .tempSeen, .yew, .hq, .dropQ,
    .hirqLow, .mbox, .banks, .pwm, .eng, .lastRead]) ∧
  (∀ (t : Time), KeepsFields [.poseCur0 t, .geomTrvLo t, .slotStat t, .outLead t, .tpNextRtLo t, .rtNowLo t, .flushRtLo t,
    .recW0 t, .qItems t] [.now, .regs, .freeIdx, .tempSeen, .yew, .hq, .dropQ, .hirqLow, .mbox, .banks, .pwm, .eng,
    .lastRead]) ∧
  (∀ (t : Time) (n : LaneIx), KeepsFields [.sqE0 t n, .ltrvLo t n, .fbkPos t n] [.now, .regs, .freeIdx, .tempSeen, .yew, .hq,
    .dropQ, .hirqLow, .mbox, .banks, .pwm, .eng, .lastRead]) ∧
  (∀ (t : Time) (n : LaneIx) (g : Fin 4), KeepsFields [.gPerAct t n g] [.now, .regs, .freeIdx, .tempSeen, .yew, .hq, .dropQ,
    .hirqLow, .mbox, .banks, .pwm, .eng, .lastRead]) ∧
  (∀ (t : Time) (h : Half), KeepsFields [.solTimeLo t h, .chStat t h] [.now, .regs, .freeIdx, .tempSeen, .yew, .hq, .dropQ,
    .hirqLow, .mbox, .banks, .pwm, .eng, .lastRead]) ∧
  (∀ (t : Time) (addr : BitVec 24) (count : Fin 64) (ready : Bool), KeepsFields [.rd t addr count ready, .rdf t addr count
    ready] [.now, .regs, .freeIdx, .tempSeen, .yew, .hq, .dropQ, .hirqLow, .mbox, .banks, .pwm, .eng, .hostTx, .lastRead]) ∧
  (∀ (t : Time) (code : Byte), Keeps [.unknownCommand t code] [.now, .regs, .hostTx] [0x004] []) ∧
  (∀ (t : Time) (sel : Byte) (desc data : List Byte) (crc : Option Word), Keeps [.qpush t sel desc data crc] [.now, .regs,
    .freeIdx, .firstSeen, .yew, .yewPort, .hq, .cmpl, .cmplWait, .hirqLow, .nor, .ports, .ring, .hostTx] [0x004, 0x006,
    0x007] []) ∧
  (∀ (t : Time) (sel : Byte) (ackSeq : BitVec 16), Keeps [.qpop t sel ackSeq] [.now, .regs, .freeIdx, .firstSeen, .yew,
    .yewPort, .hq, .cmpl, .cmplWait, .hirqLow, .nor, .map, .ports, .ring, .hostTx] [0x004, 0x006, 0x007] []) ∧
  (∀ (t : Time) (ackN maxN : Byte), Keeps [.cmpl t ackN maxN] [.now, .cmpl, .hostTx] [] []) ∧
  (∀ (t : Time) (q : Fin 32), Keeps [.queueAge t q] [.now, .regs, .hirqLow] [0x004] []) ∧
  (∀ (t : Time), Keeps [.hirqHoldoffEnd t] [.now, .hirqLow, .hirqRose] [] []) ∧
  (∀ (t : Time) (p : Ring) (f : Frame), (f.tun && isTunRequest f) = false → Keeps [.frameRx t p f, .ringPoseWord t p f,
    .presence t p f, .strokeFrame t p f, .enumFull t p f, .enumDone t p f, .join t p f, .ringDataFrame t p f, .ackFrame t p
    f, .nakFrame t p f, .qbrSegment t p f, .tunResponse t p f] [.now, .regs, .freeIdx, .firstSeen, .spdRun, .qualLow, .yew,
    .yewPort, .hq, .cmpl, .cmplWait, .hirqLow, .nor, .pose, .map, .ports, .ring, .rtun] [0x004, 0x006, 0x007, 0x008, 0x009,
    0x00B, 0x014, 0x015, 0x019] []) ∧
  (∀ (t : Time), Keeps [.tunTimeout t] [.now, .regs, .hirqLow, .rtun] [0x00B] []) ∧
  (∀ (t : Time), Keeps [.idcode t] [.now, .tdo, .extest] [] []) ∧
  (∀ (t : Time), Keeps [.extest t] [.now, .extest] [] [])
end

