-- ==== Sys2Proof/Laws/Sparse.lean ====
section
/-! SUPPORT. Sparse stores: read after write, and the canonical form kept by every write. -/
namespace Sys2Proof.Machine

variable {α : Type}

theorem Sparse.above_mono {m : Sparse α} {a b : Nat} (h : Sparse.above b m = true) (ab : a ≤ b) : Sparse.above a m = true := by
  induction m with
  | nil => rfl
  | cons p m ih =>
    simp only [Sparse.above, Bool.and_eq_true, decide_eq_true_eq] at h ⊢
    exact ⟨by omega, ih h.2⟩

theorem Sparse.get_above (d : Nat → α) {m : Sparse α} {a k : Nat} (h : Sparse.above a m = true) (ka : k ≤ a) :
    Sparse.get d m k = d k := by
  cases m with
  | nil => rfl
  | cons p m =>
    simp only [Sparse.above, Bool.and_eq_true, decide_eq_true_eq] at h
    have h1 : p.1 ≠ k := by omega
    have h2 : k < p.1 := by omega
    simp [Sparse.get, h1, h2]

theorem Sparse.above_erase {m : Sparse α} {a k : Nat} (h : Sparse.above a m = true) :
    Sparse.above a (Sparse.erase m k) = true := by
  induction m with
  | nil => rfl
  | cons p m ih =>
    simp only [Sparse.above, Bool.and_eq_true, decide_eq_true_eq] at h
    simp only [Sparse.erase]
    split
    · exact h.2
    · split <;> simp [Sparse.above, h.1, h.2, ih h.2]

theorem Sparse.above_put {m : Sparse α} {a k : Nat} {x : α} (h : Sparse.above a m = true) (ak : a < k) :
    Sparse.above a (Sparse.put m k x) = true := by
  induction m with
  | nil => simp [Sparse.put, Sparse.above, ak]
  | cons p m ih =>
    simp only [Sparse.above, Bool.and_eq_true, decide_eq_true_eq] at h
    simp only [Sparse.put]
    split
    · simp [Sparse.above, ak, h.2]
    · split <;> simp [Sparse.above, ak, h.1, h.2, ih h.2]

variable [DecidableEq α]

theorem Sparse.wf_erase {d : Nat → α} {m : Sparse α} {k : Nat} (h : Sparse.wf d m = true) :
    Sparse.wf d (Sparse.erase m k) = true := by
  induction m with
  | nil => rfl
  | cons p m ih =>
    simp only [Sparse.wf, Bool.and_eq_true, decide_eq_true_eq] at h
    simp only [Sparse.erase]
    split
    · exact h.2
    · split
      · simp [Sparse.wf, h.1.1, h.1.2, h.2]
      · simp [Sparse.wf, h.1.1, Sparse.above_erase h.1.2, ih h.2]

theorem Sparse.wf_put {d : Nat → α} {m : Sparse α} {k : Nat} {x : α} (h : Sparse.wf d m = true) (hx : x ≠ d k) :
    Sparse.wf d (Sparse.put m k x) = true := by
  induction m with
  | nil => simp [Sparse.put, Sparse.wf, Sparse.above, hx]
  | cons p m ih =>
    simp only [Sparse.wf, Bool.and_eq_true, decide_eq_true_eq] at h
    simp only [Sparse.put]
    split
    · rename_i e
      subst e
      simp [Sparse.wf, hx, h.1.2, h.2]
    · split
      · rename_i e
        simp [Sparse.wf, Sparse.above, hx, h.1.1, h.1.2, h.2, e, Sparse.above_mono h.1.2 (Nat.le_of_lt e)]
      · rename_i e1 e2
        have e : p.1 < k := by omega
        simp [Sparse.wf, h.1.1, Sparse.above_put h.1.2 e, ih h.2]

/-- A write keeps the canonical form. -/
theorem Sparse.wf_set {d : Nat → α} {m : Sparse α} {k : Nat} {x : α} (h : Sparse.wf d m = true) :
    Sparse.wf d (Sparse.set d m k x) = true := by
  unfold Sparse.set
  split
  · exact Sparse.wf_erase h
  · exact Sparse.wf_put h ‹_›

omit [DecidableEq α] in
theorem Sparse.above_filter {m : Sparse α} {a : Nat} (f : Nat × α → Bool) (h : Sparse.above a m = true) :
    Sparse.above a (m.filter f) = true := by
  induction m with
  | nil => rfl
  | cons p m ih =>
    simp only [Sparse.above, Bool.and_eq_true, decide_eq_true_eq] at h
    rw [List.filter_cons]
    split
    · simp [Sparse.above, h.1, ih h.2]
    · exact ih h.2

/-- Clearing a range keeps the canonical form. -/
theorem Sparse.wf_clearRange {d : Nat → α} {m : Sparse α} {lo hi : Nat} (h : Sparse.wf d m = true) :
    Sparse.wf d (Sparse.clearRange m lo hi) = true := by
  unfold Sparse.clearRange
  induction m with
  | nil => rfl
  | cons p m ih =>
    simp only [Sparse.wf, Bool.and_eq_true, decide_eq_true_eq] at h
    rw [List.filter_cons]
    split
    · simp [Sparse.wf, h.1.1, Sparse.above_filter _ h.1.2, ih h.2]
    · exact ih h.2

/-- Writing a run keeps the canonical form. -/
theorem Sparse.wf_setRun {d : Nat → α} {xs : List α} {m : Sparse α} {k : Nat} (h : Sparse.wf d m = true) :
    Sparse.wf d (Sparse.setRun d m k xs) = true := by
  induction xs generalizing m k with
  | nil => exact h
  | cons x xs ih => exact ih (Sparse.wf_set h)

theorem Sparse.get_erase_self {d : Nat → α} {m : Sparse α} {k : Nat} (h : Sparse.wf d m = true) :
    Sparse.get d (Sparse.erase m k) k = d k := by
  induction m with
  | nil => rfl
  | cons p m ih =>
    simp only [Sparse.wf, Bool.and_eq_true, decide_eq_true_eq] at h
    simp only [Sparse.erase]
    split
    · rename_i e
      subst e
      exact Sparse.get_above d h.1.2 (Nat.le_refl _)
    · split
      · rename_i e1 e2
        simp [Sparse.get, e1, e2]
      · rename_i e1 e2
        simp [Sparse.get, e1, e2, ih h.2]

theorem Sparse.get_erase_ne {d : Nat → α} {m : Sparse α} {j k : Nat} (h : Sparse.wf d m = true) (jk : j ≠ k) :
    Sparse.get d (Sparse.erase m k) j = Sparse.get d m j := by
  induction m with
  | nil => rfl
  | cons p m ih =>
    simp only [Sparse.wf, Bool.and_eq_true, decide_eq_true_eq] at h
    simp only [Sparse.erase]
    split
    · rename_i e
      subst e
      rw [Sparse.get]
      have h1 : p.1 ≠ j := fun e => jk e.symm
      simp only [h1, if_false]
      split
      · rename_i h2
        exact Sparse.get_above d h.1.2 (Nat.le_of_lt h2)
      · rfl
    · split
      · rfl
      · simp only [Sparse.get, ih h.2]

omit [DecidableEq α] in
theorem Sparse.get_put_self {d : Nat → α} {m : Sparse α} {k : Nat} {x : α} : Sparse.get d (Sparse.put m k x) k = x := by
  induction m with
  | nil => simp [Sparse.put, Sparse.get]
  | cons p m ih =>
    simp only [Sparse.put]
    split
    · simp [Sparse.get]
    · split
      · simp [Sparse.get]
      · rename_i e1 e2
        simp [Sparse.get, e1, e2, ih]

theorem Sparse.get_put_ne {d : Nat → α} {m : Sparse α} {j k : Nat} {x : α} (h : Sparse.wf d m = true) (jk : j ≠ k) :
    Sparse.get d (Sparse.put m k x) j = Sparse.get d m j := by
  have kj : k ≠ j := fun e => jk e.symm
  induction m with
  | nil => simp [Sparse.put, Sparse.get, kj]
  | cons p m ih =>
    simp only [Sparse.wf, Bool.and_eq_true, decide_eq_true_eq] at h
    simp only [Sparse.put]
    split
    · rename_i e
      simp only [Sparse.get, e, kj, if_false]
    · split
      · rename_i e1 e2
        rw [Sparse.get]
        simp only [kj, if_false]
        split
        · rename_i e3
          have e4 : p.1 ≠ j := by omega
          have e5 : j < p.1 := by omega
          simp [Sparse.get, e4, e5]
        · rfl
      · simp only [Sparse.get, ih h.2]

/-- Reading the key just written gives the value written. -/
theorem Sparse.get_set_self {d : Nat → α} {m : Sparse α} {k : Nat} {x : α} (h : Sparse.wf d m = true) :
    Sparse.get d (Sparse.set d m k x) k = x := by
  unfold Sparse.set
  split
  · rename_i e
    rw [Sparse.get_erase_self h, e]
  · exact Sparse.get_put_self

/-- Writing one key leaves every other as it was. -/
theorem Sparse.get_set_ne {d : Nat → α} {m : Sparse α} {j k : Nat} {x : α} (h : Sparse.wf d m = true) (jk : j ≠ k) :
    Sparse.get d (Sparse.set d m k x) j = Sparse.get d m j := by
  unfold Sparse.set
  split
  · exact Sparse.get_erase_ne h jk
  · exact Sparse.get_put_ne h jk

end Sys2Proof.Machine
end

