-- ==== Sys2Proof/Laws/State.lean ====
section
/-! SUPPORT. What the shared operations leave unchanged: one lemma that says which fields an operation can write, and one
simp lemma for each field it keeps. -/
namespace Sys2Proof.Machine

variable (s : State)

@[simp] theorem State.at_pending (t : Time) : (s.at t).pending = s.pending := rfl
@[simp] theorem State.at_member (t : Time) : (s.at t).member = s.member := rfl
@[simp] theorem State.at_dev (t : Time) : (s.at t).dev = s.dev := rfl
@[simp] theorem State.at_prev (t : Time) : (s.at t).prev = s.prev := rfl
@[simp] theorem State.at_devAt (t : Time) : (s.at t).devAt = s.devAt := rfl
@[simp] theorem State.at_devLog (t : Time) : (s.at t).devLog = s.devLog := rfl
@[simp] theorem State.at_regs (t : Time) : (s.at t).regs = s.regs := rfl
@[simp] theorem State.at_frozen (t : Time) : (s.at t).frozen = s.frozen := rfl
@[simp] theorem State.at_held (t : Time) : (s.at t).held = s.held := rfl
@[simp] theorem State.at_freeIdx (t : Time) : (s.at t).freeIdx = s.freeIdx := rfl
@[simp] theorem State.at_firstSeen (t : Time) : (s.at t).firstSeen = s.firstSeen := rfl
@[simp] theorem State.at_pfail (t : Time) : (s.at t).pfail = s.pfail := rfl
@[simp] theorem State.at_pfailBalls (t : Time) : (s.at t).pfailBalls = s.pfailBalls := rfl
@[simp] theorem State.at_clockLost (t : Time) : (s.at t).clockLost = s.clockLost := rfl
@[simp] theorem State.at_supplySafe (t : Time) : (s.at t).supplySafe = s.supplySafe := rfl
@[simp] theorem State.at_inRange (t : Time) : (s.at t).inRange = s.inRange := rfl
@[simp] theorem State.at_idleDrain (t : Time) : (s.at t).idleDrain = s.idleDrain := rfl
@[simp] theorem State.at_ctrlDue (t : Time) : (s.at t).ctrlDue = s.ctrlDue := rfl
@[simp] theorem State.at_waking (t : Time) : (s.at t).waking = s.waking := rfl
@[simp] theorem State.at_patchOk (t : Time) : (s.at t).patchOk = s.patchOk := rfl
@[simp] theorem State.at_checking (t : Time) : (s.at t).checking = s.checking := rfl
@[simp] theorem State.at_sealExp (t : Time) : (s.at t).sealExp = s.sealExp := rfl
@[simp] theorem State.at_sealSnap (t : Time) : (s.at t).sealSnap = s.sealSnap := rfl
@[simp] theorem State.at_sealFail (t : Time) : (s.at t).sealFail = s.sealFail := rfl
@[simp] theorem State.at_spdRun (t : Time) : (s.at t).spdRun = s.spdRun := rfl
@[simp] theorem State.at_qualLow (t : Time) : (s.at t).qualLow = s.qualLow := rfl
@[simp] theorem State.at_romFail (t : Time) : (s.at t).romFail = s.romFail := rfl
@[simp] theorem State.at_tempSeen (t : Time) : (s.at t).tempSeen = s.tempSeen := rfl
@[simp] theorem State.at_yew (t : Time) : (s.at t).yew = s.yew := rfl
@[simp] theorem State.at_yewPort (t : Time) : (s.at t).yewPort = s.yewPort := rfl
@[simp] theorem State.at_yewCfg (t : Time) : (s.at t).yewCfg = s.yewCfg := rfl
@[simp] theorem State.at_hq (t : Time) : (s.at t).hq = s.hq := rfl
@[simp] theorem State.at_cmpl (t : Time) : (s.at t).cmpl = s.cmpl := rfl
@[simp] theorem State.at_cmplWait (t : Time) : (s.at t).cmplWait = s.cmplWait := rfl
@[simp] theorem State.at_dropQ (t : Time) : (s.at t).dropQ = s.dropQ := rfl
@[simp] theorem State.at_hirqLow (t : Time) : (s.at t).hirqLow = s.hirqLow := rfl
@[simp] theorem State.at_hirqRose (t : Time) : (s.at t).hirqRose = s.hirqRose := rfl
@[simp] theorem State.at_mbox (t : Time) : (s.at t).mbox = s.mbox := rfl
@[simp] theorem State.at_nor (t : Time) : (s.at t).nor = s.nor := rfl
@[simp] theorem State.at_laurel (t : Time) : (s.at t).laurel = s.laurel := rfl
@[simp] theorem State.at_lanes (t : Time) : (s.at t).lanes = s.lanes := rfl
@[simp] theorem State.at_banks (t : Time) : (s.at t).banks = s.banks := rfl
@[simp] theorem State.at_pwm (t : Time) : (s.at t).pwm = s.pwm := rfl
@[simp] theorem State.at_eng (t : Time) : (s.at t).eng = s.eng := rfl
@[simp] theorem State.at_fbk (t : Time) : (s.at t).fbk = s.fbk := rfl
@[simp] theorem State.at_syncIn (t : Time) : (s.at t).syncIn = s.syncIn := rfl
@[simp] theorem State.at_syncOut (t : Time) : (s.at t).syncOut = s.syncOut := rfl
@[simp] theorem State.at_pose (t : Time) : (s.at t).pose = s.pose := rfl
@[simp] theorem State.at_imu (t : Time) : (s.at t).imu = s.imu := rfl
@[simp] theorem State.at_trav (t : Time) : (s.at t).trav = s.trav := rfl
@[simp] theorem State.at_fpe (t : Time) : (s.at t).fpe = s.fpe := rfl
@[simp] theorem State.at_gnss (t : Time) : (s.at t).gnss = s.gnss := rfl
@[simp] theorem State.at_time (t : Time) : (s.at t).time = s.time := rfl
@[simp] theorem State.at_map (t : Time) : (s.at t).map = s.map := rfl
@[simp] theorem State.at_ports (t : Time) : (s.at t).ports = s.ports := rfl
@[simp] theorem State.at_ring (t : Time) : (s.at t).ring = s.ring := rfl
@[simp] theorem State.at_rtime (t : Time) : (s.at t).rtime = s.rtime := rfl
@[simp] theorem State.at_rtun (t : Time) : (s.at t).rtun = s.rtun := rfl
@[simp] theorem State.at_hostTx (t : Time) : (s.at t).hostTx = s.hostTx := rfl
@[simp] theorem State.at_lastRead (t : Time) : (s.at t).lastRead = s.lastRead := rfl
@[simp] theorem State.at_tdo (t : Time) : (s.at t).tdo = s.tdo := rfl
@[simp] theorem State.at_extest (t : Time) : (s.at t).extest = s.extest := rfl

@[simp] theorem State.setReg_pending (a : Nat) (w : Word) : (s.setReg a w).pending = s.pending := rfl
@[simp] theorem State.setReg_now (a : Nat) (w : Word) : (s.setReg a w).now = s.now := rfl
@[simp] theorem State.setReg_member (a : Nat) (w : Word) : (s.setReg a w).member = s.member := rfl
@[simp] theorem State.setReg_dev (a : Nat) (w : Word) : (s.setReg a w).dev = s.dev := rfl
@[simp] theorem State.setReg_prev (a : Nat) (w : Word) : (s.setReg a w).prev = s.prev := rfl
@[simp] theorem State.setReg_devAt (a : Nat) (w : Word) : (s.setReg a w).devAt = s.devAt := rfl
@[simp] theorem State.setReg_devLog (a : Nat) (w : Word) : (s.setReg a w).devLog = s.devLog := rfl
@[simp] theorem State.setReg_frozen (a : Nat) (w : Word) : (s.setReg a w).frozen = s.frozen := rfl
@[simp] theorem State.setReg_held (a : Nat) (w : Word) : (s.setReg a w).held = s.held := rfl
@[simp] theorem State.setReg_freeIdx (a : Nat) (w : Word) : (s.setReg a w).freeIdx = s.freeIdx := rfl
@[simp] theorem State.setReg_firstSeen (a : Nat) (w : Word) : (s.setReg a w).firstSeen = s.firstSeen := rfl
@[simp] theorem State.setReg_pfail (a : Nat) (w : Word) : (s.setReg a w).pfail = s.pfail := rfl
@[simp] theorem State.setReg_pfailBalls (a : Nat) (w : Word) : (s.setReg a w).pfailBalls = s.pfailBalls := rfl
@[simp] theorem State.setReg_clockLost (a : Nat) (w : Word) : (s.setReg a w).clockLost = s.clockLost := rfl
@[simp] theorem State.setReg_supplySafe (a : Nat) (w : Word) : (s.setReg a w).supplySafe = s.supplySafe := rfl
@[simp] theorem State.setReg_inRange (a : Nat) (w : Word) : (s.setReg a w).inRange = s.inRange := rfl
@[simp] theorem State.setReg_idleDrain (a : Nat) (w : Word) : (s.setReg a w).idleDrain = s.idleDrain := rfl
@[simp] theorem State.setReg_ctrlDue (a : Nat) (w : Word) : (s.setReg a w).ctrlDue = s.ctrlDue := rfl
@[simp] theorem State.setReg_waking (a : Nat) (w : Word) : (s.setReg a w).waking = s.waking := rfl
@[simp] theorem State.setReg_patchOk (a : Nat) (w : Word) : (s.setReg a w).patchOk = s.patchOk := rfl
@[simp] theorem State.setReg_checking (a : Nat) (w : Word) : (s.setReg a w).checking = s.checking := rfl
@[simp] theorem State.setReg_sealExp (a : Nat) (w : Word) : (s.setReg a w).sealExp = s.sealExp := rfl
@[simp] theorem State.setReg_sealSnap (a : Nat) (w : Word) : (s.setReg a w).sealSnap = s.sealSnap := rfl
@[simp] theorem State.setReg_sealFail (a : Nat) (w : Word) : (s.setReg a w).sealFail = s.sealFail := rfl
@[simp] theorem State.setReg_spdRun (a : Nat) (w : Word) : (s.setReg a w).spdRun = s.spdRun := rfl
@[simp] theorem State.setReg_qualLow (a : Nat) (w : Word) : (s.setReg a w).qualLow = s.qualLow := rfl
@[simp] theorem State.setReg_romFail (a : Nat) (w : Word) : (s.setReg a w).romFail = s.romFail := rfl
@[simp] theorem State.setReg_tempSeen (a : Nat) (w : Word) : (s.setReg a w).tempSeen = s.tempSeen := rfl
@[simp] theorem State.setReg_yew (a : Nat) (w : Word) : (s.setReg a w).yew = s.yew := rfl
@[simp] theorem State.setReg_yewPort (a : Nat) (w : Word) : (s.setReg a w).yewPort = s.yewPort := rfl
@[simp] theorem State.setReg_yewCfg (a : Nat) (w : Word) : (s.setReg a w).yewCfg = s.yewCfg := rfl
@[simp] theorem State.setReg_hq (a : Nat) (w : Word) : (s.setReg a w).hq = s.hq := rfl
@[simp] theorem State.setReg_cmpl (a : Nat) (w : Word) : (s.setReg a w).cmpl = s.cmpl := rfl
@[simp] theorem State.setReg_cmplWait (a : Nat) (w : Word) : (s.setReg a w).cmplWait = s.cmplWait := rfl
@[simp] theorem State.setReg_dropQ (a : Nat) (w : Word) : (s.setReg a w).dropQ = s.dropQ := rfl
@[simp] theorem State.setReg_hirqLow (a : Nat) (w : Word) : (s.setReg a w).hirqLow = s.hirqLow := rfl
@[simp] theorem State.setReg_hirqRose (a : Nat) (w : Word) : (s.setReg a w).hirqRose = s.hirqRose := rfl
@[simp] theorem State.setReg_mbox (a : Nat) (w : Word) : (s.setReg a w).mbox = s.mbox := rfl
@[simp] theorem State.setReg_nor (a : Nat) (w : Word) : (s.setReg a w).nor = s.nor := rfl
@[simp] theorem State.setReg_laurel (a : Nat) (w : Word) : (s.setReg a w).laurel = s.laurel := rfl
@[simp] theorem State.setReg_lanes (a : Nat) (w : Word) : (s.setReg a w).lanes = s.lanes := rfl
@[simp] theorem State.setReg_banks (a : Nat) (w : Word) : (s.setReg a w).banks = s.banks := rfl
@[simp] theorem State.setReg_pwm (a : Nat) (w : Word) : (s.setReg a w).pwm = s.pwm := rfl
@[simp] theorem State.setReg_eng (a : Nat) (w : Word) : (s.setReg a w).eng = s.eng := rfl
@[simp] theorem State.setReg_fbk (a : Nat) (w : Word) : (s.setReg a w).fbk = s.fbk := rfl
@[simp] theorem State.setReg_syncIn (a : Nat) (w : Word) : (s.setReg a w).syncIn = s.syncIn := rfl
@[simp] theorem State.setReg_syncOut (a : Nat) (w : Word) : (s.setReg a w).syncOut = s.syncOut := rfl
@[simp] theorem State.setReg_pose (a : Nat) (w : Word) : (s.setReg a w).pose = s.pose := rfl
@[simp] theorem State.setReg_imu (a : Nat) (w : Word) : (s.setReg a w).imu = s.imu := rfl
@[simp] theorem State.setReg_trav (a : Nat) (w : Word) : (s.setReg a w).trav = s.trav := rfl
@[simp] theorem State.setReg_fpe (a : Nat) (w : Word) : (s.setReg a w).fpe = s.fpe := rfl
@[simp] theorem State.setReg_gnss (a : Nat) (w : Word) : (s.setReg a w).gnss = s.gnss := rfl
@[simp] theorem State.setReg_time (a : Nat) (w : Word) : (s.setReg a w).time = s.time := rfl
@[simp] theorem State.setReg_map (a : Nat) (w : Word) : (s.setReg a w).map = s.map := rfl
@[simp] theorem State.setReg_ports (a : Nat) (w : Word) : (s.setReg a w).ports = s.ports := rfl
@[simp] theorem State.setReg_ring (a : Nat) (w : Word) : (s.setReg a w).ring = s.ring := rfl
@[simp] theorem State.setReg_rtime (a : Nat) (w : Word) : (s.setReg a w).rtime = s.rtime := rfl
@[simp] theorem State.setReg_rtun (a : Nat) (w : Word) : (s.setReg a w).rtun = s.rtun := rfl
@[simp] theorem State.setReg_hostTx (a : Nat) (w : Word) : (s.setReg a w).hostTx = s.hostTx := rfl
@[simp] theorem State.setReg_lastRead (a : Nat) (w : Word) : (s.setReg a w).lastRead = s.lastRead := rfl
@[simp] theorem State.setReg_tdo (a : Nat) (w : Word) : (s.setReg a w).tdo = s.tdo := rfl
@[simp] theorem State.setReg_extest (a : Nat) (w : Word) : (s.setReg a w).extest = s.extest := rfl

@[simp] theorem State.setFld_pending (f : Fld) (v : Nat) : (s.setFld f v).pending = s.pending := rfl
@[simp] theorem State.setFld_now (f : Fld) (v : Nat) : (s.setFld f v).now = s.now := rfl
@[simp] theorem State.setFld_member (f : Fld) (v : Nat) : (s.setFld f v).member = s.member := rfl
@[simp] theorem State.setFld_dev (f : Fld) (v : Nat) : (s.setFld f v).dev = s.dev := rfl
@[simp] theorem State.setFld_prev (f : Fld) (v : Nat) : (s.setFld f v).prev = s.prev := rfl
@[simp] theorem State.setFld_devAt (f : Fld) (v : Nat) : (s.setFld f v).devAt = s.devAt := rfl
@[simp] theorem State.setFld_devLog (f : Fld) (v : Nat) : (s.setFld f v).devLog = s.devLog := rfl
@[simp] theorem State.setFld_frozen (f : Fld) (v : Nat) : (s.setFld f v).frozen = s.frozen := rfl
@[simp] theorem State.setFld_held (f : Fld) (v : Nat) : (s.setFld f v).held = s.held := rfl
@[simp] theorem State.setFld_freeIdx (f : Fld) (v : Nat) : (s.setFld f v).freeIdx = s.freeIdx := rfl
@[simp] theorem State.setFld_firstSeen (f : Fld) (v : Nat) : (s.setFld f v).firstSeen = s.firstSeen := rfl
@[simp] theorem State.setFld_pfail (f : Fld) (v : Nat) : (s.setFld f v).pfail = s.pfail := rfl
@[simp] theorem State.setFld_pfailBalls (f : Fld) (v : Nat) : (s.setFld f v).pfailBalls = s.pfailBalls := rfl
@[simp] theorem State.setFld_clockLost (f : Fld) (v : Nat) : (s.setFld f v).clockLost = s.clockLost := rfl
@[simp] theorem State.setFld_supplySafe (f : Fld) (v : Nat) : (s.setFld f v).supplySafe = s.supplySafe := rfl
@[simp] theorem State.setFld_inRange (f : Fld) (v : Nat) : (s.setFld f v).inRange = s.inRange := rfl
@[simp] theorem State.setFld_idleDrain (f : Fld) (v : Nat) : (s.setFld f v).idleDrain = s.idleDrain := rfl
@[simp] theorem State.setFld_ctrlDue (f : Fld) (v : Nat) : (s.setFld f v).ctrlDue = s.ctrlDue := rfl
@[simp] theorem State.setFld_waking (f : Fld) (v : Nat) : (s.setFld f v).waking = s.waking := rfl
@[simp] theorem State.setFld_patchOk (f : Fld) (v : Nat) : (s.setFld f v).patchOk = s.patchOk := rfl
@[simp] theorem State.setFld_checking (f : Fld) (v : Nat) : (s.setFld f v).checking = s.checking := rfl
@[simp] theorem State.setFld_sealExp (f : Fld) (v : Nat) : (s.setFld f v).sealExp = s.sealExp := rfl
@[simp] theorem State.setFld_sealSnap (f : Fld) (v : Nat) : (s.setFld f v).sealSnap = s.sealSnap := rfl
@[simp] theorem State.setFld_sealFail (f : Fld) (v : Nat) : (s.setFld f v).sealFail = s.sealFail := rfl
@[simp] theorem State.setFld_spdRun (f : Fld) (v : Nat) : (s.setFld f v).spdRun = s.spdRun := rfl
@[simp] theorem State.setFld_qualLow (f : Fld) (v : Nat) : (s.setFld f v).qualLow = s.qualLow := rfl
@[simp] theorem State.setFld_romFail (f : Fld) (v : Nat) : (s.setFld f v).romFail = s.romFail := rfl
@[simp] theorem State.setFld_tempSeen (f : Fld) (v : Nat) : (s.setFld f v).tempSeen = s.tempSeen := rfl
@[simp] theorem State.setFld_yew (f : Fld) (v : Nat) : (s.setFld f v).yew = s.yew := rfl
@[simp] theorem State.setFld_yewPort (f : Fld) (v : Nat) : (s.setFld f v).yewPort = s.yewPort := rfl
@[simp] theorem State.setFld_yewCfg (f : Fld) (v : Nat) : (s.setFld f v).yewCfg = s.yewCfg := rfl
@[simp] theorem State.setFld_hq (f : Fld) (v : Nat) : (s.setFld f v).hq = s.hq := rfl
@[simp] theorem State.setFld_cmpl (f : Fld) (v : Nat) : (s.setFld f v).cmpl = s.cmpl := rfl
@[simp] theorem State.setFld_cmplWait (f : Fld) (v : Nat) : (s.setFld f v).cmplWait = s.cmplWait := rfl
@[simp] theorem State.setFld_dropQ (f : Fld) (v : Nat) : (s.setFld f v).dropQ = s.dropQ := rfl
@[simp] theorem State.setFld_hirqLow (f : Fld) (v : Nat) : (s.setFld f v).hirqLow = s.hirqLow := rfl
@[simp] theorem State.setFld_hirqRose (f : Fld) (v : Nat) : (s.setFld f v).hirqRose = s.hirqRose := rfl
@[simp] theorem State.setFld_mbox (f : Fld) (v : Nat) : (s.setFld f v).mbox = s.mbox := rfl
@[simp] theorem State.setFld_nor (f : Fld) (v : Nat) : (s.setFld f v).nor = s.nor := rfl
@[simp] theorem State.setFld_laurel (f : Fld) (v : Nat) : (s.setFld f v).laurel = s.laurel := rfl
@[simp] theorem State.setFld_lanes (f : Fld) (v : Nat) : (s.setFld f v).lanes = s.lanes := rfl
@[simp] theorem State.setFld_banks (f : Fld) (v : Nat) : (s.setFld f v).banks = s.banks := rfl
@[simp] theorem State.setFld_pwm (f : Fld) (v : Nat) : (s.setFld f v).pwm = s.pwm := rfl
@[simp] theorem State.setFld_eng (f : Fld) (v : Nat) : (s.setFld f v).eng = s.eng := rfl
@[simp] theorem State.setFld_fbk (f : Fld) (v : Nat) : (s.setFld f v).fbk = s.fbk := rfl
@[simp] theorem State.setFld_syncIn (f : Fld) (v : Nat) : (s.setFld f v).syncIn = s.syncIn := rfl
@[simp] theorem State.setFld_syncOut (f : Fld) (v : Nat) : (s.setFld f v).syncOut = s.syncOut := rfl
@[simp] theorem State.setFld_pose (f : Fld) (v : Nat) : (s.setFld f v).pose = s.pose := rfl
@[simp] theorem State.setFld_imu (f : Fld) (v : Nat) : (s.setFld f v).imu = s.imu := rfl
@[simp] theorem State.setFld_trav (f : Fld) (v : Nat) : (s.setFld f v).trav = s.trav := rfl
@[simp] theorem State.setFld_fpe (f : Fld) (v : Nat) : (s.setFld f v).fpe = s.fpe := rfl
@[simp] theorem State.setFld_gnss (f : Fld) (v : Nat) : (s.setFld f v).gnss = s.gnss := rfl
@[simp] theorem State.setFld_time (f : Fld) (v : Nat) : (s.setFld f v).time = s.time := rfl
@[simp] theorem State.setFld_map (f : Fld) (v : Nat) : (s.setFld f v).map = s.map := rfl
@[simp] theorem State.setFld_ports (f : Fld) (v : Nat) : (s.setFld f v).ports = s.ports := rfl
@[simp] theorem State.setFld_ring (f : Fld) (v : Nat) : (s.setFld f v).ring = s.ring := rfl
@[simp] theorem State.setFld_rtime (f : Fld) (v : Nat) : (s.setFld f v).rtime = s.rtime := rfl
@[simp] theorem State.setFld_rtun (f : Fld) (v : Nat) : (s.setFld f v).rtun = s.rtun := rfl
@[simp] theorem State.setFld_hostTx (f : Fld) (v : Nat) : (s.setFld f v).hostTx = s.hostTx := rfl
@[simp] theorem State.setFld_lastRead (f : Fld) (v : Nat) : (s.setFld f v).lastRead = s.lastRead := rfl
@[simp] theorem State.setFld_tdo (f : Fld) (v : Nat) : (s.setFld f v).tdo = s.tdo := rfl
@[simp] theorem State.setFld_extest (f : Fld) (v : Nat) : (s.setFld f v).extest = s.extest := rfl

@[simp] theorem State.bump_pending (f : Fld) (n : Nat) : (s.bump f n).pending = s.pending := rfl
@[simp] theorem State.bump_now (f : Fld) (n : Nat) : (s.bump f n).now = s.now := rfl
@[simp] theorem State.bump_member (f : Fld) (n : Nat) : (s.bump f n).member = s.member := rfl
@[simp] theorem State.bump_dev (f : Fld) (n : Nat) : (s.bump f n).dev = s.dev := rfl
@[simp] theorem State.bump_prev (f : Fld) (n : Nat) : (s.bump f n).prev = s.prev := rfl
@[simp] theorem State.bump_devAt (f : Fld) (n : Nat) : (s.bump f n).devAt = s.devAt := rfl
@[simp] theorem State.bump_devLog (f : Fld) (n : Nat) : (s.bump f n).devLog = s.devLog := rfl
@[simp] theorem State.bump_frozen (f : Fld) (n : Nat) : (s.bump f n).frozen = s.frozen := rfl
@[simp] theorem State.bump_held (f : Fld) (n : Nat) : (s.bump f n).held = s.held := rfl
@[simp] theorem State.bump_freeIdx (f : Fld) (n : Nat) : (s.bump f n).freeIdx = s.freeIdx := rfl
@[simp] theorem State.bump_firstSeen (f : Fld) (n : Nat) : (s.bump f n).firstSeen = s.firstSeen := rfl
@[simp] theorem State.bump_pfail (f : Fld) (n : Nat) : (s.bump f n).pfail = s.pfail := rfl
@[simp] theorem State.bump_pfailBalls (f : Fld) (n : Nat) : (s.bump f n).pfailBalls = s.pfailBalls := rfl
@[simp] theorem State.bump_clockLost (f : Fld) (n : Nat) : (s.bump f n).clockLost = s.clockLost := rfl
@[simp] theorem State.bump_supplySafe (f : Fld) (n : Nat) : (s.bump f n).supplySafe = s.supplySafe := rfl
@[simp] theorem State.bump_inRange (f : Fld) (n : Nat) : (s.bump f n).inRange = s.inRange := rfl
@[simp] theorem State.bump_idleDrain (f : Fld) (n : Nat) : (s.bump f n).idleDrain = s.idleDrain := rfl
@[simp] theorem State.bump_ctrlDue (f : Fld) (n : Nat) : (s.bump f n).ctrlDue = s.ctrlDue := rfl
@[simp] theorem State.bump_waking (f : Fld) (n : Nat) : (s.bump f n).waking = s.waking := rfl
@[simp] theorem State.bump_patchOk (f : Fld) (n : Nat) : (s.bump f n).patchOk = s.patchOk := rfl
@[simp] theorem State.bump_checking (f : Fld) (n : Nat) : (s.bump f n).checking = s.checking := rfl
@[simp] theorem State.bump_sealExp (f : Fld) (n : Nat) : (s.bump f n).sealExp = s.sealExp := rfl
@[simp] theorem State.bump_sealSnap (f : Fld) (n : Nat) : (s.bump f n).sealSnap = s.sealSnap := rfl
@[simp] theorem State.bump_sealFail (f : Fld) (n : Nat) : (s.bump f n).sealFail = s.sealFail := rfl
@[simp] theorem State.bump_spdRun (f : Fld) (n : Nat) : (s.bump f n).spdRun = s.spdRun := rfl
@[simp] theorem State.bump_qualLow (f : Fld) (n : Nat) : (s.bump f n).qualLow = s.qualLow := rfl
@[simp] theorem State.bump_romFail (f : Fld) (n : Nat) : (s.bump f n).romFail = s.romFail := rfl
@[simp] theorem State.bump_tempSeen (f : Fld) (n : Nat) : (s.bump f n).tempSeen = s.tempSeen := rfl
@[simp] theorem State.bump_yew (f : Fld) (n : Nat) : (s.bump f n).yew = s.yew := rfl
@[simp] theorem State.bump_yewPort (f : Fld) (n : Nat) : (s.bump f n).yewPort = s.yewPort := rfl
@[simp] theorem State.bump_yewCfg (f : Fld) (n : Nat) : (s.bump f n).yewCfg = s.yewCfg := rfl
@[simp] theorem State.bump_hq (f : Fld) (n : Nat) : (s.bump f n).hq = s.hq := rfl
@[simp] theorem State.bump_cmpl (f : Fld) (n : Nat) : (s.bump f n).cmpl = s.cmpl := rfl
@[simp] theorem State.bump_cmplWait (f : Fld) (n : Nat) : (s.bump f n).cmplWait = s.cmplWait := rfl
@[simp] theorem State.bump_dropQ (f : Fld) (n : Nat) : (s.bump f n).dropQ = s.dropQ := rfl
@[simp] theorem State.bump_hirqLow (f : Fld) (n : Nat) : (s.bump f n).hirqLow = s.hirqLow := rfl
@[simp] theorem State.bump_hirqRose (f : Fld) (n : Nat) : (s.bump f n).hirqRose = s.hirqRose := rfl
@[simp] theorem State.bump_mbox (f : Fld) (n : Nat) : (s.bump f n).mbox = s.mbox := rfl
@[simp] theorem State.bump_nor (f : Fld) (n : Nat) : (s.bump f n).nor = s.nor := rfl
@[simp] theorem State.bump_laurel (f : Fld) (n : Nat) : (s.bump f n).laurel = s.laurel := rfl
@[simp] theorem State.bump_lanes (f : Fld) (n : Nat) : (s.bump f n).lanes = s.lanes := rfl
@[simp] theorem State.bump_banks (f : Fld) (n : Nat) : (s.bump f n).banks = s.banks := rfl
@[simp] theorem State.bump_pwm (f : Fld) (n : Nat) : (s.bump f n).pwm = s.pwm := rfl
@[simp] theorem State.bump_eng (f : Fld) (n : Nat) : (s.bump f n).eng = s.eng := rfl
@[simp] theorem State.bump_fbk (f : Fld) (n : Nat) : (s.bump f n).fbk = s.fbk := rfl
@[simp] theorem State.bump_syncIn (f : Fld) (n : Nat) : (s.bump f n).syncIn = s.syncIn := rfl
@[simp] theorem State.bump_syncOut (f : Fld) (n : Nat) : (s.bump f n).syncOut = s.syncOut := rfl
@[simp] theorem State.bump_pose (f : Fld) (n : Nat) : (s.bump f n).pose = s.pose := rfl
@[simp] theorem State.bump_imu (f : Fld) (n : Nat) : (s.bump f n).imu = s.imu := rfl
@[simp] theorem State.bump_trav (f : Fld) (n : Nat) : (s.bump f n).trav = s.trav := rfl
@[simp] theorem State.bump_fpe (f : Fld) (n : Nat) : (s.bump f n).fpe = s.fpe := rfl
@[simp] theorem State.bump_gnss (f : Fld) (n : Nat) : (s.bump f n).gnss = s.gnss := rfl
@[simp] theorem State.bump_time (f : Fld) (n : Nat) : (s.bump f n).time = s.time := rfl
@[simp] theorem State.bump_map (f : Fld) (n : Nat) : (s.bump f n).map = s.map := rfl
@[simp] theorem State.bump_ports (f : Fld) (n : Nat) : (s.bump f n).ports = s.ports := rfl
@[simp] theorem State.bump_ring (f : Fld) (n : Nat) : (s.bump f n).ring = s.ring := rfl
@[simp] theorem State.bump_rtime (f : Fld) (n : Nat) : (s.bump f n).rtime = s.rtime := rfl
@[simp] theorem State.bump_rtun (f : Fld) (n : Nat) : (s.bump f n).rtun = s.rtun := rfl
@[simp] theorem State.bump_hostTx (f : Fld) (n : Nat) : (s.bump f n).hostTx = s.hostTx := rfl
@[simp] theorem State.bump_lastRead (f : Fld) (n : Nat) : (s.bump f n).lastRead = s.lastRead := rfl
@[simp] theorem State.bump_tdo (f : Fld) (n : Nat) : (s.bump f n).tdo = s.tdo := rfl
@[simp] theorem State.bump_extest (f : Fld) (n : Nat) : (s.bump f n).extest = s.extest := rfl

@[simp] theorem State.keepMax_pending (f : Fld) (n : Nat) : (s.keepMax f n).pending = s.pending := rfl
@[simp] theorem State.keepMax_now (f : Fld) (n : Nat) : (s.keepMax f n).now = s.now := rfl
@[simp] theorem State.keepMax_member (f : Fld) (n : Nat) : (s.keepMax f n).member = s.member := rfl
@[simp] theorem State.keepMax_dev (f : Fld) (n : Nat) : (s.keepMax f n).dev = s.dev := rfl
@[simp] theorem State.keepMax_prev (f : Fld) (n : Nat) : (s.keepMax f n).prev = s.prev := rfl
@[simp] theorem State.keepMax_devAt (f : Fld) (n : Nat) : (s.keepMax f n).devAt = s.devAt := rfl
@[simp] theorem State.keepMax_devLog (f : Fld) (n : Nat) : (s.keepMax f n).devLog = s.devLog := rfl
@[simp] theorem State.keepMax_frozen (f : Fld) (n : Nat) : (s.keepMax f n).frozen = s.frozen := rfl
@[simp] theorem State.keepMax_held (f : Fld) (n : Nat) : (s.keepMax f n).held = s.held := rfl
@[simp] theorem State.keepMax_freeIdx (f : Fld) (n : Nat) : (s.keepMax f n).freeIdx = s.freeIdx := rfl
@[simp] theorem State.keepMax_firstSeen (f : Fld) (n : Nat) : (s.keepMax f n).firstSeen = s.firstSeen := rfl
@[simp] theorem State.keepMax_pfail (f : Fld) (n : Nat) : (s.keepMax f n).pfail = s.pfail := rfl
@[simp] theorem State.keepMax_pfailBalls (f : Fld) (n : Nat) : (s.keepMax f n).pfailBalls = s.pfailBalls := rfl
@[simp] theorem State.keepMax_clockLost (f : Fld) (n : Nat) : (s.keepMax f n).clockLost = s.clockLost := rfl
@[simp] theorem State.keepMax_supplySafe (f : Fld) (n : Nat) : (s.keepMax f n).supplySafe = s.supplySafe := rfl
@[simp] theorem State.keepMax_inRange (f : Fld) (n : Nat) : (s.keepMax f n).inRange = s.inRange := rfl
@[simp] theorem State.keepMax_idleDrain (f : Fld) (n : Nat) : (s.keepMax f n).idleDrain = s.idleDrain := rfl
@[simp] theorem State.keepMax_ctrlDue (f : Fld) (n : Nat) : (s.keepMax f n).ctrlDue = s.ctrlDue := rfl
@[simp] theorem State.keepMax_waking (f : Fld) (n : Nat) : (s.keepMax f n).waking = s.waking := rfl
@[simp] theorem State.keepMax_patchOk (f : Fld) (n : Nat) : (s.keepMax f n).patchOk = s.patchOk := rfl
@[simp] theorem State.keepMax_checking (f : Fld) (n : Nat) : (s.keepMax f n).checking = s.checking := rfl
@[simp] theorem State.keepMax_sealExp (f : Fld) (n : Nat) : (s.keepMax f n).sealExp = s.sealExp := rfl
@[simp] theorem State.keepMax_sealSnap (f : Fld) (n : Nat) : (s.keepMax f n).sealSnap = s.sealSnap := rfl
@[simp] theorem State.keepMax_sealFail (f : Fld) (n : Nat) : (s.keepMax f n).sealFail = s.sealFail := rfl
@[simp] theorem State.keepMax_spdRun (f : Fld) (n : Nat) : (s.keepMax f n).spdRun = s.spdRun := rfl
@[simp] theorem State.keepMax_qualLow (f : Fld) (n : Nat) : (s.keepMax f n).qualLow = s.qualLow := rfl
@[simp] theorem State.keepMax_romFail (f : Fld) (n : Nat) : (s.keepMax f n).romFail = s.romFail := rfl
@[simp] theorem State.keepMax_tempSeen (f : Fld) (n : Nat) : (s.keepMax f n).tempSeen = s.tempSeen := rfl
@[simp] theorem State.keepMax_yew (f : Fld) (n : Nat) : (s.keepMax f n).yew = s.yew := rfl
@[simp] theorem State.keepMax_yewPort (f : Fld) (n : Nat) : (s.keepMax f n).yewPort = s.yewPort := rfl
@[simp] theorem State.keepMax_yewCfg (f : Fld) (n : Nat) : (s.keepMax f n).yewCfg = s.yewCfg := rfl
@[simp] theorem State.keepMax_hq (f : Fld) (n : Nat) : (s.keepMax f n).hq = s.hq := rfl
@[simp] theorem State.keepMax_cmpl (f : Fld) (n : Nat) : (s.keepMax f n).cmpl = s.cmpl := rfl
@[simp] theorem State.keepMax_cmplWait (f : Fld) (n : Nat) : (s.keepMax f n).cmplWait = s.cmplWait := rfl
@[simp] theorem State.keepMax_dropQ (f : Fld) (n : Nat) : (s.keepMax f n).dropQ = s.dropQ := rfl
@[simp] theorem State.keepMax_hirqLow (f : Fld) (n : Nat) : (s.keepMax f n).hirqLow = s.hirqLow := rfl
@[simp] theorem State.keepMax_hirqRose (f : Fld) (n : Nat) : (s.keepMax f n).hirqRose = s.hirqRose := rfl
@[simp] theorem State.keepMax_mbox (f : Fld) (n : Nat) : (s.keepMax f n).mbox = s.mbox := rfl
@[simp] theorem State.keepMax_nor (f : Fld) (n : Nat) : (s.keepMax f n).nor = s.nor := rfl
@[simp] theorem State.keepMax_laurel (f : Fld) (n : Nat) : (s.keepMax f n).laurel = s.laurel := rfl
@[simp] theorem State.keepMax_lanes (f : Fld) (n : Nat) : (s.keepMax f n).lanes = s.lanes := rfl
@[simp] theorem State.keepMax_banks (f : Fld) (n : Nat) : (s.keepMax f n).banks = s.banks := rfl
@[simp] theorem State.keepMax_pwm (f : Fld) (n : Nat) : (s.keepMax f n).pwm = s.pwm := rfl
@[simp] theorem State.keepMax_eng (f : Fld) (n : Nat) : (s.keepMax f n).eng = s.eng := rfl
@[simp] theorem State.keepMax_fbk (f : Fld) (n : Nat) : (s.keepMax f n).fbk = s.fbk := rfl
@[simp] theorem State.keepMax_syncIn (f : Fld) (n : Nat) : (s.keepMax f n).syncIn = s.syncIn := rfl
@[simp] theorem State.keepMax_syncOut (f : Fld) (n : Nat) : (s.keepMax f n).syncOut = s.syncOut := rfl
@[simp] theorem State.keepMax_pose (f : Fld) (n : Nat) : (s.keepMax f n).pose = s.pose := rfl
@[simp] theorem State.keepMax_imu (f : Fld) (n : Nat) : (s.keepMax f n).imu = s.imu := rfl
@[simp] theorem State.keepMax_trav (f : Fld) (n : Nat) : (s.keepMax f n).trav = s.trav := rfl
@[simp] theorem State.keepMax_fpe (f : Fld) (n : Nat) : (s.keepMax f n).fpe = s.fpe := rfl
@[simp] theorem State.keepMax_gnss (f : Fld) (n : Nat) : (s.keepMax f n).gnss = s.gnss := rfl
@[simp] theorem State.keepMax_time (f : Fld) (n : Nat) : (s.keepMax f n).time = s.time := rfl
@[simp] theorem State.keepMax_map (f : Fld) (n : Nat) : (s.keepMax f n).map = s.map := rfl
@[simp] theorem State.keepMax_ports (f : Fld) (n : Nat) : (s.keepMax f n).ports = s.ports := rfl
@[simp] theorem State.keepMax_ring (f : Fld) (n : Nat) : (s.keepMax f n).ring = s.ring := rfl
@[simp] theorem State.keepMax_rtime (f : Fld) (n : Nat) : (s.keepMax f n).rtime = s.rtime := rfl
@[simp] theorem State.keepMax_rtun (f : Fld) (n : Nat) : (s.keepMax f n).rtun = s.rtun := rfl
@[simp] theorem State.keepMax_hostTx (f : Fld) (n : Nat) : (s.keepMax f n).hostTx = s.hostTx := rfl
@[simp] theorem State.keepMax_lastRead (f : Fld) (n : Nat) : (s.keepMax f n).lastRead = s.lastRead := rfl
@[simp] theorem State.keepMax_tdo (f : Fld) (n : Nat) : (s.keepMax f n).tdo = s.tdo := rfl
@[simp] theorem State.keepMax_extest (f : Fld) (n : Nat) : (s.keepMax f n).extest = s.extest := rfl

@[simp] theorem State.count_pending (a n : Nat) : (s.count a n).pending = s.pending := rfl
@[simp] theorem State.count_now (a n : Nat) : (s.count a n).now = s.now := rfl
@[simp] theorem State.count_member (a n : Nat) : (s.count a n).member = s.member := rfl
@[simp] theorem State.count_dev (a n : Nat) : (s.count a n).dev = s.dev := rfl
@[simp] theorem State.count_prev (a n : Nat) : (s.count a n).prev = s.prev := rfl
@[simp] theorem State.count_devAt (a n : Nat) : (s.count a n).devAt = s.devAt := rfl
@[simp] theorem State.count_devLog (a n : Nat) : (s.count a n).devLog = s.devLog := rfl
@[simp] theorem State.count_frozen (a n : Nat) : (s.count a n).frozen = s.frozen := rfl
@[simp] theorem State.count_held (a n : Nat) : (s.count a n).held = s.held := rfl
@[simp] theorem State.count_freeIdx (a n : Nat) : (s.count a n).freeIdx = s.freeIdx := rfl
@[simp] theorem State.count_firstSeen (a n : Nat) : (s.count a n).firstSeen = s.firstSeen := rfl
@[simp] theorem State.count_pfail (a n : Nat) : (s.count a n).pfail = s.pfail := rfl
@[simp] theorem State.count_pfailBalls (a n : Nat) : (s.count a n).pfailBalls = s.pfailBalls := rfl
@[simp] theorem State.count_clockLost (a n : Nat) : (s.count a n).clockLost = s.clockLost := rfl
@[simp] theorem State.count_supplySafe (a n : Nat) : (s.count a n).supplySafe = s.supplySafe := rfl
@[simp] theorem State.count_inRange (a n : Nat) : (s.count a n).inRange = s.inRange := rfl
@[simp] theorem State.count_idleDrain (a n : Nat) : (s.count a n).idleDrain = s.idleDrain := rfl
@[simp] theorem State.count_ctrlDue (a n : Nat) : (s.count a n).ctrlDue = s.ctrlDue := rfl
@[simp] theorem State.count_waking (a n : Nat) : (s.count a n).waking = s.waking := rfl
@[simp] theorem State.count_patchOk (a n : Nat) : (s.count a n).patchOk = s.patchOk := rfl
@[simp] theorem State.count_checking (a n : Nat) : (s.count a n).checking = s.checking := rfl
@[simp] theorem State.count_sealExp (a n : Nat) : (s.count a n).sealExp = s.sealExp := rfl
@[simp] theorem State.count_sealSnap (a n : Nat) : (s.count a n).sealSnap = s.sealSnap := rfl
@[simp] theorem State.count_sealFail (a n : Nat) : (s.count a n).sealFail = s.sealFail := rfl
@[simp] theorem State.count_spdRun (a n : Nat) : (s.count a n).spdRun = s.spdRun := rfl
@[simp] theorem State.count_qualLow (a n : Nat) : (s.count a n).qualLow = s.qualLow := rfl
@[simp] theorem State.count_romFail (a n : Nat) : (s.count a n).romFail = s.romFail := rfl
@[simp] theorem State.count_tempSeen (a n : Nat) : (s.count a n).tempSeen = s.tempSeen := rfl
@[simp] theorem State.count_yew (a n : Nat) : (s.count a n).yew = s.yew := rfl
@[simp] theorem State.count_yewPort (a n : Nat) : (s.count a n).yewPort = s.yewPort := rfl
@[simp] theorem State.count_yewCfg (a n : Nat) : (s.count a n).yewCfg = s.yewCfg := rfl
@[simp] theorem State.count_hq (a n : Nat) : (s.count a n).hq = s.hq := rfl
@[simp] theorem State.count_cmpl (a n : Nat) : (s.count a n).cmpl = s.cmpl := rfl
@[simp] theorem State.count_cmplWait (a n : Nat) : (s.count a n).cmplWait = s.cmplWait := rfl
@[simp] theorem State.count_dropQ (a n : Nat) : (s.count a n).dropQ = s.dropQ := rfl
@[simp] theorem State.count_hirqLow (a n : Nat) : (s.count a n).hirqLow = s.hirqLow := rfl
@[simp] theorem State.count_hirqRose (a n : Nat) : (s.count a n).hirqRose = s.hirqRose := rfl
@[simp] theorem State.count_mbox (a n : Nat) : (s.count a n).mbox = s.mbox := rfl
@[simp] theorem State.count_nor (a n : Nat) : (s.count a n).nor = s.nor := rfl
@[simp] theorem State.count_laurel (a n : Nat) : (s.count a n).laurel = s.laurel := rfl
@[simp] theorem State.count_lanes (a n : Nat) : (s.count a n).lanes = s.lanes := rfl
@[simp] theorem State.count_banks (a n : Nat) : (s.count a n).banks = s.banks := rfl
@[simp] theorem State.count_pwm (a n : Nat) : (s.count a n).pwm = s.pwm := rfl
@[simp] theorem State.count_eng (a n : Nat) : (s.count a n).eng = s.eng := rfl
@[simp] theorem State.count_fbk (a n : Nat) : (s.count a n).fbk = s.fbk := rfl
@[simp] theorem State.count_syncIn (a n : Nat) : (s.count a n).syncIn = s.syncIn := rfl
@[simp] theorem State.count_syncOut (a n : Nat) : (s.count a n).syncOut = s.syncOut := rfl
@[simp] theorem State.count_pose (a n : Nat) : (s.count a n).pose = s.pose := rfl
@[simp] theorem State.count_imu (a n : Nat) : (s.count a n).imu = s.imu := rfl
@[simp] theorem State.count_trav (a n : Nat) : (s.count a n).trav = s.trav := rfl
@[simp] theorem State.count_fpe (a n : Nat) : (s.count a n).fpe = s.fpe := rfl
@[simp] theorem State.count_gnss (a n : Nat) : (s.count a n).gnss = s.gnss := rfl
@[simp] theorem State.count_time (a n : Nat) : (s.count a n).time = s.time := rfl
@[simp] theorem State.count_map (a n : Nat) : (s.count a n).map = s.map := rfl
@[simp] theorem State.count_ports (a n : Nat) : (s.count a n).ports = s.ports := rfl
@[simp] theorem State.count_ring (a n : Nat) : (s.count a n).ring = s.ring := rfl
@[simp] theorem State.count_rtime (a n : Nat) : (s.count a n).rtime = s.rtime := rfl
@[simp] theorem State.count_rtun (a n : Nat) : (s.count a n).rtun = s.rtun := rfl
@[simp] theorem State.count_hostTx (a n : Nat) : (s.count a n).hostTx = s.hostTx := rfl
@[simp] theorem State.count_lastRead (a n : Nat) : (s.count a n).lastRead = s.lastRead := rfl
@[simp] theorem State.count_tdo (a n : Nat) : (s.count a n).tdo = s.tdo := rfl
@[simp] theorem State.count_extest (a n : Nat) : (s.count a n).extest = s.extest := rfl

@[simp] theorem State.bumpReg_pending (a n : Nat) : (s.bumpReg a n).pending = s.pending := rfl
@[simp] theorem State.bumpReg_now (a n : Nat) : (s.bumpReg a n).now = s.now := rfl
@[simp] theorem State.bumpReg_member (a n : Nat) : (s.bumpReg a n).member = s.member := rfl
@[simp] theorem State.bumpReg_dev (a n : Nat) : (s.bumpReg a n).dev = s.dev := rfl
@[simp] theorem State.bumpReg_prev (a n : Nat) : (s.bumpReg a n).prev = s.prev := rfl
@[simp] theorem State.bumpReg_devAt (a n : Nat) : (s.bumpReg a n).devAt = s.devAt := rfl
@[simp] theorem State.bumpReg_devLog (a n : Nat) : (s.bumpReg a n).devLog = s.devLog := rfl
@[simp] theorem State.bumpReg_frozen (a n : Nat) : (s.bumpReg a n).frozen = s.frozen := rfl
@[simp] theorem State.bumpReg_held (a n : Nat) : (s.bumpReg a n).held = s.held := rfl
@[simp] theorem State.bumpReg_freeIdx (a n : Nat) : (s.bumpReg a n).freeIdx = s.freeIdx := rfl
@[simp] theorem State.bumpReg_firstSeen (a n : Nat) : (s.bumpReg a n).firstSeen = s.firstSeen := rfl
@[simp] theorem State.bumpReg_pfail (a n : Nat) : (s.bumpReg a n).pfail = s.pfail := rfl
@[simp] theorem State.bumpReg_pfailBalls (a n : Nat) : (s.bumpReg a n).pfailBalls = s.pfailBalls := rfl
@[simp] theorem State.bumpReg_clockLost (a n : Nat) : (s.bumpReg a n).clockLost = s.clockLost := rfl
@[simp] theorem State.bumpReg_supplySafe (a n : Nat) : (s.bumpReg a n).supplySafe = s.supplySafe := rfl
@[simp] theorem State.bumpReg_inRange (a n : Nat) : (s.bumpReg a n).inRange = s.inRange := rfl
@[simp] theorem State.bumpReg_idleDrain (a n : Nat) : (s.bumpReg a n).idleDrain = s.idleDrain := rfl
@[simp] theorem State.bumpReg_ctrlDue (a n : Nat) : (s.bumpReg a n).ctrlDue = s.ctrlDue := rfl
@[simp] theorem State.bumpReg_waking (a n : Nat) : (s.bumpReg a n).waking = s.waking := rfl
@[simp] theorem State.bumpReg_patchOk (a n : Nat) : (s.bumpReg a n).patchOk = s.patchOk := rfl
@[simp] theorem State.bumpReg_checking (a n : Nat) : (s.bumpReg a n).checking = s.checking := rfl
@[simp] theorem State.bumpReg_sealExp (a n : Nat) : (s.bumpReg a n).sealExp = s.sealExp := rfl
@[simp] theorem State.bumpReg_sealSnap (a n : Nat) : (s.bumpReg a n).sealSnap = s.sealSnap := rfl
@[simp] theorem State.bumpReg_sealFail (a n : Nat) : (s.bumpReg a n).sealFail = s.sealFail := rfl
@[simp] theorem State.bumpReg_spdRun (a n : Nat) : (s.bumpReg a n).spdRun = s.spdRun := rfl
@[simp] theorem State.bumpReg_qualLow (a n : Nat) : (s.bumpReg a n).qualLow = s.qualLow := rfl
@[simp] theorem State.bumpReg_romFail (a n : Nat) : (s.bumpReg a n).romFail = s.romFail := rfl
@[simp] theorem State.bumpReg_tempSeen (a n : Nat) : (s.bumpReg a n).tempSeen = s.tempSeen := rfl
@[simp] theorem State.bumpReg_yew (a n : Nat) : (s.bumpReg a n).yew = s.yew := rfl
@[simp] theorem State.bumpReg_yewPort (a n : Nat) : (s.bumpReg a n).yewPort = s.yewPort := rfl
@[simp] theorem State.bumpReg_yewCfg (a n : Nat) : (s.bumpReg a n).yewCfg = s.yewCfg := rfl
@[simp] theorem State.bumpReg_hq (a n : Nat) : (s.bumpReg a n).hq = s.hq := rfl
@[simp] theorem State.bumpReg_cmpl (a n : Nat) : (s.bumpReg a n).cmpl = s.cmpl := rfl
@[simp] theorem State.bumpReg_cmplWait (a n : Nat) : (s.bumpReg a n).cmplWait = s.cmplWait := rfl
@[simp] theorem State.bumpReg_dropQ (a n : Nat) : (s.bumpReg a n).dropQ = s.dropQ := rfl
@[simp] theorem State.bumpReg_hirqLow (a n : Nat) : (s.bumpReg a n).hirqLow = s.hirqLow := rfl
@[simp] theorem State.bumpReg_hirqRose (a n : Nat) : (s.bumpReg a n).hirqRose = s.hirqRose := rfl
@[simp] theorem State.bumpReg_mbox (a n : Nat) : (s.bumpReg a n).mbox = s.mbox := rfl
@[simp] theorem State.bumpReg_nor (a n : Nat) : (s.bumpReg a n).nor = s.nor := rfl
@[simp] theorem State.bumpReg_laurel (a n : Nat) : (s.bumpReg a n).laurel = s.laurel := rfl
@[simp] theorem State.bumpReg_lanes (a n : Nat) : (s.bumpReg a n).lanes = s.lanes := rfl
@[simp] theorem State.bumpReg_banks (a n : Nat) : (s.bumpReg a n).banks = s.banks := rfl
@[simp] theorem State.bumpReg_pwm (a n : Nat) : (s.bumpReg a n).pwm = s.pwm := rfl
@[simp] theorem State.bumpReg_eng (a n : Nat) : (s.bumpReg a n).eng = s.eng := rfl
@[simp] theorem State.bumpReg_fbk (a n : Nat) : (s.bumpReg a n).fbk = s.fbk := rfl
@[simp] theorem State.bumpReg_syncIn (a n : Nat) : (s.bumpReg a n).syncIn = s.syncIn := rfl
@[simp] theorem State.bumpReg_syncOut (a n : Nat) : (s.bumpReg a n).syncOut = s.syncOut := rfl
@[simp] theorem State.bumpReg_pose (a n : Nat) : (s.bumpReg a n).pose = s.pose := rfl
@[simp] theorem State.bumpReg_imu (a n : Nat) : (s.bumpReg a n).imu = s.imu := rfl
@[simp] theorem State.bumpReg_trav (a n : Nat) : (s.bumpReg a n).trav = s.trav := rfl
@[simp] theorem State.bumpReg_fpe (a n : Nat) : (s.bumpReg a n).fpe = s.fpe := rfl
@[simp] theorem State.bumpReg_gnss (a n : Nat) : (s.bumpReg a n).gnss = s.gnss := rfl
@[simp] theorem State.bumpReg_time (a n : Nat) : (s.bumpReg a n).time = s.time := rfl
@[simp] theorem State.bumpReg_map (a n : Nat) : (s.bumpReg a n).map = s.map := rfl
@[simp] theorem State.bumpReg_ports (a n : Nat) : (s.bumpReg a n).ports = s.ports := rfl
@[simp] theorem State.bumpReg_ring (a n : Nat) : (s.bumpReg a n).ring = s.ring := rfl
@[simp] theorem State.bumpReg_rtime (a n : Nat) : (s.bumpReg a n).rtime = s.rtime := rfl
@[simp] theorem State.bumpReg_rtun (a n : Nat) : (s.bumpReg a n).rtun = s.rtun := rfl
@[simp] theorem State.bumpReg_hostTx (a n : Nat) : (s.bumpReg a n).hostTx = s.hostTx := rfl
@[simp] theorem State.bumpReg_lastRead (a n : Nat) : (s.bumpReg a n).lastRead = s.lastRead := rfl
@[simp] theorem State.bumpReg_tdo (a n : Nat) : (s.bumpReg a n).tdo = s.tdo := rfl
@[simp] theorem State.bumpReg_extest (a n : Nat) : (s.bumpReg a n).extest = s.extest := rfl

@[simp] theorem State.setEpoch_pending (p : Nat) (e : Epoch) : (s.setEpoch p e).pending = s.pending := rfl
@[simp] theorem State.setEpoch_now (p : Nat) (e : Epoch) : (s.setEpoch p e).now = s.now := rfl
@[simp] theorem State.setEpoch_member (p : Nat) (e : Epoch) : (s.setEpoch p e).member = s.member := rfl
@[simp] theorem State.setEpoch_dev (p : Nat) (e : Epoch) : (s.setEpoch p e).dev = s.dev := rfl
@[simp] theorem State.setEpoch_prev (p : Nat) (e : Epoch) : (s.setEpoch p e).prev = s.prev := rfl
@[simp] theorem State.setEpoch_devAt (p : Nat) (e : Epoch) : (s.setEpoch p e).devAt = s.devAt := rfl
@[simp] theorem State.setEpoch_devLog (p : Nat) (e : Epoch) : (s.setEpoch p e).devLog = s.devLog := rfl
@[simp] theorem State.setEpoch_frozen (p : Nat) (e : Epoch) : (s.setEpoch p e).frozen = s.frozen := rfl
@[simp] theorem State.setEpoch_held (p : Nat) (e : Epoch) : (s.setEpoch p e).held = s.held := rfl
@[simp] theorem State.setEpoch_freeIdx (p : Nat) (e : Epoch) : (s.setEpoch p e).freeIdx = s.freeIdx := rfl
@[simp] theorem State.setEpoch_firstSeen (p : Nat) (e : Epoch) : (s.setEpoch p e).firstSeen = s.firstSeen := rfl
@[simp] theorem State.setEpoch_pfail (p : Nat) (e : Epoch) : (s.setEpoch p e).pfail = s.pfail := rfl
@[simp] theorem State.setEpoch_pfailBalls (p : Nat) (e : Epoch) : (s.setEpoch p e).pfailBalls = s.pfailBalls := rfl
@[simp] theorem State.setEpoch_clockLost (p : Nat) (e : Epoch) : (s.setEpoch p e).clockLost = s.clockLost := rfl
@[simp] theorem State.setEpoch_supplySafe (p : Nat) (e : Epoch) : (s.setEpoch p e).supplySafe = s.supplySafe := rfl
@[simp] theorem State.setEpoch_inRange (p : Nat) (e : Epoch) : (s.setEpoch p e).inRange = s.inRange := rfl
@[simp] theorem State.setEpoch_idleDrain (p : Nat) (e : Epoch) : (s.setEpoch p e).idleDrain = s.idleDrain := rfl
@[simp] theorem State.setEpoch_ctrlDue (p : Nat) (e : Epoch) : (s.setEpoch p e).ctrlDue = s.ctrlDue := rfl
@[simp] theorem State.setEpoch_waking (p : Nat) (e : Epoch) : (s.setEpoch p e).waking = s.waking := rfl
@[simp] theorem State.setEpoch_patchOk (p : Nat) (e : Epoch) : (s.setEpoch p e).patchOk = s.patchOk := rfl
@[simp] theorem State.setEpoch_checking (p : Nat) (e : Epoch) : (s.setEpoch p e).checking = s.checking := rfl
@[simp] theorem State.setEpoch_sealExp (p : Nat) (e : Epoch) : (s.setEpoch p e).sealExp = s.sealExp := rfl
@[simp] theorem State.setEpoch_sealSnap (p : Nat) (e : Epoch) : (s.setEpoch p e).sealSnap = s.sealSnap := rfl
@[simp] theorem State.setEpoch_sealFail (p : Nat) (e : Epoch) : (s.setEpoch p e).sealFail = s.sealFail := rfl
@[simp] theorem State.setEpoch_spdRun (p : Nat) (e : Epoch) : (s.setEpoch p e).spdRun = s.spdRun := rfl
@[simp] theorem State.setEpoch_qualLow (p : Nat) (e : Epoch) : (s.setEpoch p e).qualLow = s.qualLow := rfl
@[simp] theorem State.setEpoch_romFail (p : Nat) (e : Epoch) : (s.setEpoch p e).romFail = s.romFail := rfl
@[simp] theorem State.setEpoch_tempSeen (p : Nat) (e : Epoch) : (s.setEpoch p e).tempSeen = s.tempSeen := rfl
@[simp] theorem State.setEpoch_yew (p : Nat) (e : Epoch) : (s.setEpoch p e).yew = s.yew := rfl
@[simp] theorem State.setEpoch_yewPort (p : Nat) (e : Epoch) : (s.setEpoch p e).yewPort = s.yewPort := rfl
@[simp] theorem State.setEpoch_yewCfg (p : Nat) (e : Epoch) : (s.setEpoch p e).yewCfg = s.yewCfg := rfl
@[simp] theorem State.setEpoch_hq (p : Nat) (e : Epoch) : (s.setEpoch p e).hq = s.hq := rfl
@[simp] theorem State.setEpoch_cmpl (p : Nat) (e : Epoch) : (s.setEpoch p e).cmpl = s.cmpl := rfl
@[simp] theorem State.setEpoch_cmplWait (p : Nat) (e : Epoch) : (s.setEpoch p e).cmplWait = s.cmplWait := rfl
@[simp] theorem State.setEpoch_dropQ (p : Nat) (e : Epoch) : (s.setEpoch p e).dropQ = s.dropQ := rfl
@[simp] theorem State.setEpoch_hirqLow (p : Nat) (e : Epoch) : (s.setEpoch p e).hirqLow = s.hirqLow := rfl
@[simp] theorem State.setEpoch_hirqRose (p : Nat) (e : Epoch) : (s.setEpoch p e).hirqRose = s.hirqRose := rfl
@[simp] theorem State.setEpoch_mbox (p : Nat) (e : Epoch) : (s.setEpoch p e).mbox = s.mbox := rfl
@[simp] theorem State.setEpoch_nor (p : Nat) (e : Epoch) : (s.setEpoch p e).nor = s.nor := rfl
@[simp] theorem State.setEpoch_laurel (p : Nat) (e : Epoch) : (s.setEpoch p e).laurel = s.laurel := rfl
@[simp] theorem State.setEpoch_lanes (p : Nat) (e : Epoch) : (s.setEpoch p e).lanes = s.lanes := rfl
@[simp] theorem State.setEpoch_banks (p : Nat) (e : Epoch) : (s.setEpoch p e).banks = s.banks := rfl
@[simp] theorem State.setEpoch_pwm (p : Nat) (e : Epoch) : (s.setEpoch p e).pwm = s.pwm := rfl
@[simp] theorem State.setEpoch_eng (p : Nat) (e : Epoch) : (s.setEpoch p e).eng = s.eng := rfl
@[simp] theorem State.setEpoch_fbk (p : Nat) (e : Epoch) : (s.setEpoch p e).fbk = s.fbk := rfl
@[simp] theorem State.setEpoch_syncIn (p : Nat) (e : Epoch) : (s.setEpoch p e).syncIn = s.syncIn := rfl
@[simp] theorem State.setEpoch_syncOut (p : Nat) (e : Epoch) : (s.setEpoch p e).syncOut = s.syncOut := rfl
@[simp] theorem State.setEpoch_pose (p : Nat) (e : Epoch) : (s.setEpoch p e).pose = s.pose := rfl
@[simp] theorem State.setEpoch_imu (p : Nat) (e : Epoch) : (s.setEpoch p e).imu = s.imu := rfl
@[simp] theorem State.setEpoch_trav (p : Nat) (e : Epoch) : (s.setEpoch p e).trav = s.trav := rfl
@[simp] theorem State.setEpoch_fpe (p : Nat) (e : Epoch) : (s.setEpoch p e).fpe = s.fpe := rfl
@[simp] theorem State.setEpoch_gnss (p : Nat) (e : Epoch) : (s.setEpoch p e).gnss = s.gnss := rfl
@[simp] theorem State.setEpoch_time (p : Nat) (e : Epoch) : (s.setEpoch p e).time = s.time := rfl
@[simp] theorem State.setEpoch_map (p : Nat) (e : Epoch) : (s.setEpoch p e).map = s.map := rfl
@[simp] theorem State.setEpoch_ports (p : Nat) (e : Epoch) : (s.setEpoch p e).ports = s.ports := rfl
@[simp] theorem State.setEpoch_ring (p : Nat) (e : Epoch) : (s.setEpoch p e).ring = s.ring := rfl
@[simp] theorem State.setEpoch_rtime (p : Nat) (e : Epoch) : (s.setEpoch p e).rtime = s.rtime := rfl
@[simp] theorem State.setEpoch_rtun (p : Nat) (e : Epoch) : (s.setEpoch p e).rtun = s.rtun := rfl
@[simp] theorem State.setEpoch_hostTx (p : Nat) (e : Epoch) : (s.setEpoch p e).hostTx = s.hostTx := rfl
@[simp] theorem State.setEpoch_lastRead (p : Nat) (e : Epoch) : (s.setEpoch p e).lastRead = s.lastRead := rfl
@[simp] theorem State.setEpoch_tdo (p : Nat) (e : Epoch) : (s.setEpoch p e).tdo = s.tdo := rfl
@[simp] theorem State.setEpoch_extest (p : Nat) (e : Epoch) : (s.setEpoch p e).extest = s.extest := rfl

@[simp] theorem State.clearBits_pending (a n : Nat) : (s.clearBits a n).pending = s.pending := rfl
@[simp] theorem State.clearBits_now (a n : Nat) : (s.clearBits a n).now = s.now := rfl
@[simp] theorem State.clearBits_member (a n : Nat) : (s.clearBits a n).member = s.member := rfl
@[simp] theorem State.clearBits_dev (a n : Nat) : (s.clearBits a n).dev = s.dev := rfl
@[simp] theorem State.clearBits_prev (a n : Nat) : (s.clearBits a n).prev = s.prev := rfl
@[simp] theorem State.clearBits_devAt (a n : Nat) : (s.clearBits a n).devAt = s.devAt := rfl
@[simp] theorem State.clearBits_devLog (a n : Nat) : (s.clearBits a n).devLog = s.devLog := rfl
@[simp] theorem State.clearBits_frozen (a n : Nat) : (s.clearBits a n).frozen = s.frozen := rfl
@[simp] theorem State.clearBits_held (a n : Nat) : (s.clearBits a n).held = s.held := rfl
@[simp] theorem State.clearBits_freeIdx (a n : Nat) : (s.clearBits a n).freeIdx = s.freeIdx := rfl
@[simp] theorem State.clearBits_firstSeen (a n : Nat) : (s.clearBits a n).firstSeen = s.firstSeen := rfl
@[simp] theorem State.clearBits_pfail (a n : Nat) : (s.clearBits a n).pfail = s.pfail := rfl
@[simp] theorem State.clearBits_pfailBalls (a n : Nat) : (s.clearBits a n).pfailBalls = s.pfailBalls := rfl
@[simp] theorem State.clearBits_clockLost (a n : Nat) : (s.clearBits a n).clockLost = s.clockLost := rfl
@[simp] theorem State.clearBits_supplySafe (a n : Nat) : (s.clearBits a n).supplySafe = s.supplySafe := rfl
@[simp] theorem State.clearBits_inRange (a n : Nat) : (s.clearBits a n).inRange = s.inRange := rfl
@[simp] theorem State.clearBits_idleDrain (a n : Nat) : (s.clearBits a n).idleDrain = s.idleDrain := rfl
@[simp] theorem State.clearBits_ctrlDue (a n : Nat) : (s.clearBits a n).ctrlDue = s.ctrlDue := rfl
@[simp] theorem State.clearBits_waking (a n : Nat) : (s.clearBits a n).waking = s.waking := rfl
@[simp] theorem State.clearBits_patchOk (a n : Nat) : (s.clearBits a n).patchOk = s.patchOk := rfl
@[simp] theorem State.clearBits_checking (a n : Nat) : (s.clearBits a n).checking = s.checking := rfl
@[simp] theorem State.clearBits_sealExp (a n : Nat) : (s.clearBits a n).sealExp = s.sealExp := rfl
@[simp] theorem State.clearBits_sealSnap (a n : Nat) : (s.clearBits a n).sealSnap = s.sealSnap := rfl
@[simp] theorem State.clearBits_sealFail (a n : Nat) : (s.clearBits a n).sealFail = s.sealFail := rfl
@[simp] theorem State.clearBits_spdRun (a n : Nat) : (s.clearBits a n).spdRun = s.spdRun := rfl
@[simp] theorem State.clearBits_qualLow (a n : Nat) : (s.clearBits a n).qualLow = s.qualLow := rfl
@[simp] theorem State.clearBits_romFail (a n : Nat) : (s.clearBits a n).romFail = s.romFail := rfl
@[simp] theorem State.clearBits_tempSeen (a n : Nat) : (s.clearBits a n).tempSeen = s.tempSeen := rfl
@[simp] theorem State.clearBits_yew (a n : Nat) : (s.clearBits a n).yew = s.yew := rfl
@[simp] theorem State.clearBits_yewPort (a n : Nat) : (s.clearBits a n).yewPort = s.yewPort := rfl
@[simp] theorem State.clearBits_yewCfg (a n : Nat) : (s.clearBits a n).yewCfg = s.yewCfg := rfl
@[simp] theorem State.clearBits_hq (a n : Nat) : (s.clearBits a n).hq = s.hq := rfl
@[simp] theorem State.clearBits_cmpl (a n : Nat) : (s.clearBits a n).cmpl = s.cmpl := rfl
@[simp] theorem State.clearBits_cmplWait (a n : Nat) : (s.clearBits a n).cmplWait = s.cmplWait := rfl
@[simp] theorem State.clearBits_dropQ (a n : Nat) : (s.clearBits a n).dropQ = s.dropQ := rfl
@[simp] theorem State.clearBits_hirqLow (a n : Nat) : (s.clearBits a n).hirqLow = s.hirqLow := rfl
@[simp] theorem State.clearBits_hirqRose (a n : Nat) : (s.clearBits a n).hirqRose = s.hirqRose := rfl
@[simp] theorem State.clearBits_mbox (a n : Nat) : (s.clearBits a n).mbox = s.mbox := rfl
@[simp] theorem State.clearBits_nor (a n : Nat) : (s.clearBits a n).nor = s.nor := rfl
@[simp] theorem State.clearBits_laurel (a n : Nat) : (s.clearBits a n).laurel = s.laurel := rfl
@[simp] theorem State.clearBits_lanes (a n : Nat) : (s.clearBits a n).lanes = s.lanes := rfl
@[simp] theorem State.clearBits_banks (a n : Nat) : (s.clearBits a n).banks = s.banks := rfl
@[simp] theorem State.clearBits_pwm (a n : Nat) : (s.clearBits a n).pwm = s.pwm := rfl
@[simp] theorem State.clearBits_eng (a n : Nat) : (s.clearBits a n).eng = s.eng := rfl
@[simp] theorem State.clearBits_fbk (a n : Nat) : (s.clearBits a n).fbk = s.fbk := rfl
@[simp] theorem State.clearBits_syncIn (a n : Nat) : (s.clearBits a n).syncIn = s.syncIn := rfl
@[simp] theorem State.clearBits_syncOut (a n : Nat) : (s.clearBits a n).syncOut = s.syncOut := rfl
@[simp] theorem State.clearBits_pose (a n : Nat) : (s.clearBits a n).pose = s.pose := rfl
@[simp] theorem State.clearBits_imu (a n : Nat) : (s.clearBits a n).imu = s.imu := rfl
@[simp] theorem State.clearBits_trav (a n : Nat) : (s.clearBits a n).trav = s.trav := rfl
@[simp] theorem State.clearBits_fpe (a n : Nat) : (s.clearBits a n).fpe = s.fpe := rfl
@[simp] theorem State.clearBits_gnss (a n : Nat) : (s.clearBits a n).gnss = s.gnss := rfl
@[simp] theorem State.clearBits_time (a n : Nat) : (s.clearBits a n).time = s.time := rfl
@[simp] theorem State.clearBits_map (a n : Nat) : (s.clearBits a n).map = s.map := rfl
@[simp] theorem State.clearBits_ports (a n : Nat) : (s.clearBits a n).ports = s.ports := rfl
@[simp] theorem State.clearBits_ring (a n : Nat) : (s.clearBits a n).ring = s.ring := rfl
@[simp] theorem State.clearBits_rtime (a n : Nat) : (s.clearBits a n).rtime = s.rtime := rfl
@[simp] theorem State.clearBits_rtun (a n : Nat) : (s.clearBits a n).rtun = s.rtun := rfl
@[simp] theorem State.clearBits_hostTx (a n : Nat) : (s.clearBits a n).hostTx = s.hostTx := rfl
@[simp] theorem State.clearBits_lastRead (a n : Nat) : (s.clearBits a n).lastRead = s.lastRead := rfl
@[simp] theorem State.clearBits_tdo (a n : Nat) : (s.clearBits a n).tdo = s.tdo := rfl
@[simp] theorem State.clearBits_extest (a n : Nat) : (s.clearBits a n).extest = s.extest := rfl

/-- Everything `err` can write. -/
theorem State.err_writes (p o : Nat) (c : ErrCode) :
    ∃ r, s.err p o c = { s with regs := r } := by
  unfold State.err
  dsimp only
  split
  · exact ⟨s.regs, rfl⟩
  · exact ⟨_, rfl⟩

@[simp] theorem State.err_pending (p o : Nat) (c : ErrCode) : (s.err p o c).pending = s.pending := by
  obtain ⟨_, e⟩ := State.err_writes s p o c
  rw [e]
@[simp] theorem State.err_now (p o : Nat) (c : ErrCode) : (s.err p o c).now = s.now := by
  obtain ⟨_, e⟩ := State.err_writes s p o c
  rw [e]
@[simp] theorem State.err_member (p o : Nat) (c : ErrCode) : (s.err p o c).member = s.member := by
  obtain ⟨_, e⟩ := State.err_writes s p o c
  rw [e]
@[simp] theorem State.err_dev (p o : Nat) (c : ErrCode) : (s.err p o c).dev = s.dev := by
  obtain ⟨_, e⟩ := State.err_writes s p o c
  rw [e]
@[simp] theorem State.err_prev (p o : Nat) (c : ErrCode) : (s.err p o c).prev = s.prev := by
  obtain ⟨_, e⟩ := State.err_writes s p o c
  rw [e]
@[simp] theorem State.err_devAt (p o : Nat) (c : ErrCode) : (s.err p o c).devAt = s.devAt := by
  obtain ⟨_, e⟩ := State.err_writes s p o c
  rw [e]
@[simp] theorem State.err_devLog (p o : Nat) (c : ErrCode) : (s.err p o c).devLog = s.devLog := by
  obtain ⟨_, e⟩ := State.err_writes s p o c
  rw [e]
@[simp] theorem State.err_frozen (p o : Nat) (c : ErrCode) : (s.err p o c).frozen = s.frozen := by
  obtain ⟨_, e⟩ := State.err_writes s p o c
  rw [e]
@[simp] theorem State.err_held (p o : Nat) (c : ErrCode) : (s.err p o c).held = s.held := by
  obtain ⟨_, e⟩ := State.err_writes s p o c
  rw [e]
@[simp] theorem State.err_freeIdx (p o : Nat) (c : ErrCode) : (s.err p o c).freeIdx = s.freeIdx := by
  obtain ⟨_, e⟩ := State.err_writes s p o c
  rw [e]
@[simp] theorem State.err_firstSeen (p o : Nat) (c : ErrCode) : (s.err p o c).firstSeen = s.firstSeen := by
  obtain ⟨_, e⟩ := State.err_writes s p o c
  rw [e]
@[simp] theorem State.err_pfail (p o : Nat) (c : ErrCode) : (s.err p o c).pfail = s.pfail := by
  obtain ⟨_, e⟩ := State.err_writes s p o c
  rw [e]
@[simp] theorem State.err_pfailBalls (p o : Nat) (c : ErrCode) : (s.err p o c).pfailBalls = s.pfailBalls := by
  obtain ⟨_, e⟩ := State.err_writes s p o c
  rw [e]
@[simp] theorem State.err_clockLost (p o : Nat) (c : ErrCode) : (s.err p o c).clockLost = s.clockLost := by
  obtain ⟨_, e⟩ := State.err_writes s p o c
  rw [e]
@[simp] theorem State.err_supplySafe (p o : Nat) (c : ErrCode) : (s.err p o c).supplySafe = s.supplySafe := by
  obtain ⟨_, e⟩ := State.err_writes s p o c
  rw [e]
@[simp] theorem State.err_inRange (p o : Nat) (c : ErrCode) : (s.err p o c).inRange = s.inRange := by
  obtain ⟨_, e⟩ := State.err_writes s p o c
  rw [e]
@[simp] theorem State.err_idleDrain (p o : Nat) (c : ErrCode) : (s.err p o c).idleDrain = s.idleDrain := by
  obtain ⟨_, e⟩ := State.err_writes s p o c
  rw [e]
@[simp] theorem State.err_ctrlDue (p o : Nat) (c : ErrCode) : (s.err p o c).ctrlDue = s.ctrlDue := by
  obtain ⟨_, e⟩ := State.err_writes s p o c
  rw [e]
@[simp] theorem State.err_waking (p o : Nat) (c : ErrCode) : (s.err p o c).waking = s.waking := by
  obtain ⟨_, e⟩ := State.err_writes s p o c
  rw [e]
@[simp] theorem State.err_patchOk (p o : Nat) (c : ErrCode) : (s.err p o c).patchOk = s.patchOk := by
  obtain ⟨_, e⟩ := State.err_writes s p o c
  rw [e]
@[simp] theorem State.err_checking (p o : Nat) (c : ErrCode) : (s.err p o c).checking = s.checking := by
  obtain ⟨_, e⟩ := State.err_writes s p o c
  rw [e]
@[simp] theorem State.err_sealExp (p o : Nat) (c : ErrCode) : (s.err p o c).sealExp = s.sealExp := by
  obtain ⟨_, e⟩ := State.err_writes s p o c
  rw [e]
@[simp] theorem State.err_sealSnap (p o : Nat) (c : ErrCode) : (s.err p o c).sealSnap = s.sealSnap := by
  obtain ⟨_, e⟩ := State.err_writes s p o c
  rw [e]
@[simp] theorem State.err_sealFail (p o : Nat) (c : ErrCode) : (s.err p o c).sealFail = s.sealFail := by
  obtain ⟨_, e⟩ := State.err_writes s p o c
  rw [e]
@[simp] theorem State.err_spdRun (p o : Nat) (c : ErrCode) : (s.err p o c).spdRun = s.spdRun := by
  obtain ⟨_, e⟩ := State.err_writes s p o c
  rw [e]
@[simp] theorem State.err_qualLow (p o : Nat) (c : ErrCode) : (s.err p o c).qualLow = s.qualLow := by
  obtain ⟨_, e⟩ := State.err_writes s p o c
  rw [e]
@[simp] theorem State.err_romFail (p o : Nat) (c : ErrCode) : (s.err p o c).romFail = s.romFail := by
  obtain ⟨_, e⟩ := State.err_writes s p o c
  rw [e]
@[simp] theorem State.err_tempSeen (p o : Nat) (c : ErrCode) : (s.err p o c).tempSeen = s.tempSeen := by
  obtain ⟨_, e⟩ := State.err_writes s p o c
  rw [e]
@[simp] theorem State.err_yew (p o : Nat) (c : ErrCode) : (s.err p o c).yew = s.yew := by
  obtain ⟨_, e⟩ := State.err_writes s p o c
  rw [e]
@[simp] theorem State.err_yewPort (p o : Nat) (c : ErrCode) : (s.err p o c).yewPort = s.yewPort := by
  obtain ⟨_, e⟩ := State.err_writes s p o c
  rw [e]
@[simp] theorem State.err_yewCfg (p o : Nat) (c : ErrCode) : (s.err p o c).yewCfg = s.yewCfg := by
  obtain ⟨_, e⟩ := State.err_writes s p o c
  rw [e]
@[simp] theorem State.err_hq (p o : Nat) (c : ErrCode) : (s.err p o c).hq = s.hq := by
  obtain ⟨_, e⟩ := State.err_writes s p o c
  rw [e]
@[simp] theorem State.err_cmpl (p o : Nat) (c : ErrCode) : (s.err p o c).cmpl = s.cmpl := by
  obtain ⟨_, e⟩ := State.err_writes s p o c
  rw [e]
@[simp] theorem State.err_cmplWait (p o : Nat) (c : ErrCode) : (s.err p o c).cmplWait = s.cmplWait := by
  obtain ⟨_, e⟩ := State.err_writes s p o c
  rw [e]
@[simp] theorem State.err_dropQ (p o : Nat) (c : ErrCode) : (s.err p o c).dropQ = s.dropQ := by
  obtain ⟨_, e⟩ := State.err_writes s p o c
  rw [e]
@[simp] theorem State.err_hirqLow (p o : Nat) (c : ErrCode) : (s.err p o c).hirqLow = s.hirqLow := by
  obtain ⟨_, e⟩ := State.err_writes s p o c
  rw [e]
@[simp] theorem State.err_hirqRose (p o : Nat) (c : ErrCode) : (s.err p o c).hirqRose = s.hirqRose := by
  obtain ⟨_, e⟩ := State.err_writes s p o c
  rw [e]
@[simp] theorem State.err_mbox (p o : Nat) (c : ErrCode) : (s.err p o c).mbox = s.mbox := by
  obtain ⟨_, e⟩ := State.err_writes s p o c
  rw [e]
@[simp] theorem State.err_nor (p o : Nat) (c : ErrCode) : (s.err p o c).nor = s.nor := by
  obtain ⟨_, e⟩ := State.err_writes s p o c
  rw [e]
@[simp] theorem State.err_laurel (p o : Nat) (c : ErrCode) : (s.err p o c).laurel = s.laurel := by
  obtain ⟨_, e⟩ := State.err_writes s p o c
  rw [e]
@[simp] theorem State.err_lanes (p o : Nat) (c : ErrCode) : (s.err p o c).lanes = s.lanes := by
  obtain ⟨_, e⟩ := State.err_writes s p o c
  rw [e]
@[simp] theorem State.err_banks (p o : Nat) (c : ErrCode) : (s.err p o c).banks = s.banks := by
  obtain ⟨_, e⟩ := State.err_writes s p o c
  rw [e]
@[simp] theorem State.err_pwm (p o : Nat) (c : ErrCode) : (s.err p o c).pwm = s.pwm := by
  obtain ⟨_, e⟩ := State.err_writes s p o c
  rw [e]
@[simp] theorem State.err_eng (p o : Nat) (c : ErrCode) : (s.err p o c).eng = s.eng := by
  obtain ⟨_, e⟩ := State.err_writes s p o c
  rw [e]
@[simp] theorem State.err_fbk (p o : Nat) (c : ErrCode) : (s.err p o c).fbk = s.fbk := by
  obtain ⟨_, e⟩ := State.err_writes s p o c
  rw [e]
@[simp] theorem State.err_syncIn (p o : Nat) (c : ErrCode) : (s.err p o c).syncIn = s.syncIn := by
  obtain ⟨_, e⟩ := State.err_writes s p o c
  rw [e]
@[simp] theorem State.err_syncOut (p o : Nat) (c : ErrCode) : (s.err p o c).syncOut = s.syncOut := by
  obtain ⟨_, e⟩ := State.err_writes s p o c
  rw [e]
@[simp] theorem State.err_pose (p o : Nat) (c : ErrCode) : (s.err p o c).pose = s.pose := by
  obtain ⟨_, e⟩ := State.err_writes s p o c
  rw [e]
@[simp] theorem State.err_imu (p o : Nat) (c : ErrCode) : (s.err p o c).imu = s.imu := by
  obtain ⟨_, e⟩ := State.err_writes s p o c
  rw [e]
@[simp] theorem State.err_trav (p o : Nat) (c : ErrCode) : (s.err p o c).trav = s.trav := by
  obtain ⟨_, e⟩ := State.err_writes s p o c
  rw [e]
@[simp] theorem State.err_fpe (p o : Nat) (c : ErrCode) : (s.err p o c).fpe = s.fpe := by
  obtain ⟨_, e⟩ := State.err_writes s p o c
  rw [e]
@[simp] theorem State.err_gnss (p o : Nat) (c : ErrCode) : (s.err p o c).gnss = s.gnss := by
  obtain ⟨_, e⟩ := State.err_writes s p o c
  rw [e]
@[simp] theorem State.err_time (p o : Nat) (c : ErrCode) : (s.err p o c).time = s.time := by
  obtain ⟨_, e⟩ := State.err_writes s p o c
  rw [e]
@[simp] theorem State.err_map (p o : Nat) (c : ErrCode) : (s.err p o c).map = s.map := by
  obtain ⟨_, e⟩ := State.err_writes s p o c
  rw [e]
@[simp] theorem State.err_ports (p o : Nat) (c : ErrCode) : (s.err p o c).ports = s.ports := by
  obtain ⟨_, e⟩ := State.err_writes s p o c
  rw [e]
@[simp] theorem State.err_ring (p o : Nat) (c : ErrCode) : (s.err p o c).ring = s.ring := by
  obtain ⟨_, e⟩ := State.err_writes s p o c
  rw [e]
@[simp] theorem State.err_rtime (p o : Nat) (c : ErrCode) : (s.err p o c).rtime = s.rtime := by
  obtain ⟨_, e⟩ := State.err_writes s p o c
  rw [e]
@[simp] theorem State.err_rtun (p o : Nat) (c : ErrCode) : (s.err p o c).rtun = s.rtun := by
  obtain ⟨_, e⟩ := State.err_writes s p o c
  rw [e]
@[simp] theorem State.err_hostTx (p o : Nat) (c : ErrCode) : (s.err p o c).hostTx = s.hostTx := by
  obtain ⟨_, e⟩ := State.err_writes s p o c
  rw [e]
@[simp] theorem State.err_lastRead (p o : Nat) (c : ErrCode) : (s.err p o c).lastRead = s.lastRead := by
  obtain ⟨_, e⟩ := State.err_writes s p o c
  rw [e]
@[simp] theorem State.err_tdo (p o : Nat) (c : ErrCode) : (s.err p o c).tdo = s.tdo := by
  obtain ⟨_, e⟩ := State.err_writes s p o c
  rw [e]
@[simp] theorem State.err_extest (p o : Nat) (c : ErrCode) : (s.err p o c).extest = s.extest := by
  obtain ⟨_, e⟩ := State.err_writes s p o c
  rw [e]

/-- Everything `setRaw` can write. -/
theorem State.setRaw_writes (p i : Nat) :
    ∃ r l, s.setRaw p i = { s with regs := r, hirqLow := l } := by
  unfold State.setRaw
  dsimp only
  split
  · exact ⟨_, _, rfl⟩
  · exact ⟨_, s.hirqLow, rfl⟩

@[simp] theorem State.setRaw_pending (p i : Nat) : (s.setRaw p i).pending = s.pending := by
  obtain ⟨_, _, e⟩ := State.setRaw_writes s p i
  rw [e]
@[simp] theorem State.setRaw_now (p i : Nat) : (s.setRaw p i).now = s.now := by
  obtain ⟨_, _, e⟩ := State.setRaw_writes s p i
  rw [e]
@[simp] theorem State.setRaw_member (p i : Nat) : (s.setRaw p i).member = s.member := by
  obtain ⟨_, _, e⟩ := State.setRaw_writes s p i
  rw [e]
@[simp] theorem State.setRaw_dev (p i : Nat) : (s.setRaw p i).dev = s.dev := by
  obtain ⟨_, _, e⟩ := State.setRaw_writes s p i
  rw [e]
@[simp] theorem State.setRaw_prev (p i : Nat) : (s.setRaw p i).prev = s.prev := by
  obtain ⟨_, _, e⟩ := State.setRaw_writes s p i
  rw [e]
@[simp] theorem State.setRaw_devAt (p i : Nat) : (s.setRaw p i).devAt = s.devAt := by
  obtain ⟨_, _, e⟩ := State.setRaw_writes s p i
  rw [e]
@[simp] theorem State.setRaw_devLog (p i : Nat) : (s.setRaw p i).devLog = s.devLog := by
  obtain ⟨_, _, e⟩ := State.setRaw_writes s p i
  rw [e]
@[simp] theorem State.setRaw_frozen (p i : Nat) : (s.setRaw p i).frozen = s.frozen := by
  obtain ⟨_, _, e⟩ := State.setRaw_writes s p i
  rw [e]
@[simp] theorem State.setRaw_held (p i : Nat) : (s.setRaw p i).held = s.held := by
  obtain ⟨_, _, e⟩ := State.setRaw_writes s p i
  rw [e]
@[simp] theorem State.setRaw_freeIdx (p i : Nat) : (s.setRaw p i).freeIdx = s.freeIdx := by
  obtain ⟨_, _, e⟩ := State.setRaw_writes s p i
  rw [e]
@[simp] theorem State.setRaw_firstSeen (p i : Nat) : (s.setRaw p i).firstSeen = s.firstSeen := by
  obtain ⟨_, _, e⟩ := State.setRaw_writes s p i
  rw [e]
@[simp] theorem State.setRaw_pfail (p i : Nat) : (s.setRaw p i).pfail = s.pfail := by
  obtain ⟨_, _, e⟩ := State.setRaw_writes s p i
  rw [e]
@[simp] theorem State.setRaw_pfailBalls (p i : Nat) : (s.setRaw p i).pfailBalls = s.pfailBalls := by
  obtain ⟨_, _, e⟩ := State.setRaw_writes s p i
  rw [e]
@[simp] theorem State.setRaw_clockLost (p i : Nat) : (s.setRaw p i).clockLost = s.clockLost := by
  obtain ⟨_, _, e⟩ := State.setRaw_writes s p i
  rw [e]
@[simp] theorem State.setRaw_supplySafe (p i : Nat) : (s.setRaw p i).supplySafe = s.supplySafe := by
  obtain ⟨_, _, e⟩ := State.setRaw_writes s p i
  rw [e]
@[simp] theorem State.setRaw_inRange (p i : Nat) : (s.setRaw p i).inRange = s.inRange := by
  obtain ⟨_, _, e⟩ := State.setRaw_writes s p i
  rw [e]
@[simp] theorem State.setRaw_idleDrain (p i : Nat) : (s.setRaw p i).idleDrain = s.idleDrain := by
  obtain ⟨_, _, e⟩ := State.setRaw_writes s p i
  rw [e]
@[simp] theorem State.setRaw_ctrlDue (p i : Nat) : (s.setRaw p i).ctrlDue = s.ctrlDue := by
  obtain ⟨_, _, e⟩ := State.setRaw_writes s p i
  rw [e]
@[simp] theorem State.setRaw_waking (p i : Nat) : (s.setRaw p i).waking = s.waking := by
  obtain ⟨_, _, e⟩ := State.setRaw_writes s p i
  rw [e]
@[simp] theorem State.setRaw_patchOk (p i : Nat) : (s.setRaw p i).patchOk = s.patchOk := by
  obtain ⟨_, _, e⟩ := State.setRaw_writes s p i
  rw [e]
@[simp] theorem State.setRaw_checking (p i : Nat) : (s.setRaw p i).checking = s.checking := by
  obtain ⟨_, _, e⟩ := State.setRaw_writes s p i
  rw [e]
@[simp] theorem State.setRaw_sealExp (p i : Nat) : (s.setRaw p i).sealExp = s.sealExp := by
  obtain ⟨_, _, e⟩ := State.setRaw_writes s p i
  rw [e]
@[simp] theorem State.setRaw_sealSnap (p i : Nat) : (s.setRaw p i).sealSnap = s.sealSnap := by
  obtain ⟨_, _, e⟩ := State.setRaw_writes s p i
  rw [e]
@[simp] theorem State.setRaw_sealFail (p i : Nat) : (s.setRaw p i).sealFail = s.sealFail := by
  obtain ⟨_, _, e⟩ := State.setRaw_writes s p i
  rw [e]
@[simp] theorem State.setRaw_spdRun (p i : Nat) : (s.setRaw p i).spdRun = s.spdRun := by
  obtain ⟨_, _, e⟩ := State.setRaw_writes s p i
  rw [e]
@[simp] theorem State.setRaw_qualLow (p i : Nat) : (s.setRaw p i).qualLow = s.qualLow := by
  obtain ⟨_, _, e⟩ := State.setRaw_writes s p i
  rw [e]
@[simp] theorem State.setRaw_romFail (p i : Nat) : (s.setRaw p i).romFail = s.romFail := by
  obtain ⟨_, _, e⟩ := State.setRaw_writes s p i
  rw [e]
@[simp] theorem State.setRaw_tempSeen (p i : Nat) : (s.setRaw p i).tempSeen = s.tempSeen := by
  obtain ⟨_, _, e⟩ := State.setRaw_writes s p i
  rw [e]
@[simp] theorem State.setRaw_yew (p i : Nat) : (s.setRaw p i).yew = s.yew := by
  obtain ⟨_, _, e⟩ := State.setRaw_writes s p i
  rw [e]
@[simp] theorem State.setRaw_yewPort (p i : Nat) : (s.setRaw p i).yewPort = s.yewPort := by
  obtain ⟨_, _, e⟩ := State.setRaw_writes s p i
  rw [e]
@[simp] theorem State.setRaw_yewCfg (p i : Nat) : (s.setRaw p i).yewCfg = s.yewCfg := by
  obtain ⟨_, _, e⟩ := State.setRaw_writes s p i
  rw [e]
@[simp] theorem State.setRaw_hq (p i : Nat) : (s.setRaw p i).hq = s.hq := by
  obtain ⟨_, _, e⟩ := State.setRaw_writes s p i
  rw [e]
@[simp] theorem State.setRaw_cmpl (p i : Nat) : (s.setRaw p i).cmpl = s.cmpl := by
  obtain ⟨_, _, e⟩ := State.setRaw_writes s p i
  rw [e]
@[simp] theorem State.setRaw_cmplWait (p i : Nat) : (s.setRaw p i).cmplWait = s.cmplWait := by
  obtain ⟨_, _, e⟩ := State.setRaw_writes s p i
  rw [e]
@[simp] theorem State.setRaw_dropQ (p i : Nat) : (s.setRaw p i).dropQ = s.dropQ := by
  obtain ⟨_, _, e⟩ := State.setRaw_writes s p i
  rw [e]
@[simp] theorem State.setRaw_hirqRose (p i : Nat) : (s.setRaw p i).hirqRose = s.hirqRose := by
  obtain ⟨_, _, e⟩ := State.setRaw_writes s p i
  rw [e]
@[simp] theorem State.setRaw_mbox (p i : Nat) : (s.setRaw p i).mbox = s.mbox := by
  obtain ⟨_, _, e⟩ := State.setRaw_writes s p i
  rw [e]
@[simp] theorem State.setRaw_nor (p i : Nat) : (s.setRaw p i).nor = s.nor := by
  obtain ⟨_, _, e⟩ := State.setRaw_writes s p i
  rw [e]
@[simp] theorem State.setRaw_laurel (p i : Nat) : (s.setRaw p i).laurel = s.laurel := by
  obtain ⟨_, _, e⟩ := State.setRaw_writes s p i
  rw [e]
@[simp] theorem State.setRaw_lanes (p i : Nat) : (s.setRaw p i).lanes = s.lanes := by
  obtain ⟨_, _, e⟩ := State.setRaw_writes s p i
  rw [e]
@[simp] theorem State.setRaw_banks (p i : Nat) : (s.setRaw p i).banks = s.banks := by
  obtain ⟨_, _, e⟩ := State.setRaw_writes s p i
  rw [e]
@[simp] theorem State.setRaw_pwm (p i : Nat) : (s.setRaw p i).pwm = s.pwm := by
  obtain ⟨_, _, e⟩ := State.setRaw_writes s p i
  rw [e]
@[simp] theorem State.setRaw_eng (p i : Nat) : (s.setRaw p i).eng = s.eng := by
  obtain ⟨_, _, e⟩ := State.setRaw_writes s p i
  rw [e]
@[simp] theorem State.setRaw_fbk (p i : Nat) : (s.setRaw p i).fbk = s.fbk := by
  obtain ⟨_, _, e⟩ := State.setRaw_writes s p i
  rw [e]
@[simp] theorem State.setRaw_syncIn (p i : Nat) : (s.setRaw p i).syncIn = s.syncIn := by
  obtain ⟨_, _, e⟩ := State.setRaw_writes s p i
  rw [e]
@[simp] theorem State.setRaw_syncOut (p i : Nat) : (s.setRaw p i).syncOut = s.syncOut := by
  obtain ⟨_, _, e⟩ := State.setRaw_writes s p i
  rw [e]
@[simp] theorem State.setRaw_pose (p i : Nat) : (s.setRaw p i).pose = s.pose := by
  obtain ⟨_, _, e⟩ := State.setRaw_writes s p i
  rw [e]
@[simp] theorem State.setRaw_imu (p i : Nat) : (s.setRaw p i).imu = s.imu := by
  obtain ⟨_, _, e⟩ := State.setRaw_writes s p i
  rw [e]
@[simp] theorem State.setRaw_trav (p i : Nat) : (s.setRaw p i).trav = s.trav := by
  obtain ⟨_, _, e⟩ := State.setRaw_writes s p i
  rw [e]
@[simp] theorem State.setRaw_fpe (p i : Nat) : (s.setRaw p i).fpe = s.fpe := by
  obtain ⟨_, _, e⟩ := State.setRaw_writes s p i
  rw [e]
@[simp] theorem State.setRaw_gnss (p i : Nat) : (s.setRaw p i).gnss = s.gnss := by
  obtain ⟨_, _, e⟩ := State.setRaw_writes s p i
  rw [e]
@[simp] theorem State.setRaw_time (p i : Nat) : (s.setRaw p i).time = s.time := by
  obtain ⟨_, _, e⟩ := State.setRaw_writes s p i
  rw [e]
@[simp] theorem State.setRaw_map (p i : Nat) : (s.setRaw p i).map = s.map := by
  obtain ⟨_, _, e⟩ := State.setRaw_writes s p i
  rw [e]
@[simp] theorem State.setRaw_ports (p i : Nat) : (s.setRaw p i).ports = s.ports := by
  obtain ⟨_, _, e⟩ := State.setRaw_writes s p i
  rw [e]
@[simp] theorem State.setRaw_ring (p i : Nat) : (s.setRaw p i).ring = s.ring := by
  obtain ⟨_, _, e⟩ := State.setRaw_writes s p i
  rw [e]
@[simp] theorem State.setRaw_rtime (p i : Nat) : (s.setRaw p i).rtime = s.rtime := by
  obtain ⟨_, _, e⟩ := State.setRaw_writes s p i
  rw [e]
@[simp] theorem State.setRaw_rtun (p i : Nat) : (s.setRaw p i).rtun = s.rtun := by
  obtain ⟨_, _, e⟩ := State.setRaw_writes s p i
  rw [e]
@[simp] theorem State.setRaw_hostTx (p i : Nat) : (s.setRaw p i).hostTx = s.hostTx := by
  obtain ⟨_, _, e⟩ := State.setRaw_writes s p i
  rw [e]
@[simp] theorem State.setRaw_lastRead (p i : Nat) : (s.setRaw p i).lastRead = s.lastRead := by
  obtain ⟨_, _, e⟩ := State.setRaw_writes s p i
  rw [e]
@[simp] theorem State.setRaw_tdo (p i : Nat) : (s.setRaw p i).tdo = s.tdo := by
  obtain ⟨_, _, e⟩ := State.setRaw_writes s p i
  rw [e]
@[simp] theorem State.setRaw_extest (p i : Nat) : (s.setRaw p i).extest = s.extest := by
  obtain ⟨_, _, e⟩ := State.setRaw_writes s p i
  rw [e]

/-- Everything `setEvt` can write. -/
theorem State.setEvt_writes (f : Fld) :
    ∃ r l, s.setEvt f = { s with regs := r, hirqLow := l } := by
  unfold State.setEvt
  split
  · exact ⟨s.regs, s.hirqLow, rfl⟩
  · obtain ⟨r, h, e⟩ := State.setRaw_writes (s.setFld f 1) (f.addr / 4096) f.lo
    exact ⟨r, h, e.trans rfl⟩

@[simp] theorem State.setEvt_pending (f : Fld) : (s.setEvt f).pending = s.pending := by
  obtain ⟨_, _, e⟩ := State.setEvt_writes s f
  rw [e]
@[simp] theorem State.setEvt_now (f : Fld) : (s.setEvt f).now = s.now := by
  obtain ⟨_, _, e⟩ := State.setEvt_writes s f
  rw [e]
@[simp] theorem State.setEvt_member (f : Fld) : (s.setEvt f).member = s.member := by
  obtain ⟨_, _, e⟩ := State.setEvt_writes s f
  rw [e]
@[simp] theorem State.setEvt_dev (f : Fld) : (s.setEvt f).dev = s.dev := by
  obtain ⟨_, _, e⟩ := State.setEvt_writes s f
  rw [e]
@[simp] theorem State.setEvt_prev (f : Fld) : (s.setEvt f).prev = s.prev := by
  obtain ⟨_, _, e⟩ := State.setEvt_writes s f
  rw [e]
@[simp] theorem State.setEvt_devAt (f : Fld) : (s.setEvt f).devAt = s.devAt := by
  obtain ⟨_, _, e⟩ := State.setEvt_writes s f
  rw [e]
@[simp] theorem State.setEvt_devLog (f : Fld) : (s.setEvt f).devLog = s.devLog := by
  obtain ⟨_, _, e⟩ := State.setEvt_writes s f
  rw [e]
@[simp] theorem State.setEvt_frozen (f : Fld) : (s.setEvt f).frozen = s.frozen := by
  obtain ⟨_, _, e⟩ := State.setEvt_writes s f
  rw [e]
@[simp] theorem State.setEvt_held (f : Fld) : (s.setEvt f).held = s.held := by
  obtain ⟨_, _, e⟩ := State.setEvt_writes s f
  rw [e]
@[simp] theorem State.setEvt_freeIdx (f : Fld) : (s.setEvt f).freeIdx = s.freeIdx := by
  obtain ⟨_, _, e⟩ := State.setEvt_writes s f
  rw [e]
@[simp] theorem State.setEvt_firstSeen (f : Fld) : (s.setEvt f).firstSeen = s.firstSeen := by
  obtain ⟨_, _, e⟩ := State.setEvt_writes s f
  rw [e]
@[simp] theorem State.setEvt_pfail (f : Fld) : (s.setEvt f).pfail = s.pfail := by
  obtain ⟨_, _, e⟩ := State.setEvt_writes s f
  rw [e]
@[simp] theorem State.setEvt_pfailBalls (f : Fld) : (s.setEvt f).pfailBalls = s.pfailBalls := by
  obtain ⟨_, _, e⟩ := State.setEvt_writes s f
  rw [e]
@[simp] theorem State.setEvt_clockLost (f : Fld) : (s.setEvt f).clockLost = s.clockLost := by
  obtain ⟨_, _, e⟩ := State.setEvt_writes s f
  rw [e]
@[simp] theorem State.setEvt_supplySafe (f : Fld) : (s.setEvt f).supplySafe = s.supplySafe := by
  obtain ⟨_, _, e⟩ := State.setEvt_writes s f
  rw [e]
@[simp] theorem State.setEvt_inRange (f : Fld) : (s.setEvt f).inRange = s.inRange := by
  obtain ⟨_, _, e⟩ := State.setEvt_writes s f
  rw [e]
@[simp] theorem State.setEvt_idleDrain (f : Fld) : (s.setEvt f).idleDrain = s.idleDrain := by
  obtain ⟨_, _, e⟩ := State.setEvt_writes s f
  rw [e]
@[simp] theorem State.setEvt_ctrlDue (f : Fld) : (s.setEvt f).ctrlDue = s.ctrlDue := by
  obtain ⟨_, _, e⟩ := State.setEvt_writes s f
  rw [e]
@[simp] theorem State.setEvt_waking (f : Fld) : (s.setEvt f).waking = s.waking := by
  obtain ⟨_, _, e⟩ := State.setEvt_writes s f
  rw [e]
@[simp] theorem State.setEvt_patchOk (f : Fld) : (s.setEvt f).patchOk = s.patchOk := by
  obtain ⟨_, _, e⟩ := State.setEvt_writes s f
  rw [e]
@[simp] theorem State.setEvt_checking (f : Fld) : (s.setEvt f).checking = s.checking := by
  obtain ⟨_, _, e⟩ := State.setEvt_writes s f
  rw [e]
@[simp] theorem State.setEvt_sealExp (f : Fld) : (s.setEvt f).sealExp = s.sealExp := by
  obtain ⟨_, _, e⟩ := State.setEvt_writes s f
  rw [e]
@[simp] theorem State.setEvt_sealSnap (f : Fld) : (s.setEvt f).sealSnap = s.sealSnap := by
  obtain ⟨_, _, e⟩ := State.setEvt_writes s f
  rw [e]
@[simp] theorem State.setEvt_sealFail (f : Fld) : (s.setEvt f).sealFail = s.sealFail := by
  obtain ⟨_, _, e⟩ := State.setEvt_writes s f
  rw [e]
@[simp] theorem State.setEvt_spdRun (f : Fld) : (s.setEvt f).spdRun = s.spdRun := by
  obtain ⟨_, _, e⟩ := State.setEvt_writes s f
  rw [e]
@[simp] theorem State.setEvt_qualLow (f : Fld) : (s.setEvt f).qualLow = s.qualLow := by
  obtain ⟨_, _, e⟩ := State.setEvt_writes s f
  rw [e]
@[simp] theorem State.setEvt_romFail (f : Fld) : (s.setEvt f).romFail = s.romFail := by
  obtain ⟨_, _, e⟩ := State.setEvt_writes s f
  rw [e]
@[simp] theorem State.setEvt_tempSeen (f : Fld) : (s.setEvt f).tempSeen = s.tempSeen := by
  obtain ⟨_, _, e⟩ := State.setEvt_writes s f
  rw [e]
@[simp] theorem State.setEvt_yew (f : Fld) : (s.setEvt f).yew = s.yew := by
  obtain ⟨_, _, e⟩ := State.setEvt_writes s f
  rw [e]
@[simp] theorem State.setEvt_yewPort (f : Fld) : (s.setEvt f).yewPort = s.yewPort := by
  obtain ⟨_, _, e⟩ := State.setEvt_writes s f
  rw [e]
@[simp] theorem State.setEvt_yewCfg (f : Fld) : (s.setEvt f).yewCfg = s.yewCfg := by
  obtain ⟨_, _, e⟩ := State.setEvt_writes s f
  rw [e]
@[simp] theorem State.setEvt_hq (f : Fld) : (s.setEvt f).hq = s.hq := by
  obtain ⟨_, _, e⟩ := State.setEvt_writes s f
  rw [e]
@[simp] theorem State.setEvt_cmpl (f : Fld) : (s.setEvt f).cmpl = s.cmpl := by
  obtain ⟨_, _, e⟩ := State.setEvt_writes s f
  rw [e]
@[simp] theorem State.setEvt_cmplWait (f : Fld) : (s.setEvt f).cmplWait = s.cmplWait := by
  obtain ⟨_, _, e⟩ := State.setEvt_writes s f
  rw [e]
@[simp] theorem State.setEvt_dropQ (f : Fld) : (s.setEvt f).dropQ = s.dropQ := by
  obtain ⟨_, _, e⟩ := State.setEvt_writes s f
  rw [e]
@[simp] theorem State.setEvt_hirqRose (f : Fld) : (s.setEvt f).hirqRose = s.hirqRose := by
  obtain ⟨_, _, e⟩ := State.setEvt_writes s f
  rw [e]
@[simp] theorem State.setEvt_mbox (f : Fld) : (s.setEvt f).mbox = s.mbox := by
  obtain ⟨_, _, e⟩ := State.setEvt_writes s f
  rw [e]
@[simp] theorem State.setEvt_nor (f : Fld) : (s.setEvt f).nor = s.nor := by
  obtain ⟨_, _, e⟩ := State.setEvt_writes s f
  rw [e]
@[simp] theorem State.setEvt_laurel (f : Fld) : (s.setEvt f).laurel = s.laurel := by
  obtain ⟨_, _, e⟩ := State.setEvt_writes s f
  rw [e]
@[simp] theorem State.setEvt_lanes (f : Fld) : (s.setEvt f).lanes = s.lanes := by
  obtain ⟨_, _, e⟩ := State.setEvt_writes s f
  rw [e]
@[simp] theorem State.setEvt_banks (f : Fld) : (s.setEvt f).banks = s.banks := by
  obtain ⟨_, _, e⟩ := State.setEvt_writes s f
  rw [e]
@[simp] theorem State.setEvt_pwm (f : Fld) : (s.setEvt f).pwm = s.pwm := by
  obtain ⟨_, _, e⟩ := State.setEvt_writes s f
  rw [e]
@[simp] theorem State.setEvt_eng (f : Fld) : (s.setEvt f).eng = s.eng := by
  obtain ⟨_, _, e⟩ := State.setEvt_writes s f
  rw [e]
@[simp] theorem State.setEvt_fbk (f : Fld) : (s.setEvt f).fbk = s.fbk := by
  obtain ⟨_, _, e⟩ := State.setEvt_writes s f
  rw [e]
@[simp] theorem State.setEvt_syncIn (f : Fld) : (s.setEvt f).syncIn = s.syncIn := by
  obtain ⟨_, _, e⟩ := State.setEvt_writes s f
  rw [e]
@[simp] theorem State.setEvt_syncOut (f : Fld) : (s.setEvt f).syncOut = s.syncOut := by
  obtain ⟨_, _, e⟩ := State.setEvt_writes s f
  rw [e]
@[simp] theorem State.setEvt_pose (f : Fld) : (s.setEvt f).pose = s.pose := by
  obtain ⟨_, _, e⟩ := State.setEvt_writes s f
  rw [e]
@[simp] theorem State.setEvt_imu (f : Fld) : (s.setEvt f).imu = s.imu := by
  obtain ⟨_, _, e⟩ := State.setEvt_writes s f
  rw [e]
@[simp] theorem State.setEvt_trav (f : Fld) : (s.setEvt f).trav = s.trav := by
  obtain ⟨_, _, e⟩ := State.setEvt_writes s f
  rw [e]
@[simp] theorem State.setEvt_fpe (f : Fld) : (s.setEvt f).fpe = s.fpe := by
  obtain ⟨_, _, e⟩ := State.setEvt_writes s f
  rw [e]
@[simp] theorem State.setEvt_gnss (f : Fld) : (s.setEvt f).gnss = s.gnss := by
  obtain ⟨_, _, e⟩ := State.setEvt_writes s f
  rw [e]
@[simp] theorem State.setEvt_time (f : Fld) : (s.setEvt f).time = s.time := by
  obtain ⟨_, _, e⟩ := State.setEvt_writes s f
  rw [e]
@[simp] theorem State.setEvt_map (f : Fld) : (s.setEvt f).map = s.map := by
  obtain ⟨_, _, e⟩ := State.setEvt_writes s f
  rw [e]
@[simp] theorem State.setEvt_ports (f : Fld) : (s.setEvt f).ports = s.ports := by
  obtain ⟨_, _, e⟩ := State.setEvt_writes s f
  rw [e]
@[simp] theorem State.setEvt_ring (f : Fld) : (s.setEvt f).ring = s.ring := by
  obtain ⟨_, _, e⟩ := State.setEvt_writes s f
  rw [e]
@[simp] theorem State.setEvt_rtime (f : Fld) : (s.setEvt f).rtime = s.rtime := by
  obtain ⟨_, _, e⟩ := State.setEvt_writes s f
  rw [e]
@[simp] theorem State.setEvt_rtun (f : Fld) : (s.setEvt f).rtun = s.rtun := by
  obtain ⟨_, _, e⟩ := State.setEvt_writes s f
  rw [e]
@[simp] theorem State.setEvt_hostTx (f : Fld) : (s.setEvt f).hostTx = s.hostTx := by
  obtain ⟨_, _, e⟩ := State.setEvt_writes s f
  rw [e]
@[simp] theorem State.setEvt_lastRead (f : Fld) : (s.setEvt f).lastRead = s.lastRead := by
  obtain ⟨_, _, e⟩ := State.setEvt_writes s f
  rw [e]
@[simp] theorem State.setEvt_tdo (f : Fld) : (s.setEvt f).tdo = s.tdo := by
  obtain ⟨_, _, e⟩ := State.setEvt_writes s f
  rw [e]
@[simp] theorem State.setEvt_extest (f : Fld) : (s.setEvt f).extest = s.extest := by
  obtain ⟨_, _, e⟩ := State.setEvt_writes s f
  rw [e]

/-- Everything `setFault` can write. -/
theorem State.setFault_writes (p : Nat) :
    ∃ r l, s.setFault p = { s with regs := r, hirqLow := l } := by
  unfold State.setFault
  dsimp only
  split
  · exact ⟨s.regs, s.hirqLow, rfl⟩
  · obtain ⟨r, h, e⟩ := State.setRaw_writes (s.setReg (hdr p HDR.PG_STAT) (s.reg (hdr p HDR.PG_STAT) ||| 1)) p 16
    exact ⟨r, h, e.trans rfl⟩

@[simp] theorem State.setFault_pending (p : Nat) : (s.setFault p).pending = s.pending := by
  obtain ⟨_, _, e⟩ := State.setFault_writes s p
  rw [e]
@[simp] theorem State.setFault_now (p : Nat) : (s.setFault p).now = s.now := by
  obtain ⟨_, _, e⟩ := State.setFault_writes s p
  rw [e]
@[simp] theorem State.setFault_member (p : Nat) : (s.setFault p).member = s.member := by
  obtain ⟨_, _, e⟩ := State.setFault_writes s p
  rw [e]
@[simp] theorem State.setFault_dev (p : Nat) : (s.setFault p).dev = s.dev := by
  obtain ⟨_, _, e⟩ := State.setFault_writes s p
  rw [e]
@[simp] theorem State.setFault_prev (p : Nat) : (s.setFault p).prev = s.prev := by
  obtain ⟨_, _, e⟩ := State.setFault_writes s p
  rw [e]
@[simp] theorem State.setFault_devAt (p : Nat) : (s.setFault p).devAt = s.devAt := by
  obtain ⟨_, _, e⟩ := State.setFault_writes s p
  rw [e]
@[simp] theorem State.setFault_devLog (p : Nat) : (s.setFault p).devLog = s.devLog := by
  obtain ⟨_, _, e⟩ := State.setFault_writes s p
  rw [e]
@[simp] theorem State.setFault_frozen (p : Nat) : (s.setFault p).frozen = s.frozen := by
  obtain ⟨_, _, e⟩ := State.setFault_writes s p
  rw [e]
@[simp] theorem State.setFault_held (p : Nat) : (s.setFault p).held = s.held := by
  obtain ⟨_, _, e⟩ := State.setFault_writes s p
  rw [e]
@[simp] theorem State.setFault_freeIdx (p : Nat) : (s.setFault p).freeIdx = s.freeIdx := by
  obtain ⟨_, _, e⟩ := State.setFault_writes s p
  rw [e]
@[simp] theorem State.setFault_firstSeen (p : Nat) : (s.setFault p).firstSeen = s.firstSeen := by
  obtain ⟨_, _, e⟩ := State.setFault_writes s p
  rw [e]
@[simp] theorem State.setFault_pfail (p : Nat) : (s.setFault p).pfail = s.pfail := by
  obtain ⟨_, _, e⟩ := State.setFault_writes s p
  rw [e]
@[simp] theorem State.setFault_pfailBalls (p : Nat) : (s.setFault p).pfailBalls = s.pfailBalls := by
  obtain ⟨_, _, e⟩ := State.setFault_writes s p
  rw [e]
@[simp] theorem State.setFault_clockLost (p : Nat) : (s.setFault p).clockLost = s.clockLost := by
  obtain ⟨_, _, e⟩ := State.setFault_writes s p
  rw [e]
@[simp] theorem State.setFault_supplySafe (p : Nat) : (s.setFault p).supplySafe = s.supplySafe := by
  obtain ⟨_, _, e⟩ := State.setFault_writes s p
  rw [e]
@[simp] theorem State.setFault_inRange (p : Nat) : (s.setFault p).inRange = s.inRange := by
  obtain ⟨_, _, e⟩ := State.setFault_writes s p
  rw [e]
@[simp] theorem State.setFault_idleDrain (p : Nat) : (s.setFault p).idleDrain = s.idleDrain := by
  obtain ⟨_, _, e⟩ := State.setFault_writes s p
  rw [e]
@[simp] theorem State.setFault_ctrlDue (p : Nat) : (s.setFault p).ctrlDue = s.ctrlDue := by
  obtain ⟨_, _, e⟩ := State.setFault_writes s p
  rw [e]
@[simp] theorem State.setFault_waking (p : Nat) : (s.setFault p).waking = s.waking := by
  obtain ⟨_, _, e⟩ := State.setFault_writes s p
  rw [e]
@[simp] theorem State.setFault_patchOk (p : Nat) : (s.setFault p).patchOk = s.patchOk := by
  obtain ⟨_, _, e⟩ := State.setFault_writes s p
  rw [e]
@[simp] theorem State.setFault_checking (p : Nat) : (s.setFault p).checking = s.checking := by
  obtain ⟨_, _, e⟩ := State.setFault_writes s p
  rw [e]
@[simp] theorem State.setFault_sealExp (p : Nat) : (s.setFault p).sealExp = s.sealExp := by
  obtain ⟨_, _, e⟩ := State.setFault_writes s p
  rw [e]
@[simp] theorem State.setFault_sealSnap (p : Nat) : (s.setFault p).sealSnap = s.sealSnap := by
  obtain ⟨_, _, e⟩ := State.setFault_writes s p
  rw [e]
@[simp] theorem State.setFault_sealFail (p : Nat) : (s.setFault p).sealFail = s.sealFail := by
  obtain ⟨_, _, e⟩ := State.setFault_writes s p
  rw [e]
@[simp] theorem State.setFault_spdRun (p : Nat) : (s.setFault p).spdRun = s.spdRun := by
  obtain ⟨_, _, e⟩ := State.setFault_writes s p
  rw [e]
@[simp] theorem State.setFault_qualLow (p : Nat) : (s.setFault p).qualLow = s.qualLow := by
  obtain ⟨_, _, e⟩ := State.setFault_writes s p
  rw [e]
@[simp] theorem State.setFault_romFail (p : Nat) : (s.setFault p).romFail = s.romFail := by
  obtain ⟨_, _, e⟩ := State.setFault_writes s p
  rw [e]
@[simp] theorem State.setFault_tempSeen (p : Nat) : (s.setFault p).tempSeen = s.tempSeen := by
  obtain ⟨_, _, e⟩ := State.setFault_writes s p
  rw [e]
@[simp] theorem State.setFault_yew (p : Nat) : (s.setFault p).yew = s.yew := by
  obtain ⟨_, _, e⟩ := State.setFault_writes s p
  rw [e]
@[simp] theorem State.setFault_yewPort (p : Nat) : (s.setFault p).yewPort = s.yewPort := by
  obtain ⟨_, _, e⟩ := State.setFault_writes s p
  rw [e]
@[simp] theorem State.setFault_yewCfg (p : Nat) : (s.setFault p).yewCfg = s.yewCfg := by
  obtain ⟨_, _, e⟩ := State.setFault_writes s p
  rw [e]
@[simp] theorem State.setFault_hq (p : Nat) : (s.setFault p).hq = s.hq := by
  obtain ⟨_, _, e⟩ := State.setFault_writes s p
  rw [e]
@[simp] theorem State.setFault_cmpl (p : Nat) : (s.setFault p).cmpl = s.cmpl := by
  obtain ⟨_, _, e⟩ := State.setFault_writes s p
  rw [e]
@[simp] theorem State.setFault_cmplWait (p : Nat) : (s.setFault p).cmplWait = s.cmplWait := by
  obtain ⟨_, _, e⟩ := State.setFault_writes s p
  rw [e]
@[simp] theorem State.setFault_dropQ (p : Nat) : (s.setFault p).dropQ = s.dropQ := by
  obtain ⟨_, _, e⟩ := State.setFault_writes s p
  rw [e]
@[simp] theorem State.setFault_hirqRose (p : Nat) : (s.setFault p).hirqRose = s.hirqRose := by
  obtain ⟨_, _, e⟩ := State.setFault_writes s p
  rw [e]
@[simp] theorem State.setFault_mbox (p : Nat) : (s.setFault p).mbox = s.mbox := by
  obtain ⟨_, _, e⟩ := State.setFault_writes s p
  rw [e]
@[simp] theorem State.setFault_nor (p : Nat) : (s.setFault p).nor = s.nor := by
  obtain ⟨_, _, e⟩ := State.setFault_writes s p
  rw [e]
@[simp] theorem State.setFault_laurel (p : Nat) : (s.setFault p).laurel = s.laurel := by
  obtain ⟨_, _, e⟩ := State.setFault_writes s p
  rw [e]
@[simp] theorem State.setFault_lanes (p : Nat) : (s.setFault p).lanes = s.lanes := by
  obtain ⟨_, _, e⟩ := State.setFault_writes s p
  rw [e]
@[simp] theorem State.setFault_banks (p : Nat) : (s.setFault p).banks = s.banks := by
  obtain ⟨_, _, e⟩ := State.setFault_writes s p
  rw [e]
@[simp] theorem State.setFault_pwm (p : Nat) : (s.setFault p).pwm = s.pwm := by
  obtain ⟨_, _, e⟩ := State.setFault_writes s p
  rw [e]
@[simp] theorem State.setFault_eng (p : Nat) : (s.setFault p).eng = s.eng := by
  obtain ⟨_, _, e⟩ := State.setFault_writes s p
  rw [e]
@[simp] theorem State.setFault_fbk (p : Nat) : (s.setFault p).fbk = s.fbk := by
  obtain ⟨_, _, e⟩ := State.setFault_writes s p
  rw [e]
@[simp] theorem State.setFault_syncIn (p : Nat) : (s.setFault p).syncIn = s.syncIn := by
  obtain ⟨_, _, e⟩ := State.setFault_writes s p
  rw [e]
@[simp] theorem State.setFault_syncOut (p : Nat) : (s.setFault p).syncOut = s.syncOut := by
  obtain ⟨_, _, e⟩ := State.setFault_writes s p
  rw [e]
@[simp] theorem State.setFault_pose (p : Nat) : (s.setFault p).pose = s.pose := by
  obtain ⟨_, _, e⟩ := State.setFault_writes s p
  rw [e]
@[simp] theorem State.setFault_imu (p : Nat) : (s.setFault p).imu = s.imu := by
  obtain ⟨_, _, e⟩ := State.setFault_writes s p
  rw [e]
@[simp] theorem State.setFault_trav (p : Nat) : (s.setFault p).trav = s.trav := by
  obtain ⟨_, _, e⟩ := State.setFault_writes s p
  rw [e]
@[simp] theorem State.setFault_fpe (p : Nat) : (s.setFault p).fpe = s.fpe := by
  obtain ⟨_, _, e⟩ := State.setFault_writes s p
  rw [e]
@[simp] theorem State.setFault_gnss (p : Nat) : (s.setFault p).gnss = s.gnss := by
  obtain ⟨_, _, e⟩ := State.setFault_writes s p
  rw [e]
@[simp] theorem State.setFault_time (p : Nat) : (s.setFault p).time = s.time := by
  obtain ⟨_, _, e⟩ := State.setFault_writes s p
  rw [e]
@[simp] theorem State.setFault_map (p : Nat) : (s.setFault p).map = s.map := by
  obtain ⟨_, _, e⟩ := State.setFault_writes s p
  rw [e]
@[simp] theorem State.setFault_ports (p : Nat) : (s.setFault p).ports = s.ports := by
  obtain ⟨_, _, e⟩ := State.setFault_writes s p
  rw [e]
@[simp] theorem State.setFault_ring (p : Nat) : (s.setFault p).ring = s.ring := by
  obtain ⟨_, _, e⟩ := State.setFault_writes s p
  rw [e]
@[simp] theorem State.setFault_rtime (p : Nat) : (s.setFault p).rtime = s.rtime := by
  obtain ⟨_, _, e⟩ := State.setFault_writes s p
  rw [e]
@[simp] theorem State.setFault_rtun (p : Nat) : (s.setFault p).rtun = s.rtun := by
  obtain ⟨_, _, e⟩ := State.setFault_writes s p
  rw [e]
@[simp] theorem State.setFault_hostTx (p : Nat) : (s.setFault p).hostTx = s.hostTx := by
  obtain ⟨_, _, e⟩ := State.setFault_writes s p
  rw [e]
@[simp] theorem State.setFault_lastRead (p : Nat) : (s.setFault p).lastRead = s.lastRead := by
  obtain ⟨_, _, e⟩ := State.setFault_writes s p
  rw [e]
@[simp] theorem State.setFault_tdo (p : Nat) : (s.setFault p).tdo = s.tdo := by
  obtain ⟨_, _, e⟩ := State.setFault_writes s p
  rw [e]
@[simp] theorem State.setFault_extest (p : Nat) : (s.setFault p).extest = s.extest := by
  obtain ⟨_, _, e⟩ := State.setFault_writes s p
  rw [e]

/-- Everything `setDrained` can write. -/
theorem State.setDrained_writes (p : Nat) :
    ∃ r l, s.setDrained p = { s with regs := r, hirqLow := l } := by
  unfold State.setDrained
  dsimp only
  split
  · exact ⟨s.regs, s.hirqLow, rfl⟩
  · obtain ⟨r, h, e⟩ := State.setRaw_writes (s.setReg (hdr p HDR.PG_STAT) (s.reg (hdr p HDR.PG_STAT) ||| 2)) p 17
    exact ⟨r, h, e.trans rfl⟩

@[simp] theorem State.setDrained_pending (p : Nat) : (s.setDrained p).pending = s.pending := by
  obtain ⟨_, _, e⟩ := State.setDrained_writes s p
  rw [e]
@[simp] theorem State.setDrained_now (p : Nat) : (s.setDrained p).now = s.now := by
  obtain ⟨_, _, e⟩ := State.setDrained_writes s p
  rw [e]
@[simp] theorem State.setDrained_member (p : Nat) : (s.setDrained p).member = s.member := by
  obtain ⟨_, _, e⟩ := State.setDrained_writes s p
  rw [e]
@[simp] theorem State.setDrained_dev (p : Nat) : (s.setDrained p).dev = s.dev := by
  obtain ⟨_, _, e⟩ := State.setDrained_writes s p
  rw [e]
@[simp] theorem State.setDrained_prev (p : Nat) : (s.setDrained p).prev = s.prev := by
  obtain ⟨_, _, e⟩ := State.setDrained_writes s p
  rw [e]
@[simp] theorem State.setDrained_devAt (p : Nat) : (s.setDrained p).devAt = s.devAt := by
  obtain ⟨_, _, e⟩ := State.setDrained_writes s p
  rw [e]
@[simp] theorem State.setDrained_devLog (p : Nat) : (s.setDrained p).devLog = s.devLog := by
  obtain ⟨_, _, e⟩ := State.setDrained_writes s p
  rw [e]
@[simp] theorem State.setDrained_frozen (p : Nat) : (s.setDrained p).frozen = s.frozen := by
  obtain ⟨_, _, e⟩ := State.setDrained_writes s p
  rw [e]
@[simp] theorem State.setDrained_held (p : Nat) : (s.setDrained p).held = s.held := by
  obtain ⟨_, _, e⟩ := State.setDrained_writes s p
  rw [e]
@[simp] theorem State.setDrained_freeIdx (p : Nat) : (s.setDrained p).freeIdx = s.freeIdx := by
  obtain ⟨_, _, e⟩ := State.setDrained_writes s p
  rw [e]
@[simp] theorem State.setDrained_firstSeen (p : Nat) : (s.setDrained p).firstSeen = s.firstSeen := by
  obtain ⟨_, _, e⟩ := State.setDrained_writes s p
  rw [e]
@[simp] theorem State.setDrained_pfail (p : Nat) : (s.setDrained p).pfail = s.pfail := by
  obtain ⟨_, _, e⟩ := State.setDrained_writes s p
  rw [e]
@[simp] theorem State.setDrained_pfailBalls (p : Nat) : (s.setDrained p).pfailBalls = s.pfailBalls := by
  obtain ⟨_, _, e⟩ := State.setDrained_writes s p
  rw [e]
@[simp] theorem State.setDrained_clockLost (p : Nat) : (s.setDrained p).clockLost = s.clockLost := by
  obtain ⟨_, _, e⟩ := State.setDrained_writes s p
  rw [e]
@[simp] theorem State.setDrained_supplySafe (p : Nat) : (s.setDrained p).supplySafe = s.supplySafe := by
  obtain ⟨_, _, e⟩ := State.setDrained_writes s p
  rw [e]
@[simp] theorem State.setDrained_inRange (p : Nat) : (s.setDrained p).inRange = s.inRange := by
  obtain ⟨_, _, e⟩ := State.setDrained_writes s p
  rw [e]
@[simp] theorem State.setDrained_idleDrain (p : Nat) : (s.setDrained p).idleDrain = s.idleDrain := by
  obtain ⟨_, _, e⟩ := State.setDrained_writes s p
  rw [e]
@[simp] theorem State.setDrained_ctrlDue (p : Nat) : (s.setDrained p).ctrlDue = s.ctrlDue := by
  obtain ⟨_, _, e⟩ := State.setDrained_writes s p
  rw [e]
@[simp] theorem State.setDrained_waking (p : Nat) : (s.setDrained p).waking = s.waking := by
  obtain ⟨_, _, e⟩ := State.setDrained_writes s p
  rw [e]
@[simp] theorem State.setDrained_patchOk (p : Nat) : (s.setDrained p).patchOk = s.patchOk := by
  obtain ⟨_, _, e⟩ := State.setDrained_writes s p
  rw [e]
@[simp] theorem State.setDrained_checking (p : Nat) : (s.setDrained p).checking = s.checking := by
  obtain ⟨_, _, e⟩ := State.setDrained_writes s p
  rw [e]
@[simp] theorem State.setDrained_sealExp (p : Nat) : (s.setDrained p).sealExp = s.sealExp := by
  obtain ⟨_, _, e⟩ := State.setDrained_writes s p
  rw [e]
@[simp] theorem State.setDrained_sealSnap (p : Nat) : (s.setDrained p).sealSnap = s.sealSnap := by
  obtain ⟨_, _, e⟩ := State.setDrained_writes s p
  rw [e]
@[simp] theorem State.setDrained_sealFail (p : Nat) : (s.setDrained p).sealFail = s.sealFail := by
  obtain ⟨_, _, e⟩ := State.setDrained_writes s p
  rw [e]
@[simp] theorem State.setDrained_spdRun (p : Nat) : (s.setDrained p).spdRun = s.spdRun := by
  obtain ⟨_, _, e⟩ := State.setDrained_writes s p
  rw [e]
@[simp] theorem State.setDrained_qualLow (p : Nat) : (s.setDrained p).qualLow = s.qualLow := by
  obtain ⟨_, _, e⟩ := State.setDrained_writes s p
  rw [e]
@[simp] theorem State.setDrained_romFail (p : Nat) : (s.setDrained p).romFail = s.romFail := by
  obtain ⟨_, _, e⟩ := State.setDrained_writes s p
  rw [e]
@[simp] theorem State.setDrained_tempSeen (p : Nat) : (s.setDrained p).tempSeen = s.tempSeen := by
  obtain ⟨_, _, e⟩ := State.setDrained_writes s p
  rw [e]
@[simp] theorem State.setDrained_yew (p : Nat) : (s.setDrained p).yew = s.yew := by
  obtain ⟨_, _, e⟩ := State.setDrained_writes s p
  rw [e]
@[simp] theorem State.setDrained_yewPort (p : Nat) : (s.setDrained p).yewPort = s.yewPort := by
  obtain ⟨_, _, e⟩ := State.setDrained_writes s p
  rw [e]
@[simp] theorem State.setDrained_yewCfg (p : Nat) : (s.setDrained p).yewCfg = s.yewCfg := by
  obtain ⟨_, _, e⟩ := State.setDrained_writes s p
  rw [e]
@[simp] theorem State.setDrained_hq (p : Nat) : (s.setDrained p).hq = s.hq := by
  obtain ⟨_, _, e⟩ := State.setDrained_writes s p
  rw [e]
@[simp] theorem State.setDrained_cmpl (p : Nat) : (s.setDrained p).cmpl = s.cmpl := by
  obtain ⟨_, _, e⟩ := State.setDrained_writes s p
  rw [e]
@[simp] theorem State.setDrained_cmplWait (p : Nat) : (s.setDrained p).cmplWait = s.cmplWait := by
  obtain ⟨_, _, e⟩ := State.setDrained_writes s p
  rw [e]
@[simp] theorem State.setDrained_dropQ (p : Nat) : (s.setDrained p).dropQ = s.dropQ := by
  obtain ⟨_, _, e⟩ := State.setDrained_writes s p
  rw [e]
@[simp] theorem State.setDrained_hirqRose (p : Nat) : (s.setDrained p).hirqRose = s.hirqRose := by
  obtain ⟨_, _, e⟩ := State.setDrained_writes s p
  rw [e]
@[simp] theorem State.setDrained_mbox (p : Nat) : (s.setDrained p).mbox = s.mbox := by
  obtain ⟨_, _, e⟩ := State.setDrained_writes s p
  rw [e]
@[simp] theorem State.setDrained_nor (p : Nat) : (s.setDrained p).nor = s.nor := by
  obtain ⟨_, _, e⟩ := State.setDrained_writes s p
  rw [e]
@[simp] theorem State.setDrained_laurel (p : Nat) : (s.setDrained p).laurel = s.laurel := by
  obtain ⟨_, _, e⟩ := State.setDrained_writes s p
  rw [e]
@[simp] theorem State.setDrained_lanes (p : Nat) : (s.setDrained p).lanes = s.lanes := by
  obtain ⟨_, _, e⟩ := State.setDrained_writes s p
  rw [e]
@[simp] theorem State.setDrained_banks (p : Nat) : (s.setDrained p).banks = s.banks := by
  obtain ⟨_, _, e⟩ := State.setDrained_writes s p
  rw [e]
@[simp] theorem State.setDrained_pwm (p : Nat) : (s.setDrained p).pwm = s.pwm := by
  obtain ⟨_, _, e⟩ := State.setDrained_writes s p
  rw [e]
@[simp] theorem State.setDrained_eng (p : Nat) : (s.setDrained p).eng = s.eng := by
  obtain ⟨_, _, e⟩ := State.setDrained_writes s p
  rw [e]
@[simp] theorem State.setDrained_fbk (p : Nat) : (s.setDrained p).fbk = s.fbk := by
  obtain ⟨_, _, e⟩ := State.setDrained_writes s p
  rw [e]
@[simp] theorem State.setDrained_syncIn (p : Nat) : (s.setDrained p).syncIn = s.syncIn := by
  obtain ⟨_, _, e⟩ := State.setDrained_writes s p
  rw [e]
@[simp] theorem State.setDrained_syncOut (p : Nat) : (s.setDrained p).syncOut = s.syncOut := by
  obtain ⟨_, _, e⟩ := State.setDrained_writes s p
  rw [e]
@[simp] theorem State.setDrained_pose (p : Nat) : (s.setDrained p).pose = s.pose := by
  obtain ⟨_, _, e⟩ := State.setDrained_writes s p
  rw [e]
@[simp] theorem State.setDrained_imu (p : Nat) : (s.setDrained p).imu = s.imu := by
  obtain ⟨_, _, e⟩ := State.setDrained_writes s p
  rw [e]
@[simp] theorem State.setDrained_trav (p : Nat) : (s.setDrained p).trav = s.trav := by
  obtain ⟨_, _, e⟩ := State.setDrained_writes s p
  rw [e]
@[simp] theorem State.setDrained_fpe (p : Nat) : (s.setDrained p).fpe = s.fpe := by
  obtain ⟨_, _, e⟩ := State.setDrained_writes s p
  rw [e]
@[simp] theorem State.setDrained_gnss (p : Nat) : (s.setDrained p).gnss = s.gnss := by
  obtain ⟨_, _, e⟩ := State.setDrained_writes s p
  rw [e]
@[simp] theorem State.setDrained_time (p : Nat) : (s.setDrained p).time = s.time := by
  obtain ⟨_, _, e⟩ := State.setDrained_writes s p
  rw [e]
@[simp] theorem State.setDrained_map (p : Nat) : (s.setDrained p).map = s.map := by
  obtain ⟨_, _, e⟩ := State.setDrained_writes s p
  rw [e]
@[simp] theorem State.setDrained_ports (p : Nat) : (s.setDrained p).ports = s.ports := by
  obtain ⟨_, _, e⟩ := State.setDrained_writes s p
  rw [e]
@[simp] theorem State.setDrained_ring (p : Nat) : (s.setDrained p).ring = s.ring := by
  obtain ⟨_, _, e⟩ := State.setDrained_writes s p
  rw [e]
@[simp] theorem State.setDrained_rtime (p : Nat) : (s.setDrained p).rtime = s.rtime := by
  obtain ⟨_, _, e⟩ := State.setDrained_writes s p
  rw [e]
@[simp] theorem State.setDrained_rtun (p : Nat) : (s.setDrained p).rtun = s.rtun := by
  obtain ⟨_, _, e⟩ := State.setDrained_writes s p
  rw [e]
@[simp] theorem State.setDrained_hostTx (p : Nat) : (s.setDrained p).hostTx = s.hostTx := by
  obtain ⟨_, _, e⟩ := State.setDrained_writes s p
  rw [e]
@[simp] theorem State.setDrained_lastRead (p : Nat) : (s.setDrained p).lastRead = s.lastRead := by
  obtain ⟨_, _, e⟩ := State.setDrained_writes s p
  rw [e]
@[simp] theorem State.setDrained_tdo (p : Nat) : (s.setDrained p).tdo = s.tdo := by
  obtain ⟨_, _, e⟩ := State.setDrained_writes s p
  rw [e]
@[simp] theorem State.setDrained_extest (p : Nat) : (s.setDrained p).extest = s.extest := by
  obtain ⟨_, _, e⟩ := State.setDrained_writes s p
  rw [e]

/-- Everything `faultFor` can write. -/
theorem State.faultFor_writes (c : RecCode) (p : Nat) :
    ∃ r l, s.faultFor c p = { s with regs := r, hirqLow := l } := by
  unfold State.faultFor
  split
  · exact State.setFault_writes s p
  · exact ⟨s.regs, s.hirqLow, rfl⟩

@[simp] theorem State.faultFor_pending (c : RecCode) (p : Nat) : (s.faultFor c p).pending = s.pending := by
  obtain ⟨_, _, e⟩ := State.faultFor_writes s c p
  rw [e]
@[simp] theorem State.faultFor_now (c : RecCode) (p : Nat) : (s.faultFor c p).now = s.now := by
  obtain ⟨_, _, e⟩ := State.faultFor_writes s c p
  rw [e]
@[simp] theorem State.faultFor_member (c : RecCode) (p : Nat) : (s.faultFor c p).member = s.member := by
  obtain ⟨_, _, e⟩ := State.faultFor_writes s c p
  rw [e]
@[simp] theorem State.faultFor_dev (c : RecCode) (p : Nat) : (s.faultFor c p).dev = s.dev := by
  obtain ⟨_, _, e⟩ := State.faultFor_writes s c p
  rw [e]
@[simp] theorem State.faultFor_prev (c : RecCode) (p : Nat) : (s.faultFor c p).prev = s.prev := by
  obtain ⟨_, _, e⟩ := State.faultFor_writes s c p
  rw [e]
@[simp] theorem State.faultFor_devAt (c : RecCode) (p : Nat) : (s.faultFor c p).devAt = s.devAt := by
  obtain ⟨_, _, e⟩ := State.faultFor_writes s c p
  rw [e]
@[simp] theorem State.faultFor_devLog (c : RecCode) (p : Nat) : (s.faultFor c p).devLog = s.devLog := by
  obtain ⟨_, _, e⟩ := State.faultFor_writes s c p
  rw [e]
@[simp] theorem State.faultFor_frozen (c : RecCode) (p : Nat) : (s.faultFor c p).frozen = s.frozen := by
  obtain ⟨_, _, e⟩ := State.faultFor_writes s c p
  rw [e]
@[simp] theorem State.faultFor_held (c : RecCode) (p : Nat) : (s.faultFor c p).held = s.held := by
  obtain ⟨_, _, e⟩ := State.faultFor_writes s c p
  rw [e]
@[simp] theorem State.faultFor_freeIdx (c : RecCode) (p : Nat) : (s.faultFor c p).freeIdx = s.freeIdx := by
  obtain ⟨_, _, e⟩ := State.faultFor_writes s c p
  rw [e]
@[simp] theorem State.faultFor_firstSeen (c : RecCode) (p : Nat) : (s.faultFor c p).firstSeen = s.firstSeen := by
  obtain ⟨_, _, e⟩ := State.faultFor_writes s c p
  rw [e]
@[simp] theorem State.faultFor_pfail (c : RecCode) (p : Nat) : (s.faultFor c p).pfail = s.pfail := by
  obtain ⟨_, _, e⟩ := State.faultFor_writes s c p
  rw [e]
@[simp] theorem State.faultFor_pfailBalls (c : RecCode) (p : Nat) : (s.faultFor c p).pfailBalls = s.pfailBalls := by
  obtain ⟨_, _, e⟩ := State.faultFor_writes s c p
  rw [e]
@[simp] theorem State.faultFor_clockLost (c : RecCode) (p : Nat) : (s.faultFor c p).clockLost = s.clockLost := by
  obtain ⟨_, _, e⟩ := State.faultFor_writes s c p
  rw [e]
@[simp] theorem State.faultFor_supplySafe (c : RecCode) (p : Nat) : (s.faultFor c p).supplySafe = s.supplySafe := by
  obtain ⟨_, _, e⟩ := State.faultFor_writes s c p
  rw [e]
@[simp] theorem State.faultFor_inRange (c : RecCode) (p : Nat) : (s.faultFor c p).inRange = s.inRange := by
  obtain ⟨_, _, e⟩ := State.faultFor_writes s c p
  rw [e]
@[simp] theorem State.faultFor_idleDrain (c : RecCode) (p : Nat) : (s.faultFor c p).idleDrain = s.idleDrain := by
  obtain ⟨_, _, e⟩ := State.faultFor_writes s c p
  rw [e]
@[simp] theorem State.faultFor_ctrlDue (c : RecCode) (p : Nat) : (s.faultFor c p).ctrlDue = s.ctrlDue := by
  obtain ⟨_, _, e⟩ := State.faultFor_writes s c p
  rw [e]
@[simp] theorem State.faultFor_waking (c : RecCode) (p : Nat) : (s.faultFor c p).waking = s.waking := by
  obtain ⟨_, _, e⟩ := State.faultFor_writes s c p
  rw [e]
@[simp] theorem State.faultFor_patchOk (c : RecCode) (p : Nat) : (s.faultFor c p).patchOk = s.patchOk := by
  obtain ⟨_, _, e⟩ := State.faultFor_writes s c p
  rw [e]
@[simp] theorem State.faultFor_checking (c : RecCode) (p : Nat) : (s.faultFor c p).checking = s.checking := by
  obtain ⟨_, _, e⟩ := State.faultFor_writes s c p
  rw [e]
@[simp] theorem State.faultFor_sealExp (c : RecCode) (p : Nat) : (s.faultFor c p).sealExp = s.sealExp := by
  obtain ⟨_, _, e⟩ := State.faultFor_writes s c p
  rw [e]
@[simp] theorem State.faultFor_sealSnap (c : RecCode) (p : Nat) : (s.faultFor c p).sealSnap = s.sealSnap := by
  obtain ⟨_, _, e⟩ := State.faultFor_writes s c p
  rw [e]
@[simp] theorem State.faultFor_sealFail (c : RecCode) (p : Nat) : (s.faultFor c p).sealFail = s.sealFail := by
  obtain ⟨_, _, e⟩ := State.faultFor_writes s c p
  rw [e]
@[simp] theorem State.faultFor_spdRun (c : RecCode) (p : Nat) : (s.faultFor c p).spdRun = s.spdRun := by
  obtain ⟨_, _, e⟩ := State.faultFor_writes s c p
  rw [e]
@[simp] theorem State.faultFor_qualLow (c : RecCode) (p : Nat) : (s.faultFor c p).qualLow = s.qualLow := by
  obtain ⟨_, _, e⟩ := State.faultFor_writes s c p
  rw [e]
@[simp] theorem State.faultFor_romFail (c : RecCode) (p : Nat) : (s.faultFor c p).romFail = s.romFail := by
  obtain ⟨_, _, e⟩ := State.faultFor_writes s c p
  rw [e]
@[simp] theorem State.faultFor_tempSeen (c : RecCode) (p : Nat) : (s.faultFor c p).tempSeen = s.tempSeen := by
  obtain ⟨_, _, e⟩ := State.faultFor_writes s c p
  rw [e]
@[simp] theorem State.faultFor_yew (c : RecCode) (p : Nat) : (s.faultFor c p).yew = s.yew := by
  obtain ⟨_, _, e⟩ := State.faultFor_writes s c p
  rw [e]
@[simp] theorem State.faultFor_yewPort (c : RecCode) (p : Nat) : (s.faultFor c p).yewPort = s.yewPort := by
  obtain ⟨_, _, e⟩ := State.faultFor_writes s c p
  rw [e]
@[simp] theorem State.faultFor_yewCfg (c : RecCode) (p : Nat) : (s.faultFor c p).yewCfg = s.yewCfg := by
  obtain ⟨_, _, e⟩ := State.faultFor_writes s c p
  rw [e]
@[simp] theorem State.faultFor_hq (c : RecCode) (p : Nat) : (s.faultFor c p).hq = s.hq := by
  obtain ⟨_, _, e⟩ := State.faultFor_writes s c p
  rw [e]
@[simp] theorem State.faultFor_cmpl (c : RecCode) (p : Nat) : (s.faultFor c p).cmpl = s.cmpl := by
  obtain ⟨_, _, e⟩ := State.faultFor_writes s c p
  rw [e]
@[simp] theorem State.faultFor_cmplWait (c : RecCode) (p : Nat) : (s.faultFor c p).cmplWait = s.cmplWait := by
  obtain ⟨_, _, e⟩ := State.faultFor_writes s c p
  rw [e]
@[simp] theorem State.faultFor_dropQ (c : RecCode) (p : Nat) : (s.faultFor c p).dropQ = s.dropQ := by
  obtain ⟨_, _, e⟩ := State.faultFor_writes s c p
  rw [e]
@[simp] theorem State.faultFor_hirqRose (c : RecCode) (p : Nat) : (s.faultFor c p).hirqRose = s.hirqRose := by
  obtain ⟨_, _, e⟩ := State.faultFor_writes s c p
  rw [e]
@[simp] theorem State.faultFor_mbox (c : RecCode) (p : Nat) : (s.faultFor c p).mbox = s.mbox := by
  obtain ⟨_, _, e⟩ := State.faultFor_writes s c p
  rw [e]
@[simp] theorem State.faultFor_nor (c : RecCode) (p : Nat) : (s.faultFor c p).nor = s.nor := by
  obtain ⟨_, _, e⟩ := State.faultFor_writes s c p
  rw [e]
@[simp] theorem State.faultFor_laurel (c : RecCode) (p : Nat) : (s.faultFor c p).laurel = s.laurel := by
  obtain ⟨_, _, e⟩ := State.faultFor_writes s c p
  rw [e]
@[simp] theorem State.faultFor_lanes (c : RecCode) (p : Nat) : (s.faultFor c p).lanes = s.lanes := by
  obtain ⟨_, _, e⟩ := State.faultFor_writes s c p
  rw [e]
@[simp] theorem State.faultFor_banks (c : RecCode) (p : Nat) : (s.faultFor c p).banks = s.banks := by
  obtain ⟨_, _, e⟩ := State.faultFor_writes s c p
  rw [e]
@[simp] theorem State.faultFor_pwm (c : RecCode) (p : Nat) : (s.faultFor c p).pwm = s.pwm := by
  obtain ⟨_, _, e⟩ := State.faultFor_writes s c p
  rw [e]
@[simp] theorem State.faultFor_eng (c : RecCode) (p : Nat) : (s.faultFor c p).eng = s.eng := by
  obtain ⟨_, _, e⟩ := State.faultFor_writes s c p
  rw [e]
@[simp] theorem State.faultFor_fbk (c : RecCode) (p : Nat) : (s.faultFor c p).fbk = s.fbk := by
  obtain ⟨_, _, e⟩ := State.faultFor_writes s c p
  rw [e]
@[simp] theorem State.faultFor_syncIn (c : RecCode) (p : Nat) : (s.faultFor c p).syncIn = s.syncIn := by
  obtain ⟨_, _, e⟩ := State.faultFor_writes s c p
  rw [e]
@[simp] theorem State.faultFor_syncOut (c : RecCode) (p : Nat) : (s.faultFor c p).syncOut = s.syncOut := by
  obtain ⟨_, _, e⟩ := State.faultFor_writes s c p
  rw [e]
@[simp] theorem State.faultFor_pose (c : RecCode) (p : Nat) : (s.faultFor c p).pose = s.pose := by
  obtain ⟨_, _, e⟩ := State.faultFor_writes s c p
  rw [e]
@[simp] theorem State.faultFor_imu (c : RecCode) (p : Nat) : (s.faultFor c p).imu = s.imu := by
  obtain ⟨_, _, e⟩ := State.faultFor_writes s c p
  rw [e]
@[simp] theorem State.faultFor_trav (c : RecCode) (p : Nat) : (s.faultFor c p).trav = s.trav := by
  obtain ⟨_, _, e⟩ := State.faultFor_writes s c p
  rw [e]
@[simp] theorem State.faultFor_fpe (c : RecCode) (p : Nat) : (s.faultFor c p).fpe = s.fpe := by
  obtain ⟨_, _, e⟩ := State.faultFor_writes s c p
  rw [e]
@[simp] theorem State.faultFor_gnss (c : RecCode) (p : Nat) : (s.faultFor c p).gnss = s.gnss := by
  obtain ⟨_, _, e⟩ := State.faultFor_writes s c p
  rw [e]
@[simp] theorem State.faultFor_time (c : RecCode) (p : Nat) : (s.faultFor c p).time = s.time := by
  obtain ⟨_, _, e⟩ := State.faultFor_writes s c p
  rw [e]
@[simp] theorem State.faultFor_map (c : RecCode) (p : Nat) : (s.faultFor c p).map = s.map := by
  obtain ⟨_, _, e⟩ := State.faultFor_writes s c p
  rw [e]
@[simp] theorem State.faultFor_ports (c : RecCode) (p : Nat) : (s.faultFor c p).ports = s.ports := by
  obtain ⟨_, _, e⟩ := State.faultFor_writes s c p
  rw [e]
@[simp] theorem State.faultFor_ring (c : RecCode) (p : Nat) : (s.faultFor c p).ring = s.ring := by
  obtain ⟨_, _, e⟩ := State.faultFor_writes s c p
  rw [e]
@[simp] theorem State.faultFor_rtime (c : RecCode) (p : Nat) : (s.faultFor c p).rtime = s.rtime := by
  obtain ⟨_, _, e⟩ := State.faultFor_writes s c p
  rw [e]
@[simp] theorem State.faultFor_rtun (c : RecCode) (p : Nat) : (s.faultFor c p).rtun = s.rtun := by
  obtain ⟨_, _, e⟩ := State.faultFor_writes s c p
  rw [e]
@[simp] theorem State.faultFor_hostTx (c : RecCode) (p : Nat) : (s.faultFor c p).hostTx = s.hostTx := by
  obtain ⟨_, _, e⟩ := State.faultFor_writes s c p
  rw [e]
@[simp] theorem State.faultFor_lastRead (c : RecCode) (p : Nat) : (s.faultFor c p).lastRead = s.lastRead := by
  obtain ⟨_, _, e⟩ := State.faultFor_writes s c p
  rw [e]
@[simp] theorem State.faultFor_tdo (c : RecCode) (p : Nat) : (s.faultFor c p).tdo = s.tdo := by
  obtain ⟨_, _, e⟩ := State.faultFor_writes s c p
  rw [e]
@[simp] theorem State.faultFor_extest (c : RecCode) (p : Nat) : (s.faultFor c p).extest = s.extest := by
  obtain ⟨_, _, e⟩ := State.faultFor_writes s c p
  rw [e]

/-- Everything `recHalf` can write. -/
theorem State.recHalf_writes (h : Half) (c : RecCode) (p : Nat) (a b d : Word) :
    ∃ r l y, s.recHalf h c p a b d = { s with regs := r, hirqLow := l, yew := y } := by
  have key : ∀ (u : State) (f : Fld), (∃ r h y, u = { s with regs := r, hirqLow := h, yew := y }) →
      ∃ r h y, u.setEvt f = { s with regs := r, hirqLow := h, yew := y } := by
    rintro u f ⟨r, h, y, rfl⟩
    obtain ⟨r', h', e⟩ := State.setEvt_writes { s with regs := r, hirqLow := h, yew := y } f
    exact ⟨r', h', y, e.trans rfl⟩
  unfold State.recHalf
  dsimp only
  split
  · split
    · exact key _ _ ⟨s.regs, s.hirqLow, _, rfl⟩
    · split <;> split
      · exact key _ _ (key _ _ ⟨s.regs, s.hirqLow, _, rfl⟩)
      · exact key _ _ ⟨s.regs, s.hirqLow, _, rfl⟩
      · exact key _ _ ⟨s.regs, s.hirqLow, _, rfl⟩
      · exact ⟨s.regs, s.hirqLow, _, rfl⟩
  · exact key _ _ ⟨s.regs, s.hirqLow, _, rfl⟩

@[simp] theorem State.recHalf_pending (h : Half) (c : RecCode) (p : Nat) (a b d : Word) : (s.recHalf h c p a b d).pending = s.pending := by
  obtain ⟨_, _, _, e⟩ := State.recHalf_writes s h c p a b d
  rw [e]
@[simp] theorem State.recHalf_now (h : Half) (c : RecCode) (p : Nat) (a b d : Word) : (s.recHalf h c p a b d).now = s.now := by
  obtain ⟨_, _, _, e⟩ := State.recHalf_writes s h c p a b d
  rw [e]
@[simp] theorem State.recHalf_member (h : Half) (c : RecCode) (p : Nat) (a b d : Word) : (s.recHalf h c p a b d).member = s.member := by
  obtain ⟨_, _, _, e⟩ := State.recHalf_writes s h c p a b d
  rw [e]
@[simp] theorem State.recHalf_dev (h : Half) (c : RecCode) (p : Nat) (a b d : Word) : (s.recHalf h c p a b d).dev = s.dev := by
  obtain ⟨_, _, _, e⟩ := State.recHalf_writes s h c p a b d
  rw [e]
@[simp] theorem State.recHalf_prev (h : Half) (c : RecCode) (p : Nat) (a b d : Word) : (s.recHalf h c p a b d).prev = s.prev := by
  obtain ⟨_, _, _, e⟩ := State.recHalf_writes s h c p a b d
  rw [e]
@[simp] theorem State.recHalf_devAt (h : Half) (c : RecCode) (p : Nat) (a b d : Word) : (s.recHalf h c p a b d).devAt = s.devAt := by
  obtain ⟨_, _, _, e⟩ := State.recHalf_writes s h c p a b d
  rw [e]
@[simp] theorem State.recHalf_devLog (h : Half) (c : RecCode) (p : Nat) (a b d : Word) : (s.recHalf h c p a b d).devLog = s.devLog := by
  obtain ⟨_, _, _, e⟩ := State.recHalf_writes s h c p a b d
  rw [e]
@[simp] theorem State.recHalf_frozen (h : Half) (c : RecCode) (p : Nat) (a b d : Word) : (s.recHalf h c p a b d).frozen = s.frozen := by
  obtain ⟨_, _, _, e⟩ := State.recHalf_writes s h c p a b d
  rw [e]
@[simp] theorem State.recHalf_held (h : Half) (c : RecCode) (p : Nat) (a b d : Word) : (s.recHalf h c p a b d).held = s.held := by
  obtain ⟨_, _, _, e⟩ := State.recHalf_writes s h c p a b d
  rw [e]
@[simp] theorem State.recHalf_freeIdx (h : Half) (c : RecCode) (p : Nat) (a b d : Word) : (s.recHalf h c p a b d).freeIdx = s.freeIdx := by
  obtain ⟨_, _, _, e⟩ := State.recHalf_writes s h c p a b d
  rw [e]
@[simp] theorem State.recHalf_firstSeen (h : Half) (c : RecCode) (p : Nat) (a b d : Word) : (s.recHalf h c p a b d).firstSeen = s.firstSeen := by
  obtain ⟨_, _, _, e⟩ := State.recHalf_writes s h c p a b d
  rw [e]
@[simp] theorem State.recHalf_pfail (h : Half) (c : RecCode) (p : Nat) (a b d : Word) : (s.recHalf h c p a b d).pfail = s.pfail := by
  obtain ⟨_, _, _, e⟩ := State.recHalf_writes s h c p a b d
  rw [e]
@[simp] theorem State.recHalf_pfailBalls (h : Half) (c : RecCode) (p : Nat) (a b d : Word) : (s.recHalf h c p a b d).pfailBalls = s.pfailBalls := by
  obtain ⟨_, _, _, e⟩ := State.recHalf_writes s h c p a b d
  rw [e]
@[simp] theorem State.recHalf_clockLost (h : Half) (c : RecCode) (p : Nat) (a b d : Word) : (s.recHalf h c p a b d).clockLost = s.clockLost := by
  obtain ⟨_, _, _, e⟩ := State.recHalf_writes s h c p a b d
  rw [e]
@[simp] theorem State.recHalf_supplySafe (h : Half) (c : RecCode) (p : Nat) (a b d : Word) : (s.recHalf h c p a b d).supplySafe = s.supplySafe := by
  obtain ⟨_, _, _, e⟩ := State.recHalf_writes s h c p a b d
  rw [e]
@[simp] theorem State.recHalf_inRange (h : Half) (c : RecCode) (p : Nat) (a b d : Word) : (s.recHalf h c p a b d).inRange = s.inRange := by
  obtain ⟨_, _, _, e⟩ := State.recHalf_writes s h c p a b d
  rw [e]
@[simp] theorem State.recHalf_idleDrain (h : Half) (c : RecCode) (p : Nat) (a b d : Word) : (s.recHalf h c p a b d).idleDrain = s.idleDrain := by
  obtain ⟨_, _, _, e⟩ := State.recHalf_writes s h c p a b d
  rw [e]
@[simp] theorem State.recHalf_ctrlDue (h : Half) (c : RecCode) (p : Nat) (a b d : Word) : (s.recHalf h c p a b d).ctrlDue = s.ctrlDue := by
  obtain ⟨_, _, _, e⟩ := State.recHalf_writes s h c p a b d
  rw [e]
@[simp] theorem State.recHalf_waking (h : Half) (c : RecCode) (p : Nat) (a b d : Word) : (s.recHalf h c p a b d).waking = s.waking := by
  obtain ⟨_, _, _, e⟩ := State.recHalf_writes s h c p a b d
  rw [e]
@[simp] theorem State.recHalf_patchOk (h : Half) (c : RecCode) (p : Nat) (a b d : Word) : (s.recHalf h c p a b d).patchOk = s.patchOk := by
  obtain ⟨_, _, _, e⟩ := State.recHalf_writes s h c p a b d
  rw [e]
@[simp] theorem State.recHalf_checking (h : Half) (c : RecCode) (p : Nat) (a b d : Word) : (s.recHalf h c p a b d).checking = s.checking := by
  obtain ⟨_, _, _, e⟩ := State.recHalf_writes s h c p a b d
  rw [e]
@[simp] theorem State.recHalf_sealExp (h : Half) (c : RecCode) (p : Nat) (a b d : Word) : (s.recHalf h c p a b d).sealExp = s.sealExp := by
  obtain ⟨_, _, _, e⟩ := State.recHalf_writes s h c p a b d
  rw [e]
@[simp] theorem State.recHalf_sealSnap (h : Half) (c : RecCode) (p : Nat) (a b d : Word) : (s.recHalf h c p a b d).sealSnap = s.sealSnap := by
  obtain ⟨_, _, _, e⟩ := State.recHalf_writes s h c p a b d
  rw [e]
@[simp] theorem State.recHalf_sealFail (h : Half) (c : RecCode) (p : Nat) (a b d : Word) : (s.recHalf h c p a b d).sealFail = s.sealFail := by
  obtain ⟨_, _, _, e⟩ := State.recHalf_writes s h c p a b d
  rw [e]
@[simp] theorem State.recHalf_spdRun (h : Half) (c : RecCode) (p : Nat) (a b d : Word) : (s.recHalf h c p a b d).spdRun = s.spdRun := by
  obtain ⟨_, _, _, e⟩ := State.recHalf_writes s h c p a b d
  rw [e]
@[simp] theorem State.recHalf_qualLow (h : Half) (c : RecCode) (p : Nat) (a b d : Word) : (s.recHalf h c p a b d).qualLow = s.qualLow := by
  obtain ⟨_, _, _, e⟩ := State.recHalf_writes s h c p a b d
  rw [e]
@[simp] theorem State.recHalf_romFail (h : Half) (c : RecCode) (p : Nat) (a b d : Word) : (s.recHalf h c p a b d).romFail = s.romFail := by
  obtain ⟨_, _, _, e⟩ := State.recHalf_writes s h c p a b d
  rw [e]
@[simp] theorem State.recHalf_tempSeen (h : Half) (c : RecCode) (p : Nat) (a b d : Word) : (s.recHalf h c p a b d).tempSeen = s.tempSeen := by
  obtain ⟨_, _, _, e⟩ := State.recHalf_writes s h c p a b d
  rw [e]
@[simp] theorem State.recHalf_yewPort (h : Half) (c : RecCode) (p : Nat) (a b d : Word) : (s.recHalf h c p a b d).yewPort = s.yewPort := by
  obtain ⟨_, _, _, e⟩ := State.recHalf_writes s h c p a b d
  rw [e]
@[simp] theorem State.recHalf_yewCfg (h : Half) (c : RecCode) (p : Nat) (a b d : Word) : (s.recHalf h c p a b d).yewCfg = s.yewCfg := by
  obtain ⟨_, _, _, e⟩ := State.recHalf_writes s h c p a b d
  rw [e]
@[simp] theorem State.recHalf_hq (h : Half) (c : RecCode) (p : Nat) (a b d : Word) : (s.recHalf h c p a b d).hq = s.hq := by
  obtain ⟨_, _, _, e⟩ := State.recHalf_writes s h c p a b d
  rw [e]
@[simp] theorem State.recHalf_cmpl (h : Half) (c : RecCode) (p : Nat) (a b d : Word) : (s.recHalf h c p a b d).cmpl = s.cmpl := by
  obtain ⟨_, _, _, e⟩ := State.recHalf_writes s h c p a b d
  rw [e]
@[simp] theorem State.recHalf_cmplWait (h : Half) (c : RecCode) (p : Nat) (a b d : Word) : (s.recHalf h c p a b d).cmplWait = s.cmplWait := by
  obtain ⟨_, _, _, e⟩ := State.recHalf_writes s h c p a b d
  rw [e]
@[simp] theorem State.recHalf_dropQ (h : Half) (c : RecCode) (p : Nat) (a b d : Word) : (s.recHalf h c p a b d).dropQ = s.dropQ := by
  obtain ⟨_, _, _, e⟩ := State.recHalf_writes s h c p a b d
  rw [e]
@[simp] theorem State.recHalf_hirqRose (h : Half) (c : RecCode) (p : Nat) (a b d : Word) : (s.recHalf h c p a b d).hirqRose = s.hirqRose := by
  obtain ⟨_, _, _, e⟩ := State.recHalf_writes s h c p a b d
  rw [e]
@[simp] theorem State.recHalf_mbox (h : Half) (c : RecCode) (p : Nat) (a b d : Word) : (s.recHalf h c p a b d).mbox = s.mbox := by
  obtain ⟨_, _, _, e⟩ := State.recHalf_writes s h c p a b d
  rw [e]
@[simp] theorem State.recHalf_nor (h : Half) (c : RecCode) (p : Nat) (a b d : Word) : (s.recHalf h c p a b d).nor = s.nor := by
  obtain ⟨_, _, _, e⟩ := State.recHalf_writes s h c p a b d
  rw [e]
@[simp] theorem State.recHalf_laurel (h : Half) (c : RecCode) (p : Nat) (a b d : Word) : (s.recHalf h c p a b d).laurel = s.laurel := by
  obtain ⟨_, _, _, e⟩ := State.recHalf_writes s h c p a b d
  rw [e]
@[simp] theorem State.recHalf_lanes (h : Half) (c : RecCode) (p : Nat) (a b d : Word) : (s.recHalf h c p a b d).lanes = s.lanes := by
  obtain ⟨_, _, _, e⟩ := State.recHalf_writes s h c p a b d
  rw [e]
@[simp] theorem State.recHalf_banks (h : Half) (c : RecCode) (p : Nat) (a b d : Word) : (s.recHalf h c p a b d).banks = s.banks := by
  obtain ⟨_, _, _, e⟩ := State.recHalf_writes s h c p a b d
  rw [e]
@[simp] theorem State.recHalf_pwm (h : Half) (c : RecCode) (p : Nat) (a b d : Word) : (s.recHalf h c p a b d).pwm = s.pwm := by
  obtain ⟨_, _, _, e⟩ := State.recHalf_writes s h c p a b d
  rw [e]
@[simp] theorem State.recHalf_eng (h : Half) (c : RecCode) (p : Nat) (a b d : Word) : (s.recHalf h c p a b d).eng = s.eng := by
  obtain ⟨_, _, _, e⟩ := State.recHalf_writes s h c p a b d
  rw [e]
@[simp] theorem State.recHalf_fbk (h : Half) (c : RecCode) (p : Nat) (a b d : Word) : (s.recHalf h c p a b d).fbk = s.fbk := by
  obtain ⟨_, _, _, e⟩ := State.recHalf_writes s h c p a b d
  rw [e]
@[simp] theorem State.recHalf_syncIn (h : Half) (c : RecCode) (p : Nat) (a b d : Word) : (s.recHalf h c p a b d).syncIn = s.syncIn := by
  obtain ⟨_, _, _, e⟩ := State.recHalf_writes s h c p a b d
  rw [e]
@[simp] theorem State.recHalf_syncOut (h : Half) (c : RecCode) (p : Nat) (a b d : Word) : (s.recHalf h c p a b d).syncOut = s.syncOut := by
  obtain ⟨_, _, _, e⟩ := State.recHalf_writes s h c p a b d
  rw [e]
@[simp] theorem State.recHalf_pose (h : Half) (c : RecCode) (p : Nat) (a b d : Word) : (s.recHalf h c p a b d).pose = s.pose := by
  obtain ⟨_, _, _, e⟩ := State.recHalf_writes s h c p a b d
  rw [e]
@[simp] theorem State.recHalf_imu (h : Half) (c : RecCode) (p : Nat) (a b d : Word) : (s.recHalf h c p a b d).imu = s.imu := by
  obtain ⟨_, _, _, e⟩ := State.recHalf_writes s h c p a b d
  rw [e]
@[simp] theorem State.recHalf_trav (h : Half) (c : RecCode) (p : Nat) (a b d : Word) : (s.recHalf h c p a b d).trav = s.trav := by
  obtain ⟨_, _, _, e⟩ := State.recHalf_writes s h c p a b d
  rw [e]
@[simp] theorem State.recHalf_fpe (h : Half) (c : RecCode) (p : Nat) (a b d : Word) : (s.recHalf h c p a b d).fpe = s.fpe := by
  obtain ⟨_, _, _, e⟩ := State.recHalf_writes s h c p a b d
  rw [e]
@[simp] theorem State.recHalf_gnss (h : Half) (c : RecCode) (p : Nat) (a b d : Word) : (s.recHalf h c p a b d).gnss = s.gnss := by
  obtain ⟨_, _, _, e⟩ := State.recHalf_writes s h c p a b d
  rw [e]
@[simp] theorem State.recHalf_time (h : Half) (c : RecCode) (p : Nat) (a b d : Word) : (s.recHalf h c p a b d).time = s.time := by
  obtain ⟨_, _, _, e⟩ := State.recHalf_writes s h c p a b d
  rw [e]
@[simp] theorem State.recHalf_map (h : Half) (c : RecCode) (p : Nat) (a b d : Word) : (s.recHalf h c p a b d).map = s.map := by
  obtain ⟨_, _, _, e⟩ := State.recHalf_writes s h c p a b d
  rw [e]
@[simp] theorem State.recHalf_ports (h : Half) (c : RecCode) (p : Nat) (a b d : Word) : (s.recHalf h c p a b d).ports = s.ports := by
  obtain ⟨_, _, _, e⟩ := State.recHalf_writes s h c p a b d
  rw [e]
@[simp] theorem State.recHalf_ring (h : Half) (c : RecCode) (p : Nat) (a b d : Word) : (s.recHalf h c p a b d).ring = s.ring := by
  obtain ⟨_, _, _, e⟩ := State.recHalf_writes s h c p a b d
  rw [e]
@[simp] theorem State.recHalf_rtime (h : Half) (c : RecCode) (p : Nat) (a b d : Word) : (s.recHalf h c p a b d).rtime = s.rtime := by
  obtain ⟨_, _, _, e⟩ := State.recHalf_writes s h c p a b d
  rw [e]
@[simp] theorem State.recHalf_rtun (h : Half) (c : RecCode) (p : Nat) (a b d : Word) : (s.recHalf h c p a b d).rtun = s.rtun := by
  obtain ⟨_, _, _, e⟩ := State.recHalf_writes s h c p a b d
  rw [e]
@[simp] theorem State.recHalf_hostTx (h : Half) (c : RecCode) (p : Nat) (a b d : Word) : (s.recHalf h c p a b d).hostTx = s.hostTx := by
  obtain ⟨_, _, _, e⟩ := State.recHalf_writes s h c p a b d
  rw [e]
@[simp] theorem State.recHalf_lastRead (h : Half) (c : RecCode) (p : Nat) (a b d : Word) : (s.recHalf h c p a b d).lastRead = s.lastRead := by
  obtain ⟨_, _, _, e⟩ := State.recHalf_writes s h c p a b d
  rw [e]
@[simp] theorem State.recHalf_tdo (h : Half) (c : RecCode) (p : Nat) (a b d : Word) : (s.recHalf h c p a b d).tdo = s.tdo := by
  obtain ⟨_, _, _, e⟩ := State.recHalf_writes s h c p a b d
  rw [e]
@[simp] theorem State.recHalf_extest (h : Half) (c : RecCode) (p : Nat) (a b d : Word) : (s.recHalf h c p a b d).extest = s.extest := by
  obtain ⟨_, _, _, e⟩ := State.recHalf_writes s h c p a b d
  rw [e]

/-- Everything `record` can write. -/
theorem State.record_writes (c : RecCode) (p : Nat) (a b d : Word) :
    ∃ r l y, s.record c p a b d = { s with regs := r, hirqLow := l, yew := y } := by
  have key : ∀ (u : State) (h : Half), (∃ r l y, u = { s with regs := r, hirqLow := l, yew := y }) →
      ∃ r l y, u.recHalf h c p a b d = { s with regs := r, hirqLow := l, yew := y } := by
    rintro u h ⟨r, l, y, rfl⟩
    obtain ⟨r', l', y', e⟩ := State.recHalf_writes { s with regs := r, hirqLow := l, yew := y } h c p a b d
    exact ⟨r', l', y', e.trans rfl⟩
  have k0 : ∃ r l y, s.faultFor c p = { s with regs := r, hirqLow := l, yew := y } := by
    obtain ⟨r, l, e⟩ := State.faultFor_writes s c p
    exact ⟨r, l, s.yew, e⟩
  unfold State.record
  dsimp only
  split <;> split
  · exact key _ _ (key _ _ k0)
  · exact key _ _ k0
  · exact key _ _ k0
  · exact k0

@[simp] theorem State.record_pending (c : RecCode) (p : Nat) (a b d : Word) : (s.record c p a b d).pending = s.pending := by
  obtain ⟨_, _, _, e⟩ := State.record_writes s c p a b d
  rw [e]
@[simp] theorem State.record_now (c : RecCode) (p : Nat) (a b d : Word) : (s.record c p a b d).now = s.now := by
  obtain ⟨_, _, _, e⟩ := State.record_writes s c p a b d
  rw [e]
@[simp] theorem State.record_member (c : RecCode) (p : Nat) (a b d : Word) : (s.record c p a b d).member = s.member := by
  obtain ⟨_, _, _, e⟩ := State.record_writes s c p a b d
  rw [e]
@[simp] theorem State.record_dev (c : RecCode) (p : Nat) (a b d : Word) : (s.record c p a b d).dev = s.dev := by
  obtain ⟨_, _, _, e⟩ := State.record_writes s c p a b d
  rw [e]
@[simp] theorem State.record_prev (c : RecCode) (p : Nat) (a b d : Word) : (s.record c p a b d).prev = s.prev := by
  obtain ⟨_, _, _, e⟩ := State.record_writes s c p a b d
  rw [e]
@[simp] theorem State.record_devAt (c : RecCode) (p : Nat) (a b d : Word) : (s.record c p a b d).devAt = s.devAt := by
  obtain ⟨_, _, _, e⟩ := State.record_writes s c p a b d
  rw [e]
@[simp] theorem State.record_devLog (c : RecCode) (p : Nat) (a b d : Word) : (s.record c p a b d).devLog = s.devLog := by
  obtain ⟨_, _, _, e⟩ := State.record_writes s c p a b d
  rw [e]
@[simp] theorem State.record_frozen (c : RecCode) (p : Nat) (a b d : Word) : (s.record c p a b d).frozen = s.frozen := by
  obtain ⟨_, _, _, e⟩ := State.record_writes s c p a b d
  rw [e]
@[simp] theorem State.record_held (c : RecCode) (p : Nat) (a b d : Word) : (s.record c p a b d).held = s.held := by
  obtain ⟨_, _, _, e⟩ := State.record_writes s c p a b d
  rw [e]
@[simp] theorem State.record_freeIdx (c : RecCode) (p : Nat) (a b d : Word) : (s.record c p a b d).freeIdx = s.freeIdx := by
  obtain ⟨_, _, _, e⟩ := State.record_writes s c p a b d
  rw [e]
@[simp] theorem State.record_firstSeen (c : RecCode) (p : Nat) (a b d : Word) : (s.record c p a b d).firstSeen = s.firstSeen := by
  obtain ⟨_, _, _, e⟩ := State.record_writes s c p a b d
  rw [e]
@[simp] theorem State.record_pfail (c : RecCode) (p : Nat) (a b d : Word) : (s.record c p a b d).pfail = s.pfail := by
  obtain ⟨_, _, _, e⟩ := State.record_writes s c p a b d
  rw [e]
@[simp] theorem State.record_pfailBalls (c : RecCode) (p : Nat) (a b d : Word) : (s.record c p a b d).pfailBalls = s.pfailBalls := by
  obtain ⟨_, _, _, e⟩ := State.record_writes s c p a b d
  rw [e]
@[simp] theorem State.record_clockLost (c : RecCode) (p : Nat) (a b d : Word) : (s.record c p a b d).clockLost = s.clockLost := by
  obtain ⟨_, _, _, e⟩ := State.record_writes s c p a b d
  rw [e]
@[simp] theorem State.record_supplySafe (c : RecCode) (p : Nat) (a b d : Word) : (s.record c p a b d).supplySafe = s.supplySafe := by
  obtain ⟨_, _, _, e⟩ := State.record_writes s c p a b d
  rw [e]
@[simp] theorem State.record_inRange (c : RecCode) (p : Nat) (a b d : Word) : (s.record c p a b d).inRange = s.inRange := by
  obtain ⟨_, _, _, e⟩ := State.record_writes s c p a b d
  rw [e]
@[simp] theorem State.record_idleDrain (c : RecCode) (p : Nat) (a b d : Word) : (s.record c p a b d).idleDrain = s.idleDrain := by
  obtain ⟨_, _, _, e⟩ := State.record_writes s c p a b d
  rw [e]
@[simp] theorem State.record_ctrlDue (c : RecCode) (p : Nat) (a b d : Word) : (s.record c p a b d).ctrlDue = s.ctrlDue := by
  obtain ⟨_, _, _, e⟩ := State.record_writes s c p a b d
  rw [e]
@[simp] theorem State.record_waking (c : RecCode) (p : Nat) (a b d : Word) : (s.record c p a b d).waking = s.waking := by
  obtain ⟨_, _, _, e⟩ := State.record_writes s c p a b d
  rw [e]
@[simp] theorem State.record_patchOk (c : RecCode) (p : Nat) (a b d : Word) : (s.record c p a b d).patchOk = s.patchOk := by
  obtain ⟨_, _, _, e⟩ := State.record_writes s c p a b d
  rw [e]
@[simp] theorem State.record_checking (c : RecCode) (p : Nat) (a b d : Word) : (s.record c p a b d).checking = s.checking := by
  obtain ⟨_, _, _, e⟩ := State.record_writes s c p a b d
  rw [e]
@[simp] theorem State.record_sealExp (c : RecCode) (p : Nat) (a b d : Word) : (s.record c p a b d).sealExp = s.sealExp := by
  obtain ⟨_, _, _, e⟩ := State.record_writes s c p a b d
  rw [e]
@[simp] theorem State.record_sealSnap (c : RecCode) (p : Nat) (a b d : Word) : (s.record c p a b d).sealSnap = s.sealSnap := by
  obtain ⟨_, _, _, e⟩ := State.record_writes s c p a b d
  rw [e]
@[simp] theorem State.record_sealFail (c : RecCode) (p : Nat) (a b d : Word) : (s.record c p a b d).sealFail = s.sealFail := by
  obtain ⟨_, _, _, e⟩ := State.record_writes s c p a b d
  rw [e]
@[simp] theorem State.record_spdRun (c : RecCode) (p : Nat) (a b d : Word) : (s.record c p a b d).spdRun = s.spdRun := by
  obtain ⟨_, _, _, e⟩ := State.record_writes s c p a b d
  rw [e]
@[simp] theorem State.record_qualLow (c : RecCode) (p : Nat) (a b d : Word) : (s.record c p a b d).qualLow = s.qualLow := by
  obtain ⟨_, _, _, e⟩ := State.record_writes s c p a b d
  rw [e]
@[simp] theorem State.record_romFail (c : RecCode) (p : Nat) (a b d : Word) : (s.record c p a b d).romFail = s.romFail := by
  obtain ⟨_, _, _, e⟩ := State.record_writes s c p a b d
  rw [e]
@[simp] theorem State.record_tempSeen (c : RecCode) (p : Nat) (a b d : Word) : (s.record c p a b d).tempSeen = s.tempSeen := by
  obtain ⟨_, _, _, e⟩ := State.record_writes s c p a b d
  rw [e]
@[simp] theorem State.record_yewPort (c : RecCode) (p : Nat) (a b d : Word) : (s.record c p a b d).yewPort = s.yewPort := by
  obtain ⟨_, _, _, e⟩ := State.record_writes s c p a b d
  rw [e]
@[simp] theorem State.record_yewCfg (c : RecCode) (p : Nat) (a b d : Word) : (s.record c p a b d).yewCfg = s.yewCfg := by
  obtain ⟨_, _, _, e⟩ := State.record_writes s c p a b d
  rw [e]
@[simp] theorem State.record_hq (c : RecCode) (p : Nat) (a b d : Word) : (s.record c p a b d).hq = s.hq := by
  obtain ⟨_, _, _, e⟩ := State.record_writes s c p a b d
  rw [e]
@[simp] theorem State.record_cmpl (c : RecCode) (p : Nat) (a b d : Word) : (s.record c p a b d).cmpl = s.cmpl := by
  obtain ⟨_, _, _, e⟩ := State.record_writes s c p a b d
  rw [e]
@[simp] theorem State.record_cmplWait (c : RecCode) (p : Nat) (a b d : Word) : (s.record c p a b d).cmplWait = s.cmplWait := by
  obtain ⟨_, _, _, e⟩ := State.record_writes s c p a b d
  rw [e]
@[simp] theorem State.record_dropQ (c : RecCode) (p : Nat) (a b d : Word) : (s.record c p a b d).dropQ = s.dropQ := by
  obtain ⟨_, _, _, e⟩ := State.record_writes s c p a b d
  rw [e]
@[simp] theorem State.record_hirqRose (c : RecCode) (p : Nat) (a b d : Word) : (s.record c p a b d).hirqRose = s.hirqRose := by
  obtain ⟨_, _, _, e⟩ := State.record_writes s c p a b d
  rw [e]
@[simp] theorem State.record_mbox (c : RecCode) (p : Nat) (a b d : Word) : (s.record c p a b d).mbox = s.mbox := by
  obtain ⟨_, _, _, e⟩ := State.record_writes s c p a b d
  rw [e]
@[simp] theorem State.record_nor (c : RecCode) (p : Nat) (a b d : Word) : (s.record c p a b d).nor = s.nor := by
  obtain ⟨_, _, _, e⟩ := State.record_writes s c p a b d
  rw [e]
@[simp] theorem State.record_laurel (c : RecCode) (p : Nat) (a b d : Word) : (s.record c p a b d).laurel = s.laurel := by
  obtain ⟨_, _, _, e⟩ := State.record_writes s c p a b d
  rw [e]
@[simp] theorem State.record_lanes (c : RecCode) (p : Nat) (a b d : Word) : (s.record c p a b d).lanes = s.lanes := by
  obtain ⟨_, _, _, e⟩ := State.record_writes s c p a b d
  rw [e]
@[simp] theorem State.record_banks (c : RecCode) (p : Nat) (a b d : Word) : (s.record c p a b d).banks = s.banks := by
  obtain ⟨_, _, _, e⟩ := State.record_writes s c p a b d
  rw [e]
@[simp] theorem State.record_pwm (c : RecCode) (p : Nat) (a b d : Word) : (s.record c p a b d).pwm = s.pwm := by
  obtain ⟨_, _, _, e⟩ := State.record_writes s c p a b d
  rw [e]
@[simp] theorem State.record_eng (c : RecCode) (p : Nat) (a b d : Word) : (s.record c p a b d).eng = s.eng := by
  obtain ⟨_, _, _, e⟩ := State.record_writes s c p a b d
  rw [e]
@[simp] theorem State.record_fbk (c : RecCode) (p : Nat) (a b d : Word) : (s.record c p a b d).fbk = s.fbk := by
  obtain ⟨_, _, _, e⟩ := State.record_writes s c p a b d
  rw [e]
@[simp] theorem State.record_syncIn (c : RecCode) (p : Nat) (a b d : Word) : (s.record c p a b d).syncIn = s.syncIn := by
  obtain ⟨_, _, _, e⟩ := State.record_writes s c p a b d
  rw [e]
@[simp] theorem State.record_syncOut (c : RecCode) (p : Nat) (a b d : Word) : (s.record c p a b d).syncOut = s.syncOut := by
  obtain ⟨_, _, _, e⟩ := State.record_writes s c p a b d
  rw [e]
@[simp] theorem State.record_pose (c : RecCode) (p : Nat) (a b d : Word) : (s.record c p a b d).pose = s.pose := by
  obtain ⟨_, _, _, e⟩ := State.record_writes s c p a b d
  rw [e]
@[simp] theorem State.record_imu (c : RecCode) (p : Nat) (a b d : Word) : (s.record c p a b d).imu = s.imu := by
  obtain ⟨_, _, _, e⟩ := State.record_writes s c p a b d
  rw [e]
@[simp] theorem State.record_trav (c : RecCode) (p : Nat) (a b d : Word) : (s.record c p a b d).trav = s.trav := by
  obtain ⟨_, _, _, e⟩ := State.record_writes s c p a b d
  rw [e]
@[simp] theorem State.record_fpe (c : RecCode) (p : Nat) (a b d : Word) : (s.record c p a b d).fpe = s.fpe := by
  obtain ⟨_, _, _, e⟩ := State.record_writes s c p a b d
  rw [e]
@[simp] theorem State.record_gnss (c : RecCode) (p : Nat) (a b d : Word) : (s.record c p a b d).gnss = s.gnss := by
  obtain ⟨_, _, _, e⟩ := State.record_writes s c p a b d
  rw [e]
@[simp] theorem State.record_time (c : RecCode) (p : Nat) (a b d : Word) : (s.record c p a b d).time = s.time := by
  obtain ⟨_, _, _, e⟩ := State.record_writes s c p a b d
  rw [e]
@[simp] theorem State.record_map (c : RecCode) (p : Nat) (a b d : Word) : (s.record c p a b d).map = s.map := by
  obtain ⟨_, _, _, e⟩ := State.record_writes s c p a b d
  rw [e]
@[simp] theorem State.record_ports (c : RecCode) (p : Nat) (a b d : Word) : (s.record c p a b d).ports = s.ports := by
  obtain ⟨_, _, _, e⟩ := State.record_writes s c p a b d
  rw [e]
@[simp] theorem State.record_ring (c : RecCode) (p : Nat) (a b d : Word) : (s.record c p a b d).ring = s.ring := by
  obtain ⟨_, _, _, e⟩ := State.record_writes s c p a b d
  rw [e]
@[simp] theorem State.record_rtime (c : RecCode) (p : Nat) (a b d : Word) : (s.record c p a b d).rtime = s.rtime := by
  obtain ⟨_, _, _, e⟩ := State.record_writes s c p a b d
  rw [e]
@[simp] theorem State.record_rtun (c : RecCode) (p : Nat) (a b d : Word) : (s.record c p a b d).rtun = s.rtun := by
  obtain ⟨_, _, _, e⟩ := State.record_writes s c p a b d
  rw [e]
@[simp] theorem State.record_hostTx (c : RecCode) (p : Nat) (a b d : Word) : (s.record c p a b d).hostTx = s.hostTx := by
  obtain ⟨_, _, _, e⟩ := State.record_writes s c p a b d
  rw [e]
@[simp] theorem State.record_lastRead (c : RecCode) (p : Nat) (a b d : Word) : (s.record c p a b d).lastRead = s.lastRead := by
  obtain ⟨_, _, _, e⟩ := State.record_writes s c p a b d
  rw [e]
@[simp] theorem State.record_tdo (c : RecCode) (p : Nat) (a b d : Word) : (s.record c p a b d).tdo = s.tdo := by
  obtain ⟨_, _, _, e⟩ := State.record_writes s c p a b d
  rw [e]
@[simp] theorem State.record_extest (c : RecCode) (p : Nat) (a b d : Word) : (s.record c p a b d).extest = s.extest := by
  obtain ⟨_, _, _, e⟩ := State.record_writes s c p a b d
  rw [e]

/-- Everything `recordOwn` can write. -/
theorem State.recordOwn_writes (h : Half) (c : RecCode) (p : Nat) (a b d : Word) :
    ∃ r l y, s.recordOwn h c p a b d = { s with regs := r, hirqLow := l, yew := y } := by
  unfold State.recordOwn
  obtain ⟨r, l, e⟩ := State.faultFor_writes s c p
  rw [e]
  obtain ⟨r', l', y', e'⟩ := State.recHalf_writes { s with regs := r, hirqLow := l } h c p a b d
  exact ⟨r', l', y', e'.trans rfl⟩

@[simp] theorem State.recordOwn_pending (h : Half) (c : RecCode) (p : Nat) (a b d : Word) : (s.recordOwn h c p a b d).pending = s.pending := by
  obtain ⟨_, _, _, e⟩ := State.recordOwn_writes s h c p a b d
  rw [e]
@[simp] theorem State.recordOwn_now (h : Half) (c : RecCode) (p : Nat) (a b d : Word) : (s.recordOwn h c p a b d).now = s.now := by
  obtain ⟨_, _, _, e⟩ := State.recordOwn_writes s h c p a b d
  rw [e]
@[simp] theorem State.recordOwn_member (h : Half) (c : RecCode) (p : Nat) (a b d : Word) : (s.recordOwn h c p a b d).member = s.member := by
  obtain ⟨_, _, _, e⟩ := State.recordOwn_writes s h c p a b d
  rw [e]
@[simp] theorem State.recordOwn_dev (h : Half) (c : RecCode) (p : Nat) (a b d : Word) : (s.recordOwn h c p a b d).dev = s.dev := by
  obtain ⟨_, _, _, e⟩ := State.recordOwn_writes s h c p a b d
  rw [e]
@[simp] theorem State.recordOwn_prev (h : Half) (c : RecCode) (p : Nat) (a b d : Word) : (s.recordOwn h c p a b d).prev = s.prev := by
  obtain ⟨_, _, _, e⟩ := State.recordOwn_writes s h c p a b d
  rw [e]
@[simp] theorem State.recordOwn_devAt (h : Half) (c : RecCode) (p : Nat) (a b d : Word) : (s.recordOwn h c p a b d).devAt = s.devAt := by
  obtain ⟨_, _, _, e⟩ := State.recordOwn_writes s h c p a b d
  rw [e]
@[simp] theorem State.recordOwn_devLog (h : Half) (c : RecCode) (p : Nat) (a b d : Word) : (s.recordOwn h c p a b d).devLog = s.devLog := by
  obtain ⟨_, _, _, e⟩ := State.recordOwn_writes s h c p a b d
  rw [e]
@[simp] theorem State.recordOwn_frozen (h : Half) (c : RecCode) (p : Nat) (a b d : Word) : (s.recordOwn h c p a b d).frozen = s.frozen := by
  obtain ⟨_, _, _, e⟩ := State.recordOwn_writes s h c p a b d
  rw [e]
@[simp] theorem State.recordOwn_held (h : Half) (c : RecCode) (p : Nat) (a b d : Word) : (s.recordOwn h c p a b d).held = s.held := by
  obtain ⟨_, _, _, e⟩ := State.recordOwn_writes s h c p a b d
  rw [e]
@[simp] theorem State.recordOwn_freeIdx (h : Half) (c : RecCode) (p : Nat) (a b d : Word) : (s.recordOwn h c p a b d).freeIdx = s.freeIdx := by
  obtain ⟨_, _, _, e⟩ := State.recordOwn_writes s h c p a b d
  rw [e]
@[simp] theorem State.recordOwn_firstSeen (h : Half) (c : RecCode) (p : Nat) (a b d : Word) : (s.recordOwn h c p a b d).firstSeen = s.firstSeen := by
  obtain ⟨_, _, _, e⟩ := State.recordOwn_writes s h c p a b d
  rw [e]
@[simp] theorem State.recordOwn_pfail (h : Half) (c : RecCode) (p : Nat) (a b d : Word) : (s.recordOwn h c p a b d).pfail = s.pfail := by
  obtain ⟨_, _, _, e⟩ := State.recordOwn_writes s h c p a b d
  rw [e]
@[simp] theorem State.recordOwn_pfailBalls (h : Half) (c : RecCode) (p : Nat) (a b d : Word) : (s.recordOwn h c p a b d).pfailBalls = s.pfailBalls := by
  obtain ⟨_, _, _, e⟩ := State.recordOwn_writes s h c p a b d
  rw [e]
@[simp] theorem State.recordOwn_clockLost (h : Half) (c : RecCode) (p : Nat) (a b d : Word) : (s.recordOwn h c p a b d).clockLost = s.clockLost := by
  obtain ⟨_, _, _, e⟩ := State.recordOwn_writes s h c p a b d
  rw [e]
@[simp] theorem State.recordOwn_supplySafe (h : Half) (c : RecCode) (p : Nat) (a b d : Word) : (s.recordOwn h c p a b d).supplySafe = s.supplySafe := by
  obtain ⟨_, _, _, e⟩ := State.recordOwn_writes s h c p a b d
  rw [e]
@[simp] theorem State.recordOwn_inRange (h : Half) (c : RecCode) (p : Nat) (a b d : Word) : (s.recordOwn h c p a b d).inRange = s.inRange := by
  obtain ⟨_, _, _, e⟩ := State.recordOwn_writes s h c p a b d
  rw [e]
@[simp] theorem State.recordOwn_idleDrain (h : Half) (c : RecCode) (p : Nat) (a b d : Word) : (s.recordOwn h c p a b d).idleDrain = s.idleDrain := by
  obtain ⟨_, _, _, e⟩ := State.recordOwn_writes s h c p a b d
  rw [e]
@[simp] theorem State.recordOwn_ctrlDue (h : Half) (c : RecCode) (p : Nat) (a b d : Word) : (s.recordOwn h c p a b d).ctrlDue = s.ctrlDue := by
  obtain ⟨_, _, _, e⟩ := State.recordOwn_writes s h c p a b d
  rw [e]
@[simp] theorem State.recordOwn_waking (h : Half) (c : RecCode) (p : Nat) (a b d : Word) : (s.recordOwn h c p a b d).waking = s.waking := by
  obtain ⟨_, _, _, e⟩ := State.recordOwn_writes s h c p a b d
  rw [e]
@[simp] theorem State.recordOwn_patchOk (h : Half) (c : RecCode) (p : Nat) (a b d : Word) : (s.recordOwn h c p a b d).patchOk = s.patchOk := by
  obtain ⟨_, _, _, e⟩ := State.recordOwn_writes s h c p a b d
  rw [e]
@[simp] theorem State.recordOwn_checking (h : Half) (c : RecCode) (p : Nat) (a b d : Word) : (s.recordOwn h c p a b d).checking = s.checking := by
  obtain ⟨_, _, _, e⟩ := State.recordOwn_writes s h c p a b d
  rw [e]
@[simp] theorem State.recordOwn_sealExp (h : Half) (c : RecCode) (p : Nat) (a b d : Word) : (s.recordOwn h c p a b d).sealExp = s.sealExp := by
  obtain ⟨_, _, _, e⟩ := State.recordOwn_writes s h c p a b d
  rw [e]
@[simp] theorem State.recordOwn_sealSnap (h : Half) (c : RecCode) (p : Nat) (a b d : Word) : (s.recordOwn h c p a b d).sealSnap = s.sealSnap := by
  obtain ⟨_, _, _, e⟩ := State.recordOwn_writes s h c p a b d
  rw [e]
@[simp] theorem State.recordOwn_sealFail (h : Half) (c : RecCode) (p : Nat) (a b d : Word) : (s.recordOwn h c p a b d).sealFail = s.sealFail := by
  obtain ⟨_, _, _, e⟩ := State.recordOwn_writes s h c p a b d
  rw [e]
@[simp] theorem State.recordOwn_spdRun (h : Half) (c : RecCode) (p : Nat) (a b d : Word) : (s.recordOwn h c p a b d).spdRun = s.spdRun := by
  obtain ⟨_, _, _, e⟩ := State.recordOwn_writes s h c p a b d
  rw [e]
@[simp] theorem State.recordOwn_qualLow (h : Half) (c : RecCode) (p : Nat) (a b d : Word) : (s.recordOwn h c p a b d).qualLow = s.qualLow := by
  obtain ⟨_, _, _, e⟩ := State.recordOwn_writes s h c p a b d
  rw [e]
@[simp] theorem State.recordOwn_romFail (h : Half) (c : RecCode) (p : Nat) (a b d : Word) : (s.recordOwn h c p a b d).romFail = s.romFail := by
  obtain ⟨_, _, _, e⟩ := State.recordOwn_writes s h c p a b d
  rw [e]
@[simp] theorem State.recordOwn_tempSeen (h : Half) (c : RecCode) (p : Nat) (a b d : Word) : (s.recordOwn h c p a b d).tempSeen = s.tempSeen := by
  obtain ⟨_, _, _, e⟩ := State.recordOwn_writes s h c p a b d
  rw [e]
@[simp] theorem State.recordOwn_yewPort (h : Half) (c : RecCode) (p : Nat) (a b d : Word) : (s.recordOwn h c p a b d).yewPort = s.yewPort := by
  obtain ⟨_, _, _, e⟩ := State.recordOwn_writes s h c p a b d
  rw [e]
@[simp] theorem State.recordOwn_yewCfg (h : Half) (c : RecCode) (p : Nat) (a b d : Word) : (s.recordOwn h c p a b d).yewCfg = s.yewCfg := by
  obtain ⟨_, _, _, e⟩ := State.recordOwn_writes s h c p a b d
  rw [e]
@[simp] theorem State.recordOwn_hq (h : Half) (c : RecCode) (p : Nat) (a b d : Word) : (s.recordOwn h c p a b d).hq = s.hq := by
  obtain ⟨_, _, _, e⟩ := State.recordOwn_writes s h c p a b d
  rw [e]
@[simp] theorem State.recordOwn_cmpl (h : Half) (c : RecCode) (p : Nat) (a b d : Word) : (s.recordOwn h c p a b d).cmpl = s.cmpl := by
  obtain ⟨_, _, _, e⟩ := State.recordOwn_writes s h c p a b d
  rw [e]
@[simp] theorem State.recordOwn_cmplWait (h : Half) (c : RecCode) (p : Nat) (a b d : Word) : (s.recordOwn h c p a b d).cmplWait = s.cmplWait := by
  obtain ⟨_, _, _, e⟩ := State.recordOwn_writes s h c p a b d
  rw [e]
@[simp] theorem State.recordOwn_dropQ (h : Half) (c : RecCode) (p : Nat) (a b d : Word) : (s.recordOwn h c p a b d).dropQ = s.dropQ := by
  obtain ⟨_, _, _, e⟩ := State.recordOwn_writes s h c p a b d
  rw [e]
@[simp] theorem State.recordOwn_hirqRose (h : Half) (c : RecCode) (p : Nat) (a b d : Word) : (s.recordOwn h c p a b d).hirqRose = s.hirqRose := by
  obtain ⟨_, _, _, e⟩ := State.recordOwn_writes s h c p a b d
  rw [e]
@[simp] theorem State.recordOwn_mbox (h : Half) (c : RecCode) (p : Nat) (a b d : Word) : (s.recordOwn h c p a b d).mbox = s.mbox := by
  obtain ⟨_, _, _, e⟩ := State.recordOwn_writes s h c p a b d
  rw [e]
@[simp] theorem State.recordOwn_nor (h : Half) (c : RecCode) (p : Nat) (a b d : Word) : (s.recordOwn h c p a b d).nor = s.nor := by
  obtain ⟨_, _, _, e⟩ := State.recordOwn_writes s h c p a b d
  rw [e]
@[simp] theorem State.recordOwn_laurel (h : Half) (c : RecCode) (p : Nat) (a b d : Word) : (s.recordOwn h c p a b d).laurel = s.laurel := by
  obtain ⟨_, _, _, e⟩ := State.recordOwn_writes s h c p a b d
  rw [e]
@[simp] theorem State.recordOwn_lanes (h : Half) (c : RecCode) (p : Nat) (a b d : Word) : (s.recordOwn h c p a b d).lanes = s.lanes := by
  obtain ⟨_, _, _, e⟩ := State.recordOwn_writes s h c p a b d
  rw [e]
@[simp] theorem State.recordOwn_banks (h : Half) (c : RecCode) (p : Nat) (a b d : Word) : (s.recordOwn h c p a b d).banks = s.banks := by
  obtain ⟨_, _, _, e⟩ := State.recordOwn_writes s h c p a b d
  rw [e]
@[simp] theorem State.recordOwn_pwm (h : Half) (c : RecCode) (p : Nat) (a b d : Word) : (s.recordOwn h c p a b d).pwm = s.pwm := by
  obtain ⟨_, _, _, e⟩ := State.recordOwn_writes s h c p a b d
  rw [e]
@[simp] theorem State.recordOwn_eng (h : Half) (c : RecCode) (p : Nat) (a b d : Word) : (s.recordOwn h c p a b d).eng = s.eng := by
  obtain ⟨_, _, _, e⟩ := State.recordOwn_writes s h c p a b d
  rw [e]
@[simp] theorem State.recordOwn_fbk (h : Half) (c : RecCode) (p : Nat) (a b d : Word) : (s.recordOwn h c p a b d).fbk = s.fbk := by
  obtain ⟨_, _, _, e⟩ := State.recordOwn_writes s h c p a b d
  rw [e]
@[simp] theorem State.recordOwn_syncIn (h : Half) (c : RecCode) (p : Nat) (a b d : Word) : (s.recordOwn h c p a b d).syncIn = s.syncIn := by
  obtain ⟨_, _, _, e⟩ := State.recordOwn_writes s h c p a b d
  rw [e]
@[simp] theorem State.recordOwn_syncOut (h : Half) (c : RecCode) (p : Nat) (a b d : Word) : (s.recordOwn h c p a b d).syncOut = s.syncOut := by
  obtain ⟨_, _, _, e⟩ := State.recordOwn_writes s h c p a b d
  rw [e]
@[simp] theorem State.recordOwn_pose (h : Half) (c : RecCode) (p : Nat) (a b d : Word) : (s.recordOwn h c p a b d).pose = s.pose := by
  obtain ⟨_, _, _, e⟩ := State.recordOwn_writes s h c p a b d
  rw [e]
@[simp] theorem State.recordOwn_imu (h : Half) (c : RecCode) (p : Nat) (a b d : Word) : (s.recordOwn h c p a b d).imu = s.imu := by
  obtain ⟨_, _, _, e⟩ := State.recordOwn_writes s h c p a b d
  rw [e]
@[simp] theorem State.recordOwn_trav (h : Half) (c : RecCode) (p : Nat) (a b d : Word) : (s.recordOwn h c p a b d).trav = s.trav := by
  obtain ⟨_, _, _, e⟩ := State.recordOwn_writes s h c p a b d
  rw [e]
@[simp] theorem State.recordOwn_fpe (h : Half) (c : RecCode) (p : Nat) (a b d : Word) : (s.recordOwn h c p a b d).fpe = s.fpe := by
  obtain ⟨_, _, _, e⟩ := State.recordOwn_writes s h c p a b d
  rw [e]
@[simp] theorem State.recordOwn_gnss (h : Half) (c : RecCode) (p : Nat) (a b d : Word) : (s.recordOwn h c p a b d).gnss = s.gnss := by
  obtain ⟨_, _, _, e⟩ := State.recordOwn_writes s h c p a b d
  rw [e]
@[simp] theorem State.recordOwn_time (h : Half) (c : RecCode) (p : Nat) (a b d : Word) : (s.recordOwn h c p a b d).time = s.time := by
  obtain ⟨_, _, _, e⟩ := State.recordOwn_writes s h c p a b d
  rw [e]
@[simp] theorem State.recordOwn_map (h : Half) (c : RecCode) (p : Nat) (a b d : Word) : (s.recordOwn h c p a b d).map = s.map := by
  obtain ⟨_, _, _, e⟩ := State.recordOwn_writes s h c p a b d
  rw [e]
@[simp] theorem State.recordOwn_ports (h : Half) (c : RecCode) (p : Nat) (a b d : Word) : (s.recordOwn h c p a b d).ports = s.ports := by
  obtain ⟨_, _, _, e⟩ := State.recordOwn_writes s h c p a b d
  rw [e]
@[simp] theorem State.recordOwn_ring (h : Half) (c : RecCode) (p : Nat) (a b d : Word) : (s.recordOwn h c p a b d).ring = s.ring := by
  obtain ⟨_, _, _, e⟩ := State.recordOwn_writes s h c p a b d
  rw [e]
@[simp] theorem State.recordOwn_rtime (h : Half) (c : RecCode) (p : Nat) (a b d : Word) : (s.recordOwn h c p a b d).rtime = s.rtime := by
  obtain ⟨_, _, _, e⟩ := State.recordOwn_writes s h c p a b d
  rw [e]
@[simp] theorem State.recordOwn_rtun (h : Half) (c : RecCode) (p : Nat) (a b d : Word) : (s.recordOwn h c p a b d).rtun = s.rtun := by
  obtain ⟨_, _, _, e⟩ := State.recordOwn_writes s h c p a b d
  rw [e]
@[simp] theorem State.recordOwn_hostTx (h : Half) (c : RecCode) (p : Nat) (a b d : Word) : (s.recordOwn h c p a b d).hostTx = s.hostTx := by
  obtain ⟨_, _, _, e⟩ := State.recordOwn_writes s h c p a b d
  rw [e]
@[simp] theorem State.recordOwn_lastRead (h : Half) (c : RecCode) (p : Nat) (a b d : Word) : (s.recordOwn h c p a b d).lastRead = s.lastRead := by
  obtain ⟨_, _, _, e⟩ := State.recordOwn_writes s h c p a b d
  rw [e]
@[simp] theorem State.recordOwn_tdo (h : Half) (c : RecCode) (p : Nat) (a b d : Word) : (s.recordOwn h c p a b d).tdo = s.tdo := by
  obtain ⟨_, _, _, e⟩ := State.recordOwn_writes s h c p a b d
  rw [e]
@[simp] theorem State.recordOwn_extest (h : Half) (c : RecCode) (p : Nat) (a b d : Word) : (s.recordOwn h c p a b d).extest = s.extest := by
  obtain ⟨_, _, _, e⟩ := State.recordOwn_writes s h c p a b d
  rw [e]

/-- Everything `recordFirst` can write. -/
theorem State.recordFirst_writes (c : RecCode) (u p : Nat) (a b d : Word) :
    ∃ r l y q, s.recordFirst c u p a b d = { s with regs := r, hirqLow := l, yew := y, firstSeen := q } := by
  unfold State.recordFirst State.firstInSec
  dsimp only
  split
  · rename_i h
    split at h
    · simp at h
    · obtain ⟨rfl⟩ := h
      obtain ⟨r, l, y, e⟩ := State.record_writes { s with firstSeen := Sparse.set noStamp s.firstSeen (recKey c u) (s.now / secPs + 1) } c p a b d
      exact ⟨r, l, y, _, e⟩
  · rename_i h
    split at h
    · obtain ⟨rfl⟩ := h
      exact ⟨s.regs, s.hirqLow, s.yew, s.firstSeen, rfl⟩
    · simp at h

@[simp] theorem State.recordFirst_pending (c : RecCode) (u p : Nat) (a b d : Word) : (s.recordFirst c u p a b d).pending = s.pending := by
  obtain ⟨_, _, _, _, e⟩ := State.recordFirst_writes s c u p a b d
  rw [e]
@[simp] theorem State.recordFirst_now (c : RecCode) (u p : Nat) (a b d : Word) : (s.recordFirst c u p a b d).now = s.now := by
  obtain ⟨_, _, _, _, e⟩ := State.recordFirst_writes s c u p a b d
  rw [e]
@[simp] theorem State.recordFirst_member (c : RecCode) (u p : Nat) (a b d : Word) : (s.recordFirst c u p a b d).member = s.member := by
  obtain ⟨_, _, _, _, e⟩ := State.recordFirst_writes s c u p a b d
  rw [e]
@[simp] theorem State.recordFirst_dev (c : RecCode) (u p : Nat) (a b d : Word) : (s.recordFirst c u p a b d).dev = s.dev := by
  obtain ⟨_, _, _, _, e⟩ := State.recordFirst_writes s c u p a b d
  rw [e]
@[simp] theorem State.recordFirst_prev (c : RecCode) (u p : Nat) (a b d : Word) : (s.recordFirst c u p a b d).prev = s.prev := by
  obtain ⟨_, _, _, _, e⟩ := State.recordFirst_writes s c u p a b d
  rw [e]
@[simp] theorem State.recordFirst_devAt (c : RecCode) (u p : Nat) (a b d : Word) : (s.recordFirst c u p a b d).devAt = s.devAt := by
  obtain ⟨_, _, _, _, e⟩ := State.recordFirst_writes s c u p a b d
  rw [e]
@[simp] theorem State.recordFirst_devLog (c : RecCode) (u p : Nat) (a b d : Word) : (s.recordFirst c u p a b d).devLog = s.devLog := by
  obtain ⟨_, _, _, _, e⟩ := State.recordFirst_writes s c u p a b d
  rw [e]
@[simp] theorem State.recordFirst_frozen (c : RecCode) (u p : Nat) (a b d : Word) : (s.recordFirst c u p a b d).frozen = s.frozen := by
  obtain ⟨_, _, _, _, e⟩ := State.recordFirst_writes s c u p a b d
  rw [e]
@[simp] theorem State.recordFirst_held (c : RecCode) (u p : Nat) (a b d : Word) : (s.recordFirst c u p a b d).held = s.held := by
  obtain ⟨_, _, _, _, e⟩ := State.recordFirst_writes s c u p a b d
  rw [e]
@[simp] theorem State.recordFirst_freeIdx (c : RecCode) (u p : Nat) (a b d : Word) : (s.recordFirst c u p a b d).freeIdx = s.freeIdx := by
  obtain ⟨_, _, _, _, e⟩ := State.recordFirst_writes s c u p a b d
  rw [e]
@[simp] theorem State.recordFirst_pfail (c : RecCode) (u p : Nat) (a b d : Word) : (s.recordFirst c u p a b d).pfail = s.pfail := by
  obtain ⟨_, _, _, _, e⟩ := State.recordFirst_writes s c u p a b d
  rw [e]
@[simp] theorem State.recordFirst_pfailBalls (c : RecCode) (u p : Nat) (a b d : Word) : (s.recordFirst c u p a b d).pfailBalls = s.pfailBalls := by
  obtain ⟨_, _, _, _, e⟩ := State.recordFirst_writes s c u p a b d
  rw [e]
@[simp] theorem State.recordFirst_clockLost (c : RecCode) (u p : Nat) (a b d : Word) : (s.recordFirst c u p a b d).clockLost = s.clockLost := by
  obtain ⟨_, _, _, _, e⟩ := State.recordFirst_writes s c u p a b d
  rw [e]
@[simp] theorem State.recordFirst_supplySafe (c : RecCode) (u p : Nat) (a b d : Word) : (s.recordFirst c u p a b d).supplySafe = s.supplySafe := by
  obtain ⟨_, _, _, _, e⟩ := State.recordFirst_writes s c u p a b d
  rw [e]
@[simp] theorem State.recordFirst_inRange (c : RecCode) (u p : Nat) (a b d : Word) : (s.recordFirst c u p a b d).inRange = s.inRange := by
  obtain ⟨_, _, _, _, e⟩ := State.recordFirst_writes s c u p a b d
  rw [e]
@[simp] theorem State.recordFirst_idleDrain (c : RecCode) (u p : Nat) (a b d : Word) : (s.recordFirst c u p a b d).idleDrain = s.idleDrain := by
  obtain ⟨_, _, _, _, e⟩ := State.recordFirst_writes s c u p a b d
  rw [e]
@[simp] theorem State.recordFirst_ctrlDue (c : RecCode) (u p : Nat) (a b d : Word) : (s.recordFirst c u p a b d).ctrlDue = s.ctrlDue := by
  obtain ⟨_, _, _, _, e⟩ := State.recordFirst_writes s c u p a b d
  rw [e]
@[simp] theorem State.recordFirst_waking (c : RecCode) (u p : Nat) (a b d : Word) : (s.recordFirst c u p a b d).waking = s.waking := by
  obtain ⟨_, _, _, _, e⟩ := State.recordFirst_writes s c u p a b d
  rw [e]
@[simp] theorem State.recordFirst_patchOk (c : RecCode) (u p : Nat) (a b d : Word) : (s.recordFirst c u p a b d).patchOk = s.patchOk := by
  obtain ⟨_, _, _, _, e⟩ := State.recordFirst_writes s c u p a b d
  rw [e]
@[simp] theorem State.recordFirst_checking (c : RecCode) (u p : Nat) (a b d : Word) : (s.recordFirst c u p a b d).checking = s.checking := by
  obtain ⟨_, _, _, _, e⟩ := State.recordFirst_writes s c u p a b d
  rw [e]
@[simp] theorem State.recordFirst_sealExp (c : RecCode) (u p : Nat) (a b d : Word) : (s.recordFirst c u p a b d).sealExp = s.sealExp := by
  obtain ⟨_, _, _, _, e⟩ := State.recordFirst_writes s c u p a b d
  rw [e]
@[simp] theorem State.recordFirst_sealSnap (c : RecCode) (u p : Nat) (a b d : Word) : (s.recordFirst c u p a b d).sealSnap = s.sealSnap := by
  obtain ⟨_, _, _, _, e⟩ := State.recordFirst_writes s c u p a b d
  rw [e]
@[simp] theorem State.recordFirst_sealFail (c : RecCode) (u p : Nat) (a b d : Word) : (s.recordFirst c u p a b d).sealFail = s.sealFail := by
  obtain ⟨_, _, _, _, e⟩ := State.recordFirst_writes s c u p a b d
  rw [e]
@[simp] theorem State.recordFirst_spdRun (c : RecCode) (u p : Nat) (a b d : Word) : (s.recordFirst c u p a b d).spdRun = s.spdRun := by
  obtain ⟨_, _, _, _, e⟩ := State.recordFirst_writes s c u p a b d
  rw [e]
@[simp] theorem State.recordFirst_qualLow (c : RecCode) (u p : Nat) (a b d : Word) : (s.recordFirst c u p a b d).qualLow = s.qualLow := by
  obtain ⟨_, _, _, _, e⟩ := State.recordFirst_writes s c u p a b d
  rw [e]
@[simp] theorem State.recordFirst_romFail (c : RecCode) (u p : Nat) (a b d : Word) : (s.recordFirst c u p a b d).romFail = s.romFail := by
  obtain ⟨_, _, _, _, e⟩ := State.recordFirst_writes s c u p a b d
  rw [e]
@[simp] theorem State.recordFirst_tempSeen (c : RecCode) (u p : Nat) (a b d : Word) : (s.recordFirst c u p a b d).tempSeen = s.tempSeen := by
  obtain ⟨_, _, _, _, e⟩ := State.recordFirst_writes s c u p a b d
  rw [e]
@[simp] theorem State.recordFirst_yewPort (c : RecCode) (u p : Nat) (a b d : Word) : (s.recordFirst c u p a b d).yewPort = s.yewPort := by
  obtain ⟨_, _, _, _, e⟩ := State.recordFirst_writes s c u p a b d
  rw [e]
@[simp] theorem State.recordFirst_yewCfg (c : RecCode) (u p : Nat) (a b d : Word) : (s.recordFirst c u p a b d).yewCfg = s.yewCfg := by
  obtain ⟨_, _, _, _, e⟩ := State.recordFirst_writes s c u p a b d
  rw [e]
@[simp] theorem State.recordFirst_hq (c : RecCode) (u p : Nat) (a b d : Word) : (s.recordFirst c u p a b d).hq = s.hq := by
  obtain ⟨_, _, _, _, e⟩ := State.recordFirst_writes s c u p a b d
  rw [e]
@[simp] theorem State.recordFirst_cmpl (c : RecCode) (u p : Nat) (a b d : Word) : (s.recordFirst c u p a b d).cmpl = s.cmpl := by
  obtain ⟨_, _, _, _, e⟩ := State.recordFirst_writes s c u p a b d
  rw [e]
@[simp] theorem State.recordFirst_cmplWait (c : RecCode) (u p : Nat) (a b d : Word) : (s.recordFirst c u p a b d).cmplWait = s.cmplWait := by
  obtain ⟨_, _, _, _, e⟩ := State.recordFirst_writes s c u p a b d
  rw [e]
@[simp] theorem State.recordFirst_dropQ (c : RecCode) (u p : Nat) (a b d : Word) : (s.recordFirst c u p a b d).dropQ = s.dropQ := by
  obtain ⟨_, _, _, _, e⟩ := State.recordFirst_writes s c u p a b d
  rw [e]
@[simp] theorem State.recordFirst_hirqRose (c : RecCode) (u p : Nat) (a b d : Word) : (s.recordFirst c u p a b d).hirqRose = s.hirqRose := by
  obtain ⟨_, _, _, _, e⟩ := State.recordFirst_writes s c u p a b d
  rw [e]
@[simp] theorem State.recordFirst_mbox (c : RecCode) (u p : Nat) (a b d : Word) : (s.recordFirst c u p a b d).mbox = s.mbox := by
  obtain ⟨_, _, _, _, e⟩ := State.recordFirst_writes s c u p a b d
  rw [e]
@[simp] theorem State.recordFirst_nor (c : RecCode) (u p : Nat) (a b d : Word) : (s.recordFirst c u p a b d).nor = s.nor := by
  obtain ⟨_, _, _, _, e⟩ := State.recordFirst_writes s c u p a b d
  rw [e]
@[simp] theorem State.recordFirst_laurel (c : RecCode) (u p : Nat) (a b d : Word) : (s.recordFirst c u p a b d).laurel = s.laurel := by
  obtain ⟨_, _, _, _, e⟩ := State.recordFirst_writes s c u p a b d
  rw [e]
@[simp] theorem State.recordFirst_lanes (c : RecCode) (u p : Nat) (a b d : Word) : (s.recordFirst c u p a b d).lanes = s.lanes := by
  obtain ⟨_, _, _, _, e⟩ := State.recordFirst_writes s c u p a b d
  rw [e]
@[simp] theorem State.recordFirst_banks (c : RecCode) (u p : Nat) (a b d : Word) : (s.recordFirst c u p a b d).banks = s.banks := by
  obtain ⟨_, _, _, _, e⟩ := State.recordFirst_writes s c u p a b d
  rw [e]
@[simp] theorem State.recordFirst_pwm (c : RecCode) (u p : Nat) (a b d : Word) : (s.recordFirst c u p a b d).pwm = s.pwm := by
  obtain ⟨_, _, _, _, e⟩ := State.recordFirst_writes s c u p a b d
  rw [e]
@[simp] theorem State.recordFirst_eng (c : RecCode) (u p : Nat) (a b d : Word) : (s.recordFirst c u p a b d).eng = s.eng := by
  obtain ⟨_, _, _, _, e⟩ := State.recordFirst_writes s c u p a b d
  rw [e]
@[simp] theorem State.recordFirst_fbk (c : RecCode) (u p : Nat) (a b d : Word) : (s.recordFirst c u p a b d).fbk = s.fbk := by
  obtain ⟨_, _, _, _, e⟩ := State.recordFirst_writes s c u p a b d
  rw [e]
@[simp] theorem State.recordFirst_syncIn (c : RecCode) (u p : Nat) (a b d : Word) : (s.recordFirst c u p a b d).syncIn = s.syncIn := by
  obtain ⟨_, _, _, _, e⟩ := State.recordFirst_writes s c u p a b d
  rw [e]
@[simp] theorem State.recordFirst_syncOut (c : RecCode) (u p : Nat) (a b d : Word) : (s.recordFirst c u p a b d).syncOut = s.syncOut := by
  obtain ⟨_, _, _, _, e⟩ := State.recordFirst_writes s c u p a b d
  rw [e]
@[simp] theorem State.recordFirst_pose (c : RecCode) (u p : Nat) (a b d : Word) : (s.recordFirst c u p a b d).pose = s.pose := by
  obtain ⟨_, _, _, _, e⟩ := State.recordFirst_writes s c u p a b d
  rw [e]
@[simp] theorem State.recordFirst_imu (c : RecCode) (u p : Nat) (a b d : Word) : (s.recordFirst c u p a b d).imu = s.imu := by
  obtain ⟨_, _, _, _, e⟩ := State.recordFirst_writes s c u p a b d
  rw [e]
@[simp] theorem State.recordFirst_trav (c : RecCode) (u p : Nat) (a b d : Word) : (s.recordFirst c u p a b d).trav = s.trav := by
  obtain ⟨_, _, _, _, e⟩ := State.recordFirst_writes s c u p a b d
  rw [e]
@[simp] theorem State.recordFirst_fpe (c : RecCode) (u p : Nat) (a b d : Word) : (s.recordFirst c u p a b d).fpe = s.fpe := by
  obtain ⟨_, _, _, _, e⟩ := State.recordFirst_writes s c u p a b d
  rw [e]
@[simp] theorem State.recordFirst_gnss (c : RecCode) (u p : Nat) (a b d : Word) : (s.recordFirst c u p a b d).gnss = s.gnss := by
  obtain ⟨_, _, _, _, e⟩ := State.recordFirst_writes s c u p a b d
  rw [e]
@[simp] theorem State.recordFirst_time (c : RecCode) (u p : Nat) (a b d : Word) : (s.recordFirst c u p a b d).time = s.time := by
  obtain ⟨_, _, _, _, e⟩ := State.recordFirst_writes s c u p a b d
  rw [e]
@[simp] theorem State.recordFirst_map (c : RecCode) (u p : Nat) (a b d : Word) : (s.recordFirst c u p a b d).map = s.map := by
  obtain ⟨_, _, _, _, e⟩ := State.recordFirst_writes s c u p a b d
  rw [e]
@[simp] theorem State.recordFirst_ports (c : RecCode) (u p : Nat) (a b d : Word) : (s.recordFirst c u p a b d).ports = s.ports := by
  obtain ⟨_, _, _, _, e⟩ := State.recordFirst_writes s c u p a b d
  rw [e]
@[simp] theorem State.recordFirst_ring (c : RecCode) (u p : Nat) (a b d : Word) : (s.recordFirst c u p a b d).ring = s.ring := by
  obtain ⟨_, _, _, _, e⟩ := State.recordFirst_writes s c u p a b d
  rw [e]
@[simp] theorem State.recordFirst_rtime (c : RecCode) (u p : Nat) (a b d : Word) : (s.recordFirst c u p a b d).rtime = s.rtime := by
  obtain ⟨_, _, _, _, e⟩ := State.recordFirst_writes s c u p a b d
  rw [e]
@[simp] theorem State.recordFirst_rtun (c : RecCode) (u p : Nat) (a b d : Word) : (s.recordFirst c u p a b d).rtun = s.rtun := by
  obtain ⟨_, _, _, _, e⟩ := State.recordFirst_writes s c u p a b d
  rw [e]
@[simp] theorem State.recordFirst_hostTx (c : RecCode) (u p : Nat) (a b d : Word) : (s.recordFirst c u p a b d).hostTx = s.hostTx := by
  obtain ⟨_, _, _, _, e⟩ := State.recordFirst_writes s c u p a b d
  rw [e]
@[simp] theorem State.recordFirst_lastRead (c : RecCode) (u p : Nat) (a b d : Word) : (s.recordFirst c u p a b d).lastRead = s.lastRead := by
  obtain ⟨_, _, _, _, e⟩ := State.recordFirst_writes s c u p a b d
  rw [e]
@[simp] theorem State.recordFirst_tdo (c : RecCode) (u p : Nat) (a b d : Word) : (s.recordFirst c u p a b d).tdo = s.tdo := by
  obtain ⟨_, _, _, _, e⟩ := State.recordFirst_writes s c u p a b d
  rw [e]
@[simp] theorem State.recordFirst_extest (c : RecCode) (u p : Nat) (a b d : Word) : (s.recordFirst c u p a b d).extest = s.extest := by
  obtain ⟨_, _, _, _, e⟩ := State.recordFirst_writes s c u p a b d
  rw [e]

/-- Everything `toState` can write. -/
theorem State.toState_writes (d : DevState) :
    ∃ r l y, s.toState d = { s with prev := s.dev, dev := d, devAt := s.now, devLog := s.devLog.filter (fun (c : Time × DevState) => decide (s.trav.k * 100000000 ≤ c.1)) ++ [(s.now, s.dev)], regs := r, hirqLow := l, yew := y } := by
  unfold State.toState
  dsimp only
  obtain ⟨r, l, e⟩ := State.setEvt_writes { s with prev := s.dev, dev := d, devAt := s.now, devLog := s.devLog.filter (fun (c : Time × DevState) => decide (s.trav.k * 100000000 ≤ c.1)) ++ [(s.now, s.dev)] } SYS.SYS_EVT.STATE_CHANGE
  rw [e]
  obtain ⟨r', l', y', e'⟩ := State.record_writes { s with prev := s.dev, dev := d, devAt := s.now, devLog := s.devLog.filter (fun (c : Time × DevState) => decide (s.trav.k * 100000000 ≤ c.1)) ++ [(s.now, s.dev)], regs := r, hirqLow := l }
    Rec.STATE_CHANGE 0 (wd d.code) (wd s.dev.code) 0
  exact ⟨r', l', y', e'.trans rfl⟩

@[simp] theorem State.toState_pending (d : DevState) : (s.toState d).pending = s.pending := by
  obtain ⟨_, _, _, e⟩ := State.toState_writes s d
  rw [e]
@[simp] theorem State.toState_now (d : DevState) : (s.toState d).now = s.now := by
  obtain ⟨_, _, _, e⟩ := State.toState_writes s d
  rw [e]
@[simp] theorem State.toState_member (d : DevState) : (s.toState d).member = s.member := by
  obtain ⟨_, _, _, e⟩ := State.toState_writes s d
  rw [e]
@[simp] theorem State.toState_frozen (d : DevState) : (s.toState d).frozen = s.frozen := by
  obtain ⟨_, _, _, e⟩ := State.toState_writes s d
  rw [e]
@[simp] theorem State.toState_held (d : DevState) : (s.toState d).held = s.held := by
  obtain ⟨_, _, _, e⟩ := State.toState_writes s d
  rw [e]
@[simp] theorem State.toState_freeIdx (d : DevState) : (s.toState d).freeIdx = s.freeIdx := by
  obtain ⟨_, _, _, e⟩ := State.toState_writes s d
  rw [e]
@[simp] theorem State.toState_firstSeen (d : DevState) : (s.toState d).firstSeen = s.firstSeen := by
  obtain ⟨_, _, _, e⟩ := State.toState_writes s d
  rw [e]
@[simp] theorem State.toState_pfail (d : DevState) : (s.toState d).pfail = s.pfail := by
  obtain ⟨_, _, _, e⟩ := State.toState_writes s d
  rw [e]
@[simp] theorem State.toState_pfailBalls (d : DevState) : (s.toState d).pfailBalls = s.pfailBalls := by
  obtain ⟨_, _, _, e⟩ := State.toState_writes s d
  rw [e]
@[simp] theorem State.toState_clockLost (d : DevState) : (s.toState d).clockLost = s.clockLost := by
  obtain ⟨_, _, _, e⟩ := State.toState_writes s d
  rw [e]
@[simp] theorem State.toState_supplySafe (d : DevState) : (s.toState d).supplySafe = s.supplySafe := by
  obtain ⟨_, _, _, e⟩ := State.toState_writes s d
  rw [e]
@[simp] theorem State.toState_inRange (d : DevState) : (s.toState d).inRange = s.inRange := by
  obtain ⟨_, _, _, e⟩ := State.toState_writes s d
  rw [e]
@[simp] theorem State.toState_idleDrain (d : DevState) : (s.toState d).idleDrain = s.idleDrain := by
  obtain ⟨_, _, _, e⟩ := State.toState_writes s d
  rw [e]
@[simp] theorem State.toState_ctrlDue (d : DevState) : (s.toState d).ctrlDue = s.ctrlDue := by
  obtain ⟨_, _, _, e⟩ := State.toState_writes s d
  rw [e]
@[simp] theorem State.toState_waking (d : DevState) : (s.toState d).waking = s.waking := by
  obtain ⟨_, _, _, e⟩ := State.toState_writes s d
  rw [e]
@[simp] theorem State.toState_patchOk (d : DevState) : (s.toState d).patchOk = s.patchOk := by
  obtain ⟨_, _, _, e⟩ := State.toState_writes s d
  rw [e]
@[simp] theorem State.toState_checking (d : DevState) : (s.toState d).checking = s.checking := by
  obtain ⟨_, _, _, e⟩ := State.toState_writes s d
  rw [e]
@[simp] theorem State.toState_sealExp (d : DevState) : (s.toState d).sealExp = s.sealExp := by
  obtain ⟨_, _, _, e⟩ := State.toState_writes s d
  rw [e]
@[simp] theorem State.toState_sealSnap (d : DevState) : (s.toState d).sealSnap = s.sealSnap := by
  obtain ⟨_, _, _, e⟩ := State.toState_writes s d
  rw [e]
@[simp] theorem State.toState_sealFail (d : DevState) : (s.toState d).sealFail = s.sealFail := by
  obtain ⟨_, _, _, e⟩ := State.toState_writes s d
  rw [e]
@[simp] theorem State.toState_spdRun (d : DevState) : (s.toState d).spdRun = s.spdRun := by
  obtain ⟨_, _, _, e⟩ := State.toState_writes s d
  rw [e]
@[simp] theorem State.toState_qualLow (d : DevState) : (s.toState d).qualLow = s.qualLow := by
  obtain ⟨_, _, _, e⟩ := State.toState_writes s d
  rw [e]
@[simp] theorem State.toState_romFail (d : DevState) : (s.toState d).romFail = s.romFail := by
  obtain ⟨_, _, _, e⟩ := State.toState_writes s d
  rw [e]
@[simp] theorem State.toState_tempSeen (d : DevState) : (s.toState d).tempSeen = s.tempSeen := by
  obtain ⟨_, _, _, e⟩ := State.toState_writes s d
  rw [e]
@[simp] theorem State.toState_yewPort (d : DevState) : (s.toState d).yewPort = s.yewPort := by
  obtain ⟨_, _, _, e⟩ := State.toState_writes s d
  rw [e]
@[simp] theorem State.toState_yewCfg (d : DevState) : (s.toState d).yewCfg = s.yewCfg := by
  obtain ⟨_, _, _, e⟩ := State.toState_writes s d
  rw [e]
@[simp] theorem State.toState_hq (d : DevState) : (s.toState d).hq = s.hq := by
  obtain ⟨_, _, _, e⟩ := State.toState_writes s d
  rw [e]
@[simp] theorem State.toState_cmpl (d : DevState) : (s.toState d).cmpl = s.cmpl := by
  obtain ⟨_, _, _, e⟩ := State.toState_writes s d
  rw [e]
@[simp] theorem State.toState_cmplWait (d : DevState) : (s.toState d).cmplWait = s.cmplWait := by
  obtain ⟨_, _, _, e⟩ := State.toState_writes s d
  rw [e]
@[simp] theorem State.toState_dropQ (d : DevState) : (s.toState d).dropQ = s.dropQ := by
  obtain ⟨_, _, _, e⟩ := State.toState_writes s d
  rw [e]
@[simp] theorem State.toState_hirqRose (d : DevState) : (s.toState d).hirqRose = s.hirqRose := by
  obtain ⟨_, _, _, e⟩ := State.toState_writes s d
  rw [e]
@[simp] theorem State.toState_mbox (d : DevState) : (s.toState d).mbox = s.mbox := by
  obtain ⟨_, _, _, e⟩ := State.toState_writes s d
  rw [e]
@[simp] theorem State.toState_nor (d : DevState) : (s.toState d).nor = s.nor := by
  obtain ⟨_, _, _, e⟩ := State.toState_writes s d
  rw [e]
@[simp] theorem State.toState_laurel (d : DevState) : (s.toState d).laurel = s.laurel := by
  obtain ⟨_, _, _, e⟩ := State.toState_writes s d
  rw [e]
@[simp] theorem State.toState_lanes (d : DevState) : (s.toState d).lanes = s.lanes := by
  obtain ⟨_, _, _, e⟩ := State.toState_writes s d
  rw [e]
@[simp] theorem State.toState_banks (d : DevState) : (s.toState d).banks = s.banks := by
  obtain ⟨_, _, _, e⟩ := State.toState_writes s d
  rw [e]
@[simp] theorem State.toState_pwm (d : DevState) : (s.toState d).pwm = s.pwm := by
  obtain ⟨_, _, _, e⟩ := State.toState_writes s d
  rw [e]
@[simp] theorem State.toState_eng (d : DevState) : (s.toState d).eng = s.eng := by
  obtain ⟨_, _, _, e⟩ := State.toState_writes s d
  rw [e]
@[simp] theorem State.toState_fbk (d : DevState) : (s.toState d).fbk = s.fbk := by
  obtain ⟨_, _, _, e⟩ := State.toState_writes s d
  rw [e]
@[simp] theorem State.toState_syncIn (d : DevState) : (s.toState d).syncIn = s.syncIn := by
  obtain ⟨_, _, _, e⟩ := State.toState_writes s d
  rw [e]
@[simp] theorem State.toState_syncOut (d : DevState) : (s.toState d).syncOut = s.syncOut := by
  obtain ⟨_, _, _, e⟩ := State.toState_writes s d
  rw [e]
@[simp] theorem State.toState_pose (d : DevState) : (s.toState d).pose = s.pose := by
  obtain ⟨_, _, _, e⟩ := State.toState_writes s d
  rw [e]
@[simp] theorem State.toState_imu (d : DevState) : (s.toState d).imu = s.imu := by
  obtain ⟨_, _, _, e⟩ := State.toState_writes s d
  rw [e]
@[simp] theorem State.toState_trav (d : DevState) : (s.toState d).trav = s.trav := by
  obtain ⟨_, _, _, e⟩ := State.toState_writes s d
  rw [e]
@[simp] theorem State.toState_fpe (d : DevState) : (s.toState d).fpe = s.fpe := by
  obtain ⟨_, _, _, e⟩ := State.toState_writes s d
  rw [e]
@[simp] theorem State.toState_gnss (d : DevState) : (s.toState d).gnss = s.gnss := by
  obtain ⟨_, _, _, e⟩ := State.toState_writes s d
  rw [e]
@[simp] theorem State.toState_time (d : DevState) : (s.toState d).time = s.time := by
  obtain ⟨_, _, _, e⟩ := State.toState_writes s d
  rw [e]
@[simp] theorem State.toState_map (d : DevState) : (s.toState d).map = s.map := by
  obtain ⟨_, _, _, e⟩ := State.toState_writes s d
  rw [e]
@[simp] theorem State.toState_ports (d : DevState) : (s.toState d).ports = s.ports := by
  obtain ⟨_, _, _, e⟩ := State.toState_writes s d
  rw [e]
@[simp] theorem State.toState_ring (d : DevState) : (s.toState d).ring = s.ring := by
  obtain ⟨_, _, _, e⟩ := State.toState_writes s d
  rw [e]
@[simp] theorem State.toState_rtime (d : DevState) : (s.toState d).rtime = s.rtime := by
  obtain ⟨_, _, _, e⟩ := State.toState_writes s d
  rw [e]
@[simp] theorem State.toState_rtun (d : DevState) : (s.toState d).rtun = s.rtun := by
  obtain ⟨_, _, _, e⟩ := State.toState_writes s d
  rw [e]
@[simp] theorem State.toState_hostTx (d : DevState) : (s.toState d).hostTx = s.hostTx := by
  obtain ⟨_, _, _, e⟩ := State.toState_writes s d
  rw [e]
@[simp] theorem State.toState_lastRead (d : DevState) : (s.toState d).lastRead = s.lastRead := by
  obtain ⟨_, _, _, e⟩ := State.toState_writes s d
  rw [e]
@[simp] theorem State.toState_tdo (d : DevState) : (s.toState d).tdo = s.tdo := by
  obtain ⟨_, _, _, e⟩ := State.toState_writes s d
  rw [e]
@[simp] theorem State.toState_extest (d : DevState) : (s.toState d).extest = s.extest := by
  obtain ⟨_, _, _, e⟩ := State.toState_writes s d
  rw [e]
@[simp] theorem State.toState_dev (d : DevState) : (s.toState d).dev = d := by
  obtain ⟨_, _, _, e⟩ := State.toState_writes s d
  rw [e]
@[simp] theorem State.toState_prev (d : DevState) : (s.toState d).prev = s.dev := by
  obtain ⟨_, _, _, e⟩ := State.toState_writes s d
  rw [e]
@[simp] theorem State.toState_devAt (d : DevState) : (s.toState d).devAt = s.now := by
  obtain ⟨_, _, _, e⟩ := State.toState_writes s d
  rw [e]
@[simp] theorem State.toState_devLog (d : DevState) : (s.toState d).devLog = s.devLog.filter (fun (c : Time × DevState) => decide (s.trav.k * 100000000 ≤ c.1)) ++ [(s.now, s.dev)] := by
  obtain ⟨_, _, _, e⟩ := State.toState_writes s d
  rw [e]

@[simp] theorem State.at_now (t : Time) : (s.at t).now = max s.now t := rfl

end Sys2Proof.Machine
end

