-- ==== Sys2Proof/Laws/Kept.lean ====
section
/-! SUPPORT. What every operation keeps, said once: the queue, the member, a device that is not OFF, and the canonical form
of each sparse store. `Kept s u`: the state `u`, reached from `s`, keeps them. One lemma for each operation says it for that
operation (files KeptSpine, KeptLane, KeptHost); KeptExec says it for every command. -/
namespace Sys2Proof.Machine

def KPending (s : State) (x : List Instr) : Prop := x = s.pending
def KMember (s : State) (x : Member) : Prop := x = s.member
def KDev (s : State) (x : DevState) : Prop := x = .off → s.dev = .off
def KRegs (s : State) (x : Sparse Word) : Prop := Sparse.wf regReset s.regs = true → Sparse.wf regReset x = true
def KFrozen (s : State) (x : Sparse Word) : Prop := Sparse.wf noWord s.frozen = true → Sparse.wf noWord x = true
def KHeld (s : State) (x : Sparse Word) : Prop := Sparse.wf noWord s.held = true → Sparse.wf noWord x = true
def KFirst (s : State) (x : Sparse Nat) : Prop :=
  Sparse.wf noStamp s.firstSeen = true → Sparse.wf noStamp x = true
def KCfg (s : State) (x : Sparse Word) : Prop :=
  Sparse.wf codeReset s.yewCfg = true → Sparse.wf codeReset x = true
def KFlash (s : State) (x : Sparse Byte) : Prop := Sparse.wf erased s.nor.flash = true → Sparse.wf erased x = true
def KNor (s : State) (x : NorState) : Prop := KFlash s x.flash

/-- The state `u`, reached from `s`, keeps the queue, the member, being powered and the canonical forms. -/
structure Kept (s u : State) : Prop where
  pending : KPending s u.pending
  member : KMember s u.member
  dev : KDev s u.dev
  regs : KRegs s u.regs
  frozen : KFrozen s u.frozen
  held : KHeld s u.held
  firstSeen : KFirst s u.firstSeen
  yewCfg : KCfg s u.yewCfg
  nor : KNor s u.nor

variable {s u : State}

theorem Kept.refl (s : State) : Kept s s :=
  ⟨rfl, rfl, fun h => h, fun h => h, fun h => h, fun h => h, fun h => h, fun h => h, fun h => h⟩

/-- The canonical form is kept. -/
theorem Kept.canon (h : Kept s u) (c : s.canon = true) : u.canon = true := by
  simp only [State.canon, Bool.and_eq_true] at c ⊢
  exact ⟨⟨⟨⟨⟨h.regs c.1.1.1.1.1, h.frozen c.1.1.1.1.2⟩, h.held c.1.1.1.2⟩, h.firstSeen c.1.1.2⟩, h.yewCfg c.1.2⟩, h.nor c.2⟩

@[simp] theorem kept_mk (x0 : List Instr) (x1 : Time) (x2 : Member) (x3 : DevState) (x4 : DevState) (x5 : Time) (x6 : List (Time × DevState)) (x7 : Sparse Word) (x8 : Sparse Word) (x9 : Sparse Word) (x10 : Nat) (x11 : Sparse Nat) (x12 : Bool) (x13 : Option Balls) (x14 : Bool) (x15 : Bool) (x16 : Vector Bool 6) (x17 : Bool) (x18 : Bool) (x19 : Option Time) (x20 : Bool) (x21 : Bool) (x22 : Word) (x23 : Sparse Word) (x24 : Option (Nat × Nat)) (x25 : Nat) (x26 : Option Time) (x27 : Bool) (x28 : Vector Bool 2) (x29 : Vector YewCopy 2) (x30 : YewPort) (x31 : Sparse Word) (x32 : Vector Queue 32) (x33 : List Completion) (x34 : List Completion) (x35 : Nat) (x36 : Bool) (x37 : Time) (x38 : Vector Mailbox 8) (x39 : NorState) (x40 : LaurelState) (x41 : Vector LaneState 16) (x42 : Vector BankState 16) (x43 : Vector PwmState 16) (x44 : Vector EngState 16) (x45 : Vector FbkState 16) (x46 : Option Time) (x47 : Option Time) (x48 : PoseState) (x49 : ImuState) (x50 : TravState) (x51 : FpeState) (x52 : GnssState) (x53 : TimeState) (x54 : MapState) (x55 : Vector PortState 2) (x56 : RingState) (x57 : RTimeState) (x58 : RTunState) (x59 : List Byte) (x60 : Word) (x61 : Word) (x62 : Bool) :
    Kept s (State.mk x0 x1 x2 x3 x4 x5 x6 x7 x8 x9 x10 x11 x12 x13 x14 x15 x16 x17 x18 x19 x20 x21 x22 x23 x24 x25 x26 x27 x28 x29 x30 x31 x32 x33 x34 x35 x36 x37 x38 x39 x40 x41 x42 x43 x44 x45 x46 x47 x48 x49 x50 x51 x52 x53 x54 x55 x56 x57 x58 x59 x60 x61 x62) ↔ KPending s x0 ∧ KMember s x2 ∧ KDev s x3 ∧ KRegs s x7 ∧ KFrozen s x8 ∧ KHeld s x9 ∧ KFirst s x11 ∧ KCfg s x31 ∧ KNor s x39 :=
  ⟨fun h => ⟨h.pending, h.member, h.dev, h.regs, h.frozen, h.held, h.firstSeen, h.yewCfg, h.nor⟩, fun h => ⟨h.1, h.2.1, h.2.2.1, h.2.2.2.1, h.2.2.2.2.1, h.2.2.2.2.2.1, h.2.2.2.2.2.2.1, h.2.2.2.2.2.2.2.1, h.2.2.2.2.2.2.2.2⟩⟩

@[simp] theorem kept_pending (h : Kept s u) : KPending s u.pending := h.pending
@[simp] theorem kept_member (h : Kept s u) : KMember s u.member := h.member
@[simp] theorem kept_dev (h : Kept s u) : KDev s u.dev := h.dev
@[simp] theorem kept_regs (h : Kept s u) : KRegs s u.regs := h.regs
@[simp] theorem kept_frozen (h : Kept s u) : KFrozen s u.frozen := h.frozen
@[simp] theorem kept_held (h : Kept s u) : KHeld s u.held := h.held
@[simp] theorem kept_firstSeen (h : Kept s u) : KFirst s u.firstSeen := h.firstSeen
@[simp] theorem kept_yewCfg (h : Kept s u) : KCfg s u.yewCfg := h.yewCfg
@[simp] theorem kept_nor (h : Kept s u) : KNor s u.nor := h.nor

@[simp] theorem knor_mk (x0 : Sparse Byte) (x1 : Bool) (x2 : Nat) (x3 : Option Dir399) (x4 : Nat) (x5 : Nat) (x6 : BitVec 4) (x7 : Option NorOp) (x8 : Time) (x9 : Option NorOp) (x10 : List NorOp) (x11 : List NorOp) (x12 : Option LongCmd) (x13 : List (Nat × Nat × Nat)) :
    KNor s (NorState.mk x0 x1 x2 x3 x4 x5 x6 x7 x8 x9 x10 x11 x12 x13) ↔ KFlash s x0 := Iff.rfl
@[simp] theorem kflash_nor {x : NorState} (h : KNor s x) : KFlash s x.flash := h
@[simp] theorem kregs_set {x : Sparse Word} (h : KRegs s x) (k : Nat) (w : Word) : KRegs s (Sparse.set regReset x k w) :=
  fun c => Sparse.wf_set (h c)
@[simp] theorem kfirst_set {x : Sparse Nat} (h : KFirst s x) (k n : Nat) : KFirst s (Sparse.set noStamp x k n) :=
  fun c => Sparse.wf_set (h c)
@[simp] theorem kcfg_set {x : Sparse Word} (h : KCfg s x) (k : Nat) (w : Word) :
    KCfg s (Sparse.set codeReset x k w) := fun c => Sparse.wf_set (h c)
@[simp] theorem kflash_clear {x : Sparse Byte} (h : KFlash s x) (a b : Nat) : KFlash s (Sparse.clearRange x a b) :=
  fun c => Sparse.wf_clearRange (h c)
@[simp] theorem kfrozen_clear {x : Sparse Word} (h : KFrozen s x) (a b : Nat) : KFrozen s (Sparse.clearRange x a b) :=
  fun c => Sparse.wf_clearRange (h c)
@[simp] theorem kheld_clear {x : Sparse Word} (h : KHeld s x) (a b : Nat) : KHeld s (Sparse.clearRange x a b) :=
  fun c => Sparse.wf_clearRange (h c)

theorem wf_foldl_set {β : Type} (l : List β) (k : β → Nat) (w : β → Word) {x : Sparse Word} (h : Sparse.wf noWord x = true) :
    Sparse.wf noWord (l.foldl (fun m o => Sparse.set noWord m (k o) (w o)) x) = true := by
  induction l generalizing x with
  | nil => exact h
  | cons a l ih => exact ih (Sparse.wf_set h)

@[simp] theorem kfrozen_snap {x : Sparse Word} (h : KFrozen s x) (g : Nat → Word) (p : Nat) (k : PageKind) (lo hi : Nat) :
    KFrozen s (snapPage g x p k lo hi) := fun c => wf_foldl_set _ _ _ (h c)
@[simp] theorem kheld_snap {x : Sparse Word} (h : KHeld s x) (g : Nat → Word) (p : Nat) (k : PageKind) (lo hi : Nat) :
    KHeld s (snapPage g x p k lo hi) := fun c => wf_foldl_set _ _ _ (h c)
@[simp] theorem kheld_foldl {β : Type} {x : Sparse Word} (l : List β) (f : Sparse Word → β → Sparse Word) (h : KHeld s x)
    (hf : ∀ m b, KHeld s m → KHeld s (f m b)) : KHeld s (l.foldl f x) := by
  induction l generalizing x with
  | nil => exact h
  | cons a l ih => exact ih (hf _ _ h)

@[simp] theorem kflash_prog {x : Sparse Byte} (h : KFlash s x) (a : Nat) (d : List Byte) : KFlash s (progBytes x a d) := by
  induction d generalizing x a with
  | nil => exact h
  | cons b d ih => exact ih (fun c => Sparse.wf_set (h c)) _

@[simp] theorem kept_ite {c : Prop} [Decidable c] {a b : State} (ha : Kept s a) (hb : Kept s b) : Kept s (if c then a else b) := by
  split
  · exact ha
  · exact hb

@[simp] theorem overList_kept {α : Type} (l : List α) (f : α → State → State) (h : Kept s u)
    (hf : ∀ x w, Kept s w → Kept s (f x w)) : Kept s (overList l f u) := by
  unfold overList
  induction l generalizing u with
  | nil => exact h
  | cons a l ih => exact ih (hf _ _ h)

@[simp] theorem foldl_kept {α : Type} (l : List α) (f : State → α → State) (h : Kept s u)
    (hf : ∀ w x, Kept s w → Kept s (f w x)) : Kept s (l.foldl f u) := by
  induction l generalizing u with
  | nil => exact h
  | cons a l ih => exact ih (hf _ _ h)

theorem foldl_snd_kept {α β : Type} (l : List α) (f : β × State → α → β × State) (p : β × State) (h : Kept s p.2)
    (hf : ∀ w x, Kept s w.2 → Kept s (f w x).2) : Kept s (l.foldl f p).2 := by
  induction l generalizing p with
  | nil => exact h
  | cons a l ih => exact ih _ (hf _ _ h)

theorem foldl_fst_kept {α β : Type} (l : List α) (f : State × β → α → State × β) (p : State × β) (h : Kept s p.1)
    (hf : ∀ w x, Kept s w.1 → Kept s (f w x).1) : Kept s (l.foldl f p).1 := by
  induction l generalizing p with
  | nil => exact h
  | cons a l ih => exact ih _ (hf _ _ h)

@[simp] theorem State.at_kept (h : Kept s u) (t : Time) : Kept s (u.at t) := by simp [State.at, h]
@[simp] theorem State.setReg_kept (h : Kept s u) (a : Nat) (w : Word) : Kept s (u.setReg a w) := by simp [State.setReg, h]

end Sys2Proof.Machine
end

