-- ==== Sys2Proof/Laws/KeptLane.lean ====
section
/-! SUPPORT. What the operations of the spine's shared parts and of the lanes keep (Kept.lean says what is kept). -/
set_option maxRecDepth 4000
set_option linter.unusedSimpArgs false
set_option linter.unusedVariables false
namespace Sys2Proof.Machine

@[simp] theorem State.setFld_kept {z0 : State} (s : State) (f : Fld) (v : Nat) (hs : Kept z0 s) : Kept z0 (State.setFld s f
    v) := by
  simp +contextual (maxDischargeDepth := 99) [State.setFld, hs]

@[simp] theorem State.bump_kept {z0 : State} (s : State) (f : Fld) (n : Nat) (hs : Kept z0 s) : Kept z0 (State.bump s f n)
    := by
  simp +contextual (maxDischargeDepth := 99) [State.bump, hs]

@[simp] theorem State.keepMax_kept {z0 : State} (s : State) (f : Fld) (v : Nat) (hs : Kept z0 s) : Kept z0 (State.keepMax s
    f v) := by
  simp +contextual (maxDischargeDepth := 99) [State.keepMax, hs]

@[simp] theorem State.count_kept {z0 : State} (s : State) (a n : Nat) (hs : Kept z0 s) : Kept z0 (State.count s a n) := by
  simp +contextual (maxDischargeDepth := 99) [State.count, hs]

@[simp] theorem State.bumpReg_kept {z0 : State} (s : State) (a n : Nat) (hs : Kept z0 s) : Kept z0 (State.bumpReg s a n) :=
    by
  simp +contextual (maxDischargeDepth := 99) [State.bumpReg, hs]

@[simp] theorem State.free_kept {z0 : State} (s : State) (hs : Kept z0 s) : Kept z0 (State.free s).2 := by
  simp +contextual (maxDischargeDepth := 99) [State.free, hs]

@[simp] theorem State.firstInSec_kept {z0 : State} (s : State) (key : Nat) (hs : Kept z0 s) : Kept z0 (s.firstInSec key).2
    := by
  unfold State.firstInSec
  dsimp only
  split <;> simp [hs]

@[simp] theorem State.setEpoch_kept {z0 : State} (s : State) (page : Nat) (e : Epoch) (hs : Kept z0 s) : Kept z0
    (State.setEpoch s page e) := by
  simp +contextual (maxDischargeDepth := 99) [State.setEpoch, hs]

@[simp] theorem State.modHalf_kept {z0 : State} (s : State) (h : Half) (f : HalfState → HalfState) (hs : Kept z0 s) : Kept
    z0 (State.modHalf s h f) := by
  simp +contextual (maxDischargeDepth := 99) [State.modHalf, hs]

@[simp] theorem State.setLaurel_kept {z0 : State} (s : State) (f : LaurelState → LaurelState) (hs : Kept z0 s) : Kept z0
    (State.setLaurel s f) := by
  simp +contextual (maxDischargeDepth := 99) [State.setLaurel, hs]

@[simp] theorem State.modLane_kept {z0 : State} (s : State) (n : LaneIx) (f : LaneState → LaneState) (hs : Kept z0 s) : Kept
    z0 (State.modLane s n f) := by
  simp +contextual (maxDischargeDepth := 99) [State.modLane, hs]

@[simp] theorem State.clearBits_kept {z0 : State} (s : State) (a m : Nat) (hs : Kept z0 s) : Kept z0 (State.clearBits s a m)
    := by
  simp +contextual (maxDischargeDepth := 99) [State.clearBits, hs]

@[simp] theorem State.setRaw_kept {z0 : State} (s : State) (page i : Nat) (hs : Kept z0 s) : Kept z0 (State.setRaw s page i)
    := by
  simp +contextual (maxDischargeDepth := 99) [State.setRaw, hs]

@[simp] theorem State.setEvt_kept {z0 : State} (s : State) (f : Fld) (hs : Kept z0 s) : Kept z0 (State.setEvt s f) := by
  simp +contextual (maxDischargeDepth := 99) [State.setEvt, hs]

@[simp] theorem State.setFault_kept {z0 : State} (s : State) (page : Nat) (hs : Kept z0 s) : Kept z0 (State.setFault s page)
    := by
  simp +contextual (maxDischargeDepth := 99) [State.setFault, hs]

@[simp] theorem State.setDrained_kept {z0 : State} (s : State) (page : Nat) (hs : Kept z0 s) : Kept z0 (State.setDrained s
    page) := by
  simp +contextual (maxDischargeDepth := 99) [State.setDrained, hs]

@[simp] theorem State.clearDrained_kept {z0 : State} (s : State) (page : Nat) (hs : Kept z0 s) : Kept z0 (State.clearDrained
    s page) := by
  simp +contextual (maxDischargeDepth := 99) [State.clearDrained, hs]

@[simp] theorem State.err_kept {z0 : State} (s : State) (page off : Nat) (c : ErrCode) (hs : Kept z0 s) : Kept z0 (State.err
    s page off c) := by
  simp +contextual (maxDischargeDepth := 99) [State.err, hs]

@[simp] theorem State.modCopy_kept {z0 : State} (s : State) (h : Half) (f : YewCopy → YewCopy) (hs : Kept z0 s) : Kept z0
    (State.modCopy s h f) := by
  simp +contextual (maxDischargeDepth := 99) [State.modCopy, hs]

@[simp] theorem State.recHalf_kept {z0 : State} (s : State) (h : Half) (c : RecCode) (page : Nat) (a0 a1 a2 : Word) (hs :
    Kept z0 s) : Kept z0 (State.recHalf s h c page a0 a1 a2) := by
  unfold State.recHalf
  dsimp only
  (repeat' split) <;> simp +contextual (maxDischargeDepth := 99) [hs]

@[simp] theorem State.faultFor_kept {z0 : State} (s : State) (c : RecCode) (page : Nat) (hs : Kept z0 s) : Kept z0
    (State.faultFor s c page) := by
  simp +contextual (maxDischargeDepth := 99) [State.faultFor, hs]

@[simp] theorem State.record_kept {z0 : State} (s : State) (c : RecCode) (page : Nat) (a0 a1 a2 : Word) (hs : Kept z0 s) :
    Kept z0 (State.record s c page a0 a1 a2) := by
  simp +contextual (maxDischargeDepth := 99) [State.record, hs]

@[simp] theorem State.recordOwn_kept {z0 : State} (s : State) (h : Half) (c : RecCode) (page : Nat) (a0 a1 a2 : Word) (hs :
    Kept z0 s) : Kept z0 (State.recordOwn s h c page a0 a1 a2) := by
  simp +contextual (maxDischargeDepth := 99) [State.recordOwn, hs]

@[simp] theorem State.recordFirst_kept {z0 : State} (s : State) (c : RecCode) (sub page : Nat) (a0 a1 a2 : Word) (hs : Kept
    z0 s) :
    Kept z0 (s.recordFirst c sub page a0 a1 a2) := by
  unfold State.recordFirst
  have k := State.firstInSec_kept s (recKey c sub) hs
  revert k
  rcases s.firstInSec (recKey c sub) with ⟨b, u⟩
  intro k
  cases b
  · exact k
  · exact State.record_kept u c page a0 a1 a2 k

@[simp] theorem State.toState_kept {z0 : State} (s : State) (d : DevState) (hd : d ≠ .off) (hs : Kept z0 s) : Kept z0
    (s.toState d) := by
  have k : KDev z0 d := fun e => absurd e hd
  unfold State.toState
  dsimp only
  simp +contextual (maxDischargeDepth := 99) [hs, k]

@[simp] theorem State.modDn_kept {z0 : State} (s : State) (n : LaneIx) (f : LinkDir → LinkDir) (hs : Kept z0 s) : Kept z0
    (State.modDn s n f) := by
  simp +contextual (maxDischargeDepth := 99) [State.modDn, hs]

@[simp] theorem State.modUp_kept {z0 : State} (s : State) (n : LaneIx) (f : LinkDir → LinkDir) (hs : Kept z0 s) : Kept z0
    (State.modUp s n f) := by
  simp +contextual (maxDischargeDepth := 99) [State.modUp, hs]

@[simp] theorem State.pumpUp_kept {z0 : State} (s : State) (n : LaneIx) (hs : Kept z0 s) : Kept z0 (State.pumpUp s n) := by
  simp +contextual (maxDischargeDepth := 99) [State.pumpUp, hs]

@[simp] theorem State.pumpDn_kept {z0 : State} (s : State) (n : LaneIx) (hs : Kept z0 s) : Kept z0 (State.pumpDn s n) := by
  simp +contextual (maxDischargeDepth := 99) [State.pumpDn, hs]

@[simp] theorem State.sendUp_kept {z0 : State} (s : State) (n : LaneIx) (typ : Nat) (p : Word) (hs : Kept z0 s) : Kept z0
    (State.sendUp s n typ p) := by
  simp +contextual (maxDischargeDepth := 99) [State.sendUp, hs]

@[simp] theorem State.sendDn_kept {z0 : State} (s : State) (n : LaneIx) (fs : List (Nat × Word)) (hs : Kept z0 s) : Kept z0
    (State.sendDn s n fs).2 := by
  unfold State.sendDn
  dsimp only
  (repeat' split) <;> simp +contextual (maxDischargeDepth := 99) [hs]

@[simp] theorem State.pumpHalf_kept {z0 : State} (s : State) (n : LaneIx) (hs : Kept z0 s) : Kept z0 (State.pumpHalf s n) :=
    by
  simp +contextual (maxDischargeDepth := 99) [State.pumpHalf, hs]

@[simp] theorem State.sendOne_kept {z0 : State} (s : State) (n : LaneIx) (typ : Nat) (p : Word) (hs : Kept z0 s) : Kept z0
    (State.sendOne s n typ p) := by
  simp +contextual (maxDischargeDepth := 99) [State.sendOne, hs]

@[simp] theorem State.linkFault_kept {z0 : State} (s : State) (n : LaneIx) (hs : Kept z0 s) : Kept z0 (State.linkFault s n)
    := by
  simp +contextual (maxDischargeDepth := 99) [State.linkFault, hs]

@[simp] theorem State.resendDn_kept {z0 : State} (s : State) (n : LaneIx) (q : BitVec 4) (hs : Kept z0 s) : Kept z0
    (State.resendDn s n q) := by
  simp +contextual (maxDischargeDepth := 99) [State.resendDn, hs]

@[simp] theorem State.resendUp_kept {z0 : State} (s : State) (n : LaneIx) (q : BitVec 4) (hs : Kept z0 s) : Kept z0
    (State.resendUp s n q) := by
  simp +contextual (maxDischargeDepth := 99) [State.resendUp, hs]

@[simp] theorem State.resendDir_kept {z0 : State} (s : State) (n : LaneIx) (d : Dir) (q : BitVec 4) (hs : Kept z0 s) : Kept
    z0 (State.resendDir s n d q) := by
  unfold State.resendDir
  (repeat' split) <;> simp_all +contextual (maxDischargeDepth := 99)

@[simp] theorem State.pumpDir_kept {z0 : State} (s : State) (n : LaneIx) (d : Dir) (hs : Kept z0 s) : Kept z0 (State.pumpDir
    s n d) := by
  unfold State.pumpDir
  (repeat' split) <;> simp_all +contextual (maxDischargeDepth := 99)

@[simp] theorem State.release_kept {z0 : State} (s : State) (n : LaneIx) (d : Dir) (q : BitVec 4) (hs : Kept z0 s) : Kept z0
    (State.release s n d q) := by
  unfold State.release
  (repeat' split) <;> simp_all +contextual (maxDischargeDepth := 99)

@[simp] theorem State.ackDir_kept {z0 : State} (s : State) (n : LaneIx) (d : Dir) (q : BitVec 4) (hs : Kept z0 s) : Kept z0
    (State.ackDir s n d q) := by
  simp +contextual (maxDischargeDepth := 99) [State.ackDir, hs]

@[simp] theorem State.nakDir_kept {z0 : State} (s : State) (n : LaneIx) (d : Dir) (q : BitVec 4) (hs : Kept z0 s) : Kept z0
    (State.nakDir s n d q) := by
  simp +contextual (maxDischargeDepth := 99) [State.nakDir, hs]

@[simp] theorem State.sendLink_kept {z0 : State} (s : State) (n : LaneIx) (d : Dir) (typ : Nat) (hs : Kept z0 s) : Kept z0
    (State.sendLink s n d typ) := by
  unfold State.sendLink
  dsimp only
  (repeat' split) <;> simp +contextual (maxDischargeDepth := 99) [hs]

@[simp] theorem State.discardDn_kept {z0 : State} (s : State) (n : LaneIx) (hs : Kept z0 s) : Kept z0 (State.discardDn s n)
    := by
  simp +contextual (maxDischargeDepth := 99) [State.discardDn, hs]

@[simp] theorem State.discardUp_kept {z0 : State} (s : State) (n : LaneIx) (badCrc : Bool) (hs : Kept z0 s) : Kept z0
    (State.discardUp s n badCrc) := by
  simp +contextual (maxDischargeDepth := 99) [State.discardUp, hs]

@[simp] theorem State.dnAccepted_kept {z0 : State} (s : State) (n : LaneIx) (e : Epoch) (portIdle : Bool) (hs : Kept z0 s) :
    Kept z0 (State.dnAccepted s n e portIdle) := by
  unfold State.dnAccepted
  dsimp only
  (repeat' split) <;> simp +contextual (maxDischargeDepth := 99) [hs]

@[simp] theorem State.rxDn_kept {z0 : State} (s : State) (n : LaneIx) (f : Flit) (hs : Kept z0 s) : Kept z0 (State.rxDn s n
    f).2 := by
  unfold State.rxDn
  (repeat' split) <;> simp_all +contextual (maxDischargeDepth := 99)

@[simp] theorem State.rxUp_kept {z0 : State} (s : State) (n : LaneIx) (f : Flit) (hs : Kept z0 s) : Kept z0 (State.rxUp s n
    f).2 := by
  unfold State.rxUp
  (repeat' split) <;> simp_all +contextual (maxDischargeDepth := 99)

@[simp] theorem State.modBank_kept {z0 : State} (s : State) (n : LaneIx) (f : BankState → BankState) (hs : Kept z0 s) : Kept
    z0 (State.modBank s n f) := by
  simp +contextual (maxDischargeDepth := 99) [State.modBank, hs]

@[simp] theorem State.modOut_kept {z0 : State} (s : State) (n : LaneIx) (k : OutIx) (f : OutletState → OutletState) (hs :
    Kept z0 s) : Kept z0 (State.modOut s n k f) := by
  simp +contextual (maxDischargeDepth := 99) [State.modOut, hs]

@[simp] theorem State.modDet_kept {z0 : State} (s : State) (n : LaneIx) (k : OutIx) (f : DetState → DetState) (hs : Kept z0
    s) : Kept z0 (State.modDet s n k f) := by
  simp +contextual (maxDischargeDepth := 99) [State.modDet, hs]

@[simp] theorem State.sendDly_kept {z0 : State} (s : State) (n : LaneIx) (k : OutIx) (off : Bool) (v : Nat) (hs : Kept z0 s)
    : Kept z0 (State.sendDly s n k off v) := by
  simp +contextual (maxDischargeDepth := 99) [State.sendDly, hs]

@[simp] theorem State.publish_kept {z0 : State} (s : State) (n : LaneIx) (hs : Kept z0 s) : Kept z0 (State.publish s n) :=
    by
  simp +contextual (maxDischargeDepth := 99) [State.publish, hs]

@[simp] theorem State.sendMotion_kept {z0 : State} (s : State) (n : LaneIx) (k : OutIx) (closing : Bool) (kind : Nat) (act
    learned : Bool) (delay : Nat) (tm : Time) (hs : Kept z0 s) : Kept z0 (State.sendMotion s n k closing kind act learned
    delay tm) := by
  simp +contextual (maxDischargeDepth := 99) [State.sendMotion, hs]

@[simp] theorem State.estClosing_kept {z0 : State} (s : State) (n : LaneIx) (k : OutIx) (res : Nat) (tm : Time) (hs : Kept
    z0 s) : Kept z0 (State.estClosing s n k res tm) := by
  simp +contextual (maxDischargeDepth := 99) [State.estClosing, hs]

@[simp] theorem State.wearUpdate_kept {z0 : State} (s : State) (n : LaneIx) (k : OutIx) (hs : Kept z0 s) : Kept z0
    (State.wearUpdate s n k) := by
  simp +contextual (maxDischargeDepth := 99) [State.wearUpdate, hs]

@[simp] theorem State.learn_kept {z0 : State} (s : State) (n : LaneIx) (k : OutIx) (off : Bool) (x : Nat) (hs : Kept z0 s) :
    Kept z0 (State.learn s n k off x) := by
  simp +contextual (maxDischargeDepth := 99) [State.learn, hs]

@[simp] theorem State.openFound_kept {z0 : State} (s : State) (n : LaneIx) (k : OutIx) (tm : Time) (hs : Kept z0 s) : Kept
    z0 (State.openFound s n k tm) := by
  simp +contextual (maxDischargeDepth := 99) [State.openFound, hs]

@[simp] theorem State.openNotFound_kept {z0 : State} (s : State) (n : LaneIx) (k : OutIx) (hs : Kept z0 s) : Kept z0
    (State.openNotFound s n k) := by
  simp +contextual (maxDischargeDepth := 99) [State.openNotFound, hs]

@[simp] theorem State.closeFound_kept {z0 : State} (s : State) (n : LaneIx) (k : OutIx) (tm : Time) (hs : Kept z0 s) : Kept
    z0 (State.closeFound s n k tm) := by
  simp +contextual (maxDischargeDepth := 99) [State.closeFound, hs]

@[simp] theorem State.closeNotFound_kept {z0 : State} (s : State) (n : LaneIx) (k : OutIx) (hs : Kept z0 s) : Kept z0
    (State.closeNotFound s n k) := by
  simp +contextual (maxDischargeDepth := 99) [State.closeNotFound, hs]

@[simp] theorem State.openingStart_kept {z0 : State} (s : State) (n : LaneIx) (k : OutIx) (t : Time) (act search : Bool) (hs
    : Kept z0 s) : Kept z0 (State.openingStart s n k t act search) := by
  simp +contextual (maxDischargeDepth := 99) [State.openingStart, hs]

@[simp] theorem State.closingStart_kept {z0 : State} (s : State) (n : LaneIx) (k : OutIx) (t : Time) (act : Bool) (hs : Kept
    z0 s) : Kept z0 (State.closingStart s n k t act) := by
  simp +contextual (maxDischargeDepth := 99) [State.closingStart, hs]

@[simp] theorem State.detDecayEnd_kept {z0 : State} (s : State) (n : LaneIx) (k : OutIx) (t : Time) (bad : Bool) (hs : Kept
    z0 s) : Kept z0 (State.detDecayEnd s n k t bad) := by
  simp +contextual (maxDischargeDepth := 99) [State.detDecayEnd, hs]

@[simp] theorem State.detShutdown_kept {z0 : State} (s : State) (n : LaneIx) (k : OutIx) (wasOpen : Bool) (hs : Kept z0 s) :
    Kept z0 (State.detShutdown s n k wasOpen) := by
  simp +contextual (maxDischargeDepth := 99) [State.detShutdown, hs]

@[simp] theorem State.alreadyClosed_kept {z0 : State} (s : State) (n : LaneIx) (k : OutIx) (hs : Kept z0 s) : Kept z0
    (State.alreadyClosed s n k) := by
  simp +contextual (maxDischargeDepth := 99) [State.alreadyClosed, hs]

@[simp] theorem State.sealHarebell_kept {z0 : State} (s : State) (n : LaneIx) (hs : Kept z0 s) : Kept z0 (State.sealHarebell
    s n) := by
  simp +contextual (maxDischargeDepth := 99) [State.sealHarebell, hs]

@[simp] theorem State.setPulse_kept {z0 : State} (s : State) (n : LaneIx) (k : OutIx) (p : Int) (hs : Kept z0 s) : Kept z0
    (State.setPulse s n k p) := by
  simp +contextual (maxDischargeDepth := 99) [State.setPulse, hs]

@[simp] theorem State.feed_kept {z0 : State} (s : State) (n : LaneIx) (k : OutIx) (sm : List Sample) (hs : Kept z0 s) : Kept
    z0 (State.feed s n k sm) := by
  simp +contextual (maxDischargeDepth := 99) [State.feed, hs]

@[simp] theorem State.evalHs_kept {z0 : State} (s : State) (n : LaneIx) (hs : Kept z0 s) : Kept z0 (State.evalHs s n) := by
  simp +contextual (maxDischargeDepth := 99) [State.evalHs, hs]

@[simp] theorem State.decayFrom_kept {z0 : State} (s : State) (n : LaneIx) (k : OutIx) (d : DecayKind) (y : Style) (t :
    Time) (hs : Kept z0 s) : Kept z0 (State.decayFrom s n k d y t) := by
  simp +contextual (maxDischargeDepth := 99) [State.decayFrom, hs]

@[simp] theorem State.startDecay_kept {z0 : State} (s : State) (n : LaneIx) (k : OutIx) (d : DecayKind) (y : Style) (hs :
    Kept z0 s) : Kept z0 (State.startDecay s n k d y) := by
  simp +contextual (maxDischargeDepth := 99) [State.startDecay, hs]

@[simp] theorem State.lgOn_kept {z0 : State} (s : State) (n : LaneIx) (k : OutIx) (hs : Kept z0 s) : Kept z0 (State.lgOn s n
    k) := by
  simp +contextual (maxDischargeDepth := 99) [State.lgOn, hs]

@[simp] theorem State.settleProp_kept {z0 : State} (s : State) (n : LaneIx) (k : OutIx) (hs : Kept z0 s) : Kept z0
    (State.settleProp s n k) := by
  simp +contextual (maxDischargeDepth := 99) [State.settleProp, hs]

@[simp] theorem State.settleBank_kept {z0 : State} (s : State) (n : LaneIx) (hs : Kept z0 s) : Kept z0 (State.settleBank s
    n) := by
  simp +contextual (maxDischargeDepth := 99) [State.settleBank, hs]

@[simp] theorem State.propStart_kept {z0 : State} (s : State) (n : LaneIx) (k : OutIx) (t : Time) (hs : Kept z0 s) : Kept z0
    (State.propStart s n k t) := by
  simp +contextual (maxDischargeDepth := 99) [State.propStart, hs]

@[simp] theorem State.releasePeak_kept {z0 : State} (s : State) (n : LaneIx) (k : OutIx) (hs : Kept z0 s) : Kept z0
    (State.releasePeak s n k) := by
  simp +contextual (maxDischargeDepth := 99) [State.releasePeak, hs]

@[simp] theorem State.beginOff_kept {z0 : State} (s : State) (n : LaneIx) (k : OutIx) (afterPulse cont : Bool) (hs : Kept z0
    s) : Kept z0 (State.beginOff s n k afterPulse cont) := by
  simp +contextual (maxDischargeDepth := 99) [State.beginOff, hs]

@[simp] theorem State.turnOff_kept {z0 : State} (s : State) (n : LaneIx) (k : OutIx) (afterPulse act cont : Bool) (hs : Kept
    z0 s) : Kept z0 (State.turnOff s n k afterPulse act cont) := by
  simp +contextual (maxDischargeDepth := 99) [State.turnOff, hs]

@[simp] theorem State.restOutlet_kept {z0 : State} (s : State) (n : LaneIx) (k : OutIx) (hs : Kept z0 s) : Kept z0
    (State.restOutlet s n k) := by
  simp +contextual (maxDischargeDepth := 99) [State.restOutlet, hs]

@[simp] theorem State.requestPeak_kept {z0 : State} (s : State) (n : LaneIx) (k : OutIx) (q : Nat) (first train : Bool) (hs
    : Kept z0 s) : Kept z0 (State.requestPeak s n k q first train) := by
  simp +contextual (maxDischargeDepth := 99) [State.requestPeak, hs]

@[simp] theorem State.phaseEntry_kept {z0 : State} (s : State) (n : LaneIx) (k : OutIx) (q : Nat) (hs : Kept z0 s) : Kept z0
    (State.phaseEntry s n k q) := by
  simp +contextual (maxDischargeDepth := 99) [State.phaseEntry, hs]

@[simp] theorem State.driveOn_kept {z0 : State} (s : State) (n : LaneIx) (k : OutIx) (hs : Kept z0 s) : Kept z0
    (State.driveOn s n k) := by
  simp +contextual (maxDischargeDepth := 99) [State.driveOn, hs]

@[simp] theorem State.conduct_kept {z0 : State} (s : State) (n : LaneIx) (k : OutIx) (q : Nat) (y : Style) (hs : Kept z0 s)
    : Kept z0 (State.conduct s n k q y) := by
  simp +contextual (maxDischargeDepth := 99) [State.conduct, hs]

@[simp] theorem State.enterPhase_kept {z0 : State} (s : State) (n : LaneIx) (k : OutIx) (q : Nat) (first train : Bool) (hs :
    Kept z0 s) : Kept z0 (State.enterPhase s n k q first train) := by
  simp +contextual (maxDischargeDepth := 99) [State.enterPhase, hs]

@[simp] theorem State.nextPhase_kept {z0 : State} (s : State) (n : LaneIx) (k : OutIx) (hs : Kept z0 s) : Kept z0
    (State.nextPhase s n k) := by
  simp +contextual (maxDischargeDepth := 99) [State.nextPhase, hs]

@[simp] theorem State.pulseOpens_kept {z0 : State} (s : State) (n : LaneIx) (k : OutIx) (hs : Kept z0 s) : Kept z0
    (State.pulseOpens s n k) := by
  simp +contextual (maxDischargeDepth := 99) [State.pulseOpens, hs]

@[simp] theorem State.startAt_kept {z0 : State} (s : State) (n : LaneIx) (k : OutIx) (q : Nat) (act : Bool) (hs : Kept z0 s)
    : Kept z0 (State.startAt s n k q act) := by
  simp +contextual (maxDischargeDepth := 99) [State.startAt, hs]

@[simp] theorem State.startOn_kept {z0 : State} (s : State) (n : LaneIx) (k : OutIx) (hs : Kept z0 s) : Kept z0
    (State.startOn s n k) := by
  simp +contextual (maxDischargeDepth := 99) [State.startOn, hs]

@[simp] theorem State.regovern_kept {z0 : State} (s : State) (n : LaneIx) (k : OutIx) (hs : Kept z0 s) : Kept z0
    (State.regovern s n k) := by
  simp +contextual (maxDischargeDepth := 99) [State.regovern, hs]

@[simp] theorem State.outletAct_kept {z0 : State} (s : State) (n : LaneIx) (k : OutIx) (typ : EvtType) (hs : Kept z0 s) :
    Kept z0 (State.outletAct s n k typ) := by
  unfold State.outletAct
  dsimp only
  (repeat' split) <;> simp +contextual (maxDischargeDepth := 99) [hs]

@[simp] theorem State.outletSafe_kept {z0 : State} (s : State) (n : LaneIx) (k : OutIx) (hs : Kept z0 s) : Kept z0
    (State.outletSafe s n k) := by
  simp +contextual (maxDischargeDepth := 99) [State.outletSafe, hs]

@[simp] theorem State.bankSafe_kept {z0 : State} (s : State) (n : LaneIx) (hs : Kept z0 s) : Kept z0 (State.bankSafe s n) :=
    by
  simp +contextual (maxDischargeDepth := 99) [State.bankSafe, hs]

@[simp] theorem State.outletClose_kept {z0 : State} (s : State) (n : LaneIx) (k : OutIx) (hs : Kept z0 s) : Kept z0
    (State.outletClose s n k) := by
  unfold State.outletClose
  dsimp only
  (repeat' split) <;> simp +contextual (maxDischargeDepth := 99) [hs]

@[simp] theorem State.checkLaneDrained_kept {z0 : State} (s : State) (n : LaneIx) (hs : Kept z0 s) : Kept z0
    (State.checkLaneDrained s n) := by
  simp +contextual (maxDischargeDepth := 99) [State.checkLaneDrained, hs]

@[simp] theorem State.outletEvent_kept {z0 : State} (s : State) (n : LaneIx) (k : OutIx) (sm : List Sample) (hs : Kept z0 s)
    : Kept z0 (State.outletEvent s n k sm) := by
  simp +contextual (maxDischargeDepth := 99) [State.outletEvent, hs]

@[simp] theorem State.skipPulse_kept {z0 : State} (s : State) (n : LaneIx) (k : OutIx) (hs : Kept z0 s) : Kept z0
    (State.skipPulse s n k) := by
  simp +contextual (maxDischargeDepth := 99) [State.skipPulse, hs]

@[simp] theorem State.markSub_kept {z0 : State} (s : State) (n : LaneIx) (k : OutIx) (sub : Bool) (hs : Kept z0 s) : Kept z0
    (State.markSub s n k sub) := by
  simp +contextual (maxDischargeDepth := 99) [State.markSub, hs]

@[simp] theorem State.reportWait_kept {z0 : State} (s : State) (n : LaneIx) (k : OutIx) (sub : Bool) (wait : Nat) (hs : Kept
    z0 s) : Kept z0 (State.reportWait s n k sub wait) := by
  simp +contextual (maxDischargeDepth := 99) [State.reportWait, hs]

@[simp] theorem State.lateClose_kept {z0 : State} (s : State) (n : LaneIx) (k : OutIx) (pulse : Int) (hNs : Nat) (hs : Kept
    z0 s) : Kept z0 (State.lateClose s n k pulse hNs) := by
  simp +contextual (maxDischargeDepth := 99) [State.lateClose, hs]

@[simp] theorem State.grantPeak_kept {z0 : State} (s : State) (n : LaneIx) (k : OutIx) (sub : Bool) (hs : Kept z0 s) : Kept
    z0 (State.grantPeak s n k sub) := by
  unfold State.grantPeak
  dsimp only
  (repeat' split) <;> simp +contextual (maxDischargeDepth := 99) [hs]

@[simp] theorem State.arbitrate_kept {z0 : State} (s : State) (n : LaneIx) (hs : Kept z0 s) : Kept z0 (State.arbitrate s n)
    := by
  unfold State.arbitrate
  dsimp only
  (repeat' split) <;> simp +contextual (maxDischargeDepth := 99) [hs]

@[simp] theorem State.decayOver_kept {z0 : State} (s : State) (n : LaneIx) (k : OutIx) (tmo : Bool) (hs : Kept z0 s) : Kept
    z0 (State.decayOver s n k tmo) := by
  simp +contextual (maxDischargeDepth := 99) [State.decayOver, hs]

@[simp] theorem State.faultClr_kept {z0 : State} (s : State) (n : LaneIx) (v : Nat) (hs : Kept z0 s) : Kept z0
    (State.faultClr s n v) := by
  simp +contextual (maxDischargeDepth := 99) [State.faultClr, hs]

@[simp] theorem State.supply_kept {z0 : State} (s : State) (vb va : BitVec 12) (hs : Kept z0 s) : Kept z0 (State.supply s vb
    va) := by
  simp +contextual (maxDischargeDepth := 99) [State.supply, hs]

@[simp] theorem State.modPwm_kept {z0 : State} (s : State) (n : LaneIx) (f : PwmState → PwmState) (hs : Kept z0 s) : Kept z0
    (State.modPwm s n f) := by
  simp +contextual (maxDischargeDepth := 99) [State.modPwm, hs]

@[simp] theorem State.modGen_kept {z0 : State} (s : State) (n : LaneIx) (g : Fin 4) (f : GenState → GenState) (hs : Kept z0
    s) : Kept z0 (State.modGen s n g f) := by
  simp +contextual (maxDischargeDepth := 99) [State.modGen, hs]

@[simp] theorem State.periodFlags_kept {z0 : State} (s : State) (n : LaneIx) (g : Fin 4) (hs : Kept z0 s) : Kept z0
    (State.periodFlags s n g) := by
  simp +contextual (maxDischargeDepth := 99) [State.periodFlags, hs]

@[simp] theorem State.reloadOne_kept {z0 : State} (s : State) (n : LaneIx) (cyc : Nat) (h : Fin 4) (hs : Kept z0 s) : Kept
    z0 (State.reloadOne s n cyc h) := by
  simp +contextual (maxDischargeDepth := 99) [State.reloadOne, hs]

@[simp] theorem State.beginPeriod_kept {z0 : State} (s : State) (n : LaneIx) (cyc u j per : Nat) (center again : Bool) (h :
    Fin 4) (hs : Kept z0 s) : Kept z0 (State.beginPeriod s n cyc u j per center again h) := by
  simp +contextual (maxDischargeDepth := 99) [State.beginPeriod, hs]

@[simp] theorem State.reloadGen_kept {z0 : State} (s : State) (n : LaneIx) (g : Fin 4) (cyc : Nat) (ph : Option Nat) (hs :
    Kept z0 s) : Kept z0 (State.reloadGen s n g cyc ph) := by
  simp +contextual (maxDischargeDepth := 99) [State.reloadGen, hs]

@[simp] theorem State.pwmDrained_kept {z0 : State} (s : State) (n : LaneIx) (hs : Kept z0 s) : Kept z0 (State.pwmDrained s
    n) := by
  simp +contextual (maxDischargeDepth := 99) [State.pwmDrained, hs]

@[simp] theorem State.modEng_kept {z0 : State} (s : State) (n : LaneIx) (f : EngState → EngState) (hs : Kept z0 s) : Kept z0
    (State.modEng s n f) := by
  simp +contextual (maxDischargeDepth := 99) [State.modEng, hs]

@[simp] theorem State.applySet_kept {z0 : State} (s : State) (n : LaneIx) (e : EngSet) (hs : Kept z0 s) : Kept z0
    (State.applySet s n e) := by
  unfold State.applySet
  dsimp only
  (repeat' split) <;> simp +contextual (maxDischargeDepth := 99) [hs]

@[simp] theorem State.setsUntil_kept {z0 : State} (s : State) (n : LaneIx) (cyc : Nat) (hs : Kept z0 s) : Kept z0
    (State.setsUntil s n cyc) := by
  simp +contextual (maxDischargeDepth := 99) [State.setsUntil, hs]

@[simp] theorem State.settleSets_kept {z0 : State} (s : State) (n : LaneIx) (hs : Kept z0 s) : Kept z0 (State.settleSets s
    n) := by
  simp +contextual (maxDischargeDepth := 99) [State.settleSets, hs]

@[simp] theorem State.queueSet_kept {z0 : State} (s : State) (n : LaneIx) (u : Option Nat) (ph : Option (PhaseSet × PhaseSet
    × PhaseSet)) (hs : Kept z0 s) : Kept z0 (State.queueSet s n u ph) := by
  simp +contextual (maxDischargeDepth := 99) [State.queueSet, hs]

@[simp] theorem State.reloadDue_kept {z0 : State} (s : State) (n : LaneIx) (g : Fin 4) (hs : Kept z0 s) : Kept z0
    (State.reloadDue s n g) := by
  simp +contextual (maxDischargeDepth := 99) [State.reloadDue, hs]

@[simp] theorem State.pwmNow_kept {z0 : State} (s : State) (n : LaneIx) (hs : Kept z0 s) : Kept z0 (State.pwmNow s n) := by
  simp +contextual (maxDischargeDepth := 99) [State.pwmNow, hs]

@[simp] theorem State.writeCmp_kept {z0 : State} (s : State) (n : LaneIx) (g : Fin 4) (v : Word) (cyc : Nat) (hs : Kept z0
    s) : Kept z0 (State.writeCmp s n g v cyc) := by
  simp +contextual (maxDischargeDepth := 99) [State.writeCmp, hs]

@[simp] theorem State.writePer_kept {z0 : State} (s : State) (n : LaneIx) (g : Fin 4) (v : Word) (hs : Kept z0 s) : Kept z0
    (State.writePer s n g v) := by
  simp +contextual (maxDischargeDepth := 99) [State.writePer, hs]

@[simp] theorem State.writeCommit_kept {z0 : State} (s : State) (n : LaneIx) (v cyc : Nat) (hs : Kept z0 s) : Kept z0
    (State.writeCommit s n v cyc) := by
  simp +contextual (maxDischargeDepth := 99) [State.writeCommit, hs]

@[simp] theorem State.writeMode_kept {z0 : State} (s : State) (n : LaneIx) (g : Fin 4) (v : Word) (cyc : Nat) (hs : Kept z0
    s) : Kept z0 (State.writeMode s n g v cyc) := by
  simp +contextual (maxDischargeDepth := 99) [State.writeMode, hs]

@[simp] theorem State.follow_kept {z0 : State} (s : State) (n : LaneIx) (cyc : Nat) (h : Fin 4) (hs : Kept z0 s) : Kept z0
    (State.follow s n cyc h) := by
  simp +contextual (maxDischargeDepth := 99) [State.follow, hs]

@[simp] theorem State.followers_kept {z0 : State} (s : State) (n : LaneIx) (cyc : Nat) (hs : Kept z0 s) : Kept z0
    (State.followers s n cyc) := by
  simp +contextual (maxDischargeDepth := 99) [State.followers, hs]

@[simp] theorem State.startGen_kept {z0 : State} (s : State) (n : LaneIx) (g : Fin 4) (cyc : Nat) (hs : Kept z0 s) : Kept z0
    (State.startGen s n g cyc) := by
  simp +contextual (maxDischargeDepth := 99) [State.startGen, hs]

@[simp] theorem State.stopGen_kept {z0 : State} (s : State) (n : LaneIx) (g : Fin 4) (hs : Kept z0 s) : Kept z0
    (State.stopGen s n g) := by
  simp +contextual (maxDischargeDepth := 99) [State.stopGen, hs]

@[simp] theorem State.pwmDrain_kept {z0 : State} (s : State) (n : LaneIx) (hs : Kept z0 s) : Kept z0 (State.pwmDrain s n) :=
    by
  simp +contextual (maxDischargeDepth := 99) [State.pwmDrain, hs]

@[simp] theorem State.pwmEnable_kept {z0 : State} (s : State) (n : LaneIx) (hs : Kept z0 s) : Kept z0 (State.pwmEnable s n)
    := by
  simp +contextual (maxDischargeDepth := 99) [State.pwmEnable, hs]

@[simp] theorem State.pwmSafe_kept {z0 : State} (s : State) (n : LaneIx) (hs : Kept z0 s) : Kept z0 (State.pwmSafe s n) :=
    by
  simp +contextual (maxDischargeDepth := 99) [State.pwmSafe, hs]

@[simp] theorem State.pwmUnsafe_kept {z0 : State} (s : State) (n : LaneIx) (hs : Kept z0 s) : Kept z0 (State.pwmUnsafe s n)
    := by
  simp +contextual (maxDischargeDepth := 99) [State.pwmUnsafe, hs]

@[simp] theorem State.syncGen_kept {z0 : State} (s : State) (n : LaneIx) (g : Fin 4) (hs : Kept z0 s) : Kept z0
    (State.syncGen s n g) := by
  simp +contextual (maxDischargeDepth := 99) [State.syncGen, hs]

@[simp] theorem State.syncLane_kept {z0 : State} (s : State) (n : LaneIx) (hs : Kept z0 s) : Kept z0 (State.syncLane s n) :=
    by
  simp +contextual (maxDischargeDepth := 99) [State.syncLane, hs]

@[simp] theorem State.modLoop_kept {z0 : State} (s : State) (n : LaneIx) (l : Fin 3) (f : LoopSt → LoopSt) (hs : Kept z0 s)
    : Kept z0 (State.modLoop s n l f) := by
  simp +contextual (maxDischargeDepth := 99) [State.modLoop, hs]

@[simp] theorem State.modFbk_kept {z0 : State} (s : State) (n : LaneIx) (f : FbkState → FbkState) (hs : Kept z0 s) : Kept z0
    (State.modFbk s n f) := by
  simp +contextual (maxDischargeDepth := 99) [State.modFbk, hs]

@[simp] theorem State.ainSample_kept {z0 : State} (s : State) (n : LaneIx) (x : Sample) (hs : Kept z0 s) : Kept z0
    (State.ainSample s n x) := by
  simp +contextual (maxDischargeDepth := 99) [State.ainSample, hs]

@[simp] theorem State.ainSamples_kept {z0 : State} (s : State) (n : LaneIx) (xs : List Sample) (hs : Kept z0 s) : Kept z0
    (State.ainSamples s n xs) := by
  simp +contextual (maxDischargeDepth := 99) [State.ainSamples, hs]

@[simp] theorem State.fbkLatch_kept {z0 : State} (s : State) (n : LaneIx) (hs : Kept z0 s) : Kept z0 (State.fbkLatch s n) :=
    by
  simp +contextual (maxDischargeDepth := 99) [State.fbkLatch, hs]

@[simp] theorem State.fbkFlag_kept {z0 : State} (s : State) (n : LaneIx) (hs : Kept z0 s) : Kept z0 (State.fbkFlag s n) :=
    by
  simp +contextual (maxDischargeDepth := 99) [State.fbkFlag, hs]

@[simp] theorem State.fbkTaken_kept {z0 : State} (s : State) (n : LaneIx) (hs : Kept z0 s) : Kept z0 (State.fbkTaken s n) :=
    by
  simp +contextual (maxDischargeDepth := 99) [State.fbkTaken, hs]

@[simp] theorem State.spKeep_kept {z0 : State} (s : State) (n : LaneIx) (hs : Kept z0 s) : Kept z0 (State.spKeep s n) := by
  simp +contextual (maxDischargeDepth := 99) [State.spKeep, hs]

@[simp] theorem State.safeStop_kept {z0 : State} (s : State) (n : LaneIx) (cause : Nat) (l : Nat) (hs : Kept z0 s) : Kept z0
    (State.safeStop s n cause l) := by
  simp +contextual (maxDischargeDepth := 99) [State.safeStop, hs]

@[simp] theorem State.engSafe_kept {z0 : State} (s : State) (n : LaneIx) (hs : Kept z0 s) : Kept z0 (State.engSafe s n) :=
    by
  simp +contextual (maxDischargeDepth := 99) [State.engSafe, hs]

@[simp] theorem State.commSet_kept {z0 : State} (s : State) (n : LaneIx) (hs : Kept z0 s) : Kept z0 (State.commSet s n) :=
    by
  simp +contextual (maxDischargeDepth := 99) [State.commSet, hs]

@[simp] theorem State.commFault_kept {z0 : State} (s : State) (n : LaneIx) (hs : Kept z0 s) : Kept z0 (State.commFault s n)
    := by
  simp +contextual (maxDischargeDepth := 99) [State.commFault, hs]

@[simp] theorem State.commHall_kept {z0 : State} (s : State) (n : LaneIx) (σ : Nat) (dir : Option Bool) (hs : Kept z0 s) :
    Kept z0 (State.commHall s n σ dir) := by
  simp +contextual (maxDischargeDepth := 99) [State.commHall, hs]

@[simp] theorem State.loopReport_kept {z0 : State} (s : State) (n : LaneIx) (l : Fin 3) (o : LoopOut) (hs : Kept z0 s) :
    Kept z0 (State.loopReport s n l o) := by
  unfold State.loopReport
  dsimp only
  (repeat' split) <;> simp +contextual (maxDischargeDepth := 99) [hs]

@[simp] theorem State.runLoop_kept {z0 : State} (s : State) (n : LaneIx) (l : Fin 3) (sp : Int) (isns : List (BitVec 12))
    (flt : Bool) (hs : Kept z0 s) : Kept z0 (State.runLoop s n l sp isns flt) := by
  simp +contextual (maxDischargeDepth := 99) [State.runLoop, hs]

@[simp] theorem State.motorSample_kept {z0 : State} (s : State) (n : LaneIx) (hs : Kept z0 s) : Kept z0 (State.motorSample s
    n) := by
  simp +contextual (maxDischargeDepth := 99) [State.motorSample, hs]

@[simp] theorem State.engStart_kept {z0 : State} (s : State) (n : LaneIx) (hs : Kept z0 s) : Kept z0 (State.engStart s n) :=
    by
  simp +contextual (maxDischargeDepth := 99) [State.engStart, hs]

@[simp] theorem State.engStopZero_kept {z0 : State} (s : State) (n : LaneIx) (hs : Kept z0 s) : Kept z0 (State.engStopZero s
    n) := by
  simp +contextual (maxDischargeDepth := 99) [State.engStopZero, hs]

@[simp] theorem State.engDrive_kept {z0 : State} (s : State) (n : LaneIx) (flt : Bool) (hs : Kept z0 s) : Kept z0
    (State.engDrive s n flt) := by
  unfold State.engDrive
  dsimp only
  (repeat' split) <;> simp +contextual (maxDischargeDepth := 99) [hs]

@[simp] theorem State.engLoops_kept {z0 : State} (s : State) (n : LaneIx) (isns : List (BitVec 12)) (flt : Bool) (spt sp :
    Int) (hs : Kept z0 s) : Kept z0 (State.engLoops s n isns flt spt sp) := by
  simp +contextual (maxDischargeDepth := 99) [State.engLoops, hs]

@[simp] theorem State.engSample_kept {z0 : State} (s : State) (n : LaneIx) (isns : List (BitVec 12)) (flt : Bool) (hs : Kept
    z0 s) : Kept z0 (State.engSample s n isns flt) := by
  simp +contextual (maxDischargeDepth := 99) [State.engSample, hs]

@[simp] theorem State.engHold_kept {z0 : State} (s : State) (n : LaneIx) (hs : Kept z0 s) : Kept z0 (State.engHold s n) :=
    by
  simp +contextual (maxDischargeDepth := 99) [State.engHold, hs]

@[simp] theorem State.trigger_kept {z0 : State} (s : State) (n : LaneIx) (isns : List (BitVec 12)) (hs : Kept z0 s) : Kept
    z0 (State.trigger s n isns) := by
  simp +contextual (maxDischargeDepth := 99) [State.trigger, hs]

@[simp] theorem State.ainTrigger_kept {z0 : State} (s : State) (n : LaneIx) (ain : List Sample) (hs : Kept z0 s) : Kept z0
    (State.ainTrigger s n ain) := by
  simp +contextual (maxDischargeDepth := 99) [State.ainTrigger, hs]

@[simp] theorem State.swapLoops_kept {z0 : State} (s : State) (n : LaneIx) (v : Nat) (hs : Kept z0 s) : Kept z0
    (State.swapLoops s n v) := by
  simp +contextual (maxDischargeDepth := 99) [State.swapLoops, hs]

@[simp] theorem State.engRestart_kept {z0 : State} (s : State) (n : LaneIx) (hs : Kept z0 s) : Kept z0 (State.engRestart s
    n) := by
  simp +contextual (maxDischargeDepth := 99) [State.engRestart, hs]

@[simp] theorem State.coefWrite_kept {z0 : State} (s : State) (n : LaneIx) (i : Nat) (v : Word) (hs : Kept z0 s) : Kept z0
    (State.coefWrite s n i v) := by
  unfold State.coefWrite
  dsimp only
  (repeat' split) <;> simp +contextual (maxDischargeDepth := 99) [hs]

@[simp] theorem State.motorAct_kept {z0 : State} (s : State) (n : LaneIx) (k : OutIx) (typ : EvtType) (hs : Kept z0 s) :
    Kept z0 (State.motorAct s n k typ) := by
  unfold State.motorAct
  dsimp only
  (repeat' split) <;> simp +contextual (maxDischargeDepth := 99) [hs]

@[simp] theorem State.loopDrain_kept {z0 : State} (s : State) (n : LaneIx) (hs : Kept z0 s) : Kept z0 (State.loopDrain s n)
    := by
  simp +contextual (maxDischargeDepth := 99) [State.loopDrain, hs]

@[simp] theorem State.sealLoop_kept {z0 : State} (s : State) (n : LaneIx) (hs : Kept z0 s) : Kept z0 (State.sealLoop s n) :=
    by
  simp +contextual (maxDischargeDepth := 99) [State.sealLoop, hs]

@[simp] theorem State.fbkInput_kept {z0 : State} (s : State) (n : LaneIx) (x : Legs) (hs : Kept z0 s) : Kept z0
    (State.fbkInput s n x) := by
  simp +contextual (maxDischargeDepth := 99) [State.fbkInput, hs]

@[simp] theorem State.emCheck_kept {z0 : State} (s : State) (n : LaneIx) (hs : Kept z0 s) : Kept z0 (State.emCheck s n) :=
    by
  simp +contextual (maxDischargeDepth := 99) [State.emCheck, hs]

@[simp] theorem State.emStart_kept {z0 : State} (s : State) (n : LaneIx) (hs : Kept z0 s) : Kept z0 (State.emStart s n) :=
    by
  simp +contextual (maxDischargeDepth := 99) [State.emStart, hs]

@[simp] theorem State.emJump_kept {z0 : State} (s : State) (n : LaneIx) (p0 p1 : Int) (hs : Kept z0 s) : Kept z0
    (State.emJump s n p0 p1) := by
  simp +contextual (maxDischargeDepth := 99) [State.emJump, hs]

@[simp] theorem State.count1_kept {z0 : State} (s : State) (n : LaneIx) (neg : Bool) (hs : Kept z0 s) : Kept z0
    (State.count1 s n neg) := by
  simp +contextual (maxDischargeDepth := 99) [State.count1, hs]

@[simp] theorem State.counts_kept {z0 : State} (s : State) (n : LaneIx) (k : Nat) (neg : Bool) (hs : Kept z0 s) : Kept z0
    (State.counts s n k neg) := by
  induction k generalizing s with
  | zero => simp +contextual (maxDischargeDepth := 99) [State.counts, hs]
  | succ n ih =>
    unfold State.counts
    try dsimp only
    (repeat' split) <;> first
        | (simp +contextual (maxDischargeDepth := 99) [hs]; done)
        | (apply ih; simp +contextual (maxDischargeDepth := 99) [hs]; done)
        | (simp +contextual (maxDischargeDepth := 99) [hs, ih]; done)
        | (simp +contextual (maxDischargeDepth := 99) [*]; done)
        | (rename_i e; have e' := congrArg (fun p => Kept z0 (Prod.snd p)) e; simp +contextual (maxDischargeDepth := 99) [hs, ih] at e'; first | (apply ih; simp +contextual (maxDischargeDepth := 99) [hs, e']; done) | (simp +contextual (maxDischargeDepth := 99) [hs, ih, e']; done))

@[simp] theorem State.hallSkip_kept {z0 : State} (s : State) (n : LaneIx) (δ : Nat) (hs : Kept z0 s) : Kept z0
    (State.hallSkip s n δ) := by
  simp +contextual (maxDischargeDepth := 99) [State.hallSkip, hs]

@[simp] theorem State.hallCount_kept {z0 : State} (s : State) (n : LaneIx) (δ : Nat) (hs : Kept z0 s) : Kept z0
    (State.hallCount s n δ) := by
  simp +contextual (maxDischargeDepth := 99) [State.hallCount, hs]

@[simp] theorem State.hallInput_kept {z0 : State} (s : State) (n : LaneIx) (h : BitVec 3) (hs : Kept z0 s) : Kept z0
    (State.hallInput s n h) := by
  unfold State.hallInput
  dsimp only
  (repeat' split) <;> simp +contextual (maxDischargeDepth := 99) [hs]

@[simp] theorem State.quadCount_kept {z0 : State} (s : State) (n : LaneIx) (q q' : Nat) (hs : Kept z0 s) : Kept z0
    (State.quadCount s n q q') := by
  simp +contextual (maxDischargeDepth := 99) [State.quadCount, hs]

@[simp] theorem State.pulseCount_kept {z0 : State} (s : State) (n : LaneIx) (a b : Bool) (hs : Kept z0 s) : Kept z0
    (State.pulseCount s n a b) := by
  simp +contextual (maxDischargeDepth := 99) [State.pulseCount, hs]

@[simp] theorem State.moveTo_kept {z0 : State} (s : State) (n : LaneIx) (c p : Int) (hs : Kept z0 s) : Kept z0 (State.moveTo
    s n c p) := by
  simp +contextual (maxDischargeDepth := 99) [State.moveTo, hs]

@[simp] theorem State.idxFix_kept {z0 : State} (s : State) (n : LaneIx) (c p e : Int) (hs : Kept z0 s) : Kept z0
    (State.idxFix s n c p e) := by
  simp +contextual (maxDischargeDepth := 99) [State.idxFix, hs]

@[simp] theorem State.idxFault_kept {z0 : State} (s : State) (n : LaneIx) (f : FbkState) (e : Int) (hs : Kept z0 s) : Kept
    z0 (State.idxFault s n f e) := by
  simp +contextual (maxDischargeDepth := 99) [State.idxFault, hs]

@[simp] theorem State.idxEvent_kept {z0 : State} (s : State) (n : LaneIx) (f : FbkState) (hs : Kept z0 s) : Kept z0
    (State.idxEvent s n f) := by
  simp +contextual (maxDischargeDepth := 99) [State.idxEvent, hs]

@[simp] theorem State.quadInput_kept {z0 : State} (s : State) (n : LaneIx) (old new : BitVec 3) (hs : Kept z0 s) : Kept z0
    (State.quadInput s n old new) := by
  simp +contextual (maxDischargeDepth := 99) [State.quadInput, hs]

@[simp] theorem State.posLoad_kept {z0 : State} (s : State) (n : LaneIx) (v : Word) (hs : Kept z0 s) : Kept z0
    (State.posLoad s n v) := by
  simp +contextual (maxDischargeDepth := 99) [State.posLoad, hs]

@[simp] theorem State.fbkStart_kept {z0 : State} (s : State) (n : LaneIx) (hs : Kept z0 s) : Kept z0 (State.fbkStart s n) :=
    by
  simp +contextual (maxDischargeDepth := 99) [State.fbkStart, hs]

@[simp] theorem State.fbkEnable_kept {z0 : State} (s : State) (n : LaneIx) (hs : Kept z0 s) : Kept z0 (State.fbkEnable s n)
    := by
  simp +contextual (maxDischargeDepth := 99) [State.fbkEnable, hs]

@[simp] theorem State.fbkStop_kept {z0 : State} (s : State) (n : LaneIx) (hs : Kept z0 s) : Kept z0 (State.fbkStop s n) :=
    by
  simp +contextual (maxDischargeDepth := 99) [State.fbkStop, hs]

@[simp] theorem State.torn_kept {z0 : State} (s : State) (n : LaneIx) (hs : Kept z0 s) : Kept z0 (State.torn s n) := by
  simp +contextual (maxDischargeDepth := 99) [State.torn, hs]

@[simp] theorem State.merged_kept {z0 : State} (s : State) (n : LaneIx) (hs : Kept z0 s) : Kept z0 (State.merged s n) := by
  simp +contextual (maxDischargeDepth := 99) [State.merged, hs]

@[simp] theorem State.pairCancel_kept {z0 : State} (s : State) (n : LaneIx) (hs : Kept z0 s) : Kept z0 (State.pairCancel s
    n) := by
  simp +contextual (maxDischargeDepth := 99) [State.pairCancel, hs]

@[simp] theorem State.cancelAll_kept {z0 : State} (s : State) (n : LaneIx) (hs : Kept z0 s) : Kept z0 (State.cancelAll s n)
    := by
  simp +contextual (maxDischargeDepth := 99) [State.cancelAll, hs]

@[simp] theorem State.enterSafe_kept {z0 : State} (s : State) (n : LaneIx) (hs : Kept z0 s) : Kept z0 (State.enterSafe s n)
    := by
  simp +contextual (maxDischargeDepth := 99) [State.enterSafe, hs]

@[simp] theorem State.leaveSafe_kept {z0 : State} (s : State) (n : LaneIx) (hs : Kept z0 s) : Kept z0 (State.leaveSafe s n)
    := by
  simp +contextual (maxDischargeDepth := 99) [State.leaveSafe, hs]

@[simp] theorem State.tear_kept {z0 : State} (s : State) (n : LaneIx) (hs : Kept z0 s) : Kept z0 (State.tear s n) := by
  simp +contextual (maxDischargeDepth := 99) [State.tear, hs]

@[simp] theorem State.admitEvent_kept {z0 : State} (s : State) (n : LaneIx) (a b : Flit) (hs : Kept z0 s) : Kept z0
    (State.admitEvent s n a b) := by
  unfold State.admitEvent
  dsimp only
  (repeat' split) <;> simp +contextual (maxDischargeDepth := 99) [hs]

@[simp] theorem State.takeEvtB_kept {z0 : State} (s : State) (n : LaneIx) (f : Flit) (hs : Kept z0 s) : Kept z0
    (State.takeEvtB s n f) := by
  unfold State.takeEvtB
  dsimp only
  (repeat' split) <;> simp +contextual (maxDischargeDepth := 99) [hs]

@[simp] theorem State.takeUpdate_kept {z0 : State} (s : State) (n : LaneIx) (h : Flit) (ps : List (Word × Word)) (hs : Kept
    z0 s) : Kept z0 (State.takeUpdate s n h ps) := by
  simp +contextual (maxDischargeDepth := 99) [State.takeUpdate, hs]

@[simp] theorem State.takeTrv_kept {z0 : State} (s : State) (n : LaneIx) (f : Flit) (hs : Kept z0 s) : Kept z0
    (State.takeTrv s n f) := by
  unfold State.takeTrv
  dsimp only
  (repeat' split) <;> simp +contextual (maxDischargeDepth := 99) [hs]

@[simp] theorem State.takeAdv_kept {z0 : State} (s : State) (n : LaneIx) (f : Flit) (hs : Kept z0 s) : Kept z0
    (State.takeAdv s n f) := by
  simp +contextual (maxDischargeDepth := 99) [State.takeAdv, hs]

@[simp] theorem State.queueEnd_kept {z0 : State} (s : State) (n : LaneIx) (hs : Kept z0 s) : Kept z0 (State.queueEnd s n) :=
    by
  unfold State.queueEnd
  dsimp only
  refine overList_kept _ _ (by simp +contextual (maxDischargeDepth := 99) [hs]) (fun _ _ hw => ?_)
  (repeat' split) <;> simp +contextual (maxDischargeDepth := 99) [hw]

@[simp] theorem State.takeCtrl_kept {z0 : State} (s : State) (n : LaneIx) (f : Flit) (hs : Kept z0 s) : Kept z0
    (State.takeCtrl s n f) := by
  simp +contextual (maxDischargeDepth := 99) [State.takeCtrl, hs]

@[simp] theorem State.laneTakes_kept {z0 : State} (s : State) (n : LaneIx) (f : Flit) (hs : Kept z0 s) : Kept z0
    (State.laneTakes s n f) := by
  unfold State.laneTakes
  dsimp only
  (repeat' split) <;> simp +contextual (maxDischargeDepth := 99) [hs]

@[simp] theorem State.linkDn_kept {z0 : State} (s : State) (n : LaneIx) (f : Flit) (hs : Kept z0 s) : Kept z0 (State.linkDn
    s n f) := by
  simp +contextual (maxDischargeDepth := 99) [State.linkDn, hs]

@[simp] theorem State.flitDn_kept {z0 : State} (s : State) (n : LaneIx) (f : Flit) (hs : Kept z0 s) : Kept z0 (State.flitDn
    s n f) := by
  simp +contextual (maxDischargeDepth := 99) [State.flitDn, hs]

@[simp] theorem State.flitsDn_kept {z0 : State} (s : State) (n : LaneIx) (fs : List Flit) (hs : Kept z0 s) : Kept z0
    (State.flitsDn s n fs) := by
  simp +contextual (maxDischargeDepth := 99) [State.flitsDn, hs]

@[simp] theorem State.closeOpen_kept {z0 : State} (s : State) (n : LaneIx) (hs : Kept z0 s) : Kept z0 (State.closeOpen s n)
    := by
  simp +contextual (maxDischargeDepth := 99) [State.closeOpen, hs]

@[simp] theorem State.laneDisable_kept {z0 : State} (s : State) (n : LaneIx) (hs : Kept z0 s) : Kept z0 (State.laneDisable s
    n) := by
  simp +contextual (maxDischargeDepth := 99) [State.laneDisable, hs]

@[simp] theorem State.laneEnable_kept {z0 : State} (s : State) (n : LaneIx) (hs : Kept z0 s) : Kept z0 (State.laneEnable s
    n) := by
  simp +contextual (maxDischargeDepth := 99) [State.laneEnable, hs]

@[simp] theorem State.drExpire_kept {z0 : State} (s : State) (n : LaneIx) (hs : Kept z0 s) : Kept z0 (State.drExpire s n) :=
    by
  simp +contextual (maxDischargeDepth := 99) [State.drExpire, hs]

@[simp] theorem State.reaim_kept {z0 : State} (s : State) (n : LaneIx) (hs : Kept z0 s) : Kept z0 (State.reaim s n) := by
  simp +contextual (maxDischargeDepth := 99) [State.reaim, hs]

@[simp] theorem State.applyValue_kept {z0 : State} (s : State) (n : LaneIx) (e : QEntry) (hs : Kept z0 s) : Kept z0
    (State.applyValue s n e) := by
  unfold State.applyValue
  (repeat' split) <;> simp_all +contextual (maxDischargeDepth := 99)

@[simp] theorem State.applyAlso_kept {z0 : State} (s : State) (n : LaneIx) (e : QEntry) (hs : Kept z0 s) : Kept z0
    (State.applyAlso s n e) := by
  unfold State.applyAlso
  (repeat' split) <;> simp_all +contextual (maxDischargeDepth := 99)

@[simp] theorem State.fireEntry_kept {z0 : State} (s : State) (n : LaneIx) (i : Nat) (e : QEntry) (hs : Kept z0 s) : Kept z0
    (State.fireEntry s n i e) := by
  simp +contextual (maxDischargeDepth := 99) [State.fireEntry, hs]

@[simp] theorem State.fenceLane_kept {z0 : State} (s : State) (n : LaneIx) (cause : FenceCause) (hs : Kept z0 s) : Kept z0
    (State.fenceLane s n cause) := by
  simp +contextual (maxDischargeDepth := 99) [State.fenceLane, hs]

@[simp] theorem State.modQ_kept {z0 : State} (s : State) (q : Nat) (f : Queue → Queue) (hs : Kept z0 s) : Kept z0
    (State.modQ s q f) := by
  simp +contextual (maxDischargeDepth := 99) [State.modQ, hs]

@[simp] theorem State.setQirq_kept {z0 : State} (s : State) (q : Nat) (hs : Kept z0 s) : Kept z0 (State.setQirq s q) := by
  simp +contextual (maxDischargeDepth := 99) [State.setQirq, hs]

@[simp] theorem State.thrCross_kept {z0 : State} (s : State) (q a b : Nat) (hs : Kept z0 s) : Kept z0 (State.thrCross s q a
    b) := by
  simp +contextual (maxDischargeDepth := 99) [State.thrCross, hs]

@[simp] theorem State.ageHead_kept {z0 : State} (s : State) (q : Nat) (hs : Kept z0 s) : Kept z0 (State.ageHead s q) := by
  simp +contextual (maxDischargeDepth := 99) [State.ageHead, hs]

@[simp] theorem State.post_kept {z0 : State} (s : State) (q : Nat) (tag : BitVec 16) (data : List Byte) (hs : Kept z0 s) :
    Kept z0 (State.post s q tag data).2 := by
  unfold State.post
  dsimp only
  (repeat' split) <;> simp +contextual (maxDischargeDepth := 99) [hs]

@[simp] theorem State.setSlot_kept {z0 : State} (s : State) (i : Nat) (x : Slot) (hs : Kept z0 s) : Kept z0 (State.setSlot s
    i x) := by
  simp +contextual (maxDischargeDepth := 99) [State.setSlot, hs]

@[simp] theorem State.q8Consumed_kept {z0 : State} (s : State) (data : List Byte) (hs : Kept z0 s) : Kept z0
    (State.q8Consumed s data) := by
  simp +contextual (maxDischargeDepth := 99) [State.q8Consumed, hs]

@[simp] theorem State.consumeHead_kept {z0 : State} (s : State) (q : Nat) (hs : Kept z0 s) : Kept z0 (State.consumeHead s q)
    := by
  unfold State.consumeHead
  dsimp only
  (repeat' split) <;> simp +contextual (maxDischargeDepth := 99) [hs]

@[simp] theorem State.postCmpl_kept {z0 : State} (s : State) (c : Completion) (hs : Kept z0 s) : Kept z0 (State.postCmpl s
    c) := by
  unfold State.postCmpl
  dsimp only
  (repeat' split) <;> first
      | (simp +contextual (maxDischargeDepth := 99) [hs]; done)
      | (rename_i e; have e' := congrArg (fun p => Kept z0 (Prod.snd p)) e; simp +contextual (maxDischargeDepth := 99) [hs] at e'; simp +contextual (maxDischargeDepth := 99) [hs, e']; done)

@[simp] theorem State.complete_kept {z0 : State} (s : State) (q status : Nat) (seq tag : BitVec 16) (detail : Nat) (hs :
    Kept z0 s) : Kept z0 (State.complete s q status seq tag detail) := by
  unfold State.complete
  dsimp only
  (repeat' split) <;> first
      | (simp +contextual (maxDischargeDepth := 99) [hs]; done)
      | (rename_i e; have e' := congrArg (fun p => Kept z0 (Prod.snd p)) e; simp +contextual (maxDischargeDepth := 99) [hs] at e'; simp +contextual (maxDischargeDepth := 99) [hs, e']; done)

@[simp] theorem State.postWaiting_kept {z0 : State} (s : State) (hs : Kept z0 s) : Kept z0 (State.postWaiting s) := by
  simp +contextual (maxDischargeDepth := 99) [State.postWaiting, hs]

@[simp] theorem State.completeItem_kept {z0 : State} (s : State) (q : Nat) (l : Seg) (status detail : Nat) (hs : Kept z0 s)
    : Kept z0 (State.completeItem s q l status detail) := by
  simp +contextual (maxDischargeDepth := 99) [State.completeItem, hs]

@[simp] theorem State.retire_kept {z0 : State} (s : State) (q n status detail : Nat) (hs : Kept z0 s) : Kept z0
    (State.retire s q n status detail) := by
  simp +contextual (maxDischargeDepth := 99) [State.retire, hs]

@[simp] theorem State.retireHead_kept {z0 : State} (s : State) (q status detail : Nat) (hs : Kept z0 s) : Kept z0
    (State.retireHead s q status detail) := by
  unfold State.retireHead
  (repeat' split) <;> simp_all +contextual (maxDischargeDepth := 99)

end Sys2Proof.Machine
end

