-- ==== Sys2Proof/Laws/KeptSpine.lean ====
section
/-! SUPPORT. What the operations of the ring, the recorder, the NOR, the map, the pose, the footprint, GNSS, time and redundancy keep (Kept.lean says what is kept). -/
set_option maxRecDepth 4000
set_option linter.unusedSimpArgs false
set_option linter.unusedVariables false
namespace Sys2Proof.Machine

@[simp] theorem State.modPort_kept {z0 : State} (s : State) (p : Ring) (f : PortState → PortState) (hs : Kept z0 s) : Kept
    z0 (State.modPort s p f) := by
  simp +contextual (maxDischargeDepth := 99) [State.modPort, hs]

@[simp] theorem State.modRing_kept {z0 : State} (s : State) (f : RingState → RingState) (hs : Kept z0 s) : Kept z0
    (State.modRing s f) := by
  simp +contextual (maxDischargeDepth := 99) [State.modRing, hs]

@[simp] theorem State.setRgen_kept {z0 : State} (s : State) (e : Epoch) (hs : Kept z0 s) : Kept z0 (State.setRgen s e) := by
  simp +contextual (maxDischargeDepth := 99) [State.setRgen, hs]

@[simp] theorem State.launchOn_kept {z0 : State} (s : State) (r : Ring) (f : Frame) (hs : Kept z0 s) : Kept z0
    (State.launchOn s r f) := by
  unfold State.launchOn
  dsimp only
  (repeat' split) <;> simp +contextual (maxDischargeDepth := 99) [hs]

@[simp] theorem State.launch_kept {z0 : State} (s : State) (f : Frame) (hs : Kept z0 s) : Kept z0 (State.launch s f) := by
  simp +contextual (maxDischargeDepth := 99) [State.launch, hs]

@[simp] theorem State.freeWord_kept {z0 : State} (s : State) (hs : Kept z0 s) : Kept z0 (State.freeWord s).2 := by
  simp +contextual (maxDischargeDepth := 99) [State.freeWord, hs]

@[simp] theorem State.recRing_kept {z0 : State} (s : State) (c : RecCode) (p : Ring) (hs : Kept z0 s) : Kept z0
    (State.recRing s c p) := by
  simp +contextual (maxDischargeDepth := 99) [State.recRing, hs]

@[simp] theorem State.sendPace_kept {z0 : State} (s : State) (port : Fin 4) (payload : List Byte) (hs : Kept z0 s) : Kept z0
    (State.sendPace s port payload) := by
  simp +contextual (maxDischargeDepth := 99) [State.sendPace, hs]

@[simp] theorem State.setTxStream_kept {z0 : State} (s : State) (x : TxStream) (hs : Kept z0 s) : Kept z0 (State.setTxStream
    s x) := by
  simp +contextual (maxDischargeDepth := 99) [State.setTxStream, hs]

@[simp] theorem State.pumpStream_kept {z0 : State} (fuel : Nat) (s : State) (dst : Nat) (cls : FrameClass) (hs : Kept z0 s)
    : Kept z0 (State.pumpStream fuel s dst cls) := by
  induction fuel generalizing s with
  | zero => simp +contextual (maxDischargeDepth := 99) [State.pumpStream, hs]
  | succ n ih =>
    unfold State.pumpStream
    try dsimp only
    (repeat' split) <;> first
        | (simp +contextual (maxDischargeDepth := 99) [hs]; done)
        | (apply ih; simp +contextual (maxDischargeDepth := 99) [hs]; done)
        | (simp +contextual (maxDischargeDepth := 99) [hs, ih]; done)
        | (simp +contextual (maxDischargeDepth := 99) [*]; done)
        | (rename_i e; have e' := congrArg (fun p => Kept z0 (Prod.snd p)) e; simp +contextual (maxDischargeDepth := 99) [hs, ih] at e'; first | (apply ih; simp +contextual (maxDischargeDepth := 99) [hs, e']; done) | (simp +contextual (maxDischargeDepth := 99) [hs, ih, e']; done))

@[simp] theorem State.streamSend_kept {z0 : State} (s : State) (o : OutFrame) (hs : Kept z0 s) : Kept z0 (State.streamSend s
    o) := by
  simp +contextual (maxDischargeDepth := 99) [State.streamSend, hs]

@[simp] theorem State.frameDone_kept {z0 : State} (s : State) (o : OutFrame) (hs : Kept z0 s) : Kept z0 (State.frameDone s
    o) := by
  unfold State.frameDone
  (repeat' split) <;> simp_all +contextual (maxDischargeDepth := 99)

@[simp] theorem State.streamAck_kept {z0 : State} (s : State) (dst : Nat) (cls : FrameClass) (next : BitVec 16) (credit :
    Nat) (hs : Kept z0 s) : Kept z0 (State.streamAck s dst cls next credit) := by
  simp +contextual (maxDischargeDepth := 99) [State.streamAck, hs]

@[simp] theorem State.streamGoBack_kept {z0 : State} (s : State) (dst : Nat) (cls : FrameClass) (hs : Kept z0 s) : Kept z0
    (State.streamGoBack s dst cls) := by
  simp +contextual (maxDischargeDepth := 99) [State.streamGoBack, hs]

@[simp] theorem State.tunEnd_kept {z0 : State} (s : State) (status words : Nat) (hs : Kept z0 s) : Kept z0 (State.tunEnd s
    status words) := by
  simp +contextual (maxDischargeDepth := 99) [State.tunEnd, hs]

@[simp] theorem State.abandonFrame_kept {z0 : State} (s : State) (dst : Nat) (o : OutFrame) (hs : Kept z0 s) : Kept z0
    (State.abandonFrame s dst o) := by
  unfold State.abandonFrame
  (repeat' split) <;> simp_all +contextual (maxDischargeDepth := 99)

@[simp] theorem State.streamAbandon_kept {z0 : State} (s : State) (dst : Nat) (cls : FrameClass) (hs : Kept z0 s) : Kept z0
    (State.streamAbandon s dst cls) := by
  simp +contextual (maxDischargeDepth := 99) [State.streamAbandon, hs]

@[simp] theorem State.streamRetry_kept {z0 : State} (s : State) (dst : Nat) (cls : FrameClass) (hs : Kept z0 s) : Kept z0
    (State.streamRetry s dst cls) := by
  simp +contextual (maxDischargeDepth := 99) [State.streamRetry, hs]

@[simp] theorem State.streamsReset_kept {z0 : State} (s : State) (hs : Kept z0 s) : Kept z0 (State.streamsReset s) := by
  simp +contextual (maxDischargeDepth := 99) [State.streamsReset, hs]

@[simp] theorem State.bridgePump_kept {z0 : State} (s : State) (q : Nat) (hs : Kept z0 s) : Kept z0 (State.bridgePump s q)
    := by
  simp +contextual (maxDischargeDepth := 99) [State.bridgePump, hs]

@[simp] theorem State.postItem_kept {z0 : State} (s : State) (q : Nat) (tag : BitVec 16) (data : List Byte) (hs : Kept z0 s)
    :
    Kept z0 (s.postItem q tag data).2 := by
  unfold State.postItem
  have k := State.post_kept s q tag data hs
  revert k
  rcases s.post q tag data with ⟨b, u⟩
  intro k
  cases b
  · exact k
  · simp only at k ⊢
    split <;> simp [k]

@[simp] theorem State.pumpStrokes_kept {z0 : State} (fuel : Nat) (s : State) (hs : Kept z0 s) : Kept z0 (State.pumpStrokes
    fuel s) := by
  induction fuel generalizing s with
  | zero => simp +contextual (maxDischargeDepth := 99) [State.pumpStrokes, hs]
  | succ n ih =>
    unfold State.pumpStrokes
    try dsimp only
    (repeat' split) <;> first
        | (simp +contextual (maxDischargeDepth := 99) [hs]; done)
        | (apply ih; simp +contextual (maxDischargeDepth := 99) [hs]; done)
        | (simp +contextual (maxDischargeDepth := 99) [hs, ih]; done)
        | (simp +contextual (maxDischargeDepth := 99) [*]; done)
        | (rename_i e; have e' := congrArg (fun p => Kept z0 (Prod.snd p)) e; simp +contextual (maxDischargeDepth := 99) [hs, ih] at e'; first | (apply ih; simp +contextual (maxDischargeDepth := 99) [hs, e']; done) | (simp +contextual (maxDischargeDepth := 99) [hs, ih, e']; done))

@[simp] theorem State.sendStroke_kept {z0 : State} (s : State) (payload : Word → List Byte) (hs : Kept z0 s) : Kept z0
    (State.sendStroke s payload) := by
  simp +contextual (maxDischargeDepth := 99) [State.sendStroke, hs]

@[simp] theorem State.strokeGoBack_kept {z0 : State} (s : State) (i : Nat) (hs : Kept z0 s) : Kept z0 (State.strokeGoBack s
    i) := by
  simp +contextual (maxDischargeDepth := 99) [State.strokeGoBack, hs]

@[simp] theorem State.strokeRetry_kept {z0 : State} (s : State) (i : Nat) (hs : Kept z0 s) : Kept z0 (State.strokeRetry s i)
    := by
  simp +contextual (maxDischargeDepth := 99) [State.strokeRetry, hs]

@[simp] theorem State.topoGoBack_kept {z0 : State} (s : State) (hs : Kept z0 s) : Kept z0 (State.topoGoBack s) := by
  simp +contextual (maxDischargeDepth := 99) [State.topoGoBack, hs]

@[simp] theorem State.strokeBack_kept {z0 : State} (s : State) (f : Option Frame) (hs : Kept z0 s) : Kept z0
    (State.strokeBack s f) := by
  unfold State.strokeBack
  dsimp only
  (repeat' split) <;> simp +contextual (maxDischargeDepth := 99) [hs]

@[simp] theorem State.emit_kept {z0 : State} (s : State) (p : Ring) (f : Frame) (hs : Kept z0 s) : Kept z0 (State.emit s p
    f) := by
  simp +contextual (maxDischargeDepth := 99) [State.emit, hs]

@[simp] theorem State.egressItem_kept {z0 : State} (s : State) (q : Nat) (cls : FrameClass) (gs : List Seg) (hs : Kept z0 s)
    : Kept z0 (State.egressItem s q cls gs) := by
  simp +contextual (maxDischargeDepth := 99) [State.egressItem, hs]

@[simp] theorem State.sendEnum_kept {z0 : State} (s : State) (payload : List Byte) (hs : Kept z0 s) : Kept z0
    (State.sendEnum s payload) := by
  simp +contextual (maxDischargeDepth := 99) [State.sendEnum, hs]

@[simp] theorem State.enumStart_kept {z0 : State} (s : State) (tries : Nat) (hs : Kept z0 s) : Kept z0 (State.enumStart s
    tries) := by
  simp +contextual (maxDischargeDepth := 99) [State.enumStart, hs]

@[simp] theorem State.sendJoin_kept {z0 : State} (s : State) (hs : Kept z0 s) : Kept z0 (State.sendJoin s) := by
  unfold State.sendJoin
  (repeat' split) <;> simp_all +contextual (maxDischargeDepth := 99)

@[simp] theorem State.enumCtrl_kept {z0 : State} (s : State) (hs : Kept z0 s) : Kept z0 (State.enumCtrl s) := by
  simp +contextual (maxDischargeDepth := 99) [State.enumCtrl, hs]

@[simp] theorem State.joinCtrl_kept {z0 : State} (s : State) (hs : Kept z0 s) : Kept z0 (State.joinCtrl s) := by
  simp +contextual (maxDischargeDepth := 99) [State.joinCtrl, hs]

@[simp] theorem State.emitSet_kept {z0 : State} (s : State) (p : Ring) (typ data : Nat) (hs : Kept z0 s) : Kept z0
    (State.emitSet s p typ data) := by
  simp +contextual (maxDischargeDepth := 99) [State.emitSet, hs]

@[simp] theorem State.linkDown_kept {z0 : State} (s : State) (p : Ring) (hs : Kept z0 s) : Kept z0 (State.linkDown s p) :=
    by
  simp +contextual (maxDischargeDepth := 99) [State.linkDown, hs]

@[simp] theorem State.heardSet_kept {z0 : State} (s : State) (p : Ring) (hs : Kept z0 s) : Kept z0 (State.heardSet s p) :=
    by
  simp +contextual (maxDischargeDepth := 99) [State.heardSet, hs]

@[simp] theorem State.sendTopo_kept {z0 : State} (s : State) (g : Epoch) (orig : Nat) (skip : Option Ring) (hs : Kept z0 s)
    : Kept z0 (State.sendTopo s g orig skip) := by
  simp +contextual (maxDischargeDepth := 99) [State.sendTopo, hs]

@[simp] theorem State.newTopo_kept {z0 : State} (s : State) (hs : Kept z0 s) : Kept z0 (State.newTopo s) := by
  simp +contextual (maxDischargeDepth := 99) [State.newTopo, hs]

@[simp] theorem State.ringDrain_kept {z0 : State} (s : State) (p : Ring) (hs : Kept z0 s) : Kept z0 (State.ringDrain s p) :=
    by
  simp +contextual (maxDischargeDepth := 99) [State.ringDrain, hs]

@[simp] theorem State.syncLock_kept {z0 : State} (s : State) (e : Int) (hs : Kept z0 s) : Kept z0 (State.syncLock s e) := by
  simp +contextual (maxDischargeDepth := 99) [State.syncLock, hs]

@[simp] theorem State.modNor_kept {z0 : State} (s : State) (f : NorState → NorState) (hs : Kept z0 s)
    (hf : ∀ x, KNor z0 x → KNor z0 (f x)) : Kept z0 (State.modNor s f) := by
  have k : KNor z0 (f s.nor) := hf _ hs.nor
  unfold State.modNor
  simp [hs, k]

@[simp] theorem State.eraseNor_kept {z0 : State} (s : State) (a n : Nat) (hs : Kept z0 s) : Kept z0 (State.eraseNor s a n)
    := by
  simp +contextual (maxDischargeDepth := 99) [State.eraseNor, hs]

@[simp] theorem State.progNor_kept {z0 : State} (s : State) (a : Nat) (d : List Byte) (hs : Kept z0 s) : Kept z0
    (State.progNor s a d) := by
  simp +contextual (maxDischargeDepth := 99) [State.progNor, hs]

@[simp] theorem State.writeDir_kept {z0 : State} (s : State) (d : Dir399) (hs : Kept z0 s) : Kept z0 (State.writeDir s d) :=
    by
  simp +contextual (maxDischargeDepth := 99) [State.writeDir, hs]

@[simp] theorem State.norStart_kept {z0 : State} (s : State) (hs : Kept z0 s) : Kept z0 (State.norStart s) := by
  unfold State.norStart
  dsimp only
  (repeat' split) <;> simp +contextual (maxDischargeDepth := 99) [hs]

@[simp] theorem State.norSuspend_kept {z0 : State} (s : State) (hs : Kept z0 s) : Kept z0 (State.norSuspend s) := by
  unfold State.norSuspend
  (repeat' split) <;> simp_all +contextual (maxDischargeDepth := 99)

@[simp] theorem State.norCmdOp_kept {z0 : State} (s : State) (o : NorOp) (hs : Kept z0 s) : Kept z0 (State.norCmdOp s o) :=
    by
  simp +contextual (maxDischargeDepth := 99) [State.norCmdOp, hs]

@[simp] theorem State.norRecOps_kept {z0 : State} (s : State) (os : List NorOp) (hs : Kept z0 s) : Kept z0 (State.norRecOps
    s os) := by
  simp +contextual (maxDischargeDepth := 99) [State.norRecOps, hs]

@[simp] theorem State.norEffect_kept {z0 : State} (s : State) (o : NorOp) (hs : Kept z0 s) : Kept z0 (State.norEffect s o)
    := by
  simp +contextual (maxDischargeDepth := 99) [State.norEffect, hs]

@[simp] theorem State.norErr_kept {z0 : State} (s : State) (mb addr tag : Nat) (hs : Kept z0 s) : Kept z0 (State.norErr s mb
    addr tag) := by
  simp +contextual (maxDischargeDepth := 99) [State.norErr, hs]

@[simp] theorem State.modYewPort_kept {z0 : State} (s : State) (f : YewPort → YewPort) (hs : Kept z0 s) : Kept z0
    (State.modYewPort s f) := by
  simp +contextual (maxDischargeDepth := 99) [State.modYewPort, hs]

@[simp] theorem State.markRec_kept {z0 : State} (s : State) (h : Half) (r : YewRec) (f : YewRec → YewRec) (hs : Kept z0 s) :
    Kept z0 (State.markRec s h r f) := by
  simp +contextual (maxDischargeDepth := 99) [State.markRec, hs]

@[simp] theorem State.confirm_kept {z0 : State} (s : State) (recs : List (Half × Nat)) (hs : Kept z0 s) : Kept z0
    (State.confirm s recs) := by
  unfold State.confirm
  dsimp only
  refine overList_kept _ _ (by simp +contextual (maxDischargeDepth := 99) [hs]) (fun _ _ hw => ?_)
  (repeat' split) <;> simp +contextual (maxDischargeDepth := 99) [hw]

@[simp] theorem State.takeStream_kept {z0 : State} (s : State) (h : Half) (hs : Kept z0 s) : Kept z0 (State.takeStream s h)
    := by
  simp +contextual (maxDischargeDepth := 99) [State.takeStream, hs]

@[simp] theorem State.setZone_kept {z0 : State} (s : State) (roll : Bool) (z : ZonePos) (hs : Kept z0 s) : Kept z0
    (State.setZone s roll z) := by
  simp +contextual (maxDischargeDepth := 99) [State.setZone, hs]

@[simp] theorem State.placeRec_kept {z0 : State} (s : State) (roll : Bool) (z : ZonePos) (h : Half) (r : YewRec) (hs : Kept
    z0 s) : Kept z0 (State.placeRec s roll z h r).2 := by
  simp +contextual (maxDischargeDepth := 99) [State.placeRec, hs]

@[simp] theorem State.keepFull_kept {z0 : State} (s : State) (hs : Kept z0 s) : Kept z0 (State.keepFull s) := by
  simp +contextual (maxDischargeDepth := 99) [State.keepFull, hs]

@[simp] theorem State.logRec_kept {z0 : State} (s : State) (h : Half) (r : YewRec) (hs : Kept z0 s) : Kept z0 (State.logRec
    s h r).2 := by
  unfold State.logRec
  dsimp only
  (repeat' split) <;> simp +contextual (maxDischargeDepth := 99) [hs]

@[simp] theorem State.logRecs_kept {z0 : State} (s : State) (rs : List Held) (hs : Kept z0 s) : Kept z0 (State.logRecs s
    rs).2 := by
  induction rs generalizing s with
  | nil => simp +contextual (maxDischargeDepth := 99) [State.logRecs, hs]
  | cons a l ih =>
    unfold State.logRecs
    try dsimp only
    (repeat' split) <;> first
        | (simp +contextual (maxDischargeDepth := 99) [hs]; done)
        | (apply ih; simp +contextual (maxDischargeDepth := 99) [hs]; done)
        | (simp +contextual (maxDischargeDepth := 99) [hs, ih]; done)
        | (simp +contextual (maxDischargeDepth := 99) [*]; done)
        | (rename_i e; have e' := congrArg (fun p => Kept z0 (Prod.snd p)) e; simp +contextual (maxDischargeDepth := 99) [hs, ih] at e'; first | (apply ih; simp +contextual (maxDischargeDepth := 99) [hs, e']; done) | (simp +contextual (maxDischargeDepth := 99) [hs, ih, e']; done))

@[simp] theorem State.flushRecs_kept {z0 : State} (s : State) (rs : List Held) (hs : Kept z0 s) : Kept z0 (State.flushRecs s
    rs) := by
  simp +contextual (maxDischargeDepth := 99) [State.flushRecs, hs]

@[simp] theorem State.backlog_kept {z0 : State} (s : State) (hs : Kept z0 s) : Kept z0 (State.backlog s) := by
  unfold State.backlog
  dsimp only
  (repeat' split) <;> first
      | (simp +contextual (maxDischargeDepth := 99) [hs]; done)
      | (rename_i e; have e' := congrArg (fun p => Kept z0 (Prod.snd p)) e; simp +contextual (maxDischargeDepth := 99) [hs] at e'; simp +contextual (maxDischargeDepth := 99) [hs, e']; done)

@[simp] theorem State.streamRec_kept {z0 : State} (s : State) (r : YewRec) (hs : Kept z0 s) : Kept z0 (State.streamRec s r)
    := by
  simp +contextual (maxDischargeDepth := 99) [State.streamRec, hs]

@[simp] theorem State.initZone_kept {z0 : State} (s : State) (roll : Bool) (hs : Kept z0 s) : Kept z0 (State.initZone s
    roll) := by
  simp +contextual (maxDischargeDepth := 99) [State.initZone, hs]

@[simp] theorem State.findZone_kept {z0 : State} (s : State) (roll : Bool) (hs : Kept z0 s) : Kept z0 (State.findZone s
    roll) := by
  unfold State.findZone
  dsimp only
  (repeat' split) <;> simp +contextual (maxDischargeDepth := 99) [hs]

@[simp] theorem State.bootLog_kept {z0 : State} (s : State) (hs : Kept z0 s) : Kept z0 (State.bootLog s) := by
  simp +contextual (maxDischargeDepth := 99) [State.bootLog, hs]

@[simp] theorem State.pfailYew_kept {z0 : State} (s : State) (hs : Kept z0 s) : Kept z0 (State.pfailYew s) := by
  unfold State.pfailYew
  dsimp only
  (repeat' split) <;> simp +contextual (maxDischargeDepth := 99) [hs]

@[simp] theorem State.modMb_kept {z0 : State} (s : State) (k : Nat) (f : Mailbox → Mailbox) (hs : Kept z0 s) : Kept z0
    (State.modMb s k f) := by
  simp +contextual (maxDischargeDepth := 99) [State.modMb, hs]

@[simp] theorem State.mbEvt_kept {z0 : State} (s : State) (bit : Nat) (hs : Kept z0 s) : Kept z0 (State.mbEvt s bit) := by
  simp +contextual (maxDischargeDepth := 99) [State.mbEvt, hs]

@[simp] theorem State.mkTx_kept {z0 : State} (s : State) (k : Nat) (w : Word) (hs : Kept z0 s) : Kept z0 (State.mkTx s k w)
    := by
  simp +contextual (maxDischargeDepth := 99) [State.mkTx, hs]

@[simp] theorem State.mbDiscard_kept {z0 : State} (s : State) (k : Nat) (noTarget : Bool) (hs : Kept z0 s) : Kept z0
    (State.mbDiscard s k noTarget) := by
  simp +contextual (maxDischargeDepth := 99) [State.mbDiscard, hs]

@[simp] theorem State.doorbell_kept {z0 : State} (s : State) (k : Nat) (hs : Kept z0 s) : Kept z0 (State.doorbell s k) := by
  simp +contextual (maxDischargeDepth := 99) [State.doorbell, hs]

@[simp] theorem State.mkRx_kept {z0 : State} (s : State) (k : Nat) (hs : Kept z0 s) : Kept z0 (State.mkRx s k).2 := by
  unfold State.mkRx
  (repeat' split) <;> simp_all +contextual (maxDischargeDepth := 99)

@[simp] theorem State.reply_kept {z0 : State} (s : State) (k op status tag detail : Nat) (res : List Word) (hs : Kept z0 s)
    : Kept z0 (State.reply s k op status tag detail res) := by
  simp +contextual (maxDischargeDepth := 99) [State.reply, hs]

@[simp] theorem State.norProg_kept {z0 : State} (s : State) (pct pos : Nat) (hs : Kept z0 s) : Kept z0 (State.norProg s pct
    pos) := by
  simp +contextual (maxDischargeDepth := 99) [State.norProg, hs]

@[simp] theorem State.setLong_kept {z0 : State} (s : State) (c : LongCmd) (hs : Kept z0 s) : Kept z0 (State.setLong s c) :=
    by
  simp +contextual (maxDischargeDepth := 99) [State.setLong, hs]

@[simp] theorem State.takeSeg_kept {z0 : State} (s : State) (g : Seg) (hs : Kept z0 s) : Kept z0 (State.takeSeg s g) := by
  simp +contextual (maxDischargeDepth := 99) [State.takeSeg, hs]

theorem State.takePayload_kept {z0 o : State} (s : State) (c : LongCmd) (ptag len : Nat) (hs : Kept z0 s) (e :
    State.takePayload s c ptag len = some o) : Kept z0 o := by
  unfold State.takePayload at e
  dsimp only at e
  (repeat' split at e) <;> first
      | (simp only [Option.some.injEq, reduceCtorEq] at e; subst e; simp +contextual (maxDischargeDepth := 99) [hs]; done)
      | (simp at e; done)

@[simp] theorem State.progPage_kept {z0 : State} (s : State) (c : LongCmd) (a : Nat) (hs : Kept z0 s) : Kept z0
    (State.progPage s c a) := by
  simp +contextual (maxDischargeDepth := 99) [State.progPage, hs]

@[simp] theorem State.eraseNext_kept {z0 : State} (s : State) (a n done : Nat) (hs : Kept z0 s) : Kept z0 (State.eraseNext s
    a n done) := by
  simp +contextual (maxDischargeDepth := 99) [State.eraseNext, hs]

@[simp] theorem State.logZone_kept {z0 : State} (k : Nat) (s : State) (c : LongCmd) (roll : Bool) (hs : Kept z0 s) :
    Kept z0 (State.logZone k s c roll).2.2 := by
  induction k generalizing s c with
  | zero => simpa [State.logZone] using hs
  | succ n ih =>
    unfold State.logZone
    split
    · exact hs
    · dsimp only
      split
      · exact hs
      · rename_i d _
        split
        · exact ih _ _ hs
        · have k := State.postItem_kept s 10 (BitVec.ofNat 16 c.tag) d hs
          revert k
          rcases s.postItem 10 (BitVec.ofNat 16 c.tag) d with ⟨b, u⟩
          intro k
          cases b
          · exact k
          · exact ih _ _ k

@[simp] theorem State.logVol_kept {z0 : State} (s : State) (c : LongCmd) (next : Nat) (rs : List YewRec) (hs : Kept z0 s) :
    Kept z0 (State.logVol s c next rs).2.2 := by
  induction rs generalizing s c with
  | nil => simpa [State.logVol] using hs
  | cons r rs ih =>
    unfold State.logVol
    split
    · exact hs
    · dsimp only
      split
      · exact ih _ _ hs
      · have k := State.postItem_kept s 10 (BitVec.ofNat 16 c.tag) r.bytes hs
        revert k
        rcases s.postItem 10 (BitVec.ofNat 16 c.tag) r.bytes with ⟨b, u⟩
        intro k
        cases b
        · exact k
        · exact ih _ _ k

theorem State.logStep_kept {z0 o : State} (s : State) (c : LongCmd) (hs : Kept z0 s) (e : State.logStep s c = some o) : Kept
    z0 o := by
  unfold State.logStep at e
  dsimp only at e
  (repeat' split at e) <;> first
      | (simp only [Option.some.injEq, reduceCtorEq] at e; subst e; simp +contextual (maxDischargeDepth := 99) [hs]; done)
      | (simp at e; done)

theorem State.stageStep_kept {z0 o : State} (s : State) (c : LongCmd) (hs : Kept z0 s) (e : s.stageStep c = some o) : Kept
    z0 o := by
  unfold State.stageStep at e
  dsimp only at e
  (repeat' split at e) <;> first
    | (simp only [Option.some.injEq, reduceCtorEq] at e; subst e; simp +contextual (maxDischargeDepth := 99) [hs]; done)
    | (simp at e; done)
    | exact State.takePayload_kept _ _ _ _ (by simp +contextual (maxDischargeDepth := 99) [hs]) e

theorem State.readStep_kept {z0 o : State} (s : State) (c : LongCmd) (hs : Kept z0 s) (e : s.readStep c = some o) : Kept z0
    o := by
  unfold State.readStep at e
  dsimp only at e
  split at e
  · simp only [Option.some.injEq] at e; subst e; simp +contextual (maxDischargeDepth := 99) [hs]
  · split at e
    · simp only [Option.some.injEq] at e; subst e; simp +contextual (maxDischargeDepth := 99) [hs]
    · simp at e

theorem State.eraseStep_kept {z0 o : State} (s : State) (c : LongCmd) (hs : Kept z0 s) (e : s.eraseStep c = some o) : Kept
    z0 o := by
  unfold State.eraseStep at e
  dsimp only at e
  (repeat' split at e) <;> first
    | (simp only [Option.some.injEq] at e; subst e; simp +contextual (maxDischargeDepth := 99) [hs]; done)
    | exact State.takePayload_kept _ _ _ _ (by simp +contextual (maxDischargeDepth := 99) [hs]) e

theorem State.writeStep_kept {z0 o : State} (s : State) (c : LongCmd) (hs : Kept z0 s) (e : s.writeStep c = some o) : Kept
    z0 o := by
  unfold State.writeStep at e
  dsimp only at e
  (repeat' split at e) <;> first
    | (simp only [Option.some.injEq] at e; subst e; simp +contextual (maxDischargeDepth := 99) [hs]; done)
    | exact State.takePayload_kept _ _ _ _ (by simp +contextual (maxDischargeDepth := 99) [hs]) e

theorem State.cfgStep_kept {z0 o : State} (s : State) (c : LongCmd) (hs : Kept z0 s) (e : s.cfgStep c = some o) : Kept z0 o
    := by
  unfold State.cfgStep at e
  dsimp only at e
  (repeat' split at e) <;> first
    | (simp only [Option.some.injEq] at e; subst e; simp +contextual (maxDischargeDepth := 99) [hs]; done)
    | exact State.takePayload_kept _ _ _ _ (by simp +contextual (maxDischargeDepth := 99) [hs]) e

theorem State.longStep_kept {z0 o : State} (s : State) (c : LongCmd) (hs : Kept z0 s) : s.longStep c = some o → Kept z0 o :=
    by
  unfold State.longStep
  dsimp only
  (repeat' split) <;> intro e <;> first
    | (simp only [Option.some.injEq] at e; subst e; simp +contextual (maxDischargeDepth := 99) [hs]; done)
    | (simp at e; done)
    | exact State.readStep_kept _ _ hs e
    | exact State.eraseStep_kept _ _ hs e
    | exact State.writeStep_kept _ _ hs e
    | exact State.cfgStep_kept _ _ hs e
    | exact State.stageStep_kept _ _ hs e
    | exact State.logStep_kept _ _ hs e

@[simp] theorem State.pumpLong_kept {z0 : State} (k : Nat) (s : State) (hs : Kept z0 s) : Kept z0 (State.pumpLong k s) := by
  induction k generalizing s with
  | zero => exact hs
  | succ n ih =>
    unfold State.pumpLong
    split
    · exact hs
    · split
      · exact hs
      · exact ih _ (State.longStep_kept _ _ hs ‹_›)

@[simp] theorem State.pump_kept {z0 : State} (s : State) (hs : Kept z0 s) : Kept z0 (State.pump s) := by
  simp +contextual (maxDischargeDepth := 99) [State.pump, hs]

@[simp] theorem State.longDone_kept {z0 : State} (s : State) (o : NorOp) (hs : Kept z0 s) : Kept z0 (State.longDone s o) :=
    by
  unfold State.longDone
  (repeat' split) <;> simp_all +contextual (maxDischargeDepth := 99)

@[simp] theorem State.cmdStat_kept {z0 : State} (s : State) (op status tag : Nat) (hs : Kept z0 s) : Kept z0 (State.cmdStat
    s op status tag) := by
  simp +contextual (maxDischargeDepth := 99) [State.cmdStat, hs]

@[simp] theorem State.finish_kept {z0 : State} (s : State) (c : LongCmd) (status detail : Nat) (res : List Word) (hs : Kept
    z0 s) : Kept z0 (State.finish s c status detail res) := by
  simp +contextual (maxDischargeDepth := 99) [State.finish, hs]

@[simp] theorem State.abortLong_kept {z0 : State} (s : State) (c : LongCmd) (hs : Kept z0 s) : Kept z0 (State.abortLong s c)
    := by
  simp +contextual (maxDischargeDepth := 99) [State.abortLong, hs]

theorem State.takeCmd_kept {z0 : State} (s : State) (k op : Nat) {c : Cmd} {o : State} (hs : Kept z0 s)
    (e : s.takeCmd k op = some (c, o)) : Kept z0 o := by
  unfold State.takeCmd at e
  split at e
  · simp at e
  · dsimp only at e
    split at e
    · simp only [Option.some.injEq, Prod.mk.injEq] at e
      obtain ⟨-, rfl⟩ := e
      simp [hs]
    · simp at e

@[simp] theorem State.dropAccepted_kept {z0 : State} (s : State) (c : Cmd) (hs : Kept z0 s) : Kept z0 (State.dropAccepted s
    c) := by
  simp +contextual (maxDischargeDepth := 99) [State.dropAccepted, hs]

@[simp] theorem State.shortCmd_kept {z0 : State} (s : State) (k op : Nat) (f : State → Cmd → (Nat × Nat × List Word) ×
    State)
    (hs : Kept z0 s) (hf : ∀ w c, Kept z0 w → Kept z0 (f w c).2) : Kept z0 (s.shortCmd k op f) := by
  unfold State.shortCmd
  split
  · exact hs
  · rename_i c u e
    have hu : Kept z0 (u.dropAccepted c) := by
      have := State.takeCmd_kept s k op hs e
      simp +contextual (maxDischargeDepth := 99) [this]
    dsimp only
    split
    · simp +contextual (maxDischargeDepth := 99) [hu]
    · have k := hf _ c hu
      revert k
      rcases f (u.dropAccepted c) c with ⟨⟨a, b, r⟩, w⟩
      intro k
      simp +contextual (maxDischargeDepth := 99) [k]

@[simp] theorem State.startLong_kept {z0 : State} (s : State) (k : Nat) (c : Cmd) (hs : Kept z0 s) : Kept z0
    (State.startLong s k c) := by
  simp +contextual (maxDischargeDepth := 99) [State.startLong, hs]

@[simp] theorem State.longCmd_kept {z0 : State} (s : State) (k op : Nat) (hs : Kept z0 s) : Kept z0 (s.longCmd k op) := by
  unfold State.longCmd
  split
  · exact hs
  · rename_i c u e
    have hu : Kept z0 u := State.takeCmd_kept s k op hs e
    split
    · simp +contextual (maxDischargeDepth := 99) [hu]
    · simp +contextual (maxDischargeDepth := 99) [hu]

@[simp] theorem State.doDirSet_kept {z0 : State} (s : State) (c : Cmd) (hs : Kept z0 s) : Kept z0 (State.doDirSet s c).2 :=
    by
  unfold State.doDirSet
  dsimp only
  (repeat' split) <;> simp +contextual (maxDischargeDepth := 99) [hs]

@[simp] theorem State.doPatchSelect_kept {z0 : State} (s : State) (c : Cmd) (hs : Kept z0 s) : Kept z0 (State.doPatchSelect
    s c).2 := by
  unfold State.doPatchSelect
  dsimp only
  (repeat' split) <;> simp +contextual (maxDischargeDepth := 99) [hs]

@[simp] theorem State.doCfgClear_kept {z0 : State} (s : State) (_c : Cmd) (hs : Kept z0 s) : Kept z0 (State.doCfgClear s
    _c).2 := by
  unfold State.doCfgClear
  dsimp only
  (repeat' split) <;> simp +contextual (maxDischargeDepth := 99) [hs]

@[simp] theorem State.doAbort_kept {z0 : State} (s : State) (_c : Cmd) (hs : Kept z0 s) : Kept z0 (State.doAbort s _c).2 :=
    by
  unfold State.doAbort
  (repeat' split) <;> simp_all +contextual (maxDischargeDepth := 99)

@[simp] theorem State.abortNow_kept {z0 : State} (s : State) (c : LongCmd) (hs : Kept z0 s) : Kept z0 (State.abortNow s c)
    := by
  simp +contextual (maxDischargeDepth := 99) [State.abortNow, hs]

@[simp] theorem State.abortInbox_kept {z0 : State} (s : State) (k : Nat) (hs : Kept z0 s) : Kept z0 (State.abortInbox s k)
    := by
  unfold State.abortInbox
  dsimp only
  (repeat' split) <;> simp +contextual (maxDischargeDepth := 99) [hs]

@[simp] theorem State.grantCmds_kept {z0 : State} (s : State) (hs : Kept z0 s) : Kept z0 (State.grantCmds s) := by
  unfold State.grantCmds
  dsimp only
  (repeat' split) <;> simp +contextual (maxDischargeDepth := 99) [hs]

@[simp] theorem State.pfailCmds_kept {z0 : State} (s : State) (hs : Kept z0 s) : Kept z0 (State.pfailCmds s) := by
  unfold State.pfailCmds
  dsimp only
  (repeat' split) <;> simp +contextual (maxDischargeDepth := 99) [hs]

@[simp] theorem State.modMap_kept {z0 : State} (s : State) (f : MapState → MapState) (hs : Kept z0 s) : Kept z0
    (State.modMap s f) := by
  simp +contextual (maxDischargeDepth := 99) [State.modMap, hs]

@[simp] theorem State.noteRead_kept {z0 : State} (s : State) (col row : Int) (k : Sit) (hs : Kept z0 s) : Kept z0
    (State.noteRead s col row k) := by
  unfold State.noteRead
  dsimp only
  (repeat' split) <;> simp +contextual (maxDischargeDepth := 99) [hs]

@[simp] theorem State.setMapWord_kept {z0 : State} (s : State) (h : Half) (presc : Bool) (w v : Nat) (hs : Kept z0 s) : Kept
    z0 (State.setMapWord s h presc w v) := by
  simp +contextual (maxDischargeDepth := 99) [State.setMapWord, hs]

@[simp] theorem State.eccFix_kept {z0 : State} (s : State) (all : List EccFault) (f : EccFault) (hs : Kept z0 s) : Kept z0
    (State.eccFix s all f) := by
  simp +contextual (maxDischargeDepth := 99) [State.eccFix, hs]

@[simp] theorem State.eccAll_kept {z0 : State} (s : State) (fs : List EccFault) (hs : Kept z0 s) : Kept z0 (State.eccAll s
    fs) := by
  simp +contextual (maxDischargeDepth := 99) [State.eccAll, hs]

@[simp] theorem State.tileReject_kept {z0 : State} (s : State) (i : TileItem) (k : Nat) (hs : Kept z0 s) : Kept z0
    (State.tileReject s i k).1 := by
  unfold State.tileReject
  dsimp only
  (repeat' split) <;> simp +contextual (maxDischargeDepth := 99) [hs]

@[simp] theorem State.setVerdicts_kept {z0 : State} (s : State) (cov : Bool) (v : List Verdict) (hs : Kept z0 s) : Kept z0
    (State.setVerdicts s cov v) := by
  simp +contextual (maxDischargeDepth := 99) [State.setVerdicts, hs]

@[simp] theorem State.settleTiles_kept {z0 : State} (fuel : Nat) (s : State) (cov : Bool) (hs : Kept z0 s) : Kept z0
    (State.settleTiles fuel s cov) := by
  induction fuel generalizing s with
  | zero => simp +contextual (maxDischargeDepth := 99) [State.settleTiles, hs]
  | succ n ih =>
    unfold State.settleTiles
    try dsimp only
    (repeat' split) <;> first
        | (simp +contextual (maxDischargeDepth := 99) [hs]; done)
        | (apply ih; simp +contextual (maxDischargeDepth := 99) [hs]; done)
        | (simp +contextual (maxDischargeDepth := 99) [hs, ih]; done)
        | (simp +contextual (maxDischargeDepth := 99) [*]; done)
        | (rename_i e; have e' := congrArg (fun p => Kept z0 (Prod.snd p)) e; simp +contextual (maxDischargeDepth := 99) [hs, ih] at e'; first | (apply ih; simp +contextual (maxDischargeDepth := 99) [hs, e']; done) | (simp +contextual (maxDischargeDepth := 99) [hs, ih, e']; done))

@[simp] theorem State.freeSlot_kept {z0 : State} (s : State) (i : Nat) (hs : Kept z0 s) : Kept z0 (State.freeSlot s i) := by
  simp +contextual (maxDischargeDepth := 99) [State.freeSlot, hs]

@[simp] theorem State.giveSlot_kept {z0 : State} (s : State) (i : Nat) (tc tr : Int) (hs : Kept z0 s) : Kept z0
    (State.giveSlot s i tc tr) := by
  simp +contextual (maxDischargeDepth := 99) [State.giveSlot, hs]

@[simp] theorem State.postEvictions_kept {z0 : State} (fuel : Nat) (s : State) (hs : Kept z0 s) : Kept z0
    (State.postEvictions fuel s) := by
  induction fuel generalizing s with
  | zero => simp +contextual (maxDischargeDepth := 99) [State.postEvictions, hs]
  | succ n ih =>
    unfold State.postEvictions
    try dsimp only
    (repeat' split) <;> first
        | (simp +contextual (maxDischargeDepth := 99) [hs]; done)
        | (apply ih; simp +contextual (maxDischargeDepth := 99) [hs]; done)
        | (simp +contextual (maxDischargeDepth := 99) [hs, ih]; done)
        | (simp +contextual (maxDischargeDepth := 99) [*]; done)
        | (rename_i e; have e' := congrArg (fun p => Kept z0 (Prod.snd p)) e; simp +contextual (maxDischargeDepth := 99) [hs, ih] at e'; first | (apply ih; simp +contextual (maxDischargeDepth := 99) [hs, e']; done) | (simp +contextual (maxDischargeDepth := 99) [hs, ih, e']; done))

@[simp] theorem State.compareEvict_kept {z0 : State} (s : State) (i : Nat) (x : Slot) (hs : Kept z0 s) : Kept z0
    (State.compareEvict s i x) := by
  simp +contextual (maxDischargeDepth := 99) [State.compareEvict, hs]

@[simp] theorem State.evict_kept {z0 : State} (s : State) (i : Nat) (hs : Kept z0 s) : Kept z0 (State.evict s i) := by
  simp +contextual (maxDischargeDepth := 99) [State.evict, hs]

@[simp] theorem State.claimSlot_kept {z0 : State} (s : State) (wanted : List (Int × Int)) (t : Int × Int) (hs : Kept z0 s) :
    Kept z0 (State.claimSlot s wanted t) := by
  unfold State.claimSlot
  dsimp only
  (repeat' split) <;> simp +contextual (maxDischargeDepth := 99) [hs]

@[simp] theorem State.markWanted_kept {z0 : State} (s : State) (wanted : List (Int × Int)) (hs : Kept z0 s) : Kept z0
    (State.markWanted s wanted) := by
  simp +contextual (maxDischargeDepth := 99) [State.markWanted, hs]

@[simp] theorem State.mapSlots_kept {z0 : State} (s : State) (boxes : Option (List (Int × Int × Int × Int))) (vrp : Int ×
    Int) (hs : Kept z0 s) : Kept z0 (State.mapSlots s boxes vrp) := by
  unfold State.mapSlots
  dsimp only
  (repeat' split) <;> simp +contextual (maxDischargeDepth := 99) [hs]

@[simp] theorem State.mapDemand_kept {z0 : State} (s : State) (boxes : Option (List (Int × Int × Int × Int))) (vrp : Int ×
    Int) (hs : Kept z0 s) : Kept z0 (State.mapDemand s boxes vrp) := by
  unfold State.mapDemand
  dsimp only
  (repeat' split) <;> simp +contextual (maxDischargeDepth := 99) [hs]

@[simp] theorem State.publishWindow_kept {z0 : State} (s : State) (hs : Kept z0 s) : Kept z0 (State.publishWindow s) := by
  simp +contextual (maxDischargeDepth := 99) [State.publishWindow, hs]

@[simp] theorem State.publishReads_kept {z0 : State} (s : State) (hs : Kept z0 s) : Kept z0 (State.publishReads s) := by
  simp +contextual (maxDischargeDepth := 99) [State.publishReads, hs]

@[simp] theorem State.lineUp_kept {z0 : State} (s : State) (node : Nat) (k : Stroke) (hs : Kept z0 s) : Kept z0
    (State.lineUp s node k).2 := by
  unfold State.lineUp
  dsimp only
  (repeat' split) <;> simp +contextual (maxDischargeDepth := 99) [hs]

@[simp] theorem State.paintSlot_kept {z0 : State} (s : State) (i : Nat) (b : Nat) (ms : List (Nat × Nat)) (hs : Kept z0 s) :
    Kept z0 (State.paintSlot s i b ms) := by
  simp +contextual (maxDischargeDepth := 99) [State.paintSlot, hs]

@[simp] theorem State.partLost_kept {z0 : State} (s : State) (p : Spill) (hs : Kept z0 s) : Kept z0 (State.partLost s p) :=
    by
  simp +contextual (maxDischargeDepth := 99) [State.partLost, hs]

@[simp] theorem State.spillLost_kept {z0 : State} (s : State) (p : Spill) (hs : Kept z0 s) : Kept z0 (State.spillLost s p)
    := by
  simp +contextual (maxDischargeDepth := 99) [State.spillLost, hs]

@[simp] theorem State.spillWait_kept {z0 : State} (s : State) (p : Spill) (hs : Kept z0 s) : Kept z0 (State.spillWait s p)
    := by
  simp +contextual (maxDischargeDepth := 99) [State.spillWait, hs]

@[simp] theorem State.spill_kept {z0 : State} (s : State) (p : Spill) (hs : Kept z0 s) : Kept z0 (State.spill s p) := by
  unfold State.spill
  dsimp only
  (repeat' split) <;> first
      | (simp +contextual (maxDischargeDepth := 99) [hs]; done)
      | (rename_i e; have e' := congrArg (fun p => Kept z0 (Prod.snd p)) e; simp +contextual (maxDischargeDepth := 99) [hs] at e'; simp +contextual (maxDischargeDepth := 99) [hs, e']; done)

@[simp] theorem State.paintTile_kept {z0 : State} (s : State) (l : LinedStroke) (k : Stroke) (sp : List Spill) (t : Int ×
    Int) (hs : Kept z0 s) : Kept z0 (State.paintTile s l k sp t).2 := by
  unfold State.paintTile
  dsimp only
  (repeat' split) <;> simp +contextual (maxDischargeDepth := 99) [hs]

@[simp] theorem State.paintOwn_kept {z0 : State} (s : State) (k : Stroke) (sp : List Spill) (hs : Kept z0 s) :
    Kept z0 (s.paintOwn k sp).2 := by
  unfold State.paintOwn
  have q := State.lineUp_kept s s.ring.nodeId.toNat k hs
  revert q
  rcases s.lineUp s.ring.nodeId.toNat k with ⟨l, u⟩
  intro q
  exact foldl_snd_kept _ _ _ q (fun w t hw => State.paintTile_kept w.2 l k w.1 t hw)

@[simp] theorem State.paintRx_kept {z0 : State} (s : State) (r : RxPart) (sp : List Spill) (hs : Kept z0 s) : Kept z0
    (State.paintRx s r sp).2 := by
  unfold State.paintRx
  dsimp only
  (repeat' split) <;> simp +contextual (maxDischargeDepth := 99) [hs]

@[simp] theorem State.paintPhase_kept {z0 : State} (s : State) (hs : Kept z0 s) : Kept z0 s.paintPhase := by
  unfold State.paintPhase
  dsimp only
  split
  · simp +contextual (maxDischargeDepth := 99) [hs]
  · refine foldl_kept _ _ (foldl_snd_kept _ _ _ (foldl_snd_kept _ _ _ ?_ ?_) ?_) (fun w x hw => State.spill_kept w x hw)
    · simp +contextual (maxDischargeDepth := 99) [hs]
    · intro w x hw
      exact State.paintOwn_kept _ _ _ hw
    · intro w x hw
      exact State.paintRx_kept _ _ _ hw

@[simp] theorem State.tagStroke_kept {z0 : State} (s : State) (node : Nat) (k : Stroke) (hs : Kept z0 s) : Kept z0
    (State.tagStroke s node k) := by
  simp +contextual (maxDischargeDepth := 99) [State.tagStroke, hs]

@[simp] theorem State.admitStrokes_kept {z0 : State} (s : State) (d : List Byte) (rsync : Bool) (hs : Kept z0 s) : Kept z0
    (State.admitStrokes s d rsync) := by
  unfold State.admitStrokes
  dsimp only
  (repeat' split) <;> simp +contextual (maxDischargeDepth := 99) [hs]

@[simp] theorem State.startFlush_kept {z0 : State} (s : State) (hs : Kept z0 s) : Kept z0 (State.startFlush s) := by
  simp +contextual (maxDischargeDepth := 99) [State.startFlush, hs]

@[simp] theorem State.winFlush_kept {z0 : State} (s : State) (hs : Kept z0 s) : Kept z0 (State.winFlush s) := by
  simp +contextual (maxDischargeDepth := 99) [State.winFlush, hs]

@[simp] theorem State.advJob_kept {z0 : State} (s : State) (hs : Kept z0 s) : Kept z0 (State.advJob s) := by
  simp +contextual (maxDischargeDepth := 99) [State.advJob, hs]

@[simp] theorem State.modPose_kept {z0 : State} (s : State) (f : PoseState → PoseState) (hs : Kept z0 s) : Kept z0
    (State.modPose s f) := by
  simp +contextual (maxDischargeDepth := 99) [State.modPose, hs]

@[simp] theorem State.modImu_kept {z0 : State} (s : State) (f : ImuState → ImuState) (hs : Kept z0 s) : Kept z0
    (State.modImu s f) := by
  simp +contextual (maxDischargeDepth := 99) [State.modImu, hs]

@[simp] theorem State.freeInt_kept {z0 : State} (s : State) (n : Nat) (hs : Kept z0 s) : Kept z0 (State.freeInt s n).2 := by
  simp +contextual (maxDischargeDepth := 99) [State.freeInt, hs]

@[simp] theorem State.freeNat_kept {z0 : State} (s : State) (n : Nat) (hs : Kept z0 s) : Kept z0 (State.freeNat s n).2 := by
  simp +contextual (maxDischargeDepth := 99) [State.freeNat, hs]

@[simp] theorem State.disagree_kept {z0 : State} (s : State) (f : Nat) (hs : Kept z0 s) : Kept z0 (State.disagree s f) := by
  simp +contextual (maxDischargeDepth := 99) [State.disagree, hs]

@[simp] theorem State.comparePose_kept {z0 : State} (s : State) (peer : Word) (hs : Kept z0 s) : Kept z0 (State.comparePose
    s peer) := by
  simp +contextual (maxDischargeDepth := 99) [State.comparePose, hs]

@[simp] theorem State.takeWord_kept {z0 : State} (s : State) (w : PoseWord) (hs : Kept z0 s) : Kept z0 (State.takeWord s w)
    := by
  simp +contextual (maxDischargeDepth := 99) [State.takeWord, hs]

@[simp] theorem State.gsUpdate_kept {z0 : State} (s : State) (tk : Time) (hs : Kept z0 s) : Kept z0 (State.gsUpdate s tk) :=
    by
  simp +contextual (maxDischargeDepth := 99) [State.gsUpdate, hs]

@[simp] theorem State.followDis_kept {z0 : State} (s : State) (tk : Time) (hs : Kept z0 s) : Kept z0 (State.followDis s tk)
    := by
  simp +contextual (maxDischargeDepth := 99) [State.followDis, hs]

@[simp] theorem State.headStep_kept {z0 : State} (s : State) (ready : List Solution) (hs : Kept z0 s) : Kept z0
    (State.headStep s ready).2.2 := by
  unfold State.headStep
  dsimp only
  (repeat' split) <;> simp +contextual (maxDischargeDepth := 99) [hs]

@[simp] theorem State.gnssStep_kept {z0 : State} (s : State) (tk : Time) (hs : Kept z0 s) : Kept z0 (State.gnssStep s tk) :=
    by
  simp +contextual (maxDischargeDepth := 99) [State.gnssStep, hs]

@[simp] theorem State.speedStep_kept {z0 : State} (s : State) (tk : Time) (accel : Int) (hs : Kept z0 s) : Kept z0
    (State.speedStep s tk accel).2.2.2 := by
  unfold State.speedStep
  dsimp only
  (repeat' split) <;> simp +contextual (maxDischargeDepth := 99) [hs]

@[simp] theorem State.applySol_kept {z0 : State} (s : State) (stamp tk : Time) (x : Solution) (hs : Kept z0 s) : Kept z0
    (State.applySol s stamp tk x) := by
  simp +contextual (maxDischargeDepth := 99) [State.applySol, hs]

@[simp] theorem State.slewStep_kept {z0 : State} (s : State) (hs : Kept z0 s) : Kept z0 (State.slewStep s) := by
  unfold State.slewStep
  dsimp only
  (repeat' split) <;> simp +contextual (maxDischargeDepth := 99) [hs]

@[simp] theorem State.coastStep_kept {z0 : State} (s : State) (hs : Kept z0 s) : Kept z0 (State.coastStep s) := by
  simp +contextual (maxDischargeDepth := 99) [State.coastStep, hs]

@[simp] theorem State.irate_kept {z0 : State} (s : State) (uy : Int) (hs : Kept z0 s) : Kept z0 (State.irate s uy).2 := by
  unfold State.irate
  dsimp only
  (repeat' split) <;> simp +contextual (maxDischargeDepth := 99) [hs]

@[simp] theorem State.hitchSense_kept {z0 : State} (s : State) (codes : List (BitVec 12)) (hs : Kept z0 s) : Kept z0
    (State.hitchSense s codes) := by
  simp +contextual (maxDischargeDepth := 99) [State.hitchSense, hs]

@[simp] theorem State.hitchFromSensor_kept {z0 : State} (s : State) (h psiS : Nat) (v w hx : Int) (hs : Kept z0 s) : Kept z0
    (State.hitchFromSensor s h psiS v w hx).2 := by
  simp +contextual (maxDischargeDepth := 99) [State.hitchFromSensor, hs]

@[simp] theorem State.hitchFromModel_kept {z0 : State} (s : State) (h : Nat) (v w hx : Int) (hs : Kept z0 s) : Kept z0
    (State.hitchFromModel s h v w hx).2 := by
  simp +contextual (maxDischargeDepth := 99) [State.hitchFromModel, hs]

@[simp] theorem State.hitchBoth_kept {z0 : State} (s : State) (ok : Bool) (h psiS : Nat) (v w hx : Int) (tk : Time) (hs :
    Kept z0 s) : Kept z0 (State.hitchBoth s ok h psiS v w hx tk).2 := by
  unfold State.hitchBoth
  dsimp only
  (repeat' split) <;> simp +contextual (maxDischargeDepth := 99) [hs]

@[simp] theorem State.hitchStep_kept {z0 : State} (s : State) (codes : List (BitVec 12)) (h : Nat) (v w : Int) (tk : Time)
    (hs : Kept z0 s) : Kept z0 (State.hitchStep s codes h v w tk).2.2 := by
  unfold State.hitchStep
  dsimp only
  (repeat' split) <;> simp +contextual (maxDischargeDepth := 99) [hs]

@[simp] theorem State.gsoutStep_kept {z0 : State} (s : State) (hs : Kept z0 s) : Kept z0 (State.gsoutStep s) := by
  unfold State.gsoutStep
  dsimp only
  (repeat' split) <;> simp +contextual (maxDischargeDepth := 99) [hs]

@[simp] theorem State.freeIf_kept {z0 : State} (s : State) (c : Bool) (n : Nat) (hs : Kept z0 s) : Kept z0 (State.freeIf s c
    n).2 := by
  unfold State.freeIf
  (repeat' split) <;> simp_all +contextual (maxDischargeDepth := 99)

@[simp] theorem State.freeNatIf_kept {z0 : State} (s : State) (c : Bool) (n d : Nat) (hs : Kept z0 s) : Kept z0
    (State.freeNatIf s c n d).2 := by
  unfold State.freeNatIf
  (repeat' split) <;> simp_all +contextual (maxDischargeDepth := 99)

@[simp] theorem State.takeSols_kept {z0 : State} (s : State) (tk : Time) (ready : List (Time × Solution)) (hs : Kept z0 s) :
    Kept z0 (State.takeSols s tk ready) := by
  simp +contextual (maxDischargeDepth := 99) [State.takeSols, hs]

@[simp] theorem State.formMotion_kept {z0 : State} (s : State) (tk : Time) (ready : List (Time × Solution)) (free : Bool)
    (hs : Kept z0 s) : Kept z0 (State.formMotion s tk ready free).2 := by
  simp +contextual (maxDischargeDepth := 99) [State.formMotion, hs]

@[simp] theorem State.formPos_kept {z0 : State} (s : State) (tk : Time) (ready : List (Time × Solution)) (hs : Kept z0 s) :
    Kept z0 (State.formPos s tk ready) := by
  simp +contextual (maxDischargeDepth := 99) [State.formPos, hs]

@[simp] theorem State.formHitch_kept {z0 : State} (s : State) (line : Bool) (codes : List (BitVec 12)) (hd : Nat) (v : Int)
    (tk : Time) (hs : Kept z0 s) : Kept z0 (State.formHitch s line codes hd v tk).2.2 := by
  unfold State.formHitch
  (repeat' split) <;> simp_all +contextual (maxDischargeDepth := 99)

@[simp] theorem State.formWord_kept {z0 : State} (s : State) (k : Nat) (codes : List (BitVec 12)) (hs : Kept z0 s) : Kept z0
    (State.formWord s k codes) := by
  unfold State.formWord
  dsimp only
  (repeat' split) <;> simp +contextual (maxDischargeDepth := 99) [hs]

@[simp] theorem State.ringInputs_kept {z0 : State} (s : State) (tk : Time) (hitch : List (BitVec 12)) (hs : Kept z0 s) :
    Kept z0 (State.ringInputs s tk hitch) := by
  simp +contextual (maxDischargeDepth := 99) [State.ringInputs, hs]

@[simp] theorem State.followRing_kept {z0 : State} (s : State) (w : PoseWord) (hs : Kept z0 s) : Kept z0 (State.followRing s
    w) := by
  unfold State.followRing
  dsimp only
  (repeat' split) <;> simp +contextual (maxDischargeDepth := 99) [hs]

@[simp] theorem State.ringPose_kept {z0 : State} (s : State) (d : List Byte) (hs : Kept z0 s) : Kept z0 (State.ringPose s d)
    := by
  simp +contextual (maxDischargeDepth := 99) [State.ringPose, hs]

@[simp] theorem State.imuAxis_kept {z0 : State} (s : State) (nib : Nat) (v : Nat → Int) (hs : Kept z0 s) : Kept z0
    (State.imuAxis s nib v).2 := by
  unfold State.imuAxis
  dsimp only
  (repeat' split) <;> simp +contextual (maxDischargeDepth := 99) [hs]

@[simp] theorem State.imuThree_kept {z0 : State} (s : State) (bytes : List Byte) (ofs k : Nat) (hs : Kept z0 s) : Kept z0
    (State.imuThree s bytes ofs k).2 := by
  unfold State.imuThree
  dsimp only
  (repeat' split) <;> simp +contextual (maxDischargeDepth := 99) [hs]

@[simp] theorem State.imuEnable_kept {z0 : State} (s : State) (on : Bool) (hs : Kept z0 s) : Kept z0 (State.imuEnable s on)
    := by
  simp +contextual (maxDischargeDepth := 99) [State.imuEnable, hs]

@[simp] theorem State.setRev_kept {z0 : State} (s : State) (hs : Kept z0 s) : Kept z0 (State.setRev s) := by
  simp +contextual (maxDischargeDepth := 99) [State.setRev, hs]

@[simp] theorem State.sendTravel_kept {z0 : State} (s : State) (hs : Kept z0 s) : Kept z0 (State.sendTravel s) := by
  simp +contextual (maxDischargeDepth := 99) [State.sendTravel, hs]

@[simp] theorem State.zeroTravel_kept {z0 : State} (s : State) (hs : Kept z0 s) : Kept z0 (State.zeroTravel s) := by
  simp +contextual (maxDischargeDepth := 99) [State.zeroTravel, hs]

@[simp] theorem State.armTravel_kept {z0 : State} (s : State) (hs : Kept z0 s) : Kept z0 (State.armTravel s) := by
  simp +contextual (maxDischargeDepth := 99) [State.armTravel, hs]

@[simp] theorem State.modFpe_kept {z0 : State} (s : State) (f : FpeState → FpeState) (hs : Kept z0 s) : Kept z0
    (State.modFpe s f) := by
  simp +contextual (maxDischargeDepth := 99) [State.modFpe, hs]

@[simp] theorem State.modFo_kept {z0 : State} (s : State) (j : Nat) (f : OutFpe → OutFpe) (hs : Kept z0 s) : Kept z0
    (State.modFo s j f) := by
  simp +contextual (maxDischargeDepth := 99) [State.modFo, hs]

@[simp] theorem State.prepOut_kept {z0 : State} (s : State) (m : Nat) (j : Nat) (hs : Kept z0 s) : Kept z0 (State.prepOut s
    m j) := by
  simp +contextual (maxDischargeDepth := 99) [State.prepOut, hs]

@[simp] theorem State.prepare_kept {z0 : State} (s : State) (hs : Kept z0 s) : Kept z0 (State.prepare s) := by
  simp +contextual (maxDischargeDepth := 99) [State.prepare, hs]

@[simp] theorem State.latchProd_kept {z0 : State} (s : State) (p : Fin 2) (ain : List Sample) (hs : Kept z0 s) : Kept z0
    (State.latchProd s p ain) := by
  unfold State.latchProd
  dsimp only
  (repeat' split) <;> simp +contextual (maxDischargeDepth := 99) [hs]

@[simp] theorem State.swapTables_kept {z0 : State} (s : State) (hs : Kept z0 s) : Kept z0 (State.swapTables s) := by
  simp +contextual (maxDischargeDepth := 99) [State.swapTables, hs]

@[simp] theorem State.readPoint_kept {z0 : State} (s : State) (c : Int × Int) (hs : Kept z0 s) : Kept z0 (State.readPoint s
    c).2 := by
  unfold State.readPoint
  dsimp only
  (repeat' split) <;> simp +contextual (maxDischargeDepth := 99) [hs]

@[simp] theorem State.readLine_kept {z0 : State} (s : State) (cs : List (Int × Int)) (hs : Kept z0 s) : Kept z0
    (State.readLine s cs).2 := by
  induction cs generalizing s with
  | nil => simp +contextual (maxDischargeDepth := 99) [State.readLine, hs]
  | cons a l ih =>
    unfold State.readLine
    try dsimp only
    (repeat' split) <;> first
        | (simp +contextual (maxDischargeDepth := 99) [hs]; done)
        | (apply ih; simp +contextual (maxDischargeDepth := 99) [hs]; done)
        | (simp +contextual (maxDischargeDepth := 99) [hs, ih]; done)
        | (simp +contextual (maxDischargeDepth := 99) [*]; done)
        | (rename_i e; have e' := congrArg (fun p => Kept z0 (Prod.snd p)) e; simp +contextual (maxDischargeDepth := 99) [hs, ih] at e'; first | (apply ih; simp +contextual (maxDischargeDepth := 99) [hs, e']; done) | (simp +contextual (maxDischargeDepth := 99) [hs, ih, e']; done))

@[simp] theorem State.sample_kept {z0 : State} (s : State) (pt : Path) (p : Prep) (a : Sampled) (x : Nat) (hs : Kept z0 s) :
    Kept z0 (State.sample s pt p a x).2 := by
  unfold State.sample
  dsimp only
  (repeat' split) <;> simp +contextual (maxDischargeDepth := 99) [hs]

@[simp] theorem State.sampleWindow_kept {z0 : State} (s : State) (p : Prep) (a b : Nat) (hs : Kept z0 s) :
    Kept z0 (s.sampleWindow p a b).2 := by
  unfold State.sampleWindow
  exact foldl_snd_kept _ _ _ hs (fun w x hw => State.sample_kept _ _ _ _ _ hw)

@[simp] theorem State.sampleAll_kept {z0 : State} (s : State) (ps : List Prep) (hs : Kept z0 s) : Kept z0 (State.sampleAll s
    ps).2 := by
  induction ps generalizing s with
  | nil => simp +contextual (maxDischargeDepth := 99) [State.sampleAll, hs]
  | cons a l ih =>
    unfold State.sampleAll
    try dsimp only
    (repeat' split) <;> first
        | (simp +contextual (maxDischargeDepth := 99) [hs]; done)
        | (apply ih; simp +contextual (maxDischargeDepth := 99) [hs]; done)
        | (simp +contextual (maxDischargeDepth := 99) [hs, ih]; done)
        | (simp +contextual (maxDischargeDepth := 99) [*]; done)
        | (rename_i e; have e' := congrArg (fun p => Kept z0 (Prod.snd p)) e; simp +contextual (maxDischargeDepth := 99) [hs, ih] at e'; first | (apply ih; simp +contextual (maxDischargeDepth := 99) [hs, e']; done) | (simp +contextual (maxDischargeDepth := 99) [hs, ih, e']; done))

@[simp] theorem State.lowPressure_kept {z0 : State} (s : State) (p : Fin 2) (j : Nat) (hs : Kept z0 s) : Kept z0
    (State.lowPressure s p j).2 := by
  unfold State.lowPressure
  dsimp only
  (repeat' split) <;> simp +contextual (maxDischargeDepth := 99) [hs]

@[simp] theorem State.dutyOf_kept {z0 : State} (s : State) (j q : Nat) (hs : Kept z0 s) : Kept z0 (State.dutyOf s j q).2 :=
    by
  unfold State.dutyOf
  dsimp only
  (repeat' split) <;> simp +contextual (maxDischargeDepth := 99) [hs]

@[simp] theorem State.valueOf_kept {z0 : State} (s : State) (j q : Nat) (hs : Kept z0 s) : Kept z0 (State.valueOf s j q).2
    := by
  unfold State.valueOf
  dsimp only
  (repeat' split) <;> simp +contextual (maxDischargeDepth := 99) [hs]

@[simp] theorem State.addDemand_kept {z0 : State} (s : State) (j q : Nat) (hs : Kept z0 s) : Kept z0 (State.addDemand s j q)
    := by
  simp +contextual (maxDischargeDepth := 99) [State.addDemand, hs]

@[simp] theorem State.decideOut_kept {z0 : State} (s : State) (d : Sampled) (sumw : Nat → Nat) (hs : Kept z0 s) : Kept z0
    (State.decideOut s d sumw).2 := by
  unfold State.decideOut
  dsimp only
  (repeat' split) <;> simp +contextual (maxDischargeDepth := 99) [hs]

@[simp] theorem State.decideAll_kept {z0 : State} (s : State) (sumw : Nat → Nat) (ds : List Sampled) (hs : Kept z0 s) : Kept
    z0 (State.decideAll s sumw ds).2 := by
  induction ds generalizing s with
  | nil => simp +contextual (maxDischargeDepth := 99) [State.decideAll, hs]
  | cons a l ih =>
    unfold State.decideAll
    try dsimp only
    (repeat' split) <;> first
        | (simp +contextual (maxDischargeDepth := 99) [hs]; done)
        | (apply ih; simp +contextual (maxDischargeDepth := 99) [hs]; done)
        | (simp +contextual (maxDischargeDepth := 99) [hs, ih]; done)
        | (simp +contextual (maxDischargeDepth := 99) [*]; done)
        | (rename_i e; have e' := congrArg (fun p => Kept z0 (Prod.snd p)) e; simp +contextual (maxDischargeDepth := 99) [hs, ih] at e'; first | (apply ih; simp +contextual (maxDischargeDepth := 99) [hs, e']; done) | (simp +contextual (maxDischargeDepth := 99) [hs, ih, e']; done))

@[simp] theorem State.setHold_kept {z0 : State} (s : State) (n : LaneIx) (l : List FEvent) (hs : Kept z0 s) : Kept z0
    (State.setHold s n l) := by
  simp +contextual (maxDischargeDepth := 99) [State.setHold, hs]

@[simp] theorem State.setPosted_kept {z0 : State} (s : State) (n : LaneIx) (l : List FEvent) (hs : Kept z0 s) : Kept z0
    (State.setPosted s n l) := by
  simp +contextual (maxDischargeDepth := 99) [State.setPosted, hs]

@[simp] theorem State.setDeferred_kept {z0 : State} (s : State) (n : LaneIx) (l : List FEvent) (hs : Kept z0 s) : Kept z0
    (State.setDeferred s n l) := by
  simp +contextual (maxDischargeDepth := 99) [State.setDeferred, hs]

@[simp] theorem State.evtLost_kept {z0 : State} (s : State) (n : LaneIx) (e : FEvent) (hs : Kept z0 s) : Kept z0
    (State.evtLost s n e) := by
  simp +contextual (maxDischargeDepth := 99) [State.evtLost, hs]

@[simp] theorem State.joinHold_kept {z0 : State} (s : State) (n : LaneIx) (e : FEvent) (hs : Kept z0 s) : Kept z0
    (State.joinHold s n e) := by
  unfold State.joinHold
  dsimp only
  (repeat' split) <;> simp +contextual (maxDischargeDepth := 99) [hs]

@[simp] theorem State.offerEvent_kept {z0 : State} (s : State) (n : LaneIx) (e : FEvent) (hs : Kept z0 s) :
    Kept z0 (s.offerEvent n e) := by
  unfold State.offerEvent
  split
  · split
    · have k := State.sendDn_kept s n (evtFlits e) hs
      revert k
      rcases s.sendDn n (evtFlits e) with ⟨b, u⟩
      intro k
      cases b
      · simp +contextual (maxDischargeDepth := 99) [k]
      · simp +contextual (maxDischargeDepth := 99) [k]
    · simp +contextual (maxDischargeDepth := 99) [hs]
  · simp +contextual (maxDischargeDepth := 99) [hs]

@[simp] theorem State.lateCheck_kept {z0 : State} (s : State) (e : FEvent) (hs : Kept z0 s) : Kept z0 (State.lateCheck s e)
    := by
  unfold State.lateCheck
  dsimp only
  (repeat' split) <;> simp +contextual (maxDischargeDepth := 99) [hs]

@[simp] theorem State.postEvent_kept {z0 : State} (s : State) (n : LaneIx) (e : FEvent) (hs : Kept z0 s) : Kept z0
    (State.postEvent s n e).2 := by
  unfold State.postEvent
  dsimp only
  (repeat' split) <;> first
      | (simp +contextual (maxDischargeDepth := 99) [hs]; done)
      | (rename_i e; have e' := congrArg (fun p => Kept z0 (Prod.snd p)) e; simp +contextual (maxDischargeDepth := 99) [hs] at e'; simp +contextual (maxDischargeDepth := 99) [hs, e']; done)

@[simp] theorem State.postEvents_kept {z0 : State} (s : State) (n : LaneIx) (es : List FEvent) (hs : Kept z0 s) : Kept z0
    (State.postEvents s n es).2 := by
  induction es generalizing s with
  | nil => simp +contextual (maxDischargeDepth := 99) [State.postEvents, hs]
  | cons a l ih =>
    unfold State.postEvents
    try dsimp only
    (repeat' split) <;> first
        | (simp +contextual (maxDischargeDepth := 99) [hs]; done)
        | (apply ih; simp +contextual (maxDischargeDepth := 99) [hs]; done)
        | (simp +contextual (maxDischargeDepth := 99) [hs, ih]; done)
        | (simp +contextual (maxDischargeDepth := 99) [*]; done)
        | (rename_i e; have e' := congrArg (fun p => Kept z0 (Prod.snd p)) e; simp +contextual (maxDischargeDepth := 99) [hs, ih] at e'; first | (apply ih; simp +contextual (maxDischargeDepth := 99) [hs, e']; done) | (simp +contextual (maxDischargeDepth := 99) [hs, ih, e']; done))

@[simp] theorem State.postLane_kept {z0 : State} (s : State) (n : LaneIx) (new : List FEvent) (hs : Kept z0 s) : Kept z0
    (State.postLane s n new).2 := by
  simp +contextual (maxDischargeDepth := 99) [State.postLane, hs]

@[simp] theorem State.postAll_kept {z0 : State} (s : State) (es : List FEvent) (ns : List LaneIx) (hs : Kept z0 s) : Kept z0
    (State.postAll s es ns).2 := by
  induction ns generalizing s with
  | nil => simp +contextual (maxDischargeDepth := 99) [State.postAll, hs]
  | cons a l ih =>
    unfold State.postAll
    try dsimp only
    (repeat' split) <;> first
        | (simp +contextual (maxDischargeDepth := 99) [hs]; done)
        | (apply ih; simp +contextual (maxDischargeDepth := 99) [hs]; done)
        | (simp +contextual (maxDischargeDepth := 99) [hs, ih]; done)
        | (simp +contextual (maxDischargeDepth := 99) [*]; done)
        | (rename_i e; have e' := congrArg (fun p => Kept z0 (Prod.snd p)) e; simp +contextual (maxDischargeDepth := 99) [hs, ih] at e'; first | (apply ih; simp +contextual (maxDischargeDepth := 99) [hs, e']; done) | (simp +contextual (maxDischargeDepth := 99) [hs, ih, e']; done))

@[simp] theorem State.trace_kept {z0 : State} (s : State) (es posted : List FEvent) (d : Sampled) (hs : Kept z0 s) : Kept z0
    (State.trace s es posted d) := by
  unfold State.trace
  dsimp only
  (repeat' split) <;> first
      | (simp +contextual (maxDischargeDepth := 99) [hs]; done)
      | (rename_i e; have e' := congrArg (fun p => Kept z0 (Prod.snd p)) e; simp +contextual (maxDischargeDepth := 99) [hs] at e'; simp +contextual (maxDischargeDepth := 99) [hs, e']; done)

@[simp] theorem State.armCheck_kept {z0 : State} (s : State) (hs : Kept z0 s) : Kept z0 (State.armCheck s) := by
  simp +contextual (maxDischargeDepth := 99) [State.armCheck, hs]

@[simp] theorem State.decTime_kept {z0 : State} (s : State) (dur : Nat) (hs : Kept z0 s) : Kept z0 (State.decTime s dur) :=
    by
  simp +contextual (maxDischargeDepth := 99) [State.decTime, hs]

@[simp] theorem State.decideTick_kept {z0 : State} (s : State) (hs : Kept z0 s) : Kept z0 (State.decideTick s) := by
  simp +contextual (maxDischargeDepth := 99) [State.decideTick, hs]

@[simp] theorem State.formOut_kept {z0 : State} (s : State) (p : Prep) (hs : Kept z0 s) : Kept z0 (s.formOut p).2 := by
  unfold State.formOut
  dsimp only
  apply State.modFo_kept
  split
  · exact State.setEvt_kept _ _ hs
  · exact hs

@[simp] theorem State.formAll_kept {z0 : State} (s : State) (ps : List Prep) (hs : Kept z0 s) : Kept z0 (State.formAll s
    ps).2 := by
  induction ps generalizing s with
  | nil => simp +contextual (maxDischargeDepth := 99) [State.formAll, hs]
  | cons a l ih =>
    unfold State.formAll
    try dsimp only
    (repeat' split) <;> first
        | (simp +contextual (maxDischargeDepth := 99) [hs]; done)
        | (apply ih; simp +contextual (maxDischargeDepth := 99) [hs]; done)
        | (simp +contextual (maxDischargeDepth := 99) [hs, ih]; done)
        | (simp +contextual (maxDischargeDepth := 99) [*]; done)
        | (rename_i e; have e' := congrArg (fun p => Kept z0 (Prod.snd p)) e; simp +contextual (maxDischargeDepth := 99) [hs, ih] at e'; first | (apply ih; simp +contextual (maxDischargeDepth := 99) [hs, e']; done) | (simp +contextual (maxDischargeDepth := 99) [hs, ih, e']; done))

@[simp] theorem State.sendStrokes_kept {z0 : State} (k : Nat) (s : State) (ks : List Stroke) (hs : Kept z0 s) :
    Kept z0 (State.sendStrokes k s ks) := by
  induction k generalizing s ks with
  | zero => simpa [State.sendStrokes] using hs
  | succ n ih =>
    cases ks with
    | nil => simpa [State.sendStrokes] using hs
    | cons a l =>
      unfold State.sendStrokes
      exact ih _ _ (State.sendStroke_kept _ _ hs)

@[simp] theorem State.sendSpDem_kept {z0 : State} (s : State) (hs : Kept z0 s) : Kept z0 (State.sendSpDem s) := by
  simp +contextual (maxDischargeDepth := 99) [State.sendSpDem, hs]

@[simp] theorem State.recTick_kept {z0 : State} (s : State) (c : RecCode) (hs : Kept z0 s) : Kept z0 (State.recTick s c) :=
    by
  simp +contextual (maxDischargeDepth := 99) [State.recTick, hs]

@[simp] theorem State.decDigest_kept {z0 : State} (s : State) (dec : Bool) (hs : Kept z0 s) : Kept z0 (State.decDigest s
    dec) := by
  simp +contextual (maxDischargeDepth := 99) [State.decDigest, hs]

@[simp] theorem State.slotDigest_kept {z0 : State} (s : State) (slots : Bool) (hs : Kept z0 s) : Kept z0 (State.slotDigest s
    slots) := by
  simp +contextual (maxDischargeDepth := 99) [State.slotDigest, hs]

@[simp] theorem State.rateSwap_kept {z0 : State} (s : State) (hs : Kept z0 s) : Kept z0 (State.rateSwap s) := by
  simp +contextual (maxDischargeDepth := 99) [State.rateSwap, hs]

@[simp] theorem State.takeAck_kept {z0 : State} (s : State) (n : LaneIx) (f : Flit) (hs : Kept z0 s) : Kept z0
    (State.takeAck s n f) := by
  simp +contextual (maxDischargeDepth := 99) [State.takeAck, hs]

@[simp] theorem State.takeFull_kept {z0 : State} (s : State) (n : LaneIx) (f : Flit) (hs : Kept z0 s) : Kept z0
    (State.takeFull s n f) := by
  unfold State.takeFull
  dsimp only
  (repeat' split) <;> simp +contextual (maxDischargeDepth := 99) [hs]

@[simp] theorem State.reoffer_kept {z0 : State} (s : State) (n : LaneIx) (hs : Kept z0 s) : Kept z0 (State.reoffer s n) :=
    by
  simp +contextual (maxDischargeDepth := 99) [State.reoffer, hs]

@[simp] theorem State.takeFire_kept {z0 : State} (s : State) (n : LaneIx) (a b : Flit) (hs : Kept z0 s) : Kept z0
    (State.takeFire s n a b) := by
  simp +contextual (maxDischargeDepth := 99) [State.takeFire, hs]

@[simp] theorem State.clearOutlets_kept {z0 : State} (s : State) (n : LaneIx) (mask : Nat) (hs : Kept z0 s) : Kept z0
    (State.clearOutlets s n mask) := by
  simp +contextual (maxDischargeDepth := 99) [State.clearOutlets, hs]

@[simp] theorem State.takeMotion_kept {z0 : State} (s : State) (n : LaneIx) (a b : Flit) (hs : Kept z0 s) : Kept z0
    (State.takeMotion s n a b) := by
  simp +contextual (maxDischargeDepth := 99) [State.takeMotion, hs]

@[simp] theorem State.takeDly_kept {z0 : State} (s : State) (n : LaneIx) (f : Flit) (hs : Kept z0 s) : Kept z0
    (State.takeDly s n f) := by
  simp +contextual (maxDischargeDepth := 99) [State.takeDly, hs]

@[simp] theorem State.spineTakes_kept {z0 : State} (s : State) (n : LaneIx) (f : Flit) (hs : Kept z0 s) : Kept z0
    (State.spineTakes s n f) := by
  unfold State.spineTakes
  dsimp only
  (repeat' split) <;> simp +contextual (maxDischargeDepth := 99) [hs]

@[simp] theorem State.linkUp__kept {z0 : State} (s : State) (n : LaneIx) (f : Flit) (hs : Kept z0 s) : Kept z0
    (State.linkUp_ s n f) := by
  simp +contextual (maxDischargeDepth := 99) [State.linkUp_, hs]

@[simp] theorem State.flitUp_kept {z0 : State} (s : State) (n : LaneIx) (f : Flit) (hs : Kept z0 s) : Kept z0 (State.flitUp
    s n f) := by
  simp +contextual (maxDischargeDepth := 99) [State.flitUp, hs]

@[simp] theorem State.flitOn_kept {z0 : State} (s : State) (n : LaneIx) (d : Dir) (f : Flit) (hs : Kept z0 s) : Kept z0
    (State.flitOn s n d f) := by
  unfold State.flitOn
  (repeat' split) <;> simp_all +contextual (maxDischargeDepth := 99)

@[simp] theorem State.armFpe_kept {z0 : State} (s : State) (hs : Kept z0 s) : Kept z0 (State.armFpe s) := by
  simp +contextual (maxDischargeDepth := 99) [State.armFpe, hs]

@[simp] theorem State.armFromRun_kept {z0 : State} (s : State) (hs : Kept z0 s) : Kept z0 (State.armFromRun s) := by
  simp +contextual (maxDischargeDepth := 99) [State.armFromRun, hs]

@[simp] theorem State.fenceFpe_kept {z0 : State} (s : State) (n : LaneIx) (hs : Kept z0 s) : Kept z0 (State.fenceFpe s n) :=
    by
  simp +contextual (maxDischargeDepth := 99) [State.fenceFpe, hs]

@[simp] theorem State.modGnss_kept {z0 : State} (s : State) (f : GnssState → GnssState) (hs : Kept z0 s) : Kept z0
    (State.modGnss s f) := by
  simp +contextual (maxDischargeDepth := 99) [State.modGnss, hs]

@[simp] theorem State.recEach_kept {z0 : State} (s : State) (c : RecCode) (page : Half → Nat) (v : Word) (hs : Kept z0 s) :
    Kept z0 (State.recEach s c page v) := by
  simp +contextual (maxDischargeDepth := 99) [State.recEach, hs]

@[simp] theorem State.eachGnss_kept {z0 : State} (s : State) (f : State → Nat → State) (hs : Kept z0 s)
    (hf : ∀ w n, Kept z0 w → Kept z0 (f w n)) : Kept z0 (s.eachGnss f) := by
  unfold State.eachGnss
  exact foldl_kept _ _ hs (fun w h hw => hf _ _ hw)

@[simp] theorem State.agcM_kept {z0 : State} (s : State) (c1 c5 : Nat × Nat) (hs : Kept z0 s) : Kept z0 (State.agcM s c1
    c5).2 := by
  unfold State.agcM
  dsimp only
  (repeat' split) <;> simp +contextual (maxDischargeDepth := 99) [hs]

@[simp] theorem State.setChan_kept {z0 : State} (s : State) (i : Nat) (c : Chan) (hs : Kept z0 s) : Kept z0 (State.setChan s
    i c) := by
  simp +contextual (maxDischargeDepth := 99) [State.setChan, hs]

@[simp] theorem State.assign_kept {z0 : State} (s : State) (before : State) (a : ChanAssign) (hs : Kept z0 s) : Kept z0
    (State.assign s before a) := by
  simp +contextual (maxDischargeDepth := 99) [State.assign, hs]

@[simp] theorem State.moveSignals_kept {z0 : State} (s : State) (h : Half) (hs : Kept z0 s) : Kept z0 (State.moveSignals s
    h) := by
  simp +contextual (maxDischargeDepth := 99) [State.moveSignals, hs]

@[simp] theorem State.advanceEpoch_kept {z0 : State} (s : State) (asg : List ChanAssign) (hs : Kept z0 s) : Kept z0
    (State.advanceEpoch s asg) := by
  simp +contextual (maxDischargeDepth := 99) [State.advanceEpoch, hs]

@[simp] theorem State.postGnss_kept {z0 : State} (s : State) (h : Half) (data : List Byte) (hs : Kept z0 s) :
    Kept z0 (s.postGnss h data) := by
  unfold State.postGnss
  have k := State.postItem_kept s 13 0 data hs
  revert k
  rcases s.postItem 13 0 data with ⟨b, u⟩
  intro k
  cases b
  · simp +contextual (maxDischargeDepth := 99) [k]
  · exact k

@[simp] theorem State.staleMeas_kept {z0 : State} (s : State) (m : ChanMeas) (hs : Kept z0 s) : Kept z0 (State.staleMeas s
    m) := by
  simp +contextual (maxDischargeDepth := 99) [State.staleMeas, hs]

@[simp] theorem State.ageCorr_kept {z0 : State} (s : State) (hs : Kept z0 s) : Kept z0 (State.ageCorr s) := by
  unfold State.ageCorr
  (repeat' split) <;> simp_all +contextual (maxDischargeDepth := 99)

@[simp] theorem State.takeQ2_kept {z0 : State} (fuel : Nat) (s : State) (hs : Kept z0 s) : Kept z0 (State.takeQ2 fuel s) :=
    by
  induction fuel generalizing s with
  | zero => simp +contextual (maxDischargeDepth := 99) [State.takeQ2, hs]
  | succ n ih =>
    unfold State.takeQ2
    try dsimp only
    (repeat' split) <;> first
        | (simp +contextual (maxDischargeDepth := 99) [hs]; done)
        | (apply ih; simp +contextual (maxDischargeDepth := 99) [hs]; done)
        | (simp +contextual (maxDischargeDepth := 99) [hs, ih]; done)
        | (simp +contextual (maxDischargeDepth := 99) [*]; done)
        | (rename_i e; have e' := congrArg (fun p => Kept z0 (Prod.snd p)) e; simp +contextual (maxDischargeDepth := 99) [hs, ih] at e'; first | (apply ih; simp +contextual (maxDischargeDepth := 99) [hs, e']; done) | (simp +contextual (maxDischargeDepth := 99) [hs, ih, e']; done))

@[simp] theorem State.takeMsm_kept {z0 : State} (s : State) (m stn : Nat) (d : List Byte) (hs : Kept z0 s) : Kept z0
    (State.takeMsm s m stn d) := by
  unfold State.takeMsm
  dsimp only
  (repeat' split) <;> simp +contextual (maxDischargeDepth := 99) [hs]

@[simp] theorem State.station_kept {z0 : State} (s : State) (stn : Nat) (hs : Kept z0 s) : Kept z0 (State.station s stn).2
    := by
  unfold State.station
  dsimp only
  (repeat' split) <;> simp +contextual (maxDischargeDepth := 99) [hs]

@[simp] theorem State.rtcmDropped_kept {z0 : State} (s : State) (hs : Kept z0 s) : Kept z0 (State.rtcmDropped s) := by
  simp +contextual (maxDischargeDepth := 99) [State.rtcmDropped, hs]

@[simp] theorem State.rtcmTaken_kept {z0 : State} (s : State) (hs : Kept z0 s) : Kept z0 (State.rtcmTaken s) := by
  simp +contextual (maxDischargeDepth := 99) [State.rtcmTaken, hs]

@[simp] theorem State.rtcmMessage_kept {z0 : State} (s : State) (d : List Byte) (hs : Kept z0 s) : Kept z0 (s.rtcmMessage d)
    := by
  unfold State.rtcmMessage
  dsimp only
  have k := State.station_kept s (bitsMsb d 12 12) hs
  revert k
  rcases s.station (bitsMsb d 12 12) with ⟨b, u⟩
  intro k
  (repeat' split) <;> simp_all +contextual (maxDischargeDepth := 99)

@[simp] theorem State.rtcmBad_kept {z0 : State} (s : State) (b d : List Byte) (len : Nat) (hs : Kept z0 s) : Kept z0
    (State.rtcmBad s b d len) := by
  simp +contextual (maxDischargeDepth := 99) [State.rtcmBad, hs]

@[simp] theorem State.rtcmParse_kept {z0 : State} (s : State) (b : List Byte) (hs : Kept z0 s) : Kept z0 (State.rtcmParse s
    b) := by
  simp +contextual (maxDischargeDepth := 99) [State.rtcmParse, hs]

@[simp] theorem State.holdChans_kept {z0 : State} (s : State) (h : Half) (hs : Kept z0 s) : Kept z0 (State.holdChans s h) :=
    by
  simp +contextual (maxDischargeDepth := 99) [State.holdChans, hs]

@[simp] theorem State.gnssStandby_kept {z0 : State} (s : State) (hs : Kept z0 s) : Kept z0 (State.gnssStandby s) := by
  unfold State.gnssStandby
  dsimp only
  (repeat' split) <;> simp +contextual (maxDischargeDepth := 99) [hs]

@[simp] theorem State.gnssWake_kept {z0 : State} (s : State) (hs : Kept z0 s) : Kept z0 (State.gnssWake s) := by
  simp +contextual (maxDischargeDepth := 99) [State.gnssWake, hs]

@[simp] theorem State.modTime_kept {z0 : State} (s : State) (f : TimeState → TimeState) (hs : Kept z0 s) : Kept z0
    (State.modTime s f) := by
  simp +contextual (maxDischargeDepth := 99) [State.modTime, hs]

@[simp] theorem State.recTime_kept {z0 : State} (s : State) (c : RecCode) (v : Word) (hs : Kept z0 s) : Kept z0
    (State.recTime s c v) := by
  simp +contextual (maxDischargeDepth := 99) [State.recTime, hs]

@[simp] theorem State.timeSolution_kept {z0 : State} (s : State) (m : TimeSol) (hs : Kept z0 s) : Kept z0
    (State.timeSolution s m) := by
  unfold State.timeSolution
  dsimp only
  (repeat' split) <;> simp +contextual (maxDischargeDepth := 99) [hs]

@[simp] theorem State.slewOrStep_kept {z0 : State} (s : State) (m : TimeSol) (sec : Int) (hs : Kept z0 s) : Kept z0
    (State.slewOrStep s m sec).2 := by
  unfold State.slewOrStep
  dsimp only
  (repeat' split) <;> simp +contextual (maxDischargeDepth := 99) [hs]

@[simp] theorem State.prepareSecond_kept {z0 : State} (s : State) (m : TimeSol) (sec : Int) (hs : Kept z0 s) : Kept z0
    (State.prepareSecond s m sec) := by
  simp +contextual (maxDischargeDepth := 99) [State.prepareSecond, hs]

@[simp] theorem State.solTaken_kept {z0 : State} (s : State) (h : Half) (sol : Solution) (hs : Kept z0 s) : Kept z0
    (State.solTaken s h sol) := by
  simp +contextual (maxDischargeDepth := 99) [State.solTaken, hs]

@[simp] theorem State.prepareFirst_kept {z0 : State} (s : State) (hs : Kept z0 s) : Kept z0 (State.prepareFirst s) := by
  unfold State.prepareFirst
  dsimp only
  (repeat' split) <;> simp +contextual (maxDischargeDepth := 99) [hs]

@[simp] theorem State.solUsed_kept {z0 : State} (s : State) (h : Half) (sol : Solution) (ts : Option TimeSol) (hs : Kept z0
    s) : Kept z0 (State.solUsed s h sol ts) := by
  unfold State.solUsed
  dsimp only
  (repeat' split) <;> simp +contextual (maxDischargeDepth := 99) [hs]

@[simp] theorem State.recLaurel_kept {z0 : State} (s : State) (w h : Half) (c : RecCode) (hs : Kept z0 s) : Kept z0
    (State.recLaurel s w h c) := by
  simp +contextual (maxDischargeDepth := 99) [State.recLaurel, hs]

@[simp] theorem State.quarantine_kept {z0 : State} (s : State) (h : Half) (step cause : Nat) (hs : Kept z0 s) : Kept z0
    (State.quarantine s h step cause) := by
  simp +contextual (maxDischargeDepth := 99) [State.quarantine, hs]

@[simp] theorem State.pathCheck_kept {z0 : State} (s : State) (p : Fin 2) (own other : List Bool) (hs : Kept z0 s) : Kept z0
    (State.pathCheck s p own other) := by
  simp +contextual (maxDischargeDepth := 99) [State.pathCheck, hs]

@[simp] theorem State.noCharge_kept {z0 : State} (s : State) (hs : Kept z0 s) : Kept z0 (State.noCharge s) := by
  simp +contextual (maxDischargeDepth := 99) [State.noCharge, hs]

@[simp] theorem State.declareStop_kept {z0 : State} (s : State) (hs : Kept z0 s) : Kept z0 (State.declareStop s) := by
  simp +contextual (maxDischargeDepth := 99) [State.declareStop, hs]

@[simp] theorem State.makeClaim_kept {z0 : State} (s : State) (h : Half) (hs : Kept z0 s) : Kept z0 (State.makeClaim s h) :=
    by
  simp +contextual (maxDischargeDepth := 99) [State.makeClaim, hs]

@[simp] theorem State.selfFault_kept {z0 : State} (s : State) (h : Half) (cause : Nat) (hs : Kept z0 s) : Kept z0
    (State.selfFault s h cause) := by
  simp +contextual (maxDischargeDepth := 99) [State.selfFault, hs]

@[simp] theorem State.writeToken_kept {z0 : State} (s : State) (h : Half) (e : Epoch) (hs : Kept z0 s) : Kept z0
    (State.writeToken s h e) := by
  simp +contextual (maxDischargeDepth := 99) [State.writeToken, hs]

@[simp] theorem State.claimIf_kept {z0 : State} (s : State) (h : Half) (hs : Kept z0 s) : Kept z0 (State.claimIf s h) := by
  simp +contextual (maxDischargeDepth := 99) [State.claimIf, hs]

@[simp] theorem State.grantTo_kept {z0 : State} (s : State) (h : Half) (e : Epoch) (tie : Bool) (hs : Kept z0 s) : Kept z0
    (State.grantTo s h e tie) := by
  simp +contextual (maxDischargeDepth := 99) [State.grantTo, hs]

@[simp] theorem State.refuseClaim_kept {z0 : State} (s : State) (c : Half × Epoch) (hs : Kept z0 s) : Kept z0
    (State.refuseClaim s c) := by
  unfold State.refuseClaim
  dsimp only
  (repeat' split) <;> first
      | (simp +contextual (maxDischargeDepth := 99) [hs]; done)
      | (rename_i e; have e' := congrArg (fun p => Kept z0 (Prod.snd p)) e; simp +contextual (maxDischargeDepth := 99) [hs] at e'; simp +contextual (maxDischargeDepth := 99) [hs, e']; done)

@[simp] theorem State.sendEpochAdv_kept {z0 : State} (s : State) (hs : Kept z0 s) : Kept z0 (State.sendEpochAdv s) := by
  simp +contextual (maxDischargeDepth := 99) [State.sendEpochAdv, hs]

@[simp] theorem State.repost_kept {z0 : State} (s : State) (n : LaneIx) (hs : Kept z0 s) : Kept z0 (State.repost s n) := by
  simp +contextual (maxDischargeDepth := 99) [State.repost, hs]

@[simp] theorem State.sendCtrl_kept {z0 : State} (s : State) (typ : Nat) (hs : Kept z0 s) : Kept z0 (State.sendCtrl s typ)
    := by
  simp +contextual (maxDischargeDepth := 99) [State.sendCtrl, hs]

@[simp] theorem State.lateCtrl_kept {z0 : State} (s : State) (hs : Kept z0 s) : Kept z0 (State.lateCtrl s) := by
  simp +contextual (maxDischargeDepth := 99) [State.lateCtrl, hs]

@[simp] theorem State.handover_kept {z0 : State} (s : State) (hs : Kept z0 s) : Kept z0 (State.handover s) := by
  unfold State.handover
  dsimp only
  (repeat' split) <;> simp +contextual (maxDischargeDepth := 99) [hs]

@[simp] theorem State.applyIdent_kept {z0 : State} (s : State) (step result : Nat) (hs : Kept z0 s) : Kept z0
    (State.applyIdent s step result) := by
  simp +contextual (maxDischargeDepth := 99) [State.applyIdent, hs]

@[simp] theorem State.katFail_kept {z0 : State} (s : State) (h : Half) (hs : Kept z0 s) : Kept z0 (State.katFail s h) := by
  simp +contextual (maxDischargeDepth := 99) [State.katFail, hs]

@[simp] theorem State.kat_kept {z0 : State} (s : State) (okA okB : Bool) (hs : Kept z0 s) : Kept z0 (State.kat s okA okB) :=
    by
  simp +contextual (maxDischargeDepth := 99) [State.kat, hs]

@[simp] theorem State.rejoin_kept {z0 : State} (s : State) (h : Half) (hs : Kept z0 s) : Kept z0 (State.rejoin s h) := by
  simp +contextual (maxDischargeDepth := 99) [State.rejoin, hs]

@[simp] theorem State.bootRoles_kept {z0 : State} (s : State) (okA okB : Bool) (hs : Kept z0 s) : Kept z0 (State.bootRoles s
    okA okB) := by
  simp +contextual (maxDischargeDepth := 99) [State.bootRoles, hs]

end Sys2Proof.Machine
end

