-- ==== Sys2Proof/Laws/KeptHost.lean ====
section
/-! SUPPORT. What the operations of the host port, register accesses, start-up, sealing, fences and ring reception keep (Kept.lean says what is kept). -/
set_option maxRecDepth 4000
set_option linter.unusedSimpArgs false
set_option linter.unusedVariables false
namespace Sys2Proof.Machine

@[simp] theorem State.holdPages_kept {z0 : State} (s : State) (n : LaneIx) (hs : Kept z0 s) : Kept z0 (State.holdPages s n)
    := by
  simp +contextual (maxDischargeDepth := 99) [State.holdPages, hs]

@[simp] theorem State.setFenceBit_kept {z0 : State} (s : State) (n : LaneIx) (b : Bool) (hs : Kept z0 s) : Kept z0
    (State.setFenceBit s n b) := by
  simp +contextual (maxDischargeDepth := 99) [State.setFenceBit, hs]

@[simp] theorem State.fenceReport_kept {z0 : State} (s : State) (n : LaneIx) (cause : FenceCause) (hs : Kept z0 s) : Kept z0
    (State.fenceReport s n cause) := by
  simp +contextual (maxDischargeDepth := 99) [State.fenceReport, hs]

@[simp] theorem State.fenceNow_kept {z0 : State} (s : State) (n : LaneIx) (cause : FenceCause) (hs : Kept z0 s) : Kept z0
    (State.fenceNow s n cause) := by
  simp +contextual (maxDischargeDepth := 99) [State.fenceNow, hs]

@[simp] theorem State.unfence_kept {z0 : State} (s : State) (n : LaneIx) (hs : Kept z0 s) : Kept z0 (State.unfence s n) :=
    by
  simp +contextual (maxDischargeDepth := 99) [State.unfence, hs]

@[simp] theorem State.staysFenced_kept {z0 : State} (s : State) (n : LaneIx) (hs : Kept z0 s) : Kept z0 (State.staysFenced s
    n) := by
  simp +contextual (maxDischargeDepth := 99) [State.staysFenced, hs]

@[simp] theorem State.settleSafe_kept {z0 : State} (s : State) (hs : Kept z0 s) : Kept z0 (State.settleSafe s) := by
  simp +contextual (maxDischargeDepth := 99) [State.settleSafe, hs]

@[simp] theorem State.releaseSafe_kept {z0 : State} (s : State) (hs : Kept z0 s) : Kept z0 (State.releaseSafe s) := by
  simp +contextual (maxDischargeDepth := 99) [State.releaseSafe, hs]

@[simp] theorem State.writeFence_kept {z0 : State} (s : State) (v : Nat) (hs : Kept z0 s) : Kept z0 (State.writeFence s v)
    := by
  simp +contextual (maxDischargeDepth := 99) [State.writeFence, hs]

@[simp] theorem State.sealStat_kept {z0 : State} (s : State) (result cause page off : Nat) (hs : Kept z0 s) : Kept z0
    (State.sealStat s result cause page off) := by
  simp +contextual (maxDischargeDepth := 99) [State.sealStat, hs]

@[simp] theorem State.sealFailed_kept {z0 : State} (s : State) (cause page off : Nat) (hs : Kept z0 s) : Kept z0
    (State.sealFailed s cause page off) := by
  simp +contextual (maxDischargeDepth := 99) [State.sealFailed, hs]

@[simp] theorem State.pageCrcs_kept {z0 : State} (s : State) (snap : State) (hs : Kept z0 s) : Kept z0 (State.pageCrcs s
    snap) := by
  simp +contextual (maxDischargeDepth := 99) [State.pageCrcs, hs]

@[simp] theorem State.sealEffects_kept {z0 : State} (s : State) (leave : LaneIx → Bool) (retrain : BitVec 16) (hs : Kept z0
    s) : Kept z0 (State.sealEffects s leave retrain) := by
  simp +contextual (maxDischargeDepth := 99) [State.sealEffects, hs]

@[simp] theorem State.sealPassed_kept {z0 : State} (s : State) (leave : LaneIx → Bool) (retrain : BitVec 16) (hs : Kept z0
    s) : Kept z0 (State.sealPassed s leave retrain) := by
  simp +contextual (maxDischargeDepth := 99) [State.sealPassed, hs]

@[simp] theorem State.writeSeal_kept {z0 : State} (s : State) (crc : Word) (hs : Kept z0 s) : Kept z0 (State.writeSeal s
    crc) := by
  unfold State.writeSeal
  dsimp only
  (repeat' split) <;> simp +contextual (maxDischargeDepth := 99) [hs]

@[simp] theorem State.writeFields_kept {z0 : State} (s : State) (p : Nat) (d : RegDef) (o : Nat) (v : Word) (hs : Kept z0 s)
    : Kept z0 (State.writeFields s p d o v) := by
  simp +contextual (maxDischargeDepth := 99) [State.writeFields, hs]

@[simp] theorem State.cfgSide_kept {z0 : State} (s : State) (k : PageKind) (i o : Nat) (was : Nat) (hs : Kept z0 s) : Kept
    z0 (State.cfgSide s k i o was) := by
  simp +contextual (maxDischargeDepth := 99) [State.cfgSide, hs]

@[simp] theorem State.writeCfg_kept {z0 : State} (s : State) (p : Nat) (k : PageKind) (i o : Nat) (v : Word) (hs : Kept z0
    s) : Kept z0 (State.writeCfg s p k i o v).1 := by
  unfold State.writeCfg
  (repeat' split) <;> simp_all +contextual (maxDischargeDepth := 99)

@[simp] theorem State.applyRec_kept {z0 : State} (s : State) (r : CfgRec) (hs : Kept z0 s) : Kept z0 (s.applyRec r) := by
  unfold State.applyRec
  split
  · exact hs
  · exact foldl_fst_kept _ _ _ hs (fun w x hw => State.writeCfg_kept _ _ _ _ _ _ hw)

@[simp] theorem State.clear_kept {z0 : State} (s : State) (hs : Kept z0 s) : Kept z0 s.clear := by
  have k1 : KDev z0 DevState.reset := fun e => by simp at e
  have k2 : KRegs z0 [] := fun _ => rfl
  have k3 : KFrozen z0 [] := fun _ => rfl
  have k4 : KHeld z0 [] := fun _ => rfl
  have k5 : KFirst z0 [] := fun _ => rfl
  have k6 : KCfg z0 [] := fun _ => rfl
  unfold State.clear
  dsimp only [State.reset]
  simp +contextual (maxDischargeDepth := 99) [hs, k1, k2, k3, k4, k5, k6]

@[simp] theorem State.clocksOk_kept {z0 : State} (s : State) (hs : Kept z0 s) : Kept z0 (State.clocksOk s) := by
  simp +contextual (maxDischargeDepth := 99) [State.clocksOk, hs]

@[simp] theorem State.enterBoot_kept {z0 : State} (s : State) (straps lockUs : Nat) (hs : Kept z0 s) : Kept z0
    (State.enterBoot s straps lockUs) := by
  simp +contextual (maxDischargeDepth := 99) [State.enterBoot, hs]

@[simp] theorem State.softReset_kept {z0 : State} (s : State) (hs : Kept z0 s) : Kept z0 (State.softReset s) := by
  simp +contextual (maxDischargeDepth := 99) [State.softReset, hs]

@[simp] theorem State.refuseRun_kept {z0 : State} (s : State) (hs : Kept z0 s) : Kept z0 (State.refuseRun s) := by
  simp +contextual (maxDischargeDepth := 99) [State.refuseRun, hs]

@[simp] theorem State.bootHalves_kept {z0 : State} (s : State) (okA okB : Bool) (hs : Kept z0 s) : Kept z0 (State.bootHalves
    s okA okB) := by
  simp +contextual (maxDischargeDepth := 99) [State.bootHalves, hs]

@[simp] theorem State.bootLanes_kept {z0 : State} (s : State) (r : BootResult) (hs : Kept z0 s) : Kept z0 (State.bootLanes s
    r) := by
  simp +contextual (maxDischargeDepth := 99) [State.bootLanes, hs]

@[simp] theorem State.repairDir_kept {z0 : State} (s : State) (i : Nat) (d : Dir399) (hs : Kept z0 s) : Kept z0
    (State.repairDir s i d) := by
  simp +contextual (maxDischargeDepth := 99) [State.repairDir, hs]

@[simp] theorem State.bootNor_kept {z0 : State} (s : State) (r : BootResult) (hs : Kept z0 s) : Kept z0 (State.bootNor s r)
    := by
  unfold State.bootNor
  dsimp only
  (repeat' split) <;> simp +contextual (maxDischargeDepth := 99) [hs]

@[simp] theorem State.bootPatch_kept {z0 : State} (s : State) (hs : Kept z0 s) : Kept z0 (State.bootPatch s) := by
  simp +contextual (maxDischargeDepth := 99) [State.bootPatch, hs]

@[simp] theorem State.imageBad_kept {z0 : State} (s : State) (k : Nat) (hs : Kept z0 s) : Kept z0 (State.imageBad s k) := by
  simp +contextual (maxDischargeDepth := 99) [State.imageBad, hs]

@[simp] theorem State.imageSeal_kept {z0 : State} (s : State) (crc : Word) (hs : Kept z0 s) : Kept z0 (State.imageSeal s
    crc) := by
  unfold State.imageSeal
  dsimp only
  (repeat' split) <;> simp +contextual (maxDischargeDepth := 99) [hs]

@[simp] theorem State.bootImage_kept {z0 : State} (s : State) (hs : Kept z0 s) : Kept z0 (State.bootImage s) := by
  unfold State.bootImage
  dsimp only
  (repeat' split) <;> simp +contextual (maxDischargeDepth := 99) [hs]

@[simp] theorem State.bootPfail_kept {z0 : State} (s : State) (hs : Kept z0 s) : Kept z0 (State.bootPfail s) := by
  simp +contextual (maxDischargeDepth := 99) [State.bootPfail, hs]

@[simp] theorem State.bootToken_kept {z0 : State} (s : State) (r : BootResult) (hs : Kept z0 s) : Kept z0 (State.bootToken s
    r) := by
  simp +contextual (maxDischargeDepth := 99) [State.bootToken, hs]

@[simp] theorem State.bootExit_kept {z0 : State} (s : State) (r : BootResult) (hs : Kept z0 s) : Kept z0 (State.bootExit s
    r) := by
  unfold State.bootExit
  dsimp only
  (repeat' split) <;> simp +contextual (maxDischargeDepth := 99) [hs]

@[simp] theorem State.arm_kept {z0 : State} (s : State) (hs : Kept z0 s) : Kept z0 (State.arm s) := by
  unfold State.arm
  dsimp only
  (repeat' split) <;> simp +contextual (maxDischargeDepth := 99) [hs]

@[simp] theorem State.disarm_kept {z0 : State} (s : State) (hs : Kept z0 s) : Kept z0 (State.disarm s) := by
  simp +contextual (maxDischargeDepth := 99) [State.disarm, hs]

@[simp] theorem State.unseal_kept {z0 : State} (s : State) (hs : Kept z0 s) : Kept z0 (State.unseal s) := by
  simp +contextual (maxDischargeDepth := 99) [State.unseal, hs]

@[simp] theorem State.standby_kept {z0 : State} (s : State) (hs : Kept z0 s) : Kept z0 (State.standby s) := by
  simp +contextual (maxDischargeDepth := 99) [State.standby, hs]

@[simp] theorem State.wake_kept {z0 : State} (s : State) (hs : Kept z0 s) : Kept z0 s.wake := by
  unfold State.wake
  split
  · simp +contextual (maxDischargeDepth := 99) [hs]
  · exact State.refuseRun_kept s hs

@[simp] theorem State.runCtrl_kept {z0 : State} (s : State) (v : Nat) (hs : Kept z0 s) : Kept z0 (State.runCtrl s v) := by
  simp +contextual (maxDischargeDepth := 99) [State.runCtrl, hs]

@[simp] theorem State.abandonSeal_kept {z0 : State} (s : State) (hs : Kept z0 s) : Kept z0 (State.abandonSeal s) := by
  simp +contextual (maxDischargeDepth := 99) [State.abandonSeal, hs]

@[simp] theorem State.hirqSettle_kept {z0 : State} (s : State) (hs : Kept z0 s) : Kept z0 (State.hirqSettle s) := by
  simp +contextual (maxDischargeDepth := 99) [State.hirqSettle, hs]

@[simp] theorem State.flushItems_kept {z0 : State} (k : Nat) (s : State) (q : Nat) (hs : Kept z0 s) : Kept z0
    (State.flushItems k s q) := by
  induction k generalizing s with
  | zero => simp +contextual (maxDischargeDepth := 99) [State.flushItems, hs]
  | succ n ih =>
    unfold State.flushItems
    try dsimp only
    (repeat' split) <;> first
        | (simp +contextual (maxDischargeDepth := 99) [hs]; done)
        | (apply ih; simp +contextual (maxDischargeDepth := 99) [hs]; done)
        | (simp +contextual (maxDischargeDepth := 99) [hs, ih]; done)
        | (simp +contextual (maxDischargeDepth := 99) [*]; done)
        | (rename_i e; have e' := congrArg (fun p => Kept z0 (Prod.snd p)) e; simp +contextual (maxDischargeDepth := 99) [hs, ih] at e'; first | (apply ih; simp +contextual (maxDischargeDepth := 99) [hs, e']; done) | (simp +contextual (maxDischargeDepth := 99) [hs, ih, e']; done))

@[simp] theorem State.flushTaken_kept {z0 : State} (s : State) (q : Nat) (hs : Kept z0 s) : Kept z0 (State.flushTaken s q)
    := by
  unfold State.flushTaken
  (repeat' split) <;> simp_all +contextual (maxDischargeDepth := 99)

@[simp] theorem State.discardItems_kept {z0 : State} (k : Nat) (s : State) (q : Nat) (hs : Kept z0 s) : Kept z0
    (State.discardItems k s q) := by
  induction k generalizing s with
  | zero => simp +contextual (maxDischargeDepth := 99) [State.discardItems, hs]
  | succ n ih =>
    unfold State.discardItems
    try dsimp only
    (repeat' split) <;> first
        | (simp +contextual (maxDischargeDepth := 99) [hs]; done)
        | (apply ih; simp +contextual (maxDischargeDepth := 99) [hs]; done)
        | (simp +contextual (maxDischargeDepth := 99) [hs, ih]; done)
        | (simp +contextual (maxDischargeDepth := 99) [*]; done)
        | (rename_i e; have e' := congrArg (fun p => Kept z0 (Prod.snd p)) e; simp +contextual (maxDischargeDepth := 99) [hs, ih] at e'; first | (apply ih; simp +contextual (maxDischargeDepth := 99) [hs, e']; done) | (simp +contextual (maxDischargeDepth := 99) [hs, ih, e']; done))

@[simp] theorem State.flushQ_kept {z0 : State} (s : State) (q : Nat) (hs : Kept z0 s) : Kept z0 (State.flushQ s q) := by
  simp +contextual (maxDischargeDepth := 99) [State.flushQ, hs]

@[simp] theorem State.flushMask_kept {z0 : State} (s : State) (v : Nat) (hs : Kept z0 s) : Kept z0 (State.flushMask s v) :=
    by
  simp +contextual (maxDischargeDepth := 99) [State.flushMask, hs]

@[simp] theorem State.hostDrain_kept {z0 : State} (s : State) (hs : Kept z0 s) : Kept z0 (State.hostDrain s) := by
  simp +contextual (maxDischargeDepth := 99) [State.hostDrain, hs]

@[simp] theorem State.tunGo_kept {z0 : State} (s : State) (v : Nat) (hs : Kept z0 s) : Kept z0 (State.tunGo s v) := by
  simp +contextual (maxDischargeDepth := 99) [State.tunGo, hs]

@[simp] theorem State.pageStop_kept {z0 : State} (s : State) (k : PageKind) (i : Nat) (hs : Kept z0 s) : Kept z0
    (State.pageStop s k i) := by
  unfold State.pageStop
  dsimp only
  (repeat' split) <;> simp +contextual (maxDischargeDepth := 99) [hs]

@[simp] theorem State.pageStart_kept {z0 : State} (s : State) (k : PageKind) (i : Nat) (hs : Kept z0 s) : Kept z0
    (State.pageStart s k i) := by
  unfold State.pageStart
  dsimp only
  (repeat' split) <;> simp +contextual (maxDischargeDepth := 99) [hs]

@[simp] theorem State.writeEn_kept {z0 : State} (s : State) (p : Nat) (k : PageKind) (i : Nat) (want : Bool) (hs : Kept z0
    s) : Kept z0 (State.writeEn s p k i want) := by
  simp +contextual (maxDischargeDepth := 99) [State.writeEn, hs]

@[simp] theorem State.softReg_kept {z0 : State} (p : Nat) (d : RegDef) (s : State) (hs : Kept z0 s) :
    Kept z0 (State.softReg p d s) := by
  unfold State.softReg
  split
  · exact hs
  · exact overList_kept _ _ hs (fun o w hw => State.clearBits_kept w _ _ hw)

@[simp] theorem State.softCounters_kept {z0 : State} (s : State) (k : PageKind) (hs : Kept z0 s) : Kept z0
    (State.softCounters s k) := by
  unfold State.softCounters
  (repeat' split) <;> simp_all +contextual (maxDischargeDepth := 99)

@[simp] theorem State.softClear_kept {z0 : State} (s : State) (p : Nat) (k : PageKind) (hs : Kept z0 s) : Kept z0
    (State.softClear s p k) := by
  simp +contextual (maxDischargeDepth := 99) [State.softClear, hs]

@[simp] theorem State.writeFreeze_kept {z0 : State} (s : State) (p : Nat) (k : PageKind) (i : Nat) (on : Bool) (hs : Kept z0
    s) : Kept z0 (State.writeFreeze s p k i on) := by
  simp +contextual (maxDischargeDepth := 99) [State.writeFreeze, hs]

@[simp] theorem State.writeCtrl_kept {z0 : State} (s : State) (p : Nat) (k : PageKind) (i v : Nat) (hs : Kept z0 s) : Kept
    z0 (State.writeCtrl s p k i v) := by
  simp +contextual (maxDischargeDepth := 99) [State.writeCtrl, hs]

@[simp] theorem State.settlePage_kept {z0 : State} (s : State) (k : PageKind) (i : Nat) (hs : Kept z0 s) : Kept z0
    (State.settlePage s k i) := by
  unfold State.settlePage
  dsimp only
  (repeat' split) <;> simp +contextual (maxDischargeDepth := 99) [hs]

@[simp] theorem State.latchWords_kept {z0 : State} (s : State) (a : Nat) (ws : List Word) (hs : Kept z0 s) :
    Kept z0 (s.latchWords a ws) := by
  unfold State.latchWords
  exact foldl_fst_kept _ _ _ hs (fun w x hw => State.setReg_kept hw _ _)

@[simp] theorem State.readBlock_kept {z0 : State} (s : State) (k : PageKind) (i o : Nat) (w : Word) (hs : Kept z0 s) : Kept
    z0 (State.readBlock s k i o w) := by
  unfold State.readBlock
  (repeat' split) <;> simp_all +contextual (maxDischargeDepth := 99)

@[simp] theorem State.readSide_kept {z0 : State} (s : State) (p : Nat) (k : PageKind) (i o : Nat) (d : RegDef) (w : Word)
    (hs : Kept z0 s) : Kept z0 (State.readSide s p k i o d w) := by
  simp +contextual (maxDischargeDepth := 99) [State.readSide, hs]

@[simp] theorem State.hostRead_kept {z0 : State} (s : State) (a : Nat) (hs : Kept z0 s) : Kept z0 (State.hostRead s a).2 :=
    by
  unfold State.hostRead
  dsimp only
  (repeat' split) <;> simp +contextual (maxDischargeDepth := 99) [hs]

@[simp] theorem State.writeHdr_kept {z0 : State} (s : State) (p o : Nat) (d : RegDef) (v : Word) (hs : Kept z0 s) : Kept z0
    (State.writeHdr s p o d v) := by
  simp +contextual (maxDischargeDepth := 99) [State.writeHdr, hs]

@[simp] theorem State.writeQmask_kept {z0 : State} (s : State) (v : Word) (hs : Kept z0 s) : Kept z0 (State.writeQmask s v)
    := by
  simp +contextual (maxDischargeDepth := 99) [State.writeQmask, hs]

@[simp] theorem State.writeLaurel_kept {z0 : State} (s : State) (v : Nat) (hs : Kept z0 s) : Kept z0 (State.writeLaurel s v)
    := by
  simp +contextual (maxDischargeDepth := 99) [State.writeLaurel, hs]

@[simp] theorem State.writeEng_kept {z0 : State} (s : State) (n : LaneIx) (v : Nat) (hs : Kept z0 s) : Kept z0
    (State.writeEng s n v) := by
  simp +contextual (maxDischargeDepth := 99) [State.writeEng, hs]

@[simp] theorem State.writeWin_kept {z0 : State} (s : State) (v : Nat) (hs : Kept z0 s) : Kept z0 (State.writeWin s v) := by
  simp +contextual (maxDischargeDepth := 99) [State.writeWin, hs]

@[simp] theorem State.writeTbl_kept {z0 : State} (s : State) (x : Nat) (v : Word) (hs : Kept z0 s) : Kept z0 (State.writeTbl
    s x v) := by
  simp +contextual (maxDischargeDepth := 99) [State.writeTbl, hs]

@[simp] theorem State.writeCode_kept {z0 : State} (s : State) (v : Word) (hs : Kept z0 s) : Kept z0 (State.writeCode s v) :=
    by
  simp +contextual (maxDischargeDepth := 99) [State.writeCode, hs]

@[simp] theorem State.writeRing_kept {z0 : State} (s : State) (v : Nat) (hs : Kept z0 s) : Kept z0 (State.writeRing s v) :=
    by
  simp +contextual (maxDischargeDepth := 99) [State.writeRing, hs]

@[simp] theorem State.writePwmg_kept {z0 : State} (s : State) (n : LaneIx) (d : RegDef) (o : Nat) (v : Word) (hs : Kept z0
    s) : Kept z0 (State.writePwmg s n d o v) := by
  simp +contextual (maxDischargeDepth := 99) [State.writePwmg, hs]

@[simp] theorem State.writeRun_kept {z0 : State} (s : State) (p : Nat) (k : PageKind) (i : Nat) (d : RegDef) (o : Nat) (v :
    Word) (hs : Kept z0 s) : Kept z0 (State.writeRun s p k i d o v) := by
  unfold State.writeRun
  dsimp only
  (repeat' split) <;> simp +contextual (maxDischargeDepth := 99) [hs]

@[simp] theorem State.hostWord_kept {z0 : State} (s : State) (a : Nat) (v : Word) (hs : Kept z0 s) : Kept z0 (State.hostWord
    s a v).1 := by
  unfold State.hostWord
  dsimp only
  (repeat' split) <;> simp +contextual (maxDischargeDepth := 99) [hs]

@[simp] theorem State.hostWrite_kept {z0 : State} (s : State) (a : Nat) (v : Word) (hs : Kept z0 s) : Kept z0
    (State.hostWrite s a v) := by
  simp +contextual (maxDischargeDepth := 99) [State.hostWrite, hs]

@[simp] theorem State.rowWrite_kept {z0 : State} (s : State) (a : Nat) (v : Word) (hs : Kept z0 s) : Kept z0 (State.rowWrite
    s a v) := by
  simp +contextual (maxDischargeDepth := 99) [State.rowWrite, hs]

@[simp] theorem State.rowRead_kept {z0 : State} (s : State) (a : Nat) (hs : Kept z0 s) : Kept z0 (State.rowRead s a) := by
  simp +contextual (maxDischargeDepth := 99) [State.rowRead, hs]

@[simp] theorem State.drive_kept {z0 : State} (s : State) (bs : List Byte) (hs : Kept z0 s) : Kept z0 (State.drive s bs) :=
    by
  simp +contextual (maxDischargeDepth := 99) [State.drive, hs]

@[simp] theorem State.answer_kept {z0 : State} (s : State) (a : Ack) (cmd q : Nat) (hs : Kept z0 s) : Kept z0 (State.answer
    s a cmd q) := by
  unfold State.answer
  dsimp only
  (repeat' split) <;> simp +contextual (maxDischargeDepth := 99) [hs]

@[simp] theorem State.cutShort_kept {z0 : State} (s : State) (hs : Kept z0 s) : Kept z0 (State.cutShort s) := by
  simp +contextual (maxDischargeDepth := 99) [State.cutShort, hs]

@[simp] theorem State.readRun_kept {z0 : State} (k : Nat) (s : State) (a step : Nat) (hs : Kept z0 s) : Kept z0
    (State.readRun k s a step).2 := by
  induction k generalizing s a with
  | zero => simp +contextual (maxDischargeDepth := 99) [State.readRun, hs]
  | succ n ih =>
    unfold State.readRun
    try dsimp only
    (repeat' split) <;> first
        | (simp +contextual (maxDischargeDepth := 99) [hs]; done)
        | (apply ih; simp +contextual (maxDischargeDepth := 99) [hs]; done)
        | (simp +contextual (maxDischargeDepth := 99) [hs, ih]; done)
        | (simp +contextual (maxDischargeDepth := 99) [*]; done)
        | (rename_i e; have e' := congrArg (fun p => Kept z0 (Prod.snd p)) e; simp +contextual (maxDischargeDepth := 99) [hs, ih] at e'; first | (apply ih; simp +contextual (maxDischargeDepth := 99) [hs, e']; done) | (simp +contextual (maxDischargeDepth := 99) [hs, ih, e']; done))

@[simp] theorem State.regRead_kept {z0 : State} (s : State) (code addr n : Nat) (ready fixed : Bool) (hs : Kept z0 s) : Kept
    z0 (State.regRead s code addr n ready fixed) := by
  simp +contextual (maxDischargeDepth := 99) [State.regRead, hs]

@[simp] theorem State.nextCycle_kept {z0 : State} (s : State) (hs : Kept z0 s) : Kept z0 (State.nextCycle s) := by
  simp +contextual (maxDischargeDepth := 99) [State.nextCycle, hs]

@[simp] theorem State.writeWords_kept {z0 : State} (ws : List Word) (s : State) (a step : Nat) (hs : Kept z0 s) : Kept z0
    (State.writeWords ws s a step) := by
  induction ws generalizing s a with
  | nil => simp +contextual (maxDischargeDepth := 99) [State.writeWords, hs]
  | cons a l ih =>
    unfold State.writeWords
    try dsimp only
    (repeat' split) <;> first
        | (simp +contextual (maxDischargeDepth := 99) [hs]; done)
        | (apply ih; simp +contextual (maxDischargeDepth := 99) [hs]; done)
        | (simp +contextual (maxDischargeDepth := 99) [hs, ih]; done)
        | (simp +contextual (maxDischargeDepth := 99) [*]; done)
        | (rename_i e; have e' := congrArg (fun p => Kept z0 (Prod.snd p)) e; simp +contextual (maxDischargeDepth := 99) [hs, ih] at e'; first | (apply ih; simp +contextual (maxDischargeDepth := 99) [hs, e']; done) | (simp +contextual (maxDischargeDepth := 99) [hs, ih, e']; done))

@[simp] theorem State.regWrite_kept {z0 : State} (s : State) (code addr : Nat) (ws : List Word) (crc : Option Byte) (fixed :
    Bool) (hs : Kept z0 s) : Kept z0 (State.regWrite s code addr ws crc fixed) := by
  unfold State.regWrite
  (repeat' split) <;> simp_all +contextual (maxDischargeDepth := 99)

@[simp] theorem State.joinQueue_kept {z0 : State} (s : State) (q : Nat) (desc data : List Byte) (hs : Kept z0 s) : Kept z0
    (State.joinQueue s q desc data) := by
  simp +contextual (maxDischargeDepth := 99) [State.joinQueue, hs]

@[simp] theorem State.push_kept {z0 : State} (s : State) (sel : Nat) (desc data : List Byte) (hs : Kept z0 s) : Kept z0
    (State.push s sel desc data).2 := by
  unfold State.push
  dsimp only
  (repeat' split) <;> simp +contextual (maxDischargeDepth := 99) [hs]

@[simp] theorem State.popAck_kept {z0 : State} (s : State) (q : Nat) (ackSeq : BitVec 16) (hs : Kept z0 s) : Kept z0
    (State.popAck s q ackSeq) := by
  unfold State.popAck
  (repeat' split) <;> simp_all +contextual (maxDischargeDepth := 99)

@[simp] theorem State.bulkWords_kept {z0 : State} (ws : List Word) (s : State) (a off : Nat) (lock : Option Nat) (hs : Kept
    z0 s) : Kept z0 (State.bulkWords ws s a off lock).2 := by
  induction ws generalizing s a off lock with
  | nil => simp +contextual (maxDischargeDepth := 99) [State.bulkWords, hs]
  | cons a l ih =>
    unfold State.bulkWords
    try dsimp only
    (repeat' split) <;> first
        | (simp +contextual (maxDischargeDepth := 99) [hs]; done)
        | (apply ih; simp +contextual (maxDischargeDepth := 99) [hs]; done)
        | (simp +contextual (maxDischargeDepth := 99) [hs, ih]; done)
        | (simp +contextual (maxDischargeDepth := 99) [*]; done)
        | (rename_i e; have e' := congrArg (fun p => Kept z0 (Prod.snd p)) e; simp +contextual (maxDischargeDepth := 99) [hs, ih] at e'; first | (apply ih; simp +contextual (maxDischargeDepth := 99) [hs, e']; done) | (simp +contextual (maxDischargeDepth := 99) [hs, ih, e']; done))

@[simp] theorem State.bulkRecs_kept {z0 : State} (k : Nat) (s : State) (bs : List Byte) (off : Nat) (lock : Option Nat) (hs
    : Kept z0 s) : Kept z0 (State.bulkRecs k s bs off lock).2 := by
  induction k generalizing s bs off lock with
  | zero => simp +contextual (maxDischargeDepth := 99) [State.bulkRecs, hs]
  | succ n ih =>
    unfold State.bulkRecs
    try dsimp only
    (repeat' split) <;> first
        | (simp +contextual (maxDischargeDepth := 99) [hs]; done)
        | (apply ih; simp +contextual (maxDischargeDepth := 99) [hs]; done)
        | (simp +contextual (maxDischargeDepth := 99) [hs, ih]; done)
        | (simp +contextual (maxDischargeDepth := 99) [*]; done)
        | (rename_i e; have e' := congrArg (fun p => Kept z0 (Prod.snd p)) e; simp +contextual (maxDischargeDepth := 99) [hs, ih] at e'; first | (apply ih; simp +contextual (maxDischargeDepth := 99) [hs, e']; done) | (simp +contextual (maxDischargeDepth := 99) [hs, ih, e']; done))

@[simp] theorem State.noteLoad_kept {z0 : State} (s : State) (p : Ring) (chars : Nat) (hs : Kept z0 s) : Kept z0
    (State.noteLoad s p chars) := by
  simp +contextual (maxDischargeDepth := 99) [State.noteLoad, hs]

@[simp] theorem State.forward_kept {z0 : State} (s : State) (p : Ring) (f : Frame) (hs : Kept z0 s) : Kept z0 (State.forward
    s p f) := by
  simp +contextual (maxDischargeDepth := 99) [State.forward, hs]

@[simp] theorem State.enumDone_kept {z0 : State} (s : State) (hs : Kept z0 s) : Kept z0 (State.enumDone s) := by
  simp +contextual (maxDischargeDepth := 99) [State.enumDone, hs]

@[simp] theorem State.enumFull_kept {z0 : State} (s : State) (f : Frame) (hs : Kept z0 s) : Kept z0 (State.enumFull s f).2
    := by
  unfold State.enumFull
  dsimp only
  (repeat' split) <;> simp +contextual (maxDischargeDepth := 99) [hs]

@[simp] theorem State.enumClose_kept {z0 : State} (s : State) (f : Frame) (hs : Kept z0 s) : Kept z0 (State.enumClose s f)
    := by
  simp +contextual (maxDischargeDepth := 99) [State.enumClose, hs]

@[simp] theorem State.enumTakeId_kept {z0 : State} (s : State) (f : Frame) (hs : Kept z0 s) : Kept z0 (State.enumTakeId s
    f).2 := by
  unfold State.enumTakeId
  dsimp only
  (repeat' split) <;> simp +contextual (maxDischargeDepth := 99) [hs]

@[simp] theorem State.enumRoot_kept {z0 : State} (s : State) (f : Frame) (hs : Kept z0 s) : Kept z0 (State.enumRoot s f) :=
    by
  unfold State.enumRoot
  dsimp only
  (repeat' split) <;> simp +contextual (maxDischargeDepth := 99) [hs]

@[simp] theorem State.enumRx_kept {z0 : State} (s : State) (f : Frame) (hs : Kept z0 s) : Kept z0 (State.enumRx s f).2 := by
  unfold State.enumRx
  (repeat' split) <;> simp_all +contextual (maxDischargeDepth := 99)

@[simp] theorem State.paceNote_kept {z0 : State} (s : State) (f : Frame) (hs : Kept z0 s) : Kept z0 (State.paceNote s f) :=
    by
  simp +contextual (maxDischargeDepth := 99) [State.paceNote, hs]

@[simp] theorem State.heardFrom_kept {z0 : State} (s : State) (node : Nat) (hs : Kept z0 s) : Kept z0 (State.heardFrom s
    node) := by
  simp +contextual (maxDischargeDepth := 99) [State.heardFrom, hs]

@[simp] theorem State.paceRx_kept {z0 : State} (s : State) (f : Frame) (hs : Kept z0 s) : Kept z0 (State.paceRx s f) := by
  simp +contextual (maxDischargeDepth := 99) [State.paceRx, hs]

@[simp] theorem State.strokeExpect_kept {z0 : State} (s : State) (src : Nat) (v : BitVec 16) (hs : Kept z0 s) : Kept z0
    (State.strokeExpect s src v) := by
  simp +contextual (maxDischargeDepth := 99) [State.strokeExpect, hs]

@[simp] theorem State.strokeRx_kept {z0 : State} (s : State) (f : Frame) (hs : Kept z0 s) : Kept z0 (State.strokeRx s f) :=
    by
  unfold State.strokeRx
  dsimp only
  (repeat' split) <;> simp +contextual (maxDischargeDepth := 99) [hs]

@[simp] theorem State.setRxStream_kept {z0 : State} (s : State) (x : RxStream) (hs : Kept z0 s) : Kept z0 (State.setRxStream
    s x) := by
  simp +contextual (maxDischargeDepth := 99) [State.setRxStream, hs]

@[simp] theorem State.sendAck_kept {z0 : State} (s : State) (f : Frame) (credit : Nat) (expect : BitVec 16) (nak : Bool) (hs
    : Kept z0 s) : Kept z0 (State.sendAck s f credit expect nak) := by
  simp +contextual (maxDischargeDepth := 99) [State.sendAck, hs]

theorem State.bridgeItem_kept {z0 o : State} (s : State) (q : Nat) (tag : BitVec 16) (d : List Byte) (hs : Kept z0 s) (e :
    State.bridgeItem s q tag d = some o) : Kept z0 o := by
  unfold State.bridgeItem at e
  dsimp only at e
  (repeat' split at e) <;> first
      | (simp only [Option.some.injEq, reduceCtorEq] at e; subst e; simp +contextual (maxDischargeDepth := 99) [hs]; done)
      | (simp at e; done)

theorem State.bridgeSeg_kept {z0 o : State} (s : State) (f : Frame) (hs : Kept z0 s) : s.bridgeSeg f = some o → Kept z0 o :=
    by
  unfold State.bridgeSeg
  dsimp only
  (repeat' split) <;> intro e <;> first
    | (simp only [Option.some.injEq] at e; subst e; simp +contextual (maxDischargeDepth := 99) [hs]; done)
    | (simp only [Option.map_eq_some_iff] at e
       obtain ⟨u, hu, rfl⟩ := e
       have k := State.bridgeItem_kept s _ _ _ hs hu
       simp +contextual (maxDischargeDepth := 99) [k])

@[simp] theorem State.tunAnswer_kept {z0 : State} (s : State) (f : Frame) (status n : Nat) (d : List Byte) (hs : Kept z0 s)
    : Kept z0 (State.tunAnswer s f status n d) := by
  simp +contextual (maxDischargeDepth := 99) [State.tunAnswer, hs]

@[simp] theorem State.tunWords_kept {z0 : State} (ws : List Word) (s : State) (a : Nat) (l : Bool) (hs : Kept z0 s) : Kept
    z0 (State.tunWords ws s a l).2 := by
  induction ws generalizing s a l with
  | nil => simp +contextual (maxDischargeDepth := 99) [State.tunWords, hs]
  | cons a l ih =>
    unfold State.tunWords
    try dsimp only
    (repeat' split) <;> first
        | (simp +contextual (maxDischargeDepth := 99) [hs]; done)
        | (apply ih; simp +contextual (maxDischargeDepth := 99) [hs]; done)
        | (simp +contextual (maxDischargeDepth := 99) [hs, ih]; done)
        | (simp +contextual (maxDischargeDepth := 99) [*]; done)
        | (rename_i e; have e' := congrArg (fun p => Kept z0 (Prod.snd p)) e; simp +contextual (maxDischargeDepth := 99) [hs, ih] at e'; first | (apply ih; simp +contextual (maxDischargeDepth := 99) [hs, e']; done) | (simp +contextual (maxDischargeDepth := 99) [hs, ih, e']; done))

@[simp] theorem State.tunServe_kept {z0 : State} (s : State) (f : Frame) (hs : Kept z0 s) : Kept z0 (State.tunServe s f) :=
    by
  simp +contextual (maxDischargeDepth := 99) [State.tunServe, hs]

@[simp] theorem State.tunReply_kept {z0 : State} (s : State) (f : Frame) (hs : Kept z0 s) : Kept z0 (State.tunReply s f) :=
    by
  simp +contextual (maxDischargeDepth := 99) [State.tunReply, hs]

theorem State.deliver_kept {z0 o : State} (s : State) (f : Frame) (hs : Kept z0 s) : s.deliver f = some o → Kept z0 o := by
  unfold State.deliver
  split
  · intro e
    simp only [Option.some.injEq] at e
    subst e
    simp +contextual (maxDischargeDepth := 99) [hs]
  · split
    · exact State.bridgeSeg_kept s f hs
    · have k := State.post_kept s (ingressQ f) 0 (s.ingressItem f) hs
      revert k
      rcases s.post (ingressQ f) 0 (s.ingressItem f) with ⟨b, u⟩
      intro k e
      cases b
      · simp at e
      · simp only [Option.some.injEq] at e
        subst e
        exact k

@[simp] theorem State.streamRx_kept {z0 : State} (s : State) (f : Frame) (hs : Kept z0 s) : Kept z0 (s.streamRx f) := by
  unfold State.streamRx
  dsimp only
  generalize (if f.flag = true then _ else s.rxStream f.src.toNat f.cls) = x
  split
  · split
    · rename_i u e
      have k := State.deliver_kept _ f (State.setRxStream_kept s { x with expect := x.expect + 1, naked := false } hs) e
      simp +contextual (maxDischargeDepth := 99) [k]
    · simp +contextual (maxDischargeDepth := 99) [hs]
  · simp +contextual (maxDischargeDepth := 99) [hs]

@[simp] theorem State.ackRx_kept {z0 : State} (s : State) (f : Frame) (hs : Kept z0 s) : Kept z0 (State.ackRx s f) := by
  simp +contextual (maxDischargeDepth := 99) [State.ackRx, hs]

@[simp] theorem State.copyRx_kept {z0 : State} (s : State) (f : Frame) (hs : Kept z0 s) : Kept z0 (s.copyRx f) := by
  have hu : Kept z0 (s.heardFrom f.src.toNat) := State.heardFrom_kept s _ hs
  have hd : Kept z0 (((s.heardFrom f.src.toNat).deliver f).getD (s.heardFrom f.src.toNat)) := by
    rcases e : (s.heardFrom f.src.toNat).deliver f with _ | o
    · exact hu
    · exact State.deliver_kept _ f hu e
  unfold State.copyRx
  dsimp only
  (repeat' split) <;> simp +contextual (maxDischargeDepth := 99) [hu, hd]

@[simp] theorem State.stripRx_kept {z0 : State} (s : State) (f : Frame) (hs : Kept z0 s) : Kept z0 (State.stripRx s f) := by
  simp +contextual (maxDischargeDepth := 99) [State.stripRx, hs]

@[simp] theorem State.ringRx_kept {z0 : State} (s : State) (p : Ring) (f : Frame) (hs : Kept z0 s) : Kept z0 (State.ringRx s
    p f) := by
  unfold State.ringRx
  dsimp only
  (repeat' split) <;> simp +contextual (maxDischargeDepth := 99) [hs]

@[simp] theorem State.rowRx_kept {z0 : State} (s : State) (p : Ring) (f : Frame) (kind : Bool) (hs : Kept z0 s) : Kept z0
    (State.rowRx s p f kind) := by
  simp +contextual (maxDischargeDepth := 99) [State.rowRx, hs]

end Sys2Proof.Machine
end

