-- ==== Sys2Proof/Laws/KeptExec.lean ====
section
/-! SUPPORT. Every command answers a next state, and what it keeps. -/
set_option maxRecDepth 4000
set_option linter.unusedSimpArgs false
set_option linter.unusedVariables false
namespace Sys2Proof.Machine

theorem execOpenWindowStart_kept (t : Time) (n : LaneIx) (k : OutIx) (s : State) : ∃ u, execOpenWindowStart t n k s = .next
    u ∧ Kept s u := by
  have hs := Kept.refl s
  unfold execOpenWindowStart
  dsimp only
  (repeat' split) <;> exact ⟨_, rfl, by simp +contextual (maxDischargeDepth := 99) [hs]⟩

theorem execOpenWindowEnd_kept (t : Time) (n : LaneIx) (k : OutIx) (s : State) : ∃ u, execOpenWindowEnd t n k s = .next u ∧
    Kept s u := by
  have hs := Kept.refl s
  unfold execOpenWindowEnd
  dsimp only
  (repeat' split) <;> exact ⟨_, rfl, by simp +contextual (maxDischargeDepth := 99) [hs]⟩

theorem execCloseWindowStart_kept (t : Time) (n : LaneIx) (k : OutIx) (s : State) : ∃ u, execCloseWindowStart t n k s =
    .next u ∧ Kept s u := by
  have hs := Kept.refl s
  unfold execCloseWindowStart
  dsimp only
  (repeat' split) <;> exact ⟨_, rfl, by simp +contextual (maxDischargeDepth := 99) [hs]⟩

theorem execCloseWindowEnd_kept (t : Time) (n : LaneIx) (k : OutIx) (s : State) : ∃ u, execCloseWindowEnd t n k s = .next u
    ∧ Kept s u := by
  have hs := Kept.refl s
  unfold execCloseWindowEnd
  dsimp only
  (repeat' split) <;> exact ⟨_, rfl, by simp +contextual (maxDischargeDepth := 99) [hs]⟩

theorem execKinkFound_kept (t : Time) (n : LaneIx) (k : OutIx) (vs : List Sample) (s : State) : ∃ u, execKinkFound t n k vs
    s = .next u ∧ Kept s u := by
  have hs := Kept.refl s
  unfold execKinkFound
  dsimp only
  (repeat' split) <;> exact ⟨_, rfl, by simp +contextual (maxDischargeDepth := 99) [hs]⟩

theorem execRelearn_kept (t : Time) (n : LaneIx) (k : OutIx) (off : Bool) (s : State) : ∃ u, execRelearn t n k off s = .next
    u ∧ Kept s u := by
  have hs := Kept.refl s
  unfold execRelearn
  dsimp only
  (repeat' split) <;> exact ⟨_, rfl, by simp +contextual (maxDischargeDepth := 99) [hs]⟩

theorem execValveStuck_kept (t : Time) (n : LaneIx) (k : OutIx) (s : State) : ∃ u, execValveStuck t n k s = .next u ∧ Kept s
    u := by
  have hs := Kept.refl s
  unfold execValveStuck
  dsimp only
  (repeat' split) <;> exact ⟨_, rfl, by simp +contextual (maxDischargeDepth := 99) [hs]⟩

theorem execCloseFail_kept (t : Time) (n : LaneIx) (k : OutIx) (s : State) : ∃ u, execCloseFail t n k s = .next u ∧ Kept s u
    := by
  have hs := Kept.refl s
  unfold execCloseFail
  dsimp only
  (repeat' split) <;> exact ⟨_, rfl, by simp +contextual (maxDischargeDepth := 99) [hs]⟩

theorem execEstimatedClosing_kept (t : Time) (n : LaneIx) (k : OutIx) (s : State) : ∃ u, execEstimatedClosing t n k s =
    .next u ∧ Kept s u := by
  have hs := Kept.refl s
  unfold execEstimatedClosing
  dsimp only
  (repeat' split) <;> exact ⟨_, rfl, by simp +contextual (maxDischargeDepth := 99) [hs]⟩

theorem execPeakGrant_kept (t : Time) (n : LaneIx) (sm : List Sample) (s : State) : ∃ u, execPeakGrant t n sm s = .next u ∧
    Kept s u := by
  have hs := Kept.refl s
  unfold execPeakGrant
  dsimp only
  (repeat' split) <;> exact ⟨_, rfl, by simp +contextual (maxDischargeDepth := 99) [hs]⟩

theorem execPeakWaitTimeout_kept (t : Time) (n : LaneIx) (k : OutIx) (s : State) : ∃ u, execPeakWaitTimeout t n k s = .next
    u ∧ Kept s u := by
  have hs := Kept.refl s
  unfold execPeakWaitTimeout
  dsimp only
  (repeat' split) <;> exact ⟨_, rfl, by simp +contextual (maxDischargeDepth := 99) [hs]⟩

theorem execPhaseEndCurrent_kept (t : Time) (n : LaneIx) (k : OutIx) (sm : List Sample) (s : State) : ∃ u,
    execPhaseEndCurrent t n k sm s = .next u ∧ Kept s u := by
  have hs := Kept.refl s
  unfold execPhaseEndCurrent
  dsimp only
  (repeat' split) <;> exact ⟨_, rfl, by simp +contextual (maxDischargeDepth := 99) [hs]⟩

theorem execPhaseEndTime_kept (t : Time) (n : LaneIx) (k : OutIx) (sm : List Sample) (s : State) : ∃ u, execPhaseEndTime t n
    k sm s = .next u ∧ Kept s u := by
  have hs := Kept.refl s
  unfold execPhaseEndTime
  dsimp only
  (repeat' split) <;> exact ⟨_, rfl, by simp +contextual (maxDischargeDepth := 99) [hs]⟩

theorem execPeakTmo_kept (t : Time) (n : LaneIx) (k : OutIx) (sm : List Sample) (s : State) : ∃ u, execPeakTmo t n k sm s =
    .next u ∧ Kept s u := by
  have hs := Kept.refl s
  unfold execPeakTmo
  dsimp only
  (repeat' split) <;> exact ⟨_, rfl, by simp +contextual (maxDischargeDepth := 99) [hs]⟩

theorem execChopToggle_kept (t : Time) (n : LaneIx) (k : OutIx) (sm : List Sample) (s : State) : ∃ u, execChopToggle t n k
    sm s = .next u ∧ Kept s u := by
  have hs := Kept.refl s
  unfold execChopToggle
  dsimp only
  (repeat' split) <;> exact ⟨_, rfl, by simp +contextual (maxDischargeDepth := 99) [hs]⟩

theorem execStepDownEnd_kept (t : Time) (n : LaneIx) (k : OutIx) (sm : List Sample) (s : State) : ∃ u, execStepDownEnd t n k
    sm s = .next u ∧ Kept s u := by
  have hs := Kept.refl s
  unfold execStepDownEnd
  dsimp only
  (repeat' split) <;> exact ⟨_, rfl, by simp +contextual (maxDischargeDepth := 99) [hs]⟩

theorem execDecayEnd_kept (t : Time) (n : LaneIx) (k : OutIx) (sm : List Sample) (s : State) : ∃ u, execDecayEnd t n k sm s
    = .next u ∧ Kept s u := by
  have hs := Kept.refl s
  unfold execDecayEnd
  dsimp only
  (repeat' split) <;> exact ⟨_, rfl, by simp +contextual (maxDischargeDepth := 99) [hs]⟩

theorem execDecayTmo_kept (t : Time) (n : LaneIx) (k : OutIx) (sm : List Sample) (s : State) : ∃ u, execDecayTmo t n k sm s
    = .next u ∧ Kept s u := by
  have hs := Kept.refl s
  unfold execDecayTmo
  dsimp only
  (repeat' split) <;> exact ⟨_, rfl, by simp +contextual (maxDischargeDepth := 99) [hs]⟩

theorem execOverCurrent_kept (t : Time) (n : LaneIx) (k : OutIx) (sm : List Sample) (s : State) : ∃ u, execOverCurrent t n k
    sm s = .next u ∧ Kept s u := by
  have hs := Kept.refl s
  unfold execOverCurrent
  dsimp only
  (repeat' split) <;> exact ⟨_, rfl, by simp +contextual (maxDischargeDepth := 99) [hs]⟩

theorem execFaultRetry_kept (t : Time) (n : LaneIx) (k : OutIx) (sm : List Sample) (s : State) : ∃ u, execFaultRetry t n k
    sm s = .next u ∧ Kept s u := by
  have hs := Kept.refl s
  unfold execFaultRetry
  dsimp only
  (repeat' split) <;> exact ⟨_, rfl, by simp +contextual (maxDischargeDepth := 99) [hs]⟩

theorem execFaultClr_kept (t : Time) (n : LaneIx) (v : Byte) (s : State) : ∃ u, execFaultClr t n v s = .next u ∧ Kept s u :=
    by
  have hs := Kept.refl s
  unfold execFaultClr
  dsimp only
  (repeat' split) <;> exact ⟨_, rfl, by simp +contextual (maxDischargeDepth := 99) [hs]⟩

theorem execClampDemote_kept (t : Time) (n : LaneIx) (vb va : BitVec 12) (s : State) : ∃ u, execClampDemote t n vb va s =
    .next u ∧ Kept s u := by
  have hs := Kept.refl s
  unfold execClampDemote
  dsimp only
  (repeat' split) <;> exact ⟨_, rfl, by simp +contextual (maxDischargeDepth := 99) [hs]⟩

theorem execDemotionEnd_kept (t : Time) (n : LaneIx) (vb va : BitVec 12) (s : State) : ∃ u, execDemotionEnd t n vb va s =
    .next u ∧ Kept s u := by
  have hs := Kept.refl s
  unfold execDemotionEnd
  dsimp only
  (repeat' split) <;> exact ⟨_, rfl, by simp +contextual (maxDischargeDepth := 99) [hs]⟩

theorem execVbstNotReady_kept (t : Time) (n : LaneIx) (vb va : BitVec 12) (s : State) : ∃ u, execVbstNotReady t n vb va s =
    .next u ∧ Kept s u := by
  have hs := Kept.refl s
  unfold execVbstNotReady
  dsimp only
  (repeat' split) <;> exact ⟨_, rfl, by simp +contextual (maxDischargeDepth := 99) [hs]⟩

theorem execVbstReady_kept (t : Time) (n : LaneIx) (vb va : BitVec 12) (s : State) : ∃ u, execVbstReady t n vb va s = .next
    u ∧ Kept s u := by
  have hs := Kept.refl s
  unfold execVbstReady
  dsimp only
  (repeat' split) <;> exact ⟨_, rfl, by simp +contextual (maxDischargeDepth := 99) [hs]⟩

theorem execGridOpening_kept (t : Time) (n : LaneIx) (k : OutIx) (sm : List Sample) (s : State) : ∃ u, execGridOpening t n k
    sm s = .next u ∧ Kept s u := by
  have hs := Kept.refl s
  unfold execGridOpening
  dsimp only
  (repeat' split) <;> exact ⟨_, rfl, by simp +contextual (maxDischargeDepth := 99) [hs]⟩

theorem execPulseClose_kept (t : Time) (n : LaneIx) (k : OutIx) (sm : List Sample) (s : State) : ∃ u, execPulseClose t n k
    sm s = .next u ∧ Kept s u := by
  have hs := Kept.refl s
  unfold execPulseClose
  dsimp only
  (repeat' split) <;> exact ⟨_, rfl, by simp +contextual (maxDischargeDepth := 99) [hs]⟩

theorem execPropPeriod_kept (t : Time) (n : LaneIx) (k : OutIx) (sm : List Sample) (s : State) : ∃ u, execPropPeriod t n k
    sm s = .next u ∧ Kept s u := by
  have hs := Kept.refl s
  unfold execPropPeriod
  dsimp only
  (repeat' split) <;> exact ⟨_, rfl, by simp +contextual (maxDischargeDepth := 99) [hs]⟩

theorem execDipConfirmed_kept (t : Time) (n : LaneIx) (k : OutIx) (sm : List Sample) (s : State) : ∃ u, execDipConfirmed t n
    k sm s = .next u ∧ Kept s u := by
  have hs := Kept.refl s
  unfold execDipConfirmed
  dsimp only
  (repeat' split) <;> exact ⟨_, rfl, by simp +contextual (maxDischargeDepth := 99) [hs]⟩

theorem execReload_kept (t : Time) (n : LaneIx) (g : Fin 4) (s : State) : ∃ u, execReload t n g s = .next u ∧ Kept s u := by
  have hs := Kept.refl s
  exact ⟨_, rfl, by simp +contextual (maxDischargeDepth := 99) [hs]⟩

theorem execGCmpWrite_kept (t : Time) (n : LaneIx) (g : Fin 4) (v : Word) (s : State) : ∃ u, execGCmpWrite t n g v s = .next
    u ∧ Kept s u := by
  have hs := Kept.refl s
  unfold execGCmpWrite
  dsimp only
  (repeat' split) <;> exact ⟨_, rfl, by simp +contextual (maxDischargeDepth := 99) [hs]⟩

theorem execGPerWrite_kept (t : Time) (n : LaneIx) (g : Fin 4) (v : Word) (s : State) : ∃ u, execGPerWrite t n g v s = .next
    u ∧ Kept s u := by
  have hs := Kept.refl s
  unfold execGPerWrite
  dsimp only
  (repeat' split) <;> exact ⟨_, rfl, by simp +contextual (maxDischargeDepth := 99) [hs]⟩

theorem execCommit_kept (t : Time) (n : LaneIx) (v : BitVec 4) (s : State) : ∃ u, execCommit t n v s = .next u ∧ Kept s u :=
    by
  have hs := Kept.refl s
  unfold execCommit
  dsimp only
  (repeat' split) <;> exact ⟨_, rfl, by simp +contextual (maxDischargeDepth := 99) [hs]⟩

theorem execGModeWrite_kept (t : Time) (n : LaneIx) (g : Fin 4) (v : Word) (s : State) : ∃ u, execGModeWrite t n g v s =
    .next u ∧ Kept s u := by
  have hs := Kept.refl s
  unfold execGModeWrite
  dsimp only
  (repeat' split) <;> exact ⟨_, rfl, by simp +contextual (maxDischargeDepth := 99) [hs]⟩

theorem execGeneratorEnable_kept (t : Time) (n : LaneIx) (g : Fin 4) (s : State) : ∃ u, execGeneratorEnable t n g s = .next
    u ∧ Kept s u := by
  have hs := Kept.refl s
  unfold execGeneratorEnable
  dsimp only
  (repeat' split) <;> exact ⟨_, rfl, by simp +contextual (maxDischargeDepth := 99) [hs]⟩

theorem execSyncPulse_kept (t : Time) (src : Option LaneIx) (s : State) : ∃ u, execSyncPulse t src s = .next u ∧ Kept s u :=
    by
  have hs := Kept.refl s
  unfold execSyncPulse
  dsimp only
  (repeat' split) <;> exact ⟨_, rfl, by simp +contextual (maxDischargeDepth := 99) [hs]⟩

theorem execLoopTrigger_kept (t : Time) (n : LaneIx) (ain : List Sample) (isns : List (BitVec 12)) (s : State) : ∃ u,
    execLoopTrigger t n ain isns s = .next u ∧ Kept s u := by
  have hs := Kept.refl s
  unfold execLoopTrigger
  dsimp only
  (repeat' split) <;> exact ⟨_, rfl, by simp +contextual (maxDischargeDepth := 99) [hs]⟩

theorem execCommDrStep_kept (t : Time) (n : LaneIx) (s : State) : ∃ u, execCommDrStep t n s = .next u ∧ Kept s u := by
  have hs := Kept.refl s
  unfold execCommDrStep
  dsimp only
  (repeat' split) <;> exact ⟨_, rfl, by simp +contextual (maxDischargeDepth := 99) [hs]⟩

theorem execLoopSwap_kept (t : Time) (n : LaneIx) (v : BitVec 3) (s : State) : ∃ u, execLoopSwap t n v s = .next u ∧ Kept s
    u := by
  have hs := Kept.refl s
  unfold execLoopSwap
  dsimp only
  (repeat' split) <;> exact ⟨_, rfl, by simp +contextual (maxDischargeDepth := 99) [hs]⟩

theorem execRestart_kept (t : Time) (n : LaneIx) (s : State) : ∃ u, execRestart t n s = .next u ∧ Kept s u := by
  have hs := Kept.refl s
  unfold execRestart
  dsimp only
  (repeat' split) <;> exact ⟨_, rfl, by simp +contextual (maxDischargeDepth := 99) [hs]⟩

theorem execCoefWrite_kept (t : Time) (n : LaneIx) (i : Fin 30) (v : Word) (s : State) : ∃ u, execCoefWrite t n i v s =
    .next u ∧ Kept s u := by
  have hs := Kept.refl s
  unfold execCoefWrite
  dsimp only
  (repeat' split) <;> exact ⟨_, rfl, by simp +contextual (maxDischargeDepth := 99) [hs]⟩

theorem execHallChange_kept (t : Time) (n : LaneIx) (x : Legs) (s : State) : ∃ u, execHallChange t n x s = .next u ∧ Kept s
    u := by
  have hs := Kept.refl s
  unfold execHallChange
  dsimp only
  (repeat' split) <;> exact ⟨_, rfl, by simp +contextual (maxDischargeDepth := 99) [hs]⟩

theorem execPulseEdge_kept (t : Time) (n : LaneIx) (x : Legs) (s : State) : ∃ u, execPulseEdge t n x s = .next u ∧ Kept s u
    := by
  have hs := Kept.refl s
  unfold execPulseEdge
  dsimp only
  (repeat' split) <;> exact ⟨_, rfl, by simp +contextual (maxDischargeDepth := 99) [hs]⟩

theorem execQuadEdge_kept (t : Time) (n : LaneIx) (x : Legs) (s : State) : ∃ u, execQuadEdge t n x s = .next u ∧ Kept s u :=
    by
  have hs := Kept.refl s
  unfold execQuadEdge
  dsimp only
  (repeat' split) <;> exact ⟨_, rfl, by simp +contextual (maxDischargeDepth := 99) [hs]⟩

theorem execIndex_kept (t : Time) (n : LaneIx) (x : Legs) (s : State) : ∃ u, execIndex t n x s = .next u ∧ Kept s u := by
  have hs := Kept.refl s
  unfold execIndex
  dsimp only
  (repeat' split) <;> exact ⟨_, rfl, by simp +contextual (maxDischargeDepth := 99) [hs]⟩

theorem execWireDisagree_kept (t : Time) (n : LaneIx) (c : Fin 3) (hold : Nat) (s : State) : ∃ u, execWireDisagree t n c
    hold s = .next u ∧ Kept s u := by
  have hs := Kept.refl s
  unfold execWireDisagree
  dsimp only
  (repeat' split) <;> exact ⟨_, rfl, by simp +contextual (maxDischargeDepth := 99) [hs]⟩

theorem execWireDisagreeEnd_kept (t : Time) (n : LaneIx) (c : Fin 3) (s : State) : ∃ u, execWireDisagreeEnd t n c s = .next
    u ∧ Kept s u := by
  have hs := Kept.refl s
  unfold execWireDisagreeEnd
  dsimp only
  (repeat' split) <;> exact ⟨_, rfl, by simp +contextual (maxDischargeDepth := 99) [hs]⟩

theorem execSpeedUpdate_kept (t : Time) (n : LaneIx) (s : State) : ∃ u, execSpeedUpdate t n s = .next u ∧ Kept s u := by
  have hs := Kept.refl s
  unfold execSpeedUpdate
  dsimp only
  (repeat' split) <;> exact ⟨_, rfl, by simp +contextual (maxDischargeDepth := 99) [hs]⟩

theorem execPosLoad_kept (t : Time) (n : LaneIx) (v : Word) (s : State) : ∃ u, execPosLoad t n v s = .next u ∧ Kept s u :=
    by
  have hs := Kept.refl s
  unfold execPosLoad
  dsimp only
  (repeat' split) <;> exact ⟨_, rfl, by simp +contextual (maxDischargeDepth := 99) [hs]⟩

theorem execEmStep_kept (t : Time) (n : LaneIx) (s : State) : ∃ u, execEmStep t n s = .next u ∧ Kept s u := by
  have hs := Kept.refl s
  unfold execEmStep
  dsimp only
  (repeat' split) <;> exact ⟨_, rfl, by simp +contextual (maxDischargeDepth := 99) [hs]⟩

theorem execSafeNFall_kept (t : Time) (n : LaneIx) (s : State) : ∃ u, execSafeNFall t n s = .next u ∧ Kept s u := by
  have hs := Kept.refl s
  unfold execSafeNFall
  dsimp only
  (repeat' split) <;> exact ⟨_, rfl, by simp +contextual (maxDischargeDepth := 99) [hs]⟩

theorem execSafeNRise_kept (t : Time) (n : LaneIx) (s : State) : ∃ u, execSafeNRise t n s = .next u ∧ Kept s u := by
  have hs := Kept.refl s
  unfold execSafeNRise
  dsimp only
  (repeat' split) <;> exact ⟨_, rfl, by simp +contextual (maxDischargeDepth := 99) [hs]⟩

theorem execEvt_kept (t : Time) (n : LaneIx) (a : Flit) (b : Option Flit) (s : State) : ∃ u, execEvt t n a b s = .next u ∧
    Kept s u := by
  have hs := Kept.refl s
  unfold execEvt
  dsimp only
  (repeat' split) <;> exact ⟨_, rfl, by simp +contextual (maxDischargeDepth := 99) [hs]⟩

theorem execTravelUpdate_kept (t : Time) (n : LaneIx) (fs : List Flit) (s : State) : ∃ u, execTravelUpdate t n fs s = .next
    u ∧ Kept s u := by
  have hs := Kept.refl s
  unfold execTravelUpdate
  dsimp only
  (repeat' split) <;> exact ⟨_, rfl, by simp +contextual (maxDischargeDepth := 99) [hs]⟩

theorem execEpochAdv_kept (t : Time) (n : LaneIx) (f : Flit) (s : State) : ∃ u, execEpochAdv t n f s = .next u ∧ Kept s u :=
    by
  have hs := Kept.refl s
  unfold execEpochAdv
  dsimp only
  (repeat' split) <;> exact ⟨_, rfl, by simp +contextual (maxDischargeDepth := 99) [hs]⟩

theorem execQend_kept (t : Time) (n : LaneIx) (f : Flit) (s : State) : ∃ u, execQend t n f s = .next u ∧ Kept s u := by
  have hs := Kept.refl s
  unfold execQend
  dsimp only
  (repeat' split) <;> exact ⟨_, rfl, by simp +contextual (maxDischargeDepth := 99) [hs]⟩

theorem execDrain_kept (t : Time) (n : LaneIx) (f : Flit) (s : State) : ∃ u, execDrain t n f s = .next u ∧ Kept s u := by
  have hs := Kept.refl s
  unfold execDrain
  dsimp only
  (repeat' split) <;> exact ⟨_, rfl, by simp +contextual (maxDischargeDepth := 99) [hs]⟩

theorem execSpDem_kept (t : Time) (n : LaneIx) (f : Flit) (s : State) : ∃ u, execSpDem t n f s = .next u ∧ Kept s u := by
  have hs := Kept.refl s
  unfold execSpDem
  dsimp only
  (repeat' split) <;> exact ⟨_, rfl, by simp +contextual (maxDischargeDepth := 99) [hs]⟩

theorem execDrainEnd_kept (t : Time) (n : LaneIx) (s : State) : ∃ u, execDrainEnd t n s = .next u ∧ Kept s u := by
  have hs := Kept.refl s
  unfold execDrainEnd
  dsimp only
  (repeat' split) <;> exact ⟨_, rfl, by simp +contextual (maxDischargeDepth := 99) [hs]⟩

theorem execDrExpired_kept (t : Time) (n : LaneIx) (s : State) : ∃ u, execDrExpired t n s = .next u ∧ Kept s u := by
  have hs := Kept.refl s
  unfold execDrExpired
  dsimp only
  (repeat' split) <;> exact ⟨_, rfl, by simp +contextual (maxDischargeDepth := 99) [hs]⟩

theorem execUpQueueHigh_kept (t : Time) (n : LaneIx) (s : State) : ∃ u, execUpQueueHigh t n s = .next u ∧ Kept s u := by
  have hs := Kept.refl s
  unfold execUpQueueHigh
  dsimp only
  (repeat' split) <;> exact ⟨_, rfl, by simp +contextual (maxDischargeDepth := 99) [hs]⟩

theorem execLinkLost_kept (t : Time) (n : LaneIx) (s : State) : ∃ u, execLinkLost t n s = .next u ∧ Kept s u := by
  have hs := Kept.refl s
  unfold execLinkLost
  dsimp only
  (repeat' split) <;> exact ⟨_, rfl, by simp +contextual (maxDischargeDepth := 99) [hs]⟩

theorem execIdleFlitSend_kept (t : Time) (n : LaneIx) (d : Dir) (s : State) : ∃ u, execIdleFlitSend t n d s = .next u ∧ Kept
    s u := by
  have hs := Kept.refl s
  unfold execIdleFlitSend
  dsimp only
  (repeat' split) <;> exact ⟨_, rfl, by simp +contextual (maxDischargeDepth := 99) [hs]⟩

theorem execResendTimeout_kept (t : Time) (n : LaneIx) (d : Dir) (s : State) : ∃ u, execResendTimeout t n d s = .next u ∧
    Kept s u := by
  have hs := Kept.refl s
  unfold execResendTimeout
  dsimp only
  (repeat' split) <;> exact ⟨_, rfl, by simp +contextual (maxDischargeDepth := 99) [hs]⟩

theorem execReaim_kept (t : Time) (n : LaneIx) (s : State) : ∃ u, execReaim t n s = .next u ∧ Kept s u := by
  have hs := Kept.refl s
  unfold execReaim
  dsimp only
  (repeat' split) <;> exact ⟨_, rfl, by simp +contextual (maxDischargeDepth := 99) [hs]⟩

theorem execFire_kept (t : Time) (n : LaneIx) (sm : List Sample) (s : State) : ∃ u, execFire t n sm s = .next u ∧ Kept s u
    := by
  have hs := Kept.refl s
  unfold execFire
  dsimp only
  (repeat' split) <;> exact ⟨_, rfl, by simp +contextual (maxDischargeDepth := 99) [hs]⟩

theorem execFrameSend_kept (t : Time) (p : Ring) (s : State) : ∃ u, execFrameSend t p s = .next u ∧ Kept s u := by
  have hs := Kept.refl s
  unfold execFrameSend
  dsimp only
  (repeat' split) <;> exact ⟨_, rfl, by simp +contextual (maxDischargeDepth := 99) [hs]⟩

theorem execAckTimeout_kept (t : Time) (dst : BitVec 10) (cls : FrameClass) (s : State) : ∃ u, execAckTimeout t dst cls s =
    .next u ∧ Kept s u := by
  have hs := Kept.refl s
  unfold execAckTimeout
  dsimp only
  (repeat' split) <;> exact ⟨_, rfl, by simp +contextual (maxDischargeDepth := 99) [hs]⟩

theorem execStrokeReturn_kept (t : Time) (p : Ring) (f : Option Frame) (s : State) : ∃ u, execStrokeReturn t p f s = .next u
    ∧ Kept s u := by
  have hs := Kept.refl s
  unfold execStrokeReturn
  dsimp only
  (repeat' split) <;> exact ⟨_, rfl, by simp +contextual (maxDischargeDepth := 99) [hs]⟩

theorem execRingItemEgress_kept (t : Time) (q : Fin 32) (s : State) : ∃ u, execRingItemEgress t q s = .next u ∧ Kept s u :=
    by
  have hs := Kept.refl s
  unfold execRingItemEgress
  dsimp only
  (repeat' split) <;> exact ⟨_, rfl, by simp +contextual (maxDischargeDepth := 99) [hs]⟩

theorem execEnum_kept (t : Time) (s : State) : ∃ u, execEnum t s = .next u ∧ Kept s u := by
  have hs := Kept.refl s
  unfold execEnum
  dsimp only
  (repeat' split) <;> exact ⟨_, rfl, by simp +contextual (maxDischargeDepth := 99) [hs]⟩

theorem execEnumJoin_kept (t : Time) (s : State) : ∃ u, execEnumJoin t s = .next u ∧ Kept s u := by
  have hs := Kept.refl s
  unfold execEnumJoin
  dsimp only
  (repeat' split) <;> exact ⟨_, rfl, by simp +contextual (maxDischargeDepth := 99) [hs]⟩

theorem execEnumRetry_kept (t : Time) (s : State) : ∃ u, execEnumRetry t s = .next u ∧ Kept s u := by
  have hs := Kept.refl s
  unfold execEnumRetry
  dsimp only
  (repeat' split) <;> exact ⟨_, rfl, by simp +contextual (maxDischargeDepth := 99) [hs]⟩

theorem execPresenceSend_kept (t : Time) (s : State) : ∃ u, execPresenceSend t s = .next u ∧ Kept s u := by
  have hs := Kept.refl s
  unfold execPresenceSend
  dsimp only
  (repeat' split) <;> exact ⟨_, rfl, by simp +contextual (maxDischargeDepth := 99) [hs]⟩

theorem execNodeAbsent_kept (t : Time) (node : BitVec 10) (s : State) : ∃ u, execNodeAbsent t node s = .next u ∧ Kept s u :=
    by
  have hs := Kept.refl s
  unfold execNodeAbsent
  dsimp only
  (repeat' split) <;> exact ⟨_, rfl, by simp +contextual (maxDischargeDepth := 99) [hs]⟩

theorem execLinkDown_kept (t : Time) (p : Ring) (x : LineLoss) (s : State) : ∃ u, execLinkDown t p x s = .next u ∧ Kept s u
    := by
  have hs := Kept.refl s
  unfold execLinkDown
  dsimp only
  (repeat' split) <;> exact ⟨_, rfl, by simp +contextual (maxDischargeDepth := 99) [hs]⟩

theorem execLinkUp_kept (t : Time) (p : Ring) (sets : Nat) (s : State) : ∃ u, execLinkUp t p sets s = .next u ∧ Kept s u :=
    by
  have hs := Kept.refl s
  unfold execLinkUp
  dsimp only
  (repeat' split) <;> exact ⟨_, rfl, by simp +contextual (maxDischargeDepth := 99) [hs]⟩

theorem execRfault_kept (t : Time) (p : Ring) (s : State) : ∃ u, execRfault t p s = .next u ∧ Kept s u := by
  have hs := Kept.refl s
  unfold execRfault
  dsimp only
  (repeat' split) <;> exact ⟨_, rfl, by simp +contextual (maxDischargeDepth := 99) [hs]⟩

theorem execWrap_kept (t : Time) (p : Ring) (s : State) : ∃ u, execWrap t p s = .next u ∧ Kept s u := by
  have hs := Kept.refl s
  unfold execWrap
  dsimp only
  (repeat' split) <;> exact ⟨_, rfl, by simp +contextual (maxDischargeDepth := 99) [hs]⟩

theorem execUnwrap_kept (t : Time) (p : Ring) (linkOk : Bool) (s : State) : ∃ u, execUnwrap t p linkOk s = .next u ∧ Kept s
    u := by
  have hs := Kept.refl s
  unfold execUnwrap
  dsimp only
  (repeat' split) <;> exact ⟨_, rfl, by simp +contextual (maxDischargeDepth := 99) [hs]⟩

theorem execTopo_kept (t : Time) (p : Ring) (gen : Epoch) (orig : BitVec 10) (s : State) : ∃ u, execTopo t p gen orig s =
    .next u ∧ Kept s u := by
  have hs := Kept.refl s
  unfold execTopo
  dsimp only
  (repeat' split) <;> exact ⟨_, rfl, by simp +contextual (maxDischargeDepth := 99) [hs]⟩

theorem execSyncSend_kept (t : Time) (p : Ring) (s : State) : ∃ u, execSyncSend t p s = .next u ∧ Kept s u := by
  have hs := Kept.refl s
  unfold execSyncSend
  dsimp only
  (repeat' split) <;> exact ⟨_, rfl, by simp +contextual (maxDischargeDepth := 99) [hs]⟩

theorem execSync_kept (t : Time) (p : Ring) (data : BitVec 48) (s : State) : ∃ u, execSync t p data s = .next u ∧ Kept s u
    := by
  have hs := Kept.refl s
  unfold execSync
  dsimp only
  (repeat' split) <;> exact ⟨_, rfl, by simp +contextual (maxDischargeDepth := 99) [hs]⟩

theorem execRtHold_kept (t : Time) (s : State) : ∃ u, execRtHold t s = .next u ∧ Kept s u := by
  have hs := Kept.refl s
  unfold execRtHold
  dsimp only
  (repeat' split) <;> exact ⟨_, rfl, by simp +contextual (maxDischargeDepth := 99) [hs]⟩

theorem execDelayMeasure_kept (t : Time) (p : Ring) (s : State) : ∃ u, execDelayMeasure t p s = .next u ∧ Kept s u := by
  have hs := Kept.refl s
  unfold execDelayMeasure
  dsimp only
  (repeat' split) <;> exact ⟨_, rfl, by simp +contextual (maxDischargeDepth := 99) [hs]⟩

theorem execDreq_kept (t : Time) (p : Ring) (seq : BitVec 16) (t2 : Time) (s : State) : ∃ u, execDreq t p seq t2 s = .next u
    ∧ Kept s u := by
  have hs := Kept.refl s
  unfold execDreq
  dsimp only
  (repeat' split) <;> exact ⟨_, rfl, by simp +contextual (maxDischargeDepth := 99) [hs]⟩

theorem execDresp_kept (t : Time) (p : Ring) (seq : BitVec 16) (turn : Word) (s : State) : ∃ u, execDresp t p seq turn s =
    .next u ∧ Kept s u := by
  have hs := Kept.refl s
  unfold execDresp
  dsimp only
  (repeat' split) <;> exact ⟨_, rfl, by simp +contextual (maxDischargeDepth := 99) [hs]⟩

theorem execRecord_kept (t : Time) (code : BitVec 10) (page : BitVec 12) (h : Half) (a0 a1 a2 : Word) (s : State) : ∃ u,
    execRecord t code page h a0 a1 a2 s = .next u ∧ Kept s u := by
  have hs := Kept.refl s
  unfold execRecord
  dsimp only
  (repeat' split) <;> exact ⟨_, rfl, by simp +contextual (maxDischargeDepth := 99) [hs]⟩

theorem execBucketRefill_kept (t : Time) (s : State) : ∃ u, execBucketRefill t s = .next u ∧ Kept s u := by
  have hs := Kept.refl s
  unfold execBucketRefill
  dsimp only
  (repeat' split) <;> exact ⟨_, rfl, by simp +contextual (maxDischargeDepth := 99) [hs]⟩

theorem execYewFlush_kept (t : Time) (s : State) : ∃ u, execYewFlush t s = .next u ∧ Kept s u := by
  have hs := Kept.refl s
  unfold execYewFlush
  dsimp only
  (repeat' split) <;> exact ⟨_, rfl, by simp +contextual (maxDischargeDepth := 99) [hs]⟩

theorem execStreamPost_kept (t : Time) (s : State) : ∃ u, execStreamPost t s = .next u ∧ Kept s u := by
  have hs := Kept.refl s
  unfold execStreamPost
  dsimp only
  (repeat' split) <;> exact ⟨_, rfl, by simp +contextual (maxDischargeDepth := 99) [hs]⟩

theorem execPfailSetClose_kept (t : Time) (s : State) : ∃ u, execPfailSetClose t s = .next u ∧ Kept s u := by
  have hs := Kept.refl s
  unfold execPfailSetClose
  dsimp only
  (repeat' split) <;> exact ⟨_, rfl, by simp +contextual (maxDischargeDepth := 99) [hs]⟩

theorem execPfailDone_kept (t : Time) (s : State) : ∃ u, execPfailDone t s = .next u ∧ Kept s u := by
  have hs := Kept.refl s
  unfold execPfailDone
  dsimp only
  (repeat' split) <;> exact ⟨_, rfl, by simp +contextual (maxDischargeDepth := 99) [hs]⟩

theorem execMkTx_kept (t : Time) (k : Fin 8) (w : Word) (s : State) : ∃ u, execMkTx t k w s = .next u ∧ Kept s u := by
  have hs := Kept.refl s
  unfold execMkTx
  dsimp only
  (repeat' split) <;> exact ⟨_, rfl, by simp +contextual (maxDischargeDepth := 99) [hs]⟩

theorem execDb_kept (t : Time) (k : Fin 8) (s : State) : ∃ u, execDb t k s = .next u ∧ Kept s u := by
  have hs := Kept.refl s
  unfold execDb
  dsimp only
  (repeat' split) <;> exact ⟨_, rfl, by simp +contextual (maxDischargeDepth := 99) [hs]⟩

theorem execMailboxReply_kept (t : Time) (k : Fin 8) (s : State) : ∃ u, execMailboxReply t k s = .next u ∧ Kept s u := by
  have hs := Kept.refl s
  unfold execMailboxReply
  dsimp only
  (repeat' split) <;> exact ⟨_, rfl, by simp +contextual (maxDischargeDepth := 99) [hs]⟩

theorem execMkRx_kept (t : Time) (k : Fin 8) (s : State) : ∃ u, execMkRx t k s = .next u ∧ Kept s u := by
  have hs := Kept.refl s
  unfold execMkRx
  dsimp only
  (repeat' split) <;> exact ⟨_, rfl, by simp +contextual (maxDischargeDepth := 99) [hs]⟩

theorem execNorOpDone_kept (t : Time) (s : State) : ∃ u, execNorOpDone t s = .next u ∧ Kept s u := by
  have hs := Kept.refl s
  unfold execNorOpDone
  dsimp only
  (repeat' split) <;> exact ⟨_, rfl, by simp +contextual (maxDischargeDepth := 99) [hs]⟩

theorem execNorTimeout_kept (t : Time) (s : State) : ∃ u, execNorTimeout t s = .next u ∧ Kept s u := by
  have hs := Kept.refl s
  unfold execNorTimeout
  dsimp only
  (repeat' split) <;> exact ⟨_, rfl, by simp +contextual (maxDischargeDepth := 99) [hs]⟩

theorem execLongCommandEnd_kept (t : Time) (s : State) : ∃ u, execLongCommandEnd t s = .next u ∧ Kept s u := by
  have hs := Kept.refl s
  unfold execLongCommandEnd
  dsimp only
  (repeat' split) <;> exact ⟨_, rfl, by simp +contextual (maxDischargeDepth := 99) [hs]⟩

theorem execPayloadTimeout_kept (t : Time) (s : State) : ∃ u, execPayloadTimeout t s = .next u ∧ Kept s u := by
  have hs := Kept.refl s
  unfold execPayloadTimeout
  dsimp only
  (repeat' split) <;> exact ⟨_, rfl, by simp +contextual (maxDischargeDepth := 99) [hs]⟩

theorem execMailboxTaken_kept (t : Time) (k : Fin 8) (s : State) : ∃ u, execMailboxTaken t k s = .next u ∧ Kept s u := by
  have hs := Kept.refl s
  unfold execMailboxTaken
  dsimp only
  (repeat' split) <;> exact ⟨_, rfl, by simp +contextual (maxDischargeDepth := 99) [hs]⟩

theorem execGetInfo_kept (t : Time) (k : Fin 8) (s : State) : ∃ u, execGetInfo t k s = .next u ∧ Kept s u := by
  have hs := Kept.refl s
  unfold execGetInfo
  dsimp only
  (repeat' split) <;> exact ⟨_, rfl, by simp +contextual (maxDischargeDepth := 99) [hs]⟩

theorem execEcho_kept (t : Time) (k : Fin 8) (s : State) : ∃ u, execEcho t k s = .next u ∧ Kept s u := by
  have hs := Kept.refl s
  unfold execEcho
  dsimp only
  (repeat' split) <;> exact ⟨_, rfl, by simp +contextual (maxDischargeDepth := 99) [hs]⟩

theorem execNorRead_kept (t : Time) (k : Fin 8) (s : State) : ∃ u, execNorRead t k s = .next u ∧ Kept s u := by
  have hs := Kept.refl s
  unfold execNorRead
  dsimp only
  (repeat' split) <;> exact ⟨_, rfl, by simp +contextual (maxDischargeDepth := 99) [hs]⟩

theorem execNorErase_kept (t : Time) (k : Fin 8) (s : State) : ∃ u, execNorErase t k s = .next u ∧ Kept s u := by
  have hs := Kept.refl s
  unfold execNorErase
  dsimp only
  (repeat' split) <;> exact ⟨_, rfl, by simp +contextual (maxDischargeDepth := 99) [hs]⟩

theorem execNorWrite_kept (t : Time) (k : Fin 8) (s : State) : ∃ u, execNorWrite t k s = .next u ∧ Kept s u := by
  have hs := Kept.refl s
  unfold execNorWrite
  dsimp only
  (repeat' split) <;> exact ⟨_, rfl, by simp +contextual (maxDischargeDepth := 99) [hs]⟩

theorem execNorCrc_kept (t : Time) (k : Fin 8) (s : State) : ∃ u, execNorCrc t k s = .next u ∧ Kept s u := by
  have hs := Kept.refl s
  unfold execNorCrc
  dsimp only
  (repeat' split) <;> exact ⟨_, rfl, by simp +contextual (maxDischargeDepth := 99) [hs]⟩

theorem execDirSet_kept (t : Time) (k : Fin 8) (s : State) : ∃ u, execDirSet t k s = .next u ∧ Kept s u := by
  have hs := Kept.refl s
  unfold execDirSet
  dsimp only
  (repeat' split) <;> exact ⟨_, rfl, by simp +contextual (maxDischargeDepth := 99) [hs]⟩

theorem execPatchStage_kept (t : Time) (k : Fin 8) (s : State) : ∃ u, execPatchStage t k s = .next u ∧ Kept s u := by
  have hs := Kept.refl s
  unfold execPatchStage
  dsimp only
  (repeat' split) <;> exact ⟨_, rfl, by simp +contextual (maxDischargeDepth := 99) [hs]⟩

theorem execPatchSelect_kept (t : Time) (k : Fin 8) (s : State) : ∃ u, execPatchSelect t k s = .next u ∧ Kept s u := by
  have hs := Kept.refl s
  unfold execPatchSelect
  dsimp only
  (repeat' split) <;> exact ⟨_, rfl, by simp +contextual (maxDischargeDepth := 99) [hs]⟩

theorem execCfgSave_kept (t : Time) (k : Fin 8) (s : State) : ∃ u, execCfgSave t k s = .next u ∧ Kept s u := by
  have hs := Kept.refl s
  unfold execCfgSave
  dsimp only
  (repeat' split) <;> exact ⟨_, rfl, by simp +contextual (maxDischargeDepth := 99) [hs]⟩

theorem execCfgClear_kept (t : Time) (k : Fin 8) (s : State) : ∃ u, execCfgClear t k s = .next u ∧ Kept s u := by
  have hs := Kept.refl s
  unfold execCfgClear
  dsimp only
  (repeat' split) <;> exact ⟨_, rfl, by simp +contextual (maxDischargeDepth := 99) [hs]⟩

theorem execLogRead_kept (t : Time) (k : Fin 8) (s : State) : ∃ u, execLogRead t k s = .next u ∧ Kept s u := by
  have hs := Kept.refl s
  unfold execLogRead
  dsimp only
  (repeat' split) <;> exact ⟨_, rfl, by simp +contextual (maxDischargeDepth := 99) [hs]⟩

theorem execAbort_kept (t : Time) (k : Fin 8) (s : State) : ∃ u, execAbort t k s = .next u ∧ Kept s u := by
  have hs := Kept.refl s
  unfold execAbort
  dsimp only
  (repeat' split) <;> exact ⟨_, rfl, by simp +contextual (maxDischargeDepth := 99) [hs]⟩

theorem execKeyRevoke_kept (t : Time) (k : Fin 8) (s : State) : ∃ u, execKeyRevoke t k s = .next u ∧ Kept s u := by
  have hs := Kept.refl s
  unfold execKeyRevoke
  dsimp only
  (repeat' split) <;> exact ⟨_, rfl, by simp +contextual (maxDischargeDepth := 99) [hs]⟩

theorem execScrub_kept (t : Time) (ecc : List EccFault) (s : State) : ∃ u, execScrub t ecc s = .next u ∧ Kept s u := by
  have hs := Kept.refl s
  unfold execScrub
  dsimp only
  (repeat' split) <;> exact ⟨_, rfl, by simp +contextual (maxDischargeDepth := 99) [hs]⟩

theorem execTileItem_kept (t : Time) (cov : Bool) (s : State) : ∃ u, execTileItem t cov s = .next u ∧ Kept s u := by
  have hs := Kept.refl s
  unfold execTileItem
  dsimp only
  (repeat' split) <;> exact ⟨_, rfl, by simp +contextual (maxDischargeDepth := 99) [hs]⟩

theorem execTileEffect_kept (t : Time) (cov : Bool) (s : State) : ∃ u, execTileEffect t cov s = .next u ∧ Kept s u := by
  have hs := Kept.refl s
  unfold execTileEffect
  dsimp only
  (repeat' split) <;> exact ⟨_, rfl, by simp +contextual (maxDischargeDepth := 99) [hs]⟩

theorem execTileRequestPost_kept (t : Time) (s : State) : ∃ u, execTileRequestPost t s = .next u ∧ Kept s u := by
  have hs := Kept.refl s
  unfold execTileRequestPost
  dsimp only
  (repeat' split) <;> exact ⟨_, rfl, by simp +contextual (maxDischargeDepth := 99) [hs]⟩

theorem execRequestRetry_kept (t : Time) (slot : BitVec 11) (s : State) : ∃ u, execRequestRetry t slot s = .next u ∧ Kept s
    u := by
  have hs := Kept.refl s
  unfold execRequestRetry
  dsimp only
  (repeat' split) <;> exact ⟨_, rfl, by simp +contextual (maxDischargeDepth := 99) [hs]⟩

theorem execEvictPost_kept (t : Time) (s : State) : ∃ u, execEvictPost t s = .next u ∧ Kept s u := by
  have hs := Kept.refl s
  unfold execEvictPost
  dsimp only
  (repeat' split) <;> exact ⟨_, rfl, by simp +contextual (maxDischargeDepth := 99) [hs]⟩

theorem execSpillPost_kept (t : Time) (s : State) : ∃ u, execSpillPost t s = .next u ∧ Kept s u := by
  have hs := Kept.refl s
  unfold execSpillPost
  dsimp only
  (repeat' split) <;> exact ⟨_, rfl, by simp +contextual (maxDischargeDepth := 99) [hs]⟩

theorem execFlush_kept (t : Time) (s : State) : ∃ u, execFlush t s = .next u ∧ Kept s u := by
  have hs := Kept.refl s
  unfold execFlush
  dsimp only
  (repeat' split) <;> exact ⟨_, rfl, by simp +contextual (maxDischargeDepth := 99) [hs]⟩

theorem execAdvJob_kept (t : Time) (s : State) : ∃ u, execAdvJob t s = .next u ∧ Kept s u := by
  have hs := Kept.refl s
  unfold execAdvJob
  dsimp only
  (repeat' split) <;> exact ⟨_, rfl, by simp +contextual (maxDischargeDepth := 99) [hs]⟩

theorem execGsEdge_kept (t : Time) (b rise : Bool) (stamp : Time) (s : State) : ∃ u, execGsEdge t b rise stamp s = .next u ∧
    Kept s u := by
  have hs := Kept.refl s
  unfold execGsEdge
  dsimp only
  (repeat' split) <;> exact ⟨_, rfl, by simp +contextual (maxDischargeDepth := 99) [hs]⟩

theorem execSpdDisagree_kept (t : Time) (s : State) : ∃ u, execSpdDisagree t s = .next u ∧ Kept s u := by
  have hs := Kept.refl s
  unfold execSpdDisagree
  dsimp only
  (repeat' split) <;> exact ⟨_, rfl, by simp +contextual (maxDischargeDepth := 99) [hs]⟩

theorem execHitchDisagree_kept (t : Time) (s : State) : ∃ u, execHitchDisagree t s = .next u ∧ Kept s u := by
  have hs := Kept.refl s
  unfold execHitchDisagree
  dsimp only
  (repeat' split) <;> exact ⟨_, rfl, by simp +contextual (maxDischargeDepth := 99) [hs]⟩

theorem execPoseWord_kept (t : Time) (hitch : List (BitVec 12)) (peer : Word) (s : State) : ∃ u, execPoseWord t hitch peer s
    = .next u ∧ Kept s u := by
  have hs := Kept.refl s
  unfold execPoseWord
  dsimp only
  (repeat' split) <;> exact ⟨_, rfl, by simp +contextual (maxDischargeDepth := 99) [hs]⟩

theorem execRingMiss_kept (t : Time) (s : State) : ∃ u, execRingMiss t s = .next u ∧ Kept s u := by
  have hs := Kept.refl s
  unfold execRingMiss
  dsimp only
  (repeat' split) <;> exact ⟨_, rfl, by simp +contextual (maxDischargeDepth := 99) [hs]⟩

theorem execSolutionLost_kept (t : Time) (s : State) : ∃ u, execSolutionLost t s = .next u ∧ Kept s u := by
  have hs := Kept.refl s
  unfold execSolutionLost
  dsimp only
  (repeat' split) <;> exact ⟨_, rfl, by simp +contextual (maxDischargeDepth := 99) [hs]⟩

theorem execCoastExpired_kept (t : Time) (s : State) : ∃ u, execCoastExpired t s = .next u ∧ Kept s u := by
  have hs := Kept.refl s
  unfold execCoastExpired
  dsimp only
  (repeat' split) <;> exact ⟨_, rfl, by simp +contextual (maxDischargeDepth := 99) [hs]⟩

theorem execImuCoastEnd_kept (t : Time) (s : State) : ∃ u, execImuCoastEnd t s = .next u ∧ Kept s u := by
  have hs := Kept.refl s
  unfold execImuCoastEnd
  dsimp only
  (repeat' split) <;> exact ⟨_, rfl, by simp +contextual (maxDischargeDepth := 99) [hs]⟩

theorem execImuInt_kept (t : Time) (rise : Bool) (s : State) : ∃ u, execImuInt t rise s = .next u ∧ Kept s u := by
  have hs := Kept.refl s
  unfold execImuInt
  dsimp only
  (repeat' split) <;> exact ⟨_, rfl, by simp +contextual (maxDischargeDepth := 99) [hs]⟩

theorem execImuBurstDone_kept (t : Time) (bytes : List Byte) (s : State) : ∃ u, execImuBurstDone t bytes s = .next u ∧ Kept
    s u := by
  have hs := Kept.refl s
  unfold execImuBurstDone
  dsimp only
  (repeat' split) <;> exact ⟨_, rfl, by simp +contextual (maxDischargeDepth := 99) [hs]⟩

theorem execImuLost_kept (t : Time) (s : State) : ∃ u, execImuLost t s = .next u ∧ Kept s u := by
  have hs := Kept.refl s
  unfold execImuLost
  dsimp only
  (repeat' split) <;> exact ⟨_, rfl, by simp +contextual (maxDischargeDepth := 99) [hs]⟩

theorem execTravelCompute_kept (t : Time) (s : State) : ∃ u, execTravelCompute t s = .next u ∧ Kept s u := by
  have hs := Kept.refl s
  unfold execTravelCompute
  dsimp only
  (repeat' split) <;> exact ⟨_, rfl, by simp +contextual (maxDischargeDepth := 99) [hs]⟩

theorem execFootprintTick_kept (t : Time) (ecc : List EccFault) (ain0 ain1 : List Sample) (s : State) : ∃ u,
    execFootprintTick t ecc ain0 ain1 s = .next u ∧ Kept s u := by
  have hs := Kept.refl s
  unfold execFootprintTick
  dsimp only
  (repeat' split) <;> exact ⟨_, rfl, by simp +contextual (maxDischargeDepth := 99) [hs]⟩

theorem execDemandPhase_kept (t : Time) (s : State) : ∃ u, execDemandPhase t s = .next u ∧ Kept s u := by
  have hs := Kept.refl s
  unfold execDemandPhase
  dsimp only
  (repeat' split) <;> exact ⟨_, rfl, by simp +contextual (maxDischargeDepth := 99) [hs]⟩

theorem execDecisionPhase_kept (t : Time) (ecc : List EccFault) (dur : BitVec 16) (s : State) : ∃ u, execDecisionPhase t ecc
    dur s = .next u ∧ Kept s u := by
  have hs := Kept.refl s
  unfold execDecisionPhase
  dsimp only
  (repeat' split) <;> exact ⟨_, rfl, by simp +contextual (maxDischargeDepth := 99) [hs]⟩

theorem execStrokeForm_kept (t : Time) (s : State) : ∃ u, execStrokeForm t s = .next u ∧ Kept s u := by
  have hs := Kept.refl s
  unfold execStrokeForm
  dsimp only
  (repeat' split) <;> exact ⟨_, rfl, by simp +contextual (maxDischargeDepth := 99) [hs]⟩

theorem execDecisionDigest_kept (t : Time) (dec slots : Word) (s : State) : ∃ u, execDecisionDigest t dec slots s = .next u
    ∧ Kept s u := by
  have hs := Kept.refl s
  unfold execDecisionDigest
  dsimp only
  (repeat' split) <;> exact ⟨_, rfl, by simp +contextual (maxDischargeDepth := 99) [hs]⟩

theorem execNoMotion_kept (t : Time) (j : GOut) (s : State) : ∃ u, execNoMotion t j s = .next u ∧ Kept s u := by
  have hs := Kept.refl s
  unfold execNoMotion
  dsimp only
  (repeat' split) <;> exact ⟨_, rfl, by simp +contextual (maxDischargeDepth := 99) [hs]⟩

theorem execRateSwap_kept (t : Time) (s : State) : ∃ u, execRateSwap t s = .next u ∧ Kept s u := by
  have hs := Kept.refl s
  unfold execRateSwap
  dsimp only
  (repeat' split) <;> exact ⟨_, rfl, by simp +contextual (maxDischargeDepth := 99) [hs]⟩

theorem execHoldReoffer_kept (t : Time) (s : State) : ∃ u, execHoldReoffer t s = .next u ∧ Kept s u := by
  have hs := Kept.refl s
  unfold execHoldReoffer
  dsimp only
  (repeat' split) <;> exact ⟨_, rfl, by simp +contextual (maxDischargeDepth := 99) [hs]⟩

theorem execIdleFlit_kept (t : Time) (n : LaneIx) (d : Dir) (f : Flit) (s : State) : ∃ u, execIdleFlit t n d f s = .next u ∧
    Kept s u := by
  have hs := Kept.refl s
  unfold execIdleFlit
  dsimp only
  (repeat' split) <;> exact ⟨_, rfl, by simp +contextual (maxDischargeDepth := 99) [hs]⟩

theorem execPortIdle_kept (t : Time) (n : LaneIx) (f : Flit) (s : State) : ∃ u, execPortIdle t n f s = .next u ∧ Kept s u :=
    by
  have hs := Kept.refl s
  unfold execPortIdle
  dsimp only
  (repeat' split) <;> exact ⟨_, rfl, by simp +contextual (maxDischargeDepth := 99) [hs]⟩

theorem execNak_kept (t : Time) (n : LaneIx) (d : Dir) (f : Flit) (s : State) : ∃ u, execNak t n d f s = .next u ∧ Kept s u
    := by
  have hs := Kept.refl s
  unfold execNak
  dsimp only
  (repeat' split) <;> exact ⟨_, rfl, by simp +contextual (maxDischargeDepth := 99) [hs]⟩

theorem execEvtAck_kept (t : Time) (n : LaneIx) (f : Flit) (s : State) : ∃ u, execEvtAck t n f s = .next u ∧ Kept s u := by
  have hs := Kept.refl s
  unfold execEvtAck
  dsimp only
  (repeat' split) <;> exact ⟨_, rfl, by simp +contextual (maxDischargeDepth := 99) [hs]⟩

theorem execEvtFull_kept (t : Time) (n : LaneIx) (f : Flit) (s : State) : ∃ u, execEvtFull t n f s = .next u ∧ Kept s u :=
    by
  have hs := Kept.refl s
  unfold execEvtFull
  dsimp only
  (repeat' split) <;> exact ⟨_, rfl, by simp +contextual (maxDischargeDepth := 99) [hs]⟩

theorem execFireReport_kept (t : Time) (n : LaneIx) (fs : List Flit) (s : State) : ∃ u, execFireReport t n fs s = .next u ∧
    Kept s u := by
  have hs := Kept.refl s
  unfold execFireReport
  dsimp only
  (repeat' split) <;> exact ⟨_, rfl, by simp +contextual (maxDischargeDepth := 99) [hs]⟩

theorem execQclr_kept (t : Time) (n : LaneIx) (f : Flit) (s : State) : ∃ u, execQclr t n f s = .next u ∧ Kept s u := by
  have hs := Kept.refl s
  unfold execQclr
  dsimp only
  (repeat' split) <;> exact ⟨_, rfl, by simp +contextual (maxDischargeDepth := 99) [hs]⟩

theorem execMotion_kept (t : Time) (n : LaneIx) (fs : List Flit) (s : State) : ∃ u, execMotion t n fs s = .next u ∧ Kept s u
    := by
  have hs := Kept.refl s
  unfold execMotion
  dsimp only
  (repeat' split) <;> exact ⟨_, rfl, by simp +contextual (maxDischargeDepth := 99) [hs]⟩

theorem execDly_kept (t : Time) (n : LaneIx) (f : Flit) (s : State) : ∃ u, execDly t n f s = .next u ∧ Kept s u := by
  have hs := Kept.refl s
  unfold execDly
  dsimp only
  (repeat' split) <;> exact ⟨_, rfl, by simp +contextual (maxDischargeDepth := 99) [hs]⟩

theorem execPeakRpt_kept (t : Time) (n : LaneIx) (f : Flit) (s : State) : ∃ u, execPeakRpt t n f s = .next u ∧ Kept s u :=
    by
  have hs := Kept.refl s
  unfold execPeakRpt
  dsimp only
  (repeat' split) <;> exact ⟨_, rfl, by simp +contextual (maxDischargeDepth := 99) [hs]⟩

theorem execGifClkCheck_kept (t : Time) (count : BitVec 17) (s : State) : ∃ u, execGifClkCheck t count s = .next u ∧ Kept s
    u := by
  have hs := Kept.refl s
  unfold execGifClkCheck
  dsimp only
  (repeat' split) <;> exact ⟨_, rfl, by simp +contextual (maxDischargeDepth := 99) [hs]⟩

theorem execAgcUpdate_kept (t : Time) (l1 l5 : IfCounts) (s : State) : ∃ u, execAgcUpdate t l1 l5 s = .next u ∧ Kept s u :=
    by
  have hs := Kept.refl s
  unfold execAgcUpdate
  dsimp only
  (repeat' split) <;> exact ⟨_, rfl, by simp +contextual (maxDischargeDepth := 99) [hs]⟩

theorem execMeasurement_kept (t : Time) (ms : List ChanMeas) (asg : List ChanAssign) (o : ObsTime) (s : State) : ∃ u,
    execMeasurement t ms asg o s = .next u ∧ Kept s u := by
  have hs := Kept.refl s
  unfold execMeasurement
  dsimp only
  (repeat' split) <;> exact ⟨_, rfl, by simp +contextual (maxDischargeDepth := 99) [hs]⟩

theorem execRtcmFrame_kept (t : Time) (s : State) : ∃ u, execRtcmFrame t s = .next u ∧ Kept s u := by
  have hs := Kept.refl s
  unfold execRtcmFrame
  dsimp only
  (repeat' split) <;> exact ⟨_, rfl, by simp +contextual (maxDischargeDepth := 99) [hs]⟩

theorem execGnssLost_kept (t : Time) (h : Half) (s : State) : ∃ u, execGnssLost t h s = .next u ∧ Kept s u := by
  have hs := Kept.refl s
  unfold execGnssLost
  dsimp only
  (repeat' split) <;> exact ⟨_, rfl, by simp +contextual (maxDischargeDepth := 99) [hs]⟩

theorem execBurstStart_kept (t : Time) (s : State) : ∃ u, execBurstStart t s = .next u ∧ Kept s u := by
  have hs := Kept.refl s
  unfold execBurstStart
  dsimp only
  (repeat' split) <;> exact ⟨_, rfl, by simp +contextual (maxDischargeDepth := 99) [hs]⟩

theorem execBurstEnd_kept (t : Time) (s : State) : ∃ u, execBurstEnd t s = .next u ∧ Kept s u := by
  have hs := Kept.refl s
  unfold execBurstEnd
  dsimp only
  (repeat' split) <;> exact ⟨_, rfl, by simp +contextual (maxDischargeDepth := 99) [hs]⟩

theorem execTimeHoldover_kept (t : Time) (s : State) : ∃ u, execTimeHoldover t s = .next u ∧ Kept s u := by
  have hs := Kept.refl s
  unfold execTimeHoldover
  dsimp only
  (repeat' split) <;> exact ⟨_, rfl, by simp +contextual (maxDischargeDepth := 99) [hs]⟩

theorem execTimeExpired_kept (t : Time) (s : State) : ∃ u, execTimeExpired t s = .next u ∧ Kept s u := by
  have hs := Kept.refl s
  unfold execTimeExpired
  dsimp only
  (repeat' split) <;> exact ⟨_, rfl, by simp +contextual (maxDischargeDepth := 99) [hs]⟩

theorem execPulsePrepare_kept (t : Time) (s : State) : ∃ u, execPulsePrepare t s = .next u ∧ Kept s u := by
  have hs := Kept.refl s
  unfold execPulsePrepare
  dsimp only
  (repeat' split) <;> exact ⟨_, rfl, by simp +contextual (maxDischargeDepth := 99) [hs]⟩

theorem execGnssSolution_kept (t : Time) (h : Half) (sol : Solution) (ts : Option TimeSol) (s : State) : ∃ u,
    execGnssSolution t h sol ts s = .next u ∧ Kept s u := by
  have hs := Kept.refl s
  unfold execGnssSolution
  dsimp only
  (repeat' split) <;> exact ⟨_, rfl, by simp +contextual (maxDischargeDepth := 99) [hs]⟩

theorem execTpulse_kept (t : Time) (s : State) : ∃ u, execTpulse t s = .next u ∧ Kept s u := by
  have hs := Kept.refl s
  unfold execTpulse
  dsimp only
  (repeat' split) <;> exact ⟨_, rfl, by simp +contextual (maxDischargeDepth := 99) [hs]⟩

theorem execTpulseB_kept (t : Time) (s : State) : ∃ u, execTpulseB t s = .next u ∧ Kept s u := by
  have hs := Kept.refl s
  unfold execTpulseB
  dsimp only
  (repeat' split) <;> exact ⟨_, rfl, by simp +contextual (maxDischargeDepth := 99) [hs]⟩

theorem execHeartbeatSend_kept (t : Time) (h : Half) (s : State) : ∃ u, execHeartbeatSend t h s = .next u ∧ Kept s u := by
  have hs := Kept.refl s
  unfold execHeartbeatSend
  dsimp only
  (repeat' split) <;> exact ⟨_, rfl, by simp +contextual (maxDischargeDepth := 99) [hs]⟩

theorem execHeartbeatCheck_kept (t : Time) (h : Half) (arr : HbArrivals) (s : State) : ∃ u, execHeartbeatCheck t h arr s =
    .next u ∧ Kept s u := by
  have hs := Kept.refl s
  unfold execHeartbeatCheck
  dsimp only
  (repeat' split) <;> exact ⟨_, rfl, by simp +contextual (maxDischargeDepth := 99) [hs]⟩

theorem execHeartbeatLoss_kept (t : Time) (h : Half) (s : State) : ∃ u, execHeartbeatLoss t h s = .next u ∧ Kept s u := by
  have hs := Kept.refl s
  unfold execHeartbeatLoss
  dsimp only
  (repeat' split) <;> exact ⟨_, rfl, by simp +contextual (maxDischargeDepth := 99) [hs]⟩

theorem execSelfFault_kept (t : Time) (h : Half) (s : State) : ∃ u, execSelfFault t h s = .next u ∧ Kept s u := by
  have hs := Kept.refl s
  unfold execSelfFault
  dsimp only
  (repeat' split) <;> exact ⟨_, rfl, by simp +contextual (maxDischargeDepth := 99) [hs]⟩

theorem execTokenCopyError_kept (t : Time) (c0 c1 c2 : TokenCopy) (s : State) : ∃ u, execTokenCopyError t c0 c1 c2 s = .next
    u ∧ Kept s u := by
  have hs := Kept.refl s
  unfold execTokenCopyError
  dsimp only
  (repeat' split) <;> exact ⟨_, rfl, by simp +contextual (maxDischargeDepth := 99) [hs]⟩

theorem execClaim_kept (t : Time) (s : State) : ∃ u, execClaim t s = .next u ∧ Kept s u := by
  have hs := Kept.refl s
  unfold execClaim
  dsimp only
  (repeat' split) <;> exact ⟨_, rfl, by simp +contextual (maxDischargeDepth := 99) [hs]⟩

theorem execConflictEnd_kept (t : Time) (s : State) : ∃ u, execConflictEnd t s = .next u ∧ Kept s u := by
  have hs := Kept.refl s
  unfold execConflictEnd
  dsimp only
  (repeat' split) <;> exact ⟨_, rfl, by simp +contextual (maxDischargeDepth := 99) [hs]⟩

theorem execTakeover_kept (t : Time) (s : State) : ∃ u, execTakeover t s = .next u ∧ Kept s u := by
  have hs := Kept.refl s
  unfold execTakeover
  dsimp only
  (repeat' split) <;> exact ⟨_, rfl, by simp +contextual (maxDischargeDepth := 99) [hs]⟩

theorem execHandover_kept (t : Time) (s : State) : ∃ u, execHandover t s = .next u ∧ Kept s u := by
  have hs := Kept.refl s
  unfold execHandover
  dsimp only
  (repeat' split) <;> exact ⟨_, rfl, by simp +contextual (maxDischargeDepth := 99) [hs]⟩

theorem execXchkIdentify_kept (t : Time) (okA okB : Bool) (s : State) : ∃ u, execXchkIdentify t okA okB s = .next u ∧ Kept s
    u := by
  have hs := Kept.refl s
  unfold execXchkIdentify
  dsimp only
  (repeat' split) <;> exact ⟨_, rfl, by simp +contextual (maxDischargeDepth := 99) [hs]⟩

theorem execSuspectClear_kept (t : Time) (s : State) : ∃ u, execSuspectClear t s = .next u ∧ Kept s u := by
  have hs := Kept.refl s
  unfold execSuspectClear
  dsimp only
  (repeat' split) <;> exact ⟨_, rfl, by simp +contextual (maxDischargeDepth := 99) [hs]⟩

theorem execKatNow_kept (t : Time) (okA okB : Bool) (s : State) : ∃ u, execKatNow t okA okB s = .next u ∧ Kept s u := by
  have hs := Kept.refl s
  unfold execKatNow
  dsimp only
  (repeat' split) <;> exact ⟨_, rfl, by simp +contextual (maxDischargeDepth := 99) [hs]⟩

theorem execKatPeriodic_kept (t : Time) (okA okB : Bool) (s : State) : ∃ u, execKatPeriodic t okA okB s = .next u ∧ Kept s u
    := by
  have hs := Kept.refl s
  unfold execKatPeriodic
  dsimp only
  (repeat' split) <;> exact ⟨_, rfl, by simp +contextual (maxDischargeDepth := 99) [hs]⟩

theorem execRejoin_kept (t : Time) (h : Half) (s : State) : ∃ u, execRejoin t h s = .next u ∧ Kept s u := by
  have hs := Kept.refl s
  unfold execRejoin
  dsimp only
  (repeat' split) <;> exact ⟨_, rfl, by simp +contextual (maxDischargeDepth := 99) [hs]⟩

theorem execRejoinDone_kept (t : Time) (h : Half) (ok : Bool) (s : State) : ∃ u, execRejoinDone t h ok s = .next u ∧ Kept s
    u := by
  have hs := Kept.refl s
  unfold execRejoinDone
  dsimp only
  (repeat' split) <;> exact ⟨_, rfl, by simp +contextual (maxDischargeDepth := 99) [hs]⟩

theorem execFence_kept (t : Time) (v : Word) (s : State) : ∃ u, execFence t v s = .next u ∧ Kept s u := by
  have hs := Kept.refl s
  unfold execFence
  dsimp only
  (repeat' split) <;> exact ⟨_, rfl, by simp +contextual (maxDischargeDepth := 99) [hs]⟩

theorem execLaneSelfFail_kept (t : Time) (n : LaneIx) (test : BitVec 16) (s : State) : ∃ u, execLaneSelfFail t n test s =
    .next u ∧ Kept s u := by
  have hs := Kept.refl s
  unfold execLaneSelfFail
  dsimp only
  (repeat' split) <;> exact ⟨_, rfl, by simp +contextual (maxDischargeDepth := 99) [hs]⟩

theorem execAutofence_kept (t : Time) (n : LaneIx) (s : State) : ∃ u, execAutofence t n s = .next u ∧ Kept s u := by
  have hs := Kept.refl s
  unfold execAutofence
  dsimp only
  (repeat' split) <;> exact ⟨_, rfl, by simp +contextual (maxDischargeDepth := 99) [hs]⟩

theorem execSeal_kept (t : Time) (crc : Word) (s : State) : ∃ u, execSeal t crc s = .next u ∧ Kept s u := by
  have hs := Kept.refl s
  unfold execSeal
  dsimp only
  (repeat' split) <;> exact ⟨_, rfl, by simp +contextual (maxDischargeDepth := 99) [hs]⟩

theorem execSealDone_kept (t : Time) (retrain : BitVec 16) (s : State) : ∃ u, execSealDone t retrain s = .next u ∧ Kept s u
    := by
  have hs := Kept.refl s
  unfold execSealDone
  dsimp only
  (repeat' split) <;> exact ⟨_, rfl, by simp +contextual (maxDischargeDepth := 99) [hs]⟩

theorem execPowerOn_kept (t : Time) (s : State) : ∃ u, execPowerOn t s = .next u ∧ Kept s u := by
  have hs := Kept.refl s
  unfold execPowerOn
  dsimp only
  (repeat' split) <;> exact ⟨_, rfl, by simp +contextual (maxDischargeDepth := 99) [hs]⟩

theorem execPorstNRise_kept (t : Time) (straps : BitVec 4) (lockUs : BitVec 16) (s : State) : ∃ u, execPorstNRise t straps
    lockUs s = .next u ∧ Kept s u := by
  have hs := Kept.refl s
  unfold execPorstNRise
  dsimp only
  (repeat' split) <;> exact ⟨_, rfl, by simp +contextual (maxDischargeDepth := 99) [hs]⟩

theorem execPorstNLow_kept (t : Time) (s : State) : ∃ u, execPorstNLow t s = .next u ∧ Kept s u := by
  have hs := Kept.refl s
  unfold execPorstNLow
  dsimp only
  (repeat' split) <;> exact ⟨_, rfl, by simp +contextual (maxDischargeDepth := 99) [hs]⟩

theorem execSoftReset_kept (t : Time) (s : State) : ∃ u, execSoftReset t s = .next u ∧ Kept s u := by
  have hs := Kept.refl s
  unfold execSoftReset
  dsimp only
  (repeat' split) <;> exact ⟨_, rfl, by simp +contextual (maxDischargeDepth := 99) [hs]⟩

theorem execBootExit_kept (t : Time) (r : BootResult) (s : State) : ∃ u, execBootExit t r s = .next u ∧ Kept s u := by
  have hs := Kept.refl s
  unfold execBootExit
  dsimp only
  (repeat' split) <;> exact ⟨_, rfl, by simp +contextual (maxDischargeDepth := 99) [hs]⟩

theorem execArm_kept (t : Time) (s : State) : ∃ u, execArm t s = .next u ∧ Kept s u := by
  have hs := Kept.refl s
  unfold execArm
  dsimp only
  (repeat' split) <;> exact ⟨_, rfl, by simp +contextual (maxDischargeDepth := 99) [hs]⟩

theorem execDisarm_kept (t : Time) (s : State) : ∃ u, execDisarm t s = .next u ∧ Kept s u := by
  have hs := Kept.refl s
  unfold execDisarm
  dsimp only
  (repeat' split) <;> exact ⟨_, rfl, by simp +contextual (maxDischargeDepth := 99) [hs]⟩

theorem execUnseal_kept (t : Time) (s : State) : ∃ u, execUnseal t s = .next u ∧ Kept s u := by
  have hs := Kept.refl s
  unfold execUnseal
  dsimp only
  (repeat' split) <;> exact ⟨_, rfl, by simp +contextual (maxDischargeDepth := 99) [hs]⟩

theorem execStandby_kept (t : Time) (s : State) : ∃ u, execStandby t s = .next u ∧ Kept s u := by
  have hs := Kept.refl s
  unfold execStandby
  dsimp only
  (repeat' split) <;> exact ⟨_, rfl, by simp +contextual (maxDischargeDepth := 99) [hs]⟩

theorem execWake_kept (t : Time) (s : State) : ∃ u, execWake t s = .next u ∧ Kept s u := by
  have hs := Kept.refl s
  unfold execWake
  dsimp only
  (repeat' split) <;> exact ⟨_, rfl, by simp +contextual (maxDischargeDepth := 99) [hs]⟩

theorem execWakeComplete_kept (t : Time) (s : State) : ∃ u, execWakeComplete t s = .next u ∧ Kept s u := by
  have hs := Kept.refl s
  unfold execWakeComplete
  dsimp only
  (repeat' split) <;> exact ⟨_, rfl, by simp +contextual (maxDischargeDepth := 99) [hs]⟩

theorem execSpeedInvalid_kept (t : Time) (s : State) : ∃ u, execSpeedInvalid t s = .next u ∧ Kept s u := by
  have hs := Kept.refl s
  unfold execSpeedInvalid
  dsimp only
  (repeat' split) <;> exact ⟨_, rfl, by simp +contextual (maxDischargeDepth := 99) [hs]⟩

theorem execPfailFall_kept (t : Time) (s : State) : ∃ u, execPfailFall t s = .next u ∧ Kept s u := by
  have hs := Kept.refl s
  unfold execPfailFall
  dsimp only
  (repeat' split) <;> exact ⟨_, rfl, by simp +contextual (maxDischargeDepth := 99) [hs]⟩

theorem execClockLoss_kept (t : Time) (pll : Bool) (s : State) : ∃ u, execClockLoss t pll s = .next u ∧ Kept s u := by
  have hs := Kept.refl s
  unfold execClockLoss
  dsimp only
  (repeat' split) <;> exact ⟨_, rfl, by simp +contextual (maxDischargeDepth := 99) [hs]⟩

theorem execSerdesUnlock_kept (t : Time) (p : Ring) (s : State) : ∃ u, execSerdesUnlock t p s = .next u ∧ Kept s u := by
  have hs := Kept.refl s
  unfold execSerdesUnlock
  dsimp only
  (repeat' split) <;> exact ⟨_, rfl, by simp +contextual (maxDischargeDepth := 99) [hs]⟩

theorem execSupplyOor_kept (t : Time) (i : Supply) (meas : BitVec 16) (s : State) : ∃ u, execSupplyOor t i meas s = .next u
    ∧ Kept s u := by
  have hs := Kept.refl s
  unfold execSupplyOor
  dsimp only
  (repeat' split) <;> exact ⟨_, rfl, by simp +contextual (maxDischargeDepth := 99) [hs]⟩

theorem execSupplyInRange_kept (t : Time) (i : Supply) (x0 : BitVec 16) (s : State) : ∃ u, execSupplyInRange t i x0 s =
    .next u ∧ Kept s u := by
  have hs := Kept.refl s
  exact ⟨_, rfl, by simp +contextual (maxDischargeDepth := 99) [hs]⟩

theorem execTempRead_kept (t : Time) (laneDie : Bool) (temp : BitVec 16) (s : State) : ∃ u, execTempRead t laneDie temp s =
    .next u ∧ Kept s u := by
  have hs := Kept.refl s
  unfold execTempRead
  dsimp only
  (repeat' split) <;> exact ⟨_, rfl, by simp +contextual (maxDischargeDepth := 99) [hs]⟩

theorem execNoChargeTimeout_kept (t : Time) (s : State) : ∃ u, execNoChargeTimeout t s = .next u ∧ Kept s u := by
  have hs := Kept.refl s
  unfold execNoChargeTimeout
  dsimp only
  (repeat' split) <;> exact ⟨_, rfl, by simp +contextual (maxDischargeDepth := 99) [hs]⟩

theorem execSingleHalfStop_kept (t : Time) (s : State) : ∃ u, execSingleHalfStop t s = .next u ∧ Kept s u := by
  have hs := Kept.refl s
  unfold execSingleHalfStop
  dsimp only
  (repeat' split) <;> exact ⟨_, rfl, by simp +contextual (maxDischargeDepth := 99) [hs]⟩

theorem execRegisterWrite_kept (t : Time) (addr : BitVec 24) (v : Word) (s : State) : ∃ u, execRegisterWrite t addr v s =
    .next u ∧ Kept s u := by
  have hs := Kept.refl s
  exact ⟨_, rfl, by simp +contextual (maxDischargeDepth := 99) [hs]⟩

theorem execPageEnable_kept (t : Time) (page : BitVec 12) (s : State) : ∃ u, execPageEnable t page s = .next u ∧ Kept s u :=
    by
  have hs := Kept.refl s
  exact ⟨_, rfl, by simp +contextual (maxDischargeDepth := 99) [hs]⟩

theorem execPageDrain_kept (t : Time) (page : BitVec 12) (drain : Bool) (s : State) : ∃ u, execPageDrain t page drain s =
    .next u ∧ Kept s u := by
  have hs := Kept.refl s
  exact ⟨_, rfl, by simp +contextual (maxDischargeDepth := 99) [hs]⟩

theorem execSoftRst_kept (t : Time) (page : BitVec 12) (s : State) : ∃ u, execSoftRst t page s = .next u ∧ Kept s u := by
  have hs := Kept.refl s
  exact ⟨_, rfl, by simp +contextual (maxDischargeDepth := 99) [hs]⟩

theorem execFreeze_kept (t : Time) (page : BitVec 12) (on : Bool) (s : State) : ∃ u, execFreeze t page on s = .next u ∧ Kept
    s u := by
  have hs := Kept.refl s
  exact ⟨_, rfl, by simp +contextual (maxDischargeDepth := 99) [hs]⟩

theorem execQFlush_kept (t : Time) (v : Word) (s : State) : ∃ u, execQFlush t v s = .next u ∧ Kept s u := by
  have hs := Kept.refl s
  exact ⟨_, rfl, by simp +contextual (maxDischargeDepth := 99) [hs]⟩

theorem execTunGo_kept (t : Time) (v : Word) (s : State) : ∃ u, execTunGo t v s = .next u ∧ Kept s u := by
  have hs := Kept.refl s
  exact ⟨_, rfl, by simp +contextual (maxDischargeDepth := 99) [hs]⟩

theorem execRcRead_kept (t : Time) (addr : BitVec 24) (s : State) : ∃ u, execRcRead t addr s = .next u ∧ Kept s u := by
  have hs := Kept.refl s
  exact ⟨_, rfl, by simp +contextual (maxDischargeDepth := 99) [hs]⟩

theorem execPoseCur0_kept (t : Time) (s : State) : ∃ u, execPoseCur0 t s = .next u ∧ Kept s u := by
  have hs := Kept.refl s
  exact ⟨_, rfl, by simp +contextual (maxDischargeDepth := 99) [hs]⟩

theorem execGeomTrvLo_kept (t : Time) (s : State) : ∃ u, execGeomTrvLo t s = .next u ∧ Kept s u := by
  have hs := Kept.refl s
  exact ⟨_, rfl, by simp +contextual (maxDischargeDepth := 99) [hs]⟩

theorem execSlotStat_kept (t : Time) (s : State) : ∃ u, execSlotStat t s = .next u ∧ Kept s u := by
  have hs := Kept.refl s
  exact ⟨_, rfl, by simp +contextual (maxDischargeDepth := 99) [hs]⟩

theorem execOutLead_kept (t : Time) (s : State) : ∃ u, execOutLead t s = .next u ∧ Kept s u := by
  have hs := Kept.refl s
  exact ⟨_, rfl, by simp +contextual (maxDischargeDepth := 99) [hs]⟩

theorem execSqE0_kept (t : Time) (n : LaneIx) (s : State) : ∃ u, execSqE0 t n s = .next u ∧ Kept s u := by
  have hs := Kept.refl s
  exact ⟨_, rfl, by simp +contextual (maxDischargeDepth := 99) [hs]⟩

theorem execLtrvLo_kept (t : Time) (n : LaneIx) (s : State) : ∃ u, execLtrvLo t n s = .next u ∧ Kept s u := by
  have hs := Kept.refl s
  exact ⟨_, rfl, by simp +contextual (maxDischargeDepth := 99) [hs]⟩

theorem execGPerAct_kept (t : Time) (n : LaneIx) (g : Fin 4) (s : State) : ∃ u, execGPerAct t n g s = .next u ∧ Kept s u :=
    by
  have hs := Kept.refl s
  exact ⟨_, rfl, by simp +contextual (maxDischargeDepth := 99) [hs]⟩

theorem execFbkPos_kept (t : Time) (n : LaneIx) (s : State) : ∃ u, execFbkPos t n s = .next u ∧ Kept s u := by
  have hs := Kept.refl s
  exact ⟨_, rfl, by simp +contextual (maxDischargeDepth := 99) [hs]⟩

theorem execSolTimeLo_kept (t : Time) (h : Half) (s : State) : ∃ u, execSolTimeLo t h s = .next u ∧ Kept s u := by
  have hs := Kept.refl s
  exact ⟨_, rfl, by simp +contextual (maxDischargeDepth := 99) [hs]⟩

theorem execChStat_kept (t : Time) (h : Half) (s : State) : ∃ u, execChStat t h s = .next u ∧ Kept s u := by
  have hs := Kept.refl s
  exact ⟨_, rfl, by simp +contextual (maxDischargeDepth := 99) [hs]⟩

theorem execTpNextRtLo_kept (t : Time) (s : State) : ∃ u, execTpNextRtLo t s = .next u ∧ Kept s u := by
  have hs := Kept.refl s
  exact ⟨_, rfl, by simp +contextual (maxDischargeDepth := 99) [hs]⟩

theorem execRtNowLo_kept (t : Time) (s : State) : ∃ u, execRtNowLo t s = .next u ∧ Kept s u := by
  have hs := Kept.refl s
  exact ⟨_, rfl, by simp +contextual (maxDischargeDepth := 99) [hs]⟩

theorem execFlushRtLo_kept (t : Time) (s : State) : ∃ u, execFlushRtLo t s = .next u ∧ Kept s u := by
  have hs := Kept.refl s
  exact ⟨_, rfl, by simp +contextual (maxDischargeDepth := 99) [hs]⟩

theorem execRecW0_kept (t : Time) (s : State) : ∃ u, execRecW0 t s = .next u ∧ Kept s u := by
  have hs := Kept.refl s
  exact ⟨_, rfl, by simp +contextual (maxDischargeDepth := 99) [hs]⟩

theorem execQItems_kept (t : Time) (s : State) : ∃ u, execQItems t s = .next u ∧ Kept s u := by
  have hs := Kept.refl s
  exact ⟨_, rfl, by simp +contextual (maxDischargeDepth := 99) [hs]⟩

theorem execRd_kept (t : Time) (addr : BitVec 24) (count : Fin 64) (ready : Bool) (s : State) : ∃ u, execRd t addr count
    ready s = .next u ∧ Kept s u := by
  have hs := Kept.refl s
  unfold execRd
  dsimp only
  (repeat' split) <;> exact ⟨_, rfl, by simp +contextual (maxDischargeDepth := 99) [hs]⟩

theorem execRdf_kept (t : Time) (addr : BitVec 24) (count : Fin 64) (ready : Bool) (s : State) : ∃ u, execRdf t addr count
    ready s = .next u ∧ Kept s u := by
  have hs := Kept.refl s
  unfold execRdf
  dsimp only
  (repeat' split) <;> exact ⟨_, rfl, by simp +contextual (maxDischargeDepth := 99) [hs]⟩

theorem execWr_kept (t : Time) (addr : BitVec 24) (data : List Word) (crc : Option Byte) (s : State) : ∃ u, execWr t addr
    data crc s = .next u ∧ Kept s u := by
  have hs := Kept.refl s
  unfold execWr
  dsimp only
  (repeat' split) <;> exact ⟨_, rfl, by simp +contextual (maxDischargeDepth := 99) [hs]⟩

theorem execWrf_kept (t : Time) (addr : BitVec 24) (data : List Word) (crc : Option Byte) (s : State) : ∃ u, execWrf t addr
    data crc s = .next u ∧ Kept s u := by
  have hs := Kept.refl s
  unfold execWrf
  dsimp only
  (repeat' split) <;> exact ⟨_, rfl, by simp +contextual (maxDischargeDepth := 99) [hs]⟩

theorem execUnknownCommand_kept (t : Time) (code : Byte) (s : State) : ∃ u, execUnknownCommand t code s = .next u ∧ Kept s u
    := by
  have hs := Kept.refl s
  unfold execUnknownCommand
  dsimp only
  (repeat' split) <;> exact ⟨_, rfl, by simp +contextual (maxDischargeDepth := 99) [hs]⟩

theorem execQpush_kept (t : Time) (sel : Byte) (desc data : List Byte) (crc : Option Word) (s : State) : ∃ u, execQpush t
    sel desc data crc s = .next u ∧ Kept s u := by
  have hs := Kept.refl s
  unfold execQpush
  dsimp only
  (repeat' split) <;> exact ⟨_, rfl, by simp +contextual (maxDischargeDepth := 99) [hs]⟩

theorem execQpop_kept (t : Time) (sel : Byte) (ackSeq : BitVec 16) (s : State) : ∃ u, execQpop t sel ackSeq s = .next u ∧
    Kept s u := by
  have hs := Kept.refl s
  unfold execQpop
  dsimp only
  (repeat' split) <;> exact ⟨_, rfl, by simp +contextual (maxDischargeDepth := 99) [hs]⟩

theorem execCmpl_kept (t : Time) (ackN maxN : Byte) (s : State) : ∃ u, execCmpl t ackN maxN s = .next u ∧ Kept s u := by
  have hs := Kept.refl s
  unfold execCmpl
  dsimp only
  (repeat' split) <;> exact ⟨_, rfl, by simp +contextual (maxDischargeDepth := 99) [hs]⟩

theorem execQueueAge_kept (t : Time) (q : Fin 32) (s : State) : ∃ u, execQueueAge t q s = .next u ∧ Kept s u := by
  have hs := Kept.refl s
  unfold execQueueAge
  dsimp only
  (repeat' split) <;> exact ⟨_, rfl, by simp +contextual (maxDischargeDepth := 99) [hs]⟩

theorem execHirqHoldoffEnd_kept (t : Time) (s : State) : ∃ u, execHirqHoldoffEnd t s = .next u ∧ Kept s u := by
  have hs := Kept.refl s
  unfold execHirqHoldoffEnd
  dsimp only
  (repeat' split) <;> exact ⟨_, rfl, by simp +contextual (maxDischargeDepth := 99) [hs]⟩

theorem execBulkConfig_kept (t : Time) (s : State) : ∃ u, execBulkConfig t s = .next u ∧ Kept s u := by
  have hs := Kept.refl s
  unfold execBulkConfig
  dsimp only
  (repeat' split) <;> exact ⟨_, rfl, by simp +contextual (maxDischargeDepth := 99) [hs]⟩

theorem execFrameRx_kept (t : Time) (p : Ring) (f : Frame) (s : State) : ∃ u, execFrameRx t p f s = .next u ∧ Kept s u := by
  have hs := Kept.refl s
  exact ⟨_, rfl, by simp +contextual (maxDischargeDepth := 99) [hs]⟩

theorem execRingPoseWord_kept (t : Time) (p : Ring) (f : Frame) (s : State) : ∃ u, execRingPoseWord t p f s = .next u ∧ Kept
    s u := by
  have hs := Kept.refl s
  exact ⟨_, rfl, by simp +contextual (maxDischargeDepth := 99) [hs]⟩

theorem execPresence_kept (t : Time) (p : Ring) (f : Frame) (s : State) : ∃ u, execPresence t p f s = .next u ∧ Kept s u :=
    by
  have hs := Kept.refl s
  exact ⟨_, rfl, by simp +contextual (maxDischargeDepth := 99) [hs]⟩

theorem execStrokeFrame_kept (t : Time) (p : Ring) (f : Frame) (s : State) : ∃ u, execStrokeFrame t p f s = .next u ∧ Kept s
    u := by
  have hs := Kept.refl s
  exact ⟨_, rfl, by simp +contextual (maxDischargeDepth := 99) [hs]⟩

theorem execEnumFull_kept (t : Time) (p : Ring) (f : Frame) (s : State) : ∃ u, execEnumFull t p f s = .next u ∧ Kept s u :=
    by
  have hs := Kept.refl s
  exact ⟨_, rfl, by simp +contextual (maxDischargeDepth := 99) [hs]⟩

theorem execEnumDone_kept (t : Time) (p : Ring) (f : Frame) (s : State) : ∃ u, execEnumDone t p f s = .next u ∧ Kept s u :=
    by
  have hs := Kept.refl s
  exact ⟨_, rfl, by simp +contextual (maxDischargeDepth := 99) [hs]⟩

theorem execJoin_kept (t : Time) (p : Ring) (f : Frame) (s : State) : ∃ u, execJoin t p f s = .next u ∧ Kept s u := by
  have hs := Kept.refl s
  exact ⟨_, rfl, by simp +contextual (maxDischargeDepth := 99) [hs]⟩

theorem execRingDataFrame_kept (t : Time) (p : Ring) (f : Frame) (s : State) : ∃ u, execRingDataFrame t p f s = .next u ∧
    Kept s u := by
  have hs := Kept.refl s
  exact ⟨_, rfl, by simp +contextual (maxDischargeDepth := 99) [hs]⟩

theorem execAckFrame_kept (t : Time) (p : Ring) (f : Frame) (s : State) : ∃ u, execAckFrame t p f s = .next u ∧ Kept s u :=
    by
  have hs := Kept.refl s
  exact ⟨_, rfl, by simp +contextual (maxDischargeDepth := 99) [hs]⟩

theorem execNakFrame_kept (t : Time) (p : Ring) (f : Frame) (s : State) : ∃ u, execNakFrame t p f s = .next u ∧ Kept s u :=
    by
  have hs := Kept.refl s
  exact ⟨_, rfl, by simp +contextual (maxDischargeDepth := 99) [hs]⟩

theorem execQbrSegment_kept (t : Time) (p : Ring) (f : Frame) (s : State) : ∃ u, execQbrSegment t p f s = .next u ∧ Kept s u
    := by
  have hs := Kept.refl s
  exact ⟨_, rfl, by simp +contextual (maxDischargeDepth := 99) [hs]⟩

theorem execTunRequest_kept (t : Time) (p : Ring) (f : Frame) (s : State) : ∃ u, execTunRequest t p f s = .next u ∧ Kept s u
    := by
  have hs := Kept.refl s
  exact ⟨_, rfl, by simp +contextual (maxDischargeDepth := 99) [hs]⟩

theorem execTunResponse_kept (t : Time) (p : Ring) (f : Frame) (s : State) : ∃ u, execTunResponse t p f s = .next u ∧ Kept s
    u := by
  have hs := Kept.refl s
  exact ⟨_, rfl, by simp +contextual (maxDischargeDepth := 99) [hs]⟩

theorem execTunTimeout_kept (t : Time) (s : State) : ∃ u, execTunTimeout t s = .next u ∧ Kept s u := by
  have hs := Kept.refl s
  unfold execTunTimeout
  dsimp only
  (repeat' split) <;> exact ⟨_, rfl, by simp +contextual (maxDischargeDepth := 99) [hs]⟩

theorem execIdcode_kept (t : Time) (s : State) : ∃ u, execIdcode t s = .next u ∧ Kept s u := by
  have hs := Kept.refl s
  exact ⟨_, rfl, by simp +contextual (maxDischargeDepth := 99) [hs]⟩

theorem execExtest_kept (t : Time) (s : State) : ∃ u, execExtest t s = .next u ∧ Kept s u := by
  have hs := Kept.refl s
  exact ⟨_, rfl, by simp +contextual (maxDischargeDepth := 99) [hs]⟩

/-- Every command answers a next state and keeps the queue, the member, being powered and the canonical forms. -/
theorem exec_kept (c : Instr) (s : State) : ∃ u, exec c s = .next u ∧ Kept s u := by
  match c with
  | .powerOn t => exact execPowerOn_kept t s
  | .porstNRise t straps lockUs => exact execPorstNRise_kept t straps lockUs s
  | .porstNLow t => exact execPorstNLow_kept t s
  | .bootExit t r => exact execBootExit_kept t r s
  | .softReset t => exact execSoftReset_kept t s
  | .unseal t => exact execUnseal_kept t s
  | .standby t => exact execStandby_kept t s
  | .wake t => exact execWake_kept t s
  | .wakeComplete t => exact execWakeComplete_kept t s
  | .arm t => exact execArm_kept t s
  | .disarm t => exact execDisarm_kept t s
  | .speedInvalid t => exact execSpeedInvalid_kept t s
  | .pfailFall t => exact execPfailFall_kept t s
  | .pfailSetClose t => exact execPfailSetClose_kept t s
  | .pfailDone t => exact execPfailDone_kept t s
  | .clockLoss t pll => exact execClockLoss_kept t pll s
  | .serdesUnlock t p => exact execSerdesUnlock_kept t p s
  | .supplyOor t x meas => exact execSupplyOor_kept t x meas s
  | .supplyInRange t x meas => exact execSupplyInRange_kept t x meas s
  | .tempRead t laneDie temp => exact execTempRead_kept t laneDie temp s
  | .fence t v => exact execFence_kept t v s
  | .laneSelfFail t n test => exact execLaneSelfFail_kept t n test s
  | .autofence t n => exact execAutofence_kept t n s
  | .noChargeTimeout t => exact execNoChargeTimeout_kept t s
  | .singleHalfStop t => exact execSingleHalfStop_kept t s
  | .safeNFall t n => exact execSafeNFall_kept t n s
  | .safeNRise t n => exact execSafeNRise_kept t n s
  | .idleFlitSend t n d => exact execIdleFlitSend_kept t n d s
  | .idleFlit t n d f => exact execIdleFlit_kept t n d f s
  | .portIdle t n f => exact execPortIdle_kept t n f s
  | .nak t n d f => exact execNak_kept t n d f s
  | .resendTimeout t n d => exact execResendTimeout_kept t n d s
  | .linkLost t n => exact execLinkLost_kept t n s
  | .upQueueHigh t n => exact execUpQueueHigh_kept t n s
  | .evt t n a b => exact execEvt_kept t n a b s
  | .travelUpdate t n fs => exact execTravelUpdate_kept t n fs s
  | .epochAdv t n f => exact execEpochAdv_kept t n f s
  | .qend t n f => exact execQend_kept t n f s
  | .drain t n f => exact execDrain_kept t n f s
  | .drainEnd t n => exact execDrainEnd_kept t n s
  | .drExpired t n => exact execDrExpired_kept t n s
  | .spDem t n f => exact execSpDem_kept t n f s
  | .evtAck t n f => exact execEvtAck_kept t n f s
  | .evtFull t n f => exact execEvtFull_kept t n f s
  | .holdReoffer t => exact execHoldReoffer_kept t s
  | .fireReport t n fs => exact execFireReport_kept t n fs s
  | .qclr t n f => exact execQclr_kept t n f s
  | .motion t n fs => exact execMotion_kept t n fs s
  | .dly t n f => exact execDly_kept t n f s
  | .peakRpt t n f => exact execPeakRpt_kept t n f s
  | .reaim t n => exact execReaim_kept t n s
  | .fire t n sm => exact execFire_kept t n sm s
  | .poseWord t hitch peer => exact execPoseWord_kept t hitch peer s
  | .travelCompute t => exact execTravelCompute_kept t s
  | .ringPoseWord t p f => exact execRingPoseWord_kept t p f s
  | .ringMiss t => exact execRingMiss_kept t s
  | .gsEdge t b rise stamp => exact execGsEdge_kept t b rise stamp s
  | .imuInt t rise => exact execImuInt_kept t rise s
  | .imuBurstDone t bytes => exact execImuBurstDone_kept t bytes s
  | .imuLost t => exact execImuLost_kept t s
  | .solutionLost t => exact execSolutionLost_kept t s
  | .coastExpired t => exact execCoastExpired_kept t s
  | .gnssLost t h => exact execGnssLost_kept t h s
  | .spdDisagree t => exact execSpdDisagree_kept t s
  | .imuCoastEnd t => exact execImuCoastEnd_kept t s
  | .hitchDisagree t => exact execHitchDisagree_kept t s
  | .gnssSolution t h sol ts => exact execGnssSolution_kept t h sol ts s
  | .measurement t ms asg o => exact execMeasurement_kept t ms asg o s
  | .rtcmFrame t => exact execRtcmFrame_kept t s
  | .gifClkCheck t count => exact execGifClkCheck_kept t count s
  | .agcUpdate t m1 m5 => exact execAgcUpdate_kept t m1 m5 s
  | .burstStart t => exact execBurstStart_kept t s
  | .burstEnd t => exact execBurstEnd_kept t s
  | .pulsePrepare t => exact execPulsePrepare_kept t s
  | .tpulse t => exact execTpulse_kept t s
  | .tpulseB t => exact execTpulseB_kept t s
  | .timeHoldover t => exact execTimeHoldover_kept t s
  | .timeExpired t => exact execTimeExpired_kept t s
  | .footprintTick t ecc ain0 ain1 => exact execFootprintTick_kept t ecc ain0 ain1 s
  | .tileEffect t cov => exact execTileEffect_kept t cov s
  | .demandPhase t => exact execDemandPhase_kept t s
  | .decisionPhase t ecc dur => exact execDecisionPhase_kept t ecc dur s
  | .strokeForm t => exact execStrokeForm_kept t s
  | .decisionDigest t dec slots => exact execDecisionDigest_kept t dec slots s
  | .xchkIdentify t okA okB => exact execXchkIdentify_kept t okA okB s
  | .suspectClear t => exact execSuspectClear_kept t s
  | .noMotion t j => exact execNoMotion_kept t j s
  | .rateSwap t => exact execRateSwap_kept t s
  | .tileItem t cov => exact execTileItem_kept t cov s
  | .tileRequestPost t => exact execTileRequestPost_kept t s
  | .requestRetry t slot => exact execRequestRetry_kept t slot s
  | .evictPost t => exact execEvictPost_kept t s
  | .spillPost t => exact execSpillPost_kept t s
  | .strokeFrame t p f => exact execStrokeFrame_kept t p f s
  | .scrub t ecc => exact execScrub_kept t ecc s
  | .flush t => exact execFlush_kept t s
  | .advJob t => exact execAdvJob_kept t s
  | .peakGrant t n sm => exact execPeakGrant_kept t n sm s
  | .peakWaitTimeout t n k => exact execPeakWaitTimeout_kept t n k s
  | .phaseEndCurrent t n k sm => exact execPhaseEndCurrent_kept t n k sm s
  | .phaseEndTime t n k sm => exact execPhaseEndTime_kept t n k sm s
  | .peakTmo t n k sm => exact execPeakTmo_kept t n k sm s
  | .chopToggle t n k sm => exact execChopToggle_kept t n k sm s
  | .stepDownEnd t n k sm => exact execStepDownEnd_kept t n k sm s
  | .decayEnd t n k sm => exact execDecayEnd_kept t n k sm s
  | .decayTmo t n k sm => exact execDecayTmo_kept t n k sm s
  | .overCurrent t n k sm => exact execOverCurrent_kept t n k sm s
  | .faultRetry t n k sm => exact execFaultRetry_kept t n k sm s
  | .faultClr t n v => exact execFaultClr_kept t n v s
  | .clampDemote t n vb va => exact execClampDemote_kept t n vb va s
  | .vbstNotReady t n vb va => exact execVbstNotReady_kept t n vb va s
  | .gridOpening t n k sm => exact execGridOpening_kept t n k sm s
  | .pulseClose t n k sm => exact execPulseClose_kept t n k sm s
  | .propPeriod t n k sm => exact execPropPeriod_kept t n k sm s
  | .openWindowStart t n k => exact execOpenWindowStart_kept t n k s
  | .openWindowEnd t n k => exact execOpenWindowEnd_kept t n k s
  | .closeWindowStart t n k => exact execCloseWindowStart_kept t n k s
  | .closeWindowEnd t n k => exact execCloseWindowEnd_kept t n k s
  | .dipConfirmed t n k sm => exact execDipConfirmed_kept t n k sm s
  | .kinkFound t n k vs => exact execKinkFound_kept t n k vs s
  | .relearn t n k off => exact execRelearn_kept t n k off s
  | .valveStuck t n k => exact execValveStuck_kept t n k s
  | .closeFail t n k => exact execCloseFail_kept t n k s
  | .reload t n g => exact execReload_kept t n g s
  | .gCmpWrite t n g v => exact execGCmpWrite_kept t n g v s
  | .gPerWrite t n g v => exact execGPerWrite_kept t n g v s
  | .commit t n v => exact execCommit_kept t n v s
  | .gModeWrite t n g v => exact execGModeWrite_kept t n g v s
  | .generatorEnable t n g => exact execGeneratorEnable_kept t n g s
  | .syncPulse t src => exact execSyncPulse_kept t src s
  | .loopTrigger t n ain isns => exact execLoopTrigger_kept t n ain isns s
  | .hallChange t n x => exact execHallChange_kept t n x s
  | .commDrStep t n => exact execCommDrStep_kept t n s
  | .loopSwap t n v => exact execLoopSwap_kept t n v s
  | .restart t n => exact execRestart_kept t n s
  | .coefWrite t n x v => exact execCoefWrite_kept t n x v s
  | .quadEdge t n x => exact execQuadEdge_kept t n x s
  | .pulseEdge t n x => exact execPulseEdge_kept t n x s
  | .index t n x => exact execIndex_kept t n x s
  | .wireDisagree t n c hold => exact execWireDisagree_kept t n c hold s
  | .speedUpdate t n => exact execSpeedUpdate_kept t n s
  | .posLoad t n v => exact execPosLoad_kept t n v s
  | .emStep t n => exact execEmStep_kept t n s
  | .heartbeatSend t h => exact execHeartbeatSend_kept t h s
  | .heartbeatCheck t h arr => exact execHeartbeatCheck_kept t h arr s
  | .heartbeatLoss t h => exact execHeartbeatLoss_kept t h s
  | .selfFault t h => exact execSelfFault_kept t h s
  | .tokenCopyError t c0 c1 c2 => exact execTokenCopyError_kept t c0 c1 c2 s
  | .claim t => exact execClaim_kept t s
  | .conflictEnd t => exact execConflictEnd_kept t s
  | .takeover t => exact execTakeover_kept t s
  | .handover t => exact execHandover_kept t s
  | .katNow t okA okB => exact execKatNow_kept t okA okB s
  | .katPeriodic t okA okB => exact execKatPeriodic_kept t okA okB s
  | .rejoin t h => exact execRejoin_kept t h s
  | .rejoinDone t h ok => exact execRejoinDone_kept t h ok s
  | .linkDown t p x => exact execLinkDown_kept t p x s
  | .linkUp t p sets => exact execLinkUp_kept t p sets s
  | .rfault t p => exact execRfault_kept t p s
  | .wrap t p => exact execWrap_kept t p s
  | .unwrap t p linkOk => exact execUnwrap_kept t p linkOk s
  | .topo t p gen orig => exact execTopo_kept t p gen orig s
  | .frameRx t p f => exact execFrameRx_kept t p f s
  | .frameSend t p => exact execFrameSend_kept t p s
  | .enum t => exact execEnum_kept t s
  | .enumJoin t => exact execEnumJoin_kept t s
  | .enumFull t p f => exact execEnumFull_kept t p f s
  | .enumDone t p f => exact execEnumDone_kept t p f s
  | .join t p f => exact execJoin_kept t p f s
  | .enumRetry t => exact execEnumRetry_kept t s
  | .presenceSend t => exact execPresenceSend_kept t s
  | .presence t p f => exact execPresence_kept t p f s
  | .nodeAbsent t node => exact execNodeAbsent_kept t node s
  | .ringDataFrame t p f => exact execRingDataFrame_kept t p f s
  | .ackFrame t p f => exact execAckFrame_kept t p f s
  | .nakFrame t p f => exact execNakFrame_kept t p f s
  | .ackTimeout t dst cls => exact execAckTimeout_kept t dst cls s
  | .strokeReturn t p f => exact execStrokeReturn_kept t p f s
  | .ringItemEgress t q => exact execRingItemEgress_kept t q s
  | .qbrSegment t p f => exact execQbrSegment_kept t p f s
  | .tunGo t v => exact execTunGo_kept t v s
  | .tunRequest t p f => exact execTunRequest_kept t p f s
  | .tunResponse t p f => exact execTunResponse_kept t p f s
  | .tunTimeout t => exact execTunTimeout_kept t s
  | .syncSend t p => exact execSyncSend_kept t p s
  | .sync t p data => exact execSync_kept t p data s
  | .rtHold t => exact execRtHold_kept t s
  | .delayMeasure t p => exact execDelayMeasure_kept t p s
  | .dreq t p seq t2 => exact execDreq_kept t p seq t2 s
  | .dresp t p seq turn => exact execDresp_kept t p seq turn s
  | .rd t addr count ready => exact execRd_kept t addr count ready s
  | .rdf t addr count ready => exact execRdf_kept t addr count ready s
  | .wr t addr data crc => exact execWr_kept t addr data crc s
  | .wrf t addr data crc => exact execWrf_kept t addr data crc s
  | .qpush t sel desc data crc => exact execQpush_kept t sel desc data crc s
  | .qpop t sel ackSeq => exact execQpop_kept t sel ackSeq s
  | .cmpl t ackN maxN => exact execCmpl_kept t ackN maxN s
  | .unknownCommand t code => exact execUnknownCommand_kept t code s
  | .qFlush t v => exact execQFlush_kept t v s
  | .queueAge t q => exact execQueueAge_kept t q s
  | .hirqHoldoffEnd t => exact execHirqHoldoffEnd_kept t s
  | .bulkConfig t => exact execBulkConfig_kept t s
  | .mkTx t k w => exact execMkTx_kept t k w s
  | .db t k => exact execDb_kept t k s
  | .mailboxTaken t k => exact execMailboxTaken_kept t k s
  | .mailboxReply t k => exact execMailboxReply_kept t k s
  | .mkRx t k => exact execMkRx_kept t k s
  | .getInfo t k => exact execGetInfo_kept t k s
  | .echo t k => exact execEcho_kept t k s
  | .norRead t k => exact execNorRead_kept t k s
  | .norErase t k => exact execNorErase_kept t k s
  | .norWrite t k => exact execNorWrite_kept t k s
  | .norCrc t k => exact execNorCrc_kept t k s
  | .dirSet t k => exact execDirSet_kept t k s
  | .patchStage t k => exact execPatchStage_kept t k s
  | .patchSelect t k => exact execPatchSelect_kept t k s
  | .cfgSave t k => exact execCfgSave_kept t k s
  | .cfgClear t k => exact execCfgClear_kept t k s
  | .logRead t k => exact execLogRead_kept t k s
  | .abort t k => exact execAbort_kept t k s
  | .keyRevoke t k => exact execKeyRevoke_kept t k s
  | .longCommandEnd t => exact execLongCommandEnd_kept t s
  | .payloadTimeout t => exact execPayloadTimeout_kept t s
  | .norOpDone t => exact execNorOpDone_kept t s
  | .norTimeout t => exact execNorTimeout_kept t s
  | .record t code page h a0 a1 a2 => exact execRecord_kept t code page h a0 a1 a2 s
  | .bucketRefill t => exact execBucketRefill_kept t s
  | .yewFlush t => exact execYewFlush_kept t s
  | .streamPost t => exact execStreamPost_kept t s
  | .seal t crc => exact execSeal_kept t crc s
  | .sealDone t retrain => exact execSealDone_kept t retrain s
  | .pageEnable t page => exact execPageEnable_kept t page s
  | .pageDrain t page drain => exact execPageDrain_kept t page drain s
  | .softRst t page => exact execSoftRst_kept t page s
  | .freeze t page on => exact execFreeze_kept t page on s
  | .registerWrite t addr v => exact execRegisterWrite_kept t addr v s
  | .rcRead t addr => exact execRcRead_kept t addr s
  | .poseCur0 t => exact execPoseCur0_kept t s
  | .geomTrvLo t => exact execGeomTrvLo_kept t s
  | .slotStat t => exact execSlotStat_kept t s
  | .outLead t => exact execOutLead_kept t s
  | .sqE0 t n => exact execSqE0_kept t n s
  | .ltrvLo t n => exact execLtrvLo_kept t n s
  | .gPerAct t n g => exact execGPerAct_kept t n g s
  | .fbkPos t n => exact execFbkPos_kept t n s
  | .solTimeLo t h => exact execSolTimeLo_kept t h s
  | .chStat t h => exact execChStat_kept t h s
  | .tpNextRtLo t => exact execTpNextRtLo_kept t s
  | .rtNowLo t => exact execRtNowLo_kept t s
  | .flushRtLo t => exact execFlushRtLo_kept t s
  | .recW0 t => exact execRecW0_kept t s
  | .qItems t => exact execQItems_kept t s
  | .idcode t => exact execIdcode_kept t s
  | .extest t => exact execExtest_kept t s
  | .estimatedClosing t n k => exact execEstimatedClosing_kept t n k s
  | .vbstReady t n vb va => exact execVbstReady_kept t n vb va s
  | .demotionEnd t n vb va => exact execDemotionEnd_kept t n vb va s
  | .wireDisagreeEnd t n c => exact execWireDisagreeEnd_kept t n c s

end Sys2Proof.Machine
end

