-- ==== Sys2Proof/Laws/Only.lean ====
section
/-! SUPPORT. What an operation may change (`Only` of Safety.lean): the lemmas about the relation, the register addresses of each page, and the shared operations. -/
set_option maxRecDepth 40000
set_option linter.unusedSimpArgs false
set_option linter.unusedVariables false
namespace Sys2Proof.Machine

variable {m : May} {s u : State}

/-- An event field that a command may set: its register, and its page for the raw bit. -/
def EvtOk (m : May) (f : Fld) : Prop := m.reg f.addr ∧ m.page (f.addr / 4096)

theorem page_lit {p : Nat} (h : p ∈ m.pages) (hp : p < 256) : m.page p := by
  unfold May.page
  rw [if_pos hp]
  exact h

theorem page_lane {p : Nat} {n : LaneIx} (h : n ∈ m.lanes) (h1 : 256 ≤ p) (h2 : p < 352) (hp : n.val = p % 16) : m.page p :=
    by
  unfold May.page
  rw [if_neg (by omega)]
  exact ⟨n, h, hp⟩

@[simp] theorem page_lit0 (h : 0 ∈ m.pages) : m.page 0 := page_lit h (of_decide_eq_true rfl)

@[simp] theorem page_lit1 (h : 1 ∈ m.pages) : m.page 1 := page_lit h (of_decide_eq_true rfl)

@[simp] theorem page_lit2 (h : 2 ∈ m.pages) : m.page 2 := page_lit h (of_decide_eq_true rfl)

@[simp] theorem page_lit3 (h : 3 ∈ m.pages) : m.page 3 := page_lit h (of_decide_eq_true rfl)

@[simp] theorem page_lit4 (h : 4 ∈ m.pages) : m.page 4 := page_lit h (of_decide_eq_true rfl)

@[simp] theorem page_lit5 (h : 5 ∈ m.pages) : m.page 5 := page_lit h (of_decide_eq_true rfl)

@[simp] theorem page_lit6 (h : 6 ∈ m.pages) : m.page 6 := page_lit h (of_decide_eq_true rfl)

@[simp] theorem page_lit7 (h : 7 ∈ m.pages) : m.page 7 := page_lit h (of_decide_eq_true rfl)

@[simp] theorem page_lit8 (h : 8 ∈ m.pages) : m.page 8 := page_lit h (of_decide_eq_true rfl)

@[simp] theorem page_lit9 (h : 9 ∈ m.pages) : m.page 9 := page_lit h (of_decide_eq_true rfl)

@[simp] theorem page_lit10 (h : 10 ∈ m.pages) : m.page 10 := page_lit h (of_decide_eq_true rfl)

@[simp] theorem page_lit11 (h : 11 ∈ m.pages) : m.page 11 := page_lit h (of_decide_eq_true rfl)

@[simp] theorem page_lit16 (h : 16 ∈ m.pages) : m.page 16 := page_lit h (of_decide_eq_true rfl)

@[simp] theorem page_lit17 (h : 17 ∈ m.pages) : m.page 17 := page_lit h (of_decide_eq_true rfl)

@[simp] theorem page_lit18 (h : 18 ∈ m.pages) : m.page 18 := page_lit h (of_decide_eq_true rfl)

@[simp] theorem page_lit19 (h : 19 ∈ m.pages) : m.page 19 := page_lit h (of_decide_eq_true rfl)

@[simp] theorem page_lit20 (h : 20 ∈ m.pages) : m.page 20 := page_lit h (of_decide_eq_true rfl)

@[simp] theorem page_lit21 (h : 21 ∈ m.pages) : m.page 21 := page_lit h (of_decide_eq_true rfl)

@[simp] theorem page_lit22 (h : 22 ∈ m.pages) : m.page 22 := page_lit h (of_decide_eq_true rfl)

@[simp] theorem page_lit23 (h : 23 ∈ m.pages) : m.page 23 := page_lit h (of_decide_eq_true rfl)

@[simp] theorem page_lit24 (h : 24 ∈ m.pages) : m.page 24 := page_lit h (of_decide_eq_true rfl)

@[simp] theorem page_lit25 (h : 25 ∈ m.pages) : m.page 25 := page_lit h (of_decide_eq_true rfl)

@[simp] theorem page_lit26 (h : 26 ∈ m.pages) : m.page 26 := page_lit h (of_decide_eq_true rfl)

@[simp] theorem page_lit27 (h : 27 ∈ m.pages) : m.page 27 := page_lit h (of_decide_eq_true rfl)

@[simp] theorem page_lit28 (h : 28 ∈ m.pages) : m.page 28 := page_lit h (of_decide_eq_true rfl)

theorem home_off {p o : Nat} (ho : o < 256) : home (p * 4096 + o) % 4096 = o := by
  have e : home (p * 4096 + o) = p * 4096 + o := by
    unfold home
    rw [if_neg (by omega), if_neg (by omega)]
  rw [e]
  omega

theorem home_page {p o : Nat} (ho : o < 256) : home (p * 4096 + o) / 4096 = p := by
  have e : home (p * 4096 + o) = p * 4096 + o := by
    unfold home
    rw [if_neg (by omega), if_neg (by omega)]
  rw [e]
  omega

@[simp] theorem reg_hdr_stat {p : Nat} (h : m.page p) : m.reg (hdr p HDR.PG_STAT) := by
  unfold May.reg hdr HDR.PG_STAT; rw [home_page (by omega), home_off (by omega)]; exact ⟨h, Or.inr (of_decide_eq_true rfl)⟩

@[simp] theorem reg_hdr_raw {p : Nat} (h : m.page p) : m.reg (hdr p HDR.PG_IRQ_RAW) := by
  unfold May.reg hdr HDR.PG_IRQ_RAW; rw [home_page (by omega), home_off (by omega)]; exact ⟨h, Or.inr (of_decide_eq_true rfl)⟩

@[simp] theorem reg_hdr_err {p : Nat} (h : m.page p) : m.reg (hdr p HDR.PG_ERR_FIRST) := by
  unfold May.reg hdr HDR.PG_ERR_FIRST; rw [home_page (by omega), home_off (by omega)]; exact ⟨h, Or.inr (of_decide_eq_true rfl)⟩

@[simp] theorem reg_hdr_pct {p : Nat} (h : m.page p) : m.reg (hdr p HDR.PG_PROG_PCT) := by
  unfold May.reg hdr HDR.PG_PROG_PCT; rw [home_page (by omega), home_off (by omega)]; exact ⟨h, Or.inr (of_decide_eq_true rfl)⟩

@[simp] theorem reg_hdr_pos {p : Nat} (h : m.page p) : m.reg (hdr p HDR.PG_PROG_POS) := by
  unfold May.reg hdr HDR.PG_PROG_POS; rw [home_page (by omega), home_off (by omega)]; exact ⟨h, Or.inr (of_decide_eq_true rfl)⟩

@[simp] theorem reg_hdr_epoch {p : Nat} (h : m.page p) : m.reg (hdr p HDR.PG_EPOCH) := by
  unfold May.reg hdr HDR.PG_EPOCH; rw [home_page (by omega), home_off (by omega)]; exact ⟨h, Or.inr (of_decide_eq_true rfl)⟩

theorem reg_lit {a p : Nat} (e : home a / 4096 = p ∧ a / 4096 = p ∧ runtimeOff (home a % 4096) = true) (h : p ∈ m.pages) (hp
    : p < 256) :
    m.reg a := by
  unfold May.reg
  rw [e.1]
  exact ⟨page_lit h hp, Or.inr e.2.2⟩

theorem reg_lane {a : Nat} {n : LaneIx} (h : n ∈ m.lanes) (h1 : 0x100000 ≤ a) (h2 : a < 0x160000) (hp : n.val = a / 4096 %
    16)
    (ho : 0x800 ≤ a % 4096) : m.reg a := by
  have e : home a = a := by
    unfold home
    rw [if_neg (by omega), if_neg (by omega)]
  unfold May.reg
  rw [e]
  exact ⟨page_lane h (by omega) (by omega) hp, Or.inr (by simp [runtimeOff, ho])⟩

theorem evt_lit {a p hi lo : Nat} (e : home a / 4096 = p ∧ a / 4096 = p ∧ runtimeOff (home a % 4096) = true) (h : p ∈
    m.pages) (hp : p < 256) : EvtOk m ⟨a, hi, lo⟩ := by
  refine ⟨reg_lit e h hp, ?_⟩
  show m.page (a / 4096)
  rw [e.2.1]
  exact page_lit h hp

theorem evt_alias {a hi lo : Nat} (e : home a / 4096 = 8 ∧ a / 4096 = 9 ∧ runtimeOff (home a % 4096) = true) (h : 8 ∈
    m.pages)
    (h2 : 9 ∈ m.pages) : EvtOk m ⟨a, hi, lo⟩ := by
  refine ⟨?_, ?_⟩
  · show m.page (home a / 4096) ∧ _
    rw [e.1]
    exact ⟨page_lit h (of_decide_eq_true rfl), Or.inr e.2.2⟩
  · show m.page (a / 4096)
    rw [e.2.1]
    exact page_lit h2 (of_decide_eq_true rfl)

theorem evt_lane {a hi lo : Nat} {n : LaneIx} (h : n ∈ m.lanes) (h1 : 0x100000 ≤ a) (h2 : a < 0x160000) (hp : n.val = a /
    4096 % 16)
    (ho : 0x800 ≤ a % 4096) : EvtOk m ⟨a, hi, lo⟩ := by
  refine ⟨reg_lane h h1 h2 hp ho, ?_⟩
  show m.page (a / 4096)
  exact page_lane h (by omega) (by omega) hp

@[simp] theorem unless_mem {f : Field} {α : Type} {a b : α} (h : f ∈ m.fields) : Unless m f a b := fun c => absurd h c

@[simp] theorem unlessVec_set {f : Field} {α : Type} {x y : Vector α 16} (h : UnlessVec m f x y) (hf : f ∈ m.fields) (n :
    LaneIx)
    (hn : n ∈ m.lanes) (a : α) : UnlessVec m f (x.set n a) y := by
  refine ⟨fun c => absurd hf c, fun j hj => ?_⟩
  rw [← h.2 j hj]
  show (x.set n a)[j] = x[j]
  simp only [Fin.getElem_fin]
  rw [Vector.getElem_set_ne]
  intro e
  exact hj (by rw [← Fin.ext e]; exact hn)

@[simp] theorem unlessVec_vmod {f : Field} {α : Type} {x y : Vector α 16} (h : UnlessVec m f x y) (hf : f ∈ m.fields) (n :
    LaneIx)
    (hn : n ∈ m.lanes) (g : α → α) : UnlessVec m f (vmod x n g) y := unlessVec_set h hf n hn _

@[simp] theorem unlessVec_all {f : Field} {α : Type} {x y : Vector α 16} (hf : f ∈ m.fields) (ha : ∀ n : LaneIx, n ∈
    m.lanes) :
    UnlessVec m f x y := ⟨fun c => absurd hf c, fun n hn => absurd (ha n) hn⟩

@[simp] theorem onlyRegs_set {x : Sparse Word} (h : OnlyRegs m s x) (k : Nat) (w : Word) (hk : m.reg k) (hr : Field.regs ∈
    m.fields) :
    OnlyRegs m s (Sparse.set regReset x (home k) w) := by
  refine ⟨fun c => absurd hr c, fun c => ?_⟩
  obtain ⟨a, b⟩ := h.2 c
  refine ⟨Sparse.wf_set a, fun j hj => ?_⟩
  rw [← b j hj]
  apply Sparse.get_set_ne a
  intro e
  apply hj
  unfold May.reg at hk ⊢
  rw [e]
  exact hk

theorem Only.refl (m : May) (s : State) : Only m s s := by
  constructor <;> first | exact fun _ => rfl | exact ⟨fun _ => rfl, fun _ _ => rfl⟩ | exact ⟨fun _ => rfl, fun h => ⟨h, fun _ _ => rfl⟩⟩

@[simp] theorem rg_press (p : Fin 2) (h : 27 ∈ m.pages) : m.reg (RATE.PROD_PRESS p.val) := by
  match p with
  | 0 => exact reg_lit (of_decide_eq_true rfl) h (of_decide_eq_true rfl)
  | 1 => exact reg_lit (of_decide_eq_true rfl) h (of_decide_eq_true rfl)

@[simp] theorem rg_pulse (p : Fin 2) (h : 27 ∈ m.pages) : m.reg (RATE.PROD_PULSE p.val) := by
  match p with
  | 0 => exact reg_lit (of_decide_eq_true rfl) h (of_decide_eq_true rfl)
  | 1 => exact reg_lit (of_decide_eq_true rfl) h (of_decide_eq_true rfl)

@[simp] theorem rg_demand0 (h : 27 ∈ m.pages) : m.reg (RATE.PROD_DEMAND 0) := reg_lit (of_decide_eq_true rfl) h (of_decide_eq_true rfl)

@[simp] theorem rg_demand1 (h : 27 ∈ m.pages) : m.reg (RATE.PROD_DEMAND 1) := reg_lit (of_decide_eq_true rfl) h (of_decide_eq_true rfl)

@[simp] theorem rg_gcfg (n : LaneIx) (g : Fin 4) (h : n ∈ m.lanes) (hc : m.cfg = true) : m.reg (PWMG.G_CFG.EN n.val
    g.val).addr := by
  have hn := n.isLt
  have hg := g.isLt
  have e : home ((0x120 + n.val) * 4096 + 0x110 + 4 * g.val) = (0x120 + n.val) * 4096 + 0x110 + 4 * g.val := by
    unfold home
    rw [if_neg (by omega), if_neg (by omega)]
  show m.reg ((0x120 + n.val) * 4096 + 0x110 + 4 * g.val)
  unfold May.reg
  rw [e]
  exact ⟨page_lane h (by omega) (by omega) (by omega), Or.inl hc⟩

@[simp low] theorem only_mk (x0 : List Instr) (x1 : Time) (x2 : Member) (x3 : DevState) (x4 : DevState) (x5 : Time) (x6 : List (Time ×
    DevState)) (x7 : Sparse Word) (x8 : Sparse Word) (x9 : Sparse Word) (x10 : Nat) (x11 : Sparse Nat) (x12 : Bool) (x13 :
    Option Balls) (x14 : Bool) (x15 : Bool) (x16 : Vector Bool 6) (x17 : Bool) (x18 : Bool) (x19 : Option Time) (x20 : Bool)
    (x21 : Bool) (x22 : Word) (x23 : Sparse Word) (x24 : Option (Nat × Nat)) (x25 : Nat) (x26 : Option Time) (x27 : Bool)
    (x28 : Vector Bool 2) (x29 : Vector YewCopy 2) (x30 : YewPort) (x31 : Sparse Word) (x32 : Vector Queue 32) (x33 : List
    Completion) (x34 : List Completion) (x35 : Nat) (x36 : Bool) (x37 : Time) (x38 : Vector Mailbox 8) (x39 : NorState) (x40
    : LaurelState) (x41 : Vector LaneState 16) (x42 : Vector BankState 16) (x43 : Vector PwmState 16) (x44 : Vector EngState
    16) (x45 : Vector FbkState 16) (x46 : Option Time) (x47 : Option Time) (x48 : PoseState) (x49 : ImuState) (x50 :
    TravState) (x51 : FpeState) (x52 : GnssState) (x53 : TimeState) (x54 : MapState) (x55 : Vector PortState 2) (x56 :
    RingState) (x57 : RTimeState) (x58 : RTunState) (x59 : List Byte) (x60 : Word) (x61 : Word) (x62 : Bool) :
    Only m s (State.mk x0 x1 x2 x3 x4 x5 x6 x7 x8 x9 x10 x11 x12 x13 x14 x15 x16 x17 x18 x19 x20 x21 x22 x23 x24 x25 x26 x27 x28 x29 x30 x31 x32 x33 x34 x35 x36 x37 x38 x39 x40 x41 x42 x43 x44 x45 x46 x47 x48 x49 x50 x51 x52 x53 x54 x55 x56 x57 x58 x59 x60 x61 x62) ↔ Unless m .pending x0 s.pending ∧ Unless m .now x1 s.now ∧ Unless m .member x2 s.member ∧ Unless m .dev x3 s.dev ∧ Unless m .prev x4 s.prev ∧ Unless m .devAt x5 s.devAt ∧ Unless m .devLog x6 s.devLog ∧ OnlyRegs m s x7 ∧ Unless m .frozen x8 s.frozen ∧ Unless m .held x9 s.held ∧ Unless m .freeIdx x10 s.freeIdx ∧ Unless m .firstSeen x11 s.firstSeen ∧ Unless m .pfail x12 s.pfail ∧ Unless m .pfailBalls x13 s.pfailBalls ∧ Unless m .clockLost x14 s.clockLost ∧ Unless m .supplySafe x15 s.supplySafe ∧ Unless m .inRange x16 s.inRange ∧ Unless m .idleDrain x17 s.idleDrain ∧ Unless m .ctrlDue x18 s.ctrlDue ∧ Unless m .waking x19 s.waking ∧ Unless m .patchOk x20 s.patchOk ∧ Unless m .checking x21 s.checking ∧ Unless m .sealExp x22 s.sealExp ∧ Unless m .sealSnap x23 s.sealSnap ∧ Unless m .sealFail x24 s.sealFail ∧ Unless m .spdRun x25 s.spdRun ∧ Unless m .qualLow x26 s.qualLow ∧ Unless m .romFail x27 s.romFail ∧ Unless m .tempSeen x28 s.tempSeen ∧ Unless m .yew x29 s.yew ∧ Unless m .yewPort x30 s.yewPort ∧ Unless m .yewCfg x31 s.yewCfg ∧ Unless m .hq x32 s.hq ∧ Unless m .cmpl x33 s.cmpl ∧ Unless m .cmplWait x34 s.cmplWait ∧ Unless m .dropQ x35 s.dropQ ∧ Unless m .hirqLow x36 s.hirqLow ∧ Unless m .hirqRose x37 s.hirqRose ∧ Unless m .mbox x38 s.mbox ∧ Unless m .nor x39 s.nor ∧ Unless m .laurel x40 s.laurel ∧ UnlessVec m .lanes x41 s.lanes ∧ UnlessVec m .banks x42 s.banks ∧ UnlessVec m .pwm x43 s.pwm ∧ UnlessVec m .eng x44 s.eng ∧ UnlessVec m .fbk x45 s.fbk ∧ Unless m .syncIn x46 s.syncIn ∧ Unless m .syncOut x47 s.syncOut ∧ Unless m .pose x48 s.pose ∧ Unless m .imu x49 s.imu ∧ Unless m .trav x50 s.trav ∧ Unless m .fpe x51 s.fpe ∧ Unless m .gnss x52 s.gnss ∧ Unless m .time x53 s.time ∧ Unless m .map x54 s.map ∧ Unless m .ports x55 s.ports ∧ Unless m .ring x56 s.ring ∧ Unless m .rtime x57 s.rtime ∧ Unless m .rtun x58 s.rtun ∧ Unless m .hostTx x59 s.hostTx ∧ Unless m .lastRead x60 s.lastRead ∧ Unless m .tdo x61 s.tdo ∧ Unless m .extest x62 s.extest :=
  ⟨fun h => ⟨h.pending, h.now, h.member, h.dev, h.prev, h.devAt, h.devLog, h.regs, h.frozen, h.held, h.freeIdx, h.firstSeen, h.pfail, h.pfailBalls, h.clockLost, h.supplySafe, h.inRange, h.idleDrain, h.ctrlDue, h.waking, h.patchOk, h.checking, h.sealExp, h.sealSnap, h.sealFail, h.spdRun, h.qualLow, h.romFail, h.tempSeen, h.yew, h.yewPort, h.yewCfg, h.hq, h.cmpl, h.cmplWait, h.dropQ, h.hirqLow, h.hirqRose, h.mbox, h.nor, h.laurel, h.lanes, h.banks, h.pwm, h.eng, h.fbk, h.syncIn, h.syncOut, h.pose, h.imu, h.trav, h.fpe, h.gnss, h.time, h.map, h.ports, h.ring, h.rtime, h.rtun, h.hostTx, h.lastRead, h.tdo, h.extest⟩, fun h => ⟨h.1, h.2.1, h.2.2.1, h.2.2.2.1, h.2.2.2.2.1, h.2.2.2.2.2.1, h.2.2.2.2.2.2.1, h.2.2.2.2.2.2.2.1, h.2.2.2.2.2.2.2.2.1, h.2.2.2.2.2.2.2.2.2.1, h.2.2.2.2.2.2.2.2.2.2.1, h.2.2.2.2.2.2.2.2.2.2.2.1, h.2.2.2.2.2.2.2.2.2.2.2.2.1, h.2.2.2.2.2.2.2.2.2.2.2.2.2.1, h.2.2.2.2.2.2.2.2.2.2.2.2.2.2.1, h.2.2.2.2.2.2.2.2.2.2.2.2.2.2.2.1, h.2.2.2.2.2.2.2.2.2.2.2.2.2.2.2.2.1, h.2.2.2.2.2.2.2.2.2.2.2.2.2.2.2.2.2.1, h.2.2.2.2.2.2.2.2.2.2.2.2.2.2.2.2.2.2.1, h.2.2.2.2.2.2.2.2.2.2.2.2.2.2.2.2.2.2.2.1, h.2.2.2.2.2.2.2.2.2.2.2.2.2.2.2.2.2.2.2.2.1, h.2.2.2.2.2.2.2.2.2.2.2.2.2.2.2.2.2.2.2.2.2.1, h.2.2.2.2.2.2.2.2.2.2.2.2.2.2.2.2.2.2.2.2.2.2.1, h.2.2.2.2.2.2.2.2.2.2.2.2.2.2.2.2.2.2.2.2.2.2.2.1, h.2.2.2.2.2.2.2.2.2.2.2.2.2.2.2.2.2.2.2.2.2.2.2.2.1, h.2.2.2.2.2.2.2.2.2.2.2.2.2.2.2.2.2.2.2.2.2.2.2.2.2.1, h.2.2.2.2.2.2.2.2.2.2.2.2.2.2.2.2.2.2.2.2.2.2.2.2.2.2.1, h.2.2.2.2.2.2.2.2.2.2.2.2.2.2.2.2.2.2.2.2.2.2.2.2.2.2.2.1, h.2.2.2.2.2.2.2.2.2.2.2.2.2.2.2.2.2.2.2.2.2.2.2.2.2.2.2.2.1, h.2.2.2.2.2.2.2.2.2.2.2.2.2.2.2.2.2.2.2.2.2.2.2.2.2.2.2.2.2.1, h.2.2.2.2.2.2.2.2.2.2.2.2.2.2.2.2.2.2.2.2.2.2.2.2.2.2.2.2.2.2.1, h.2.2.2.2.2.2.2.2.2.2.2.2.2.2.2.2.2.2.2.2.2.2.2.2.2.2.2.2.2.2.2.1, h.2.2.2.2.2.2.2.2.2.2.2.2.2.2.2.2.2.2.2.2.2.2.2.2.2.2.2.2.2.2.2.2.1, h.2.2.2.2.2.2.2.2.2.2.2.2.2.2.2.2.2.2.2.2.2.2.2.2.2.2.2.2.2.2.2.2.2.1, h.2.2.2.2.2.2.2.2.2.2.2.2.2.2.2.2.2.2.2.2.2.2.2.2.2.2.2.2.2.2.2.2.2.2.1, h.2.2.2.2.2.2.2.2.2.2.2.2.2.2.2.2.2.2.2.2.2.2.2.2.2.2.2.2.2.2.2.2.2.2.2.1, h.2.2.2.2.2.2.2.2.2.2.2.2.2.2.2.2.2.2.2.2.2.2.2.2.2.2.2.2.2.2.2.2.2.2.2.2.1, h.2.2.2.2.2.2.2.2.2.2.2.2.2.2.2.2.2.2.2.2.2.2.2.2.2.2.2.2.2.2.2.2.2.2.2.2.2.1, h.2.2.2.2.2.2.2.2.2.2.2.2.2.2.2.2.2.2.2.2.2.2.2.2.2.2.2.2.2.2.2.2.2.2.2.2.2.2.1, h.2.2.2.2.2.2.2.2.2.2.2.2.2.2.2.2.2.2.2.2.2.2.2.2.2.2.2.2.2.2.2.2.2.2.2.2.2.2.2.1, h.2.2.2.2.2.2.2.2.2.2.2.2.2.2.2.2.2.2.2.2.2.2.2.2.2.2.2.2.2.2.2.2.2.2.2.2.2.2.2.2.1, h.2.2.2.2.2.2.2.2.2.2.2.2.2.2.2.2.2.2.2.2.2.2.2.2.2.2.2.2.2.2.2.2.2.2.2.2.2.2.2.2.2.1, h.2.2.2.2.2.2.2.2.2.2.2.2.2.2.2.2.2.2.2.2.2.2.2.2.2.2.2.2.2.2.2.2.2.2.2.2.2.2.2.2.2.2.1, h.2.2.2.2.2.2.2.2.2.2.2.2.2.2.2.2.2.2.2.2.2.2.2.2.2.2.2.2.2.2.2.2.2.2.2.2.2.2.2.2.2.2.2.1, h.2.2.2.2.2.2.2.2.2.2.2.2.2.2.2.2.2.2.2.2.2.2.2.2.2.2.2.2.2.2.2.2.2.2.2.2.2.2.2.2.2.2.2.2.1, h.2.2.2.2.2.2.2.2.2.2.2.2.2.2.2.2.2.2.2.2.2.2.2.2.2.2.2.2.2.2.2.2.2.2.2.2.2.2.2.2.2.2.2.2.2.1, h.2.2.2.2.2.2.2.2.2.2.2.2.2.2.2.2.2.2.2.2.2.2.2.2.2.2.2.2.2.2.2.2.2.2.2.2.2.2.2.2.2.2.2.2.2.2.1, h.2.2.2.2.2.2.2.2.2.2.2.2.2.2.2.2.2.2.2.2.2.2.2.2.2.2.2.2.2.2.2.2.2.2.2.2.2.2.2.2.2.2.2.2.2.2.2.1, h.2.2.2.2.2.2.2.2.2.2.2.2.2.2.2.2.2.2.2.2.2.2.2.2.2.2.2.2.2.2.2.2.2.2.2.2.2.2.2.2.2.2.2.2.2.2.2.2.1, h.2.2.2.2.2.2.2.2.2.2.2.2.2.2.2.2.2.2.2.2.2.2.2.2.2.2.2.2.2.2.2.2.2.2.2.2.2.2.2.2.2.2.2.2.2.2.2.2.2.1, h.2.2.2.2.2.2.2.2.2.2.2.2.2.2.2.2.2.2.2.2.2.2.2.2.2.2.2.2.2.2.2.2.2.2.2.2.2.2.2.2.2.2.2.2.2.2.2.2.2.2.1, h.2.2.2.2.2.2.2.2.2.2.2.2.2.2.2.2.2.2.2.2.2.2.2.2.2.2.2.2.2.2.2.2.2.2.2.2.2.2.2.2.2.2.2.2.2.2.2.2.2.2.2.1, h.2.2.2.2.2.2.2.2.2.2.2.2.2.2.2.2.2.2.2.2.2.2.2.2.2.2.2.2.2.2.2.2.2.2.2.2.2.2.2.2.2.2.2.2.2.2.2.2.2.2.2.2.1, h.2.2.2.2.2.2.2.2.2.2.2.2.2.2.2.2.2.2.2.2.2.2.2.2.2.2.2.2.2.2.2.2.2.2.2.2.2.2.2.2.2.2.2.2.2.2.2.2.2.2.2.2.2.1, h.2.2.2.2.2.2.2.2.2.2.2.2.2.2.2.2.2.2.2.2.2.2.2.2.2.2.2.2.2.2.2.2.2.2.2.2.2.2.2.2.2.2.2.2.2.2.2.2.2.2.2.2.2.2.1, h.2.2.2.2.2.2.2.2.2.2.2.2.2.2.2.2.2.2.2.2.2.2.2.2.2.2.2.2.2.2.2.2.2.2.2.2.2.2.2.2.2.2.2.2.2.2.2.2.2.2.2.2.2.2.2.1, h.2.2.2.2.2.2.2.2.2.2.2.2.2.2.2.2.2.2.2.2.2.2.2.2.2.2.2.2.2.2.2.2.2.2.2.2.2.2.2.2.2.2.2.2.2.2.2.2.2.2.2.2.2.2.2.2.1, h.2.2.2.2.2.2.2.2.2.2.2.2.2.2.2.2.2.2.2.2.2.2.2.2.2.2.2.2.2.2.2.2.2.2.2.2.2.2.2.2.2.2.2.2.2.2.2.2.2.2.2.2.2.2.2.2.2.1, h.2.2.2.2.2.2.2.2.2.2.2.2.2.2.2.2.2.2.2.2.2.2.2.2.2.2.2.2.2.2.2.2.2.2.2.2.2.2.2.2.2.2.2.2.2.2.2.2.2.2.2.2.2.2.2.2.2.2.1, h.2.2.2.2.2.2.2.2.2.2.2.2.2.2.2.2.2.2.2.2.2.2.2.2.2.2.2.2.2.2.2.2.2.2.2.2.2.2.2.2.2.2.2.2.2.2.2.2.2.2.2.2.2.2.2.2.2.2.2.1, h.2.2.2.2.2.2.2.2.2.2.2.2.2.2.2.2.2.2.2.2.2.2.2.2.2.2.2.2.2.2.2.2.2.2.2.2.2.2.2.2.2.2.2.2.2.2.2.2.2.2.2.2.2.2.2.2.2.2.2.2.1, h.2.2.2.2.2.2.2.2.2.2.2.2.2.2.2.2.2.2.2.2.2.2.2.2.2.2.2.2.2.2.2.2.2.2.2.2.2.2.2.2.2.2.2.2.2.2.2.2.2.2.2.2.2.2.2.2.2.2.2.2.2.1, h.2.2.2.2.2.2.2.2.2.2.2.2.2.2.2.2.2.2.2.2.2.2.2.2.2.2.2.2.2.2.2.2.2.2.2.2.2.2.2.2.2.2.2.2.2.2.2.2.2.2.2.2.2.2.2.2.2.2.2.2.2.2⟩⟩

@[simp] theorem only_pending (h : Only m s u) : Unless m .pending u.pending s.pending := h.pending

@[simp] theorem only_now (h : Only m s u) : Unless m .now u.now s.now := h.now

@[simp] theorem only_member (h : Only m s u) : Unless m .member u.member s.member := h.member

@[simp] theorem only_dev (h : Only m s u) : Unless m .dev u.dev s.dev := h.dev

@[simp] theorem only_prev (h : Only m s u) : Unless m .prev u.prev s.prev := h.prev

@[simp] theorem only_devAt (h : Only m s u) : Unless m .devAt u.devAt s.devAt := h.devAt

@[simp] theorem only_devLog (h : Only m s u) : Unless m .devLog u.devLog s.devLog := h.devLog

@[simp] theorem only_regs (h : Only m s u) : OnlyRegs m s u.regs := h.regs

@[simp] theorem only_frozen (h : Only m s u) : Unless m .frozen u.frozen s.frozen := h.frozen

@[simp] theorem only_held (h : Only m s u) : Unless m .held u.held s.held := h.held

@[simp] theorem only_freeIdx (h : Only m s u) : Unless m .freeIdx u.freeIdx s.freeIdx := h.freeIdx

@[simp] theorem only_firstSeen (h : Only m s u) : Unless m .firstSeen u.firstSeen s.firstSeen := h.firstSeen

@[simp] theorem only_pfail (h : Only m s u) : Unless m .pfail u.pfail s.pfail := h.pfail

@[simp] theorem only_pfailBalls (h : Only m s u) : Unless m .pfailBalls u.pfailBalls s.pfailBalls := h.pfailBalls

@[simp] theorem only_clockLost (h : Only m s u) : Unless m .clockLost u.clockLost s.clockLost := h.clockLost

@[simp] theorem only_supplySafe (h : Only m s u) : Unless m .supplySafe u.supplySafe s.supplySafe := h.supplySafe

@[simp] theorem only_inRange (h : Only m s u) : Unless m .inRange u.inRange s.inRange := h.inRange

@[simp] theorem only_idleDrain (h : Only m s u) : Unless m .idleDrain u.idleDrain s.idleDrain := h.idleDrain

@[simp] theorem only_ctrlDue (h : Only m s u) : Unless m .ctrlDue u.ctrlDue s.ctrlDue := h.ctrlDue

@[simp] theorem only_waking (h : Only m s u) : Unless m .waking u.waking s.waking := h.waking

@[simp] theorem only_patchOk (h : Only m s u) : Unless m .patchOk u.patchOk s.patchOk := h.patchOk

@[simp] theorem only_checking (h : Only m s u) : Unless m .checking u.checking s.checking := h.checking

@[simp] theorem only_sealExp (h : Only m s u) : Unless m .sealExp u.sealExp s.sealExp := h.sealExp

@[simp] theorem only_sealSnap (h : Only m s u) : Unless m .sealSnap u.sealSnap s.sealSnap := h.sealSnap

@[simp] theorem only_sealFail (h : Only m s u) : Unless m .sealFail u.sealFail s.sealFail := h.sealFail

@[simp] theorem only_spdRun (h : Only m s u) : Unless m .spdRun u.spdRun s.spdRun := h.spdRun

@[simp] theorem only_qualLow (h : Only m s u) : Unless m .qualLow u.qualLow s.qualLow := h.qualLow

@[simp] theorem only_romFail (h : Only m s u) : Unless m .romFail u.romFail s.romFail := h.romFail

@[simp] theorem only_tempSeen (h : Only m s u) : Unless m .tempSeen u.tempSeen s.tempSeen := h.tempSeen

@[simp] theorem only_yew (h : Only m s u) : Unless m .yew u.yew s.yew := h.yew

@[simp] theorem only_yewPort (h : Only m s u) : Unless m .yewPort u.yewPort s.yewPort := h.yewPort

@[simp] theorem only_yewCfg (h : Only m s u) : Unless m .yewCfg u.yewCfg s.yewCfg := h.yewCfg

@[simp] theorem only_hq (h : Only m s u) : Unless m .hq u.hq s.hq := h.hq

@[simp] theorem only_cmpl (h : Only m s u) : Unless m .cmpl u.cmpl s.cmpl := h.cmpl

@[simp] theorem only_cmplWait (h : Only m s u) : Unless m .cmplWait u.cmplWait s.cmplWait := h.cmplWait

@[simp] theorem only_dropQ (h : Only m s u) : Unless m .dropQ u.dropQ s.dropQ := h.dropQ

@[simp] theorem only_hirqLow (h : Only m s u) : Unless m .hirqLow u.hirqLow s.hirqLow := h.hirqLow

@[simp] theorem only_hirqRose (h : Only m s u) : Unless m .hirqRose u.hirqRose s.hirqRose := h.hirqRose

@[simp] theorem only_mbox (h : Only m s u) : Unless m .mbox u.mbox s.mbox := h.mbox

@[simp] theorem only_nor (h : Only m s u) : Unless m .nor u.nor s.nor := h.nor

@[simp] theorem only_laurel (h : Only m s u) : Unless m .laurel u.laurel s.laurel := h.laurel

@[simp] theorem only_lanes (h : Only m s u) : UnlessVec m .lanes u.lanes s.lanes := h.lanes

@[simp] theorem only_banks (h : Only m s u) : UnlessVec m .banks u.banks s.banks := h.banks

@[simp] theorem only_pwm (h : Only m s u) : UnlessVec m .pwm u.pwm s.pwm := h.pwm

@[simp] theorem only_eng (h : Only m s u) : UnlessVec m .eng u.eng s.eng := h.eng

@[simp] theorem only_fbk (h : Only m s u) : UnlessVec m .fbk u.fbk s.fbk := h.fbk

@[simp] theorem only_syncIn (h : Only m s u) : Unless m .syncIn u.syncIn s.syncIn := h.syncIn

@[simp] theorem only_syncOut (h : Only m s u) : Unless m .syncOut u.syncOut s.syncOut := h.syncOut

@[simp] theorem only_pose (h : Only m s u) : Unless m .pose u.pose s.pose := h.pose

@[simp] theorem only_imu (h : Only m s u) : Unless m .imu u.imu s.imu := h.imu

@[simp] theorem only_trav (h : Only m s u) : Unless m .trav u.trav s.trav := h.trav

@[simp] theorem only_fpe (h : Only m s u) : Unless m .fpe u.fpe s.fpe := h.fpe

@[simp] theorem only_gnss (h : Only m s u) : Unless m .gnss u.gnss s.gnss := h.gnss

@[simp] theorem only_time (h : Only m s u) : Unless m .time u.time s.time := h.time

@[simp] theorem only_map (h : Only m s u) : Unless m .map u.map s.map := h.map

@[simp] theorem only_ports (h : Only m s u) : Unless m .ports u.ports s.ports := h.ports

@[simp] theorem only_ring (h : Only m s u) : Unless m .ring u.ring s.ring := h.ring

@[simp] theorem only_rtime (h : Only m s u) : Unless m .rtime u.rtime s.rtime := h.rtime

@[simp] theorem only_rtun (h : Only m s u) : Unless m .rtun u.rtun s.rtun := h.rtun

@[simp] theorem only_hostTx (h : Only m s u) : Unless m .hostTx u.hostTx s.hostTx := h.hostTx

@[simp] theorem only_lastRead (h : Only m s u) : Unless m .lastRead u.lastRead s.lastRead := h.lastRead

@[simp] theorem only_tdo (h : Only m s u) : Unless m .tdo u.tdo s.tdo := h.tdo

@[simp] theorem only_extest (h : Only m s u) : Unless m .extest u.extest s.extest := h.extest

@[simp] theorem only_upd_pending (h : Only m s u) (x : List Instr) (hf : Field.pending ∈ m.fields) : Only m s { u with
    pending := x } := ⟨fun c => absurd hf c, h.now, h.member, h.dev, h.prev, h.devAt, h.devLog, h.regs, h.frozen, h.held,
    h.freeIdx, h.firstSeen, h.pfail, h.pfailBalls, h.clockLost, h.supplySafe, h.inRange, h.idleDrain, h.ctrlDue, h.waking,
    h.patchOk, h.checking, h.sealExp, h.sealSnap, h.sealFail, h.spdRun, h.qualLow, h.romFail, h.tempSeen, h.yew, h.yewPort,
    h.yewCfg, h.hq, h.cmpl, h.cmplWait, h.dropQ, h.hirqLow, h.hirqRose, h.mbox, h.nor, h.laurel, h.lanes, h.banks, h.pwm,
    h.eng, h.fbk, h.syncIn, h.syncOut, h.pose, h.imu, h.trav, h.fpe, h.gnss, h.time, h.map, h.ports, h.ring, h.rtime,
    h.rtun, h.hostTx, h.lastRead, h.tdo, h.extest⟩

@[simp] theorem only_upd_now (h : Only m s u) (x : Time) (hf : Field.now ∈ m.fields) : Only m s { u with now := x } :=
    ⟨h.pending, fun c => absurd hf c, h.member, h.dev, h.prev, h.devAt, h.devLog, h.regs, h.frozen, h.held, h.freeIdx,
    h.firstSeen, h.pfail, h.pfailBalls, h.clockLost, h.supplySafe, h.inRange, h.idleDrain, h.ctrlDue, h.waking, h.patchOk,
    h.checking, h.sealExp, h.sealSnap, h.sealFail, h.spdRun, h.qualLow, h.romFail, h.tempSeen, h.yew, h.yewPort, h.yewCfg,
    h.hq, h.cmpl, h.cmplWait, h.dropQ, h.hirqLow, h.hirqRose, h.mbox, h.nor, h.laurel, h.lanes, h.banks, h.pwm, h.eng,
    h.fbk, h.syncIn, h.syncOut, h.pose, h.imu, h.trav, h.fpe, h.gnss, h.time, h.map, h.ports, h.ring, h.rtime, h.rtun,
    h.hostTx, h.lastRead, h.tdo, h.extest⟩

@[simp] theorem only_upd_member (h : Only m s u) (x : Member) (hf : Field.member ∈ m.fields) : Only m s { u with member := x
    } := ⟨h.pending, h.now, fun c => absurd hf c, h.dev, h.prev, h.devAt, h.devLog, h.regs, h.frozen, h.held, h.freeIdx,
    h.firstSeen, h.pfail, h.pfailBalls, h.clockLost, h.supplySafe, h.inRange, h.idleDrain, h.ctrlDue, h.waking, h.patchOk,
    h.checking, h.sealExp, h.sealSnap, h.sealFail, h.spdRun, h.qualLow, h.romFail, h.tempSeen, h.yew, h.yewPort, h.yewCfg,
    h.hq, h.cmpl, h.cmplWait, h.dropQ, h.hirqLow, h.hirqRose, h.mbox, h.nor, h.laurel, h.lanes, h.banks, h.pwm, h.eng,
    h.fbk, h.syncIn, h.syncOut, h.pose, h.imu, h.trav, h.fpe, h.gnss, h.time, h.map, h.ports, h.ring, h.rtime, h.rtun,
    h.hostTx, h.lastRead, h.tdo, h.extest⟩

@[simp] theorem only_upd_dev (h : Only m s u) (x : DevState) (hf : Field.dev ∈ m.fields) : Only m s { u with dev := x } :=
    ⟨h.pending, h.now, h.member, fun c => absurd hf c, h.prev, h.devAt, h.devLog, h.regs, h.frozen, h.held, h.freeIdx,
    h.firstSeen, h.pfail, h.pfailBalls, h.clockLost, h.supplySafe, h.inRange, h.idleDrain, h.ctrlDue, h.waking, h.patchOk,
    h.checking, h.sealExp, h.sealSnap, h.sealFail, h.spdRun, h.qualLow, h.romFail, h.tempSeen, h.yew, h.yewPort, h.yewCfg,
    h.hq, h.cmpl, h.cmplWait, h.dropQ, h.hirqLow, h.hirqRose, h.mbox, h.nor, h.laurel, h.lanes, h.banks, h.pwm, h.eng,
    h.fbk, h.syncIn, h.syncOut, h.pose, h.imu, h.trav, h.fpe, h.gnss, h.time, h.map, h.ports, h.ring, h.rtime, h.rtun,
    h.hostTx, h.lastRead, h.tdo, h.extest⟩

@[simp] theorem only_upd_prev (h : Only m s u) (x : DevState) (hf : Field.prev ∈ m.fields) : Only m s { u with prev := x }
    := ⟨h.pending, h.now, h.member, h.dev, fun c => absurd hf c, h.devAt, h.devLog, h.regs, h.frozen, h.held, h.freeIdx,
    h.firstSeen, h.pfail, h.pfailBalls, h.clockLost, h.supplySafe, h.inRange, h.idleDrain, h.ctrlDue, h.waking, h.patchOk,
    h.checking, h.sealExp, h.sealSnap, h.sealFail, h.spdRun, h.qualLow, h.romFail, h.tempSeen, h.yew, h.yewPort, h.yewCfg,
    h.hq, h.cmpl, h.cmplWait, h.dropQ, h.hirqLow, h.hirqRose, h.mbox, h.nor, h.laurel, h.lanes, h.banks, h.pwm, h.eng,
    h.fbk, h.syncIn, h.syncOut, h.pose, h.imu, h.trav, h.fpe, h.gnss, h.time, h.map, h.ports, h.ring, h.rtime, h.rtun,
    h.hostTx, h.lastRead, h.tdo, h.extest⟩

@[simp] theorem only_upd_devAt (h : Only m s u) (x : Time) (hf : Field.devAt ∈ m.fields) : Only m s { u with devAt := x } :=
    ⟨h.pending, h.now, h.member, h.dev, h.prev, fun c => absurd hf c, h.devLog, h.regs, h.frozen, h.held, h.freeIdx,
    h.firstSeen, h.pfail, h.pfailBalls, h.clockLost, h.supplySafe, h.inRange, h.idleDrain, h.ctrlDue, h.waking, h.patchOk,
    h.checking, h.sealExp, h.sealSnap, h.sealFail, h.spdRun, h.qualLow, h.romFail, h.tempSeen, h.yew, h.yewPort, h.yewCfg,
    h.hq, h.cmpl, h.cmplWait, h.dropQ, h.hirqLow, h.hirqRose, h.mbox, h.nor, h.laurel, h.lanes, h.banks, h.pwm, h.eng,
    h.fbk, h.syncIn, h.syncOut, h.pose, h.imu, h.trav, h.fpe, h.gnss, h.time, h.map, h.ports, h.ring, h.rtime, h.rtun,
    h.hostTx, h.lastRead, h.tdo, h.extest⟩

@[simp] theorem only_upd_devLog (h : Only m s u) (x : List (Time × DevState)) (hf : Field.devLog ∈ m.fields) : Only m s { u
    with devLog := x } := ⟨h.pending, h.now, h.member, h.dev, h.prev, h.devAt, fun c => absurd hf c, h.regs, h.frozen,
    h.held, h.freeIdx, h.firstSeen, h.pfail, h.pfailBalls, h.clockLost, h.supplySafe, h.inRange, h.idleDrain, h.ctrlDue,
    h.waking, h.patchOk, h.checking, h.sealExp, h.sealSnap, h.sealFail, h.spdRun, h.qualLow, h.romFail, h.tempSeen, h.yew,
    h.yewPort, h.yewCfg, h.hq, h.cmpl, h.cmplWait, h.dropQ, h.hirqLow, h.hirqRose, h.mbox, h.nor, h.laurel, h.lanes,
    h.banks, h.pwm, h.eng, h.fbk, h.syncIn, h.syncOut, h.pose, h.imu, h.trav, h.fpe, h.gnss, h.time, h.map, h.ports, h.ring,
    h.rtime, h.rtun, h.hostTx, h.lastRead, h.tdo, h.extest⟩

@[simp] theorem only_upd_frozen (h : Only m s u) (x : Sparse Word) (hf : Field.frozen ∈ m.fields) : Only m s { u with frozen
    := x } := ⟨h.pending, h.now, h.member, h.dev, h.prev, h.devAt, h.devLog, h.regs, fun c => absurd hf c, h.held,
    h.freeIdx, h.firstSeen, h.pfail, h.pfailBalls, h.clockLost, h.supplySafe, h.inRange, h.idleDrain, h.ctrlDue, h.waking,
    h.patchOk, h.checking, h.sealExp, h.sealSnap, h.sealFail, h.spdRun, h.qualLow, h.romFail, h.tempSeen, h.yew, h.yewPort,
    h.yewCfg, h.hq, h.cmpl, h.cmplWait, h.dropQ, h.hirqLow, h.hirqRose, h.mbox, h.nor, h.laurel, h.lanes, h.banks, h.pwm,
    h.eng, h.fbk, h.syncIn, h.syncOut, h.pose, h.imu, h.trav, h.fpe, h.gnss, h.time, h.map, h.ports, h.ring, h.rtime,
    h.rtun, h.hostTx, h.lastRead, h.tdo, h.extest⟩

@[simp] theorem only_upd_held (h : Only m s u) (x : Sparse Word) (hf : Field.held ∈ m.fields) : Only m s { u with held := x
    } := ⟨h.pending, h.now, h.member, h.dev, h.prev, h.devAt, h.devLog, h.regs, h.frozen, fun c => absurd hf c, h.freeIdx,
    h.firstSeen, h.pfail, h.pfailBalls, h.clockLost, h.supplySafe, h.inRange, h.idleDrain, h.ctrlDue, h.waking, h.patchOk,
    h.checking, h.sealExp, h.sealSnap, h.sealFail, h.spdRun, h.qualLow, h.romFail, h.tempSeen, h.yew, h.yewPort, h.yewCfg,
    h.hq, h.cmpl, h.cmplWait, h.dropQ, h.hirqLow, h.hirqRose, h.mbox, h.nor, h.laurel, h.lanes, h.banks, h.pwm, h.eng,
    h.fbk, h.syncIn, h.syncOut, h.pose, h.imu, h.trav, h.fpe, h.gnss, h.time, h.map, h.ports, h.ring, h.rtime, h.rtun,
    h.hostTx, h.lastRead, h.tdo, h.extest⟩

@[simp] theorem only_upd_freeIdx (h : Only m s u) (x : Nat) (hf : Field.freeIdx ∈ m.fields) : Only m s { u with freeIdx := x
    } := ⟨h.pending, h.now, h.member, h.dev, h.prev, h.devAt, h.devLog, h.regs, h.frozen, h.held, fun c => absurd hf c,
    h.firstSeen, h.pfail, h.pfailBalls, h.clockLost, h.supplySafe, h.inRange, h.idleDrain, h.ctrlDue, h.waking, h.patchOk,
    h.checking, h.sealExp, h.sealSnap, h.sealFail, h.spdRun, h.qualLow, h.romFail, h.tempSeen, h.yew, h.yewPort, h.yewCfg,
    h.hq, h.cmpl, h.cmplWait, h.dropQ, h.hirqLow, h.hirqRose, h.mbox, h.nor, h.laurel, h.lanes, h.banks, h.pwm, h.eng,
    h.fbk, h.syncIn, h.syncOut, h.pose, h.imu, h.trav, h.fpe, h.gnss, h.time, h.map, h.ports, h.ring, h.rtime, h.rtun,
    h.hostTx, h.lastRead, h.tdo, h.extest⟩

@[simp] theorem only_upd_firstSeen (h : Only m s u) (x : Sparse Nat) (hf : Field.firstSeen ∈ m.fields) : Only m s { u with
    firstSeen := x } := ⟨h.pending, h.now, h.member, h.dev, h.prev, h.devAt, h.devLog, h.regs, h.frozen, h.held, h.freeIdx,
    fun c => absurd hf c, h.pfail, h.pfailBalls, h.clockLost, h.supplySafe, h.inRange, h.idleDrain, h.ctrlDue, h.waking,
    h.patchOk, h.checking, h.sealExp, h.sealSnap, h.sealFail, h.spdRun, h.qualLow, h.romFail, h.tempSeen, h.yew, h.yewPort,
    h.yewCfg, h.hq, h.cmpl, h.cmplWait, h.dropQ, h.hirqLow, h.hirqRose, h.mbox, h.nor, h.laurel, h.lanes, h.banks, h.pwm,
    h.eng, h.fbk, h.syncIn, h.syncOut, h.pose, h.imu, h.trav, h.fpe, h.gnss, h.time, h.map, h.ports, h.ring, h.rtime,
    h.rtun, h.hostTx, h.lastRead, h.tdo, h.extest⟩

@[simp] theorem only_upd_pfail (h : Only m s u) (x : Bool) (hf : Field.pfail ∈ m.fields) : Only m s { u with pfail := x } :=
    ⟨h.pending, h.now, h.member, h.dev, h.prev, h.devAt, h.devLog, h.regs, h.frozen, h.held, h.freeIdx, h.firstSeen, fun c
    => absurd hf c, h.pfailBalls, h.clockLost, h.supplySafe, h.inRange, h.idleDrain, h.ctrlDue, h.waking, h.patchOk,
    h.checking, h.sealExp, h.sealSnap, h.sealFail, h.spdRun, h.qualLow, h.romFail, h.tempSeen, h.yew, h.yewPort, h.yewCfg,
    h.hq, h.cmpl, h.cmplWait, h.dropQ, h.hirqLow, h.hirqRose, h.mbox, h.nor, h.laurel, h.lanes, h.banks, h.pwm, h.eng,
    h.fbk, h.syncIn, h.syncOut, h.pose, h.imu, h.trav, h.fpe, h.gnss, h.time, h.map, h.ports, h.ring, h.rtime, h.rtun,
    h.hostTx, h.lastRead, h.tdo, h.extest⟩

@[simp] theorem only_upd_pfailBalls (h : Only m s u) (x : Option Balls) (hf : Field.pfailBalls ∈ m.fields) : Only m s { u
    with pfailBalls := x } := ⟨h.pending, h.now, h.member, h.dev, h.prev, h.devAt, h.devLog, h.regs, h.frozen, h.held,
    h.freeIdx, h.firstSeen, h.pfail, fun c => absurd hf c, h.clockLost, h.supplySafe, h.inRange, h.idleDrain, h.ctrlDue,
    h.waking, h.patchOk, h.checking, h.sealExp, h.sealSnap, h.sealFail, h.spdRun, h.qualLow, h.romFail, h.tempSeen, h.yew,
    h.yewPort, h.yewCfg, h.hq, h.cmpl, h.cmplWait, h.dropQ, h.hirqLow, h.hirqRose, h.mbox, h.nor, h.laurel, h.lanes,
    h.banks, h.pwm, h.eng, h.fbk, h.syncIn, h.syncOut, h.pose, h.imu, h.trav, h.fpe, h.gnss, h.time, h.map, h.ports, h.ring,
    h.rtime, h.rtun, h.hostTx, h.lastRead, h.tdo, h.extest⟩

@[simp] theorem only_upd_clockLost (h : Only m s u) (x : Bool) (hf : Field.clockLost ∈ m.fields) : Only m s { u with
    clockLost := x } := ⟨h.pending, h.now, h.member, h.dev, h.prev, h.devAt, h.devLog, h.regs, h.frozen, h.held, h.freeIdx,
    h.firstSeen, h.pfail, h.pfailBalls, fun c => absurd hf c, h.supplySafe, h.inRange, h.idleDrain, h.ctrlDue, h.waking,
    h.patchOk, h.checking, h.sealExp, h.sealSnap, h.sealFail, h.spdRun, h.qualLow, h.romFail, h.tempSeen, h.yew, h.yewPort,
    h.yewCfg, h.hq, h.cmpl, h.cmplWait, h.dropQ, h.hirqLow, h.hirqRose, h.mbox, h.nor, h.laurel, h.lanes, h.banks, h.pwm,
    h.eng, h.fbk, h.syncIn, h.syncOut, h.pose, h.imu, h.trav, h.fpe, h.gnss, h.time, h.map, h.ports, h.ring, h.rtime,
    h.rtun, h.hostTx, h.lastRead, h.tdo, h.extest⟩

@[simp] theorem only_upd_supplySafe (h : Only m s u) (x : Bool) (hf : Field.supplySafe ∈ m.fields) : Only m s { u with
    supplySafe := x } := ⟨h.pending, h.now, h.member, h.dev, h.prev, h.devAt, h.devLog, h.regs, h.frozen, h.held, h.freeIdx,
    h.firstSeen, h.pfail, h.pfailBalls, h.clockLost, fun c => absurd hf c, h.inRange, h.idleDrain, h.ctrlDue, h.waking,
    h.patchOk, h.checking, h.sealExp, h.sealSnap, h.sealFail, h.spdRun, h.qualLow, h.romFail, h.tempSeen, h.yew, h.yewPort,
    h.yewCfg, h.hq, h.cmpl, h.cmplWait, h.dropQ, h.hirqLow, h.hirqRose, h.mbox, h.nor, h.laurel, h.lanes, h.banks, h.pwm,
    h.eng, h.fbk, h.syncIn, h.syncOut, h.pose, h.imu, h.trav, h.fpe, h.gnss, h.time, h.map, h.ports, h.ring, h.rtime,
    h.rtun, h.hostTx, h.lastRead, h.tdo, h.extest⟩

@[simp] theorem only_upd_inRange (h : Only m s u) (x : Vector Bool 6) (hf : Field.inRange ∈ m.fields) : Only m s { u with
    inRange := x } := ⟨h.pending, h.now, h.member, h.dev, h.prev, h.devAt, h.devLog, h.regs, h.frozen, h.held, h.freeIdx,
    h.firstSeen, h.pfail, h.pfailBalls, h.clockLost, h.supplySafe, fun c => absurd hf c, h.idleDrain, h.ctrlDue, h.waking,
    h.patchOk, h.checking, h.sealExp, h.sealSnap, h.sealFail, h.spdRun, h.qualLow, h.romFail, h.tempSeen, h.yew, h.yewPort,
    h.yewCfg, h.hq, h.cmpl, h.cmplWait, h.dropQ, h.hirqLow, h.hirqRose, h.mbox, h.nor, h.laurel, h.lanes, h.banks, h.pwm,
    h.eng, h.fbk, h.syncIn, h.syncOut, h.pose, h.imu, h.trav, h.fpe, h.gnss, h.time, h.map, h.ports, h.ring, h.rtime,
    h.rtun, h.hostTx, h.lastRead, h.tdo, h.extest⟩

@[simp] theorem only_upd_idleDrain (h : Only m s u) (x : Bool) (hf : Field.idleDrain ∈ m.fields) : Only m s { u with
    idleDrain := x } := ⟨h.pending, h.now, h.member, h.dev, h.prev, h.devAt, h.devLog, h.regs, h.frozen, h.held, h.freeIdx,
    h.firstSeen, h.pfail, h.pfailBalls, h.clockLost, h.supplySafe, h.inRange, fun c => absurd hf c, h.ctrlDue, h.waking,
    h.patchOk, h.checking, h.sealExp, h.sealSnap, h.sealFail, h.spdRun, h.qualLow, h.romFail, h.tempSeen, h.yew, h.yewPort,
    h.yewCfg, h.hq, h.cmpl, h.cmplWait, h.dropQ, h.hirqLow, h.hirqRose, h.mbox, h.nor, h.laurel, h.lanes, h.banks, h.pwm,
    h.eng, h.fbk, h.syncIn, h.syncOut, h.pose, h.imu, h.trav, h.fpe, h.gnss, h.time, h.map, h.ports, h.ring, h.rtime,
    h.rtun, h.hostTx, h.lastRead, h.tdo, h.extest⟩

@[simp] theorem only_upd_ctrlDue (h : Only m s u) (x : Bool) (hf : Field.ctrlDue ∈ m.fields) : Only m s { u with ctrlDue :=
    x } := ⟨h.pending, h.now, h.member, h.dev, h.prev, h.devAt, h.devLog, h.regs, h.frozen, h.held, h.freeIdx, h.firstSeen,
    h.pfail, h.pfailBalls, h.clockLost, h.supplySafe, h.inRange, h.idleDrain, fun c => absurd hf c, h.waking, h.patchOk,
    h.checking, h.sealExp, h.sealSnap, h.sealFail, h.spdRun, h.qualLow, h.romFail, h.tempSeen, h.yew, h.yewPort, h.yewCfg,
    h.hq, h.cmpl, h.cmplWait, h.dropQ, h.hirqLow, h.hirqRose, h.mbox, h.nor, h.laurel, h.lanes, h.banks, h.pwm, h.eng,
    h.fbk, h.syncIn, h.syncOut, h.pose, h.imu, h.trav, h.fpe, h.gnss, h.time, h.map, h.ports, h.ring, h.rtime, h.rtun,
    h.hostTx, h.lastRead, h.tdo, h.extest⟩

@[simp] theorem only_upd_waking (h : Only m s u) (x : Option Time) (hf : Field.waking ∈ m.fields) : Only m s { u with waking
    := x } := ⟨h.pending, h.now, h.member, h.dev, h.prev, h.devAt, h.devLog, h.regs, h.frozen, h.held, h.freeIdx,
    h.firstSeen, h.pfail, h.pfailBalls, h.clockLost, h.supplySafe, h.inRange, h.idleDrain, h.ctrlDue, fun c => absurd hf c,
    h.patchOk, h.checking, h.sealExp, h.sealSnap, h.sealFail, h.spdRun, h.qualLow, h.romFail, h.tempSeen, h.yew, h.yewPort,
    h.yewCfg, h.hq, h.cmpl, h.cmplWait, h.dropQ, h.hirqLow, h.hirqRose, h.mbox, h.nor, h.laurel, h.lanes, h.banks, h.pwm,
    h.eng, h.fbk, h.syncIn, h.syncOut, h.pose, h.imu, h.trav, h.fpe, h.gnss, h.time, h.map, h.ports, h.ring, h.rtime,
    h.rtun, h.hostTx, h.lastRead, h.tdo, h.extest⟩

@[simp] theorem only_upd_patchOk (h : Only m s u) (x : Bool) (hf : Field.patchOk ∈ m.fields) : Only m s { u with patchOk :=
    x } := ⟨h.pending, h.now, h.member, h.dev, h.prev, h.devAt, h.devLog, h.regs, h.frozen, h.held, h.freeIdx, h.firstSeen,
    h.pfail, h.pfailBalls, h.clockLost, h.supplySafe, h.inRange, h.idleDrain, h.ctrlDue, h.waking, fun c => absurd hf c,
    h.checking, h.sealExp, h.sealSnap, h.sealFail, h.spdRun, h.qualLow, h.romFail, h.tempSeen, h.yew, h.yewPort, h.yewCfg,
    h.hq, h.cmpl, h.cmplWait, h.dropQ, h.hirqLow, h.hirqRose, h.mbox, h.nor, h.laurel, h.lanes, h.banks, h.pwm, h.eng,
    h.fbk, h.syncIn, h.syncOut, h.pose, h.imu, h.trav, h.fpe, h.gnss, h.time, h.map, h.ports, h.ring, h.rtime, h.rtun,
    h.hostTx, h.lastRead, h.tdo, h.extest⟩

@[simp] theorem only_upd_checking (h : Only m s u) (x : Bool) (hf : Field.checking ∈ m.fields) : Only m s { u with checking
    := x } := ⟨h.pending, h.now, h.member, h.dev, h.prev, h.devAt, h.devLog, h.regs, h.frozen, h.held, h.freeIdx,
    h.firstSeen, h.pfail, h.pfailBalls, h.clockLost, h.supplySafe, h.inRange, h.idleDrain, h.ctrlDue, h.waking, h.patchOk,
    fun c => absurd hf c, h.sealExp, h.sealSnap, h.sealFail, h.spdRun, h.qualLow, h.romFail, h.tempSeen, h.yew, h.yewPort,
    h.yewCfg, h.hq, h.cmpl, h.cmplWait, h.dropQ, h.hirqLow, h.hirqRose, h.mbox, h.nor, h.laurel, h.lanes, h.banks, h.pwm,
    h.eng, h.fbk, h.syncIn, h.syncOut, h.pose, h.imu, h.trav, h.fpe, h.gnss, h.time, h.map, h.ports, h.ring, h.rtime,
    h.rtun, h.hostTx, h.lastRead, h.tdo, h.extest⟩

@[simp] theorem only_upd_sealExp (h : Only m s u) (x : Word) (hf : Field.sealExp ∈ m.fields) : Only m s { u with sealExp :=
    x } := ⟨h.pending, h.now, h.member, h.dev, h.prev, h.devAt, h.devLog, h.regs, h.frozen, h.held, h.freeIdx, h.firstSeen,
    h.pfail, h.pfailBalls, h.clockLost, h.supplySafe, h.inRange, h.idleDrain, h.ctrlDue, h.waking, h.patchOk, h.checking,
    fun c => absurd hf c, h.sealSnap, h.sealFail, h.spdRun, h.qualLow, h.romFail, h.tempSeen, h.yew, h.yewPort, h.yewCfg,
    h.hq, h.cmpl, h.cmplWait, h.dropQ, h.hirqLow, h.hirqRose, h.mbox, h.nor, h.laurel, h.lanes, h.banks, h.pwm, h.eng,
    h.fbk, h.syncIn, h.syncOut, h.pose, h.imu, h.trav, h.fpe, h.gnss, h.time, h.map, h.ports, h.ring, h.rtime, h.rtun,
    h.hostTx, h.lastRead, h.tdo, h.extest⟩

@[simp] theorem only_upd_sealSnap (h : Only m s u) (x : Sparse Word) (hf : Field.sealSnap ∈ m.fields) : Only m s { u with
    sealSnap := x } := ⟨h.pending, h.now, h.member, h.dev, h.prev, h.devAt, h.devLog, h.regs, h.frozen, h.held, h.freeIdx,
    h.firstSeen, h.pfail, h.pfailBalls, h.clockLost, h.supplySafe, h.inRange, h.idleDrain, h.ctrlDue, h.waking, h.patchOk,
    h.checking, h.sealExp, fun c => absurd hf c, h.sealFail, h.spdRun, h.qualLow, h.romFail, h.tempSeen, h.yew, h.yewPort,
    h.yewCfg, h.hq, h.cmpl, h.cmplWait, h.dropQ, h.hirqLow, h.hirqRose, h.mbox, h.nor, h.laurel, h.lanes, h.banks, h.pwm,
    h.eng, h.fbk, h.syncIn, h.syncOut, h.pose, h.imu, h.trav, h.fpe, h.gnss, h.time, h.map, h.ports, h.ring, h.rtime,
    h.rtun, h.hostTx, h.lastRead, h.tdo, h.extest⟩

@[simp] theorem only_upd_sealFail (h : Only m s u) (x : Option (Nat × Nat)) (hf : Field.sealFail ∈ m.fields) : Only m s { u
    with sealFail := x } := ⟨h.pending, h.now, h.member, h.dev, h.prev, h.devAt, h.devLog, h.regs, h.frozen, h.held,
    h.freeIdx, h.firstSeen, h.pfail, h.pfailBalls, h.clockLost, h.supplySafe, h.inRange, h.idleDrain, h.ctrlDue, h.waking,
    h.patchOk, h.checking, h.sealExp, h.sealSnap, fun c => absurd hf c, h.spdRun, h.qualLow, h.romFail, h.tempSeen, h.yew,
    h.yewPort, h.yewCfg, h.hq, h.cmpl, h.cmplWait, h.dropQ, h.hirqLow, h.hirqRose, h.mbox, h.nor, h.laurel, h.lanes,
    h.banks, h.pwm, h.eng, h.fbk, h.syncIn, h.syncOut, h.pose, h.imu, h.trav, h.fpe, h.gnss, h.time, h.map, h.ports, h.ring,
    h.rtime, h.rtun, h.hostTx, h.lastRead, h.tdo, h.extest⟩

@[simp] theorem only_upd_spdRun (h : Only m s u) (x : Nat) (hf : Field.spdRun ∈ m.fields) : Only m s { u with spdRun := x }
    := ⟨h.pending, h.now, h.member, h.dev, h.prev, h.devAt, h.devLog, h.regs, h.frozen, h.held, h.freeIdx, h.firstSeen,
    h.pfail, h.pfailBalls, h.clockLost, h.supplySafe, h.inRange, h.idleDrain, h.ctrlDue, h.waking, h.patchOk, h.checking,
    h.sealExp, h.sealSnap, h.sealFail, fun c => absurd hf c, h.qualLow, h.romFail, h.tempSeen, h.yew, h.yewPort, h.yewCfg,
    h.hq, h.cmpl, h.cmplWait, h.dropQ, h.hirqLow, h.hirqRose, h.mbox, h.nor, h.laurel, h.lanes, h.banks, h.pwm, h.eng,
    h.fbk, h.syncIn, h.syncOut, h.pose, h.imu, h.trav, h.fpe, h.gnss, h.time, h.map, h.ports, h.ring, h.rtime, h.rtun,
    h.hostTx, h.lastRead, h.tdo, h.extest⟩

@[simp] theorem only_upd_qualLow (h : Only m s u) (x : Option Time) (hf : Field.qualLow ∈ m.fields) : Only m s { u with
    qualLow := x } := ⟨h.pending, h.now, h.member, h.dev, h.prev, h.devAt, h.devLog, h.regs, h.frozen, h.held, h.freeIdx,
    h.firstSeen, h.pfail, h.pfailBalls, h.clockLost, h.supplySafe, h.inRange, h.idleDrain, h.ctrlDue, h.waking, h.patchOk,
    h.checking, h.sealExp, h.sealSnap, h.sealFail, h.spdRun, fun c => absurd hf c, h.romFail, h.tempSeen, h.yew, h.yewPort,
    h.yewCfg, h.hq, h.cmpl, h.cmplWait, h.dropQ, h.hirqLow, h.hirqRose, h.mbox, h.nor, h.laurel, h.lanes, h.banks, h.pwm,
    h.eng, h.fbk, h.syncIn, h.syncOut, h.pose, h.imu, h.trav, h.fpe, h.gnss, h.time, h.map, h.ports, h.ring, h.rtime,
    h.rtun, h.hostTx, h.lastRead, h.tdo, h.extest⟩

@[simp] theorem only_upd_romFail (h : Only m s u) (x : Bool) (hf : Field.romFail ∈ m.fields) : Only m s { u with romFail :=
    x } := ⟨h.pending, h.now, h.member, h.dev, h.prev, h.devAt, h.devLog, h.regs, h.frozen, h.held, h.freeIdx, h.firstSeen,
    h.pfail, h.pfailBalls, h.clockLost, h.supplySafe, h.inRange, h.idleDrain, h.ctrlDue, h.waking, h.patchOk, h.checking,
    h.sealExp, h.sealSnap, h.sealFail, h.spdRun, h.qualLow, fun c => absurd hf c, h.tempSeen, h.yew, h.yewPort, h.yewCfg,
    h.hq, h.cmpl, h.cmplWait, h.dropQ, h.hirqLow, h.hirqRose, h.mbox, h.nor, h.laurel, h.lanes, h.banks, h.pwm, h.eng,
    h.fbk, h.syncIn, h.syncOut, h.pose, h.imu, h.trav, h.fpe, h.gnss, h.time, h.map, h.ports, h.ring, h.rtime, h.rtun,
    h.hostTx, h.lastRead, h.tdo, h.extest⟩

@[simp] theorem only_upd_tempSeen (h : Only m s u) (x : Vector Bool 2) (hf : Field.tempSeen ∈ m.fields) : Only m s { u with
    tempSeen := x } := ⟨h.pending, h.now, h.member, h.dev, h.prev, h.devAt, h.devLog, h.regs, h.frozen, h.held, h.freeIdx,
    h.firstSeen, h.pfail, h.pfailBalls, h.clockLost, h.supplySafe, h.inRange, h.idleDrain, h.ctrlDue, h.waking, h.patchOk,
    h.checking, h.sealExp, h.sealSnap, h.sealFail, h.spdRun, h.qualLow, h.romFail, fun c => absurd hf c, h.yew, h.yewPort,
    h.yewCfg, h.hq, h.cmpl, h.cmplWait, h.dropQ, h.hirqLow, h.hirqRose, h.mbox, h.nor, h.laurel, h.lanes, h.banks, h.pwm,
    h.eng, h.fbk, h.syncIn, h.syncOut, h.pose, h.imu, h.trav, h.fpe, h.gnss, h.time, h.map, h.ports, h.ring, h.rtime,
    h.rtun, h.hostTx, h.lastRead, h.tdo, h.extest⟩

@[simp] theorem only_upd_yew (h : Only m s u) (x : Vector YewCopy 2) (hf : Field.yew ∈ m.fields) : Only m s { u with yew :=
    x } := ⟨h.pending, h.now, h.member, h.dev, h.prev, h.devAt, h.devLog, h.regs, h.frozen, h.held, h.freeIdx, h.firstSeen,
    h.pfail, h.pfailBalls, h.clockLost, h.supplySafe, h.inRange, h.idleDrain, h.ctrlDue, h.waking, h.patchOk, h.checking,
    h.sealExp, h.sealSnap, h.sealFail, h.spdRun, h.qualLow, h.romFail, h.tempSeen, fun c => absurd hf c, h.yewPort,
    h.yewCfg, h.hq, h.cmpl, h.cmplWait, h.dropQ, h.hirqLow, h.hirqRose, h.mbox, h.nor, h.laurel, h.lanes, h.banks, h.pwm,
    h.eng, h.fbk, h.syncIn, h.syncOut, h.pose, h.imu, h.trav, h.fpe, h.gnss, h.time, h.map, h.ports, h.ring, h.rtime,
    h.rtun, h.hostTx, h.lastRead, h.tdo, h.extest⟩

@[simp] theorem only_upd_yewPort (h : Only m s u) (x : YewPort) (hf : Field.yewPort ∈ m.fields) : Only m s { u with yewPort
    := x } := ⟨h.pending, h.now, h.member, h.dev, h.prev, h.devAt, h.devLog, h.regs, h.frozen, h.held, h.freeIdx,
    h.firstSeen, h.pfail, h.pfailBalls, h.clockLost, h.supplySafe, h.inRange, h.idleDrain, h.ctrlDue, h.waking, h.patchOk,
    h.checking, h.sealExp, h.sealSnap, h.sealFail, h.spdRun, h.qualLow, h.romFail, h.tempSeen, h.yew, fun c => absurd hf c,
    h.yewCfg, h.hq, h.cmpl, h.cmplWait, h.dropQ, h.hirqLow, h.hirqRose, h.mbox, h.nor, h.laurel, h.lanes, h.banks, h.pwm,
    h.eng, h.fbk, h.syncIn, h.syncOut, h.pose, h.imu, h.trav, h.fpe, h.gnss, h.time, h.map, h.ports, h.ring, h.rtime,
    h.rtun, h.hostTx, h.lastRead, h.tdo, h.extest⟩

@[simp] theorem only_upd_yewCfg (h : Only m s u) (x : Sparse Word) (hf : Field.yewCfg ∈ m.fields) : Only m s { u with yewCfg
    := x } := ⟨h.pending, h.now, h.member, h.dev, h.prev, h.devAt, h.devLog, h.regs, h.frozen, h.held, h.freeIdx,
    h.firstSeen, h.pfail, h.pfailBalls, h.clockLost, h.supplySafe, h.inRange, h.idleDrain, h.ctrlDue, h.waking, h.patchOk,
    h.checking, h.sealExp, h.sealSnap, h.sealFail, h.spdRun, h.qualLow, h.romFail, h.tempSeen, h.yew, h.yewPort, fun c =>
    absurd hf c, h.hq, h.cmpl, h.cmplWait, h.dropQ, h.hirqLow, h.hirqRose, h.mbox, h.nor, h.laurel, h.lanes, h.banks, h.pwm,
    h.eng, h.fbk, h.syncIn, h.syncOut, h.pose, h.imu, h.trav, h.fpe, h.gnss, h.time, h.map, h.ports, h.ring, h.rtime,
    h.rtun, h.hostTx, h.lastRead, h.tdo, h.extest⟩

@[simp] theorem only_upd_hq (h : Only m s u) (x : Vector Queue 32) (hf : Field.hq ∈ m.fields) : Only m s { u with hq := x }
    := ⟨h.pending, h.now, h.member, h.dev, h.prev, h.devAt, h.devLog, h.regs, h.frozen, h.held, h.freeIdx, h.firstSeen,
    h.pfail, h.pfailBalls, h.clockLost, h.supplySafe, h.inRange, h.idleDrain, h.ctrlDue, h.waking, h.patchOk, h.checking,
    h.sealExp, h.sealSnap, h.sealFail, h.spdRun, h.qualLow, h.romFail, h.tempSeen, h.yew, h.yewPort, h.yewCfg, fun c =>
    absurd hf c, h.cmpl, h.cmplWait, h.dropQ, h.hirqLow, h.hirqRose, h.mbox, h.nor, h.laurel, h.lanes, h.banks, h.pwm,
    h.eng, h.fbk, h.syncIn, h.syncOut, h.pose, h.imu, h.trav, h.fpe, h.gnss, h.time, h.map, h.ports, h.ring, h.rtime,
    h.rtun, h.hostTx, h.lastRead, h.tdo, h.extest⟩

@[simp] theorem only_upd_cmpl (h : Only m s u) (x : List Completion) (hf : Field.cmpl ∈ m.fields) : Only m s { u with cmpl
    := x } := ⟨h.pending, h.now, h.member, h.dev, h.prev, h.devAt, h.devLog, h.regs, h.frozen, h.held, h.freeIdx,
    h.firstSeen, h.pfail, h.pfailBalls, h.clockLost, h.supplySafe, h.inRange, h.idleDrain, h.ctrlDue, h.waking, h.patchOk,
    h.checking, h.sealExp, h.sealSnap, h.sealFail, h.spdRun, h.qualLow, h.romFail, h.tempSeen, h.yew, h.yewPort, h.yewCfg,
    h.hq, fun c => absurd hf c, h.cmplWait, h.dropQ, h.hirqLow, h.hirqRose, h.mbox, h.nor, h.laurel, h.lanes, h.banks,
    h.pwm, h.eng, h.fbk, h.syncIn, h.syncOut, h.pose, h.imu, h.trav, h.fpe, h.gnss, h.time, h.map, h.ports, h.ring, h.rtime,
    h.rtun, h.hostTx, h.lastRead, h.tdo, h.extest⟩

@[simp] theorem only_upd_cmplWait (h : Only m s u) (x : List Completion) (hf : Field.cmplWait ∈ m.fields) : Only m s { u
    with cmplWait := x } := ⟨h.pending, h.now, h.member, h.dev, h.prev, h.devAt, h.devLog, h.regs, h.frozen, h.held,
    h.freeIdx, h.firstSeen, h.pfail, h.pfailBalls, h.clockLost, h.supplySafe, h.inRange, h.idleDrain, h.ctrlDue, h.waking,
    h.patchOk, h.checking, h.sealExp, h.sealSnap, h.sealFail, h.spdRun, h.qualLow, h.romFail, h.tempSeen, h.yew, h.yewPort,
    h.yewCfg, h.hq, h.cmpl, fun c => absurd hf c, h.dropQ, h.hirqLow, h.hirqRose, h.mbox, h.nor, h.laurel, h.lanes, h.banks,
    h.pwm, h.eng, h.fbk, h.syncIn, h.syncOut, h.pose, h.imu, h.trav, h.fpe, h.gnss, h.time, h.map, h.ports, h.ring, h.rtime,
    h.rtun, h.hostTx, h.lastRead, h.tdo, h.extest⟩

@[simp] theorem only_upd_dropQ (h : Only m s u) (x : Nat) (hf : Field.dropQ ∈ m.fields) : Only m s { u with dropQ := x } :=
    ⟨h.pending, h.now, h.member, h.dev, h.prev, h.devAt, h.devLog, h.regs, h.frozen, h.held, h.freeIdx, h.firstSeen,
    h.pfail, h.pfailBalls, h.clockLost, h.supplySafe, h.inRange, h.idleDrain, h.ctrlDue, h.waking, h.patchOk, h.checking,
    h.sealExp, h.sealSnap, h.sealFail, h.spdRun, h.qualLow, h.romFail, h.tempSeen, h.yew, h.yewPort, h.yewCfg, h.hq, h.cmpl,
    h.cmplWait, fun c => absurd hf c, h.hirqLow, h.hirqRose, h.mbox, h.nor, h.laurel, h.lanes, h.banks, h.pwm, h.eng, h.fbk,
    h.syncIn, h.syncOut, h.pose, h.imu, h.trav, h.fpe, h.gnss, h.time, h.map, h.ports, h.ring, h.rtime, h.rtun, h.hostTx,
    h.lastRead, h.tdo, h.extest⟩

@[simp] theorem only_upd_hirqLow (h : Only m s u) (x : Bool) (hf : Field.hirqLow ∈ m.fields) : Only m s { u with hirqLow :=
    x } := ⟨h.pending, h.now, h.member, h.dev, h.prev, h.devAt, h.devLog, h.regs, h.frozen, h.held, h.freeIdx, h.firstSeen,
    h.pfail, h.pfailBalls, h.clockLost, h.supplySafe, h.inRange, h.idleDrain, h.ctrlDue, h.waking, h.patchOk, h.checking,
    h.sealExp, h.sealSnap, h.sealFail, h.spdRun, h.qualLow, h.romFail, h.tempSeen, h.yew, h.yewPort, h.yewCfg, h.hq, h.cmpl,
    h.cmplWait, h.dropQ, fun c => absurd hf c, h.hirqRose, h.mbox, h.nor, h.laurel, h.lanes, h.banks, h.pwm, h.eng, h.fbk,
    h.syncIn, h.syncOut, h.pose, h.imu, h.trav, h.fpe, h.gnss, h.time, h.map, h.ports, h.ring, h.rtime, h.rtun, h.hostTx,
    h.lastRead, h.tdo, h.extest⟩

@[simp] theorem only_upd_hirqRose (h : Only m s u) (x : Time) (hf : Field.hirqRose ∈ m.fields) : Only m s { u with hirqRose
    := x } := ⟨h.pending, h.now, h.member, h.dev, h.prev, h.devAt, h.devLog, h.regs, h.frozen, h.held, h.freeIdx,
    h.firstSeen, h.pfail, h.pfailBalls, h.clockLost, h.supplySafe, h.inRange, h.idleDrain, h.ctrlDue, h.waking, h.patchOk,
    h.checking, h.sealExp, h.sealSnap, h.sealFail, h.spdRun, h.qualLow, h.romFail, h.tempSeen, h.yew, h.yewPort, h.yewCfg,
    h.hq, h.cmpl, h.cmplWait, h.dropQ, h.hirqLow, fun c => absurd hf c, h.mbox, h.nor, h.laurel, h.lanes, h.banks, h.pwm,
    h.eng, h.fbk, h.syncIn, h.syncOut, h.pose, h.imu, h.trav, h.fpe, h.gnss, h.time, h.map, h.ports, h.ring, h.rtime,
    h.rtun, h.hostTx, h.lastRead, h.tdo, h.extest⟩

@[simp] theorem only_upd_mbox (h : Only m s u) (x : Vector Mailbox 8) (hf : Field.mbox ∈ m.fields) : Only m s { u with mbox
    := x } := ⟨h.pending, h.now, h.member, h.dev, h.prev, h.devAt, h.devLog, h.regs, h.frozen, h.held, h.freeIdx,
    h.firstSeen, h.pfail, h.pfailBalls, h.clockLost, h.supplySafe, h.inRange, h.idleDrain, h.ctrlDue, h.waking, h.patchOk,
    h.checking, h.sealExp, h.sealSnap, h.sealFail, h.spdRun, h.qualLow, h.romFail, h.tempSeen, h.yew, h.yewPort, h.yewCfg,
    h.hq, h.cmpl, h.cmplWait, h.dropQ, h.hirqLow, h.hirqRose, fun c => absurd hf c, h.nor, h.laurel, h.lanes, h.banks,
    h.pwm, h.eng, h.fbk, h.syncIn, h.syncOut, h.pose, h.imu, h.trav, h.fpe, h.gnss, h.time, h.map, h.ports, h.ring, h.rtime,
    h.rtun, h.hostTx, h.lastRead, h.tdo, h.extest⟩

@[simp] theorem only_upd_nor (h : Only m s u) (x : NorState) (hf : Field.nor ∈ m.fields) : Only m s { u with nor := x } :=
    ⟨h.pending, h.now, h.member, h.dev, h.prev, h.devAt, h.devLog, h.regs, h.frozen, h.held, h.freeIdx, h.firstSeen,
    h.pfail, h.pfailBalls, h.clockLost, h.supplySafe, h.inRange, h.idleDrain, h.ctrlDue, h.waking, h.patchOk, h.checking,
    h.sealExp, h.sealSnap, h.sealFail, h.spdRun, h.qualLow, h.romFail, h.tempSeen, h.yew, h.yewPort, h.yewCfg, h.hq, h.cmpl,
    h.cmplWait, h.dropQ, h.hirqLow, h.hirqRose, h.mbox, fun c => absurd hf c, h.laurel, h.lanes, h.banks, h.pwm, h.eng,
    h.fbk, h.syncIn, h.syncOut, h.pose, h.imu, h.trav, h.fpe, h.gnss, h.time, h.map, h.ports, h.ring, h.rtime, h.rtun,
    h.hostTx, h.lastRead, h.tdo, h.extest⟩

@[simp] theorem only_upd_laurel (h : Only m s u) (x : LaurelState) (hf : Field.laurel ∈ m.fields) : Only m s { u with laurel
    := x } := ⟨h.pending, h.now, h.member, h.dev, h.prev, h.devAt, h.devLog, h.regs, h.frozen, h.held, h.freeIdx,
    h.firstSeen, h.pfail, h.pfailBalls, h.clockLost, h.supplySafe, h.inRange, h.idleDrain, h.ctrlDue, h.waking, h.patchOk,
    h.checking, h.sealExp, h.sealSnap, h.sealFail, h.spdRun, h.qualLow, h.romFail, h.tempSeen, h.yew, h.yewPort, h.yewCfg,
    h.hq, h.cmpl, h.cmplWait, h.dropQ, h.hirqLow, h.hirqRose, h.mbox, h.nor, fun c => absurd hf c, h.lanes, h.banks, h.pwm,
    h.eng, h.fbk, h.syncIn, h.syncOut, h.pose, h.imu, h.trav, h.fpe, h.gnss, h.time, h.map, h.ports, h.ring, h.rtime,
    h.rtun, h.hostTx, h.lastRead, h.tdo, h.extest⟩

@[simp] theorem only_upd_lanes (h : Only m s u) (x : Vector LaneState 16) (hx : UnlessVec m .lanes x s.lanes) : Only m s { u
    with lanes := x } := ⟨h.pending, h.now, h.member, h.dev, h.prev, h.devAt, h.devLog, h.regs, h.frozen, h.held, h.freeIdx,
    h.firstSeen, h.pfail, h.pfailBalls, h.clockLost, h.supplySafe, h.inRange, h.idleDrain, h.ctrlDue, h.waking, h.patchOk,
    h.checking, h.sealExp, h.sealSnap, h.sealFail, h.spdRun, h.qualLow, h.romFail, h.tempSeen, h.yew, h.yewPort, h.yewCfg,
    h.hq, h.cmpl, h.cmplWait, h.dropQ, h.hirqLow, h.hirqRose, h.mbox, h.nor, h.laurel, hx, h.banks, h.pwm, h.eng, h.fbk,
    h.syncIn, h.syncOut, h.pose, h.imu, h.trav, h.fpe, h.gnss, h.time, h.map, h.ports, h.ring, h.rtime, h.rtun, h.hostTx,
    h.lastRead, h.tdo, h.extest⟩

@[simp] theorem only_upd_banks (h : Only m s u) (x : Vector BankState 16) (hx : UnlessVec m .banks x s.banks) : Only m s { u
    with banks := x } := ⟨h.pending, h.now, h.member, h.dev, h.prev, h.devAt, h.devLog, h.regs, h.frozen, h.held, h.freeIdx,
    h.firstSeen, h.pfail, h.pfailBalls, h.clockLost, h.supplySafe, h.inRange, h.idleDrain, h.ctrlDue, h.waking, h.patchOk,
    h.checking, h.sealExp, h.sealSnap, h.sealFail, h.spdRun, h.qualLow, h.romFail, h.tempSeen, h.yew, h.yewPort, h.yewCfg,
    h.hq, h.cmpl, h.cmplWait, h.dropQ, h.hirqLow, h.hirqRose, h.mbox, h.nor, h.laurel, h.lanes, hx, h.pwm, h.eng, h.fbk,
    h.syncIn, h.syncOut, h.pose, h.imu, h.trav, h.fpe, h.gnss, h.time, h.map, h.ports, h.ring, h.rtime, h.rtun, h.hostTx,
    h.lastRead, h.tdo, h.extest⟩

@[simp] theorem only_upd_pwm (h : Only m s u) (x : Vector PwmState 16) (hx : UnlessVec m .pwm x s.pwm) : Only m s { u with
    pwm := x } := ⟨h.pending, h.now, h.member, h.dev, h.prev, h.devAt, h.devLog, h.regs, h.frozen, h.held, h.freeIdx,
    h.firstSeen, h.pfail, h.pfailBalls, h.clockLost, h.supplySafe, h.inRange, h.idleDrain, h.ctrlDue, h.waking, h.patchOk,
    h.checking, h.sealExp, h.sealSnap, h.sealFail, h.spdRun, h.qualLow, h.romFail, h.tempSeen, h.yew, h.yewPort, h.yewCfg,
    h.hq, h.cmpl, h.cmplWait, h.dropQ, h.hirqLow, h.hirqRose, h.mbox, h.nor, h.laurel, h.lanes, h.banks, hx, h.eng, h.fbk,
    h.syncIn, h.syncOut, h.pose, h.imu, h.trav, h.fpe, h.gnss, h.time, h.map, h.ports, h.ring, h.rtime, h.rtun, h.hostTx,
    h.lastRead, h.tdo, h.extest⟩

@[simp] theorem only_upd_eng (h : Only m s u) (x : Vector EngState 16) (hx : UnlessVec m .eng x s.eng) : Only m s { u with
    eng := x } := ⟨h.pending, h.now, h.member, h.dev, h.prev, h.devAt, h.devLog, h.regs, h.frozen, h.held, h.freeIdx,
    h.firstSeen, h.pfail, h.pfailBalls, h.clockLost, h.supplySafe, h.inRange, h.idleDrain, h.ctrlDue, h.waking, h.patchOk,
    h.checking, h.sealExp, h.sealSnap, h.sealFail, h.spdRun, h.qualLow, h.romFail, h.tempSeen, h.yew, h.yewPort, h.yewCfg,
    h.hq, h.cmpl, h.cmplWait, h.dropQ, h.hirqLow, h.hirqRose, h.mbox, h.nor, h.laurel, h.lanes, h.banks, h.pwm, hx, h.fbk,
    h.syncIn, h.syncOut, h.pose, h.imu, h.trav, h.fpe, h.gnss, h.time, h.map, h.ports, h.ring, h.rtime, h.rtun, h.hostTx,
    h.lastRead, h.tdo, h.extest⟩

@[simp] theorem only_upd_fbk (h : Only m s u) (x : Vector FbkState 16) (hx : UnlessVec m .fbk x s.fbk) : Only m s { u with
    fbk := x } := ⟨h.pending, h.now, h.member, h.dev, h.prev, h.devAt, h.devLog, h.regs, h.frozen, h.held, h.freeIdx,
    h.firstSeen, h.pfail, h.pfailBalls, h.clockLost, h.supplySafe, h.inRange, h.idleDrain, h.ctrlDue, h.waking, h.patchOk,
    h.checking, h.sealExp, h.sealSnap, h.sealFail, h.spdRun, h.qualLow, h.romFail, h.tempSeen, h.yew, h.yewPort, h.yewCfg,
    h.hq, h.cmpl, h.cmplWait, h.dropQ, h.hirqLow, h.hirqRose, h.mbox, h.nor, h.laurel, h.lanes, h.banks, h.pwm, h.eng, hx,
    h.syncIn, h.syncOut, h.pose, h.imu, h.trav, h.fpe, h.gnss, h.time, h.map, h.ports, h.ring, h.rtime, h.rtun, h.hostTx,
    h.lastRead, h.tdo, h.extest⟩

@[simp] theorem only_upd_syncIn (h : Only m s u) (x : Option Time) (hf : Field.syncIn ∈ m.fields) : Only m s { u with syncIn
    := x } := ⟨h.pending, h.now, h.member, h.dev, h.prev, h.devAt, h.devLog, h.regs, h.frozen, h.held, h.freeIdx,
    h.firstSeen, h.pfail, h.pfailBalls, h.clockLost, h.supplySafe, h.inRange, h.idleDrain, h.ctrlDue, h.waking, h.patchOk,
    h.checking, h.sealExp, h.sealSnap, h.sealFail, h.spdRun, h.qualLow, h.romFail, h.tempSeen, h.yew, h.yewPort, h.yewCfg,
    h.hq, h.cmpl, h.cmplWait, h.dropQ, h.hirqLow, h.hirqRose, h.mbox, h.nor, h.laurel, h.lanes, h.banks, h.pwm, h.eng,
    h.fbk, fun c => absurd hf c, h.syncOut, h.pose, h.imu, h.trav, h.fpe, h.gnss, h.time, h.map, h.ports, h.ring, h.rtime,
    h.rtun, h.hostTx, h.lastRead, h.tdo, h.extest⟩

@[simp] theorem only_upd_syncOut (h : Only m s u) (x : Option Time) (hf : Field.syncOut ∈ m.fields) : Only m s { u with
    syncOut := x } := ⟨h.pending, h.now, h.member, h.dev, h.prev, h.devAt, h.devLog, h.regs, h.frozen, h.held, h.freeIdx,
    h.firstSeen, h.pfail, h.pfailBalls, h.clockLost, h.supplySafe, h.inRange, h.idleDrain, h.ctrlDue, h.waking, h.patchOk,
    h.checking, h.sealExp, h.sealSnap, h.sealFail, h.spdRun, h.qualLow, h.romFail, h.tempSeen, h.yew, h.yewPort, h.yewCfg,
    h.hq, h.cmpl, h.cmplWait, h.dropQ, h.hirqLow, h.hirqRose, h.mbox, h.nor, h.laurel, h.lanes, h.banks, h.pwm, h.eng,
    h.fbk, h.syncIn, fun c => absurd hf c, h.pose, h.imu, h.trav, h.fpe, h.gnss, h.time, h.map, h.ports, h.ring, h.rtime,
    h.rtun, h.hostTx, h.lastRead, h.tdo, h.extest⟩

@[simp] theorem only_upd_pose (h : Only m s u) (x : PoseState) (hf : Field.pose ∈ m.fields) : Only m s { u with pose := x }
    := ⟨h.pending, h.now, h.member, h.dev, h.prev, h.devAt, h.devLog, h.regs, h.frozen, h.held, h.freeIdx, h.firstSeen,
    h.pfail, h.pfailBalls, h.clockLost, h.supplySafe, h.inRange, h.idleDrain, h.ctrlDue, h.waking, h.patchOk, h.checking,
    h.sealExp, h.sealSnap, h.sealFail, h.spdRun, h.qualLow, h.romFail, h.tempSeen, h.yew, h.yewPort, h.yewCfg, h.hq, h.cmpl,
    h.cmplWait, h.dropQ, h.hirqLow, h.hirqRose, h.mbox, h.nor, h.laurel, h.lanes, h.banks, h.pwm, h.eng, h.fbk, h.syncIn,
    h.syncOut, fun c => absurd hf c, h.imu, h.trav, h.fpe, h.gnss, h.time, h.map, h.ports, h.ring, h.rtime, h.rtun,
    h.hostTx, h.lastRead, h.tdo, h.extest⟩

@[simp] theorem only_upd_imu (h : Only m s u) (x : ImuState) (hf : Field.imu ∈ m.fields) : Only m s { u with imu := x } :=
    ⟨h.pending, h.now, h.member, h.dev, h.prev, h.devAt, h.devLog, h.regs, h.frozen, h.held, h.freeIdx, h.firstSeen,
    h.pfail, h.pfailBalls, h.clockLost, h.supplySafe, h.inRange, h.idleDrain, h.ctrlDue, h.waking, h.patchOk, h.checking,
    h.sealExp, h.sealSnap, h.sealFail, h.spdRun, h.qualLow, h.romFail, h.tempSeen, h.yew, h.yewPort, h.yewCfg, h.hq, h.cmpl,
    h.cmplWait, h.dropQ, h.hirqLow, h.hirqRose, h.mbox, h.nor, h.laurel, h.lanes, h.banks, h.pwm, h.eng, h.fbk, h.syncIn,
    h.syncOut, h.pose, fun c => absurd hf c, h.trav, h.fpe, h.gnss, h.time, h.map, h.ports, h.ring, h.rtime, h.rtun,
    h.hostTx, h.lastRead, h.tdo, h.extest⟩

@[simp] theorem only_upd_trav (h : Only m s u) (x : TravState) (hf : Field.trav ∈ m.fields) : Only m s { u with trav := x }
    := ⟨h.pending, h.now, h.member, h.dev, h.prev, h.devAt, h.devLog, h.regs, h.frozen, h.held, h.freeIdx, h.firstSeen,
    h.pfail, h.pfailBalls, h.clockLost, h.supplySafe, h.inRange, h.idleDrain, h.ctrlDue, h.waking, h.patchOk, h.checking,
    h.sealExp, h.sealSnap, h.sealFail, h.spdRun, h.qualLow, h.romFail, h.tempSeen, h.yew, h.yewPort, h.yewCfg, h.hq, h.cmpl,
    h.cmplWait, h.dropQ, h.hirqLow, h.hirqRose, h.mbox, h.nor, h.laurel, h.lanes, h.banks, h.pwm, h.eng, h.fbk, h.syncIn,
    h.syncOut, h.pose, h.imu, fun c => absurd hf c, h.fpe, h.gnss, h.time, h.map, h.ports, h.ring, h.rtime, h.rtun,
    h.hostTx, h.lastRead, h.tdo, h.extest⟩

@[simp] theorem only_upd_fpe (h : Only m s u) (x : FpeState) (hf : Field.fpe ∈ m.fields) : Only m s { u with fpe := x } :=
    ⟨h.pending, h.now, h.member, h.dev, h.prev, h.devAt, h.devLog, h.regs, h.frozen, h.held, h.freeIdx, h.firstSeen,
    h.pfail, h.pfailBalls, h.clockLost, h.supplySafe, h.inRange, h.idleDrain, h.ctrlDue, h.waking, h.patchOk, h.checking,
    h.sealExp, h.sealSnap, h.sealFail, h.spdRun, h.qualLow, h.romFail, h.tempSeen, h.yew, h.yewPort, h.yewCfg, h.hq, h.cmpl,
    h.cmplWait, h.dropQ, h.hirqLow, h.hirqRose, h.mbox, h.nor, h.laurel, h.lanes, h.banks, h.pwm, h.eng, h.fbk, h.syncIn,
    h.syncOut, h.pose, h.imu, h.trav, fun c => absurd hf c, h.gnss, h.time, h.map, h.ports, h.ring, h.rtime, h.rtun,
    h.hostTx, h.lastRead, h.tdo, h.extest⟩

@[simp] theorem only_upd_gnss (h : Only m s u) (x : GnssState) (hf : Field.gnss ∈ m.fields) : Only m s { u with gnss := x }
    := ⟨h.pending, h.now, h.member, h.dev, h.prev, h.devAt, h.devLog, h.regs, h.frozen, h.held, h.freeIdx, h.firstSeen,
    h.pfail, h.pfailBalls, h.clockLost, h.supplySafe, h.inRange, h.idleDrain, h.ctrlDue, h.waking, h.patchOk, h.checking,
    h.sealExp, h.sealSnap, h.sealFail, h.spdRun, h.qualLow, h.romFail, h.tempSeen, h.yew, h.yewPort, h.yewCfg, h.hq, h.cmpl,
    h.cmplWait, h.dropQ, h.hirqLow, h.hirqRose, h.mbox, h.nor, h.laurel, h.lanes, h.banks, h.pwm, h.eng, h.fbk, h.syncIn,
    h.syncOut, h.pose, h.imu, h.trav, h.fpe, fun c => absurd hf c, h.time, h.map, h.ports, h.ring, h.rtime, h.rtun,
    h.hostTx, h.lastRead, h.tdo, h.extest⟩

@[simp] theorem only_upd_time (h : Only m s u) (x : TimeState) (hf : Field.time ∈ m.fields) : Only m s { u with time := x }
    := ⟨h.pending, h.now, h.member, h.dev, h.prev, h.devAt, h.devLog, h.regs, h.frozen, h.held, h.freeIdx, h.firstSeen,
    h.pfail, h.pfailBalls, h.clockLost, h.supplySafe, h.inRange, h.idleDrain, h.ctrlDue, h.waking, h.patchOk, h.checking,
    h.sealExp, h.sealSnap, h.sealFail, h.spdRun, h.qualLow, h.romFail, h.tempSeen, h.yew, h.yewPort, h.yewCfg, h.hq, h.cmpl,
    h.cmplWait, h.dropQ, h.hirqLow, h.hirqRose, h.mbox, h.nor, h.laurel, h.lanes, h.banks, h.pwm, h.eng, h.fbk, h.syncIn,
    h.syncOut, h.pose, h.imu, h.trav, h.fpe, h.gnss, fun c => absurd hf c, h.map, h.ports, h.ring, h.rtime, h.rtun,
    h.hostTx, h.lastRead, h.tdo, h.extest⟩

@[simp] theorem only_upd_map (h : Only m s u) (x : MapState) (hf : Field.map ∈ m.fields) : Only m s { u with map := x } :=
    ⟨h.pending, h.now, h.member, h.dev, h.prev, h.devAt, h.devLog, h.regs, h.frozen, h.held, h.freeIdx, h.firstSeen,
    h.pfail, h.pfailBalls, h.clockLost, h.supplySafe, h.inRange, h.idleDrain, h.ctrlDue, h.waking, h.patchOk, h.checking,
    h.sealExp, h.sealSnap, h.sealFail, h.spdRun, h.qualLow, h.romFail, h.tempSeen, h.yew, h.yewPort, h.yewCfg, h.hq, h.cmpl,
    h.cmplWait, h.dropQ, h.hirqLow, h.hirqRose, h.mbox, h.nor, h.laurel, h.lanes, h.banks, h.pwm, h.eng, h.fbk, h.syncIn,
    h.syncOut, h.pose, h.imu, h.trav, h.fpe, h.gnss, h.time, fun c => absurd hf c, h.ports, h.ring, h.rtime, h.rtun,
    h.hostTx, h.lastRead, h.tdo, h.extest⟩

@[simp] theorem only_upd_ports (h : Only m s u) (x : Vector PortState 2) (hf : Field.ports ∈ m.fields) : Only m s { u with
    ports := x } := ⟨h.pending, h.now, h.member, h.dev, h.prev, h.devAt, h.devLog, h.regs, h.frozen, h.held, h.freeIdx,
    h.firstSeen, h.pfail, h.pfailBalls, h.clockLost, h.supplySafe, h.inRange, h.idleDrain, h.ctrlDue, h.waking, h.patchOk,
    h.checking, h.sealExp, h.sealSnap, h.sealFail, h.spdRun, h.qualLow, h.romFail, h.tempSeen, h.yew, h.yewPort, h.yewCfg,
    h.hq, h.cmpl, h.cmplWait, h.dropQ, h.hirqLow, h.hirqRose, h.mbox, h.nor, h.laurel, h.lanes, h.banks, h.pwm, h.eng,
    h.fbk, h.syncIn, h.syncOut, h.pose, h.imu, h.trav, h.fpe, h.gnss, h.time, h.map, fun c => absurd hf c, h.ring, h.rtime,
    h.rtun, h.hostTx, h.lastRead, h.tdo, h.extest⟩

@[simp] theorem only_upd_ring (h : Only m s u) (x : RingState) (hf : Field.ring ∈ m.fields) : Only m s { u with ring := x }
    := ⟨h.pending, h.now, h.member, h.dev, h.prev, h.devAt, h.devLog, h.regs, h.frozen, h.held, h.freeIdx, h.firstSeen,
    h.pfail, h.pfailBalls, h.clockLost, h.supplySafe, h.inRange, h.idleDrain, h.ctrlDue, h.waking, h.patchOk, h.checking,
    h.sealExp, h.sealSnap, h.sealFail, h.spdRun, h.qualLow, h.romFail, h.tempSeen, h.yew, h.yewPort, h.yewCfg, h.hq, h.cmpl,
    h.cmplWait, h.dropQ, h.hirqLow, h.hirqRose, h.mbox, h.nor, h.laurel, h.lanes, h.banks, h.pwm, h.eng, h.fbk, h.syncIn,
    h.syncOut, h.pose, h.imu, h.trav, h.fpe, h.gnss, h.time, h.map, h.ports, fun c => absurd hf c, h.rtime, h.rtun,
    h.hostTx, h.lastRead, h.tdo, h.extest⟩

@[simp] theorem only_upd_rtime (h : Only m s u) (x : RTimeState) (hf : Field.rtime ∈ m.fields) : Only m s { u with rtime :=
    x } := ⟨h.pending, h.now, h.member, h.dev, h.prev, h.devAt, h.devLog, h.regs, h.frozen, h.held, h.freeIdx, h.firstSeen,
    h.pfail, h.pfailBalls, h.clockLost, h.supplySafe, h.inRange, h.idleDrain, h.ctrlDue, h.waking, h.patchOk, h.checking,
    h.sealExp, h.sealSnap, h.sealFail, h.spdRun, h.qualLow, h.romFail, h.tempSeen, h.yew, h.yewPort, h.yewCfg, h.hq, h.cmpl,
    h.cmplWait, h.dropQ, h.hirqLow, h.hirqRose, h.mbox, h.nor, h.laurel, h.lanes, h.banks, h.pwm, h.eng, h.fbk, h.syncIn,
    h.syncOut, h.pose, h.imu, h.trav, h.fpe, h.gnss, h.time, h.map, h.ports, h.ring, fun c => absurd hf c, h.rtun, h.hostTx,
    h.lastRead, h.tdo, h.extest⟩

@[simp] theorem only_upd_rtun (h : Only m s u) (x : RTunState) (hf : Field.rtun ∈ m.fields) : Only m s { u with rtun := x }
    := ⟨h.pending, h.now, h.member, h.dev, h.prev, h.devAt, h.devLog, h.regs, h.frozen, h.held, h.freeIdx, h.firstSeen,
    h.pfail, h.pfailBalls, h.clockLost, h.supplySafe, h.inRange, h.idleDrain, h.ctrlDue, h.waking, h.patchOk, h.checking,
    h.sealExp, h.sealSnap, h.sealFail, h.spdRun, h.qualLow, h.romFail, h.tempSeen, h.yew, h.yewPort, h.yewCfg, h.hq, h.cmpl,
    h.cmplWait, h.dropQ, h.hirqLow, h.hirqRose, h.mbox, h.nor, h.laurel, h.lanes, h.banks, h.pwm, h.eng, h.fbk, h.syncIn,
    h.syncOut, h.pose, h.imu, h.trav, h.fpe, h.gnss, h.time, h.map, h.ports, h.ring, h.rtime, fun c => absurd hf c,
    h.hostTx, h.lastRead, h.tdo, h.extest⟩

@[simp] theorem only_upd_hostTx (h : Only m s u) (x : List Byte) (hf : Field.hostTx ∈ m.fields) : Only m s { u with hostTx
    := x } := ⟨h.pending, h.now, h.member, h.dev, h.prev, h.devAt, h.devLog, h.regs, h.frozen, h.held, h.freeIdx,
    h.firstSeen, h.pfail, h.pfailBalls, h.clockLost, h.supplySafe, h.inRange, h.idleDrain, h.ctrlDue, h.waking, h.patchOk,
    h.checking, h.sealExp, h.sealSnap, h.sealFail, h.spdRun, h.qualLow, h.romFail, h.tempSeen, h.yew, h.yewPort, h.yewCfg,
    h.hq, h.cmpl, h.cmplWait, h.dropQ, h.hirqLow, h.hirqRose, h.mbox, h.nor, h.laurel, h.lanes, h.banks, h.pwm, h.eng,
    h.fbk, h.syncIn, h.syncOut, h.pose, h.imu, h.trav, h.fpe, h.gnss, h.time, h.map, h.ports, h.ring, h.rtime, h.rtun, fun c
    => absurd hf c, h.lastRead, h.tdo, h.extest⟩

@[simp] theorem only_upd_lastRead (h : Only m s u) (x : Word) (hf : Field.lastRead ∈ m.fields) : Only m s { u with lastRead
    := x } := ⟨h.pending, h.now, h.member, h.dev, h.prev, h.devAt, h.devLog, h.regs, h.frozen, h.held, h.freeIdx,
    h.firstSeen, h.pfail, h.pfailBalls, h.clockLost, h.supplySafe, h.inRange, h.idleDrain, h.ctrlDue, h.waking, h.patchOk,
    h.checking, h.sealExp, h.sealSnap, h.sealFail, h.spdRun, h.qualLow, h.romFail, h.tempSeen, h.yew, h.yewPort, h.yewCfg,
    h.hq, h.cmpl, h.cmplWait, h.dropQ, h.hirqLow, h.hirqRose, h.mbox, h.nor, h.laurel, h.lanes, h.banks, h.pwm, h.eng,
    h.fbk, h.syncIn, h.syncOut, h.pose, h.imu, h.trav, h.fpe, h.gnss, h.time, h.map, h.ports, h.ring, h.rtime, h.rtun,
    h.hostTx, fun c => absurd hf c, h.tdo, h.extest⟩

@[simp] theorem only_upd_tdo (h : Only m s u) (x : Word) (hf : Field.tdo ∈ m.fields) : Only m s { u with tdo := x } :=
    ⟨h.pending, h.now, h.member, h.dev, h.prev, h.devAt, h.devLog, h.regs, h.frozen, h.held, h.freeIdx, h.firstSeen,
    h.pfail, h.pfailBalls, h.clockLost, h.supplySafe, h.inRange, h.idleDrain, h.ctrlDue, h.waking, h.patchOk, h.checking,
    h.sealExp, h.sealSnap, h.sealFail, h.spdRun, h.qualLow, h.romFail, h.tempSeen, h.yew, h.yewPort, h.yewCfg, h.hq, h.cmpl,
    h.cmplWait, h.dropQ, h.hirqLow, h.hirqRose, h.mbox, h.nor, h.laurel, h.lanes, h.banks, h.pwm, h.eng, h.fbk, h.syncIn,
    h.syncOut, h.pose, h.imu, h.trav, h.fpe, h.gnss, h.time, h.map, h.ports, h.ring, h.rtime, h.rtun, h.hostTx, h.lastRead,
    fun c => absurd hf c, h.extest⟩

@[simp] theorem only_upd_extest (h : Only m s u) (x : Bool) (hf : Field.extest ∈ m.fields) : Only m s { u with extest := x }
    := ⟨h.pending, h.now, h.member, h.dev, h.prev, h.devAt, h.devLog, h.regs, h.frozen, h.held, h.freeIdx, h.firstSeen,
    h.pfail, h.pfailBalls, h.clockLost, h.supplySafe, h.inRange, h.idleDrain, h.ctrlDue, h.waking, h.patchOk, h.checking,
    h.sealExp, h.sealSnap, h.sealFail, h.spdRun, h.qualLow, h.romFail, h.tempSeen, h.yew, h.yewPort, h.yewCfg, h.hq, h.cmpl,
    h.cmplWait, h.dropQ, h.hirqLow, h.hirqRose, h.mbox, h.nor, h.laurel, h.lanes, h.banks, h.pwm, h.eng, h.fbk, h.syncIn,
    h.syncOut, h.pose, h.imu, h.trav, h.fpe, h.gnss, h.time, h.map, h.ports, h.ring, h.rtime, h.rtun, h.hostTx, h.lastRead,
    h.tdo, fun c => absurd hf c⟩

@[simp] theorem only_upd_regs (h : Only m s u) (x : Sparse Word) (hx : OnlyRegs m s x) : Only m s { u with regs := x } :=
    ⟨h.pending, h.now, h.member, h.dev, h.prev, h.devAt, h.devLog, hx, h.frozen, h.held, h.freeIdx, h.firstSeen, h.pfail,
    h.pfailBalls, h.clockLost, h.supplySafe, h.inRange, h.idleDrain, h.ctrlDue, h.waking, h.patchOk, h.checking, h.sealExp,
    h.sealSnap, h.sealFail, h.spdRun, h.qualLow, h.romFail, h.tempSeen, h.yew, h.yewPort, h.yewCfg, h.hq, h.cmpl,
    h.cmplWait, h.dropQ, h.hirqLow, h.hirqRose, h.mbox, h.nor, h.laurel, h.lanes, h.banks, h.pwm, h.eng, h.fbk, h.syncIn,
    h.syncOut, h.pose, h.imu, h.trav, h.fpe, h.gnss, h.time, h.map, h.ports, h.ring, h.rtime, h.rtun, h.hostTx, h.lastRead,
    h.tdo, h.extest⟩

@[simp] theorem page_pgFpe (h : 24 ∈ m.pages) : m.page pgFpe := page_lit h (of_decide_eq_true rfl)

@[simp] theorem page_pgLaurel (h : 3 ∈ m.pages) : m.page pgLaurel := page_lit h (of_decide_eq_true rfl)

@[simp] theorem page_pgMap (h : 25 ∈ m.pages) : m.page pgMap := page_lit h (of_decide_eq_true rfl)

@[simp] theorem page_pgMbox (h : 5 ∈ m.pages) : m.page pgMbox := page_lit h (of_decide_eq_true rfl)

@[simp] theorem page_pgNor (h : 7 ∈ m.pages) : m.page pgNor := page_lit h (of_decide_eq_true rfl)

@[simp] theorem page_pgPose (h : 20 ∈ m.pages) : m.page pgPose := page_lit h (of_decide_eq_true rfl)

@[simp] theorem page_pgSched (h : 28 ∈ m.pages) : m.page pgSched := page_lit h (of_decide_eq_true rfl)

@[simp] theorem page_pgTpls (h : 18 ∈ m.pages) : m.page pgTpls := page_lit h (of_decide_eq_true rfl)

@[simp] theorem page_pgYew (h : 6 ∈ m.pages) : m.page pgYew := page_lit h (of_decide_eq_true rfl)

@[simp] theorem page_pgRtx (p : Ring) (h : 8 ∈ m.pages) (h2 : 9 ∈ m.pages) : m.page (pgRtx p) := by
  cases p
  · exact page_lit h (of_decide_eq_true rfl)
  · exact page_lit h2 (of_decide_eq_true rfl)

@[simp] theorem page_pgGnss (p : Half) (h : 16 ∈ m.pages) (h2 : 17 ∈ m.pages) : m.page (pgGnss p) := by
  cases p
  · exact page_lit h (of_decide_eq_true rfl)
  · exact page_lit h2 (of_decide_eq_true rfl)

@[simp] theorem page_pgLane (n : LaneIx) (h : n ∈ m.lanes) : m.page (pgLane n.val) := page_lane h
    (by have := n.isLt; simp only [pgLane]; omega) (by have := n.isLt; simp only [pgLane]; omega) (by have := n.isLt; simp only [pgLane]; omega)

@[simp] theorem page_pgOutl (n : LaneIx) (h : n ∈ m.lanes) : m.page (pgOutl n.val) := page_lane h
    (by have := n.isLt; simp only [pgOutl]; omega) (by have := n.isLt; simp only [pgOutl]; omega) (by have := n.isLt; simp only [pgOutl]; omega)

@[simp] theorem page_pgPwmg (n : LaneIx) (h : n ∈ m.lanes) : m.page (pgPwmg n.val) := page_lane h
    (by have := n.isLt; simp only [pgPwmg]; omega) (by have := n.isLt; simp only [pgPwmg]; omega) (by have := n.isLt; simp only [pgPwmg]; omega)

@[simp] theorem page_pgLoop (n : LaneIx) (h : n ∈ m.lanes) : m.page (pgLoop n.val) := page_lane h
    (by have := n.isLt; simp only [pgLoop]; omega) (by have := n.isLt; simp only [pgLoop]; omega) (by have := n.isLt; simp only [pgLoop]; omega)

@[simp] theorem page_pgFbk (n : LaneIx) (h : n ∈ m.lanes) : m.page (pgFbk n.val) := page_lane h
    (by have := n.isLt; simp only [pgFbk]; omega) (by have := n.isLt; simp only [pgFbk]; omega) (by have := n.isLt; simp only [pgFbk]; omega)

@[simp] theorem page_pgSnap (n : LaneIx) (h : n ∈ m.lanes) : m.page (pgSnap n.val) := page_lane h
    (by have := n.isLt; simp only [pgSnap]; omega) (by have := n.isLt; simp only [pgSnap]; omega) (by have := n.isLt; simp only [pgSnap]; omega)

@[simp] theorem rg_CLK_CLK_EVT_0  (h : 1 ∈ m.pages) : m.reg (CLK.CLK_EVT) := reg_lit (of_decide_eq_true rfl) h (of_decide_eq_true rfl)

@[simp] theorem ev_CLK_CLK_EVT_0  (h : 1 ∈ m.pages) (hi lo : Nat) : EvtOk m ⟨CLK.CLK_EVT, hi, lo⟩ := evt_lit (of_decide_eq_true rfl) h
    (of_decide_eq_true rfl)

@[simp] theorem fa_CLK_CLK_EVT_PLL_UNLOCK_0  (h : 1 ∈ m.pages) : m.reg (CLK.CLK_EVT.PLL_UNLOCK).addr := rg_CLK_CLK_EVT_0 h

@[simp] theorem fe_CLK_CLK_EVT_PLL_UNLOCK_0  (h : 1 ∈ m.pages) : EvtOk m (CLK.CLK_EVT.PLL_UNLOCK) := ev_CLK_CLK_EVT_0 h _ _

@[simp] theorem fa_CLK_CLK_EVT_REFCLK_LOSS_0  (h : 1 ∈ m.pages) : m.reg (CLK.CLK_EVT.REFCLK_LOSS).addr := rg_CLK_CLK_EVT_0 h

@[simp] theorem fe_CLK_CLK_EVT_REFCLK_LOSS_0  (h : 1 ∈ m.pages) : EvtOk m (CLK.CLK_EVT.REFCLK_LOSS) := ev_CLK_CLK_EVT_0 h _
    _

@[simp] theorem fa_CLK_CLK_EVT_SERDES_A_UNLOCK_0  (h : 1 ∈ m.pages) : m.reg (CLK.CLK_EVT.SERDES_A_UNLOCK).addr :=
    rg_CLK_CLK_EVT_0 h

@[simp] theorem fe_CLK_CLK_EVT_SERDES_A_UNLOCK_0  (h : 1 ∈ m.pages) : EvtOk m (CLK.CLK_EVT.SERDES_A_UNLOCK) :=
    ev_CLK_CLK_EVT_0 h _ _

@[simp] theorem fa_CLK_CLK_EVT_SERDES_B_UNLOCK_0  (h : 1 ∈ m.pages) : m.reg (CLK.CLK_EVT.SERDES_B_UNLOCK).addr :=
    rg_CLK_CLK_EVT_0 h

@[simp] theorem fe_CLK_CLK_EVT_SERDES_B_UNLOCK_0  (h : 1 ∈ m.pages) : EvtOk m (CLK.CLK_EVT.SERDES_B_UNLOCK) :=
    ev_CLK_CLK_EVT_0 h _ _

@[simp] theorem rg_CLK_CLK_STAT_0  (h : 1 ∈ m.pages) : m.reg (CLK.CLK_STAT) := reg_lit (of_decide_eq_true rfl) h (of_decide_eq_true rfl)

@[simp] theorem ev_CLK_CLK_STAT_0  (h : 1 ∈ m.pages) (hi lo : Nat) : EvtOk m ⟨CLK.CLK_STAT, hi, lo⟩ := evt_lit (of_decide_eq_true rfl) h
    (of_decide_eq_true rfl)

@[simp] theorem fa_CLK_CLK_STAT_INT_OSC_0  (h : 1 ∈ m.pages) : m.reg (CLK.CLK_STAT.INT_OSC).addr := rg_CLK_CLK_STAT_0 h

@[simp] theorem fe_CLK_CLK_STAT_INT_OSC_0  (h : 1 ∈ m.pages) : EvtOk m (CLK.CLK_STAT.INT_OSC) := ev_CLK_CLK_STAT_0 h _ _

@[simp] theorem fa_CLK_CLK_STAT_PLL_0  (h : 1 ∈ m.pages) : m.reg (CLK.CLK_STAT.PLL).addr := rg_CLK_CLK_STAT_0 h

@[simp] theorem fe_CLK_CLK_STAT_PLL_0  (h : 1 ∈ m.pages) : EvtOk m (CLK.CLK_STAT.PLL) := ev_CLK_CLK_STAT_0 h _ _

@[simp] theorem fa_CLK_CLK_STAT_REFCLK_OK_0  (h : 1 ∈ m.pages) : m.reg (CLK.CLK_STAT.REFCLK_OK).addr := rg_CLK_CLK_STAT_0 h

@[simp] theorem fe_CLK_CLK_STAT_REFCLK_OK_0  (h : 1 ∈ m.pages) : EvtOk m (CLK.CLK_STAT.REFCLK_OK) := ev_CLK_CLK_STAT_0 h _ _

@[simp] theorem fa_CLK_CLK_STAT_SERDES_A_LOCK_0  (h : 1 ∈ m.pages) : m.reg (CLK.CLK_STAT.SERDES_A_LOCK).addr :=
    rg_CLK_CLK_STAT_0 h

@[simp] theorem fe_CLK_CLK_STAT_SERDES_A_LOCK_0  (h : 1 ∈ m.pages) : EvtOk m (CLK.CLK_STAT.SERDES_A_LOCK) :=
    ev_CLK_CLK_STAT_0 h _ _

@[simp] theorem fa_CLK_CLK_STAT_SERDES_B_LOCK_0  (h : 1 ∈ m.pages) : m.reg (CLK.CLK_STAT.SERDES_B_LOCK).addr :=
    rg_CLK_CLK_STAT_0 h

@[simp] theorem fe_CLK_CLK_STAT_SERDES_B_LOCK_0  (h : 1 ∈ m.pages) : EvtOk m (CLK.CLK_STAT.SERDES_B_LOCK) :=
    ev_CLK_CLK_STAT_0 h _ _

@[simp] theorem fa_CLK_CLK_STAT_SYS_PLL_LOCK_0  (h : 1 ∈ m.pages) : m.reg (CLK.CLK_STAT.SYS_PLL_LOCK).addr :=
    rg_CLK_CLK_STAT_0 h

@[simp] theorem fe_CLK_CLK_STAT_SYS_PLL_LOCK_0  (h : 1 ∈ m.pages) : EvtOk m (CLK.CLK_STAT.SYS_PLL_LOCK) := ev_CLK_CLK_STAT_0
    h _ _

@[simp] theorem rg_CLK_SERDES_LOCK_CNT_0  (h : 1 ∈ m.pages) : m.reg (CLK.SERDES_LOCK_CNT) := reg_lit (of_decide_eq_true rfl) h (by
    decide)

@[simp] theorem ev_CLK_SERDES_LOCK_CNT_0  (h : 1 ∈ m.pages) (hi lo : Nat) : EvtOk m ⟨CLK.SERDES_LOCK_CNT, hi, lo⟩ := evt_lit
    (of_decide_eq_true rfl) h (of_decide_eq_true rfl)

@[simp] theorem rg_FBK_EVT_0 (n : LaneIx) (h : n ∈ m.lanes) : m.reg (FBK.EVT n.val) := by
  have hn := n.isLt; unfold FBK.EVT
  exact reg_lane h (by omega) (by omega) (by omega) (by omega)

@[simp] theorem ev_FBK_EVT_0 (n : LaneIx) (h : n ∈ m.lanes) (hi lo : Nat) : EvtOk m ⟨FBK.EVT n.val, hi, lo⟩ := by
  have hn := n.isLt; unfold FBK.EVT
  exact evt_lane h (by omega) (by omega) (by omega) (by omega)

@[simp] theorem fa_FBK_EVT_EM_LAG_0 (n : LaneIx) (h : n ∈ m.lanes) : m.reg (FBK.EVT.EM_LAG n.val).addr := rg_FBK_EVT_0 n h

@[simp] theorem fe_FBK_EVT_EM_LAG_0 (n : LaneIx) (h : n ∈ m.lanes) : EvtOk m (FBK.EVT.EM_LAG n.val) := ev_FBK_EVT_0 n h _ _

@[simp] theorem fa_FBK_EVT_HALL_BAD_0 (n : LaneIx) (h : n ∈ m.lanes) : m.reg (FBK.EVT.HALL_BAD n.val).addr := rg_FBK_EVT_0 n
    h

@[simp] theorem fe_FBK_EVT_HALL_BAD_0 (n : LaneIx) (h : n ∈ m.lanes) : EvtOk m (FBK.EVT.HALL_BAD n.val) := ev_FBK_EVT_0 n h
    _ _

@[simp] theorem fa_FBK_EVT_HALL_SKIP_0 (n : LaneIx) (h : n ∈ m.lanes) : m.reg (FBK.EVT.HALL_SKIP n.val).addr := rg_FBK_EVT_0
    n h

@[simp] theorem fe_FBK_EVT_HALL_SKIP_0 (n : LaneIx) (h : n ∈ m.lanes) : EvtOk m (FBK.EVT.HALL_SKIP n.val) := ev_FBK_EVT_0 n
    h _ _

@[simp] theorem fa_FBK_EVT_IDX_ERR_0 (n : LaneIx) (h : n ∈ m.lanes) : m.reg (FBK.EVT.IDX_ERR n.val).addr := rg_FBK_EVT_0 n h

@[simp] theorem fe_FBK_EVT_IDX_ERR_0 (n : LaneIx) (h : n ∈ m.lanes) : EvtOk m (FBK.EVT.IDX_ERR n.val) := ev_FBK_EVT_0 n h _
    _

@[simp] theorem fa_FBK_EVT_IDX_RESYNC_0 (n : LaneIx) (h : n ∈ m.lanes) : m.reg (FBK.EVT.IDX_RESYNC n.val).addr :=
    rg_FBK_EVT_0 n h

@[simp] theorem fe_FBK_EVT_IDX_RESYNC_0 (n : LaneIx) (h : n ∈ m.lanes) : EvtOk m (FBK.EVT.IDX_RESYNC n.val) := ev_FBK_EVT_0
    n h _ _

@[simp] theorem fa_FBK_EVT_ILLEGAL_0 (n : LaneIx) (h : n ∈ m.lanes) : m.reg (FBK.EVT.ILLEGAL n.val).addr := rg_FBK_EVT_0 n h

@[simp] theorem fe_FBK_EVT_ILLEGAL_0 (n : LaneIx) (h : n ∈ m.lanes) : EvtOk m (FBK.EVT.ILLEGAL n.val) := ev_FBK_EVT_0 n h _
    _

@[simp] theorem fa_FBK_EVT_WIRE_0 (n : LaneIx) (h : n ∈ m.lanes) : m.reg (FBK.EVT.WIRE n.val).addr := rg_FBK_EVT_0 n h

@[simp] theorem fe_FBK_EVT_WIRE_0 (n : LaneIx) (h : n ∈ m.lanes) : EvtOk m (FBK.EVT.WIRE n.val) := ev_FBK_EVT_0 n h _ _

@[simp] theorem rg_FBK_HALL_BAD_CNT_0 (n : LaneIx) (h : n ∈ m.lanes) : m.reg (FBK.HALL_BAD_CNT n.val) := by
  have hn := n.isLt; unfold FBK.HALL_BAD_CNT
  exact reg_lane h (by omega) (by omega) (by omega) (by omega)

@[simp] theorem ev_FBK_HALL_BAD_CNT_0 (n : LaneIx) (h : n ∈ m.lanes) (hi lo : Nat) : EvtOk m ⟨FBK.HALL_BAD_CNT n.val, hi,
    lo⟩ := by
  have hn := n.isLt; unfold FBK.HALL_BAD_CNT
  exact evt_lane h (by omega) (by omega) (by omega) (by omega)

@[simp] theorem rg_FBK_IDX_ERR_CNT_0 (n : LaneIx) (h : n ∈ m.lanes) : m.reg (FBK.IDX_ERR_CNT n.val) := by
  have hn := n.isLt; unfold FBK.IDX_ERR_CNT
  exact reg_lane h (by omega) (by omega) (by omega) (by omega)

@[simp] theorem ev_FBK_IDX_ERR_CNT_0 (n : LaneIx) (h : n ∈ m.lanes) (hi lo : Nat) : EvtOk m ⟨FBK.IDX_ERR_CNT n.val, hi, lo⟩
    := by
  have hn := n.isLt; unfold FBK.IDX_ERR_CNT
  exact evt_lane h (by omega) (by omega) (by omega) (by omega)

@[simp] theorem rg_FBK_ILLEGAL_CNT_0 (n : LaneIx) (h : n ∈ m.lanes) : m.reg (FBK.ILLEGAL_CNT n.val) := by
  have hn := n.isLt; unfold FBK.ILLEGAL_CNT
  exact reg_lane h (by omega) (by omega) (by omega) (by omega)

@[simp] theorem ev_FBK_ILLEGAL_CNT_0 (n : LaneIx) (h : n ∈ m.lanes) (hi lo : Nat) : EvtOk m ⟨FBK.ILLEGAL_CNT n.val, hi, lo⟩
    := by
  have hn := n.isLt; unfold FBK.ILLEGAL_CNT
  exact evt_lane h (by omega) (by omega) (by omega) (by omega)

@[simp] theorem fa_FBK_ILLEGAL_CNT_HALL_SKIP_0 (n : LaneIx) (h : n ∈ m.lanes) : m.reg (FBK.ILLEGAL_CNT.HALL_SKIP n.val).addr
    := rg_FBK_ILLEGAL_CNT_0 n h

@[simp] theorem fe_FBK_ILLEGAL_CNT_HALL_SKIP_0 (n : LaneIx) (h : n ∈ m.lanes) : EvtOk m (FBK.ILLEGAL_CNT.HALL_SKIP n.val) :=
    ev_FBK_ILLEGAL_CNT_0 n h _ _

@[simp] theorem fa_FBK_ILLEGAL_CNT_ILLEGAL_0 (n : LaneIx) (h : n ∈ m.lanes) : m.reg (FBK.ILLEGAL_CNT.ILLEGAL n.val).addr :=
    rg_FBK_ILLEGAL_CNT_0 n h

@[simp] theorem fe_FBK_ILLEGAL_CNT_ILLEGAL_0 (n : LaneIx) (h : n ∈ m.lanes) : EvtOk m (FBK.ILLEGAL_CNT.ILLEGAL n.val) :=
    ev_FBK_ILLEGAL_CNT_0 n h _ _

@[simp] theorem rg_FBK_WIRE_CNT_0 (n : LaneIx) (h : n ∈ m.lanes) : m.reg (FBK.WIRE_CNT n.val) := by
  have hn := n.isLt; unfold FBK.WIRE_CNT
  exact reg_lane h (by omega) (by omega) (by omega) (by omega)

@[simp] theorem ev_FBK_WIRE_CNT_0 (n : LaneIx) (h : n ∈ m.lanes) (hi lo : Nat) : EvtOk m ⟨FBK.WIRE_CNT n.val, hi, lo⟩ := by
  have hn := n.isLt; unfold FBK.WIRE_CNT
  exact evt_lane h (by omega) (by omega) (by omega) (by omega)

@[simp] theorem rg_FPE_DEC_TIME_0  (h : 24 ∈ m.pages) : m.reg (FPE.DEC_TIME) := reg_lit (of_decide_eq_true rfl) h (of_decide_eq_true rfl)

@[simp] theorem ev_FPE_DEC_TIME_0  (h : 24 ∈ m.pages) (hi lo : Nat) : EvtOk m ⟨FPE.DEC_TIME, hi, lo⟩ := evt_lit (of_decide_eq_true rfl)
    h (of_decide_eq_true rfl)

@[simp] theorem rg_FPE_EVT_DEFER_CNT_0  (h : 24 ∈ m.pages) : m.reg (FPE.EVT_DEFER_CNT) := reg_lit (of_decide_eq_true rfl) h (of_decide_eq_true rfl)

@[simp] theorem ev_FPE_EVT_DEFER_CNT_0  (h : 24 ∈ m.pages) (hi lo : Nat) : EvtOk m ⟨FPE.EVT_DEFER_CNT, hi, lo⟩ := evt_lit
    (of_decide_eq_true rfl) h (of_decide_eq_true rfl)

@[simp] theorem rg_FPE_EVT_POSTED_0  (h : 24 ∈ m.pages) : m.reg (FPE.EVT_POSTED) := reg_lit (of_decide_eq_true rfl) h (of_decide_eq_true rfl)

@[simp] theorem ev_FPE_EVT_POSTED_0  (h : 24 ∈ m.pages) (hi lo : Nat) : EvtOk m ⟨FPE.EVT_POSTED, hi, lo⟩ := evt_lit (by
    decide) h (of_decide_eq_true rfl)

@[simp] theorem rg_FPE_FPE_EVT_0  (h : 24 ∈ m.pages) : m.reg (FPE.FPE_EVT) := reg_lit (of_decide_eq_true rfl) h (of_decide_eq_true rfl)

@[simp] theorem ev_FPE_FPE_EVT_0  (h : 24 ∈ m.pages) (hi lo : Nat) : EvtOk m ⟨FPE.FPE_EVT, hi, lo⟩ := evt_lit (of_decide_eq_true rfl) h
    (of_decide_eq_true rfl)

@[simp] theorem fa_FPE_FPE_EVT_DEC_MISMATCH_0  (h : 24 ∈ m.pages) : m.reg (FPE.FPE_EVT.DEC_MISMATCH).addr :=
    rg_FPE_FPE_EVT_0 h

@[simp] theorem fe_FPE_FPE_EVT_DEC_MISMATCH_0  (h : 24 ∈ m.pages) : EvtOk m (FPE.FPE_EVT.DEC_MISMATCH) := ev_FPE_FPE_EVT_0 h
    _ _

@[simp] theorem fa_FPE_FPE_EVT_EVT_DEFER_0  (h : 24 ∈ m.pages) : m.reg (FPE.FPE_EVT.EVT_DEFER).addr := rg_FPE_FPE_EVT_0 h

@[simp] theorem fe_FPE_FPE_EVT_EVT_DEFER_0  (h : 24 ∈ m.pages) : EvtOk m (FPE.FPE_EVT.EVT_DEFER) := ev_FPE_FPE_EVT_0 h _ _

@[simp] theorem fa_FPE_FPE_EVT_HIST_SHORT_0  (h : 24 ∈ m.pages) : m.reg (FPE.FPE_EVT.HIST_SHORT).addr := rg_FPE_FPE_EVT_0 h

@[simp] theorem fe_FPE_FPE_EVT_HIST_SHORT_0  (h : 24 ∈ m.pages) : EvtOk m (FPE.FPE_EVT.HIST_SHORT) := ev_FPE_FPE_EVT_0 h _ _

@[simp] theorem fa_FPE_FPE_EVT_LATE_TARGET_0  (h : 24 ∈ m.pages) : m.reg (FPE.FPE_EVT.LATE_TARGET).addr := rg_FPE_FPE_EVT_0
    h

@[simp] theorem fe_FPE_FPE_EVT_LATE_TARGET_0  (h : 24 ∈ m.pages) : EvtOk m (FPE.FPE_EVT.LATE_TARGET) := ev_FPE_FPE_EVT_0 h _
    _

@[simp] theorem fa_FPE_FPE_EVT_LEAD_CLAMP_0  (h : 24 ∈ m.pages) : m.reg (FPE.FPE_EVT.LEAD_CLAMP).addr := rg_FPE_FPE_EVT_0 h

@[simp] theorem fe_FPE_FPE_EVT_LEAD_CLAMP_0  (h : 24 ∈ m.pages) : EvtOk m (FPE.FPE_EVT.LEAD_CLAMP) := ev_FPE_FPE_EVT_0 h _ _

@[simp] theorem fa_FPE_FPE_EVT_NO_MOTION_0  (h : 24 ∈ m.pages) : m.reg (FPE.FPE_EVT.NO_MOTION).addr := rg_FPE_FPE_EVT_0 h

@[simp] theorem fe_FPE_FPE_EVT_NO_MOTION_0  (h : 24 ∈ m.pages) : EvtOk m (FPE.FPE_EVT.NO_MOTION) := ev_FPE_FPE_EVT_0 h _ _

@[simp] theorem fa_FPE_FPE_EVT_SHORT_GAP_0  (h : 24 ∈ m.pages) : m.reg (FPE.FPE_EVT.SHORT_GAP).addr := rg_FPE_FPE_EVT_0 h

@[simp] theorem fe_FPE_FPE_EVT_SHORT_GAP_0  (h : 24 ∈ m.pages) : EvtOk m (FPE.FPE_EVT.SHORT_GAP) := ev_FPE_FPE_EVT_0 h _ _

@[simp] theorem fa_FPE_FPE_EVT_TRACE_DROP_0  (h : 24 ∈ m.pages) : m.reg (FPE.FPE_EVT.TRACE_DROP).addr := rg_FPE_FPE_EVT_0 h

@[simp] theorem fe_FPE_FPE_EVT_TRACE_DROP_0  (h : 24 ∈ m.pages) : EvtOk m (FPE.FPE_EVT.TRACE_DROP) := ev_FPE_FPE_EVT_0 h _ _

@[simp] theorem fa_FPE_FPE_EVT_XCHK_FAIL_0  (h : 24 ∈ m.pages) : m.reg (FPE.FPE_EVT.XCHK_FAIL).addr := rg_FPE_FPE_EVT_0 h

@[simp] theorem fe_FPE_FPE_EVT_XCHK_FAIL_0  (h : 24 ∈ m.pages) : EvtOk m (FPE.FPE_EVT.XCHK_FAIL) := ev_FPE_FPE_EVT_0 h _ _

@[simp] theorem rg_FPE_FPE_STAT_0  (h : 24 ∈ m.pages) : m.reg (FPE.FPE_STAT) := reg_lit (of_decide_eq_true rfl) h (of_decide_eq_true rfl)

@[simp] theorem ev_FPE_FPE_STAT_0  (h : 24 ∈ m.pages) (hi lo : Nat) : EvtOk m ⟨FPE.FPE_STAT, hi, lo⟩ := evt_lit (of_decide_eq_true rfl)
    h (of_decide_eq_true rfl)

@[simp] theorem rg_FPE_LATE_TARGET_CNT_0  (h : 24 ∈ m.pages) : m.reg (FPE.LATE_TARGET_CNT) := reg_lit (of_decide_eq_true rfl) h (by
    decide)

@[simp] theorem ev_FPE_LATE_TARGET_CNT_0  (h : 24 ∈ m.pages) (hi lo : Nat) : EvtOk m ⟨FPE.LATE_TARGET_CNT, hi, lo⟩ :=
    evt_lit (of_decide_eq_true rfl) h (of_decide_eq_true rfl)

@[simp] theorem rg_FPE_MISMATCH_CNT_0  (h : 24 ∈ m.pages) : m.reg (FPE.MISMATCH_CNT) := reg_lit (of_decide_eq_true rfl) h (of_decide_eq_true rfl)

@[simp] theorem ev_FPE_MISMATCH_CNT_0  (h : 24 ∈ m.pages) (hi lo : Nat) : EvtOk m ⟨FPE.MISMATCH_CNT, hi, lo⟩ := evt_lit (by
    decide) h (of_decide_eq_true rfl)

@[simp] theorem rg_FPE_NO_MOTION_CNT_0  (h : 24 ∈ m.pages) : m.reg (FPE.NO_MOTION_CNT) := reg_lit (of_decide_eq_true rfl) h (of_decide_eq_true rfl)

@[simp] theorem ev_FPE_NO_MOTION_CNT_0  (h : 24 ∈ m.pages) (hi lo : Nat) : EvtOk m ⟨FPE.NO_MOTION_CNT, hi, lo⟩ := evt_lit
    (of_decide_eq_true rfl) h (of_decide_eq_true rfl)

@[simp] theorem rg_FPE_SHORT_GAP_CNT_0  (h : 24 ∈ m.pages) : m.reg (FPE.SHORT_GAP_CNT) := reg_lit (of_decide_eq_true rfl) h (of_decide_eq_true rfl)

@[simp] theorem ev_FPE_SHORT_GAP_CNT_0  (h : 24 ∈ m.pages) (hi lo : Nat) : EvtOk m ⟨FPE.SHORT_GAP_CNT, hi, lo⟩ := evt_lit
    (of_decide_eq_true rfl) h (of_decide_eq_true rfl)

@[simp] theorem rg_FPE_TICK_CNT_0  (h : 24 ∈ m.pages) : m.reg (FPE.TICK_CNT) := reg_lit (of_decide_eq_true rfl) h (of_decide_eq_true rfl)

@[simp] theorem ev_FPE_TICK_CNT_0  (h : 24 ∈ m.pages) (hi lo : Nat) : EvtOk m ⟨FPE.TICK_CNT, hi, lo⟩ := evt_lit (of_decide_eq_true rfl)
    h (of_decide_eq_true rfl)

@[simp] theorem rg_FPE_TRACE_DROP_CNT_0  (h : 24 ∈ m.pages) : m.reg (FPE.TRACE_DROP_CNT) := reg_lit (of_decide_eq_true rfl) h (by
    decide)

@[simp] theorem ev_FPE_TRACE_DROP_CNT_0  (h : 24 ∈ m.pages) (hi lo : Nat) : EvtOk m ⟨FPE.TRACE_DROP_CNT, hi, lo⟩ := evt_lit
    (of_decide_eq_true rfl) h (of_decide_eq_true rfl)

@[simp] theorem rg_GEOM_GEOM_UPD_CNT_0  (h : 26 ∈ m.pages) : m.reg (GEOM.GEOM_UPD_CNT) := reg_lit (of_decide_eq_true rfl) h (of_decide_eq_true rfl)

@[simp] theorem ev_GEOM_GEOM_UPD_CNT_0  (h : 26 ∈ m.pages) (hi lo : Nat) : EvtOk m ⟨GEOM.GEOM_UPD_CNT, hi, lo⟩ := evt_lit
    (of_decide_eq_true rfl) h (of_decide_eq_true rfl)

@[simp] theorem rg_GNSS_AGC_STAT_0 (p : Half) (h : 16 ∈ m.pages) (h2 : 17 ∈ m.pages) : m.reg (GNSS.AGC_STAT p.ix) := by
  cases p
  · exact reg_lit (of_decide_eq_true rfl) h (of_decide_eq_true rfl)
  · first | exact reg_lit (of_decide_eq_true rfl) h2 (of_decide_eq_true rfl) | exact reg_lit (of_decide_eq_true rfl) h (of_decide_eq_true rfl)

@[simp] theorem ev_GNSS_AGC_STAT_0 (p : Half) (h : 16 ∈ m.pages) (h2 : 17 ∈ m.pages) (hi lo : Nat) : EvtOk m ⟨GNSS.AGC_STAT
    p.ix, hi, lo⟩ := by
  cases p
  · exact evt_lit (of_decide_eq_true rfl) h (of_decide_eq_true rfl)
  · first | exact evt_lit (of_decide_eq_true rfl) h2 (of_decide_eq_true rfl) | exact evt_alias (of_decide_eq_true rfl) h h2

@[simp] theorem fa_GNSS_AGC_STAT_DUTY_0 (p : Half) (h : 16 ∈ m.pages) (h2 : 17 ∈ m.pages) : m.reg (GNSS.AGC_STAT.DUTY
    p.ix).addr := rg_GNSS_AGC_STAT_0 p h h2

@[simp] theorem fe_GNSS_AGC_STAT_DUTY_0 (p : Half) (h : 16 ∈ m.pages) (h2 : 17 ∈ m.pages) : EvtOk m (GNSS.AGC_STAT.DUTY
    p.ix) := ev_GNSS_AGC_STAT_0 p h h2 _ _

@[simp] theorem fa_GNSS_AGC_STAT_M_L1_0 (p : Half) (h : 16 ∈ m.pages) (h2 : 17 ∈ m.pages) : m.reg (GNSS.AGC_STAT.M_L1
    p.ix).addr := rg_GNSS_AGC_STAT_0 p h h2

@[simp] theorem fe_GNSS_AGC_STAT_M_L1_0 (p : Half) (h : 16 ∈ m.pages) (h2 : 17 ∈ m.pages) : EvtOk m (GNSS.AGC_STAT.M_L1
    p.ix) := ev_GNSS_AGC_STAT_0 p h h2 _ _

@[simp] theorem fa_GNSS_AGC_STAT_M_L5_0 (p : Half) (h : 16 ∈ m.pages) (h2 : 17 ∈ m.pages) : m.reg (GNSS.AGC_STAT.M_L5
    p.ix).addr := rg_GNSS_AGC_STAT_0 p h h2

@[simp] theorem fe_GNSS_AGC_STAT_M_L5_0 (p : Half) (h : 16 ∈ m.pages) (h2 : 17 ∈ m.pages) : EvtOk m (GNSS.AGC_STAT.M_L5
    p.ix) := ev_GNSS_AGC_STAT_0 p h h2 _ _

@[simp] theorem rg_GNSS_GIF_CLK_CNT_0 (p : Half) (h : 16 ∈ m.pages) (h2 : 17 ∈ m.pages) : m.reg (GNSS.GIF_CLK_CNT p.ix) :=
    by
  cases p
  · exact reg_lit (of_decide_eq_true rfl) h (of_decide_eq_true rfl)
  · first | exact reg_lit (of_decide_eq_true rfl) h2 (of_decide_eq_true rfl) | exact reg_lit (of_decide_eq_true rfl) h (of_decide_eq_true rfl)

@[simp] theorem ev_GNSS_GIF_CLK_CNT_0 (p : Half) (h : 16 ∈ m.pages) (h2 : 17 ∈ m.pages) (hi lo : Nat) : EvtOk m
    ⟨GNSS.GIF_CLK_CNT p.ix, hi, lo⟩ := by
  cases p
  · exact evt_lit (of_decide_eq_true rfl) h (of_decide_eq_true rfl)
  · first | exact evt_lit (of_decide_eq_true rfl) h2 (of_decide_eq_true rfl) | exact evt_alias (of_decide_eq_true rfl) h h2

@[simp] theorem rg_GNSS_GNSS_EVT_0 (p : Half) (h : 16 ∈ m.pages) (h2 : 17 ∈ m.pages) : m.reg (GNSS.GNSS_EVT p.ix) := by
  cases p
  · exact reg_lit (of_decide_eq_true rfl) h (of_decide_eq_true rfl)
  · first | exact reg_lit (of_decide_eq_true rfl) h2 (of_decide_eq_true rfl) | exact reg_lit (of_decide_eq_true rfl) h (of_decide_eq_true rfl)

@[simp] theorem ev_GNSS_GNSS_EVT_0 (p : Half) (h : 16 ∈ m.pages) (h2 : 17 ∈ m.pages) (hi lo : Nat) : EvtOk m ⟨GNSS.GNSS_EVT
    p.ix, hi, lo⟩ := by
  cases p
  · exact evt_lit (of_decide_eq_true rfl) h (of_decide_eq_true rfl)
  · first | exact evt_lit (of_decide_eq_true rfl) h2 (of_decide_eq_true rfl) | exact evt_alias (of_decide_eq_true rfl) h h2

@[simp] theorem fa_GNSS_GNSS_EVT_AGC_LIMIT_0 (p : Half) (h : 16 ∈ m.pages) (h2 : 17 ∈ m.pages) : m.reg
    (GNSS.GNSS_EVT.AGC_LIMIT p.ix).addr := rg_GNSS_GNSS_EVT_0 p h h2

@[simp] theorem fe_GNSS_GNSS_EVT_AGC_LIMIT_0 (p : Half) (h : 16 ∈ m.pages) (h2 : 17 ∈ m.pages) : EvtOk m
    (GNSS.GNSS_EVT.AGC_LIMIT p.ix) := ev_GNSS_GNSS_EVT_0 p h h2 _ _

@[simp] theorem fa_GNSS_GNSS_EVT_GIF_CLK_BAD_0 (p : Half) (h : 16 ∈ m.pages) (h2 : 17 ∈ m.pages) : m.reg
    (GNSS.GNSS_EVT.GIF_CLK_BAD p.ix).addr := rg_GNSS_GNSS_EVT_0 p h h2

@[simp] theorem fe_GNSS_GNSS_EVT_GIF_CLK_BAD_0 (p : Half) (h : 16 ∈ m.pages) (h2 : 17 ∈ m.pages) : EvtOk m
    (GNSS.GNSS_EVT.GIF_CLK_BAD p.ix) := ev_GNSS_GNSS_EVT_0 p h h2 _ _

@[simp] theorem fa_GNSS_GNSS_EVT_OBS_DROP_0 (p : Half) (h : 16 ∈ m.pages) (h2 : 17 ∈ m.pages) : m.reg
    (GNSS.GNSS_EVT.OBS_DROP p.ix).addr := rg_GNSS_GNSS_EVT_0 p h h2

@[simp] theorem fe_GNSS_GNSS_EVT_OBS_DROP_0 (p : Half) (h : 16 ∈ m.pages) (h2 : 17 ∈ m.pages) : EvtOk m
    (GNSS.GNSS_EVT.OBS_DROP p.ix) := ev_GNSS_GNSS_EVT_0 p h h2 _ _

@[simp] theorem fa_GNSS_GNSS_EVT_OBS_STALE_0 (p : Half) (h : 16 ∈ m.pages) (h2 : 17 ∈ m.pages) : m.reg
    (GNSS.GNSS_EVT.OBS_STALE p.ix).addr := rg_GNSS_GNSS_EVT_0 p h h2

@[simp] theorem fe_GNSS_GNSS_EVT_OBS_STALE_0 (p : Half) (h : 16 ∈ m.pages) (h2 : 17 ∈ m.pages) : EvtOk m
    (GNSS.GNSS_EVT.OBS_STALE p.ix) := ev_GNSS_GNSS_EVT_0 p h h2 _ _

@[simp] theorem fa_GNSS_GNSS_EVT_REF_CHANGE_0 (p : Half) (h : 16 ∈ m.pages) (h2 : 17 ∈ m.pages) : m.reg
    (GNSS.GNSS_EVT.REF_CHANGE p.ix).addr := rg_GNSS_GNSS_EVT_0 p h h2

@[simp] theorem fe_GNSS_GNSS_EVT_REF_CHANGE_0 (p : Half) (h : 16 ∈ m.pages) (h2 : 17 ∈ m.pages) : EvtOk m
    (GNSS.GNSS_EVT.REF_CHANGE p.ix) := ev_GNSS_GNSS_EVT_0 p h h2 _ _

@[simp] theorem fa_GNSS_GNSS_EVT_RTCM_BAD_0 (p : Half) (h : 16 ∈ m.pages) (h2 : 17 ∈ m.pages) : m.reg
    (GNSS.GNSS_EVT.RTCM_BAD p.ix).addr := rg_GNSS_GNSS_EVT_0 p h h2

@[simp] theorem fe_GNSS_GNSS_EVT_RTCM_BAD_0 (p : Half) (h : 16 ∈ m.pages) (h2 : 17 ∈ m.pages) : EvtOk m
    (GNSS.GNSS_EVT.RTCM_BAD p.ix) := ev_GNSS_GNSS_EVT_0 p h h2 _ _

@[simp] theorem fa_GNSS_GNSS_EVT_SOL_BACK_0 (p : Half) (h : 16 ∈ m.pages) (h2 : 17 ∈ m.pages) : m.reg
    (GNSS.GNSS_EVT.SOL_BACK p.ix).addr := rg_GNSS_GNSS_EVT_0 p h h2

@[simp] theorem fe_GNSS_GNSS_EVT_SOL_BACK_0 (p : Half) (h : 16 ∈ m.pages) (h2 : 17 ∈ m.pages) : EvtOk m
    (GNSS.GNSS_EVT.SOL_BACK p.ix) := ev_GNSS_GNSS_EVT_0 p h h2 _ _

@[simp] theorem fa_GNSS_GNSS_EVT_SOL_LOST_0 (p : Half) (h : 16 ∈ m.pages) (h2 : 17 ∈ m.pages) : m.reg
    (GNSS.GNSS_EVT.SOL_LOST p.ix).addr := rg_GNSS_GNSS_EVT_0 p h h2

@[simp] theorem fe_GNSS_GNSS_EVT_SOL_LOST_0 (p : Half) (h : 16 ∈ m.pages) (h2 : 17 ∈ m.pages) : EvtOk m
    (GNSS.GNSS_EVT.SOL_LOST p.ix) := ev_GNSS_GNSS_EVT_0 p h h2 _ _

@[simp] theorem rg_GNSS_GNSS_STAT_0 (p : Half) (h : 16 ∈ m.pages) (h2 : 17 ∈ m.pages) : m.reg (GNSS.GNSS_STAT p.ix) := by
  cases p
  · exact reg_lit (of_decide_eq_true rfl) h (of_decide_eq_true rfl)
  · first | exact reg_lit (of_decide_eq_true rfl) h2 (of_decide_eq_true rfl) | exact reg_lit (of_decide_eq_true rfl) h (of_decide_eq_true rfl)

@[simp] theorem ev_GNSS_GNSS_STAT_0 (p : Half) (h : 16 ∈ m.pages) (h2 : 17 ∈ m.pages) (hi lo : Nat) : EvtOk m
    ⟨GNSS.GNSS_STAT p.ix, hi, lo⟩ := by
  cases p
  · exact evt_lit (of_decide_eq_true rfl) h (of_decide_eq_true rfl)
  · first | exact evt_lit (of_decide_eq_true rfl) h2 (of_decide_eq_true rfl) | exact evt_alias (of_decide_eq_true rfl) h h2

@[simp] theorem fa_GNSS_GNSS_STAT_BURST_0 (p : Half) (h : 16 ∈ m.pages) (h2 : 17 ∈ m.pages) : m.reg (GNSS.GNSS_STAT.BURST
    p.ix).addr := rg_GNSS_GNSS_STAT_0 p h h2

@[simp] theorem fe_GNSS_GNSS_STAT_BURST_0 (p : Half) (h : 16 ∈ m.pages) (h2 : 17 ∈ m.pages) : EvtOk m (GNSS.GNSS_STAT.BURST
    p.ix) := ev_GNSS_GNSS_STAT_0 p h h2 _ _

@[simp] theorem fa_GNSS_GNSS_STAT_GIF_CLK_OK_0 (p : Half) (h : 16 ∈ m.pages) (h2 : 17 ∈ m.pages) : m.reg
    (GNSS.GNSS_STAT.GIF_CLK_OK p.ix).addr := rg_GNSS_GNSS_STAT_0 p h h2

@[simp] theorem fe_GNSS_GNSS_STAT_GIF_CLK_OK_0 (p : Half) (h : 16 ∈ m.pages) (h2 : 17 ∈ m.pages) : EvtOk m
    (GNSS.GNSS_STAT.GIF_CLK_OK p.ix) := ev_GNSS_GNSS_STAT_0 p h h2 _ _

@[simp] theorem rg_GNSS_OBS_DROP_CNT_0 (p : Half) (h : 16 ∈ m.pages) (h2 : 17 ∈ m.pages) : m.reg (GNSS.OBS_DROP_CNT p.ix) :=
    by
  cases p
  · exact reg_lit (of_decide_eq_true rfl) h (of_decide_eq_true rfl)
  · first | exact reg_lit (of_decide_eq_true rfl) h2 (of_decide_eq_true rfl) | exact reg_lit (of_decide_eq_true rfl) h (of_decide_eq_true rfl)

@[simp] theorem ev_GNSS_OBS_DROP_CNT_0 (p : Half) (h : 16 ∈ m.pages) (h2 : 17 ∈ m.pages) (hi lo : Nat) : EvtOk m
    ⟨GNSS.OBS_DROP_CNT p.ix, hi, lo⟩ := by
  cases p
  · exact evt_lit (of_decide_eq_true rfl) h (of_decide_eq_true rfl)
  · first | exact evt_lit (of_decide_eq_true rfl) h2 (of_decide_eq_true rfl) | exact evt_alias (of_decide_eq_true rfl) h h2

@[simp] theorem rg_GNSS_OBS_STALE_CNT_0 (p : Half) (h : 16 ∈ m.pages) (h2 : 17 ∈ m.pages) : m.reg (GNSS.OBS_STALE_CNT p.ix)
    := by
  cases p
  · exact reg_lit (of_decide_eq_true rfl) h (of_decide_eq_true rfl)
  · first | exact reg_lit (of_decide_eq_true rfl) h2 (of_decide_eq_true rfl) | exact reg_lit (of_decide_eq_true rfl) h (of_decide_eq_true rfl)

@[simp] theorem ev_GNSS_OBS_STALE_CNT_0 (p : Half) (h : 16 ∈ m.pages) (h2 : 17 ∈ m.pages) (hi lo : Nat) : EvtOk m
    ⟨GNSS.OBS_STALE_CNT p.ix, hi, lo⟩ := by
  cases p
  · exact evt_lit (of_decide_eq_true rfl) h (of_decide_eq_true rfl)
  · first | exact evt_lit (of_decide_eq_true rfl) h2 (of_decide_eq_true rfl) | exact evt_alias (of_decide_eq_true rfl) h h2

@[simp] theorem rg_GNSS_RTCM_BAD_CNT_0 (p : Half) (h : 16 ∈ m.pages) (h2 : 17 ∈ m.pages) : m.reg (GNSS.RTCM_BAD_CNT p.ix) :=
    by
  cases p
  · exact reg_lit (of_decide_eq_true rfl) h (of_decide_eq_true rfl)
  · first | exact reg_lit (of_decide_eq_true rfl) h2 (of_decide_eq_true rfl) | exact reg_lit (of_decide_eq_true rfl) h (of_decide_eq_true rfl)

@[simp] theorem ev_GNSS_RTCM_BAD_CNT_0 (p : Half) (h : 16 ∈ m.pages) (h2 : 17 ∈ m.pages) (hi lo : Nat) : EvtOk m
    ⟨GNSS.RTCM_BAD_CNT p.ix, hi, lo⟩ := by
  cases p
  · exact evt_lit (of_decide_eq_true rfl) h (of_decide_eq_true rfl)
  · first | exact evt_lit (of_decide_eq_true rfl) h2 (of_decide_eq_true rfl) | exact evt_alias (of_decide_eq_true rfl) h h2

@[simp] theorem fa_GNSS_RTCM_BAD_CNT_CRC_0 (p : Half) (h : 16 ∈ m.pages) (h2 : 17 ∈ m.pages) : m.reg (GNSS.RTCM_BAD_CNT.CRC
    p.ix).addr := rg_GNSS_RTCM_BAD_CNT_0 p h h2

@[simp] theorem fe_GNSS_RTCM_BAD_CNT_CRC_0 (p : Half) (h : 16 ∈ m.pages) (h2 : 17 ∈ m.pages) : EvtOk m
    (GNSS.RTCM_BAD_CNT.CRC p.ix) := ev_GNSS_RTCM_BAD_CNT_0 p h h2 _ _

@[simp] theorem fa_GNSS_RTCM_BAD_CNT_DISC_0 (p : Half) (h : 16 ∈ m.pages) (h2 : 17 ∈ m.pages) : m.reg
    (GNSS.RTCM_BAD_CNT.DISC p.ix).addr := rg_GNSS_RTCM_BAD_CNT_0 p h h2

@[simp] theorem fe_GNSS_RTCM_BAD_CNT_DISC_0 (p : Half) (h : 16 ∈ m.pages) (h2 : 17 ∈ m.pages) : EvtOk m
    (GNSS.RTCM_BAD_CNT.DISC p.ix) := ev_GNSS_RTCM_BAD_CNT_0 p h h2 _ _

@[simp] theorem rg_GNSS_RTCM_RX_CNT_0 (p : Half) (h : 16 ∈ m.pages) (h2 : 17 ∈ m.pages) : m.reg (GNSS.RTCM_RX_CNT p.ix) :=
    by
  cases p
  · exact reg_lit (of_decide_eq_true rfl) h (of_decide_eq_true rfl)
  · first | exact reg_lit (of_decide_eq_true rfl) h2 (of_decide_eq_true rfl) | exact reg_lit (of_decide_eq_true rfl) h (of_decide_eq_true rfl)

@[simp] theorem ev_GNSS_RTCM_RX_CNT_0 (p : Half) (h : 16 ∈ m.pages) (h2 : 17 ∈ m.pages) (hi lo : Nat) : EvtOk m
    ⟨GNSS.RTCM_RX_CNT p.ix, hi, lo⟩ := by
  cases p
  · exact evt_lit (of_decide_eq_true rfl) h (of_decide_eq_true rfl)
  · first | exact evt_lit (of_decide_eq_true rfl) h2 (of_decide_eq_true rfl) | exact evt_alias (of_decide_eq_true rfl) h h2

@[simp] theorem rg_GSPD_GNSS_SPD_0  (h : 21 ∈ m.pages) : m.reg (GSPD.GNSS_SPD) := reg_lit (of_decide_eq_true rfl) h (of_decide_eq_true rfl)

@[simp] theorem ev_GSPD_GNSS_SPD_0  (h : 21 ∈ m.pages) (hi lo : Nat) : EvtOk m ⟨GSPD.GNSS_SPD, hi, lo⟩ := evt_lit (by
    decide) h (of_decide_eq_true rfl)

@[simp] theorem rg_GSPD_GSA_EDGES_0  (h : 21 ∈ m.pages) : m.reg (GSPD.GSA_EDGES) := reg_lit (of_decide_eq_true rfl) h (of_decide_eq_true rfl)

@[simp] theorem ev_GSPD_GSA_EDGES_0  (h : 21 ∈ m.pages) (hi lo : Nat) : EvtOk m ⟨GSPD.GSA_EDGES, hi, lo⟩ := evt_lit (by
    decide) h (of_decide_eq_true rfl)

@[simp] theorem rg_GSPD_GSA_SPD_0  (h : 21 ∈ m.pages) : m.reg (GSPD.GSA_SPD) := reg_lit (of_decide_eq_true rfl) h (of_decide_eq_true rfl)

@[simp] theorem ev_GSPD_GSA_SPD_0  (h : 21 ∈ m.pages) (hi lo : Nat) : EvtOk m ⟨GSPD.GSA_SPD, hi, lo⟩ := evt_lit (of_decide_eq_true rfl)
    h (of_decide_eq_true rfl)

@[simp] theorem rg_GSPD_GSB_EDGES_0  (h : 21 ∈ m.pages) : m.reg (GSPD.GSB_EDGES) := reg_lit (of_decide_eq_true rfl) h (of_decide_eq_true rfl)

@[simp] theorem ev_GSPD_GSB_EDGES_0  (h : 21 ∈ m.pages) (hi lo : Nat) : EvtOk m ⟨GSPD.GSB_EDGES, hi, lo⟩ := evt_lit (by
    decide) h (of_decide_eq_true rfl)

@[simp] theorem rg_GSPD_GSB_SPD_0  (h : 21 ∈ m.pages) : m.reg (GSPD.GSB_SPD) := reg_lit (of_decide_eq_true rfl) h (of_decide_eq_true rfl)

@[simp] theorem ev_GSPD_GSB_SPD_0  (h : 21 ∈ m.pages) (hi lo : Nat) : EvtOk m ⟨GSPD.GSB_SPD, hi, lo⟩ := evt_lit (of_decide_eq_true rfl)
    h (of_decide_eq_true rfl)

@[simp] theorem rg_GSPD_GSOUT_MHZ_0  (h : 21 ∈ m.pages) : m.reg (GSPD.GSOUT_MHZ) := reg_lit (of_decide_eq_true rfl) h (of_decide_eq_true rfl)

@[simp] theorem ev_GSPD_GSOUT_MHZ_0  (h : 21 ∈ m.pages) (hi lo : Nat) : EvtOk m ⟨GSPD.GSOUT_MHZ, hi, lo⟩ := evt_lit (by
    decide) h (of_decide_eq_true rfl)

@[simp] theorem rg_GSPD_GSPD_STAT_0  (h : 21 ∈ m.pages) : m.reg (GSPD.GSPD_STAT) := reg_lit (of_decide_eq_true rfl) h (of_decide_eq_true rfl)

@[simp] theorem ev_GSPD_GSPD_STAT_0  (h : 21 ∈ m.pages) (hi lo : Nat) : EvtOk m ⟨GSPD.GSPD_STAT, hi, lo⟩ := evt_lit (by
    decide) h (of_decide_eq_true rfl)

@[simp] theorem fa_GSPD_GSPD_STAT_GNSS_VALID_0  (h : 21 ∈ m.pages) : m.reg (GSPD.GSPD_STAT.GNSS_VALID).addr :=
    rg_GSPD_GSPD_STAT_0 h

@[simp] theorem fe_GSPD_GSPD_STAT_GNSS_VALID_0  (h : 21 ∈ m.pages) : EvtOk m (GSPD.GSPD_STAT.GNSS_VALID) :=
    ev_GSPD_GSPD_STAT_0 h _ _

@[simp] theorem fa_GSPD_GSPD_STAT_GSA_VALID_0  (h : 21 ∈ m.pages) : m.reg (GSPD.GSPD_STAT.GSA_VALID).addr :=
    rg_GSPD_GSPD_STAT_0 h

@[simp] theorem fe_GSPD_GSPD_STAT_GSA_VALID_0  (h : 21 ∈ m.pages) : EvtOk m (GSPD.GSPD_STAT.GSA_VALID) :=
    ev_GSPD_GSPD_STAT_0 h _ _

@[simp] theorem fa_GSPD_GSPD_STAT_GSB_REV_0  (h : 21 ∈ m.pages) : m.reg (GSPD.GSPD_STAT.GSB_REV).addr := rg_GSPD_GSPD_STAT_0
    h

@[simp] theorem fe_GSPD_GSPD_STAT_GSB_REV_0  (h : 21 ∈ m.pages) : EvtOk m (GSPD.GSPD_STAT.GSB_REV) := ev_GSPD_GSPD_STAT_0 h
    _ _

@[simp] theorem fa_GSPD_GSPD_STAT_GSB_VALID_0  (h : 21 ∈ m.pages) : m.reg (GSPD.GSPD_STAT.GSB_VALID).addr :=
    rg_GSPD_GSPD_STAT_0 h

@[simp] theorem fe_GSPD_GSPD_STAT_GSB_VALID_0  (h : 21 ∈ m.pages) : EvtOk m (GSPD.GSPD_STAT.GSB_VALID) :=
    ev_GSPD_GSPD_STAT_0 h _ _

@[simp] theorem fa_GSPD_GSPD_STAT_GSOUT_ACTIVE_0  (h : 21 ∈ m.pages) : m.reg (GSPD.GSPD_STAT.GSOUT_ACTIVE).addr :=
    rg_GSPD_GSPD_STAT_0 h

@[simp] theorem fe_GSPD_GSPD_STAT_GSOUT_ACTIVE_0  (h : 21 ∈ m.pages) : EvtOk m (GSPD.GSPD_STAT.GSOUT_ACTIVE) :=
    ev_GSPD_GSPD_STAT_0 h _ _

@[simp] theorem fa_GSPD_GSPD_STAT_GSOUT_CLAMP_0  (h : 21 ∈ m.pages) : m.reg (GSPD.GSPD_STAT.GSOUT_CLAMP).addr :=
    rg_GSPD_GSPD_STAT_0 h

@[simp] theorem fe_GSPD_GSPD_STAT_GSOUT_CLAMP_0  (h : 21 ∈ m.pages) : EvtOk m (GSPD.GSPD_STAT.GSOUT_CLAMP) :=
    ev_GSPD_GSPD_STAT_0 h _ _

@[simp] theorem rg_GSPD_GS_GLITCH_0  (h : 21 ∈ m.pages) : m.reg (GSPD.GS_GLITCH) := reg_lit (of_decide_eq_true rfl) h (of_decide_eq_true rfl)

@[simp] theorem ev_GSPD_GS_GLITCH_0  (h : 21 ∈ m.pages) (hi lo : Nat) : EvtOk m ⟨GSPD.GS_GLITCH, hi, lo⟩ := evt_lit (by
    decide) h (of_decide_eq_true rfl)

@[simp] theorem fa_GSPD_GS_GLITCH_GSA_0  (h : 21 ∈ m.pages) : m.reg (GSPD.GS_GLITCH.GSA).addr := rg_GSPD_GS_GLITCH_0 h

@[simp] theorem fe_GSPD_GS_GLITCH_GSA_0  (h : 21 ∈ m.pages) : EvtOk m (GSPD.GS_GLITCH.GSA) := ev_GSPD_GS_GLITCH_0 h _ _

@[simp] theorem fa_GSPD_GS_GLITCH_GSB_0  (h : 21 ∈ m.pages) : m.reg (GSPD.GS_GLITCH.GSB).addr := rg_GSPD_GS_GLITCH_0 h

@[simp] theorem fe_GSPD_GS_GLITCH_GSB_0  (h : 21 ∈ m.pages) : EvtOk m (GSPD.GS_GLITCH.GSB) := ev_GSPD_GS_GLITCH_0 h _ _

@[simp] theorem rg_HOSTQ_CMPL_DROP_CNT_0  (h : 4 ∈ m.pages) : m.reg (HOSTQ.CMPL_DROP_CNT) := reg_lit (of_decide_eq_true rfl) h (by
    decide)

@[simp] theorem ev_HOSTQ_CMPL_DROP_CNT_0  (h : 4 ∈ m.pages) (hi lo : Nat) : EvtOk m ⟨HOSTQ.CMPL_DROP_CNT, hi, lo⟩ := evt_lit
    (of_decide_eq_true rfl) h (of_decide_eq_true rfl)

@[simp] theorem rg_HOSTQ_CRC_ERR_CNT_0  (h : 4 ∈ m.pages) : m.reg (HOSTQ.CRC_ERR_CNT) := reg_lit (of_decide_eq_true rfl) h (of_decide_eq_true rfl)

@[simp] theorem ev_HOSTQ_CRC_ERR_CNT_0  (h : 4 ∈ m.pages) (hi lo : Nat) : EvtOk m ⟨HOSTQ.CRC_ERR_CNT, hi, lo⟩ := evt_lit (by
    decide) h (of_decide_eq_true rfl)

@[simp] theorem rg_HOSTQ_HP_EVT_0  (h : 4 ∈ m.pages) : m.reg (HOSTQ.HP_EVT) := reg_lit (of_decide_eq_true rfl) h (of_decide_eq_true rfl)

@[simp] theorem ev_HOSTQ_HP_EVT_0  (h : 4 ∈ m.pages) (hi lo : Nat) : EvtOk m ⟨HOSTQ.HP_EVT, hi, lo⟩ := evt_lit (of_decide_eq_true rfl) h
    (of_decide_eq_true rfl)

@[simp] theorem fa_HOSTQ_HP_EVT_CMPL_0  (h : 4 ∈ m.pages) : m.reg (HOSTQ.HP_EVT.CMPL).addr := rg_HOSTQ_HP_EVT_0 h

@[simp] theorem fe_HOSTQ_HP_EVT_CMPL_0  (h : 4 ∈ m.pages) : EvtOk m (HOSTQ.HP_EVT.CMPL) := ev_HOSTQ_HP_EVT_0 h _ _

@[simp] theorem fa_HOSTQ_HP_EVT_CMPL_OVF_0  (h : 4 ∈ m.pages) : m.reg (HOSTQ.HP_EVT.CMPL_OVF).addr := rg_HOSTQ_HP_EVT_0 h

@[simp] theorem fe_HOSTQ_HP_EVT_CMPL_OVF_0  (h : 4 ∈ m.pages) : EvtOk m (HOSTQ.HP_EVT.CMPL_OVF) := ev_HOSTQ_HP_EVT_0 h _ _

@[simp] theorem fa_HOSTQ_HP_EVT_CRC_ERR_0  (h : 4 ∈ m.pages) : m.reg (HOSTQ.HP_EVT.CRC_ERR).addr := rg_HOSTQ_HP_EVT_0 h

@[simp] theorem fe_HOSTQ_HP_EVT_CRC_ERR_0  (h : 4 ∈ m.pages) : EvtOk m (HOSTQ.HP_EVT.CRC_ERR) := ev_HOSTQ_HP_EVT_0 h _ _

@[simp] theorem fa_HOSTQ_HP_EVT_QIRQ_0  (h : 4 ∈ m.pages) : m.reg (HOSTQ.HP_EVT.QIRQ).addr := rg_HOSTQ_HP_EVT_0 h

@[simp] theorem fe_HOSTQ_HP_EVT_QIRQ_0  (h : 4 ∈ m.pages) : EvtOk m (HOSTQ.HP_EVT.QIRQ) := ev_HOSTQ_HP_EVT_0 h _ _

@[simp] theorem fa_HOSTQ_HP_EVT_REFUSED_0  (h : 4 ∈ m.pages) : m.reg (HOSTQ.HP_EVT.REFUSED).addr := rg_HOSTQ_HP_EVT_0 h

@[simp] theorem fe_HOSTQ_HP_EVT_REFUSED_0  (h : 4 ∈ m.pages) : EvtOk m (HOSTQ.HP_EVT.REFUSED) := ev_HOSTQ_HP_EVT_0 h _ _

@[simp] theorem fa_HOSTQ_HP_EVT_SEQ_ERR_0  (h : 4 ∈ m.pages) : m.reg (HOSTQ.HP_EVT.SEQ_ERR).addr := rg_HOSTQ_HP_EVT_0 h

@[simp] theorem fe_HOSTQ_HP_EVT_SEQ_ERR_0  (h : 4 ∈ m.pages) : EvtOk m (HOSTQ.HP_EVT.SEQ_ERR) := ev_HOSTQ_HP_EVT_0 h _ _

@[simp] theorem fa_HOSTQ_HP_EVT_TIMEOUT_0  (h : 4 ∈ m.pages) : m.reg (HOSTQ.HP_EVT.TIMEOUT).addr := rg_HOSTQ_HP_EVT_0 h

@[simp] theorem fe_HOSTQ_HP_EVT_TIMEOUT_0  (h : 4 ∈ m.pages) : EvtOk m (HOSTQ.HP_EVT.TIMEOUT) := ev_HOSTQ_HP_EVT_0 h _ _

@[simp] theorem rg_HOSTQ_QIRQ_MASK_0  (h : 4 ∈ m.pages) : m.reg (HOSTQ.QIRQ_MASK) := reg_lit (of_decide_eq_true rfl) h (of_decide_eq_true rfl)

@[simp] theorem ev_HOSTQ_QIRQ_MASK_0  (h : 4 ∈ m.pages) (hi lo : Nat) : EvtOk m ⟨HOSTQ.QIRQ_MASK, hi, lo⟩ := evt_lit (by
    decide) h (of_decide_eq_true rfl)

@[simp] theorem rg_HOSTQ_QIRQ_RAW_0  (h : 4 ∈ m.pages) : m.reg (HOSTQ.QIRQ_RAW) := reg_lit (of_decide_eq_true rfl) h (of_decide_eq_true rfl)

@[simp] theorem ev_HOSTQ_QIRQ_RAW_0  (h : 4 ∈ m.pages) (hi lo : Nat) : EvtOk m ⟨HOSTQ.QIRQ_RAW, hi, lo⟩ := evt_lit (by
    decide) h (of_decide_eq_true rfl)

@[simp] theorem rg_HOSTQ_REFUSE_CNT_0  (h : 4 ∈ m.pages) : m.reg (HOSTQ.REFUSE_CNT) := reg_lit (of_decide_eq_true rfl) h (of_decide_eq_true rfl)

@[simp] theorem ev_HOSTQ_REFUSE_CNT_0  (h : 4 ∈ m.pages) (hi lo : Nat) : EvtOk m ⟨HOSTQ.REFUSE_CNT, hi, lo⟩ := evt_lit (by
    decide) h (of_decide_eq_true rfl)

@[simp] theorem rg_IMU_IMU_COUNT_0  (h : 19 ∈ m.pages) : m.reg (IMU.IMU_COUNT) := reg_lit (of_decide_eq_true rfl) h (of_decide_eq_true rfl)

@[simp] theorem ev_IMU_IMU_COUNT_0  (h : 19 ∈ m.pages) (hi lo : Nat) : EvtOk m ⟨IMU.IMU_COUNT, hi, lo⟩ := evt_lit (by
    decide) h (of_decide_eq_true rfl)

@[simp] theorem rg_IMU_IMU_OVR_CNT_0  (h : 19 ∈ m.pages) : m.reg (IMU.IMU_OVR_CNT) := reg_lit (of_decide_eq_true rfl) h (of_decide_eq_true rfl)

@[simp] theorem ev_IMU_IMU_OVR_CNT_0  (h : 19 ∈ m.pages) (hi lo : Nat) : EvtOk m ⟨IMU.IMU_OVR_CNT, hi, lo⟩ := evt_lit (by
    decide) h (of_decide_eq_true rfl)

@[simp] theorem rg_IMU_IMU_STAT_0  (h : 19 ∈ m.pages) : m.reg (IMU.IMU_STAT) := reg_lit (of_decide_eq_true rfl) h (of_decide_eq_true rfl)

@[simp] theorem ev_IMU_IMU_STAT_0  (h : 19 ∈ m.pages) (hi lo : Nat) : EvtOk m ⟨IMU.IMU_STAT, hi, lo⟩ := evt_lit (of_decide_eq_true rfl)
    h (of_decide_eq_true rfl)

@[simp] theorem fa_IMU_IMU_STAT_ACTIVE_0  (h : 19 ∈ m.pages) : m.reg (IMU.IMU_STAT.ACTIVE).addr := rg_IMU_IMU_STAT_0 h

@[simp] theorem fe_IMU_IMU_STAT_ACTIVE_0  (h : 19 ∈ m.pages) : EvtOk m (IMU.IMU_STAT.ACTIVE) := ev_IMU_IMU_STAT_0 h _ _

@[simp] theorem fa_IMU_IMU_STAT_LOST_0  (h : 19 ∈ m.pages) : m.reg (IMU.IMU_STAT.LOST).addr := rg_IMU_IMU_STAT_0 h

@[simp] theorem fe_IMU_IMU_STAT_LOST_0  (h : 19 ∈ m.pages) : EvtOk m (IMU.IMU_STAT.LOST) := ev_IMU_IMU_STAT_0 h _ _

@[simp] theorem rg_IMU_IMU_YAW_0  (h : 19 ∈ m.pages) : m.reg (IMU.IMU_YAW) := reg_lit (of_decide_eq_true rfl) h (of_decide_eq_true rfl)

@[simp] theorem ev_IMU_IMU_YAW_0  (h : 19 ∈ m.pages) (hi lo : Nat) : EvtOk m ⟨IMU.IMU_YAW, hi, lo⟩ := evt_lit (of_decide_eq_true rfl) h
    (of_decide_eq_true rfl)

@[simp] theorem rg_LANE_CANCEL_CNT_0 (n : LaneIx) (h : n ∈ m.lanes) : m.reg (LANE.CANCEL_CNT n.val) := by
  have hn := n.isLt; unfold LANE.CANCEL_CNT
  exact reg_lane h (by omega) (by omega) (by omega) (by omega)

@[simp] theorem ev_LANE_CANCEL_CNT_0 (n : LaneIx) (h : n ∈ m.lanes) (hi lo : Nat) : EvtOk m ⟨LANE.CANCEL_CNT n.val, hi, lo⟩
    := by
  have hn := n.isLt; unfold LANE.CANCEL_CNT
  exact evt_lane h (by omega) (by omega) (by omega) (by omega)

@[simp] theorem rg_LANE_DISC_CNT_0 (n : LaneIx) (h : n ∈ m.lanes) : m.reg (LANE.DISC_CNT n.val) := by
  have hn := n.isLt; unfold LANE.DISC_CNT
  exact reg_lane h (by omega) (by omega) (by omega) (by omega)

@[simp] theorem ev_LANE_DISC_CNT_0 (n : LaneIx) (h : n ∈ m.lanes) (hi lo : Nat) : EvtOk m ⟨LANE.DISC_CNT n.val, hi, lo⟩ :=
    by
  have hn := n.isLt; unfold LANE.DISC_CNT
  exact evt_lane h (by omega) (by omega) (by omega) (by omega)

@[simp] theorem fa_LANE_DISC_CNT_DUP_0 (n : LaneIx) (h : n ∈ m.lanes) : m.reg (LANE.DISC_CNT.DUP n.val).addr :=
    rg_LANE_DISC_CNT_0 n h

@[simp] theorem fe_LANE_DISC_CNT_DUP_0 (n : LaneIx) (h : n ∈ m.lanes) : EvtOk m (LANE.DISC_CNT.DUP n.val) :=
    ev_LANE_DISC_CNT_0 n h _ _

@[simp] theorem fa_LANE_DISC_CNT_MERGED_0 (n : LaneIx) (h : n ∈ m.lanes) : m.reg (LANE.DISC_CNT.MERGED n.val).addr :=
    rg_LANE_DISC_CNT_0 n h

@[simp] theorem fe_LANE_DISC_CNT_MERGED_0 (n : LaneIx) (h : n ∈ m.lanes) : EvtOk m (LANE.DISC_CNT.MERGED n.val) :=
    ev_LANE_DISC_CNT_0 n h _ _

@[simp] theorem fa_LANE_DISC_CNT_PAIR_CANCEL_0 (n : LaneIx) (h : n ∈ m.lanes) : m.reg (LANE.DISC_CNT.PAIR_CANCEL n.val).addr
    := rg_LANE_DISC_CNT_0 n h

@[simp] theorem fe_LANE_DISC_CNT_PAIR_CANCEL_0 (n : LaneIx) (h : n ∈ m.lanes) : EvtOk m (LANE.DISC_CNT.PAIR_CANCEL n.val) :=
    ev_LANE_DISC_CNT_0 n h _ _

@[simp] theorem fa_LANE_DISC_CNT_TORN_0 (n : LaneIx) (h : n ∈ m.lanes) : m.reg (LANE.DISC_CNT.TORN n.val).addr :=
    rg_LANE_DISC_CNT_0 n h

@[simp] theorem fe_LANE_DISC_CNT_TORN_0 (n : LaneIx) (h : n ∈ m.lanes) : EvtOk m (LANE.DISC_CNT.TORN n.val) :=
    ev_LANE_DISC_CNT_0 n h _ _

@[simp] theorem rg_LANE_EPOCH_CNT_0 (n : LaneIx) (h : n ∈ m.lanes) : m.reg (LANE.EPOCH_CNT n.val) := by
  have hn := n.isLt; unfold LANE.EPOCH_CNT
  exact reg_lane h (by omega) (by omega) (by omega) (by omega)

@[simp] theorem ev_LANE_EPOCH_CNT_0 (n : LaneIx) (h : n ∈ m.lanes) (hi lo : Nat) : EvtOk m ⟨LANE.EPOCH_CNT n.val, hi, lo⟩ :=
    by
  have hn := n.isLt; unfold LANE.EPOCH_CNT
  exact evt_lane h (by omega) (by omega) (by omega) (by omega)

@[simp] theorem fa_LANE_EPOCH_CNT_AHEAD_0 (n : LaneIx) (h : n ∈ m.lanes) : m.reg (LANE.EPOCH_CNT.AHEAD n.val).addr :=
    rg_LANE_EPOCH_CNT_0 n h

@[simp] theorem fe_LANE_EPOCH_CNT_AHEAD_0 (n : LaneIx) (h : n ∈ m.lanes) : EvtOk m (LANE.EPOCH_CNT.AHEAD n.val) :=
    ev_LANE_EPOCH_CNT_0 n h _ _

@[simp] theorem fa_LANE_EPOCH_CNT_STALE_0 (n : LaneIx) (h : n ∈ m.lanes) : m.reg (LANE.EPOCH_CNT.STALE n.val).addr :=
    rg_LANE_EPOCH_CNT_0 n h

@[simp] theorem fe_LANE_EPOCH_CNT_STALE_0 (n : LaneIx) (h : n ∈ m.lanes) : EvtOk m (LANE.EPOCH_CNT.STALE n.val) :=
    ev_LANE_EPOCH_CNT_0 n h _ _

@[simp] theorem rg_LANE_FIRED_CNT_0 (n : LaneIx) (h : n ∈ m.lanes) : m.reg (LANE.FIRED_CNT n.val) := by
  have hn := n.isLt; unfold LANE.FIRED_CNT
  exact reg_lane h (by omega) (by omega) (by omega) (by omega)

@[simp] theorem ev_LANE_FIRED_CNT_0 (n : LaneIx) (h : n ∈ m.lanes) (hi lo : Nat) : EvtOk m ⟨LANE.FIRED_CNT n.val, hi, lo⟩ :=
    by
  have hn := n.isLt; unfold LANE.FIRED_CNT
  exact evt_lane h (by omega) (by omega) (by omega) (by omega)

@[simp] theorem rg_LANE_FLIT_CNT_0 (n : LaneIx) (h : n ∈ m.lanes) : m.reg (LANE.FLIT_CNT n.val) := by
  have hn := n.isLt; unfold LANE.FLIT_CNT
  exact reg_lane h (by omega) (by omega) (by omega) (by omega)

@[simp] theorem ev_LANE_FLIT_CNT_0 (n : LaneIx) (h : n ∈ m.lanes) (hi lo : Nat) : EvtOk m ⟨LANE.FLIT_CNT n.val, hi, lo⟩ :=
    by
  have hn := n.isLt; unfold LANE.FLIT_CNT
  exact evt_lane h (by omega) (by omega) (by omega) (by omega)

@[simp] theorem rg_LANE_LANE_EVT_0 (n : LaneIx) (h : n ∈ m.lanes) : m.reg (LANE.LANE_EVT n.val) := by
  have hn := n.isLt; unfold LANE.LANE_EVT
  exact reg_lane h (by omega) (by omega) (by omega) (by omega)

@[simp] theorem ev_LANE_LANE_EVT_0 (n : LaneIx) (h : n ∈ m.lanes) (hi lo : Nat) : EvtOk m ⟨LANE.LANE_EVT n.val, hi, lo⟩ :=
    by
  have hn := n.isLt; unfold LANE.LANE_EVT
  exact evt_lane h (by omega) (by omega) (by omega) (by omega)

@[simp] theorem fa_LANE_LANE_EVT_FENCED_0 (n : LaneIx) (h : n ∈ m.lanes) : m.reg (LANE.LANE_EVT.FENCED n.val).addr :=
    rg_LANE_LANE_EVT_0 n h

@[simp] theorem fe_LANE_LANE_EVT_FENCED_0 (n : LaneIx) (h : n ∈ m.lanes) : EvtOk m (LANE.LANE_EVT.FENCED n.val) :=
    ev_LANE_LANE_EVT_0 n h _ _

@[simp] theorem fa_LANE_LANE_EVT_LINK_FAULT_0 (n : LaneIx) (h : n ∈ m.lanes) : m.reg (LANE.LANE_EVT.LINK_FAULT n.val).addr
    := rg_LANE_LANE_EVT_0 n h

@[simp] theorem fe_LANE_LANE_EVT_LINK_FAULT_0 (n : LaneIx) (h : n ∈ m.lanes) : EvtOk m (LANE.LANE_EVT.LINK_FAULT n.val) :=
    ev_LANE_LANE_EVT_0 n h _ _

@[simp] theorem fa_LANE_LANE_EVT_LOST_0 (n : LaneIx) (h : n ∈ m.lanes) : m.reg (LANE.LANE_EVT.LOST n.val).addr :=
    rg_LANE_LANE_EVT_0 n h

@[simp] theorem fe_LANE_LANE_EVT_LOST_0 (n : LaneIx) (h : n ∈ m.lanes) : EvtOk m (LANE.LANE_EVT.LOST n.val) :=
    ev_LANE_LANE_EVT_0 n h _ _

@[simp] theorem fa_LANE_LANE_EVT_SELF_FAIL_0 (n : LaneIx) (h : n ∈ m.lanes) : m.reg (LANE.LANE_EVT.SELF_FAIL n.val).addr :=
    rg_LANE_LANE_EVT_0 n h

@[simp] theorem fe_LANE_LANE_EVT_SELF_FAIL_0 (n : LaneIx) (h : n ∈ m.lanes) : EvtOk m (LANE.LANE_EVT.SELF_FAIL n.val) :=
    ev_LANE_LANE_EVT_0 n h _ _

@[simp] theorem rg_LANE_LATE_CNT_0 (n : LaneIx) (h : n ∈ m.lanes) : m.reg (LANE.LATE_CNT n.val) := by
  have hn := n.isLt; unfold LANE.LATE_CNT
  exact reg_lane h (by omega) (by omega) (by omega) (by omega)

@[simp] theorem ev_LANE_LATE_CNT_0 (n : LaneIx) (h : n ∈ m.lanes) (hi lo : Nat) : EvtOk m ⟨LANE.LATE_CNT n.val, hi, lo⟩ :=
    by
  have hn := n.isLt; unfold LANE.LATE_CNT
  exact evt_lane h (by omega) (by omega) (by omega) (by omega)

@[simp] theorem rg_LANE_LATE_MAX_0 (n : LaneIx) (h : n ∈ m.lanes) : m.reg (LANE.LATE_MAX n.val) := by
  have hn := n.isLt; unfold LANE.LATE_MAX
  exact reg_lane h (by omega) (by omega) (by omega) (by omega)

@[simp] theorem ev_LANE_LATE_MAX_0 (n : LaneIx) (h : n ∈ m.lanes) (hi lo : Nat) : EvtOk m ⟨LANE.LATE_MAX n.val, hi, lo⟩ :=
    by
  have hn := n.isLt; unfold LANE.LATE_MAX
  exact evt_lane h (by omega) (by omega) (by omega) (by omega)

@[simp] theorem rg_LANE_LINK_STAT_0 (n : LaneIx) (h : n ∈ m.lanes) : m.reg (LANE.LINK_STAT n.val) := by
  have hn := n.isLt; unfold LANE.LINK_STAT
  exact reg_lane h (by omega) (by omega) (by omega) (by omega)

@[simp] theorem ev_LANE_LINK_STAT_0 (n : LaneIx) (h : n ∈ m.lanes) (hi lo : Nat) : EvtOk m ⟨LANE.LINK_STAT n.val, hi, lo⟩ :=
    by
  have hn := n.isLt; unfold LANE.LINK_STAT
  exact evt_lane h (by omega) (by omega) (by omega) (by omega)

@[simp] theorem rg_LANE_NAK_CNT_0 (n : LaneIx) (h : n ∈ m.lanes) : m.reg (LANE.NAK_CNT n.val) := by
  have hn := n.isLt; unfold LANE.NAK_CNT
  exact reg_lane h (by omega) (by omega) (by omega) (by omega)

@[simp] theorem ev_LANE_NAK_CNT_0 (n : LaneIx) (h : n ∈ m.lanes) (hi lo : Nat) : EvtOk m ⟨LANE.NAK_CNT n.val, hi, lo⟩ := by
  have hn := n.isLt; unfold LANE.NAK_CNT
  exact evt_lane h (by omega) (by omega) (by omega) (by omega)

@[simp] theorem fa_LANE_NAK_CNT_DN_0 (n : LaneIx) (h : n ∈ m.lanes) : m.reg (LANE.NAK_CNT.DN n.val).addr :=
    rg_LANE_NAK_CNT_0 n h

@[simp] theorem fe_LANE_NAK_CNT_DN_0 (n : LaneIx) (h : n ∈ m.lanes) : EvtOk m (LANE.NAK_CNT.DN n.val) := ev_LANE_NAK_CNT_0 n
    h _ _

@[simp] theorem fa_LANE_NAK_CNT_UP_0 (n : LaneIx) (h : n ∈ m.lanes) : m.reg (LANE.NAK_CNT.UP n.val).addr :=
    rg_LANE_NAK_CNT_0 n h

@[simp] theorem fe_LANE_NAK_CNT_UP_0 (n : LaneIx) (h : n ∈ m.lanes) : EvtOk m (LANE.NAK_CNT.UP n.val) := ev_LANE_NAK_CNT_0 n
    h _ _

@[simp] theorem rg_LANE_QFULL_CNT_0 (n : LaneIx) (h : n ∈ m.lanes) : m.reg (LANE.QFULL_CNT n.val) := by
  have hn := n.isLt; unfold LANE.QFULL_CNT
  exact reg_lane h (by omega) (by omega) (by omega) (by omega)

@[simp] theorem ev_LANE_QFULL_CNT_0 (n : LaneIx) (h : n ∈ m.lanes) (hi lo : Nat) : EvtOk m ⟨LANE.QFULL_CNT n.val, hi, lo⟩ :=
    by
  have hn := n.isLt; unfold LANE.QFULL_CNT
  exact evt_lane h (by omega) (by omega) (by omega) (by omega)

@[simp] theorem rg_LANE_SQ_PEAK_0 (n : LaneIx) (h : n ∈ m.lanes) : m.reg (LANE.SQ_PEAK n.val) := by
  have hn := n.isLt; unfold LANE.SQ_PEAK
  exact reg_lane h (by omega) (by omega) (by omega) (by omega)

@[simp] theorem ev_LANE_SQ_PEAK_0 (n : LaneIx) (h : n ∈ m.lanes) (hi lo : Nat) : EvtOk m ⟨LANE.SQ_PEAK n.val, hi, lo⟩ := by
  have hn := n.isLt; unfold LANE.SQ_PEAK
  exact evt_lane h (by omega) (by omega) (by omega) (by omega)

@[simp] theorem rg_LAUREL_CLAIM_REFUSED_CNT_0  (h : 3 ∈ m.pages) : m.reg (LAUREL.CLAIM_REFUSED_CNT) := reg_lit (of_decide_eq_true rfl) h
    (of_decide_eq_true rfl)

@[simp] theorem ev_LAUREL_CLAIM_REFUSED_CNT_0  (h : 3 ∈ m.pages) (hi lo : Nat) : EvtOk m ⟨LAUREL.CLAIM_REFUSED_CNT, hi, lo⟩
    := evt_lit (of_decide_eq_true rfl) h (of_decide_eq_true rfl)

@[simp] theorem rg_LAUREL_HB_MISS_CNT_0  (h : 3 ∈ m.pages) : m.reg (LAUREL.HB_MISS_CNT) := reg_lit (of_decide_eq_true rfl) h (of_decide_eq_true rfl)

@[simp] theorem ev_LAUREL_HB_MISS_CNT_0  (h : 3 ∈ m.pages) (hi lo : Nat) : EvtOk m ⟨LAUREL.HB_MISS_CNT, hi, lo⟩ := evt_lit
    (of_decide_eq_true rfl) h (of_decide_eq_true rfl)

@[simp] theorem rg_LAUREL_LAUREL_EVT_0  (h : 3 ∈ m.pages) : m.reg (LAUREL.LAUREL_EVT) := reg_lit (of_decide_eq_true rfl) h (of_decide_eq_true rfl)

@[simp] theorem ev_LAUREL_LAUREL_EVT_0  (h : 3 ∈ m.pages) (hi lo : Nat) : EvtOk m ⟨LAUREL.LAUREL_EVT, hi, lo⟩ := evt_lit (by
    decide) h (of_decide_eq_true rfl)

@[simp] theorem fa_LAUREL_LAUREL_EVT_CLAIM_REFUSED_0  (h : 3 ∈ m.pages) : m.reg (LAUREL.LAUREL_EVT.CLAIM_REFUSED).addr :=
    rg_LAUREL_LAUREL_EVT_0 h

@[simp] theorem fe_LAUREL_LAUREL_EVT_CLAIM_REFUSED_0  (h : 3 ∈ m.pages) : EvtOk m (LAUREL.LAUREL_EVT.CLAIM_REFUSED) :=
    ev_LAUREL_LAUREL_EVT_0 h _ _

@[simp] theorem fa_LAUREL_LAUREL_EVT_HANDOVER_0  (h : 3 ∈ m.pages) : m.reg (LAUREL.LAUREL_EVT.HANDOVER).addr :=
    rg_LAUREL_LAUREL_EVT_0 h

@[simp] theorem fe_LAUREL_LAUREL_EVT_HANDOVER_0  (h : 3 ∈ m.pages) : EvtOk m (LAUREL.LAUREL_EVT.HANDOVER) :=
    ev_LAUREL_LAUREL_EVT_0 h _ _

@[simp] theorem fa_LAUREL_LAUREL_EVT_HB_PATH_0  (h : 3 ∈ m.pages) : m.reg (LAUREL.LAUREL_EVT.HB_PATH).addr :=
    rg_LAUREL_LAUREL_EVT_0 h

@[simp] theorem fe_LAUREL_LAUREL_EVT_HB_PATH_0  (h : 3 ∈ m.pages) : EvtOk m (LAUREL.LAUREL_EVT.HB_PATH) :=
    ev_LAUREL_LAUREL_EVT_0 h _ _

@[simp] theorem fa_LAUREL_LAUREL_EVT_KAT_FAIL_0  (h : 3 ∈ m.pages) : m.reg (LAUREL.LAUREL_EVT.KAT_FAIL).addr :=
    rg_LAUREL_LAUREL_EVT_0 h

@[simp] theorem fe_LAUREL_LAUREL_EVT_KAT_FAIL_0  (h : 3 ∈ m.pages) : EvtOk m (LAUREL.LAUREL_EVT.KAT_FAIL) :=
    ev_LAUREL_LAUREL_EVT_0 h _ _

@[simp] theorem fa_LAUREL_LAUREL_EVT_QUARANTINE_0  (h : 3 ∈ m.pages) : m.reg (LAUREL.LAUREL_EVT.QUARANTINE).addr :=
    rg_LAUREL_LAUREL_EVT_0 h

@[simp] theorem fe_LAUREL_LAUREL_EVT_QUARANTINE_0  (h : 3 ∈ m.pages) : EvtOk m (LAUREL.LAUREL_EVT.QUARANTINE) :=
    ev_LAUREL_LAUREL_EVT_0 h _ _

@[simp] theorem fa_LAUREL_LAUREL_EVT_REJOINED_0  (h : 3 ∈ m.pages) : m.reg (LAUREL.LAUREL_EVT.REJOINED).addr :=
    rg_LAUREL_LAUREL_EVT_0 h

@[simp] theorem fe_LAUREL_LAUREL_EVT_REJOINED_0  (h : 3 ∈ m.pages) : EvtOk m (LAUREL.LAUREL_EVT.REJOINED) :=
    ev_LAUREL_LAUREL_EVT_0 h _ _

@[simp] theorem fa_LAUREL_LAUREL_EVT_TAKEOVER_0  (h : 3 ∈ m.pages) : m.reg (LAUREL.LAUREL_EVT.TAKEOVER).addr :=
    rg_LAUREL_LAUREL_EVT_0 h

@[simp] theorem fe_LAUREL_LAUREL_EVT_TAKEOVER_0  (h : 3 ∈ m.pages) : EvtOk m (LAUREL.LAUREL_EVT.TAKEOVER) :=
    ev_LAUREL_LAUREL_EVT_0 h _ _

@[simp] theorem fa_LAUREL_LAUREL_EVT_TIE_0  (h : 3 ∈ m.pages) : m.reg (LAUREL.LAUREL_EVT.TIE).addr := rg_LAUREL_LAUREL_EVT_0
    h

@[simp] theorem fe_LAUREL_LAUREL_EVT_TIE_0  (h : 3 ∈ m.pages) : EvtOk m (LAUREL.LAUREL_EVT.TIE) := ev_LAUREL_LAUREL_EVT_0 h
    _ _

@[simp] theorem fa_LAUREL_LAUREL_EVT_TOKEN_CE_0  (h : 3 ∈ m.pages) : m.reg (LAUREL.LAUREL_EVT.TOKEN_CE).addr :=
    rg_LAUREL_LAUREL_EVT_0 h

@[simp] theorem fe_LAUREL_LAUREL_EVT_TOKEN_CE_0  (h : 3 ∈ m.pages) : EvtOk m (LAUREL.LAUREL_EVT.TOKEN_CE) :=
    ev_LAUREL_LAUREL_EVT_0 h _ _

@[simp] theorem fa_LAUREL_LAUREL_EVT_XCHK_DISAGREE_0  (h : 3 ∈ m.pages) : m.reg (LAUREL.LAUREL_EVT.XCHK_DISAGREE).addr :=
    rg_LAUREL_LAUREL_EVT_0 h

@[simp] theorem fe_LAUREL_LAUREL_EVT_XCHK_DISAGREE_0  (h : 3 ∈ m.pages) : EvtOk m (LAUREL.LAUREL_EVT.XCHK_DISAGREE) :=
    ev_LAUREL_LAUREL_EVT_0 h _ _

@[simp] theorem rg_LAUREL_POSE_MISMATCH_CNT_0  (h : 3 ∈ m.pages) : m.reg (LAUREL.POSE_MISMATCH_CNT) := reg_lit (of_decide_eq_true rfl) h
    (of_decide_eq_true rfl)

@[simp] theorem ev_LAUREL_POSE_MISMATCH_CNT_0  (h : 3 ∈ m.pages) (hi lo : Nat) : EvtOk m ⟨LAUREL.POSE_MISMATCH_CNT, hi, lo⟩
    := evt_lit (of_decide_eq_true rfl) h (of_decide_eq_true rfl)

@[simp] theorem rg_LAUREL_SLOT_MISMATCH_CNT_0  (h : 3 ∈ m.pages) : m.reg (LAUREL.SLOT_MISMATCH_CNT) := reg_lit (of_decide_eq_true rfl) h
    (of_decide_eq_true rfl)

@[simp] theorem ev_LAUREL_SLOT_MISMATCH_CNT_0  (h : 3 ∈ m.pages) (hi lo : Nat) : EvtOk m ⟨LAUREL.SLOT_MISMATCH_CNT, hi, lo⟩
    := evt_lit (of_decide_eq_true rfl) h (of_decide_eq_true rfl)

@[simp] theorem rg_LAUREL_TAKEOVER_CNT_0  (h : 3 ∈ m.pages) : m.reg (LAUREL.TAKEOVER_CNT) := reg_lit (of_decide_eq_true rfl) h (by
    decide)

@[simp] theorem ev_LAUREL_TAKEOVER_CNT_0  (h : 3 ∈ m.pages) (hi lo : Nat) : EvtOk m ⟨LAUREL.TAKEOVER_CNT, hi, lo⟩ := evt_lit
    (of_decide_eq_true rfl) h (of_decide_eq_true rfl)

@[simp] theorem rg_LAUREL_TAKEOVER_LAST_0  (h : 3 ∈ m.pages) : m.reg (LAUREL.TAKEOVER_LAST) := reg_lit (of_decide_eq_true rfl) h (by
    decide)

@[simp] theorem ev_LAUREL_TAKEOVER_LAST_0  (h : 3 ∈ m.pages) (hi lo : Nat) : EvtOk m ⟨LAUREL.TAKEOVER_LAST, hi, lo⟩ :=
    evt_lit (of_decide_eq_true rfl) h (of_decide_eq_true rfl)

@[simp] theorem rg_LAUREL_TIE_CNT_0  (h : 3 ∈ m.pages) : m.reg (LAUREL.TIE_CNT) := reg_lit (of_decide_eq_true rfl) h (of_decide_eq_true rfl)

@[simp] theorem ev_LAUREL_TIE_CNT_0  (h : 3 ∈ m.pages) (hi lo : Nat) : EvtOk m ⟨LAUREL.TIE_CNT, hi, lo⟩ := evt_lit (by
    decide) h (of_decide_eq_true rfl)

@[simp] theorem rg_LAUREL_TOKEN_CE_CNT_0  (h : 3 ∈ m.pages) : m.reg (LAUREL.TOKEN_CE_CNT) := reg_lit (of_decide_eq_true rfl) h (by
    decide)

@[simp] theorem ev_LAUREL_TOKEN_CE_CNT_0  (h : 3 ∈ m.pages) (hi lo : Nat) : EvtOk m ⟨LAUREL.TOKEN_CE_CNT, hi, lo⟩ := evt_lit
    (of_decide_eq_true rfl) h (of_decide_eq_true rfl)

@[simp] theorem rg_LAUREL_XCHK_STAT_0  (h : 3 ∈ m.pages) : m.reg (LAUREL.XCHK_STAT) := reg_lit (of_decide_eq_true rfl) h (of_decide_eq_true rfl)

@[simp] theorem ev_LAUREL_XCHK_STAT_0  (h : 3 ∈ m.pages) (hi lo : Nat) : EvtOk m ⟨LAUREL.XCHK_STAT, hi, lo⟩ := evt_lit (by
    decide) h (of_decide_eq_true rfl)

@[simp] theorem rg_LOOP_ENG_EVT_0 (n : LaneIx) (h : n ∈ m.lanes) : m.reg (LOOP.ENG_EVT n.val) := by
  have hn := n.isLt; unfold LOOP.ENG_EVT
  exact reg_lane h (by omega) (by omega) (by omega) (by omega)

@[simp] theorem ev_LOOP_ENG_EVT_0 (n : LaneIx) (h : n ∈ m.lanes) (hi lo : Nat) : EvtOk m ⟨LOOP.ENG_EVT n.val, hi, lo⟩ := by
  have hn := n.isLt; unfold LOOP.ENG_EVT
  exact evt_lane h (by omega) (by omega) (by omega) (by omega)

@[simp] theorem fa_LOOP_ENG_EVT_COMM_LOST_0 (n : LaneIx) (h : n ∈ m.lanes) : m.reg (LOOP.ENG_EVT.COMM_LOST n.val).addr :=
    rg_LOOP_ENG_EVT_0 n h

@[simp] theorem fe_LOOP_ENG_EVT_COMM_LOST_0 (n : LaneIx) (h : n ∈ m.lanes) : EvtOk m (LOOP.ENG_EVT.COMM_LOST n.val) :=
    ev_LOOP_ENG_EVT_0 n h _ _

@[simp] theorem fa_LOOP_ENG_EVT_DR_0 (n : LaneIx) (h : n ∈ m.lanes) : m.reg (LOOP.ENG_EVT.DR n.val).addr :=
    rg_LOOP_ENG_EVT_0 n h

@[simp] theorem fe_LOOP_ENG_EVT_DR_0 (n : LaneIx) (h : n ∈ m.lanes) : EvtOk m (LOOP.ENG_EVT.DR n.val) := ev_LOOP_ENG_EVT_0 n
    h _ _

@[simp] theorem fa_LOOP_ENG_EVT_HW_IMPLAUS_0 (n : LaneIx) (h : n ∈ m.lanes) : m.reg (LOOP.ENG_EVT.HW_IMPLAUS n.val).addr :=
    rg_LOOP_ENG_EVT_0 n h

@[simp] theorem fe_LOOP_ENG_EVT_HW_IMPLAUS_0 (n : LaneIx) (h : n ∈ m.lanes) : EvtOk m (LOOP.ENG_EVT.HW_IMPLAUS n.val) :=
    ev_LOOP_ENG_EVT_0 n h _ _

@[simp] theorem fa_LOOP_ENG_EVT_HW_SAFE_0 (n : LaneIx) (h : n ∈ m.lanes) : m.reg (LOOP.ENG_EVT.HW_SAFE n.val).addr :=
    rg_LOOP_ENG_EVT_0 n h

@[simp] theorem fe_LOOP_ENG_EVT_HW_SAFE_0 (n : LaneIx) (h : n ∈ m.lanes) : EvtOk m (LOOP.ENG_EVT.HW_SAFE n.val) :=
    ev_LOOP_ENG_EVT_0 n h _ _

@[simp] theorem fa_LOOP_ENG_EVT_LIVE_WRITE_0 (n : LaneIx) (h : n ∈ m.lanes) : m.reg (LOOP.ENG_EVT.LIVE_WRITE n.val).addr :=
    rg_LOOP_ENG_EVT_0 n h

@[simp] theorem fe_LOOP_ENG_EVT_LIVE_WRITE_0 (n : LaneIx) (h : n ∈ m.lanes) : EvtOk m (LOOP.ENG_EVT.LIVE_WRITE n.val) :=
    ev_LOOP_ENG_EVT_0 n h _ _

@[simp] theorem fa_LOOP_ENG_EVT_OUT_SAT_0 (n : LaneIx) (h : n ∈ m.lanes) : m.reg (LOOP.ENG_EVT.OUT_SAT n.val).addr :=
    rg_LOOP_ENG_EVT_0 n h

@[simp] theorem fe_LOOP_ENG_EVT_OUT_SAT_0 (n : LaneIx) (h : n ∈ m.lanes) : EvtOk m (LOOP.ENG_EVT.OUT_SAT n.val) :=
    ev_LOOP_ENG_EVT_0 n h _ _

@[simp] theorem fa_LOOP_ENG_EVT_OVERRUN_0 (n : LaneIx) (h : n ∈ m.lanes) : m.reg (LOOP.ENG_EVT.OVERRUN n.val).addr :=
    rg_LOOP_ENG_EVT_0 n h

@[simp] theorem fe_LOOP_ENG_EVT_OVERRUN_0 (n : LaneIx) (h : n ∈ m.lanes) : EvtOk m (LOOP.ENG_EVT.OVERRUN n.val) :=
    ev_LOOP_ENG_EVT_0 n h _ _

@[simp] theorem fa_LOOP_ENG_EVT_SEC_SAT_0 (n : LaneIx) (h : n ∈ m.lanes) : m.reg (LOOP.ENG_EVT.SEC_SAT n.val).addr :=
    rg_LOOP_ENG_EVT_0 n h

@[simp] theorem fe_LOOP_ENG_EVT_SEC_SAT_0 (n : LaneIx) (h : n ∈ m.lanes) : EvtOk m (LOOP.ENG_EVT.SEC_SAT n.val) :=
    ev_LOOP_ENG_EVT_0 n h _ _

@[simp] theorem rg_LOOP_HW_CNT_0 (n : LaneIx) (h : n ∈ m.lanes) : m.reg (LOOP.HW_CNT n.val) := by
  have hn := n.isLt; unfold LOOP.HW_CNT
  exact reg_lane h (by omega) (by omega) (by omega) (by omega)

@[simp] theorem ev_LOOP_HW_CNT_0 (n : LaneIx) (h : n ∈ m.lanes) (hi lo : Nat) : EvtOk m ⟨LOOP.HW_CNT n.val, hi, lo⟩ := by
  have hn := n.isLt; unfold LOOP.HW_CNT
  exact evt_lane h (by omega) (by omega) (by omega) (by omega)

@[simp] theorem rg_LOOP_OVR_CNT_0 (n : LaneIx) (h : n ∈ m.lanes) : m.reg (LOOP.OVR_CNT n.val) := by
  have hn := n.isLt; unfold LOOP.OVR_CNT
  exact reg_lane h (by omega) (by omega) (by omega) (by omega)

@[simp] theorem ev_LOOP_OVR_CNT_0 (n : LaneIx) (h : n ∈ m.lanes) (hi lo : Nat) : EvtOk m ⟨LOOP.OVR_CNT n.val, hi, lo⟩ := by
  have hn := n.isLt; unfold LOOP.OVR_CNT
  exact evt_lane h (by omega) (by omega) (by omega) (by omega)

@[simp] theorem rg_LOOP_SAT_CNT_0 (n : LaneIx) (h : n ∈ m.lanes) : m.reg (LOOP.SAT_CNT n.val) := by
  have hn := n.isLt; unfold LOOP.SAT_CNT
  exact reg_lane h (by omega) (by omega) (by omega) (by omega)

@[simp] theorem ev_LOOP_SAT_CNT_0 (n : LaneIx) (h : n ∈ m.lanes) (hi lo : Nat) : EvtOk m ⟨LOOP.SAT_CNT n.val, hi, lo⟩ := by
  have hn := n.isLt; unfold LOOP.SAT_CNT
  exact evt_lane h (by omega) (by omega) (by omega) (by omega)

@[simp] theorem rg_MAP_CONFLICT_CNT_0  (h : 25 ∈ m.pages) : m.reg (MAP.CONFLICT_CNT) := reg_lit (of_decide_eq_true rfl) h (of_decide_eq_true rfl)

@[simp] theorem ev_MAP_CONFLICT_CNT_0  (h : 25 ∈ m.pages) (hi lo : Nat) : EvtOk m ⟨MAP.CONFLICT_CNT, hi, lo⟩ := evt_lit (by
    decide) h (of_decide_eq_true rfl)

@[simp] theorem rg_MAP_DIVERGE_CNT_0  (h : 25 ∈ m.pages) : m.reg (MAP.DIVERGE_CNT) := reg_lit (of_decide_eq_true rfl) h (of_decide_eq_true rfl)

@[simp] theorem ev_MAP_DIVERGE_CNT_0  (h : 25 ∈ m.pages) (hi lo : Nat) : EvtOk m ⟨MAP.DIVERGE_CNT, hi, lo⟩ := evt_lit (by
    decide) h (of_decide_eq_true rfl)

@[simp] theorem rg_MAP_ECC_CNT_0  (h : 25 ∈ m.pages) : m.reg (MAP.ECC_CNT) := reg_lit (of_decide_eq_true rfl) h (of_decide_eq_true rfl)

@[simp] theorem ev_MAP_ECC_CNT_0  (h : 25 ∈ m.pages) (hi lo : Nat) : EvtOk m ⟨MAP.ECC_CNT, hi, lo⟩ := evt_lit (of_decide_eq_true rfl) h
    (of_decide_eq_true rfl)

@[simp] theorem fa_MAP_ECC_CNT_CE_0  (h : 25 ∈ m.pages) : m.reg (MAP.ECC_CNT.CE).addr := rg_MAP_ECC_CNT_0 h

@[simp] theorem fe_MAP_ECC_CNT_CE_0  (h : 25 ∈ m.pages) : EvtOk m (MAP.ECC_CNT.CE) := ev_MAP_ECC_CNT_0 h _ _

@[simp] theorem fa_MAP_ECC_CNT_UE_0  (h : 25 ∈ m.pages) : m.reg (MAP.ECC_CNT.UE).addr := rg_MAP_ECC_CNT_0 h

@[simp] theorem fe_MAP_ECC_CNT_UE_0  (h : 25 ∈ m.pages) : EvtOk m (MAP.ECC_CNT.UE) := ev_MAP_ECC_CNT_0 h _ _

@[simp] theorem rg_MAP_EVICT_TOTAL_0  (h : 25 ∈ m.pages) : m.reg (MAP.EVICT_TOTAL) := reg_lit (of_decide_eq_true rfl) h (of_decide_eq_true rfl)

@[simp] theorem ev_MAP_EVICT_TOTAL_0  (h : 25 ∈ m.pages) (hi lo : Nat) : EvtOk m ⟨MAP.EVICT_TOTAL, hi, lo⟩ := evt_lit (by
    decide) h (of_decide_eq_true rfl)

@[simp] theorem rg_MAP_LATE_READ_CNT_0  (h : 25 ∈ m.pages) : m.reg (MAP.LATE_READ_CNT) := reg_lit (of_decide_eq_true rfl) h (of_decide_eq_true rfl)

@[simp] theorem ev_MAP_LATE_READ_CNT_0  (h : 25 ∈ m.pages) (hi lo : Nat) : EvtOk m ⟨MAP.LATE_READ_CNT, hi, lo⟩ := evt_lit
    (of_decide_eq_true rfl) h (of_decide_eq_true rfl)

@[simp] theorem rg_MAP_MAP_EVT_0  (h : 25 ∈ m.pages) : m.reg (MAP.MAP_EVT) := reg_lit (of_decide_eq_true rfl) h (of_decide_eq_true rfl)

@[simp] theorem ev_MAP_MAP_EVT_0  (h : 25 ∈ m.pages) (hi lo : Nat) : EvtOk m ⟨MAP.MAP_EVT, hi, lo⟩ := evt_lit (of_decide_eq_true rfl) h
    (of_decide_eq_true rfl)

@[simp] theorem fa_MAP_MAP_EVT_CE_0  (h : 25 ∈ m.pages) : m.reg (MAP.MAP_EVT.CE).addr := rg_MAP_MAP_EVT_0 h

@[simp] theorem fe_MAP_MAP_EVT_CE_0  (h : 25 ∈ m.pages) : EvtOk m (MAP.MAP_EVT.CE) := ev_MAP_MAP_EVT_0 h _ _

@[simp] theorem fa_MAP_MAP_EVT_DIVERGE_0  (h : 25 ∈ m.pages) : m.reg (MAP.MAP_EVT.DIVERGE).addr := rg_MAP_MAP_EVT_0 h

@[simp] theorem fe_MAP_MAP_EVT_DIVERGE_0  (h : 25 ∈ m.pages) : EvtOk m (MAP.MAP_EVT.DIVERGE) := ev_MAP_MAP_EVT_0 h _ _

@[simp] theorem fa_MAP_MAP_EVT_ORG_MISMATCH_0  (h : 25 ∈ m.pages) : m.reg (MAP.MAP_EVT.ORG_MISMATCH).addr :=
    rg_MAP_MAP_EVT_0 h

@[simp] theorem fe_MAP_MAP_EVT_ORG_MISMATCH_0  (h : 25 ∈ m.pages) : EvtOk m (MAP.MAP_EVT.ORG_MISMATCH) := ev_MAP_MAP_EVT_0 h
    _ _

@[simp] theorem fa_MAP_MAP_EVT_SLOT_CONFLICT_0  (h : 25 ∈ m.pages) : m.reg (MAP.MAP_EVT.SLOT_CONFLICT).addr :=
    rg_MAP_MAP_EVT_0 h

@[simp] theorem fe_MAP_MAP_EVT_SLOT_CONFLICT_0  (h : 25 ∈ m.pages) : EvtOk m (MAP.MAP_EVT.SLOT_CONFLICT) := ev_MAP_MAP_EVT_0
    h _ _

@[simp] theorem fa_MAP_MAP_EVT_SPILL_LOST_0  (h : 25 ∈ m.pages) : m.reg (MAP.MAP_EVT.SPILL_LOST).addr := rg_MAP_MAP_EVT_0 h

@[simp] theorem fe_MAP_MAP_EVT_SPILL_LOST_0  (h : 25 ∈ m.pages) : EvtOk m (MAP.MAP_EVT.SPILL_LOST) := ev_MAP_MAP_EVT_0 h _ _

@[simp] theorem fa_MAP_MAP_EVT_TILE_LATE_0  (h : 25 ∈ m.pages) : m.reg (MAP.MAP_EVT.TILE_LATE).addr := rg_MAP_MAP_EVT_0 h

@[simp] theorem fe_MAP_MAP_EVT_TILE_LATE_0  (h : 25 ∈ m.pages) : EvtOk m (MAP.MAP_EVT.TILE_LATE) := ev_MAP_MAP_EVT_0 h _ _

@[simp] theorem fa_MAP_MAP_EVT_TILE_REJECT_0  (h : 25 ∈ m.pages) : m.reg (MAP.MAP_EVT.TILE_REJECT).addr := rg_MAP_MAP_EVT_0
    h

@[simp] theorem fe_MAP_MAP_EVT_TILE_REJECT_0  (h : 25 ∈ m.pages) : EvtOk m (MAP.MAP_EVT.TILE_REJECT) := ev_MAP_MAP_EVT_0 h _
    _

@[simp] theorem fa_MAP_MAP_EVT_UE_0  (h : 25 ∈ m.pages) : m.reg (MAP.MAP_EVT.UE).addr := rg_MAP_MAP_EVT_0 h

@[simp] theorem fe_MAP_MAP_EVT_UE_0  (h : 25 ∈ m.pages) : EvtOk m (MAP.MAP_EVT.UE) := ev_MAP_MAP_EVT_0 h _ _

@[simp] theorem fa_MAP_MAP_EVT_WIN_STALL_0  (h : 25 ∈ m.pages) : m.reg (MAP.MAP_EVT.WIN_STALL).addr := rg_MAP_MAP_EVT_0 h

@[simp] theorem fe_MAP_MAP_EVT_WIN_STALL_0  (h : 25 ∈ m.pages) : EvtOk m (MAP.MAP_EVT.WIN_STALL) := ev_MAP_MAP_EVT_0 h _ _

@[simp] theorem rg_MAP_MAP_STAT_0  (h : 25 ∈ m.pages) : m.reg (MAP.MAP_STAT) := reg_lit (of_decide_eq_true rfl) h (of_decide_eq_true rfl)

@[simp] theorem ev_MAP_MAP_STAT_0  (h : 25 ∈ m.pages) (hi lo : Nat) : EvtOk m ⟨MAP.MAP_STAT, hi, lo⟩ := evt_lit (of_decide_eq_true rfl)
    h (of_decide_eq_true rfl)

@[simp] theorem fa_MAP_MAP_STAT_CONFLICT_0  (h : 25 ∈ m.pages) : m.reg (MAP.MAP_STAT.CONFLICT).addr := rg_MAP_MAP_STAT_0 h

@[simp] theorem fe_MAP_MAP_STAT_CONFLICT_0  (h : 25 ∈ m.pages) : EvtOk m (MAP.MAP_STAT.CONFLICT) := ev_MAP_MAP_STAT_0 h _ _

@[simp] theorem fa_MAP_MAP_STAT_LATE_0  (h : 25 ∈ m.pages) : m.reg (MAP.MAP_STAT.LATE).addr := rg_MAP_MAP_STAT_0 h

@[simp] theorem fe_MAP_MAP_STAT_LATE_0  (h : 25 ∈ m.pages) : EvtOk m (MAP.MAP_STAT.LATE) := ev_MAP_MAP_STAT_0 h _ _

@[simp] theorem fa_MAP_MAP_STAT_STALLED_0  (h : 25 ∈ m.pages) : m.reg (MAP.MAP_STAT.STALLED).addr := rg_MAP_MAP_STAT_0 h

@[simp] theorem fe_MAP_MAP_STAT_STALLED_0  (h : 25 ∈ m.pages) : EvtOk m (MAP.MAP_STAT.STALLED) := ev_MAP_MAP_STAT_0 h _ _

@[simp] theorem fa_MAP_MAP_STAT_WIN_READY_0  (h : 25 ∈ m.pages) : m.reg (MAP.MAP_STAT.WIN_READY).addr := rg_MAP_MAP_STAT_0 h

@[simp] theorem fe_MAP_MAP_STAT_WIN_READY_0  (h : 25 ∈ m.pages) : EvtOk m (MAP.MAP_STAT.WIN_READY) := ev_MAP_MAP_STAT_0 h _
    _

@[simp] theorem rg_MAP_MAP_WANTED_0  (h : 25 ∈ m.pages) : m.reg (MAP.MAP_WANTED) := reg_lit (of_decide_eq_true rfl) h (of_decide_eq_true rfl)

@[simp] theorem ev_MAP_MAP_WANTED_0  (h : 25 ∈ m.pages) (hi lo : Nat) : EvtOk m ⟨MAP.MAP_WANTED, hi, lo⟩ := evt_lit (by
    decide) h (of_decide_eq_true rfl)

@[simp] theorem rg_MAP_ORG_GRP_CNT_0  (h : 25 ∈ m.pages) : m.reg (MAP.ORG_GRP_CNT) := reg_lit (of_decide_eq_true rfl) h (of_decide_eq_true rfl)

@[simp] theorem ev_MAP_ORG_GRP_CNT_0  (h : 25 ∈ m.pages) (hi lo : Nat) : EvtOk m ⟨MAP.ORG_GRP_CNT, hi, lo⟩ := evt_lit (by
    decide) h (of_decide_eq_true rfl)

@[simp] theorem fa_MAP_ORG_GRP_CNT_GROUP_FULL_0  (h : 25 ∈ m.pages) : m.reg (MAP.ORG_GRP_CNT.GROUP_FULL).addr :=
    rg_MAP_ORG_GRP_CNT_0 h

@[simp] theorem fe_MAP_ORG_GRP_CNT_GROUP_FULL_0  (h : 25 ∈ m.pages) : EvtOk m (MAP.ORG_GRP_CNT.GROUP_FULL) :=
    ev_MAP_ORG_GRP_CNT_0 h _ _

@[simp] theorem fa_MAP_ORG_GRP_CNT_ORG_MISMATCH_0  (h : 25 ∈ m.pages) : m.reg (MAP.ORG_GRP_CNT.ORG_MISMATCH).addr :=
    rg_MAP_ORG_GRP_CNT_0 h

@[simp] theorem fe_MAP_ORG_GRP_CNT_ORG_MISMATCH_0  (h : 25 ∈ m.pages) : EvtOk m (MAP.ORG_GRP_CNT.ORG_MISMATCH) :=
    ev_MAP_ORG_GRP_CNT_0 h _ _

@[simp] theorem rg_MAP_PUSH_REFUSED_CNT_0  (h : 25 ∈ m.pages) : m.reg (MAP.PUSH_REFUSED_CNT) := reg_lit (of_decide_eq_true rfl) h (by
    decide)

@[simp] theorem ev_MAP_PUSH_REFUSED_CNT_0  (h : 25 ∈ m.pages) (hi lo : Nat) : EvtOk m ⟨MAP.PUSH_REFUSED_CNT, hi, lo⟩ :=
    evt_lit (of_decide_eq_true rfl) h (of_decide_eq_true rfl)

@[simp] theorem rg_MAP_REQ_TOTAL_0  (h : 25 ∈ m.pages) : m.reg (MAP.REQ_TOTAL) := reg_lit (of_decide_eq_true rfl) h (of_decide_eq_true rfl)

@[simp] theorem ev_MAP_REQ_TOTAL_0  (h : 25 ∈ m.pages) (hi lo : Nat) : EvtOk m ⟨MAP.REQ_TOTAL, hi, lo⟩ := evt_lit (by
    decide) h (of_decide_eq_true rfl)

@[simp] theorem rg_MAP_SCRUB_POS_0  (h : 25 ∈ m.pages) : m.reg (MAP.SCRUB_POS) := reg_lit (of_decide_eq_true rfl) h (of_decide_eq_true rfl)

@[simp] theorem ev_MAP_SCRUB_POS_0  (h : 25 ∈ m.pages) (hi lo : Nat) : EvtOk m ⟨MAP.SCRUB_POS, hi, lo⟩ := evt_lit (by
    decide) h (of_decide_eq_true rfl)

@[simp] theorem rg_MAP_SPILL_CNT_0  (h : 25 ∈ m.pages) : m.reg (MAP.SPILL_CNT) := reg_lit (of_decide_eq_true rfl) h (of_decide_eq_true rfl)

@[simp] theorem ev_MAP_SPILL_CNT_0  (h : 25 ∈ m.pages) (hi lo : Nat) : EvtOk m ⟨MAP.SPILL_CNT, hi, lo⟩ := evt_lit (by
    decide) h (of_decide_eq_true rfl)

@[simp] theorem rg_MAP_SPILL_LOST_CNT_0  (h : 25 ∈ m.pages) : m.reg (MAP.SPILL_LOST_CNT) := reg_lit (of_decide_eq_true rfl) h (by
    decide)

@[simp] theorem ev_MAP_SPILL_LOST_CNT_0  (h : 25 ∈ m.pages) (hi lo : Nat) : EvtOk m ⟨MAP.SPILL_LOST_CNT, hi, lo⟩ := evt_lit
    (of_decide_eq_true rfl) h (of_decide_eq_true rfl)

@[simp] theorem rg_MAP_STALL_CNT_0  (h : 25 ∈ m.pages) : m.reg (MAP.STALL_CNT) := reg_lit (of_decide_eq_true rfl) h (of_decide_eq_true rfl)

@[simp] theorem ev_MAP_STALL_CNT_0  (h : 25 ∈ m.pages) (hi lo : Nat) : EvtOk m ⟨MAP.STALL_CNT, hi, lo⟩ := evt_lit (by
    decide) h (of_decide_eq_true rfl)

@[simp] theorem rg_MAP_STROKE_DISC_CNT_0  (h : 25 ∈ m.pages) : m.reg (MAP.STROKE_DISC_CNT) := reg_lit (of_decide_eq_true rfl) h (by
    decide)

@[simp] theorem ev_MAP_STROKE_DISC_CNT_0  (h : 25 ∈ m.pages) (hi lo : Nat) : EvtOk m ⟨MAP.STROKE_DISC_CNT, hi, lo⟩ :=
    evt_lit (of_decide_eq_true rfl) h (of_decide_eq_true rfl)

@[simp] theorem fa_MAP_STROKE_DISC_CNT_DUP_0  (h : 25 ∈ m.pages) : m.reg (MAP.STROKE_DISC_CNT.DUP).addr :=
    rg_MAP_STROKE_DISC_CNT_0 h

@[simp] theorem fe_MAP_STROKE_DISC_CNT_DUP_0  (h : 25 ∈ m.pages) : EvtOk m (MAP.STROKE_DISC_CNT.DUP) :=
    ev_MAP_STROKE_DISC_CNT_0 h _ _

@[simp] theorem fa_MAP_STROKE_DISC_CNT_OUTSIDE_0  (h : 25 ∈ m.pages) : m.reg (MAP.STROKE_DISC_CNT.OUTSIDE).addr :=
    rg_MAP_STROKE_DISC_CNT_0 h

@[simp] theorem fe_MAP_STROKE_DISC_CNT_OUTSIDE_0  (h : 25 ∈ m.pages) : EvtOk m (MAP.STROKE_DISC_CNT.OUTSIDE) :=
    ev_MAP_STROKE_DISC_CNT_0 h _ _

@[simp] theorem fa_MAP_STROKE_DISC_CNT_STALE_0  (h : 25 ∈ m.pages) : m.reg (MAP.STROKE_DISC_CNT.STALE).addr :=
    rg_MAP_STROKE_DISC_CNT_0 h

@[simp] theorem fe_MAP_STROKE_DISC_CNT_STALE_0  (h : 25 ∈ m.pages) : EvtOk m (MAP.STROKE_DISC_CNT.STALE) :=
    ev_MAP_STROKE_DISC_CNT_0 h _ _

@[simp] theorem rg_MAP_STROKE_GAP_CNT_0  (h : 25 ∈ m.pages) : m.reg (MAP.STROKE_GAP_CNT) := reg_lit (of_decide_eq_true rfl) h (by
    decide)

@[simp] theorem ev_MAP_STROKE_GAP_CNT_0  (h : 25 ∈ m.pages) (hi lo : Nat) : EvtOk m ⟨MAP.STROKE_GAP_CNT, hi, lo⟩ := evt_lit
    (of_decide_eq_true rfl) h (of_decide_eq_true rfl)

@[simp] theorem rg_MAP_STROKE_RX_CNT_0  (h : 25 ∈ m.pages) : m.reg (MAP.STROKE_RX_CNT) := reg_lit (of_decide_eq_true rfl) h (of_decide_eq_true rfl)

@[simp] theorem ev_MAP_STROKE_RX_CNT_0  (h : 25 ∈ m.pages) (hi lo : Nat) : EvtOk m ⟨MAP.STROKE_RX_CNT, hi, lo⟩ := evt_lit
    (of_decide_eq_true rfl) h (of_decide_eq_true rfl)

@[simp] theorem rg_MAP_TILE_BAD_CNT_0  (h : 25 ∈ m.pages) : m.reg (MAP.TILE_BAD_CNT) := reg_lit (of_decide_eq_true rfl) h (of_decide_eq_true rfl)

@[simp] theorem ev_MAP_TILE_BAD_CNT_0  (h : 25 ∈ m.pages) (hi lo : Nat) : EvtOk m ⟨MAP.TILE_BAD_CNT, hi, lo⟩ := evt_lit (by
    decide) h (of_decide_eq_true rfl)

@[simp] theorem fa_MAP_TILE_BAD_CNT_BAD_0  (h : 25 ∈ m.pages) : m.reg (MAP.TILE_BAD_CNT.BAD).addr := rg_MAP_TILE_BAD_CNT_0 h

@[simp] theorem fe_MAP_TILE_BAD_CNT_BAD_0  (h : 25 ∈ m.pages) : EvtOk m (MAP.TILE_BAD_CNT.BAD) := ev_MAP_TILE_BAD_CNT_0 h _
    _

@[simp] theorem fa_MAP_TILE_BAD_CNT_DUP_0  (h : 25 ∈ m.pages) : m.reg (MAP.TILE_BAD_CNT.DUP).addr := rg_MAP_TILE_BAD_CNT_0 h

@[simp] theorem fe_MAP_TILE_BAD_CNT_DUP_0  (h : 25 ∈ m.pages) : EvtOk m (MAP.TILE_BAD_CNT.DUP) := ev_MAP_TILE_BAD_CNT_0 h _
    _

@[simp] theorem rg_MAP_TILE_STALE_CNT_0  (h : 25 ∈ m.pages) : m.reg (MAP.TILE_STALE_CNT) := reg_lit (of_decide_eq_true rfl) h (by
    decide)

@[simp] theorem ev_MAP_TILE_STALE_CNT_0  (h : 25 ∈ m.pages) (hi lo : Nat) : EvtOk m ⟨MAP.TILE_STALE_CNT, hi, lo⟩ := evt_lit
    (of_decide_eq_true rfl) h (of_decide_eq_true rfl)

@[simp] theorem fa_MAP_TILE_STALE_CNT_AHEAD_0  (h : 25 ∈ m.pages) : m.reg (MAP.TILE_STALE_CNT.AHEAD).addr :=
    rg_MAP_TILE_STALE_CNT_0 h

@[simp] theorem fe_MAP_TILE_STALE_CNT_AHEAD_0  (h : 25 ∈ m.pages) : EvtOk m (MAP.TILE_STALE_CNT.AHEAD) :=
    ev_MAP_TILE_STALE_CNT_0 h _ _

@[simp] theorem fa_MAP_TILE_STALE_CNT_STALE_0  (h : 25 ∈ m.pages) : m.reg (MAP.TILE_STALE_CNT.STALE).addr :=
    rg_MAP_TILE_STALE_CNT_0 h

@[simp] theorem fe_MAP_TILE_STALE_CNT_STALE_0  (h : 25 ∈ m.pages) : EvtOk m (MAP.TILE_STALE_CNT.STALE) :=
    ev_MAP_TILE_STALE_CNT_0 h _ _

@[simp] theorem rg_MBOX_MB_BUSY_CNT_0  (h : 5 ∈ m.pages) : m.reg (MBOX.MB_BUSY_CNT) := reg_lit (of_decide_eq_true rfl) h (of_decide_eq_true rfl)

@[simp] theorem ev_MBOX_MB_BUSY_CNT_0  (h : 5 ∈ m.pages) (hi lo : Nat) : EvtOk m ⟨MBOX.MB_BUSY_CNT, hi, lo⟩ := evt_lit (by
    decide) h (of_decide_eq_true rfl)

@[simp] theorem rg_MBOX_MB_EVT_0  (h : 5 ∈ m.pages) : m.reg (MBOX.MB_EVT) := reg_lit (of_decide_eq_true rfl) h (of_decide_eq_true rfl)

@[simp] theorem ev_MBOX_MB_EVT_0  (h : 5 ∈ m.pages) (hi lo : Nat) : EvtOk m ⟨MBOX.MB_EVT, hi, lo⟩ := evt_lit (of_decide_eq_true rfl) h
    (of_decide_eq_true rfl)

@[simp] theorem rg_NOR_CMD_STAT_0  (h : 7 ∈ m.pages) : m.reg (NOR.CMD_STAT) := reg_lit (of_decide_eq_true rfl) h (of_decide_eq_true rfl)

@[simp] theorem ev_NOR_CMD_STAT_0  (h : 7 ∈ m.pages) (hi lo : Nat) : EvtOk m ⟨NOR.CMD_STAT, hi, lo⟩ := evt_lit (of_decide_eq_true rfl) h
    (of_decide_eq_true rfl)

@[simp] theorem rg_NOR_ERR_CNT_0  (h : 7 ∈ m.pages) : m.reg (NOR.ERR_CNT) := reg_lit (of_decide_eq_true rfl) h (of_decide_eq_true rfl)

@[simp] theorem ev_NOR_ERR_CNT_0  (h : 7 ∈ m.pages) (hi lo : Nat) : EvtOk m ⟨NOR.ERR_CNT, hi, lo⟩ := evt_lit (of_decide_eq_true rfl) h
    (of_decide_eq_true rfl)

@[simp] theorem rg_NOR_NOR_EVT_0  (h : 7 ∈ m.pages) : m.reg (NOR.NOR_EVT) := reg_lit (of_decide_eq_true rfl) h (of_decide_eq_true rfl)

@[simp] theorem ev_NOR_NOR_EVT_0  (h : 7 ∈ m.pages) (hi lo : Nat) : EvtOk m ⟨NOR.NOR_EVT, hi, lo⟩ := evt_lit (of_decide_eq_true rfl) h
    (of_decide_eq_true rfl)

@[simp] theorem fa_NOR_NOR_EVT_AUTH_FAIL_0  (h : 7 ∈ m.pages) : m.reg (NOR.NOR_EVT.AUTH_FAIL).addr := rg_NOR_NOR_EVT_0 h

@[simp] theorem fe_NOR_NOR_EVT_AUTH_FAIL_0  (h : 7 ∈ m.pages) : EvtOk m (NOR.NOR_EVT.AUTH_FAIL) := ev_NOR_NOR_EVT_0 h _ _

@[simp] theorem fa_NOR_NOR_EVT_CMD_DONE_0  (h : 7 ∈ m.pages) : m.reg (NOR.NOR_EVT.CMD_DONE).addr := rg_NOR_NOR_EVT_0 h

@[simp] theorem fe_NOR_NOR_EVT_CMD_DONE_0  (h : 7 ∈ m.pages) : EvtOk m (NOR.NOR_EVT.CMD_DONE) := ev_NOR_NOR_EVT_0 h _ _

@[simp] theorem fa_NOR_NOR_EVT_DIR_REPAIR_0  (h : 7 ∈ m.pages) : m.reg (NOR.NOR_EVT.DIR_REPAIR).addr := rg_NOR_NOR_EVT_0 h

@[simp] theorem fe_NOR_NOR_EVT_DIR_REPAIR_0  (h : 7 ∈ m.pages) : EvtOk m (NOR.NOR_EVT.DIR_REPAIR) := ev_NOR_NOR_EVT_0 h _ _

@[simp] theorem fa_NOR_NOR_EVT_PFAIL_ABORT_0  (h : 7 ∈ m.pages) : m.reg (NOR.NOR_EVT.PFAIL_ABORT).addr := rg_NOR_NOR_EVT_0 h

@[simp] theorem fe_NOR_NOR_EVT_PFAIL_ABORT_0  (h : 7 ∈ m.pages) : EvtOk m (NOR.NOR_EVT.PFAIL_ABORT) := ev_NOR_NOR_EVT_0 h _
    _

@[simp] theorem fa_NOR_NOR_EVT_TIMEOUT_0  (h : 7 ∈ m.pages) : m.reg (NOR.NOR_EVT.TIMEOUT).addr := rg_NOR_NOR_EVT_0 h

@[simp] theorem fe_NOR_NOR_EVT_TIMEOUT_0  (h : 7 ∈ m.pages) : EvtOk m (NOR.NOR_EVT.TIMEOUT) := ev_NOR_NOR_EVT_0 h _ _

@[simp] theorem rg_OUTL_BOOST_SUB_CNT_0 (n : LaneIx) (h : n ∈ m.lanes) : m.reg (OUTL.BOOST_SUB_CNT n.val) := by
  have hn := n.isLt; unfold OUTL.BOOST_SUB_CNT
  exact reg_lane h (by omega) (by omega) (by omega) (by omega)

@[simp] theorem ev_OUTL_BOOST_SUB_CNT_0 (n : LaneIx) (h : n ∈ m.lanes) (hi lo : Nat) : EvtOk m ⟨OUTL.BOOST_SUB_CNT n.val,
    hi, lo⟩ := by
  have hn := n.isLt; unfold OUTL.BOOST_SUB_CNT
  exact evt_lane h (by omega) (by omega) (by omega) (by omega)

@[simp] theorem rg_OUTL_DEMOTE_CNT_0 (n : LaneIx) (h : n ∈ m.lanes) : m.reg (OUTL.DEMOTE_CNT n.val) := by
  have hn := n.isLt; unfold OUTL.DEMOTE_CNT
  exact reg_lane h (by omega) (by omega) (by omega) (by omega)

@[simp] theorem ev_OUTL_DEMOTE_CNT_0 (n : LaneIx) (h : n ∈ m.lanes) (hi lo : Nat) : EvtOk m ⟨OUTL.DEMOTE_CNT n.val, hi, lo⟩
    := by
  have hn := n.isLt; unfold OUTL.DEMOTE_CNT
  exact evt_lane h (by omega) (by omega) (by omega) (by omega)

@[simp] theorem rg_OUTL_OC_CNT_0 (n : LaneIx) (h : n ∈ m.lanes) : m.reg (OUTL.OC_CNT n.val) := by
  have hn := n.isLt; unfold OUTL.OC_CNT
  exact reg_lane h (by omega) (by omega) (by omega) (by omega)

@[simp] theorem ev_OUTL_OC_CNT_0 (n : LaneIx) (h : n ∈ m.lanes) (hi lo : Nat) : EvtOk m ⟨OUTL.OC_CNT n.val, hi, lo⟩ := by
  have hn := n.isLt; unfold OUTL.OC_CNT
  exact evt_lane h (by omega) (by omega) (by omega) (by omega)

@[simp] theorem rg_OUTL_OUTL_EVT_0 (n : LaneIx) (h : n ∈ m.lanes) : m.reg (OUTL.OUTL_EVT n.val) := by
  have hn := n.isLt; unfold OUTL.OUTL_EVT
  exact reg_lane h (by omega) (by omega) (by omega) (by omega)

@[simp] theorem ev_OUTL_OUTL_EVT_0 (n : LaneIx) (h : n ∈ m.lanes) (hi lo : Nat) : EvtOk m ⟨OUTL.OUTL_EVT n.val, hi, lo⟩ :=
    by
  have hn := n.isLt; unfold OUTL.OUTL_EVT
  exact evt_lane h (by omega) (by omega) (by omega) (by omega)

@[simp] theorem fa_OUTL_OUTL_EVT_BOOST_SUB_0 (n : LaneIx) (h : n ∈ m.lanes) : m.reg (OUTL.OUTL_EVT.BOOST_SUB n.val).addr :=
    rg_OUTL_OUTL_EVT_0 n h

@[simp] theorem fe_OUTL_OUTL_EVT_BOOST_SUB_0 (n : LaneIx) (h : n ∈ m.lanes) : EvtOk m (OUTL.OUTL_EVT.BOOST_SUB n.val) :=
    ev_OUTL_OUTL_EVT_0 n h _ _

@[simp] theorem fa_OUTL_OUTL_EVT_CLAMP_DEMOTE_0 (n : LaneIx) (h : n ∈ m.lanes) : m.reg (OUTL.OUTL_EVT.CLAMP_DEMOTE
    n.val).addr := rg_OUTL_OUTL_EVT_0 n h

@[simp] theorem fe_OUTL_OUTL_EVT_CLAMP_DEMOTE_0 (n : LaneIx) (h : n ∈ m.lanes) : EvtOk m (OUTL.OUTL_EVT.CLAMP_DEMOTE n.val)
    := ev_OUTL_OUTL_EVT_0 n h _ _

@[simp] theorem fa_OUTL_OUTL_EVT_DECAY_TMO_0 (n : LaneIx) (h : n ∈ m.lanes) : m.reg (OUTL.OUTL_EVT.DECAY_TMO n.val).addr :=
    rg_OUTL_OUTL_EVT_0 n h

@[simp] theorem fe_OUTL_OUTL_EVT_DECAY_TMO_0 (n : LaneIx) (h : n ∈ m.lanes) : EvtOk m (OUTL.OUTL_EVT.DECAY_TMO n.val) :=
    ev_OUTL_OUTL_EVT_0 n h _ _

@[simp] theorem fa_OUTL_OUTL_EVT_MIN_ON_STRETCH_0 (n : LaneIx) (h : n ∈ m.lanes) : m.reg (OUTL.OUTL_EVT.MIN_ON_STRETCH
    n.val).addr := rg_OUTL_OUTL_EVT_0 n h

@[simp] theorem fe_OUTL_OUTL_EVT_MIN_ON_STRETCH_0 (n : LaneIx) (h : n ∈ m.lanes) : EvtOk m (OUTL.OUTL_EVT.MIN_ON_STRETCH
    n.val) := ev_OUTL_OUTL_EVT_0 n h _ _

@[simp] theorem fa_OUTL_OUTL_EVT_OC_0 (n : LaneIx) (h : n ∈ m.lanes) : m.reg (OUTL.OUTL_EVT.OC n.val).addr :=
    rg_OUTL_OUTL_EVT_0 n h

@[simp] theorem fe_OUTL_OUTL_EVT_OC_0 (n : LaneIx) (h : n ∈ m.lanes) : EvtOk m (OUTL.OUTL_EVT.OC n.val) :=
    ev_OUTL_OUTL_EVT_0 n h _ _

@[simp] theorem fa_OUTL_OUTL_EVT_OPEN_LOAD_0 (n : LaneIx) (h : n ∈ m.lanes) : m.reg (OUTL.OUTL_EVT.OPEN_LOAD n.val).addr :=
    rg_OUTL_OUTL_EVT_0 n h

@[simp] theorem fe_OUTL_OUTL_EVT_OPEN_LOAD_0 (n : LaneIx) (h : n ∈ m.lanes) : EvtOk m (OUTL.OUTL_EVT.OPEN_LOAD n.val) :=
    ev_OUTL_OUTL_EVT_0 n h _ _

@[simp] theorem fa_OUTL_OUTL_EVT_PEAK_LATE_0 (n : LaneIx) (h : n ∈ m.lanes) : m.reg (OUTL.OUTL_EVT.PEAK_LATE n.val).addr :=
    rg_OUTL_OUTL_EVT_0 n h

@[simp] theorem fe_OUTL_OUTL_EVT_PEAK_LATE_0 (n : LaneIx) (h : n ∈ m.lanes) : EvtOk m (OUTL.OUTL_EVT.PEAK_LATE n.val) :=
    ev_OUTL_OUTL_EVT_0 n h _ _

@[simp] theorem fa_OUTL_OUTL_EVT_PEAK_SHARED_0 (n : LaneIx) (h : n ∈ m.lanes) : m.reg (OUTL.OUTL_EVT.PEAK_SHARED n.val).addr
    := rg_OUTL_OUTL_EVT_0 n h

@[simp] theorem fe_OUTL_OUTL_EVT_PEAK_SHARED_0 (n : LaneIx) (h : n ∈ m.lanes) : EvtOk m (OUTL.OUTL_EVT.PEAK_SHARED n.val) :=
    ev_OUTL_OUTL_EVT_0 n h _ _

@[simp] theorem fa_OUTL_OUTL_EVT_PEAK_SKIP_0 (n : LaneIx) (h : n ∈ m.lanes) : m.reg (OUTL.OUTL_EVT.PEAK_SKIP n.val).addr :=
    rg_OUTL_OUTL_EVT_0 n h

@[simp] theorem fe_OUTL_OUTL_EVT_PEAK_SKIP_0 (n : LaneIx) (h : n ∈ m.lanes) : EvtOk m (OUTL.OUTL_EVT.PEAK_SKIP n.val) :=
    ev_OUTL_OUTL_EVT_0 n h _ _

@[simp] theorem fa_OUTL_OUTL_EVT_PEAK_TMO_0 (n : LaneIx) (h : n ∈ m.lanes) : m.reg (OUTL.OUTL_EVT.PEAK_TMO n.val).addr :=
    rg_OUTL_OUTL_EVT_0 n h

@[simp] theorem fe_OUTL_OUTL_EVT_PEAK_TMO_0 (n : LaneIx) (h : n ∈ m.lanes) : EvtOk m (OUTL.OUTL_EVT.PEAK_TMO n.val) :=
    ev_OUTL_OUTL_EVT_0 n h _ _

@[simp] theorem fa_OUTL_OUTL_EVT_PULSE_CLIP_0 (n : LaneIx) (h : n ∈ m.lanes) : m.reg (OUTL.OUTL_EVT.PULSE_CLIP n.val).addr
    := rg_OUTL_OUTL_EVT_0 n h

@[simp] theorem fe_OUTL_OUTL_EVT_PULSE_CLIP_0 (n : LaneIx) (h : n ∈ m.lanes) : EvtOk m (OUTL.OUTL_EVT.PULSE_CLIP n.val) :=
    ev_OUTL_OUTL_EVT_0 n h _ _

@[simp] theorem rg_OUTL_PEAK_LATE_CNT_0 (n : LaneIx) (h : n ∈ m.lanes) : m.reg (OUTL.PEAK_LATE_CNT n.val) := by
  have hn := n.isLt; unfold OUTL.PEAK_LATE_CNT
  exact reg_lane h (by omega) (by omega) (by omega) (by omega)

@[simp] theorem ev_OUTL_PEAK_LATE_CNT_0 (n : LaneIx) (h : n ∈ m.lanes) (hi lo : Nat) : EvtOk m ⟨OUTL.PEAK_LATE_CNT n.val,
    hi, lo⟩ := by
  have hn := n.isLt; unfold OUTL.PEAK_LATE_CNT
  exact evt_lane h (by omega) (by omega) (by omega) (by omega)

@[simp] theorem rg_OUTL_PEAK_SKIP_CNT_0 (n : LaneIx) (h : n ∈ m.lanes) : m.reg (OUTL.PEAK_SKIP_CNT n.val) := by
  have hn := n.isLt; unfold OUTL.PEAK_SKIP_CNT
  exact reg_lane h (by omega) (by omega) (by omega) (by omega)

@[simp] theorem ev_OUTL_PEAK_SKIP_CNT_0 (n : LaneIx) (h : n ∈ m.lanes) (hi lo : Nat) : EvtOk m ⟨OUTL.PEAK_SKIP_CNT n.val,
    hi, lo⟩ := by
  have hn := n.isLt; unfold OUTL.PEAK_SKIP_CNT
  exact evt_lane h (by omega) (by omega) (by omega) (by omega)

@[simp] theorem rg_OUTL_PEAK_WAIT_MAX_0 (n : LaneIx) (h : n ∈ m.lanes) : m.reg (OUTL.PEAK_WAIT_MAX n.val) := by
  have hn := n.isLt; unfold OUTL.PEAK_WAIT_MAX
  exact reg_lane h (by omega) (by omega) (by omega) (by omega)

@[simp] theorem ev_OUTL_PEAK_WAIT_MAX_0 (n : LaneIx) (h : n ∈ m.lanes) (hi lo : Nat) : EvtOk m ⟨OUTL.PEAK_WAIT_MAX n.val,
    hi, lo⟩ := by
  have hn := n.isLt; unfold OUTL.PEAK_WAIT_MAX
  exact evt_lane h (by omega) (by omega) (by omega) (by omega)

@[simp] theorem rg_OUTL_PULSE_CNT_0 (n : LaneIx) (h : n ∈ m.lanes) : m.reg (OUTL.PULSE_CNT n.val) := by
  have hn := n.isLt; unfold OUTL.PULSE_CNT
  exact reg_lane h (by omega) (by omega) (by omega) (by omega)

@[simp] theorem ev_OUTL_PULSE_CNT_0 (n : LaneIx) (h : n ∈ m.lanes) (hi lo : Nat) : EvtOk m ⟨OUTL.PULSE_CNT n.val, hi, lo⟩ :=
    by
  have hn := n.isLt; unfold OUTL.PULSE_CNT
  exact evt_lane h (by omega) (by omega) (by omega) (by omega)

@[simp] theorem rg_POSE_POSE_ACC_0  (h : 20 ∈ m.pages) : m.reg (POSE.POSE_ACC) := reg_lit (of_decide_eq_true rfl) h (of_decide_eq_true rfl)

@[simp] theorem ev_POSE_POSE_ACC_0  (h : 20 ∈ m.pages) (hi lo : Nat) : EvtOk m ⟨POSE.POSE_ACC, hi, lo⟩ := evt_lit (by
    decide) h (of_decide_eq_true rfl)

@[simp] theorem rg_POSE_POSE_CORR_LEFT_0  (h : 20 ∈ m.pages) : m.reg (POSE.POSE_CORR_LEFT) := reg_lit (of_decide_eq_true rfl) h (by
    decide)

@[simp] theorem ev_POSE_POSE_CORR_LEFT_0  (h : 20 ∈ m.pages) (hi lo : Nat) : EvtOk m ⟨POSE.POSE_CORR_LEFT, hi, lo⟩ :=
    evt_lit (of_decide_eq_true rfl) h (of_decide_eq_true rfl)

@[simp] theorem rg_POSE_POSE_EVT_0  (h : 20 ∈ m.pages) : m.reg (POSE.POSE_EVT) := reg_lit (of_decide_eq_true rfl) h (of_decide_eq_true rfl)

@[simp] theorem ev_POSE_POSE_EVT_0  (h : 20 ∈ m.pages) (hi lo : Nat) : EvtOk m ⟨POSE.POSE_EVT, hi, lo⟩ := evt_lit (by
    decide) h (of_decide_eq_true rfl)

@[simp] theorem fa_POSE_POSE_EVT_HITCH_DISAGREE_0  (h : 20 ∈ m.pages) : m.reg (POSE.POSE_EVT.HITCH_DISAGREE).addr :=
    rg_POSE_POSE_EVT_0 h

@[simp] theorem fe_POSE_POSE_EVT_HITCH_DISAGREE_0  (h : 20 ∈ m.pages) : EvtOk m (POSE.POSE_EVT.HITCH_DISAGREE) :=
    ev_POSE_POSE_EVT_0 h _ _

@[simp] theorem fa_POSE_POSE_EVT_HITCH_INVALID_0  (h : 20 ∈ m.pages) : m.reg (POSE.POSE_EVT.HITCH_INVALID).addr :=
    rg_POSE_POSE_EVT_0 h

@[simp] theorem fe_POSE_POSE_EVT_HITCH_INVALID_0  (h : 20 ∈ m.pages) : EvtOk m (POSE.POSE_EVT.HITCH_INVALID) :=
    ev_POSE_POSE_EVT_0 h _ _

@[simp] theorem fa_POSE_POSE_EVT_IMU_LOST_0  (h : 20 ∈ m.pages) : m.reg (POSE.POSE_EVT.IMU_LOST).addr := rg_POSE_POSE_EVT_0
    h

@[simp] theorem fe_POSE_POSE_EVT_IMU_LOST_0  (h : 20 ∈ m.pages) : EvtOk m (POSE.POSE_EVT.IMU_LOST) := ev_POSE_POSE_EVT_0 h _
    _

@[simp] theorem fa_POSE_POSE_EVT_POS_STEP_0  (h : 20 ∈ m.pages) : m.reg (POSE.POSE_EVT.POS_STEP).addr := rg_POSE_POSE_EVT_0
    h

@[simp] theorem fe_POSE_POSE_EVT_POS_STEP_0  (h : 20 ∈ m.pages) : EvtOk m (POSE.POSE_EVT.POS_STEP) := ev_POSE_POSE_EVT_0 h _
    _

@[simp] theorem fa_POSE_POSE_EVT_RING_MISS_0  (h : 20 ∈ m.pages) : m.reg (POSE.POSE_EVT.RING_MISS).addr :=
    rg_POSE_POSE_EVT_0 h

@[simp] theorem fe_POSE_POSE_EVT_RING_MISS_0  (h : 20 ∈ m.pages) : EvtOk m (POSE.POSE_EVT.RING_MISS) := ev_POSE_POSE_EVT_0 h
    _ _

@[simp] theorem fa_POSE_POSE_EVT_SPD_DISAGREE_0  (h : 20 ∈ m.pages) : m.reg (POSE.POSE_EVT.SPD_DISAGREE).addr :=
    rg_POSE_POSE_EVT_0 h

@[simp] theorem fe_POSE_POSE_EVT_SPD_DISAGREE_0  (h : 20 ∈ m.pages) : EvtOk m (POSE.POSE_EVT.SPD_DISAGREE) :=
    ev_POSE_POSE_EVT_0 h _ _

@[simp] theorem fa_POSE_POSE_EVT_SRC_CHANGE_0  (h : 20 ∈ m.pages) : m.reg (POSE.POSE_EVT.SRC_CHANGE).addr :=
    rg_POSE_POSE_EVT_0 h

@[simp] theorem fe_POSE_POSE_EVT_SRC_CHANGE_0  (h : 20 ∈ m.pages) : EvtOk m (POSE.POSE_EVT.SRC_CHANGE) := ev_POSE_POSE_EVT_0
    h _ _

@[simp] theorem rg_POSE_POSE_LATE_CNT_0  (h : 20 ∈ m.pages) : m.reg (POSE.POSE_LATE_CNT) := reg_lit (of_decide_eq_true rfl) h (by
    decide)

@[simp] theorem ev_POSE_POSE_LATE_CNT_0  (h : 20 ∈ m.pages) (hi lo : Nat) : EvtOk m ⟨POSE.POSE_LATE_CNT, hi, lo⟩ := evt_lit
    (of_decide_eq_true rfl) h (of_decide_eq_true rfl)

@[simp] theorem rg_POSE_POSE_RING_MISS_CNT_0  (h : 20 ∈ m.pages) : m.reg (POSE.POSE_RING_MISS_CNT) := reg_lit (of_decide_eq_true rfl) h
    (of_decide_eq_true rfl)

@[simp] theorem ev_POSE_POSE_RING_MISS_CNT_0  (h : 20 ∈ m.pages) (hi lo : Nat) : EvtOk m ⟨POSE.POSE_RING_MISS_CNT, hi, lo⟩
    := evt_lit (of_decide_eq_true rfl) h (of_decide_eq_true rfl)

@[simp] theorem rg_POSE_POSE_RING_STALE_CNT_0  (h : 20 ∈ m.pages) : m.reg (POSE.POSE_RING_STALE_CNT) := reg_lit (of_decide_eq_true rfl)
    h (of_decide_eq_true rfl)

@[simp] theorem ev_POSE_POSE_RING_STALE_CNT_0  (h : 20 ∈ m.pages) (hi lo : Nat) : EvtOk m ⟨POSE.POSE_RING_STALE_CNT, hi, lo⟩
    := evt_lit (of_decide_eq_true rfl) h (of_decide_eq_true rfl)

@[simp] theorem rg_POSE_POSE_STAT_0  (h : 20 ∈ m.pages) : m.reg (POSE.POSE_STAT) := reg_lit (of_decide_eq_true rfl) h (of_decide_eq_true rfl)

@[simp] theorem ev_POSE_POSE_STAT_0  (h : 20 ∈ m.pages) (hi lo : Nat) : EvtOk m ⟨POSE.POSE_STAT, hi, lo⟩ := evt_lit (by
    decide) h (of_decide_eq_true rfl)

@[simp] theorem rg_PWMG_CMP_FULL_CNT_0 (n : LaneIx) (h : n ∈ m.lanes) : m.reg (PWMG.CMP_FULL_CNT n.val) := by
  have hn := n.isLt; unfold PWMG.CMP_FULL_CNT
  exact reg_lane h (by omega) (by omega) (by omega) (by omega)

@[simp] theorem ev_PWMG_CMP_FULL_CNT_0 (n : LaneIx) (h : n ∈ m.lanes) (hi lo : Nat) : EvtOk m ⟨PWMG.CMP_FULL_CNT n.val, hi,
    lo⟩ := by
  have hn := n.isLt; unfold PWMG.CMP_FULL_CNT
  exact evt_lane h (by omega) (by omega) (by omega) (by omega)

@[simp] theorem rg_PWMG_EVT_0 (n : LaneIx) (h : n ∈ m.lanes) : m.reg (PWMG.EVT n.val) := by
  have hn := n.isLt; unfold PWMG.EVT
  exact reg_lane h (by omega) (by omega) (by omega) (by omega)

@[simp] theorem ev_PWMG_EVT_0 (n : LaneIx) (h : n ∈ m.lanes) (hi lo : Nat) : EvtOk m ⟨PWMG.EVT n.val, hi, lo⟩ := by
  have hn := n.isLt; unfold PWMG.EVT
  exact evt_lane h (by omega) (by omega) (by omega) (by omega)

@[simp] theorem fa_PWMG_EVT_CMP_FULL_0 (n : LaneIx) (h : n ∈ m.lanes) : m.reg (PWMG.EVT.CMP_FULL n.val).addr :=
    rg_PWMG_EVT_0 n h

@[simp] theorem fe_PWMG_EVT_CMP_FULL_0 (n : LaneIx) (h : n ∈ m.lanes) : EvtOk m (PWMG.EVT.CMP_FULL n.val) := ev_PWMG_EVT_0 n
    h _ _

@[simp] theorem fa_PWMG_EVT_ORDER_0 (n : LaneIx) (h : n ∈ m.lanes) : m.reg (PWMG.EVT.ORDER n.val).addr := rg_PWMG_EVT_0 n h

@[simp] theorem fe_PWMG_EVT_ORDER_0 (n : LaneIx) (h : n ∈ m.lanes) : EvtOk m (PWMG.EVT.ORDER n.val) := ev_PWMG_EVT_0 n h _ _

@[simp] theorem fa_PWMG_EVT_PER_MIN_0 (n : LaneIx) (h : n ∈ m.lanes) : m.reg (PWMG.EVT.PER_MIN n.val).addr := rg_PWMG_EVT_0
    n h

@[simp] theorem fe_PWMG_EVT_PER_MIN_0 (n : LaneIx) (h : n ∈ m.lanes) : EvtOk m (PWMG.EVT.PER_MIN n.val) := ev_PWMG_EVT_0 n h
    _ _

@[simp] theorem fa_PWMG_EVT_SYNC_GLITCH_0 (n : LaneIx) (h : n ∈ m.lanes) : m.reg (PWMG.EVT.SYNC_GLITCH n.val).addr :=
    rg_PWMG_EVT_0 n h

@[simp] theorem fe_PWMG_EVT_SYNC_GLITCH_0 (n : LaneIx) (h : n ∈ m.lanes) : EvtOk m (PWMG.EVT.SYNC_GLITCH n.val) :=
    ev_PWMG_EVT_0 n h _ _

@[simp] theorem fa_PWMG_EVT_SYNC_SLIP_0 (n : LaneIx) (h : n ∈ m.lanes) : m.reg (PWMG.EVT.SYNC_SLIP n.val).addr :=
    rg_PWMG_EVT_0 n h

@[simp] theorem fe_PWMG_EVT_SYNC_SLIP_0 (n : LaneIx) (h : n ∈ m.lanes) : EvtOk m (PWMG.EVT.SYNC_SLIP n.val) := ev_PWMG_EVT_0
    n h _ _

@[simp] theorem rg_PWMG_GLITCH_CNT_0 (n : LaneIx) (h : n ∈ m.lanes) : m.reg (PWMG.GLITCH_CNT n.val) := by
  have hn := n.isLt; unfold PWMG.GLITCH_CNT
  exact reg_lane h (by omega) (by omega) (by omega) (by omega)

@[simp] theorem ev_PWMG_GLITCH_CNT_0 (n : LaneIx) (h : n ∈ m.lanes) (hi lo : Nat) : EvtOk m ⟨PWMG.GLITCH_CNT n.val, hi, lo⟩
    := by
  have hn := n.isLt; unfold PWMG.GLITCH_CNT
  exact evt_lane h (by omega) (by omega) (by omega) (by omega)

@[simp] theorem rg_PWMG_G_CMP_0 (n : LaneIx) (g : Fin 8) (h : n ∈ m.lanes) : m.reg (PWMG.G_CMP n.val g.val) := by
  have hn := n.isLt; have hg := g.isLt; unfold PWMG.G_CMP
  exact reg_lane h (by omega) (by omega) (by omega) (by omega)

@[simp] theorem ev_PWMG_G_CMP_0 (n : LaneIx) (g : Fin 8) (h : n ∈ m.lanes) (hi lo : Nat) : EvtOk m ⟨PWMG.G_CMP n.val g.val,
    hi, lo⟩ := by
  have hn := n.isLt; have hg := g.isLt; unfold PWMG.G_CMP
  exact evt_lane h (by omega) (by omega) (by omega) (by omega)

@[simp] theorem rg_PWMG_G_CMP_1 (n : LaneIx) (g : Fin 3) (h : n ∈ m.lanes) : m.reg (PWMG.G_CMP n.val g.val) := by
  have hn := n.isLt; have hg := g.isLt; unfold PWMG.G_CMP
  exact reg_lane h (by omega) (by omega) (by omega) (by omega)

@[simp] theorem ev_PWMG_G_CMP_1 (n : LaneIx) (g : Fin 3) (h : n ∈ m.lanes) (hi lo : Nat) : EvtOk m ⟨PWMG.G_CMP n.val g.val,
    hi, lo⟩ := by
  have hn := n.isLt; have hg := g.isLt; unfold PWMG.G_CMP
  exact evt_lane h (by omega) (by omega) (by omega) (by omega)

@[simp] theorem rg_PWMG_G_CMP_2 (n : LaneIx) (g : Fin 4) (h : n ∈ m.lanes) : m.reg (PWMG.G_CMP n.val g.val) := by
  have hn := n.isLt; have hg := g.isLt; unfold PWMG.G_CMP
  exact reg_lane h (by omega) (by omega) (by omega) (by omega)

@[simp] theorem ev_PWMG_G_CMP_2 (n : LaneIx) (g : Fin 4) (h : n ∈ m.lanes) (hi lo : Nat) : EvtOk m ⟨PWMG.G_CMP n.val g.val,
    hi, lo⟩ := by
  have hn := n.isLt; have hg := g.isLt; unfold PWMG.G_CMP
  exact evt_lane h (by omega) (by omega) (by omega) (by omega)

@[simp] theorem rg_PWMG_G_MODE_0 (n : LaneIx) (g : Fin 8) (h : n ∈ m.lanes) : m.reg (PWMG.G_MODE n.val g.val) := by
  have hn := n.isLt; have hg := g.isLt; unfold PWMG.G_MODE
  exact reg_lane h (by omega) (by omega) (by omega) (by omega)

@[simp] theorem ev_PWMG_G_MODE_0 (n : LaneIx) (g : Fin 8) (h : n ∈ m.lanes) (hi lo : Nat) : EvtOk m ⟨PWMG.G_MODE n.val
    g.val, hi, lo⟩ := by
  have hn := n.isLt; have hg := g.isLt; unfold PWMG.G_MODE
  exact evt_lane h (by omega) (by omega) (by omega) (by omega)

@[simp] theorem rg_PWMG_G_MODE_1 (n : LaneIx) (g : Fin 3) (h : n ∈ m.lanes) : m.reg (PWMG.G_MODE n.val g.val) := by
  have hn := n.isLt; have hg := g.isLt; unfold PWMG.G_MODE
  exact reg_lane h (by omega) (by omega) (by omega) (by omega)

@[simp] theorem ev_PWMG_G_MODE_1 (n : LaneIx) (g : Fin 3) (h : n ∈ m.lanes) (hi lo : Nat) : EvtOk m ⟨PWMG.G_MODE n.val
    g.val, hi, lo⟩ := by
  have hn := n.isLt; have hg := g.isLt; unfold PWMG.G_MODE
  exact evt_lane h (by omega) (by omega) (by omega) (by omega)

@[simp] theorem rg_PWMG_G_MODE_2 (n : LaneIx) (g : Fin 4) (h : n ∈ m.lanes) : m.reg (PWMG.G_MODE n.val g.val) := by
  have hn := n.isLt; have hg := g.isLt; unfold PWMG.G_MODE
  exact reg_lane h (by omega) (by omega) (by omega) (by omega)

@[simp] theorem ev_PWMG_G_MODE_2 (n : LaneIx) (g : Fin 4) (h : n ∈ m.lanes) (hi lo : Nat) : EvtOk m ⟨PWMG.G_MODE n.val
    g.val, hi, lo⟩ := by
  have hn := n.isLt; have hg := g.isLt; unfold PWMG.G_MODE
  exact evt_lane h (by omega) (by omega) (by omega) (by omega)

@[simp] theorem rg_PWMG_G_PER_0 (n : LaneIx) (g : Fin 8) (h : n ∈ m.lanes) : m.reg (PWMG.G_PER n.val g.val) := by
  have hn := n.isLt; have hg := g.isLt; unfold PWMG.G_PER
  exact reg_lane h (by omega) (by omega) (by omega) (by omega)

@[simp] theorem ev_PWMG_G_PER_0 (n : LaneIx) (g : Fin 8) (h : n ∈ m.lanes) (hi lo : Nat) : EvtOk m ⟨PWMG.G_PER n.val g.val,
    hi, lo⟩ := by
  have hn := n.isLt; have hg := g.isLt; unfold PWMG.G_PER
  exact evt_lane h (by omega) (by omega) (by omega) (by omega)

@[simp] theorem rg_PWMG_G_PER_1 (n : LaneIx) (g : Fin 3) (h : n ∈ m.lanes) : m.reg (PWMG.G_PER n.val g.val) := by
  have hn := n.isLt; have hg := g.isLt; unfold PWMG.G_PER
  exact reg_lane h (by omega) (by omega) (by omega) (by omega)

@[simp] theorem ev_PWMG_G_PER_1 (n : LaneIx) (g : Fin 3) (h : n ∈ m.lanes) (hi lo : Nat) : EvtOk m ⟨PWMG.G_PER n.val g.val,
    hi, lo⟩ := by
  have hn := n.isLt; have hg := g.isLt; unfold PWMG.G_PER
  exact evt_lane h (by omega) (by omega) (by omega) (by omega)

@[simp] theorem rg_PWMG_G_PER_2 (n : LaneIx) (g : Fin 4) (h : n ∈ m.lanes) : m.reg (PWMG.G_PER n.val g.val) := by
  have hn := n.isLt; have hg := g.isLt; unfold PWMG.G_PER
  exact reg_lane h (by omega) (by omega) (by omega) (by omega)

@[simp] theorem ev_PWMG_G_PER_2 (n : LaneIx) (g : Fin 4) (h : n ∈ m.lanes) (hi lo : Nat) : EvtOk m ⟨PWMG.G_PER n.val g.val,
    hi, lo⟩ := by
  have hn := n.isLt; have hg := g.isLt; unfold PWMG.G_PER
  exact evt_lane h (by omega) (by omega) (by omega) (by omega)

@[simp] theorem rg_PWMG_ORDER_CNT_0 (n : LaneIx) (h : n ∈ m.lanes) : m.reg (PWMG.ORDER_CNT n.val) := by
  have hn := n.isLt; unfold PWMG.ORDER_CNT
  exact reg_lane h (by omega) (by omega) (by omega) (by omega)

@[simp] theorem ev_PWMG_ORDER_CNT_0 (n : LaneIx) (h : n ∈ m.lanes) (hi lo : Nat) : EvtOk m ⟨PWMG.ORDER_CNT n.val, hi, lo⟩ :=
    by
  have hn := n.isLt; unfold PWMG.ORDER_CNT
  exact evt_lane h (by omega) (by omega) (by omega) (by omega)

@[simp] theorem rg_PWMG_SLIP_CNT_0 (n : LaneIx) (h : n ∈ m.lanes) : m.reg (PWMG.SLIP_CNT n.val) := by
  have hn := n.isLt; unfold PWMG.SLIP_CNT
  exact reg_lane h (by omega) (by omega) (by omega) (by omega)

@[simp] theorem ev_PWMG_SLIP_CNT_0 (n : LaneIx) (h : n ∈ m.lanes) (hi lo : Nat) : EvtOk m ⟨PWMG.SLIP_CNT n.val, hi, lo⟩ :=
    by
  have hn := n.isLt; unfold PWMG.SLIP_CNT
  exact evt_lane h (by omega) (by omega) (by omega) (by omega)

@[simp] theorem rg_PWMG_STAT_0 (n : LaneIx) (h : n ∈ m.lanes) : m.reg (PWMG.STAT n.val) := by
  have hn := n.isLt; unfold PWMG.STAT
  exact reg_lane h (by omega) (by omega) (by omega) (by omega)

@[simp] theorem ev_PWMG_STAT_0 (n : LaneIx) (h : n ∈ m.lanes) (hi lo : Nat) : EvtOk m ⟨PWMG.STAT n.val, hi, lo⟩ := by
  have hn := n.isLt; unfold PWMG.STAT
  exact evt_lane h (by omega) (by omega) (by omega) (by omega)

@[simp] theorem rg_PWR_OOR_CNT_0  (h : 2 ∈ m.pages) : m.reg (PWR.OOR_CNT) := reg_lit (of_decide_eq_true rfl) h (of_decide_eq_true rfl)

@[simp] theorem ev_PWR_OOR_CNT_0  (h : 2 ∈ m.pages) (hi lo : Nat) : EvtOk m ⟨PWR.OOR_CNT, hi, lo⟩ := evt_lit (of_decide_eq_true rfl) h
    (of_decide_eq_true rfl)

@[simp] theorem rg_PWR_PWR_EVT_0  (h : 2 ∈ m.pages) : m.reg (PWR.PWR_EVT) := reg_lit (of_decide_eq_true rfl) h (of_decide_eq_true rfl)

@[simp] theorem ev_PWR_PWR_EVT_0  (h : 2 ∈ m.pages) (hi lo : Nat) : EvtOk m ⟨PWR.PWR_EVT, hi, lo⟩ := evt_lit (of_decide_eq_true rfl) h
    (of_decide_eq_true rfl)

@[simp] theorem fa_PWR_PWR_EVT_PFAIL_0  (h : 2 ∈ m.pages) : m.reg (PWR.PWR_EVT.PFAIL).addr := rg_PWR_PWR_EVT_0 h

@[simp] theorem fe_PWR_PWR_EVT_PFAIL_0  (h : 2 ∈ m.pages) : EvtOk m (PWR.PWR_EVT.PFAIL) := ev_PWR_PWR_EVT_0 h _ _

@[simp] theorem fa_PWR_PWR_EVT_TEMP_HI_0  (h : 2 ∈ m.pages) : m.reg (PWR.PWR_EVT.TEMP_HI).addr := rg_PWR_PWR_EVT_0 h

@[simp] theorem fe_PWR_PWR_EVT_TEMP_HI_0  (h : 2 ∈ m.pages) : EvtOk m (PWR.PWR_EVT.TEMP_HI) := ev_PWR_PWR_EVT_0 h _ _

@[simp] theorem rg_PWR_PWR_STAT_0  (h : 2 ∈ m.pages) : m.reg (PWR.PWR_STAT) := reg_lit (of_decide_eq_true rfl) h (of_decide_eq_true rfl)

@[simp] theorem ev_PWR_PWR_STAT_0  (h : 2 ∈ m.pages) (hi lo : Nat) : EvtOk m ⟨PWR.PWR_STAT, hi, lo⟩ := evt_lit (of_decide_eq_true rfl) h
    (of_decide_eq_true rfl)

@[simp] theorem rg_PWR_TEMP_0  (h : 2 ∈ m.pages) : m.reg (PWR.TEMP) := reg_lit (of_decide_eq_true rfl) h (of_decide_eq_true rfl)

@[simp] theorem ev_PWR_TEMP_0  (h : 2 ∈ m.pages) (hi lo : Nat) : EvtOk m ⟨PWR.TEMP, hi, lo⟩ := evt_lit (of_decide_eq_true rfl) h (by
    decide)

@[simp] theorem rg_PWR_TEMP_MAX_0  (h : 2 ∈ m.pages) : m.reg (PWR.TEMP_MAX) := reg_lit (of_decide_eq_true rfl) h (of_decide_eq_true rfl)

@[simp] theorem ev_PWR_TEMP_MAX_0  (h : 2 ∈ m.pages) (hi lo : Nat) : EvtOk m ⟨PWR.TEMP_MAX, hi, lo⟩ := evt_lit (of_decide_eq_true rfl) h
    (of_decide_eq_true rfl)

@[simp] theorem rg_RATE_OVER_CNT_0  (h : 27 ∈ m.pages) : m.reg (RATE.OVER_CNT) := reg_lit (of_decide_eq_true rfl) h (of_decide_eq_true rfl)

@[simp] theorem ev_RATE_OVER_CNT_0  (h : 27 ∈ m.pages) (hi lo : Nat) : EvtOk m ⟨RATE.OVER_CNT, hi, lo⟩ := evt_lit (by
    decide) h (of_decide_eq_true rfl)

@[simp] theorem rg_RATE_RATE_EVT_0  (h : 27 ∈ m.pages) : m.reg (RATE.RATE_EVT) := reg_lit (of_decide_eq_true rfl) h (of_decide_eq_true rfl)

@[simp] theorem ev_RATE_RATE_EVT_0  (h : 27 ∈ m.pages) (hi lo : Nat) : EvtOk m ⟨RATE.RATE_EVT, hi, lo⟩ := evt_lit (by
    decide) h (of_decide_eq_true rfl)

@[simp] theorem fa_RATE_RATE_EVT_OVER_RATE_0  (h : 27 ∈ m.pages) : m.reg (RATE.RATE_EVT.OVER_RATE).addr :=
    rg_RATE_RATE_EVT_0 h

@[simp] theorem fe_RATE_RATE_EVT_OVER_RATE_0  (h : 27 ∈ m.pages) : EvtOk m (RATE.RATE_EVT.OVER_RATE) := ev_RATE_RATE_EVT_0 h
    _ _

@[simp] theorem fa_RATE_RATE_EVT_UNDER_RATE_0  (h : 27 ∈ m.pages) : m.reg (RATE.RATE_EVT.UNDER_RATE).addr :=
    rg_RATE_RATE_EVT_0 h

@[simp] theorem fe_RATE_RATE_EVT_UNDER_RATE_0  (h : 27 ∈ m.pages) : EvtOk m (RATE.RATE_EVT.UNDER_RATE) := ev_RATE_RATE_EVT_0
    h _ _

@[simp] theorem rg_RATE_RATE_STAT_0  (h : 27 ∈ m.pages) : m.reg (RATE.RATE_STAT) := reg_lit (of_decide_eq_true rfl) h (of_decide_eq_true rfl)

@[simp] theorem ev_RATE_RATE_STAT_0  (h : 27 ∈ m.pages) (hi lo : Nat) : EvtOk m ⟨RATE.RATE_STAT, hi, lo⟩ := evt_lit (by
    decide) h (of_decide_eq_true rfl)

@[simp] theorem fa_RATE_RATE_STAT_ACTIVE_BANK_0  (h : 27 ∈ m.pages) : m.reg (RATE.RATE_STAT.ACTIVE_BANK).addr :=
    rg_RATE_RATE_STAT_0 h

@[simp] theorem fe_RATE_RATE_STAT_ACTIVE_BANK_0  (h : 27 ∈ m.pages) : EvtOk m (RATE.RATE_STAT.ACTIVE_BANK) :=
    ev_RATE_RATE_STAT_0 h _ _

@[simp] theorem fa_RATE_RATE_STAT_SWAP_PEND_0  (h : 27 ∈ m.pages) : m.reg (RATE.RATE_STAT.SWAP_PEND).addr :=
    rg_RATE_RATE_STAT_0 h

@[simp] theorem fe_RATE_RATE_STAT_SWAP_PEND_0  (h : 27 ∈ m.pages) : EvtOk m (RATE.RATE_STAT.SWAP_PEND) :=
    ev_RATE_RATE_STAT_0 h _ _

@[simp] theorem rg_RATE_UNDER_CNT_0  (h : 27 ∈ m.pages) : m.reg (RATE.UNDER_CNT) := reg_lit (of_decide_eq_true rfl) h (of_decide_eq_true rfl)

@[simp] theorem ev_RATE_UNDER_CNT_0  (h : 27 ∈ m.pages) (hi lo : Nat) : EvtOk m ⟨RATE.UNDER_CNT, hi, lo⟩ := evt_lit (by
    decide) h (of_decide_eq_true rfl)

@[simp] theorem rg_RTIME_ADJ_CNT_0  (h : 10 ∈ m.pages) : m.reg (RTIME.ADJ_CNT) := reg_lit (of_decide_eq_true rfl) h (of_decide_eq_true rfl)

@[simp] theorem ev_RTIME_ADJ_CNT_0  (h : 10 ∈ m.pages) (hi lo : Nat) : EvtOk m ⟨RTIME.ADJ_CNT, hi, lo⟩ := evt_lit (by
    decide) h (of_decide_eq_true rfl)

@[simp] theorem rg_RTIME_RT_EVT_0  (h : 10 ∈ m.pages) : m.reg (RTIME.RT_EVT) := reg_lit (of_decide_eq_true rfl) h (of_decide_eq_true rfl)

@[simp] theorem ev_RTIME_RT_EVT_0  (h : 10 ∈ m.pages) (hi lo : Nat) : EvtOk m ⟨RTIME.RT_EVT, hi, lo⟩ := evt_lit (of_decide_eq_true rfl)
    h (of_decide_eq_true rfl)

@[simp] theorem fa_RTIME_RT_EVT_FAR_0  (h : 10 ∈ m.pages) : m.reg (RTIME.RT_EVT.FAR).addr := rg_RTIME_RT_EVT_0 h

@[simp] theorem fe_RTIME_RT_EVT_FAR_0  (h : 10 ∈ m.pages) : EvtOk m (RTIME.RT_EVT.FAR) := ev_RTIME_RT_EVT_0 h _ _

@[simp] theorem fa_RTIME_RT_EVT_HOLD_0  (h : 10 ∈ m.pages) : m.reg (RTIME.RT_EVT.HOLD).addr := rg_RTIME_RT_EVT_0 h

@[simp] theorem fe_RTIME_RT_EVT_HOLD_0  (h : 10 ∈ m.pages) : EvtOk m (RTIME.RT_EVT.HOLD) := ev_RTIME_RT_EVT_0 h _ _

@[simp] theorem fa_RTIME_RT_EVT_LOCK_LOST_0  (h : 10 ∈ m.pages) : m.reg (RTIME.RT_EVT.LOCK_LOST).addr := rg_RTIME_RT_EVT_0 h

@[simp] theorem fe_RTIME_RT_EVT_LOCK_LOST_0  (h : 10 ∈ m.pages) : EvtOk m (RTIME.RT_EVT.LOCK_LOST) := ev_RTIME_RT_EVT_0 h _
    _

@[simp] theorem fa_RTIME_RT_EVT_STEP_0  (h : 10 ∈ m.pages) : m.reg (RTIME.RT_EVT.STEP).addr := rg_RTIME_RT_EVT_0 h

@[simp] theorem fe_RTIME_RT_EVT_STEP_0  (h : 10 ∈ m.pages) : EvtOk m (RTIME.RT_EVT.STEP) := ev_RTIME_RT_EVT_0 h _ _

@[simp] theorem rg_RTUN_REMOTE_CNT_0  (h : 11 ∈ m.pages) : m.reg (RTUN.REMOTE_CNT) := reg_lit (of_decide_eq_true rfl) h (of_decide_eq_true rfl)

@[simp] theorem ev_RTUN_REMOTE_CNT_0  (h : 11 ∈ m.pages) (hi lo : Nat) : EvtOk m ⟨RTUN.REMOTE_CNT, hi, lo⟩ := evt_lit (by
    decide) h (of_decide_eq_true rfl)

@[simp] theorem rg_RTUN_TUN_EVT_0  (h : 11 ∈ m.pages) : m.reg (RTUN.TUN_EVT) := reg_lit (of_decide_eq_true rfl) h (of_decide_eq_true rfl)

@[simp] theorem ev_RTUN_TUN_EVT_0  (h : 11 ∈ m.pages) (hi lo : Nat) : EvtOk m ⟨RTUN.TUN_EVT, hi, lo⟩ := evt_lit (of_decide_eq_true rfl)
    h (of_decide_eq_true rfl)

@[simp] theorem fa_RTUN_TUN_EVT_DONE_0  (h : 11 ∈ m.pages) : m.reg (RTUN.TUN_EVT.DONE).addr := rg_RTUN_TUN_EVT_0 h

@[simp] theorem fe_RTUN_TUN_EVT_DONE_0  (h : 11 ∈ m.pages) : EvtOk m (RTUN.TUN_EVT.DONE) := ev_RTUN_TUN_EVT_0 h _ _

@[simp] theorem rg_RTX_CODE_ERR_CNT_0 (p : Ring) (h : 8 ∈ m.pages) (h2 : 9 ∈ m.pages) : m.reg (RTX.CODE_ERR_CNT p.ix) := by
  cases p
  · exact reg_lit (of_decide_eq_true rfl) h (of_decide_eq_true rfl)
  · first | exact reg_lit (of_decide_eq_true rfl) h2 (of_decide_eq_true rfl) | exact reg_lit (of_decide_eq_true rfl) h (of_decide_eq_true rfl)

@[simp] theorem ev_RTX_CODE_ERR_CNT_0 (p : Ring) (h : 8 ∈ m.pages) (h2 : 9 ∈ m.pages) (hi lo : Nat) : EvtOk m
    ⟨RTX.CODE_ERR_CNT p.ix, hi, lo⟩ := by
  cases p
  · exact evt_lit (of_decide_eq_true rfl) h (of_decide_eq_true rfl)
  · first | exact evt_lit (of_decide_eq_true rfl) h2 (of_decide_eq_true rfl) | exact evt_alias (of_decide_eq_true rfl) h h2

@[simp] theorem rg_RTX_CODE_ERR_CNT_1  (h : 8 ∈ m.pages) : m.reg (RTX.CODE_ERR_CNT 0) := reg_lit (of_decide_eq_true rfl) h (of_decide_eq_true rfl)

@[simp] theorem ev_RTX_CODE_ERR_CNT_1  (h : 8 ∈ m.pages) (hi lo : Nat) : EvtOk m ⟨RTX.CODE_ERR_CNT 0, hi, lo⟩ := evt_lit (by
    decide) h (of_decide_eq_true rfl)

@[simp] theorem rg_RTX_CRC_ERR_CNT_0 (p : Ring) (h : 8 ∈ m.pages) (h2 : 9 ∈ m.pages) : m.reg (RTX.CRC_ERR_CNT p.ix) := by
  cases p
  · exact reg_lit (of_decide_eq_true rfl) h (of_decide_eq_true rfl)
  · first | exact reg_lit (of_decide_eq_true rfl) h2 (of_decide_eq_true rfl) | exact reg_lit (of_decide_eq_true rfl) h (of_decide_eq_true rfl)

@[simp] theorem ev_RTX_CRC_ERR_CNT_0 (p : Ring) (h : 8 ∈ m.pages) (h2 : 9 ∈ m.pages) (hi lo : Nat) : EvtOk m
    ⟨RTX.CRC_ERR_CNT p.ix, hi, lo⟩ := by
  cases p
  · exact evt_lit (of_decide_eq_true rfl) h (of_decide_eq_true rfl)
  · first | exact evt_lit (of_decide_eq_true rfl) h2 (of_decide_eq_true rfl) | exact evt_alias (of_decide_eq_true rfl) h h2

@[simp] theorem fa_RTX_CRC_ERR_CNT_CRC32_0 (p : Ring) (h : 8 ∈ m.pages) (h2 : 9 ∈ m.pages) : m.reg (RTX.CRC_ERR_CNT.CRC32
    p.ix).addr := rg_RTX_CRC_ERR_CNT_0 p h h2

@[simp] theorem fe_RTX_CRC_ERR_CNT_CRC32_0 (p : Ring) (h : 8 ∈ m.pages) (h2 : 9 ∈ m.pages) : EvtOk m (RTX.CRC_ERR_CNT.CRC32
    p.ix) := ev_RTX_CRC_ERR_CNT_0 p h h2 _ _

@[simp] theorem rg_RTX_CRC_ERR_CNT_1  (h : 8 ∈ m.pages) : m.reg (RTX.CRC_ERR_CNT 0) := reg_lit (of_decide_eq_true rfl) h (of_decide_eq_true rfl)

@[simp] theorem ev_RTX_CRC_ERR_CNT_1  (h : 8 ∈ m.pages) (hi lo : Nat) : EvtOk m ⟨RTX.CRC_ERR_CNT 0, hi, lo⟩ := evt_lit (by
    decide) h (of_decide_eq_true rfl)

@[simp] theorem fa_RTX_CRC_ERR_CNT_CRC32_1  (h : 8 ∈ m.pages) : m.reg (RTX.CRC_ERR_CNT.CRC32 0).addr := rg_RTX_CRC_ERR_CNT_1
    h

@[simp] theorem fe_RTX_CRC_ERR_CNT_CRC32_1  (h : 8 ∈ m.pages) : EvtOk m (RTX.CRC_ERR_CNT.CRC32 0) := ev_RTX_CRC_ERR_CNT_1 h
    _ _

@[simp] theorem fa_RTX_CRC_ERR_CNT_HDR_0 (p : Ring) (h : 8 ∈ m.pages) (h2 : 9 ∈ m.pages) : m.reg (RTX.CRC_ERR_CNT.HDR
    p.ix).addr := rg_RTX_CRC_ERR_CNT_0 p h h2

@[simp] theorem fe_RTX_CRC_ERR_CNT_HDR_0 (p : Ring) (h : 8 ∈ m.pages) (h2 : 9 ∈ m.pages) : EvtOk m (RTX.CRC_ERR_CNT.HDR
    p.ix) := ev_RTX_CRC_ERR_CNT_0 p h h2 _ _

@[simp] theorem fa_RTX_CRC_ERR_CNT_HDR_1  (h : 8 ∈ m.pages) : m.reg (RTX.CRC_ERR_CNT.HDR 0).addr := rg_RTX_CRC_ERR_CNT_1 h

@[simp] theorem fe_RTX_CRC_ERR_CNT_HDR_1  (h : 8 ∈ m.pages) : EvtOk m (RTX.CRC_ERR_CNT.HDR 0) := ev_RTX_CRC_ERR_CNT_1 h _ _

@[simp] theorem rg_RTX_HOPS_DISC_CNT_0 (p : Ring) (h : 8 ∈ m.pages) (h2 : 9 ∈ m.pages) : m.reg (RTX.HOPS_DISC_CNT p.ix) :=
    by
  cases p
  · exact reg_lit (of_decide_eq_true rfl) h (of_decide_eq_true rfl)
  · first | exact reg_lit (of_decide_eq_true rfl) h2 (of_decide_eq_true rfl) | exact reg_lit (of_decide_eq_true rfl) h (of_decide_eq_true rfl)

@[simp] theorem ev_RTX_HOPS_DISC_CNT_0 (p : Ring) (h : 8 ∈ m.pages) (h2 : 9 ∈ m.pages) (hi lo : Nat) : EvtOk m
    ⟨RTX.HOPS_DISC_CNT p.ix, hi, lo⟩ := by
  cases p
  · exact evt_lit (of_decide_eq_true rfl) h (of_decide_eq_true rfl)
  · first | exact evt_lit (of_decide_eq_true rfl) h2 (of_decide_eq_true rfl) | exact evt_alias (of_decide_eq_true rfl) h h2

@[simp] theorem fa_RTX_HOPS_DISC_CNT_HOPS_0 (p : Ring) (h : 8 ∈ m.pages) (h2 : 9 ∈ m.pages) : m.reg (RTX.HOPS_DISC_CNT.HOPS
    p.ix).addr := rg_RTX_HOPS_DISC_CNT_0 p h h2

@[simp] theorem fe_RTX_HOPS_DISC_CNT_HOPS_0 (p : Ring) (h : 8 ∈ m.pages) (h2 : 9 ∈ m.pages) : EvtOk m
    (RTX.HOPS_DISC_CNT.HOPS p.ix) := ev_RTX_HOPS_DISC_CNT_0 p h h2 _ _

@[simp] theorem rg_RTX_HOPS_DISC_CNT_1  (h : 8 ∈ m.pages) : m.reg (RTX.HOPS_DISC_CNT 0) := reg_lit (of_decide_eq_true rfl) h (of_decide_eq_true rfl)

@[simp] theorem ev_RTX_HOPS_DISC_CNT_1  (h : 8 ∈ m.pages) (hi lo : Nat) : EvtOk m ⟨RTX.HOPS_DISC_CNT 0, hi, lo⟩ := evt_lit
    (of_decide_eq_true rfl) h (of_decide_eq_true rfl)

@[simp] theorem fa_RTX_HOPS_DISC_CNT_HOPS_1  (h : 8 ∈ m.pages) : m.reg (RTX.HOPS_DISC_CNT.HOPS 0).addr :=
    rg_RTX_HOPS_DISC_CNT_1 h

@[simp] theorem fe_RTX_HOPS_DISC_CNT_HOPS_1  (h : 8 ∈ m.pages) : EvtOk m (RTX.HOPS_DISC_CNT.HOPS 0) :=
    ev_RTX_HOPS_DISC_CNT_1 h _ _

@[simp] theorem fa_RTX_HOPS_DISC_CNT_STALE_0 (p : Ring) (h : 8 ∈ m.pages) (h2 : 9 ∈ m.pages) : m.reg
    (RTX.HOPS_DISC_CNT.STALE p.ix).addr := rg_RTX_HOPS_DISC_CNT_0 p h h2

@[simp] theorem fe_RTX_HOPS_DISC_CNT_STALE_0 (p : Ring) (h : 8 ∈ m.pages) (h2 : 9 ∈ m.pages) : EvtOk m
    (RTX.HOPS_DISC_CNT.STALE p.ix) := ev_RTX_HOPS_DISC_CNT_0 p h h2 _ _

@[simp] theorem fa_RTX_HOPS_DISC_CNT_STALE_1  (h : 8 ∈ m.pages) : m.reg (RTX.HOPS_DISC_CNT.STALE 0).addr :=
    rg_RTX_HOPS_DISC_CNT_1 h

@[simp] theorem fe_RTX_HOPS_DISC_CNT_STALE_1  (h : 8 ∈ m.pages) : EvtOk m (RTX.HOPS_DISC_CNT.STALE 0) :=
    ev_RTX_HOPS_DISC_CNT_1 h _ _

@[simp] theorem rg_RTX_LINK_DOWN_CNT_0 (p : Ring) (h : 8 ∈ m.pages) (h2 : 9 ∈ m.pages) : m.reg (RTX.LINK_DOWN_CNT p.ix) :=
    by
  cases p
  · exact reg_lit (of_decide_eq_true rfl) h (of_decide_eq_true rfl)
  · first | exact reg_lit (of_decide_eq_true rfl) h2 (of_decide_eq_true rfl) | exact reg_lit (of_decide_eq_true rfl) h (of_decide_eq_true rfl)

@[simp] theorem ev_RTX_LINK_DOWN_CNT_0 (p : Ring) (h : 8 ∈ m.pages) (h2 : 9 ∈ m.pages) (hi lo : Nat) : EvtOk m
    ⟨RTX.LINK_DOWN_CNT p.ix, hi, lo⟩ := by
  cases p
  · exact evt_lit (of_decide_eq_true rfl) h (of_decide_eq_true rfl)
  · first | exact evt_lit (of_decide_eq_true rfl) h2 (of_decide_eq_true rfl) | exact evt_alias (of_decide_eq_true rfl) h h2

@[simp] theorem rg_RTX_LINK_DOWN_CNT_1  (h : 8 ∈ m.pages) : m.reg (RTX.LINK_DOWN_CNT 0) := reg_lit (of_decide_eq_true rfl) h (of_decide_eq_true rfl)

@[simp] theorem ev_RTX_LINK_DOWN_CNT_1  (h : 8 ∈ m.pages) (hi lo : Nat) : EvtOk m ⟨RTX.LINK_DOWN_CNT 0, hi, lo⟩ := evt_lit
    (of_decide_eq_true rfl) h (of_decide_eq_true rfl)

@[simp] theorem rg_RTX_MISS_CNT_0 (p : Ring) (h : 8 ∈ m.pages) (h2 : 9 ∈ m.pages) : m.reg (RTX.MISS_CNT p.ix) := by
  cases p
  · exact reg_lit (of_decide_eq_true rfl) h (of_decide_eq_true rfl)
  · first | exact reg_lit (of_decide_eq_true rfl) h2 (of_decide_eq_true rfl) | exact reg_lit (of_decide_eq_true rfl) h (of_decide_eq_true rfl)

@[simp] theorem ev_RTX_MISS_CNT_0 (p : Ring) (h : 8 ∈ m.pages) (h2 : 9 ∈ m.pages) (hi lo : Nat) : EvtOk m ⟨RTX.MISS_CNT
    p.ix, hi, lo⟩ := by
  cases p
  · exact evt_lit (of_decide_eq_true rfl) h (of_decide_eq_true rfl)
  · first | exact evt_lit (of_decide_eq_true rfl) h2 (of_decide_eq_true rfl) | exact evt_alias (of_decide_eq_true rfl) h h2

@[simp] theorem fa_RTX_MISS_CNT_OVF_0 (p : Ring) (h : 8 ∈ m.pages) (h2 : 9 ∈ m.pages) : m.reg (RTX.MISS_CNT.OVF p.ix).addr
    := rg_RTX_MISS_CNT_0 p h h2

@[simp] theorem fe_RTX_MISS_CNT_OVF_0 (p : Ring) (h : 8 ∈ m.pages) (h2 : 9 ∈ m.pages) : EvtOk m (RTX.MISS_CNT.OVF p.ix) :=
    ev_RTX_MISS_CNT_0 p h h2 _ _

@[simp] theorem rg_RTX_MISS_CNT_1  (h : 8 ∈ m.pages) : m.reg (RTX.MISS_CNT 0) := reg_lit (of_decide_eq_true rfl) h (of_decide_eq_true rfl)

@[simp] theorem ev_RTX_MISS_CNT_1  (h : 8 ∈ m.pages) (hi lo : Nat) : EvtOk m ⟨RTX.MISS_CNT 0, hi, lo⟩ := evt_lit (of_decide_eq_true rfl)
    h (of_decide_eq_true rfl)

@[simp] theorem fa_RTX_MISS_CNT_OVF_1  (h : 8 ∈ m.pages) : m.reg (RTX.MISS_CNT.OVF 0).addr := rg_RTX_MISS_CNT_1 h

@[simp] theorem fe_RTX_MISS_CNT_OVF_1  (h : 8 ∈ m.pages) : EvtOk m (RTX.MISS_CNT.OVF 0) := ev_RTX_MISS_CNT_1 h _ _

@[simp] theorem fa_RTX_MISS_CNT_STROKE_0 (p : Ring) (h : 8 ∈ m.pages) (h2 : 9 ∈ m.pages) : m.reg (RTX.MISS_CNT.STROKE
    p.ix).addr := rg_RTX_MISS_CNT_0 p h h2

@[simp] theorem fe_RTX_MISS_CNT_STROKE_0 (p : Ring) (h : 8 ∈ m.pages) (h2 : 9 ∈ m.pages) : EvtOk m (RTX.MISS_CNT.STROKE
    p.ix) := ev_RTX_MISS_CNT_0 p h h2 _ _

@[simp] theorem fa_RTX_MISS_CNT_STROKE_1  (h : 8 ∈ m.pages) : m.reg (RTX.MISS_CNT.STROKE 0).addr := rg_RTX_MISS_CNT_1 h

@[simp] theorem fe_RTX_MISS_CNT_STROKE_1  (h : 8 ∈ m.pages) : EvtOk m (RTX.MISS_CNT.STROKE 0) := ev_RTX_MISS_CNT_1 h _ _

@[simp] theorem rg_RTX_PORT_EVT_0 (p : Ring) (h : 8 ∈ m.pages) (h2 : 9 ∈ m.pages) : m.reg (RTX.PORT_EVT p.ix) := by
  cases p
  · exact reg_lit (of_decide_eq_true rfl) h (of_decide_eq_true rfl)
  · first | exact reg_lit (of_decide_eq_true rfl) h2 (of_decide_eq_true rfl) | exact reg_lit (of_decide_eq_true rfl) h (of_decide_eq_true rfl)

@[simp] theorem ev_RTX_PORT_EVT_0 (p : Ring) (h : 8 ∈ m.pages) (h2 : 9 ∈ m.pages) (hi lo : Nat) : EvtOk m ⟨RTX.PORT_EVT
    p.ix, hi, lo⟩ := by
  cases p
  · exact evt_lit (of_decide_eq_true rfl) h (of_decide_eq_true rfl)
  · first | exact evt_lit (of_decide_eq_true rfl) h2 (of_decide_eq_true rfl) | exact evt_alias (of_decide_eq_true rfl) h h2

@[simp] theorem fa_RTX_PORT_EVT_DEST_UNREACH_0 (p : Ring) (h : 8 ∈ m.pages) (h2 : 9 ∈ m.pages) : m.reg
    (RTX.PORT_EVT.DEST_UNREACH p.ix).addr := rg_RTX_PORT_EVT_0 p h h2

@[simp] theorem fe_RTX_PORT_EVT_DEST_UNREACH_0 (p : Ring) (h : 8 ∈ m.pages) (h2 : 9 ∈ m.pages) : EvtOk m
    (RTX.PORT_EVT.DEST_UNREACH p.ix) := ev_RTX_PORT_EVT_0 p h h2 _ _

@[simp] theorem rg_RTX_PORT_EVT_1  (h : 8 ∈ m.pages) : m.reg (RTX.PORT_EVT 0) := reg_lit (of_decide_eq_true rfl) h (of_decide_eq_true rfl)

@[simp] theorem ev_RTX_PORT_EVT_1  (h : 8 ∈ m.pages) (hi lo : Nat) : EvtOk m ⟨RTX.PORT_EVT 0, hi, lo⟩ := evt_lit (of_decide_eq_true rfl)
    h (of_decide_eq_true rfl)

@[simp] theorem fa_RTX_PORT_EVT_DEST_UNREACH_1  (h : 8 ∈ m.pages) : m.reg (RTX.PORT_EVT.DEST_UNREACH 0).addr :=
    rg_RTX_PORT_EVT_1 h

@[simp] theorem fe_RTX_PORT_EVT_DEST_UNREACH_1  (h : 8 ∈ m.pages) : EvtOk m (RTX.PORT_EVT.DEST_UNREACH 0) :=
    ev_RTX_PORT_EVT_1 h _ _

@[simp] theorem fa_RTX_PORT_EVT_ENUM_DONE_0 (p : Ring) (h : 8 ∈ m.pages) (h2 : 9 ∈ m.pages) : m.reg (RTX.PORT_EVT.ENUM_DONE
    p.ix).addr := rg_RTX_PORT_EVT_0 p h h2

@[simp] theorem fe_RTX_PORT_EVT_ENUM_DONE_0 (p : Ring) (h : 8 ∈ m.pages) (h2 : 9 ∈ m.pages) : EvtOk m
    (RTX.PORT_EVT.ENUM_DONE p.ix) := ev_RTX_PORT_EVT_0 p h h2 _ _

@[simp] theorem fa_RTX_PORT_EVT_ENUM_DONE_1  (h : 8 ∈ m.pages) : m.reg (RTX.PORT_EVT.ENUM_DONE 0).addr := rg_RTX_PORT_EVT_1
    h

@[simp] theorem fe_RTX_PORT_EVT_ENUM_DONE_1  (h : 8 ∈ m.pages) : EvtOk m (RTX.PORT_EVT.ENUM_DONE 0) := ev_RTX_PORT_EVT_1 h _
    _

@[simp] theorem fa_RTX_PORT_EVT_ENUM_FAIL_0 (p : Ring) (h : 8 ∈ m.pages) (h2 : 9 ∈ m.pages) : m.reg (RTX.PORT_EVT.ENUM_FAIL
    p.ix).addr := rg_RTX_PORT_EVT_0 p h h2

@[simp] theorem fe_RTX_PORT_EVT_ENUM_FAIL_0 (p : Ring) (h : 8 ∈ m.pages) (h2 : 9 ∈ m.pages) : EvtOk m
    (RTX.PORT_EVT.ENUM_FAIL p.ix) := ev_RTX_PORT_EVT_0 p h h2 _ _

@[simp] theorem fa_RTX_PORT_EVT_ENUM_FAIL_1  (h : 8 ∈ m.pages) : m.reg (RTX.PORT_EVT.ENUM_FAIL 0).addr := rg_RTX_PORT_EVT_1
    h

@[simp] theorem fe_RTX_PORT_EVT_ENUM_FAIL_1  (h : 8 ∈ m.pages) : EvtOk m (RTX.PORT_EVT.ENUM_FAIL 0) := ev_RTX_PORT_EVT_1 h _
    _

@[simp] theorem fa_RTX_PORT_EVT_LINK_DOWN_0 (p : Ring) (h : 8 ∈ m.pages) (h2 : 9 ∈ m.pages) : m.reg (RTX.PORT_EVT.LINK_DOWN
    p.ix).addr := rg_RTX_PORT_EVT_0 p h h2

@[simp] theorem fe_RTX_PORT_EVT_LINK_DOWN_0 (p : Ring) (h : 8 ∈ m.pages) (h2 : 9 ∈ m.pages) : EvtOk m
    (RTX.PORT_EVT.LINK_DOWN p.ix) := ev_RTX_PORT_EVT_0 p h h2 _ _

@[simp] theorem fa_RTX_PORT_EVT_LINK_DOWN_1  (h : 8 ∈ m.pages) : m.reg (RTX.PORT_EVT.LINK_DOWN 0).addr := rg_RTX_PORT_EVT_1
    h

@[simp] theorem fe_RTX_PORT_EVT_LINK_DOWN_1  (h : 8 ∈ m.pages) : EvtOk m (RTX.PORT_EVT.LINK_DOWN 0) := ev_RTX_PORT_EVT_1 h _
    _

@[simp] theorem fa_RTX_PORT_EVT_NODE_ABSENT_0 (p : Ring) (h : 8 ∈ m.pages) (h2 : 9 ∈ m.pages) : m.reg
    (RTX.PORT_EVT.NODE_ABSENT p.ix).addr := rg_RTX_PORT_EVT_0 p h h2

@[simp] theorem fe_RTX_PORT_EVT_NODE_ABSENT_0 (p : Ring) (h : 8 ∈ m.pages) (h2 : 9 ∈ m.pages) : EvtOk m
    (RTX.PORT_EVT.NODE_ABSENT p.ix) := ev_RTX_PORT_EVT_0 p h h2 _ _

@[simp] theorem fa_RTX_PORT_EVT_NODE_ABSENT_1  (h : 8 ∈ m.pages) : m.reg (RTX.PORT_EVT.NODE_ABSENT 0).addr :=
    rg_RTX_PORT_EVT_1 h

@[simp] theorem fe_RTX_PORT_EVT_NODE_ABSENT_1  (h : 8 ∈ m.pages) : EvtOk m (RTX.PORT_EVT.NODE_ABSENT 0) := ev_RTX_PORT_EVT_1
    h _ _

@[simp] theorem fa_RTX_PORT_EVT_ROOT_CONFLICT_0 (p : Ring) (h : 8 ∈ m.pages) (h2 : 9 ∈ m.pages) : m.reg
    (RTX.PORT_EVT.ROOT_CONFLICT p.ix).addr := rg_RTX_PORT_EVT_0 p h h2

@[simp] theorem fe_RTX_PORT_EVT_ROOT_CONFLICT_0 (p : Ring) (h : 8 ∈ m.pages) (h2 : 9 ∈ m.pages) : EvtOk m
    (RTX.PORT_EVT.ROOT_CONFLICT p.ix) := ev_RTX_PORT_EVT_0 p h h2 _ _

@[simp] theorem fa_RTX_PORT_EVT_ROOT_CONFLICT_1  (h : 8 ∈ m.pages) : m.reg (RTX.PORT_EVT.ROOT_CONFLICT 0).addr :=
    rg_RTX_PORT_EVT_1 h

@[simp] theorem fe_RTX_PORT_EVT_ROOT_CONFLICT_1  (h : 8 ∈ m.pages) : EvtOk m (RTX.PORT_EVT.ROOT_CONFLICT 0) :=
    ev_RTX_PORT_EVT_1 h _ _

@[simp] theorem fa_RTX_PORT_EVT_STROKE_ABANDON_0 (p : Ring) (h : 8 ∈ m.pages) (h2 : 9 ∈ m.pages) : m.reg
    (RTX.PORT_EVT.STROKE_ABANDON p.ix).addr := rg_RTX_PORT_EVT_0 p h h2

@[simp] theorem fe_RTX_PORT_EVT_STROKE_ABANDON_0 (p : Ring) (h : 8 ∈ m.pages) (h2 : 9 ∈ m.pages) : EvtOk m
    (RTX.PORT_EVT.STROKE_ABANDON p.ix) := ev_RTX_PORT_EVT_0 p h h2 _ _

@[simp] theorem fa_RTX_PORT_EVT_STROKE_ABANDON_1  (h : 8 ∈ m.pages) : m.reg (RTX.PORT_EVT.STROKE_ABANDON 0).addr :=
    rg_RTX_PORT_EVT_1 h

@[simp] theorem fe_RTX_PORT_EVT_STROKE_ABANDON_1  (h : 8 ∈ m.pages) : EvtOk m (RTX.PORT_EVT.STROKE_ABANDON 0) :=
    ev_RTX_PORT_EVT_1 h _ _

@[simp] theorem fa_RTX_PORT_EVT_TOPO_0 (p : Ring) (h : 8 ∈ m.pages) (h2 : 9 ∈ m.pages) : m.reg (RTX.PORT_EVT.TOPO p.ix).addr
    := rg_RTX_PORT_EVT_0 p h h2

@[simp] theorem fe_RTX_PORT_EVT_TOPO_0 (p : Ring) (h : 8 ∈ m.pages) (h2 : 9 ∈ m.pages) : EvtOk m (RTX.PORT_EVT.TOPO p.ix) :=
    ev_RTX_PORT_EVT_0 p h h2 _ _

@[simp] theorem fa_RTX_PORT_EVT_TOPO_1  (h : 8 ∈ m.pages) : m.reg (RTX.PORT_EVT.TOPO 0).addr := rg_RTX_PORT_EVT_1 h

@[simp] theorem fe_RTX_PORT_EVT_TOPO_1  (h : 8 ∈ m.pages) : EvtOk m (RTX.PORT_EVT.TOPO 0) := ev_RTX_PORT_EVT_1 h _ _

@[simp] theorem fa_RTX_PORT_EVT_UNWRAP_0 (p : Ring) (h : 8 ∈ m.pages) (h2 : 9 ∈ m.pages) : m.reg (RTX.PORT_EVT.UNWRAP
    p.ix).addr := rg_RTX_PORT_EVT_0 p h h2

@[simp] theorem fe_RTX_PORT_EVT_UNWRAP_0 (p : Ring) (h : 8 ∈ m.pages) (h2 : 9 ∈ m.pages) : EvtOk m (RTX.PORT_EVT.UNWRAP
    p.ix) := ev_RTX_PORT_EVT_0 p h h2 _ _

@[simp] theorem fa_RTX_PORT_EVT_UNWRAP_1  (h : 8 ∈ m.pages) : m.reg (RTX.PORT_EVT.UNWRAP 0).addr := rg_RTX_PORT_EVT_1 h

@[simp] theorem fe_RTX_PORT_EVT_UNWRAP_1  (h : 8 ∈ m.pages) : EvtOk m (RTX.PORT_EVT.UNWRAP 0) := ev_RTX_PORT_EVT_1 h _ _

@[simp] theorem fa_RTX_PORT_EVT_WRAP_0 (p : Ring) (h : 8 ∈ m.pages) (h2 : 9 ∈ m.pages) : m.reg (RTX.PORT_EVT.WRAP p.ix).addr
    := rg_RTX_PORT_EVT_0 p h h2

@[simp] theorem fe_RTX_PORT_EVT_WRAP_0 (p : Ring) (h : 8 ∈ m.pages) (h2 : 9 ∈ m.pages) : EvtOk m (RTX.PORT_EVT.WRAP p.ix) :=
    ev_RTX_PORT_EVT_0 p h h2 _ _

@[simp] theorem fa_RTX_PORT_EVT_WRAP_1  (h : 8 ∈ m.pages) : m.reg (RTX.PORT_EVT.WRAP 0).addr := rg_RTX_PORT_EVT_1 h

@[simp] theorem fe_RTX_PORT_EVT_WRAP_1  (h : 8 ∈ m.pages) : EvtOk m (RTX.PORT_EVT.WRAP 0) := ev_RTX_PORT_EVT_1 h _ _

@[simp] theorem rg_RTX_RESEND_CNT_0 (p : Ring) (h : 8 ∈ m.pages) (h2 : 9 ∈ m.pages) : m.reg (RTX.RESEND_CNT p.ix) := by
  cases p
  · exact reg_lit (of_decide_eq_true rfl) h (of_decide_eq_true rfl)
  · first | exact reg_lit (of_decide_eq_true rfl) h2 (of_decide_eq_true rfl) | exact reg_lit (of_decide_eq_true rfl) h (of_decide_eq_true rfl)

@[simp] theorem ev_RTX_RESEND_CNT_0 (p : Ring) (h : 8 ∈ m.pages) (h2 : 9 ∈ m.pages) (hi lo : Nat) : EvtOk m ⟨RTX.RESEND_CNT
    p.ix, hi, lo⟩ := by
  cases p
  · exact evt_lit (of_decide_eq_true rfl) h (of_decide_eq_true rfl)
  · first | exact evt_lit (of_decide_eq_true rfl) h2 (of_decide_eq_true rfl) | exact evt_alias (of_decide_eq_true rfl) h h2

@[simp] theorem rg_RTX_RESEND_CNT_1  (h : 8 ∈ m.pages) : m.reg (RTX.RESEND_CNT 0) := reg_lit (of_decide_eq_true rfl) h (of_decide_eq_true rfl)

@[simp] theorem ev_RTX_RESEND_CNT_1  (h : 8 ∈ m.pages) (hi lo : Nat) : EvtOk m ⟨RTX.RESEND_CNT 0, hi, lo⟩ := evt_lit (by
    decide) h (of_decide_eq_true rfl)

@[simp] theorem rg_RTX_RX_FRAMES_0 (p : Ring) (h : 8 ∈ m.pages) (h2 : 9 ∈ m.pages) : m.reg (RTX.RX_FRAMES p.ix) := by
  cases p
  · exact reg_lit (of_decide_eq_true rfl) h (of_decide_eq_true rfl)
  · first | exact reg_lit (of_decide_eq_true rfl) h2 (of_decide_eq_true rfl) | exact reg_lit (of_decide_eq_true rfl) h (of_decide_eq_true rfl)

@[simp] theorem ev_RTX_RX_FRAMES_0 (p : Ring) (h : 8 ∈ m.pages) (h2 : 9 ∈ m.pages) (hi lo : Nat) : EvtOk m ⟨RTX.RX_FRAMES
    p.ix, hi, lo⟩ := by
  cases p
  · exact evt_lit (of_decide_eq_true rfl) h (of_decide_eq_true rfl)
  · first | exact evt_lit (of_decide_eq_true rfl) h2 (of_decide_eq_true rfl) | exact evt_alias (of_decide_eq_true rfl) h h2

@[simp] theorem rg_RTX_RX_FRAMES_1  (h : 8 ∈ m.pages) : m.reg (RTX.RX_FRAMES 0) := reg_lit (of_decide_eq_true rfl) h (of_decide_eq_true rfl)

@[simp] theorem ev_RTX_RX_FRAMES_1  (h : 8 ∈ m.pages) (hi lo : Nat) : EvtOk m ⟨RTX.RX_FRAMES 0, hi, lo⟩ := evt_lit (by
    decide) h (of_decide_eq_true rfl)

@[simp] theorem rg_RTX_TX_FRAMES_0 (p : Ring) (h : 8 ∈ m.pages) (h2 : 9 ∈ m.pages) : m.reg (RTX.TX_FRAMES p.ix) := by
  cases p
  · exact reg_lit (of_decide_eq_true rfl) h (of_decide_eq_true rfl)
  · first | exact reg_lit (of_decide_eq_true rfl) h2 (of_decide_eq_true rfl) | exact reg_lit (of_decide_eq_true rfl) h (of_decide_eq_true rfl)

@[simp] theorem ev_RTX_TX_FRAMES_0 (p : Ring) (h : 8 ∈ m.pages) (h2 : 9 ∈ m.pages) (hi lo : Nat) : EvtOk m ⟨RTX.TX_FRAMES
    p.ix, hi, lo⟩ := by
  cases p
  · exact evt_lit (of_decide_eq_true rfl) h (of_decide_eq_true rfl)
  · first | exact evt_lit (of_decide_eq_true rfl) h2 (of_decide_eq_true rfl) | exact evt_alias (of_decide_eq_true rfl) h h2

@[simp] theorem rg_RTX_TX_FRAMES_1  (h : 8 ∈ m.pages) : m.reg (RTX.TX_FRAMES 0) := reg_lit (of_decide_eq_true rfl) h (of_decide_eq_true rfl)

@[simp] theorem ev_RTX_TX_FRAMES_1  (h : 8 ∈ m.pages) (hi lo : Nat) : EvtOk m ⟨RTX.TX_FRAMES 0, hi, lo⟩ := evt_lit (by
    decide) h (of_decide_eq_true rfl)

@[simp] theorem rg_RTX_UNREACH_CNT_0 (p : Ring) (h : 8 ∈ m.pages) (h2 : 9 ∈ m.pages) : m.reg (RTX.UNREACH_CNT p.ix) := by
  cases p
  · exact reg_lit (of_decide_eq_true rfl) h (of_decide_eq_true rfl)
  · first | exact reg_lit (of_decide_eq_true rfl) h2 (of_decide_eq_true rfl) | exact reg_lit (of_decide_eq_true rfl) h (of_decide_eq_true rfl)

@[simp] theorem ev_RTX_UNREACH_CNT_0 (p : Ring) (h : 8 ∈ m.pages) (h2 : 9 ∈ m.pages) (hi lo : Nat) : EvtOk m
    ⟨RTX.UNREACH_CNT p.ix, hi, lo⟩ := by
  cases p
  · exact evt_lit (of_decide_eq_true rfl) h (of_decide_eq_true rfl)
  · first | exact evt_lit (of_decide_eq_true rfl) h2 (of_decide_eq_true rfl) | exact evt_alias (of_decide_eq_true rfl) h h2

@[simp] theorem rg_RTX_UNREACH_CNT_1  (h : 8 ∈ m.pages) : m.reg (RTX.UNREACH_CNT 0) := reg_lit (of_decide_eq_true rfl) h (of_decide_eq_true rfl)

@[simp] theorem ev_RTX_UNREACH_CNT_1  (h : 8 ∈ m.pages) (hi lo : Nat) : EvtOk m ⟨RTX.UNREACH_CNT 0, hi, lo⟩ := evt_lit (by
    decide) h (of_decide_eq_true rfl)

@[simp] theorem rg_SCHED_ADMIT_TOTAL_0  (h : 28 ∈ m.pages) : m.reg (SCHED.ADMIT_TOTAL) := reg_lit (of_decide_eq_true rfl) h (of_decide_eq_true rfl)

@[simp] theorem ev_SCHED_ADMIT_TOTAL_0  (h : 28 ∈ m.pages) (hi lo : Nat) : EvtOk m ⟨SCHED.ADMIT_TOTAL, hi, lo⟩ := evt_lit
    (of_decide_eq_true rfl) h (of_decide_eq_true rfl)

@[simp] theorem rg_SCHED_EVT_LOST_CNT_0  (h : 28 ∈ m.pages) : m.reg (SCHED.EVT_LOST_CNT) := reg_lit (of_decide_eq_true rfl) h (by
    decide)

@[simp] theorem ev_SCHED_EVT_LOST_CNT_0  (h : 28 ∈ m.pages) (hi lo : Nat) : EvtOk m ⟨SCHED.EVT_LOST_CNT, hi, lo⟩ := evt_lit
    (of_decide_eq_true rfl) h (of_decide_eq_true rfl)

@[simp] theorem rg_SCHED_FIRED_TOTAL_0  (h : 28 ∈ m.pages) : m.reg (SCHED.FIRED_TOTAL) := reg_lit (of_decide_eq_true rfl) h (of_decide_eq_true rfl)

@[simp] theorem ev_SCHED_FIRED_TOTAL_0  (h : 28 ∈ m.pages) (hi lo : Nat) : EvtOk m ⟨SCHED.FIRED_TOTAL, hi, lo⟩ := evt_lit
    (of_decide_eq_true rfl) h (of_decide_eq_true rfl)

@[simp] theorem rg_SCHED_SCHED_EVT_0  (h : 28 ∈ m.pages) : m.reg (SCHED.SCHED_EVT) := reg_lit (of_decide_eq_true rfl) h (of_decide_eq_true rfl)

@[simp] theorem ev_SCHED_SCHED_EVT_0  (h : 28 ∈ m.pages) (hi lo : Nat) : EvtOk m ⟨SCHED.SCHED_EVT, hi, lo⟩ := evt_lit (by
    decide) h (of_decide_eq_true rfl)

@[simp] theorem fa_SCHED_SCHED_EVT_DR_EXPIRED_0  (h : 28 ∈ m.pages) : m.reg (SCHED.SCHED_EVT.DR_EXPIRED).addr :=
    rg_SCHED_SCHED_EVT_0 h

@[simp] theorem fe_SCHED_SCHED_EVT_DR_EXPIRED_0  (h : 28 ∈ m.pages) : EvtOk m (SCHED.SCHED_EVT.DR_EXPIRED) :=
    ev_SCHED_SCHED_EVT_0 h _ _

@[simp] theorem fa_SCHED_SCHED_EVT_EVT_FULL_0  (h : 28 ∈ m.pages) : m.reg (SCHED.SCHED_EVT.EVT_FULL).addr :=
    rg_SCHED_SCHED_EVT_0 h

@[simp] theorem fe_SCHED_SCHED_EVT_EVT_FULL_0  (h : 28 ∈ m.pages) : EvtOk m (SCHED.SCHED_EVT.EVT_FULL) :=
    ev_SCHED_SCHED_EVT_0 h _ _

@[simp] theorem fa_SCHED_SCHED_EVT_EVT_LOST_0  (h : 28 ∈ m.pages) : m.reg (SCHED.SCHED_EVT.EVT_LOST).addr :=
    rg_SCHED_SCHED_EVT_0 h

@[simp] theorem fe_SCHED_SCHED_EVT_EVT_LOST_0  (h : 28 ∈ m.pages) : EvtOk m (SCHED.SCHED_EVT.EVT_LOST) :=
    ev_SCHED_SCHED_EVT_0 h _ _

@[simp] theorem fa_SCHED_SCHED_EVT_LATE_0  (h : 28 ∈ m.pages) : m.reg (SCHED.SCHED_EVT.LATE).addr := rg_SCHED_SCHED_EVT_0 h

@[simp] theorem fe_SCHED_SCHED_EVT_LATE_0  (h : 28 ∈ m.pages) : EvtOk m (SCHED.SCHED_EVT.LATE) := ev_SCHED_SCHED_EVT_0 h _ _

@[simp] theorem fa_SCHED_SCHED_EVT_PAIR_CANCEL_0  (h : 28 ∈ m.pages) : m.reg (SCHED.SCHED_EVT.PAIR_CANCEL).addr :=
    rg_SCHED_SCHED_EVT_0 h

@[simp] theorem fe_SCHED_SCHED_EVT_PAIR_CANCEL_0  (h : 28 ∈ m.pages) : EvtOk m (SCHED.SCHED_EVT.PAIR_CANCEL) :=
    ev_SCHED_SCHED_EVT_0 h _ _

@[simp] theorem fa_SCHED_SCHED_EVT_STALE_0  (h : 28 ∈ m.pages) : m.reg (SCHED.SCHED_EVT.STALE).addr := rg_SCHED_SCHED_EVT_0
    h

@[simp] theorem fe_SCHED_SCHED_EVT_STALE_0  (h : 28 ∈ m.pages) : EvtOk m (SCHED.SCHED_EVT.STALE) := ev_SCHED_SCHED_EVT_0 h _
    _

@[simp] theorem fa_SCHED_SCHED_EVT_TORN_0  (h : 28 ∈ m.pages) : m.reg (SCHED.SCHED_EVT.TORN).addr := rg_SCHED_SCHED_EVT_0 h

@[simp] theorem fe_SCHED_SCHED_EVT_TORN_0  (h : 28 ∈ m.pages) : EvtOk m (SCHED.SCHED_EVT.TORN) := ev_SCHED_SCHED_EVT_0 h _ _

@[simp] theorem rg_SNAP_NOCLOSE_CNT_0 (n : LaneIx) (h : n ∈ m.lanes) : m.reg (SNAP.NOCLOSE_CNT n.val) := by
  have hn := n.isLt; unfold SNAP.NOCLOSE_CNT
  exact reg_lane h (by omega) (by omega) (by omega) (by omega)

@[simp] theorem ev_SNAP_NOCLOSE_CNT_0 (n : LaneIx) (h : n ∈ m.lanes) (hi lo : Nat) : EvtOk m ⟨SNAP.NOCLOSE_CNT n.val, hi,
    lo⟩ := by
  have hn := n.isLt; unfold SNAP.NOCLOSE_CNT
  exact evt_lane h (by omega) (by omega) (by omega) (by omega)

@[simp] theorem rg_SNAP_NODIP_CNT_0 (n : LaneIx) (h : n ∈ m.lanes) : m.reg (SNAP.NODIP_CNT n.val) := by
  have hn := n.isLt; unfold SNAP.NODIP_CNT
  exact reg_lane h (by omega) (by omega) (by omega) (by omega)

@[simp] theorem ev_SNAP_NODIP_CNT_0 (n : LaneIx) (h : n ∈ m.lanes) (hi lo : Nat) : EvtOk m ⟨SNAP.NODIP_CNT n.val, hi, lo⟩ :=
    by
  have hn := n.isLt; unfold SNAP.NODIP_CNT
  exact evt_lane h (by omega) (by omega) (by omega) (by omega)

@[simp] theorem rg_SNAP_RELEARN_CNT_0 (n : LaneIx) (h : n ∈ m.lanes) : m.reg (SNAP.RELEARN_CNT n.val) := by
  have hn := n.isLt; unfold SNAP.RELEARN_CNT
  exact reg_lane h (by omega) (by omega) (by omega) (by omega)

@[simp] theorem ev_SNAP_RELEARN_CNT_0 (n : LaneIx) (h : n ∈ m.lanes) (hi lo : Nat) : EvtOk m ⟨SNAP.RELEARN_CNT n.val, hi,
    lo⟩ := by
  have hn := n.isLt; unfold SNAP.RELEARN_CNT
  exact evt_lane h (by omega) (by omega) (by omega) (by omega)

@[simp] theorem rg_SNAP_SNAP_EVT_0 (n : LaneIx) (h : n ∈ m.lanes) : m.reg (SNAP.SNAP_EVT n.val) := by
  have hn := n.isLt; unfold SNAP.SNAP_EVT
  exact reg_lane h (by omega) (by omega) (by omega) (by omega)

@[simp] theorem ev_SNAP_SNAP_EVT_0 (n : LaneIx) (h : n ∈ m.lanes) (hi lo : Nat) : EvtOk m ⟨SNAP.SNAP_EVT n.val, hi, lo⟩ :=
    by
  have hn := n.isLt; unfold SNAP.SNAP_EVT
  exact evt_lane h (by omega) (by omega) (by omega) (by omega)

@[simp] theorem fa_SNAP_SNAP_EVT_CLOSE_FAIL_0 (n : LaneIx) (h : n ∈ m.lanes) : m.reg (SNAP.SNAP_EVT.CLOSE_FAIL n.val).addr
    := rg_SNAP_SNAP_EVT_0 n h

@[simp] theorem fe_SNAP_SNAP_EVT_CLOSE_FAIL_0 (n : LaneIx) (h : n ∈ m.lanes) : EvtOk m (SNAP.SNAP_EVT.CLOSE_FAIL n.val) :=
    ev_SNAP_SNAP_EVT_0 n h _ _

@[simp] theorem fa_SNAP_SNAP_EVT_DLY_CLAMP_0 (n : LaneIx) (h : n ∈ m.lanes) : m.reg (SNAP.SNAP_EVT.DLY_CLAMP n.val).addr :=
    rg_SNAP_SNAP_EVT_0 n h

@[simp] theorem fe_SNAP_SNAP_EVT_DLY_CLAMP_0 (n : LaneIx) (h : n ∈ m.lanes) : EvtOk m (SNAP.SNAP_EVT.DLY_CLAMP n.val) :=
    ev_SNAP_SNAP_EVT_0 n h _ _

@[simp] theorem fa_SNAP_SNAP_EVT_LEARNED_0 (n : LaneIx) (h : n ∈ m.lanes) : m.reg (SNAP.SNAP_EVT.LEARNED n.val).addr :=
    rg_SNAP_SNAP_EVT_0 n h

@[simp] theorem fe_SNAP_SNAP_EVT_LEARNED_0 (n : LaneIx) (h : n ∈ m.lanes) : EvtOk m (SNAP.SNAP_EVT.LEARNED n.val) :=
    ev_SNAP_SNAP_EVT_0 n h _ _

@[simp] theorem fa_SNAP_SNAP_EVT_NO_CLOSE_0 (n : LaneIx) (h : n ∈ m.lanes) : m.reg (SNAP.SNAP_EVT.NO_CLOSE n.val).addr :=
    rg_SNAP_SNAP_EVT_0 n h

@[simp] theorem fe_SNAP_SNAP_EVT_NO_CLOSE_0 (n : LaneIx) (h : n ∈ m.lanes) : EvtOk m (SNAP.SNAP_EVT.NO_CLOSE n.val) :=
    ev_SNAP_SNAP_EVT_0 n h _ _

@[simp] theorem fa_SNAP_SNAP_EVT_NO_DIP_0 (n : LaneIx) (h : n ∈ m.lanes) : m.reg (SNAP.SNAP_EVT.NO_DIP n.val).addr :=
    rg_SNAP_SNAP_EVT_0 n h

@[simp] theorem fe_SNAP_SNAP_EVT_NO_DIP_0 (n : LaneIx) (h : n ∈ m.lanes) : EvtOk m (SNAP.SNAP_EVT.NO_DIP n.val) :=
    ev_SNAP_SNAP_EVT_0 n h _ _

@[simp] theorem fa_SNAP_SNAP_EVT_RELEARN_0 (n : LaneIx) (h : n ∈ m.lanes) : m.reg (SNAP.SNAP_EVT.RELEARN n.val).addr :=
    rg_SNAP_SNAP_EVT_0 n h

@[simp] theorem fe_SNAP_SNAP_EVT_RELEARN_0 (n : LaneIx) (h : n ∈ m.lanes) : EvtOk m (SNAP.SNAP_EVT.RELEARN n.val) :=
    ev_SNAP_SNAP_EVT_0 n h _ _

@[simp] theorem fa_SNAP_SNAP_EVT_VALVE_STUCK_0 (n : LaneIx) (h : n ∈ m.lanes) : m.reg (SNAP.SNAP_EVT.VALVE_STUCK n.val).addr
    := rg_SNAP_SNAP_EVT_0 n h

@[simp] theorem fe_SNAP_SNAP_EVT_VALVE_STUCK_0 (n : LaneIx) (h : n ∈ m.lanes) : EvtOk m (SNAP.SNAP_EVT.VALVE_STUCK n.val) :=
    ev_SNAP_SNAP_EVT_0 n h _ _

@[simp] theorem fa_SNAP_SNAP_EVT_WEAR_0 (n : LaneIx) (h : n ∈ m.lanes) : m.reg (SNAP.SNAP_EVT.WEAR n.val).addr :=
    rg_SNAP_SNAP_EVT_0 n h

@[simp] theorem fe_SNAP_SNAP_EVT_WEAR_0 (n : LaneIx) (h : n ∈ m.lanes) : EvtOk m (SNAP.SNAP_EVT.WEAR n.val) :=
    ev_SNAP_SNAP_EVT_0 n h _ _

@[simp] theorem rg_SNAP_UNLEARN_CNT_0 (n : LaneIx) (h : n ∈ m.lanes) : m.reg (SNAP.UNLEARN_CNT n.val) := by
  have hn := n.isLt; unfold SNAP.UNLEARN_CNT
  exact reg_lane h (by omega) (by omega) (by omega) (by omega)

@[simp] theorem ev_SNAP_UNLEARN_CNT_0 (n : LaneIx) (h : n ∈ m.lanes) (hi lo : Nat) : EvtOk m ⟨SNAP.UNLEARN_CNT n.val, hi,
    lo⟩ := by
  have hn := n.isLt; unfold SNAP.UNLEARN_CNT
  exact evt_lane h (by omega) (by omega) (by omega) (by omega)

@[simp] theorem fa_SNAP_UNLEARN_CNT_BOOST_SUB_0 (n : LaneIx) (h : n ∈ m.lanes) : m.reg (SNAP.UNLEARN_CNT.BOOST_SUB
    n.val).addr := rg_SNAP_UNLEARN_CNT_0 n h

@[simp] theorem fe_SNAP_UNLEARN_CNT_BOOST_SUB_0 (n : LaneIx) (h : n ∈ m.lanes) : EvtOk m (SNAP.UNLEARN_CNT.BOOST_SUB n.val)
    := ev_SNAP_UNLEARN_CNT_0 n h _ _

@[simp] theorem fa_SNAP_UNLEARN_CNT_DEMOTED_0 (n : LaneIx) (h : n ∈ m.lanes) : m.reg (SNAP.UNLEARN_CNT.DEMOTED n.val).addr
    := rg_SNAP_UNLEARN_CNT_0 n h

@[simp] theorem fe_SNAP_UNLEARN_CNT_DEMOTED_0 (n : LaneIx) (h : n ∈ m.lanes) : EvtOk m (SNAP.UNLEARN_CNT.DEMOTED n.val) :=
    ev_SNAP_UNLEARN_CNT_0 n h _ _

@[simp] theorem fa_SNAP_UNLEARN_CNT_REOPEN_0 (n : LaneIx) (h : n ∈ m.lanes) : m.reg (SNAP.UNLEARN_CNT.REOPEN n.val).addr :=
    rg_SNAP_UNLEARN_CNT_0 n h

@[simp] theorem fe_SNAP_UNLEARN_CNT_REOPEN_0 (n : LaneIx) (h : n ∈ m.lanes) : EvtOk m (SNAP.UNLEARN_CNT.REOPEN n.val) :=
    ev_SNAP_UNLEARN_CNT_0 n h _ _

@[simp] theorem fa_SNAP_UNLEARN_CNT_SUSPENDED_0 (n : LaneIx) (h : n ∈ m.lanes) : m.reg (SNAP.UNLEARN_CNT.SUSPENDED
    n.val).addr := rg_SNAP_UNLEARN_CNT_0 n h

@[simp] theorem fe_SNAP_UNLEARN_CNT_SUSPENDED_0 (n : LaneIx) (h : n ∈ m.lanes) : EvtOk m (SNAP.UNLEARN_CNT.SUSPENDED n.val)
    := ev_SNAP_UNLEARN_CNT_0 n h _ _

@[simp] theorem rg_SYS_ARM_STAT_0  (h : 0 ∈ m.pages) : m.reg (SYS.ARM_STAT) := reg_lit (of_decide_eq_true rfl) h (of_decide_eq_true rfl)

@[simp] theorem ev_SYS_ARM_STAT_0  (h : 0 ∈ m.pages) (hi lo : Nat) : EvtOk m ⟨SYS.ARM_STAT, hi, lo⟩ := evt_lit (of_decide_eq_true rfl) h
    (of_decide_eq_true rfl)

@[simp] theorem rg_SYS_BOOT_STAT_0  (h : 0 ∈ m.pages) : m.reg (SYS.BOOT_STAT) := reg_lit (of_decide_eq_true rfl) h (of_decide_eq_true rfl)

@[simp] theorem ev_SYS_BOOT_STAT_0  (h : 0 ∈ m.pages) (hi lo : Nat) : EvtOk m ⟨SYS.BOOT_STAT, hi, lo⟩ := evt_lit (of_decide_eq_true rfl)
    h (of_decide_eq_true rfl)

@[simp] theorem fa_SYS_BOOT_STAT_BOOT_MS_0  (h : 0 ∈ m.pages) : m.reg (SYS.BOOT_STAT.BOOT_MS).addr := rg_SYS_BOOT_STAT_0 h

@[simp] theorem fe_SYS_BOOT_STAT_BOOT_MS_0  (h : 0 ∈ m.pages) : EvtOk m (SYS.BOOT_STAT.BOOT_MS) := ev_SYS_BOOT_STAT_0 h _ _

@[simp] theorem fa_SYS_BOOT_STAT_CFG_OK_0  (h : 0 ∈ m.pages) : m.reg (SYS.BOOT_STAT.CFG_OK).addr := rg_SYS_BOOT_STAT_0 h

@[simp] theorem fe_SYS_BOOT_STAT_CFG_OK_0  (h : 0 ∈ m.pages) : EvtOk m (SYS.BOOT_STAT.CFG_OK) := ev_SYS_BOOT_STAT_0 h _ _

@[simp] theorem fa_SYS_BOOT_STAT_CFG_TRIED_0  (h : 0 ∈ m.pages) : m.reg (SYS.BOOT_STAT.CFG_TRIED).addr := rg_SYS_BOOT_STAT_0
    h

@[simp] theorem fe_SYS_BOOT_STAT_CFG_TRIED_0  (h : 0 ∈ m.pages) : EvtOk m (SYS.BOOT_STAT.CFG_TRIED) := ev_SYS_BOOT_STAT_0 h
    _ _

@[simp] theorem fa_SYS_BOOT_STAT_HALVES_OK_0  (h : 0 ∈ m.pages) : m.reg (SYS.BOOT_STAT.HALVES_OK).addr := rg_SYS_BOOT_STAT_0
    h

@[simp] theorem fe_SYS_BOOT_STAT_HALVES_OK_0  (h : 0 ∈ m.pages) : EvtOk m (SYS.BOOT_STAT.HALVES_OK) := ev_SYS_BOOT_STAT_0 h
    _ _

@[simp] theorem fa_SYS_BOOT_STAT_LANES_OK_0  (h : 0 ∈ m.pages) : m.reg (SYS.BOOT_STAT.LANES_OK).addr := rg_SYS_BOOT_STAT_0 h

@[simp] theorem fe_SYS_BOOT_STAT_LANES_OK_0  (h : 0 ∈ m.pages) : EvtOk m (SYS.BOOT_STAT.LANES_OK) := ev_SYS_BOOT_STAT_0 h _
    _

@[simp] theorem fa_SYS_BOOT_STAT_NOR_DIR_OK_0  (h : 0 ∈ m.pages) : m.reg (SYS.BOOT_STAT.NOR_DIR_OK).addr :=
    rg_SYS_BOOT_STAT_0 h

@[simp] theorem fe_SYS_BOOT_STAT_NOR_DIR_OK_0  (h : 0 ∈ m.pages) : EvtOk m (SYS.BOOT_STAT.NOR_DIR_OK) := ev_SYS_BOOT_STAT_0
    h _ _

@[simp] theorem fa_SYS_BOOT_STAT_PATCH_OK_0  (h : 0 ∈ m.pages) : m.reg (SYS.BOOT_STAT.PATCH_OK).addr := rg_SYS_BOOT_STAT_0 h

@[simp] theorem fe_SYS_BOOT_STAT_PATCH_OK_0  (h : 0 ∈ m.pages) : EvtOk m (SYS.BOOT_STAT.PATCH_OK) := ev_SYS_BOOT_STAT_0 h _
    _

@[simp] theorem fa_SYS_BOOT_STAT_PATCH_TRIED_0  (h : 0 ∈ m.pages) : m.reg (SYS.BOOT_STAT.PATCH_TRIED).addr :=
    rg_SYS_BOOT_STAT_0 h

@[simp] theorem fe_SYS_BOOT_STAT_PATCH_TRIED_0  (h : 0 ∈ m.pages) : EvtOk m (SYS.BOOT_STAT.PATCH_TRIED) :=
    ev_SYS_BOOT_STAT_0 h _ _

@[simp] theorem fa_SYS_BOOT_STAT_ROM_OK_0  (h : 0 ∈ m.pages) : m.reg (SYS.BOOT_STAT.ROM_OK).addr := rg_SYS_BOOT_STAT_0 h

@[simp] theorem fe_SYS_BOOT_STAT_ROM_OK_0  (h : 0 ∈ m.pages) : EvtOk m (SYS.BOOT_STAT.ROM_OK) := ev_SYS_BOOT_STAT_0 h _ _

@[simp] theorem rg_SYS_FENCE_0  (h : 0 ∈ m.pages) : m.reg (SYS.FENCE) := reg_lit (of_decide_eq_true rfl) h (of_decide_eq_true rfl)

@[simp] theorem ev_SYS_FENCE_0  (h : 0 ∈ m.pages) (hi lo : Nat) : EvtOk m ⟨SYS.FENCE, hi, lo⟩ := evt_lit (of_decide_eq_true rfl) h (by
    decide)

@[simp] theorem rg_SYS_SEAL_CRC_CALC_0  (h : 0 ∈ m.pages) : m.reg (SYS.SEAL_CRC_CALC) := reg_lit (of_decide_eq_true rfl) h (of_decide_eq_true rfl)

@[simp] theorem ev_SYS_SEAL_CRC_CALC_0  (h : 0 ∈ m.pages) (hi lo : Nat) : EvtOk m ⟨SYS.SEAL_CRC_CALC, hi, lo⟩ := evt_lit (by
    decide) h (of_decide_eq_true rfl)

@[simp] theorem rg_SYS_SEAL_STAT_0  (h : 0 ∈ m.pages) : m.reg (SYS.SEAL_STAT) := reg_lit (of_decide_eq_true rfl) h (of_decide_eq_true rfl)

@[simp] theorem ev_SYS_SEAL_STAT_0  (h : 0 ∈ m.pages) (hi lo : Nat) : EvtOk m ⟨SYS.SEAL_STAT, hi, lo⟩ := evt_lit (of_decide_eq_true rfl)
    h (of_decide_eq_true rfl)

@[simp] theorem rg_SYS_STRAP_0  (h : 0 ∈ m.pages) : m.reg (SYS.STRAP) := reg_lit (of_decide_eq_true rfl) h (of_decide_eq_true rfl)

@[simp] theorem ev_SYS_STRAP_0  (h : 0 ∈ m.pages) (hi lo : Nat) : EvtOk m ⟨SYS.STRAP, hi, lo⟩ := evt_lit (of_decide_eq_true rfl) h (by
    decide)

@[simp] theorem rg_SYS_SYS_EVT_0  (h : 0 ∈ m.pages) : m.reg (SYS.SYS_EVT) := reg_lit (of_decide_eq_true rfl) h (of_decide_eq_true rfl)

@[simp] theorem ev_SYS_SYS_EVT_0  (h : 0 ∈ m.pages) (hi lo : Nat) : EvtOk m ⟨SYS.SYS_EVT, hi, lo⟩ := evt_lit (of_decide_eq_true rfl) h
    (of_decide_eq_true rfl)

@[simp] theorem fa_SYS_SYS_EVT_CLOCK_LOSS_0  (h : 0 ∈ m.pages) : m.reg (SYS.SYS_EVT.CLOCK_LOSS).addr := rg_SYS_SYS_EVT_0 h

@[simp] theorem fe_SYS_SYS_EVT_CLOCK_LOSS_0  (h : 0 ∈ m.pages) : EvtOk m (SYS.SYS_EVT.CLOCK_LOSS) := ev_SYS_SYS_EVT_0 h _ _

@[simp] theorem fa_SYS_SYS_EVT_LANE_FENCE_0  (h : 0 ∈ m.pages) : m.reg (SYS.SYS_EVT.LANE_FENCE).addr := rg_SYS_SYS_EVT_0 h

@[simp] theorem fe_SYS_SYS_EVT_LANE_FENCE_0  (h : 0 ∈ m.pages) : EvtOk m (SYS.SYS_EVT.LANE_FENCE) := ev_SYS_SYS_EVT_0 h _ _

@[simp] theorem fa_SYS_SYS_EVT_PFAIL_0  (h : 0 ∈ m.pages) : m.reg (SYS.SYS_EVT.PFAIL).addr := rg_SYS_SYS_EVT_0 h

@[simp] theorem fe_SYS_SYS_EVT_PFAIL_0  (h : 0 ∈ m.pages) : EvtOk m (SYS.SYS_EVT.PFAIL) := ev_SYS_SYS_EVT_0 h _ _

@[simp] theorem fa_SYS_SYS_EVT_SEAL_DONE_0  (h : 0 ∈ m.pages) : m.reg (SYS.SYS_EVT.SEAL_DONE).addr := rg_SYS_SYS_EVT_0 h

@[simp] theorem fe_SYS_SYS_EVT_SEAL_DONE_0  (h : 0 ∈ m.pages) : EvtOk m (SYS.SYS_EVT.SEAL_DONE) := ev_SYS_SYS_EVT_0 h _ _

@[simp] theorem fa_SYS_SYS_EVT_STATE_CHANGE_0  (h : 0 ∈ m.pages) : m.reg (SYS.SYS_EVT.STATE_CHANGE).addr := rg_SYS_SYS_EVT_0
    h

@[simp] theorem fe_SYS_SYS_EVT_STATE_CHANGE_0  (h : 0 ∈ m.pages) : EvtOk m (SYS.SYS_EVT.STATE_CHANGE) := ev_SYS_SYS_EVT_0 h
    _ _

@[simp] theorem rg_SYS_UID_HI_0  (h : 0 ∈ m.pages) : m.reg (SYS.UID_HI) := reg_lit (of_decide_eq_true rfl) h (of_decide_eq_true rfl)

@[simp] theorem ev_SYS_UID_HI_0  (h : 0 ∈ m.pages) (hi lo : Nat) : EvtOk m ⟨SYS.UID_HI, hi, lo⟩ := evt_lit (of_decide_eq_true rfl) h (by
    decide)

@[simp] theorem rg_SYS_UID_LO_0  (h : 0 ∈ m.pages) : m.reg (SYS.UID_LO) := reg_lit (of_decide_eq_true rfl) h (of_decide_eq_true rfl)

@[simp] theorem ev_SYS_UID_LO_0  (h : 0 ∈ m.pages) (hi lo : Nat) : EvtOk m ⟨SYS.UID_LO, hi, lo⟩ := evt_lit (of_decide_eq_true rfl) h (by
    decide)

@[simp] theorem rg_TPLS_TP_CNT_0  (h : 18 ∈ m.pages) : m.reg (TPLS.TP_CNT) := reg_lit (of_decide_eq_true rfl) h (of_decide_eq_true rfl)

@[simp] theorem ev_TPLS_TP_CNT_0  (h : 18 ∈ m.pages) (hi lo : Nat) : EvtOk m ⟨TPLS.TP_CNT, hi, lo⟩ := evt_lit (of_decide_eq_true rfl) h
    (of_decide_eq_true rfl)

@[simp] theorem rg_TPLS_TP_EVT_0  (h : 18 ∈ m.pages) : m.reg (TPLS.TP_EVT) := reg_lit (of_decide_eq_true rfl) h (of_decide_eq_true rfl)

@[simp] theorem ev_TPLS_TP_EVT_0  (h : 18 ∈ m.pages) (hi lo : Nat) : EvtOk m ⟨TPLS.TP_EVT, hi, lo⟩ := evt_lit (of_decide_eq_true rfl) h
    (of_decide_eq_true rfl)

@[simp] theorem fa_TPLS_TP_EVT_EXPIRED_0  (h : 18 ∈ m.pages) : m.reg (TPLS.TP_EVT.EXPIRED).addr := rg_TPLS_TP_EVT_0 h

@[simp] theorem fe_TPLS_TP_EVT_EXPIRED_0  (h : 18 ∈ m.pages) : EvtOk m (TPLS.TP_EVT.EXPIRED) := ev_TPLS_TP_EVT_0 h _ _

@[simp] theorem fa_TPLS_TP_EVT_HOLDOVER_0  (h : 18 ∈ m.pages) : m.reg (TPLS.TP_EVT.HOLDOVER).addr := rg_TPLS_TP_EVT_0 h

@[simp] theorem fe_TPLS_TP_EVT_HOLDOVER_0  (h : 18 ∈ m.pages) : EvtOk m (TPLS.TP_EVT.HOLDOVER) := ev_TPLS_TP_EVT_0 h _ _

@[simp] theorem fa_TPLS_TP_EVT_LOCKED_0  (h : 18 ∈ m.pages) : m.reg (TPLS.TP_EVT.LOCKED).addr := rg_TPLS_TP_EVT_0 h

@[simp] theorem fe_TPLS_TP_EVT_LOCKED_0  (h : 18 ∈ m.pages) : EvtOk m (TPLS.TP_EVT.LOCKED) := ev_TPLS_TP_EVT_0 h _ _

@[simp] theorem fa_TPLS_TP_EVT_NEXT_READY_0  (h : 18 ∈ m.pages) : m.reg (TPLS.TP_EVT.NEXT_READY).addr := rg_TPLS_TP_EVT_0 h

@[simp] theorem fe_TPLS_TP_EVT_NEXT_READY_0  (h : 18 ∈ m.pages) : EvtOk m (TPLS.TP_EVT.NEXT_READY) := ev_TPLS_TP_EVT_0 h _ _

@[simp] theorem fa_TPLS_TP_EVT_PULSE_0  (h : 18 ∈ m.pages) : m.reg (TPLS.TP_EVT.PULSE).addr := rg_TPLS_TP_EVT_0 h

@[simp] theorem fe_TPLS_TP_EVT_PULSE_0  (h : 18 ∈ m.pages) : EvtOk m (TPLS.TP_EVT.PULSE) := ev_TPLS_TP_EVT_0 h _ _

@[simp] theorem fa_TPLS_TP_EVT_TIME_STEP_0  (h : 18 ∈ m.pages) : m.reg (TPLS.TP_EVT.TIME_STEP).addr := rg_TPLS_TP_EVT_0 h

@[simp] theorem fe_TPLS_TP_EVT_TIME_STEP_0  (h : 18 ∈ m.pages) : EvtOk m (TPLS.TP_EVT.TIME_STEP) := ev_TPLS_TP_EVT_0 h _ _

@[simp] theorem rg_TPLS_TP_NEXT_0  (h : 18 ∈ m.pages) : m.reg (TPLS.TP_NEXT) := reg_lit (of_decide_eq_true rfl) h (of_decide_eq_true rfl)

@[simp] theorem ev_TPLS_TP_NEXT_0  (h : 18 ∈ m.pages) (hi lo : Nat) : EvtOk m ⟨TPLS.TP_NEXT, hi, lo⟩ := evt_lit (of_decide_eq_true rfl)
    h (of_decide_eq_true rfl)

@[simp] theorem rg_TPLS_TP_QERR_0  (h : 18 ∈ m.pages) : m.reg (TPLS.TP_QERR) := reg_lit (of_decide_eq_true rfl) h (of_decide_eq_true rfl)

@[simp] theorem ev_TPLS_TP_QERR_0  (h : 18 ∈ m.pages) (hi lo : Nat) : EvtOk m ⟨TPLS.TP_QERR, hi, lo⟩ := evt_lit (of_decide_eq_true rfl)
    h (of_decide_eq_true rfl)

@[simp] theorem rg_TPLS_TP_STEP_LAST_0  (h : 18 ∈ m.pages) : m.reg (TPLS.TP_STEP_LAST) := reg_lit (of_decide_eq_true rfl) h (of_decide_eq_true rfl)

@[simp] theorem ev_TPLS_TP_STEP_LAST_0  (h : 18 ∈ m.pages) (hi lo : Nat) : EvtOk m ⟨TPLS.TP_STEP_LAST, hi, lo⟩ := evt_lit
    (of_decide_eq_true rfl) h (of_decide_eq_true rfl)

@[simp] theorem rg_YEW_PFAIL_TIME_0  (h : 6 ∈ m.pages) : m.reg (YEW.PFAIL_TIME) := reg_lit (of_decide_eq_true rfl) h (of_decide_eq_true rfl)

@[simp] theorem ev_YEW_PFAIL_TIME_0  (h : 6 ∈ m.pages) (hi lo : Nat) : EvtOk m ⟨YEW.PFAIL_TIME, hi, lo⟩ := evt_lit (by
    decide) h (of_decide_eq_true rfl)

@[simp] theorem rg_YEW_STREAM_SKIP_CNT_0  (h : 6 ∈ m.pages) : m.reg (YEW.STREAM_SKIP_CNT) := reg_lit (of_decide_eq_true rfl) h (by
    decide)

@[simp] theorem ev_YEW_STREAM_SKIP_CNT_0  (h : 6 ∈ m.pages) (hi lo : Nat) : EvtOk m ⟨YEW.STREAM_SKIP_CNT, hi, lo⟩ := evt_lit
    (of_decide_eq_true rfl) h (of_decide_eq_true rfl)

@[simp] theorem rg_YEW_YEW_EVT_0  (h : 6 ∈ m.pages) : m.reg (YEW.YEW_EVT) := reg_lit (of_decide_eq_true rfl) h (of_decide_eq_true rfl)

@[simp] theorem ev_YEW_YEW_EVT_0  (h : 6 ∈ m.pages) (hi lo : Nat) : EvtOk m ⟨YEW.YEW_EVT, hi, lo⟩ := evt_lit (of_decide_eq_true rfl) h
    (of_decide_eq_true rfl)

@[simp] theorem fa_YEW_YEW_EVT_DROP_0  (h : 6 ∈ m.pages) : m.reg (YEW.YEW_EVT.DROP).addr := rg_YEW_YEW_EVT_0 h

@[simp] theorem fe_YEW_YEW_EVT_DROP_0  (h : 6 ∈ m.pages) : EvtOk m (YEW.YEW_EVT.DROP) := ev_YEW_YEW_EVT_0 h _ _

@[simp] theorem fa_YEW_YEW_EVT_FLUSH_LATE_0  (h : 6 ∈ m.pages) : m.reg (YEW.YEW_EVT.FLUSH_LATE).addr := rg_YEW_YEW_EVT_0 h

@[simp] theorem fe_YEW_YEW_EVT_FLUSH_LATE_0  (h : 6 ∈ m.pages) : EvtOk m (YEW.YEW_EVT.FLUSH_LATE) := ev_YEW_YEW_EVT_0 h _ _

@[simp] theorem fa_YEW_YEW_EVT_KEEP_FULL_0  (h : 6 ∈ m.pages) : m.reg (YEW.YEW_EVT.KEEP_FULL).addr := rg_YEW_YEW_EVT_0 h

@[simp] theorem fe_YEW_YEW_EVT_KEEP_FULL_0  (h : 6 ∈ m.pages) : EvtOk m (YEW.YEW_EVT.KEEP_FULL) := ev_YEW_YEW_EVT_0 h _ _

@[simp] theorem fa_YEW_YEW_EVT_OVERWRITE_0  (h : 6 ∈ m.pages) : m.reg (YEW.YEW_EVT.OVERWRITE).addr := rg_YEW_YEW_EVT_0 h

@[simp] theorem fe_YEW_YEW_EVT_OVERWRITE_0  (h : 6 ∈ m.pages) : EvtOk m (YEW.YEW_EVT.OVERWRITE) := ev_YEW_YEW_EVT_0 h _ _

@[simp] theorem fa_YEW_YEW_EVT_SEV6_0  (h : 6 ∈ m.pages) : m.reg (YEW.YEW_EVT.SEV6).addr := rg_YEW_YEW_EVT_0 h

@[simp] theorem fe_YEW_YEW_EVT_SEV6_0  (h : 6 ∈ m.pages) : EvtOk m (YEW.YEW_EVT.SEV6) := ev_YEW_YEW_EVT_0 h _ _

@[simp] theorem fa_YEW_YEW_EVT_SUPPRESS_0  (h : 6 ∈ m.pages) : m.reg (YEW.YEW_EVT.SUPPRESS).addr := rg_YEW_YEW_EVT_0 h

@[simp] theorem fe_YEW_YEW_EVT_SUPPRESS_0  (h : 6 ∈ m.pages) : EvtOk m (YEW.YEW_EVT.SUPPRESS) := ev_YEW_YEW_EVT_0 h _ _

@[simp] theorem only_ite {c : Prop} [Decidable c] {a b : State} (ha : Only m s a) (hb : Only m s b) : Only m s (if c then a
    else b) := by
  split
  · exact ha
  · exact hb

@[simp] theorem overList_only {α : Type} (l : List α) (f : α → State → State) (h : Only m s u)
    (hf : ∀ x w, Only m s w → Only m s (f x w)) : Only m s (overList l f u) := by
  unfold overList
  induction l generalizing u with
  | nil => exact h
  | cons a l ih => exact ih (hf _ _ h)

@[simp] theorem foldl_only {α : Type} (l : List α) (f : State → α → State) (h : Only m s u)
    (hf : ∀ w x, Only m s w → Only m s (f w x)) : Only m s (l.foldl f u) := by
  induction l generalizing u with
  | nil => exact h
  | cons a l ih => exact ih (hf _ _ h)

theorem foldl_snd_only {α β : Type} (l : List α) (f : β × State → α → β × State) (p : β × State) (h : Only m s p.2)
    (hf : ∀ w x, Only m s w.2 → Only m s (f w x).2) : Only m s (l.foldl f p).2 := by
  induction l generalizing p with
  | nil => exact h
  | cons a l ih => exact ih _ (hf _ _ h)

theorem foldl_fst_only {α β : Type} (l : List α) (f : State × β → α → State × β) (p : State × β) (h : Only m s p.1)
    (hf : ∀ w x, Only m s w.1 → Only m s (f w x).1) : Only m s (l.foldl f p).1 := by
  induction l generalizing p with
  | nil => exact h
  | cons a l ih => exact ih _ (hf _ _ h)

@[simp] theorem State.at_only (h : Only m s u) (t : Time) (hr : Field.now ∈ m.fields) : Only m s (u.at t) := by
    simp [State.at, h, hr]

@[simp] theorem State.setReg_only (h : Only m s u) (a : Nat) (w : Word) (ha : m.reg a) (hr : Field.regs ∈ m.fields) : Only m
    s (u.setReg a w) := by simp [State.setReg, h, ha, hr]

end Sys2Proof.Machine
end

