-- ==== Sys2Proof/Laws/OnlyLane.lean ====
section
/-! SUPPORT. What the operations of the spine's shared parts and of the lanes may change, under the hypotheses that name it. -/
set_option maxRecDepth 4000
set_option linter.unusedSimpArgs false
set_option linter.unusedVariables false
namespace Sys2Proof.Machine

@[simp] theorem State.setFld_only {my : May} {z0 : State} (s : State) (f : Fld) (v : Nat) (hs : Only my z0 s) (hk : my.reg
    f.addr) (hf_regs : Field.regs ∈ my.fields := by assumption) : Only my z0 (State.setFld s f v) := by
  simp +contextual (maxDischargeDepth := 99) [State.setFld, hs, hk, hf_regs]

@[simp] theorem State.bump_only {my : May} {z0 : State} (s : State) (f : Fld) (n : Nat) (hs : Only my z0 s) (hk : my.reg
    f.addr) (hf_regs : Field.regs ∈ my.fields := by assumption) : Only my z0 (State.bump s f n) := by
  simp +contextual (maxDischargeDepth := 99) [State.bump, hs, hk, hf_regs]

@[simp] theorem State.keepMax_only {my : May} {z0 : State} (s : State) (f : Fld) (v : Nat) (hs : Only my z0 s) (hk : my.reg
    f.addr) (hf_regs : Field.regs ∈ my.fields := by assumption) : Only my z0 (State.keepMax s f v) := by
  simp +contextual (maxDischargeDepth := 99) [State.keepMax, hs, hk, hf_regs]

@[simp] theorem State.count_only {my : May} {z0 : State} (s : State) (a n : Nat) (hs : Only my z0 s) (hk : my.reg a)
    (hf_regs : Field.regs ∈ my.fields := by assumption) : Only my z0 (State.count s a n) := by
  simp +contextual (maxDischargeDepth := 99) [State.count, hs, hk, hf_regs]

@[simp] theorem State.bumpReg_only {my : May} {z0 : State} (s : State) (a n : Nat) (hs : Only my z0 s) (hk : my.reg a)
    (hf_regs : Field.regs ∈ my.fields := by assumption) : Only my z0 (State.bumpReg s a n) := by
  simp +contextual (maxDischargeDepth := 99) [State.bumpReg, hs, hk, hf_regs]

@[simp] theorem State.free_only {my : May} {z0 : State} (s : State) (hs : Only my z0 s) (hf_freeIdx : Field.freeIdx ∈
    my.fields := by assumption) : Only my z0 (State.free s).2 := by
  simp +contextual (maxDischargeDepth := 99) [State.free, hs, hf_freeIdx]

@[simp] theorem State.firstInSec_only {my : May} {z0 : State} (s : State) (key : Nat) (hs : Only my z0 s) (hf_firstSeen :
    Field.firstSeen ∈ my.fields := by assumption) : Only my z0 (s.firstInSec key).2 := by
  unfold State.firstInSec
  dsimp only
  split <;> simp [hs, hf_firstSeen]

@[simp] theorem State.setEpoch_only {my : May} {z0 : State} (s : State) (page : Nat) (e : Epoch) (hs : Only my z0 s) (hk :
    my.page page) (hf_regs : Field.regs ∈ my.fields := by assumption) : Only my z0 (State.setEpoch s page e) := by
  simp +contextual (maxDischargeDepth := 99) [State.setEpoch, hs, hk, hf_regs]

@[simp] theorem State.modHalf_only {my : May} {z0 : State} (s : State) (h : Half) (f : HalfState → HalfState) (hs : Only my
    z0 s) (hf_laurel : Field.laurel ∈ my.fields := by assumption) : Only my z0 (State.modHalf s h f) := by
  simp +contextual (maxDischargeDepth := 99) [State.modHalf, hs, hf_laurel]

@[simp] theorem State.setLaurel_only {my : May} {z0 : State} (s : State) (f : LaurelState → LaurelState) (hs : Only my z0 s)
    (hf_laurel : Field.laurel ∈ my.fields := by assumption) : Only my z0 (State.setLaurel s f) := by
  simp +contextual (maxDischargeDepth := 99) [State.setLaurel, hs, hf_laurel]

@[simp] theorem State.modLane_only {my : May} {z0 : State} (s : State) (n : LaneIx) (f : LaneState → LaneState) (hs : Only
    my z0 s) (hf_lanes : Field.lanes ∈ my.fields := by assumption) (hl_n : n ∈ my.lanes := by assumption) : Only my z0
    (State.modLane s n f) := by
  simp +contextual (maxDischargeDepth := 99) [State.modLane, hs, hf_lanes, hl_n]

@[simp] theorem State.clearBits_only {my : May} {z0 : State} (s : State) (a m : Nat) (hs : Only my z0 s) (hk : my.reg a)
    (hf_regs : Field.regs ∈ my.fields := by assumption) : Only my z0 (State.clearBits s a m) := by
  simp +contextual (maxDischargeDepth := 99) [State.clearBits, hs, hk, hf_regs]

@[simp] theorem State.setRaw_only {my : May} {z0 : State} (s : State) (page i : Nat) (hs : Only my z0 s) (hk : my.page page)
    (hf_regs : Field.regs ∈ my.fields := by assumption) (hf_hirqLow : Field.hirqLow ∈ my.fields := by assumption) : Only my
    z0 (State.setRaw s page i) := by
  simp +contextual (maxDischargeDepth := 99) [State.setRaw, hs, hk, hf_regs, hf_hirqLow]

@[simp] theorem State.setEvt_only {my : May} {z0 : State} (s : State) (f : Fld) (hs : Only my z0 s) (hk : EvtOk my f)
    (hf_regs : Field.regs ∈ my.fields := by assumption) (hf_hirqLow : Field.hirqLow ∈ my.fields := by assumption) : Only my
    z0 (State.setEvt s f) := by
  have h1 := hk.1
  have h2 : my.page (f.addr / 4096) := hk.2
  simp +contextual (maxDischargeDepth := 99) [State.setEvt, h1, h2, hs, hk, hf_regs, hf_hirqLow]

@[simp] theorem State.setFault_only {my : May} {z0 : State} (s : State) (page : Nat) (hs : Only my z0 s) (hk : my.page page)
    (hf_regs : Field.regs ∈ my.fields := by assumption) (hf_hirqLow : Field.hirqLow ∈ my.fields := by assumption) : Only my
    z0 (State.setFault s page) := by
  simp +contextual (maxDischargeDepth := 99) [State.setFault, hs, hk, hf_regs, hf_hirqLow]

@[simp] theorem State.setDrained_only {my : May} {z0 : State} (s : State) (page : Nat) (hs : Only my z0 s) (hk : my.page
    page) (hf_regs : Field.regs ∈ my.fields := by assumption) (hf_hirqLow : Field.hirqLow ∈ my.fields := by assumption) :
    Only my z0 (State.setDrained s page) := by
  simp +contextual (maxDischargeDepth := 99) [State.setDrained, hs, hk, hf_regs, hf_hirqLow]

@[simp] theorem State.clearDrained_only {my : May} {z0 : State} (s : State) (page : Nat) (hs : Only my z0 s) (hk : my.page
    page) (hf_regs : Field.regs ∈ my.fields := by assumption) : Only my z0 (State.clearDrained s page) := by
  simp +contextual (maxDischargeDepth := 99) [State.clearDrained, hs, hk, hf_regs]

@[simp] theorem State.err_only {my : May} {z0 : State} (s : State) (page off : Nat) (c : ErrCode) (hs : Only my z0 s) (hk :
    my.page page) (hf_regs : Field.regs ∈ my.fields := by assumption) : Only my z0 (State.err s page off c) := by
  simp +contextual (maxDischargeDepth := 99) [State.err, hs, hk, hf_regs]

@[simp] theorem State.modCopy_only {my : May} {z0 : State} (s : State) (h : Half) (f : YewCopy → YewCopy) (hs : Only my z0
    s) (hf_yew : Field.yew ∈ my.fields := by assumption) : Only my z0 (State.modCopy s h f) := by
  simp +contextual (maxDischargeDepth := 99) [State.modCopy, hs, hf_yew]

@[simp] theorem State.recHalf_only {my : May} {z0 : State} (s : State) (h : Half) (c : RecCode) (page : Nat) (a0 a1 a2 :
    Word) (hs : Only my z0 s) (hf_regs : Field.regs ∈ my.fields := by assumption) (hf_yew : Field.yew ∈ my.fields := by
    assumption) (hf_hirqLow : Field.hirqLow ∈ my.fields := by assumption) (hp_6 : 6 ∈ my.pages := by assumption) : Only my
    z0 (State.recHalf s h c page a0 a1 a2) := by
  unfold State.recHalf
  dsimp only
  (repeat' split) <;> simp +contextual (maxDischargeDepth := 99) [hs, hf_regs, hf_yew, hf_hirqLow, hp_6]

@[simp] theorem State.faultFor_only {my : May} {z0 : State} (s : State) (c : RecCode) (page : Nat) (hs : Only my z0 s) (hk :
    my.page page) (hf_regs : Field.regs ∈ my.fields := by assumption) (hf_hirqLow : Field.hirqLow ∈ my.fields := by
    assumption) : Only my z0 (State.faultFor s c page) := by
  simp +contextual (maxDischargeDepth := 99) [State.faultFor, hs, hk, hf_regs, hf_hirqLow]

@[simp] theorem State.record_only {my : May} {z0 : State} (s : State) (c : RecCode) (page : Nat) (a0 a1 a2 : Word) (hs :
    Only my z0 s) (hk : my.page page) (hf_regs : Field.regs ∈ my.fields := by assumption) (hf_yew : Field.yew ∈ my.fields :=
    by assumption) (hf_hirqLow : Field.hirqLow ∈ my.fields := by assumption) (hp_6 : 6 ∈ my.pages := by assumption) : Only
    my z0 (State.record s c page a0 a1 a2) := by
  simp +contextual (maxDischargeDepth := 99) [State.record, hs, hk, hf_regs, hf_yew, hf_hirqLow, hp_6]

@[simp] theorem State.recordOwn_only {my : May} {z0 : State} (s : State) (h : Half) (c : RecCode) (page : Nat) (a0 a1 a2 :
    Word) (hs : Only my z0 s) (hk : my.page page) (hf_regs : Field.regs ∈ my.fields := by assumption) (hf_yew : Field.yew ∈
    my.fields := by assumption) (hf_hirqLow : Field.hirqLow ∈ my.fields := by assumption) (hp_6 : 6 ∈ my.pages := by
    assumption) : Only my z0 (State.recordOwn s h c page a0 a1 a2) := by
  simp +contextual (maxDischargeDepth := 99) [State.recordOwn, hs, hk, hf_regs, hf_yew, hf_hirqLow, hp_6]

@[simp] theorem State.recordFirst_only {my : May} {z0 : State} (s : State) (c : RecCode) (sub page : Nat) (a0 a1 a2 : Word)
    (hs : Only my z0 s) (hk : my.page page) (hf_regs : Field.regs ∈ my.fields := by assumption) (hf_firstSeen :
    Field.firstSeen ∈ my.fields := by assumption) (hf_yew : Field.yew ∈ my.fields := by assumption) (hf_hirqLow :
    Field.hirqLow ∈ my.fields := by assumption) (hp_6 : 6 ∈ my.pages := by assumption) :
    Only my z0 (s.recordFirst c sub page a0 a1 a2) := by
  unfold State.recordFirst
  have k := State.firstInSec_only s (recKey c sub) hs
  revert k
  rcases s.firstInSec (recKey c sub) with ⟨b, u⟩
  intro k
  cases b
  · exact k
  · exact State.record_only u c page a0 a1 a2 k hk

@[simp] theorem State.toState_only {my : May} {z0 : State} (s : State) (d : DevState) (hs : Only my z0 s) (hf_dev :
    Field.dev ∈ my.fields := by assumption) (hf_prev : Field.prev ∈ my.fields := by assumption) (hf_devAt : Field.devAt ∈
    my.fields := by assumption) (hf_devLog : Field.devLog ∈ my.fields := by assumption) (hf_regs : Field.regs ∈ my.fields :=
    by assumption) (hf_yew : Field.yew ∈ my.fields := by assumption) (hf_hirqLow : Field.hirqLow ∈ my.fields := by
    assumption) (hp_0 : 0 ∈ my.pages := by assumption) (hp_6 : 6 ∈ my.pages := by assumption) : Only my z0 (s.toState d) :=
    by
  unfold State.toState
  dsimp only
  simp +contextual (maxDischargeDepth := 99) [hs, hf_dev, hf_prev, hf_devAt, hf_devLog, hf_regs, hf_yew, hf_hirqLow, hp_0,
      hp_6]

@[simp] theorem State.modDn_only {my : May} {z0 : State} (s : State) (n : LaneIx) (f : LinkDir → LinkDir) (hs : Only my z0
    s) (hf_lanes : Field.lanes ∈ my.fields := by assumption) (hl_n : n ∈ my.lanes := by assumption) : Only my z0
    (State.modDn s n f) := by
  simp +contextual (maxDischargeDepth := 99) [State.modDn, hs, hf_lanes, hl_n]

@[simp] theorem State.modUp_only {my : May} {z0 : State} (s : State) (n : LaneIx) (f : LinkDir → LinkDir) (hs : Only my z0
    s) (hf_lanes : Field.lanes ∈ my.fields := by assumption) (hl_n : n ∈ my.lanes := by assumption) : Only my z0
    (State.modUp s n f) := by
  simp +contextual (maxDischargeDepth := 99) [State.modUp, hs, hf_lanes, hl_n]

@[simp] theorem State.pumpUp_only {my : May} {z0 : State} (s : State) (n : LaneIx) (hs : Only my z0 s) (hf_lanes :
    Field.lanes ∈ my.fields := by assumption) (hl_n : n ∈ my.lanes := by assumption) : Only my z0 (State.pumpUp s n) := by
  simp +contextual (maxDischargeDepth := 99) [State.pumpUp, hs, hf_lanes, hl_n]

@[simp] theorem State.pumpDn_only {my : May} {z0 : State} (s : State) (n : LaneIx) (hs : Only my z0 s) (hf_regs : Field.regs
    ∈ my.fields := by assumption) (hf_lanes : Field.lanes ∈ my.fields := by assumption) (hl_n : n ∈ my.lanes := by
    assumption) : Only my z0 (State.pumpDn s n) := by
  simp +contextual (maxDischargeDepth := 99) [State.pumpDn, hs, hf_regs, hf_lanes, hl_n]

@[simp] theorem State.sendUp_only {my : May} {z0 : State} (s : State) (n : LaneIx) (typ : Nat) (p : Word) (hs : Only my z0
    s) (hf_lanes : Field.lanes ∈ my.fields := by assumption) (hl_n : n ∈ my.lanes := by assumption) : Only my z0
    (State.sendUp s n typ p) := by
  simp +contextual (maxDischargeDepth := 99) [State.sendUp, hs, hf_lanes, hl_n]

@[simp] theorem State.sendDn_only {my : May} {z0 : State} (s : State) (n : LaneIx) (fs : List (Nat × Word)) (hs : Only my z0
    s) (hf_regs : Field.regs ∈ my.fields := by assumption) (hf_lanes : Field.lanes ∈ my.fields := by assumption) (hl_n : n ∈
    my.lanes := by assumption) : Only my z0 (State.sendDn s n fs).2 := by
  unfold State.sendDn
  dsimp only
  (repeat' split) <;> simp +contextual (maxDischargeDepth := 99) [hs, hf_regs, hf_lanes, hl_n]

@[simp] theorem State.pumpHalf_only {my : May} {z0 : State} (s : State) (n : LaneIx) (hs : Only my z0 s) (hf_regs :
    Field.regs ∈ my.fields := by assumption) (hf_lanes : Field.lanes ∈ my.fields := by assumption) (hl_n : n ∈ my.lanes :=
    by assumption) : Only my z0 (State.pumpHalf s n) := by
  simp +contextual (maxDischargeDepth := 99) [State.pumpHalf, hs, hf_regs, hf_lanes, hl_n]

@[simp] theorem State.sendOne_only {my : May} {z0 : State} (s : State) (n : LaneIx) (typ : Nat) (p : Word) (hs : Only my z0
    s) (hf_regs : Field.regs ∈ my.fields := by assumption) (hf_lanes : Field.lanes ∈ my.fields := by assumption) (hl_n : n ∈
    my.lanes := by assumption) : Only my z0 (State.sendOne s n typ p) := by
  simp +contextual (maxDischargeDepth := 99) [State.sendOne, hs, hf_regs, hf_lanes, hl_n]

@[simp] theorem State.linkFault_only {my : May} {z0 : State} (s : State) (n : LaneIx) (hs : Only my z0 s) (hf_regs :
    Field.regs ∈ my.fields := by assumption) (hf_hirqLow : Field.hirqLow ∈ my.fields := by assumption) (hf_lanes :
    Field.lanes ∈ my.fields := by assumption) (hl_n : n ∈ my.lanes := by assumption) : Only my z0 (State.linkFault s n) :=
    by
  simp +contextual (maxDischargeDepth := 99) [State.linkFault, hs, hf_regs, hf_hirqLow, hf_lanes, hl_n]

@[simp] theorem State.resendDn_only {my : May} {z0 : State} (s : State) (n : LaneIx) (q : BitVec 4) (hs : Only my z0 s)
    (hf_regs : Field.regs ∈ my.fields := by assumption) (hf_hirqLow : Field.hirqLow ∈ my.fields := by assumption) (hf_lanes
    : Field.lanes ∈ my.fields := by assumption) (hl_n : n ∈ my.lanes := by assumption) : Only my z0 (State.resendDn s n q)
    := by
  simp +contextual (maxDischargeDepth := 99) [State.resendDn, hs, hf_regs, hf_hirqLow, hf_lanes, hl_n]

@[simp] theorem State.resendUp_only {my : May} {z0 : State} (s : State) (n : LaneIx) (q : BitVec 4) (hs : Only my z0 s)
    (hf_lanes : Field.lanes ∈ my.fields := by assumption) (hl_n : n ∈ my.lanes := by assumption) : Only my z0
    (State.resendUp s n q) := by
  simp +contextual (maxDischargeDepth := 99) [State.resendUp, hs, hf_lanes, hl_n]

@[simp] theorem State.resendDir_only {my : May} {z0 : State} (s : State) (n : LaneIx) (d : Dir) (q : BitVec 4) (hs : Only my
    z0 s) (hf_regs : Field.regs ∈ my.fields := by assumption) (hf_hirqLow : Field.hirqLow ∈ my.fields := by assumption)
    (hf_lanes : Field.lanes ∈ my.fields := by assumption) (hl_n : n ∈ my.lanes := by assumption) : Only my z0
    (State.resendDir s n d q) := by
  unfold State.resendDir
  (repeat' split) <;> simp_all +contextual (maxDischargeDepth := 99)

@[simp] theorem State.pumpDir_only {my : May} {z0 : State} (s : State) (n : LaneIx) (d : Dir) (hs : Only my z0 s) (hf_regs :
    Field.regs ∈ my.fields := by assumption) (hf_lanes : Field.lanes ∈ my.fields := by assumption) (hl_n : n ∈ my.lanes :=
    by assumption) : Only my z0 (State.pumpDir s n d) := by
  unfold State.pumpDir
  (repeat' split) <;> simp_all +contextual (maxDischargeDepth := 99)

@[simp] theorem State.release_only {my : May} {z0 : State} (s : State) (n : LaneIx) (d : Dir) (q : BitVec 4) (hs : Only my
    z0 s) (hf_lanes : Field.lanes ∈ my.fields := by assumption) (hl_n : n ∈ my.lanes := by assumption) : Only my z0
    (State.release s n d q) := by
  unfold State.release
  (repeat' split) <;> simp_all +contextual (maxDischargeDepth := 99)

@[simp] theorem State.ackDir_only {my : May} {z0 : State} (s : State) (n : LaneIx) (d : Dir) (q : BitVec 4) (hs : Only my z0
    s) (hf_regs : Field.regs ∈ my.fields := by assumption) (hf_lanes : Field.lanes ∈ my.fields := by assumption) (hl_n : n ∈
    my.lanes := by assumption) : Only my z0 (State.ackDir s n d q) := by
  simp +contextual (maxDischargeDepth := 99) [State.ackDir, hs, hf_regs, hf_lanes, hl_n]

@[simp] theorem State.nakDir_only {my : May} {z0 : State} (s : State) (n : LaneIx) (d : Dir) (q : BitVec 4) (hs : Only my z0
    s) (hf_regs : Field.regs ∈ my.fields := by assumption) (hf_hirqLow : Field.hirqLow ∈ my.fields := by assumption)
    (hf_lanes : Field.lanes ∈ my.fields := by assumption) (hl_n : n ∈ my.lanes := by assumption) : Only my z0 (State.nakDir
    s n d q) := by
  simp +contextual (maxDischargeDepth := 99) [State.nakDir, hs, hf_regs, hf_hirqLow, hf_lanes, hl_n]

@[simp] theorem State.sendLink_only {my : May} {z0 : State} (s : State) (n : LaneIx) (d : Dir) (typ : Nat) (hs : Only my z0
    s) (hf_regs : Field.regs ∈ my.fields := by assumption) (hf_lanes : Field.lanes ∈ my.fields := by assumption) (hl_n : n ∈
    my.lanes := by assumption) : Only my z0 (State.sendLink s n d typ) := by
  unfold State.sendLink
  dsimp only
  (repeat' split) <;> simp +contextual (maxDischargeDepth := 99) [hs, hf_regs, hf_lanes, hl_n]

@[simp] theorem State.discardDn_only {my : May} {z0 : State} (s : State) (n : LaneIx) (hs : Only my z0 s) (hf_regs :
    Field.regs ∈ my.fields := by assumption) (hf_lanes : Field.lanes ∈ my.fields := by assumption) (hl_n : n ∈ my.lanes :=
    by assumption) : Only my z0 (State.discardDn s n) := by
  simp +contextual (maxDischargeDepth := 99) [State.discardDn, hs, hf_regs, hf_lanes, hl_n]

@[simp] theorem State.discardUp_only {my : May} {z0 : State} (s : State) (n : LaneIx) (badCrc : Bool) (hs : Only my z0 s)
    (hf_regs : Field.regs ∈ my.fields := by assumption) (hf_lanes : Field.lanes ∈ my.fields := by assumption) (hl_n : n ∈
    my.lanes := by assumption) : Only my z0 (State.discardUp s n badCrc) := by
  simp +contextual (maxDischargeDepth := 99) [State.discardUp, hs, hf_regs, hf_lanes, hl_n]

@[simp] theorem State.dnAccepted_only {my : May} {z0 : State} (s : State) (n : LaneIx) (e : Epoch) (portIdle : Bool) (hs :
    Only my z0 s) (hf_lanes : Field.lanes ∈ my.fields := by assumption) (hl_n : n ∈ my.lanes := by assumption) : Only my z0
    (State.dnAccepted s n e portIdle) := by
  unfold State.dnAccepted
  dsimp only
  (repeat' split) <;> simp +contextual (maxDischargeDepth := 99) [hs, hf_lanes, hl_n]

@[simp] theorem State.rxDn_only {my : May} {z0 : State} (s : State) (n : LaneIx) (f : Flit) (hs : Only my z0 s) (hf_regs :
    Field.regs ∈ my.fields := by assumption) (hf_lanes : Field.lanes ∈ my.fields := by assumption) (hl_n : n ∈ my.lanes :=
    by assumption) : Only my z0 (State.rxDn s n f).2 := by
  unfold State.rxDn
  (repeat' split) <;> simp_all +contextual (maxDischargeDepth := 99)

@[simp] theorem State.rxUp_only {my : May} {z0 : State} (s : State) (n : LaneIx) (f : Flit) (hs : Only my z0 s) (hf_regs :
    Field.regs ∈ my.fields := by assumption) (hf_lanes : Field.lanes ∈ my.fields := by assumption) (hl_n : n ∈ my.lanes :=
    by assumption) : Only my z0 (State.rxUp s n f).2 := by
  unfold State.rxUp
  (repeat' split) <;> simp_all +contextual (maxDischargeDepth := 99)

@[simp] theorem State.modBank_only {my : May} {z0 : State} (s : State) (n : LaneIx) (f : BankState → BankState) (hs : Only
    my z0 s) (hf_banks : Field.banks ∈ my.fields := by assumption) (hl_n : n ∈ my.lanes := by assumption) : Only my z0
    (State.modBank s n f) := by
  simp +contextual (maxDischargeDepth := 99) [State.modBank, hs, hf_banks, hl_n]

@[simp] theorem State.modOut_only {my : May} {z0 : State} (s : State) (n : LaneIx) (k : OutIx) (f : OutletState →
    OutletState) (hs : Only my z0 s) (hf_banks : Field.banks ∈ my.fields := by assumption) (hl_n : n ∈ my.lanes := by
    assumption) : Only my z0 (State.modOut s n k f) := by
  simp +contextual (maxDischargeDepth := 99) [State.modOut, hs, hf_banks, hl_n]

@[simp] theorem State.modDet_only {my : May} {z0 : State} (s : State) (n : LaneIx) (k : OutIx) (f : DetState → DetState) (hs
    : Only my z0 s) (hf_banks : Field.banks ∈ my.fields := by assumption) (hl_n : n ∈ my.lanes := by assumption) : Only my
    z0 (State.modDet s n k f) := by
  simp +contextual (maxDischargeDepth := 99) [State.modDet, hs, hf_banks, hl_n]

@[simp] theorem State.sendDly_only {my : May} {z0 : State} (s : State) (n : LaneIx) (k : OutIx) (off : Bool) (v : Nat) (hs :
    Only my z0 s) (hf_lanes : Field.lanes ∈ my.fields := by assumption) (hl_n : n ∈ my.lanes := by assumption) : Only my z0
    (State.sendDly s n k off v) := by
  simp +contextual (maxDischargeDepth := 99) [State.sendDly, hs, hf_lanes, hl_n]

@[simp] theorem State.publish_only {my : May} {z0 : State} (s : State) (n : LaneIx) (hs : Only my z0 s) (hf_lanes :
    Field.lanes ∈ my.fields := by assumption) (hf_banks : Field.banks ∈ my.fields := by assumption) (hl_n : n ∈ my.lanes :=
    by assumption) : Only my z0 (State.publish s n) := by
  simp +contextual (maxDischargeDepth := 99) [State.publish, hs, hf_lanes, hf_banks, hl_n]

@[simp] theorem State.sendMotion_only {my : May} {z0 : State} (s : State) (n : LaneIx) (k : OutIx) (closing : Bool) (kind :
    Nat) (act learned : Bool) (delay : Nat) (tm : Time) (hs : Only my z0 s) (hf_lanes : Field.lanes ∈ my.fields := by
    assumption) (hl_n : n ∈ my.lanes := by assumption) : Only my z0 (State.sendMotion s n k closing kind act learned delay
    tm) := by
  simp +contextual (maxDischargeDepth := 99) [State.sendMotion, hs, hf_lanes, hl_n]

@[simp] theorem State.estClosing_only {my : May} {z0 : State} (s : State) (n : LaneIx) (k : OutIx) (res : Nat) (tm : Time)
    (hs : Only my z0 s) (hf_lanes : Field.lanes ∈ my.fields := by assumption) (hf_banks : Field.banks ∈ my.fields := by
    assumption) (hl_n : n ∈ my.lanes := by assumption) : Only my z0 (State.estClosing s n k res tm) := by
  simp +contextual (maxDischargeDepth := 99) [State.estClosing, hs, hf_lanes, hf_banks, hl_n]

@[simp] theorem State.wearUpdate_only {my : May} {z0 : State} (s : State) (n : LaneIx) (k : OutIx) (hs : Only my z0 s)
    (hf_regs : Field.regs ∈ my.fields := by assumption) (hf_yew : Field.yew ∈ my.fields := by assumption) (hf_hirqLow :
    Field.hirqLow ∈ my.fields := by assumption) (hf_banks : Field.banks ∈ my.fields := by assumption) (hp_6 : 6 ∈ my.pages
    := by assumption) (hl_n : n ∈ my.lanes := by assumption) : Only my z0 (State.wearUpdate s n k) := by
  simp +contextual (maxDischargeDepth := 99) [State.wearUpdate, hs, hf_regs, hf_yew, hf_hirqLow, hf_banks, hp_6, hl_n]

@[simp] theorem State.learn_only {my : May} {z0 : State} (s : State) (n : LaneIx) (k : OutIx) (off : Bool) (x : Nat) (hs :
    Only my z0 s) (hf_regs : Field.regs ∈ my.fields := by assumption) (hf_yew : Field.yew ∈ my.fields := by assumption)
    (hf_hirqLow : Field.hirqLow ∈ my.fields := by assumption) (hf_lanes : Field.lanes ∈ my.fields := by assumption)
    (hf_banks : Field.banks ∈ my.fields := by assumption) (hp_6 : 6 ∈ my.pages := by assumption) (hl_n : n ∈ my.lanes := by
    assumption) : Only my z0 (State.learn s n k off x) := by
  simp +contextual (maxDischargeDepth := 99) [State.learn, hs, hf_regs, hf_yew, hf_hirqLow, hf_lanes, hf_banks, hp_6, hl_n]

@[simp] theorem State.openFound_only {my : May} {z0 : State} (s : State) (n : LaneIx) (k : OutIx) (tm : Time) (hs : Only my
    z0 s) (hf_regs : Field.regs ∈ my.fields := by assumption) (hf_yew : Field.yew ∈ my.fields := by assumption) (hf_hirqLow
    : Field.hirqLow ∈ my.fields := by assumption) (hf_lanes : Field.lanes ∈ my.fields := by assumption) (hf_banks :
    Field.banks ∈ my.fields := by assumption) (hp_6 : 6 ∈ my.pages := by assumption) (hl_n : n ∈ my.lanes := by assumption)
    : Only my z0 (State.openFound s n k tm) := by
  simp +contextual (maxDischargeDepth := 99) [State.openFound, hs, hf_regs, hf_yew, hf_hirqLow, hf_lanes, hf_banks, hp_6,
      hl_n]

@[simp] theorem State.openNotFound_only {my : May} {z0 : State} (s : State) (n : LaneIx) (k : OutIx) (hs : Only my z0 s)
    (hf_regs : Field.regs ∈ my.fields := by assumption) (hf_firstSeen : Field.firstSeen ∈ my.fields := by assumption)
    (hf_yew : Field.yew ∈ my.fields := by assumption) (hf_hirqLow : Field.hirqLow ∈ my.fields := by assumption) (hf_lanes :
    Field.lanes ∈ my.fields := by assumption) (hf_banks : Field.banks ∈ my.fields := by assumption) (hp_6 : 6 ∈ my.pages :=
    by assumption) (hl_n : n ∈ my.lanes := by assumption) : Only my z0 (State.openNotFound s n k) := by
  simp +contextual (maxDischargeDepth := 99) [State.openNotFound, hs, hf_regs, hf_firstSeen, hf_yew, hf_hirqLow, hf_lanes,
      hf_banks, hp_6, hl_n]

@[simp] theorem State.closeFound_only {my : May} {z0 : State} (s : State) (n : LaneIx) (k : OutIx) (tm : Time) (hs : Only my
    z0 s) (hf_regs : Field.regs ∈ my.fields := by assumption) (hf_yew : Field.yew ∈ my.fields := by assumption) (hf_hirqLow
    : Field.hirqLow ∈ my.fields := by assumption) (hf_lanes : Field.lanes ∈ my.fields := by assumption) (hf_banks :
    Field.banks ∈ my.fields := by assumption) (hp_6 : 6 ∈ my.pages := by assumption) (hl_n : n ∈ my.lanes := by assumption)
    : Only my z0 (State.closeFound s n k tm) := by
  simp +contextual (maxDischargeDepth := 99) [State.closeFound, hs, hf_regs, hf_yew, hf_hirqLow, hf_lanes, hf_banks, hp_6,
      hl_n]

@[simp] theorem State.closeNotFound_only {my : May} {z0 : State} (s : State) (n : LaneIx) (k : OutIx) (hs : Only my z0 s)
    (hf_regs : Field.regs ∈ my.fields := by assumption) (hf_firstSeen : Field.firstSeen ∈ my.fields := by assumption)
    (hf_yew : Field.yew ∈ my.fields := by assumption) (hf_hirqLow : Field.hirqLow ∈ my.fields := by assumption) (hf_lanes :
    Field.lanes ∈ my.fields := by assumption) (hf_banks : Field.banks ∈ my.fields := by assumption) (hp_6 : 6 ∈ my.pages :=
    by assumption) (hl_n : n ∈ my.lanes := by assumption) : Only my z0 (State.closeNotFound s n k) := by
  simp +contextual (maxDischargeDepth := 99) [State.closeNotFound, hs, hf_regs, hf_firstSeen, hf_yew, hf_hirqLow, hf_lanes,
      hf_banks, hp_6, hl_n]

@[simp] theorem State.openingStart_only {my : May} {z0 : State} (s : State) (n : LaneIx) (k : OutIx) (t : Time) (act search
    : Bool) (hs : Only my z0 s) (hf_lanes : Field.lanes ∈ my.fields := by assumption) (hf_banks : Field.banks ∈ my.fields :=
    by assumption) (hl_n : n ∈ my.lanes := by assumption) : Only my z0 (State.openingStart s n k t act search) := by
  simp +contextual (maxDischargeDepth := 99) [State.openingStart, hs, hf_lanes, hf_banks, hl_n]

@[simp] theorem State.closingStart_only {my : May} {z0 : State} (s : State) (n : LaneIx) (k : OutIx) (t : Time) (act : Bool)
    (hs : Only my z0 s) (hf_regs : Field.regs ∈ my.fields := by assumption) (hf_firstSeen : Field.firstSeen ∈ my.fields :=
    by assumption) (hf_yew : Field.yew ∈ my.fields := by assumption) (hf_hirqLow : Field.hirqLow ∈ my.fields := by
    assumption) (hf_lanes : Field.lanes ∈ my.fields := by assumption) (hf_banks : Field.banks ∈ my.fields := by assumption)
    (hp_6 : 6 ∈ my.pages := by assumption) (hl_n : n ∈ my.lanes := by assumption) : Only my z0 (State.closingStart s n k t
    act) := by
  simp +contextual (maxDischargeDepth := 99) [State.closingStart, hs, hf_regs, hf_firstSeen, hf_yew, hf_hirqLow, hf_lanes,
      hf_banks, hp_6, hl_n]

@[simp] theorem State.detDecayEnd_only {my : May} {z0 : State} (s : State) (n : LaneIx) (k : OutIx) (t : Time) (bad : Bool)
    (hs : Only my z0 s) (hf_banks : Field.banks ∈ my.fields := by assumption) (hl_n : n ∈ my.lanes := by assumption) : Only
    my z0 (State.detDecayEnd s n k t bad) := by
  simp +contextual (maxDischargeDepth := 99) [State.detDecayEnd, hs, hf_banks, hl_n]

@[simp] theorem State.detShutdown_only {my : May} {z0 : State} (s : State) (n : LaneIx) (k : OutIx) (wasOpen : Bool) (hs :
    Only my z0 s) (hf_banks : Field.banks ∈ my.fields := by assumption) (hl_n : n ∈ my.lanes := by assumption) : Only my z0
    (State.detShutdown s n k wasOpen) := by
  simp +contextual (maxDischargeDepth := 99) [State.detShutdown, hs, hf_banks, hl_n]

@[simp] theorem State.alreadyClosed_only {my : May} {z0 : State} (s : State) (n : LaneIx) (k : OutIx) (hs : Only my z0 s)
    (hf_lanes : Field.lanes ∈ my.fields := by assumption) (hf_banks : Field.banks ∈ my.fields := by assumption) (hl_n : n ∈
    my.lanes := by assumption) : Only my z0 (State.alreadyClosed s n k) := by
  simp +contextual (maxDischargeDepth := 99) [State.alreadyClosed, hs, hf_lanes, hf_banks, hl_n]

@[simp] theorem State.sealHarebell_only {my : May} {z0 : State} (s : State) (n : LaneIx) (hs : Only my z0 s) (hf_regs :
    Field.regs ∈ my.fields := by assumption) (hf_yew : Field.yew ∈ my.fields := by assumption) (hf_hirqLow : Field.hirqLow ∈
    my.fields := by assumption) (hf_lanes : Field.lanes ∈ my.fields := by assumption) (hf_banks : Field.banks ∈ my.fields :=
    by assumption) (hp_6 : 6 ∈ my.pages := by assumption) (hl_n : n ∈ my.lanes := by assumption) : Only my z0
    (State.sealHarebell s n) := by
  simp +contextual (maxDischargeDepth := 99) [State.sealHarebell, hs, hf_regs, hf_yew, hf_hirqLow, hf_lanes, hf_banks, hp_6,
      hl_n]

@[simp] theorem State.setPulse_only {my : May} {z0 : State} (s : State) (n : LaneIx) (k : OutIx) (p : Int) (hs : Only my z0
    s) (hf_regs : Field.regs ∈ my.fields := by assumption) (hf_hirqLow : Field.hirqLow ∈ my.fields := by assumption)
    (hf_banks : Field.banks ∈ my.fields := by assumption) (hl_n : n ∈ my.lanes := by assumption) : Only my z0
    (State.setPulse s n k p) := by
  simp +contextual (maxDischargeDepth := 99) [State.setPulse, hs, hf_regs, hf_hirqLow, hf_banks, hl_n]

@[simp] theorem State.feed_only {my : May} {z0 : State} (s : State) (n : LaneIx) (k : OutIx) (sm : List Sample) (hs : Only
    my z0 s) (hf_banks : Field.banks ∈ my.fields := by assumption) (hl_n : n ∈ my.lanes := by assumption) : Only my z0
    (State.feed s n k sm) := by
  simp +contextual (maxDischargeDepth := 99) [State.feed, hs, hf_banks, hl_n]

@[simp] theorem State.evalHs_only {my : May} {z0 : State} (s : State) (n : LaneIx) (hs : Only my z0 s) (hf_regs : Field.regs
    ∈ my.fields := by assumption) (hf_hirqLow : Field.hirqLow ∈ my.fields := by assumption) (hf_banks : Field.banks ∈
    my.fields := by assumption) (hl_n : n ∈ my.lanes := by assumption) : Only my z0 (State.evalHs s n) := by
  simp +contextual (maxDischargeDepth := 99) [State.evalHs, hs, hf_regs, hf_hirqLow, hf_banks, hl_n]

@[simp] theorem State.decayFrom_only {my : May} {z0 : State} (s : State) (n : LaneIx) (k : OutIx) (d : DecayKind) (y :
    Style) (t : Time) (hs : Only my z0 s) (hf_regs : Field.regs ∈ my.fields := by assumption) (hf_hirqLow : Field.hirqLow ∈
    my.fields := by assumption) (hf_banks : Field.banks ∈ my.fields := by assumption) (hl_n : n ∈ my.lanes := by assumption)
    : Only my z0 (State.decayFrom s n k d y t) := by
  simp +contextual (maxDischargeDepth := 99) [State.decayFrom, hs, hf_regs, hf_hirqLow, hf_banks, hl_n]

@[simp] theorem State.startDecay_only {my : May} {z0 : State} (s : State) (n : LaneIx) (k : OutIx) (d : DecayKind) (y :
    Style) (hs : Only my z0 s) (hf_regs : Field.regs ∈ my.fields := by assumption) (hf_hirqLow : Field.hirqLow ∈ my.fields
    := by assumption) (hf_banks : Field.banks ∈ my.fields := by assumption) (hl_n : n ∈ my.lanes := by assumption) : Only my
    z0 (State.startDecay s n k d y) := by
  simp +contextual (maxDischargeDepth := 99) [State.startDecay, hs, hf_regs, hf_hirqLow, hf_banks, hl_n]

@[simp] theorem State.lgOn_only {my : May} {z0 : State} (s : State) (n : LaneIx) (k : OutIx) (hs : Only my z0 s) (hf_banks :
    Field.banks ∈ my.fields := by assumption) (hl_n : n ∈ my.lanes := by assumption) : Only my z0 (State.lgOn s n k) := by
  simp +contextual (maxDischargeDepth := 99) [State.lgOn, hs, hf_banks, hl_n]

@[simp] theorem State.settleProp_only {my : May} {z0 : State} (s : State) (n : LaneIx) (k : OutIx) (hs : Only my z0 s)
    (hf_regs : Field.regs ∈ my.fields := by assumption) (hf_hirqLow : Field.hirqLow ∈ my.fields := by assumption) (hf_banks
    : Field.banks ∈ my.fields := by assumption) (hl_n : n ∈ my.lanes := by assumption) : Only my z0 (State.settleProp s n k)
    := by
  simp +contextual (maxDischargeDepth := 99) [State.settleProp, hs, hf_regs, hf_hirqLow, hf_banks, hl_n]

@[simp] theorem State.settleBank_only {my : May} {z0 : State} (s : State) (n : LaneIx) (hs : Only my z0 s) (hf_regs :
    Field.regs ∈ my.fields := by assumption) (hf_hirqLow : Field.hirqLow ∈ my.fields := by assumption) (hf_banks :
    Field.banks ∈ my.fields := by assumption) (hl_n : n ∈ my.lanes := by assumption) : Only my z0 (State.settleBank s n) :=
    by
  simp +contextual (maxDischargeDepth := 99) [State.settleBank, hs, hf_regs, hf_hirqLow, hf_banks, hl_n]

@[simp] theorem State.propStart_only {my : May} {z0 : State} (s : State) (n : LaneIx) (k : OutIx) (t : Time) (hs : Only my
    z0 s) (hf_regs : Field.regs ∈ my.fields := by assumption) (hf_hirqLow : Field.hirqLow ∈ my.fields := by assumption)
    (hf_banks : Field.banks ∈ my.fields := by assumption) (hl_n : n ∈ my.lanes := by assumption) : Only my z0
    (State.propStart s n k t) := by
  simp +contextual (maxDischargeDepth := 99) [State.propStart, hs, hf_regs, hf_hirqLow, hf_banks, hl_n]

@[simp] theorem State.releasePeak_only {my : May} {z0 : State} (s : State) (n : LaneIx) (k : OutIx) (hs : Only my z0 s)
    (hf_banks : Field.banks ∈ my.fields := by assumption) (hl_n : n ∈ my.lanes := by assumption) : Only my z0
    (State.releasePeak s n k) := by
  simp +contextual (maxDischargeDepth := 99) [State.releasePeak, hs, hf_banks, hl_n]

@[simp] theorem State.beginOff_only {my : May} {z0 : State} (s : State) (n : LaneIx) (k : OutIx) (afterPulse cont : Bool)
    (hs : Only my z0 s) (hf_regs : Field.regs ∈ my.fields := by assumption) (hf_hirqLow : Field.hirqLow ∈ my.fields := by
    assumption) (hf_banks : Field.banks ∈ my.fields := by assumption) (hl_n : n ∈ my.lanes := by assumption) : Only my z0
    (State.beginOff s n k afterPulse cont) := by
  simp +contextual (maxDischargeDepth := 99) [State.beginOff, hs, hf_regs, hf_hirqLow, hf_banks, hl_n]

@[simp] theorem State.turnOff_only {my : May} {z0 : State} (s : State) (n : LaneIx) (k : OutIx) (afterPulse act cont : Bool)
    (hs : Only my z0 s) (hf_regs : Field.regs ∈ my.fields := by assumption) (hf_firstSeen : Field.firstSeen ∈ my.fields :=
    by assumption) (hf_yew : Field.yew ∈ my.fields := by assumption) (hf_hirqLow : Field.hirqLow ∈ my.fields := by
    assumption) (hf_lanes : Field.lanes ∈ my.fields := by assumption) (hf_banks : Field.banks ∈ my.fields := by assumption)
    (hp_6 : 6 ∈ my.pages := by assumption) (hl_n : n ∈ my.lanes := by assumption) : Only my z0 (State.turnOff s n k
    afterPulse act cont) := by
  simp +contextual (maxDischargeDepth := 99) [State.turnOff, hs, hf_regs, hf_firstSeen, hf_yew, hf_hirqLow, hf_lanes,
      hf_banks, hp_6, hl_n]

@[simp] theorem State.restOutlet_only {my : May} {z0 : State} (s : State) (n : LaneIx) (k : OutIx) (hs : Only my z0 s)
    (hf_regs : Field.regs ∈ my.fields := by assumption) (hf_firstSeen : Field.firstSeen ∈ my.fields := by assumption)
    (hf_yew : Field.yew ∈ my.fields := by assumption) (hf_hirqLow : Field.hirqLow ∈ my.fields := by assumption) (hf_lanes :
    Field.lanes ∈ my.fields := by assumption) (hf_banks : Field.banks ∈ my.fields := by assumption) (hp_6 : 6 ∈ my.pages :=
    by assumption) (hl_n : n ∈ my.lanes := by assumption) : Only my z0 (State.restOutlet s n k) := by
  simp +contextual (maxDischargeDepth := 99) [State.restOutlet, hs, hf_regs, hf_firstSeen, hf_yew, hf_hirqLow, hf_lanes,
      hf_banks, hp_6, hl_n]

@[simp] theorem State.requestPeak_only {my : May} {z0 : State} (s : State) (n : LaneIx) (k : OutIx) (q : Nat) (first train :
    Bool) (hs : Only my z0 s) (hf_banks : Field.banks ∈ my.fields := by assumption) (hl_n : n ∈ my.lanes := by assumption) :
    Only my z0 (State.requestPeak s n k q first train) := by
  simp +contextual (maxDischargeDepth := 99) [State.requestPeak, hs, hf_banks, hl_n]

@[simp] theorem State.phaseEntry_only {my : May} {z0 : State} (s : State) (n : LaneIx) (k : OutIx) (q : Nat) (hs : Only my
    z0 s) (hf_banks : Field.banks ∈ my.fields := by assumption) (hl_n : n ∈ my.lanes := by assumption) : Only my z0
    (State.phaseEntry s n k q) := by
  simp +contextual (maxDischargeDepth := 99) [State.phaseEntry, hs, hf_banks, hl_n]

@[simp] theorem State.driveOn_only {my : May} {z0 : State} (s : State) (n : LaneIx) (k : OutIx) (hs : Only my z0 s) (hf_regs
    : Field.regs ∈ my.fields := by assumption) (hf_hirqLow : Field.hirqLow ∈ my.fields := by assumption) (hf_banks :
    Field.banks ∈ my.fields := by assumption) (hl_n : n ∈ my.lanes := by assumption) : Only my z0 (State.driveOn s n k) :=
    by
  simp +contextual (maxDischargeDepth := 99) [State.driveOn, hs, hf_regs, hf_hirqLow, hf_banks, hl_n]

@[simp] theorem State.conduct_only {my : May} {z0 : State} (s : State) (n : LaneIx) (k : OutIx) (q : Nat) (y : Style) (hs :
    Only my z0 s) (hf_regs : Field.regs ∈ my.fields := by assumption) (hf_hirqLow : Field.hirqLow ∈ my.fields := by
    assumption) (hf_banks : Field.banks ∈ my.fields := by assumption) (hl_n : n ∈ my.lanes := by assumption) : Only my z0
    (State.conduct s n k q y) := by
  simp +contextual (maxDischargeDepth := 99) [State.conduct, hs, hf_regs, hf_hirqLow, hf_banks, hl_n]

@[simp] theorem State.enterPhase_only {my : May} {z0 : State} (s : State) (n : LaneIx) (k : OutIx) (q : Nat) (first train :
    Bool) (hs : Only my z0 s) (hf_regs : Field.regs ∈ my.fields := by assumption) (hf_firstSeen : Field.firstSeen ∈
    my.fields := by assumption) (hf_yew : Field.yew ∈ my.fields := by assumption) (hf_hirqLow : Field.hirqLow ∈ my.fields :=
    by assumption) (hf_lanes : Field.lanes ∈ my.fields := by assumption) (hf_banks : Field.banks ∈ my.fields := by
    assumption) (hp_6 : 6 ∈ my.pages := by assumption) (hl_n : n ∈ my.lanes := by assumption) : Only my z0 (State.enterPhase
    s n k q first train) := by
  simp +contextual (maxDischargeDepth := 99) [State.enterPhase, hs, hf_regs, hf_firstSeen, hf_yew, hf_hirqLow, hf_lanes,
      hf_banks, hp_6, hl_n]

@[simp] theorem State.nextPhase_only {my : May} {z0 : State} (s : State) (n : LaneIx) (k : OutIx) (hs : Only my z0 s)
    (hf_regs : Field.regs ∈ my.fields := by assumption) (hf_firstSeen : Field.firstSeen ∈ my.fields := by assumption)
    (hf_yew : Field.yew ∈ my.fields := by assumption) (hf_hirqLow : Field.hirqLow ∈ my.fields := by assumption) (hf_lanes :
    Field.lanes ∈ my.fields := by assumption) (hf_banks : Field.banks ∈ my.fields := by assumption) (hp_6 : 6 ∈ my.pages :=
    by assumption) (hl_n : n ∈ my.lanes := by assumption) : Only my z0 (State.nextPhase s n k) := by
  simp +contextual (maxDischargeDepth := 99) [State.nextPhase, hs, hf_regs, hf_firstSeen, hf_yew, hf_hirqLow, hf_lanes,
      hf_banks, hp_6, hl_n]

@[simp] theorem State.pulseOpens_only {my : May} {z0 : State} (s : State) (n : LaneIx) (k : OutIx) (hs : Only my z0 s)
    (hf_regs : Field.regs ∈ my.fields := by assumption) (hl_n : n ∈ my.lanes := by assumption) : Only my z0
    (State.pulseOpens s n k) := by
  simp +contextual (maxDischargeDepth := 99) [State.pulseOpens, hs, hf_regs, hl_n]

@[simp] theorem State.startAt_only {my : May} {z0 : State} (s : State) (n : LaneIx) (k : OutIx) (q : Nat) (act : Bool) (hs :
    Only my z0 s) (hf_regs : Field.regs ∈ my.fields := by assumption) (hf_firstSeen : Field.firstSeen ∈ my.fields := by
    assumption) (hf_yew : Field.yew ∈ my.fields := by assumption) (hf_hirqLow : Field.hirqLow ∈ my.fields := by assumption)
    (hf_lanes : Field.lanes ∈ my.fields := by assumption) (hf_banks : Field.banks ∈ my.fields := by assumption) (hp_6 : 6 ∈
    my.pages := by assumption) (hl_n : n ∈ my.lanes := by assumption) : Only my z0 (State.startAt s n k q act) := by
  simp +contextual (maxDischargeDepth := 99) [State.startAt, hs, hf_regs, hf_firstSeen, hf_yew, hf_hirqLow, hf_lanes,
      hf_banks, hp_6, hl_n]

@[simp] theorem State.startOn_only {my : May} {z0 : State} (s : State) (n : LaneIx) (k : OutIx) (hs : Only my z0 s) (hf_regs
    : Field.regs ∈ my.fields := by assumption) (hf_firstSeen : Field.firstSeen ∈ my.fields := by assumption) (hf_yew :
    Field.yew ∈ my.fields := by assumption) (hf_hirqLow : Field.hirqLow ∈ my.fields := by assumption) (hf_lanes :
    Field.lanes ∈ my.fields := by assumption) (hf_banks : Field.banks ∈ my.fields := by assumption) (hp_6 : 6 ∈ my.pages :=
    by assumption) (hl_n : n ∈ my.lanes := by assumption) : Only my z0 (State.startOn s n k) := by
  simp +contextual (maxDischargeDepth := 99) [State.startOn, hs, hf_regs, hf_firstSeen, hf_yew, hf_hirqLow, hf_lanes,
      hf_banks, hp_6, hl_n]

@[simp] theorem State.regovern_only {my : May} {z0 : State} (s : State) (n : LaneIx) (k : OutIx) (hs : Only my z0 s)
    (hf_regs : Field.regs ∈ my.fields := by assumption) (hf_hirqLow : Field.hirqLow ∈ my.fields := by assumption) (hf_banks
    : Field.banks ∈ my.fields := by assumption) (hl_n : n ∈ my.lanes := by assumption) : Only my z0 (State.regovern s n k)
    := by
  simp +contextual (maxDischargeDepth := 99) [State.regovern, hs, hf_regs, hf_hirqLow, hf_banks, hl_n]

@[simp] theorem State.outletAct_only {my : May} {z0 : State} (s : State) (n : LaneIx) (k : OutIx) (typ : EvtType) (hs : Only
    my z0 s) (hf_regs : Field.regs ∈ my.fields := by assumption) (hf_firstSeen : Field.firstSeen ∈ my.fields := by
    assumption) (hf_yew : Field.yew ∈ my.fields := by assumption) (hf_hirqLow : Field.hirqLow ∈ my.fields := by assumption)
    (hf_lanes : Field.lanes ∈ my.fields := by assumption) (hf_banks : Field.banks ∈ my.fields := by assumption) (hp_6 : 6 ∈
    my.pages := by assumption) (hl_n : n ∈ my.lanes := by assumption) : Only my z0 (State.outletAct s n k typ) := by
  unfold State.outletAct
  dsimp only
  (repeat' split) <;> simp +contextual (maxDischargeDepth := 99) [hs, hf_regs, hf_firstSeen, hf_yew, hf_hirqLow, hf_lanes,
                          hf_banks, hp_6, hl_n]

@[simp] theorem State.outletSafe_only {my : May} {z0 : State} (s : State) (n : LaneIx) (k : OutIx) (hs : Only my z0 s)
    (hf_banks : Field.banks ∈ my.fields := by assumption) (hl_n : n ∈ my.lanes := by assumption) : Only my z0
    (State.outletSafe s n k) := by
  simp +contextual (maxDischargeDepth := 99) [State.outletSafe, hs, hf_banks, hl_n]

@[simp] theorem State.bankSafe_only {my : May} {z0 : State} (s : State) (n : LaneIx) (hs : Only my z0 s) (hf_banks :
    Field.banks ∈ my.fields := by assumption) (hl_n : n ∈ my.lanes := by assumption) : Only my z0 (State.bankSafe s n) := by
  simp +contextual (maxDischargeDepth := 99) [State.bankSafe, hs, hf_banks, hl_n]

@[simp] theorem State.outletClose_only {my : May} {z0 : State} (s : State) (n : LaneIx) (k : OutIx) (hs : Only my z0 s)
    (hf_regs : Field.regs ∈ my.fields := by assumption) (hf_firstSeen : Field.firstSeen ∈ my.fields := by assumption)
    (hf_yew : Field.yew ∈ my.fields := by assumption) (hf_hirqLow : Field.hirqLow ∈ my.fields := by assumption) (hf_lanes :
    Field.lanes ∈ my.fields := by assumption) (hf_banks : Field.banks ∈ my.fields := by assumption) (hp_6 : 6 ∈ my.pages :=
    by assumption) (hl_n : n ∈ my.lanes := by assumption) : Only my z0 (State.outletClose s n k) := by
  unfold State.outletClose
  dsimp only
  (repeat' split) <;> simp +contextual (maxDischargeDepth := 99) [hs, hf_regs, hf_firstSeen, hf_yew, hf_hirqLow, hf_lanes,
                          hf_banks, hp_6, hl_n]

@[simp] theorem State.checkLaneDrained_only {my : May} {z0 : State} (s : State) (n : LaneIx) (hs : Only my z0 s) (hf_regs :
    Field.regs ∈ my.fields := by assumption) (hf_hirqLow : Field.hirqLow ∈ my.fields := by assumption) (hl_n : n ∈ my.lanes
    := by assumption) : Only my z0 (State.checkLaneDrained s n) := by
  simp +contextual (maxDischargeDepth := 99) [State.checkLaneDrained, hs, hf_regs, hf_hirqLow, hl_n]

@[simp] theorem State.outletEvent_only {my : May} {z0 : State} (s : State) (n : LaneIx) (k : OutIx) (sm : List Sample) (hs :
    Only my z0 s) (hf_regs : Field.regs ∈ my.fields := by assumption) (hf_hirqLow : Field.hirqLow ∈ my.fields := by
    assumption) (hf_banks : Field.banks ∈ my.fields := by assumption) (hl_n : n ∈ my.lanes := by assumption) : Only my z0
    (State.outletEvent s n k sm) := by
  simp +contextual (maxDischargeDepth := 99) [State.outletEvent, hs, hf_regs, hf_hirqLow, hf_banks, hl_n]

@[simp] theorem State.skipPulse_only {my : May} {z0 : State} (s : State) (n : LaneIx) (k : OutIx) (hs : Only my z0 s)
    (hf_regs : Field.regs ∈ my.fields := by assumption) (hf_firstSeen : Field.firstSeen ∈ my.fields := by assumption)
    (hf_yew : Field.yew ∈ my.fields := by assumption) (hf_hirqLow : Field.hirqLow ∈ my.fields := by assumption) (hf_banks :
    Field.banks ∈ my.fields := by assumption) (hp_6 : 6 ∈ my.pages := by assumption) (hl_n : n ∈ my.lanes := by assumption)
    : Only my z0 (State.skipPulse s n k) := by
  simp +contextual (maxDischargeDepth := 99) [State.skipPulse, hs, hf_regs, hf_firstSeen, hf_yew, hf_hirqLow, hf_banks,
      hp_6, hl_n]

@[simp] theorem State.markSub_only {my : May} {z0 : State} (s : State) (n : LaneIx) (k : OutIx) (sub : Bool) (hs : Only my
    z0 s) (hf_regs : Field.regs ∈ my.fields := by assumption) (hf_firstSeen : Field.firstSeen ∈ my.fields := by assumption)
    (hf_yew : Field.yew ∈ my.fields := by assumption) (hf_hirqLow : Field.hirqLow ∈ my.fields := by assumption) (hp_6 : 6 ∈
    my.pages := by assumption) (hl_n : n ∈ my.lanes := by assumption) : Only my z0 (State.markSub s n k sub) := by
  simp +contextual (maxDischargeDepth := 99) [State.markSub, hs, hf_regs, hf_firstSeen, hf_yew, hf_hirqLow, hp_6, hl_n]

@[simp] theorem State.reportWait_only {my : May} {z0 : State} (s : State) (n : LaneIx) (k : OutIx) (sub : Bool) (wait : Nat)
    (hs : Only my z0 s) (hf_lanes : Field.lanes ∈ my.fields := by assumption) (hf_banks : Field.banks ∈ my.fields := by
    assumption) (hl_n : n ∈ my.lanes := by assumption) : Only my z0 (State.reportWait s n k sub wait) := by
  simp +contextual (maxDischargeDepth := 99) [State.reportWait, hs, hf_lanes, hf_banks, hl_n]

@[simp] theorem State.lateClose_only {my : May} {z0 : State} (s : State) (n : LaneIx) (k : OutIx) (pulse : Int) (hNs : Nat)
    (hs : Only my z0 s) (hf_regs : Field.regs ∈ my.fields := by assumption) (hf_hirqLow : Field.hirqLow ∈ my.fields := by
    assumption) (hf_banks : Field.banks ∈ my.fields := by assumption) (hl_n : n ∈ my.lanes := by assumption) : Only my z0
    (State.lateClose s n k pulse hNs) := by
  simp +contextual (maxDischargeDepth := 99) [State.lateClose, hs, hf_regs, hf_hirqLow, hf_banks, hl_n]

@[simp] theorem State.grantPeak_only {my : May} {z0 : State} (s : State) (n : LaneIx) (k : OutIx) (sub : Bool) (hs : Only my
    z0 s) (hf_regs : Field.regs ∈ my.fields := by assumption) (hf_firstSeen : Field.firstSeen ∈ my.fields := by assumption)
    (hf_yew : Field.yew ∈ my.fields := by assumption) (hf_hirqLow : Field.hirqLow ∈ my.fields := by assumption) (hf_lanes :
    Field.lanes ∈ my.fields := by assumption) (hf_banks : Field.banks ∈ my.fields := by assumption) (hp_6 : 6 ∈ my.pages :=
    by assumption) (hl_n : n ∈ my.lanes := by assumption) : Only my z0 (State.grantPeak s n k sub) := by
  unfold State.grantPeak
  dsimp only
  (repeat' split) <;> simp +contextual (maxDischargeDepth := 99) [hs, hf_regs, hf_firstSeen, hf_yew, hf_hirqLow, hf_lanes,
                          hf_banks, hp_6, hl_n]

@[simp] theorem State.arbitrate_only {my : May} {z0 : State} (s : State) (n : LaneIx) (hs : Only my z0 s) (hf_regs :
    Field.regs ∈ my.fields := by assumption) (hf_firstSeen : Field.firstSeen ∈ my.fields := by assumption) (hf_yew :
    Field.yew ∈ my.fields := by assumption) (hf_hirqLow : Field.hirqLow ∈ my.fields := by assumption) (hf_lanes :
    Field.lanes ∈ my.fields := by assumption) (hf_banks : Field.banks ∈ my.fields := by assumption) (hp_6 : 6 ∈ my.pages :=
    by assumption) (hl_n : n ∈ my.lanes := by assumption) : Only my z0 (State.arbitrate s n) := by
  unfold State.arbitrate
  dsimp only
  (repeat' split) <;> simp +contextual (maxDischargeDepth := 99) [hs, hf_regs, hf_firstSeen, hf_yew, hf_hirqLow, hf_lanes,
                          hf_banks, hp_6, hl_n]

@[simp] theorem State.decayOver_only {my : May} {z0 : State} (s : State) (n : LaneIx) (k : OutIx) (tmo : Bool) (hs : Only my
    z0 s) (hf_regs : Field.regs ∈ my.fields := by assumption) (hf_hirqLow : Field.hirqLow ∈ my.fields := by assumption)
    (hf_banks : Field.banks ∈ my.fields := by assumption) (hl_n : n ∈ my.lanes := by assumption) : Only my z0
    (State.decayOver s n k tmo) := by
  simp +contextual (maxDischargeDepth := 99) [State.decayOver, hs, hf_regs, hf_hirqLow, hf_banks, hl_n]

@[simp] theorem State.faultClr_only {my : May} {z0 : State} (s : State) (n : LaneIx) (v : Nat) (hs : Only my z0 s) (hf_banks
    : Field.banks ∈ my.fields := by assumption) (hl_n : n ∈ my.lanes := by assumption) : Only my z0 (State.faultClr s n v)
    := by
  simp +contextual (maxDischargeDepth := 99) [State.faultClr, hs, hf_banks, hl_n]

@[simp] theorem State.supply_only {my : May} {z0 : State} (s : State) (vb va : BitVec 12) (hs : Only my z0 s) (hf_banks :
    Field.banks ∈ my.fields := by assumption) (hall : ∀ n : LaneIx, n ∈ my.lanes := by assumption) : Only my z0
    (State.supply s vb va) := by
  simp +contextual (maxDischargeDepth := 99) [State.supply, hs, hf_banks, hall]

@[simp] theorem State.modPwm_only {my : May} {z0 : State} (s : State) (n : LaneIx) (f : PwmState → PwmState) (hs : Only my
    z0 s) (hf_pwm : Field.pwm ∈ my.fields := by assumption) (hl_n : n ∈ my.lanes := by assumption) : Only my z0
    (State.modPwm s n f) := by
  simp +contextual (maxDischargeDepth := 99) [State.modPwm, hs, hf_pwm, hl_n]

@[simp] theorem State.modGen_only {my : May} {z0 : State} (s : State) (n : LaneIx) (g : Fin 4) (f : GenState → GenState) (hs
    : Only my z0 s) (hf_pwm : Field.pwm ∈ my.fields := by assumption) (hl_n : n ∈ my.lanes := by assumption) : Only my z0
    (State.modGen s n g f) := by
  simp +contextual (maxDischargeDepth := 99) [State.modGen, hs, hf_pwm, hl_n]

@[simp] theorem State.periodFlags_only {my : May} {z0 : State} (s : State) (n : LaneIx) (g : Fin 4) (hs : Only my z0 s)
    (hf_regs : Field.regs ∈ my.fields := by assumption) (hf_hirqLow : Field.hirqLow ∈ my.fields := by assumption) (hl_n : n
    ∈ my.lanes := by assumption) : Only my z0 (State.periodFlags s n g) := by
  simp +contextual (maxDischargeDepth := 99) [State.periodFlags, hs, hf_regs, hf_hirqLow, hl_n]

@[simp] theorem State.reloadOne_only {my : May} {z0 : State} (s : State) (n : LaneIx) (cyc : Nat) (h : Fin 4) (hs : Only my
    z0 s) (hf_pwm : Field.pwm ∈ my.fields := by assumption) (hl_n : n ∈ my.lanes := by assumption) : Only my z0
    (State.reloadOne s n cyc h) := by
  simp +contextual (maxDischargeDepth := 99) [State.reloadOne, hs, hf_pwm, hl_n]

@[simp] theorem State.beginPeriod_only {my : May} {z0 : State} (s : State) (n : LaneIx) (cyc u j per : Nat) (center again :
    Bool) (h : Fin 4) (hs : Only my z0 s) (hf_regs : Field.regs ∈ my.fields := by assumption) (hf_hirqLow : Field.hirqLow ∈
    my.fields := by assumption) (hf_pwm : Field.pwm ∈ my.fields := by assumption) (hl_n : n ∈ my.lanes := by assumption) :
    Only my z0 (State.beginPeriod s n cyc u j per center again h) := by
  simp +contextual (maxDischargeDepth := 99) [State.beginPeriod, hs, hf_regs, hf_hirqLow, hf_pwm, hl_n]

@[simp] theorem State.reloadGen_only {my : May} {z0 : State} (s : State) (n : LaneIx) (g : Fin 4) (cyc : Nat) (ph : Option
    Nat) (hs : Only my z0 s) (hf_regs : Field.regs ∈ my.fields := by assumption) (hf_hirqLow : Field.hirqLow ∈ my.fields :=
    by assumption) (hf_pwm : Field.pwm ∈ my.fields := by assumption) (hl_n : n ∈ my.lanes := by assumption) : Only my z0
    (State.reloadGen s n g cyc ph) := by
  simp +contextual (maxDischargeDepth := 99) [State.reloadGen, hs, hf_regs, hf_hirqLow, hf_pwm, hl_n]

@[simp] theorem State.pwmDrained_only {my : May} {z0 : State} (s : State) (n : LaneIx) (hs : Only my z0 s) (hf_regs :
    Field.regs ∈ my.fields := by assumption) (hf_hirqLow : Field.hirqLow ∈ my.fields := by assumption) (hl_n : n ∈ my.lanes
    := by assumption) : Only my z0 (State.pwmDrained s n) := by
  simp +contextual (maxDischargeDepth := 99) [State.pwmDrained, hs, hf_regs, hf_hirqLow, hl_n]

@[simp] theorem State.modEng_only {my : May} {z0 : State} (s : State) (n : LaneIx) (f : EngState → EngState) (hs : Only my
    z0 s) (hf_eng : Field.eng ∈ my.fields := by assumption) (hl_n : n ∈ my.lanes := by assumption) : Only my z0
    (State.modEng s n f) := by
  simp +contextual (maxDischargeDepth := 99) [State.modEng, hs, hf_eng, hl_n]

@[simp] theorem State.applySet_only {my : May} {z0 : State} (s : State) (n : LaneIx) (e : EngSet) (hs : Only my z0 s)
    (hf_regs : Field.regs ∈ my.fields := by assumption) (hf_pwm : Field.pwm ∈ my.fields := by assumption) (hf_eng :
    Field.eng ∈ my.fields := by assumption) (hl_n : n ∈ my.lanes := by assumption) : Only my z0 (State.applySet s n e) := by
  unfold State.applySet
  dsimp only
  (repeat' split) <;> simp +contextual (maxDischargeDepth := 99) [hs, hf_regs, hf_pwm, hf_eng, hl_n]

@[simp] theorem State.setsUntil_only {my : May} {z0 : State} (s : State) (n : LaneIx) (cyc : Nat) (hs : Only my z0 s)
    (hf_regs : Field.regs ∈ my.fields := by assumption) (hf_pwm : Field.pwm ∈ my.fields := by assumption) (hf_eng :
    Field.eng ∈ my.fields := by assumption) (hl_n : n ∈ my.lanes := by assumption) : Only my z0 (State.setsUntil s n cyc) :=
    by
  simp +contextual (maxDischargeDepth := 99) [State.setsUntil, hs, hf_regs, hf_pwm, hf_eng, hl_n]

@[simp] theorem State.settleSets_only {my : May} {z0 : State} (s : State) (n : LaneIx) (hs : Only my z0 s) (hf_regs :
    Field.regs ∈ my.fields := by assumption) (hf_pwm : Field.pwm ∈ my.fields := by assumption) (hf_eng : Field.eng ∈
    my.fields := by assumption) (hl_n : n ∈ my.lanes := by assumption) : Only my z0 (State.settleSets s n) := by
  simp +contextual (maxDischargeDepth := 99) [State.settleSets, hs, hf_regs, hf_pwm, hf_eng, hl_n]

@[simp] theorem State.queueSet_only {my : May} {z0 : State} (s : State) (n : LaneIx) (u : Option Nat) (ph : Option (PhaseSet
    × PhaseSet × PhaseSet)) (hs : Only my z0 s) (hf_pwm : Field.pwm ∈ my.fields := by assumption) (hl_n : n ∈ my.lanes := by
    assumption) : Only my z0 (State.queueSet s n u ph) := by
  simp +contextual (maxDischargeDepth := 99) [State.queueSet, hs, hf_pwm, hl_n]

@[simp] theorem State.reloadDue_only {my : May} {z0 : State} (s : State) (n : LaneIx) (g : Fin 4) (hs : Only my z0 s)
    (hf_regs : Field.regs ∈ my.fields := by assumption) (hf_hirqLow : Field.hirqLow ∈ my.fields := by assumption) (hf_pwm :
    Field.pwm ∈ my.fields := by assumption) (hf_eng : Field.eng ∈ my.fields := by assumption) (hl_n : n ∈ my.lanes := by
    assumption) : Only my z0 (State.reloadDue s n g) := by
  simp +contextual (maxDischargeDepth := 99) [State.reloadDue, hs, hf_regs, hf_hirqLow, hf_pwm, hf_eng, hl_n]

@[simp] theorem State.pwmNow_only {my : May} {z0 : State} (s : State) (n : LaneIx) (hs : Only my z0 s) (hf_regs : Field.regs
    ∈ my.fields := by assumption) (hf_hirqLow : Field.hirqLow ∈ my.fields := by assumption) (hf_pwm : Field.pwm ∈ my.fields
    := by assumption) (hf_eng : Field.eng ∈ my.fields := by assumption) (hl_n : n ∈ my.lanes := by assumption) : Only my z0
    (State.pwmNow s n) := by
  simp +contextual (maxDischargeDepth := 99) [State.pwmNow, hs, hf_regs, hf_hirqLow, hf_pwm, hf_eng, hl_n]

@[simp] theorem State.writeCmp_only {my : May} {z0 : State} (s : State) (n : LaneIx) (g : Fin 4) (v : Word) (cyc : Nat) (hs
    : Only my z0 s) (hf_regs : Field.regs ∈ my.fields := by assumption) (hf_pwm : Field.pwm ∈ my.fields := by assumption)
    (hl_n : n ∈ my.lanes := by assumption) : Only my z0 (State.writeCmp s n g v cyc) := by
  simp +contextual (maxDischargeDepth := 99) [State.writeCmp, hs, hf_regs, hf_pwm, hl_n]

@[simp] theorem State.writePer_only {my : May} {z0 : State} (s : State) (n : LaneIx) (g : Fin 4) (v : Word) (hs : Only my z0
    s) (hf_regs : Field.regs ∈ my.fields := by assumption) (hf_firstSeen : Field.firstSeen ∈ my.fields := by assumption)
    (hf_yew : Field.yew ∈ my.fields := by assumption) (hf_hirqLow : Field.hirqLow ∈ my.fields := by assumption) (hf_pwm :
    Field.pwm ∈ my.fields := by assumption) (hp_6 : 6 ∈ my.pages := by assumption) (hl_n : n ∈ my.lanes := by assumption) :
    Only my z0 (State.writePer s n g v) := by
  simp +contextual (maxDischargeDepth := 99) [State.writePer, hs, hf_regs, hf_firstSeen, hf_yew, hf_hirqLow, hf_pwm, hp_6,
      hl_n]

@[simp] theorem State.writeCommit_only {my : May} {z0 : State} (s : State) (n : LaneIx) (v cyc : Nat) (hs : Only my z0 s)
    (hf_pwm : Field.pwm ∈ my.fields := by assumption) (hl_n : n ∈ my.lanes := by assumption) : Only my z0 (State.writeCommit
    s n v cyc) := by
  simp +contextual (maxDischargeDepth := 99) [State.writeCommit, hs, hf_pwm, hl_n]

@[simp] theorem State.writeMode_only {my : May} {z0 : State} (s : State) (n : LaneIx) (g : Fin 4) (v : Word) (cyc : Nat) (hs
    : Only my z0 s) (hf_regs : Field.regs ∈ my.fields := by assumption) (hf_pwm : Field.pwm ∈ my.fields := by assumption)
    (hl_n : n ∈ my.lanes := by assumption) : Only my z0 (State.writeMode s n g v cyc) := by
  simp +contextual (maxDischargeDepth := 99) [State.writeMode, hs, hf_regs, hf_pwm, hl_n]

@[simp] theorem State.follow_only {my : May} {z0 : State} (s : State) (n : LaneIx) (cyc : Nat) (h : Fin 4) (hs : Only my z0
    s) (hf_regs : Field.regs ∈ my.fields := by assumption) (hf_hirqLow : Field.hirqLow ∈ my.fields := by assumption) (hf_pwm
    : Field.pwm ∈ my.fields := by assumption) (hl_n : n ∈ my.lanes := by assumption) : Only my z0 (State.follow s n cyc h)
    := by
  simp +contextual (maxDischargeDepth := 99) [State.follow, hs, hf_regs, hf_hirqLow, hf_pwm, hl_n]

@[simp] theorem State.followers_only {my : May} {z0 : State} (s : State) (n : LaneIx) (cyc : Nat) (hs : Only my z0 s)
    (hf_regs : Field.regs ∈ my.fields := by assumption) (hf_hirqLow : Field.hirqLow ∈ my.fields := by assumption) (hf_pwm :
    Field.pwm ∈ my.fields := by assumption) (hl_n : n ∈ my.lanes := by assumption) : Only my z0 (State.followers s n cyc) :=
    by
  simp +contextual (maxDischargeDepth := 99) [State.followers, hs, hf_regs, hf_hirqLow, hf_pwm, hl_n]

@[simp] theorem State.startGen_only {my : May} {z0 : State} (s : State) (n : LaneIx) (g : Fin 4) (cyc : Nat) (hs : Only my
    z0 s) (hf_regs : Field.regs ∈ my.fields := by assumption) (hf_hirqLow : Field.hirqLow ∈ my.fields := by assumption)
    (hf_pwm : Field.pwm ∈ my.fields := by assumption) (hl_n : n ∈ my.lanes := by assumption) : Only my z0 (State.startGen s
    n g cyc) := by
  simp +contextual (maxDischargeDepth := 99) [State.startGen, hs, hf_regs, hf_hirqLow, hf_pwm, hl_n]

@[simp] theorem State.stopGen_only {my : May} {z0 : State} (s : State) (n : LaneIx) (g : Fin 4) (hs : Only my z0 s) (hf_regs
    : Field.regs ∈ my.fields := by assumption) (hf_hirqLow : Field.hirqLow ∈ my.fields := by assumption) (hf_pwm : Field.pwm
    ∈ my.fields := by assumption) (hl_n : n ∈ my.lanes := by assumption) : Only my z0 (State.stopGen s n g) := by
  simp +contextual (maxDischargeDepth := 99) [State.stopGen, hs, hf_regs, hf_hirqLow, hf_pwm, hl_n]

@[simp] theorem State.pwmDrain_only {my : May} {z0 : State} (s : State) (n : LaneIx) (hs : Only my z0 s) (hf_regs :
    Field.regs ∈ my.fields := by assumption) (hf_hirqLow : Field.hirqLow ∈ my.fields := by assumption) (hf_pwm : Field.pwm ∈
    my.fields := by assumption) (hf_eng : Field.eng ∈ my.fields := by assumption) (hl_n : n ∈ my.lanes := by assumption) :
    Only my z0 (State.pwmDrain s n) := by
  simp +contextual (maxDischargeDepth := 99) [State.pwmDrain, hs, hf_regs, hf_hirqLow, hf_pwm, hf_eng, hl_n]

@[simp] theorem State.pwmEnable_only {my : May} {z0 : State} (s : State) (n : LaneIx) (hs : Only my z0 s) (hf_regs :
    Field.regs ∈ my.fields := by assumption) (hf_hirqLow : Field.hirqLow ∈ my.fields := by assumption) (hf_pwm : Field.pwm ∈
    my.fields := by assumption) (hl_n : n ∈ my.lanes := by assumption) : Only my z0 (State.pwmEnable s n) := by
  simp +contextual (maxDischargeDepth := 99) [State.pwmEnable, hs, hf_regs, hf_hirqLow, hf_pwm, hl_n]

@[simp] theorem State.pwmSafe_only {my : May} {z0 : State} (s : State) (n : LaneIx) (hs : Only my z0 s) (hf_pwm : Field.pwm
    ∈ my.fields := by assumption) (hl_n : n ∈ my.lanes := by assumption) : Only my z0 (State.pwmSafe s n) := by
  simp +contextual (maxDischargeDepth := 99) [State.pwmSafe, hs, hf_pwm, hl_n]

@[simp] theorem State.pwmUnsafe_only {my : May} {z0 : State} (s : State) (n : LaneIx) (hs : Only my z0 s) (hf_pwm :
    Field.pwm ∈ my.fields := by assumption) (hl_n : n ∈ my.lanes := by assumption) : Only my z0 (State.pwmUnsafe s n) := by
  simp +contextual (maxDischargeDepth := 99) [State.pwmUnsafe, hs, hf_pwm, hl_n]

@[simp] theorem State.syncGen_only {my : May} {z0 : State} (s : State) (n : LaneIx) (g : Fin 4) (hs : Only my z0 s) (hf_regs
    : Field.regs ∈ my.fields := by assumption) (hf_firstSeen : Field.firstSeen ∈ my.fields := by assumption) (hf_yew :
    Field.yew ∈ my.fields := by assumption) (hf_hirqLow : Field.hirqLow ∈ my.fields := by assumption) (hf_pwm : Field.pwm ∈
    my.fields := by assumption) (hp_6 : 6 ∈ my.pages := by assumption) (hl_n : n ∈ my.lanes := by assumption) : Only my z0
    (State.syncGen s n g) := by
  simp +contextual (maxDischargeDepth := 99) [State.syncGen, hs, hf_regs, hf_firstSeen, hf_yew, hf_hirqLow, hf_pwm, hp_6,
      hl_n]

@[simp] theorem State.syncLane_only {my : May} {z0 : State} (s : State) (n : LaneIx) (hs : Only my z0 s) (hf_regs :
    Field.regs ∈ my.fields := by assumption) (hf_firstSeen : Field.firstSeen ∈ my.fields := by assumption) (hf_yew :
    Field.yew ∈ my.fields := by assumption) (hf_hirqLow : Field.hirqLow ∈ my.fields := by assumption) (hf_pwm : Field.pwm ∈
    my.fields := by assumption) (hf_eng : Field.eng ∈ my.fields := by assumption) (hp_6 : 6 ∈ my.pages := by assumption)
    (hl_n : n ∈ my.lanes := by assumption) : Only my z0 (State.syncLane s n) := by
  simp +contextual (maxDischargeDepth := 99) [State.syncLane, hs, hf_regs, hf_firstSeen, hf_yew, hf_hirqLow, hf_pwm, hf_eng,
      hp_6, hl_n]

@[simp] theorem State.modLoop_only {my : May} {z0 : State} (s : State) (n : LaneIx) (l : Fin 3) (f : LoopSt → LoopSt) (hs :
    Only my z0 s) (hf_eng : Field.eng ∈ my.fields := by assumption) (hl_n : n ∈ my.lanes := by assumption) : Only my z0
    (State.modLoop s n l f) := by
  simp +contextual (maxDischargeDepth := 99) [State.modLoop, hs, hf_eng, hl_n]

@[simp] theorem State.modFbk_only {my : May} {z0 : State} (s : State) (n : LaneIx) (f : FbkState → FbkState) (hs : Only my
    z0 s) (hf_fbk : Field.fbk ∈ my.fields := by assumption) (hl_n : n ∈ my.lanes := by assumption) : Only my z0
    (State.modFbk s n f) := by
  simp +contextual (maxDischargeDepth := 99) [State.modFbk, hs, hf_fbk, hl_n]

@[simp] theorem State.ainSample_only {my : May} {z0 : State} (s : State) (n : LaneIx) (x : Sample) (hs : Only my z0 s)
    (hf_eng : Field.eng ∈ my.fields := by assumption) (hl_n : n ∈ my.lanes := by assumption) : Only my z0 (State.ainSample s
    n x) := by
  simp +contextual (maxDischargeDepth := 99) [State.ainSample, hs, hf_eng, hl_n]

@[simp] theorem State.ainSamples_only {my : May} {z0 : State} (s : State) (n : LaneIx) (xs : List Sample) (hs : Only my z0
    s) (hf_eng : Field.eng ∈ my.fields := by assumption) (hl_n : n ∈ my.lanes := by assumption) : Only my z0
    (State.ainSamples s n xs) := by
  simp +contextual (maxDischargeDepth := 99) [State.ainSamples, hs, hf_eng, hl_n]

@[simp] theorem State.fbkLatch_only {my : May} {z0 : State} (s : State) (n : LaneIx) (hs : Only my z0 s) (hf_fbk : Field.fbk
    ∈ my.fields := by assumption) (hl_n : n ∈ my.lanes := by assumption) : Only my z0 (State.fbkLatch s n) := by
  simp +contextual (maxDischargeDepth := 99) [State.fbkLatch, hs, hf_fbk, hl_n]

@[simp] theorem State.fbkFlag_only {my : May} {z0 : State} (s : State) (n : LaneIx) (hs : Only my z0 s) (hf_fbk : Field.fbk
    ∈ my.fields := by assumption) (hl_n : n ∈ my.lanes := by assumption) : Only my z0 (State.fbkFlag s n) := by
  simp +contextual (maxDischargeDepth := 99) [State.fbkFlag, hs, hf_fbk, hl_n]

@[simp] theorem State.fbkTaken_only {my : May} {z0 : State} (s : State) (n : LaneIx) (hs : Only my z0 s) (hf_fbk : Field.fbk
    ∈ my.fields := by assumption) (hl_n : n ∈ my.lanes := by assumption) : Only my z0 (State.fbkTaken s n) := by
  simp +contextual (maxDischargeDepth := 99) [State.fbkTaken, hs, hf_fbk, hl_n]

@[simp] theorem State.spKeep_only {my : May} {z0 : State} (s : State) (n : LaneIx) (hs : Only my z0 s) (hf_eng : Field.eng ∈
    my.fields := by assumption) (hl_n : n ∈ my.lanes := by assumption) : Only my z0 (State.spKeep s n) := by
  simp +contextual (maxDischargeDepth := 99) [State.spKeep, hs, hf_eng, hl_n]

@[simp] theorem State.safeStop_only {my : May} {z0 : State} (s : State) (n : LaneIx) (cause : Nat) (l : Nat) (hs : Only my
    z0 s) (hf_regs : Field.regs ∈ my.fields := by assumption) (hf_yew : Field.yew ∈ my.fields := by assumption) (hf_hirqLow
    : Field.hirqLow ∈ my.fields := by assumption) (hf_pwm : Field.pwm ∈ my.fields := by assumption) (hf_eng : Field.eng ∈
    my.fields := by assumption) (hp_6 : 6 ∈ my.pages := by assumption) (hl_n : n ∈ my.lanes := by assumption) : Only my z0
    (State.safeStop s n cause l) := by
  simp +contextual (maxDischargeDepth := 99) [State.safeStop, hs, hf_regs, hf_yew, hf_hirqLow, hf_pwm, hf_eng, hp_6, hl_n]

@[simp] theorem State.engSafe_only {my : May} {z0 : State} (s : State) (n : LaneIx) (hs : Only my z0 s) (hf_regs :
    Field.regs ∈ my.fields := by assumption) (hf_yew : Field.yew ∈ my.fields := by assumption) (hf_hirqLow : Field.hirqLow ∈
    my.fields := by assumption) (hf_pwm : Field.pwm ∈ my.fields := by assumption) (hf_eng : Field.eng ∈ my.fields := by
    assumption) (hp_6 : 6 ∈ my.pages := by assumption) (hl_n : n ∈ my.lanes := by assumption) : Only my z0 (State.engSafe s
    n) := by
  simp +contextual (maxDischargeDepth := 99) [State.engSafe, hs, hf_regs, hf_yew, hf_hirqLow, hf_pwm, hf_eng, hp_6, hl_n]

@[simp] theorem State.commSet_only {my : May} {z0 : State} (s : State) (n : LaneIx) (hs : Only my z0 s) (hf_pwm : Field.pwm
    ∈ my.fields := by assumption) (hl_n : n ∈ my.lanes := by assumption) : Only my z0 (State.commSet s n) := by
  simp +contextual (maxDischargeDepth := 99) [State.commSet, hs, hf_pwm, hl_n]

@[simp] theorem State.commFault_only {my : May} {z0 : State} (s : State) (n : LaneIx) (hs : Only my z0 s) (hf_regs :
    Field.regs ∈ my.fields := by assumption) (hf_yew : Field.yew ∈ my.fields := by assumption) (hf_hirqLow : Field.hirqLow ∈
    my.fields := by assumption) (hf_pwm : Field.pwm ∈ my.fields := by assumption) (hf_eng : Field.eng ∈ my.fields := by
    assumption) (hp_6 : 6 ∈ my.pages := by assumption) (hl_n : n ∈ my.lanes := by assumption) : Only my z0 (State.commFault
    s n) := by
  simp +contextual (maxDischargeDepth := 99) [State.commFault, hs, hf_regs, hf_yew, hf_hirqLow, hf_pwm, hf_eng, hp_6, hl_n]

@[simp] theorem State.commHall_only {my : May} {z0 : State} (s : State) (n : LaneIx) (σ : Nat) (dir : Option Bool) (hs :
    Only my z0 s) (hf_pwm : Field.pwm ∈ my.fields := by assumption) (hf_eng : Field.eng ∈ my.fields := by assumption) (hl_n
    : n ∈ my.lanes := by assumption) : Only my z0 (State.commHall s n σ dir) := by
  simp +contextual (maxDischargeDepth := 99) [State.commHall, hs, hf_pwm, hf_eng, hl_n]

@[simp] theorem State.loopReport_only {my : May} {z0 : State} (s : State) (n : LaneIx) (l : Fin 3) (o : LoopOut) (hs : Only
    my z0 s) (hf_regs : Field.regs ∈ my.fields := by assumption) (hf_firstSeen : Field.firstSeen ∈ my.fields := by
    assumption) (hf_yew : Field.yew ∈ my.fields := by assumption) (hf_hirqLow : Field.hirqLow ∈ my.fields := by assumption)
    (hp_6 : 6 ∈ my.pages := by assumption) (hl_n : n ∈ my.lanes := by assumption) : Only my z0 (State.loopReport s n l o) :=
    by
  unfold State.loopReport
  dsimp only
  (repeat' split) <;> simp +contextual (maxDischargeDepth := 99) [hs, hf_regs, hf_firstSeen, hf_yew, hf_hirqLow, hp_6, hl_n]

@[simp] theorem State.runLoop_only {my : May} {z0 : State} (s : State) (n : LaneIx) (l : Fin 3) (sp : Int) (isns : List
    (BitVec 12)) (flt : Bool) (hs : Only my z0 s) (hf_regs : Field.regs ∈ my.fields := by assumption) (hf_firstSeen :
    Field.firstSeen ∈ my.fields := by assumption) (hf_yew : Field.yew ∈ my.fields := by assumption) (hf_hirqLow :
    Field.hirqLow ∈ my.fields := by assumption) (hf_eng : Field.eng ∈ my.fields := by assumption) (hp_6 : 6 ∈ my.pages := by
    assumption) (hl_n : n ∈ my.lanes := by assumption) : Only my z0 (State.runLoop s n l sp isns flt) := by
  simp +contextual (maxDischargeDepth := 99) [State.runLoop, hs, hf_regs, hf_firstSeen, hf_yew, hf_hirqLow, hf_eng, hp_6,
      hl_n]

@[simp] theorem State.motorSample_only {my : May} {z0 : State} (s : State) (n : LaneIx) (hs : Only my z0 s) (hf_regs :
    Field.regs ∈ my.fields := by assumption) (hf_yew : Field.yew ∈ my.fields := by assumption) (hf_hirqLow : Field.hirqLow ∈
    my.fields := by assumption) (hf_lanes : Field.lanes ∈ my.fields := by assumption) (hf_banks : Field.banks ∈ my.fields :=
    by assumption) (hf_eng : Field.eng ∈ my.fields := by assumption) (hp_6 : 6 ∈ my.pages := by assumption) (hl_n : n ∈
    my.lanes := by assumption) : Only my z0 (State.motorSample s n) := by
  simp +contextual (maxDischargeDepth := 99) [State.motorSample, hs, hf_regs, hf_yew, hf_hirqLow, hf_lanes, hf_banks,
      hf_eng, hp_6, hl_n]

@[simp] theorem State.engStart_only {my : May} {z0 : State} (s : State) (n : LaneIx) (hs : Only my z0 s) (hf_eng : Field.eng
    ∈ my.fields := by assumption) (hl_n : n ∈ my.lanes := by assumption) : Only my z0 (State.engStart s n) := by
  simp +contextual (maxDischargeDepth := 99) [State.engStart, hs, hf_eng, hl_n]

@[simp] theorem State.engStopZero_only {my : May} {z0 : State} (s : State) (n : LaneIx) (hs : Only my z0 s) (hf_pwm :
    Field.pwm ∈ my.fields := by assumption) (hf_eng : Field.eng ∈ my.fields := by assumption) (hl_n : n ∈ my.lanes := by
    assumption) : Only my z0 (State.engStopZero s n) := by
  simp +contextual (maxDischargeDepth := 99) [State.engStopZero, hs, hf_pwm, hf_eng, hl_n]

@[simp] theorem State.engDrive_only {my : May} {z0 : State} (s : State) (n : LaneIx) (flt : Bool) (hs : Only my z0 s)
    (hf_regs : Field.regs ∈ my.fields := by assumption) (hf_yew : Field.yew ∈ my.fields := by assumption) (hf_hirqLow :
    Field.hirqLow ∈ my.fields := by assumption) (hf_pwm : Field.pwm ∈ my.fields := by assumption) (hf_eng : Field.eng ∈
    my.fields := by assumption) (hp_6 : 6 ∈ my.pages := by assumption) (hl_n : n ∈ my.lanes := by assumption) : Only my z0
    (State.engDrive s n flt) := by
  unfold State.engDrive
  dsimp only
  (repeat' split) <;> simp +contextual (maxDischargeDepth := 99) [hs, hf_regs, hf_yew, hf_hirqLow, hf_pwm, hf_eng, hp_6,
                          hl_n]

@[simp] theorem State.engLoops_only {my : May} {z0 : State} (s : State) (n : LaneIx) (isns : List (BitVec 12)) (flt : Bool)
    (spt sp : Int) (hs : Only my z0 s) (hf_regs : Field.regs ∈ my.fields := by assumption) (hf_firstSeen : Field.firstSeen ∈
    my.fields := by assumption) (hf_yew : Field.yew ∈ my.fields := by assumption) (hf_hirqLow : Field.hirqLow ∈ my.fields :=
    by assumption) (hf_lanes : Field.lanes ∈ my.fields := by assumption) (hf_banks : Field.banks ∈ my.fields := by
    assumption) (hf_pwm : Field.pwm ∈ my.fields := by assumption) (hf_eng : Field.eng ∈ my.fields := by assumption) (hp_6 :
    6 ∈ my.pages := by assumption) (hl_n : n ∈ my.lanes := by assumption) : Only my z0 (State.engLoops s n isns flt spt sp)
    := by
  simp +contextual (maxDischargeDepth := 99) [State.engLoops, hs, hf_regs, hf_firstSeen, hf_yew, hf_hirqLow, hf_lanes,
      hf_banks, hf_pwm, hf_eng, hp_6, hl_n]

@[simp] theorem State.engSample_only {my : May} {z0 : State} (s : State) (n : LaneIx) (isns : List (BitVec 12)) (flt : Bool)
    (hs : Only my z0 s) (hf_regs : Field.regs ∈ my.fields := by assumption) (hf_firstSeen : Field.firstSeen ∈ my.fields :=
    by assumption) (hf_yew : Field.yew ∈ my.fields := by assumption) (hf_hirqLow : Field.hirqLow ∈ my.fields := by
    assumption) (hf_lanes : Field.lanes ∈ my.fields := by assumption) (hf_banks : Field.banks ∈ my.fields := by assumption)
    (hf_pwm : Field.pwm ∈ my.fields := by assumption) (hf_eng : Field.eng ∈ my.fields := by assumption) (hp_6 : 6 ∈ my.pages
    := by assumption) (hl_n : n ∈ my.lanes := by assumption) : Only my z0 (State.engSample s n isns flt) := by
  simp +contextual (maxDischargeDepth := 99) [State.engSample, hs, hf_regs, hf_firstSeen, hf_yew, hf_hirqLow, hf_lanes,
      hf_banks, hf_pwm, hf_eng, hp_6, hl_n]

@[simp] theorem State.engHold_only {my : May} {z0 : State} (s : State) (n : LaneIx) (hs : Only my z0 s) (hf_eng : Field.eng
    ∈ my.fields := by assumption) (hl_n : n ∈ my.lanes := by assumption) : Only my z0 (State.engHold s n) := by
  simp +contextual (maxDischargeDepth := 99) [State.engHold, hs, hf_eng, hl_n]

@[simp] theorem State.trigger_only {my : May} {z0 : State} (s : State) (n : LaneIx) (isns : List (BitVec 12)) (hs : Only my
    z0 s) (hf_regs : Field.regs ∈ my.fields := by assumption) (hf_firstSeen : Field.firstSeen ∈ my.fields := by assumption)
    (hf_yew : Field.yew ∈ my.fields := by assumption) (hf_hirqLow : Field.hirqLow ∈ my.fields := by assumption) (hf_lanes :
    Field.lanes ∈ my.fields := by assumption) (hf_banks : Field.banks ∈ my.fields := by assumption) (hf_pwm : Field.pwm ∈
    my.fields := by assumption) (hf_eng : Field.eng ∈ my.fields := by assumption) (hf_fbk : Field.fbk ∈ my.fields := by
    assumption) (hp_6 : 6 ∈ my.pages := by assumption) (hl_n : n ∈ my.lanes := by assumption) : Only my z0 (State.trigger s
    n isns) := by
  simp +contextual (maxDischargeDepth := 99) [State.trigger, hs, hf_regs, hf_firstSeen, hf_yew, hf_hirqLow, hf_lanes,
      hf_banks, hf_pwm, hf_eng, hf_fbk, hp_6, hl_n]

@[simp] theorem State.ainTrigger_only {my : May} {z0 : State} (s : State) (n : LaneIx) (ain : List Sample) (hs : Only my z0
    s) (hf_eng : Field.eng ∈ my.fields := by assumption) (hl_n : n ∈ my.lanes := by assumption) : Only my z0
    (State.ainTrigger s n ain) := by
  simp +contextual (maxDischargeDepth := 99) [State.ainTrigger, hs, hf_eng, hl_n]

@[simp] theorem State.swapLoops_only {my : May} {z0 : State} (s : State) (n : LaneIx) (v : Nat) (hs : Only my z0 s) (hf_eng
    : Field.eng ∈ my.fields := by assumption) (hl_n : n ∈ my.lanes := by assumption) : Only my z0 (State.swapLoops s n v) :=
    by
  simp +contextual (maxDischargeDepth := 99) [State.swapLoops, hs, hf_eng, hl_n]

@[simp] theorem State.engRestart_only {my : May} {z0 : State} (s : State) (n : LaneIx) (hs : Only my z0 s) (hf_regs :
    Field.regs ∈ my.fields := by assumption) (hf_yew : Field.yew ∈ my.fields := by assumption) (hf_hirqLow : Field.hirqLow ∈
    my.fields := by assumption) (hf_pwm : Field.pwm ∈ my.fields := by assumption) (hf_eng : Field.eng ∈ my.fields := by
    assumption) (hp_6 : 6 ∈ my.pages := by assumption) (hl_n : n ∈ my.lanes := by assumption) : Only my z0 (State.engRestart
    s n) := by
  simp +contextual (maxDischargeDepth := 99) [State.engRestart, hs, hf_regs, hf_yew, hf_hirqLow, hf_pwm, hf_eng, hp_6, hl_n]

@[simp] theorem State.coefWrite_only {my : May} {z0 : State} (s : State) (n : LaneIx) (i : Nat) (v : Word) (hs : Only my z0
    s) (hf_regs : Field.regs ∈ my.fields := by assumption) (hf_yew : Field.yew ∈ my.fields := by assumption) (hf_hirqLow :
    Field.hirqLow ∈ my.fields := by assumption) (hf_eng : Field.eng ∈ my.fields := by assumption) (hp_6 : 6 ∈ my.pages := by
    assumption) (hl_n : n ∈ my.lanes := by assumption) : Only my z0 (State.coefWrite s n i v) := by
  unfold State.coefWrite
  dsimp only
  (repeat' split) <;> simp +contextual (maxDischargeDepth := 99) [hs, hf_regs, hf_yew, hf_hirqLow, hf_eng, hp_6, hl_n]

@[simp] theorem State.motorAct_only {my : May} {z0 : State} (s : State) (n : LaneIx) (k : OutIx) (typ : EvtType) (hs : Only
    my z0 s) (hf_regs : Field.regs ∈ my.fields := by assumption) (hf_firstSeen : Field.firstSeen ∈ my.fields := by
    assumption) (hf_yew : Field.yew ∈ my.fields := by assumption) (hf_hirqLow : Field.hirqLow ∈ my.fields := by assumption)
    (hf_lanes : Field.lanes ∈ my.fields := by assumption) (hf_banks : Field.banks ∈ my.fields := by assumption) (hp_6 : 6 ∈
    my.pages := by assumption) (hl_n : n ∈ my.lanes := by assumption) : Only my z0 (State.motorAct s n k typ) := by
  unfold State.motorAct
  dsimp only
  (repeat' split) <;> simp +contextual (maxDischargeDepth := 99) [hs, hf_regs, hf_firstSeen, hf_yew, hf_hirqLow, hf_lanes,
                          hf_banks, hp_6, hl_n]

@[simp] theorem State.loopDrain_only {my : May} {z0 : State} (s : State) (n : LaneIx) (hs : Only my z0 s) (hf_regs :
    Field.regs ∈ my.fields := by assumption) (hf_hirqLow : Field.hirqLow ∈ my.fields := by assumption) (hf_eng : Field.eng ∈
    my.fields := by assumption) (hl_n : n ∈ my.lanes := by assumption) : Only my z0 (State.loopDrain s n) := by
  simp +contextual (maxDischargeDepth := 99) [State.loopDrain, hs, hf_regs, hf_hirqLow, hf_eng, hl_n]

@[simp] theorem State.sealLoop_only {my : May} {z0 : State} (s : State) (n : LaneIx) (hs : Only my z0 s) (hf_eng : Field.eng
    ∈ my.fields := by assumption) (hl_n : n ∈ my.lanes := by assumption) : Only my z0 (State.sealLoop s n) := by
  simp +contextual (maxDischargeDepth := 99) [State.sealLoop, hs, hf_eng, hl_n]

@[simp] theorem State.fbkInput_only {my : May} {z0 : State} (s : State) (n : LaneIx) (x : Legs) (hs : Only my z0 s) (hf_fbk
    : Field.fbk ∈ my.fields := by assumption) (hl_n : n ∈ my.lanes := by assumption) : Only my z0 (State.fbkInput s n x) :=
    by
  simp +contextual (maxDischargeDepth := 99) [State.fbkInput, hs, hf_fbk, hl_n]

@[simp] theorem State.emCheck_only {my : May} {z0 : State} (s : State) (n : LaneIx) (hs : Only my z0 s) (hf_regs :
    Field.regs ∈ my.fields := by assumption) (hf_yew : Field.yew ∈ my.fields := by assumption) (hf_hirqLow : Field.hirqLow ∈
    my.fields := by assumption) (hf_fbk : Field.fbk ∈ my.fields := by assumption) (hp_6 : 6 ∈ my.pages := by assumption)
    (hl_n : n ∈ my.lanes := by assumption) : Only my z0 (State.emCheck s n) := by
  simp +contextual (maxDischargeDepth := 99) [State.emCheck, hs, hf_regs, hf_yew, hf_hirqLow, hf_fbk, hp_6, hl_n]

@[simp] theorem State.emStart_only {my : May} {z0 : State} (s : State) (n : LaneIx) (hs : Only my z0 s) (hf_fbk : Field.fbk
    ∈ my.fields := by assumption) (hl_n : n ∈ my.lanes := by assumption) : Only my z0 (State.emStart s n) := by
  simp +contextual (maxDischargeDepth := 99) [State.emStart, hs, hf_fbk, hl_n]

@[simp] theorem State.emJump_only {my : May} {z0 : State} (s : State) (n : LaneIx) (p0 p1 : Int) (hs : Only my z0 s) (hf_fbk
    : Field.fbk ∈ my.fields := by assumption) (hl_n : n ∈ my.lanes := by assumption) : Only my z0 (State.emJump s n p0 p1)
    := by
  simp +contextual (maxDischargeDepth := 99) [State.emJump, hs, hf_fbk, hl_n]

@[simp] theorem State.count1_only {my : May} {z0 : State} (s : State) (n : LaneIx) (neg : Bool) (hs : Only my z0 s) (hf_fbk
    : Field.fbk ∈ my.fields := by assumption) (hl_n : n ∈ my.lanes := by assumption) : Only my z0 (State.count1 s n neg) :=
    by
  simp +contextual (maxDischargeDepth := 99) [State.count1, hs, hf_fbk, hl_n]

@[simp] theorem State.counts_only {my : May} {z0 : State} (s : State) (n : LaneIx) (k : Nat) (neg : Bool) (hs : Only my z0
    s) (hf_fbk : Field.fbk ∈ my.fields := by assumption) (hl_n : n ∈ my.lanes := by assumption) : Only my z0 (State.counts s
    n k neg) := by
  induction k generalizing s with
  | zero => simp +contextual (maxDischargeDepth := 99) [State.counts, hs, hf_fbk, hl_n]
  | succ n ih =>
    unfold State.counts
    try dsimp only
    (repeat' split) <;> first
        | (simp +contextual (maxDischargeDepth := 99) [hs, hf_fbk, hl_n]; done)
        | (apply ih; simp +contextual (maxDischargeDepth := 99) [hs, hf_fbk, hl_n]; done)
        | (simp +contextual (maxDischargeDepth := 99) [hs, hf_fbk, hl_n, ih, hf_fbk, hl_n]; done)
        | (simp +contextual (maxDischargeDepth := 99) [*]; done)
        | (rename_i e; have e' := congrArg (fun p => Only my z0 (Prod.snd p)) e; simp +contextual (maxDischargeDepth := 99) [hs, hf_fbk, hl_n, ih, hf_fbk, hl_n] at e'; first | (apply ih; simp +contextual (maxDischargeDepth := 99) [hs, hf_fbk, hl_n, e']; done) | (simp +contextual (maxDischargeDepth := 99) [hs, hf_fbk, hl_n, ih, e']; done))

@[simp] theorem State.hallSkip_only {my : May} {z0 : State} (s : State) (n : LaneIx) (δ : Nat) (hs : Only my z0 s) (hf_regs
    : Field.regs ∈ my.fields := by assumption) (hf_firstSeen : Field.firstSeen ∈ my.fields := by assumption) (hf_yew :
    Field.yew ∈ my.fields := by assumption) (hf_hirqLow : Field.hirqLow ∈ my.fields := by assumption) (hf_fbk : Field.fbk ∈
    my.fields := by assumption) (hp_6 : 6 ∈ my.pages := by assumption) (hl_n : n ∈ my.lanes := by assumption) : Only my z0
    (State.hallSkip s n δ) := by
  simp +contextual (maxDischargeDepth := 99) [State.hallSkip, hs, hf_regs, hf_firstSeen, hf_yew, hf_hirqLow, hf_fbk, hp_6,
      hl_n]

@[simp] theorem State.hallCount_only {my : May} {z0 : State} (s : State) (n : LaneIx) (δ : Nat) (hs : Only my z0 s) (hf_fbk
    : Field.fbk ∈ my.fields := by assumption) (hl_n : n ∈ my.lanes := by assumption) : Only my z0 (State.hallCount s n δ) :=
    by
  simp +contextual (maxDischargeDepth := 99) [State.hallCount, hs, hf_fbk, hl_n]

@[simp] theorem State.hallInput_only {my : May} {z0 : State} (s : State) (n : LaneIx) (h : BitVec 3) (hs : Only my z0 s)
    (hf_regs : Field.regs ∈ my.fields := by assumption) (hf_firstSeen : Field.firstSeen ∈ my.fields := by assumption)
    (hf_yew : Field.yew ∈ my.fields := by assumption) (hf_hirqLow : Field.hirqLow ∈ my.fields := by assumption) (hf_pwm :
    Field.pwm ∈ my.fields := by assumption) (hf_eng : Field.eng ∈ my.fields := by assumption) (hf_fbk : Field.fbk ∈
    my.fields := by assumption) (hp_6 : 6 ∈ my.pages := by assumption) (hl_n : n ∈ my.lanes := by assumption) : Only my z0
    (State.hallInput s n h) := by
  unfold State.hallInput
  dsimp only
  (repeat' split) <;> simp +contextual (maxDischargeDepth := 99) [hs, hf_regs, hf_firstSeen, hf_yew, hf_hirqLow, hf_pwm,
                          hf_eng, hf_fbk, hp_6, hl_n]

@[simp] theorem State.quadCount_only {my : May} {z0 : State} (s : State) (n : LaneIx) (q q' : Nat) (hs : Only my z0 s)
    (hf_regs : Field.regs ∈ my.fields := by assumption) (hf_firstSeen : Field.firstSeen ∈ my.fields := by assumption)
    (hf_yew : Field.yew ∈ my.fields := by assumption) (hf_hirqLow : Field.hirqLow ∈ my.fields := by assumption) (hf_fbk :
    Field.fbk ∈ my.fields := by assumption) (hp_6 : 6 ∈ my.pages := by assumption) (hl_n : n ∈ my.lanes := by assumption) :
    Only my z0 (State.quadCount s n q q') := by
  simp +contextual (maxDischargeDepth := 99) [State.quadCount, hs, hf_regs, hf_firstSeen, hf_yew, hf_hirqLow, hf_fbk, hp_6,
      hl_n]

@[simp] theorem State.pulseCount_only {my : May} {z0 : State} (s : State) (n : LaneIx) (a b : Bool) (hs : Only my z0 s)
    (hf_regs : Field.regs ∈ my.fields := by assumption) (hf_yew : Field.yew ∈ my.fields := by assumption) (hf_hirqLow :
    Field.hirqLow ∈ my.fields := by assumption) (hf_fbk : Field.fbk ∈ my.fields := by assumption) (hp_6 : 6 ∈ my.pages := by
    assumption) (hl_n : n ∈ my.lanes := by assumption) : Only my z0 (State.pulseCount s n a b) := by
  simp +contextual (maxDischargeDepth := 99) [State.pulseCount, hs, hf_regs, hf_yew, hf_hirqLow, hf_fbk, hp_6, hl_n]

@[simp] theorem State.moveTo_only {my : May} {z0 : State} (s : State) (n : LaneIx) (c p : Int) (hs : Only my z0 s) (hf_regs
    : Field.regs ∈ my.fields := by assumption) (hf_yew : Field.yew ∈ my.fields := by assumption) (hf_hirqLow : Field.hirqLow
    ∈ my.fields := by assumption) (hf_fbk : Field.fbk ∈ my.fields := by assumption) (hp_6 : 6 ∈ my.pages := by assumption)
    (hl_n : n ∈ my.lanes := by assumption) : Only my z0 (State.moveTo s n c p) := by
  simp +contextual (maxDischargeDepth := 99) [State.moveTo, hs, hf_regs, hf_yew, hf_hirqLow, hf_fbk, hp_6, hl_n]

@[simp] theorem State.idxFix_only {my : May} {z0 : State} (s : State) (n : LaneIx) (c p e : Int) (hs : Only my z0 s)
    (hf_regs : Field.regs ∈ my.fields := by assumption) (hf_yew : Field.yew ∈ my.fields := by assumption) (hf_hirqLow :
    Field.hirqLow ∈ my.fields := by assumption) (hf_fbk : Field.fbk ∈ my.fields := by assumption) (hp_6 : 6 ∈ my.pages := by
    assumption) (hl_n : n ∈ my.lanes := by assumption) : Only my z0 (State.idxFix s n c p e) := by
  simp +contextual (maxDischargeDepth := 99) [State.idxFix, hs, hf_regs, hf_yew, hf_hirqLow, hf_fbk, hp_6, hl_n]

@[simp] theorem State.idxFault_only {my : May} {z0 : State} (s : State) (n : LaneIx) (f : FbkState) (e : Int) (hs : Only my
    z0 s) (hf_regs : Field.regs ∈ my.fields := by assumption) (hf_firstSeen : Field.firstSeen ∈ my.fields := by assumption)
    (hf_yew : Field.yew ∈ my.fields := by assumption) (hf_hirqLow : Field.hirqLow ∈ my.fields := by assumption) (hf_fbk :
    Field.fbk ∈ my.fields := by assumption) (hp_6 : 6 ∈ my.pages := by assumption) (hl_n : n ∈ my.lanes := by assumption) :
    Only my z0 (State.idxFault s n f e) := by
  simp +contextual (maxDischargeDepth := 99) [State.idxFault, hs, hf_regs, hf_firstSeen, hf_yew, hf_hirqLow, hf_fbk, hp_6,
      hl_n]

@[simp] theorem State.idxEvent_only {my : May} {z0 : State} (s : State) (n : LaneIx) (f : FbkState) (hs : Only my z0 s)
    (hf_regs : Field.regs ∈ my.fields := by assumption) (hf_firstSeen : Field.firstSeen ∈ my.fields := by assumption)
    (hf_yew : Field.yew ∈ my.fields := by assumption) (hf_hirqLow : Field.hirqLow ∈ my.fields := by assumption) (hf_fbk :
    Field.fbk ∈ my.fields := by assumption) (hp_6 : 6 ∈ my.pages := by assumption) (hl_n : n ∈ my.lanes := by assumption) :
    Only my z0 (State.idxEvent s n f) := by
  simp +contextual (maxDischargeDepth := 99) [State.idxEvent, hs, hf_regs, hf_firstSeen, hf_yew, hf_hirqLow, hf_fbk, hp_6,
      hl_n]

@[simp] theorem State.quadInput_only {my : May} {z0 : State} (s : State) (n : LaneIx) (old new : BitVec 3) (hs : Only my z0
    s) (hf_regs : Field.regs ∈ my.fields := by assumption) (hf_firstSeen : Field.firstSeen ∈ my.fields := by assumption)
    (hf_yew : Field.yew ∈ my.fields := by assumption) (hf_hirqLow : Field.hirqLow ∈ my.fields := by assumption) (hf_fbk :
    Field.fbk ∈ my.fields := by assumption) (hp_6 : 6 ∈ my.pages := by assumption) (hl_n : n ∈ my.lanes := by assumption) :
    Only my z0 (State.quadInput s n old new) := by
  simp +contextual (maxDischargeDepth := 99) [State.quadInput, hs, hf_regs, hf_firstSeen, hf_yew, hf_hirqLow, hf_fbk, hp_6,
      hl_n]

@[simp] theorem State.posLoad_only {my : May} {z0 : State} (s : State) (n : LaneIx) (v : Word) (hs : Only my z0 s) (hf_regs
    : Field.regs ∈ my.fields := by assumption) (hf_yew : Field.yew ∈ my.fields := by assumption) (hf_hirqLow : Field.hirqLow
    ∈ my.fields := by assumption) (hf_fbk : Field.fbk ∈ my.fields := by assumption) (hp_6 : 6 ∈ my.pages := by assumption)
    (hl_n : n ∈ my.lanes := by assumption) : Only my z0 (State.posLoad s n v) := by
  simp +contextual (maxDischargeDepth := 99) [State.posLoad, hs, hf_regs, hf_yew, hf_hirqLow, hf_fbk, hp_6, hl_n]

@[simp] theorem State.fbkStart_only {my : May} {z0 : State} (s : State) (n : LaneIx) (hs : Only my z0 s) (hf_fbk : Field.fbk
    ∈ my.fields := by assumption) (hl_n : n ∈ my.lanes := by assumption) : Only my z0 (State.fbkStart s n) := by
  simp +contextual (maxDischargeDepth := 99) [State.fbkStart, hs, hf_fbk, hl_n]

@[simp] theorem State.fbkEnable_only {my : May} {z0 : State} (s : State) (n : LaneIx) (hs : Only my z0 s) (hf_fbk :
    Field.fbk ∈ my.fields := by assumption) (hl_n : n ∈ my.lanes := by assumption) : Only my z0 (State.fbkEnable s n) := by
  simp +contextual (maxDischargeDepth := 99) [State.fbkEnable, hs, hf_fbk, hl_n]

@[simp] theorem State.fbkStop_only {my : May} {z0 : State} (s : State) (n : LaneIx) (hs : Only my z0 s) (hf_regs :
    Field.regs ∈ my.fields := by assumption) (hf_hirqLow : Field.hirqLow ∈ my.fields := by assumption) (hf_fbk : Field.fbk ∈
    my.fields := by assumption) (hl_n : n ∈ my.lanes := by assumption) : Only my z0 (State.fbkStop s n) := by
  simp +contextual (maxDischargeDepth := 99) [State.fbkStop, hs, hf_regs, hf_hirqLow, hf_fbk, hl_n]

@[simp] theorem State.torn_only {my : May} {z0 : State} (s : State) (n : LaneIx) (hs : Only my z0 s) (hf_regs : Field.regs ∈
    my.fields := by assumption) (hf_hirqLow : Field.hirqLow ∈ my.fields := by assumption) (hp_28 : 28 ∈ my.pages := by
    assumption) (hl_n : n ∈ my.lanes := by assumption) : Only my z0 (State.torn s n) := by
  simp +contextual (maxDischargeDepth := 99) [State.torn, hs, hf_regs, hf_hirqLow, hp_28, hl_n]

@[simp] theorem State.merged_only {my : May} {z0 : State} (s : State) (n : LaneIx) (hs : Only my z0 s) (hf_regs : Field.regs
    ∈ my.fields := by assumption) (hl_n : n ∈ my.lanes := by assumption) : Only my z0 (State.merged s n) := by
  simp +contextual (maxDischargeDepth := 99) [State.merged, hs, hf_regs, hl_n]

@[simp] theorem State.pairCancel_only {my : May} {z0 : State} (s : State) (n : LaneIx) (hs : Only my z0 s) (hf_regs :
    Field.regs ∈ my.fields := by assumption) (hf_hirqLow : Field.hirqLow ∈ my.fields := by assumption) (hp_28 : 28 ∈
    my.pages := by assumption) (hl_n : n ∈ my.lanes := by assumption) : Only my z0 (State.pairCancel s n) := by
  simp +contextual (maxDischargeDepth := 99) [State.pairCancel, hs, hf_regs, hf_hirqLow, hp_28, hl_n]

@[simp] theorem State.cancelAll_only {my : May} {z0 : State} (s : State) (n : LaneIx) (hs : Only my z0 s) (hf_regs :
    Field.regs ∈ my.fields := by assumption) (hf_lanes : Field.lanes ∈ my.fields := by assumption) (hl_n : n ∈ my.lanes :=
    by assumption) : Only my z0 (State.cancelAll s n) := by
  simp +contextual (maxDischargeDepth := 99) [State.cancelAll, hs, hf_regs, hf_lanes, hl_n]

@[simp] theorem State.enterSafe_only {my : May} {z0 : State} (s : State) (n : LaneIx) (hs : Only my z0 s) (hf_regs :
    Field.regs ∈ my.fields := by assumption) (hf_yew : Field.yew ∈ my.fields := by assumption) (hf_hirqLow : Field.hirqLow ∈
    my.fields := by assumption) (hf_lanes : Field.lanes ∈ my.fields := by assumption) (hf_banks : Field.banks ∈ my.fields :=
    by assumption) (hf_pwm : Field.pwm ∈ my.fields := by assumption) (hf_eng : Field.eng ∈ my.fields := by assumption) (hp_6
    : 6 ∈ my.pages := by assumption) (hl_n : n ∈ my.lanes := by assumption) : Only my z0 (State.enterSafe s n) := by
  simp +contextual (maxDischargeDepth := 99) [State.enterSafe, hs, hf_regs, hf_yew, hf_hirqLow, hf_lanes, hf_banks, hf_pwm,
      hf_eng, hp_6, hl_n]

@[simp] theorem State.leaveSafe_only {my : May} {z0 : State} (s : State) (n : LaneIx) (hs : Only my z0 s) (hf_lanes :
    Field.lanes ∈ my.fields := by assumption) (hf_pwm : Field.pwm ∈ my.fields := by assumption) (hl_n : n ∈ my.lanes := by
    assumption) : Only my z0 (State.leaveSafe s n) := by
  simp +contextual (maxDischargeDepth := 99) [State.leaveSafe, hs, hf_lanes, hf_pwm, hl_n]

@[simp] theorem State.tear_only {my : May} {z0 : State} (s : State) (n : LaneIx) (hs : Only my z0 s) (hf_regs : Field.regs ∈
    my.fields := by assumption) (hf_hirqLow : Field.hirqLow ∈ my.fields := by assumption) (hf_lanes : Field.lanes ∈
    my.fields := by assumption) (hp_28 : 28 ∈ my.pages := by assumption) (hl_n : n ∈ my.lanes := by assumption) : Only my z0
    (State.tear s n) := by
  simp +contextual (maxDischargeDepth := 99) [State.tear, hs, hf_regs, hf_hirqLow, hf_lanes, hp_28, hl_n]

@[simp] theorem State.admitEvent_only {my : May} {z0 : State} (s : State) (n : LaneIx) (a b : Flit) (hs : Only my z0 s)
    (hf_regs : Field.regs ∈ my.fields := by assumption) (hf_firstSeen : Field.firstSeen ∈ my.fields := by assumption)
    (hf_yew : Field.yew ∈ my.fields := by assumption) (hf_hirqLow : Field.hirqLow ∈ my.fields := by assumption) (hf_lanes :
    Field.lanes ∈ my.fields := by assumption) (hp_6 : 6 ∈ my.pages := by assumption) (hp_28 : 28 ∈ my.pages := by
    assumption) (hl_n : n ∈ my.lanes := by assumption) : Only my z0 (State.admitEvent s n a b) := by
  unfold State.admitEvent
  dsimp only
  (repeat' split) <;> simp +contextual (maxDischargeDepth := 99) [hs, hf_regs, hf_firstSeen, hf_yew, hf_hirqLow, hf_lanes,
                          hp_6, hp_28, hl_n]

@[simp] theorem State.takeEvtB_only {my : May} {z0 : State} (s : State) (n : LaneIx) (f : Flit) (hs : Only my z0 s) (hf_regs
    : Field.regs ∈ my.fields := by assumption) (hf_firstSeen : Field.firstSeen ∈ my.fields := by assumption) (hf_yew :
    Field.yew ∈ my.fields := by assumption) (hf_hirqLow : Field.hirqLow ∈ my.fields := by assumption) (hf_lanes :
    Field.lanes ∈ my.fields := by assumption) (hp_6 : 6 ∈ my.pages := by assumption) (hp_28 : 28 ∈ my.pages := by
    assumption) (hl_n : n ∈ my.lanes := by assumption) : Only my z0 (State.takeEvtB s n f) := by
  unfold State.takeEvtB
  dsimp only
  (repeat' split) <;> simp +contextual (maxDischargeDepth := 99) [hs, hf_regs, hf_firstSeen, hf_yew, hf_hirqLow, hf_lanes,
                          hp_6, hp_28, hl_n]

@[simp] theorem State.takeUpdate_only {my : May} {z0 : State} (s : State) (n : LaneIx) (h : Flit) (ps : List (Word × Word))
    (hs : Only my z0 s) (hf_lanes : Field.lanes ∈ my.fields := by assumption) (hl_n : n ∈ my.lanes := by assumption) : Only
    my z0 (State.takeUpdate s n h ps) := by
  simp +contextual (maxDischargeDepth := 99) [State.takeUpdate, hs, hf_lanes, hl_n]

@[simp] theorem State.takeTrv_only {my : May} {z0 : State} (s : State) (n : LaneIx) (f : Flit) (hs : Only my z0 s) (hf_regs
    : Field.regs ∈ my.fields := by assumption) (hf_hirqLow : Field.hirqLow ∈ my.fields := by assumption) (hf_lanes :
    Field.lanes ∈ my.fields := by assumption) (hp_28 : 28 ∈ my.pages := by assumption) (hl_n : n ∈ my.lanes := by
    assumption) : Only my z0 (State.takeTrv s n f) := by
  unfold State.takeTrv
  dsimp only
  (repeat' split) <;> simp +contextual (maxDischargeDepth := 99) [hs, hf_regs, hf_hirqLow, hf_lanes, hp_28, hl_n]

@[simp] theorem State.takeAdv_only {my : May} {z0 : State} (s : State) (n : LaneIx) (f : Flit) (hs : Only my z0 s) (hf_regs
    : Field.regs ∈ my.fields := by assumption) (hf_hirqLow : Field.hirqLow ∈ my.fields := by assumption) (hf_lanes :
    Field.lanes ∈ my.fields := by assumption) (hp_28 : 28 ∈ my.pages := by assumption) (hl_n : n ∈ my.lanes := by
    assumption) : Only my z0 (State.takeAdv s n f) := by
  simp +contextual (maxDischargeDepth := 99) [State.takeAdv, hs, hf_regs, hf_hirqLow, hf_lanes, hp_28, hl_n]

@[simp] theorem State.queueEnd_only {my : May} {z0 : State} (s : State) (n : LaneIx) (hs : Only my z0 s) (hf_regs :
    Field.regs ∈ my.fields := by assumption) (hf_lanes : Field.lanes ∈ my.fields := by assumption) (hl_n : n ∈ my.lanes :=
    by assumption) : Only my z0 (State.queueEnd s n) := by
  unfold State.queueEnd
  dsimp only
  refine overList_only _ _ (by simp +contextual (maxDischargeDepth := 99) [hs, hf_regs, hf_lanes, hl_n]) (fun _ _ hw => ?_)
  (repeat' split) <;> simp +contextual (maxDischargeDepth := 99) [hw, hf_regs, hf_lanes, hl_n]

@[simp] theorem State.takeCtrl_only {my : May} {z0 : State} (s : State) (n : LaneIx) (f : Flit) (hs : Only my z0 s) (hf_regs
    : Field.regs ∈ my.fields := by assumption) (hf_lanes : Field.lanes ∈ my.fields := by assumption) (hf_eng : Field.eng ∈
    my.fields := by assumption) (hl_n : n ∈ my.lanes := by assumption) : Only my z0 (State.takeCtrl s n f) := by
  simp +contextual (maxDischargeDepth := 99) [State.takeCtrl, hs, hf_regs, hf_lanes, hf_eng, hl_n]

@[simp] theorem State.laneTakes_only {my : May} {z0 : State} (s : State) (n : LaneIx) (f : Flit) (hs : Only my z0 s)
    (hf_regs : Field.regs ∈ my.fields := by assumption) (hf_firstSeen : Field.firstSeen ∈ my.fields := by assumption)
    (hf_yew : Field.yew ∈ my.fields := by assumption) (hf_hirqLow : Field.hirqLow ∈ my.fields := by assumption) (hf_lanes :
    Field.lanes ∈ my.fields := by assumption) (hf_eng : Field.eng ∈ my.fields := by assumption) (hp_6 : 6 ∈ my.pages := by
    assumption) (hp_28 : 28 ∈ my.pages := by assumption) (hl_n : n ∈ my.lanes := by assumption) : Only my z0
    (State.laneTakes s n f) := by
  unfold State.laneTakes
  dsimp only
  (repeat' split) <;> simp +contextual (maxDischargeDepth := 99) [hs, hf_regs, hf_firstSeen, hf_yew, hf_hirqLow, hf_lanes,
                          hf_eng, hp_6, hp_28, hl_n]

@[simp] theorem State.linkDn_only {my : May} {z0 : State} (s : State) (n : LaneIx) (f : Flit) (hs : Only my z0 s) (hf_regs :
    Field.regs ∈ my.fields := by assumption) (hf_hirqLow : Field.hirqLow ∈ my.fields := by assumption) (hf_lanes :
    Field.lanes ∈ my.fields := by assumption) (hl_n : n ∈ my.lanes := by assumption) : Only my z0 (State.linkDn s n f) := by
  simp +contextual (maxDischargeDepth := 99) [State.linkDn, hs, hf_regs, hf_hirqLow, hf_lanes, hl_n]

@[simp] theorem State.flitDn_only {my : May} {z0 : State} (s : State) (n : LaneIx) (f : Flit) (hs : Only my z0 s) (hf_regs :
    Field.regs ∈ my.fields := by assumption) (hf_firstSeen : Field.firstSeen ∈ my.fields := by assumption) (hf_yew :
    Field.yew ∈ my.fields := by assumption) (hf_hirqLow : Field.hirqLow ∈ my.fields := by assumption) (hf_lanes :
    Field.lanes ∈ my.fields := by assumption) (hf_eng : Field.eng ∈ my.fields := by assumption) (hp_6 : 6 ∈ my.pages := by
    assumption) (hp_28 : 28 ∈ my.pages := by assumption) (hl_n : n ∈ my.lanes := by assumption) : Only my z0 (State.flitDn s
    n f) := by
  simp +contextual (maxDischargeDepth := 99) [State.flitDn, hs, hf_regs, hf_firstSeen, hf_yew, hf_hirqLow, hf_lanes, hf_eng,
      hp_6, hp_28, hl_n]

@[simp] theorem State.flitsDn_only {my : May} {z0 : State} (s : State) (n : LaneIx) (fs : List Flit) (hs : Only my z0 s)
    (hf_regs : Field.regs ∈ my.fields := by assumption) (hf_firstSeen : Field.firstSeen ∈ my.fields := by assumption)
    (hf_yew : Field.yew ∈ my.fields := by assumption) (hf_hirqLow : Field.hirqLow ∈ my.fields := by assumption) (hf_lanes :
    Field.lanes ∈ my.fields := by assumption) (hf_eng : Field.eng ∈ my.fields := by assumption) (hp_6 : 6 ∈ my.pages := by
    assumption) (hp_28 : 28 ∈ my.pages := by assumption) (hl_n : n ∈ my.lanes := by assumption) : Only my z0 (State.flitsDn
    s n fs) := by
  simp +contextual (maxDischargeDepth := 99) [State.flitsDn, hs, hf_regs, hf_firstSeen, hf_yew, hf_hirqLow, hf_lanes,
      hf_eng, hp_6, hp_28, hl_n]

@[simp] theorem State.closeOpen_only {my : May} {z0 : State} (s : State) (n : LaneIx) (hs : Only my z0 s) (hf_regs :
    Field.regs ∈ my.fields := by assumption) (hf_firstSeen : Field.firstSeen ∈ my.fields := by assumption) (hf_yew :
    Field.yew ∈ my.fields := by assumption) (hf_hirqLow : Field.hirqLow ∈ my.fields := by assumption) (hf_lanes :
    Field.lanes ∈ my.fields := by assumption) (hf_banks : Field.banks ∈ my.fields := by assumption) (hp_6 : 6 ∈ my.pages :=
    by assumption) (hl_n : n ∈ my.lanes := by assumption) : Only my z0 (State.closeOpen s n) := by
  simp +contextual (maxDischargeDepth := 99) [State.closeOpen, hs, hf_regs, hf_firstSeen, hf_yew, hf_hirqLow, hf_lanes,
      hf_banks, hp_6, hl_n]

@[simp] theorem State.laneDisable_only {my : May} {z0 : State} (s : State) (n : LaneIx) (hs : Only my z0 s) (hf_regs :
    Field.regs ∈ my.fields := by assumption) (hf_firstSeen : Field.firstSeen ∈ my.fields := by assumption) (hf_yew :
    Field.yew ∈ my.fields := by assumption) (hf_hirqLow : Field.hirqLow ∈ my.fields := by assumption) (hf_lanes :
    Field.lanes ∈ my.fields := by assumption) (hf_banks : Field.banks ∈ my.fields := by assumption) (hf_pwm : Field.pwm ∈
    my.fields := by assumption) (hf_eng : Field.eng ∈ my.fields := by assumption) (hp_6 : 6 ∈ my.pages := by assumption)
    (hl_n : n ∈ my.lanes := by assumption) : Only my z0 (State.laneDisable s n) := by
  simp +contextual (maxDischargeDepth := 99) [State.laneDisable, hs, hf_regs, hf_firstSeen, hf_yew, hf_hirqLow, hf_lanes,
      hf_banks, hf_pwm, hf_eng, hp_6, hl_n]

@[simp] theorem State.laneEnable_only {my : May} {z0 : State} (s : State) (n : LaneIx) (hs : Only my z0 s) (hf_lanes :
    Field.lanes ∈ my.fields := by assumption) (hf_pwm : Field.pwm ∈ my.fields := by assumption) (hl_n : n ∈ my.lanes := by
    assumption) : Only my z0 (State.laneEnable s n) := by
  simp +contextual (maxDischargeDepth := 99) [State.laneEnable, hs, hf_lanes, hf_pwm, hl_n]

@[simp] theorem State.drExpire_only {my : May} {z0 : State} (s : State) (n : LaneIx) (hs : Only my z0 s) (hf_regs :
    Field.regs ∈ my.fields := by assumption) (hf_firstSeen : Field.firstSeen ∈ my.fields := by assumption) (hf_yew :
    Field.yew ∈ my.fields := by assumption) (hf_hirqLow : Field.hirqLow ∈ my.fields := by assumption) (hf_lanes :
    Field.lanes ∈ my.fields := by assumption) (hf_banks : Field.banks ∈ my.fields := by assumption) (hp_6 : 6 ∈ my.pages :=
    by assumption) (hp_28 : 28 ∈ my.pages := by assumption) (hl_n : n ∈ my.lanes := by assumption) : Only my z0
    (State.drExpire s n) := by
  simp +contextual (maxDischargeDepth := 99) [State.drExpire, hs, hf_regs, hf_firstSeen, hf_yew, hf_hirqLow, hf_lanes,
      hf_banks, hp_6, hp_28, hl_n]

@[simp] theorem State.reaim_only {my : May} {z0 : State} (s : State) (n : LaneIx) (hs : Only my z0 s) (hf_now : Field.now ∈
    my.fields := by assumption) (hf_regs : Field.regs ∈ my.fields := by assumption) (hf_hirqLow : Field.hirqLow ∈ my.fields
    := by assumption) (hf_lanes : Field.lanes ∈ my.fields := by assumption) (hp_28 : 28 ∈ my.pages := by assumption) (hl_n :
    n ∈ my.lanes := by assumption) : Only my z0 (State.reaim s n) := by
  simp +contextual (maxDischargeDepth := 99) [State.reaim, hs, hf_now, hf_regs, hf_hirqLow, hf_lanes, hp_28, hl_n]

@[simp] theorem State.applyValue_only {my : May} {z0 : State} (s : State) (n : LaneIx) (e : QEntry) (hs : Only my z0 s)
    (hf_regs : Field.regs ∈ my.fields := by assumption) (hf_lanes : Field.lanes ∈ my.fields := by assumption) (hl_n : n ∈
    my.lanes := by assumption) : Only my z0 (State.applyValue s n e) := by
  unfold State.applyValue
  (repeat' split) <;> simp_all +contextual (maxDischargeDepth := 99)

@[simp] theorem State.applyAlso_only {my : May} {z0 : State} (s : State) (n : LaneIx) (e : QEntry) (hs : Only my z0 s)
    (hf_lanes : Field.lanes ∈ my.fields := by assumption) (hl_n : n ∈ my.lanes := by assumption) : Only my z0
    (State.applyAlso s n e) := by
  unfold State.applyAlso
  (repeat' split) <;> simp_all +contextual (maxDischargeDepth := 99)

@[simp] theorem State.fireEntry_only {my : May} {z0 : State} (s : State) (n : LaneIx) (i : Nat) (e : QEntry) (hs : Only my
    z0 s) (hf_regs : Field.regs ∈ my.fields := by assumption) (hf_firstSeen : Field.firstSeen ∈ my.fields := by assumption)
    (hf_yew : Field.yew ∈ my.fields := by assumption) (hf_hirqLow : Field.hirqLow ∈ my.fields := by assumption) (hf_lanes :
    Field.lanes ∈ my.fields := by assumption) (hf_banks : Field.banks ∈ my.fields := by assumption) (hf_eng : Field.eng ∈
    my.fields := by assumption) (hp_6 : 6 ∈ my.pages := by assumption) (hp_28 : 28 ∈ my.pages := by assumption) (hl_n : n ∈
    my.lanes := by assumption) : Only my z0 (State.fireEntry s n i e) := by
  simp +contextual (maxDischargeDepth := 99) [State.fireEntry, hs, hf_regs, hf_firstSeen, hf_yew, hf_hirqLow, hf_lanes,
      hf_banks, hf_eng, hp_6, hp_28, hl_n]

@[simp] theorem State.fenceLane_only {my : May} {z0 : State} (s : State) (n : LaneIx) (cause : FenceCause) (hs : Only my z0
    s) (hf_regs : Field.regs ∈ my.fields := by assumption) (hf_yew : Field.yew ∈ my.fields := by assumption) (hf_hirqLow :
    Field.hirqLow ∈ my.fields := by assumption) (hf_lanes : Field.lanes ∈ my.fields := by assumption) (hf_banks :
    Field.banks ∈ my.fields := by assumption) (hf_pwm : Field.pwm ∈ my.fields := by assumption) (hf_eng : Field.eng ∈
    my.fields := by assumption) (hf_fbk : Field.fbk ∈ my.fields := by assumption) (hp_6 : 6 ∈ my.pages := by assumption)
    (hl_n : n ∈ my.lanes := by assumption) : Only my z0 (State.fenceLane s n cause) := by
  simp +contextual (maxDischargeDepth := 99) [State.fenceLane, hs, hf_regs, hf_yew, hf_hirqLow, hf_lanes, hf_banks, hf_pwm,
      hf_eng, hf_fbk, hp_6, hl_n]

@[simp] theorem State.modQ_only {my : May} {z0 : State} (s : State) (q : Nat) (f : Queue → Queue) (hs : Only my z0 s) (hf_hq
    : Field.hq ∈ my.fields := by assumption) : Only my z0 (State.modQ s q f) := by
  simp +contextual (maxDischargeDepth := 99) [State.modQ, hs, hf_hq]

@[simp] theorem State.setQirq_only {my : May} {z0 : State} (s : State) (q : Nat) (hs : Only my z0 s) (hf_regs : Field.regs ∈
    my.fields := by assumption) (hf_hirqLow : Field.hirqLow ∈ my.fields := by assumption) (hp_4 : 4 ∈ my.pages := by
    assumption) : Only my z0 (State.setQirq s q) := by
  simp +contextual (maxDischargeDepth := 99) [State.setQirq, hs, hf_regs, hf_hirqLow, hp_4]

@[simp] theorem State.thrCross_only {my : May} {z0 : State} (s : State) (q a b : Nat) (hs : Only my z0 s) (hf_regs :
    Field.regs ∈ my.fields := by assumption) (hf_hirqLow : Field.hirqLow ∈ my.fields := by assumption) (hp_4 : 4 ∈ my.pages
    := by assumption) : Only my z0 (State.thrCross s q a b) := by
  simp +contextual (maxDischargeDepth := 99) [State.thrCross, hs, hf_regs, hf_hirqLow, hp_4]

@[simp] theorem State.ageHead_only {my : May} {z0 : State} (s : State) (q : Nat) (hs : Only my z0 s) (hf_regs : Field.regs ∈
    my.fields := by assumption) (hf_hirqLow : Field.hirqLow ∈ my.fields := by assumption) (hp_4 : 4 ∈ my.pages := by
    assumption) : Only my z0 (State.ageHead s q) := by
  simp +contextual (maxDischargeDepth := 99) [State.ageHead, hs, hf_regs, hf_hirqLow, hp_4]

@[simp] theorem State.post_only {my : May} {z0 : State} (s : State) (q : Nat) (tag : BitVec 16) (data : List Byte) (hs :
    Only my z0 s) (hf_regs : Field.regs ∈ my.fields := by assumption) (hf_hq : Field.hq ∈ my.fields := by assumption)
    (hf_hirqLow : Field.hirqLow ∈ my.fields := by assumption) (hp_4 : 4 ∈ my.pages := by assumption) : Only my z0
    (State.post s q tag data).2 := by
  unfold State.post
  dsimp only
  (repeat' split) <;> simp +contextual (maxDischargeDepth := 99) [hs, hf_regs, hf_hq, hf_hirqLow, hp_4]

@[simp] theorem State.setSlot_only {my : May} {z0 : State} (s : State) (i : Nat) (x : Slot) (hs : Only my z0 s) (hf_map :
    Field.map ∈ my.fields := by assumption) : Only my z0 (State.setSlot s i x) := by
  simp +contextual (maxDischargeDepth := 99) [State.setSlot, hs, hf_map]

@[simp] theorem State.q8Consumed_only {my : May} {z0 : State} (s : State) (data : List Byte) (hs : Only my z0 s) (hf_map :
    Field.map ∈ my.fields := by assumption) : Only my z0 (State.q8Consumed s data) := by
  simp +contextual (maxDischargeDepth := 99) [State.q8Consumed, hs, hf_map]

@[simp] theorem State.consumeHead_only {my : May} {z0 : State} (s : State) (q : Nat) (hs : Only my z0 s) (hf_regs :
    Field.regs ∈ my.fields := by assumption) (hf_hq : Field.hq ∈ my.fields := by assumption) (hf_hirqLow : Field.hirqLow ∈
    my.fields := by assumption) (hf_map : Field.map ∈ my.fields := by assumption) (hp_4 : 4 ∈ my.pages := by assumption) :
    Only my z0 (State.consumeHead s q) := by
  unfold State.consumeHead
  dsimp only
  (repeat' split) <;> simp +contextual (maxDischargeDepth := 99) [hs, hf_regs, hf_hq, hf_hirqLow, hf_map, hp_4]

@[simp] theorem State.postCmpl_only {my : May} {z0 : State} (s : State) (c : Completion) (hs : Only my z0 s) (hf_regs :
    Field.regs ∈ my.fields := by assumption) (hf_firstSeen : Field.firstSeen ∈ my.fields := by assumption) (hf_yew :
    Field.yew ∈ my.fields := by assumption) (hf_cmpl : Field.cmpl ∈ my.fields := by assumption) (hf_hirqLow : Field.hirqLow
    ∈ my.fields := by assumption) (hp_4 : 4 ∈ my.pages := by assumption) (hp_6 : 6 ∈ my.pages := by assumption) : Only my z0
    (State.postCmpl s c) := by
  unfold State.postCmpl
  dsimp only
  (repeat' split) <;> first
      | (simp +contextual (maxDischargeDepth := 99) [hs, hf_regs, hf_firstSeen, hf_yew, hf_cmpl, hf_hirqLow, hp_4, hp_6]; done)
      | (rename_i e; have e' := congrArg (fun p => Only my z0 (Prod.snd p)) e; simp +contextual (maxDischargeDepth := 99) [hs, hf_regs, hf_firstSeen, hf_yew, hf_cmpl, hf_hirqLow, hp_4, hp_6] at e'; simp +contextual (maxDischargeDepth := 99) [hs, hf_regs, hf_firstSeen, hf_yew, hf_cmpl, hf_hirqLow, hp_4, hp_6, e']; done)

@[simp] theorem State.complete_only {my : May} {z0 : State} (s : State) (q status : Nat) (seq tag : BitVec 16) (detail :
    Nat) (hs : Only my z0 s) (hf_regs : Field.regs ∈ my.fields := by assumption) (hf_firstSeen : Field.firstSeen ∈ my.fields
    := by assumption) (hf_yew : Field.yew ∈ my.fields := by assumption) (hf_cmpl : Field.cmpl ∈ my.fields := by assumption)
    (hf_cmplWait : Field.cmplWait ∈ my.fields := by assumption) (hf_hirqLow : Field.hirqLow ∈ my.fields := by assumption)
    (hp_4 : 4 ∈ my.pages := by assumption) (hp_6 : 6 ∈ my.pages := by assumption) : Only my z0 (State.complete s q status
    seq tag detail) := by
  unfold State.complete
  dsimp only
  (repeat' split) <;> first
      | (simp +contextual (maxDischargeDepth := 99) [hs, hf_regs, hf_firstSeen, hf_yew, hf_cmpl, hf_cmplWait, hf_hirqLow, hp_4, hp_6]; done)
      | (rename_i e; have e' := congrArg (fun p => Only my z0 (Prod.snd p)) e; simp +contextual (maxDischargeDepth := 99) [hs, hf_regs, hf_firstSeen, hf_yew, hf_cmpl, hf_cmplWait, hf_hirqLow, hp_4, hp_6] at e'; simp +contextual (maxDischargeDepth := 99) [hs, hf_regs, hf_firstSeen, hf_yew, hf_cmpl, hf_cmplWait, hf_hirqLow, hp_4, hp_6, e']; done)

@[simp] theorem State.postWaiting_only {my : May} {z0 : State} (s : State) (hs : Only my z0 s) (hf_regs : Field.regs ∈
    my.fields := by assumption) (hf_firstSeen : Field.firstSeen ∈ my.fields := by assumption) (hf_yew : Field.yew ∈
    my.fields := by assumption) (hf_cmpl : Field.cmpl ∈ my.fields := by assumption) (hf_cmplWait : Field.cmplWait ∈
    my.fields := by assumption) (hf_hirqLow : Field.hirqLow ∈ my.fields := by assumption) (hp_4 : 4 ∈ my.pages := by
    assumption) (hp_6 : 6 ∈ my.pages := by assumption) : Only my z0 (State.postWaiting s) := by
  simp +contextual (maxDischargeDepth := 99) [State.postWaiting, hs, hf_regs, hf_firstSeen, hf_yew, hf_cmpl, hf_cmplWait,
      hf_hirqLow, hp_4, hp_6]

@[simp] theorem State.completeItem_only {my : May} {z0 : State} (s : State) (q : Nat) (l : Seg) (status detail : Nat) (hs :
    Only my z0 s) (hf_regs : Field.regs ∈ my.fields := by assumption) (hf_firstSeen : Field.firstSeen ∈ my.fields := by
    assumption) (hf_yew : Field.yew ∈ my.fields := by assumption) (hf_cmpl : Field.cmpl ∈ my.fields := by assumption)
    (hf_cmplWait : Field.cmplWait ∈ my.fields := by assumption) (hf_hirqLow : Field.hirqLow ∈ my.fields := by assumption)
    (hp_4 : 4 ∈ my.pages := by assumption) (hp_6 : 6 ∈ my.pages := by assumption) : Only my z0 (State.completeItem s q l
    status detail) := by
  simp +contextual (maxDischargeDepth := 99) [State.completeItem, hs, hf_regs, hf_firstSeen, hf_yew, hf_cmpl, hf_cmplWait,
      hf_hirqLow, hp_4, hp_6]

@[simp] theorem State.retire_only {my : May} {z0 : State} (s : State) (q n status detail : Nat) (hs : Only my z0 s) (hf_regs
    : Field.regs ∈ my.fields := by assumption) (hf_freeIdx : Field.freeIdx ∈ my.fields := by assumption) (hf_firstSeen :
    Field.firstSeen ∈ my.fields := by assumption) (hf_yew : Field.yew ∈ my.fields := by assumption) (hf_hq : Field.hq ∈
    my.fields := by assumption) (hf_cmpl : Field.cmpl ∈ my.fields := by assumption) (hf_cmplWait : Field.cmplWait ∈
    my.fields := by assumption) (hf_hirqLow : Field.hirqLow ∈ my.fields := by assumption) (hp_4 : 4 ∈ my.pages := by
    assumption) (hp_6 : 6 ∈ my.pages := by assumption) : Only my z0 (State.retire s q n status detail) := by
  simp +contextual (maxDischargeDepth := 99) [State.retire, hs, hf_regs, hf_freeIdx, hf_firstSeen, hf_yew, hf_hq, hf_cmpl,
      hf_cmplWait, hf_hirqLow, hp_4, hp_6]

@[simp] theorem State.retireHead_only {my : May} {z0 : State} (s : State) (q status detail : Nat) (hs : Only my z0 s)
    (hf_regs : Field.regs ∈ my.fields := by assumption) (hf_freeIdx : Field.freeIdx ∈ my.fields := by assumption)
    (hf_firstSeen : Field.firstSeen ∈ my.fields := by assumption) (hf_yew : Field.yew ∈ my.fields := by assumption) (hf_hq :
    Field.hq ∈ my.fields := by assumption) (hf_cmpl : Field.cmpl ∈ my.fields := by assumption) (hf_cmplWait : Field.cmplWait
    ∈ my.fields := by assumption) (hf_hirqLow : Field.hirqLow ∈ my.fields := by assumption) (hp_4 : 4 ∈ my.pages := by
    assumption) (hp_6 : 6 ∈ my.pages := by assumption) : Only my z0 (State.retireHead s q status detail) := by
  unfold State.retireHead
  (repeat' split) <;> simp_all +contextual (maxDischargeDepth := 99)

end Sys2Proof.Machine
end

