-- ==== Sys2Proof/Laws/OnlySpine.lean ====
section
/-! SUPPORT. What the operations of the ring, the recorder, the NOR, the map, the pose, the footprint, GNSS, time and redundancy may change, under the hypotheses that name it. -/
set_option maxRecDepth 4000
set_option linter.unusedSimpArgs false
set_option linter.unusedVariables false
namespace Sys2Proof.Machine

set_option Elab.async false

@[simp] theorem State.modPort_only {my : May} {z0 : State} (s : State) (p : Ring) (f : PortState → PortState) (hs : Only my
    z0 s) (hf_ports : Field.ports ∈ my.fields := by assumption) : Only my z0 (State.modPort s p f) := by
  simp +contextual (maxDischargeDepth := 99) [State.modPort, hs, hf_ports]

@[simp] theorem State.modRing_only {my : May} {z0 : State} (s : State) (f : RingState → RingState) (hs : Only my z0 s)
    (hf_ring : Field.ring ∈ my.fields := by assumption) : Only my z0 (State.modRing s f) := by
  simp +contextual (maxDischargeDepth := 99) [State.modRing, hs, hf_ring]

@[simp] theorem State.setRgen_only {my : May} {z0 : State} (s : State) (e : Epoch) (hs : Only my z0 s) (hf_regs : Field.regs
    ∈ my.fields := by assumption) (hp_8 : 8 ∈ my.pages := by assumption) (hp_9 : 9 ∈ my.pages := by assumption) : Only my z0
    (State.setRgen s e) := by
  simp +contextual (maxDischargeDepth := 99) [State.setRgen, hs, hf_regs, hp_8, hp_9]

@[simp] theorem State.launchOn_only {my : May} {z0 : State} (s : State) (r : Ring) (f : Frame) (hs : Only my z0 s) (hf_ports
    : Field.ports ∈ my.fields := by assumption) : Only my z0 (State.launchOn s r f) := by
  unfold State.launchOn
  dsimp only
  (repeat' split) <;> simp +contextual (maxDischargeDepth := 99) [hs, hf_ports]

@[simp] theorem State.launch_only {my : May} {z0 : State} (s : State) (f : Frame) (hs : Only my z0 s) (hf_ports :
    Field.ports ∈ my.fields := by assumption) : Only my z0 (State.launch s f) := by
  simp +contextual (maxDischargeDepth := 99) [State.launch, hs, hf_ports]

@[simp] theorem State.freeWord_only {my : May} {z0 : State} (s : State) (hs : Only my z0 s) (hf_freeIdx : Field.freeIdx ∈
    my.fields := by assumption) : Only my z0 (State.freeWord s).2 := by
  simp +contextual (maxDischargeDepth := 99) [State.freeWord, hs, hf_freeIdx]

@[simp] theorem State.recRing_only {my : May} {z0 : State} (s : State) (c : RecCode) (p : Ring) (hs : Only my z0 s) (hf_regs
    : Field.regs ∈ my.fields := by assumption) (hf_freeIdx : Field.freeIdx ∈ my.fields := by assumption) (hf_yew : Field.yew
    ∈ my.fields := by assumption) (hf_hirqLow : Field.hirqLow ∈ my.fields := by assumption) (hp_6 : 6 ∈ my.pages := by
    assumption) (hp_8 : 8 ∈ my.pages := by assumption) (hp_9 : 9 ∈ my.pages := by assumption) : Only my z0 (State.recRing s
    c p) := by
  simp +contextual (maxDischargeDepth := 99) [State.recRing, hs, hf_regs, hf_freeIdx, hf_yew, hf_hirqLow, hp_6, hp_8, hp_9]

@[simp] theorem State.sendPace_only {my : May} {z0 : State} (s : State) (port : Fin 4) (payload : List Byte) (hs : Only my
    z0 s) (hf_ports : Field.ports ∈ my.fields := by assumption) (hf_ring : Field.ring ∈ my.fields := by assumption) : Only
    my z0 (State.sendPace s port payload) := by
  simp +contextual (maxDischargeDepth := 99) [State.sendPace, hs, hf_ports, hf_ring]

@[simp] theorem State.setTxStream_only {my : May} {z0 : State} (s : State) (x : TxStream) (hs : Only my z0 s) (hf_ring :
    Field.ring ∈ my.fields := by assumption) : Only my z0 (State.setTxStream s x) := by
  simp +contextual (maxDischargeDepth := 99) [State.setTxStream, hs, hf_ring]

@[simp] theorem State.pumpStream_only {my : May} {z0 : State} (fuel : Nat) (s : State) (dst : Nat) (cls : FrameClass) (hs :
    Only my z0 s) (hf_ports : Field.ports ∈ my.fields := by assumption) (hf_ring : Field.ring ∈ my.fields := by assumption)
    : Only my z0 (State.pumpStream fuel s dst cls) := by
  induction fuel generalizing s with
  | zero => simp +contextual (maxDischargeDepth := 99) [State.pumpStream, hs, hf_ports, hf_ring]
  | succ n ih =>
    unfold State.pumpStream
    try dsimp only
    (repeat' split) <;> first
        | (simp +contextual (maxDischargeDepth := 99) [hs, hf_ports, hf_ring]; done)
        | (apply ih; simp +contextual (maxDischargeDepth := 99) [hs, hf_ports, hf_ring]; done)
        | (simp +contextual (maxDischargeDepth := 99) [hs, hf_ports, hf_ring, ih, hf_ports, hf_ring]; done)
        | (simp +contextual (maxDischargeDepth := 99) [*]; done)
        | (rename_i e; have e' := congrArg (fun p => Only my z0 (Prod.snd p)) e; simp +contextual (maxDischargeDepth := 99) [hs, hf_ports, hf_ring, ih, hf_ports, hf_ring] at e'; first | (apply ih; simp +contextual (maxDischargeDepth := 99) [hs, hf_ports, hf_ring, e']; done) | (simp +contextual (maxDischargeDepth := 99) [hs, hf_ports, hf_ring, ih, e']; done))

@[simp] theorem State.streamSend_only {my : May} {z0 : State} (s : State) (o : OutFrame) (hs : Only my z0 s) (hf_ports :
    Field.ports ∈ my.fields := by assumption) (hf_ring : Field.ring ∈ my.fields := by assumption) : Only my z0
    (State.streamSend s o) := by
  simp +contextual (maxDischargeDepth := 99) [State.streamSend, hs, hf_ports, hf_ring]

@[simp] theorem State.frameDone_only {my : May} {z0 : State} (s : State) (o : OutFrame) (hs : Only my z0 s) (hf_regs :
    Field.regs ∈ my.fields := by assumption) (hf_firstSeen : Field.firstSeen ∈ my.fields := by assumption) (hf_yew :
    Field.yew ∈ my.fields := by assumption) (hf_hq : Field.hq ∈ my.fields := by assumption) (hf_cmpl : Field.cmpl ∈
    my.fields := by assumption) (hf_cmplWait : Field.cmplWait ∈ my.fields := by assumption) (hf_hirqLow : Field.hirqLow ∈
    my.fields := by assumption) (hf_map : Field.map ∈ my.fields := by assumption) (hp_4 : 4 ∈ my.pages := by assumption)
    (hp_6 : 6 ∈ my.pages := by assumption) : Only my z0 (State.frameDone s o) := by
  unfold State.frameDone
  (repeat' split) <;> simp_all +contextual (maxDischargeDepth := 99)

@[simp] theorem State.streamAck_only {my : May} {z0 : State} (s : State) (dst : Nat) (cls : FrameClass) (next : BitVec 16)
    (credit : Nat) (hs : Only my z0 s) (hf_regs : Field.regs ∈ my.fields := by assumption) (hf_firstSeen : Field.firstSeen ∈
    my.fields := by assumption) (hf_yew : Field.yew ∈ my.fields := by assumption) (hf_hq : Field.hq ∈ my.fields := by
    assumption) (hf_cmpl : Field.cmpl ∈ my.fields := by assumption) (hf_cmplWait : Field.cmplWait ∈ my.fields := by
    assumption) (hf_hirqLow : Field.hirqLow ∈ my.fields := by assumption) (hf_map : Field.map ∈ my.fields := by assumption)
    (hf_ports : Field.ports ∈ my.fields := by assumption) (hf_ring : Field.ring ∈ my.fields := by assumption) (hp_4 : 4 ∈
    my.pages := by assumption) (hp_6 : 6 ∈ my.pages := by assumption) : Only my z0 (State.streamAck s dst cls next credit)
    := by
  simp +contextual (maxDischargeDepth := 99) [State.streamAck, hs, hf_regs, hf_firstSeen, hf_yew, hf_hq, hf_cmpl,
      hf_cmplWait, hf_hirqLow, hf_map, hf_ports, hf_ring, hp_4, hp_6]

@[simp] theorem State.streamGoBack_only {my : May} {z0 : State} (s : State) (dst : Nat) (cls : FrameClass) (hs : Only my z0
    s) (hf_regs : Field.regs ∈ my.fields := by assumption) (hf_ports : Field.ports ∈ my.fields := by assumption) (hf_ring :
    Field.ring ∈ my.fields := by assumption) (hp_8 : 8 ∈ my.pages := by assumption) : Only my z0 (State.streamGoBack s dst
    cls) := by
  simp +contextual (maxDischargeDepth := 99) [State.streamGoBack, hs, hf_regs, hf_ports, hf_ring, hp_8]

@[simp] theorem State.tunEnd_only {my : May} {z0 : State} (s : State) (status words : Nat) (hs : Only my z0 s) (hf_regs :
    Field.regs ∈ my.fields := by assumption) (hf_hirqLow : Field.hirqLow ∈ my.fields := by assumption) (hf_rtun : Field.rtun
    ∈ my.fields := by assumption) (hp_11 : 11 ∈ my.pages := by assumption) : Only my z0 (State.tunEnd s status words) := by
  simp +contextual (maxDischargeDepth := 99) [State.tunEnd, hs, hf_regs, hf_hirqLow, hf_rtun, hp_11]

@[simp] theorem State.abandonFrame_only {my : May} {z0 : State} (s : State) (dst : Nat) (o : OutFrame) (hs : Only my z0 s)
    (hf_regs : Field.regs ∈ my.fields := by assumption) (hf_firstSeen : Field.firstSeen ∈ my.fields := by assumption)
    (hf_yew : Field.yew ∈ my.fields := by assumption) (hf_hq : Field.hq ∈ my.fields := by assumption) (hf_cmpl : Field.cmpl
    ∈ my.fields := by assumption) (hf_cmplWait : Field.cmplWait ∈ my.fields := by assumption) (hf_hirqLow : Field.hirqLow ∈
    my.fields := by assumption) (hp_4 : 4 ∈ my.pages := by assumption) (hp_6 : 6 ∈ my.pages := by assumption) : Only my z0
    (State.abandonFrame s dst o) := by
  unfold State.abandonFrame
  (repeat' split) <;> simp_all +contextual (maxDischargeDepth := 99)

@[simp] theorem State.streamAbandon_only {my : May} {z0 : State} (s : State) (dst : Nat) (cls : FrameClass) (hs : Only my z0
    s) (hf_regs : Field.regs ∈ my.fields := by assumption) (hf_freeIdx : Field.freeIdx ∈ my.fields := by assumption)
    (hf_firstSeen : Field.firstSeen ∈ my.fields := by assumption) (hf_yew : Field.yew ∈ my.fields := by assumption) (hf_hq :
    Field.hq ∈ my.fields := by assumption) (hf_cmpl : Field.cmpl ∈ my.fields := by assumption) (hf_cmplWait : Field.cmplWait
    ∈ my.fields := by assumption) (hf_hirqLow : Field.hirqLow ∈ my.fields := by assumption) (hf_ring : Field.ring ∈
    my.fields := by assumption) (hf_rtun : Field.rtun ∈ my.fields := by assumption) (hp_4 : 4 ∈ my.pages := by assumption)
    (hp_6 : 6 ∈ my.pages := by assumption) (hp_8 : 8 ∈ my.pages := by assumption) (hp_9 : 9 ∈ my.pages := by assumption)
    (hp_11 : 11 ∈ my.pages := by assumption) : Only my z0 (State.streamAbandon s dst cls) := by
  simp +contextual (maxDischargeDepth := 99) [State.streamAbandon, hs, hf_regs, hf_freeIdx, hf_firstSeen, hf_yew, hf_hq,
      hf_cmpl, hf_cmplWait, hf_hirqLow, hf_ring, hf_rtun, hp_4, hp_6, hp_8, hp_9, hp_11]

@[simp] theorem State.streamRetry_only {my : May} {z0 : State} (s : State) (dst : Nat) (cls : FrameClass) (hs : Only my z0
    s) (hf_regs : Field.regs ∈ my.fields := by assumption) (hf_freeIdx : Field.freeIdx ∈ my.fields := by assumption)
    (hf_firstSeen : Field.firstSeen ∈ my.fields := by assumption) (hf_yew : Field.yew ∈ my.fields := by assumption) (hf_hq :
    Field.hq ∈ my.fields := by assumption) (hf_cmpl : Field.cmpl ∈ my.fields := by assumption) (hf_cmplWait : Field.cmplWait
    ∈ my.fields := by assumption) (hf_hirqLow : Field.hirqLow ∈ my.fields := by assumption) (hf_ports : Field.ports ∈
    my.fields := by assumption) (hf_ring : Field.ring ∈ my.fields := by assumption) (hf_rtun : Field.rtun ∈ my.fields := by
    assumption) (hp_4 : 4 ∈ my.pages := by assumption) (hp_6 : 6 ∈ my.pages := by assumption) (hp_8 : 8 ∈ my.pages := by
    assumption) (hp_9 : 9 ∈ my.pages := by assumption) (hp_11 : 11 ∈ my.pages := by assumption) : Only my z0
    (State.streamRetry s dst cls) := by
  simp +contextual (maxDischargeDepth := 99) [State.streamRetry, hs, hf_regs, hf_freeIdx, hf_firstSeen, hf_yew, hf_hq,
      hf_cmpl, hf_cmplWait, hf_hirqLow, hf_ports, hf_ring, hf_rtun, hp_4, hp_6, hp_8, hp_9, hp_11]

@[simp] theorem State.streamsReset_only {my : May} {z0 : State} (s : State) (hs : Only my z0 s) (hf_ports : Field.ports ∈
    my.fields := by assumption) (hf_ring : Field.ring ∈ my.fields := by assumption) : Only my z0 (State.streamsReset s) :=
    by
  simp +contextual (maxDischargeDepth := 99) [State.streamsReset, hs, hf_ports, hf_ring]

@[simp] theorem State.bridgePump_only {my : May} {z0 : State} (s : State) (q : Nat) (hs : Only my z0 s) (hf_hq : Field.hq ∈
    my.fields := by assumption) (hf_ports : Field.ports ∈ my.fields := by assumption) (hf_ring : Field.ring ∈ my.fields :=
    by assumption) : Only my z0 (State.bridgePump s q) := by
  simp +contextual (maxDischargeDepth := 99) [State.bridgePump, hs, hf_hq, hf_ports, hf_ring]

@[simp] theorem State.postItem_only {my : May} {z0 : State} (s : State) (q : Nat) (tag : BitVec 16) (data : List Byte) (hs :
    Only my z0 s) (hf_regs : Field.regs ∈ my.fields := by assumption) (hf_hq : Field.hq ∈ my.fields := by assumption)
    (hf_hirqLow : Field.hirqLow ∈ my.fields := by assumption) (hf_ports : Field.ports ∈ my.fields := by assumption) (hf_ring
    : Field.ring ∈ my.fields := by assumption) (hp_4 : 4 ∈ my.pages := by assumption) :
    Only my z0 (s.postItem q tag data).2 := by
  unfold State.postItem
  have k := State.post_only s q tag data hs
  revert k
  rcases s.post q tag data with ⟨b, u⟩
  intro k
  cases b
  · exact k
  · simp only at k ⊢
    split <;> simp [k, hf_regs, hf_hq, hf_hirqLow, hf_ports, hf_ring, hp_4]

@[simp] theorem State.pumpStrokes_only {my : May} {z0 : State} (fuel : Nat) (s : State) (hs : Only my z0 s) (hf_ports :
    Field.ports ∈ my.fields := by assumption) (hf_ring : Field.ring ∈ my.fields := by assumption) : Only my z0
    (State.pumpStrokes fuel s) := by
  induction fuel generalizing s with
  | zero => simp +contextual (maxDischargeDepth := 99) [State.pumpStrokes, hs, hf_ports, hf_ring]
  | succ n ih =>
    unfold State.pumpStrokes
    try dsimp only
    (repeat' split) <;> first
        | (simp +contextual (maxDischargeDepth := 99) [hs, hf_ports, hf_ring]; done)
        | (apply ih; simp +contextual (maxDischargeDepth := 99) [hs, hf_ports, hf_ring]; done)
        | (simp +contextual (maxDischargeDepth := 99) [hs, hf_ports, hf_ring, ih, hf_ports, hf_ring]; done)
        | (simp +contextual (maxDischargeDepth := 99) [*]; done)
        | (rename_i e; have e' := congrArg (fun p => Only my z0 (Prod.snd p)) e; simp +contextual (maxDischargeDepth := 99) [hs, hf_ports, hf_ring, ih, hf_ports, hf_ring] at e'; first | (apply ih; simp +contextual (maxDischargeDepth := 99) [hs, hf_ports, hf_ring, e']; done) | (simp +contextual (maxDischargeDepth := 99) [hs, hf_ports, hf_ring, ih, e']; done))

@[simp] theorem State.sendStroke_only {my : May} {z0 : State} (s : State) (payload : Word → List Byte) (hs : Only my z0 s)
    (hf_regs : Field.regs ∈ my.fields := by assumption) (hf_ports : Field.ports ∈ my.fields := by assumption) (hf_ring :
    Field.ring ∈ my.fields := by assumption) (hp_8 : 8 ∈ my.pages := by assumption) : Only my z0 (State.sendStroke s
    payload) := by
  simp +contextual (maxDischargeDepth := 99) [State.sendStroke, hs, hf_regs, hf_ports, hf_ring, hp_8]

@[simp] theorem State.strokeGoBack_only {my : May} {z0 : State} (s : State) (i : Nat) (hs : Only my z0 s) (hf_regs :
    Field.regs ∈ my.fields := by assumption) (hf_ports : Field.ports ∈ my.fields := by assumption) (hf_ring : Field.ring ∈
    my.fields := by assumption) (hp_8 : 8 ∈ my.pages := by assumption) : Only my z0 (State.strokeGoBack s i) := by
  simp +contextual (maxDischargeDepth := 99) [State.strokeGoBack, hs, hf_regs, hf_ports, hf_ring, hp_8]

@[simp] theorem State.strokeRetry_only {my : May} {z0 : State} (s : State) (i : Nat) (hs : Only my z0 s) (hf_regs :
    Field.regs ∈ my.fields := by assumption) (hf_freeIdx : Field.freeIdx ∈ my.fields := by assumption) (hf_yew : Field.yew ∈
    my.fields := by assumption) (hf_hirqLow : Field.hirqLow ∈ my.fields := by assumption) (hf_ports : Field.ports ∈
    my.fields := by assumption) (hf_ring : Field.ring ∈ my.fields := by assumption) (hp_6 : 6 ∈ my.pages := by assumption)
    (hp_8 : 8 ∈ my.pages := by assumption) (hp_9 : 9 ∈ my.pages := by assumption) : Only my z0 (State.strokeRetry s i) := by
  simp +contextual (maxDischargeDepth := 99) [State.strokeRetry, hs, hf_regs, hf_freeIdx, hf_yew, hf_hirqLow, hf_ports,
      hf_ring, hp_6, hp_8, hp_9]

@[simp] theorem State.topoGoBack_only {my : May} {z0 : State} (s : State) (hs : Only my z0 s) (hf_regs : Field.regs ∈
    my.fields := by assumption) (hf_ports : Field.ports ∈ my.fields := by assumption) (hf_ring : Field.ring ∈ my.fields :=
    by assumption) (hp_8 : 8 ∈ my.pages := by assumption) : Only my z0 (State.topoGoBack s) := by
  simp +contextual (maxDischargeDepth := 99) [State.topoGoBack, hs, hf_regs, hf_ports, hf_ring, hp_8]

@[simp] theorem State.strokeBack_only {my : May} {z0 : State} (s : State) (f : Option Frame) (hs : Only my z0 s) (hf_regs :
    Field.regs ∈ my.fields := by assumption) (hf_freeIdx : Field.freeIdx ∈ my.fields := by assumption) (hf_yew : Field.yew ∈
    my.fields := by assumption) (hf_hirqLow : Field.hirqLow ∈ my.fields := by assumption) (hf_ports : Field.ports ∈
    my.fields := by assumption) (hf_ring : Field.ring ∈ my.fields := by assumption) (hp_6 : 6 ∈ my.pages := by assumption)
    (hp_8 : 8 ∈ my.pages := by assumption) (hp_9 : 9 ∈ my.pages := by assumption) : Only my z0 (State.strokeBack s f) := by
  unfold State.strokeBack
  dsimp only
  (repeat' split) <;> simp +contextual (maxDischargeDepth := 99) [hs, hf_regs, hf_freeIdx, hf_yew, hf_hirqLow, hf_ports,
                          hf_ring, hp_6, hp_8, hp_9]

@[simp] theorem State.emit_only {my : May} {z0 : State} (s : State) (p : Ring) (f : Frame) (hs : Only my z0 s) (hf_regs :
    Field.regs ∈ my.fields := by assumption) (hf_ports : Field.ports ∈ my.fields := by assumption) (hp_8 : 8 ∈ my.pages :=
    by assumption) (hp_9 : 9 ∈ my.pages := by assumption) : Only my z0 (State.emit s p f) := by
  simp +contextual (maxDischargeDepth := 99) [State.emit, hs, hf_regs, hf_ports, hp_8, hp_9]

@[simp] theorem State.egressItem_only {my : May} {z0 : State} (s : State) (q : Nat) (cls : FrameClass) (gs : List Seg) (hs :
    Only my z0 s) (hf_regs : Field.regs ∈ my.fields := by assumption) (hf_freeIdx : Field.freeIdx ∈ my.fields := by
    assumption) (hf_firstSeen : Field.firstSeen ∈ my.fields := by assumption) (hf_yew : Field.yew ∈ my.fields := by
    assumption) (hf_hq : Field.hq ∈ my.fields := by assumption) (hf_cmpl : Field.cmpl ∈ my.fields := by assumption)
    (hf_cmplWait : Field.cmplWait ∈ my.fields := by assumption) (hf_hirqLow : Field.hirqLow ∈ my.fields := by assumption)
    (hf_map : Field.map ∈ my.fields := by assumption) (hf_ports : Field.ports ∈ my.fields := by assumption) (hf_ring :
    Field.ring ∈ my.fields := by assumption) (hp_4 : 4 ∈ my.pages := by assumption) (hp_6 : 6 ∈ my.pages := by assumption) :
    Only my z0 (State.egressItem s q cls gs) := by
  simp +contextual (maxDischargeDepth := 99) [State.egressItem, hs, hf_regs, hf_freeIdx, hf_firstSeen, hf_yew, hf_hq,
      hf_cmpl, hf_cmplWait, hf_hirqLow, hf_map, hf_ports, hf_ring, hp_4, hp_6]

@[simp] theorem State.sendEnum_only {my : May} {z0 : State} (s : State) (payload : List Byte) (hs : Only my z0 s) (hf_ports
    : Field.ports ∈ my.fields := by assumption) : Only my z0 (State.sendEnum s payload) := by
  simp +contextual (maxDischargeDepth := 99) [State.sendEnum, hs, hf_ports]

@[simp] theorem State.enumStart_only {my : May} {z0 : State} (s : State) (tries : Nat) (hs : Only my z0 s) (hf_regs :
    Field.regs ∈ my.fields := by assumption) (hf_freeIdx : Field.freeIdx ∈ my.fields := by assumption) (hf_ports :
    Field.ports ∈ my.fields := by assumption) (hf_ring : Field.ring ∈ my.fields := by assumption) (hp_8 : 8 ∈ my.pages := by
    assumption) (hp_9 : 9 ∈ my.pages := by assumption) : Only my z0 (State.enumStart s tries) := by
  simp +contextual (maxDischargeDepth := 99) [State.enumStart, hs, hf_regs, hf_freeIdx, hf_ports, hf_ring, hp_8, hp_9]

@[simp] theorem State.sendJoin_only {my : May} {z0 : State} (s : State) (hs : Only my z0 s) (hf_ports : Field.ports ∈
    my.fields := by assumption) : Only my z0 (State.sendJoin s) := by
  unfold State.sendJoin
  (repeat' split) <;> simp_all +contextual (maxDischargeDepth := 99)

@[simp] theorem State.enumCtrl_only {my : May} {z0 : State} (s : State) (hs : Only my z0 s) (hf_regs : Field.regs ∈
    my.fields := by assumption) (hf_freeIdx : Field.freeIdx ∈ my.fields := by assumption) (hf_ports : Field.ports ∈
    my.fields := by assumption) (hf_ring : Field.ring ∈ my.fields := by assumption) (hp_8 : 8 ∈ my.pages := by assumption)
    (hp_9 : 9 ∈ my.pages := by assumption) : Only my z0 (State.enumCtrl s) := by
  simp +contextual (maxDischargeDepth := 99) [State.enumCtrl, hs, hf_regs, hf_freeIdx, hf_ports, hf_ring, hp_8, hp_9]

@[simp] theorem State.joinCtrl_only {my : May} {z0 : State} (s : State) (hs : Only my z0 s) (hf_ports : Field.ports ∈
    my.fields := by assumption) : Only my z0 (State.joinCtrl s) := by
  simp +contextual (maxDischargeDepth := 99) [State.joinCtrl, hs, hf_ports]

@[simp] theorem State.emitSet_only {my : May} {z0 : State} (s : State) (p : Ring) (typ data : Nat) (hs : Only my z0 s)
    (hf_ports : Field.ports ∈ my.fields := by assumption) : Only my z0 (State.emitSet s p typ data) := by
  simp +contextual (maxDischargeDepth := 99) [State.emitSet, hs, hf_ports]

@[simp] theorem State.linkDown_only {my : May} {z0 : State} (s : State) (p : Ring) (hs : Only my z0 s) (hf_regs : Field.regs
    ∈ my.fields := by assumption) (hf_freeIdx : Field.freeIdx ∈ my.fields := by assumption) (hf_yew : Field.yew ∈ my.fields
    := by assumption) (hf_hirqLow : Field.hirqLow ∈ my.fields := by assumption) (hf_ports : Field.ports ∈ my.fields := by
    assumption) (hp_6 : 6 ∈ my.pages := by assumption) (hp_8 : 8 ∈ my.pages := by assumption) (hp_9 : 9 ∈ my.pages := by
    assumption) : Only my z0 (State.linkDown s p) := by
  simp +contextual (maxDischargeDepth := 99) [State.linkDown, hs, hf_regs, hf_freeIdx, hf_yew, hf_hirqLow, hf_ports, hp_6,
      hp_8, hp_9]

@[simp] theorem State.heardSet_only {my : May} {z0 : State} (s : State) (p : Ring) (hs : Only my z0 s) (hf_ports :
    Field.ports ∈ my.fields := by assumption) : Only my z0 (State.heardSet s p) := by
  simp +contextual (maxDischargeDepth := 99) [State.heardSet, hs, hf_ports]

@[simp] theorem State.sendTopo_only {my : May} {z0 : State} (s : State) (g : Epoch) (orig : Nat) (skip : Option Ring) (hs :
    Only my z0 s) (hf_ports : Field.ports ∈ my.fields := by assumption) : Only my z0 (State.sendTopo s g orig skip) := by
  simp +contextual (maxDischargeDepth := 99) [State.sendTopo, hs, hf_ports]

@[simp] theorem State.newTopo_only {my : May} {z0 : State} (s : State) (hs : Only my z0 s) (hf_regs : Field.regs ∈ my.fields
    := by assumption) (hf_ports : Field.ports ∈ my.fields := by assumption) (hf_ring : Field.ring ∈ my.fields := by
    assumption) (hp_8 : 8 ∈ my.pages := by assumption) : Only my z0 (State.newTopo s) := by
  simp +contextual (maxDischargeDepth := 99) [State.newTopo, hs, hf_regs, hf_ports, hf_ring, hp_8]

@[simp] theorem State.ringDrain_only {my : May} {z0 : State} (s : State) (p : Ring) (hs : Only my z0 s) (hf_regs :
    Field.regs ∈ my.fields := by assumption) (hf_freeIdx : Field.freeIdx ∈ my.fields := by assumption) (hf_firstSeen :
    Field.firstSeen ∈ my.fields := by assumption) (hf_yew : Field.yew ∈ my.fields := by assumption) (hf_hq : Field.hq ∈
    my.fields := by assumption) (hf_cmpl : Field.cmpl ∈ my.fields := by assumption) (hf_cmplWait : Field.cmplWait ∈
    my.fields := by assumption) (hf_hirqLow : Field.hirqLow ∈ my.fields := by assumption) (hf_ports : Field.ports ∈
    my.fields := by assumption) (hf_ring : Field.ring ∈ my.fields := by assumption) (hf_rtun : Field.rtun ∈ my.fields := by
    assumption) (hp_4 : 4 ∈ my.pages := by assumption) (hp_6 : 6 ∈ my.pages := by assumption) (hp_8 : 8 ∈ my.pages := by
    assumption) (hp_9 : 9 ∈ my.pages := by assumption) (hp_11 : 11 ∈ my.pages := by assumption) : Only my z0
    (State.ringDrain s p) := by
  simp +contextual (maxDischargeDepth := 99) [State.ringDrain, hs, hf_regs, hf_freeIdx, hf_firstSeen, hf_yew, hf_hq,
      hf_cmpl, hf_cmplWait, hf_hirqLow, hf_ports, hf_ring, hf_rtun, hp_4, hp_6, hp_8, hp_9, hp_11]

@[simp] theorem State.syncLock_only {my : May} {z0 : State} (s : State) (e : Int) (hs : Only my z0 s) (hf_regs : Field.regs
    ∈ my.fields := by assumption) (hf_hirqLow : Field.hirqLow ∈ my.fields := by assumption) (hf_rtime : Field.rtime ∈
    my.fields := by assumption) (hp_10 : 10 ∈ my.pages := by assumption) : Only my z0 (State.syncLock s e) := by
  simp +contextual (maxDischargeDepth := 99) [State.syncLock, hs, hf_regs, hf_hirqLow, hf_rtime, hp_10]

@[simp] theorem State.modNor_only {my : May} {z0 : State} (s : State) (f : NorState → NorState) (hs : Only my z0 s) (hf_nor
    : Field.nor ∈ my.fields := by assumption) : Only my z0 (State.modNor s f) := by
  unfold State.modNor
  simp [hs, hf_nor]

@[simp] theorem State.eraseNor_only {my : May} {z0 : State} (s : State) (a n : Nat) (hs : Only my z0 s) (hf_nor : Field.nor
    ∈ my.fields := by assumption) : Only my z0 (State.eraseNor s a n) := by
  simp +contextual (maxDischargeDepth := 99) [State.eraseNor, hs, hf_nor]

@[simp] theorem State.progNor_only {my : May} {z0 : State} (s : State) (a : Nat) (d : List Byte) (hs : Only my z0 s) (hf_nor
    : Field.nor ∈ my.fields := by assumption) : Only my z0 (State.progNor s a d) := by
  simp +contextual (maxDischargeDepth := 99) [State.progNor, hs, hf_nor]

@[simp] theorem State.writeDir_only {my : May} {z0 : State} (s : State) (d : Dir399) (hs : Only my z0 s) (hf_nor : Field.nor
    ∈ my.fields := by assumption) : Only my z0 (State.writeDir s d) := by
  simp +contextual (maxDischargeDepth := 99) [State.writeDir, hs, hf_nor]

@[simp] theorem State.norStart_only {my : May} {z0 : State} (s : State) (hs : Only my z0 s) (hf_nor : Field.nor ∈ my.fields
    := by assumption) : Only my z0 (State.norStart s) := by
  unfold State.norStart
  dsimp only
  (repeat' split) <;> simp +contextual (maxDischargeDepth := 99) [hs, hf_nor]

@[simp] theorem State.norSuspend_only {my : May} {z0 : State} (s : State) (hs : Only my z0 s) (hf_nor : Field.nor ∈
    my.fields := by assumption) : Only my z0 (State.norSuspend s) := by
  unfold State.norSuspend
  (repeat' split) <;> simp_all +contextual (maxDischargeDepth := 99)

@[simp] theorem State.norCmdOp_only {my : May} {z0 : State} (s : State) (o : NorOp) (hs : Only my z0 s) (hf_nor : Field.nor
    ∈ my.fields := by assumption) : Only my z0 (State.norCmdOp s o) := by
  simp +contextual (maxDischargeDepth := 99) [State.norCmdOp, hs, hf_nor]

@[simp] theorem State.norRecOps_only {my : May} {z0 : State} (s : State) (os : List NorOp) (hs : Only my z0 s) (hf_nor :
    Field.nor ∈ my.fields := by assumption) : Only my z0 (State.norRecOps s os) := by
  simp +contextual (maxDischargeDepth := 99) [State.norRecOps, hs, hf_nor]

@[simp] theorem State.norEffect_only {my : May} {z0 : State} (s : State) (o : NorOp) (hs : Only my z0 s) (hf_nor : Field.nor
    ∈ my.fields := by assumption) : Only my z0 (State.norEffect s o) := by
  simp +contextual (maxDischargeDepth := 99) [State.norEffect, hs, hf_nor]

@[simp] theorem State.norErr_only {my : May} {z0 : State} (s : State) (mb addr tag : Nat) (hs : Only my z0 s) (hf_regs :
    Field.regs ∈ my.fields := by assumption) (hf_yew : Field.yew ∈ my.fields := by assumption) (hf_hirqLow : Field.hirqLow ∈
    my.fields := by assumption) (hp_6 : 6 ∈ my.pages := by assumption) (hp_7 : 7 ∈ my.pages := by assumption) : Only my z0
    (State.norErr s mb addr tag) := by
  simp +contextual (maxDischargeDepth := 99) [State.norErr, hs, hf_regs, hf_yew, hf_hirqLow, hp_6, hp_7]

@[simp] theorem State.modYewPort_only {my : May} {z0 : State} (s : State) (f : YewPort → YewPort) (hs : Only my z0 s)
    (hf_yewPort : Field.yewPort ∈ my.fields := by assumption) : Only my z0 (State.modYewPort s f) := by
  simp +contextual (maxDischargeDepth := 99) [State.modYewPort, hs, hf_yewPort]

@[simp] theorem State.markRec_only {my : May} {z0 : State} (s : State) (h : Half) (r : YewRec) (f : YewRec → YewRec) (hs :
    Only my z0 s) (hf_yew : Field.yew ∈ my.fields := by assumption) : Only my z0 (State.markRec s h r f) := by
  simp +contextual (maxDischargeDepth := 99) [State.markRec, hs, hf_yew]

@[simp] theorem State.confirm_only {my : May} {z0 : State} (s : State) (recs : List (Half × Nat)) (hs : Only my z0 s)
    (hf_yew : Field.yew ∈ my.fields := by assumption) (hf_yewPort : Field.yewPort ∈ my.fields := by assumption) : Only my z0
    (State.confirm s recs) := by
  unfold State.confirm
  dsimp only
  refine overList_only _ _ (by simp +contextual (maxDischargeDepth := 99) [hs, hf_yew, hf_yewPort]) (fun _ _ hw => ?_)
  (repeat' split) <;> simp +contextual (maxDischargeDepth := 99) [hw, hf_yew, hf_yewPort]

@[simp] theorem State.takeStream_only {my : May} {z0 : State} (s : State) (h : Half) (hs : Only my z0 s) (hf_yew : Field.yew
    ∈ my.fields := by assumption) : Only my z0 (State.takeStream s h) := by
  simp +contextual (maxDischargeDepth := 99) [State.takeStream, hs, hf_yew]

@[simp] theorem State.setZone_only {my : May} {z0 : State} (s : State) (roll : Bool) (z : ZonePos) (hs : Only my z0 s)
    (hf_yewPort : Field.yewPort ∈ my.fields := by assumption) : Only my z0 (State.setZone s roll z) := by
  simp +contextual (maxDischargeDepth := 99) [State.setZone, hs, hf_yewPort]

@[simp] theorem State.placeRec_only {my : May} {z0 : State} (s : State) (roll : Bool) (z : ZonePos) (h : Half) (r : YewRec)
    (hs : Only my z0 s) (hf_yewPort : Field.yewPort ∈ my.fields := by assumption) : Only my z0 (State.placeRec s roll z h
    r).2 := by
  simp +contextual (maxDischargeDepth := 99) [State.placeRec, hs, hf_yewPort]

@[simp] theorem State.keepFull_only {my : May} {z0 : State} (s : State) (hs : Only my z0 s) (hf_regs : Field.regs ∈
    my.fields := by assumption) (hf_yew : Field.yew ∈ my.fields := by assumption) (hf_yewPort : Field.yewPort ∈ my.fields :=
    by assumption) (hf_hirqLow : Field.hirqLow ∈ my.fields := by assumption) (hp_6 : 6 ∈ my.pages := by assumption) : Only
    my z0 (State.keepFull s) := by
  simp +contextual (maxDischargeDepth := 99) [State.keepFull, hs, hf_regs, hf_yew, hf_yewPort, hf_hirqLow, hp_6]

@[simp] theorem State.logRec_only {my : May} {z0 : State} (s : State) (h : Half) (r : YewRec) (hs : Only my z0 s) (hf_regs :
    Field.regs ∈ my.fields := by assumption) (hf_yew : Field.yew ∈ my.fields := by assumption) (hf_yewPort : Field.yewPort ∈
    my.fields := by assumption) (hf_hirqLow : Field.hirqLow ∈ my.fields := by assumption) (hp_6 : 6 ∈ my.pages := by
    assumption) : Only my z0 (State.logRec s h r).2 := by
  unfold State.logRec
  dsimp only
  (repeat' split) <;> simp +contextual (maxDischargeDepth := 99) [hs, hf_regs, hf_yew, hf_yewPort, hf_hirqLow, hp_6]

@[simp] theorem State.logRecs_only {my : May} {z0 : State} (s : State) (rs : List Held) (hs : Only my z0 s) (hf_regs :
    Field.regs ∈ my.fields := by assumption) (hf_yew : Field.yew ∈ my.fields := by assumption) (hf_yewPort : Field.yewPort ∈
    my.fields := by assumption) (hf_hirqLow : Field.hirqLow ∈ my.fields := by assumption) (hp_6 : 6 ∈ my.pages := by
    assumption) : Only my z0 (State.logRecs s rs).2 := by
  induction rs generalizing s with
  | nil => simp +contextual (maxDischargeDepth := 99) [State.logRecs, hs, hf_regs, hf_yew, hf_yewPort, hf_hirqLow, hp_6]
  | cons a l ih =>
    unfold State.logRecs
    try dsimp only
    (repeat' split) <;> first
        | (simp +contextual (maxDischargeDepth := 99) [hs, hf_regs, hf_yew, hf_yewPort, hf_hirqLow, hp_6]; done)
        | (apply ih; simp +contextual (maxDischargeDepth := 99) [hs, hf_regs, hf_yew, hf_yewPort, hf_hirqLow, hp_6]; done)
        | (simp +contextual (maxDischargeDepth := 99) [hs, hf_regs, hf_yew, hf_yewPort, hf_hirqLow, hp_6, ih, hf_regs, hf_yew, hf_yewPort, hf_hirqLow, hp_6]; done)
        | (simp +contextual (maxDischargeDepth := 99) [*]; done)
        | (rename_i e; have e' := congrArg (fun p => Only my z0 (Prod.snd p)) e; simp +contextual (maxDischargeDepth := 99) [hs, hf_regs, hf_yew, hf_yewPort, hf_hirqLow, hp_6, ih, hf_regs, hf_yew, hf_yewPort, hf_hirqLow, hp_6] at e'; first | (apply ih; simp +contextual (maxDischargeDepth := 99) [hs, hf_regs, hf_yew, hf_yewPort, hf_hirqLow, hp_6, e']; done) | (simp +contextual (maxDischargeDepth := 99) [hs, hf_regs, hf_yew, hf_yewPort, hf_hirqLow, hp_6, ih, e']; done))

@[simp] theorem State.flushRecs_only {my : May} {z0 : State} (s : State) (rs : List Held) (hs : Only my z0 s) (hf_regs :
    Field.regs ∈ my.fields := by assumption) (hf_yew : Field.yew ∈ my.fields := by assumption) (hf_yewPort : Field.yewPort ∈
    my.fields := by assumption) (hf_hirqLow : Field.hirqLow ∈ my.fields := by assumption) (hf_nor : Field.nor ∈ my.fields :=
    by assumption) (hp_6 : 6 ∈ my.pages := by assumption) : Only my z0 (State.flushRecs s rs) := by
  simp +contextual (maxDischargeDepth := 99) [State.flushRecs, hs, hf_regs, hf_yew, hf_yewPort, hf_hirqLow, hf_nor, hp_6]

@[simp] theorem State.backlog_only {my : May} {z0 : State} (s : State) (hs : Only my z0 s) (hf_regs : Field.regs ∈ my.fields
    := by assumption) (hf_firstSeen : Field.firstSeen ∈ my.fields := by assumption) (hf_yew : Field.yew ∈ my.fields := by
    assumption) (hf_yewPort : Field.yewPort ∈ my.fields := by assumption) (hf_hirqLow : Field.hirqLow ∈ my.fields := by
    assumption) (hf_nor : Field.nor ∈ my.fields := by assumption) (hp_6 : 6 ∈ my.pages := by assumption) : Only my z0
    (State.backlog s) := by
  unfold State.backlog
  dsimp only
  (repeat' split) <;> first
      | (simp +contextual (maxDischargeDepth := 99) [hs, hf_regs, hf_firstSeen, hf_yew, hf_yewPort, hf_hirqLow, hf_nor, hp_6]; done)
      | (rename_i e; have e' := congrArg (fun p => Only my z0 (Prod.snd p)) e; simp +contextual (maxDischargeDepth := 99) [hs, hf_regs, hf_firstSeen, hf_yew, hf_yewPort, hf_hirqLow, hf_nor, hp_6] at e'; simp +contextual (maxDischargeDepth := 99) [hs, hf_regs, hf_firstSeen, hf_yew, hf_yewPort, hf_hirqLow, hf_nor, hp_6, e']; done)

@[simp] theorem State.streamRec_only {my : May} {z0 : State} (s : State) (r : YewRec) (hs : Only my z0 s) (hf_regs :
    Field.regs ∈ my.fields := by assumption) (hf_hq : Field.hq ∈ my.fields := by assumption) (hf_hirqLow : Field.hirqLow ∈
    my.fields := by assumption) (hf_ports : Field.ports ∈ my.fields := by assumption) (hf_ring : Field.ring ∈ my.fields :=
    by assumption) (hp_4 : 4 ∈ my.pages := by assumption) (hp_6 : 6 ∈ my.pages := by assumption) : Only my z0
    (State.streamRec s r) := by
  simp +contextual (maxDischargeDepth := 99) [State.streamRec, hs, hf_regs, hf_hq, hf_hirqLow, hf_ports, hf_ring, hp_4,
      hp_6]

@[simp] theorem State.initZone_only {my : May} {z0 : State} (s : State) (roll : Bool) (hs : Only my z0 s) (hf_regs :
    Field.regs ∈ my.fields := by assumption) (hf_yew : Field.yew ∈ my.fields := by assumption) (hf_yewPort : Field.yewPort ∈
    my.fields := by assumption) (hf_hirqLow : Field.hirqLow ∈ my.fields := by assumption) (hf_nor : Field.nor ∈ my.fields :=
    by assumption) (hp_6 : 6 ∈ my.pages := by assumption) : Only my z0 (State.initZone s roll) := by
  simp +contextual (maxDischargeDepth := 99) [State.initZone, hs, hf_regs, hf_yew, hf_yewPort, hf_hirqLow, hf_nor, hp_6]

@[simp] theorem State.findZone_only {my : May} {z0 : State} (s : State) (roll : Bool) (hs : Only my z0 s) (hf_regs :
    Field.regs ∈ my.fields := by assumption) (hf_yew : Field.yew ∈ my.fields := by assumption) (hf_yewPort : Field.yewPort ∈
    my.fields := by assumption) (hf_hirqLow : Field.hirqLow ∈ my.fields := by assumption) (hf_nor : Field.nor ∈ my.fields :=
    by assumption) (hp_6 : 6 ∈ my.pages := by assumption) : Only my z0 (State.findZone s roll) := by
  unfold State.findZone
  dsimp only
  (repeat' split) <;> simp +contextual (maxDischargeDepth := 99) [hs, hf_regs, hf_yew, hf_yewPort, hf_hirqLow, hf_nor, hp_6]

@[simp] theorem State.bootLog_only {my : May} {z0 : State} (s : State) (hs : Only my z0 s) (hf_regs : Field.regs ∈ my.fields
    := by assumption) (hf_yew : Field.yew ∈ my.fields := by assumption) (hf_yewPort : Field.yewPort ∈ my.fields := by
    assumption) (hf_hirqLow : Field.hirqLow ∈ my.fields := by assumption) (hf_nor : Field.nor ∈ my.fields := by assumption)
    (hp_6 : 6 ∈ my.pages := by assumption) : Only my z0 (State.bootLog s) := by
  simp +contextual (maxDischargeDepth := 99) [State.bootLog, hs, hf_regs, hf_yew, hf_yewPort, hf_hirqLow, hf_nor, hp_6]

@[simp] theorem State.pfailYew_only {my : May} {z0 : State} (s : State) (hs : Only my z0 s) (hf_yewPort : Field.yewPort ∈
    my.fields := by assumption) (hf_nor : Field.nor ∈ my.fields := by assumption) : Only my z0 (State.pfailYew s) := by
  unfold State.pfailYew
  dsimp only
  (repeat' split) <;> simp +contextual (maxDischargeDepth := 99) [hs, hf_yewPort, hf_nor]

@[simp] theorem State.modMb_only {my : May} {z0 : State} (s : State) (k : Nat) (f : Mailbox → Mailbox) (hs : Only my z0 s)
    (hf_mbox : Field.mbox ∈ my.fields := by assumption) : Only my z0 (State.modMb s k f) := by
  simp +contextual (maxDischargeDepth := 99) [State.modMb, hs, hf_mbox]

@[simp] theorem State.mbEvt_only {my : May} {z0 : State} (s : State) (bit : Nat) (hs : Only my z0 s) (hf_regs : Field.regs ∈
    my.fields := by assumption) (hf_hirqLow : Field.hirqLow ∈ my.fields := by assumption) (hp_5 : 5 ∈ my.pages := by
    assumption) : Only my z0 (State.mbEvt s bit) := by
  simp +contextual (maxDischargeDepth := 99) [State.mbEvt, hs, hf_regs, hf_hirqLow, hp_5]

@[simp] theorem State.mkTx_only {my : May} {z0 : State} (s : State) (k : Nat) (w : Word) (hs : Only my z0 s) (hf_regs :
    Field.regs ∈ my.fields := by assumption) (hf_mbox : Field.mbox ∈ my.fields := by assumption) (hp_5 : 5 ∈ my.pages := by
    assumption) : Only my z0 (State.mkTx s k w) := by
  simp +contextual (maxDischargeDepth := 99) [State.mkTx, hs, hf_regs, hf_mbox, hp_5]

@[simp] theorem State.mbDiscard_only {my : May} {z0 : State} (s : State) (k : Nat) (noTarget : Bool) (hs : Only my z0 s)
    (hf_regs : Field.regs ∈ my.fields := by assumption) (hf_yew : Field.yew ∈ my.fields := by assumption) (hf_hirqLow :
    Field.hirqLow ∈ my.fields := by assumption) (hf_mbox : Field.mbox ∈ my.fields := by assumption) (hp_5 : 5 ∈ my.pages :=
    by assumption) (hp_6 : 6 ∈ my.pages := by assumption) : Only my z0 (State.mbDiscard s k noTarget) := by
  simp +contextual (maxDischargeDepth := 99) [State.mbDiscard, hs, hf_regs, hf_yew, hf_hirqLow, hf_mbox, hp_5, hp_6]

@[simp] theorem State.doorbell_only {my : May} {z0 : State} (s : State) (k : Nat) (hs : Only my z0 s) (hf_regs : Field.regs
    ∈ my.fields := by assumption) (hf_yew : Field.yew ∈ my.fields := by assumption) (hf_hirqLow : Field.hirqLow ∈ my.fields
    := by assumption) (hf_mbox : Field.mbox ∈ my.fields := by assumption) (hp_5 : 5 ∈ my.pages := by assumption) (hp_6 : 6 ∈
    my.pages := by assumption) : Only my z0 (State.doorbell s k) := by
  simp +contextual (maxDischargeDepth := 99) [State.doorbell, hs, hf_regs, hf_yew, hf_hirqLow, hf_mbox, hp_5, hp_6]

@[simp] theorem State.mkRx_only {my : May} {z0 : State} (s : State) (k : Nat) (hs : Only my z0 s) (hf_regs : Field.regs ∈
    my.fields := by assumption) (hf_mbox : Field.mbox ∈ my.fields := by assumption) (hp_5 : 5 ∈ my.pages := by assumption) :
    Only my z0 (State.mkRx s k).2 := by
  unfold State.mkRx
  (repeat' split) <;> simp_all +contextual (maxDischargeDepth := 99)

@[simp] theorem State.reply_only {my : May} {z0 : State} (s : State) (k op status tag detail : Nat) (res : List Word) (hs :
    Only my z0 s) (hf_mbox : Field.mbox ∈ my.fields := by assumption) : Only my z0 (State.reply s k op status tag detail
    res) := by
  simp +contextual (maxDischargeDepth := 99) [State.reply, hs, hf_mbox]

@[simp] theorem State.norProg_only {my : May} {z0 : State} (s : State) (pct pos : Nat) (hs : Only my z0 s) (hf_regs :
    Field.regs ∈ my.fields := by assumption) (hp_7 : 7 ∈ my.pages := by assumption) : Only my z0 (State.norProg s pct pos)
    := by
  simp +contextual (maxDischargeDepth := 99) [State.norProg, hs, hf_regs, hp_7]

@[simp] theorem State.setLong_only {my : May} {z0 : State} (s : State) (c : LongCmd) (hs : Only my z0 s) (hf_nor : Field.nor
    ∈ my.fields := by assumption) : Only my z0 (State.setLong s c) := by
  simp +contextual (maxDischargeDepth := 99) [State.setLong, hs, hf_nor]

@[simp] theorem State.takeSeg_only {my : May} {z0 : State} (s : State) (g : Seg) (hs : Only my z0 s) (hf_regs : Field.regs ∈
    my.fields := by assumption) (hf_freeIdx : Field.freeIdx ∈ my.fields := by assumption) (hf_firstSeen : Field.firstSeen ∈
    my.fields := by assumption) (hf_yew : Field.yew ∈ my.fields := by assumption) (hf_hq : Field.hq ∈ my.fields := by
    assumption) (hf_cmpl : Field.cmpl ∈ my.fields := by assumption) (hf_cmplWait : Field.cmplWait ∈ my.fields := by
    assumption) (hf_hirqLow : Field.hirqLow ∈ my.fields := by assumption) (hp_4 : 4 ∈ my.pages := by assumption) (hp_6 : 6 ∈
    my.pages := by assumption) : Only my z0 (State.takeSeg s g) := by
  simp +contextual (maxDischargeDepth := 99) [State.takeSeg, hs, hf_regs, hf_freeIdx, hf_firstSeen, hf_yew, hf_hq, hf_cmpl,
      hf_cmplWait, hf_hirqLow, hp_4, hp_6]

theorem State.takePayload_only {my : May} {z0 o : State} (s : State) (c : LongCmd) (ptag len : Nat) (hs : Only my z0 s) (e :
    State.takePayload s c ptag len = some o) (hf_regs : Field.regs ∈ my.fields := by assumption) (hf_freeIdx : Field.freeIdx
    ∈ my.fields := by assumption) (hf_firstSeen : Field.firstSeen ∈ my.fields := by assumption) (hf_yew : Field.yew ∈
    my.fields := by assumption) (hf_hq : Field.hq ∈ my.fields := by assumption) (hf_cmpl : Field.cmpl ∈ my.fields := by
    assumption) (hf_cmplWait : Field.cmplWait ∈ my.fields := by assumption) (hf_hirqLow : Field.hirqLow ∈ my.fields := by
    assumption) (hf_nor : Field.nor ∈ my.fields := by assumption) (hp_4 : 4 ∈ my.pages := by assumption) (hp_6 : 6 ∈
    my.pages := by assumption) : Only my z0 o := by
  unfold State.takePayload at e
  dsimp only at e
  (repeat' split at e) <;> first
      | (simp only [Option.some.injEq, reduceCtorEq] at e; subst e; simp +contextual (maxDischargeDepth := 99) [hs, hf_regs, hf_freeIdx, hf_firstSeen, hf_yew, hf_hq, hf_cmpl, hf_cmplWait, hf_hirqLow, hf_nor, hp_4, hp_6]; done)
      | (simp at e; done)

@[simp] theorem State.progPage_only {my : May} {z0 : State} (s : State) (c : LongCmd) (a : Nat) (hs : Only my z0 s) (hf_nor
    : Field.nor ∈ my.fields := by assumption) : Only my z0 (State.progPage s c a) := by
  simp +contextual (maxDischargeDepth := 99) [State.progPage, hs, hf_nor]

@[simp] theorem State.eraseNext_only {my : May} {z0 : State} (s : State) (a n done : Nat) (hs : Only my z0 s) (hf_nor :
    Field.nor ∈ my.fields := by assumption) : Only my z0 (State.eraseNext s a n done) := by
  simp +contextual (maxDischargeDepth := 99) [State.eraseNext, hs, hf_nor]

@[simp] theorem State.logZone_only {my : May} {z0 : State} (k : Nat) (s : State) (c : LongCmd) (roll : Bool) (hs : Only my
    z0 s) (hf_regs : Field.regs ∈ my.fields := by assumption) (hf_hq : Field.hq ∈ my.fields := by assumption) (hf_hirqLow :
    Field.hirqLow ∈ my.fields := by assumption) (hf_ports : Field.ports ∈ my.fields := by assumption) (hf_ring : Field.ring
    ∈ my.fields := by assumption) (hp_4 : 4 ∈ my.pages := by assumption) :
    Only my z0 (State.logZone k s c roll).2.2 := by
  induction k generalizing s c with
  | zero => simpa [State.logZone] using hs
  | succ n ih =>
    unfold State.logZone
    split
    · exact hs
    · dsimp only
      split
      · exact hs
      · rename_i d _
        split
        · exact ih _ _ hs
        · have k := State.postItem_only s 10 (BitVec.ofNat 16 c.tag) d hs
          revert k
          rcases s.postItem 10 (BitVec.ofNat 16 c.tag) d with ⟨b, u⟩
          intro k
          cases b
          · exact k
          · exact ih _ _ k

@[simp] theorem State.logVol_only {my : May} {z0 : State} (s : State) (c : LongCmd) (next : Nat) (rs : List YewRec) (hs :
    Only my z0 s) (hf_regs : Field.regs ∈ my.fields := by assumption) (hf_hq : Field.hq ∈ my.fields := by assumption)
    (hf_hirqLow : Field.hirqLow ∈ my.fields := by assumption) (hf_ports : Field.ports ∈ my.fields := by assumption) (hf_ring
    : Field.ring ∈ my.fields := by assumption) (hp_4 : 4 ∈ my.pages := by assumption) :
    Only my z0 (State.logVol s c next rs).2.2 := by
  induction rs generalizing s c with
  | nil => simpa [State.logVol] using hs
  | cons r rs ih =>
    unfold State.logVol
    split
    · exact hs
    · dsimp only
      split
      · exact ih _ _ hs
      · have k := State.postItem_only s 10 (BitVec.ofNat 16 c.tag) r.bytes hs
        revert k
        rcases s.postItem 10 (BitVec.ofNat 16 c.tag) r.bytes with ⟨b, u⟩
        intro k
        cases b
        · exact k
        · exact ih _ _ k

theorem State.logStep_only {my : May} {z0 o : State} (s : State) (c : LongCmd) (hs : Only my z0 s) (e : State.logStep s c =
    some o) (hf_regs : Field.regs ∈ my.fields := by assumption) (hf_yew : Field.yew ∈ my.fields := by assumption)
    (hf_yewPort : Field.yewPort ∈ my.fields := by assumption) (hf_hq : Field.hq ∈ my.fields := by assumption) (hf_hirqLow :
    Field.hirqLow ∈ my.fields := by assumption) (hf_nor : Field.nor ∈ my.fields := by assumption) (hf_ports : Field.ports ∈
    my.fields := by assumption) (hf_ring : Field.ring ∈ my.fields := by assumption) (hp_4 : 4 ∈ my.pages := by assumption)
    (hp_6 : 6 ∈ my.pages := by assumption) (hp_7 : 7 ∈ my.pages := by assumption) : Only my z0 o := by
  unfold State.logStep at e
  dsimp only at e
  (repeat' split at e) <;> first
      | (simp only [Option.some.injEq, reduceCtorEq] at e; subst e; simp +contextual (maxDischargeDepth := 99) [hs, hf_regs, hf_yew, hf_yewPort, hf_hq, hf_hirqLow, hf_nor, hf_ports, hf_ring, hp_4, hp_6, hp_7]; done)
      | (simp at e; done)

theorem State.stageStep_only {my : May} {z0 o : State} (s : State) (c : LongCmd) (hs : Only my z0 s) (e : s.stageStep c =
    some o) (hf_regs : Field.regs ∈ my.fields := by assumption) (hf_freeIdx : Field.freeIdx ∈ my.fields := by assumption)
    (hf_firstSeen : Field.firstSeen ∈ my.fields := by assumption) (hf_yew : Field.yew ∈ my.fields := by assumption) (hf_hq :
    Field.hq ∈ my.fields := by assumption) (hf_cmpl : Field.cmpl ∈ my.fields := by assumption) (hf_cmplWait : Field.cmplWait
    ∈ my.fields := by assumption) (hf_hirqLow : Field.hirqLow ∈ my.fields := by assumption) (hf_nor : Field.nor ∈ my.fields
    := by assumption) (hp_4 : 4 ∈ my.pages := by assumption) (hp_6 : 6 ∈ my.pages := by assumption) (hp_7 : 7 ∈ my.pages :=
    by assumption) : Only my z0 o := by
  unfold State.stageStep at e
  dsimp only at e
  (repeat' split at e) <;> first
    | (simp only [Option.some.injEq, reduceCtorEq] at e; subst e; simp +contextual (maxDischargeDepth := 99) [hs, hf_regs, hf_freeIdx, hf_firstSeen, hf_yew, hf_hq, hf_cmpl, hf_cmplWait, hf_hirqLow, hf_nor, hp_4, hp_6, hp_7]; done)
    | (simp at e; done)
    | exact State.takePayload_only _ _ _ _ (by simp +contextual (maxDischargeDepth := 99) [hs, hf_regs, hf_freeIdx, hf_firstSeen, hf_yew, hf_hq, hf_cmpl, hf_cmplWait, hf_hirqLow, hf_nor, hp_4, hp_6, hp_7]) e

theorem State.readStep_only {my : May} {z0 o : State} (s : State) (c : LongCmd) (hs : Only my z0 s) (e : s.readStep c = some
    o) (hf_regs : Field.regs ∈ my.fields := by assumption) (hf_hq : Field.hq ∈ my.fields := by assumption) (hf_hirqLow :
    Field.hirqLow ∈ my.fields := by assumption) (hf_nor : Field.nor ∈ my.fields := by assumption) (hf_ports : Field.ports ∈
    my.fields := by assumption) (hf_ring : Field.ring ∈ my.fields := by assumption) (hp_4 : 4 ∈ my.pages := by assumption)
    (hp_7 : 7 ∈ my.pages := by assumption) : Only my z0 o := by
  unfold State.readStep at e
  dsimp only at e
  split at e
  · simp only [Option.some.injEq] at e; subst e; simp +contextual (maxDischargeDepth := 99) [hs, hf_regs, hf_hq, hf_hirqLow, hf_nor, hf_ports, hf_ring, hp_4, hp_7]
  · split at e
    · simp only [Option.some.injEq] at e; subst e; simp +contextual (maxDischargeDepth := 99) [hs, hf_regs, hf_hq, hf_hirqLow, hf_nor, hf_ports, hf_ring, hp_4, hp_7]
    · simp at e

theorem State.eraseStep_only {my : May} {z0 o : State} (s : State) (c : LongCmd) (hs : Only my z0 s) (e : s.eraseStep c =
    some o) (hf_regs : Field.regs ∈ my.fields := by assumption) (hf_nor : Field.nor ∈ my.fields := by assumption) (hp_7 : 7
    ∈ my.pages := by assumption) : Only my z0 o := by
  unfold State.eraseStep at e
  dsimp only at e
  (repeat' split at e) <;> first
    | (simp only [Option.some.injEq] at e; subst e; simp +contextual (maxDischargeDepth := 99) [hs, hf_regs, hf_nor, hp_7]; done)
    | exact State.takePayload_only _ _ _ _ (by simp +contextual (maxDischargeDepth := 99) [hs, hf_regs, hf_nor, hp_7]) e

theorem State.writeStep_only {my : May} {z0 o : State} (s : State) (c : LongCmd) (hs : Only my z0 s) (e : s.writeStep c =
    some o) (hf_regs : Field.regs ∈ my.fields := by assumption) (hf_freeIdx : Field.freeIdx ∈ my.fields := by assumption)
    (hf_firstSeen : Field.firstSeen ∈ my.fields := by assumption) (hf_yew : Field.yew ∈ my.fields := by assumption) (hf_hq :
    Field.hq ∈ my.fields := by assumption) (hf_cmpl : Field.cmpl ∈ my.fields := by assumption) (hf_cmplWait : Field.cmplWait
    ∈ my.fields := by assumption) (hf_hirqLow : Field.hirqLow ∈ my.fields := by assumption) (hf_nor : Field.nor ∈ my.fields
    := by assumption) (hp_4 : 4 ∈ my.pages := by assumption) (hp_6 : 6 ∈ my.pages := by assumption) (hp_7 : 7 ∈ my.pages :=
    by assumption) : Only my z0 o := by
  unfold State.writeStep at e
  dsimp only at e
  (repeat' split at e) <;> first
    | (simp only [Option.some.injEq] at e; subst e; simp +contextual (maxDischargeDepth := 99) [hs, hf_regs, hf_freeIdx, hf_firstSeen, hf_yew, hf_hq, hf_cmpl, hf_cmplWait, hf_hirqLow, hf_nor, hp_4, hp_6, hp_7]; done)
    | exact State.takePayload_only _ _ _ _ (by simp +contextual (maxDischargeDepth := 99) [hs, hf_regs, hf_freeIdx, hf_firstSeen, hf_yew, hf_hq, hf_cmpl, hf_cmplWait, hf_hirqLow, hf_nor, hp_4, hp_6, hp_7]) e

theorem State.cfgStep_only {my : May} {z0 o : State} (s : State) (c : LongCmd) (hs : Only my z0 s) (e : s.cfgStep c = some
    o) (hf_regs : Field.regs ∈ my.fields := by assumption) (hf_nor : Field.nor ∈ my.fields := by assumption) (hp_7 : 7 ∈
    my.pages := by assumption) : Only my z0 o := by
  unfold State.cfgStep at e
  dsimp only at e
  (repeat' split at e) <;> first
    | (simp only [Option.some.injEq] at e; subst e; simp +contextual (maxDischargeDepth := 99) [hs, hf_regs, hf_nor, hp_7]; done)
    | exact State.takePayload_only _ _ _ _ (by simp +contextual (maxDischargeDepth := 99) [hs, hf_regs, hf_nor, hp_7]) e

theorem State.longStep_only {my : May} {z0 o : State} (s : State) (c : LongCmd) (hs : Only my z0 s) (hf_regs : Field.regs ∈
    my.fields := by assumption) (hf_freeIdx : Field.freeIdx ∈ my.fields := by assumption) (hf_firstSeen : Field.firstSeen ∈
    my.fields := by assumption) (hf_yew : Field.yew ∈ my.fields := by assumption) (hf_yewPort : Field.yewPort ∈ my.fields :=
    by assumption) (hf_hq : Field.hq ∈ my.fields := by assumption) (hf_cmpl : Field.cmpl ∈ my.fields := by assumption)
    (hf_cmplWait : Field.cmplWait ∈ my.fields := by assumption) (hf_hirqLow : Field.hirqLow ∈ my.fields := by assumption)
    (hf_nor : Field.nor ∈ my.fields := by assumption) (hf_ports : Field.ports ∈ my.fields := by assumption) (hf_ring :
    Field.ring ∈ my.fields := by assumption) (hp_4 : 4 ∈ my.pages := by assumption) (hp_6 : 6 ∈ my.pages := by assumption)
    (hp_7 : 7 ∈ my.pages := by assumption) : s.longStep c = some o → Only my z0 o := by
  unfold State.longStep
  dsimp only
  (repeat' split) <;> intro e <;> first
    | (simp only [Option.some.injEq] at e; subst e; simp +contextual (maxDischargeDepth := 99) [hs, hf_regs, hf_freeIdx, hf_firstSeen, hf_yew, hf_yewPort, hf_hq, hf_cmpl, hf_cmplWait, hf_hirqLow, hf_nor, hf_ports, hf_ring, hp_4, hp_6, hp_7]; done)
    | (simp at e; done)
    | exact State.readStep_only _ _ hs e
    | exact State.eraseStep_only _ _ hs e
    | exact State.writeStep_only _ _ hs e
    | exact State.cfgStep_only _ _ hs e
    | exact State.stageStep_only _ _ hs e
    | exact State.logStep_only _ _ hs e

@[simp] theorem State.pumpLong_only {my : May} {z0 : State} (k : Nat) (s : State) (hs : Only my z0 s) (hf_regs : Field.regs
    ∈ my.fields := by assumption) (hf_freeIdx : Field.freeIdx ∈ my.fields := by assumption) (hf_firstSeen : Field.firstSeen
    ∈ my.fields := by assumption) (hf_yew : Field.yew ∈ my.fields := by assumption) (hf_yewPort : Field.yewPort ∈ my.fields
    := by assumption) (hf_hq : Field.hq ∈ my.fields := by assumption) (hf_cmpl : Field.cmpl ∈ my.fields := by assumption)
    (hf_cmplWait : Field.cmplWait ∈ my.fields := by assumption) (hf_hirqLow : Field.hirqLow ∈ my.fields := by assumption)
    (hf_nor : Field.nor ∈ my.fields := by assumption) (hf_ports : Field.ports ∈ my.fields := by assumption) (hf_ring :
    Field.ring ∈ my.fields := by assumption) (hp_4 : 4 ∈ my.pages := by assumption) (hp_6 : 6 ∈ my.pages := by assumption)
    (hp_7 : 7 ∈ my.pages := by assumption) : Only my z0 (State.pumpLong k s) := by
  induction k generalizing s with
  | zero => exact hs
  | succ n ih =>
    unfold State.pumpLong
    split
    · exact hs
    · split
      · exact hs
      · rename_i o e
        have k : ∀ c, s.longStep c = some o → Only my z0 o := fun c => State.longStep_only s c hs
        exact ih _ (k _ e)

@[simp] theorem State.pump_only {my : May} {z0 : State} (s : State) (hs : Only my z0 s) (hf_regs : Field.regs ∈ my.fields :=
    by assumption) (hf_freeIdx : Field.freeIdx ∈ my.fields := by assumption) (hf_firstSeen : Field.firstSeen ∈ my.fields :=
    by assumption) (hf_yew : Field.yew ∈ my.fields := by assumption) (hf_yewPort : Field.yewPort ∈ my.fields := by
    assumption) (hf_hq : Field.hq ∈ my.fields := by assumption) (hf_cmpl : Field.cmpl ∈ my.fields := by assumption)
    (hf_cmplWait : Field.cmplWait ∈ my.fields := by assumption) (hf_hirqLow : Field.hirqLow ∈ my.fields := by assumption)
    (hf_nor : Field.nor ∈ my.fields := by assumption) (hf_ports : Field.ports ∈ my.fields := by assumption) (hf_ring :
    Field.ring ∈ my.fields := by assumption) (hp_4 : 4 ∈ my.pages := by assumption) (hp_6 : 6 ∈ my.pages := by assumption)
    (hp_7 : 7 ∈ my.pages := by assumption) : Only my z0 (State.pump s) := by
  simp +contextual (maxDischargeDepth := 99) [State.pump, hs, hf_regs, hf_freeIdx, hf_firstSeen, hf_yew, hf_yewPort, hf_hq,
      hf_cmpl, hf_cmplWait, hf_hirqLow, hf_nor, hf_ports, hf_ring, hp_4, hp_6, hp_7]

@[simp] theorem State.longDone_only {my : May} {z0 : State} (s : State) (o : NorOp) (hs : Only my z0 s) (hf_nor : Field.nor
    ∈ my.fields := by assumption) : Only my z0 (State.longDone s o) := by
  unfold State.longDone
  (repeat' split) <;> simp_all +contextual (maxDischargeDepth := 99)

@[simp] theorem State.cmdStat_only {my : May} {z0 : State} (s : State) (op status tag : Nat) (hs : Only my z0 s) (hf_regs :
    Field.regs ∈ my.fields := by assumption) (hp_7 : 7 ∈ my.pages := by assumption) : Only my z0 (State.cmdStat s op status
    tag) := by
  simp +contextual (maxDischargeDepth := 99) [State.cmdStat, hs, hf_regs, hp_7]

@[simp] theorem State.finish_only {my : May} {z0 : State} (s : State) (c : LongCmd) (status detail : Nat) (res : List Word)
    (hs : Only my z0 s) (hf_regs : Field.regs ∈ my.fields := by assumption) (hf_yew : Field.yew ∈ my.fields := by
    assumption) (hf_hirqLow : Field.hirqLow ∈ my.fields := by assumption) (hf_mbox : Field.mbox ∈ my.fields := by
    assumption) (hf_nor : Field.nor ∈ my.fields := by assumption) (hp_6 : 6 ∈ my.pages := by assumption) (hp_7 : 7 ∈
    my.pages := by assumption) : Only my z0 (State.finish s c status detail res) := by
  simp +contextual (maxDischargeDepth := 99) [State.finish, hs, hf_regs, hf_yew, hf_hirqLow, hf_mbox, hf_nor, hp_6, hp_7]

@[simp] theorem State.abortLong_only {my : May} {z0 : State} (s : State) (c : LongCmd) (hs : Only my z0 s) (hf_regs :
    Field.regs ∈ my.fields := by assumption) (hf_freeIdx : Field.freeIdx ∈ my.fields := by assumption) (hf_firstSeen :
    Field.firstSeen ∈ my.fields := by assumption) (hf_yew : Field.yew ∈ my.fields := by assumption) (hf_yewPort :
    Field.yewPort ∈ my.fields := by assumption) (hf_hq : Field.hq ∈ my.fields := by assumption) (hf_cmpl : Field.cmpl ∈
    my.fields := by assumption) (hf_cmplWait : Field.cmplWait ∈ my.fields := by assumption) (hf_hirqLow : Field.hirqLow ∈
    my.fields := by assumption) (hf_nor : Field.nor ∈ my.fields := by assumption) (hf_ports : Field.ports ∈ my.fields := by
    assumption) (hf_ring : Field.ring ∈ my.fields := by assumption) (hp_4 : 4 ∈ my.pages := by assumption) (hp_6 : 6 ∈
    my.pages := by assumption) (hp_7 : 7 ∈ my.pages := by assumption) : Only my z0 (State.abortLong s c) := by
  simp +contextual (maxDischargeDepth := 99) [State.abortLong, hs, hf_regs, hf_freeIdx, hf_firstSeen, hf_yew, hf_yewPort,
      hf_hq, hf_cmpl, hf_cmplWait, hf_hirqLow, hf_nor, hf_ports, hf_ring, hp_4, hp_6, hp_7]

theorem State.takeCmd_only {my : May} {z0 : State} (s : State) (k op : Nat) {c : Cmd} {o : State} (hs : Only my z0 s)
    (e : s.takeCmd k op = some (c, o)) (hf_mbox : Field.mbox ∈ my.fields := by assumption) : Only my z0 o := by
  unfold State.takeCmd at e
  split at e
  · simp at e
  · dsimp only at e
    split at e
    · simp only [Option.some.injEq, Prod.mk.injEq] at e
      obtain ⟨-, rfl⟩ := e
      simp [hs, hf_mbox]
    · simp at e

@[simp] theorem State.dropAccepted_only {my : May} {z0 : State} (s : State) (c : Cmd) (hs : Only my z0 s) (hf_nor :
    Field.nor ∈ my.fields := by assumption) : Only my z0 (State.dropAccepted s c) := by
  simp +contextual (maxDischargeDepth := 99) [State.dropAccepted, hs, hf_nor]

@[simp] theorem State.shortCmd_only {my : May} {z0 : State} (s : State) (k op : Nat) (f : State → Cmd → (Nat × Nat × List
    Word) × State)
    (hs : Only my z0 s) (hf : ∀ w c, Only my z0 w → Only my z0 (f w c).2) (hf_mbox : Field.mbox ∈ my.fields := by assumption) (hf_nor : Field.nor ∈ my.fields := by assumption) : Only my z0 (s.shortCmd k op f) := by
  unfold State.shortCmd
  split
  · exact hs
  · rename_i c u e
    have hu : Only my z0 (u.dropAccepted c) := by
      have := State.takeCmd_only s k op hs e
      simp +contextual (maxDischargeDepth := 99) [this, hf_mbox, hf_nor]
    dsimp only
    split
    · simp +contextual (maxDischargeDepth := 99) [hu, hf_mbox, hf_nor]
    · have k := hf _ c hu
      revert k
      rcases f (u.dropAccepted c) c with ⟨⟨a, b, r⟩, w⟩
      intro k
      simp +contextual (maxDischargeDepth := 99) [k, hf_mbox, hf_nor]

@[simp] theorem State.startLong_only {my : May} {z0 : State} (s : State) (k : Nat) (c : Cmd) (hs : Only my z0 s) (hf_regs :
    Field.regs ∈ my.fields := by assumption) (hf_freeIdx : Field.freeIdx ∈ my.fields := by assumption) (hf_firstSeen :
    Field.firstSeen ∈ my.fields := by assumption) (hf_yew : Field.yew ∈ my.fields := by assumption) (hf_yewPort :
    Field.yewPort ∈ my.fields := by assumption) (hf_hq : Field.hq ∈ my.fields := by assumption) (hf_cmpl : Field.cmpl ∈
    my.fields := by assumption) (hf_cmplWait : Field.cmplWait ∈ my.fields := by assumption) (hf_hirqLow : Field.hirqLow ∈
    my.fields := by assumption) (hf_mbox : Field.mbox ∈ my.fields := by assumption) (hf_nor : Field.nor ∈ my.fields := by
    assumption) (hf_ports : Field.ports ∈ my.fields := by assumption) (hf_ring : Field.ring ∈ my.fields := by assumption)
    (hp_4 : 4 ∈ my.pages := by assumption) (hp_6 : 6 ∈ my.pages := by assumption) (hp_7 : 7 ∈ my.pages := by assumption) :
    Only my z0 (State.startLong s k c) := by
  simp +contextual (maxDischargeDepth := 99) [State.startLong, hs, hf_regs, hf_freeIdx, hf_firstSeen, hf_yew, hf_yewPort,
      hf_hq, hf_cmpl, hf_cmplWait, hf_hirqLow, hf_mbox, hf_nor, hf_ports, hf_ring, hp_4, hp_6, hp_7]

@[simp] theorem State.longCmd_only {my : May} {z0 : State} (s : State) (k op : Nat) (hs : Only my z0 s) (hf_regs :
    Field.regs ∈ my.fields := by assumption) (hf_freeIdx : Field.freeIdx ∈ my.fields := by assumption) (hf_firstSeen :
    Field.firstSeen ∈ my.fields := by assumption) (hf_yew : Field.yew ∈ my.fields := by assumption) (hf_yewPort :
    Field.yewPort ∈ my.fields := by assumption) (hf_hq : Field.hq ∈ my.fields := by assumption) (hf_cmpl : Field.cmpl ∈
    my.fields := by assumption) (hf_cmplWait : Field.cmplWait ∈ my.fields := by assumption) (hf_hirqLow : Field.hirqLow ∈
    my.fields := by assumption) (hf_mbox : Field.mbox ∈ my.fields := by assumption) (hf_nor : Field.nor ∈ my.fields := by
    assumption) (hf_ports : Field.ports ∈ my.fields := by assumption) (hf_ring : Field.ring ∈ my.fields := by assumption)
    (hp_4 : 4 ∈ my.pages := by assumption) (hp_6 : 6 ∈ my.pages := by assumption) (hp_7 : 7 ∈ my.pages := by assumption) :
    Only my z0 (s.longCmd k op) := by
  unfold State.longCmd
  split
  · exact hs
  · rename_i c u e
    have hu : Only my z0 u := State.takeCmd_only s k op hs e
    split
    · simp +contextual (maxDischargeDepth := 99) [hu, hf_regs, hf_freeIdx, hf_firstSeen, hf_yew, hf_yewPort, hf_hq, hf_cmpl,
        hf_cmplWait, hf_hirqLow, hf_mbox, hf_nor, hf_ports, hf_ring, hp_4, hp_6, hp_7]
    · simp +contextual (maxDischargeDepth := 99) [hu, hf_regs, hf_freeIdx, hf_firstSeen, hf_yew, hf_yewPort, hf_hq, hf_cmpl,
        hf_cmplWait, hf_hirqLow, hf_mbox, hf_nor, hf_ports, hf_ring, hp_4, hp_6, hp_7]

@[simp] theorem State.doDirSet_only {my : May} {z0 : State} (s : State) (c : Cmd) (hs : Only my z0 s) (hf_regs : Field.regs
    ∈ my.fields := by assumption) (hf_yew : Field.yew ∈ my.fields := by assumption) (hf_yewPort : Field.yewPort ∈ my.fields
    := by assumption) (hf_hirqLow : Field.hirqLow ∈ my.fields := by assumption) (hf_nor : Field.nor ∈ my.fields := by
    assumption) (hp_6 : 6 ∈ my.pages := by assumption) : Only my z0 (State.doDirSet s c).2 := by
  unfold State.doDirSet
  dsimp only
  (repeat' split) <;> simp +contextual (maxDischargeDepth := 99) [hs, hf_regs, hf_yew, hf_yewPort, hf_hirqLow, hf_nor, hp_6]

@[simp] theorem State.doPatchSelect_only {my : May} {z0 : State} (s : State) (c : Cmd) (hs : Only my z0 s) (hf_regs :
    Field.regs ∈ my.fields := by assumption) (hf_yew : Field.yew ∈ my.fields := by assumption) (hf_hirqLow : Field.hirqLow ∈
    my.fields := by assumption) (hf_nor : Field.nor ∈ my.fields := by assumption) (hp_6 : 6 ∈ my.pages := by assumption)
    (hp_7 : 7 ∈ my.pages := by assumption) : Only my z0 (State.doPatchSelect s c).2 := by
  unfold State.doPatchSelect
  dsimp only
  (repeat' split) <;> simp +contextual (maxDischargeDepth := 99) [hs, hf_regs, hf_yew, hf_hirqLow, hf_nor, hp_6, hp_7]

@[simp] theorem State.doCfgClear_only {my : May} {z0 : State} (s : State) (_c : Cmd) (hs : Only my z0 s) (hf_nor : Field.nor
    ∈ my.fields := by assumption) : Only my z0 (State.doCfgClear s _c).2 := by
  unfold State.doCfgClear
  dsimp only
  (repeat' split) <;> simp +contextual (maxDischargeDepth := 99) [hs, hf_nor]

@[simp] theorem State.doAbort_only {my : May} {z0 : State} (s : State) (_c : Cmd) (hs : Only my z0 s) (hf_regs : Field.regs
    ∈ my.fields := by assumption) (hf_freeIdx : Field.freeIdx ∈ my.fields := by assumption) (hf_firstSeen : Field.firstSeen
    ∈ my.fields := by assumption) (hf_yew : Field.yew ∈ my.fields := by assumption) (hf_yewPort : Field.yewPort ∈ my.fields
    := by assumption) (hf_hq : Field.hq ∈ my.fields := by assumption) (hf_cmpl : Field.cmpl ∈ my.fields := by assumption)
    (hf_cmplWait : Field.cmplWait ∈ my.fields := by assumption) (hf_hirqLow : Field.hirqLow ∈ my.fields := by assumption)
    (hf_nor : Field.nor ∈ my.fields := by assumption) (hf_ports : Field.ports ∈ my.fields := by assumption) (hf_ring :
    Field.ring ∈ my.fields := by assumption) (hp_4 : 4 ∈ my.pages := by assumption) (hp_6 : 6 ∈ my.pages := by assumption)
    (hp_7 : 7 ∈ my.pages := by assumption) : Only my z0 (State.doAbort s _c).2 := by
  unfold State.doAbort
  (repeat' split) <;> simp_all +contextual (maxDischargeDepth := 99)

@[simp] theorem State.abortNow_only {my : May} {z0 : State} (s : State) (c : LongCmd) (hs : Only my z0 s) (hf_regs :
    Field.regs ∈ my.fields := by assumption) (hf_yew : Field.yew ∈ my.fields := by assumption) (hf_hirqLow : Field.hirqLow ∈
    my.fields := by assumption) (hf_mbox : Field.mbox ∈ my.fields := by assumption) (hf_nor : Field.nor ∈ my.fields := by
    assumption) (hp_6 : 6 ∈ my.pages := by assumption) (hp_7 : 7 ∈ my.pages := by assumption) : Only my z0 (State.abortNow s
    c) := by
  simp +contextual (maxDischargeDepth := 99) [State.abortNow, hs, hf_regs, hf_yew, hf_hirqLow, hf_mbox, hf_nor, hp_6, hp_7]

@[simp] theorem State.abortInbox_only {my : May} {z0 : State} (s : State) (k : Nat) (hs : Only my z0 s) (hf_regs :
    Field.regs ∈ my.fields := by assumption) (hf_yew : Field.yew ∈ my.fields := by assumption) (hf_hirqLow : Field.hirqLow ∈
    my.fields := by assumption) (hf_mbox : Field.mbox ∈ my.fields := by assumption) (hp_6 : 6 ∈ my.pages := by assumption)
    (hp_7 : 7 ∈ my.pages := by assumption) : Only my z0 (State.abortInbox s k) := by
  unfold State.abortInbox
  dsimp only
  (repeat' split) <;> simp +contextual (maxDischargeDepth := 99) [hs, hf_regs, hf_yew, hf_hirqLow, hf_mbox, hp_6, hp_7]

@[simp] theorem State.grantCmds_only {my : May} {z0 : State} (s : State) (hs : Only my z0 s) (hf_regs : Field.regs ∈
    my.fields := by assumption) (hf_yew : Field.yew ∈ my.fields := by assumption) (hf_hirqLow : Field.hirqLow ∈ my.fields :=
    by assumption) (hf_mbox : Field.mbox ∈ my.fields := by assumption) (hf_nor : Field.nor ∈ my.fields := by assumption)
    (hp_5 : 5 ∈ my.pages := by assumption) (hp_6 : 6 ∈ my.pages := by assumption) (hp_7 : 7 ∈ my.pages := by assumption) :
    Only my z0 (State.grantCmds s) := by
  unfold State.grantCmds
  dsimp only
  (repeat' split) <;> simp +contextual (maxDischargeDepth := 99) [hs, hf_regs, hf_yew, hf_hirqLow, hf_mbox, hf_nor, hp_5,
                          hp_6, hp_7]

@[simp] theorem State.pfailCmds_only {my : May} {z0 : State} (s : State) (hs : Only my z0 s) (hf_regs : Field.regs ∈
    my.fields := by assumption) (hf_freeIdx : Field.freeIdx ∈ my.fields := by assumption) (hf_firstSeen : Field.firstSeen ∈
    my.fields := by assumption) (hf_yew : Field.yew ∈ my.fields := by assumption) (hf_yewPort : Field.yewPort ∈ my.fields :=
    by assumption) (hf_hq : Field.hq ∈ my.fields := by assumption) (hf_cmpl : Field.cmpl ∈ my.fields := by assumption)
    (hf_cmplWait : Field.cmplWait ∈ my.fields := by assumption) (hf_hirqLow : Field.hirqLow ∈ my.fields := by assumption)
    (hf_nor : Field.nor ∈ my.fields := by assumption) (hf_ports : Field.ports ∈ my.fields := by assumption) (hf_ring :
    Field.ring ∈ my.fields := by assumption) (hp_4 : 4 ∈ my.pages := by assumption) (hp_6 : 6 ∈ my.pages := by assumption)
    (hp_7 : 7 ∈ my.pages := by assumption) : Only my z0 (State.pfailCmds s) := by
  unfold State.pfailCmds
  dsimp only
  (repeat' split) <;> simp +contextual (maxDischargeDepth := 99) [hs, hf_regs, hf_freeIdx, hf_firstSeen, hf_yew, hf_yewPort,
                          hf_hq, hf_cmpl, hf_cmplWait, hf_hirqLow, hf_nor, hf_ports, hf_ring, hp_4, hp_6, hp_7]

@[simp] theorem State.modMap_only {my : May} {z0 : State} (s : State) (f : MapState → MapState) (hs : Only my z0 s) (hf_map
    : Field.map ∈ my.fields := by assumption) : Only my z0 (State.modMap s f) := by
  simp +contextual (maxDischargeDepth := 99) [State.modMap, hs, hf_map]

@[simp] theorem State.noteRead_only {my : May} {z0 : State} (s : State) (col row : Int) (k : Sit) (hs : Only my z0 s)
    (hf_regs : Field.regs ∈ my.fields := by assumption) (hf_yew : Field.yew ∈ my.fields := by assumption) (hf_hirqLow :
    Field.hirqLow ∈ my.fields := by assumption) (hf_map : Field.map ∈ my.fields := by assumption) (hp_6 : 6 ∈ my.pages := by
    assumption) (hp_25 : 25 ∈ my.pages := by assumption) : Only my z0 (State.noteRead s col row k) := by
  unfold State.noteRead
  dsimp only
  (repeat' split) <;> simp +contextual (maxDischargeDepth := 99) [hs, hf_regs, hf_yew, hf_hirqLow, hf_map, hp_6, hp_25]

@[simp] theorem State.setMapWord_only {my : May} {z0 : State} (s : State) (h : Half) (presc : Bool) (w v : Nat) (hs : Only
    my z0 s) (hf_map : Field.map ∈ my.fields := by assumption) : Only my z0 (State.setMapWord s h presc w v) := by
  simp +contextual (maxDischargeDepth := 99) [State.setMapWord, hs, hf_map]

@[simp] theorem State.eccFix_only {my : May} {z0 : State} (s : State) (all : List EccFault) (f : EccFault) (hs : Only my z0
    s) (hf_regs : Field.regs ∈ my.fields := by assumption) (hf_yew : Field.yew ∈ my.fields := by assumption) (hf_hirqLow :
    Field.hirqLow ∈ my.fields := by assumption) (hf_laurel : Field.laurel ∈ my.fields := by assumption) (hf_map : Field.map
    ∈ my.fields := by assumption) (hp_6 : 6 ∈ my.pages := by assumption) (hp_25 : 25 ∈ my.pages := by assumption) : Only my
    z0 (State.eccFix s all f) := by
  simp +contextual (maxDischargeDepth := 99) [State.eccFix, hs, hf_regs, hf_yew, hf_hirqLow, hf_laurel, hf_map, hp_6, hp_25]

@[simp] theorem State.eccAll_only {my : May} {z0 : State} (s : State) (fs : List EccFault) (hs : Only my z0 s) (hf_regs :
    Field.regs ∈ my.fields := by assumption) (hf_yew : Field.yew ∈ my.fields := by assumption) (hf_hirqLow : Field.hirqLow ∈
    my.fields := by assumption) (hf_laurel : Field.laurel ∈ my.fields := by assumption) (hf_map : Field.map ∈ my.fields :=
    by assumption) (hp_6 : 6 ∈ my.pages := by assumption) (hp_25 : 25 ∈ my.pages := by assumption) : Only my z0
    (State.eccAll s fs) := by
  simp +contextual (maxDischargeDepth := 99) [State.eccAll, hs, hf_regs, hf_yew, hf_hirqLow, hf_laurel, hf_map, hp_6, hp_25]

@[simp] theorem State.tileReject_only {my : May} {z0 : State} (s : State) (i : TileItem) (k : Nat) (hs : Only my z0 s)
    (hf_regs : Field.regs ∈ my.fields := by assumption) (hf_hirqLow : Field.hirqLow ∈ my.fields := by assumption) (hp_25 :
    25 ∈ my.pages := by assumption) : Only my z0 (State.tileReject s i k).1 := by
  unfold State.tileReject
  dsimp only
  (repeat' split) <;> simp +contextual (maxDischargeDepth := 99) [hs, hf_regs, hf_hirqLow, hp_25]

@[simp] theorem State.setVerdicts_only {my : May} {z0 : State} (s : State) (cov : Bool) (v : List Verdict) (hs : Only my z0
    s) (hf_map : Field.map ∈ my.fields := by assumption) : Only my z0 (State.setVerdicts s cov v) := by
  simp +contextual (maxDischargeDepth := 99) [State.setVerdicts, hs, hf_map]

@[simp] theorem State.settleTiles_only {my : May} {z0 : State} (fuel : Nat) (s : State) (cov : Bool) (hs : Only my z0 s)
    (hf_regs : Field.regs ∈ my.fields := by assumption) (hf_freeIdx : Field.freeIdx ∈ my.fields := by assumption)
    (hf_firstSeen : Field.firstSeen ∈ my.fields := by assumption) (hf_yew : Field.yew ∈ my.fields := by assumption) (hf_hq :
    Field.hq ∈ my.fields := by assumption) (hf_cmpl : Field.cmpl ∈ my.fields := by assumption) (hf_cmplWait : Field.cmplWait
    ∈ my.fields := by assumption) (hf_hirqLow : Field.hirqLow ∈ my.fields := by assumption) (hf_map : Field.map ∈ my.fields
    := by assumption) (hp_4 : 4 ∈ my.pages := by assumption) (hp_6 : 6 ∈ my.pages := by assumption) : Only my z0
    (State.settleTiles fuel s cov) := by
  induction fuel generalizing s with
  | zero => simp +contextual (maxDischargeDepth := 99) [State.settleTiles, hs, hf_regs, hf_freeIdx, hf_firstSeen, hf_yew, hf_hq, hf_cmpl, hf_cmplWait, hf_hirqLow, hf_map, hp_4, hp_6]
  | succ n ih =>
    unfold State.settleTiles
    try dsimp only
    (repeat' split) <;> first
        | (simp +contextual (maxDischargeDepth := 99) [hs, hf_regs, hf_freeIdx, hf_firstSeen, hf_yew, hf_hq, hf_cmpl, hf_cmplWait, hf_hirqLow, hf_map, hp_4, hp_6]; done)
        | (apply ih; simp +contextual (maxDischargeDepth := 99) [hs, hf_regs, hf_freeIdx, hf_firstSeen, hf_yew, hf_hq, hf_cmpl, hf_cmplWait, hf_hirqLow, hf_map, hp_4, hp_6]; done)
        | (simp +contextual (maxDischargeDepth := 99) [hs, hf_regs, hf_freeIdx, hf_firstSeen, hf_yew, hf_hq, hf_cmpl, hf_cmplWait, hf_hirqLow, hf_map, hp_4, hp_6, ih, hf_regs, hf_freeIdx, hf_firstSeen, hf_yew, hf_hq, hf_cmpl, hf_cmplWait, hf_hirqLow, hf_map, hp_4, hp_6]; done)
        | (simp +contextual (maxDischargeDepth := 99) [*]; done)
        | (rename_i e; have e' := congrArg (fun p => Only my z0 (Prod.snd p)) e; simp +contextual (maxDischargeDepth := 99) [hs, hf_regs, hf_freeIdx, hf_firstSeen, hf_yew, hf_hq, hf_cmpl, hf_cmplWait, hf_hirqLow, hf_map, hp_4, hp_6, ih, hf_regs, hf_freeIdx, hf_firstSeen, hf_yew, hf_hq, hf_cmpl, hf_cmplWait, hf_hirqLow, hf_map, hp_4, hp_6] at e'; first | (apply ih; simp +contextual (maxDischargeDepth := 99) [hs, hf_regs, hf_freeIdx, hf_firstSeen, hf_yew, hf_hq, hf_cmpl, hf_cmplWait, hf_hirqLow, hf_map, hp_4, hp_6, e']; done) | (simp +contextual (maxDischargeDepth := 99) [hs, hf_regs, hf_freeIdx, hf_firstSeen, hf_yew, hf_hq, hf_cmpl, hf_cmplWait, hf_hirqLow, hf_map, hp_4, hp_6, ih, e']; done))

@[simp] theorem State.freeSlot_only {my : May} {z0 : State} (s : State) (i : Nat) (hs : Only my z0 s) (hf_regs : Field.regs
    ∈ my.fields := by assumption) (hf_freeIdx : Field.freeIdx ∈ my.fields := by assumption) (hf_hirqLow : Field.hirqLow ∈
    my.fields := by assumption) (hf_map : Field.map ∈ my.fields := by assumption) (hp_25 : 25 ∈ my.pages := by assumption) :
    Only my z0 (State.freeSlot s i) := by
  simp +contextual (maxDischargeDepth := 99) [State.freeSlot, hs, hf_regs, hf_freeIdx, hf_hirqLow, hf_map, hp_25]

@[simp] theorem State.giveSlot_only {my : May} {z0 : State} (s : State) (i : Nat) (tc tr : Int) (hs : Only my z0 s) (hf_map
    : Field.map ∈ my.fields := by assumption) : Only my z0 (State.giveSlot s i tc tr) := by
  simp +contextual (maxDischargeDepth := 99) [State.giveSlot, hs, hf_map]

@[simp] theorem State.postEvictions_only {my : May} {z0 : State} (fuel : Nat) (s : State) (hs : Only my z0 s) (hf_regs :
    Field.regs ∈ my.fields := by assumption) (hf_hq : Field.hq ∈ my.fields := by assumption) (hf_hirqLow : Field.hirqLow ∈
    my.fields := by assumption) (hf_map : Field.map ∈ my.fields := by assumption) (hf_ports : Field.ports ∈ my.fields := by
    assumption) (hf_ring : Field.ring ∈ my.fields := by assumption) (hp_4 : 4 ∈ my.pages := by assumption) (hp_25 : 25 ∈
    my.pages := by assumption) : Only my z0 (State.postEvictions fuel s) := by
  induction fuel generalizing s with
  | zero => simp +contextual (maxDischargeDepth := 99) [State.postEvictions, hs, hf_regs, hf_hq, hf_hirqLow, hf_map, hf_ports, hf_ring, hp_4, hp_25]
  | succ n ih =>
    unfold State.postEvictions
    try dsimp only
    (repeat' split) <;> first
        | (simp +contextual (maxDischargeDepth := 99) [hs, hf_regs, hf_hq, hf_hirqLow, hf_map, hf_ports, hf_ring, hp_4, hp_25]; done)
        | (apply ih; simp +contextual (maxDischargeDepth := 99) [hs, hf_regs, hf_hq, hf_hirqLow, hf_map, hf_ports, hf_ring, hp_4, hp_25]; done)
        | (simp +contextual (maxDischargeDepth := 99) [hs, hf_regs, hf_hq, hf_hirqLow, hf_map, hf_ports, hf_ring, hp_4, hp_25, ih, hf_regs, hf_hq, hf_hirqLow, hf_map, hf_ports, hf_ring, hp_4, hp_25]; done)
        | (simp +contextual (maxDischargeDepth := 99) [*]; done)
        | (rename_i e; have e' := congrArg (fun p => Only my z0 (Prod.snd p)) e; simp +contextual (maxDischargeDepth := 99) [hs, hf_regs, hf_hq, hf_hirqLow, hf_map, hf_ports, hf_ring, hp_4, hp_25, ih, hf_regs, hf_hq, hf_hirqLow, hf_map, hf_ports, hf_ring, hp_4, hp_25] at e'; first | (apply ih; simp +contextual (maxDischargeDepth := 99) [hs, hf_regs, hf_hq, hf_hirqLow, hf_map, hf_ports, hf_ring, hp_4, hp_25, e']; done) | (simp +contextual (maxDischargeDepth := 99) [hs, hf_regs, hf_hq, hf_hirqLow, hf_map, hf_ports, hf_ring, hp_4, hp_25, ih, e']; done))

@[simp] theorem State.compareEvict_only {my : May} {z0 : State} (s : State) (i : Nat) (x : Slot) (hs : Only my z0 s)
    (hf_regs : Field.regs ∈ my.fields := by assumption) (hf_yew : Field.yew ∈ my.fields := by assumption) (hf_hirqLow :
    Field.hirqLow ∈ my.fields := by assumption) (hp_6 : 6 ∈ my.pages := by assumption) (hp_25 : 25 ∈ my.pages := by
    assumption) : Only my z0 (State.compareEvict s i x) := by
  simp +contextual (maxDischargeDepth := 99) [State.compareEvict, hs, hf_regs, hf_yew, hf_hirqLow, hp_6, hp_25]

@[simp] theorem State.evict_only {my : May} {z0 : State} (s : State) (i : Nat) (hs : Only my z0 s) (hf_regs : Field.regs ∈
    my.fields := by assumption) (hf_freeIdx : Field.freeIdx ∈ my.fields := by assumption) (hf_yew : Field.yew ∈ my.fields :=
    by assumption) (hf_hirqLow : Field.hirqLow ∈ my.fields := by assumption) (hf_map : Field.map ∈ my.fields := by
    assumption) (hp_6 : 6 ∈ my.pages := by assumption) (hp_25 : 25 ∈ my.pages := by assumption) : Only my z0 (State.evict s
    i) := by
  simp +contextual (maxDischargeDepth := 99) [State.evict, hs, hf_regs, hf_freeIdx, hf_yew, hf_hirqLow, hf_map, hp_6, hp_25]

@[simp] theorem State.claimSlot_only {my : May} {z0 : State} (s : State) (wanted : List (Int × Int)) (t : Int × Int) (hs :
    Only my z0 s) (hf_regs : Field.regs ∈ my.fields := by assumption) (hf_freeIdx : Field.freeIdx ∈ my.fields := by
    assumption) (hf_yew : Field.yew ∈ my.fields := by assumption) (hf_hirqLow : Field.hirqLow ∈ my.fields := by assumption)
    (hf_map : Field.map ∈ my.fields := by assumption) (hp_6 : 6 ∈ my.pages := by assumption) (hp_25 : 25 ∈ my.pages := by
    assumption) : Only my z0 (State.claimSlot s wanted t) := by
  unfold State.claimSlot
  dsimp only
  (repeat' split) <;> simp +contextual (maxDischargeDepth := 99) [hs, hf_regs, hf_freeIdx, hf_yew, hf_hirqLow, hf_map, hp_6,
                          hp_25]

@[simp] theorem State.markWanted_only {my : May} {z0 : State} (s : State) (wanted : List (Int × Int)) (hs : Only my z0 s)
    (hf_map : Field.map ∈ my.fields := by assumption) : Only my z0 (State.markWanted s wanted) := by
  simp +contextual (maxDischargeDepth := 99) [State.markWanted, hs, hf_map]

@[simp] theorem State.mapSlots_only {my : May} {z0 : State} (s : State) (boxes : Option (List (Int × Int × Int × Int))) (vrp
    : Int × Int) (hs : Only my z0 s) (hf_regs : Field.regs ∈ my.fields := by assumption) (hf_freeIdx : Field.freeIdx ∈
    my.fields := by assumption) (hf_yew : Field.yew ∈ my.fields := by assumption) (hf_hq : Field.hq ∈ my.fields := by
    assumption) (hf_hirqLow : Field.hirqLow ∈ my.fields := by assumption) (hf_map : Field.map ∈ my.fields := by assumption)
    (hf_ports : Field.ports ∈ my.fields := by assumption) (hf_ring : Field.ring ∈ my.fields := by assumption) (hp_4 : 4 ∈
    my.pages := by assumption) (hp_6 : 6 ∈ my.pages := by assumption) (hp_25 : 25 ∈ my.pages := by assumption) : Only my z0
    (State.mapSlots s boxes vrp) := by
  unfold State.mapSlots
  dsimp only
  (repeat' split) <;> simp +contextual (maxDischargeDepth := 99) [hs, hf_regs, hf_freeIdx, hf_yew, hf_hq, hf_hirqLow,
                          hf_map, hf_ports, hf_ring, hp_4, hp_6, hp_25]

@[simp] theorem State.mapDemand_only {my : May} {z0 : State} (s : State) (boxes : Option (List (Int × Int × Int × Int)))
    (vrp : Int × Int) (hs : Only my z0 s) (hf_regs : Field.regs ∈ my.fields := by assumption) (hf_freeIdx : Field.freeIdx ∈
    my.fields := by assumption) (hf_yew : Field.yew ∈ my.fields := by assumption) (hf_hq : Field.hq ∈ my.fields := by
    assumption) (hf_hirqLow : Field.hirqLow ∈ my.fields := by assumption) (hf_map : Field.map ∈ my.fields := by assumption)
    (hf_ports : Field.ports ∈ my.fields := by assumption) (hf_ring : Field.ring ∈ my.fields := by assumption) (hp_4 : 4 ∈
    my.pages := by assumption) (hp_6 : 6 ∈ my.pages := by assumption) (hp_25 : 25 ∈ my.pages := by assumption) : Only my z0
    (State.mapDemand s boxes vrp) := by
  unfold State.mapDemand
  dsimp only
  (repeat' split) <;> simp +contextual (maxDischargeDepth := 99) [hs, hf_regs, hf_freeIdx, hf_yew, hf_hq, hf_hirqLow,
                          hf_map, hf_ports, hf_ring, hp_4, hp_6, hp_25]

@[simp] theorem State.publishWindow_only {my : May} {z0 : State} (s : State) (hs : Only my z0 s) (hf_regs : Field.regs ∈
    my.fields := by assumption) (hp_25 : 25 ∈ my.pages := by assumption) : Only my z0 (State.publishWindow s) := by
  simp +contextual (maxDischargeDepth := 99) [State.publishWindow, hs, hf_regs, hp_25]

@[simp] theorem State.publishReads_only {my : May} {z0 : State} (s : State) (hs : Only my z0 s) (hf_regs : Field.regs ∈
    my.fields := by assumption) (hp_25 : 25 ∈ my.pages := by assumption) : Only my z0 (State.publishReads s) := by
  simp +contextual (maxDischargeDepth := 99) [State.publishReads, hs, hf_regs, hp_25]

@[simp] theorem State.lineUp_only {my : May} {z0 : State} (s : State) (node : Nat) (k : Stroke) (hs : Only my z0 s) (hf_map
    : Field.map ∈ my.fields := by assumption) : Only my z0 (State.lineUp s node k).2 := by
  unfold State.lineUp
  dsimp only
  (repeat' split) <;> simp +contextual (maxDischargeDepth := 99) [hs, hf_map]

@[simp] theorem State.paintSlot_only {my : May} {z0 : State} (s : State) (i : Nat) (b : Nat) (ms : List (Nat × Nat)) (hs :
    Only my z0 s) (hf_map : Field.map ∈ my.fields := by assumption) : Only my z0 (State.paintSlot s i b ms) := by
  simp +contextual (maxDischargeDepth := 99) [State.paintSlot, hs, hf_map]

@[simp] theorem State.partLost_only {my : May} {z0 : State} (s : State) (p : Spill) (hs : Only my z0 s) (hf_regs :
    Field.regs ∈ my.fields := by assumption) (hf_yew : Field.yew ∈ my.fields := by assumption) (hf_hirqLow : Field.hirqLow ∈
    my.fields := by assumption) (hp_6 : 6 ∈ my.pages := by assumption) (hp_25 : 25 ∈ my.pages := by assumption) : Only my z0
    (State.partLost s p) := by
  simp +contextual (maxDischargeDepth := 99) [State.partLost, hs, hf_regs, hf_yew, hf_hirqLow, hp_6, hp_25]

@[simp] theorem State.spillLost_only {my : May} {z0 : State} (s : State) (p : Spill) (hs : Only my z0 s) (hf_regs :
    Field.regs ∈ my.fields := by assumption) (hf_yew : Field.yew ∈ my.fields := by assumption) (hf_hirqLow : Field.hirqLow ∈
    my.fields := by assumption) (hp_6 : 6 ∈ my.pages := by assumption) (hp_25 : 25 ∈ my.pages := by assumption) : Only my z0
    (State.spillLost s p) := by
  simp +contextual (maxDischargeDepth := 99) [State.spillLost, hs, hf_regs, hf_yew, hf_hirqLow, hp_6, hp_25]

@[simp] theorem State.spillWait_only {my : May} {z0 : State} (s : State) (p : Spill) (hs : Only my z0 s) (hf_regs :
    Field.regs ∈ my.fields := by assumption) (hf_yew : Field.yew ∈ my.fields := by assumption) (hf_hirqLow : Field.hirqLow ∈
    my.fields := by assumption) (hf_map : Field.map ∈ my.fields := by assumption) (hp_6 : 6 ∈ my.pages := by assumption)
    (hp_25 : 25 ∈ my.pages := by assumption) : Only my z0 (State.spillWait s p) := by
  simp +contextual (maxDischargeDepth := 99) [State.spillWait, hs, hf_regs, hf_yew, hf_hirqLow, hf_map, hp_6, hp_25]

@[simp] theorem State.spill_only {my : May} {z0 : State} (s : State) (p : Spill) (hs : Only my z0 s) (hf_regs : Field.regs ∈
    my.fields := by assumption) (hf_yew : Field.yew ∈ my.fields := by assumption) (hf_hq : Field.hq ∈ my.fields := by
    assumption) (hf_hirqLow : Field.hirqLow ∈ my.fields := by assumption) (hf_map : Field.map ∈ my.fields := by assumption)
    (hf_ports : Field.ports ∈ my.fields := by assumption) (hf_ring : Field.ring ∈ my.fields := by assumption) (hp_4 : 4 ∈
    my.pages := by assumption) (hp_6 : 6 ∈ my.pages := by assumption) (hp_25 : 25 ∈ my.pages := by assumption) : Only my z0
    (State.spill s p) := by
  unfold State.spill
  dsimp only
  (repeat' split) <;> first
      | (simp +contextual (maxDischargeDepth := 99) [hs, hf_regs, hf_yew, hf_hq, hf_hirqLow, hf_map, hf_ports, hf_ring, hp_4, hp_6, hp_25]; done)
      | (rename_i e; have e' := congrArg (fun p => Only my z0 (Prod.snd p)) e; simp +contextual (maxDischargeDepth := 99) [hs, hf_regs, hf_yew, hf_hq, hf_hirqLow, hf_map, hf_ports, hf_ring, hp_4, hp_6, hp_25] at e'; simp +contextual (maxDischargeDepth := 99) [hs, hf_regs, hf_yew, hf_hq, hf_hirqLow, hf_map, hf_ports, hf_ring, hp_4, hp_6, hp_25, e']; done)

@[simp] theorem State.paintTile_only {my : May} {z0 : State} (s : State) (l : LinedStroke) (k : Stroke) (sp : List Spill) (t
    : Int × Int) (hs : Only my z0 s) (hf_freeIdx : Field.freeIdx ∈ my.fields := by assumption) (hf_map : Field.map ∈
    my.fields := by assumption) : Only my z0 (State.paintTile s l k sp t).2 := by
  unfold State.paintTile
  dsimp only
  (repeat' split) <;> simp +contextual (maxDischargeDepth := 99) [hs, hf_freeIdx, hf_map]

@[simp] theorem State.paintOwn_only {my : May} {z0 : State} (s : State) (k : Stroke) (sp : List Spill) (hs : Only my z0 s)
    (hf_freeIdx : Field.freeIdx ∈ my.fields := by assumption) (hf_map : Field.map ∈ my.fields := by assumption) :
    Only my z0 (s.paintOwn k sp).2 := by
  unfold State.paintOwn
  have q := State.lineUp_only s s.ring.nodeId.toNat k hs
  revert q
  rcases s.lineUp s.ring.nodeId.toNat k with ⟨l, u⟩
  intro q
  exact foldl_snd_only _ _ _ q (fun w t hw => State.paintTile_only w.2 l k w.1 t hw)

@[simp] theorem State.paintRx_only {my : May} {z0 : State} (s : State) (r : RxPart) (sp : List Spill) (hs : Only my z0 s)
    (hf_map : Field.map ∈ my.fields := by assumption) : Only my z0 (State.paintRx s r sp).2 := by
  unfold State.paintRx
  dsimp only
  (repeat' split) <;> simp +contextual (maxDischargeDepth := 99) [hs, hf_map]

@[simp] theorem State.paintPhase_only {my : May} {z0 : State} (s : State) (hs : Only my z0 s) (hf_regs : Field.regs ∈
    my.fields := by assumption) (hf_freeIdx : Field.freeIdx ∈ my.fields := by assumption) (hf_yew : Field.yew ∈ my.fields :=
    by assumption) (hf_hq : Field.hq ∈ my.fields := by assumption) (hf_hirqLow : Field.hirqLow ∈ my.fields := by assumption)
    (hf_map : Field.map ∈ my.fields := by assumption) (hf_ports : Field.ports ∈ my.fields := by assumption) (hf_ring :
    Field.ring ∈ my.fields := by assumption) (hp_4 : 4 ∈ my.pages := by assumption) (hp_6 : 6 ∈ my.pages := by assumption)
    (hp_25 : 25 ∈ my.pages := by assumption) : Only my z0 s.paintPhase := by
  unfold State.paintPhase
  dsimp only
  split
  · simp +contextual (maxDischargeDepth := 99) [hs, hf_regs, hf_freeIdx, hf_yew, hf_hq, hf_hirqLow, hf_map, hf_ports,
      hf_ring, hp_4, hp_6, hp_25]
  · refine foldl_only _ _ (foldl_snd_only _ _ _ (foldl_snd_only _ _ _ ?_ ?_) ?_) (fun w x hw => State.spill_only w x hw)
    · simp +contextual (maxDischargeDepth := 99) [hs, hf_regs, hf_freeIdx, hf_yew, hf_hq, hf_hirqLow, hf_map, hf_ports,
        hf_ring, hp_4, hp_6, hp_25]
    · intro w x hw
      exact State.paintOwn_only _ _ _ hw
    · intro w x hw
      exact State.paintRx_only _ _ _ hw

@[simp] theorem State.tagStroke_only {my : May} {z0 : State} (s : State) (node : Nat) (k : Stroke) (hs : Only my z0 s)
    (hf_regs : Field.regs ∈ my.fields := by assumption) (hf_map : Field.map ∈ my.fields := by assumption) (hp_25 : 25 ∈
    my.pages := by assumption) : Only my z0 (State.tagStroke s node k) := by
  simp +contextual (maxDischargeDepth := 99) [State.tagStroke, hs, hf_regs, hf_map, hp_25]

@[simp] theorem State.admitStrokes_only {my : May} {z0 : State} (s : State) (d : List Byte) (rsync : Bool) (hs : Only my z0
    s) (hf_regs : Field.regs ∈ my.fields := by assumption) (hf_hirqLow : Field.hirqLow ∈ my.fields := by assumption) (hf_map
    : Field.map ∈ my.fields := by assumption) (hp_25 : 25 ∈ my.pages := by assumption) : Only my z0 (State.admitStrokes s d
    rsync) := by
  unfold State.admitStrokes
  dsimp only
  (repeat' split) <;> simp +contextual (maxDischargeDepth := 99) [hs, hf_regs, hf_hirqLow, hf_map, hp_25]

@[simp] theorem State.startFlush_only {my : May} {z0 : State} (s : State) (hs : Only my z0 s) (hf_regs : Field.regs ∈
    my.fields := by assumption) (hf_freeIdx : Field.freeIdx ∈ my.fields := by assumption) (hf_yew : Field.yew ∈ my.fields :=
    by assumption) (hf_hq : Field.hq ∈ my.fields := by assumption) (hf_hirqLow : Field.hirqLow ∈ my.fields := by assumption)
    (hf_map : Field.map ∈ my.fields := by assumption) (hf_ports : Field.ports ∈ my.fields := by assumption) (hf_ring :
    Field.ring ∈ my.fields := by assumption) (hp_4 : 4 ∈ my.pages := by assumption) (hp_6 : 6 ∈ my.pages := by assumption)
    (hp_25 : 25 ∈ my.pages := by assumption) : Only my z0 (State.startFlush s) := by
  simp +contextual (maxDischargeDepth := 99) [State.startFlush, hs, hf_regs, hf_freeIdx, hf_yew, hf_hq, hf_hirqLow, hf_map,
      hf_ports, hf_ring, hp_4, hp_6, hp_25]

@[simp] theorem State.winFlush_only {my : May} {z0 : State} (s : State) (hs : Only my z0 s) (hf_regs : Field.regs ∈
    my.fields := by assumption) (hf_freeIdx : Field.freeIdx ∈ my.fields := by assumption) (hf_yew : Field.yew ∈ my.fields :=
    by assumption) (hf_hq : Field.hq ∈ my.fields := by assumption) (hf_hirqLow : Field.hirqLow ∈ my.fields := by assumption)
    (hf_map : Field.map ∈ my.fields := by assumption) (hf_ports : Field.ports ∈ my.fields := by assumption) (hf_ring :
    Field.ring ∈ my.fields := by assumption) (hp_4 : 4 ∈ my.pages := by assumption) (hp_6 : 6 ∈ my.pages := by assumption)
    (hp_25 : 25 ∈ my.pages := by assumption) : Only my z0 (State.winFlush s) := by
  simp +contextual (maxDischargeDepth := 99) [State.winFlush, hs, hf_regs, hf_freeIdx, hf_yew, hf_hq, hf_hirqLow, hf_map,
      hf_ports, hf_ring, hp_4, hp_6, hp_25]

@[simp] theorem State.advJob_only {my : May} {z0 : State} (s : State) (hs : Only my z0 s) (hf_regs : Field.regs ∈ my.fields
    := by assumption) (hp_25 : 25 ∈ my.pages := by assumption) : Only my z0 (State.advJob s) := by
  simp +contextual (maxDischargeDepth := 99) [State.advJob, hs, hf_regs, hp_25]

@[simp] theorem State.modPose_only {my : May} {z0 : State} (s : State) (f : PoseState → PoseState) (hs : Only my z0 s)
    (hf_pose : Field.pose ∈ my.fields := by assumption) : Only my z0 (State.modPose s f) := by
  simp +contextual (maxDischargeDepth := 99) [State.modPose, hs, hf_pose]

@[simp] theorem State.modImu_only {my : May} {z0 : State} (s : State) (f : ImuState → ImuState) (hs : Only my z0 s) (hf_imu
    : Field.imu ∈ my.fields := by assumption) : Only my z0 (State.modImu s f) := by
  simp +contextual (maxDischargeDepth := 99) [State.modImu, hs, hf_imu]

@[simp] theorem State.freeInt_only {my : May} {z0 : State} (s : State) (n : Nat) (hs : Only my z0 s) (hf_freeIdx :
    Field.freeIdx ∈ my.fields := by assumption) : Only my z0 (State.freeInt s n).2 := by
  simp +contextual (maxDischargeDepth := 99) [State.freeInt, hs, hf_freeIdx]

@[simp] theorem State.freeNat_only {my : May} {z0 : State} (s : State) (n : Nat) (hs : Only my z0 s) (hf_freeIdx :
    Field.freeIdx ∈ my.fields := by assumption) : Only my z0 (State.freeNat s n).2 := by
  simp +contextual (maxDischargeDepth := 99) [State.freeNat, hs, hf_freeIdx]

@[simp] theorem State.disagree_only {my : May} {z0 : State} (s : State) (f : Nat) (hs : Only my z0 s) (hf_regs : Field.regs
    ∈ my.fields := by assumption) (hf_freeIdx : Field.freeIdx ∈ my.fields := by assumption) (hf_yew : Field.yew ∈ my.fields
    := by assumption) (hf_hirqLow : Field.hirqLow ∈ my.fields := by assumption) (hf_laurel : Field.laurel ∈ my.fields := by
    assumption) (hp_3 : 3 ∈ my.pages := by assumption) (hp_6 : 6 ∈ my.pages := by assumption) : Only my z0 (State.disagree s
    f) := by
  simp +contextual (maxDischargeDepth := 99) [State.disagree, hs, hf_regs, hf_freeIdx, hf_yew, hf_hirqLow, hf_laurel, hp_3,
      hp_6]

@[simp] theorem State.comparePose_only {my : May} {z0 : State} (s : State) (peer : Word) (hs : Only my z0 s) (hf_regs :
    Field.regs ∈ my.fields := by assumption) (hf_freeIdx : Field.freeIdx ∈ my.fields := by assumption) (hf_yew : Field.yew ∈
    my.fields := by assumption) (hf_hirqLow : Field.hirqLow ∈ my.fields := by assumption) (hf_laurel : Field.laurel ∈
    my.fields := by assumption) (hp_3 : 3 ∈ my.pages := by assumption) (hp_6 : 6 ∈ my.pages := by assumption) : Only my z0
    (State.comparePose s peer) := by
  simp +contextual (maxDischargeDepth := 99) [State.comparePose, hs, hf_regs, hf_freeIdx, hf_yew, hf_hirqLow, hf_laurel,
      hp_3, hp_6]

@[simp] theorem State.takeWord_only {my : May} {z0 : State} (s : State) (w : PoseWord) (hs : Only my z0 s) (hf_regs :
    Field.regs ∈ my.fields := by assumption) (hf_spdRun : Field.spdRun ∈ my.fields := by assumption) (hf_qualLow :
    Field.qualLow ∈ my.fields := by assumption) (hf_pose : Field.pose ∈ my.fields := by assumption) (hp_20 : 20 ∈ my.pages
    := by assumption) : Only my z0 (State.takeWord s w) := by
  simp +contextual (maxDischargeDepth := 99) [State.takeWord, hs, hf_regs, hf_spdRun, hf_qualLow, hf_pose, hp_20]

@[simp] theorem State.gsUpdate_only {my : May} {z0 : State} (s : State) (tk : Time) (hs : Only my z0 s) (hf_regs :
    Field.regs ∈ my.fields := by assumption) (hf_pose : Field.pose ∈ my.fields := by assumption) (hp_21 : 21 ∈ my.pages :=
    by assumption) : Only my z0 (State.gsUpdate s tk) := by
  simp +contextual (maxDischargeDepth := 99) [State.gsUpdate, hs, hf_regs, hf_pose, hp_21]

@[simp] theorem State.followDis_only {my : May} {z0 : State} (s : State) (tk : Time) (hs : Only my z0 s) (hf_pose :
    Field.pose ∈ my.fields := by assumption) : Only my z0 (State.followDis s tk) := by
  simp +contextual (maxDischargeDepth := 99) [State.followDis, hs, hf_pose]

@[simp] theorem State.headStep_only {my : May} {z0 : State} (s : State) (ready : List Solution) (hs : Only my z0 s)
    (hf_freeIdx : Field.freeIdx ∈ my.fields := by assumption) (hf_pose : Field.pose ∈ my.fields := by assumption) : Only my
    z0 (State.headStep s ready).2.2 := by
  unfold State.headStep
  dsimp only
  (repeat' split) <;> simp +contextual (maxDischargeDepth := 99) [hs, hf_freeIdx, hf_pose]

@[simp] theorem State.gnssStep_only {my : May} {z0 : State} (s : State) (tk : Time) (hs : Only my z0 s) (hf_regs :
    Field.regs ∈ my.fields := by assumption) (hf_pose : Field.pose ∈ my.fields := by assumption) (hp_21 : 21 ∈ my.pages :=
    by assumption) : Only my z0 (State.gnssStep s tk) := by
  simp +contextual (maxDischargeDepth := 99) [State.gnssStep, hs, hf_regs, hf_pose, hp_21]

@[simp] theorem State.speedStep_only {my : May} {z0 : State} (s : State) (tk : Time) (accel : Int) (hs : Only my z0 s)
    (hf_regs : Field.regs ∈ my.fields := by assumption) (hf_freeIdx : Field.freeIdx ∈ my.fields := by assumption)
    (hf_hirqLow : Field.hirqLow ∈ my.fields := by assumption) (hf_pose : Field.pose ∈ my.fields := by assumption) (hp_20 :
    20 ∈ my.pages := by assumption) : Only my z0 (State.speedStep s tk accel).2.2.2 := by
  unfold State.speedStep
  dsimp only
  (repeat' split) <;> simp +contextual (maxDischargeDepth := 99) [hs, hf_regs, hf_freeIdx, hf_hirqLow, hf_pose, hp_20]

@[simp] theorem State.applySol_only {my : May} {z0 : State} (s : State) (stamp tk : Time) (x : Solution) (hs : Only my z0 s)
    (hf_regs : Field.regs ∈ my.fields := by assumption) (hf_yew : Field.yew ∈ my.fields := by assumption) (hf_hirqLow :
    Field.hirqLow ∈ my.fields := by assumption) (hf_pose : Field.pose ∈ my.fields := by assumption) (hp_6 : 6 ∈ my.pages :=
    by assumption) (hp_20 : 20 ∈ my.pages := by assumption) : Only my z0 (State.applySol s stamp tk x) := by
  simp +contextual (maxDischargeDepth := 99) [State.applySol, hs, hf_regs, hf_yew, hf_hirqLow, hf_pose, hp_6, hp_20]

@[simp] theorem State.slewStep_only {my : May} {z0 : State} (s : State) (hs : Only my z0 s) (hf_pose : Field.pose ∈
    my.fields := by assumption) : Only my z0 (State.slewStep s) := by
  unfold State.slewStep
  dsimp only
  (repeat' split) <;> simp +contextual (maxDischargeDepth := 99) [hs, hf_pose]

@[simp] theorem State.coastStep_only {my : May} {z0 : State} (s : State) (hs : Only my z0 s) (hf_pose : Field.pose ∈
    my.fields := by assumption) : Only my z0 (State.coastStep s) := by
  simp +contextual (maxDischargeDepth := 99) [State.coastStep, hs, hf_pose]

@[simp] theorem State.irate_only {my : May} {z0 : State} (s : State) (uy : Int) (hs : Only my z0 s) (hf_freeIdx :
    Field.freeIdx ∈ my.fields := by assumption) : Only my z0 (State.irate s uy).2 := by
  unfold State.irate
  dsimp only
  (repeat' split) <;> simp +contextual (maxDischargeDepth := 99) [hs, hf_freeIdx]

@[simp] theorem State.hitchSense_only {my : May} {z0 : State} (s : State) (codes : List (BitVec 12)) (hs : Only my z0 s)
    (hf_regs : Field.regs ∈ my.fields := by assumption) (hf_hirqLow : Field.hirqLow ∈ my.fields := by assumption) (hf_pose :
    Field.pose ∈ my.fields := by assumption) (hp_20 : 20 ∈ my.pages := by assumption) : Only my z0 (State.hitchSense s
    codes) := by
  simp +contextual (maxDischargeDepth := 99) [State.hitchSense, hs, hf_regs, hf_hirqLow, hf_pose, hp_20]

@[simp] theorem State.hitchFromSensor_only {my : May} {z0 : State} (s : State) (h psiS : Nat) (v w hx : Int) (hs : Only my
    z0 s) (hf_pose : Field.pose ∈ my.fields := by assumption) : Only my z0 (State.hitchFromSensor s h psiS v w hx).2 := by
  simp +contextual (maxDischargeDepth := 99) [State.hitchFromSensor, hs, hf_pose]

@[simp] theorem State.hitchFromModel_only {my : May} {z0 : State} (s : State) (h : Nat) (v w hx : Int) (hs : Only my z0 s)
    (hf_freeIdx : Field.freeIdx ∈ my.fields := by assumption) (hf_pose : Field.pose ∈ my.fields := by assumption) : Only my
    z0 (State.hitchFromModel s h v w hx).2 := by
  simp +contextual (maxDischargeDepth := 99) [State.hitchFromModel, hs, hf_freeIdx, hf_pose]

@[simp] theorem State.hitchBoth_only {my : May} {z0 : State} (s : State) (ok : Bool) (h psiS : Nat) (v w hx : Int) (tk :
    Time) (hs : Only my z0 s) (hf_freeIdx : Field.freeIdx ∈ my.fields := by assumption) (hf_pose : Field.pose ∈ my.fields :=
    by assumption) : Only my z0 (State.hitchBoth s ok h psiS v w hx tk).2 := by
  unfold State.hitchBoth
  dsimp only
  (repeat' split) <;> simp +contextual (maxDischargeDepth := 99) [hs, hf_freeIdx, hf_pose]

@[simp] theorem State.hitchStep_only {my : May} {z0 : State} (s : State) (codes : List (BitVec 12)) (h : Nat) (v w : Int)
    (tk : Time) (hs : Only my z0 s) (hf_freeIdx : Field.freeIdx ∈ my.fields := by assumption) (hf_pose : Field.pose ∈
    my.fields := by assumption) : Only my z0 (State.hitchStep s codes h v w tk).2.2 := by
  unfold State.hitchStep
  dsimp only
  (repeat' split) <;> simp +contextual (maxDischargeDepth := 99) [hs, hf_freeIdx, hf_pose]

@[simp] theorem State.gsoutStep_only {my : May} {z0 : State} (s : State) (hs : Only my z0 s) (hf_regs : Field.regs ∈
    my.fields := by assumption) (hf_freeIdx : Field.freeIdx ∈ my.fields := by assumption) (hf_pose : Field.pose ∈ my.fields
    := by assumption) (hp_21 : 21 ∈ my.pages := by assumption) : Only my z0 (State.gsoutStep s) := by
  unfold State.gsoutStep
  dsimp only
  (repeat' split) <;> simp +contextual (maxDischargeDepth := 99) [hs, hf_regs, hf_freeIdx, hf_pose, hp_21]

@[simp] theorem State.freeIf_only {my : May} {z0 : State} (s : State) (c : Bool) (n : Nat) (hs : Only my z0 s) (hf_freeIdx :
    Field.freeIdx ∈ my.fields := by assumption) : Only my z0 (State.freeIf s c n).2 := by
  unfold State.freeIf
  (repeat' split) <;> simp_all +contextual (maxDischargeDepth := 99)

@[simp] theorem State.freeNatIf_only {my : May} {z0 : State} (s : State) (c : Bool) (n d : Nat) (hs : Only my z0 s)
    (hf_freeIdx : Field.freeIdx ∈ my.fields := by assumption) : Only my z0 (State.freeNatIf s c n d).2 := by
  unfold State.freeNatIf
  (repeat' split) <;> simp_all +contextual (maxDischargeDepth := 99)

@[simp] theorem State.takeSols_only {my : May} {z0 : State} (s : State) (tk : Time) (ready : List (Time × Solution)) (hs :
    Only my z0 s) (hf_pose : Field.pose ∈ my.fields := by assumption) : Only my z0 (State.takeSols s tk ready) := by
  simp +contextual (maxDischargeDepth := 99) [State.takeSols, hs, hf_pose]

@[simp] theorem State.formMotion_only {my : May} {z0 : State} (s : State) (tk : Time) (ready : List (Time × Solution)) (free
    : Bool) (hs : Only my z0 s) (hf_regs : Field.regs ∈ my.fields := by assumption) (hf_freeIdx : Field.freeIdx ∈ my.fields
    := by assumption) (hf_hirqLow : Field.hirqLow ∈ my.fields := by assumption) (hf_pose : Field.pose ∈ my.fields := by
    assumption) (hp_20 : 20 ∈ my.pages := by assumption) (hp_21 : 21 ∈ my.pages := by assumption) : Only my z0
    (State.formMotion s tk ready free).2 := by
  simp +contextual (maxDischargeDepth := 99) [State.formMotion, hs, hf_regs, hf_freeIdx, hf_hirqLow, hf_pose, hp_20, hp_21]

@[simp] theorem State.formPos_only {my : May} {z0 : State} (s : State) (tk : Time) (ready : List (Time × Solution)) (hs :
    Only my z0 s) (hf_regs : Field.regs ∈ my.fields := by assumption) (hf_freeIdx : Field.freeIdx ∈ my.fields := by
    assumption) (hf_yew : Field.yew ∈ my.fields := by assumption) (hf_hirqLow : Field.hirqLow ∈ my.fields := by assumption)
    (hf_pose : Field.pose ∈ my.fields := by assumption) (hp_6 : 6 ∈ my.pages := by assumption) (hp_20 : 20 ∈ my.pages := by
    assumption) : Only my z0 (State.formPos s tk ready) := by
  simp +contextual (maxDischargeDepth := 99) [State.formPos, hs, hf_regs, hf_freeIdx, hf_yew, hf_hirqLow, hf_pose, hp_6,
      hp_20]

@[simp] theorem State.formHitch_only {my : May} {z0 : State} (s : State) (line : Bool) (codes : List (BitVec 12)) (hd : Nat)
    (v : Int) (tk : Time) (hs : Only my z0 s) (hf_freeIdx : Field.freeIdx ∈ my.fields := by assumption) (hf_pose :
    Field.pose ∈ my.fields := by assumption) : Only my z0 (State.formHitch s line codes hd v tk).2.2 := by
  unfold State.formHitch
  (repeat' split) <;> simp_all +contextual (maxDischargeDepth := 99)

@[simp] theorem State.formWord_only {my : May} {z0 : State} (s : State) (k : Nat) (codes : List (BitVec 12)) (hs : Only my
    z0 s) (hf_regs : Field.regs ∈ my.fields := by assumption) (hf_freeIdx : Field.freeIdx ∈ my.fields := by assumption)
    (hf_spdRun : Field.spdRun ∈ my.fields := by assumption) (hf_qualLow : Field.qualLow ∈ my.fields := by assumption)
    (hf_yew : Field.yew ∈ my.fields := by assumption) (hf_hirqLow : Field.hirqLow ∈ my.fields := by assumption) (hf_pose :
    Field.pose ∈ my.fields := by assumption) (hp_6 : 6 ∈ my.pages := by assumption) (hp_20 : 20 ∈ my.pages := by assumption)
    (hp_21 : 21 ∈ my.pages := by assumption) : Only my z0 (State.formWord s k codes) := by
  unfold State.formWord
  dsimp only
  (repeat' split) <;> simp +contextual (maxDischargeDepth := 99) [hs, hf_regs, hf_freeIdx, hf_spdRun, hf_qualLow, hf_yew,
                          hf_hirqLow, hf_pose, hp_6, hp_20, hp_21]

@[simp] theorem State.ringInputs_only {my : May} {z0 : State} (s : State) (tk : Time) (hitch : List (BitVec 12)) (hs : Only
    my z0 s) (hf_regs : Field.regs ∈ my.fields := by assumption) (hf_hirqLow : Field.hirqLow ∈ my.fields := by assumption)
    (hf_pose : Field.pose ∈ my.fields := by assumption) (hp_20 : 20 ∈ my.pages := by assumption) (hp_21 : 21 ∈ my.pages :=
    by assumption) : Only my z0 (State.ringInputs s tk hitch) := by
  simp +contextual (maxDischargeDepth := 99) [State.ringInputs, hs, hf_regs, hf_hirqLow, hf_pose, hp_20, hp_21]

@[simp] theorem State.followRing_only {my : May} {z0 : State} (s : State) (w : PoseWord) (hs : Only my z0 s) (hf_freeIdx :
    Field.freeIdx ∈ my.fields := by assumption) (hf_pose : Field.pose ∈ my.fields := by assumption) : Only my z0
    (State.followRing s w) := by
  unfold State.followRing
  dsimp only
  (repeat' split) <;> simp +contextual (maxDischargeDepth := 99) [hs, hf_freeIdx, hf_pose]

@[simp] theorem State.ringPose_only {my : May} {z0 : State} (s : State) (d : List Byte) (hs : Only my z0 s) (hf_regs :
    Field.regs ∈ my.fields := by assumption) (hf_freeIdx : Field.freeIdx ∈ my.fields := by assumption) (hf_spdRun :
    Field.spdRun ∈ my.fields := by assumption) (hf_qualLow : Field.qualLow ∈ my.fields := by assumption) (hf_pose :
    Field.pose ∈ my.fields := by assumption) (hp_20 : 20 ∈ my.pages := by assumption) (hp_21 : 21 ∈ my.pages := by
    assumption) : Only my z0 (State.ringPose s d) := by
  simp +contextual (maxDischargeDepth := 99) [State.ringPose, hs, hf_regs, hf_freeIdx, hf_spdRun, hf_qualLow, hf_pose,
      hp_20, hp_21]

@[simp] theorem State.imuAxis_only {my : May} {z0 : State} (s : State) (nib : Nat) (v : Nat → Int) (hs : Only my z0 s)
    (hf_freeIdx : Field.freeIdx ∈ my.fields := by assumption) : Only my z0 (State.imuAxis s nib v).2 := by
  unfold State.imuAxis
  dsimp only
  (repeat' split) <;> simp +contextual (maxDischargeDepth := 99) [hs, hf_freeIdx]

@[simp] theorem State.imuThree_only {my : May} {z0 : State} (s : State) (bytes : List Byte) (ofs k : Nat) (hs : Only my z0
    s) (hf_freeIdx : Field.freeIdx ∈ my.fields := by assumption) : Only my z0 (State.imuThree s bytes ofs k).2 := by
  unfold State.imuThree
  dsimp only
  (repeat' split) <;> simp +contextual (maxDischargeDepth := 99) [hs, hf_freeIdx]

@[simp] theorem State.imuEnable_only {my : May} {z0 : State} (s : State) (on : Bool) (hs : Only my z0 s) (hf_regs :
    Field.regs ∈ my.fields := by assumption) (hf_imu : Field.imu ∈ my.fields := by assumption) (hp_19 : 19 ∈ my.pages := by
    assumption) : Only my z0 (State.imuEnable s on) := by
  simp +contextual (maxDischargeDepth := 99) [State.imuEnable, hs, hf_regs, hf_imu, hp_19]

@[simp] theorem State.setRev_only {my : May} {z0 : State} (s : State) (hs : Only my z0 s) (hf_regs : Field.regs ∈ my.fields
    := by assumption) (hp_26 : 26 ∈ my.pages := by assumption) : Only my z0 (State.setRev s) := by
  have r0 : my.reg (GEOM.GEOM_REV 0) := reg_lit (of_decide_eq_true rfl) hp_26 (of_decide_eq_true rfl)
  have r1 : my.reg (GEOM.GEOM_REV 1) := reg_lit (of_decide_eq_true rfl) hp_26 (of_decide_eq_true rfl)
  have r2 : my.reg (GEOM.GEOM_REV 2) := reg_lit (of_decide_eq_true rfl) hp_26 (of_decide_eq_true rfl)
  have r3 : my.reg (GEOM.GEOM_REV 3) := reg_lit (of_decide_eq_true rfl) hp_26 (of_decide_eq_true rfl)
  unfold State.setRev
  rw [show List.range 4 = [0, 1, 2, 3] from rfl]
  simp only [List.foldl_cons, List.foldl_nil]
  simp +contextual (maxDischargeDepth := 99) [r0, r1, r2, r3, hs, hf_regs, hp_26]

@[simp] theorem State.sendTravel_only {my : May} {z0 : State} (s : State) (hs : Only my z0 s) (hf_regs : Field.regs ∈
    my.fields := by assumption) (hf_lanes : Field.lanes ∈ my.fields := by assumption) (hf_trav : Field.trav ∈ my.fields :=
    by assumption) (hall : ∀ n : LaneIx, n ∈ my.lanes := by assumption) : Only my z0 (State.sendTravel s) := by
  simp +contextual (maxDischargeDepth := 99) [State.sendTravel, hs, hf_regs, hf_lanes, hf_trav, hall]

@[simp] theorem State.zeroTravel_only {my : May} {z0 : State} (s : State) (hs : Only my z0 s) (hf_regs : Field.regs ∈
    my.fields := by assumption) (hf_trav : Field.trav ∈ my.fields := by assumption) (hp_26 : 26 ∈ my.pages := by assumption)
    : Only my z0 (State.zeroTravel s) := by
  simp +contextual (maxDischargeDepth := 99) [State.zeroTravel, hs, hf_regs, hf_trav, hp_26]

@[simp] theorem State.armTravel_only {my : May} {z0 : State} (s : State) (hs : Only my z0 s) (hf_regs : Field.regs ∈
    my.fields := by assumption) (hf_pose : Field.pose ∈ my.fields := by assumption) (hf_trav : Field.trav ∈ my.fields := by
    assumption) (hp_26 : 26 ∈ my.pages := by assumption) : Only my z0 (State.armTravel s) := by
  simp +contextual (maxDischargeDepth := 99) [State.armTravel, hs, hf_regs, hf_pose, hf_trav, hp_26]

@[simp] theorem State.modFpe_only {my : May} {z0 : State} (s : State) (f : FpeState → FpeState) (hs : Only my z0 s) (hf_fpe
    : Field.fpe ∈ my.fields := by assumption) : Only my z0 (State.modFpe s f) := by
  simp +contextual (maxDischargeDepth := 99) [State.modFpe, hs, hf_fpe]

@[simp] theorem State.modFo_only {my : May} {z0 : State} (s : State) (j : Nat) (f : OutFpe → OutFpe) (hs : Only my z0 s)
    (hf_fpe : Field.fpe ∈ my.fields := by assumption) : Only my z0 (State.modFo s j f) := by
  simp +contextual (maxDischargeDepth := 99) [State.modFo, hs, hf_fpe]

@[simp] theorem State.prepOut_only {my : May} {z0 : State} (s : State) (m : Nat) (j : Nat) (hs : Only my z0 s) (hf_regs :
    Field.regs ∈ my.fields := by assumption) (hf_freeIdx : Field.freeIdx ∈ my.fields := by assumption) (hf_yew : Field.yew ∈
    my.fields := by assumption) (hf_hirqLow : Field.hirqLow ∈ my.fields := by assumption) (hf_fpe : Field.fpe ∈ my.fields :=
    by assumption) (hp_6 : 6 ∈ my.pages := by assumption) (hp_24 : 24 ∈ my.pages := by assumption) : Only my z0
    (State.prepOut s m j) := by
  simp +contextual (maxDischargeDepth := 99) [State.prepOut, hs, hf_regs, hf_freeIdx, hf_yew, hf_hirqLow, hf_fpe, hp_6,
      hp_24]

@[simp] theorem State.prepare_only {my : May} {z0 : State} (s : State) (hs : Only my z0 s) (hf_regs : Field.regs ∈ my.fields
    := by assumption) (hf_freeIdx : Field.freeIdx ∈ my.fields := by assumption) (hf_yew : Field.yew ∈ my.fields := by
    assumption) (hf_hirqLow : Field.hirqLow ∈ my.fields := by assumption) (hf_fpe : Field.fpe ∈ my.fields := by assumption)
    (hp_6 : 6 ∈ my.pages := by assumption) (hp_24 : 24 ∈ my.pages := by assumption) : Only my z0 (State.prepare s) := by
  simp +contextual (maxDischargeDepth := 99) [State.prepare, hs, hf_regs, hf_freeIdx, hf_yew, hf_hirqLow, hf_fpe, hp_6,
      hp_24]

@[simp] theorem State.latchProd_only {my : May} {z0 : State} (s : State) (p : Fin 2) (ain : List Sample) (hs : Only my z0 s)
    (hf_regs : Field.regs ∈ my.fields := by assumption) (hf_freeIdx : Field.freeIdx ∈ my.fields := by assumption) (hf_eng :
    Field.eng ∈ my.fields := by assumption) (hf_fpe : Field.fpe ∈ my.fields := by assumption) (hp_27 : 27 ∈ my.pages := by
    assumption) (hall : ∀ n : LaneIx, n ∈ my.lanes := by assumption) : Only my z0 (State.latchProd s p ain) := by
  unfold State.latchProd
  dsimp only
  (repeat' split) <;> simp +contextual (maxDischargeDepth := 99) [hs, hf_regs, hf_freeIdx, hf_eng, hf_fpe, hp_27, hall]

@[simp] theorem State.swapTables_only {my : May} {z0 : State} (s : State) (hs : Only my z0 s) (hf_regs : Field.regs ∈
    my.fields := by assumption) (hf_fpe : Field.fpe ∈ my.fields := by assumption) (hp_27 : 27 ∈ my.pages := by assumption) :
    Only my z0 (State.swapTables s) := by
  simp +contextual (maxDischargeDepth := 99) [State.swapTables, hs, hf_regs, hf_fpe, hp_27]

@[simp] theorem State.readPoint_only {my : May} {z0 : State} (s : State) (c : Int × Int) (hs : Only my z0 s) (hf_regs :
    Field.regs ∈ my.fields := by assumption) (hf_yew : Field.yew ∈ my.fields := by assumption) (hf_hirqLow : Field.hirqLow ∈
    my.fields := by assumption) (hf_map : Field.map ∈ my.fields := by assumption) (hp_6 : 6 ∈ my.pages := by assumption)
    (hp_25 : 25 ∈ my.pages := by assumption) : Only my z0 (State.readPoint s c).2 := by
  unfold State.readPoint
  dsimp only
  (repeat' split) <;> simp +contextual (maxDischargeDepth := 99) [hs, hf_regs, hf_yew, hf_hirqLow, hf_map, hp_6, hp_25]

@[simp] theorem State.readLine_only {my : May} {z0 : State} (s : State) (cs : List (Int × Int)) (hs : Only my z0 s) (hf_regs
    : Field.regs ∈ my.fields := by assumption) (hf_yew : Field.yew ∈ my.fields := by assumption) (hf_hirqLow : Field.hirqLow
    ∈ my.fields := by assumption) (hf_map : Field.map ∈ my.fields := by assumption) (hp_6 : 6 ∈ my.pages := by assumption)
    (hp_25 : 25 ∈ my.pages := by assumption) : Only my z0 (State.readLine s cs).2 := by
  induction cs generalizing s with
  | nil => simp +contextual (maxDischargeDepth := 99) [State.readLine, hs, hf_regs, hf_yew, hf_hirqLow, hf_map, hp_6, hp_25]
  | cons a l ih =>
    unfold State.readLine
    try dsimp only
    (repeat' split) <;> first
        | (simp +contextual (maxDischargeDepth := 99) [hs, hf_regs, hf_yew, hf_hirqLow, hf_map, hp_6, hp_25]; done)
        | (apply ih; simp +contextual (maxDischargeDepth := 99) [hs, hf_regs, hf_yew, hf_hirqLow, hf_map, hp_6, hp_25]; done)
        | (simp +contextual (maxDischargeDepth := 99) [hs, hf_regs, hf_yew, hf_hirqLow, hf_map, hp_6, hp_25, ih, hf_regs, hf_yew, hf_hirqLow, hf_map, hp_6, hp_25]; done)
        | (simp +contextual (maxDischargeDepth := 99) [*]; done)
        | (rename_i e; have e' := congrArg (fun p => Only my z0 (Prod.snd p)) e; simp +contextual (maxDischargeDepth := 99) [hs, hf_regs, hf_yew, hf_hirqLow, hf_map, hp_6, hp_25, ih, hf_regs, hf_yew, hf_hirqLow, hf_map, hp_6, hp_25] at e'; first | (apply ih; simp +contextual (maxDischargeDepth := 99) [hs, hf_regs, hf_yew, hf_hirqLow, hf_map, hp_6, hp_25, e']; done) | (simp +contextual (maxDischargeDepth := 99) [hs, hf_regs, hf_yew, hf_hirqLow, hf_map, hp_6, hp_25, ih, e']; done))

@[simp] theorem State.sample_only {my : May} {z0 : State} (s : State) (pt : Path) (p : Prep) (a : Sampled) (x : Nat) (hs :
    Only my z0 s) (hf_regs : Field.regs ∈ my.fields := by assumption) (hf_freeIdx : Field.freeIdx ∈ my.fields := by
    assumption) (hf_yew : Field.yew ∈ my.fields := by assumption) (hf_hirqLow : Field.hirqLow ∈ my.fields := by assumption)
    (hf_map : Field.map ∈ my.fields := by assumption) (hp_6 : 6 ∈ my.pages := by assumption) (hp_25 : 25 ∈ my.pages := by
    assumption) : Only my z0 (State.sample s pt p a x).2 := by
  unfold State.sample
  dsimp only
  (repeat' split) <;> simp +contextual (maxDischargeDepth := 99) [hs, hf_regs, hf_freeIdx, hf_yew, hf_hirqLow, hf_map, hp_6,
                          hp_25]

@[simp] theorem State.sampleWindow_only {my : May} {z0 : State} (s : State) (p : Prep) (a b : Nat) (hs : Only my z0 s)
    (hf_regs : Field.regs ∈ my.fields := by assumption) (hf_freeIdx : Field.freeIdx ∈ my.fields := by assumption) (hf_yew :
    Field.yew ∈ my.fields := by assumption) (hf_hirqLow : Field.hirqLow ∈ my.fields := by assumption) (hf_map : Field.map ∈
    my.fields := by assumption) (hp_6 : 6 ∈ my.pages := by assumption) (hp_25 : 25 ∈ my.pages := by assumption) :
    Only my z0 (s.sampleWindow p a b).2 := by
  unfold State.sampleWindow
  exact foldl_snd_only _ _ _ hs (fun w x hw => State.sample_only _ _ _ _ _ hw)

@[simp] theorem State.sampleAll_only {my : May} {z0 : State} (s : State) (ps : List Prep) (hs : Only my z0 s) (hf_regs :
    Field.regs ∈ my.fields := by assumption) (hf_freeIdx : Field.freeIdx ∈ my.fields := by assumption) (hf_yew : Field.yew ∈
    my.fields := by assumption) (hf_hirqLow : Field.hirqLow ∈ my.fields := by assumption) (hf_map : Field.map ∈ my.fields :=
    by assumption) (hp_6 : 6 ∈ my.pages := by assumption) (hp_25 : 25 ∈ my.pages := by assumption) : Only my z0
    (State.sampleAll s ps).2 := by
  induction ps generalizing s with
  | nil => simp +contextual (maxDischargeDepth := 99) [State.sampleAll, hs, hf_regs, hf_freeIdx, hf_yew, hf_hirqLow, hf_map, hp_6, hp_25]
  | cons a l ih =>
    unfold State.sampleAll
    try dsimp only
    (repeat' split) <;> first
        | (simp +contextual (maxDischargeDepth := 99) [hs, hf_regs, hf_freeIdx, hf_yew, hf_hirqLow, hf_map, hp_6, hp_25]; done)
        | (apply ih; simp +contextual (maxDischargeDepth := 99) [hs, hf_regs, hf_freeIdx, hf_yew, hf_hirqLow, hf_map, hp_6, hp_25]; done)
        | (simp +contextual (maxDischargeDepth := 99) [hs, hf_regs, hf_freeIdx, hf_yew, hf_hirqLow, hf_map, hp_6, hp_25, ih, hf_regs, hf_freeIdx, hf_yew, hf_hirqLow, hf_map, hp_6, hp_25]; done)
        | (simp +contextual (maxDischargeDepth := 99) [*]; done)
        | (rename_i e; have e' := congrArg (fun p => Only my z0 (Prod.snd p)) e; simp +contextual (maxDischargeDepth := 99) [hs, hf_regs, hf_freeIdx, hf_yew, hf_hirqLow, hf_map, hp_6, hp_25, ih, hf_regs, hf_freeIdx, hf_yew, hf_hirqLow, hf_map, hp_6, hp_25] at e'; first | (apply ih; simp +contextual (maxDischargeDepth := 99) [hs, hf_regs, hf_freeIdx, hf_yew, hf_hirqLow, hf_map, hp_6, hp_25, e']; done) | (simp +contextual (maxDischargeDepth := 99) [hs, hf_regs, hf_freeIdx, hf_yew, hf_hirqLow, hf_map, hp_6, hp_25, ih, e']; done))

@[simp] theorem State.lowPressure_only {my : May} {z0 : State} (s : State) (p : Fin 2) (j : Nat) (hs : Only my z0 s)
    (hf_regs : Field.regs ∈ my.fields := by assumption) (hf_freeIdx : Field.freeIdx ∈ my.fields := by assumption) (hf_yew :
    Field.yew ∈ my.fields := by assumption) (hf_hirqLow : Field.hirqLow ∈ my.fields := by assumption) (hf_fpe : Field.fpe ∈
    my.fields := by assumption) (hp_6 : 6 ∈ my.pages := by assumption) (hp_24 : 24 ∈ my.pages := by assumption) (hp_27 : 27
    ∈ my.pages := by assumption) : Only my z0 (s.lowPressure p j).2 := by
  have e1 : EvtOk my (pLowEvt p) := by unfold pLowEvt; split <;> exact evt_lit (of_decide_eq_true rfl) hp_27 (of_decide_eq_true rfl)
  have e2 : my.reg (pLowStat p).addr := by unfold pLowStat; split <;> exact reg_lit (of_decide_eq_true rfl) hp_27 (of_decide_eq_true rfl)
  unfold State.lowPressure
  dsimp only
  (repeat' split) <;> simp +contextual (maxDischargeDepth := 99) [e1, e2, hs, hf_regs, hf_freeIdx, hf_yew, hf_hirqLow,
                          hf_fpe, hp_6, hp_24, hp_27]

@[simp] theorem State.dutyOf_only {my : May} {z0 : State} (s : State) (j q : Nat) (hs : Only my z0 s) (hf_regs : Field.regs
    ∈ my.fields := by assumption) (hf_freeIdx : Field.freeIdx ∈ my.fields := by assumption) (hf_yew : Field.yew ∈ my.fields
    := by assumption) (hf_hirqLow : Field.hirqLow ∈ my.fields := by assumption) (hf_fpe : Field.fpe ∈ my.fields := by
    assumption) (hp_6 : 6 ∈ my.pages := by assumption) (hp_24 : 24 ∈ my.pages := by assumption) (hp_27 : 27 ∈ my.pages := by
    assumption) : Only my z0 (State.dutyOf s j q).2 := by
  unfold State.dutyOf
  dsimp only
  (repeat' split) <;> simp +contextual (maxDischargeDepth := 99) [hs, hf_regs, hf_freeIdx, hf_yew, hf_hirqLow, hf_fpe, hp_6,
                          hp_24, hp_27]

@[simp] theorem State.valueOf_only {my : May} {z0 : State} (s : State) (j q : Nat) (hs : Only my z0 s) (hf_regs : Field.regs
    ∈ my.fields := by assumption) (hf_freeIdx : Field.freeIdx ∈ my.fields := by assumption) (hf_yew : Field.yew ∈ my.fields
    := by assumption) (hf_hirqLow : Field.hirqLow ∈ my.fields := by assumption) (hf_fpe : Field.fpe ∈ my.fields := by
    assumption) (hp_6 : 6 ∈ my.pages := by assumption) (hp_24 : 24 ∈ my.pages := by assumption) (hp_27 : 27 ∈ my.pages := by
    assumption) : Only my z0 (State.valueOf s j q).2 := by
  unfold State.valueOf
  dsimp only
  (repeat' split) <;> simp +contextual (maxDischargeDepth := 99) [hs, hf_regs, hf_freeIdx, hf_yew, hf_hirqLow, hf_fpe, hp_6,
                          hp_24, hp_27]

@[simp] theorem State.addDemand_only {my : May} {z0 : State} (s : State) (j q : Nat) (hs : Only my z0 s) (hf_fpe : Field.fpe
    ∈ my.fields := by assumption) : Only my z0 (State.addDemand s j q) := by
  simp +contextual (maxDischargeDepth := 99) [State.addDemand, hs, hf_fpe]

@[simp] theorem State.decideOut_only {my : May} {z0 : State} (s : State) (d : Sampled) (sumw : Nat → Nat) (hs : Only my z0
    s) (hf_regs : Field.regs ∈ my.fields := by assumption) (hf_freeIdx : Field.freeIdx ∈ my.fields := by assumption) (hf_yew
    : Field.yew ∈ my.fields := by assumption) (hf_hirqLow : Field.hirqLow ∈ my.fields := by assumption) (hf_fpe : Field.fpe
    ∈ my.fields := by assumption) (hp_6 : 6 ∈ my.pages := by assumption) (hp_24 : 24 ∈ my.pages := by assumption) (hp_27 :
    27 ∈ my.pages := by assumption) : Only my z0 (State.decideOut s d sumw).2 := by
  unfold State.decideOut
  dsimp only
  (repeat' split) <;> simp +contextual (maxDischargeDepth := 99) [hs, hf_regs, hf_freeIdx, hf_yew, hf_hirqLow, hf_fpe, hp_6,
                          hp_24, hp_27]

@[simp] theorem State.decideAll_only {my : May} {z0 : State} (s : State) (sumw : Nat → Nat) (ds : List Sampled) (hs : Only
    my z0 s) (hf_regs : Field.regs ∈ my.fields := by assumption) (hf_freeIdx : Field.freeIdx ∈ my.fields := by assumption)
    (hf_yew : Field.yew ∈ my.fields := by assumption) (hf_hirqLow : Field.hirqLow ∈ my.fields := by assumption) (hf_fpe :
    Field.fpe ∈ my.fields := by assumption) (hp_6 : 6 ∈ my.pages := by assumption) (hp_24 : 24 ∈ my.pages := by assumption)
    (hp_27 : 27 ∈ my.pages := by assumption) : Only my z0 (State.decideAll s sumw ds).2 := by
  induction ds generalizing s with
  | nil => simp +contextual (maxDischargeDepth := 99) [State.decideAll, hs, hf_regs, hf_freeIdx, hf_yew, hf_hirqLow, hf_fpe, hp_6, hp_24, hp_27]
  | cons a l ih =>
    unfold State.decideAll
    try dsimp only
    (repeat' split) <;> first
        | (simp +contextual (maxDischargeDepth := 99) [hs, hf_regs, hf_freeIdx, hf_yew, hf_hirqLow, hf_fpe, hp_6, hp_24, hp_27]; done)
        | (apply ih; simp +contextual (maxDischargeDepth := 99) [hs, hf_regs, hf_freeIdx, hf_yew, hf_hirqLow, hf_fpe, hp_6, hp_24, hp_27]; done)
        | (simp +contextual (maxDischargeDepth := 99) [hs, hf_regs, hf_freeIdx, hf_yew, hf_hirqLow, hf_fpe, hp_6, hp_24, hp_27, ih, hf_regs, hf_freeIdx, hf_yew, hf_hirqLow, hf_fpe, hp_6, hp_24, hp_27]; done)
        | (simp +contextual (maxDischargeDepth := 99) [*]; done)
        | (rename_i e; have e' := congrArg (fun p => Only my z0 (Prod.snd p)) e; simp +contextual (maxDischargeDepth := 99) [hs, hf_regs, hf_freeIdx, hf_yew, hf_hirqLow, hf_fpe, hp_6, hp_24, hp_27, ih, hf_regs, hf_freeIdx, hf_yew, hf_hirqLow, hf_fpe, hp_6, hp_24, hp_27] at e'; first | (apply ih; simp +contextual (maxDischargeDepth := 99) [hs, hf_regs, hf_freeIdx, hf_yew, hf_hirqLow, hf_fpe, hp_6, hp_24, hp_27, e']; done) | (simp +contextual (maxDischargeDepth := 99) [hs, hf_regs, hf_freeIdx, hf_yew, hf_hirqLow, hf_fpe, hp_6, hp_24, hp_27, ih, e']; done))

@[simp] theorem State.setHold_only {my : May} {z0 : State} (s : State) (n : LaneIx) (l : List FEvent) (hs : Only my z0 s)
    (hf_fpe : Field.fpe ∈ my.fields := by assumption) : Only my z0 (State.setHold s n l) := by
  simp +contextual (maxDischargeDepth := 99) [State.setHold, hs, hf_fpe]

@[simp] theorem State.setPosted_only {my : May} {z0 : State} (s : State) (n : LaneIx) (l : List FEvent) (hs : Only my z0 s)
    (hf_fpe : Field.fpe ∈ my.fields := by assumption) : Only my z0 (State.setPosted s n l) := by
  simp +contextual (maxDischargeDepth := 99) [State.setPosted, hs, hf_fpe]

@[simp] theorem State.setDeferred_only {my : May} {z0 : State} (s : State) (n : LaneIx) (l : List FEvent) (hs : Only my z0
    s) (hf_fpe : Field.fpe ∈ my.fields := by assumption) : Only my z0 (State.setDeferred s n l) := by
  simp +contextual (maxDischargeDepth := 99) [State.setDeferred, hs, hf_fpe]

@[simp] theorem State.evtLost_only {my : May} {z0 : State} (s : State) (n : LaneIx) (e : FEvent) (hs : Only my z0 s)
    (hf_regs : Field.regs ∈ my.fields := by assumption) (hf_yew : Field.yew ∈ my.fields := by assumption) (hf_hirqLow :
    Field.hirqLow ∈ my.fields := by assumption) (hp_6 : 6 ∈ my.pages := by assumption) (hp_28 : 28 ∈ my.pages := by
    assumption) : Only my z0 (State.evtLost s n e) := by
  simp +contextual (maxDischargeDepth := 99) [State.evtLost, hs, hf_regs, hf_yew, hf_hirqLow, hp_6, hp_28]

@[simp] theorem State.joinHold_only {my : May} {z0 : State} (s : State) (n : LaneIx) (e : FEvent) (hs : Only my z0 s)
    (hf_regs : Field.regs ∈ my.fields := by assumption) (hf_yew : Field.yew ∈ my.fields := by assumption) (hf_hirqLow :
    Field.hirqLow ∈ my.fields := by assumption) (hf_fpe : Field.fpe ∈ my.fields := by assumption) (hp_6 : 6 ∈ my.pages := by
    assumption) (hp_28 : 28 ∈ my.pages := by assumption) : Only my z0 (State.joinHold s n e) := by
  unfold State.joinHold
  dsimp only
  (repeat' split) <;> simp +contextual (maxDischargeDepth := 99) [hs, hf_regs, hf_yew, hf_hirqLow, hf_fpe, hp_6, hp_28]

@[simp] theorem State.offerEvent_only {my : May} {z0 : State} (s : State) (n : LaneIx) (e : FEvent) (hs : Only my z0 s)
    (hf_regs : Field.regs ∈ my.fields := by assumption) (hf_yew : Field.yew ∈ my.fields := by assumption) (hf_hirqLow :
    Field.hirqLow ∈ my.fields := by assumption) (hf_lanes : Field.lanes ∈ my.fields := by assumption) (hf_fpe : Field.fpe ∈
    my.fields := by assumption) (hp_6 : 6 ∈ my.pages := by assumption) (hp_28 : 28 ∈ my.pages := by assumption) (hl_n : n ∈
    my.lanes := by assumption) :
    Only my z0 (s.offerEvent n e) := by
  unfold State.offerEvent
  split
  · split
    · have k := State.sendDn_only s n (evtFlits e) hs
      revert k
      rcases s.sendDn n (evtFlits e) with ⟨b, u⟩
      intro k
      cases b
      · simp +contextual (maxDischargeDepth := 99) [k, hf_regs, hf_yew, hf_hirqLow, hf_lanes, hf_fpe, hp_6, hp_28, hl_n]
      · simp +contextual (maxDischargeDepth := 99) [k, hf_regs, hf_yew, hf_hirqLow, hf_lanes, hf_fpe, hp_6, hp_28, hl_n]
    · simp +contextual (maxDischargeDepth := 99) [hs, hf_regs, hf_yew, hf_hirqLow, hf_lanes, hf_fpe, hp_6, hp_28, hl_n]
  · simp +contextual (maxDischargeDepth := 99) [hs, hf_regs, hf_yew, hf_hirqLow, hf_lanes, hf_fpe, hp_6, hp_28, hl_n]

@[simp] theorem State.lateCheck_only {my : May} {z0 : State} (s : State) (e : FEvent) (hs : Only my z0 s) (hf_regs :
    Field.regs ∈ my.fields := by assumption) (hf_freeIdx : Field.freeIdx ∈ my.fields := by assumption) (hf_yew : Field.yew ∈
    my.fields := by assumption) (hf_hirqLow : Field.hirqLow ∈ my.fields := by assumption) (hp_6 : 6 ∈ my.pages := by
    assumption) (hp_24 : 24 ∈ my.pages := by assumption) : Only my z0 (State.lateCheck s e) := by
  unfold State.lateCheck
  dsimp only
  (repeat' split) <;> simp +contextual (maxDischargeDepth := 99) [hs, hf_regs, hf_freeIdx, hf_yew, hf_hirqLow, hp_6, hp_24]

@[simp] theorem State.postEvent_only {my : May} {z0 : State} (s : State) (n : LaneIx) (e : FEvent) (hs : Only my z0 s)
    (hf_regs : Field.regs ∈ my.fields := by assumption) (hf_freeIdx : Field.freeIdx ∈ my.fields := by assumption)
    (hf_firstSeen : Field.firstSeen ∈ my.fields := by assumption) (hf_yew : Field.yew ∈ my.fields := by assumption)
    (hf_hirqLow : Field.hirqLow ∈ my.fields := by assumption) (hf_lanes : Field.lanes ∈ my.fields := by assumption) (hf_fpe
    : Field.fpe ∈ my.fields := by assumption) (hp_6 : 6 ∈ my.pages := by assumption) (hp_24 : 24 ∈ my.pages := by
    assumption) (hp_28 : 28 ∈ my.pages := by assumption) (hl_n : n ∈ my.lanes := by assumption) : Only my z0
    (State.postEvent s n e).2 := by
  unfold State.postEvent
  dsimp only
  (repeat' split) <;> first
      | (simp +contextual (maxDischargeDepth := 99) [hs, hf_regs, hf_freeIdx, hf_firstSeen, hf_yew, hf_hirqLow, hf_lanes, hf_fpe, hp_6, hp_24, hp_28, hl_n]; done)
      | (rename_i e; have e' := congrArg (fun p => Only my z0 (Prod.snd p)) e; simp +contextual (maxDischargeDepth := 99) [hs, hf_regs, hf_freeIdx, hf_firstSeen, hf_yew, hf_hirqLow, hf_lanes, hf_fpe, hp_6, hp_24, hp_28, hl_n] at e'; simp +contextual (maxDischargeDepth := 99) [hs, hf_regs, hf_freeIdx, hf_firstSeen, hf_yew, hf_hirqLow, hf_lanes, hf_fpe, hp_6, hp_24, hp_28, hl_n, e']; done)

@[simp] theorem State.postEvents_only {my : May} {z0 : State} (s : State) (n : LaneIx) (es : List FEvent) (hs : Only my z0
    s) (hf_regs : Field.regs ∈ my.fields := by assumption) (hf_freeIdx : Field.freeIdx ∈ my.fields := by assumption)
    (hf_firstSeen : Field.firstSeen ∈ my.fields := by assumption) (hf_yew : Field.yew ∈ my.fields := by assumption)
    (hf_hirqLow : Field.hirqLow ∈ my.fields := by assumption) (hf_lanes : Field.lanes ∈ my.fields := by assumption) (hf_fpe
    : Field.fpe ∈ my.fields := by assumption) (hp_6 : 6 ∈ my.pages := by assumption) (hp_24 : 24 ∈ my.pages := by
    assumption) (hp_28 : 28 ∈ my.pages := by assumption) (hl_n : n ∈ my.lanes := by assumption) : Only my z0
    (State.postEvents s n es).2 := by
  induction es generalizing s with
  | nil => simp +contextual (maxDischargeDepth := 99) [State.postEvents, hs, hf_regs, hf_freeIdx, hf_firstSeen, hf_yew, hf_hirqLow, hf_lanes, hf_fpe, hp_6, hp_24, hp_28, hl_n]
  | cons a l ih =>
    unfold State.postEvents
    try dsimp only
    (repeat' split) <;> first
        | (simp +contextual (maxDischargeDepth := 99) [hs, hf_regs, hf_freeIdx, hf_firstSeen, hf_yew, hf_hirqLow, hf_lanes, hf_fpe, hp_6, hp_24, hp_28, hl_n]; done)
        | (apply ih; simp +contextual (maxDischargeDepth := 99) [hs, hf_regs, hf_freeIdx, hf_firstSeen, hf_yew, hf_hirqLow, hf_lanes, hf_fpe, hp_6, hp_24, hp_28, hl_n]; done)
        | (simp +contextual (maxDischargeDepth := 99) [hs, hf_regs, hf_freeIdx, hf_firstSeen, hf_yew, hf_hirqLow, hf_lanes, hf_fpe, hp_6, hp_24, hp_28, hl_n, ih, hf_regs, hf_freeIdx, hf_firstSeen, hf_yew, hf_hirqLow, hf_lanes, hf_fpe, hp_6, hp_24, hp_28, hl_n]; done)
        | (simp +contextual (maxDischargeDepth := 99) [*]; done)
        | (rename_i e; have e' := congrArg (fun p => Only my z0 (Prod.snd p)) e; simp +contextual (maxDischargeDepth := 99) [hs, hf_regs, hf_freeIdx, hf_firstSeen, hf_yew, hf_hirqLow, hf_lanes, hf_fpe, hp_6, hp_24, hp_28, hl_n, ih, hf_regs, hf_freeIdx, hf_firstSeen, hf_yew, hf_hirqLow, hf_lanes, hf_fpe, hp_6, hp_24, hp_28, hl_n] at e'; first | (apply ih; simp +contextual (maxDischargeDepth := 99) [hs, hf_regs, hf_freeIdx, hf_firstSeen, hf_yew, hf_hirqLow, hf_lanes, hf_fpe, hp_6, hp_24, hp_28, hl_n, e']; done) | (simp +contextual (maxDischargeDepth := 99) [hs, hf_regs, hf_freeIdx, hf_firstSeen, hf_yew, hf_hirqLow, hf_lanes, hf_fpe, hp_6, hp_24, hp_28, hl_n, ih, e']; done))

@[simp] theorem State.postLane_only {my : May} {z0 : State} (s : State) (n : LaneIx) (new : List FEvent) (hs : Only my z0 s)
    (hf_regs : Field.regs ∈ my.fields := by assumption) (hf_freeIdx : Field.freeIdx ∈ my.fields := by assumption)
    (hf_firstSeen : Field.firstSeen ∈ my.fields := by assumption) (hf_yew : Field.yew ∈ my.fields := by assumption)
    (hf_hirqLow : Field.hirqLow ∈ my.fields := by assumption) (hf_lanes : Field.lanes ∈ my.fields := by assumption) (hf_fpe
    : Field.fpe ∈ my.fields := by assumption) (hp_6 : 6 ∈ my.pages := by assumption) (hp_24 : 24 ∈ my.pages := by
    assumption) (hp_28 : 28 ∈ my.pages := by assumption) (hl_n : n ∈ my.lanes := by assumption) : Only my z0 (State.postLane
    s n new).2 := by
  simp +contextual (maxDischargeDepth := 99) [State.postLane, hs, hf_regs, hf_freeIdx, hf_firstSeen, hf_yew, hf_hirqLow,
      hf_lanes, hf_fpe, hp_6, hp_24, hp_28, hl_n]

@[simp] theorem State.postAll_only {my : May} {z0 : State} (s : State) (es : List FEvent) (ns : List LaneIx) (hs : Only my
    z0 s) (hf_regs : Field.regs ∈ my.fields := by assumption) (hf_freeIdx : Field.freeIdx ∈ my.fields := by assumption)
    (hf_firstSeen : Field.firstSeen ∈ my.fields := by assumption) (hf_yew : Field.yew ∈ my.fields := by assumption)
    (hf_hirqLow : Field.hirqLow ∈ my.fields := by assumption) (hf_lanes : Field.lanes ∈ my.fields := by assumption) (hf_fpe
    : Field.fpe ∈ my.fields := by assumption) (hp_6 : 6 ∈ my.pages := by assumption) (hp_24 : 24 ∈ my.pages := by
    assumption) (hp_28 : 28 ∈ my.pages := by assumption) (hall : ∀ n : LaneIx, n ∈ my.lanes := by assumption) : Only my z0
    (State.postAll s es ns).2 := by
  induction ns generalizing s with
  | nil => simp +contextual (maxDischargeDepth := 99) [State.postAll, hs, hf_regs, hf_freeIdx, hf_firstSeen, hf_yew, hf_hirqLow, hf_lanes, hf_fpe, hp_6, hp_24, hp_28, hall]
  | cons a l ih =>
    unfold State.postAll
    try dsimp only
    (repeat' split) <;> first
        | (simp +contextual (maxDischargeDepth := 99) [hs, hf_regs, hf_freeIdx, hf_firstSeen, hf_yew, hf_hirqLow, hf_lanes, hf_fpe, hp_6, hp_24, hp_28, hall]; done)
        | (apply ih; simp +contextual (maxDischargeDepth := 99) [hs, hf_regs, hf_freeIdx, hf_firstSeen, hf_yew, hf_hirqLow, hf_lanes, hf_fpe, hp_6, hp_24, hp_28, hall]; done)
        | (simp +contextual (maxDischargeDepth := 99) [hs, hf_regs, hf_freeIdx, hf_firstSeen, hf_yew, hf_hirqLow, hf_lanes, hf_fpe, hp_6, hp_24, hp_28, hall, ih, hf_regs, hf_freeIdx, hf_firstSeen, hf_yew, hf_hirqLow, hf_lanes, hf_fpe, hp_6, hp_24, hp_28, hall]; done)
        | (simp +contextual (maxDischargeDepth := 99) [*]; done)
        | (rename_i e; have e' := congrArg (fun p => Only my z0 (Prod.snd p)) e; simp +contextual (maxDischargeDepth := 99) [hs, hf_regs, hf_freeIdx, hf_firstSeen, hf_yew, hf_hirqLow, hf_lanes, hf_fpe, hp_6, hp_24, hp_28, hall, ih, hf_regs, hf_freeIdx, hf_firstSeen, hf_yew, hf_hirqLow, hf_lanes, hf_fpe, hp_6, hp_24, hp_28, hall] at e'; first | (apply ih; simp +contextual (maxDischargeDepth := 99) [hs, hf_regs, hf_freeIdx, hf_firstSeen, hf_yew, hf_hirqLow, hf_lanes, hf_fpe, hp_6, hp_24, hp_28, hall, e']; done) | (simp +contextual (maxDischargeDepth := 99) [hs, hf_regs, hf_freeIdx, hf_firstSeen, hf_yew, hf_hirqLow, hf_lanes, hf_fpe, hp_6, hp_24, hp_28, hall, ih, e']; done))

@[simp] theorem State.trace_only {my : May} {z0 : State} (s : State) (es posted : List FEvent) (d : Sampled) (hs : Only my
    z0 s) (hf_regs : Field.regs ∈ my.fields := by assumption) (hf_freeIdx : Field.freeIdx ∈ my.fields := by assumption)
    (hf_hq : Field.hq ∈ my.fields := by assumption) (hf_hirqLow : Field.hirqLow ∈ my.fields := by assumption) (hf_ports :
    Field.ports ∈ my.fields := by assumption) (hf_ring : Field.ring ∈ my.fields := by assumption) (hp_4 : 4 ∈ my.pages := by
    assumption) (hp_24 : 24 ∈ my.pages := by assumption) : Only my z0 (State.trace s es posted d) := by
  unfold State.trace
  dsimp only
  (repeat' split) <;> first
      | (simp +contextual (maxDischargeDepth := 99) [hs, hf_regs, hf_freeIdx, hf_hq, hf_hirqLow, hf_ports, hf_ring, hp_4, hp_24]; done)
      | (rename_i e; have e' := congrArg (fun p => Only my z0 (Prod.snd p)) e; simp +contextual (maxDischargeDepth := 99) [hs, hf_regs, hf_freeIdx, hf_hq, hf_hirqLow, hf_ports, hf_ring, hp_4, hp_24] at e'; simp +contextual (maxDischargeDepth := 99) [hs, hf_regs, hf_freeIdx, hf_hq, hf_hirqLow, hf_ports, hf_ring, hp_4, hp_24, e']; done)

@[simp] theorem State.armCheck_only {my : May} {z0 : State} (s : State) (hs : Only my z0 s) (hf_dev : Field.dev ∈ my.fields
    := by assumption) (hf_prev : Field.prev ∈ my.fields := by assumption) (hf_devAt : Field.devAt ∈ my.fields := by
    assumption) (hf_devLog : Field.devLog ∈ my.fields := by assumption) (hf_regs : Field.regs ∈ my.fields := by assumption)
    (hf_yew : Field.yew ∈ my.fields := by assumption) (hf_hirqLow : Field.hirqLow ∈ my.fields := by assumption) (hp_0 : 0 ∈
    my.pages := by assumption) (hp_6 : 6 ∈ my.pages := by assumption) : Only my z0 (State.armCheck s) := by
  simp +contextual (maxDischargeDepth := 99) [State.armCheck, hs, hf_dev, hf_prev, hf_devAt, hf_devLog, hf_regs, hf_yew,
      hf_hirqLow, hp_0, hp_6]

@[simp] theorem State.decTime_only {my : May} {z0 : State} (s : State) (dur : Nat) (hs : Only my z0 s) (hf_regs : Field.regs
    ∈ my.fields := by assumption) (hf_fpe : Field.fpe ∈ my.fields := by assumption) (hp_24 : 24 ∈ my.pages := by assumption)
    : Only my z0 (State.decTime s dur) := by
  simp +contextual (maxDischargeDepth := 99) [State.decTime, hs, hf_regs, hf_fpe, hp_24]

@[simp] theorem State.decideTick_only {my : May} {z0 : State} (s : State) (hs : Only my z0 s) (hf_regs : Field.regs ∈
    my.fields := by assumption) (hf_freeIdx : Field.freeIdx ∈ my.fields := by assumption) (hf_firstSeen : Field.firstSeen ∈
    my.fields := by assumption) (hf_yew : Field.yew ∈ my.fields := by assumption) (hf_hq : Field.hq ∈ my.fields := by
    assumption) (hf_hirqLow : Field.hirqLow ∈ my.fields := by assumption) (hf_lanes : Field.lanes ∈ my.fields := by
    assumption) (hf_fpe : Field.fpe ∈ my.fields := by assumption) (hf_map : Field.map ∈ my.fields := by assumption)
    (hf_ports : Field.ports ∈ my.fields := by assumption) (hf_ring : Field.ring ∈ my.fields := by assumption) (hp_4 : 4 ∈
    my.pages := by assumption) (hp_6 : 6 ∈ my.pages := by assumption) (hp_24 : 24 ∈ my.pages := by assumption) (hp_25 : 25 ∈
    my.pages := by assumption) (hp_27 : 27 ∈ my.pages := by assumption) (hp_28 : 28 ∈ my.pages := by assumption) (hall : ∀ n
    : LaneIx, n ∈ my.lanes := by assumption) : Only my z0 (State.decideTick s) := by
  simp +contextual (maxDischargeDepth := 99) [State.decideTick, hs, hf_regs, hf_freeIdx, hf_firstSeen, hf_yew, hf_hq,
      hf_hirqLow, hf_lanes, hf_fpe, hf_map, hf_ports, hf_ring, hp_4, hp_6, hp_24, hp_25, hp_27, hp_28, hall]

@[simp] theorem State.formOut_only {my : May} {z0 : State} (s : State) (p : Prep) (hs : Only my z0 s) (hf_regs : Field.regs
    ∈ my.fields := by assumption) (hf_hirqLow : Field.hirqLow ∈ my.fields := by assumption) (hf_fpe : Field.fpe ∈ my.fields
    := by assumption) (hp_24 : 24 ∈ my.pages := by assumption) : Only my z0 (s.formOut p).2 := by
  unfold State.formOut
  dsimp only
  split <;> simp +contextual (maxDischargeDepth := 99) [hs, hf_regs, hf_hirqLow, hf_fpe, hp_24]

@[simp] theorem State.formAll_only {my : May} {z0 : State} (s : State) (ps : List Prep) (hs : Only my z0 s) (hf_regs :
    Field.regs ∈ my.fields := by assumption) (hf_hirqLow : Field.hirqLow ∈ my.fields := by assumption) (hf_fpe : Field.fpe ∈
    my.fields := by assumption) (hp_24 : 24 ∈ my.pages := by assumption) : Only my z0 (State.formAll s ps).2 := by
  induction ps generalizing s with
  | nil => simp +contextual (maxDischargeDepth := 99) [State.formAll, hs, hf_regs, hf_hirqLow, hf_fpe, hp_24]
  | cons a l ih =>
    unfold State.formAll
    try dsimp only
    (repeat' split) <;> first
        | (simp +contextual (maxDischargeDepth := 99) [hs, hf_regs, hf_hirqLow, hf_fpe, hp_24]; done)
        | (apply ih; simp +contextual (maxDischargeDepth := 99) [hs, hf_regs, hf_hirqLow, hf_fpe, hp_24]; done)
        | (simp +contextual (maxDischargeDepth := 99) [hs, hf_regs, hf_hirqLow, hf_fpe, hp_24, ih, hf_regs, hf_hirqLow, hf_fpe, hp_24]; done)
        | (simp +contextual (maxDischargeDepth := 99) [*]; done)
        | (rename_i e; have e' := congrArg (fun p => Only my z0 (Prod.snd p)) e; simp +contextual (maxDischargeDepth := 99) [hs, hf_regs, hf_hirqLow, hf_fpe, hp_24, ih, hf_regs, hf_hirqLow, hf_fpe, hp_24] at e'; first | (apply ih; simp +contextual (maxDischargeDepth := 99) [hs, hf_regs, hf_hirqLow, hf_fpe, hp_24, e']; done) | (simp +contextual (maxDischargeDepth := 99) [hs, hf_regs, hf_hirqLow, hf_fpe, hp_24, ih, e']; done))

@[simp] theorem State.sendStrokes_only {my : May} {z0 : State} (k : Nat) (s : State) (ks : List Stroke) (hs : Only my z0 s)
    (hf_regs : Field.regs ∈ my.fields := by assumption) (hf_ports : Field.ports ∈ my.fields := by assumption) (hf_ring :
    Field.ring ∈ my.fields := by assumption) (hp_8 : 8 ∈ my.pages := by assumption) :
    Only my z0 (State.sendStrokes k s ks) := by
  induction k generalizing s ks with
  | zero => simpa [State.sendStrokes] using hs
  | succ n ih =>
    cases ks with
    | nil => simpa [State.sendStrokes] using hs
    | cons a l =>
      unfold State.sendStrokes
      exact ih _ _ (State.sendStroke_only _ _ hs)

@[simp] theorem State.sendSpDem_only {my : May} {z0 : State} (s : State) (hs : Only my z0 s) (hf_regs : Field.regs ∈
    my.fields := by assumption) (hf_lanes : Field.lanes ∈ my.fields := by assumption) (hall : ∀ n : LaneIx, n ∈ my.lanes :=
    by assumption) : Only my z0 (State.sendSpDem s) := by
  simp +contextual (maxDischargeDepth := 99) [State.sendSpDem, hs, hf_regs, hf_lanes, hall]

@[simp] theorem State.recTick_only {my : May} {z0 : State} (s : State) (c : RecCode) (hs : Only my z0 s) (hf_regs :
    Field.regs ∈ my.fields := by assumption) (hf_freeIdx : Field.freeIdx ∈ my.fields := by assumption) (hf_yew : Field.yew ∈
    my.fields := by assumption) (hf_hirqLow : Field.hirqLow ∈ my.fields := by assumption) (hp_6 : 6 ∈ my.pages := by
    assumption) (hp_24 : 24 ∈ my.pages := by assumption) : Only my z0 (State.recTick s c) := by
  simp +contextual (maxDischargeDepth := 99) [State.recTick, hs, hf_regs, hf_freeIdx, hf_yew, hf_hirqLow, hp_6, hp_24]

@[simp] theorem State.decDigest_only {my : May} {z0 : State} (s : State) (dec : Bool) (hs : Only my z0 s) (hf_regs :
    Field.regs ∈ my.fields := by assumption) (hf_freeIdx : Field.freeIdx ∈ my.fields := by assumption) (hf_yew : Field.yew ∈
    my.fields := by assumption) (hf_hirqLow : Field.hirqLow ∈ my.fields := by assumption) (hf_laurel : Field.laurel ∈
    my.fields := by assumption) (hp_3 : 3 ∈ my.pages := by assumption) (hp_6 : 6 ∈ my.pages := by assumption) (hp_24 : 24 ∈
    my.pages := by assumption) : Only my z0 (State.decDigest s dec) := by
  simp +contextual (maxDischargeDepth := 99) [State.decDigest, hs, hf_regs, hf_freeIdx, hf_yew, hf_hirqLow, hf_laurel, hp_3,
      hp_6, hp_24]

@[simp] theorem State.slotDigest_only {my : May} {z0 : State} (s : State) (slots : Bool) (hs : Only my z0 s) (hf_regs :
    Field.regs ∈ my.fields := by assumption) (hf_freeIdx : Field.freeIdx ∈ my.fields := by assumption) (hf_yew : Field.yew ∈
    my.fields := by assumption) (hf_hirqLow : Field.hirqLow ∈ my.fields := by assumption) (hf_laurel : Field.laurel ∈
    my.fields := by assumption) (hp_3 : 3 ∈ my.pages := by assumption) (hp_6 : 6 ∈ my.pages := by assumption) : Only my z0
    (State.slotDigest s slots) := by
  simp +contextual (maxDischargeDepth := 99) [State.slotDigest, hs, hf_regs, hf_freeIdx, hf_yew, hf_hirqLow, hf_laurel,
      hp_3, hp_6]

@[simp] theorem State.rateSwap_only {my : May} {z0 : State} (s : State) (hs : Only my z0 s) (hf_regs : Field.regs ∈
    my.fields := by assumption) (hf_fpe : Field.fpe ∈ my.fields := by assumption) (hp_27 : 27 ∈ my.pages := by assumption) :
    Only my z0 (State.rateSwap s) := by
  simp +contextual (maxDischargeDepth := 99) [State.rateSwap, hs, hf_regs, hf_fpe, hp_27]

@[simp] theorem State.takeAck_only {my : May} {z0 : State} (s : State) (n : LaneIx) (f : Flit) (hs : Only my z0 s) (hf_regs
    : Field.regs ∈ my.fields := by assumption) (hf_fpe : Field.fpe ∈ my.fields := by assumption) (hp_28 : 28 ∈ my.pages :=
    by assumption) : Only my z0 (State.takeAck s n f) := by
  simp +contextual (maxDischargeDepth := 99) [State.takeAck, hs, hf_regs, hf_fpe, hp_28]

@[simp] theorem State.takeFull_only {my : May} {z0 : State} (s : State) (n : LaneIx) (f : Flit) (hs : Only my z0 s) (hf_regs
    : Field.regs ∈ my.fields := by assumption) (hf_yew : Field.yew ∈ my.fields := by assumption) (hf_hirqLow : Field.hirqLow
    ∈ my.fields := by assumption) (hf_fpe : Field.fpe ∈ my.fields := by assumption) (hp_6 : 6 ∈ my.pages := by assumption)
    (hp_28 : 28 ∈ my.pages := by assumption) : Only my z0 (State.takeFull s n f) := by
  unfold State.takeFull
  dsimp only
  (repeat' split) <;> simp +contextual (maxDischargeDepth := 99) [hs, hf_regs, hf_yew, hf_hirqLow, hf_fpe, hp_6, hp_28]

@[simp] theorem State.reoffer_only {my : May} {z0 : State} (s : State) (n : LaneIx) (hs : Only my z0 s) (hf_regs :
    Field.regs ∈ my.fields := by assumption) (hf_lanes : Field.lanes ∈ my.fields := by assumption) (hl_n : n ∈ my.lanes :=
    by assumption) : Only my z0 (State.reoffer s n) := by
  simp +contextual (maxDischargeDepth := 99) [State.reoffer, hs, hf_regs, hf_lanes, hl_n]

@[simp] theorem State.takeFire_only {my : May} {z0 : State} (s : State) (n : LaneIx) (a b : Flit) (hs : Only my z0 s)
    (hf_regs : Field.regs ∈ my.fields := by assumption) (hf_fpe : Field.fpe ∈ my.fields := by assumption) (hp_28 : 28 ∈
    my.pages := by assumption) : Only my z0 (State.takeFire s n a b) := by
  simp +contextual (maxDischargeDepth := 99) [State.takeFire, hs, hf_regs, hf_fpe, hp_28]

@[simp] theorem State.clearOutlets_only {my : May} {z0 : State} (s : State) (n : LaneIx) (mask : Nat) (hs : Only my z0 s)
    (hf_fpe : Field.fpe ∈ my.fields := by assumption) : Only my z0 (State.clearOutlets s n mask) := by
  simp +contextual (maxDischargeDepth := 99) [State.clearOutlets, hs, hf_fpe]

@[simp] theorem State.takeMotion_only {my : May} {z0 : State} (s : State) (n : LaneIx) (a b : Flit) (hs : Only my z0 s)
    (hf_fpe : Field.fpe ∈ my.fields := by assumption) : Only my z0 (State.takeMotion s n a b) := by
  simp +contextual (maxDischargeDepth := 99) [State.takeMotion, hs, hf_fpe]

@[simp] theorem State.takeDly_only {my : May} {z0 : State} (s : State) (n : LaneIx) (f : Flit) (hs : Only my z0 s) (hf_fpe :
    Field.fpe ∈ my.fields := by assumption) : Only my z0 (State.takeDly s n f) := by
  simp +contextual (maxDischargeDepth := 99) [State.takeDly, hs, hf_fpe]

@[simp] theorem State.spineTakes_only {my : May} {z0 : State} (s : State) (n : LaneIx) (f : Flit) (hs : Only my z0 s)
    (hf_regs : Field.regs ∈ my.fields := by assumption) (hf_yew : Field.yew ∈ my.fields := by assumption) (hf_hirqLow :
    Field.hirqLow ∈ my.fields := by assumption) (hf_lanes : Field.lanes ∈ my.fields := by assumption) (hf_fpe : Field.fpe ∈
    my.fields := by assumption) (hp_6 : 6 ∈ my.pages := by assumption) (hp_28 : 28 ∈ my.pages := by assumption) (hl_n : n ∈
    my.lanes := by assumption) : Only my z0 (State.spineTakes s n f) := by
  unfold State.spineTakes
  dsimp only
  (repeat' split) <;> simp +contextual (maxDischargeDepth := 99) [hs, hf_regs, hf_yew, hf_hirqLow, hf_lanes, hf_fpe, hp_6,
                          hp_28, hl_n]

@[simp] theorem State.linkUp__only {my : May} {z0 : State} (s : State) (n : LaneIx) (f : Flit) (hs : Only my z0 s) (hf_regs
    : Field.regs ∈ my.fields := by assumption) (hf_hirqLow : Field.hirqLow ∈ my.fields := by assumption) (hf_lanes :
    Field.lanes ∈ my.fields := by assumption) (hl_n : n ∈ my.lanes := by assumption) : Only my z0 (State.linkUp_ s n f) :=
    by
  simp +contextual (maxDischargeDepth := 99) [State.linkUp_, hs, hf_regs, hf_hirqLow, hf_lanes, hl_n]

@[simp] theorem State.flitUp_only {my : May} {z0 : State} (s : State) (n : LaneIx) (f : Flit) (hs : Only my z0 s) (hf_regs :
    Field.regs ∈ my.fields := by assumption) (hf_yew : Field.yew ∈ my.fields := by assumption) (hf_hirqLow : Field.hirqLow ∈
    my.fields := by assumption) (hf_lanes : Field.lanes ∈ my.fields := by assumption) (hf_fpe : Field.fpe ∈ my.fields := by
    assumption) (hp_6 : 6 ∈ my.pages := by assumption) (hp_28 : 28 ∈ my.pages := by assumption) (hl_n : n ∈ my.lanes := by
    assumption) : Only my z0 (State.flitUp s n f) := by
  simp +contextual (maxDischargeDepth := 99) [State.flitUp, hs, hf_regs, hf_yew, hf_hirqLow, hf_lanes, hf_fpe, hp_6, hp_28,
      hl_n]

@[simp] theorem State.flitOn_only {my : May} {z0 : State} (s : State) (n : LaneIx) (d : Dir) (f : Flit) (hs : Only my z0 s)
    (hf_regs : Field.regs ∈ my.fields := by assumption) (hf_firstSeen : Field.firstSeen ∈ my.fields := by assumption)
    (hf_yew : Field.yew ∈ my.fields := by assumption) (hf_hirqLow : Field.hirqLow ∈ my.fields := by assumption) (hf_lanes :
    Field.lanes ∈ my.fields := by assumption) (hf_eng : Field.eng ∈ my.fields := by assumption) (hf_fpe : Field.fpe ∈
    my.fields := by assumption) (hp_6 : 6 ∈ my.pages := by assumption) (hp_28 : 28 ∈ my.pages := by assumption) (hl_n : n ∈
    my.lanes := by assumption) : Only my z0 (State.flitOn s n d f) := by
  unfold State.flitOn
  (repeat' split) <;> simp_all +contextual (maxDischargeDepth := 99)

@[simp] theorem State.armFpe_only {my : May} {z0 : State} (s : State) (hs : Only my z0 s) (hf_fpe : Field.fpe ∈ my.fields :=
    by assumption) : Only my z0 (State.armFpe s) := by
  simp +contextual (maxDischargeDepth := 99) [State.armFpe, hs, hf_fpe]

@[simp] theorem State.armFromRun_only {my : May} {z0 : State} (s : State) (hs : Only my z0 s) (hf_fpe : Field.fpe ∈
    my.fields := by assumption) : Only my z0 (State.armFromRun s) := by
  simp +contextual (maxDischargeDepth := 99) [State.armFromRun, hs, hf_fpe]

@[simp] theorem State.fenceFpe_only {my : May} {z0 : State} (s : State) (n : LaneIx) (hs : Only my z0 s) (hf_fpe : Field.fpe
    ∈ my.fields := by assumption) : Only my z0 (State.fenceFpe s n) := by
  simp +contextual (maxDischargeDepth := 99) [State.fenceFpe, hs, hf_fpe]

@[simp] theorem State.modGnss_only {my : May} {z0 : State} (s : State) (f : GnssState → GnssState) (hs : Only my z0 s)
    (hf_gnss : Field.gnss ∈ my.fields := by assumption) : Only my z0 (State.modGnss s f) := by
  simp +contextual (maxDischargeDepth := 99) [State.modGnss, hs, hf_gnss]

@[simp] theorem State.recEach_only {my : May} {z0 : State} (s : State) (c : RecCode) (page : Half → Nat) (v : Word) (hs :
    Only my z0 s) (hk : ∀ h, my.page (page h)) (hf_regs : Field.regs ∈ my.fields := by assumption) (hf_yew : Field.yew ∈
    my.fields := by assumption) (hf_hirqLow : Field.hirqLow ∈ my.fields := by assumption) (hp_6 : 6 ∈ my.pages := by
    assumption) : Only my z0 (State.recEach s c page v) := by
  simp +contextual (maxDischargeDepth := 99) [State.recEach, hs, hk, hf_regs, hf_yew, hf_hirqLow, hp_6]

@[simp] theorem State.eachGnss_only {my : May} {z0 : State} (s : State) (f : State → Nat → State) (hs : Only my z0 s)
    (hf : ∀ w (h : Half), Only my z0 w → Only my z0 (f w h.ix))  : Only my z0 (s.eachGnss f) := by
  unfold State.eachGnss
  exact foldl_only _ _ hs (fun w h hw => hf _ _ hw)

@[simp] theorem State.agcM_only {my : May} {z0 : State} (s : State) (c1 c5 : Nat × Nat) (hs : Only my z0 s) (hf_freeIdx :
    Field.freeIdx ∈ my.fields := by assumption) : Only my z0 (State.agcM s c1 c5).2 := by
  unfold State.agcM
  dsimp only
  (repeat' split) <;> simp +contextual (maxDischargeDepth := 99) [hs, hf_freeIdx]

@[simp] theorem State.setChan_only {my : May} {z0 : State} (s : State) (i : Nat) (c : Chan) (hs : Only my z0 s) (hf_gnss :
    Field.gnss ∈ my.fields := by assumption) : Only my z0 (State.setChan s i c) := by
  simp +contextual (maxDischargeDepth := 99) [State.setChan, hs, hf_gnss]

@[simp] theorem State.assign_only {my : May} {z0 : State} (s : State) (before : State) (a : ChanAssign) (hs : Only my z0 s)
    (hf_gnss : Field.gnss ∈ my.fields := by assumption) : Only my z0 (State.assign s before a) := by
  simp +contextual (maxDischargeDepth := 99) [State.assign, hs, hf_gnss]

@[simp] theorem State.moveSignals_only {my : May} {z0 : State} (s : State) (h : Half) (hs : Only my z0 s) (hf_freeIdx :
    Field.freeIdx ∈ my.fields := by assumption) (hf_gnss : Field.gnss ∈ my.fields := by assumption) : Only my z0
    (State.moveSignals s h) := by
  simp +contextual (maxDischargeDepth := 99) [State.moveSignals, hs, hf_freeIdx, hf_gnss]

@[simp] theorem State.advanceEpoch_only {my : May} {z0 : State} (s : State) (asg : List ChanAssign) (hs : Only my z0 s)
    (hf_regs : Field.regs ∈ my.fields := by assumption) (hf_freeIdx : Field.freeIdx ∈ my.fields := by assumption) (hf_gnss :
    Field.gnss ∈ my.fields := by assumption) (hp_16 : 16 ∈ my.pages := by assumption) (hp_17 : 17 ∈ my.pages := by
    assumption) : Only my z0 (State.advanceEpoch s asg) := by
  simp +contextual (maxDischargeDepth := 99) [State.advanceEpoch, hs, hf_regs, hf_freeIdx, hf_gnss, hp_16, hp_17]

@[simp] theorem State.postGnss_only {my : May} {z0 : State} (s : State) (h : Half) (data : List Byte) (hs : Only my z0 s)
    (hf_regs : Field.regs ∈ my.fields := by assumption) (hf_hq : Field.hq ∈ my.fields := by assumption) (hf_hirqLow :
    Field.hirqLow ∈ my.fields := by assumption) (hf_ports : Field.ports ∈ my.fields := by assumption) (hf_ring : Field.ring
    ∈ my.fields := by assumption) (hp_4 : 4 ∈ my.pages := by assumption) (hp_16 : 16 ∈ my.pages := by assumption) (hp_17 :
    17 ∈ my.pages := by assumption) :
    Only my z0 (s.postGnss h data) := by
  unfold State.postGnss
  have k := State.postItem_only s 13 0 data hs
  revert k
  rcases s.postItem 13 0 data with ⟨b, u⟩
  intro k
  cases b
  · simp +contextual (maxDischargeDepth := 99) [k, hf_regs, hf_hq, hf_hirqLow, hf_ports, hf_ring, hp_4, hp_16, hp_17]
  · exact k

@[simp] theorem State.staleMeas_only {my : May} {z0 : State} (s : State) (m : ChanMeas) (hs : Only my z0 s) (hf_regs :
    Field.regs ∈ my.fields := by assumption) (hf_yew : Field.yew ∈ my.fields := by assumption) (hf_hirqLow : Field.hirqLow ∈
    my.fields := by assumption) (hf_gnss : Field.gnss ∈ my.fields := by assumption) (hp_6 : 6 ∈ my.pages := by assumption)
    (hp_16 : 16 ∈ my.pages := by assumption) (hp_17 : 17 ∈ my.pages := by assumption) : Only my z0 (State.staleMeas s m) :=
    by
  simp +contextual (maxDischargeDepth := 99) [State.staleMeas, hs, hf_regs, hf_yew, hf_hirqLow, hf_gnss, hp_6, hp_16, hp_17]

@[simp] theorem State.ageCorr_only {my : May} {z0 : State} (s : State) (hs : Only my z0 s) (hf_gnss : Field.gnss ∈ my.fields
    := by assumption) : Only my z0 (State.ageCorr s) := by
  unfold State.ageCorr
  (repeat' split) <;> simp_all +contextual (maxDischargeDepth := 99)

@[simp] theorem State.takeQ2_only {my : May} {z0 : State} (fuel : Nat) (s : State) (hs : Only my z0 s) (hf_regs : Field.regs
    ∈ my.fields := by assumption) (hf_freeIdx : Field.freeIdx ∈ my.fields := by assumption) (hf_firstSeen : Field.firstSeen
    ∈ my.fields := by assumption) (hf_yew : Field.yew ∈ my.fields := by assumption) (hf_hq : Field.hq ∈ my.fields := by
    assumption) (hf_cmpl : Field.cmpl ∈ my.fields := by assumption) (hf_cmplWait : Field.cmplWait ∈ my.fields := by
    assumption) (hf_hirqLow : Field.hirqLow ∈ my.fields := by assumption) (hf_gnss : Field.gnss ∈ my.fields := by
    assumption) (hp_4 : 4 ∈ my.pages := by assumption) (hp_6 : 6 ∈ my.pages := by assumption) : Only my z0 (State.takeQ2
    fuel s) := by
  induction fuel generalizing s with
  | zero => simp +contextual (maxDischargeDepth := 99) [State.takeQ2, hs, hf_regs, hf_freeIdx, hf_firstSeen, hf_yew, hf_hq, hf_cmpl, hf_cmplWait, hf_hirqLow, hf_gnss, hp_4, hp_6]
  | succ n ih =>
    unfold State.takeQ2
    try dsimp only
    (repeat' split) <;> first
        | (simp +contextual (maxDischargeDepth := 99) [hs, hf_regs, hf_freeIdx, hf_firstSeen, hf_yew, hf_hq, hf_cmpl, hf_cmplWait, hf_hirqLow, hf_gnss, hp_4, hp_6]; done)
        | (apply ih; simp +contextual (maxDischargeDepth := 99) [hs, hf_regs, hf_freeIdx, hf_firstSeen, hf_yew, hf_hq, hf_cmpl, hf_cmplWait, hf_hirqLow, hf_gnss, hp_4, hp_6]; done)
        | (simp +contextual (maxDischargeDepth := 99) [hs, hf_regs, hf_freeIdx, hf_firstSeen, hf_yew, hf_hq, hf_cmpl, hf_cmplWait, hf_hirqLow, hf_gnss, hp_4, hp_6, ih, hf_regs, hf_freeIdx, hf_firstSeen, hf_yew, hf_hq, hf_cmpl, hf_cmplWait, hf_hirqLow, hf_gnss, hp_4, hp_6]; done)
        | (simp +contextual (maxDischargeDepth := 99) [*]; done)
        | (rename_i e; have e' := congrArg (fun p => Only my z0 (Prod.snd p)) e; simp +contextual (maxDischargeDepth := 99) [hs, hf_regs, hf_freeIdx, hf_firstSeen, hf_yew, hf_hq, hf_cmpl, hf_cmplWait, hf_hirqLow, hf_gnss, hp_4, hp_6, ih, hf_regs, hf_freeIdx, hf_firstSeen, hf_yew, hf_hq, hf_cmpl, hf_cmplWait, hf_hirqLow, hf_gnss, hp_4, hp_6] at e'; first | (apply ih; simp +contextual (maxDischargeDepth := 99) [hs, hf_regs, hf_freeIdx, hf_firstSeen, hf_yew, hf_hq, hf_cmpl, hf_cmplWait, hf_hirqLow, hf_gnss, hp_4, hp_6, e']; done) | (simp +contextual (maxDischargeDepth := 99) [hs, hf_regs, hf_freeIdx, hf_firstSeen, hf_yew, hf_hq, hf_cmpl, hf_cmplWait, hf_hirqLow, hf_gnss, hp_4, hp_6, ih, e']; done))

@[simp] theorem State.takeMsm_only {my : May} {z0 : State} (s : State) (m stn : Nat) (d : List Byte) (hs : Only my z0 s)
    (hf_gnss : Field.gnss ∈ my.fields := by assumption) : Only my z0 (State.takeMsm s m stn d) := by
  unfold State.takeMsm
  dsimp only
  (repeat' split) <;> simp +contextual (maxDischargeDepth := 99) [hs, hf_gnss]

@[simp] theorem State.station_only {my : May} {z0 : State} (s : State) (stn : Nat) (hs : Only my z0 s) (hf_regs : Field.regs
    ∈ my.fields := by assumption) (hf_yew : Field.yew ∈ my.fields := by assumption) (hf_hirqLow : Field.hirqLow ∈ my.fields
    := by assumption) (hf_gnss : Field.gnss ∈ my.fields := by assumption) (hp_6 : 6 ∈ my.pages := by assumption) (hp_16 : 16
    ∈ my.pages := by assumption) (hp_17 : 17 ∈ my.pages := by assumption) : Only my z0 (State.station s stn).2 := by
  unfold State.station
  dsimp only
  (repeat' split) <;> simp +contextual (maxDischargeDepth := 99) [hs, hf_regs, hf_yew, hf_hirqLow, hf_gnss, hp_6, hp_16,
                          hp_17]

@[simp] theorem State.rtcmDropped_only {my : May} {z0 : State} (s : State) (hs : Only my z0 s) (hf_regs : Field.regs ∈
    my.fields := by assumption) (hp_16 : 16 ∈ my.pages := by assumption) (hp_17 : 17 ∈ my.pages := by assumption) : Only my
    z0 (State.rtcmDropped s) := by
  simp +contextual (maxDischargeDepth := 99) [State.rtcmDropped, hs, hf_regs, hp_16, hp_17]

@[simp] theorem State.rtcmTaken_only {my : May} {z0 : State} (s : State) (hs : Only my z0 s) (hf_regs : Field.regs ∈
    my.fields := by assumption) (hp_16 : 16 ∈ my.pages := by assumption) (hp_17 : 17 ∈ my.pages := by assumption) : Only my
    z0 (State.rtcmTaken s) := by
  simp +contextual (maxDischargeDepth := 99) [State.rtcmTaken, hs, hf_regs, hp_16, hp_17]

@[simp] theorem State.rtcmMessage_only {my : May} {z0 : State} (s : State) (d : List Byte) (hs : Only my z0 s) (hf_regs :
    Field.regs ∈ my.fields := by assumption) (hf_yew : Field.yew ∈ my.fields := by assumption) (hf_hirqLow : Field.hirqLow ∈
    my.fields := by assumption) (hf_gnss : Field.gnss ∈ my.fields := by assumption) (hp_6 : 6 ∈ my.pages := by assumption)
    (hp_16 : 16 ∈ my.pages := by assumption) (hp_17 : 17 ∈ my.pages := by assumption) : Only my z0 (s.rtcmMessage d) := by
  unfold State.rtcmMessage
  dsimp only
  have k := State.station_only s (bitsMsb d 12 12) hs
  revert k
  rcases s.station (bitsMsb d 12 12) with ⟨b, u⟩
  intro k
  (repeat' split) <;> simp_all +contextual (maxDischargeDepth := 99)

@[simp] theorem State.rtcmBad_only {my : May} {z0 : State} (s : State) (b d : List Byte) (len : Nat) (hs : Only my z0 s)
    (hf_regs : Field.regs ∈ my.fields := by assumption) (hf_firstSeen : Field.firstSeen ∈ my.fields := by assumption)
    (hf_yew : Field.yew ∈ my.fields := by assumption) (hf_hirqLow : Field.hirqLow ∈ my.fields := by assumption) (hf_gnss :
    Field.gnss ∈ my.fields := by assumption) (hp_6 : 6 ∈ my.pages := by assumption) (hp_16 : 16 ∈ my.pages := by assumption)
    (hp_17 : 17 ∈ my.pages := by assumption) : Only my z0 (State.rtcmBad s b d len) := by
  simp +contextual (maxDischargeDepth := 99) [State.rtcmBad, hs, hf_regs, hf_firstSeen, hf_yew, hf_hirqLow, hf_gnss, hp_6,
      hp_16, hp_17]

@[simp] theorem State.rtcmParse_only {my : May} {z0 : State} (s : State) (b : List Byte) (hs : Only my z0 s) (hf_regs :
    Field.regs ∈ my.fields := by assumption) (hf_firstSeen : Field.firstSeen ∈ my.fields := by assumption) (hf_yew :
    Field.yew ∈ my.fields := by assumption) (hf_hirqLow : Field.hirqLow ∈ my.fields := by assumption) (hf_gnss : Field.gnss
    ∈ my.fields := by assumption) (hp_6 : 6 ∈ my.pages := by assumption) (hp_16 : 16 ∈ my.pages := by assumption) (hp_17 :
    17 ∈ my.pages := by assumption) : Only my z0 (State.rtcmParse s b) := by
  simp +contextual (maxDischargeDepth := 99) [State.rtcmParse, hs, hf_regs, hf_firstSeen, hf_yew, hf_hirqLow, hf_gnss, hp_6,
      hp_16, hp_17]

@[simp] theorem State.holdChans_only {my : May} {z0 : State} (s : State) (h : Half) (hs : Only my z0 s) (hf_gnss :
    Field.gnss ∈ my.fields := by assumption) : Only my z0 (State.holdChans s h) := by
  simp +contextual (maxDischargeDepth := 99) [State.holdChans, hs, hf_gnss]

@[simp] theorem State.gnssStandby_only {my : May} {z0 : State} (s : State) (hs : Only my z0 s) (hf_gnss : Field.gnss ∈
    my.fields := by assumption) : Only my z0 (State.gnssStandby s) := by
  unfold State.gnssStandby
  dsimp only
  (repeat' split) <;> simp +contextual (maxDischargeDepth := 99) [hs, hf_gnss]

@[simp] theorem State.gnssWake_only {my : May} {z0 : State} (s : State) (hs : Only my z0 s) (hf_regs : Field.regs ∈
    my.fields := by assumption) (hf_gnss : Field.gnss ∈ my.fields := by assumption) (hp_16 : 16 ∈ my.pages := by assumption)
    (hp_17 : 17 ∈ my.pages := by assumption) : Only my z0 (State.gnssWake s) := by
  simp +contextual (maxDischargeDepth := 99) [State.gnssWake, hs, hf_regs, hf_gnss, hp_16, hp_17]

@[simp] theorem State.modTime_only {my : May} {z0 : State} (s : State) (f : TimeState → TimeState) (hs : Only my z0 s)
    (hf_time : Field.time ∈ my.fields := by assumption) : Only my z0 (State.modTime s f) := by
  simp +contextual (maxDischargeDepth := 99) [State.modTime, hs, hf_time]

@[simp] theorem State.recTime_only {my : May} {z0 : State} (s : State) (c : RecCode) (v : Word) (hs : Only my z0 s) (hf_regs
    : Field.regs ∈ my.fields := by assumption) (hf_yew : Field.yew ∈ my.fields := by assumption) (hf_hirqLow : Field.hirqLow
    ∈ my.fields := by assumption) (hp_6 : 6 ∈ my.pages := by assumption) (hp_18 : 18 ∈ my.pages := by assumption) : Only my
    z0 (State.recTime s c v) := by
  simp +contextual (maxDischargeDepth := 99) [State.recTime, hs, hf_regs, hf_yew, hf_hirqLow, hp_6, hp_18]

@[simp] theorem State.timeSolution_only {my : May} {z0 : State} (s : State) (m : TimeSol) (hs : Only my z0 s) (hf_regs :
    Field.regs ∈ my.fields := by assumption) (hf_yew : Field.yew ∈ my.fields := by assumption) (hf_hirqLow : Field.hirqLow ∈
    my.fields := by assumption) (hf_time : Field.time ∈ my.fields := by assumption) (hp_6 : 6 ∈ my.pages := by assumption)
    (hp_18 : 18 ∈ my.pages := by assumption) : Only my z0 (State.timeSolution s m) := by
  unfold State.timeSolution
  dsimp only
  (repeat' split) <;> simp +contextual (maxDischargeDepth := 99) [hs, hf_regs, hf_yew, hf_hirqLow, hf_time, hp_6, hp_18]

@[simp] theorem State.slewOrStep_only {my : May} {z0 : State} (s : State) (m : TimeSol) (sec : Int) (hs : Only my z0 s)
    (hf_regs : Field.regs ∈ my.fields := by assumption) (hf_yew : Field.yew ∈ my.fields := by assumption) (hf_hirqLow :
    Field.hirqLow ∈ my.fields := by assumption) (hf_time : Field.time ∈ my.fields := by assumption) (hp_6 : 6 ∈ my.pages :=
    by assumption) (hp_18 : 18 ∈ my.pages := by assumption) : Only my z0 (State.slewOrStep s m sec).2 := by
  unfold State.slewOrStep
  dsimp only
  (repeat' split) <;> simp +contextual (maxDischargeDepth := 99) [hs, hf_regs, hf_yew, hf_hirqLow, hf_time, hp_6, hp_18]

@[simp] theorem State.prepareSecond_only {my : May} {z0 : State} (s : State) (m : TimeSol) (sec : Int) (hs : Only my z0 s)
    (hf_regs : Field.regs ∈ my.fields := by assumption) (hf_yew : Field.yew ∈ my.fields := by assumption) (hf_hirqLow :
    Field.hirqLow ∈ my.fields := by assumption) (hf_time : Field.time ∈ my.fields := by assumption) (hp_6 : 6 ∈ my.pages :=
    by assumption) (hp_18 : 18 ∈ my.pages := by assumption) : Only my z0 (State.prepareSecond s m sec) := by
  simp +contextual (maxDischargeDepth := 99) [State.prepareSecond, hs, hf_regs, hf_yew, hf_hirqLow, hf_time, hp_6, hp_18]

@[simp] theorem State.solTaken_only {my : May} {z0 : State} (s : State) (h : Half) (sol : Solution) (hs : Only my z0 s)
    (hf_regs : Field.regs ∈ my.fields := by assumption) (hf_yew : Field.yew ∈ my.fields := by assumption) (hf_hirqLow :
    Field.hirqLow ∈ my.fields := by assumption) (hf_gnss : Field.gnss ∈ my.fields := by assumption) (hp_6 : 6 ∈ my.pages :=
    by assumption) (hp_16 : 16 ∈ my.pages := by assumption) (hp_17 : 17 ∈ my.pages := by assumption) : Only my z0
    (State.solTaken s h sol) := by
  simp +contextual (maxDischargeDepth := 99) [State.solTaken, hs, hf_regs, hf_yew, hf_hirqLow, hf_gnss, hp_6, hp_16, hp_17]

@[simp] theorem State.prepareFirst_only {my : May} {z0 : State} (s : State) (hs : Only my z0 s) (hf_regs : Field.regs ∈
    my.fields := by assumption) (hf_yew : Field.yew ∈ my.fields := by assumption) (hf_hirqLow : Field.hirqLow ∈ my.fields :=
    by assumption) (hf_time : Field.time ∈ my.fields := by assumption) (hp_6 : 6 ∈ my.pages := by assumption) (hp_18 : 18 ∈
    my.pages := by assumption) : Only my z0 (State.prepareFirst s) := by
  unfold State.prepareFirst
  dsimp only
  (repeat' split) <;> simp +contextual (maxDischargeDepth := 99) [hs, hf_regs, hf_yew, hf_hirqLow, hf_time, hp_6, hp_18]

@[simp] theorem State.solUsed_only {my : May} {z0 : State} (s : State) (h : Half) (sol : Solution) (ts : Option TimeSol) (hs
    : Only my z0 s) (hf_regs : Field.regs ∈ my.fields := by assumption) (hf_yew : Field.yew ∈ my.fields := by assumption)
    (hf_hq : Field.hq ∈ my.fields := by assumption) (hf_hirqLow : Field.hirqLow ∈ my.fields := by assumption) (hf_pose :
    Field.pose ∈ my.fields := by assumption) (hf_time : Field.time ∈ my.fields := by assumption) (hf_ports : Field.ports ∈
    my.fields := by assumption) (hf_ring : Field.ring ∈ my.fields := by assumption) (hp_4 : 4 ∈ my.pages := by assumption)
    (hp_6 : 6 ∈ my.pages := by assumption) (hp_16 : 16 ∈ my.pages := by assumption) (hp_17 : 17 ∈ my.pages := by assumption)
    (hp_18 : 18 ∈ my.pages := by assumption) : Only my z0 (State.solUsed s h sol ts) := by
  unfold State.solUsed
  dsimp only
  (repeat' split) <;> simp +contextual (maxDischargeDepth := 99) [hs, hf_regs, hf_yew, hf_hq, hf_hirqLow, hf_pose, hf_time,
                          hf_ports, hf_ring, hp_4, hp_6, hp_16, hp_17, hp_18]

@[simp] theorem State.recLaurel_only {my : May} {z0 : State} (s : State) (w h : Half) (c : RecCode) (hs : Only my z0 s)
    (hf_regs : Field.regs ∈ my.fields := by assumption) (hf_freeIdx : Field.freeIdx ∈ my.fields := by assumption) (hf_yew :
    Field.yew ∈ my.fields := by assumption) (hf_hirqLow : Field.hirqLow ∈ my.fields := by assumption) (hp_3 : 3 ∈ my.pages
    := by assumption) (hp_6 : 6 ∈ my.pages := by assumption) : Only my z0 (State.recLaurel s w h c) := by
  simp +contextual (maxDischargeDepth := 99) [State.recLaurel, hs, hf_regs, hf_freeIdx, hf_yew, hf_hirqLow, hp_3, hp_6]

@[simp] theorem State.quarantine_only {my : May} {z0 : State} (s : State) (h : Half) (step cause : Nat) (hs : Only my z0 s)
    (hf_regs : Field.regs ∈ my.fields := by assumption) (hf_yew : Field.yew ∈ my.fields := by assumption) (hf_hirqLow :
    Field.hirqLow ∈ my.fields := by assumption) (hf_laurel : Field.laurel ∈ my.fields := by assumption) (hf_gnss :
    Field.gnss ∈ my.fields := by assumption) (hp_3 : 3 ∈ my.pages := by assumption) (hp_6 : 6 ∈ my.pages := by assumption) :
    Only my z0 (State.quarantine s h step cause) := by
  simp +contextual (maxDischargeDepth := 99) [State.quarantine, hs, hf_regs, hf_yew, hf_hirqLow, hf_laurel, hf_gnss, hp_3,
      hp_6]

@[simp] theorem State.pathCheck_only {my : May} {z0 : State} (s : State) (p : Fin 2) (own other : List Bool) (hs : Only my
    z0 s) (hf_laurel : Field.laurel ∈ my.fields := by assumption) : Only my z0 (State.pathCheck s p own other) := by
  simp +contextual (maxDischargeDepth := 99) [State.pathCheck, hs, hf_laurel]

@[simp] theorem State.noCharge_only {my : May} {z0 : State} (s : State) (hs : Only my z0 s) (hf_laurel : Field.laurel ∈
    my.fields := by assumption) : Only my z0 (State.noCharge s) := by
  simp +contextual (maxDischargeDepth := 99) [State.noCharge, hs, hf_laurel]

@[simp] theorem State.declareStop_only {my : May} {z0 : State} (s : State) (hs : Only my z0 s) (hf_laurel : Field.laurel ∈
    my.fields := by assumption) : Only my z0 (State.declareStop s) := by
  simp +contextual (maxDischargeDepth := 99) [State.declareStop, hs, hf_laurel]

@[simp] theorem State.makeClaim_only {my : May} {z0 : State} (s : State) (h : Half) (hs : Only my z0 s) (hf_laurel :
    Field.laurel ∈ my.fields := by assumption) : Only my z0 (State.makeClaim s h) := by
  simp +contextual (maxDischargeDepth := 99) [State.makeClaim, hs, hf_laurel]

@[simp] theorem State.selfFault_only {my : May} {z0 : State} (s : State) (h : Half) (cause : Nat) (hs : Only my z0 s)
    (hf_laurel : Field.laurel ∈ my.fields := by assumption) : Only my z0 (State.selfFault s h cause) := by
  simp +contextual (maxDischargeDepth := 99) [State.selfFault, hs, hf_laurel]

@[simp] theorem State.writeToken_only {my : May} {z0 : State} (s : State) (h : Half) (e : Epoch) (hs : Only my z0 s)
    (hf_laurel : Field.laurel ∈ my.fields := by assumption) : Only my z0 (State.writeToken s h e) := by
  simp +contextual (maxDischargeDepth := 99) [State.writeToken, hs, hf_laurel]

@[simp] theorem State.claimIf_only {my : May} {z0 : State} (s : State) (h : Half) (hs : Only my z0 s) (hf_laurel :
    Field.laurel ∈ my.fields := by assumption) : Only my z0 (State.claimIf s h) := by
  simp +contextual (maxDischargeDepth := 99) [State.claimIf, hs, hf_laurel]

@[simp] theorem State.grantTo_only {my : May} {z0 : State} (s : State) (h : Half) (e : Epoch) (tie : Bool) (hs : Only my z0
    s) (hf_regs : Field.regs ∈ my.fields := by assumption) (hf_firstSeen : Field.firstSeen ∈ my.fields := by assumption)
    (hf_yew : Field.yew ∈ my.fields := by assumption) (hf_cmpl : Field.cmpl ∈ my.fields := by assumption) (hf_cmplWait :
    Field.cmplWait ∈ my.fields := by assumption) (hf_hirqLow : Field.hirqLow ∈ my.fields := by assumption) (hf_mbox :
    Field.mbox ∈ my.fields := by assumption) (hf_nor : Field.nor ∈ my.fields := by assumption) (hf_laurel : Field.laurel ∈
    my.fields := by assumption) (hf_lanes : Field.lanes ∈ my.fields := by assumption) (hf_pose : Field.pose ∈ my.fields :=
    by assumption) (hf_gnss : Field.gnss ∈ my.fields := by assumption) (hf_ports : Field.ports ∈ my.fields := by assumption)
    (hf_ring : Field.ring ∈ my.fields := by assumption) (hp_3 : 3 ∈ my.pages := by assumption) (hp_4 : 4 ∈ my.pages := by
    assumption) (hp_5 : 5 ∈ my.pages := by assumption) (hp_6 : 6 ∈ my.pages := by assumption) (hp_7 : 7 ∈ my.pages := by
    assumption) (hall : ∀ n : LaneIx, n ∈ my.lanes := by assumption) : Only my z0 (State.grantTo s h e tie) := by
  simp +contextual (maxDischargeDepth := 99) [State.grantTo, hs, hf_regs, hf_firstSeen, hf_yew, hf_cmpl, hf_cmplWait,
      hf_hirqLow, hf_mbox, hf_nor, hf_laurel, hf_lanes, hf_pose, hf_gnss, hf_ports, hf_ring, hp_3, hp_4, hp_5, hp_6, hp_7,
      hall]

@[simp] theorem State.refuseClaim_only {my : May} {z0 : State} (s : State) (c : Half × Epoch) (hs : Only my z0 s) (hf_regs :
    Field.regs ∈ my.fields := by assumption) (hf_freeIdx : Field.freeIdx ∈ my.fields := by assumption) (hf_firstSeen :
    Field.firstSeen ∈ my.fields := by assumption) (hf_yew : Field.yew ∈ my.fields := by assumption) (hf_hirqLow :
    Field.hirqLow ∈ my.fields := by assumption) (hp_3 : 3 ∈ my.pages := by assumption) (hp_6 : 6 ∈ my.pages := by
    assumption) : Only my z0 (State.refuseClaim s c) := by
  unfold State.refuseClaim
  dsimp only
  (repeat' split) <;> first
      | (simp +contextual (maxDischargeDepth := 99) [hs, hf_regs, hf_freeIdx, hf_firstSeen, hf_yew, hf_hirqLow, hp_3, hp_6]; done)
      | (rename_i e; have e' := congrArg (fun p => Only my z0 (Prod.snd p)) e; simp +contextual (maxDischargeDepth := 99) [hs, hf_regs, hf_freeIdx, hf_firstSeen, hf_yew, hf_hirqLow, hp_3, hp_6] at e'; simp +contextual (maxDischargeDepth := 99) [hs, hf_regs, hf_freeIdx, hf_firstSeen, hf_yew, hf_hirqLow, hp_3, hp_6, e']; done)

@[simp] theorem State.sendEpochAdv_only {my : May} {z0 : State} (s : State) (hs : Only my z0 s) (hf_regs : Field.regs ∈
    my.fields := by assumption) (hf_lanes : Field.lanes ∈ my.fields := by assumption) (hall : ∀ n : LaneIx, n ∈ my.lanes :=
    by assumption) : Only my z0 (State.sendEpochAdv s) := by
  simp +contextual (maxDischargeDepth := 99) [State.sendEpochAdv, hs, hf_regs, hf_lanes, hall]

@[simp] theorem State.repost_only {my : May} {z0 : State} (s : State) (n : LaneIx) (hs : Only my z0 s) (hf_regs : Field.regs
    ∈ my.fields := by assumption) (hf_yew : Field.yew ∈ my.fields := by assumption) (hf_hirqLow : Field.hirqLow ∈ my.fields
    := by assumption) (hf_lanes : Field.lanes ∈ my.fields := by assumption) (hf_fpe : Field.fpe ∈ my.fields := by
    assumption) (hp_6 : 6 ∈ my.pages := by assumption) (hp_28 : 28 ∈ my.pages := by assumption) (hl_n : n ∈ my.lanes := by
    assumption) : Only my z0 (State.repost s n) := by
  simp +contextual (maxDischargeDepth := 99) [State.repost, hs, hf_regs, hf_yew, hf_hirqLow, hf_lanes, hf_fpe, hp_6, hp_28,
      hl_n]

@[simp] theorem State.sendCtrl_only {my : May} {z0 : State} (s : State) (typ : Nat) (hs : Only my z0 s) (hf_regs :
    Field.regs ∈ my.fields := by assumption) (hf_ctrlDue : Field.ctrlDue ∈ my.fields := by assumption) (hf_lanes :
    Field.lanes ∈ my.fields := by assumption) (hall : ∀ n : LaneIx, n ∈ my.lanes := by assumption) : Only my z0
    (State.sendCtrl s typ) := by
  simp +contextual (maxDischargeDepth := 99) [State.sendCtrl, hs, hf_regs, hf_ctrlDue, hf_lanes, hall]

@[simp] theorem State.lateCtrl_only {my : May} {z0 : State} (s : State) (hs : Only my z0 s) (hf_regs : Field.regs ∈
    my.fields := by assumption) (hf_ctrlDue : Field.ctrlDue ∈ my.fields := by assumption) (hf_lanes : Field.lanes ∈
    my.fields := by assumption) (hall : ∀ n : LaneIx, n ∈ my.lanes := by assumption) : Only my z0 (State.lateCtrl s) := by
  simp +contextual (maxDischargeDepth := 99) [State.lateCtrl, hs, hf_regs, hf_ctrlDue, hf_lanes, hall]

@[simp] theorem State.handover_only {my : May} {z0 : State} (s : State) (hs : Only my z0 s) (hf_regs : Field.regs ∈
    my.fields := by assumption) (hf_laurel : Field.laurel ∈ my.fields := by assumption) (hp_3 : 3 ∈ my.pages := by
    assumption) : Only my z0 (State.handover s) := by
  unfold State.handover
  dsimp only
  (repeat' split) <;> simp +contextual (maxDischargeDepth := 99) [hs, hf_regs, hf_laurel, hp_3]

@[simp] theorem State.applyIdent_only {my : May} {z0 : State} (s : State) (step result : Nat) (hs : Only my z0 s) (hf_regs :
    Field.regs ∈ my.fields := by assumption) (hf_yew : Field.yew ∈ my.fields := by assumption) (hf_hirqLow : Field.hirqLow ∈
    my.fields := by assumption) (hf_laurel : Field.laurel ∈ my.fields := by assumption) (hf_gnss : Field.gnss ∈ my.fields :=
    by assumption) (hp_3 : 3 ∈ my.pages := by assumption) (hp_6 : 6 ∈ my.pages := by assumption) : Only my z0
    (State.applyIdent s step result) := by
  simp +contextual (maxDischargeDepth := 99) [State.applyIdent, hs, hf_regs, hf_yew, hf_hirqLow, hf_laurel, hf_gnss, hp_3,
      hp_6]

@[simp] theorem State.katFail_only {my : May} {z0 : State} (s : State) (h : Half) (hs : Only my z0 s) (hf_regs : Field.regs
    ∈ my.fields := by assumption) (hf_freeIdx : Field.freeIdx ∈ my.fields := by assumption) (hf_yew : Field.yew ∈ my.fields
    := by assumption) (hf_hirqLow : Field.hirqLow ∈ my.fields := by assumption) (hf_laurel : Field.laurel ∈ my.fields := by
    assumption) (hp_3 : 3 ∈ my.pages := by assumption) (hp_6 : 6 ∈ my.pages := by assumption) : Only my z0 (State.katFail s
    h) := by
  simp +contextual (maxDischargeDepth := 99) [State.katFail, hs, hf_regs, hf_freeIdx, hf_yew, hf_hirqLow, hf_laurel, hp_3,
      hp_6]

@[simp] theorem State.kat_only {my : May} {z0 : State} (s : State) (okA okB : Bool) (hs : Only my z0 s) (hf_regs :
    Field.regs ∈ my.fields := by assumption) (hf_freeIdx : Field.freeIdx ∈ my.fields := by assumption) (hf_yew : Field.yew ∈
    my.fields := by assumption) (hf_hirqLow : Field.hirqLow ∈ my.fields := by assumption) (hf_laurel : Field.laurel ∈
    my.fields := by assumption) (hf_gnss : Field.gnss ∈ my.fields := by assumption) (hp_3 : 3 ∈ my.pages := by assumption)
    (hp_6 : 6 ∈ my.pages := by assumption) : Only my z0 (State.kat s okA okB) := by
  simp +contextual (maxDischargeDepth := 99) [State.kat, hs, hf_regs, hf_freeIdx, hf_yew, hf_hirqLow, hf_laurel, hf_gnss,
      hp_3, hp_6]

@[simp] theorem State.rejoin_only {my : May} {z0 : State} (s : State) (h : Half) (hs : Only my z0 s) (hf_regs : Field.regs ∈
    my.fields := by assumption) (hf_yew : Field.yew ∈ my.fields := by assumption) (hf_laurel : Field.laurel ∈ my.fields :=
    by assumption) (hp_3 : 3 ∈ my.pages := by assumption) : Only my z0 (State.rejoin s h) := by
  simp +contextual (maxDischargeDepth := 99) [State.rejoin, hs, hf_regs, hf_yew, hf_laurel, hp_3]

@[simp] theorem State.bootRoles_only {my : May} {z0 : State} (s : State) (okA okB : Bool) (hs : Only my z0 s) (hf_laurel :
    Field.laurel ∈ my.fields := by assumption) : Only my z0 (State.bootRoles s okA okB) := by
  simp +contextual (maxDischargeDepth := 99) [State.bootRoles, hs, hf_laurel]

end Sys2Proof.Machine
end

