-- ==== Sys2Proof/Laws/OnlyHost.lean ====
section
/-! SUPPORT. What the operations of the host port, register accesses, start-up, sealing, fences and ring reception may change, under the hypotheses that name it. -/
set_option maxRecDepth 4000
set_option linter.unusedSimpArgs false
set_option linter.unusedVariables false
namespace Sys2Proof.Machine

set_option Elab.async false

@[simp] theorem State.holdPages_only {my : May} {z0 : State} (s : State) (n : LaneIx) (hs : Only my z0 s) (hf_held :
    Field.held ∈ my.fields := by assumption) : Only my z0 (State.holdPages s n) := by
  simp +contextual (maxDischargeDepth := 99) [State.holdPages, hs, hf_held]

@[simp] theorem State.setFenceBit_only {my : May} {z0 : State} (s : State) (n : LaneIx) (b : Bool) (hs : Only my z0 s)
    (hf_regs : Field.regs ∈ my.fields := by assumption) (hp_0 : 0 ∈ my.pages := by assumption) : Only my z0
    (State.setFenceBit s n b) := by
  simp +contextual (maxDischargeDepth := 99) [State.setFenceBit, hs, hf_regs, hp_0]

@[simp] theorem State.fenceReport_only {my : May} {z0 : State} (s : State) (n : LaneIx) (cause : FenceCause) (hs : Only my
    z0 s) (hf_regs : Field.regs ∈ my.fields := by assumption) (hf_yew : Field.yew ∈ my.fields := by assumption) (hf_hirqLow
    : Field.hirqLow ∈ my.fields := by assumption) (hp_0 : 0 ∈ my.pages := by assumption) (hp_6 : 6 ∈ my.pages := by
    assumption) (hl_n : n ∈ my.lanes := by assumption) : Only my z0 (State.fenceReport s n cause) := by
  unfold State.fenceReport
  dsimp only
  simp only [lanePages, overList, List.foldl_cons, List.foldl_nil]
  simp +contextual (maxDischargeDepth := 99) [hs, hf_regs, hf_yew, hf_hirqLow, hp_0, hp_6, hl_n]

@[simp] theorem State.fenceNow_only {my : May} {z0 : State} (s : State) (n : LaneIx) (cause : FenceCause) (hs : Only my z0
    s) (hf_regs : Field.regs ∈ my.fields := by assumption) (hf_held : Field.held ∈ my.fields := by assumption) (hf_yew :
    Field.yew ∈ my.fields := by assumption) (hf_hirqLow : Field.hirqLow ∈ my.fields := by assumption) (hf_lanes :
    Field.lanes ∈ my.fields := by assumption) (hf_banks : Field.banks ∈ my.fields := by assumption) (hf_pwm : Field.pwm ∈
    my.fields := by assumption) (hf_eng : Field.eng ∈ my.fields := by assumption) (hf_fbk : Field.fbk ∈ my.fields := by
    assumption) (hf_fpe : Field.fpe ∈ my.fields := by assumption) (hp_0 : 0 ∈ my.pages := by assumption) (hp_6 : 6 ∈
    my.pages := by assumption) (hl_n : n ∈ my.lanes := by assumption) : Only my z0 (State.fenceNow s n cause) := by
  simp +contextual (maxDischargeDepth := 99) [State.fenceNow, hs, hf_regs, hf_held, hf_yew, hf_hirqLow, hf_lanes, hf_banks,
      hf_pwm, hf_eng, hf_fbk, hf_fpe, hp_0, hp_6, hl_n]

@[simp] theorem State.unfence_only {my : May} {z0 : State} (s : State) (n : LaneIx) (hs : Only my z0 s) (hf_regs :
    Field.regs ∈ my.fields := by assumption) (hf_held : Field.held ∈ my.fields := by assumption) (hf_lanes : Field.lanes ∈
    my.fields := by assumption) (hf_banks : Field.banks ∈ my.fields := by assumption) (hf_pwm : Field.pwm ∈ my.fields := by
    assumption) (hf_eng : Field.eng ∈ my.fields := by assumption) (hf_fbk : Field.fbk ∈ my.fields := by assumption) (hl_n :
    n ∈ my.lanes := by assumption) : Only my z0 (State.unfence s n) := by
  simp +contextual (maxDischargeDepth := 99) [State.unfence, hs, hf_regs, hf_held, hf_lanes, hf_banks, hf_pwm, hf_eng,
      hf_fbk, hl_n]

@[simp] theorem State.staysFenced_only {my : May} {z0 : State} (s : State) (n : LaneIx) (hs : Only my z0 s) (hf_regs :
    Field.regs ∈ my.fields := by assumption) (hf_yew : Field.yew ∈ my.fields := by assumption) (hf_hirqLow : Field.hirqLow ∈
    my.fields := by assumption) (hf_lanes : Field.lanes ∈ my.fields := by assumption) (hp_0 : 0 ∈ my.pages := by assumption)
    (hp_6 : 6 ∈ my.pages := by assumption) (hl_n : n ∈ my.lanes := by assumption) : Only my z0 (State.staysFenced s n) := by
  simp +contextual (maxDischargeDepth := 99) [State.staysFenced, hs, hf_regs, hf_yew, hf_hirqLow, hf_lanes, hp_0, hp_6,
      hl_n]

@[simp] theorem State.settleSafe_only {my : May} {z0 : State} (s : State) (hs : Only my z0 s) (hf_regs : Field.regs ∈
    my.fields := by assumption) (hf_yew : Field.yew ∈ my.fields := by assumption) (hf_hirqLow : Field.hirqLow ∈ my.fields :=
    by assumption) (hf_lanes : Field.lanes ∈ my.fields := by assumption) (hf_banks : Field.banks ∈ my.fields := by
    assumption) (hf_pwm : Field.pwm ∈ my.fields := by assumption) (hf_eng : Field.eng ∈ my.fields := by assumption) (hp_6 :
    6 ∈ my.pages := by assumption) (hall : ∀ n : LaneIx, n ∈ my.lanes := by assumption) : Only my z0 (State.settleSafe s) :=
    by
  simp +contextual (maxDischargeDepth := 99) [State.settleSafe, hs, hf_regs, hf_yew, hf_hirqLow, hf_lanes, hf_banks, hf_pwm,
      hf_eng, hp_6, hall]

@[simp] theorem State.releaseSafe_only {my : May} {z0 : State} (s : State) (hs : Only my z0 s) (hf_lanes : Field.lanes ∈
    my.fields := by assumption) (hf_pwm : Field.pwm ∈ my.fields := by assumption) (hall : ∀ n : LaneIx, n ∈ my.lanes := by
    assumption) : Only my z0 (State.releaseSafe s) := by
  simp +contextual (maxDischargeDepth := 99) [State.releaseSafe, hs, hf_lanes, hf_pwm, hall]

@[simp] theorem State.writeFence_only {my : May} {z0 : State} (s : State) (v : Nat) (hs : Only my z0 s) (hf_regs :
    Field.regs ∈ my.fields := by assumption) (hf_held : Field.held ∈ my.fields := by assumption) (hf_yew : Field.yew ∈
    my.fields := by assumption) (hf_hirqLow : Field.hirqLow ∈ my.fields := by assumption) (hf_lanes : Field.lanes ∈
    my.fields := by assumption) (hf_banks : Field.banks ∈ my.fields := by assumption) (hf_pwm : Field.pwm ∈ my.fields := by
    assumption) (hf_eng : Field.eng ∈ my.fields := by assumption) (hf_fbk : Field.fbk ∈ my.fields := by assumption) (hf_fpe
    : Field.fpe ∈ my.fields := by assumption) (hp_0 : 0 ∈ my.pages := by assumption) (hp_6 : 6 ∈ my.pages := by assumption)
    (hall : ∀ n : LaneIx, n ∈ my.lanes := by assumption) : Only my z0 (State.writeFence s v) := by
  simp +contextual (maxDischargeDepth := 99) [State.writeFence, hs, hf_regs, hf_held, hf_yew, hf_hirqLow, hf_lanes,
      hf_banks, hf_pwm, hf_eng, hf_fbk, hf_fpe, hp_0, hp_6, hall]

@[simp] theorem State.sealStat_only {my : May} {z0 : State} (s : State) (result cause page off : Nat) (hs : Only my z0 s)
    (hf_regs : Field.regs ∈ my.fields := by assumption) (hf_hirqLow : Field.hirqLow ∈ my.fields := by assumption) (hp_0 : 0
    ∈ my.pages := by assumption) : Only my z0 (State.sealStat s result cause page off) := by
  simp +contextual (maxDischargeDepth := 99) [State.sealStat, hs, hf_regs, hf_hirqLow, hp_0]

@[simp] theorem State.sealFailed_only {my : May} {z0 : State} (s : State) (cause page off : Nat) (hs : Only my z0 s)
    (hf_regs : Field.regs ∈ my.fields := by assumption) (hf_checking : Field.checking ∈ my.fields := by assumption) (hf_yew
    : Field.yew ∈ my.fields := by assumption) (hf_hirqLow : Field.hirqLow ∈ my.fields := by assumption) (hp_0 : 0 ∈ my.pages
    := by assumption) (hp_6 : 6 ∈ my.pages := by assumption) : Only my z0 (State.sealFailed s cause page off) := by
  simp +contextual (maxDischargeDepth := 99) [State.sealFailed, hs, hf_regs, hf_checking, hf_yew, hf_hirqLow, hp_0, hp_6]

@[simp] theorem State.pageCrcs_only {my : May} {z0 : State} (s : State) (snap : State) (hs : Only my z0 s) (hany : (∀ a,
    my.reg a) ∧ ∀ p, my.page p := by assumption) (hf_regs : Field.regs ∈ my.fields := by assumption) : Only my z0
    (State.pageCrcs s snap) := by
  simp +contextual (maxDischargeDepth := 99) [State.pageCrcs, hs, hany, hf_regs]

@[simp] theorem State.sealEffects_only {my : May} {z0 : State} (s : State) (leave : LaneIx → Bool) (retrain : BitVec 16) (hs
    : Only my z0 s) (hf_regs : Field.regs ∈ my.fields := by assumption) (hf_held : Field.held ∈ my.fields := by assumption)
    (hf_yew : Field.yew ∈ my.fields := by assumption) (hf_hirqLow : Field.hirqLow ∈ my.fields := by assumption) (hf_lanes :
    Field.lanes ∈ my.fields := by assumption) (hf_banks : Field.banks ∈ my.fields := by assumption) (hf_pwm : Field.pwm ∈
    my.fields := by assumption) (hf_eng : Field.eng ∈ my.fields := by assumption) (hf_fbk : Field.fbk ∈ my.fields := by
    assumption) (hf_fpe : Field.fpe ∈ my.fields := by assumption) (hp_0 : 0 ∈ my.pages := by assumption) (hp_6 : 6 ∈
    my.pages := by assumption) (hall : ∀ n : LaneIx, n ∈ my.lanes := by assumption) : Only my z0 (State.sealEffects s leave
    retrain) := by
  simp +contextual (maxDischargeDepth := 99) [State.sealEffects, hs, hf_regs, hf_held, hf_yew, hf_hirqLow, hf_lanes,
      hf_banks, hf_pwm, hf_eng, hf_fbk, hf_fpe, hp_0, hp_6, hall]

@[simp] theorem State.sealPassed_only {my : May} {z0 : State} (s : State) (leave : LaneIx → Bool) (retrain : BitVec 16) (hs
    : Only my z0 s) (hf_dev : Field.dev ∈ my.fields := by assumption) (hf_prev : Field.prev ∈ my.fields := by assumption)
    (hf_devAt : Field.devAt ∈ my.fields := by assumption) (hf_devLog : Field.devLog ∈ my.fields := by assumption) (hf_regs :
    Field.regs ∈ my.fields := by assumption) (hf_held : Field.held ∈ my.fields := by assumption) (hf_idleDrain :
    Field.idleDrain ∈ my.fields := by assumption) (hf_checking : Field.checking ∈ my.fields := by assumption) (hf_yew :
    Field.yew ∈ my.fields := by assumption) (hf_hirqLow : Field.hirqLow ∈ my.fields := by assumption) (hf_lanes :
    Field.lanes ∈ my.fields := by assumption) (hf_banks : Field.banks ∈ my.fields := by assumption) (hf_pwm : Field.pwm ∈
    my.fields := by assumption) (hf_eng : Field.eng ∈ my.fields := by assumption) (hf_fbk : Field.fbk ∈ my.fields := by
    assumption) (hf_fpe : Field.fpe ∈ my.fields := by assumption) (hp_0 : 0 ∈ my.pages := by assumption) (hp_6 : 6 ∈
    my.pages := by assumption) (hall : ∀ n : LaneIx, n ∈ my.lanes := by assumption) : Only my z0 (State.sealPassed s leave
    retrain) := by
  simp +contextual (maxDischargeDepth := 99) [State.sealPassed, hs, hf_dev, hf_prev, hf_devAt, hf_devLog, hf_regs, hf_held,
      hf_idleDrain, hf_checking, hf_yew, hf_hirqLow, hf_lanes, hf_banks, hf_pwm, hf_eng, hf_fbk, hf_fpe, hp_0, hp_6, hall]

@[simp] theorem State.writeSeal_only {my : May} {z0 : State} (s : State) (crc : Word) (hs : Only my z0 s) (hf_regs :
    Field.regs ∈ my.fields := by assumption) (hf_checking : Field.checking ∈ my.fields := by assumption) (hf_sealExp :
    Field.sealExp ∈ my.fields := by assumption) (hf_sealSnap : Field.sealSnap ∈ my.fields := by assumption) (hf_sealFail :
    Field.sealFail ∈ my.fields := by assumption) (hp_0 : 0 ∈ my.pages := by assumption) : Only my z0 (State.writeSeal s crc)
    := by
  unfold State.writeSeal
  dsimp only
  (repeat' split) <;> simp +contextual (maxDischargeDepth := 99) [hs, hf_regs, hf_checking, hf_sealExp, hf_sealSnap,
                          hf_sealFail, hp_0]

@[simp] theorem State.writeFields_only {my : May} {z0 : State} (s : State) (p : Nat) (d : RegDef) (o : Nat) (v : Word) (hs :
    Only my z0 s) (hany : (∀ a, my.reg a) ∧ ∀ p, my.page p := by assumption) (hf_regs : Field.regs ∈ my.fields := by
    assumption) : Only my z0 (State.writeFields s p d o v) := by
  simp +contextual (maxDischargeDepth := 99) [State.writeFields, hs, hany, hf_regs]

@[simp] theorem State.cfgSide_only {my : May} {z0 : State} (s : State) (k : PageKind) (i o : Nat) (was : Nat) (hs : Only my
    z0 s) (hf_regs : Field.regs ∈ my.fields := by assumption) (hf_yew : Field.yew ∈ my.fields := by assumption) (hf_hirqLow
    : Field.hirqLow ∈ my.fields := by assumption) (hf_pwm : Field.pwm ∈ my.fields := by assumption) (hf_fbk : Field.fbk ∈
    my.fields := by assumption) (hf_imu : Field.imu ∈ my.fields := by assumption) (hp_6 : 6 ∈ my.pages := by assumption)
    (hp_19 : 19 ∈ my.pages := by assumption) (hall : ∀ n : LaneIx, n ∈ my.lanes := by assumption) : Only my z0
    (State.cfgSide s k i o was) := by
  simp +contextual (maxDischargeDepth := 99) [State.cfgSide, hs, hf_regs, hf_yew, hf_hirqLow, hf_pwm, hf_fbk, hf_imu, hp_6,
      hp_19, hall]

@[simp] theorem State.writeCfg_only {my : May} {z0 : State} (s : State) (p : Nat) (k : PageKind) (i o : Nat) (v : Word) (hs
    : Only my z0 s) (hany : (∀ a, my.reg a) ∧ ∀ p, my.page p := by assumption) (hf_regs : Field.regs ∈ my.fields := by
    assumption) (hf_yew : Field.yew ∈ my.fields := by assumption) (hf_hirqLow : Field.hirqLow ∈ my.fields := by assumption)
    (hf_pwm : Field.pwm ∈ my.fields := by assumption) (hf_fbk : Field.fbk ∈ my.fields := by assumption) (hf_imu : Field.imu
    ∈ my.fields := by assumption) (hp_6 : 6 ∈ my.pages := by assumption) (hp_19 : 19 ∈ my.pages := by assumption) (hall : ∀
    n : LaneIx, n ∈ my.lanes := by assumption) : Only my z0 (State.writeCfg s p k i o v).1 := by
  unfold State.writeCfg
  (repeat' split) <;> simp_all +contextual (maxDischargeDepth := 99)

@[simp] theorem State.applyRec_only {my : May} {z0 : State} (s : State) (r : CfgRec) (hs : Only my z0 s) (hany : (∀ a,
    my.reg a) ∧ ∀ p, my.page p := by assumption) (hf_regs : Field.regs ∈ my.fields := by assumption) (hf_yew : Field.yew ∈
    my.fields := by assumption) (hf_hirqLow : Field.hirqLow ∈ my.fields := by assumption) (hf_pwm : Field.pwm ∈ my.fields :=
    by assumption) (hf_fbk : Field.fbk ∈ my.fields := by assumption) (hf_imu : Field.imu ∈ my.fields := by assumption) (hp_6
    : 6 ∈ my.pages := by assumption) (hp_19 : 19 ∈ my.pages := by assumption) (hall : ∀ n : LaneIx, n ∈ my.lanes := by
    assumption) : Only my z0 (s.applyRec r) := by
  unfold State.applyRec
  split
  · exact hs
  · exact foldl_fst_only _ _ _ hs (fun w x hw => State.writeCfg_only _ _ _ _ _ _ hw)

@[simp] theorem State.clocksOk_only {my : May} {z0 : State} (s : State) (hs : Only my z0 s) (hf_regs : Field.regs ∈
    my.fields := by assumption) (hp_1 : 1 ∈ my.pages := by assumption) : Only my z0 (State.clocksOk s) := by
  simp +contextual (maxDischargeDepth := 99) [State.clocksOk, hs, hf_regs, hp_1]

@[simp] theorem State.enterBoot_only {my : May} {z0 : State} (s : State) (straps lockUs : Nat) (hs : Only my z0 s) (hf_dev :
    Field.dev ∈ my.fields := by assumption) (hf_prev : Field.prev ∈ my.fields := by assumption) (hf_devAt : Field.devAt ∈
    my.fields := by assumption) (hf_devLog : Field.devLog ∈ my.fields := by assumption) (hf_regs : Field.regs ∈ my.fields :=
    by assumption) (hf_yew : Field.yew ∈ my.fields := by assumption) (hf_hirqLow : Field.hirqLow ∈ my.fields := by
    assumption) (hf_ring : Field.ring ∈ my.fields := by assumption) (hp_0 : 0 ∈ my.pages := by assumption) (hp_1 : 1 ∈
    my.pages := by assumption) (hp_6 : 6 ∈ my.pages := by assumption) : Only my z0 (State.enterBoot s straps lockUs) := by
  simp +contextual (maxDischargeDepth := 99) [State.enterBoot, hs, hf_dev, hf_prev, hf_devAt, hf_devLog, hf_regs, hf_yew,
      hf_hirqLow, hf_ring, hp_0, hp_1, hp_6]

@[simp] theorem State.refuseRun_only {my : May} {z0 : State} (s : State) (hs : Only my z0 s) (hf_regs : Field.regs ∈
    my.fields := by assumption) (hp_0 : 0 ∈ my.pages := by assumption) : Only my z0 (State.refuseRun s) := by
  simp +contextual (maxDischargeDepth := 99) [State.refuseRun, hs, hf_regs, hp_0]

@[simp] theorem State.bootHalves_only {my : May} {z0 : State} (s : State) (okA okB : Bool) (hs : Only my z0 s) (hf_regs :
    Field.regs ∈ my.fields := by assumption) (hf_yew : Field.yew ∈ my.fields := by assumption) (hf_hirqLow : Field.hirqLow ∈
    my.fields := by assumption) (hf_laurel : Field.laurel ∈ my.fields := by assumption) (hf_gnss : Field.gnss ∈ my.fields :=
    by assumption) (hp_3 : 3 ∈ my.pages := by assumption) (hp_6 : 6 ∈ my.pages := by assumption) : Only my z0
    (State.bootHalves s okA okB) := by
  simp +contextual (maxDischargeDepth := 99) [State.bootHalves, hs, hf_regs, hf_yew, hf_hirqLow, hf_laurel, hf_gnss, hp_3,
      hp_6]

@[simp] theorem State.bootLanes_only {my : May} {z0 : State} (s : State) (r : BootResult) (hs : Only my z0 s) (hf_regs :
    Field.regs ∈ my.fields := by assumption) (hf_held : Field.held ∈ my.fields := by assumption) (hf_yew : Field.yew ∈
    my.fields := by assumption) (hf_hirqLow : Field.hirqLow ∈ my.fields := by assumption) (hf_lanes : Field.lanes ∈
    my.fields := by assumption) (hf_banks : Field.banks ∈ my.fields := by assumption) (hf_pwm : Field.pwm ∈ my.fields := by
    assumption) (hf_eng : Field.eng ∈ my.fields := by assumption) (hf_fbk : Field.fbk ∈ my.fields := by assumption) (hf_fpe
    : Field.fpe ∈ my.fields := by assumption) (hp_0 : 0 ∈ my.pages := by assumption) (hp_6 : 6 ∈ my.pages := by assumption)
    (hall : ∀ n : LaneIx, n ∈ my.lanes := by assumption) : Only my z0 (State.bootLanes s r) := by
  simp +contextual (maxDischargeDepth := 99) [State.bootLanes, hs, hf_regs, hf_held, hf_yew, hf_hirqLow, hf_lanes, hf_banks,
      hf_pwm, hf_eng, hf_fbk, hf_fpe, hp_0, hp_6, hall]

@[simp] theorem State.repairDir_only {my : May} {z0 : State} (s : State) (i : Nat) (d : Dir399) (hs : Only my z0 s) (hf_regs
    : Field.regs ∈ my.fields := by assumption) (hf_yew : Field.yew ∈ my.fields := by assumption) (hf_hirqLow : Field.hirqLow
    ∈ my.fields := by assumption) (hf_nor : Field.nor ∈ my.fields := by assumption) (hp_6 : 6 ∈ my.pages := by assumption)
    (hp_7 : 7 ∈ my.pages := by assumption) : Only my z0 (State.repairDir s i d) := by
  simp +contextual (maxDischargeDepth := 99) [State.repairDir, hs, hf_regs, hf_yew, hf_hirqLow, hf_nor, hp_6, hp_7]

@[simp] theorem State.bootNor_only {my : May} {z0 : State} (s : State) (r : BootResult) (hs : Only my z0 s) (hf_regs :
    Field.regs ∈ my.fields := by assumption) (hf_yew : Field.yew ∈ my.fields := by assumption) (hf_hirqLow : Field.hirqLow ∈
    my.fields := by assumption) (hf_nor : Field.nor ∈ my.fields := by assumption) (hp_0 : 0 ∈ my.pages := by assumption)
    (hp_6 : 6 ∈ my.pages := by assumption) (hp_7 : 7 ∈ my.pages := by assumption) : Only my z0 (State.bootNor s r) := by
  unfold State.bootNor
  dsimp only
  (repeat' split) <;> simp +contextual (maxDischargeDepth := 99) [hs, hf_regs, hf_yew, hf_hirqLow, hf_nor, hp_0, hp_6, hp_7]

@[simp] theorem State.bootPatch_only {my : May} {z0 : State} (s : State) (hs : Only my z0 s) (hf_regs : Field.regs ∈
    my.fields := by assumption) (hf_patchOk : Field.patchOk ∈ my.fields := by assumption) (hf_yew : Field.yew ∈ my.fields :=
    by assumption) (hf_hirqLow : Field.hirqLow ∈ my.fields := by assumption) (hf_nor : Field.nor ∈ my.fields := by
    assumption) (hp_0 : 0 ∈ my.pages := by assumption) (hp_6 : 6 ∈ my.pages := by assumption) (hp_7 : 7 ∈ my.pages := by
    assumption) : Only my z0 (State.bootPatch s) := by
  simp +contextual (maxDischargeDepth := 99) [State.bootPatch, hs, hf_regs, hf_patchOk, hf_yew, hf_hirqLow, hf_nor, hp_0,
      hp_6, hp_7]

@[simp] theorem State.imageBad_only {my : May} {z0 : State} (s : State) (k : Nat) (hs : Only my z0 s) (hf_regs : Field.regs
    ∈ my.fields := by assumption) (hf_yew : Field.yew ∈ my.fields := by assumption) (hf_hirqLow : Field.hirqLow ∈ my.fields
    := by assumption) (hp_0 : 0 ∈ my.pages := by assumption) (hp_6 : 6 ∈ my.pages := by assumption) : Only my z0
    (State.imageBad s k) := by
  simp +contextual (maxDischargeDepth := 99) [State.imageBad, hs, hf_regs, hf_yew, hf_hirqLow, hp_0, hp_6]

@[simp] theorem State.imageSeal_only {my : May} {z0 : State} (s : State) (crc : Word) (hs : Only my z0 s) (hany : (∀ a,
    my.reg a) ∧ ∀ p, my.page p := by assumption) (hf_dev : Field.dev ∈ my.fields := by assumption) (hf_prev : Field.prev ∈
    my.fields := by assumption) (hf_devAt : Field.devAt ∈ my.fields := by assumption) (hf_devLog : Field.devLog ∈ my.fields
    := by assumption) (hf_regs : Field.regs ∈ my.fields := by assumption) (hf_held : Field.held ∈ my.fields := by
    assumption) (hf_idleDrain : Field.idleDrain ∈ my.fields := by assumption) (hf_checking : Field.checking ∈ my.fields :=
    by assumption) (hf_yew : Field.yew ∈ my.fields := by assumption) (hf_hirqLow : Field.hirqLow ∈ my.fields := by
    assumption) (hf_lanes : Field.lanes ∈ my.fields := by assumption) (hf_banks : Field.banks ∈ my.fields := by assumption)
    (hf_pwm : Field.pwm ∈ my.fields := by assumption) (hf_eng : Field.eng ∈ my.fields := by assumption) (hf_fbk : Field.fbk
    ∈ my.fields := by assumption) (hf_fpe : Field.fpe ∈ my.fields := by assumption) (hp_0 : 0 ∈ my.pages := by assumption)
    (hp_6 : 6 ∈ my.pages := by assumption) (hall : ∀ n : LaneIx, n ∈ my.lanes := by assumption) : Only my z0
    (State.imageSeal s crc) := by
  unfold State.imageSeal
  dsimp only
  (repeat' split) <;> simp +contextual (maxDischargeDepth := 99) [hs, hany, hf_dev, hf_prev, hf_devAt, hf_devLog, hf_regs,
                          hf_held, hf_idleDrain, hf_checking, hf_yew, hf_hirqLow, hf_lanes, hf_banks, hf_pwm, hf_eng,
                          hf_fbk, hf_fpe, hp_0, hp_6, hall]

@[simp] theorem State.bootImage_only {my : May} {z0 : State} (s : State) (hs : Only my z0 s) (hany : (∀ a, my.reg a) ∧ ∀ p,
    my.page p := by assumption) (hf_dev : Field.dev ∈ my.fields := by assumption) (hf_prev : Field.prev ∈ my.fields := by
    assumption) (hf_devAt : Field.devAt ∈ my.fields := by assumption) (hf_devLog : Field.devLog ∈ my.fields := by
    assumption) (hf_regs : Field.regs ∈ my.fields := by assumption) (hf_held : Field.held ∈ my.fields := by assumption)
    (hf_idleDrain : Field.idleDrain ∈ my.fields := by assumption) (hf_checking : Field.checking ∈ my.fields := by
    assumption) (hf_yew : Field.yew ∈ my.fields := by assumption) (hf_hirqLow : Field.hirqLow ∈ my.fields := by assumption)
    (hf_lanes : Field.lanes ∈ my.fields := by assumption) (hf_banks : Field.banks ∈ my.fields := by assumption) (hf_pwm :
    Field.pwm ∈ my.fields := by assumption) (hf_eng : Field.eng ∈ my.fields := by assumption) (hf_fbk : Field.fbk ∈
    my.fields := by assumption) (hf_imu : Field.imu ∈ my.fields := by assumption) (hf_fpe : Field.fpe ∈ my.fields := by
    assumption) (hp_0 : 0 ∈ my.pages := by assumption) (hp_6 : 6 ∈ my.pages := by assumption) (hp_19 : 19 ∈ my.pages := by
    assumption) (hall : ∀ n : LaneIx, n ∈ my.lanes := by assumption) : Only my z0 (State.bootImage s) := by
  unfold State.bootImage
  dsimp only
  (repeat' split) <;> simp +contextual (maxDischargeDepth := 99) [hs, hany, hf_dev, hf_prev, hf_devAt, hf_devLog, hf_regs,
                          hf_held, hf_idleDrain, hf_checking, hf_yew, hf_hirqLow, hf_lanes, hf_banks, hf_pwm, hf_eng,
                          hf_fbk, hf_imu, hf_fpe, hp_0, hp_6, hp_19, hall]

@[simp] theorem State.bootPfail_only {my : May} {z0 : State} (s : State) (hs : Only my z0 s) (hf_regs : Field.regs ∈
    my.fields := by assumption) (hf_yew : Field.yew ∈ my.fields := by assumption) (hf_yewPort : Field.yewPort ∈ my.fields :=
    by assumption) (hf_hirqLow : Field.hirqLow ∈ my.fields := by assumption) (hp_6 : 6 ∈ my.pages := by assumption) : Only
    my z0 (State.bootPfail s) := by
  simp +contextual (maxDischargeDepth := 99) [State.bootPfail, hs, hf_regs, hf_yew, hf_yewPort, hf_hirqLow, hp_6]

@[simp] theorem State.bootToken_only {my : May} {z0 : State} (s : State) (r : BootResult) (hs : Only my z0 s) (hf_regs :
    Field.regs ∈ my.fields := by assumption) (hf_freeIdx : Field.freeIdx ∈ my.fields := by assumption) (hf_laurel :
    Field.laurel ∈ my.fields := by assumption) (hf_lanes : Field.lanes ∈ my.fields := by assumption) (hf_ports : Field.ports
    ∈ my.fields := by assumption) (hf_ring : Field.ring ∈ my.fields := by assumption) (hp_8 : 8 ∈ my.pages := by assumption)
    (hp_9 : 9 ∈ my.pages := by assumption) (hall : ∀ n : LaneIx, n ∈ my.lanes := by assumption) : Only my z0
    (State.bootToken s r) := by
  simp +contextual (maxDischargeDepth := 99) [State.bootToken, hs, hf_regs, hf_freeIdx, hf_laurel, hf_lanes, hf_ports,
      hf_ring, hp_8, hp_9, hall]

@[simp] theorem State.bootExit_only {my : May} {z0 : State} (s : State) (r : BootResult) (hs : Only my z0 s) (hany : (∀ a,
    my.reg a) ∧ ∀ p, my.page p := by assumption) (hf_dev : Field.dev ∈ my.fields := by assumption) (hf_prev : Field.prev ∈
    my.fields := by assumption) (hf_devAt : Field.devAt ∈ my.fields := by assumption) (hf_devLog : Field.devLog ∈ my.fields
    := by assumption) (hf_regs : Field.regs ∈ my.fields := by assumption) (hf_held : Field.held ∈ my.fields := by
    assumption) (hf_freeIdx : Field.freeIdx ∈ my.fields := by assumption) (hf_idleDrain : Field.idleDrain ∈ my.fields := by
    assumption) (hf_patchOk : Field.patchOk ∈ my.fields := by assumption) (hf_checking : Field.checking ∈ my.fields := by
    assumption) (hf_romFail : Field.romFail ∈ my.fields := by assumption) (hf_yew : Field.yew ∈ my.fields := by assumption)
    (hf_yewPort : Field.yewPort ∈ my.fields := by assumption) (hf_hirqLow : Field.hirqLow ∈ my.fields := by assumption)
    (hf_nor : Field.nor ∈ my.fields := by assumption) (hf_laurel : Field.laurel ∈ my.fields := by assumption) (hf_lanes :
    Field.lanes ∈ my.fields := by assumption) (hf_banks : Field.banks ∈ my.fields := by assumption) (hf_pwm : Field.pwm ∈
    my.fields := by assumption) (hf_eng : Field.eng ∈ my.fields := by assumption) (hf_fbk : Field.fbk ∈ my.fields := by
    assumption) (hf_imu : Field.imu ∈ my.fields := by assumption) (hf_fpe : Field.fpe ∈ my.fields := by assumption) (hf_gnss
    : Field.gnss ∈ my.fields := by assumption) (hf_ports : Field.ports ∈ my.fields := by assumption) (hf_ring : Field.ring ∈
    my.fields := by assumption) (hp_0 : 0 ∈ my.pages := by assumption) (hp_1 : 1 ∈ my.pages := by assumption) (hp_3 : 3 ∈
    my.pages := by assumption) (hp_6 : 6 ∈ my.pages := by assumption) (hp_7 : 7 ∈ my.pages := by assumption) (hp_8 : 8 ∈
    my.pages := by assumption) (hp_9 : 9 ∈ my.pages := by assumption) (hp_19 : 19 ∈ my.pages := by assumption) (hall : ∀ n :
    LaneIx, n ∈ my.lanes := by assumption) : Only my z0 (State.bootExit s r) := by
  unfold State.bootExit
  dsimp only
  (repeat' split) <;> simp +contextual (maxDischargeDepth := 99) [hs, hany, hf_dev, hf_prev, hf_devAt, hf_devLog, hf_regs,
                          hf_held, hf_freeIdx, hf_idleDrain, hf_patchOk, hf_checking, hf_romFail, hf_yew, hf_yewPort,
                          hf_hirqLow, hf_nor, hf_laurel, hf_lanes, hf_banks, hf_pwm, hf_eng, hf_fbk, hf_imu, hf_fpe,
                          hf_gnss, hf_ports, hf_ring, hp_0, hp_1, hp_3, hp_6, hp_7, hp_8, hp_9, hp_19, hall]

@[simp] theorem State.arm_only {my : May} {z0 : State} (s : State) (hs : Only my z0 s) (hf_dev : Field.dev ∈ my.fields := by
    assumption) (hf_prev : Field.prev ∈ my.fields := by assumption) (hf_devAt : Field.devAt ∈ my.fields := by assumption)
    (hf_devLog : Field.devLog ∈ my.fields := by assumption) (hf_regs : Field.regs ∈ my.fields := by assumption)
    (hf_idleDrain : Field.idleDrain ∈ my.fields := by assumption) (hf_yew : Field.yew ∈ my.fields := by assumption)
    (hf_hirqLow : Field.hirqLow ∈ my.fields := by assumption) (hf_lanes : Field.lanes ∈ my.fields := by assumption) (hf_pwm
    : Field.pwm ∈ my.fields := by assumption) (hf_pose : Field.pose ∈ my.fields := by assumption) (hf_trav : Field.trav ∈
    my.fields := by assumption) (hf_fpe : Field.fpe ∈ my.fields := by assumption) (hp_0 : 0 ∈ my.pages := by assumption)
    (hp_6 : 6 ∈ my.pages := by assumption) (hp_26 : 26 ∈ my.pages := by assumption) (hall : ∀ n : LaneIx, n ∈ my.lanes := by
    assumption) : Only my z0 (State.arm s) := by
  unfold State.arm
  dsimp only
  (repeat' split) <;> simp +contextual (maxDischargeDepth := 99) [hs, hf_dev, hf_prev, hf_devAt, hf_devLog, hf_regs,
                          hf_idleDrain, hf_yew, hf_hirqLow, hf_lanes, hf_pwm, hf_pose, hf_trav, hf_fpe, hp_0, hp_6, hp_26,
                          hall]

@[simp] theorem State.disarm_only {my : May} {z0 : State} (s : State) (hs : Only my z0 s) (hf_dev : Field.dev ∈ my.fields :=
    by assumption) (hf_prev : Field.prev ∈ my.fields := by assumption) (hf_devAt : Field.devAt ∈ my.fields := by assumption)
    (hf_devLog : Field.devLog ∈ my.fields := by assumption) (hf_regs : Field.regs ∈ my.fields := by assumption)
    (hf_idleDrain : Field.idleDrain ∈ my.fields := by assumption) (hf_ctrlDue : Field.ctrlDue ∈ my.fields := by assumption)
    (hf_yew : Field.yew ∈ my.fields := by assumption) (hf_hirqLow : Field.hirqLow ∈ my.fields := by assumption) (hf_lanes :
    Field.lanes ∈ my.fields := by assumption) (hp_0 : 0 ∈ my.pages := by assumption) (hp_6 : 6 ∈ my.pages := by assumption)
    (hall : ∀ n : LaneIx, n ∈ my.lanes := by assumption) : Only my z0 (State.disarm s) := by
  simp +contextual (maxDischargeDepth := 99) [State.disarm, hs, hf_dev, hf_prev, hf_devAt, hf_devLog, hf_regs, hf_idleDrain,
      hf_ctrlDue, hf_yew, hf_hirqLow, hf_lanes, hp_0, hp_6, hall]

@[simp] theorem State.unseal_only {my : May} {z0 : State} (s : State) (hs : Only my z0 s) (hf_dev : Field.dev ∈ my.fields :=
    by assumption) (hf_prev : Field.prev ∈ my.fields := by assumption) (hf_devAt : Field.devAt ∈ my.fields := by assumption)
    (hf_devLog : Field.devLog ∈ my.fields := by assumption) (hf_regs : Field.regs ∈ my.fields := by assumption) (hf_yew :
    Field.yew ∈ my.fields := by assumption) (hf_hirqLow : Field.hirqLow ∈ my.fields := by assumption) (hf_lanes :
    Field.lanes ∈ my.fields := by assumption) (hf_banks : Field.banks ∈ my.fields := by assumption) (hf_pwm : Field.pwm ∈
    my.fields := by assumption) (hf_eng : Field.eng ∈ my.fields := by assumption) (hp_0 : 0 ∈ my.pages := by assumption)
    (hp_6 : 6 ∈ my.pages := by assumption) (hall : ∀ n : LaneIx, n ∈ my.lanes := by assumption) : Only my z0 (State.unseal
    s) := by
  simp +contextual (maxDischargeDepth := 99) [State.unseal, hs, hf_dev, hf_prev, hf_devAt, hf_devLog, hf_regs, hf_yew,
      hf_hirqLow, hf_lanes, hf_banks, hf_pwm, hf_eng, hp_0, hp_6, hall]

@[simp] theorem State.standby_only {my : May} {z0 : State} (s : State) (hs : Only my z0 s) (hf_dev : Field.dev ∈ my.fields
    := by assumption) (hf_prev : Field.prev ∈ my.fields := by assumption) (hf_devAt : Field.devAt ∈ my.fields := by
    assumption) (hf_devLog : Field.devLog ∈ my.fields := by assumption) (hf_regs : Field.regs ∈ my.fields := by assumption)
    (hf_yew : Field.yew ∈ my.fields := by assumption) (hf_hirqLow : Field.hirqLow ∈ my.fields := by assumption) (hf_lanes :
    Field.lanes ∈ my.fields := by assumption) (hf_banks : Field.banks ∈ my.fields := by assumption) (hf_pwm : Field.pwm ∈
    my.fields := by assumption) (hf_eng : Field.eng ∈ my.fields := by assumption) (hf_gnss : Field.gnss ∈ my.fields := by
    assumption) (hp_0 : 0 ∈ my.pages := by assumption) (hp_6 : 6 ∈ my.pages := by assumption) (hall : ∀ n : LaneIx, n ∈
    my.lanes := by assumption) : Only my z0 (State.standby s) := by
  simp +contextual (maxDischargeDepth := 99) [State.standby, hs, hf_dev, hf_prev, hf_devAt, hf_devLog, hf_regs, hf_yew,
      hf_hirqLow, hf_lanes, hf_banks, hf_pwm, hf_eng, hf_gnss, hp_0, hp_6, hall]

@[simp] theorem State.wake_only {my : May} {z0 : State} (s : State) (hs : Only my z0 s) (hf_dev : Field.dev ∈ my.fields :=
    by assumption) (hf_prev : Field.prev ∈ my.fields := by assumption) (hf_devAt : Field.devAt ∈ my.fields := by assumption)
    (hf_devLog : Field.devLog ∈ my.fields := by assumption) (hf_regs : Field.regs ∈ my.fields := by assumption) (hf_waking :
    Field.waking ∈ my.fields := by assumption) (hf_yew : Field.yew ∈ my.fields := by assumption) (hf_hirqLow : Field.hirqLow
    ∈ my.fields := by assumption) (hf_lanes : Field.lanes ∈ my.fields := by assumption) (hf_banks : Field.banks ∈ my.fields
    := by assumption) (hf_pwm : Field.pwm ∈ my.fields := by assumption) (hf_eng : Field.eng ∈ my.fields := by assumption)
    (hf_gnss : Field.gnss ∈ my.fields := by assumption) (hp_0 : 0 ∈ my.pages := by assumption) (hp_6 : 6 ∈ my.pages := by
    assumption) (hall : ∀ n : LaneIx, n ∈ my.lanes := by assumption) : Only my z0 s.wake := by
  unfold State.wake
  split
  · simp +contextual (maxDischargeDepth := 99) [hs, hf_dev, hf_prev, hf_devAt, hf_devLog, hf_regs, hf_waking, hf_yew,
      hf_hirqLow, hf_lanes, hf_banks, hf_pwm, hf_eng, hf_gnss, hp_0, hp_6, hall]
  · exact State.refuseRun_only s hs

@[simp] theorem State.abandonSeal_only {my : May} {z0 : State} (s : State) (hs : Only my z0 s) (hf_regs : Field.regs ∈
    my.fields := by assumption) (hf_checking : Field.checking ∈ my.fields := by assumption) (hf_hirqLow : Field.hirqLow ∈
    my.fields := by assumption) (hp_0 : 0 ∈ my.pages := by assumption) : Only my z0 (State.abandonSeal s) := by
  simp +contextual (maxDischargeDepth := 99) [State.abandonSeal, hs, hf_regs, hf_checking, hf_hirqLow, hp_0]

@[simp] theorem State.hirqSettle_only {my : May} {z0 : State} (s : State) (hs : Only my z0 s) (hf_hirqLow : Field.hirqLow ∈
    my.fields := by assumption) (hf_hirqRose : Field.hirqRose ∈ my.fields := by assumption) : Only my z0 (State.hirqSettle
    s) := by
  simp +contextual (maxDischargeDepth := 99) [State.hirqSettle, hs, hf_hirqLow, hf_hirqRose]

@[simp] theorem State.flushItems_only {my : May} {z0 : State} (k : Nat) (s : State) (q : Nat) (hs : Only my z0 s) (hf_regs :
    Field.regs ∈ my.fields := by assumption) (hf_freeIdx : Field.freeIdx ∈ my.fields := by assumption) (hf_firstSeen :
    Field.firstSeen ∈ my.fields := by assumption) (hf_yew : Field.yew ∈ my.fields := by assumption) (hf_hq : Field.hq ∈
    my.fields := by assumption) (hf_cmpl : Field.cmpl ∈ my.fields := by assumption) (hf_cmplWait : Field.cmplWait ∈
    my.fields := by assumption) (hf_hirqLow : Field.hirqLow ∈ my.fields := by assumption) (hp_4 : 4 ∈ my.pages := by
    assumption) (hp_6 : 6 ∈ my.pages := by assumption) : Only my z0 (State.flushItems k s q) := by
  induction k generalizing s with
  | zero => simp +contextual (maxDischargeDepth := 99) [State.flushItems, hs, hf_regs, hf_freeIdx, hf_firstSeen, hf_yew, hf_hq, hf_cmpl, hf_cmplWait, hf_hirqLow, hp_4, hp_6]
  | succ n ih =>
    unfold State.flushItems
    try dsimp only
    (repeat' split) <;> first
        | (simp +contextual (maxDischargeDepth := 99) [hs, hf_regs, hf_freeIdx, hf_firstSeen, hf_yew, hf_hq, hf_cmpl, hf_cmplWait, hf_hirqLow, hp_4, hp_6]; done)
        | (apply ih; simp +contextual (maxDischargeDepth := 99) [hs, hf_regs, hf_freeIdx, hf_firstSeen, hf_yew, hf_hq, hf_cmpl, hf_cmplWait, hf_hirqLow, hp_4, hp_6]; done)
        | (simp +contextual (maxDischargeDepth := 99) [hs, hf_regs, hf_freeIdx, hf_firstSeen, hf_yew, hf_hq, hf_cmpl, hf_cmplWait, hf_hirqLow, hp_4, hp_6, ih, hf_regs, hf_freeIdx, hf_firstSeen, hf_yew, hf_hq, hf_cmpl, hf_cmplWait, hf_hirqLow, hp_4, hp_6]; done)
        | (simp +contextual (maxDischargeDepth := 99) [*]; done)
        | (rename_i e; have e' := congrArg (fun p => Only my z0 (Prod.snd p)) e; simp +contextual (maxDischargeDepth := 99) [hs, hf_regs, hf_freeIdx, hf_firstSeen, hf_yew, hf_hq, hf_cmpl, hf_cmplWait, hf_hirqLow, hp_4, hp_6, ih, hf_regs, hf_freeIdx, hf_firstSeen, hf_yew, hf_hq, hf_cmpl, hf_cmplWait, hf_hirqLow, hp_4, hp_6] at e'; first | (apply ih; simp +contextual (maxDischargeDepth := 99) [hs, hf_regs, hf_freeIdx, hf_firstSeen, hf_yew, hf_hq, hf_cmpl, hf_cmplWait, hf_hirqLow, hp_4, hp_6, e']; done) | (simp +contextual (maxDischargeDepth := 99) [hs, hf_regs, hf_freeIdx, hf_firstSeen, hf_yew, hf_hq, hf_cmpl, hf_cmplWait, hf_hirqLow, hp_4, hp_6, ih, e']; done))

@[simp] theorem State.flushTaken_only {my : May} {z0 : State} (s : State) (q : Nat) (hs : Only my z0 s) (hf_regs :
    Field.regs ∈ my.fields := by assumption) (hf_firstSeen : Field.firstSeen ∈ my.fields := by assumption) (hf_yew :
    Field.yew ∈ my.fields := by assumption) (hf_cmpl : Field.cmpl ∈ my.fields := by assumption) (hf_cmplWait :
    Field.cmplWait ∈ my.fields := by assumption) (hf_hirqLow : Field.hirqLow ∈ my.fields := by assumption) (hp_4 : 4 ∈
    my.pages := by assumption) (hp_6 : 6 ∈ my.pages := by assumption) : Only my z0 (State.flushTaken s q) := by
  unfold State.flushTaken
  (repeat' split) <;> simp_all +contextual (maxDischargeDepth := 99)

@[simp] theorem State.discardItems_only {my : May} {z0 : State} (k : Nat) (s : State) (q : Nat) (hs : Only my z0 s) (hf_regs
    : Field.regs ∈ my.fields := by assumption) (hf_hq : Field.hq ∈ my.fields := by assumption) (hf_hirqLow : Field.hirqLow ∈
    my.fields := by assumption) (hf_map : Field.map ∈ my.fields := by assumption) (hp_4 : 4 ∈ my.pages := by assumption) :
    Only my z0 (State.discardItems k s q) := by
  induction k generalizing s with
  | zero => simp +contextual (maxDischargeDepth := 99) [State.discardItems, hs, hf_regs, hf_hq, hf_hirqLow, hf_map, hp_4]
  | succ n ih =>
    unfold State.discardItems
    try dsimp only
    (repeat' split) <;> first
        | (simp +contextual (maxDischargeDepth := 99) [hs, hf_regs, hf_hq, hf_hirqLow, hf_map, hp_4]; done)
        | (apply ih; simp +contextual (maxDischargeDepth := 99) [hs, hf_regs, hf_hq, hf_hirqLow, hf_map, hp_4]; done)
        | (simp +contextual (maxDischargeDepth := 99) [hs, hf_regs, hf_hq, hf_hirqLow, hf_map, hp_4, ih, hf_regs, hf_hq, hf_hirqLow, hf_map, hp_4]; done)
        | (simp +contextual (maxDischargeDepth := 99) [*]; done)
        | (rename_i e; have e' := congrArg (fun p => Only my z0 (Prod.snd p)) e; simp +contextual (maxDischargeDepth := 99) [hs, hf_regs, hf_hq, hf_hirqLow, hf_map, hp_4, ih, hf_regs, hf_hq, hf_hirqLow, hf_map, hp_4] at e'; first | (apply ih; simp +contextual (maxDischargeDepth := 99) [hs, hf_regs, hf_hq, hf_hirqLow, hf_map, hp_4, e']; done) | (simp +contextual (maxDischargeDepth := 99) [hs, hf_regs, hf_hq, hf_hirqLow, hf_map, hp_4, ih, e']; done))

@[simp] theorem State.flushQ_only {my : May} {z0 : State} (s : State) (q : Nat) (hs : Only my z0 s) (hf_regs : Field.regs ∈
    my.fields := by assumption) (hf_freeIdx : Field.freeIdx ∈ my.fields := by assumption) (hf_firstSeen : Field.firstSeen ∈
    my.fields := by assumption) (hf_yew : Field.yew ∈ my.fields := by assumption) (hf_hq : Field.hq ∈ my.fields := by
    assumption) (hf_cmpl : Field.cmpl ∈ my.fields := by assumption) (hf_cmplWait : Field.cmplWait ∈ my.fields := by
    assumption) (hf_hirqLow : Field.hirqLow ∈ my.fields := by assumption) (hf_map : Field.map ∈ my.fields := by assumption)
    (hp_4 : 4 ∈ my.pages := by assumption) (hp_6 : 6 ∈ my.pages := by assumption) : Only my z0 (State.flushQ s q) := by
  simp +contextual (maxDischargeDepth := 99) [State.flushQ, hs, hf_regs, hf_freeIdx, hf_firstSeen, hf_yew, hf_hq, hf_cmpl,
      hf_cmplWait, hf_hirqLow, hf_map, hp_4, hp_6]

@[simp] theorem State.flushMask_only {my : May} {z0 : State} (s : State) (v : Nat) (hs : Only my z0 s) (hf_regs : Field.regs
    ∈ my.fields := by assumption) (hf_freeIdx : Field.freeIdx ∈ my.fields := by assumption) (hf_firstSeen : Field.firstSeen
    ∈ my.fields := by assumption) (hf_yew : Field.yew ∈ my.fields := by assumption) (hf_yewPort : Field.yewPort ∈ my.fields
    := by assumption) (hf_hq : Field.hq ∈ my.fields := by assumption) (hf_cmpl : Field.cmpl ∈ my.fields := by assumption)
    (hf_cmplWait : Field.cmplWait ∈ my.fields := by assumption) (hf_hirqLow : Field.hirqLow ∈ my.fields := by assumption)
    (hf_nor : Field.nor ∈ my.fields := by assumption) (hf_map : Field.map ∈ my.fields := by assumption) (hf_ports :
    Field.ports ∈ my.fields := by assumption) (hf_ring : Field.ring ∈ my.fields := by assumption) (hp_4 : 4 ∈ my.pages := by
    assumption) (hp_6 : 6 ∈ my.pages := by assumption) (hp_7 : 7 ∈ my.pages := by assumption) : Only my z0 (State.flushMask
    s v) := by
  simp +contextual (maxDischargeDepth := 99) [State.flushMask, hs, hf_regs, hf_freeIdx, hf_firstSeen, hf_yew, hf_yewPort,
      hf_hq, hf_cmpl, hf_cmplWait, hf_hirqLow, hf_nor, hf_map, hf_ports, hf_ring, hp_4, hp_6, hp_7]

@[simp] theorem State.hostDrain_only {my : May} {z0 : State} (s : State) (hs : Only my z0 s) (hf_regs : Field.regs ∈
    my.fields := by assumption) (hf_freeIdx : Field.freeIdx ∈ my.fields := by assumption) (hf_firstSeen : Field.firstSeen ∈
    my.fields := by assumption) (hf_yew : Field.yew ∈ my.fields := by assumption) (hf_hq : Field.hq ∈ my.fields := by
    assumption) (hf_cmpl : Field.cmpl ∈ my.fields := by assumption) (hf_cmplWait : Field.cmplWait ∈ my.fields := by
    assumption) (hf_hirqLow : Field.hirqLow ∈ my.fields := by assumption) (hf_map : Field.map ∈ my.fields := by assumption)
    (hp_4 : 4 ∈ my.pages := by assumption) (hp_6 : 6 ∈ my.pages := by assumption) : Only my z0 (State.hostDrain s) := by
  simp +contextual (maxDischargeDepth := 99) [State.hostDrain, hs, hf_regs, hf_freeIdx, hf_firstSeen, hf_yew, hf_hq,
      hf_cmpl, hf_cmplWait, hf_hirqLow, hf_map, hp_4, hp_6]

@[simp] theorem State.tunGo_only {my : May} {z0 : State} (s : State) (v : Nat) (hs : Only my z0 s) (hf_regs : Field.regs ∈
    my.fields := by assumption) (hf_ports : Field.ports ∈ my.fields := by assumption) (hf_ring : Field.ring ∈ my.fields :=
    by assumption) (hf_rtun : Field.rtun ∈ my.fields := by assumption) (hp_11 : 11 ∈ my.pages := by assumption) : Only my z0
    (State.tunGo s v) := by
  simp +contextual (maxDischargeDepth := 99) [State.tunGo, hs, hf_regs, hf_ports, hf_ring, hf_rtun, hp_11]

@[simp] theorem State.pageStop_only {my : May} {z0 : State} (s : State) (k : PageKind) (i : Nat) (hs : Only my z0 s)
    (hf_regs : Field.regs ∈ my.fields := by assumption) (hf_freeIdx : Field.freeIdx ∈ my.fields := by assumption)
    (hf_firstSeen : Field.firstSeen ∈ my.fields := by assumption) (hf_yew : Field.yew ∈ my.fields := by assumption) (hf_hq :
    Field.hq ∈ my.fields := by assumption) (hf_cmpl : Field.cmpl ∈ my.fields := by assumption) (hf_cmplWait : Field.cmplWait
    ∈ my.fields := by assumption) (hf_hirqLow : Field.hirqLow ∈ my.fields := by assumption) (hf_lanes : Field.lanes ∈
    my.fields := by assumption) (hf_banks : Field.banks ∈ my.fields := by assumption) (hf_pwm : Field.pwm ∈ my.fields := by
    assumption) (hf_eng : Field.eng ∈ my.fields := by assumption) (hf_fbk : Field.fbk ∈ my.fields := by assumption) (hf_map
    : Field.map ∈ my.fields := by assumption) (hf_ports : Field.ports ∈ my.fields := by assumption) (hf_ring : Field.ring ∈
    my.fields := by assumption) (hf_rtun : Field.rtun ∈ my.fields := by assumption) (hp_4 : 4 ∈ my.pages := by assumption)
    (hp_6 : 6 ∈ my.pages := by assumption) (hp_8 : 8 ∈ my.pages := by assumption) (hp_9 : 9 ∈ my.pages := by assumption)
    (hp_11 : 11 ∈ my.pages := by assumption) (hp_25 : 25 ∈ my.pages := by assumption) (hall : ∀ n : LaneIx, n ∈ my.lanes :=
    by assumption) : Only my z0 (State.pageStop s k i) := by
  unfold State.pageStop
  dsimp only
  (repeat' split) <;> simp +contextual (maxDischargeDepth := 99) [hs, hf_regs, hf_freeIdx, hf_firstSeen, hf_yew, hf_hq,
                          hf_cmpl, hf_cmplWait, hf_hirqLow, hf_lanes, hf_banks, hf_pwm, hf_eng, hf_fbk, hf_map, hf_ports,
                          hf_ring, hf_rtun, hp_4, hp_6, hp_8, hp_9, hp_11, hp_25, hall]

@[simp] theorem State.pageStart_only {my : May} {z0 : State} (s : State) (k : PageKind) (i : Nat) (hs : Only my z0 s)
    (hf_regs : Field.regs ∈ my.fields := by assumption) (hf_hirqLow : Field.hirqLow ∈ my.fields := by assumption) (hf_lanes
    : Field.lanes ∈ my.fields := by assumption) (hf_pwm : Field.pwm ∈ my.fields := by assumption) (hf_eng : Field.eng ∈
    my.fields := by assumption) (hf_fbk : Field.fbk ∈ my.fields := by assumption) (hf_ring : Field.ring ∈ my.fields := by
    assumption) (hall : ∀ n : LaneIx, n ∈ my.lanes := by assumption) : Only my z0 (State.pageStart s k i) := by
  unfold State.pageStart
  dsimp only
  (repeat' split) <;> simp +contextual (maxDischargeDepth := 99) [hs, hf_regs, hf_hirqLow, hf_lanes, hf_pwm, hf_eng, hf_fbk,
                          hf_ring, hall]

@[simp] theorem State.writeEn_only {my : May} {z0 : State} (s : State) (p : Nat) (k : PageKind) (i : Nat) (want : Bool) (hs
    : Only my z0 s) (hany : (∀ a, my.reg a) ∧ ∀ p, my.page p := by assumption) (hf_regs : Field.regs ∈ my.fields := by
    assumption) (hf_freeIdx : Field.freeIdx ∈ my.fields := by assumption) (hf_firstSeen : Field.firstSeen ∈ my.fields := by
    assumption) (hf_yew : Field.yew ∈ my.fields := by assumption) (hf_hq : Field.hq ∈ my.fields := by assumption) (hf_cmpl :
    Field.cmpl ∈ my.fields := by assumption) (hf_cmplWait : Field.cmplWait ∈ my.fields := by assumption) (hf_hirqLow :
    Field.hirqLow ∈ my.fields := by assumption) (hf_lanes : Field.lanes ∈ my.fields := by assumption) (hf_banks :
    Field.banks ∈ my.fields := by assumption) (hf_pwm : Field.pwm ∈ my.fields := by assumption) (hf_eng : Field.eng ∈
    my.fields := by assumption) (hf_fbk : Field.fbk ∈ my.fields := by assumption) (hf_map : Field.map ∈ my.fields := by
    assumption) (hf_ports : Field.ports ∈ my.fields := by assumption) (hf_ring : Field.ring ∈ my.fields := by assumption)
    (hf_rtun : Field.rtun ∈ my.fields := by assumption) (hp_4 : 4 ∈ my.pages := by assumption) (hp_6 : 6 ∈ my.pages := by
    assumption) (hp_8 : 8 ∈ my.pages := by assumption) (hp_9 : 9 ∈ my.pages := by assumption) (hp_11 : 11 ∈ my.pages := by
    assumption) (hp_25 : 25 ∈ my.pages := by assumption) (hall : ∀ n : LaneIx, n ∈ my.lanes := by assumption) : Only my z0
    (State.writeEn s p k i want) := by
  simp +contextual (maxDischargeDepth := 99) [State.writeEn, hs, hany, hf_regs, hf_freeIdx, hf_firstSeen, hf_yew, hf_hq,
      hf_cmpl, hf_cmplWait, hf_hirqLow, hf_lanes, hf_banks, hf_pwm, hf_eng, hf_fbk, hf_map, hf_ports, hf_ring, hf_rtun,
      hp_4, hp_6, hp_8, hp_9, hp_11, hp_25, hall]

@[simp] theorem State.softReg_only {my : May} {z0 : State} (p : Nat) (d : RegDef) (s : State) (hs : Only my z0 s) (hany : (∀
    a, my.reg a) ∧ ∀ p, my.page p := by assumption) (hf_regs : Field.regs ∈ my.fields := by assumption) :
    Only my z0 (State.softReg p d s) := by
  unfold State.softReg
  split
  · exact hs
  · exact overList_only _ _ hs (fun o w hw => State.clearBits_only w _ _ hw (hany.1 _))

@[simp] theorem State.softCounters_only {my : May} {z0 : State} (s : State) (k : PageKind) (hs : Only my z0 s) (hf_tempSeen
    : Field.tempSeen ∈ my.fields := by assumption) (hf_yew : Field.yew ∈ my.fields := by assumption) (hf_hq : Field.hq ∈
    my.fields := by assumption) : Only my z0 (State.softCounters s k) := by
  unfold State.softCounters
  (repeat' split) <;> simp_all +contextual (maxDischargeDepth := 99)

@[simp] theorem State.softClear_only {my : May} {z0 : State} (s : State) (p : Nat) (k : PageKind) (hs : Only my z0 s) (hany
    : (∀ a, my.reg a) ∧ ∀ p, my.page p := by assumption) (hf_regs : Field.regs ∈ my.fields := by assumption) (hf_tempSeen :
    Field.tempSeen ∈ my.fields := by assumption) (hf_yew : Field.yew ∈ my.fields := by assumption) (hf_hq : Field.hq ∈
    my.fields := by assumption) : Only my z0 (State.softClear s p k) := by
  simp +contextual (maxDischargeDepth := 99) [State.softClear, hs, hany, hf_regs, hf_tempSeen, hf_yew, hf_hq]

@[simp] theorem State.writeFreeze_only {my : May} {z0 : State} (s : State) (p : Nat) (k : PageKind) (i : Nat) (on : Bool)
    (hs : Only my z0 s) (hany : (∀ a, my.reg a) ∧ ∀ p, my.page p := by assumption) (hf_regs : Field.regs ∈ my.fields := by
    assumption) (hf_frozen : Field.frozen ∈ my.fields := by assumption) : Only my z0 (State.writeFreeze s p k i on) := by
  simp +contextual (maxDischargeDepth := 99) [State.writeFreeze, hs, hany, hf_regs, hf_frozen]

@[simp] theorem State.settlePage_only {my : May} {z0 : State} (s : State) (k : PageKind) (i : Nat) (hs : Only my z0 s)
    (hf_regs : Field.regs ∈ my.fields := by assumption) (hf_hirqLow : Field.hirqLow ∈ my.fields := by assumption) (hf_banks
    : Field.banks ∈ my.fields := by assumption) (hf_pwm : Field.pwm ∈ my.fields := by assumption) (hf_eng : Field.eng ∈
    my.fields := by assumption) (hall : ∀ n : LaneIx, n ∈ my.lanes := by assumption) : Only my z0 (State.settlePage s k i)
    := by
  unfold State.settlePage
  dsimp only
  (repeat' split) <;> simp +contextual (maxDischargeDepth := 99) [hs, hf_regs, hf_hirqLow, hf_banks, hf_pwm, hf_eng, hall]

@[simp] theorem State.latchWords_only {my : May} {z0 : State} (s : State) (a : Nat) (ws : List Word) (hs : Only my z0 s)
    (hany : (∀ a, my.reg a) ∧ ∀ p, my.page p := by assumption) (hf_regs : Field.regs ∈ my.fields := by assumption) :
    Only my z0 (s.latchWords a ws) := by
  unfold State.latchWords
  exact foldl_fst_only _ _ _ hs (fun w x hw => State.setReg_only hw _ _ (hany.1 _) hf_regs)

@[simp] theorem State.readBlock_only {my : May} {z0 : State} (s : State) (k : PageKind) (i o : Nat) (w : Word) (hs : Only my
    z0 s) (hf_regs : Field.regs ∈ my.fields := by assumption) (hf_freeIdx : Field.freeIdx ∈ my.fields := by assumption)
    (hf_tempSeen : Field.tempSeen ∈ my.fields := by assumption) (hf_yew : Field.yew ∈ my.fields := by assumption) (hf_hq :
    Field.hq ∈ my.fields := by assumption) (hf_dropQ : Field.dropQ ∈ my.fields := by assumption) (hall : ∀ n : LaneIx, n ∈
    my.lanes := by assumption) : Only my z0 (State.readBlock s k i o w) := by
  have r : my.reg (LANE.SQ_PEAK (i % 16)) := rg_LANE_SQ_PEAK_0 (Fin.ofNat 16 i) (hall _)
  unfold State.readBlock
  (repeat' split) <;> simp_all +contextual (maxDischargeDepth := 99)

@[simp] theorem State.readSide_only {my : May} {z0 : State} (s : State) (p : Nat) (k : PageKind) (i o : Nat) (d : RegDef) (w
    : Word) (hs : Only my z0 s) (hany : (∀ a, my.reg a) ∧ ∀ p, my.page p := by assumption) (hf_regs : Field.regs ∈ my.fields
    := by assumption) (hf_freeIdx : Field.freeIdx ∈ my.fields := by assumption) (hf_tempSeen : Field.tempSeen ∈ my.fields :=
    by assumption) (hf_yew : Field.yew ∈ my.fields := by assumption) (hf_hq : Field.hq ∈ my.fields := by assumption)
    (hf_dropQ : Field.dropQ ∈ my.fields := by assumption) (hall : ∀ n : LaneIx, n ∈ my.lanes := by assumption) : Only my z0
    (State.readSide s p k i o d w) := by
  simp +contextual (maxDischargeDepth := 99) [State.readSide, hs, hany, hf_regs, hf_freeIdx, hf_tempSeen, hf_yew, hf_hq,
      hf_dropQ, hall]

@[simp] theorem State.hostRead_only {my : May} {z0 : State} (s : State) (a : Nat) (hs : Only my z0 s) (hany : (∀ a, my.reg
    a) ∧ ∀ p, my.page p := by assumption) (hf_regs : Field.regs ∈ my.fields := by assumption) (hf_freeIdx : Field.freeIdx ∈
    my.fields := by assumption) (hf_tempSeen : Field.tempSeen ∈ my.fields := by assumption) (hf_yew : Field.yew ∈ my.fields
    := by assumption) (hf_hq : Field.hq ∈ my.fields := by assumption) (hf_dropQ : Field.dropQ ∈ my.fields := by assumption)
    (hf_hirqLow : Field.hirqLow ∈ my.fields := by assumption) (hf_mbox : Field.mbox ∈ my.fields := by assumption) (hf_banks
    : Field.banks ∈ my.fields := by assumption) (hf_pwm : Field.pwm ∈ my.fields := by assumption) (hf_eng : Field.eng ∈
    my.fields := by assumption) (hp_5 : 5 ∈ my.pages := by assumption) (hall : ∀ n : LaneIx, n ∈ my.lanes := by assumption)
    : Only my z0 (State.hostRead s a).2 := by
  unfold State.hostRead
  dsimp only
  (repeat' split) <;> simp +contextual (maxDischargeDepth := 99) [hs, hany, hf_regs, hf_freeIdx, hf_tempSeen, hf_yew, hf_hq,
                          hf_dropQ, hf_hirqLow, hf_mbox, hf_banks, hf_pwm, hf_eng, hp_5, hall]

@[simp] theorem State.writeHdr_only {my : May} {z0 : State} (s : State) (p o : Nat) (d : RegDef) (v : Word) (hs : Only my z0
    s) (hany : (∀ a, my.reg a) ∧ ∀ p, my.page p := by assumption) (hf_regs : Field.regs ∈ my.fields := by assumption) : Only
    my z0 (State.writeHdr s p o d v) := by
  simp +contextual (maxDischargeDepth := 99) [State.writeHdr, hs, hany, hf_regs]

@[simp] theorem State.writeQmask_only {my : May} {z0 : State} (s : State) (v : Word) (hs : Only my z0 s) (hf_regs :
    Field.regs ∈ my.fields := by assumption) (hf_hirqLow : Field.hirqLow ∈ my.fields := by assumption) (hp_4 : 4 ∈ my.pages
    := by assumption) : Only my z0 (State.writeQmask s v) := by
  simp +contextual (maxDischargeDepth := 99) [State.writeQmask, hs, hf_regs, hf_hirqLow, hp_4]

@[simp] theorem State.writeLaurel_only {my : May} {z0 : State} (s : State) (v : Nat) (hs : Only my z0 s) (hf_regs :
    Field.regs ∈ my.fields := by assumption) (hf_freeIdx : Field.freeIdx ∈ my.fields := by assumption) (hf_yew : Field.yew ∈
    my.fields := by assumption) (hf_hirqLow : Field.hirqLow ∈ my.fields := by assumption) (hf_laurel : Field.laurel ∈
    my.fields := by assumption) (hf_gnss : Field.gnss ∈ my.fields := by assumption) (hp_3 : 3 ∈ my.pages := by assumption)
    (hp_6 : 6 ∈ my.pages := by assumption) : Only my z0 (State.writeLaurel s v) := by
  simp +contextual (maxDischargeDepth := 99) [State.writeLaurel, hs, hf_regs, hf_freeIdx, hf_yew, hf_hirqLow, hf_laurel,
      hf_gnss, hp_3, hp_6]

@[simp] theorem State.writeEng_only {my : May} {z0 : State} (s : State) (n : LaneIx) (v : Nat) (hs : Only my z0 s) (hf_regs
    : Field.regs ∈ my.fields := by assumption) (hf_yew : Field.yew ∈ my.fields := by assumption) (hf_hirqLow : Field.hirqLow
    ∈ my.fields := by assumption) (hf_pwm : Field.pwm ∈ my.fields := by assumption) (hf_eng : Field.eng ∈ my.fields := by
    assumption) (hp_6 : 6 ∈ my.pages := by assumption) (hl_n : n ∈ my.lanes := by assumption) : Only my z0 (State.writeEng s
    n v) := by
  simp +contextual (maxDischargeDepth := 99) [State.writeEng, hs, hf_regs, hf_yew, hf_hirqLow, hf_pwm, hf_eng, hp_6, hl_n]

@[simp] theorem State.writeWin_only {my : May} {z0 : State} (s : State) (v : Nat) (hs : Only my z0 s) (hf_regs : Field.regs
    ∈ my.fields := by assumption) (hf_freeIdx : Field.freeIdx ∈ my.fields := by assumption) (hf_yew : Field.yew ∈ my.fields
    := by assumption) (hf_hq : Field.hq ∈ my.fields := by assumption) (hf_hirqLow : Field.hirqLow ∈ my.fields := by
    assumption) (hf_map : Field.map ∈ my.fields := by assumption) (hf_ports : Field.ports ∈ my.fields := by assumption)
    (hf_ring : Field.ring ∈ my.fields := by assumption) (hp_4 : 4 ∈ my.pages := by assumption) (hp_6 : 6 ∈ my.pages := by
    assumption) (hp_25 : 25 ∈ my.pages := by assumption) : Only my z0 (State.writeWin s v) := by
  simp +contextual (maxDischargeDepth := 99) [State.writeWin, hs, hf_regs, hf_freeIdx, hf_yew, hf_hq, hf_hirqLow, hf_map,
      hf_ports, hf_ring, hp_4, hp_6, hp_25]

@[simp] theorem State.writeTbl_only {my : May} {z0 : State} (s : State) (x : Nat) (v : Word) (hs : Only my z0 s) (hf_fpe :
    Field.fpe ∈ my.fields := by assumption) : Only my z0 (State.writeTbl s x v) := by
  simp +contextual (maxDischargeDepth := 99) [State.writeTbl, hs, hf_fpe]

@[simp] theorem State.writeCode_only {my : May} {z0 : State} (s : State) (v : Word) (hs : Only my z0 s) (hf_yewCfg :
    Field.yewCfg ∈ my.fields := by assumption) : Only my z0 (State.writeCode s v) := by
  simp +contextual (maxDischargeDepth := 99) [State.writeCode, hs, hf_yewCfg]

@[simp] theorem State.writeRing_only {my : May} {z0 : State} (s : State) (v : Nat) (hs : Only my z0 s) (hf_regs : Field.regs
    ∈ my.fields := by assumption) (hf_freeIdx : Field.freeIdx ∈ my.fields := by assumption) (hf_ports : Field.ports ∈
    my.fields := by assumption) (hf_ring : Field.ring ∈ my.fields := by assumption) (hp_8 : 8 ∈ my.pages := by assumption)
    (hp_9 : 9 ∈ my.pages := by assumption) : Only my z0 (State.writeRing s v) := by
  simp +contextual (maxDischargeDepth := 99) [State.writeRing, hs, hf_regs, hf_freeIdx, hf_ports, hf_ring, hp_8, hp_9]

@[simp] theorem State.writePwmg_only {my : May} {z0 : State} (s : State) (n : LaneIx) (d : RegDef) (o : Nat) (v : Word) (hs
    : Only my z0 s) (hany : (∀ a, my.reg a) ∧ ∀ p, my.page p := by assumption) (hf_regs : Field.regs ∈ my.fields := by
    assumption) (hf_firstSeen : Field.firstSeen ∈ my.fields := by assumption) (hf_yew : Field.yew ∈ my.fields := by
    assumption) (hf_hirqLow : Field.hirqLow ∈ my.fields := by assumption) (hf_pwm : Field.pwm ∈ my.fields := by assumption)
    (hp_6 : 6 ∈ my.pages := by assumption) (hl_n : n ∈ my.lanes := by assumption) : Only my z0 (State.writePwmg s n d o v)
    := by
  simp +contextual (maxDischargeDepth := 99) [State.writePwmg, hs, hany, hf_regs, hf_firstSeen, hf_yew, hf_hirqLow, hf_pwm,
      hp_6, hl_n]

@[simp] theorem State.rowRead_only {my : May} {z0 : State} (s : State) (a : Nat) (hs : Only my z0 s) (hany : (∀ a, my.reg a)
    ∧ ∀ p, my.page p := by assumption) (hf_regs : Field.regs ∈ my.fields := by assumption) (hf_freeIdx : Field.freeIdx ∈
    my.fields := by assumption) (hf_tempSeen : Field.tempSeen ∈ my.fields := by assumption) (hf_yew : Field.yew ∈ my.fields
    := by assumption) (hf_hq : Field.hq ∈ my.fields := by assumption) (hf_dropQ : Field.dropQ ∈ my.fields := by assumption)
    (hf_hirqLow : Field.hirqLow ∈ my.fields := by assumption) (hf_mbox : Field.mbox ∈ my.fields := by assumption) (hf_banks
    : Field.banks ∈ my.fields := by assumption) (hf_pwm : Field.pwm ∈ my.fields := by assumption) (hf_eng : Field.eng ∈
    my.fields := by assumption) (hf_lastRead : Field.lastRead ∈ my.fields := by assumption) (hp_5 : 5 ∈ my.pages := by
    assumption) (hall : ∀ n : LaneIx, n ∈ my.lanes := by assumption) : Only my z0 (State.rowRead s a) := by
  simp +contextual (maxDischargeDepth := 99) [State.rowRead, hs, hany, hf_regs, hf_freeIdx, hf_tempSeen, hf_yew, hf_hq,
      hf_dropQ, hf_hirqLow, hf_mbox, hf_banks, hf_pwm, hf_eng, hf_lastRead, hp_5, hall]

@[simp] theorem State.drive_only {my : May} {z0 : State} (s : State) (bs : List Byte) (hs : Only my z0 s) (hf_hostTx :
    Field.hostTx ∈ my.fields := by assumption) : Only my z0 (State.drive s bs) := by
  simp +contextual (maxDischargeDepth := 99) [State.drive, hs, hf_hostTx]

@[simp] theorem State.answer_only {my : May} {z0 : State} (s : State) (a : Ack) (cmd q : Nat) (hs : Only my z0 s) (hf_regs :
    Field.regs ∈ my.fields := by assumption) (hf_firstSeen : Field.firstSeen ∈ my.fields := by assumption) (hf_yew :
    Field.yew ∈ my.fields := by assumption) (hf_hq : Field.hq ∈ my.fields := by assumption) (hf_hirqLow : Field.hirqLow ∈
    my.fields := by assumption) (hf_hostTx : Field.hostTx ∈ my.fields := by assumption) (hp_4 : 4 ∈ my.pages := by
    assumption) (hp_6 : 6 ∈ my.pages := by assumption) : Only my z0 (State.answer s a cmd q) := by
  unfold State.answer
  dsimp only
  (repeat' split) <;> simp +contextual (maxDischargeDepth := 99) [hs, hf_regs, hf_firstSeen, hf_yew, hf_hq, hf_hirqLow,
                          hf_hostTx, hp_4, hp_6]

@[simp] theorem State.cutShort_only {my : May} {z0 : State} (s : State) (hs : Only my z0 s) (hf_regs : Field.regs ∈
    my.fields := by assumption) (hf_hirqLow : Field.hirqLow ∈ my.fields := by assumption) (hf_hostTx : Field.hostTx ∈
    my.fields := by assumption) (hp_4 : 4 ∈ my.pages := by assumption) : Only my z0 (State.cutShort s) := by
  simp +contextual (maxDischargeDepth := 99) [State.cutShort, hs, hf_regs, hf_hirqLow, hf_hostTx, hp_4]

@[simp] theorem State.readRun_only {my : May} {z0 : State} (k : Nat) (s : State) (a step : Nat) (hs : Only my z0 s) (hany :
    (∀ a, my.reg a) ∧ ∀ p, my.page p := by assumption) (hf_regs : Field.regs ∈ my.fields := by assumption) (hf_freeIdx :
    Field.freeIdx ∈ my.fields := by assumption) (hf_tempSeen : Field.tempSeen ∈ my.fields := by assumption) (hf_yew :
    Field.yew ∈ my.fields := by assumption) (hf_hq : Field.hq ∈ my.fields := by assumption) (hf_dropQ : Field.dropQ ∈
    my.fields := by assumption) (hf_hirqLow : Field.hirqLow ∈ my.fields := by assumption) (hf_mbox : Field.mbox ∈ my.fields
    := by assumption) (hf_banks : Field.banks ∈ my.fields := by assumption) (hf_pwm : Field.pwm ∈ my.fields := by
    assumption) (hf_eng : Field.eng ∈ my.fields := by assumption) (hp_5 : 5 ∈ my.pages := by assumption) (hall : ∀ n :
    LaneIx, n ∈ my.lanes := by assumption) : Only my z0 (State.readRun k s a step).2 := by
  induction k generalizing s a with
  | zero => simp +contextual (maxDischargeDepth := 99) [State.readRun, hs, hany, hf_regs, hf_freeIdx, hf_tempSeen, hf_yew, hf_hq, hf_dropQ, hf_hirqLow, hf_mbox, hf_banks, hf_pwm, hf_eng, hp_5, hall]
  | succ n ih =>
    unfold State.readRun
    try dsimp only
    (repeat' split) <;> first
        | (simp +contextual (maxDischargeDepth := 99) [hs, hany, hf_regs, hf_freeIdx, hf_tempSeen, hf_yew, hf_hq, hf_dropQ, hf_hirqLow, hf_mbox, hf_banks, hf_pwm, hf_eng, hp_5, hall]; done)
        | (apply ih; simp +contextual (maxDischargeDepth := 99) [hs, hany, hf_regs, hf_freeIdx, hf_tempSeen, hf_yew, hf_hq, hf_dropQ, hf_hirqLow, hf_mbox, hf_banks, hf_pwm, hf_eng, hp_5, hall]; done)
        | (simp +contextual (maxDischargeDepth := 99) [hs, hany, hf_regs, hf_freeIdx, hf_tempSeen, hf_yew, hf_hq, hf_dropQ, hf_hirqLow, hf_mbox, hf_banks, hf_pwm, hf_eng, hp_5, hall, ih, hany, hf_regs, hf_freeIdx, hf_tempSeen, hf_yew, hf_hq, hf_dropQ, hf_hirqLow, hf_mbox, hf_banks, hf_pwm, hf_eng, hp_5, hall]; done)
        | (simp +contextual (maxDischargeDepth := 99) [*]; done)
        | (rename_i e; have e' := congrArg (fun p => Only my z0 (Prod.snd p)) e; simp +contextual (maxDischargeDepth := 99) [hs, hany, hf_regs, hf_freeIdx, hf_tempSeen, hf_yew, hf_hq, hf_dropQ, hf_hirqLow, hf_mbox, hf_banks, hf_pwm, hf_eng, hp_5, hall, ih, hany, hf_regs, hf_freeIdx, hf_tempSeen, hf_yew, hf_hq, hf_dropQ, hf_hirqLow, hf_mbox, hf_banks, hf_pwm, hf_eng, hp_5, hall] at e'; first | (apply ih; simp +contextual (maxDischargeDepth := 99) [hs, hany, hf_regs, hf_freeIdx, hf_tempSeen, hf_yew, hf_hq, hf_dropQ, hf_hirqLow, hf_mbox, hf_banks, hf_pwm, hf_eng, hp_5, hall, e']; done) | (simp +contextual (maxDischargeDepth := 99) [hs, hany, hf_regs, hf_freeIdx, hf_tempSeen, hf_yew, hf_hq, hf_dropQ, hf_hirqLow, hf_mbox, hf_banks, hf_pwm, hf_eng, hp_5, hall, ih, e']; done))

@[simp] theorem State.regRead_only {my : May} {z0 : State} (s : State) (code addr n : Nat) (ready fixed : Bool) (hs : Only
    my z0 s) (hany : (∀ a, my.reg a) ∧ ∀ p, my.page p := by assumption) (hf_regs : Field.regs ∈ my.fields := by assumption)
    (hf_freeIdx : Field.freeIdx ∈ my.fields := by assumption) (hf_tempSeen : Field.tempSeen ∈ my.fields := by assumption)
    (hf_yew : Field.yew ∈ my.fields := by assumption) (hf_hq : Field.hq ∈ my.fields := by assumption) (hf_dropQ :
    Field.dropQ ∈ my.fields := by assumption) (hf_hirqLow : Field.hirqLow ∈ my.fields := by assumption) (hf_mbox :
    Field.mbox ∈ my.fields := by assumption) (hf_banks : Field.banks ∈ my.fields := by assumption) (hf_pwm : Field.pwm ∈
    my.fields := by assumption) (hf_eng : Field.eng ∈ my.fields := by assumption) (hf_hostTx : Field.hostTx ∈ my.fields :=
    by assumption) (hf_lastRead : Field.lastRead ∈ my.fields := by assumption) (hp_4 : 4 ∈ my.pages := by assumption) (hp_5
    : 5 ∈ my.pages := by assumption) (hall : ∀ n : LaneIx, n ∈ my.lanes := by assumption) : Only my z0 (State.regRead s code
    addr n ready fixed) := by
  simp +contextual (maxDischargeDepth := 99) [State.regRead, hs, hany, hf_regs, hf_freeIdx, hf_tempSeen, hf_yew, hf_hq,
      hf_dropQ, hf_hirqLow, hf_mbox, hf_banks, hf_pwm, hf_eng, hf_hostTx, hf_lastRead, hp_4, hp_5, hall]

@[simp] theorem State.nextCycle_only {my : May} {z0 : State} (s : State) (hs : Only my z0 s) (hf_now : Field.now ∈ my.fields
    := by assumption) : Only my z0 (State.nextCycle s) := by
  simp +contextual (maxDischargeDepth := 99) [State.nextCycle, hs, hf_now]

@[simp] theorem State.joinQueue_only {my : May} {z0 : State} (s : State) (q : Nat) (desc data : List Byte) (hs : Only my z0
    s) (hf_regs : Field.regs ∈ my.fields := by assumption) (hf_freeIdx : Field.freeIdx ∈ my.fields := by assumption)
    (hf_firstSeen : Field.firstSeen ∈ my.fields := by assumption) (hf_yew : Field.yew ∈ my.fields := by assumption)
    (hf_yewPort : Field.yewPort ∈ my.fields := by assumption) (hf_hq : Field.hq ∈ my.fields := by assumption) (hf_cmpl :
    Field.cmpl ∈ my.fields := by assumption) (hf_cmplWait : Field.cmplWait ∈ my.fields := by assumption) (hf_hirqLow :
    Field.hirqLow ∈ my.fields := by assumption) (hf_nor : Field.nor ∈ my.fields := by assumption) (hf_ports : Field.ports ∈
    my.fields := by assumption) (hf_ring : Field.ring ∈ my.fields := by assumption) (hp_4 : 4 ∈ my.pages := by assumption)
    (hp_6 : 6 ∈ my.pages := by assumption) (hp_7 : 7 ∈ my.pages := by assumption) : Only my z0 (State.joinQueue s q desc
    data) := by
  simp +contextual (maxDischargeDepth := 99) [State.joinQueue, hs, hf_regs, hf_freeIdx, hf_firstSeen, hf_yew, hf_yewPort,
      hf_hq, hf_cmpl, hf_cmplWait, hf_hirqLow, hf_nor, hf_ports, hf_ring, hp_4, hp_6, hp_7]

@[simp] theorem State.push_only {my : May} {z0 : State} (s : State) (sel : Nat) (desc data : List Byte) (hs : Only my z0 s)
    (hf_regs : Field.regs ∈ my.fields := by assumption) (hf_freeIdx : Field.freeIdx ∈ my.fields := by assumption)
    (hf_firstSeen : Field.firstSeen ∈ my.fields := by assumption) (hf_yew : Field.yew ∈ my.fields := by assumption)
    (hf_yewPort : Field.yewPort ∈ my.fields := by assumption) (hf_hq : Field.hq ∈ my.fields := by assumption) (hf_cmpl :
    Field.cmpl ∈ my.fields := by assumption) (hf_cmplWait : Field.cmplWait ∈ my.fields := by assumption) (hf_hirqLow :
    Field.hirqLow ∈ my.fields := by assumption) (hf_nor : Field.nor ∈ my.fields := by assumption) (hf_ports : Field.ports ∈
    my.fields := by assumption) (hf_ring : Field.ring ∈ my.fields := by assumption) (hp_4 : 4 ∈ my.pages := by assumption)
    (hp_6 : 6 ∈ my.pages := by assumption) (hp_7 : 7 ∈ my.pages := by assumption) : Only my z0 (State.push s sel desc
    data).2 := by
  unfold State.push
  dsimp only
  (repeat' split) <;> simp +contextual (maxDischargeDepth := 99) [hs, hf_regs, hf_freeIdx, hf_firstSeen, hf_yew, hf_yewPort,
                          hf_hq, hf_cmpl, hf_cmplWait, hf_hirqLow, hf_nor, hf_ports, hf_ring, hp_4, hp_6, hp_7]

@[simp] theorem State.popAck_only {my : May} {z0 : State} (s : State) (q : Nat) (ackSeq : BitVec 16) (hs : Only my z0 s)
    (hf_regs : Field.regs ∈ my.fields := by assumption) (hf_freeIdx : Field.freeIdx ∈ my.fields := by assumption)
    (hf_firstSeen : Field.firstSeen ∈ my.fields := by assumption) (hf_yew : Field.yew ∈ my.fields := by assumption)
    (hf_yewPort : Field.yewPort ∈ my.fields := by assumption) (hf_hq : Field.hq ∈ my.fields := by assumption) (hf_cmpl :
    Field.cmpl ∈ my.fields := by assumption) (hf_cmplWait : Field.cmplWait ∈ my.fields := by assumption) (hf_hirqLow :
    Field.hirqLow ∈ my.fields := by assumption) (hf_nor : Field.nor ∈ my.fields := by assumption) (hf_map : Field.map ∈
    my.fields := by assumption) (hf_ports : Field.ports ∈ my.fields := by assumption) (hf_ring : Field.ring ∈ my.fields :=
    by assumption) (hp_4 : 4 ∈ my.pages := by assumption) (hp_6 : 6 ∈ my.pages := by assumption) (hp_7 : 7 ∈ my.pages := by
    assumption) : Only my z0 (State.popAck s q ackSeq) := by
  unfold State.popAck
  (repeat' split) <;> simp_all +contextual (maxDischargeDepth := 99)

@[simp] theorem State.noteLoad_only {my : May} {z0 : State} (s : State) (p : Ring) (chars : Nat) (hs : Only my z0 s)
    (hf_ports : Field.ports ∈ my.fields := by assumption) : Only my z0 (State.noteLoad s p chars) := by
  simp +contextual (maxDischargeDepth := 99) [State.noteLoad, hs, hf_ports]

@[simp] theorem State.forward_only {my : May} {z0 : State} (s : State) (p : Ring) (f : Frame) (hs : Only my z0 s) (hf_regs :
    Field.regs ∈ my.fields := by assumption) (hf_ports : Field.ports ∈ my.fields := by assumption) (hp_8 : 8 ∈ my.pages :=
    by assumption) (hp_9 : 9 ∈ my.pages := by assumption) : Only my z0 (State.forward s p f) := by
  simp +contextual (maxDischargeDepth := 99) [State.forward, hs, hf_regs, hf_ports, hp_8, hp_9]

@[simp] theorem State.enumDone_only {my : May} {z0 : State} (s : State) (hs : Only my z0 s) (hf_regs : Field.regs ∈
    my.fields := by assumption) (hf_freeIdx : Field.freeIdx ∈ my.fields := by assumption) (hf_yew : Field.yew ∈ my.fields :=
    by assumption) (hf_hirqLow : Field.hirqLow ∈ my.fields := by assumption) (hp_6 : 6 ∈ my.pages := by assumption) (hp_8 :
    8 ∈ my.pages := by assumption) (hp_9 : 9 ∈ my.pages := by assumption) : Only my z0 (State.enumDone s) := by
  simp +contextual (maxDischargeDepth := 99) [State.enumDone, hs, hf_regs, hf_freeIdx, hf_yew, hf_hirqLow, hp_6, hp_8, hp_9]

@[simp] theorem State.enumFull_only {my : May} {z0 : State} (s : State) (f : Frame) (hs : Only my z0 s) (hf_regs :
    Field.regs ∈ my.fields := by assumption) (hf_ring : Field.ring ∈ my.fields := by assumption) (hp_8 : 8 ∈ my.pages := by
    assumption) (hp_9 : 9 ∈ my.pages := by assumption) : Only my z0 (State.enumFull s f).2 := by
  unfold State.enumFull
  dsimp only
  (repeat' split) <;> simp +contextual (maxDischargeDepth := 99) [hs, hf_regs, hf_ring, hp_8, hp_9]

@[simp] theorem State.enumClose_only {my : May} {z0 : State} (s : State) (f : Frame) (hs : Only my z0 s) (hf_regs :
    Field.regs ∈ my.fields := by assumption) (hf_freeIdx : Field.freeIdx ∈ my.fields := by assumption) (hf_yew : Field.yew ∈
    my.fields := by assumption) (hf_hirqLow : Field.hirqLow ∈ my.fields := by assumption) (hf_ports : Field.ports ∈
    my.fields := by assumption) (hf_ring : Field.ring ∈ my.fields := by assumption) (hp_6 : 6 ∈ my.pages := by assumption)
    (hp_8 : 8 ∈ my.pages := by assumption) (hp_9 : 9 ∈ my.pages := by assumption) : Only my z0 (State.enumClose s f) := by
  simp +contextual (maxDischargeDepth := 99) [State.enumClose, hs, hf_regs, hf_freeIdx, hf_yew, hf_hirqLow, hf_ports,
      hf_ring, hp_6, hp_8, hp_9]

@[simp] theorem State.enumTakeId_only {my : May} {z0 : State} (s : State) (f : Frame) (hs : Only my z0 s) (hf_regs :
    Field.regs ∈ my.fields := by assumption) (hf_ports : Field.ports ∈ my.fields := by assumption) (hf_ring : Field.ring ∈
    my.fields := by assumption) (hp_8 : 8 ∈ my.pages := by assumption) (hp_9 : 9 ∈ my.pages := by assumption) : Only my z0
    (State.enumTakeId s f).2 := by
  unfold State.enumTakeId
  dsimp only
  (repeat' split) <;> simp +contextual (maxDischargeDepth := 99) [hs, hf_regs, hf_ports, hf_ring, hp_8, hp_9]

@[simp] theorem State.enumRoot_only {my : May} {z0 : State} (s : State) (f : Frame) (hs : Only my z0 s) (hf_regs :
    Field.regs ∈ my.fields := by assumption) (hf_freeIdx : Field.freeIdx ∈ my.fields := by assumption) (hf_yew : Field.yew ∈
    my.fields := by assumption) (hf_hirqLow : Field.hirqLow ∈ my.fields := by assumption) (hf_ports : Field.ports ∈
    my.fields := by assumption) (hf_ring : Field.ring ∈ my.fields := by assumption) (hp_6 : 6 ∈ my.pages := by assumption)
    (hp_8 : 8 ∈ my.pages := by assumption) (hp_9 : 9 ∈ my.pages := by assumption) : Only my z0 (State.enumRoot s f) := by
  unfold State.enumRoot
  dsimp only
  (repeat' split) <;> simp +contextual (maxDischargeDepth := 99) [hs, hf_regs, hf_freeIdx, hf_yew, hf_hirqLow, hf_ports,
                          hf_ring, hp_6, hp_8, hp_9]

@[simp] theorem State.enumRx_only {my : May} {z0 : State} (s : State) (f : Frame) (hs : Only my z0 s) (hf_regs : Field.regs
    ∈ my.fields := by assumption) (hf_freeIdx : Field.freeIdx ∈ my.fields := by assumption) (hf_yew : Field.yew ∈ my.fields
    := by assumption) (hf_hirqLow : Field.hirqLow ∈ my.fields := by assumption) (hf_ports : Field.ports ∈ my.fields := by
    assumption) (hf_ring : Field.ring ∈ my.fields := by assumption) (hp_6 : 6 ∈ my.pages := by assumption) (hp_8 : 8 ∈
    my.pages := by assumption) (hp_9 : 9 ∈ my.pages := by assumption) : Only my z0 (State.enumRx s f).2 := by
  unfold State.enumRx
  (repeat' split) <;> simp_all +contextual (maxDischargeDepth := 99)

@[simp] theorem State.paceNote_only {my : May} {z0 : State} (s : State) (f : Frame) (hs : Only my z0 s) (hf_ring :
    Field.ring ∈ my.fields := by assumption) : Only my z0 (State.paceNote s f) := by
  simp +contextual (maxDischargeDepth := 99) [State.paceNote, hs, hf_ring]

@[simp] theorem State.heardFrom_only {my : May} {z0 : State} (s : State) (node : Nat) (hs : Only my z0 s) (hf_ring :
    Field.ring ∈ my.fields := by assumption) : Only my z0 (State.heardFrom s node) := by
  simp +contextual (maxDischargeDepth := 99) [State.heardFrom, hs, hf_ring]

@[simp] theorem State.paceRx_only {my : May} {z0 : State} (s : State) (f : Frame) (hs : Only my z0 s) (hf_regs : Field.regs
    ∈ my.fields := by assumption) (hf_freeIdx : Field.freeIdx ∈ my.fields := by assumption) (hf_spdRun : Field.spdRun ∈
    my.fields := by assumption) (hf_qualLow : Field.qualLow ∈ my.fields := by assumption) (hf_pose : Field.pose ∈ my.fields
    := by assumption) (hf_ring : Field.ring ∈ my.fields := by assumption) (hp_20 : 20 ∈ my.pages := by assumption) (hp_21 :
    21 ∈ my.pages := by assumption) : Only my z0 (State.paceRx s f) := by
  simp +contextual (maxDischargeDepth := 99) [State.paceRx, hs, hf_regs, hf_freeIdx, hf_spdRun, hf_qualLow, hf_pose,
      hf_ring, hp_20, hp_21]

@[simp] theorem State.strokeExpect_only {my : May} {z0 : State} (s : State) (src : Nat) (v : BitVec 16) (hs : Only my z0 s)
    (hf_ring : Field.ring ∈ my.fields := by assumption) : Only my z0 (State.strokeExpect s src v) := by
  simp +contextual (maxDischargeDepth := 99) [State.strokeExpect, hs, hf_ring]

@[simp] theorem State.strokeRx_only {my : May} {z0 : State} (s : State) (f : Frame) (hs : Only my z0 s) (hf_regs :
    Field.regs ∈ my.fields := by assumption) (hf_hirqLow : Field.hirqLow ∈ my.fields := by assumption) (hf_map : Field.map ∈
    my.fields := by assumption) (hf_ring : Field.ring ∈ my.fields := by assumption) (hp_25 : 25 ∈ my.pages := by assumption)
    : Only my z0 (State.strokeRx s f) := by
  unfold State.strokeRx
  dsimp only
  (repeat' split) <;> simp +contextual (maxDischargeDepth := 99) [hs, hf_regs, hf_hirqLow, hf_map, hf_ring, hp_25]

@[simp] theorem State.setRxStream_only {my : May} {z0 : State} (s : State) (x : RxStream) (hs : Only my z0 s) (hf_ring :
    Field.ring ∈ my.fields := by assumption) : Only my z0 (State.setRxStream s x) := by
  simp +contextual (maxDischargeDepth := 99) [State.setRxStream, hs, hf_ring]

@[simp] theorem State.sendAck_only {my : May} {z0 : State} (s : State) (f : Frame) (credit : Nat) (expect : BitVec 16) (nak
    : Bool) (hs : Only my z0 s) (hf_ports : Field.ports ∈ my.fields := by assumption) : Only my z0 (State.sendAck s f credit
    expect nak) := by
  simp +contextual (maxDischargeDepth := 99) [State.sendAck, hs, hf_ports]

theorem State.bridgeItem_only {my : May} {z0 o : State} (s : State) (q : Nat) (tag : BitVec 16) (d : List Byte) (hs : Only
    my z0 s) (e : State.bridgeItem s q tag d = some o) (hf_regs : Field.regs ∈ my.fields := by assumption) (hf_freeIdx :
    Field.freeIdx ∈ my.fields := by assumption) (hf_firstSeen : Field.firstSeen ∈ my.fields := by assumption) (hf_yew :
    Field.yew ∈ my.fields := by assumption) (hf_yewPort : Field.yewPort ∈ my.fields := by assumption) (hf_hq : Field.hq ∈
    my.fields := by assumption) (hf_cmpl : Field.cmpl ∈ my.fields := by assumption) (hf_cmplWait : Field.cmplWait ∈
    my.fields := by assumption) (hf_hirqLow : Field.hirqLow ∈ my.fields := by assumption) (hf_nor : Field.nor ∈ my.fields :=
    by assumption) (hf_ports : Field.ports ∈ my.fields := by assumption) (hf_ring : Field.ring ∈ my.fields := by assumption)
    (hp_4 : 4 ∈ my.pages := by assumption) (hp_6 : 6 ∈ my.pages := by assumption) (hp_7 : 7 ∈ my.pages := by assumption) :
    Only my z0 o := by
  unfold State.bridgeItem at e
  dsimp only at e
  (repeat' split at e) <;> first
      | (simp only [Option.some.injEq, reduceCtorEq] at e; subst e; simp +contextual (maxDischargeDepth := 99) [hs, hf_regs, hf_freeIdx, hf_firstSeen, hf_yew, hf_yewPort, hf_hq, hf_cmpl, hf_cmplWait, hf_hirqLow, hf_nor, hf_ports, hf_ring, hp_4, hp_6, hp_7]; done)
      | (simp at e; done)

theorem State.bridgeSeg_only {my : May} {z0 o : State} (s : State) (f : Frame) (hs : Only my z0 s) (hf_regs : Field.regs ∈
    my.fields := by assumption) (hf_freeIdx : Field.freeIdx ∈ my.fields := by assumption) (hf_firstSeen : Field.firstSeen ∈
    my.fields := by assumption) (hf_yew : Field.yew ∈ my.fields := by assumption) (hf_yewPort : Field.yewPort ∈ my.fields :=
    by assumption) (hf_hq : Field.hq ∈ my.fields := by assumption) (hf_cmpl : Field.cmpl ∈ my.fields := by assumption)
    (hf_cmplWait : Field.cmplWait ∈ my.fields := by assumption) (hf_hirqLow : Field.hirqLow ∈ my.fields := by assumption)
    (hf_nor : Field.nor ∈ my.fields := by assumption) (hf_ports : Field.ports ∈ my.fields := by assumption) (hf_ring :
    Field.ring ∈ my.fields := by assumption) (hp_4 : 4 ∈ my.pages := by assumption) (hp_6 : 6 ∈ my.pages := by assumption)
    (hp_7 : 7 ∈ my.pages := by assumption) : s.bridgeSeg f = some o → Only my z0 o := by
  unfold State.bridgeSeg
  dsimp only
  (repeat' split) <;> intro e <;> first
    | (simp only [Option.some.injEq] at e; subst e; simp +contextual (maxDischargeDepth := 99) [hs, hf_regs, hf_freeIdx, hf_firstSeen, hf_yew, hf_yewPort, hf_hq, hf_cmpl, hf_cmplWait, hf_hirqLow, hf_nor, hf_ports, hf_ring, hp_4, hp_6, hp_7]; done)
    | (simp only [Option.map_eq_some_iff] at e
       obtain ⟨u, hu, rfl⟩ := e
       have k := State.bridgeItem_only s _ _ _ hs hu
       simp +contextual (maxDischargeDepth := 99) [k, hf_regs, hf_freeIdx, hf_firstSeen, hf_yew, hf_yewPort, hf_hq, hf_cmpl, hf_cmplWait, hf_hirqLow, hf_nor, hf_ports, hf_ring, hp_4, hp_6, hp_7])

@[simp] theorem State.tunAnswer_only {my : May} {z0 : State} (s : State) (f : Frame) (status n : Nat) (d : List Byte) (hs :
    Only my z0 s) (hf_ports : Field.ports ∈ my.fields := by assumption) (hf_ring : Field.ring ∈ my.fields := by assumption)
    : Only my z0 (State.tunAnswer s f status n d) := by
  simp +contextual (maxDischargeDepth := 99) [State.tunAnswer, hs, hf_ports, hf_ring]

@[simp] theorem State.ackRx_only {my : May} {z0 : State} (s : State) (f : Frame) (hs : Only my z0 s) (hf_regs : Field.regs ∈
    my.fields := by assumption) (hf_freeIdx : Field.freeIdx ∈ my.fields := by assumption) (hf_firstSeen : Field.firstSeen ∈
    my.fields := by assumption) (hf_yew : Field.yew ∈ my.fields := by assumption) (hf_hq : Field.hq ∈ my.fields := by
    assumption) (hf_cmpl : Field.cmpl ∈ my.fields := by assumption) (hf_cmplWait : Field.cmplWait ∈ my.fields := by
    assumption) (hf_hirqLow : Field.hirqLow ∈ my.fields := by assumption) (hf_map : Field.map ∈ my.fields := by assumption)
    (hf_ports : Field.ports ∈ my.fields := by assumption) (hf_ring : Field.ring ∈ my.fields := by assumption) (hf_rtun :
    Field.rtun ∈ my.fields := by assumption) (hp_4 : 4 ∈ my.pages := by assumption) (hp_6 : 6 ∈ my.pages := by assumption)
    (hp_8 : 8 ∈ my.pages := by assumption) (hp_9 : 9 ∈ my.pages := by assumption) (hp_11 : 11 ∈ my.pages := by assumption) :
    Only my z0 (State.ackRx s f) := by
  simp +contextual (maxDischargeDepth := 99) [State.ackRx, hs, hf_regs, hf_freeIdx, hf_firstSeen, hf_yew, hf_hq, hf_cmpl,
      hf_cmplWait, hf_hirqLow, hf_map, hf_ports, hf_ring, hf_rtun, hp_4, hp_6, hp_8, hp_9, hp_11]

@[simp] theorem State.stripRx_only {my : May} {z0 : State} (s : State) (f : Frame) (hs : Only my z0 s) (hf_regs : Field.regs
    ∈ my.fields := by assumption) (hf_freeIdx : Field.freeIdx ∈ my.fields := by assumption) (hf_yew : Field.yew ∈ my.fields
    := by assumption) (hf_hirqLow : Field.hirqLow ∈ my.fields := by assumption) (hf_ports : Field.ports ∈ my.fields := by
    assumption) (hf_ring : Field.ring ∈ my.fields := by assumption) (hp_6 : 6 ∈ my.pages := by assumption) (hp_8 : 8 ∈
    my.pages := by assumption) (hp_9 : 9 ∈ my.pages := by assumption) : Only my z0 (State.stripRx s f) := by
  simp +contextual (maxDischargeDepth := 99) [State.stripRx, hs, hf_regs, hf_freeIdx, hf_yew, hf_hirqLow, hf_ports, hf_ring,
      hp_6, hp_8, hp_9]

theorem wordsLE_length (n : Nat) (d : List Byte) : (wordsLE n d).length ≤ n := by
  induction n generalizing d with
  | zero => simp [wordsLE]
  | succ n ih =>
    cases d with
    | nil => simp [wordsLE]
    | cons x xs =>
      have := ih ((x :: xs).drop 4)
      simp only [wordsLE, List.length_cons]
      omega

theorem State.latchWords_reg {my : May} {z0 : State} (s : State) (a : Nat) (ws : List Word) (hs : Only my z0 s) (hf_regs :
    Field.regs ∈ my.fields)
    (ha : ∀ i, i < ws.length → my.reg (a + 4 * i)) : Only my z0 (s.latchWords a ws) := by
  unfold State.latchWords
  induction ws generalizing s a with
  | nil => exact hs
  | cons w ws ih =>
    simp only [List.foldl_cons]
    apply ih
    · exact State.setReg_only hs _ _ (by simpa using ha 0 (by simp)) hf_regs
    · intro i hi
      have := ha (i + 1) (by simpa using hi)
      rw [show a + 4 + 4 * i = a + 4 * (i + 1) by omega]
      exact this

theorem may_tunBuf {my : May} (i : Nat) (hi : i < 16) (hp_11 : 11 ∈ my.pages) : my.reg (0xbc00 + 4 * 0 + 4 * i) := by
  have e : home (0xbc00 + 4 * 0 + 4 * i) = 0xbc00 + 4 * i := by
    unfold home
    rw [if_neg (by omega), if_neg (by omega)]
  unfold May.reg
  rw [e]
  refine ⟨?_, Or.inr ?_⟩
  · rw [show (0xbc00 + 4 * i) / 4096 = 11 by omega]
    exact page_lit hp_11 (of_decide_eq_true rfl)
  · have : 0x800 ≤ (0xbc00 + 4 * i) % 4096 := by omega
    simp [runtimeOff, this]

@[simp] theorem State.tunReply_only {my : May} {z0 : State} (s : State) (f : Frame) (hs : Only my z0 s) (hf_regs :
    Field.regs ∈ my.fields := by assumption) (hf_freeIdx : Field.freeIdx ∈ my.fields := by assumption) (hf_firstSeen :
    Field.firstSeen ∈ my.fields := by assumption) (hf_spdRun : Field.spdRun ∈ my.fields := by assumption) (hf_qualLow :
    Field.qualLow ∈ my.fields := by assumption) (hf_yew : Field.yew ∈ my.fields := by assumption) (hf_yewPort :
    Field.yewPort ∈ my.fields := by assumption) (hf_hq : Field.hq ∈ my.fields := by assumption) (hf_cmpl : Field.cmpl ∈
    my.fields := by assumption) (hf_cmplWait : Field.cmplWait ∈ my.fields := by assumption) (hf_hirqLow : Field.hirqLow ∈
    my.fields := by assumption) (hf_nor : Field.nor ∈ my.fields := by assumption) (hf_pose : Field.pose ∈ my.fields := by
    assumption) (hf_map : Field.map ∈ my.fields := by assumption) (hf_ports : Field.ports ∈ my.fields := by assumption)
    (hf_ring : Field.ring ∈ my.fields := by assumption) (hf_rtun : Field.rtun ∈ my.fields := by assumption) (hp_4 : 4 ∈
    my.pages := by assumption) (hp_6 : 6 ∈ my.pages := by assumption) (hp_7 : 7 ∈ my.pages := by assumption) (hp_8 : 8 ∈
    my.pages := by assumption) (hp_9 : 9 ∈ my.pages := by assumption) (hp_11 : 11 ∈ my.pages := by assumption) (hp_20 : 20 ∈
    my.pages := by assumption) (hp_21 : 21 ∈ my.pages := by assumption) (hp_25 : 25 ∈ my.pages := by assumption) : Only my
    z0 (s.tunReply f) := by
  unfold State.tunReply
  dsimp only
  split
  · have k : Only my z0 (if s.rtun.op = 1 ∧ leAt f.payload 4 1 = 0 then
        s.latchWords (RTUN.TUN_BUF 0) (wordsLE (min 16 (leAt f.payload 1 1)) (f.payload.drop 8)) else s) := by
      split
      · apply State.latchWords_reg _ _ _ hs hf_regs
        intro i hi
        have := wordsLE_length (min 16 (leAt f.payload 1 1)) (f.payload.drop 8)
        exact may_tunBuf i (by omega) hp_11
      · exact hs
    simp +contextual (maxDischargeDepth := 99) [k, hf_regs, hf_freeIdx, hf_firstSeen, hf_spdRun, hf_qualLow, hf_yew,
        hf_yewPort, hf_hq, hf_cmpl, hf_cmplWait, hf_hirqLow, hf_nor, hf_pose, hf_map, hf_ports, hf_ring, hf_rtun, hp_4,
        hp_6, hp_7, hp_8, hp_9, hp_11, hp_20, hp_21, hp_25]
  · exact hs

theorem State.deliver_only {my : May} {z0 o : State} (s : State) (f : Frame) (ht : (f.tun && isTunRequest f) = false) (hs :
    Only my z0 s)
    (e : s.deliver f = some o) (hf_regs : Field.regs ∈ my.fields := by assumption) (hf_freeIdx : Field.freeIdx ∈ my.fields := by assumption) (hf_firstSeen : Field.firstSeen ∈ my.fields := by assumption) (hf_spdRun : Field.spdRun ∈ my.fields := by assumption) (hf_qualLow : Field.qualLow ∈ my.fields := by assumption) (hf_yew : Field.yew ∈ my.fields := by assumption) (hf_yewPort : Field.yewPort ∈ my.fields := by assumption) (hf_hq : Field.hq ∈ my.fields := by assumption) (hf_cmpl : Field.cmpl ∈ my.fields := by assumption) (hf_cmplWait : Field.cmplWait ∈ my.fields := by assumption) (hf_hirqLow : Field.hirqLow ∈ my.fields := by assumption) (hf_nor : Field.nor ∈ my.fields := by assumption) (hf_pose : Field.pose ∈ my.fields := by assumption) (hf_map : Field.map ∈ my.fields := by assumption) (hf_ports : Field.ports ∈ my.fields := by assumption) (hf_ring : Field.ring ∈ my.fields := by assumption) (hf_rtun : Field.rtun ∈ my.fields := by assumption) (hp_4 : 4 ∈ my.pages := by assumption) (hp_6 : 6 ∈ my.pages := by assumption) (hp_7 : 7 ∈ my.pages := by assumption) (hp_8 : 8 ∈ my.pages := by assumption) (hp_9 : 9 ∈ my.pages := by assumption) (hp_11 : 11 ∈ my.pages := by assumption) (hp_20 : 20 ∈ my.pages := by assumption) (hp_21 : 21 ∈ my.pages := by assumption) (hp_25 : 25 ∈ my.pages := by assumption) : Only my z0 o := by
  unfold State.deliver at e
  split at e
  · rename_i h
    simp [h] at ht
    simp [ht] at e
    subst e
    simp +contextual (maxDischargeDepth := 99) [hs, hf_regs, hf_freeIdx, hf_firstSeen, hf_spdRun, hf_qualLow, hf_yew,
        hf_yewPort, hf_hq, hf_cmpl, hf_cmplWait, hf_hirqLow, hf_nor, hf_pose, hf_map, hf_ports, hf_ring, hf_rtun, hp_4,
        hp_6, hp_7, hp_8, hp_9, hp_11, hp_20, hp_21, hp_25]
  · split at e
    · have k := State.bridgeSeg_only (o := o) s f hs
      exact k e
    · have k : Only my z0 (s.post (ingressQ f) 0 (s.ingressItem f)).2 := by simp +contextual (maxDischargeDepth := 99) [hs, hf_regs, hf_freeIdx, hf_firstSeen, hf_spdRun, hf_qualLow, hf_yew, hf_yewPort, hf_hq, hf_cmpl, hf_cmplWait, hf_hirqLow, hf_nor, hf_pose, hf_map, hf_ports, hf_ring, hf_rtun, hp_4, hp_6, hp_7, hp_8, hp_9, hp_11, hp_20, hp_21, hp_25]
      revert e k
      rcases s.post (ingressQ f) 0 (s.ingressItem f) with ⟨b, u⟩
      intro e k
      cases b
      · simp at e
      · simp at e
        subst e
        exact k

@[simp] theorem State.streamRx_only {my : May} {z0 : State} (s : State) (f : Frame) (ht : (f.tun && isTunRequest f) = false)
    (hs : Only my z0 s)
    (hf_regs : Field.regs ∈ my.fields := by assumption) (hf_freeIdx : Field.freeIdx ∈ my.fields := by assumption) (hf_firstSeen : Field.firstSeen ∈ my.fields := by assumption) (hf_spdRun : Field.spdRun ∈ my.fields := by assumption) (hf_qualLow : Field.qualLow ∈ my.fields := by assumption) (hf_yew : Field.yew ∈ my.fields := by assumption) (hf_yewPort : Field.yewPort ∈ my.fields := by assumption) (hf_hq : Field.hq ∈ my.fields := by assumption) (hf_cmpl : Field.cmpl ∈ my.fields := by assumption) (hf_cmplWait : Field.cmplWait ∈ my.fields := by assumption) (hf_hirqLow : Field.hirqLow ∈ my.fields := by assumption) (hf_nor : Field.nor ∈ my.fields := by assumption) (hf_pose : Field.pose ∈ my.fields := by assumption) (hf_map : Field.map ∈ my.fields := by assumption) (hf_ports : Field.ports ∈ my.fields := by assumption) (hf_ring : Field.ring ∈ my.fields := by assumption) (hf_rtun : Field.rtun ∈ my.fields := by assumption) (hp_4 : 4 ∈ my.pages := by assumption) (hp_6 : 6 ∈ my.pages := by assumption) (hp_7 : 7 ∈ my.pages := by assumption) (hp_8 : 8 ∈ my.pages := by assumption) (hp_9 : 9 ∈ my.pages := by assumption) (hp_11 : 11 ∈ my.pages := by assumption) (hp_20 : 20 ∈ my.pages := by assumption) (hp_21 : 21 ∈ my.pages := by assumption) (hp_25 : 25 ∈ my.pages := by assumption) : Only my z0 (s.streamRx f) := by
  unfold State.streamRx
  dsimp only
  generalize (if f.flag = true then _ else _ : RxStream) = x
  split
  · have k0 : Only my z0 (s.setRxStream { x with expect := x.expect + 1, naked := false }) := by simp +contextual (maxDischargeDepth := 99) [hs, hf_regs, hf_freeIdx, hf_firstSeen, hf_spdRun, hf_qualLow, hf_yew, hf_yewPort, hf_hq, hf_cmpl, hf_cmplWait, hf_hirqLow, hf_nor, hf_pose, hf_map, hf_ports, hf_ring, hf_rtun, hp_4, hp_6, hp_7, hp_8, hp_9, hp_11, hp_20, hp_21, hp_25]
    split
    · rename_i o e
      have k : Only my z0 o := State.deliver_only _ f ht k0 e
      split
      · simp +contextual (maxDischargeDepth := 99) [k, hf_regs, hf_freeIdx, hf_firstSeen, hf_spdRun, hf_qualLow, hf_yew,
          hf_yewPort, hf_hq, hf_cmpl, hf_cmplWait, hf_hirqLow, hf_nor, hf_pose, hf_map, hf_ports, hf_ring, hf_rtun, hp_4,
          hp_6, hp_7, hp_8, hp_9, hp_11, hp_20, hp_21, hp_25]
      · exact k
    · simp +contextual (maxDischargeDepth := 99) [hs, hf_regs, hf_freeIdx, hf_firstSeen, hf_spdRun, hf_qualLow, hf_yew,
        hf_yewPort, hf_hq, hf_cmpl, hf_cmplWait, hf_hirqLow, hf_nor, hf_pose, hf_map, hf_ports, hf_ring, hf_rtun, hp_4,
        hp_6, hp_7, hp_8, hp_9, hp_11, hp_20, hp_21, hp_25]
  · split
    · simp +contextual (maxDischargeDepth := 99) [hs, hf_regs, hf_freeIdx, hf_firstSeen, hf_spdRun, hf_qualLow, hf_yew,
        hf_yewPort, hf_hq, hf_cmpl, hf_cmplWait, hf_hirqLow, hf_nor, hf_pose, hf_map, hf_ports, hf_ring, hf_rtun, hp_4,
        hp_6, hp_7, hp_8, hp_9, hp_11, hp_20, hp_21, hp_25]
    · split
      · exact hs
      · simp +contextual (maxDischargeDepth := 99) [hs, hf_regs, hf_freeIdx, hf_firstSeen, hf_spdRun, hf_qualLow, hf_yew,
          hf_yewPort, hf_hq, hf_cmpl, hf_cmplWait, hf_hirqLow, hf_nor, hf_pose, hf_map, hf_ports, hf_ring, hf_rtun, hp_4,
          hp_6, hp_7, hp_8, hp_9, hp_11, hp_20, hp_21, hp_25]

@[simp] theorem State.copyRx_only {my : May} {z0 : State} (s : State) (f : Frame) (ht : (f.tun && isTunRequest f) = false)
    (hs : Only my z0 s)
    (hf_regs : Field.regs ∈ my.fields := by assumption) (hf_freeIdx : Field.freeIdx ∈ my.fields := by assumption) (hf_firstSeen : Field.firstSeen ∈ my.fields := by assumption) (hf_spdRun : Field.spdRun ∈ my.fields := by assumption) (hf_qualLow : Field.qualLow ∈ my.fields := by assumption) (hf_yew : Field.yew ∈ my.fields := by assumption) (hf_yewPort : Field.yewPort ∈ my.fields := by assumption) (hf_hq : Field.hq ∈ my.fields := by assumption) (hf_cmpl : Field.cmpl ∈ my.fields := by assumption) (hf_cmplWait : Field.cmplWait ∈ my.fields := by assumption) (hf_hirqLow : Field.hirqLow ∈ my.fields := by assumption) (hf_nor : Field.nor ∈ my.fields := by assumption) (hf_pose : Field.pose ∈ my.fields := by assumption) (hf_map : Field.map ∈ my.fields := by assumption) (hf_ports : Field.ports ∈ my.fields := by assumption) (hf_ring : Field.ring ∈ my.fields := by assumption) (hf_rtun : Field.rtun ∈ my.fields := by assumption) (hp_4 : 4 ∈ my.pages := by assumption) (hp_6 : 6 ∈ my.pages := by assumption) (hp_7 : 7 ∈ my.pages := by assumption) (hp_8 : 8 ∈ my.pages := by assumption) (hp_9 : 9 ∈ my.pages := by assumption) (hp_11 : 11 ∈ my.pages := by assumption) (hp_20 : 20 ∈ my.pages := by assumption) (hp_21 : 21 ∈ my.pages := by assumption) (hp_25 : 25 ∈ my.pages := by assumption) : Only my z0 (s.copyRx f) := by
  have hh : Only my z0 (s.heardFrom f.src.toNat) := by simp +contextual (maxDischargeDepth := 99) [hs, hf_regs, hf_freeIdx, hf_firstSeen, hf_spdRun, hf_qualLow, hf_yew, hf_yewPort, hf_hq, hf_cmpl, hf_cmplWait, hf_hirqLow, hf_nor, hf_pose, hf_map, hf_ports, hf_ring, hf_rtun, hp_4, hp_6, hp_7, hp_8, hp_9, hp_11, hp_20, hp_21, hp_25]
  unfold State.copyRx
  dsimp only
  have kd : Only my z0 (((s.heardFrom f.src.toNat).deliver f).getD (s.heardFrom f.src.toNat)) := by
    cases e : (s.heardFrom f.src.toNat).deliver f with
    | none => exact hh
    | some o => exact State.deliver_only _ f ht hh e
  (repeat' split) <;> first | exact kd | simp +contextual (maxDischargeDepth := 99) [hh, ht, hf_regs, hf_freeIdx, hf_firstSeen, hf_spdRun, hf_qualLow, hf_yew, hf_yewPort, hf_hq, hf_cmpl, hf_cmplWait, hf_hirqLow, hf_nor, hf_pose, hf_map, hf_ports, hf_ring, hf_rtun, hp_4, hp_6, hp_7, hp_8, hp_9, hp_11, hp_20, hp_21, hp_25]

theorem State.rxEnum_only {my : May} {z0 : State} (s : State) (p : Ring) (f : Frame) (hs : Only my z0 s)
    (hf_regs : Field.regs ∈ my.fields := by assumption) (hf_freeIdx : Field.freeIdx ∈ my.fields := by assumption) (hf_firstSeen : Field.firstSeen ∈ my.fields := by assumption) (hf_spdRun : Field.spdRun ∈ my.fields := by assumption) (hf_qualLow : Field.qualLow ∈ my.fields := by assumption) (hf_yew : Field.yew ∈ my.fields := by assumption) (hf_yewPort : Field.yewPort ∈ my.fields := by assumption) (hf_hq : Field.hq ∈ my.fields := by assumption) (hf_cmpl : Field.cmpl ∈ my.fields := by assumption) (hf_cmplWait : Field.cmplWait ∈ my.fields := by assumption) (hf_hirqLow : Field.hirqLow ∈ my.fields := by assumption) (hf_nor : Field.nor ∈ my.fields := by assumption) (hf_pose : Field.pose ∈ my.fields := by assumption) (hf_map : Field.map ∈ my.fields := by assumption) (hf_ports : Field.ports ∈ my.fields := by assumption) (hf_ring : Field.ring ∈ my.fields := by assumption) (hf_rtun : Field.rtun ∈ my.fields := by assumption) (hp_4 : 4 ∈ my.pages := by assumption) (hp_6 : 6 ∈ my.pages := by assumption) (hp_7 : 7 ∈ my.pages := by assumption) (hp_8 : 8 ∈ my.pages := by assumption) (hp_9 : 9 ∈ my.pages := by assumption) (hp_11 : 11 ∈ my.pages := by assumption) (hp_20 : 20 ∈ my.pages := by assumption) (hp_21 : 21 ∈ my.pages := by assumption) (hp_25 : 25 ∈ my.pages := by assumption) : Only my z0 (((s.count (RTX.RX_FRAMES p.ix) 1).enumRx f).2) := by
  simp +contextual (maxDischargeDepth := 99) [hs, hf_regs, hf_freeIdx, hf_firstSeen, hf_spdRun, hf_qualLow, hf_yew, hf_yewPort, hf_hq, hf_cmpl, hf_cmplWait, hf_hirqLow, hf_nor, hf_pose, hf_map, hf_ports, hf_ring, hf_rtun, hp_4, hp_6, hp_7, hp_8, hp_9, hp_11, hp_20, hp_21, hp_25]

theorem State.rxForward_only {my : May} {z0 : State} (s : State) (p : Ring) (g : Frame) (hs : Only my z0 s)
    (hf_regs : Field.regs ∈ my.fields := by assumption) (hf_freeIdx : Field.freeIdx ∈ my.fields := by assumption) (hf_firstSeen : Field.firstSeen ∈ my.fields := by assumption) (hf_spdRun : Field.spdRun ∈ my.fields := by assumption) (hf_qualLow : Field.qualLow ∈ my.fields := by assumption) (hf_yew : Field.yew ∈ my.fields := by assumption) (hf_yewPort : Field.yewPort ∈ my.fields := by assumption) (hf_hq : Field.hq ∈ my.fields := by assumption) (hf_cmpl : Field.cmpl ∈ my.fields := by assumption) (hf_cmplWait : Field.cmplWait ∈ my.fields := by assumption) (hf_hirqLow : Field.hirqLow ∈ my.fields := by assumption) (hf_nor : Field.nor ∈ my.fields := by assumption) (hf_pose : Field.pose ∈ my.fields := by assumption) (hf_map : Field.map ∈ my.fields := by assumption) (hf_ports : Field.ports ∈ my.fields := by assumption) (hf_ring : Field.ring ∈ my.fields := by assumption) (hf_rtun : Field.rtun ∈ my.fields := by assumption) (hp_4 : 4 ∈ my.pages := by assumption) (hp_6 : 6 ∈ my.pages := by assumption) (hp_7 : 7 ∈ my.pages := by assumption) (hp_8 : 8 ∈ my.pages := by assumption) (hp_9 : 9 ∈ my.pages := by assumption) (hp_11 : 11 ∈ my.pages := by assumption) (hp_20 : 20 ∈ my.pages := by assumption) (hp_21 : 21 ∈ my.pages := by assumption) (hp_25 : 25 ∈ my.pages := by assumption) : Only my z0 ((s.forward p g).count (RTX.RX_FRAMES p.ix) 1) := by
  have k3 : Only my z0 (s.forward p g) := by simp +contextual (maxDischargeDepth := 99) [hs, hf_regs, hf_freeIdx, hf_firstSeen, hf_spdRun, hf_qualLow, hf_yew, hf_yewPort, hf_hq, hf_cmpl, hf_cmplWait, hf_hirqLow, hf_nor, hf_pose, hf_map, hf_ports, hf_ring, hf_rtun, hp_4, hp_6, hp_7, hp_8, hp_9, hp_11, hp_20, hp_21, hp_25]
  simp +contextual (maxDischargeDepth := 99) [k3, hf_regs, hf_freeIdx, hf_firstSeen, hf_spdRun, hf_qualLow, hf_yew, hf_yewPort, hf_hq, hf_cmpl, hf_cmplWait, hf_hirqLow, hf_nor, hf_pose, hf_map, hf_ports, hf_ring, hf_rtun, hp_4, hp_6, hp_7, hp_8, hp_9, hp_11, hp_20, hp_21, hp_25]

set_option maxHeartbeats 1000000 in
@[simp] theorem State.ringRx_only {my : May} {z0 : State} (s : State) (p : Ring) (f : Frame) (ht : (f.tun && isTunRequest f)
    = false) (hs : Only my z0 s)
    (hf_regs : Field.regs ∈ my.fields := by assumption) (hf_freeIdx : Field.freeIdx ∈ my.fields := by assumption) (hf_firstSeen : Field.firstSeen ∈ my.fields := by assumption) (hf_spdRun : Field.spdRun ∈ my.fields := by assumption) (hf_qualLow : Field.qualLow ∈ my.fields := by assumption) (hf_yew : Field.yew ∈ my.fields := by assumption) (hf_yewPort : Field.yewPort ∈ my.fields := by assumption) (hf_hq : Field.hq ∈ my.fields := by assumption) (hf_cmpl : Field.cmpl ∈ my.fields := by assumption) (hf_cmplWait : Field.cmplWait ∈ my.fields := by assumption) (hf_hirqLow : Field.hirqLow ∈ my.fields := by assumption) (hf_nor : Field.nor ∈ my.fields := by assumption) (hf_pose : Field.pose ∈ my.fields := by assumption) (hf_map : Field.map ∈ my.fields := by assumption) (hf_ports : Field.ports ∈ my.fields := by assumption) (hf_ring : Field.ring ∈ my.fields := by assumption) (hf_rtun : Field.rtun ∈ my.fields := by assumption) (hp_4 : 4 ∈ my.pages := by assumption) (hp_6 : 6 ∈ my.pages := by assumption) (hp_7 : 7 ∈ my.pages := by assumption) (hp_8 : 8 ∈ my.pages := by assumption) (hp_9 : 9 ∈ my.pages := by assumption) (hp_11 : 11 ∈ my.pages := by assumption) (hp_20 : 20 ∈ my.pages := by assumption) (hp_21 : 21 ∈ my.pages := by assumption) (hp_25 : 25 ∈ my.pages := by assumption) : Only my z0 (s.ringRx p f) := by
  unfold State.ringRx
  split
  · exact hs
  · have k0 := State.noteLoad_only s p (f.payload.length + 23) hs
    dsimp only
    generalize s.noteLoad p (f.payload.length + 23) = a at k0 ⊢
    split
    · exact State.bump_only _ _ _ k0 (by simp [hp_8, hp_9])
    · split
      · exact State.bump_only _ _ _ k0 (by simp [hp_8, hp_9])
      · have k1 : Only my z0 (if crcGood f = true then a else a.bump (RTX.CRC_ERR_CNT.CRC32 p.ix) 1) := by
          split
          · exact k0
          · exact State.bump_only _ _ _ k0 (by simp [hp_8, hp_9])
        generalize (if crcGood f = true then a else a.bump (RTX.CRC_ERR_CNT.CRC32 p.ix) 1) = b at k1 ⊢
        split
        · exact State.stripRx_only _ _ k1
        · split
          · exact State.forward_only _ _ _ k1
          · split
            · exact State.forward_only _ _ _ (State.rxEnum_only b p f k1)
            · split
              · exact State.forward_only _ _ _ (State.bump_only _ _ _ k1 (by simp [hp_8, hp_9]))
              · split
                · exact State.forward_only _ _ _ k1
                · generalize (if f.cls = FrameClass.stroke ∧ b.strokeMiss f = true then _ else _ : Frame) = g
                  exact State.copyRx_only _ f ht (State.rxForward_only b p g k1)

@[simp] theorem State.rowRx_only {my : May} {z0 : State} (s : State) (p : Ring) (f : Frame) (kind : Bool) (ht : kind = true
    → (f.tun && isTunRequest f) = false)
    (hs : Only my z0 s) (hf_regs : Field.regs ∈ my.fields := by assumption) (hf_freeIdx : Field.freeIdx ∈ my.fields := by assumption) (hf_firstSeen : Field.firstSeen ∈ my.fields := by assumption) (hf_spdRun : Field.spdRun ∈ my.fields := by assumption) (hf_qualLow : Field.qualLow ∈ my.fields := by assumption) (hf_yew : Field.yew ∈ my.fields := by assumption) (hf_yewPort : Field.yewPort ∈ my.fields := by assumption) (hf_hq : Field.hq ∈ my.fields := by assumption) (hf_cmpl : Field.cmpl ∈ my.fields := by assumption) (hf_cmplWait : Field.cmplWait ∈ my.fields := by assumption) (hf_hirqLow : Field.hirqLow ∈ my.fields := by assumption) (hf_nor : Field.nor ∈ my.fields := by assumption) (hf_pose : Field.pose ∈ my.fields := by assumption) (hf_map : Field.map ∈ my.fields := by assumption) (hf_ports : Field.ports ∈ my.fields := by assumption) (hf_ring : Field.ring ∈ my.fields := by assumption) (hf_rtun : Field.rtun ∈ my.fields := by assumption) (hp_4 : 4 ∈ my.pages := by assumption) (hp_6 : 6 ∈ my.pages := by assumption) (hp_7 : 7 ∈ my.pages := by assumption) (hp_8 : 8 ∈ my.pages := by assumption) (hp_9 : 9 ∈ my.pages := by assumption) (hp_11 : 11 ∈ my.pages := by assumption) (hp_20 : 20 ∈ my.pages := by assumption) (hp_21 : 21 ∈ my.pages := by assumption) (hp_25 : 25 ∈ my.pages := by assumption) : Only my z0 (s.rowRx p f kind) := by
  unfold State.rowRx
  split
  · rename_i h
    exact State.ringRx_only s p f (ht h) hs
  · exact hs

end Sys2Proof.Machine
end

