-- ==== Sys2Proof/Laws/OnlyExec.lean ====
section
/-! SUPPORT. What each command may change, under the hypotheses that name it. -/
set_option maxRecDepth 4000
set_option linter.unusedSimpArgs false
set_option linter.unusedVariables false
namespace Sys2Proof.Machine

theorem execOpenWindowStart_only {my : May} (t : Time) (n : LaneIx) (k : OutIx) (s : State) (hf_now : Field.now ∈ my.fields)
    (hf_banks : Field.banks ∈ my.fields) (hl_n : n ∈ my.lanes) : ∃ u, execOpenWindowStart t n k s = .next u ∧ Only my s u :=
    by
  have hs := Only.refl my s
  unfold execOpenWindowStart
  dsimp only
  (repeat' split) <;> exact ⟨_, rfl, by simp +contextual (maxDischargeDepth := 99) [hs, hf_now, hf_banks, hl_n]⟩

theorem execOpenWindowEnd_only {my : May} (t : Time) (n : LaneIx) (k : OutIx) (s : State) (hf_now : Field.now ∈ my.fields)
    (hf_regs : Field.regs ∈ my.fields) (hf_firstSeen : Field.firstSeen ∈ my.fields) (hf_yew : Field.yew ∈ my.fields)
    (hf_hirqLow : Field.hirqLow ∈ my.fields) (hf_lanes : Field.lanes ∈ my.fields) (hf_banks : Field.banks ∈ my.fields) (hp_6
    : 6 ∈ my.pages) (hl_n : n ∈ my.lanes) : ∃ u, execOpenWindowEnd t n k s = .next u ∧ Only my s u := by
  have hs := Only.refl my s
  unfold execOpenWindowEnd
  dsimp only
  (repeat' split) <;> exact ⟨_, rfl, by simp +contextual (maxDischargeDepth := 99) [hs, hf_now, hf_regs, hf_firstSeen,
                          hf_yew, hf_hirqLow, hf_lanes, hf_banks, hp_6, hl_n]⟩

theorem execCloseWindowStart_only {my : May} (t : Time) (n : LaneIx) (k : OutIx) (s : State) (hf_now : Field.now ∈
    my.fields) (hf_banks : Field.banks ∈ my.fields) (hl_n : n ∈ my.lanes) : ∃ u, execCloseWindowStart t n k s = .next u ∧
    Only my s u := by
  have hs := Only.refl my s
  unfold execCloseWindowStart
  dsimp only
  (repeat' split) <;> exact ⟨_, rfl, by simp +contextual (maxDischargeDepth := 99) [hs, hf_now, hf_banks, hl_n]⟩

theorem execCloseWindowEnd_only {my : May} (t : Time) (n : LaneIx) (k : OutIx) (s : State) (hf_now : Field.now ∈ my.fields)
    (hf_regs : Field.regs ∈ my.fields) (hf_firstSeen : Field.firstSeen ∈ my.fields) (hf_yew : Field.yew ∈ my.fields)
    (hf_hirqLow : Field.hirqLow ∈ my.fields) (hf_lanes : Field.lanes ∈ my.fields) (hf_banks : Field.banks ∈ my.fields) (hp_6
    : 6 ∈ my.pages) (hl_n : n ∈ my.lanes) : ∃ u, execCloseWindowEnd t n k s = .next u ∧ Only my s u := by
  have hs := Only.refl my s
  unfold execCloseWindowEnd
  dsimp only
  (repeat' split) <;> exact ⟨_, rfl, by simp +contextual (maxDischargeDepth := 99) [hs, hf_now, hf_regs, hf_firstSeen,
                          hf_yew, hf_hirqLow, hf_lanes, hf_banks, hp_6, hl_n]⟩

theorem execKinkFound_only {my : May} (t : Time) (n : LaneIx) (k : OutIx) (vs : List Sample) (s : State) (hf_now : Field.now
    ∈ my.fields) (hf_regs : Field.regs ∈ my.fields) (hf_yew : Field.yew ∈ my.fields) (hf_hirqLow : Field.hirqLow ∈
    my.fields) (hf_lanes : Field.lanes ∈ my.fields) (hf_banks : Field.banks ∈ my.fields) (hp_6 : 6 ∈ my.pages) (hl_n : n ∈
    my.lanes) : ∃ u, execKinkFound t n k vs s = .next u ∧ Only my s u := by
  have hs := Only.refl my s
  unfold execKinkFound
  dsimp only
  (repeat' split) <;> exact ⟨_, rfl, by simp +contextual (maxDischargeDepth := 99) [hs, hf_now, hf_regs, hf_yew, hf_hirqLow,
                          hf_lanes, hf_banks, hp_6, hl_n]⟩

theorem execRelearn_only {my : May} (t : Time) (n : LaneIx) (k : OutIx) (off : Bool) (s : State) (hf_now : Field.now ∈
    my.fields) (hf_banks : Field.banks ∈ my.fields) (hl_n : n ∈ my.lanes) : ∃ u, execRelearn t n k off s = .next u ∧ Only my
    s u := by
  have hs := Only.refl my s
  unfold execRelearn
  dsimp only
  (repeat' split) <;> exact ⟨_, rfl, by simp +contextual (maxDischargeDepth := 99) [hs, hf_now, hf_banks, hl_n]⟩

theorem execValveStuck_only {my : May} (t : Time) (n : LaneIx) (k : OutIx) (s : State) (hf_now : Field.now ∈ my.fields)
    (hf_regs : Field.regs ∈ my.fields) (hf_yew : Field.yew ∈ my.fields) (hf_hirqLow : Field.hirqLow ∈ my.fields) (hf_banks :
    Field.banks ∈ my.fields) (hp_6 : 6 ∈ my.pages) (hl_n : n ∈ my.lanes) : ∃ u, execValveStuck t n k s = .next u ∧ Only my s
    u := by
  have hs := Only.refl my s
  unfold execValveStuck
  dsimp only
  (repeat' split) <;> exact ⟨_, rfl, by simp +contextual (maxDischargeDepth := 99) [hs, hf_now, hf_regs, hf_yew, hf_hirqLow,
                          hf_banks, hp_6, hl_n]⟩

theorem execCloseFail_only {my : May} (t : Time) (n : LaneIx) (k : OutIx) (s : State) (hf_now : Field.now ∈ my.fields)
    (hf_regs : Field.regs ∈ my.fields) (hf_yew : Field.yew ∈ my.fields) (hf_hirqLow : Field.hirqLow ∈ my.fields) (hf_banks :
    Field.banks ∈ my.fields) (hp_6 : 6 ∈ my.pages) (hl_n : n ∈ my.lanes) : ∃ u, execCloseFail t n k s = .next u ∧ Only my s
    u := by
  have hs := Only.refl my s
  unfold execCloseFail
  dsimp only
  (repeat' split) <;> exact ⟨_, rfl, by simp +contextual (maxDischargeDepth := 99) [hs, hf_now, hf_regs, hf_yew, hf_hirqLow,
                          hf_banks, hp_6, hl_n]⟩

theorem execEstimatedClosing_only {my : May} (t : Time) (n : LaneIx) (k : OutIx) (s : State) (hf_now : Field.now ∈
    my.fields) (hf_lanes : Field.lanes ∈ my.fields) (hf_banks : Field.banks ∈ my.fields) (hl_n : n ∈ my.lanes) : ∃ u,
    execEstimatedClosing t n k s = .next u ∧ Only my s u := by
  have hs := Only.refl my s
  unfold execEstimatedClosing
  dsimp only
  (repeat' split) <;> exact ⟨_, rfl, by simp +contextual (maxDischargeDepth := 99) [hs, hf_now, hf_lanes, hf_banks, hl_n]⟩

theorem execPeakGrant_only {my : May} (t : Time) (n : LaneIx) (sm : List Sample) (s : State) (hf_now : Field.now ∈
    my.fields) (hf_regs : Field.regs ∈ my.fields) (hf_firstSeen : Field.firstSeen ∈ my.fields) (hf_yew : Field.yew ∈
    my.fields) (hf_hirqLow : Field.hirqLow ∈ my.fields) (hf_lanes : Field.lanes ∈ my.fields) (hf_banks : Field.banks ∈
    my.fields) (hp_6 : 6 ∈ my.pages) (hl_n : n ∈ my.lanes) : ∃ u, execPeakGrant t n sm s = .next u ∧ Only my s u := by
  have hs := Only.refl my s
  unfold execPeakGrant
  dsimp only
  (repeat' split) <;> exact ⟨_, rfl, by simp +contextual (maxDischargeDepth := 99) [hs, hf_now, hf_regs, hf_firstSeen,
                          hf_yew, hf_hirqLow, hf_lanes, hf_banks, hp_6, hl_n]⟩

theorem execPeakWaitTimeout_only {my : May} (t : Time) (n : LaneIx) (k : OutIx) (s : State) (hf_now : Field.now ∈ my.fields)
    (hf_regs : Field.regs ∈ my.fields) (hf_firstSeen : Field.firstSeen ∈ my.fields) (hf_yew : Field.yew ∈ my.fields)
    (hf_hirqLow : Field.hirqLow ∈ my.fields) (hf_banks : Field.banks ∈ my.fields) (hp_6 : 6 ∈ my.pages) (hl_n : n ∈
    my.lanes) : ∃ u, execPeakWaitTimeout t n k s = .next u ∧ Only my s u := by
  have hs := Only.refl my s
  unfold execPeakWaitTimeout
  dsimp only
  (repeat' split) <;> exact ⟨_, rfl, by simp +contextual (maxDischargeDepth := 99) [hs, hf_now, hf_regs, hf_firstSeen,
                          hf_yew, hf_hirqLow, hf_banks, hp_6, hl_n]⟩

theorem execPhaseEndCurrent_only {my : May} (t : Time) (n : LaneIx) (k : OutIx) (sm : List Sample) (s : State) (hf_now :
    Field.now ∈ my.fields) (hf_regs : Field.regs ∈ my.fields) (hf_firstSeen : Field.firstSeen ∈ my.fields) (hf_yew :
    Field.yew ∈ my.fields) (hf_hirqLow : Field.hirqLow ∈ my.fields) (hf_lanes : Field.lanes ∈ my.fields) (hf_banks :
    Field.banks ∈ my.fields) (hp_6 : 6 ∈ my.pages) (hl_n : n ∈ my.lanes) : ∃ u, execPhaseEndCurrent t n k sm s = .next u ∧
    Only my s u := by
  have hs := Only.refl my s
  unfold execPhaseEndCurrent
  dsimp only
  (repeat' split) <;> exact ⟨_, rfl, by simp +contextual (maxDischargeDepth := 99) [hs, hf_now, hf_regs, hf_firstSeen,
                          hf_yew, hf_hirqLow, hf_lanes, hf_banks, hp_6, hl_n]⟩

theorem execPhaseEndTime_only {my : May} (t : Time) (n : LaneIx) (k : OutIx) (sm : List Sample) (s : State) (hf_now :
    Field.now ∈ my.fields) (hf_regs : Field.regs ∈ my.fields) (hf_firstSeen : Field.firstSeen ∈ my.fields) (hf_yew :
    Field.yew ∈ my.fields) (hf_hirqLow : Field.hirqLow ∈ my.fields) (hf_lanes : Field.lanes ∈ my.fields) (hf_banks :
    Field.banks ∈ my.fields) (hp_6 : 6 ∈ my.pages) (hl_n : n ∈ my.lanes) : ∃ u, execPhaseEndTime t n k sm s = .next u ∧ Only
    my s u := by
  have hs := Only.refl my s
  unfold execPhaseEndTime
  dsimp only
  (repeat' split) <;> exact ⟨_, rfl, by simp +contextual (maxDischargeDepth := 99) [hs, hf_now, hf_regs, hf_firstSeen,
                          hf_yew, hf_hirqLow, hf_lanes, hf_banks, hp_6, hl_n]⟩

theorem execPeakTmo_only {my : May} (t : Time) (n : LaneIx) (k : OutIx) (sm : List Sample) (s : State) (hf_now : Field.now ∈
    my.fields) (hf_regs : Field.regs ∈ my.fields) (hf_firstSeen : Field.firstSeen ∈ my.fields) (hf_yew : Field.yew ∈
    my.fields) (hf_hirqLow : Field.hirqLow ∈ my.fields) (hf_lanes : Field.lanes ∈ my.fields) (hf_banks : Field.banks ∈
    my.fields) (hp_6 : 6 ∈ my.pages) (hl_n : n ∈ my.lanes) : ∃ u, execPeakTmo t n k sm s = .next u ∧ Only my s u := by
  have hs := Only.refl my s
  unfold execPeakTmo
  dsimp only
  (repeat' split) <;> exact ⟨_, rfl, by simp +contextual (maxDischargeDepth := 99) [hs, hf_now, hf_regs, hf_firstSeen,
                          hf_yew, hf_hirqLow, hf_lanes, hf_banks, hp_6, hl_n]⟩

theorem execChopToggle_only {my : May} (t : Time) (n : LaneIx) (k : OutIx) (sm : List Sample) (s : State) (hf_now :
    Field.now ∈ my.fields) (hf_regs : Field.regs ∈ my.fields) (hf_hirqLow : Field.hirqLow ∈ my.fields) (hf_banks :
    Field.banks ∈ my.fields) (hl_n : n ∈ my.lanes) : ∃ u, execChopToggle t n k sm s = .next u ∧ Only my s u := by
  have hs := Only.refl my s
  unfold execChopToggle
  dsimp only
  (repeat' split) <;> exact ⟨_, rfl, by simp +contextual (maxDischargeDepth := 99) [hs, hf_now, hf_regs, hf_hirqLow,
                          hf_banks, hl_n]⟩

theorem execStepDownEnd_only {my : May} (t : Time) (n : LaneIx) (k : OutIx) (sm : List Sample) (s : State) (hf_now :
    Field.now ∈ my.fields) (hf_regs : Field.regs ∈ my.fields) (hf_hirqLow : Field.hirqLow ∈ my.fields) (hf_banks :
    Field.banks ∈ my.fields) (hl_n : n ∈ my.lanes) : ∃ u, execStepDownEnd t n k sm s = .next u ∧ Only my s u := by
  have hs := Only.refl my s
  unfold execStepDownEnd
  dsimp only
  (repeat' split) <;> exact ⟨_, rfl, by simp +contextual (maxDischargeDepth := 99) [hs, hf_now, hf_regs, hf_hirqLow,
                          hf_banks, hl_n]⟩

theorem execDecayEnd_only {my : May} (t : Time) (n : LaneIx) (k : OutIx) (sm : List Sample) (s : State) (hf_now : Field.now
    ∈ my.fields) (hf_regs : Field.regs ∈ my.fields) (hf_firstSeen : Field.firstSeen ∈ my.fields) (hf_yew : Field.yew ∈
    my.fields) (hf_hirqLow : Field.hirqLow ∈ my.fields) (hf_lanes : Field.lanes ∈ my.fields) (hf_banks : Field.banks ∈
    my.fields) (hp_6 : 6 ∈ my.pages) (hl_n : n ∈ my.lanes) : ∃ u, execDecayEnd t n k sm s = .next u ∧ Only my s u := by
  have hs := Only.refl my s
  unfold execDecayEnd
  dsimp only
  (repeat' split) <;> exact ⟨_, rfl, by simp +contextual (maxDischargeDepth := 99) [hs, hf_now, hf_regs, hf_firstSeen,
                          hf_yew, hf_hirqLow, hf_lanes, hf_banks, hp_6, hl_n]⟩

theorem execDecayTmo_only {my : May} (t : Time) (n : LaneIx) (k : OutIx) (sm : List Sample) (s : State) (hf_now : Field.now
    ∈ my.fields) (hf_regs : Field.regs ∈ my.fields) (hf_firstSeen : Field.firstSeen ∈ my.fields) (hf_yew : Field.yew ∈
    my.fields) (hf_hirqLow : Field.hirqLow ∈ my.fields) (hf_lanes : Field.lanes ∈ my.fields) (hf_banks : Field.banks ∈
    my.fields) (hp_6 : 6 ∈ my.pages) (hl_n : n ∈ my.lanes) : ∃ u, execDecayTmo t n k sm s = .next u ∧ Only my s u := by
  have hs := Only.refl my s
  unfold execDecayTmo
  dsimp only
  (repeat' split) <;> exact ⟨_, rfl, by simp +contextual (maxDischargeDepth := 99) [hs, hf_now, hf_regs, hf_firstSeen,
                          hf_yew, hf_hirqLow, hf_lanes, hf_banks, hp_6, hl_n]⟩

theorem execOverCurrent_only {my : May} (t : Time) (n : LaneIx) (k : OutIx) (sm : List Sample) (s : State) (hf_now :
    Field.now ∈ my.fields) (hf_regs : Field.regs ∈ my.fields) (hf_firstSeen : Field.firstSeen ∈ my.fields) (hf_yew :
    Field.yew ∈ my.fields) (hf_hirqLow : Field.hirqLow ∈ my.fields) (hf_lanes : Field.lanes ∈ my.fields) (hf_banks :
    Field.banks ∈ my.fields) (hp_6 : 6 ∈ my.pages) (hl_n : n ∈ my.lanes) : ∃ u, execOverCurrent t n k sm s = .next u ∧ Only
    my s u := by
  have hs := Only.refl my s
  unfold execOverCurrent
  dsimp only
  (repeat' split) <;> exact ⟨_, rfl, by simp +contextual (maxDischargeDepth := 99) [hs, hf_now, hf_regs, hf_firstSeen,
                          hf_yew, hf_hirqLow, hf_lanes, hf_banks, hp_6, hl_n]⟩

theorem execFaultRetry_only {my : May} (t : Time) (n : LaneIx) (k : OutIx) (sm : List Sample) (s : State) (hf_now :
    Field.now ∈ my.fields) (hf_regs : Field.regs ∈ my.fields) (hf_firstSeen : Field.firstSeen ∈ my.fields) (hf_yew :
    Field.yew ∈ my.fields) (hf_hirqLow : Field.hirqLow ∈ my.fields) (hf_lanes : Field.lanes ∈ my.fields) (hf_banks :
    Field.banks ∈ my.fields) (hp_6 : 6 ∈ my.pages) (hl_n : n ∈ my.lanes) : ∃ u, execFaultRetry t n k sm s = .next u ∧ Only
    my s u := by
  have hs := Only.refl my s
  unfold execFaultRetry
  dsimp only
  (repeat' split) <;> exact ⟨_, rfl, by simp +contextual (maxDischargeDepth := 99) [hs, hf_now, hf_regs, hf_firstSeen,
                          hf_yew, hf_hirqLow, hf_lanes, hf_banks, hp_6, hl_n]⟩

theorem execFaultClr_only {my : May} (t : Time) (n : LaneIx) (v : Byte) (s : State) (hf_now : Field.now ∈ my.fields)
    (hf_banks : Field.banks ∈ my.fields) (hl_n : n ∈ my.lanes) : ∃ u, execFaultClr t n v s = .next u ∧ Only my s u := by
  have hs := Only.refl my s
  unfold execFaultClr
  dsimp only
  (repeat' split) <;> exact ⟨_, rfl, by simp +contextual (maxDischargeDepth := 99) [hs, hf_now, hf_banks, hl_n]⟩

theorem execClampDemote_only {my : May} (t : Time) (n : LaneIx) (vb va : BitVec 12) (s : State) (hf_now : Field.now ∈
    my.fields) (hf_regs : Field.regs ∈ my.fields) (hf_yew : Field.yew ∈ my.fields) (hf_hirqLow : Field.hirqLow ∈ my.fields)
    (hf_banks : Field.banks ∈ my.fields) (hp_6 : 6 ∈ my.pages) (hall : ∀ n : LaneIx, n ∈ my.lanes) : ∃ u, execClampDemote t
    n vb va s = .next u ∧ Only my s u := by
  have hs := Only.refl my s
  unfold execClampDemote
  dsimp only
  (repeat' split) <;> exact ⟨_, rfl, by simp +contextual (maxDischargeDepth := 99) [hs, hf_now, hf_regs, hf_yew, hf_hirqLow,
                          hf_banks, hp_6, hall]⟩

theorem execDemotionEnd_only {my : May} (t : Time) (n : LaneIx) (vb va : BitVec 12) (s : State) (hf_now : Field.now ∈
    my.fields) (hf_regs : Field.regs ∈ my.fields) (hf_hirqLow : Field.hirqLow ∈ my.fields) (hf_banks : Field.banks ∈
    my.fields) (hall : ∀ n : LaneIx, n ∈ my.lanes) : ∃ u, execDemotionEnd t n vb va s = .next u ∧ Only my s u := by
  have hs := Only.refl my s
  unfold execDemotionEnd
  dsimp only
  (repeat' split) <;> exact ⟨_, rfl, by simp +contextual (maxDischargeDepth := 99) [hs, hf_now, hf_regs, hf_hirqLow,
                          hf_banks, hall]⟩

theorem execVbstNotReady_only {my : May} (t : Time) (n : LaneIx) (vb : BitVec 12) (va : BitVec 12) (s : State) (hf_now :
    Field.now ∈ my.fields) (hf_banks : Field.banks ∈ my.fields) (hall : ∀ n : LaneIx, n ∈ my.lanes) : ∃ u, execVbstNotReady
    t n vb va s = .next u ∧ Only my s u := by
  have hs := Only.refl my s
  unfold execVbstNotReady
  dsimp only
  (repeat' split) <;> exact ⟨_, rfl, by simp +contextual (maxDischargeDepth := 99) [hs, hf_now, hf_banks, hall]⟩

theorem execVbstReady_only {my : May} (t : Time) (n : LaneIx) (vb : BitVec 12) (va : BitVec 12) (s : State) (hf_now :
    Field.now ∈ my.fields) (hf_banks : Field.banks ∈ my.fields) (hall : ∀ n : LaneIx, n ∈ my.lanes) : ∃ u, execVbstReady t n
    vb va s = .next u ∧ Only my s u := by
  have hs := Only.refl my s
  unfold execVbstReady
  dsimp only
  (repeat' split) <;> exact ⟨_, rfl, by simp +contextual (maxDischargeDepth := 99) [hs, hf_now, hf_banks, hall]⟩

theorem execGridOpening_only {my : May} (t : Time) (n : LaneIx) (k : OutIx) (sm : List Sample) (s : State) (hf_now :
    Field.now ∈ my.fields) (hf_regs : Field.regs ∈ my.fields) (hf_firstSeen : Field.firstSeen ∈ my.fields) (hf_yew :
    Field.yew ∈ my.fields) (hf_hirqLow : Field.hirqLow ∈ my.fields) (hf_lanes : Field.lanes ∈ my.fields) (hf_banks :
    Field.banks ∈ my.fields) (hp_6 : 6 ∈ my.pages) (hl_n : n ∈ my.lanes) : ∃ u, execGridOpening t n k sm s = .next u ∧ Only
    my s u := by
  have hs := Only.refl my s
  unfold execGridOpening
  dsimp only
  (repeat' split) <;> exact ⟨_, rfl, by simp +contextual (maxDischargeDepth := 99) [hs, hf_now, hf_regs, hf_firstSeen,
                          hf_yew, hf_hirqLow, hf_lanes, hf_banks, hp_6, hl_n]⟩

theorem execPulseClose_only {my : May} (t : Time) (n : LaneIx) (k : OutIx) (sm : List Sample) (s : State) (hf_now :
    Field.now ∈ my.fields) (hf_regs : Field.regs ∈ my.fields) (hf_firstSeen : Field.firstSeen ∈ my.fields) (hf_yew :
    Field.yew ∈ my.fields) (hf_hirqLow : Field.hirqLow ∈ my.fields) (hf_lanes : Field.lanes ∈ my.fields) (hf_banks :
    Field.banks ∈ my.fields) (hp_6 : 6 ∈ my.pages) (hl_n : n ∈ my.lanes) : ∃ u, execPulseClose t n k sm s = .next u ∧ Only
    my s u := by
  have hs := Only.refl my s
  unfold execPulseClose
  dsimp only
  (repeat' split) <;> exact ⟨_, rfl, by simp +contextual (maxDischargeDepth := 99) [hs, hf_now, hf_regs, hf_firstSeen,
                          hf_yew, hf_hirqLow, hf_lanes, hf_banks, hp_6, hl_n]⟩

theorem execPropPeriod_only {my : May} (t : Time) (n : LaneIx) (k : OutIx) (sm : List Sample) (s : State) (hf_now :
    Field.now ∈ my.fields) (hf_regs : Field.regs ∈ my.fields) (hf_hirqLow : Field.hirqLow ∈ my.fields) (hf_banks :
    Field.banks ∈ my.fields) (hl_n : n ∈ my.lanes) : ∃ u, execPropPeriod t n k sm s = .next u ∧ Only my s u := by
  have hs := Only.refl my s
  unfold execPropPeriod
  dsimp only
  (repeat' split) <;> exact ⟨_, rfl, by simp +contextual (maxDischargeDepth := 99) [hs, hf_now, hf_regs, hf_hirqLow,
                          hf_banks, hl_n]⟩

theorem execDipConfirmed_only {my : May} (t : Time) (n : LaneIx) (k : OutIx) (sm : List Sample) (s : State) (hf_now :
    Field.now ∈ my.fields) (hf_regs : Field.regs ∈ my.fields) (hf_yew : Field.yew ∈ my.fields) (hf_hirqLow : Field.hirqLow ∈
    my.fields) (hf_lanes : Field.lanes ∈ my.fields) (hf_banks : Field.banks ∈ my.fields) (hp_6 : 6 ∈ my.pages) (hl_n : n ∈
    my.lanes) : ∃ u, execDipConfirmed t n k sm s = .next u ∧ Only my s u := by
  have hs := Only.refl my s
  unfold execDipConfirmed
  dsimp only
  (repeat' split) <;> exact ⟨_, rfl, by simp +contextual (maxDischargeDepth := 99) [hs, hf_now, hf_regs, hf_yew, hf_hirqLow,
                          hf_lanes, hf_banks, hp_6, hl_n]⟩

theorem execReload_only {my : May} (t : Time) (n : LaneIx) (g : Fin 4) (s : State) (hf_now : Field.now ∈ my.fields) (hf_regs
    : Field.regs ∈ my.fields) (hf_hirqLow : Field.hirqLow ∈ my.fields) (hf_pwm : Field.pwm ∈ my.fields) (hf_eng : Field.eng
    ∈ my.fields) (hl_n : n ∈ my.lanes) : ∃ u, execReload t n g s = .next u ∧ Only my s u := by
  have hs := Only.refl my s
  exact ⟨_, rfl, by simp +contextual (maxDischargeDepth := 99) [hs, hf_now, hf_regs, hf_hirqLow, hf_pwm, hf_eng, hl_n]⟩

theorem execGCmpWrite_only {my : May} (t : Time) (n : LaneIx) (g : Fin 4) (v : Word) (s : State) (hf_now : Field.now ∈
    my.fields) (hf_regs : Field.regs ∈ my.fields) (hf_hirqLow : Field.hirqLow ∈ my.fields) (hf_pwm : Field.pwm ∈ my.fields)
    (hf_eng : Field.eng ∈ my.fields) (hl_n : n ∈ my.lanes) : ∃ u, execGCmpWrite t n g v s = .next u ∧ Only my s u := by
  have hs := Only.refl my s
  unfold execGCmpWrite
  dsimp only
  (repeat' split) <;> exact ⟨_, rfl, by simp +contextual (maxDischargeDepth := 99) [hs, hf_now, hf_regs, hf_hirqLow, hf_pwm,
                          hf_eng, hl_n]⟩

theorem execGPerWrite_only {my : May} (t : Time) (n : LaneIx) (g : Fin 4) (v : Word) (s : State) (hf_now : Field.now ∈
    my.fields) (hf_regs : Field.regs ∈ my.fields) (hf_firstSeen : Field.firstSeen ∈ my.fields) (hf_yew : Field.yew ∈
    my.fields) (hf_hirqLow : Field.hirqLow ∈ my.fields) (hf_pwm : Field.pwm ∈ my.fields) (hf_eng : Field.eng ∈ my.fields)
    (hp_6 : 6 ∈ my.pages) (hl_n : n ∈ my.lanes) : ∃ u, execGPerWrite t n g v s = .next u ∧ Only my s u := by
  have hs := Only.refl my s
  unfold execGPerWrite
  dsimp only
  (repeat' split) <;> exact ⟨_, rfl, by simp +contextual (maxDischargeDepth := 99) [hs, hf_now, hf_regs, hf_firstSeen,
                          hf_yew, hf_hirqLow, hf_pwm, hf_eng, hp_6, hl_n]⟩

theorem execCommit_only {my : May} (t : Time) (n : LaneIx) (v : BitVec 4) (s : State) (hf_now : Field.now ∈ my.fields)
    (hf_regs : Field.regs ∈ my.fields) (hf_hirqLow : Field.hirqLow ∈ my.fields) (hf_pwm : Field.pwm ∈ my.fields) (hf_eng :
    Field.eng ∈ my.fields) (hl_n : n ∈ my.lanes) : ∃ u, execCommit t n v s = .next u ∧ Only my s u := by
  have hs := Only.refl my s
  unfold execCommit
  dsimp only
  (repeat' split) <;> exact ⟨_, rfl, by simp +contextual (maxDischargeDepth := 99) [hs, hf_now, hf_regs, hf_hirqLow, hf_pwm,
                          hf_eng, hl_n]⟩

theorem execGModeWrite_only {my : May} (t : Time) (n : LaneIx) (g : Fin 4) (v : Word) (s : State) (hf_now : Field.now ∈
    my.fields) (hf_regs : Field.regs ∈ my.fields) (hf_hirqLow : Field.hirqLow ∈ my.fields) (hf_pwm : Field.pwm ∈ my.fields)
    (hf_eng : Field.eng ∈ my.fields) (hl_n : n ∈ my.lanes) : ∃ u, execGModeWrite t n g v s = .next u ∧ Only my s u := by
  have hs := Only.refl my s
  unfold execGModeWrite
  dsimp only
  (repeat' split) <;> exact ⟨_, rfl, by simp +contextual (maxDischargeDepth := 99) [hs, hf_now, hf_regs, hf_hirqLow, hf_pwm,
                          hf_eng, hl_n]⟩

theorem execGeneratorEnable_only {my : May} (t : Time) (n : LaneIx) (g : Fin 4) (s : State) (hf_now : Field.now ∈ my.fields)
    (hf_regs : Field.regs ∈ my.fields) (hf_hirqLow : Field.hirqLow ∈ my.fields) (hf_pwm : Field.pwm ∈ my.fields) (hf_eng :
    Field.eng ∈ my.fields) (hl_n : n ∈ my.lanes) (hc : my.cfg = true) : ∃ u, execGeneratorEnable t n g s = .next u ∧ Only my
    s u := by
  have hs := Only.refl my s
  unfold execGeneratorEnable
  dsimp only
  (repeat' split) <;> exact ⟨_, rfl, by simp +contextual (maxDischargeDepth := 99) [hs, hf_now, hf_regs, hf_hirqLow, hf_pwm,
                          hf_eng, hl_n, hc]⟩

theorem execSyncPulse_only {my : May} (t : Time) (src : Option LaneIx) (s : State) (hf_now : Field.now ∈ my.fields) (hf_regs
    : Field.regs ∈ my.fields) (hf_firstSeen : Field.firstSeen ∈ my.fields) (hf_yew : Field.yew ∈ my.fields) (hf_hirqLow :
    Field.hirqLow ∈ my.fields) (hf_pwm : Field.pwm ∈ my.fields) (hf_eng : Field.eng ∈ my.fields) (hf_syncIn : Field.syncIn ∈
    my.fields) (hf_syncOut : Field.syncOut ∈ my.fields) (hp_6 : 6 ∈ my.pages) (hall : ∀ n : LaneIx, n ∈ my.lanes) : ∃ u,
    execSyncPulse t src s = .next u ∧ Only my s u := by
  have hs := Only.refl my s
  have r1 : my.reg (PWMG.GLITCH_CNT 0) := rg_PWMG_GLITCH_CNT_0 (0 : LaneIx) (hall 0)
  have r2 : EvtOk my (PWMG.EVT.SYNC_GLITCH 0) := fe_PWMG_EVT_SYNC_GLITCH_0 (0 : LaneIx) (hall 0)
  have r3 : my.page (pgPwmg 0) := page_pgPwmg (0 : LaneIx) (hall 0)
  unfold execSyncPulse
  dsimp only
  (repeat' split) <;> exact ⟨_, rfl, by simp +contextual (maxDischargeDepth := 99) [r1, r2, r3, hs, hf_now, hf_regs,
                          hf_firstSeen, hf_yew, hf_hirqLow, hf_pwm, hf_eng, hf_syncIn, hf_syncOut, hp_6, hall]⟩

theorem execLoopTrigger_only {my : May} (t : Time) (n : LaneIx) (ain : List Sample) (isns : List (BitVec 12)) (s : State)
    (hf_now : Field.now ∈ my.fields) (hf_regs : Field.regs ∈ my.fields) (hf_firstSeen : Field.firstSeen ∈ my.fields) (hf_yew
    : Field.yew ∈ my.fields) (hf_hirqLow : Field.hirqLow ∈ my.fields) (hf_lanes : Field.lanes ∈ my.fields) (hf_banks :
    Field.banks ∈ my.fields) (hf_pwm : Field.pwm ∈ my.fields) (hf_eng : Field.eng ∈ my.fields) (hf_fbk : Field.fbk ∈
    my.fields) (hp_6 : 6 ∈ my.pages) (hl_n : n ∈ my.lanes) : ∃ u, execLoopTrigger t n ain isns s = .next u ∧ Only my s u :=
    by
  have hs := Only.refl my s
  unfold execLoopTrigger
  dsimp only
  (repeat' split) <;> exact ⟨_, rfl, by simp +contextual (maxDischargeDepth := 99) [hs, hf_now, hf_regs, hf_firstSeen,
                          hf_yew, hf_hirqLow, hf_lanes, hf_banks, hf_pwm, hf_eng, hf_fbk, hp_6, hl_n]⟩

theorem execCommDrStep_only {my : May} (t : Time) (n : LaneIx) (s : State) (hf_now : Field.now ∈ my.fields) (hf_regs :
    Field.regs ∈ my.fields) (hf_yew : Field.yew ∈ my.fields) (hf_hirqLow : Field.hirqLow ∈ my.fields) (hf_pwm : Field.pwm ∈
    my.fields) (hf_eng : Field.eng ∈ my.fields) (hp_6 : 6 ∈ my.pages) (hl_n : n ∈ my.lanes) : ∃ u, execCommDrStep t n s =
    .next u ∧ Only my s u := by
  have hs := Only.refl my s
  unfold execCommDrStep
  dsimp only
  (repeat' split) <;> exact ⟨_, rfl, by simp +contextual (maxDischargeDepth := 99) [hs, hf_now, hf_regs, hf_yew, hf_hirqLow,
                          hf_pwm, hf_eng, hp_6, hl_n]⟩

theorem execLoopSwap_only {my : May} (t : Time) (n : LaneIx) (v : BitVec 3) (s : State) (hf_now : Field.now ∈ my.fields)
    (hf_eng : Field.eng ∈ my.fields) (hl_n : n ∈ my.lanes) : ∃ u, execLoopSwap t n v s = .next u ∧ Only my s u := by
  have hs := Only.refl my s
  unfold execLoopSwap
  dsimp only
  (repeat' split) <;> exact ⟨_, rfl, by simp +contextual (maxDischargeDepth := 99) [hs, hf_now, hf_eng, hl_n]⟩

theorem execRestart_only {my : May} (t : Time) (n : LaneIx) (s : State) (hf_now : Field.now ∈ my.fields) (hf_regs :
    Field.regs ∈ my.fields) (hf_yew : Field.yew ∈ my.fields) (hf_hirqLow : Field.hirqLow ∈ my.fields) (hf_pwm : Field.pwm ∈
    my.fields) (hf_eng : Field.eng ∈ my.fields) (hp_6 : 6 ∈ my.pages) (hl_n : n ∈ my.lanes) : ∃ u, execRestart t n s = .next
    u ∧ Only my s u := by
  have hs := Only.refl my s
  unfold execRestart
  dsimp only
  (repeat' split) <;> exact ⟨_, rfl, by simp +contextual (maxDischargeDepth := 99) [hs, hf_now, hf_regs, hf_yew, hf_hirqLow,
                          hf_pwm, hf_eng, hp_6, hl_n]⟩

theorem execCoefWrite_only {my : May} (t : Time) (n : LaneIx) (i : Fin 30) (v : Word) (s : State) (hf_now : Field.now ∈
    my.fields) (hf_regs : Field.regs ∈ my.fields) (hf_yew : Field.yew ∈ my.fields) (hf_hirqLow : Field.hirqLow ∈ my.fields)
    (hf_eng : Field.eng ∈ my.fields) (hp_6 : 6 ∈ my.pages) (hl_n : n ∈ my.lanes) : ∃ u, execCoefWrite t n i v s = .next u ∧
    Only my s u := by
  have hs := Only.refl my s
  unfold execCoefWrite
  dsimp only
  (repeat' split) <;> exact ⟨_, rfl, by simp +contextual (maxDischargeDepth := 99) [hs, hf_now, hf_regs, hf_yew, hf_hirqLow,
                          hf_eng, hp_6, hl_n]⟩

theorem execHallChange_only {my : May} (t : Time) (n : LaneIx) (x : Legs) (s : State) (hf_now : Field.now ∈ my.fields)
    (hf_regs : Field.regs ∈ my.fields) (hf_firstSeen : Field.firstSeen ∈ my.fields) (hf_yew : Field.yew ∈ my.fields)
    (hf_hirqLow : Field.hirqLow ∈ my.fields) (hf_pwm : Field.pwm ∈ my.fields) (hf_eng : Field.eng ∈ my.fields) (hf_fbk :
    Field.fbk ∈ my.fields) (hp_6 : 6 ∈ my.pages) (hl_n : n ∈ my.lanes) : ∃ u, execHallChange t n x s = .next u ∧ Only my s u
    := by
  have hs := Only.refl my s
  unfold execHallChange
  dsimp only
  (repeat' split) <;> exact ⟨_, rfl, by simp +contextual (maxDischargeDepth := 99) [hs, hf_now, hf_regs, hf_firstSeen,
                          hf_yew, hf_hirqLow, hf_pwm, hf_eng, hf_fbk, hp_6, hl_n]⟩

theorem execPulseEdge_only {my : May} (t : Time) (n : LaneIx) (x : Legs) (s : State) (hf_now : Field.now ∈ my.fields)
    (hf_regs : Field.regs ∈ my.fields) (hf_yew : Field.yew ∈ my.fields) (hf_hirqLow : Field.hirqLow ∈ my.fields) (hf_fbk :
    Field.fbk ∈ my.fields) (hp_6 : 6 ∈ my.pages) (hl_n : n ∈ my.lanes) : ∃ u, execPulseEdge t n x s = .next u ∧ Only my s u
    := by
  have hs := Only.refl my s
  unfold execPulseEdge
  dsimp only
  (repeat' split) <;> exact ⟨_, rfl, by simp +contextual (maxDischargeDepth := 99) [hs, hf_now, hf_regs, hf_yew, hf_hirqLow,
                          hf_fbk, hp_6, hl_n]⟩

theorem execQuadEdge_only {my : May} (t : Time) (n : LaneIx) (x : Legs) (s : State) (hf_now : Field.now ∈ my.fields)
    (hf_regs : Field.regs ∈ my.fields) (hf_firstSeen : Field.firstSeen ∈ my.fields) (hf_yew : Field.yew ∈ my.fields)
    (hf_hirqLow : Field.hirqLow ∈ my.fields) (hf_fbk : Field.fbk ∈ my.fields) (hp_6 : 6 ∈ my.pages) (hl_n : n ∈ my.lanes) :
    ∃ u, execQuadEdge t n x s = .next u ∧ Only my s u := by
  have hs := Only.refl my s
  unfold execQuadEdge
  dsimp only
  (repeat' split) <;> exact ⟨_, rfl, by simp +contextual (maxDischargeDepth := 99) [hs, hf_now, hf_regs, hf_firstSeen,
                          hf_yew, hf_hirqLow, hf_fbk, hp_6, hl_n]⟩

theorem execIndex_only {my : May} (t : Time) (n : LaneIx) (x : Legs) (s : State) (hf_now : Field.now ∈ my.fields) (hf_regs :
    Field.regs ∈ my.fields) (hf_firstSeen : Field.firstSeen ∈ my.fields) (hf_yew : Field.yew ∈ my.fields) (hf_hirqLow :
    Field.hirqLow ∈ my.fields) (hf_fbk : Field.fbk ∈ my.fields) (hp_6 : 6 ∈ my.pages) (hl_n : n ∈ my.lanes) : ∃ u, execIndex
    t n x s = .next u ∧ Only my s u := by
  have hs := Only.refl my s
  unfold execIndex
  dsimp only
  (repeat' split) <;> exact ⟨_, rfl, by simp +contextual (maxDischargeDepth := 99) [hs, hf_now, hf_regs, hf_firstSeen,
                          hf_yew, hf_hirqLow, hf_fbk, hp_6, hl_n]⟩

theorem execWireDisagree_only {my : May} (t : Time) (n : LaneIx) (c : Fin 3) (hold : Nat) (s : State) (hf_now : Field.now ∈
    my.fields) (hf_regs : Field.regs ∈ my.fields) (hf_firstSeen : Field.firstSeen ∈ my.fields) (hf_yew : Field.yew ∈
    my.fields) (hf_hirqLow : Field.hirqLow ∈ my.fields) (hf_pwm : Field.pwm ∈ my.fields) (hf_eng : Field.eng ∈ my.fields)
    (hf_fbk : Field.fbk ∈ my.fields) (hp_6 : 6 ∈ my.pages) (hl_n : n ∈ my.lanes) : ∃ u, execWireDisagree t n c hold s =
    .next u ∧ Only my s u := by
  have hs := Only.refl my s
  unfold execWireDisagree
  dsimp only
  (repeat' split) <;> exact ⟨_, rfl, by simp +contextual (maxDischargeDepth := 99) [hs, hf_now, hf_regs, hf_firstSeen,
                          hf_yew, hf_hirqLow, hf_pwm, hf_eng, hf_fbk, hp_6, hl_n]⟩

theorem execWireDisagreeEnd_only {my : May} (t : Time) (n : LaneIx) (c : Fin 3) (s : State) (hf_now : Field.now ∈ my.fields)
    (hf_fbk : Field.fbk ∈ my.fields) (hl_n : n ∈ my.lanes) : ∃ u, execWireDisagreeEnd t n c s = .next u ∧ Only my s u := by
  have hs := Only.refl my s
  unfold execWireDisagreeEnd
  dsimp only
  (repeat' split) <;> exact ⟨_, rfl, by simp +contextual (maxDischargeDepth := 99) [hs, hf_now, hf_fbk, hl_n]⟩

theorem execSpeedUpdate_only {my : May} (t : Time) (n : LaneIx) (s : State) (hf_now : Field.now ∈ my.fields) (hf_freeIdx :
    Field.freeIdx ∈ my.fields) (hf_fbk : Field.fbk ∈ my.fields) (hl_n : n ∈ my.lanes) : ∃ u, execSpeedUpdate t n s = .next u
    ∧ Only my s u := by
  have hs := Only.refl my s
  unfold execSpeedUpdate
  dsimp only
  (repeat' split) <;> exact ⟨_, rfl, by simp +contextual (maxDischargeDepth := 99) [hs, hf_now, hf_freeIdx, hf_fbk, hl_n]⟩

theorem execPosLoad_only {my : May} (t : Time) (n : LaneIx) (v : Word) (s : State) (hf_now : Field.now ∈ my.fields) (hf_regs
    : Field.regs ∈ my.fields) (hf_yew : Field.yew ∈ my.fields) (hf_hirqLow : Field.hirqLow ∈ my.fields) (hf_fbk : Field.fbk
    ∈ my.fields) (hp_6 : 6 ∈ my.pages) (hl_n : n ∈ my.lanes) : ∃ u, execPosLoad t n v s = .next u ∧ Only my s u := by
  have hs := Only.refl my s
  unfold execPosLoad
  dsimp only
  (repeat' split) <;> exact ⟨_, rfl, by simp +contextual (maxDischargeDepth := 99) [hs, hf_now, hf_regs, hf_yew, hf_hirqLow,
                          hf_fbk, hp_6, hl_n]⟩

theorem execEmStep_only {my : May} (t : Time) (n : LaneIx) (s : State) (hf_now : Field.now ∈ my.fields) (hf_regs :
    Field.regs ∈ my.fields) (hf_yew : Field.yew ∈ my.fields) (hf_hirqLow : Field.hirqLow ∈ my.fields) (hf_fbk : Field.fbk ∈
    my.fields) (hp_6 : 6 ∈ my.pages) (hl_n : n ∈ my.lanes) : ∃ u, execEmStep t n s = .next u ∧ Only my s u := by
  have hs := Only.refl my s
  unfold execEmStep
  dsimp only
  (repeat' split) <;> exact ⟨_, rfl, by simp +contextual (maxDischargeDepth := 99) [hs, hf_now, hf_regs, hf_yew, hf_hirqLow,
                          hf_fbk, hp_6, hl_n]⟩

theorem execSafeNFall_only {my : May} (t : Time) (n : LaneIx) (s : State) (hf_now : Field.now ∈ my.fields) (hf_regs :
    Field.regs ∈ my.fields) (hf_yew : Field.yew ∈ my.fields) (hf_hirqLow : Field.hirqLow ∈ my.fields) (hf_lanes :
    Field.lanes ∈ my.fields) (hf_banks : Field.banks ∈ my.fields) (hf_pwm : Field.pwm ∈ my.fields) (hf_eng : Field.eng ∈
    my.fields) (hp_6 : 6 ∈ my.pages) (hl_n : n ∈ my.lanes) : ∃ u, execSafeNFall t n s = .next u ∧ Only my s u := by
  have hs := Only.refl my s
  unfold execSafeNFall
  dsimp only
  (repeat' split) <;> exact ⟨_, rfl, by simp +contextual (maxDischargeDepth := 99) [hs, hf_now, hf_regs, hf_yew, hf_hirqLow,
                          hf_lanes, hf_banks, hf_pwm, hf_eng, hp_6, hl_n]⟩

theorem execSafeNRise_only {my : May} (t : Time) (n : LaneIx) (s : State) (hf_now : Field.now ∈ my.fields) (hf_lanes :
    Field.lanes ∈ my.fields) (hf_pwm : Field.pwm ∈ my.fields) (hl_n : n ∈ my.lanes) : ∃ u, execSafeNRise t n s = .next u ∧
    Only my s u := by
  have hs := Only.refl my s
  unfold execSafeNRise
  dsimp only
  (repeat' split) <;> exact ⟨_, rfl, by simp +contextual (maxDischargeDepth := 99) [hs, hf_now, hf_lanes, hf_pwm, hl_n]⟩

theorem execEvt_only {my : May} (t : Time) (n : LaneIx) (a : Flit) (b : Option Flit) (s : State) (hf_now : Field.now ∈
    my.fields) (hf_regs : Field.regs ∈ my.fields) (hf_firstSeen : Field.firstSeen ∈ my.fields) (hf_yew : Field.yew ∈
    my.fields) (hf_hirqLow : Field.hirqLow ∈ my.fields) (hf_lanes : Field.lanes ∈ my.fields) (hf_eng : Field.eng ∈
    my.fields) (hp_6 : 6 ∈ my.pages) (hp_28 : 28 ∈ my.pages) (hl_n : n ∈ my.lanes) : ∃ u, execEvt t n a b s = .next u ∧ Only
    my s u := by
  have hs := Only.refl my s
  unfold execEvt
  dsimp only
  (repeat' split) <;> exact ⟨_, rfl, by simp +contextual (maxDischargeDepth := 99) [hs, hf_now, hf_regs, hf_firstSeen,
                          hf_yew, hf_hirqLow, hf_lanes, hf_eng, hp_6, hp_28, hl_n]⟩

theorem execTravelUpdate_only {my : May} (t : Time) (n : LaneIx) (fs : List Flit) (s : State) (hf_now : Field.now ∈
    my.fields) (hf_regs : Field.regs ∈ my.fields) (hf_firstSeen : Field.firstSeen ∈ my.fields) (hf_yew : Field.yew ∈
    my.fields) (hf_hirqLow : Field.hirqLow ∈ my.fields) (hf_lanes : Field.lanes ∈ my.fields) (hf_eng : Field.eng ∈
    my.fields) (hp_6 : 6 ∈ my.pages) (hp_28 : 28 ∈ my.pages) (hl_n : n ∈ my.lanes) : ∃ u, execTravelUpdate t n fs s = .next
    u ∧ Only my s u := by
  have hs := Only.refl my s
  unfold execTravelUpdate
  dsimp only
  (repeat' split) <;> exact ⟨_, rfl, by simp +contextual (maxDischargeDepth := 99) [hs, hf_now, hf_regs, hf_firstSeen,
                          hf_yew, hf_hirqLow, hf_lanes, hf_eng, hp_6, hp_28, hl_n]⟩

theorem execEpochAdv_only {my : May} (t : Time) (n : LaneIx) (f : Flit) (s : State) (hf_now : Field.now ∈ my.fields)
    (hf_regs : Field.regs ∈ my.fields) (hf_firstSeen : Field.firstSeen ∈ my.fields) (hf_yew : Field.yew ∈ my.fields)
    (hf_hirqLow : Field.hirqLow ∈ my.fields) (hf_lanes : Field.lanes ∈ my.fields) (hf_eng : Field.eng ∈ my.fields) (hp_6 : 6
    ∈ my.pages) (hp_28 : 28 ∈ my.pages) (hl_n : n ∈ my.lanes) : ∃ u, execEpochAdv t n f s = .next u ∧ Only my s u := by
  have hs := Only.refl my s
  unfold execEpochAdv
  dsimp only
  (repeat' split) <;> exact ⟨_, rfl, by simp +contextual (maxDischargeDepth := 99) [hs, hf_now, hf_regs, hf_firstSeen,
                          hf_yew, hf_hirqLow, hf_lanes, hf_eng, hp_6, hp_28, hl_n]⟩

theorem execQend_only {my : May} (t : Time) (n : LaneIx) (f : Flit) (s : State) (hf_now : Field.now ∈ my.fields) (hf_regs :
    Field.regs ∈ my.fields) (hf_firstSeen : Field.firstSeen ∈ my.fields) (hf_yew : Field.yew ∈ my.fields) (hf_hirqLow :
    Field.hirqLow ∈ my.fields) (hf_lanes : Field.lanes ∈ my.fields) (hf_eng : Field.eng ∈ my.fields) (hp_6 : 6 ∈ my.pages)
    (hp_28 : 28 ∈ my.pages) (hl_n : n ∈ my.lanes) : ∃ u, execQend t n f s = .next u ∧ Only my s u := by
  have hs := Only.refl my s
  unfold execQend
  dsimp only
  (repeat' split) <;> exact ⟨_, rfl, by simp +contextual (maxDischargeDepth := 99) [hs, hf_now, hf_regs, hf_firstSeen,
                          hf_yew, hf_hirqLow, hf_lanes, hf_eng, hp_6, hp_28, hl_n]⟩

theorem execDrain_only {my : May} (t : Time) (n : LaneIx) (f : Flit) (s : State) (hf_now : Field.now ∈ my.fields) (hf_regs :
    Field.regs ∈ my.fields) (hf_firstSeen : Field.firstSeen ∈ my.fields) (hf_yew : Field.yew ∈ my.fields) (hf_hirqLow :
    Field.hirqLow ∈ my.fields) (hf_lanes : Field.lanes ∈ my.fields) (hf_eng : Field.eng ∈ my.fields) (hp_6 : 6 ∈ my.pages)
    (hp_28 : 28 ∈ my.pages) (hl_n : n ∈ my.lanes) : ∃ u, execDrain t n f s = .next u ∧ Only my s u := by
  have hs := Only.refl my s
  unfold execDrain
  dsimp only
  (repeat' split) <;> exact ⟨_, rfl, by simp +contextual (maxDischargeDepth := 99) [hs, hf_now, hf_regs, hf_firstSeen,
                          hf_yew, hf_hirqLow, hf_lanes, hf_eng, hp_6, hp_28, hl_n]⟩

theorem execSpDem_only {my : May} (t : Time) (n : LaneIx) (f : Flit) (s : State) (hf_now : Field.now ∈ my.fields) (hf_regs :
    Field.regs ∈ my.fields) (hf_firstSeen : Field.firstSeen ∈ my.fields) (hf_yew : Field.yew ∈ my.fields) (hf_hirqLow :
    Field.hirqLow ∈ my.fields) (hf_lanes : Field.lanes ∈ my.fields) (hf_eng : Field.eng ∈ my.fields) (hp_6 : 6 ∈ my.pages)
    (hp_28 : 28 ∈ my.pages) (hl_n : n ∈ my.lanes) : ∃ u, execSpDem t n f s = .next u ∧ Only my s u := by
  have hs := Only.refl my s
  unfold execSpDem
  dsimp only
  (repeat' split) <;> exact ⟨_, rfl, by simp +contextual (maxDischargeDepth := 99) [hs, hf_now, hf_regs, hf_firstSeen,
                          hf_yew, hf_hirqLow, hf_lanes, hf_eng, hp_6, hp_28, hl_n]⟩

theorem execDrainEnd_only {my : May} (t : Time) (n : LaneIx) (s : State) (hf_now : Field.now ∈ my.fields) (hf_regs :
    Field.regs ∈ my.fields) (hf_firstSeen : Field.firstSeen ∈ my.fields) (hf_yew : Field.yew ∈ my.fields) (hf_hirqLow :
    Field.hirqLow ∈ my.fields) (hf_lanes : Field.lanes ∈ my.fields) (hf_banks : Field.banks ∈ my.fields) (hf_pwm : Field.pwm
    ∈ my.fields) (hf_eng : Field.eng ∈ my.fields) (hp_6 : 6 ∈ my.pages) (hl_n : n ∈ my.lanes) : ∃ u, execDrainEnd t n s =
    .next u ∧ Only my s u := by
  have hs := Only.refl my s
  unfold execDrainEnd
  dsimp only
  (repeat' split) <;> exact ⟨_, rfl, by simp +contextual (maxDischargeDepth := 99) [hs, hf_now, hf_regs, hf_firstSeen,
                          hf_yew, hf_hirqLow, hf_lanes, hf_banks, hf_pwm, hf_eng, hp_6, hl_n]⟩

theorem execDrExpired_only {my : May} (t : Time) (n : LaneIx) (s : State) (hf_now : Field.now ∈ my.fields) (hf_regs :
    Field.regs ∈ my.fields) (hf_firstSeen : Field.firstSeen ∈ my.fields) (hf_yew : Field.yew ∈ my.fields) (hf_hirqLow :
    Field.hirqLow ∈ my.fields) (hf_lanes : Field.lanes ∈ my.fields) (hf_banks : Field.banks ∈ my.fields) (hp_6 : 6 ∈
    my.pages) (hp_28 : 28 ∈ my.pages) (hl_n : n ∈ my.lanes) : ∃ u, execDrExpired t n s = .next u ∧ Only my s u := by
  have hs := Only.refl my s
  unfold execDrExpired
  dsimp only
  (repeat' split) <;> exact ⟨_, rfl, by simp +contextual (maxDischargeDepth := 99) [hs, hf_now, hf_regs, hf_firstSeen,
                          hf_yew, hf_hirqLow, hf_lanes, hf_banks, hp_6, hp_28, hl_n]⟩

theorem execUpQueueHigh_only {my : May} (t : Time) (n : LaneIx) (s : State) (hf_now : Field.now ∈ my.fields) (hf_regs :
    Field.regs ∈ my.fields) (hf_firstSeen : Field.firstSeen ∈ my.fields) (hf_yew : Field.yew ∈ my.fields) (hf_hirqLow :
    Field.hirqLow ∈ my.fields) (hf_lanes : Field.lanes ∈ my.fields) (hf_banks : Field.banks ∈ my.fields) (hp_6 : 6 ∈
    my.pages) (hp_28 : 28 ∈ my.pages) (hl_n : n ∈ my.lanes) : ∃ u, execUpQueueHigh t n s = .next u ∧ Only my s u := by
  have hs := Only.refl my s
  unfold execUpQueueHigh
  dsimp only
  (repeat' split) <;> exact ⟨_, rfl, by simp +contextual (maxDischargeDepth := 99) [hs, hf_now, hf_regs, hf_firstSeen,
                          hf_yew, hf_hirqLow, hf_lanes, hf_banks, hp_6, hp_28, hl_n]⟩

theorem execLinkLost_only {my : May} (t : Time) (n : LaneIx) (s : State) (hf_now : Field.now ∈ my.fields) (hf_regs :
    Field.regs ∈ my.fields) (hf_hirqLow : Field.hirqLow ∈ my.fields) (hf_lanes : Field.lanes ∈ my.fields) (hl_n : n ∈
    my.lanes) : ∃ u, execLinkLost t n s = .next u ∧ Only my s u := by
  have hs := Only.refl my s
  unfold execLinkLost
  dsimp only
  (repeat' split) <;> exact ⟨_, rfl, by simp +contextual (maxDischargeDepth := 99) [hs, hf_now, hf_regs, hf_hirqLow,
                          hf_lanes, hl_n]⟩

theorem execIdleFlitSend_only {my : May} (t : Time) (n : LaneIx) (d : Dir) (s : State) (hf_now : Field.now ∈ my.fields)
    (hf_regs : Field.regs ∈ my.fields) (hf_lanes : Field.lanes ∈ my.fields) (hl_n : n ∈ my.lanes) : ∃ u, execIdleFlitSend t
    n d s = .next u ∧ Only my s u := by
  have hs := Only.refl my s
  unfold execIdleFlitSend
  dsimp only
  (repeat' split) <;> exact ⟨_, rfl, by simp +contextual (maxDischargeDepth := 99) [hs, hf_now, hf_regs, hf_lanes, hl_n]⟩

theorem execResendTimeout_only {my : May} (t : Time) (n : LaneIx) (d : Dir) (s : State) (hf_now : Field.now ∈ my.fields)
    (hf_regs : Field.regs ∈ my.fields) (hf_hirqLow : Field.hirqLow ∈ my.fields) (hf_lanes : Field.lanes ∈ my.fields) (hl_n :
    n ∈ my.lanes) : ∃ u, execResendTimeout t n d s = .next u ∧ Only my s u := by
  have hs := Only.refl my s
  unfold execResendTimeout
  dsimp only
  (repeat' split) <;> exact ⟨_, rfl, by simp +contextual (maxDischargeDepth := 99) [hs, hf_now, hf_regs, hf_hirqLow,
                          hf_lanes, hl_n]⟩

theorem execReaim_only {my : May} (t : Time) (n : LaneIx) (s : State) (hf_now : Field.now ∈ my.fields) (hf_regs : Field.regs
    ∈ my.fields) (hf_hirqLow : Field.hirqLow ∈ my.fields) (hf_lanes : Field.lanes ∈ my.fields) (hp_28 : 28 ∈ my.pages) (hl_n
    : n ∈ my.lanes) : ∃ u, execReaim t n s = .next u ∧ Only my s u := by
  have hs := Only.refl my s
  unfold execReaim
  dsimp only
  (repeat' split) <;> exact ⟨_, rfl, by simp +contextual (maxDischargeDepth := 99) [hs, hf_now, hf_regs, hf_hirqLow,
                          hf_lanes, hp_28, hl_n]⟩

theorem execFire_only {my : May} (t : Time) (n : LaneIx) (sm : List Sample) (s : State) (hf_now : Field.now ∈ my.fields)
    (hf_regs : Field.regs ∈ my.fields) (hf_firstSeen : Field.firstSeen ∈ my.fields) (hf_yew : Field.yew ∈ my.fields)
    (hf_hirqLow : Field.hirqLow ∈ my.fields) (hf_lanes : Field.lanes ∈ my.fields) (hf_banks : Field.banks ∈ my.fields)
    (hf_eng : Field.eng ∈ my.fields) (hp_6 : 6 ∈ my.pages) (hp_28 : 28 ∈ my.pages) (hl_n : n ∈ my.lanes) : ∃ u, execFire t n
    sm s = .next u ∧ Only my s u := by
  have hs := Only.refl my s
  unfold execFire
  dsimp only
  (repeat' split) <;> exact ⟨_, rfl, by simp +contextual (maxDischargeDepth := 99) [hs, hf_now, hf_regs, hf_firstSeen,
                          hf_yew, hf_hirqLow, hf_lanes, hf_banks, hf_eng, hp_6, hp_28, hl_n]⟩

theorem execFrameSend_only {my : May} (t : Time) (p : Ring) (s : State) (hf_now : Field.now ∈ my.fields) (hf_regs :
    Field.regs ∈ my.fields) (hf_ports : Field.ports ∈ my.fields) (hp_8 : 8 ∈ my.pages) (hp_9 : 9 ∈ my.pages) : ∃ u,
    execFrameSend t p s = .next u ∧ Only my s u := by
  have hs := Only.refl my s
  unfold execFrameSend
  dsimp only
  (repeat' split) <;> exact ⟨_, rfl, by simp +contextual (maxDischargeDepth := 99) [hs, hf_now, hf_regs, hf_ports, hp_8,
                          hp_9]⟩

theorem execAckTimeout_only {my : May} (t : Time) (dst : BitVec 10) (cls : FrameClass) (s : State) (hf_now : Field.now ∈
    my.fields) (hf_regs : Field.regs ∈ my.fields) (hf_freeIdx : Field.freeIdx ∈ my.fields) (hf_firstSeen : Field.firstSeen ∈
    my.fields) (hf_yew : Field.yew ∈ my.fields) (hf_hq : Field.hq ∈ my.fields) (hf_cmpl : Field.cmpl ∈ my.fields)
    (hf_cmplWait : Field.cmplWait ∈ my.fields) (hf_hirqLow : Field.hirqLow ∈ my.fields) (hf_ports : Field.ports ∈ my.fields)
    (hf_ring : Field.ring ∈ my.fields) (hf_rtun : Field.rtun ∈ my.fields) (hp_4 : 4 ∈ my.pages) (hp_6 : 6 ∈ my.pages) (hp_8
    : 8 ∈ my.pages) (hp_9 : 9 ∈ my.pages) (hp_11 : 11 ∈ my.pages) : ∃ u, execAckTimeout t dst cls s = .next u ∧ Only my s u
    := by
  have hs := Only.refl my s
  unfold execAckTimeout
  dsimp only
  (repeat' split) <;> exact ⟨_, rfl, by simp +contextual (maxDischargeDepth := 99) [hs, hf_now, hf_regs, hf_freeIdx,
                          hf_firstSeen, hf_yew, hf_hq, hf_cmpl, hf_cmplWait, hf_hirqLow, hf_ports, hf_ring, hf_rtun, hp_4,
                          hp_6, hp_8, hp_9, hp_11]⟩

theorem execStrokeReturn_only {my : May} (t : Time) (p : Ring) (f : Option Frame) (s : State) (hf_now : Field.now ∈
    my.fields) (hf_regs : Field.regs ∈ my.fields) (hf_freeIdx : Field.freeIdx ∈ my.fields) (hf_yew : Field.yew ∈ my.fields)
    (hf_hirqLow : Field.hirqLow ∈ my.fields) (hf_ports : Field.ports ∈ my.fields) (hf_ring : Field.ring ∈ my.fields) (hp_6 :
    6 ∈ my.pages) (hp_8 : 8 ∈ my.pages) (hp_9 : 9 ∈ my.pages) : ∃ u, execStrokeReturn t p f s = .next u ∧ Only my s u := by
  have hs := Only.refl my s
  unfold execStrokeReturn
  dsimp only
  (repeat' split) <;> exact ⟨_, rfl, by simp +contextual (maxDischargeDepth := 99) [hs, hf_now, hf_regs, hf_freeIdx, hf_yew,
                          hf_hirqLow, hf_ports, hf_ring, hp_6, hp_8, hp_9]⟩

theorem execRingItemEgress_only {my : May} (t : Time) (q : Fin 32) (s : State) (hf_now : Field.now ∈ my.fields) (hf_regs :
    Field.regs ∈ my.fields) (hf_freeIdx : Field.freeIdx ∈ my.fields) (hf_firstSeen : Field.firstSeen ∈ my.fields) (hf_yew :
    Field.yew ∈ my.fields) (hf_hq : Field.hq ∈ my.fields) (hf_cmpl : Field.cmpl ∈ my.fields) (hf_cmplWait : Field.cmplWait ∈
    my.fields) (hf_hirqLow : Field.hirqLow ∈ my.fields) (hf_map : Field.map ∈ my.fields) (hf_ports : Field.ports ∈
    my.fields) (hf_ring : Field.ring ∈ my.fields) (hp_4 : 4 ∈ my.pages) (hp_6 : 6 ∈ my.pages) : ∃ u, execRingItemEgress t q
    s = .next u ∧ Only my s u := by
  have hs := Only.refl my s
  unfold execRingItemEgress
  dsimp only
  (repeat' split) <;> exact ⟨_, rfl, by simp +contextual (maxDischargeDepth := 99) [hs, hf_now, hf_regs, hf_freeIdx,
                          hf_firstSeen, hf_yew, hf_hq, hf_cmpl, hf_cmplWait, hf_hirqLow, hf_map, hf_ports, hf_ring, hp_4,
                          hp_6]⟩

theorem execEnum_only {my : May} (t : Time) (s : State) (hf_now : Field.now ∈ my.fields) (hf_regs : Field.regs ∈ my.fields)
    (hf_freeIdx : Field.freeIdx ∈ my.fields) (hf_ports : Field.ports ∈ my.fields) (hf_ring : Field.ring ∈ my.fields) (hp_8 :
    8 ∈ my.pages) (hp_9 : 9 ∈ my.pages) : ∃ u, execEnum t s = .next u ∧ Only my s u := by
  have hs := Only.refl my s
  unfold execEnum
  dsimp only
  (repeat' split) <;> exact ⟨_, rfl, by simp +contextual (maxDischargeDepth := 99) [hs, hf_now, hf_regs, hf_freeIdx,
                          hf_ports, hf_ring, hp_8, hp_9]⟩

theorem execEnumJoin_only {my : May} (t : Time) (s : State) (hf_now : Field.now ∈ my.fields) (hf_ports : Field.ports ∈
    my.fields) : ∃ u, execEnumJoin t s = .next u ∧ Only my s u := by
  have hs := Only.refl my s
  unfold execEnumJoin
  dsimp only
  (repeat' split) <;> exact ⟨_, rfl, by simp +contextual (maxDischargeDepth := 99) [hs, hf_now, hf_ports]⟩

theorem execEnumRetry_only {my : May} (t : Time) (s : State) (hf_now : Field.now ∈ my.fields) (hf_regs : Field.regs ∈
    my.fields) (hf_freeIdx : Field.freeIdx ∈ my.fields) (hf_yew : Field.yew ∈ my.fields) (hf_hirqLow : Field.hirqLow ∈
    my.fields) (hf_ports : Field.ports ∈ my.fields) (hf_ring : Field.ring ∈ my.fields) (hp_6 : 6 ∈ my.pages) (hp_8 : 8 ∈
    my.pages) (hp_9 : 9 ∈ my.pages) : ∃ u, execEnumRetry t s = .next u ∧ Only my s u := by
  have hs := Only.refl my s
  unfold execEnumRetry
  dsimp only
  (repeat' split) <;> exact ⟨_, rfl, by simp +contextual (maxDischargeDepth := 99) [hs, hf_now, hf_regs, hf_freeIdx, hf_yew,
                          hf_hirqLow, hf_ports, hf_ring, hp_6, hp_8, hp_9]⟩

theorem execPresenceSend_only {my : May} (t : Time) (s : State) (hf_now : Field.now ∈ my.fields) (hf_ports : Field.ports ∈
    my.fields) (hf_ring : Field.ring ∈ my.fields) : ∃ u, execPresenceSend t s = .next u ∧ Only my s u := by
  have hs := Only.refl my s
  unfold execPresenceSend
  dsimp only
  (repeat' split) <;> exact ⟨_, rfl, by simp +contextual (maxDischargeDepth := 99) [hs, hf_now, hf_ports, hf_ring]⟩

theorem execNodeAbsent_only {my : May} (t : Time) (node : BitVec 10) (s : State) (hf_now : Field.now ∈ my.fields) (hf_regs :
    Field.regs ∈ my.fields) (hf_freeIdx : Field.freeIdx ∈ my.fields) (hf_yew : Field.yew ∈ my.fields) (hf_hirqLow :
    Field.hirqLow ∈ my.fields) (hf_ring : Field.ring ∈ my.fields) (hp_6 : 6 ∈ my.pages) (hp_8 : 8 ∈ my.pages) (hp_9 : 9 ∈
    my.pages) : ∃ u, execNodeAbsent t node s = .next u ∧ Only my s u := by
  have hs := Only.refl my s
  unfold execNodeAbsent
  dsimp only
  (repeat' split) <;> exact ⟨_, rfl, by simp +contextual (maxDischargeDepth := 99) [hs, hf_now, hf_regs, hf_freeIdx, hf_yew,
                          hf_hirqLow, hf_ring, hp_6, hp_8, hp_9]⟩

theorem execLinkDown_only {my : May} (t : Time) (p : Ring) (x : LineLoss) (s : State) (hf_now : Field.now ∈ my.fields)
    (hf_regs : Field.regs ∈ my.fields) (hf_freeIdx : Field.freeIdx ∈ my.fields) (hf_yew : Field.yew ∈ my.fields) (hf_hirqLow
    : Field.hirqLow ∈ my.fields) (hf_ports : Field.ports ∈ my.fields) (hp_6 : 6 ∈ my.pages) (hp_8 : 8 ∈ my.pages) (hp_9 : 9
    ∈ my.pages) : ∃ u, execLinkDown t p x s = .next u ∧ Only my s u := by
  have hs := Only.refl my s
  unfold execLinkDown
  dsimp only
  (repeat' split) <;> exact ⟨_, rfl, by simp +contextual (maxDischargeDepth := 99) [hs, hf_now, hf_regs, hf_freeIdx, hf_yew,
                          hf_hirqLow, hf_ports, hp_6, hp_8, hp_9]⟩

theorem execLinkUp_only {my : May} (t : Time) (p : Ring) (sets : Nat) (s : State) (hf_now : Field.now ∈ my.fields) (hf_regs
    : Field.regs ∈ my.fields) (hf_ports : Field.ports ∈ my.fields) (hp_1 : 1 ∈ my.pages) : ∃ u, execLinkUp t p sets s =
    .next u ∧ Only my s u := by
  have hs := Only.refl my s
  unfold execLinkUp
  dsimp only
  (repeat' split) <;> exact ⟨_, rfl, by simp +contextual (maxDischargeDepth := 99) [hs, hf_now, hf_regs, hf_ports, hp_1]⟩

theorem execRfault_only {my : May} (t : Time) (p : Ring) (s : State) (hf_now : Field.now ∈ my.fields) (hf_ports :
    Field.ports ∈ my.fields) : ∃ u, execRfault t p s = .next u ∧ Only my s u := by
  have hs := Only.refl my s
  unfold execRfault
  dsimp only
  (repeat' split) <;> exact ⟨_, rfl, by simp +contextual (maxDischargeDepth := 99) [hs, hf_now, hf_ports]⟩

theorem execWrap_only {my : May} (t : Time) (p : Ring) (s : State) (hf_now : Field.now ∈ my.fields) (hf_regs : Field.regs ∈
    my.fields) (hf_freeIdx : Field.freeIdx ∈ my.fields) (hf_yew : Field.yew ∈ my.fields) (hf_hirqLow : Field.hirqLow ∈
    my.fields) (hf_ports : Field.ports ∈ my.fields) (hf_ring : Field.ring ∈ my.fields) (hp_6 : 6 ∈ my.pages) (hp_8 : 8 ∈
    my.pages) (hp_9 : 9 ∈ my.pages) : ∃ u, execWrap t p s = .next u ∧ Only my s u := by
  have hs := Only.refl my s
  unfold execWrap
  dsimp only
  (repeat' split) <;> exact ⟨_, rfl, by simp +contextual (maxDischargeDepth := 99) [hs, hf_now, hf_regs, hf_freeIdx, hf_yew,
                          hf_hirqLow, hf_ports, hf_ring, hp_6, hp_8, hp_9]⟩

theorem execUnwrap_only {my : May} (t : Time) (p : Ring) (linkOk : Bool) (s : State) (hf_now : Field.now ∈ my.fields)
    (hf_regs : Field.regs ∈ my.fields) (hf_freeIdx : Field.freeIdx ∈ my.fields) (hf_yew : Field.yew ∈ my.fields) (hf_hirqLow
    : Field.hirqLow ∈ my.fields) (hf_ports : Field.ports ∈ my.fields) (hf_ring : Field.ring ∈ my.fields) (hp_6 : 6 ∈
    my.pages) (hp_8 : 8 ∈ my.pages) (hp_9 : 9 ∈ my.pages) : ∃ u, execUnwrap t p linkOk s = .next u ∧ Only my s u := by
  have hs := Only.refl my s
  unfold execUnwrap
  dsimp only
  (repeat' split) <;> exact ⟨_, rfl, by simp +contextual (maxDischargeDepth := 99) [hs, hf_now, hf_regs, hf_freeIdx, hf_yew,
                          hf_hirqLow, hf_ports, hf_ring, hp_6, hp_8, hp_9]⟩

theorem execTopo_only {my : May} (t : Time) (p : Ring) (gen : Epoch) (orig : BitVec 10) (s : State) (hf_now : Field.now ∈
    my.fields) (hf_regs : Field.regs ∈ my.fields) (hf_hirqLow : Field.hirqLow ∈ my.fields) (hf_ports : Field.ports ∈
    my.fields) (hf_ring : Field.ring ∈ my.fields) (hp_8 : 8 ∈ my.pages) (hp_9 : 9 ∈ my.pages) : ∃ u, execTopo t p gen orig s
    = .next u ∧ Only my s u := by
  have hs := Only.refl my s
  unfold execTopo
  dsimp only
  (repeat' split) <;> exact ⟨_, rfl, by simp +contextual (maxDischargeDepth := 99) [hs, hf_now, hf_regs, hf_hirqLow,
                          hf_ports, hf_ring, hp_8, hp_9]⟩

theorem execSyncSend_only {my : May} (t : Time) (p : Ring) (s : State) (hf_now : Field.now ∈ my.fields) (hf_ports :
    Field.ports ∈ my.fields) : ∃ u, execSyncSend t p s = .next u ∧ Only my s u := by
  have hs := Only.refl my s
  unfold execSyncSend
  dsimp only
  (repeat' split) <;> exact ⟨_, rfl, by simp +contextual (maxDischargeDepth := 99) [hs, hf_now, hf_ports]⟩

theorem execSync_only {my : May} (t : Time) (p : Ring) (data : BitVec 48) (s : State) (hf_now : Field.now ∈ my.fields)
    (hf_regs : Field.regs ∈ my.fields) (hf_freeIdx : Field.freeIdx ∈ my.fields) (hf_yew : Field.yew ∈ my.fields) (hf_hirqLow
    : Field.hirqLow ∈ my.fields) (hf_ports : Field.ports ∈ my.fields) (hf_rtime : Field.rtime ∈ my.fields) (hp_6 : 6 ∈
    my.pages) (hp_8 : 8 ∈ my.pages) (hp_9 : 9 ∈ my.pages) (hp_10 : 10 ∈ my.pages) : ∃ u, execSync t p data s = .next u ∧
    Only my s u := by
  have hs := Only.refl my s
  unfold execSync
  dsimp only
  (repeat' split) <;> exact ⟨_, rfl, by simp +contextual (maxDischargeDepth := 99) [hs, hf_now, hf_regs, hf_freeIdx, hf_yew,
                          hf_hirqLow, hf_ports, hf_rtime, hp_6, hp_8, hp_9, hp_10]⟩

theorem execRtHold_only {my : May} (t : Time) (s : State) (hf_now : Field.now ∈ my.fields) (hf_regs : Field.regs ∈
    my.fields) (hf_freeIdx : Field.freeIdx ∈ my.fields) (hf_yew : Field.yew ∈ my.fields) (hf_hirqLow : Field.hirqLow ∈
    my.fields) (hf_rtime : Field.rtime ∈ my.fields) (hp_6 : 6 ∈ my.pages) (hp_8 : 8 ∈ my.pages) (hp_9 : 9 ∈ my.pages) (hp_10
    : 10 ∈ my.pages) : ∃ u, execRtHold t s = .next u ∧ Only my s u := by
  have hs := Only.refl my s
  unfold execRtHold
  dsimp only
  (repeat' split) <;> exact ⟨_, rfl, by simp +contextual (maxDischargeDepth := 99) [hs, hf_now, hf_regs, hf_freeIdx, hf_yew,
                          hf_hirqLow, hf_rtime, hp_6, hp_8, hp_9, hp_10]⟩

theorem execDelayMeasure_only {my : May} (t : Time) (p : Ring) (s : State) (hf_now : Field.now ∈ my.fields) (hf_ports :
    Field.ports ∈ my.fields) : ∃ u, execDelayMeasure t p s = .next u ∧ Only my s u := by
  have hs := Only.refl my s
  unfold execDelayMeasure
  dsimp only
  (repeat' split) <;> exact ⟨_, rfl, by simp +contextual (maxDischargeDepth := 99) [hs, hf_now, hf_ports]⟩

theorem execDreq_only {my : May} (t : Time) (p : Ring) (seq : BitVec 16) (t2 : Time) (s : State) (hf_now : Field.now ∈
    my.fields) (hf_ports : Field.ports ∈ my.fields) : ∃ u, execDreq t p seq t2 s = .next u ∧ Only my s u := by
  have hs := Only.refl my s
  unfold execDreq
  dsimp only
  (repeat' split) <;> exact ⟨_, rfl, by simp +contextual (maxDischargeDepth := 99) [hs, hf_now, hf_ports]⟩

theorem execDresp_only {my : May} (t : Time) (p : Ring) (seq : BitVec 16) (turn : Word) (s : State) (hf_now : Field.now ∈
    my.fields) (hf_ports : Field.ports ∈ my.fields) : ∃ u, execDresp t p seq turn s = .next u ∧ Only my s u := by
  have hs := Only.refl my s
  unfold execDresp
  dsimp only
  (repeat' split) <;> exact ⟨_, rfl, by simp +contextual (maxDischargeDepth := 99) [hs, hf_now, hf_ports]⟩

theorem execRecord_only {my : May} (t : Time) (code : BitVec 10) (page : BitVec 12) (h : Half) (a0 a1 a2 : Word) (s : State)
    (hf_now : Field.now ∈ my.fields) (hf_regs : Field.regs ∈ my.fields) (hf_yew : Field.yew ∈ my.fields) (hf_hirqLow :
    Field.hirqLow ∈ my.fields) (hp_6 : 6 ∈ my.pages) (hk : my.page page.toNat) : ∃ u, execRecord t code page h a0 a1 a2 s =
    .next u ∧ Only my s u := by
  have hs := Only.refl my s
  unfold execRecord
  dsimp only
  (repeat' split) <;> exact ⟨_, rfl, by simp +contextual (maxDischargeDepth := 99) [hs, hf_now, hf_regs, hf_yew, hf_hirqLow,
                          hp_6, hk]⟩

theorem execBucketRefill_only {my : May} (t : Time) (s : State) (hf_now : Field.now ∈ my.fields) (hf_yew : Field.yew ∈
    my.fields) : ∃ u, execBucketRefill t s = .next u ∧ Only my s u := by
  have hs := Only.refl my s
  unfold execBucketRefill
  dsimp only
  (repeat' split) <;> exact ⟨_, rfl, by simp +contextual (maxDischargeDepth := 99) [hs, hf_now, hf_yew]⟩

theorem execYewFlush_only {my : May} (t : Time) (s : State) (hf_now : Field.now ∈ my.fields) (hf_regs : Field.regs ∈
    my.fields) (hf_firstSeen : Field.firstSeen ∈ my.fields) (hf_yew : Field.yew ∈ my.fields) (hf_yewPort : Field.yewPort ∈
    my.fields) (hf_hirqLow : Field.hirqLow ∈ my.fields) (hf_nor : Field.nor ∈ my.fields) (hp_6 : 6 ∈ my.pages) : ∃ u,
    execYewFlush t s = .next u ∧ Only my s u := by
  have hs := Only.refl my s
  unfold execYewFlush
  dsimp only
  (repeat' split) <;> exact ⟨_, rfl, by simp +contextual (maxDischargeDepth := 99) [hs, hf_now, hf_regs, hf_firstSeen,
                          hf_yew, hf_yewPort, hf_hirqLow, hf_nor, hp_6]⟩

theorem execStreamPost_only {my : May} (t : Time) (s : State) (hf_now : Field.now ∈ my.fields) (hf_regs : Field.regs ∈
    my.fields) (hf_yew : Field.yew ∈ my.fields) (hf_hq : Field.hq ∈ my.fields) (hf_hirqLow : Field.hirqLow ∈ my.fields)
    (hf_ports : Field.ports ∈ my.fields) (hf_ring : Field.ring ∈ my.fields) (hp_4 : 4 ∈ my.pages) (hp_6 : 6 ∈ my.pages) : ∃
    u, execStreamPost t s = .next u ∧ Only my s u := by
  have hs := Only.refl my s
  unfold execStreamPost
  dsimp only
  (repeat' split) <;> exact ⟨_, rfl, by simp +contextual (maxDischargeDepth := 99) [hs, hf_now, hf_regs, hf_yew, hf_hq,
                          hf_hirqLow, hf_ports, hf_ring, hp_4, hp_6]⟩

theorem execPfailSetClose_only {my : May} (t : Time) (s : State) (hf_now : Field.now ∈ my.fields) (hf_regs : Field.regs ∈
    my.fields) (hf_yew : Field.yew ∈ my.fields) (hf_yewPort : Field.yewPort ∈ my.fields) (hf_hirqLow : Field.hirqLow ∈
    my.fields) (hf_nor : Field.nor ∈ my.fields) (hp_6 : 6 ∈ my.pages) : ∃ u, execPfailSetClose t s = .next u ∧ Only my s u
    := by
  have hs := Only.refl my s
  unfold execPfailSetClose
  dsimp only
  (repeat' split) <;> exact ⟨_, rfl, by simp +contextual (maxDischargeDepth := 99) [hs, hf_now, hf_regs, hf_yew, hf_yewPort,
                          hf_hirqLow, hf_nor, hp_6]⟩

theorem execPfailDone_only {my : May} (t : Time) (s : State) (hf_now : Field.now ∈ my.fields) (hf_regs : Field.regs ∈
    my.fields) (hf_yewPort : Field.yewPort ∈ my.fields) (hp_6 : 6 ∈ my.pages) : ∃ u, execPfailDone t s = .next u ∧ Only my s
    u := by
  have hs := Only.refl my s
  unfold execPfailDone
  dsimp only
  (repeat' split) <;> exact ⟨_, rfl, by simp +contextual (maxDischargeDepth := 99) [hs, hf_now, hf_regs, hf_yewPort, hp_6]⟩

theorem execMkTx_only {my : May} (t : Time) (k : Fin 8) (w : Word) (s : State) (hf_now : Field.now ∈ my.fields) (hf_regs :
    Field.regs ∈ my.fields) (hf_mbox : Field.mbox ∈ my.fields) (hp_5 : 5 ∈ my.pages) : ∃ u, execMkTx t k w s = .next u ∧
    Only my s u := by
  have hs := Only.refl my s
  unfold execMkTx
  dsimp only
  (repeat' split) <;> exact ⟨_, rfl, by simp +contextual (maxDischargeDepth := 99) [hs, hf_now, hf_regs, hf_mbox, hp_5]⟩

theorem execDb_only {my : May} (t : Time) (k : Fin 8) (s : State) (hf_now : Field.now ∈ my.fields) (hf_regs : Field.regs ∈
    my.fields) (hf_yew : Field.yew ∈ my.fields) (hf_hirqLow : Field.hirqLow ∈ my.fields) (hf_mbox : Field.mbox ∈ my.fields)
    (hp_5 : 5 ∈ my.pages) (hp_6 : 6 ∈ my.pages) : ∃ u, execDb t k s = .next u ∧ Only my s u := by
  have hs := Only.refl my s
  unfold execDb
  dsimp only
  (repeat' split) <;> exact ⟨_, rfl, by simp +contextual (maxDischargeDepth := 99) [hs, hf_now, hf_regs, hf_yew, hf_hirqLow,
                          hf_mbox, hp_5, hp_6]⟩

theorem execMailboxReply_only {my : May} (t : Time) (k : Fin 8) (s : State) (hf_now : Field.now ∈ my.fields) (hf_regs :
    Field.regs ∈ my.fields) (hf_hirqLow : Field.hirqLow ∈ my.fields) (hf_mbox : Field.mbox ∈ my.fields) (hp_5 : 5 ∈
    my.pages) : ∃ u, execMailboxReply t k s = .next u ∧ Only my s u := by
  have hs := Only.refl my s
  unfold execMailboxReply
  dsimp only
  (repeat' split) <;> exact ⟨_, rfl, by simp +contextual (maxDischargeDepth := 99) [hs, hf_now, hf_regs, hf_hirqLow,
                          hf_mbox, hp_5]⟩

theorem execMkRx_only {my : May} (t : Time) (k : Fin 8) (s : State) (hf_now : Field.now ∈ my.fields) (hf_regs : Field.regs ∈
    my.fields) (hf_mbox : Field.mbox ∈ my.fields) (hf_lastRead : Field.lastRead ∈ my.fields) (hp_5 : 5 ∈ my.pages) : ∃ u,
    execMkRx t k s = .next u ∧ Only my s u := by
  have hs := Only.refl my s
  unfold execMkRx
  dsimp only
  (repeat' split) <;> exact ⟨_, rfl, by simp +contextual (maxDischargeDepth := 99) [hs, hf_now, hf_regs, hf_mbox,
                          hf_lastRead, hp_5]⟩

theorem execNorOpDone_only {my : May} (t : Time) (s : State) (hf_now : Field.now ∈ my.fields) (hf_regs : Field.regs ∈
    my.fields) (hf_freeIdx : Field.freeIdx ∈ my.fields) (hf_firstSeen : Field.firstSeen ∈ my.fields) (hf_yew : Field.yew ∈
    my.fields) (hf_yewPort : Field.yewPort ∈ my.fields) (hf_hq : Field.hq ∈ my.fields) (hf_cmpl : Field.cmpl ∈ my.fields)
    (hf_cmplWait : Field.cmplWait ∈ my.fields) (hf_hirqLow : Field.hirqLow ∈ my.fields) (hf_nor : Field.nor ∈ my.fields)
    (hf_ports : Field.ports ∈ my.fields) (hf_ring : Field.ring ∈ my.fields) (hp_4 : 4 ∈ my.pages) (hp_6 : 6 ∈ my.pages)
    (hp_7 : 7 ∈ my.pages) : ∃ u, execNorOpDone t s = .next u ∧ Only my s u := by
  have hs := Only.refl my s
  unfold execNorOpDone
  dsimp only
  (repeat' split) <;> exact ⟨_, rfl, by simp +contextual (maxDischargeDepth := 99) [hs, hf_now, hf_regs, hf_freeIdx,
                          hf_firstSeen, hf_yew, hf_yewPort, hf_hq, hf_cmpl, hf_cmplWait, hf_hirqLow, hf_nor, hf_ports,
                          hf_ring, hp_4, hp_6, hp_7]⟩

theorem execNorTimeout_only {my : May} (t : Time) (s : State) (hf_now : Field.now ∈ my.fields) (hf_regs : Field.regs ∈
    my.fields) (hf_freeIdx : Field.freeIdx ∈ my.fields) (hf_firstSeen : Field.firstSeen ∈ my.fields) (hf_yew : Field.yew ∈
    my.fields) (hf_yewPort : Field.yewPort ∈ my.fields) (hf_hq : Field.hq ∈ my.fields) (hf_cmpl : Field.cmpl ∈ my.fields)
    (hf_cmplWait : Field.cmplWait ∈ my.fields) (hf_hirqLow : Field.hirqLow ∈ my.fields) (hf_nor : Field.nor ∈ my.fields)
    (hf_ports : Field.ports ∈ my.fields) (hf_ring : Field.ring ∈ my.fields) (hp_4 : 4 ∈ my.pages) (hp_6 : 6 ∈ my.pages)
    (hp_7 : 7 ∈ my.pages) : ∃ u, execNorTimeout t s = .next u ∧ Only my s u := by
  have hs := Only.refl my s
  unfold execNorTimeout
  dsimp only
  (repeat' split) <;> exact ⟨_, rfl, by simp +contextual (maxDischargeDepth := 99) [hs, hf_now, hf_regs, hf_freeIdx,
                          hf_firstSeen, hf_yew, hf_yewPort, hf_hq, hf_cmpl, hf_cmplWait, hf_hirqLow, hf_nor, hf_ports,
                          hf_ring, hp_4, hp_6, hp_7]⟩

theorem execLongCommandEnd_only {my : May} (t : Time) (s : State) (hf_now : Field.now ∈ my.fields) (hf_regs : Field.regs ∈
    my.fields) (hf_freeIdx : Field.freeIdx ∈ my.fields) (hf_firstSeen : Field.firstSeen ∈ my.fields) (hf_yew : Field.yew ∈
    my.fields) (hf_yewPort : Field.yewPort ∈ my.fields) (hf_hq : Field.hq ∈ my.fields) (hf_cmpl : Field.cmpl ∈ my.fields)
    (hf_cmplWait : Field.cmplWait ∈ my.fields) (hf_hirqLow : Field.hirqLow ∈ my.fields) (hf_mbox : Field.mbox ∈ my.fields)
    (hf_nor : Field.nor ∈ my.fields) (hf_ports : Field.ports ∈ my.fields) (hf_ring : Field.ring ∈ my.fields) (hp_4 : 4 ∈
    my.pages) (hp_6 : 6 ∈ my.pages) (hp_7 : 7 ∈ my.pages) : ∃ u, execLongCommandEnd t s = .next u ∧ Only my s u := by
  have hs := Only.refl my s
  unfold execLongCommandEnd
  dsimp only
  (repeat' split) <;> exact ⟨_, rfl, by simp +contextual (maxDischargeDepth := 99) [hs, hf_now, hf_regs, hf_freeIdx,
                          hf_firstSeen, hf_yew, hf_yewPort, hf_hq, hf_cmpl, hf_cmplWait, hf_hirqLow, hf_mbox, hf_nor,
                          hf_ports, hf_ring, hp_4, hp_6, hp_7]⟩

theorem execPayloadTimeout_only {my : May} (t : Time) (s : State) (hf_now : Field.now ∈ my.fields) (hf_regs : Field.regs ∈
    my.fields) (hf_freeIdx : Field.freeIdx ∈ my.fields) (hf_firstSeen : Field.firstSeen ∈ my.fields) (hf_yew : Field.yew ∈
    my.fields) (hf_hq : Field.hq ∈ my.fields) (hf_cmpl : Field.cmpl ∈ my.fields) (hf_cmplWait : Field.cmplWait ∈ my.fields)
    (hf_hirqLow : Field.hirqLow ∈ my.fields) (hf_nor : Field.nor ∈ my.fields) (hp_4 : 4 ∈ my.pages) (hp_6 : 6 ∈ my.pages) :
    ∃ u, execPayloadTimeout t s = .next u ∧ Only my s u := by
  have hs := Only.refl my s
  unfold execPayloadTimeout
  dsimp only
  (repeat' split) <;> exact ⟨_, rfl, by simp +contextual (maxDischargeDepth := 99) [hs, hf_now, hf_regs, hf_freeIdx,
                          hf_firstSeen, hf_yew, hf_hq, hf_cmpl, hf_cmplWait, hf_hirqLow, hf_nor, hp_4, hp_6]⟩

theorem execMailboxTaken_only {my : May} (t : Time) (k : Fin 8) (s : State) (hf_now : Field.now ∈ my.fields) (hf_regs :
    Field.regs ∈ my.fields) (hf_hirqLow : Field.hirqLow ∈ my.fields) (hf_mbox : Field.mbox ∈ my.fields) (hf_nor : Field.nor
    ∈ my.fields) (hp_5 : 5 ∈ my.pages) : ∃ u, execMailboxTaken t k s = .next u ∧ Only my s u := by
  have hs := Only.refl my s
  unfold execMailboxTaken
  dsimp only
  (repeat' split) <;> exact ⟨_, rfl, by simp +contextual (maxDischargeDepth := 99) [hs, hf_now, hf_regs, hf_hirqLow,
                          hf_mbox, hf_nor, hp_5]⟩

theorem execGetInfo_only {my : May} (t : Time) (k : Fin 8) (s : State) (hf_now : Field.now ∈ my.fields) (hf_mbox :
    Field.mbox ∈ my.fields) (hf_nor : Field.nor ∈ my.fields) : ∃ u, execGetInfo t k s = .next u ∧ Only my s u := by
  have hs := Only.refl my s
  unfold execGetInfo
  dsimp only
  (repeat' split) <;> exact ⟨_, rfl, by simp +contextual (maxDischargeDepth := 99) [hs, hf_now, hf_mbox, hf_nor]⟩

theorem execEcho_only {my : May} (t : Time) (k : Fin 8) (s : State) (hf_now : Field.now ∈ my.fields) (hf_mbox : Field.mbox ∈
    my.fields) (hf_nor : Field.nor ∈ my.fields) : ∃ u, execEcho t k s = .next u ∧ Only my s u := by
  have hs := Only.refl my s
  unfold execEcho
  dsimp only
  (repeat' split) <;> exact ⟨_, rfl, by simp +contextual (maxDischargeDepth := 99) [hs, hf_now, hf_mbox, hf_nor]⟩

theorem execNorRead_only {my : May} (t : Time) (k : Fin 8) (s : State) (hf_now : Field.now ∈ my.fields) (hf_regs :
    Field.regs ∈ my.fields) (hf_freeIdx : Field.freeIdx ∈ my.fields) (hf_firstSeen : Field.firstSeen ∈ my.fields) (hf_yew :
    Field.yew ∈ my.fields) (hf_yewPort : Field.yewPort ∈ my.fields) (hf_hq : Field.hq ∈ my.fields) (hf_cmpl : Field.cmpl ∈
    my.fields) (hf_cmplWait : Field.cmplWait ∈ my.fields) (hf_hirqLow : Field.hirqLow ∈ my.fields) (hf_mbox : Field.mbox ∈
    my.fields) (hf_nor : Field.nor ∈ my.fields) (hf_ports : Field.ports ∈ my.fields) (hf_ring : Field.ring ∈ my.fields)
    (hp_4 : 4 ∈ my.pages) (hp_6 : 6 ∈ my.pages) (hp_7 : 7 ∈ my.pages) : ∃ u, execNorRead t k s = .next u ∧ Only my s u := by
  have hs := Only.refl my s
  unfold execNorRead
  dsimp only
  (repeat' split) <;> exact ⟨_, rfl, by simp +contextual (maxDischargeDepth := 99) [hs, hf_now, hf_regs, hf_freeIdx,
                          hf_firstSeen, hf_yew, hf_yewPort, hf_hq, hf_cmpl, hf_cmplWait, hf_hirqLow, hf_mbox, hf_nor,
                          hf_ports, hf_ring, hp_4, hp_6, hp_7]⟩

theorem execNorErase_only {my : May} (t : Time) (k : Fin 8) (s : State) (hf_now : Field.now ∈ my.fields) (hf_regs :
    Field.regs ∈ my.fields) (hf_freeIdx : Field.freeIdx ∈ my.fields) (hf_firstSeen : Field.firstSeen ∈ my.fields) (hf_yew :
    Field.yew ∈ my.fields) (hf_yewPort : Field.yewPort ∈ my.fields) (hf_hq : Field.hq ∈ my.fields) (hf_cmpl : Field.cmpl ∈
    my.fields) (hf_cmplWait : Field.cmplWait ∈ my.fields) (hf_hirqLow : Field.hirqLow ∈ my.fields) (hf_mbox : Field.mbox ∈
    my.fields) (hf_nor : Field.nor ∈ my.fields) (hf_ports : Field.ports ∈ my.fields) (hf_ring : Field.ring ∈ my.fields)
    (hp_4 : 4 ∈ my.pages) (hp_6 : 6 ∈ my.pages) (hp_7 : 7 ∈ my.pages) : ∃ u, execNorErase t k s = .next u ∧ Only my s u :=
    by
  have hs := Only.refl my s
  unfold execNorErase
  dsimp only
  (repeat' split) <;> exact ⟨_, rfl, by simp +contextual (maxDischargeDepth := 99) [hs, hf_now, hf_regs, hf_freeIdx,
                          hf_firstSeen, hf_yew, hf_yewPort, hf_hq, hf_cmpl, hf_cmplWait, hf_hirqLow, hf_mbox, hf_nor,
                          hf_ports, hf_ring, hp_4, hp_6, hp_7]⟩

theorem execNorWrite_only {my : May} (t : Time) (k : Fin 8) (s : State) (hf_now : Field.now ∈ my.fields) (hf_regs :
    Field.regs ∈ my.fields) (hf_freeIdx : Field.freeIdx ∈ my.fields) (hf_firstSeen : Field.firstSeen ∈ my.fields) (hf_yew :
    Field.yew ∈ my.fields) (hf_yewPort : Field.yewPort ∈ my.fields) (hf_hq : Field.hq ∈ my.fields) (hf_cmpl : Field.cmpl ∈
    my.fields) (hf_cmplWait : Field.cmplWait ∈ my.fields) (hf_hirqLow : Field.hirqLow ∈ my.fields) (hf_mbox : Field.mbox ∈
    my.fields) (hf_nor : Field.nor ∈ my.fields) (hf_ports : Field.ports ∈ my.fields) (hf_ring : Field.ring ∈ my.fields)
    (hp_4 : 4 ∈ my.pages) (hp_6 : 6 ∈ my.pages) (hp_7 : 7 ∈ my.pages) : ∃ u, execNorWrite t k s = .next u ∧ Only my s u :=
    by
  have hs := Only.refl my s
  unfold execNorWrite
  dsimp only
  (repeat' split) <;> exact ⟨_, rfl, by simp +contextual (maxDischargeDepth := 99) [hs, hf_now, hf_regs, hf_freeIdx,
                          hf_firstSeen, hf_yew, hf_yewPort, hf_hq, hf_cmpl, hf_cmplWait, hf_hirqLow, hf_mbox, hf_nor,
                          hf_ports, hf_ring, hp_4, hp_6, hp_7]⟩

theorem execNorCrc_only {my : May} (t : Time) (k : Fin 8) (s : State) (hf_now : Field.now ∈ my.fields) (hf_regs : Field.regs
    ∈ my.fields) (hf_freeIdx : Field.freeIdx ∈ my.fields) (hf_firstSeen : Field.firstSeen ∈ my.fields) (hf_yew : Field.yew ∈
    my.fields) (hf_yewPort : Field.yewPort ∈ my.fields) (hf_hq : Field.hq ∈ my.fields) (hf_cmpl : Field.cmpl ∈ my.fields)
    (hf_cmplWait : Field.cmplWait ∈ my.fields) (hf_hirqLow : Field.hirqLow ∈ my.fields) (hf_mbox : Field.mbox ∈ my.fields)
    (hf_nor : Field.nor ∈ my.fields) (hf_ports : Field.ports ∈ my.fields) (hf_ring : Field.ring ∈ my.fields) (hp_4 : 4 ∈
    my.pages) (hp_6 : 6 ∈ my.pages) (hp_7 : 7 ∈ my.pages) : ∃ u, execNorCrc t k s = .next u ∧ Only my s u := by
  have hs := Only.refl my s
  unfold execNorCrc
  dsimp only
  (repeat' split) <;> exact ⟨_, rfl, by simp +contextual (maxDischargeDepth := 99) [hs, hf_now, hf_regs, hf_freeIdx,
                          hf_firstSeen, hf_yew, hf_yewPort, hf_hq, hf_cmpl, hf_cmplWait, hf_hirqLow, hf_mbox, hf_nor,
                          hf_ports, hf_ring, hp_4, hp_6, hp_7]⟩

theorem execDirSet_only {my : May} (t : Time) (k : Fin 8) (s : State) (hf_now : Field.now ∈ my.fields) (hf_regs : Field.regs
    ∈ my.fields) (hf_yew : Field.yew ∈ my.fields) (hf_yewPort : Field.yewPort ∈ my.fields) (hf_hirqLow : Field.hirqLow ∈
    my.fields) (hf_mbox : Field.mbox ∈ my.fields) (hf_nor : Field.nor ∈ my.fields) (hp_6 : 6 ∈ my.pages) : ∃ u, execDirSet t
    k s = .next u ∧ Only my s u := by
  have hs := Only.refl my s
  unfold execDirSet
  dsimp only
  (repeat' split) <;> exact ⟨_, rfl, by simp +contextual (maxDischargeDepth := 99) [hs, hf_now, hf_regs, hf_yew, hf_yewPort,
                          hf_hirqLow, hf_mbox, hf_nor, hp_6]⟩

theorem execPatchStage_only {my : May} (t : Time) (k : Fin 8) (s : State) (hf_now : Field.now ∈ my.fields) (hf_regs :
    Field.regs ∈ my.fields) (hf_freeIdx : Field.freeIdx ∈ my.fields) (hf_firstSeen : Field.firstSeen ∈ my.fields) (hf_yew :
    Field.yew ∈ my.fields) (hf_yewPort : Field.yewPort ∈ my.fields) (hf_hq : Field.hq ∈ my.fields) (hf_cmpl : Field.cmpl ∈
    my.fields) (hf_cmplWait : Field.cmplWait ∈ my.fields) (hf_hirqLow : Field.hirqLow ∈ my.fields) (hf_mbox : Field.mbox ∈
    my.fields) (hf_nor : Field.nor ∈ my.fields) (hf_ports : Field.ports ∈ my.fields) (hf_ring : Field.ring ∈ my.fields)
    (hp_4 : 4 ∈ my.pages) (hp_6 : 6 ∈ my.pages) (hp_7 : 7 ∈ my.pages) : ∃ u, execPatchStage t k s = .next u ∧ Only my s u :=
    by
  have hs := Only.refl my s
  unfold execPatchStage
  dsimp only
  (repeat' split) <;> exact ⟨_, rfl, by simp +contextual (maxDischargeDepth := 99) [hs, hf_now, hf_regs, hf_freeIdx,
                          hf_firstSeen, hf_yew, hf_yewPort, hf_hq, hf_cmpl, hf_cmplWait, hf_hirqLow, hf_mbox, hf_nor,
                          hf_ports, hf_ring, hp_4, hp_6, hp_7]⟩

theorem execPatchSelect_only {my : May} (t : Time) (k : Fin 8) (s : State) (hf_now : Field.now ∈ my.fields) (hf_regs :
    Field.regs ∈ my.fields) (hf_yew : Field.yew ∈ my.fields) (hf_hirqLow : Field.hirqLow ∈ my.fields) (hf_mbox : Field.mbox
    ∈ my.fields) (hf_nor : Field.nor ∈ my.fields) (hp_6 : 6 ∈ my.pages) (hp_7 : 7 ∈ my.pages) : ∃ u, execPatchSelect t k s =
    .next u ∧ Only my s u := by
  have hs := Only.refl my s
  unfold execPatchSelect
  dsimp only
  (repeat' split) <;> exact ⟨_, rfl, by simp +contextual (maxDischargeDepth := 99) [hs, hf_now, hf_regs, hf_yew, hf_hirqLow,
                          hf_mbox, hf_nor, hp_6, hp_7]⟩

theorem execCfgSave_only {my : May} (t : Time) (k : Fin 8) (s : State) (hf_now : Field.now ∈ my.fields) (hf_regs :
    Field.regs ∈ my.fields) (hf_freeIdx : Field.freeIdx ∈ my.fields) (hf_firstSeen : Field.firstSeen ∈ my.fields) (hf_yew :
    Field.yew ∈ my.fields) (hf_yewPort : Field.yewPort ∈ my.fields) (hf_hq : Field.hq ∈ my.fields) (hf_cmpl : Field.cmpl ∈
    my.fields) (hf_cmplWait : Field.cmplWait ∈ my.fields) (hf_hirqLow : Field.hirqLow ∈ my.fields) (hf_mbox : Field.mbox ∈
    my.fields) (hf_nor : Field.nor ∈ my.fields) (hf_ports : Field.ports ∈ my.fields) (hf_ring : Field.ring ∈ my.fields)
    (hp_4 : 4 ∈ my.pages) (hp_6 : 6 ∈ my.pages) (hp_7 : 7 ∈ my.pages) : ∃ u, execCfgSave t k s = .next u ∧ Only my s u := by
  have hs := Only.refl my s
  unfold execCfgSave
  dsimp only
  (repeat' split) <;> exact ⟨_, rfl, by simp +contextual (maxDischargeDepth := 99) [hs, hf_now, hf_regs, hf_freeIdx,
                          hf_firstSeen, hf_yew, hf_yewPort, hf_hq, hf_cmpl, hf_cmplWait, hf_hirqLow, hf_mbox, hf_nor,
                          hf_ports, hf_ring, hp_4, hp_6, hp_7]⟩

theorem execCfgClear_only {my : May} (t : Time) (k : Fin 8) (s : State) (hf_now : Field.now ∈ my.fields) (hf_mbox :
    Field.mbox ∈ my.fields) (hf_nor : Field.nor ∈ my.fields) : ∃ u, execCfgClear t k s = .next u ∧ Only my s u := by
  have hs := Only.refl my s
  unfold execCfgClear
  dsimp only
  (repeat' split) <;> exact ⟨_, rfl, by simp +contextual (maxDischargeDepth := 99) [hs, hf_now, hf_mbox, hf_nor]⟩

theorem execLogRead_only {my : May} (t : Time) (k : Fin 8) (s : State) (hf_now : Field.now ∈ my.fields) (hf_regs :
    Field.regs ∈ my.fields) (hf_freeIdx : Field.freeIdx ∈ my.fields) (hf_firstSeen : Field.firstSeen ∈ my.fields) (hf_yew :
    Field.yew ∈ my.fields) (hf_yewPort : Field.yewPort ∈ my.fields) (hf_hq : Field.hq ∈ my.fields) (hf_cmpl : Field.cmpl ∈
    my.fields) (hf_cmplWait : Field.cmplWait ∈ my.fields) (hf_hirqLow : Field.hirqLow ∈ my.fields) (hf_mbox : Field.mbox ∈
    my.fields) (hf_nor : Field.nor ∈ my.fields) (hf_ports : Field.ports ∈ my.fields) (hf_ring : Field.ring ∈ my.fields)
    (hp_4 : 4 ∈ my.pages) (hp_6 : 6 ∈ my.pages) (hp_7 : 7 ∈ my.pages) : ∃ u, execLogRead t k s = .next u ∧ Only my s u := by
  have hs := Only.refl my s
  unfold execLogRead
  dsimp only
  (repeat' split) <;> exact ⟨_, rfl, by simp +contextual (maxDischargeDepth := 99) [hs, hf_now, hf_regs, hf_freeIdx,
                          hf_firstSeen, hf_yew, hf_yewPort, hf_hq, hf_cmpl, hf_cmplWait, hf_hirqLow, hf_mbox, hf_nor,
                          hf_ports, hf_ring, hp_4, hp_6, hp_7]⟩

theorem execAbort_only {my : May} (t : Time) (k : Fin 8) (s : State) (hf_now : Field.now ∈ my.fields) (hf_regs : Field.regs
    ∈ my.fields) (hf_freeIdx : Field.freeIdx ∈ my.fields) (hf_firstSeen : Field.firstSeen ∈ my.fields) (hf_yew : Field.yew ∈
    my.fields) (hf_yewPort : Field.yewPort ∈ my.fields) (hf_hq : Field.hq ∈ my.fields) (hf_cmpl : Field.cmpl ∈ my.fields)
    (hf_cmplWait : Field.cmplWait ∈ my.fields) (hf_hirqLow : Field.hirqLow ∈ my.fields) (hf_mbox : Field.mbox ∈ my.fields)
    (hf_nor : Field.nor ∈ my.fields) (hf_ports : Field.ports ∈ my.fields) (hf_ring : Field.ring ∈ my.fields) (hp_4 : 4 ∈
    my.pages) (hp_6 : 6 ∈ my.pages) (hp_7 : 7 ∈ my.pages) : ∃ u, execAbort t k s = .next u ∧ Only my s u := by
  have hs := Only.refl my s
  unfold execAbort
  dsimp only
  (repeat' split) <;> exact ⟨_, rfl, by simp +contextual (maxDischargeDepth := 99) [hs, hf_now, hf_regs, hf_freeIdx,
                          hf_firstSeen, hf_yew, hf_yewPort, hf_hq, hf_cmpl, hf_cmplWait, hf_hirqLow, hf_mbox, hf_nor,
                          hf_ports, hf_ring, hp_4, hp_6, hp_7]⟩

theorem execKeyRevoke_only {my : May} (t : Time) (k : Fin 8) (s : State) (hf_now : Field.now ∈ my.fields) (hf_regs :
    Field.regs ∈ my.fields) (hf_yew : Field.yew ∈ my.fields) (hf_hirqLow : Field.hirqLow ∈ my.fields) (hf_mbox : Field.mbox
    ∈ my.fields) (hf_nor : Field.nor ∈ my.fields) (hp_6 : 6 ∈ my.pages) (hp_7 : 7 ∈ my.pages) : ∃ u, execKeyRevoke t k s =
    .next u ∧ Only my s u := by
  have hs := Only.refl my s
  unfold execKeyRevoke
  dsimp only
  (repeat' split) <;> exact ⟨_, rfl, by simp +contextual (maxDischargeDepth := 99) [hs, hf_now, hf_regs, hf_yew, hf_hirqLow,
                          hf_mbox, hf_nor, hp_6, hp_7]⟩

theorem execScrub_only {my : May} (t : Time) (ecc : List EccFault) (s : State) (hf_now : Field.now ∈ my.fields) (hf_regs :
    Field.regs ∈ my.fields) (hf_yew : Field.yew ∈ my.fields) (hf_hirqLow : Field.hirqLow ∈ my.fields) (hf_laurel :
    Field.laurel ∈ my.fields) (hf_map : Field.map ∈ my.fields) (hp_6 : 6 ∈ my.pages) (hp_25 : 25 ∈ my.pages) : ∃ u,
    execScrub t ecc s = .next u ∧ Only my s u := by
  have hs := Only.refl my s
  unfold execScrub
  dsimp only
  (repeat' split) <;> exact ⟨_, rfl, by simp +contextual (maxDischargeDepth := 99) [hs, hf_now, hf_regs, hf_yew, hf_hirqLow,
                          hf_laurel, hf_map, hp_6, hp_25]⟩

theorem execTileItem_only {my : May} (t : Time) (cov : Bool) (s : State) (hf_now : Field.now ∈ my.fields) (hf_regs :
    Field.regs ∈ my.fields) (hf_freeIdx : Field.freeIdx ∈ my.fields) (hf_firstSeen : Field.firstSeen ∈ my.fields) (hf_yew :
    Field.yew ∈ my.fields) (hf_hq : Field.hq ∈ my.fields) (hf_cmpl : Field.cmpl ∈ my.fields) (hf_cmplWait : Field.cmplWait ∈
    my.fields) (hf_hirqLow : Field.hirqLow ∈ my.fields) (hf_map : Field.map ∈ my.fields) (hp_4 : 4 ∈ my.pages) (hp_6 : 6 ∈
    my.pages) (hp_25 : 25 ∈ my.pages) : ∃ u, execTileItem t cov s = .next u ∧ Only my s u := by
  have hs := Only.refl my s
  unfold execTileItem
  dsimp only
  (repeat' split) <;> exact ⟨_, rfl, by simp +contextual (maxDischargeDepth := 99) [hs, hf_now, hf_regs, hf_freeIdx,
                          hf_firstSeen, hf_yew, hf_hq, hf_cmpl, hf_cmplWait, hf_hirqLow, hf_map, hp_4, hp_6, hp_25]⟩

theorem execTileEffect_only {my : May} (t : Time) (cov : Bool) (s : State) (hf_now : Field.now ∈ my.fields) (hf_regs :
    Field.regs ∈ my.fields) (hf_freeIdx : Field.freeIdx ∈ my.fields) (hf_firstSeen : Field.firstSeen ∈ my.fields) (hf_yew :
    Field.yew ∈ my.fields) (hf_hq : Field.hq ∈ my.fields) (hf_cmpl : Field.cmpl ∈ my.fields) (hf_cmplWait : Field.cmplWait ∈
    my.fields) (hf_hirqLow : Field.hirqLow ∈ my.fields) (hf_map : Field.map ∈ my.fields) (hp_4 : 4 ∈ my.pages) (hp_6 : 6 ∈
    my.pages) (hp_25 : 25 ∈ my.pages) : ∃ u, execTileEffect t cov s = .next u ∧ Only my s u := by
  have hs := Only.refl my s
  unfold execTileEffect
  dsimp only
  (repeat' split) <;> exact ⟨_, rfl, by simp +contextual (maxDischargeDepth := 99) [hs, hf_now, hf_regs, hf_freeIdx,
                          hf_firstSeen, hf_yew, hf_hq, hf_cmpl, hf_cmplWait, hf_hirqLow, hf_map, hp_4, hp_6, hp_25]⟩

theorem execTileRequestPost_only {my : May} (t : Time) (s : State) (hf_now : Field.now ∈ my.fields) (hf_regs : Field.regs ∈
    my.fields) (hf_hq : Field.hq ∈ my.fields) (hf_hirqLow : Field.hirqLow ∈ my.fields) (hf_map : Field.map ∈ my.fields)
    (hf_ports : Field.ports ∈ my.fields) (hf_ring : Field.ring ∈ my.fields) (hp_4 : 4 ∈ my.pages) (hp_25 : 25 ∈ my.pages) :
    ∃ u, execTileRequestPost t s = .next u ∧ Only my s u := by
  have hs := Only.refl my s
  unfold execTileRequestPost
  dsimp only
  (repeat' split) <;> exact ⟨_, rfl, by simp +contextual (maxDischargeDepth := 99) [hs, hf_now, hf_regs, hf_hq, hf_hirqLow,
                          hf_map, hf_ports, hf_ring, hp_4, hp_25]⟩

theorem execRequestRetry_only {my : May} (t : Time) (slot : BitVec 11) (s : State) (hf_now : Field.now ∈ my.fields) (hf_map
    : Field.map ∈ my.fields) : ∃ u, execRequestRetry t slot s = .next u ∧ Only my s u := by
  have hs := Only.refl my s
  unfold execRequestRetry
  dsimp only
  (repeat' split) <;> exact ⟨_, rfl, by simp +contextual (maxDischargeDepth := 99) [hs, hf_now, hf_map]⟩

theorem execEvictPost_only {my : May} (t : Time) (s : State) (hf_now : Field.now ∈ my.fields) (hf_regs : Field.regs ∈
    my.fields) (hf_hq : Field.hq ∈ my.fields) (hf_hirqLow : Field.hirqLow ∈ my.fields) (hf_map : Field.map ∈ my.fields)
    (hf_ports : Field.ports ∈ my.fields) (hf_ring : Field.ring ∈ my.fields) (hp_4 : 4 ∈ my.pages) (hp_25 : 25 ∈ my.pages) :
    ∃ u, execEvictPost t s = .next u ∧ Only my s u := by
  have hs := Only.refl my s
  unfold execEvictPost
  dsimp only
  (repeat' split) <;> exact ⟨_, rfl, by simp +contextual (maxDischargeDepth := 99) [hs, hf_now, hf_regs, hf_hq, hf_hirqLow,
                          hf_map, hf_ports, hf_ring, hp_4, hp_25]⟩

theorem execSpillPost_only {my : May} (t : Time) (s : State) (hf_now : Field.now ∈ my.fields) (hf_regs : Field.regs ∈
    my.fields) (hf_hq : Field.hq ∈ my.fields) (hf_hirqLow : Field.hirqLow ∈ my.fields) (hf_map : Field.map ∈ my.fields)
    (hf_ports : Field.ports ∈ my.fields) (hf_ring : Field.ring ∈ my.fields) (hp_4 : 4 ∈ my.pages) : ∃ u, execSpillPost t s =
    .next u ∧ Only my s u := by
  have hs := Only.refl my s
  unfold execSpillPost
  dsimp only
  (repeat' split) <;> exact ⟨_, rfl, by simp +contextual (maxDischargeDepth := 99) [hs, hf_now, hf_regs, hf_hq, hf_hirqLow,
                          hf_map, hf_ports, hf_ring, hp_4]⟩

theorem execFlush_only {my : May} (t : Time) (s : State) (hf_now : Field.now ∈ my.fields) (hf_regs : Field.regs ∈ my.fields)
    (hf_freeIdx : Field.freeIdx ∈ my.fields) (hf_yew : Field.yew ∈ my.fields) (hf_hq : Field.hq ∈ my.fields) (hf_hirqLow :
    Field.hirqLow ∈ my.fields) (hf_map : Field.map ∈ my.fields) (hf_ports : Field.ports ∈ my.fields) (hf_ring : Field.ring ∈
    my.fields) (hp_4 : 4 ∈ my.pages) (hp_6 : 6 ∈ my.pages) (hp_25 : 25 ∈ my.pages) : ∃ u, execFlush t s = .next u ∧ Only my
    s u := by
  have hs := Only.refl my s
  unfold execFlush
  dsimp only
  (repeat' split) <;> exact ⟨_, rfl, by simp +contextual (maxDischargeDepth := 99) [hs, hf_now, hf_regs, hf_freeIdx, hf_yew,
                          hf_hq, hf_hirqLow, hf_map, hf_ports, hf_ring, hp_4, hp_6, hp_25]⟩

theorem execAdvJob_only {my : May} (t : Time) (s : State) (hf_now : Field.now ∈ my.fields) (hf_regs : Field.regs ∈
    my.fields) (hp_25 : 25 ∈ my.pages) : ∃ u, execAdvJob t s = .next u ∧ Only my s u := by
  have hs := Only.refl my s
  unfold execAdvJob
  dsimp only
  (repeat' split) <;> exact ⟨_, rfl, by simp +contextual (maxDischargeDepth := 99) [hs, hf_now, hf_regs, hp_25]⟩

theorem execGsEdge_only {my : May} (t : Time) (b rise : Bool) (stamp : Time) (s : State) (hf_now : Field.now ∈ my.fields)
    (hf_regs : Field.regs ∈ my.fields) (hf_pose : Field.pose ∈ my.fields) (hp_21 : 21 ∈ my.pages) : ∃ u, execGsEdge t b rise
    stamp s = .next u ∧ Only my s u := by
  have hs := Only.refl my s
  cases b <;>
  (unfold execGsEdge; dsimp only; (repeat' split) <;> exact ⟨_, rfl, by simp +contextual (maxDischargeDepth := 99) [hs, hf_now, hf_regs, hf_pose, hp_21]⟩)

theorem execSpdDisagree_only {my : May} (t : Time) (s : State) (hf_now : Field.now ∈ my.fields) (hf_regs : Field.regs ∈
    my.fields) (hf_yew : Field.yew ∈ my.fields) (hf_hirqLow : Field.hirqLow ∈ my.fields) (hf_pose : Field.pose ∈ my.fields)
    (hp_6 : 6 ∈ my.pages) (hp_20 : 20 ∈ my.pages) : ∃ u, execSpdDisagree t s = .next u ∧ Only my s u := by
  have hs := Only.refl my s
  unfold execSpdDisagree
  dsimp only
  (repeat' split) <;> exact ⟨_, rfl, by simp +contextual (maxDischargeDepth := 99) [hs, hf_now, hf_regs, hf_yew, hf_hirqLow,
                          hf_pose, hp_6, hp_20]⟩

theorem execHitchDisagree_only {my : May} (t : Time) (s : State) (hf_now : Field.now ∈ my.fields) (hf_regs : Field.regs ∈
    my.fields) (hf_yew : Field.yew ∈ my.fields) (hf_hirqLow : Field.hirqLow ∈ my.fields) (hf_pose : Field.pose ∈ my.fields)
    (hp_6 : 6 ∈ my.pages) (hp_20 : 20 ∈ my.pages) : ∃ u, execHitchDisagree t s = .next u ∧ Only my s u := by
  have hs := Only.refl my s
  unfold execHitchDisagree
  dsimp only
  (repeat' split) <;> exact ⟨_, rfl, by simp +contextual (maxDischargeDepth := 99) [hs, hf_now, hf_regs, hf_yew, hf_hirqLow,
                          hf_pose, hp_6, hp_20]⟩

theorem execPoseWord_only {my : May} (t : Time) (hitch : List (BitVec 12)) (peer : Word) (s : State) (hf_now : Field.now ∈
    my.fields) (hf_regs : Field.regs ∈ my.fields) (hf_freeIdx : Field.freeIdx ∈ my.fields) (hf_spdRun : Field.spdRun ∈
    my.fields) (hf_qualLow : Field.qualLow ∈ my.fields) (hf_yew : Field.yew ∈ my.fields) (hf_hirqLow : Field.hirqLow ∈
    my.fields) (hf_laurel : Field.laurel ∈ my.fields) (hf_pose : Field.pose ∈ my.fields) (hf_ports : Field.ports ∈
    my.fields) (hf_ring : Field.ring ∈ my.fields) (hp_3 : 3 ∈ my.pages) (hp_6 : 6 ∈ my.pages) (hp_20 : 20 ∈ my.pages) (hp_21
    : 21 ∈ my.pages) : ∃ u, execPoseWord t hitch peer s = .next u ∧ Only my s u := by
  have hs := Only.refl my s
  unfold execPoseWord
  dsimp only
  (repeat' split) <;> exact ⟨_, rfl, by simp +contextual (maxDischargeDepth := 99) [hs, hf_now, hf_regs, hf_freeIdx,
                          hf_spdRun, hf_qualLow, hf_yew, hf_hirqLow, hf_laurel, hf_pose, hf_ports, hf_ring, hp_3, hp_6,
                          hp_20, hp_21]⟩

theorem execRingMiss_only {my : May} (t : Time) (s : State) (hf_now : Field.now ∈ my.fields) (hf_regs : Field.regs ∈
    my.fields) (hf_freeIdx : Field.freeIdx ∈ my.fields) (hf_spdRun : Field.spdRun ∈ my.fields) (hf_qualLow : Field.qualLow ∈
    my.fields) (hf_hirqLow : Field.hirqLow ∈ my.fields) (hf_pose : Field.pose ∈ my.fields) (hp_20 : 20 ∈ my.pages) (hp_21 :
    21 ∈ my.pages) : ∃ u, execRingMiss t s = .next u ∧ Only my s u := by
  have hs := Only.refl my s
  unfold execRingMiss
  dsimp only
  (repeat' split) <;> exact ⟨_, rfl, by simp +contextual (maxDischargeDepth := 99) [hs, hf_now, hf_regs, hf_freeIdx,
                          hf_spdRun, hf_qualLow, hf_hirqLow, hf_pose, hp_20, hp_21]⟩

theorem execSolutionLost_only {my : May} (t : Time) (s : State) (hf_now : Field.now ∈ my.fields) (hf_pose : Field.pose ∈
    my.fields) : ∃ u, execSolutionLost t s = .next u ∧ Only my s u := by
  have hs := Only.refl my s
  unfold execSolutionLost
  dsimp only
  (repeat' split) <;> exact ⟨_, rfl, by simp +contextual (maxDischargeDepth := 99) [hs, hf_now, hf_pose]⟩

theorem execCoastExpired_only {my : May} (t : Time) (s : State) (hf_now : Field.now ∈ my.fields) (hf_pose : Field.pose ∈
    my.fields) : ∃ u, execCoastExpired t s = .next u ∧ Only my s u := by
  have hs := Only.refl my s
  unfold execCoastExpired
  dsimp only
  (repeat' split) <;> exact ⟨_, rfl, by simp +contextual (maxDischargeDepth := 99) [hs, hf_now, hf_pose]⟩

theorem execImuCoastEnd_only {my : May} (t : Time) (s : State) (hf_now : Field.now ∈ my.fields) (hf_regs : Field.regs ∈
    my.fields) (hf_spdRun : Field.spdRun ∈ my.fields) (hf_pose : Field.pose ∈ my.fields) (hp_20 : 20 ∈ my.pages) : ∃ u,
    execImuCoastEnd t s = .next u ∧ Only my s u := by
  have hs := Only.refl my s
  unfold execImuCoastEnd
  dsimp only
  (repeat' split) <;> exact ⟨_, rfl, by simp +contextual (maxDischargeDepth := 99) [hs, hf_now, hf_regs, hf_spdRun, hf_pose,
                          hp_20]⟩

theorem execImuInt_only {my : May} (t : Time) (rise : Bool) (s : State) (hf_now : Field.now ∈ my.fields) (hf_regs :
    Field.regs ∈ my.fields) (hf_imu : Field.imu ∈ my.fields) (hp_19 : 19 ∈ my.pages) : ∃ u, execImuInt t rise s = .next u ∧
    Only my s u := by
  have hs := Only.refl my s
  unfold execImuInt
  dsimp only
  (repeat' split) <;> exact ⟨_, rfl, by simp +contextual (maxDischargeDepth := 99) [hs, hf_now, hf_regs, hf_imu, hp_19]⟩

theorem execImuBurstDone_only {my : May} (t : Time) (bytes : List Byte) (s : State) (hf_now : Field.now ∈ my.fields)
    (hf_regs : Field.regs ∈ my.fields) (hf_freeIdx : Field.freeIdx ∈ my.fields) (hf_imu : Field.imu ∈ my.fields) (hp_19 : 19
    ∈ my.pages) (hp_20 : 20 ∈ my.pages) : ∃ u, execImuBurstDone t bytes s = .next u ∧ Only my s u := by
  have hs := Only.refl my s
  unfold execImuBurstDone
  dsimp only
  (repeat' split) <;> exact ⟨_, rfl, by simp +contextual (maxDischargeDepth := 99) [hs, hf_now, hf_regs, hf_freeIdx, hf_imu,
                          hp_19, hp_20]⟩

theorem execImuLost_only {my : May} (t : Time) (s : State) (hf_now : Field.now ∈ my.fields) (hf_regs : Field.regs ∈
    my.fields) (hf_hirqLow : Field.hirqLow ∈ my.fields) (hf_imu : Field.imu ∈ my.fields) (hp_19 : 19 ∈ my.pages) (hp_20 : 20
    ∈ my.pages) : ∃ u, execImuLost t s = .next u ∧ Only my s u := by
  have hs := Only.refl my s
  unfold execImuLost
  dsimp only
  (repeat' split) <;> exact ⟨_, rfl, by simp +contextual (maxDischargeDepth := 99) [hs, hf_now, hf_regs, hf_hirqLow, hf_imu,
                          hp_19, hp_20]⟩

theorem execTravelCompute_only {my : May} (t : Time) (s : State) (hf_now : Field.now ∈ my.fields) (hf_regs : Field.regs ∈
    my.fields) (hf_lanes : Field.lanes ∈ my.fields) (hf_trav : Field.trav ∈ my.fields) (hp_26 : 26 ∈ my.pages) (hall : ∀ n :
    LaneIx, n ∈ my.lanes) : ∃ u, execTravelCompute t s = .next u ∧ Only my s u := by
  have hs := Only.refl my s
  unfold execTravelCompute
  dsimp only
  (repeat' split) <;> exact ⟨_, rfl, by simp +contextual (maxDischargeDepth := 99) [hs, hf_now, hf_regs, hf_lanes, hf_trav,
                          hp_26, hall]⟩

theorem execFootprintTick_only {my : May} (t : Time) (ecc : List EccFault) (ain0 : List Sample) (ain1 : List Sample) (s :
    State) (hf_now : Field.now ∈ my.fields) (hf_regs : Field.regs ∈ my.fields) (hf_freeIdx : Field.freeIdx ∈ my.fields)
    (hf_yew : Field.yew ∈ my.fields) (hf_hq : Field.hq ∈ my.fields) (hf_hirqLow : Field.hirqLow ∈ my.fields) (hf_laurel :
    Field.laurel ∈ my.fields) (hf_eng : Field.eng ∈ my.fields) (hf_fpe : Field.fpe ∈ my.fields) (hf_map : Field.map ∈
    my.fields) (hf_ports : Field.ports ∈ my.fields) (hf_ring : Field.ring ∈ my.fields) (hp_4 : 4 ∈ my.pages) (hp_6 : 6 ∈
    my.pages) (hp_24 : 24 ∈ my.pages) (hp_25 : 25 ∈ my.pages) (hp_27 : 27 ∈ my.pages) (hall : ∀ n : LaneIx, n ∈ my.lanes) :
    ∃ u, execFootprintTick t ecc ain0 ain1 s = .next u ∧ Only my s u := by
  have hs := Only.refl my s
  unfold execFootprintTick
  dsimp only
  (repeat' split) <;> exact ⟨_, rfl, by simp +contextual (maxDischargeDepth := 99) [hs, hf_now, hf_regs, hf_freeIdx, hf_yew,
                          hf_hq, hf_hirqLow, hf_laurel, hf_eng, hf_fpe, hf_map, hf_ports, hf_ring, hp_4, hp_6, hp_24, hp_25,
                          hp_27, hall]⟩

theorem execDemandPhase_only {my : May} (t : Time) (s : State) (hf_now : Field.now ∈ my.fields) (hf_regs : Field.regs ∈
    my.fields) (hf_freeIdx : Field.freeIdx ∈ my.fields) (hf_yew : Field.yew ∈ my.fields) (hf_hq : Field.hq ∈ my.fields)
    (hf_hirqLow : Field.hirqLow ∈ my.fields) (hf_fpe : Field.fpe ∈ my.fields) (hf_map : Field.map ∈ my.fields) (hf_ports :
    Field.ports ∈ my.fields) (hf_ring : Field.ring ∈ my.fields) (hp_4 : 4 ∈ my.pages) (hp_6 : 6 ∈ my.pages) (hp_24 : 24 ∈
    my.pages) (hp_25 : 25 ∈ my.pages) : ∃ u, execDemandPhase t s = .next u ∧ Only my s u := by
  have hs := Only.refl my s
  unfold execDemandPhase
  dsimp only
  (repeat' split) <;> exact ⟨_, rfl, by simp +contextual (maxDischargeDepth := 99) [hs, hf_now, hf_regs, hf_freeIdx, hf_yew,
                          hf_hq, hf_hirqLow, hf_fpe, hf_map, hf_ports, hf_ring, hp_4, hp_6, hp_24, hp_25]⟩

theorem execDecisionPhase_only {my : May} (t : Time) (ecc : List EccFault) (dur : BitVec 16) (s : State) (hf_now : Field.now
    ∈ my.fields) (hf_dev : Field.dev ∈ my.fields) (hf_prev : Field.prev ∈ my.fields) (hf_devAt : Field.devAt ∈ my.fields)
    (hf_devLog : Field.devLog ∈ my.fields) (hf_regs : Field.regs ∈ my.fields) (hf_freeIdx : Field.freeIdx ∈ my.fields)
    (hf_firstSeen : Field.firstSeen ∈ my.fields) (hf_yew : Field.yew ∈ my.fields) (hf_hq : Field.hq ∈ my.fields) (hf_hirqLow
    : Field.hirqLow ∈ my.fields) (hf_laurel : Field.laurel ∈ my.fields) (hf_lanes : Field.lanes ∈ my.fields) (hf_fpe :
    Field.fpe ∈ my.fields) (hf_map : Field.map ∈ my.fields) (hf_ports : Field.ports ∈ my.fields) (hf_ring : Field.ring ∈
    my.fields) (hp_0 : 0 ∈ my.pages) (hp_4 : 4 ∈ my.pages) (hp_6 : 6 ∈ my.pages) (hp_24 : 24 ∈ my.pages) (hp_25 : 25 ∈
    my.pages) (hp_27 : 27 ∈ my.pages) (hp_28 : 28 ∈ my.pages) (hall : ∀ n : LaneIx, n ∈ my.lanes) : ∃ u, execDecisionPhase t
    ecc dur s = .next u ∧ Only my s u := by
  have hs := Only.refl my s
  unfold execDecisionPhase
  dsimp only
  (repeat' split) <;> exact ⟨_, rfl, by simp +contextual (maxDischargeDepth := 99) [hs, hf_now, hf_dev, hf_prev, hf_devAt,
                          hf_devLog, hf_regs, hf_freeIdx, hf_firstSeen, hf_yew, hf_hq, hf_hirqLow, hf_laurel, hf_lanes,
                          hf_fpe, hf_map, hf_ports, hf_ring, hp_0, hp_4, hp_6, hp_24, hp_25, hp_27, hp_28, hall]⟩

theorem execStrokeForm_only {my : May} (t : Time) (s : State) (hf_now : Field.now ∈ my.fields) (hf_regs : Field.regs ∈
    my.fields) (hf_hirqLow : Field.hirqLow ∈ my.fields) (hf_lanes : Field.lanes ∈ my.fields) (hf_fpe : Field.fpe ∈
    my.fields) (hf_map : Field.map ∈ my.fields) (hf_ports : Field.ports ∈ my.fields) (hf_ring : Field.ring ∈ my.fields)
    (hp_8 : 8 ∈ my.pages) (hp_24 : 24 ∈ my.pages) (hp_25 : 25 ∈ my.pages) (hp_27 : 27 ∈ my.pages) (hall : ∀ n : LaneIx, n ∈
    my.lanes) : ∃ u, execStrokeForm t s = .next u ∧ Only my s u := by
  have hs := Only.refl my s
  unfold execStrokeForm
  dsimp only
  (repeat' split) <;> exact ⟨_, rfl, by simp +contextual (maxDischargeDepth := 99) [hs, hf_now, hf_regs, hf_hirqLow,
                          hf_lanes, hf_fpe, hf_map, hf_ports, hf_ring, hp_8, hp_24, hp_25, hp_27, hall]⟩

theorem execDecisionDigest_only {my : May} (t : Time) (dec : Word) (slots : Word) (s : State) (hf_now : Field.now ∈
    my.fields) (hf_regs : Field.regs ∈ my.fields) (hf_freeIdx : Field.freeIdx ∈ my.fields) (hf_yew : Field.yew ∈ my.fields)
    (hf_hirqLow : Field.hirqLow ∈ my.fields) (hf_laurel : Field.laurel ∈ my.fields) (hp_3 : 3 ∈ my.pages) (hp_6 : 6 ∈
    my.pages) (hp_24 : 24 ∈ my.pages) : ∃ u, execDecisionDigest t dec slots s = .next u ∧ Only my s u := by
  have hs := Only.refl my s
  unfold execDecisionDigest
  dsimp only
  (repeat' split) <;> exact ⟨_, rfl, by simp +contextual (maxDischargeDepth := 99) [hs, hf_now, hf_regs, hf_freeIdx, hf_yew,
                          hf_hirqLow, hf_laurel, hp_3, hp_6, hp_24]⟩

theorem execNoMotion_only {my : May} (t : Time) (j : GOut) (s : State) (hf_now : Field.now ∈ my.fields) (hf_regs :
    Field.regs ∈ my.fields) (hf_yew : Field.yew ∈ my.fields) (hf_hirqLow : Field.hirqLow ∈ my.fields) (hf_fpe : Field.fpe ∈
    my.fields) (hp_6 : 6 ∈ my.pages) (hp_24 : 24 ∈ my.pages) : ∃ u, execNoMotion t j s = .next u ∧ Only my s u := by
  have hs := Only.refl my s
  unfold execNoMotion
  dsimp only
  (repeat' split) <;> exact ⟨_, rfl, by simp +contextual (maxDischargeDepth := 99) [hs, hf_now, hf_regs, hf_yew, hf_hirqLow,
                          hf_fpe, hp_6, hp_24]⟩

theorem execRateSwap_only {my : May} (t : Time) (s : State) (hf_now : Field.now ∈ my.fields) (hf_regs : Field.regs ∈
    my.fields) (hf_fpe : Field.fpe ∈ my.fields) (hp_27 : 27 ∈ my.pages) : ∃ u, execRateSwap t s = .next u ∧ Only my s u :=
    by
  have hs := Only.refl my s
  unfold execRateSwap
  dsimp only
  (repeat' split) <;> exact ⟨_, rfl, by simp +contextual (maxDischargeDepth := 99) [hs, hf_now, hf_regs, hf_fpe, hp_27]⟩

theorem execHoldReoffer_only {my : May} (t : Time) (s : State) (hf_now : Field.now ∈ my.fields) (hf_regs : Field.regs ∈
    my.fields) (hf_lanes : Field.lanes ∈ my.fields) (hall : ∀ n : LaneIx, n ∈ my.lanes) : ∃ u, execHoldReoffer t s = .next u
    ∧ Only my s u := by
  have hs := Only.refl my s
  unfold execHoldReoffer
  dsimp only
  (repeat' split) <;> exact ⟨_, rfl, by simp +contextual (maxDischargeDepth := 99) [hs, hf_now, hf_regs, hf_lanes, hall]⟩

theorem execIdleFlit_only {my : May} (t : Time) (n : LaneIx) (d : Dir) (f : Flit) (s : State) (hf_now : Field.now ∈
    my.fields) (hf_regs : Field.regs ∈ my.fields) (hf_firstSeen : Field.firstSeen ∈ my.fields) (hf_yew : Field.yew ∈
    my.fields) (hf_hirqLow : Field.hirqLow ∈ my.fields) (hf_lanes : Field.lanes ∈ my.fields) (hf_eng : Field.eng ∈
    my.fields) (hf_fpe : Field.fpe ∈ my.fields) (hp_6 : 6 ∈ my.pages) (hp_28 : 28 ∈ my.pages) (hl_n : n ∈ my.lanes) : ∃ u,
    execIdleFlit t n d f s = .next u ∧ Only my s u := by
  have hs := Only.refl my s
  unfold execIdleFlit
  dsimp only
  (repeat' split) <;> exact ⟨_, rfl, by simp +contextual (maxDischargeDepth := 99) [hs, hf_now, hf_regs, hf_firstSeen,
                          hf_yew, hf_hirqLow, hf_lanes, hf_eng, hf_fpe, hp_6, hp_28, hl_n]⟩

theorem execPortIdle_only {my : May} (t : Time) (n : LaneIx) (f : Flit) (s : State) (hf_now : Field.now ∈ my.fields)
    (hf_regs : Field.regs ∈ my.fields) (hf_firstSeen : Field.firstSeen ∈ my.fields) (hf_yew : Field.yew ∈ my.fields)
    (hf_hirqLow : Field.hirqLow ∈ my.fields) (hf_lanes : Field.lanes ∈ my.fields) (hf_eng : Field.eng ∈ my.fields) (hp_6 : 6
    ∈ my.pages) (hp_28 : 28 ∈ my.pages) (hl_n : n ∈ my.lanes) : ∃ u, execPortIdle t n f s = .next u ∧ Only my s u := by
  have hs := Only.refl my s
  unfold execPortIdle
  dsimp only
  (repeat' split) <;> exact ⟨_, rfl, by simp +contextual (maxDischargeDepth := 99) [hs, hf_now, hf_regs, hf_firstSeen,
                          hf_yew, hf_hirqLow, hf_lanes, hf_eng, hp_6, hp_28, hl_n]⟩

theorem execNak_only {my : May} (t : Time) (n : LaneIx) (d : Dir) (f : Flit) (s : State) (hf_now : Field.now ∈ my.fields)
    (hf_regs : Field.regs ∈ my.fields) (hf_firstSeen : Field.firstSeen ∈ my.fields) (hf_yew : Field.yew ∈ my.fields)
    (hf_hirqLow : Field.hirqLow ∈ my.fields) (hf_lanes : Field.lanes ∈ my.fields) (hf_eng : Field.eng ∈ my.fields) (hf_fpe :
    Field.fpe ∈ my.fields) (hp_6 : 6 ∈ my.pages) (hp_28 : 28 ∈ my.pages) (hl_n : n ∈ my.lanes) : ∃ u, execNak t n d f s =
    .next u ∧ Only my s u := by
  have hs := Only.refl my s
  unfold execNak
  dsimp only
  (repeat' split) <;> exact ⟨_, rfl, by simp +contextual (maxDischargeDepth := 99) [hs, hf_now, hf_regs, hf_firstSeen,
                          hf_yew, hf_hirqLow, hf_lanes, hf_eng, hf_fpe, hp_6, hp_28, hl_n]⟩

theorem execEvtAck_only {my : May} (t : Time) (n : LaneIx) (f : Flit) (s : State) (hf_now : Field.now ∈ my.fields) (hf_regs
    : Field.regs ∈ my.fields) (hf_yew : Field.yew ∈ my.fields) (hf_hirqLow : Field.hirqLow ∈ my.fields) (hf_lanes :
    Field.lanes ∈ my.fields) (hf_fpe : Field.fpe ∈ my.fields) (hp_6 : 6 ∈ my.pages) (hp_28 : 28 ∈ my.pages) (hl_n : n ∈
    my.lanes) : ∃ u, execEvtAck t n f s = .next u ∧ Only my s u := by
  have hs := Only.refl my s
  unfold execEvtAck
  dsimp only
  (repeat' split) <;> exact ⟨_, rfl, by simp +contextual (maxDischargeDepth := 99) [hs, hf_now, hf_regs, hf_yew, hf_hirqLow,
                          hf_lanes, hf_fpe, hp_6, hp_28, hl_n]⟩

theorem execEvtFull_only {my : May} (t : Time) (n : LaneIx) (f : Flit) (s : State) (hf_now : Field.now ∈ my.fields) (hf_regs
    : Field.regs ∈ my.fields) (hf_yew : Field.yew ∈ my.fields) (hf_hirqLow : Field.hirqLow ∈ my.fields) (hf_lanes :
    Field.lanes ∈ my.fields) (hf_fpe : Field.fpe ∈ my.fields) (hp_6 : 6 ∈ my.pages) (hp_28 : 28 ∈ my.pages) (hl_n : n ∈
    my.lanes) : ∃ u, execEvtFull t n f s = .next u ∧ Only my s u := by
  have hs := Only.refl my s
  unfold execEvtFull
  dsimp only
  (repeat' split) <;> exact ⟨_, rfl, by simp +contextual (maxDischargeDepth := 99) [hs, hf_now, hf_regs, hf_yew, hf_hirqLow,
                          hf_lanes, hf_fpe, hp_6, hp_28, hl_n]⟩

theorem execFireReport_only {my : May} (t : Time) (n : LaneIx) (fs : List Flit) (s : State) (hf_now : Field.now ∈ my.fields)
    (hf_regs : Field.regs ∈ my.fields) (hf_yew : Field.yew ∈ my.fields) (hf_hirqLow : Field.hirqLow ∈ my.fields) (hf_lanes :
    Field.lanes ∈ my.fields) (hf_fpe : Field.fpe ∈ my.fields) (hp_6 : 6 ∈ my.pages) (hp_28 : 28 ∈ my.pages) (hl_n : n ∈
    my.lanes) : ∃ u, execFireReport t n fs s = .next u ∧ Only my s u := by
  have hs := Only.refl my s
  unfold execFireReport
  dsimp only
  (repeat' split) <;> exact ⟨_, rfl, by simp +contextual (maxDischargeDepth := 99) [hs, hf_now, hf_regs, hf_yew, hf_hirqLow,
                          hf_lanes, hf_fpe, hp_6, hp_28, hl_n]⟩

theorem execQclr_only {my : May} (t : Time) (n : LaneIx) (f : Flit) (s : State) (hf_now : Field.now ∈ my.fields) (hf_regs :
    Field.regs ∈ my.fields) (hf_yew : Field.yew ∈ my.fields) (hf_hirqLow : Field.hirqLow ∈ my.fields) (hf_lanes :
    Field.lanes ∈ my.fields) (hf_fpe : Field.fpe ∈ my.fields) (hp_6 : 6 ∈ my.pages) (hp_28 : 28 ∈ my.pages) (hl_n : n ∈
    my.lanes) : ∃ u, execQclr t n f s = .next u ∧ Only my s u := by
  have hs := Only.refl my s
  unfold execQclr
  dsimp only
  (repeat' split) <;> exact ⟨_, rfl, by simp +contextual (maxDischargeDepth := 99) [hs, hf_now, hf_regs, hf_yew, hf_hirqLow,
                          hf_lanes, hf_fpe, hp_6, hp_28, hl_n]⟩

theorem execMotion_only {my : May} (t : Time) (n : LaneIx) (fs : List Flit) (s : State) (hf_now : Field.now ∈ my.fields)
    (hf_regs : Field.regs ∈ my.fields) (hf_yew : Field.yew ∈ my.fields) (hf_hirqLow : Field.hirqLow ∈ my.fields) (hf_lanes :
    Field.lanes ∈ my.fields) (hf_fpe : Field.fpe ∈ my.fields) (hp_6 : 6 ∈ my.pages) (hp_28 : 28 ∈ my.pages) (hl_n : n ∈
    my.lanes) : ∃ u, execMotion t n fs s = .next u ∧ Only my s u := by
  have hs := Only.refl my s
  unfold execMotion
  dsimp only
  (repeat' split) <;> exact ⟨_, rfl, by simp +contextual (maxDischargeDepth := 99) [hs, hf_now, hf_regs, hf_yew, hf_hirqLow,
                          hf_lanes, hf_fpe, hp_6, hp_28, hl_n]⟩

theorem execDly_only {my : May} (t : Time) (n : LaneIx) (f : Flit) (s : State) (hf_now : Field.now ∈ my.fields) (hf_regs :
    Field.regs ∈ my.fields) (hf_yew : Field.yew ∈ my.fields) (hf_hirqLow : Field.hirqLow ∈ my.fields) (hf_lanes :
    Field.lanes ∈ my.fields) (hf_fpe : Field.fpe ∈ my.fields) (hp_6 : 6 ∈ my.pages) (hp_28 : 28 ∈ my.pages) (hl_n : n ∈
    my.lanes) : ∃ u, execDly t n f s = .next u ∧ Only my s u := by
  have hs := Only.refl my s
  unfold execDly
  dsimp only
  (repeat' split) <;> exact ⟨_, rfl, by simp +contextual (maxDischargeDepth := 99) [hs, hf_now, hf_regs, hf_yew, hf_hirqLow,
                          hf_lanes, hf_fpe, hp_6, hp_28, hl_n]⟩

theorem execPeakRpt_only {my : May} (t : Time) (n : LaneIx) (f : Flit) (s : State) (hf_now : Field.now ∈ my.fields) (hf_regs
    : Field.regs ∈ my.fields) (hf_yew : Field.yew ∈ my.fields) (hf_hirqLow : Field.hirqLow ∈ my.fields) (hf_lanes :
    Field.lanes ∈ my.fields) (hf_fpe : Field.fpe ∈ my.fields) (hp_6 : 6 ∈ my.pages) (hp_28 : 28 ∈ my.pages) (hl_n : n ∈
    my.lanes) : ∃ u, execPeakRpt t n f s = .next u ∧ Only my s u := by
  have hs := Only.refl my s
  unfold execPeakRpt
  dsimp only
  (repeat' split) <;> exact ⟨_, rfl, by simp +contextual (maxDischargeDepth := 99) [hs, hf_now, hf_regs, hf_yew, hf_hirqLow,
                          hf_lanes, hf_fpe, hp_6, hp_28, hl_n]⟩

theorem execGifClkCheck_only {my : May} (t : Time) (count : BitVec 17) (s : State) (hf_now : Field.now ∈ my.fields) (hf_regs
    : Field.regs ∈ my.fields) (hf_yew : Field.yew ∈ my.fields) (hf_hirqLow : Field.hirqLow ∈ my.fields) (hf_gnss :
    Field.gnss ∈ my.fields) (hp_6 : 6 ∈ my.pages) (hp_16 : 16 ∈ my.pages) (hp_17 : 17 ∈ my.pages) : ∃ u, execGifClkCheck t
    count s = .next u ∧ Only my s u := by
  have hs := Only.refl my s
  unfold execGifClkCheck
  dsimp only
  (repeat' split) <;> exact ⟨_, rfl, by simp +contextual (maxDischargeDepth := 99) [hs, hf_now, hf_regs, hf_yew, hf_hirqLow,
                          hf_gnss, hp_6, hp_16, hp_17]⟩

theorem execAgcUpdate_only {my : May} (t : Time) (l1 : IfCounts) (l5 : IfCounts) (s : State) (hf_now : Field.now ∈
    my.fields) (hf_regs : Field.regs ∈ my.fields) (hf_freeIdx : Field.freeIdx ∈ my.fields) (hf_yew : Field.yew ∈ my.fields)
    (hf_hirqLow : Field.hirqLow ∈ my.fields) (hf_gnss : Field.gnss ∈ my.fields) (hp_6 : 6 ∈ my.pages) (hp_16 : 16 ∈
    my.pages) (hp_17 : 17 ∈ my.pages) : ∃ u, execAgcUpdate t l1 l5 s = .next u ∧ Only my s u := by
  have hs := Only.refl my s
  unfold execAgcUpdate
  dsimp only
  (repeat' split) <;> exact ⟨_, rfl, by simp +contextual (maxDischargeDepth := 99) [hs, hf_now, hf_regs, hf_freeIdx, hf_yew,
                          hf_hirqLow, hf_gnss, hp_6, hp_16, hp_17]⟩

theorem execMeasurement_only {my : May} (t : Time) (ms : List ChanMeas) (asg : List ChanAssign) (o : ObsTime) (s : State)
    (hf_now : Field.now ∈ my.fields) (hf_regs : Field.regs ∈ my.fields) (hf_freeIdx : Field.freeIdx ∈ my.fields) (hf_yew :
    Field.yew ∈ my.fields) (hf_hq : Field.hq ∈ my.fields) (hf_hirqLow : Field.hirqLow ∈ my.fields) (hf_gnss : Field.gnss ∈
    my.fields) (hf_ports : Field.ports ∈ my.fields) (hf_ring : Field.ring ∈ my.fields) (hp_4 : 4 ∈ my.pages) (hp_6 : 6 ∈
    my.pages) (hp_16 : 16 ∈ my.pages) (hp_17 : 17 ∈ my.pages) : ∃ u, execMeasurement t ms asg o s = .next u ∧ Only my s u :=
    by
  have hs := Only.refl my s
  unfold execMeasurement
  dsimp only
  (repeat' split) <;> exact ⟨_, rfl, by simp +contextual (maxDischargeDepth := 99) [hs, hf_now, hf_regs, hf_freeIdx, hf_yew,
                          hf_hq, hf_hirqLow, hf_gnss, hf_ports, hf_ring, hp_4, hp_6, hp_16, hp_17]⟩

theorem execRtcmFrame_only {my : May} (t : Time) (s : State) (hf_now : Field.now ∈ my.fields) (hf_regs : Field.regs ∈
    my.fields) (hf_freeIdx : Field.freeIdx ∈ my.fields) (hf_firstSeen : Field.firstSeen ∈ my.fields) (hf_yew : Field.yew ∈
    my.fields) (hf_hq : Field.hq ∈ my.fields) (hf_cmpl : Field.cmpl ∈ my.fields) (hf_cmplWait : Field.cmplWait ∈ my.fields)
    (hf_hirqLow : Field.hirqLow ∈ my.fields) (hf_gnss : Field.gnss ∈ my.fields) (hp_4 : 4 ∈ my.pages) (hp_6 : 6 ∈ my.pages)
    (hp_16 : 16 ∈ my.pages) (hp_17 : 17 ∈ my.pages) : ∃ u, execRtcmFrame t s = .next u ∧ Only my s u := by
  have hs := Only.refl my s
  unfold execRtcmFrame
  dsimp only
  (repeat' split) <;> exact ⟨_, rfl, by simp +contextual (maxDischargeDepth := 99) [hs, hf_now, hf_regs, hf_freeIdx,
                          hf_firstSeen, hf_yew, hf_hq, hf_cmpl, hf_cmplWait, hf_hirqLow, hf_gnss, hp_4, hp_6, hp_16, hp_17]⟩

theorem execGnssLost_only {my : May} (t : Time) (h : Half) (s : State) (hf_now : Field.now ∈ my.fields) (hf_regs :
    Field.regs ∈ my.fields) (hf_yew : Field.yew ∈ my.fields) (hf_hirqLow : Field.hirqLow ∈ my.fields) (hf_gnss : Field.gnss
    ∈ my.fields) (hp_6 : 6 ∈ my.pages) (hp_16 : 16 ∈ my.pages) (hp_17 : 17 ∈ my.pages) : ∃ u, execGnssLost t h s = .next u ∧
    Only my s u := by
  have hs := Only.refl my s
  unfold execGnssLost
  dsimp only
  (repeat' split) <;> exact ⟨_, rfl, by simp +contextual (maxDischargeDepth := 99) [hs, hf_now, hf_regs, hf_yew, hf_hirqLow,
                          hf_gnss, hp_6, hp_16, hp_17]⟩

theorem execBurstStart_only {my : May} (t : Time) (s : State) (hf_now : Field.now ∈ my.fields) (hf_regs : Field.regs ∈
    my.fields) (hf_gnss : Field.gnss ∈ my.fields) (hp_16 : 16 ∈ my.pages) (hp_17 : 17 ∈ my.pages) : ∃ u, execBurstStart t s
    = .next u ∧ Only my s u := by
  have hs := Only.refl my s
  unfold execBurstStart
  dsimp only
  (repeat' split) <;> exact ⟨_, rfl, by simp +contextual (maxDischargeDepth := 99) [hs, hf_now, hf_regs, hf_gnss, hp_16,
                          hp_17]⟩

theorem execBurstEnd_only {my : May} (t : Time) (s : State) (hf_now : Field.now ∈ my.fields) (hf_regs : Field.regs ∈
    my.fields) (hf_gnss : Field.gnss ∈ my.fields) (hp_16 : 16 ∈ my.pages) (hp_17 : 17 ∈ my.pages) : ∃ u, execBurstEnd t s =
    .next u ∧ Only my s u := by
  have hs := Only.refl my s
  unfold execBurstEnd
  dsimp only
  (repeat' split) <;> exact ⟨_, rfl, by simp +contextual (maxDischargeDepth := 99) [hs, hf_now, hf_regs, hf_gnss, hp_16,
                          hp_17]⟩

theorem execTimeHoldover_only {my : May} (t : Time) (s : State) (hf_now : Field.now ∈ my.fields) (hf_regs : Field.regs ∈
    my.fields) (hf_yew : Field.yew ∈ my.fields) (hf_hirqLow : Field.hirqLow ∈ my.fields) (hf_time : Field.time ∈ my.fields)
    (hp_6 : 6 ∈ my.pages) (hp_18 : 18 ∈ my.pages) : ∃ u, execTimeHoldover t s = .next u ∧ Only my s u := by
  have hs := Only.refl my s
  unfold execTimeHoldover
  dsimp only
  (repeat' split) <;> exact ⟨_, rfl, by simp +contextual (maxDischargeDepth := 99) [hs, hf_now, hf_regs, hf_yew, hf_hirqLow,
                          hf_time, hp_6, hp_18]⟩

theorem execTimeExpired_only {my : May} (t : Time) (s : State) (hf_now : Field.now ∈ my.fields) (hf_regs : Field.regs ∈
    my.fields) (hf_yew : Field.yew ∈ my.fields) (hf_hirqLow : Field.hirqLow ∈ my.fields) (hf_time : Field.time ∈ my.fields)
    (hp_6 : 6 ∈ my.pages) (hp_18 : 18 ∈ my.pages) : ∃ u, execTimeExpired t s = .next u ∧ Only my s u := by
  have hs := Only.refl my s
  unfold execTimeExpired
  dsimp only
  (repeat' split) <;> exact ⟨_, rfl, by simp +contextual (maxDischargeDepth := 99) [hs, hf_now, hf_regs, hf_yew, hf_hirqLow,
                          hf_time, hp_6, hp_18]⟩

theorem execPulsePrepare_only {my : May} (t : Time) (s : State) (hf_now : Field.now ∈ my.fields) (hf_regs : Field.regs ∈
    my.fields) (hf_yew : Field.yew ∈ my.fields) (hf_hirqLow : Field.hirqLow ∈ my.fields) (hf_time : Field.time ∈ my.fields)
    (hp_6 : 6 ∈ my.pages) (hp_18 : 18 ∈ my.pages) : ∃ u, execPulsePrepare t s = .next u ∧ Only my s u := by
  have hs := Only.refl my s
  unfold execPulsePrepare
  dsimp only
  (repeat' split) <;> exact ⟨_, rfl, by simp +contextual (maxDischargeDepth := 99) [hs, hf_now, hf_regs, hf_yew, hf_hirqLow,
                          hf_time, hp_6, hp_18]⟩

theorem execGnssSolution_only {my : May} (t : Time) (h : Half) (sol : Solution) (ts : Option TimeSol) (s : State) (hf_now :
    Field.now ∈ my.fields) (hf_regs : Field.regs ∈ my.fields) (hf_yew : Field.yew ∈ my.fields) (hf_hq : Field.hq ∈
    my.fields) (hf_hirqLow : Field.hirqLow ∈ my.fields) (hf_pose : Field.pose ∈ my.fields) (hf_gnss : Field.gnss ∈
    my.fields) (hf_time : Field.time ∈ my.fields) (hf_ports : Field.ports ∈ my.fields) (hf_ring : Field.ring ∈ my.fields)
    (hp_4 : 4 ∈ my.pages) (hp_6 : 6 ∈ my.pages) (hp_16 : 16 ∈ my.pages) (hp_17 : 17 ∈ my.pages) (hp_18 : 18 ∈ my.pages) : ∃
    u, execGnssSolution t h sol ts s = .next u ∧ Only my s u := by
  have hs := Only.refl my s
  unfold execGnssSolution
  dsimp only
  (repeat' split) <;> exact ⟨_, rfl, by simp +contextual (maxDischargeDepth := 99) [hs, hf_now, hf_regs, hf_yew, hf_hq,
                          hf_hirqLow, hf_pose, hf_gnss, hf_time, hf_ports, hf_ring, hp_4, hp_6, hp_16, hp_17, hp_18]⟩

theorem execTpulse_only {my : May} (t : Time) (s : State) (hf_now : Field.now ∈ my.fields) (hf_regs : Field.regs ∈
    my.fields) (hf_hirqLow : Field.hirqLow ∈ my.fields) (hf_time : Field.time ∈ my.fields) (hp_18 : 18 ∈ my.pages) : ∃ u,
    execTpulse t s = .next u ∧ Only my s u := by
  have hs := Only.refl my s
  unfold execTpulse
  dsimp only
  (repeat' split) <;> exact ⟨_, rfl, by simp +contextual (maxDischargeDepth := 99) [hs, hf_now, hf_regs, hf_hirqLow,
                          hf_time, hp_18]⟩

theorem execTpulseB_only {my : May} (t : Time) (s : State) (hf_now : Field.now ∈ my.fields) (hf_time : Field.time ∈
    my.fields) : ∃ u, execTpulseB t s = .next u ∧ Only my s u := by
  have hs := Only.refl my s
  unfold execTpulseB
  dsimp only
  (repeat' split) <;> exact ⟨_, rfl, by simp +contextual (maxDischargeDepth := 99) [hs, hf_now, hf_time]⟩

theorem execHeartbeatSend_only {my : May} (t : Time) (h : Half) (s : State) (hf_now : Field.now ∈ my.fields) (hf_laurel :
    Field.laurel ∈ my.fields) : ∃ u, execHeartbeatSend t h s = .next u ∧ Only my s u := by
  have hs := Only.refl my s
  unfold execHeartbeatSend
  dsimp only
  (repeat' split) <;> exact ⟨_, rfl, by simp +contextual (maxDischargeDepth := 99) [hs, hf_now, hf_laurel]⟩

theorem execHeartbeatCheck_only {my : May} (t : Time) (h : Half) (arr : HbArrivals) (s : State) (hf_now : Field.now ∈
    my.fields) (hf_regs : Field.regs ∈ my.fields) (hf_laurel : Field.laurel ∈ my.fields) (hp_3 : 3 ∈ my.pages) : ∃ u,
    execHeartbeatCheck t h arr s = .next u ∧ Only my s u := by
  have hs := Only.refl my s
  unfold execHeartbeatCheck
  dsimp only
  (repeat' split) <;> exact ⟨_, rfl, by simp +contextual (maxDischargeDepth := 99) [hs, hf_now, hf_regs, hf_laurel, hp_3]⟩

theorem execHeartbeatLoss_only {my : May} (t : Time) (h : Half) (s : State) (hf_now : Field.now ∈ my.fields) (hf_regs :
    Field.regs ∈ my.fields) (hf_yew : Field.yew ∈ my.fields) (hf_hirqLow : Field.hirqLow ∈ my.fields) (hf_laurel :
    Field.laurel ∈ my.fields) (hf_gnss : Field.gnss ∈ my.fields) (hp_3 : 3 ∈ my.pages) (hp_6 : 6 ∈ my.pages) : ∃ u,
    execHeartbeatLoss t h s = .next u ∧ Only my s u := by
  have hs := Only.refl my s
  unfold execHeartbeatLoss
  dsimp only
  (repeat' split) <;> exact ⟨_, rfl, by simp +contextual (maxDischargeDepth := 99) [hs, hf_now, hf_regs, hf_yew, hf_hirqLow,
                          hf_laurel, hf_gnss, hp_3, hp_6]⟩

theorem execSelfFault_only {my : May} (t : Time) (h : Half) (s : State) (hf_now : Field.now ∈ my.fields) (hf_laurel :
    Field.laurel ∈ my.fields) : ∃ u, execSelfFault t h s = .next u ∧ Only my s u := by
  have hs := Only.refl my s
  unfold execSelfFault
  dsimp only
  (repeat' split) <;> exact ⟨_, rfl, by simp +contextual (maxDischargeDepth := 99) [hs, hf_now, hf_laurel]⟩

theorem execTokenCopyError_only {my : May} (t : Time) (c0 : TokenCopy) (c1 : TokenCopy) (c2 : TokenCopy) (s : State) (hf_now
    : Field.now ∈ my.fields) (hf_regs : Field.regs ∈ my.fields) (hf_freeIdx : Field.freeIdx ∈ my.fields) (hf_firstSeen :
    Field.firstSeen ∈ my.fields) (hf_yew : Field.yew ∈ my.fields) (hf_hirqLow : Field.hirqLow ∈ my.fields) (hf_laurel :
    Field.laurel ∈ my.fields) (hp_3 : 3 ∈ my.pages) (hp_6 : 6 ∈ my.pages) : ∃ u, execTokenCopyError t c0 c1 c2 s = .next u ∧
    Only my s u := by
  have hs := Only.refl my s
  unfold execTokenCopyError
  dsimp only
  (repeat' split) <;> exact ⟨_, rfl, by simp +contextual (maxDischargeDepth := 99) [hs, hf_now, hf_regs, hf_freeIdx,
                          hf_firstSeen, hf_yew, hf_hirqLow, hf_laurel, hp_3, hp_6]⟩

theorem execClaim_only {my : May} (t : Time) (s : State) (hf_now : Field.now ∈ my.fields) (hf_regs : Field.regs ∈ my.fields)
    (hf_freeIdx : Field.freeIdx ∈ my.fields) (hf_firstSeen : Field.firstSeen ∈ my.fields) (hf_yew : Field.yew ∈ my.fields)
    (hf_cmpl : Field.cmpl ∈ my.fields) (hf_cmplWait : Field.cmplWait ∈ my.fields) (hf_hirqLow : Field.hirqLow ∈ my.fields)
    (hf_mbox : Field.mbox ∈ my.fields) (hf_nor : Field.nor ∈ my.fields) (hf_laurel : Field.laurel ∈ my.fields) (hf_lanes :
    Field.lanes ∈ my.fields) (hf_pose : Field.pose ∈ my.fields) (hf_gnss : Field.gnss ∈ my.fields) (hf_ports : Field.ports ∈
    my.fields) (hf_ring : Field.ring ∈ my.fields) (hp_3 : 3 ∈ my.pages) (hp_4 : 4 ∈ my.pages) (hp_5 : 5 ∈ my.pages) (hp_6 :
    6 ∈ my.pages) (hp_7 : 7 ∈ my.pages) (hall : ∀ n : LaneIx, n ∈ my.lanes) : ∃ u, execClaim t s = .next u ∧ Only my s u :=
    by
  have hs := Only.refl my s
  unfold execClaim
  dsimp only
  (repeat' split) <;> exact ⟨_, rfl, by simp +contextual (maxDischargeDepth := 99) [hs, hf_now, hf_regs, hf_freeIdx,
                          hf_firstSeen, hf_yew, hf_cmpl, hf_cmplWait, hf_hirqLow, hf_mbox, hf_nor, hf_laurel, hf_lanes,
                          hf_pose, hf_gnss, hf_ports, hf_ring, hp_3, hp_4, hp_5, hp_6, hp_7, hall]⟩

theorem execConflictEnd_only {my : May} (t : Time) (s : State) (hf_now : Field.now ∈ my.fields) (hf_regs : Field.regs ∈
    my.fields) (hf_freeIdx : Field.freeIdx ∈ my.fields) (hf_firstSeen : Field.firstSeen ∈ my.fields) (hf_yew : Field.yew ∈
    my.fields) (hf_cmpl : Field.cmpl ∈ my.fields) (hf_cmplWait : Field.cmplWait ∈ my.fields) (hf_hirqLow : Field.hirqLow ∈
    my.fields) (hf_mbox : Field.mbox ∈ my.fields) (hf_nor : Field.nor ∈ my.fields) (hf_laurel : Field.laurel ∈ my.fields)
    (hf_lanes : Field.lanes ∈ my.fields) (hf_pose : Field.pose ∈ my.fields) (hf_gnss : Field.gnss ∈ my.fields) (hf_ports :
    Field.ports ∈ my.fields) (hf_ring : Field.ring ∈ my.fields) (hp_3 : 3 ∈ my.pages) (hp_4 : 4 ∈ my.pages) (hp_5 : 5 ∈
    my.pages) (hp_6 : 6 ∈ my.pages) (hp_7 : 7 ∈ my.pages) (hall : ∀ n : LaneIx, n ∈ my.lanes) : ∃ u, execConflictEnd t s =
    .next u ∧ Only my s u := by
  have hs := Only.refl my s
  unfold execConflictEnd
  dsimp only
  (repeat' split) <;> exact ⟨_, rfl, by simp +contextual (maxDischargeDepth := 99) [hs, hf_now, hf_regs, hf_freeIdx,
                          hf_firstSeen, hf_yew, hf_cmpl, hf_cmplWait, hf_hirqLow, hf_mbox, hf_nor, hf_laurel, hf_lanes,
                          hf_pose, hf_gnss, hf_ports, hf_ring, hp_3, hp_4, hp_5, hp_6, hp_7, hall]⟩

theorem execTakeover_only {my : May} (t : Time) (s : State) (hf_now : Field.now ∈ my.fields) (hf_regs : Field.regs ∈
    my.fields) (hf_ctrlDue : Field.ctrlDue ∈ my.fields) (hf_yew : Field.yew ∈ my.fields) (hf_hirqLow : Field.hirqLow ∈
    my.fields) (hf_laurel : Field.laurel ∈ my.fields) (hf_lanes : Field.lanes ∈ my.fields) (hf_trav : Field.trav ∈
    my.fields) (hf_fpe : Field.fpe ∈ my.fields) (hp_3 : 3 ∈ my.pages) (hp_6 : 6 ∈ my.pages) (hp_28 : 28 ∈ my.pages) (hall :
    ∀ n : LaneIx, n ∈ my.lanes) : ∃ u, execTakeover t s = .next u ∧ Only my s u := by
  have hs := Only.refl my s
  unfold execTakeover
  dsimp only
  split
  · split
    · refine ⟨_, rfl, ?_⟩
      split <;> simp +contextual (maxDischargeDepth := 99) [hs, hf_now, hf_regs, hf_ctrlDue, hf_yew, hf_hirqLow, hf_laurel, hf_lanes, hf_trav, hf_fpe, hp_3, hp_6, hp_28, hall]
    · exact ⟨_, rfl, by simp +contextual (maxDischargeDepth := 99) [hs, hf_now, hf_regs, hf_ctrlDue, hf_yew, hf_hirqLow,
        hf_laurel, hf_lanes, hf_trav, hf_fpe, hp_3, hp_6, hp_28, hall]⟩
  · exact ⟨_, rfl, by simp +contextual (maxDischargeDepth := 99) [hs, hf_now, hf_regs, hf_ctrlDue, hf_yew, hf_hirqLow,
      hf_laurel, hf_lanes, hf_trav, hf_fpe, hp_3, hp_6, hp_28, hall]⟩

theorem execHandover_only {my : May} (t : Time) (s : State) (hf_now : Field.now ∈ my.fields) (hf_regs : Field.regs ∈
    my.fields) (hf_laurel : Field.laurel ∈ my.fields) (hp_3 : 3 ∈ my.pages) : ∃ u, execHandover t s = .next u ∧ Only my s u
    := by
  have hs := Only.refl my s
  unfold execHandover
  dsimp only
  (repeat' split) <;> exact ⟨_, rfl, by simp +contextual (maxDischargeDepth := 99) [hs, hf_now, hf_regs, hf_laurel, hp_3]⟩

theorem execXchkIdentify_only {my : May} (t : Time) (okA : Bool) (okB : Bool) (s : State) (hf_now : Field.now ∈ my.fields)
    (hf_regs : Field.regs ∈ my.fields) (hf_yew : Field.yew ∈ my.fields) (hf_hirqLow : Field.hirqLow ∈ my.fields) (hf_laurel
    : Field.laurel ∈ my.fields) (hf_gnss : Field.gnss ∈ my.fields) (hp_3 : 3 ∈ my.pages) (hp_6 : 6 ∈ my.pages) : ∃ u,
    execXchkIdentify t okA okB s = .next u ∧ Only my s u := by
  have hs := Only.refl my s
  unfold execXchkIdentify
  dsimp only
  (repeat' split) <;> exact ⟨_, rfl, by simp +contextual (maxDischargeDepth := 99) [hs, hf_now, hf_regs, hf_yew, hf_hirqLow,
                          hf_laurel, hf_gnss, hp_3, hp_6]⟩

theorem execSuspectClear_only {my : May} (t : Time) (s : State) (hf_now : Field.now ∈ my.fields) (hf_laurel : Field.laurel ∈
    my.fields) : ∃ u, execSuspectClear t s = .next u ∧ Only my s u := by
  have hs := Only.refl my s
  unfold execSuspectClear
  dsimp only
  (repeat' split) <;> exact ⟨_, rfl, by simp +contextual (maxDischargeDepth := 99) [hs, hf_now, hf_laurel]⟩

theorem execKatNow_only {my : May} (t : Time) (okA : Bool) (okB : Bool) (s : State) (hf_now : Field.now ∈ my.fields)
    (hf_regs : Field.regs ∈ my.fields) (hf_freeIdx : Field.freeIdx ∈ my.fields) (hf_yew : Field.yew ∈ my.fields) (hf_hirqLow
    : Field.hirqLow ∈ my.fields) (hf_laurel : Field.laurel ∈ my.fields) (hf_gnss : Field.gnss ∈ my.fields) (hp_3 : 3 ∈
    my.pages) (hp_6 : 6 ∈ my.pages) : ∃ u, execKatNow t okA okB s = .next u ∧ Only my s u := by
  have hs := Only.refl my s
  unfold execKatNow
  dsimp only
  (repeat' split) <;> exact ⟨_, rfl, by simp +contextual (maxDischargeDepth := 99) [hs, hf_now, hf_regs, hf_freeIdx, hf_yew,
                          hf_hirqLow, hf_laurel, hf_gnss, hp_3, hp_6]⟩

theorem execKatPeriodic_only {my : May} (t : Time) (okA : Bool) (okB : Bool) (s : State) (hf_now : Field.now ∈ my.fields)
    (hf_regs : Field.regs ∈ my.fields) (hf_freeIdx : Field.freeIdx ∈ my.fields) (hf_yew : Field.yew ∈ my.fields) (hf_hirqLow
    : Field.hirqLow ∈ my.fields) (hf_laurel : Field.laurel ∈ my.fields) (hf_gnss : Field.gnss ∈ my.fields) (hp_3 : 3 ∈
    my.pages) (hp_6 : 6 ∈ my.pages) : ∃ u, execKatPeriodic t okA okB s = .next u ∧ Only my s u := by
  have hs := Only.refl my s
  unfold execKatPeriodic
  dsimp only
  (repeat' split) <;> exact ⟨_, rfl, by simp +contextual (maxDischargeDepth := 99) [hs, hf_now, hf_regs, hf_freeIdx, hf_yew,
                          hf_hirqLow, hf_laurel, hf_gnss, hp_3, hp_6]⟩

theorem execRejoin_only {my : May} (t : Time) (h : Half) (s : State) (hf_now : Field.now ∈ my.fields) (hf_regs : Field.regs
    ∈ my.fields) (hf_yew : Field.yew ∈ my.fields) (hf_laurel : Field.laurel ∈ my.fields) (hp_3 : 3 ∈ my.pages) : ∃ u,
    execRejoin t h s = .next u ∧ Only my s u := by
  have hs := Only.refl my s
  unfold execRejoin
  dsimp only
  (repeat' split) <;> exact ⟨_, rfl, by simp +contextual (maxDischargeDepth := 99) [hs, hf_now, hf_regs, hf_yew, hf_laurel,
                          hp_3]⟩

theorem execRejoinDone_only {my : May} (t : Time) (h : Half) (ok : Bool) (s : State) (hf_now : Field.now ∈ my.fields)
    (hf_regs : Field.regs ∈ my.fields) (hf_freeIdx : Field.freeIdx ∈ my.fields) (hf_yew : Field.yew ∈ my.fields) (hf_hirqLow
    : Field.hirqLow ∈ my.fields) (hf_laurel : Field.laurel ∈ my.fields) (hf_gnss : Field.gnss ∈ my.fields) (hf_map :
    Field.map ∈ my.fields) (hp_3 : 3 ∈ my.pages) (hp_6 : 6 ∈ my.pages) : ∃ u, execRejoinDone t h ok s = .next u ∧ Only my s
    u := by
  have hs := Only.refl my s
  unfold execRejoinDone
  dsimp only
  (repeat' split) <;> exact ⟨_, rfl, by simp +contextual (maxDischargeDepth := 99) [hs, hf_now, hf_regs, hf_freeIdx, hf_yew,
                          hf_hirqLow, hf_laurel, hf_gnss, hf_map, hp_3, hp_6]⟩

theorem execFence_only {my : May} (t : Time) (v : Word) (s : State) (hf_now : Field.now ∈ my.fields) (hf_regs : Field.regs ∈
    my.fields) (hf_held : Field.held ∈ my.fields) (hf_yew : Field.yew ∈ my.fields) (hf_hirqLow : Field.hirqLow ∈ my.fields)
    (hf_lanes : Field.lanes ∈ my.fields) (hf_banks : Field.banks ∈ my.fields) (hf_pwm : Field.pwm ∈ my.fields) (hf_eng :
    Field.eng ∈ my.fields) (hf_fbk : Field.fbk ∈ my.fields) (hf_fpe : Field.fpe ∈ my.fields) (hp_0 : 0 ∈ my.pages) (hp_6 : 6
    ∈ my.pages) (hall : ∀ n : LaneIx, n ∈ my.lanes) : ∃ u, execFence t v s = .next u ∧ Only my s u := by
  have hs := Only.refl my s
  unfold execFence
  dsimp only
  (repeat' split) <;> exact ⟨_, rfl, by simp +contextual (maxDischargeDepth := 99) [hs, hf_now, hf_regs, hf_held, hf_yew,
                          hf_hirqLow, hf_lanes, hf_banks, hf_pwm, hf_eng, hf_fbk, hf_fpe, hp_0, hp_6, hall]⟩

theorem execLaneSelfFail_only {my : May} (t : Time) (n : LaneIx) (test : BitVec 16) (s : State) (hf_now : Field.now ∈
    my.fields) (hf_regs : Field.regs ∈ my.fields) (hf_held : Field.held ∈ my.fields) (hf_yew : Field.yew ∈ my.fields)
    (hf_hirqLow : Field.hirqLow ∈ my.fields) (hf_lanes : Field.lanes ∈ my.fields) (hf_banks : Field.banks ∈ my.fields)
    (hf_pwm : Field.pwm ∈ my.fields) (hf_eng : Field.eng ∈ my.fields) (hf_fbk : Field.fbk ∈ my.fields) (hf_fpe : Field.fpe ∈
    my.fields) (hp_0 : 0 ∈ my.pages) (hp_6 : 6 ∈ my.pages) (hl_n : n ∈ my.lanes) : ∃ u, execLaneSelfFail t n test s = .next
    u ∧ Only my s u := by
  have hs := Only.refl my s
  unfold execLaneSelfFail
  dsimp only
  (repeat' split) <;> exact ⟨_, rfl, by simp +contextual (maxDischargeDepth := 99) [hs, hf_now, hf_regs, hf_held, hf_yew,
                          hf_hirqLow, hf_lanes, hf_banks, hf_pwm, hf_eng, hf_fbk, hf_fpe, hp_0, hp_6, hl_n]⟩

theorem execAutofence_only {my : May} (t : Time) (n : LaneIx) (s : State) (hf_now : Field.now ∈ my.fields) (hf_regs :
    Field.regs ∈ my.fields) (hf_held : Field.held ∈ my.fields) (hf_yew : Field.yew ∈ my.fields) (hf_hirqLow : Field.hirqLow
    ∈ my.fields) (hf_lanes : Field.lanes ∈ my.fields) (hf_banks : Field.banks ∈ my.fields) (hf_pwm : Field.pwm ∈ my.fields)
    (hf_eng : Field.eng ∈ my.fields) (hf_fbk : Field.fbk ∈ my.fields) (hf_fpe : Field.fpe ∈ my.fields) (hp_0 : 0 ∈ my.pages)
    (hp_6 : 6 ∈ my.pages) (hl_n : n ∈ my.lanes) : ∃ u, execAutofence t n s = .next u ∧ Only my s u := by
  have hs := Only.refl my s
  unfold execAutofence
  dsimp only
  (repeat' split) <;> exact ⟨_, rfl, by simp +contextual (maxDischargeDepth := 99) [hs, hf_now, hf_regs, hf_held, hf_yew,
                          hf_hirqLow, hf_lanes, hf_banks, hf_pwm, hf_eng, hf_fbk, hf_fpe, hp_0, hp_6, hl_n]⟩

theorem execSeal_only {my : May} (t : Time) (crc : Word) (s : State) (hf_now : Field.now ∈ my.fields) (hf_regs : Field.regs
    ∈ my.fields) (hf_checking : Field.checking ∈ my.fields) (hf_sealExp : Field.sealExp ∈ my.fields) (hf_sealSnap :
    Field.sealSnap ∈ my.fields) (hf_sealFail : Field.sealFail ∈ my.fields) (hp_0 : 0 ∈ my.pages) : ∃ u, execSeal t crc s =
    .next u ∧ Only my s u := by
  have hs := Only.refl my s
  unfold execSeal
  dsimp only
  (repeat' split) <;> exact ⟨_, rfl, by simp +contextual (maxDischargeDepth := 99) [hs, hf_now, hf_regs, hf_checking,
                          hf_sealExp, hf_sealSnap, hf_sealFail, hp_0]⟩

theorem execSealDone_only {my : May} (t : Time) (retrain : BitVec 16) (s : State) (hf_now : Field.now ∈ my.fields) (hf_dev :
    Field.dev ∈ my.fields) (hf_prev : Field.prev ∈ my.fields) (hf_devAt : Field.devAt ∈ my.fields) (hf_devLog : Field.devLog
    ∈ my.fields) (hf_regs : Field.regs ∈ my.fields) (hf_held : Field.held ∈ my.fields) (hf_idleDrain : Field.idleDrain ∈
    my.fields) (hf_checking : Field.checking ∈ my.fields) (hf_yew : Field.yew ∈ my.fields) (hf_hirqLow : Field.hirqLow ∈
    my.fields) (hf_lanes : Field.lanes ∈ my.fields) (hf_banks : Field.banks ∈ my.fields) (hf_pwm : Field.pwm ∈ my.fields)
    (hf_eng : Field.eng ∈ my.fields) (hf_fbk : Field.fbk ∈ my.fields) (hf_fpe : Field.fpe ∈ my.fields) (hp_0 : 0 ∈ my.pages)
    (hp_6 : 6 ∈ my.pages) (hall : ∀ n : LaneIx, n ∈ my.lanes) (hany : (∀ a, my.reg a) ∧ ∀ p, my.page p) : ∃ u, execSealDone
    t retrain s = .next u ∧ Only my s u := by
  have hs := Only.refl my s
  unfold execSealDone
  dsimp only
  (repeat' split) <;> exact ⟨_, rfl, by simp +contextual (maxDischargeDepth := 99) [hs, hf_now, hf_dev, hf_prev, hf_devAt,
                          hf_devLog, hf_regs, hf_held, hf_idleDrain, hf_checking, hf_yew, hf_hirqLow, hf_lanes, hf_banks,
                          hf_pwm, hf_eng, hf_fbk, hf_fpe, hp_0, hp_6, hall, hany]⟩

theorem execPorstNRise_only {my : May} (t : Time) (straps : BitVec 4) (lockUs : BitVec 16) (s : State) (hf_now : Field.now ∈
    my.fields) (hf_dev : Field.dev ∈ my.fields) (hf_prev : Field.prev ∈ my.fields) (hf_devAt : Field.devAt ∈ my.fields)
    (hf_devLog : Field.devLog ∈ my.fields) (hf_regs : Field.regs ∈ my.fields) (hf_yew : Field.yew ∈ my.fields) (hf_hirqLow :
    Field.hirqLow ∈ my.fields) (hf_ring : Field.ring ∈ my.fields) (hp_0 : 0 ∈ my.pages) (hp_1 : 1 ∈ my.pages) (hp_6 : 6 ∈
    my.pages) : ∃ u, execPorstNRise t straps lockUs s = .next u ∧ Only my s u := by
  have hs := Only.refl my s
  unfold execPorstNRise
  dsimp only
  (repeat' split) <;> exact ⟨_, rfl, by simp +contextual (maxDischargeDepth := 99) [hs, hf_now, hf_dev, hf_prev, hf_devAt,
                          hf_devLog, hf_regs, hf_yew, hf_hirqLow, hf_ring, hp_0, hp_1, hp_6]⟩

theorem execBootExit_only {my : May} (t : Time) (r : BootResult) (s : State) (hf_now : Field.now ∈ my.fields) (hf_dev :
    Field.dev ∈ my.fields) (hf_prev : Field.prev ∈ my.fields) (hf_devAt : Field.devAt ∈ my.fields) (hf_devLog : Field.devLog
    ∈ my.fields) (hf_regs : Field.regs ∈ my.fields) (hf_held : Field.held ∈ my.fields) (hf_freeIdx : Field.freeIdx ∈
    my.fields) (hf_idleDrain : Field.idleDrain ∈ my.fields) (hf_patchOk : Field.patchOk ∈ my.fields) (hf_checking :
    Field.checking ∈ my.fields) (hf_romFail : Field.romFail ∈ my.fields) (hf_yew : Field.yew ∈ my.fields) (hf_yewPort :
    Field.yewPort ∈ my.fields) (hf_hirqLow : Field.hirqLow ∈ my.fields) (hf_nor : Field.nor ∈ my.fields) (hf_laurel :
    Field.laurel ∈ my.fields) (hf_lanes : Field.lanes ∈ my.fields) (hf_banks : Field.banks ∈ my.fields) (hf_pwm : Field.pwm
    ∈ my.fields) (hf_eng : Field.eng ∈ my.fields) (hf_fbk : Field.fbk ∈ my.fields) (hf_imu : Field.imu ∈ my.fields) (hf_fpe
    : Field.fpe ∈ my.fields) (hf_gnss : Field.gnss ∈ my.fields) (hf_ports : Field.ports ∈ my.fields) (hf_ring : Field.ring ∈
    my.fields) (hp_0 : 0 ∈ my.pages) (hp_1 : 1 ∈ my.pages) (hp_3 : 3 ∈ my.pages) (hp_6 : 6 ∈ my.pages) (hp_7 : 7 ∈ my.pages)
    (hp_8 : 8 ∈ my.pages) (hp_9 : 9 ∈ my.pages) (hp_19 : 19 ∈ my.pages) (hall : ∀ n : LaneIx, n ∈ my.lanes) (hany : (∀ a,
    my.reg a) ∧ ∀ p, my.page p) : ∃ u, execBootExit t r s = .next u ∧ Only my s u := by
  have hs := Only.refl my s
  unfold execBootExit
  dsimp only
  (repeat' split) <;> exact ⟨_, rfl, by simp +contextual (maxDischargeDepth := 99) [hs, hf_now, hf_dev, hf_prev, hf_devAt,
                          hf_devLog, hf_regs, hf_held, hf_freeIdx, hf_idleDrain, hf_patchOk, hf_checking, hf_romFail,
                          hf_yew, hf_yewPort, hf_hirqLow, hf_nor, hf_laurel, hf_lanes, hf_banks, hf_pwm, hf_eng, hf_fbk,
                          hf_imu, hf_fpe, hf_gnss, hf_ports, hf_ring, hp_0, hp_1, hp_3, hp_6, hp_7, hp_8, hp_9, hp_19, hall,
                          hany]⟩

theorem execArm_only {my : May} (t : Time) (s : State) (hf_now : Field.now ∈ my.fields) (hf_dev : Field.dev ∈ my.fields)
    (hf_prev : Field.prev ∈ my.fields) (hf_devAt : Field.devAt ∈ my.fields) (hf_devLog : Field.devLog ∈ my.fields) (hf_regs
    : Field.regs ∈ my.fields) (hf_idleDrain : Field.idleDrain ∈ my.fields) (hf_yew : Field.yew ∈ my.fields) (hf_hirqLow :
    Field.hirqLow ∈ my.fields) (hf_lanes : Field.lanes ∈ my.fields) (hf_pwm : Field.pwm ∈ my.fields) (hf_pose : Field.pose ∈
    my.fields) (hf_trav : Field.trav ∈ my.fields) (hf_fpe : Field.fpe ∈ my.fields) (hp_0 : 0 ∈ my.pages) (hp_6 : 6 ∈
    my.pages) (hp_26 : 26 ∈ my.pages) (hall : ∀ n : LaneIx, n ∈ my.lanes) : ∃ u, execArm t s = .next u ∧ Only my s u := by
  have hs := Only.refl my s
  unfold execArm
  dsimp only
  (repeat' split) <;> exact ⟨_, rfl, by simp +contextual (maxDischargeDepth := 99) [hs, hf_now, hf_dev, hf_prev, hf_devAt,
                          hf_devLog, hf_regs, hf_idleDrain, hf_yew, hf_hirqLow, hf_lanes, hf_pwm, hf_pose, hf_trav, hf_fpe,
                          hp_0, hp_6, hp_26, hall]⟩

theorem execDisarm_only {my : May} (t : Time) (s : State) (hf_now : Field.now ∈ my.fields) (hf_dev : Field.dev ∈ my.fields)
    (hf_prev : Field.prev ∈ my.fields) (hf_devAt : Field.devAt ∈ my.fields) (hf_devLog : Field.devLog ∈ my.fields) (hf_regs
    : Field.regs ∈ my.fields) (hf_idleDrain : Field.idleDrain ∈ my.fields) (hf_ctrlDue : Field.ctrlDue ∈ my.fields) (hf_yew
    : Field.yew ∈ my.fields) (hf_hirqLow : Field.hirqLow ∈ my.fields) (hf_lanes : Field.lanes ∈ my.fields) (hp_0 : 0 ∈
    my.pages) (hp_6 : 6 ∈ my.pages) (hall : ∀ n : LaneIx, n ∈ my.lanes) : ∃ u, execDisarm t s = .next u ∧ Only my s u := by
  have hs := Only.refl my s
  unfold execDisarm
  dsimp only
  (repeat' split) <;> exact ⟨_, rfl, by simp +contextual (maxDischargeDepth := 99) [hs, hf_now, hf_dev, hf_prev, hf_devAt,
                          hf_devLog, hf_regs, hf_idleDrain, hf_ctrlDue, hf_yew, hf_hirqLow, hf_lanes, hp_0, hp_6, hall]⟩

theorem execUnseal_only {my : May} (t : Time) (s : State) (hf_now : Field.now ∈ my.fields) (hf_dev : Field.dev ∈ my.fields)
    (hf_prev : Field.prev ∈ my.fields) (hf_devAt : Field.devAt ∈ my.fields) (hf_devLog : Field.devLog ∈ my.fields) (hf_regs
    : Field.regs ∈ my.fields) (hf_yew : Field.yew ∈ my.fields) (hf_hirqLow : Field.hirqLow ∈ my.fields) (hf_lanes :
    Field.lanes ∈ my.fields) (hf_banks : Field.banks ∈ my.fields) (hf_pwm : Field.pwm ∈ my.fields) (hf_eng : Field.eng ∈
    my.fields) (hp_0 : 0 ∈ my.pages) (hp_6 : 6 ∈ my.pages) (hall : ∀ n : LaneIx, n ∈ my.lanes) : ∃ u, execUnseal t s = .next
    u ∧ Only my s u := by
  have hs := Only.refl my s
  unfold execUnseal
  dsimp only
  (repeat' split) <;> exact ⟨_, rfl, by simp +contextual (maxDischargeDepth := 99) [hs, hf_now, hf_dev, hf_prev, hf_devAt,
                          hf_devLog, hf_regs, hf_yew, hf_hirqLow, hf_lanes, hf_banks, hf_pwm, hf_eng, hp_0, hp_6, hall]⟩

theorem execStandby_only {my : May} (t : Time) (s : State) (hf_now : Field.now ∈ my.fields) (hf_dev : Field.dev ∈ my.fields)
    (hf_prev : Field.prev ∈ my.fields) (hf_devAt : Field.devAt ∈ my.fields) (hf_devLog : Field.devLog ∈ my.fields) (hf_regs
    : Field.regs ∈ my.fields) (hf_yew : Field.yew ∈ my.fields) (hf_hirqLow : Field.hirqLow ∈ my.fields) (hf_lanes :
    Field.lanes ∈ my.fields) (hf_banks : Field.banks ∈ my.fields) (hf_pwm : Field.pwm ∈ my.fields) (hf_eng : Field.eng ∈
    my.fields) (hf_gnss : Field.gnss ∈ my.fields) (hp_0 : 0 ∈ my.pages) (hp_6 : 6 ∈ my.pages) (hall : ∀ n : LaneIx, n ∈
    my.lanes) : ∃ u, execStandby t s = .next u ∧ Only my s u := by
  have hs := Only.refl my s
  unfold execStandby
  dsimp only
  (repeat' split) <;> exact ⟨_, rfl, by simp +contextual (maxDischargeDepth := 99) [hs, hf_now, hf_dev, hf_prev, hf_devAt,
                          hf_devLog, hf_regs, hf_yew, hf_hirqLow, hf_lanes, hf_banks, hf_pwm, hf_eng, hf_gnss, hp_0, hp_6,
                          hall]⟩

theorem execWake_only {my : May} (t : Time) (s : State) (hf_now : Field.now ∈ my.fields) (hf_dev : Field.dev ∈ my.fields)
    (hf_prev : Field.prev ∈ my.fields) (hf_devAt : Field.devAt ∈ my.fields) (hf_devLog : Field.devLog ∈ my.fields) (hf_regs
    : Field.regs ∈ my.fields) (hf_waking : Field.waking ∈ my.fields) (hf_yew : Field.yew ∈ my.fields) (hf_hirqLow :
    Field.hirqLow ∈ my.fields) (hf_lanes : Field.lanes ∈ my.fields) (hf_banks : Field.banks ∈ my.fields) (hf_pwm : Field.pwm
    ∈ my.fields) (hf_eng : Field.eng ∈ my.fields) (hf_gnss : Field.gnss ∈ my.fields) (hp_0 : 0 ∈ my.pages) (hp_6 : 6 ∈
    my.pages) (hall : ∀ n : LaneIx, n ∈ my.lanes) : ∃ u, execWake t s = .next u ∧ Only my s u := by
  have hs := Only.refl my s
  unfold execWake
  dsimp only
  (repeat' split) <;> exact ⟨_, rfl, by simp +contextual (maxDischargeDepth := 99) [hs, hf_now, hf_dev, hf_prev, hf_devAt,
                          hf_devLog, hf_regs, hf_waking, hf_yew, hf_hirqLow, hf_lanes, hf_banks, hf_pwm, hf_eng, hf_gnss,
                          hp_0, hp_6, hall]⟩

theorem execWakeComplete_only {my : May} (t : Time) (s : State) (hf_now : Field.now ∈ my.fields) (hf_dev : Field.dev ∈
    my.fields) (hf_prev : Field.prev ∈ my.fields) (hf_devAt : Field.devAt ∈ my.fields) (hf_devLog : Field.devLog ∈
    my.fields) (hf_regs : Field.regs ∈ my.fields) (hf_idleDrain : Field.idleDrain ∈ my.fields) (hf_waking : Field.waking ∈
    my.fields) (hf_yew : Field.yew ∈ my.fields) (hf_hirqLow : Field.hirqLow ∈ my.fields) (hf_lanes : Field.lanes ∈
    my.fields) (hf_banks : Field.banks ∈ my.fields) (hf_pwm : Field.pwm ∈ my.fields) (hf_eng : Field.eng ∈ my.fields)
    (hf_gnss : Field.gnss ∈ my.fields) (hp_0 : 0 ∈ my.pages) (hp_6 : 6 ∈ my.pages) (hp_16 : 16 ∈ my.pages) (hp_17 : 17 ∈
    my.pages) (hall : ∀ n : LaneIx, n ∈ my.lanes) : ∃ u, execWakeComplete t s = .next u ∧ Only my s u := by
  have hs := Only.refl my s
  unfold execWakeComplete
  dsimp only
  (repeat' split) <;> exact ⟨_, rfl, by simp +contextual (maxDischargeDepth := 99) [hs, hf_now, hf_dev, hf_prev, hf_devAt,
                          hf_devLog, hf_regs, hf_idleDrain, hf_waking, hf_yew, hf_hirqLow, hf_lanes, hf_banks, hf_pwm,
                          hf_eng, hf_gnss, hp_0, hp_6, hp_16, hp_17, hall]⟩

theorem execSpeedInvalid_only {my : May} (t : Time) (s : State) (hf_now : Field.now ∈ my.fields) (hf_dev : Field.dev ∈
    my.fields) (hf_prev : Field.prev ∈ my.fields) (hf_devAt : Field.devAt ∈ my.fields) (hf_devLog : Field.devLog ∈
    my.fields) (hf_regs : Field.regs ∈ my.fields) (hf_ctrlDue : Field.ctrlDue ∈ my.fields) (hf_yew : Field.yew ∈ my.fields)
    (hf_hirqLow : Field.hirqLow ∈ my.fields) (hf_lanes : Field.lanes ∈ my.fields) (hf_fpe : Field.fpe ∈ my.fields) (hp_0 : 0
    ∈ my.pages) (hp_6 : 6 ∈ my.pages) (hall : ∀ n : LaneIx, n ∈ my.lanes) : ∃ u, execSpeedInvalid t s = .next u ∧ Only my s
    u := by
  have hs := Only.refl my s
  unfold execSpeedInvalid
  dsimp only
  (repeat' split) <;> exact ⟨_, rfl, by simp +contextual (maxDischargeDepth := 99) [hs, hf_now, hf_dev, hf_prev, hf_devAt,
                          hf_devLog, hf_regs, hf_ctrlDue, hf_yew, hf_hirqLow, hf_lanes, hf_fpe, hp_0, hp_6, hall]⟩

theorem execPfailFall_only {my : May} (t : Time) (s : State) (hf_now : Field.now ∈ my.fields) (hf_regs : Field.regs ∈
    my.fields) (hf_freeIdx : Field.freeIdx ∈ my.fields) (hf_firstSeen : Field.firstSeen ∈ my.fields) (hf_pfail : Field.pfail
    ∈ my.fields) (hf_pfailBalls : Field.pfailBalls ∈ my.fields) (hf_waking : Field.waking ∈ my.fields) (hf_checking :
    Field.checking ∈ my.fields) (hf_yew : Field.yew ∈ my.fields) (hf_yewPort : Field.yewPort ∈ my.fields) (hf_hq : Field.hq
    ∈ my.fields) (hf_cmpl : Field.cmpl ∈ my.fields) (hf_cmplWait : Field.cmplWait ∈ my.fields) (hf_hirqLow : Field.hirqLow ∈
    my.fields) (hf_nor : Field.nor ∈ my.fields) (hf_lanes : Field.lanes ∈ my.fields) (hf_banks : Field.banks ∈ my.fields)
    (hf_pwm : Field.pwm ∈ my.fields) (hf_eng : Field.eng ∈ my.fields) (hf_ports : Field.ports ∈ my.fields) (hf_ring :
    Field.ring ∈ my.fields) (hp_0 : 0 ∈ my.pages) (hp_2 : 2 ∈ my.pages) (hp_4 : 4 ∈ my.pages) (hp_6 : 6 ∈ my.pages) (hp_7 :
    7 ∈ my.pages) (hall : ∀ n : LaneIx, n ∈ my.lanes) : ∃ u, execPfailFall t s = .next u ∧ Only my s u := by
  have hs := Only.refl my s
  unfold execPfailFall
  dsimp only
  (repeat' split) <;> exact ⟨_, rfl, by simp +contextual (maxDischargeDepth := 99) [hs, hf_now, hf_regs, hf_freeIdx,
                          hf_firstSeen, hf_pfail, hf_pfailBalls, hf_waking, hf_checking, hf_yew, hf_yewPort, hf_hq, hf_cmpl,
                          hf_cmplWait, hf_hirqLow, hf_nor, hf_lanes, hf_banks, hf_pwm, hf_eng, hf_ports, hf_ring, hp_0,
                          hp_2, hp_4, hp_6, hp_7, hall]⟩

theorem execClockLoss_only {my : May} (t : Time) (pll : Bool) (s : State) (hf_now : Field.now ∈ my.fields) (hf_regs :
    Field.regs ∈ my.fields) (hf_clockLost : Field.clockLost ∈ my.fields) (hf_yew : Field.yew ∈ my.fields) (hf_hirqLow :
    Field.hirqLow ∈ my.fields) (hf_lanes : Field.lanes ∈ my.fields) (hf_banks : Field.banks ∈ my.fields) (hf_pwm : Field.pwm
    ∈ my.fields) (hf_eng : Field.eng ∈ my.fields) (hp_0 : 0 ∈ my.pages) (hp_1 : 1 ∈ my.pages) (hp_6 : 6 ∈ my.pages) (hall :
    ∀ n : LaneIx, n ∈ my.lanes) : ∃ u, execClockLoss t pll s = .next u ∧ Only my s u := by
  have hs := Only.refl my s
  cases pll <;>
  (unfold execClockLoss; dsimp only; (repeat' split) <;> exact ⟨_, rfl, by simp +contextual (maxDischargeDepth := 99) [hs, hf_now, hf_regs, hf_clockLost, hf_yew, hf_hirqLow, hf_lanes, hf_banks, hf_pwm, hf_eng, hp_0, hp_1, hp_6, hall]⟩)

theorem execSerdesUnlock_only {my : May} (t : Time) (p : Ring) (s : State) (hf_now : Field.now ∈ my.fields) (hf_regs :
    Field.regs ∈ my.fields) (hf_freeIdx : Field.freeIdx ∈ my.fields) (hf_yew : Field.yew ∈ my.fields) (hf_hirqLow :
    Field.hirqLow ∈ my.fields) (hf_ports : Field.ports ∈ my.fields) (hp_1 : 1 ∈ my.pages) (hp_6 : 6 ∈ my.pages) (hp_8 : 8 ∈
    my.pages) (hp_9 : 9 ∈ my.pages) : ∃ u, execSerdesUnlock t p s = .next u ∧ Only my s u := by
  have hs := Only.refl my s
  cases p <;>
  (unfold execSerdesUnlock; dsimp only; (repeat' split) <;> exact ⟨_, rfl, by simp +contextual (maxDischargeDepth := 99) [hs, hf_now, hf_regs, hf_freeIdx, hf_yew, hf_hirqLow, hf_ports, hp_1, hp_6, hp_8, hp_9]⟩)

theorem execSupplyOor_only {my : May} (t : Time) (i : Supply) (meas : BitVec 16) (s : State) (hf_now : Field.now ∈
    my.fields) (hf_regs : Field.regs ∈ my.fields) (hf_supplySafe : Field.supplySafe ∈ my.fields) (hf_inRange : Field.inRange
    ∈ my.fields) (hf_yew : Field.yew ∈ my.fields) (hf_hirqLow : Field.hirqLow ∈ my.fields) (hf_lanes : Field.lanes ∈
    my.fields) (hf_banks : Field.banks ∈ my.fields) (hf_pwm : Field.pwm ∈ my.fields) (hf_eng : Field.eng ∈ my.fields) (hp_2
    : 2 ∈ my.pages) (hp_6 : 6 ∈ my.pages) (hall : ∀ n : LaneIx, n ∈ my.lanes) : ∃ u, execSupplyOor t i meas s = .next u ∧
    Only my s u := by
  have hs := Only.refl my s
  unfold execSupplyOor
  dsimp only
  (repeat' split) <;> exact ⟨_, rfl, by simp +contextual (maxDischargeDepth := 99) [hs, hf_now, hf_regs, hf_supplySafe,
                          hf_inRange, hf_yew, hf_hirqLow, hf_lanes, hf_banks, hf_pwm, hf_eng, hp_2, hp_6, hall]⟩

theorem execSupplyInRange_only {my : May} (t : Time) (i : Supply) (x0 : BitVec 16) (s : State) (hf_now : Field.now ∈
    my.fields) (hf_inRange : Field.inRange ∈ my.fields) : ∃ u, execSupplyInRange t i x0 s = .next u ∧ Only my s u := by
  have hs := Only.refl my s
  exact ⟨_, rfl, by simp +contextual (maxDischargeDepth := 99) [hs, hf_now, hf_inRange]⟩

theorem execTempRead_only {my : May} (t : Time) (laneDie : Bool) (temp : BitVec 16) (s : State) (hf_now : Field.now ∈
    my.fields) (hf_regs : Field.regs ∈ my.fields) (hf_tempSeen : Field.tempSeen ∈ my.fields) (hf_hirqLow : Field.hirqLow ∈
    my.fields) (hp_2 : 2 ∈ my.pages) : ∃ u, execTempRead t laneDie temp s = .next u ∧ Only my s u := by
  have hs := Only.refl my s
  unfold execTempRead
  dsimp only
  (repeat' split) <;> exact ⟨_, rfl, by simp +contextual (maxDischargeDepth := 99) [hs, hf_now, hf_regs, hf_tempSeen,
                          hf_hirqLow, hp_2]⟩

theorem execNoChargeTimeout_only {my : May} (t : Time) (s : State) (hf_now : Field.now ∈ my.fields) (hf_regs : Field.regs ∈
    my.fields) (hf_yew : Field.yew ∈ my.fields) (hf_hirqLow : Field.hirqLow ∈ my.fields) (hf_lanes : Field.lanes ∈
    my.fields) (hf_banks : Field.banks ∈ my.fields) (hf_pwm : Field.pwm ∈ my.fields) (hf_eng : Field.eng ∈ my.fields) (hp_6
    : 6 ∈ my.pages) (hall : ∀ n : LaneIx, n ∈ my.lanes) : ∃ u, execNoChargeTimeout t s = .next u ∧ Only my s u := by
  have hs := Only.refl my s
  unfold execNoChargeTimeout
  dsimp only
  (repeat' split) <;> exact ⟨_, rfl, by simp +contextual (maxDischargeDepth := 99) [hs, hf_now, hf_regs, hf_yew, hf_hirqLow,
                          hf_lanes, hf_banks, hf_pwm, hf_eng, hp_6, hall]⟩

theorem execSingleHalfStop_only {my : May} (t : Time) (s : State) (hf_now : Field.now ∈ my.fields) (hf_regs : Field.regs ∈
    my.fields) (hf_yew : Field.yew ∈ my.fields) (hf_hirqLow : Field.hirqLow ∈ my.fields) (hf_lanes : Field.lanes ∈
    my.fields) (hf_banks : Field.banks ∈ my.fields) (hf_pwm : Field.pwm ∈ my.fields) (hf_eng : Field.eng ∈ my.fields) (hp_6
    : 6 ∈ my.pages) (hall : ∀ n : LaneIx, n ∈ my.lanes) : ∃ u, execSingleHalfStop t s = .next u ∧ Only my s u := by
  have hs := Only.refl my s
  unfold execSingleHalfStop
  dsimp only
  (repeat' split) <;> exact ⟨_, rfl, by simp +contextual (maxDischargeDepth := 99) [hs, hf_now, hf_regs, hf_yew, hf_hirqLow,
                          hf_lanes, hf_banks, hf_pwm, hf_eng, hp_6, hall]⟩

theorem execRcRead_only {my : May} (t : Time) (addr : BitVec 24) (s : State) (hf_now : Field.now ∈ my.fields) (hf_regs :
    Field.regs ∈ my.fields) (hf_freeIdx : Field.freeIdx ∈ my.fields) (hf_tempSeen : Field.tempSeen ∈ my.fields) (hf_yew :
    Field.yew ∈ my.fields) (hf_hq : Field.hq ∈ my.fields) (hf_dropQ : Field.dropQ ∈ my.fields) (hf_hirqLow : Field.hirqLow ∈
    my.fields) (hf_mbox : Field.mbox ∈ my.fields) (hf_banks : Field.banks ∈ my.fields) (hf_pwm : Field.pwm ∈ my.fields)
    (hf_eng : Field.eng ∈ my.fields) (hf_lastRead : Field.lastRead ∈ my.fields) (hp_5 : 5 ∈ my.pages) (hall : ∀ n : LaneIx,
    n ∈ my.lanes) (hany : (∀ a, my.reg a) ∧ ∀ p, my.page p) : ∃ u, execRcRead t addr s = .next u ∧ Only my s u := by
  have hs := Only.refl my s
  exact ⟨_, rfl, by simp +contextual (maxDischargeDepth := 99) [hs, hf_now, hf_regs, hf_freeIdx, hf_tempSeen, hf_yew, hf_hq,
      hf_dropQ, hf_hirqLow, hf_mbox, hf_banks, hf_pwm, hf_eng, hf_lastRead, hp_5, hall, hany]⟩

theorem execPoseCur0_only {my : May} (t : Time) (s : State) (hf_now : Field.now ∈ my.fields) (hf_regs : Field.regs ∈
    my.fields) (hf_freeIdx : Field.freeIdx ∈ my.fields) (hf_tempSeen : Field.tempSeen ∈ my.fields) (hf_yew : Field.yew ∈
    my.fields) (hf_hq : Field.hq ∈ my.fields) (hf_dropQ : Field.dropQ ∈ my.fields) (hf_hirqLow : Field.hirqLow ∈ my.fields)
    (hf_mbox : Field.mbox ∈ my.fields) (hf_banks : Field.banks ∈ my.fields) (hf_pwm : Field.pwm ∈ my.fields) (hf_eng :
    Field.eng ∈ my.fields) (hf_lastRead : Field.lastRead ∈ my.fields) (hp_5 : 5 ∈ my.pages) (hall : ∀ n : LaneIx, n ∈
    my.lanes) (hany : (∀ a, my.reg a) ∧ ∀ p, my.page p) : ∃ u, execPoseCur0 t s = .next u ∧ Only my s u := by
  have hs := Only.refl my s
  exact ⟨_, rfl, by simp +contextual (maxDischargeDepth := 99) [hs, hf_now, hf_regs, hf_freeIdx, hf_tempSeen, hf_yew, hf_hq,
      hf_dropQ, hf_hirqLow, hf_mbox, hf_banks, hf_pwm, hf_eng, hf_lastRead, hp_5, hall, hany]⟩

theorem execGeomTrvLo_only {my : May} (t : Time) (s : State) (hf_now : Field.now ∈ my.fields) (hf_regs : Field.regs ∈
    my.fields) (hf_freeIdx : Field.freeIdx ∈ my.fields) (hf_tempSeen : Field.tempSeen ∈ my.fields) (hf_yew : Field.yew ∈
    my.fields) (hf_hq : Field.hq ∈ my.fields) (hf_dropQ : Field.dropQ ∈ my.fields) (hf_hirqLow : Field.hirqLow ∈ my.fields)
    (hf_mbox : Field.mbox ∈ my.fields) (hf_banks : Field.banks ∈ my.fields) (hf_pwm : Field.pwm ∈ my.fields) (hf_eng :
    Field.eng ∈ my.fields) (hf_lastRead : Field.lastRead ∈ my.fields) (hp_5 : 5 ∈ my.pages) (hall : ∀ n : LaneIx, n ∈
    my.lanes) (hany : (∀ a, my.reg a) ∧ ∀ p, my.page p) : ∃ u, execGeomTrvLo t s = .next u ∧ Only my s u := by
  have hs := Only.refl my s
  exact ⟨_, rfl, by simp +contextual (maxDischargeDepth := 99) [hs, hf_now, hf_regs, hf_freeIdx, hf_tempSeen, hf_yew, hf_hq,
      hf_dropQ, hf_hirqLow, hf_mbox, hf_banks, hf_pwm, hf_eng, hf_lastRead, hp_5, hall, hany]⟩

theorem execSlotStat_only {my : May} (t : Time) (s : State) (hf_now : Field.now ∈ my.fields) (hf_regs : Field.regs ∈
    my.fields) (hf_freeIdx : Field.freeIdx ∈ my.fields) (hf_tempSeen : Field.tempSeen ∈ my.fields) (hf_yew : Field.yew ∈
    my.fields) (hf_hq : Field.hq ∈ my.fields) (hf_dropQ : Field.dropQ ∈ my.fields) (hf_hirqLow : Field.hirqLow ∈ my.fields)
    (hf_mbox : Field.mbox ∈ my.fields) (hf_banks : Field.banks ∈ my.fields) (hf_pwm : Field.pwm ∈ my.fields) (hf_eng :
    Field.eng ∈ my.fields) (hf_lastRead : Field.lastRead ∈ my.fields) (hp_5 : 5 ∈ my.pages) (hall : ∀ n : LaneIx, n ∈
    my.lanes) (hany : (∀ a, my.reg a) ∧ ∀ p, my.page p) : ∃ u, execSlotStat t s = .next u ∧ Only my s u := by
  have hs := Only.refl my s
  exact ⟨_, rfl, by simp +contextual (maxDischargeDepth := 99) [hs, hf_now, hf_regs, hf_freeIdx, hf_tempSeen, hf_yew, hf_hq,
      hf_dropQ, hf_hirqLow, hf_mbox, hf_banks, hf_pwm, hf_eng, hf_lastRead, hp_5, hall, hany]⟩

theorem execOutLead_only {my : May} (t : Time) (s : State) (hf_now : Field.now ∈ my.fields) (hf_regs : Field.regs ∈
    my.fields) (hf_freeIdx : Field.freeIdx ∈ my.fields) (hf_tempSeen : Field.tempSeen ∈ my.fields) (hf_yew : Field.yew ∈
    my.fields) (hf_hq : Field.hq ∈ my.fields) (hf_dropQ : Field.dropQ ∈ my.fields) (hf_hirqLow : Field.hirqLow ∈ my.fields)
    (hf_mbox : Field.mbox ∈ my.fields) (hf_banks : Field.banks ∈ my.fields) (hf_pwm : Field.pwm ∈ my.fields) (hf_eng :
    Field.eng ∈ my.fields) (hf_lastRead : Field.lastRead ∈ my.fields) (hp_5 : 5 ∈ my.pages) (hall : ∀ n : LaneIx, n ∈
    my.lanes) (hany : (∀ a, my.reg a) ∧ ∀ p, my.page p) : ∃ u, execOutLead t s = .next u ∧ Only my s u := by
  have hs := Only.refl my s
  exact ⟨_, rfl, by simp +contextual (maxDischargeDepth := 99) [hs, hf_now, hf_regs, hf_freeIdx, hf_tempSeen, hf_yew, hf_hq,
      hf_dropQ, hf_hirqLow, hf_mbox, hf_banks, hf_pwm, hf_eng, hf_lastRead, hp_5, hall, hany]⟩

theorem execSqE0_only {my : May} (t : Time) (n : LaneIx) (s : State) (hf_now : Field.now ∈ my.fields) (hf_regs : Field.regs
    ∈ my.fields) (hf_freeIdx : Field.freeIdx ∈ my.fields) (hf_tempSeen : Field.tempSeen ∈ my.fields) (hf_yew : Field.yew ∈
    my.fields) (hf_hq : Field.hq ∈ my.fields) (hf_dropQ : Field.dropQ ∈ my.fields) (hf_hirqLow : Field.hirqLow ∈ my.fields)
    (hf_mbox : Field.mbox ∈ my.fields) (hf_banks : Field.banks ∈ my.fields) (hf_pwm : Field.pwm ∈ my.fields) (hf_eng :
    Field.eng ∈ my.fields) (hf_lastRead : Field.lastRead ∈ my.fields) (hp_5 : 5 ∈ my.pages) (hall : ∀ n : LaneIx, n ∈
    my.lanes) (hany : (∀ a, my.reg a) ∧ ∀ p, my.page p) : ∃ u, execSqE0 t n s = .next u ∧ Only my s u := by
  have hs := Only.refl my s
  exact ⟨_, rfl, by simp +contextual (maxDischargeDepth := 99) [hs, hf_now, hf_regs, hf_freeIdx, hf_tempSeen, hf_yew, hf_hq,
      hf_dropQ, hf_hirqLow, hf_mbox, hf_banks, hf_pwm, hf_eng, hf_lastRead, hp_5, hall, hany]⟩

theorem execLtrvLo_only {my : May} (t : Time) (n : LaneIx) (s : State) (hf_now : Field.now ∈ my.fields) (hf_regs :
    Field.regs ∈ my.fields) (hf_freeIdx : Field.freeIdx ∈ my.fields) (hf_tempSeen : Field.tempSeen ∈ my.fields) (hf_yew :
    Field.yew ∈ my.fields) (hf_hq : Field.hq ∈ my.fields) (hf_dropQ : Field.dropQ ∈ my.fields) (hf_hirqLow : Field.hirqLow ∈
    my.fields) (hf_mbox : Field.mbox ∈ my.fields) (hf_banks : Field.banks ∈ my.fields) (hf_pwm : Field.pwm ∈ my.fields)
    (hf_eng : Field.eng ∈ my.fields) (hf_lastRead : Field.lastRead ∈ my.fields) (hp_5 : 5 ∈ my.pages) (hall : ∀ n : LaneIx,
    n ∈ my.lanes) (hany : (∀ a, my.reg a) ∧ ∀ p, my.page p) : ∃ u, execLtrvLo t n s = .next u ∧ Only my s u := by
  have hs := Only.refl my s
  exact ⟨_, rfl, by simp +contextual (maxDischargeDepth := 99) [hs, hf_now, hf_regs, hf_freeIdx, hf_tempSeen, hf_yew, hf_hq,
      hf_dropQ, hf_hirqLow, hf_mbox, hf_banks, hf_pwm, hf_eng, hf_lastRead, hp_5, hall, hany]⟩

theorem execGPerAct_only {my : May} (t : Time) (n : LaneIx) (g : Fin 4) (s : State) (hf_now : Field.now ∈ my.fields)
    (hf_regs : Field.regs ∈ my.fields) (hf_freeIdx : Field.freeIdx ∈ my.fields) (hf_tempSeen : Field.tempSeen ∈ my.fields)
    (hf_yew : Field.yew ∈ my.fields) (hf_hq : Field.hq ∈ my.fields) (hf_dropQ : Field.dropQ ∈ my.fields) (hf_hirqLow :
    Field.hirqLow ∈ my.fields) (hf_mbox : Field.mbox ∈ my.fields) (hf_banks : Field.banks ∈ my.fields) (hf_pwm : Field.pwm ∈
    my.fields) (hf_eng : Field.eng ∈ my.fields) (hf_lastRead : Field.lastRead ∈ my.fields) (hp_5 : 5 ∈ my.pages) (hall : ∀ n
    : LaneIx, n ∈ my.lanes) (hany : (∀ a, my.reg a) ∧ ∀ p, my.page p) : ∃ u, execGPerAct t n g s = .next u ∧ Only my s u :=
    by
  have hs := Only.refl my s
  exact ⟨_, rfl, by simp +contextual (maxDischargeDepth := 99) [hs, hf_now, hf_regs, hf_freeIdx, hf_tempSeen, hf_yew, hf_hq,
      hf_dropQ, hf_hirqLow, hf_mbox, hf_banks, hf_pwm, hf_eng, hf_lastRead, hp_5, hall, hany]⟩

theorem execFbkPos_only {my : May} (t : Time) (n : LaneIx) (s : State) (hf_now : Field.now ∈ my.fields) (hf_regs :
    Field.regs ∈ my.fields) (hf_freeIdx : Field.freeIdx ∈ my.fields) (hf_tempSeen : Field.tempSeen ∈ my.fields) (hf_yew :
    Field.yew ∈ my.fields) (hf_hq : Field.hq ∈ my.fields) (hf_dropQ : Field.dropQ ∈ my.fields) (hf_hirqLow : Field.hirqLow ∈
    my.fields) (hf_mbox : Field.mbox ∈ my.fields) (hf_banks : Field.banks ∈ my.fields) (hf_pwm : Field.pwm ∈ my.fields)
    (hf_eng : Field.eng ∈ my.fields) (hf_lastRead : Field.lastRead ∈ my.fields) (hp_5 : 5 ∈ my.pages) (hall : ∀ n : LaneIx,
    n ∈ my.lanes) (hany : (∀ a, my.reg a) ∧ ∀ p, my.page p) : ∃ u, execFbkPos t n s = .next u ∧ Only my s u := by
  have hs := Only.refl my s
  exact ⟨_, rfl, by simp +contextual (maxDischargeDepth := 99) [hs, hf_now, hf_regs, hf_freeIdx, hf_tempSeen, hf_yew, hf_hq,
      hf_dropQ, hf_hirqLow, hf_mbox, hf_banks, hf_pwm, hf_eng, hf_lastRead, hp_5, hall, hany]⟩

theorem execSolTimeLo_only {my : May} (t : Time) (h : Half) (s : State) (hf_now : Field.now ∈ my.fields) (hf_regs :
    Field.regs ∈ my.fields) (hf_freeIdx : Field.freeIdx ∈ my.fields) (hf_tempSeen : Field.tempSeen ∈ my.fields) (hf_yew :
    Field.yew ∈ my.fields) (hf_hq : Field.hq ∈ my.fields) (hf_dropQ : Field.dropQ ∈ my.fields) (hf_hirqLow : Field.hirqLow ∈
    my.fields) (hf_mbox : Field.mbox ∈ my.fields) (hf_banks : Field.banks ∈ my.fields) (hf_pwm : Field.pwm ∈ my.fields)
    (hf_eng : Field.eng ∈ my.fields) (hf_lastRead : Field.lastRead ∈ my.fields) (hp_5 : 5 ∈ my.pages) (hall : ∀ n : LaneIx,
    n ∈ my.lanes) (hany : (∀ a, my.reg a) ∧ ∀ p, my.page p) : ∃ u, execSolTimeLo t h s = .next u ∧ Only my s u := by
  have hs := Only.refl my s
  exact ⟨_, rfl, by simp +contextual (maxDischargeDepth := 99) [hs, hf_now, hf_regs, hf_freeIdx, hf_tempSeen, hf_yew, hf_hq,
      hf_dropQ, hf_hirqLow, hf_mbox, hf_banks, hf_pwm, hf_eng, hf_lastRead, hp_5, hall, hany]⟩

theorem execChStat_only {my : May} (t : Time) (h : Half) (s : State) (hf_now : Field.now ∈ my.fields) (hf_regs : Field.regs
    ∈ my.fields) (hf_freeIdx : Field.freeIdx ∈ my.fields) (hf_tempSeen : Field.tempSeen ∈ my.fields) (hf_yew : Field.yew ∈
    my.fields) (hf_hq : Field.hq ∈ my.fields) (hf_dropQ : Field.dropQ ∈ my.fields) (hf_hirqLow : Field.hirqLow ∈ my.fields)
    (hf_mbox : Field.mbox ∈ my.fields) (hf_banks : Field.banks ∈ my.fields) (hf_pwm : Field.pwm ∈ my.fields) (hf_eng :
    Field.eng ∈ my.fields) (hf_lastRead : Field.lastRead ∈ my.fields) (hp_5 : 5 ∈ my.pages) (hall : ∀ n : LaneIx, n ∈
    my.lanes) (hany : (∀ a, my.reg a) ∧ ∀ p, my.page p) : ∃ u, execChStat t h s = .next u ∧ Only my s u := by
  have hs := Only.refl my s
  exact ⟨_, rfl, by simp +contextual (maxDischargeDepth := 99) [hs, hf_now, hf_regs, hf_freeIdx, hf_tempSeen, hf_yew, hf_hq,
      hf_dropQ, hf_hirqLow, hf_mbox, hf_banks, hf_pwm, hf_eng, hf_lastRead, hp_5, hall, hany]⟩

theorem execTpNextRtLo_only {my : May} (t : Time) (s : State) (hf_now : Field.now ∈ my.fields) (hf_regs : Field.regs ∈
    my.fields) (hf_freeIdx : Field.freeIdx ∈ my.fields) (hf_tempSeen : Field.tempSeen ∈ my.fields) (hf_yew : Field.yew ∈
    my.fields) (hf_hq : Field.hq ∈ my.fields) (hf_dropQ : Field.dropQ ∈ my.fields) (hf_hirqLow : Field.hirqLow ∈ my.fields)
    (hf_mbox : Field.mbox ∈ my.fields) (hf_banks : Field.banks ∈ my.fields) (hf_pwm : Field.pwm ∈ my.fields) (hf_eng :
    Field.eng ∈ my.fields) (hf_lastRead : Field.lastRead ∈ my.fields) (hp_5 : 5 ∈ my.pages) (hall : ∀ n : LaneIx, n ∈
    my.lanes) (hany : (∀ a, my.reg a) ∧ ∀ p, my.page p) : ∃ u, execTpNextRtLo t s = .next u ∧ Only my s u := by
  have hs := Only.refl my s
  exact ⟨_, rfl, by simp +contextual (maxDischargeDepth := 99) [hs, hf_now, hf_regs, hf_freeIdx, hf_tempSeen, hf_yew, hf_hq,
      hf_dropQ, hf_hirqLow, hf_mbox, hf_banks, hf_pwm, hf_eng, hf_lastRead, hp_5, hall, hany]⟩

theorem execRtNowLo_only {my : May} (t : Time) (s : State) (hf_now : Field.now ∈ my.fields) (hf_regs : Field.regs ∈
    my.fields) (hf_freeIdx : Field.freeIdx ∈ my.fields) (hf_tempSeen : Field.tempSeen ∈ my.fields) (hf_yew : Field.yew ∈
    my.fields) (hf_hq : Field.hq ∈ my.fields) (hf_dropQ : Field.dropQ ∈ my.fields) (hf_hirqLow : Field.hirqLow ∈ my.fields)
    (hf_mbox : Field.mbox ∈ my.fields) (hf_banks : Field.banks ∈ my.fields) (hf_pwm : Field.pwm ∈ my.fields) (hf_eng :
    Field.eng ∈ my.fields) (hf_lastRead : Field.lastRead ∈ my.fields) (hp_5 : 5 ∈ my.pages) (hall : ∀ n : LaneIx, n ∈
    my.lanes) (hany : (∀ a, my.reg a) ∧ ∀ p, my.page p) : ∃ u, execRtNowLo t s = .next u ∧ Only my s u := by
  have hs := Only.refl my s
  exact ⟨_, rfl, by simp +contextual (maxDischargeDepth := 99) [hs, hf_now, hf_regs, hf_freeIdx, hf_tempSeen, hf_yew, hf_hq,
      hf_dropQ, hf_hirqLow, hf_mbox, hf_banks, hf_pwm, hf_eng, hf_lastRead, hp_5, hall, hany]⟩

theorem execFlushRtLo_only {my : May} (t : Time) (s : State) (hf_now : Field.now ∈ my.fields) (hf_regs : Field.regs ∈
    my.fields) (hf_freeIdx : Field.freeIdx ∈ my.fields) (hf_tempSeen : Field.tempSeen ∈ my.fields) (hf_yew : Field.yew ∈
    my.fields) (hf_hq : Field.hq ∈ my.fields) (hf_dropQ : Field.dropQ ∈ my.fields) (hf_hirqLow : Field.hirqLow ∈ my.fields)
    (hf_mbox : Field.mbox ∈ my.fields) (hf_banks : Field.banks ∈ my.fields) (hf_pwm : Field.pwm ∈ my.fields) (hf_eng :
    Field.eng ∈ my.fields) (hf_lastRead : Field.lastRead ∈ my.fields) (hp_5 : 5 ∈ my.pages) (hall : ∀ n : LaneIx, n ∈
    my.lanes) (hany : (∀ a, my.reg a) ∧ ∀ p, my.page p) : ∃ u, execFlushRtLo t s = .next u ∧ Only my s u := by
  have hs := Only.refl my s
  exact ⟨_, rfl, by simp +contextual (maxDischargeDepth := 99) [hs, hf_now, hf_regs, hf_freeIdx, hf_tempSeen, hf_yew, hf_hq,
      hf_dropQ, hf_hirqLow, hf_mbox, hf_banks, hf_pwm, hf_eng, hf_lastRead, hp_5, hall, hany]⟩

theorem execRecW0_only {my : May} (t : Time) (s : State) (hf_now : Field.now ∈ my.fields) (hf_regs : Field.regs ∈ my.fields)
    (hf_freeIdx : Field.freeIdx ∈ my.fields) (hf_tempSeen : Field.tempSeen ∈ my.fields) (hf_yew : Field.yew ∈ my.fields)
    (hf_hq : Field.hq ∈ my.fields) (hf_dropQ : Field.dropQ ∈ my.fields) (hf_hirqLow : Field.hirqLow ∈ my.fields) (hf_mbox :
    Field.mbox ∈ my.fields) (hf_banks : Field.banks ∈ my.fields) (hf_pwm : Field.pwm ∈ my.fields) (hf_eng : Field.eng ∈
    my.fields) (hf_lastRead : Field.lastRead ∈ my.fields) (hp_5 : 5 ∈ my.pages) (hall : ∀ n : LaneIx, n ∈ my.lanes) (hany :
    (∀ a, my.reg a) ∧ ∀ p, my.page p) : ∃ u, execRecW0 t s = .next u ∧ Only my s u := by
  have hs := Only.refl my s
  exact ⟨_, rfl, by simp +contextual (maxDischargeDepth := 99) [hs, hf_now, hf_regs, hf_freeIdx, hf_tempSeen, hf_yew, hf_hq,
      hf_dropQ, hf_hirqLow, hf_mbox, hf_banks, hf_pwm, hf_eng, hf_lastRead, hp_5, hall, hany]⟩

theorem execQItems_only {my : May} (t : Time) (s : State) (hf_now : Field.now ∈ my.fields) (hf_regs : Field.regs ∈
    my.fields) (hf_freeIdx : Field.freeIdx ∈ my.fields) (hf_tempSeen : Field.tempSeen ∈ my.fields) (hf_yew : Field.yew ∈
    my.fields) (hf_hq : Field.hq ∈ my.fields) (hf_dropQ : Field.dropQ ∈ my.fields) (hf_hirqLow : Field.hirqLow ∈ my.fields)
    (hf_mbox : Field.mbox ∈ my.fields) (hf_banks : Field.banks ∈ my.fields) (hf_pwm : Field.pwm ∈ my.fields) (hf_eng :
    Field.eng ∈ my.fields) (hf_lastRead : Field.lastRead ∈ my.fields) (hp_5 : 5 ∈ my.pages) (hall : ∀ n : LaneIx, n ∈
    my.lanes) (hany : (∀ a, my.reg a) ∧ ∀ p, my.page p) : ∃ u, execQItems t s = .next u ∧ Only my s u := by
  have hs := Only.refl my s
  exact ⟨_, rfl, by simp +contextual (maxDischargeDepth := 99) [hs, hf_now, hf_regs, hf_freeIdx, hf_tempSeen, hf_yew, hf_hq,
      hf_dropQ, hf_hirqLow, hf_mbox, hf_banks, hf_pwm, hf_eng, hf_lastRead, hp_5, hall, hany]⟩

theorem execRd_only {my : May} (t : Time) (addr : BitVec 24) (count : Fin 64) (ready : Bool) (s : State) (hf_now : Field.now
    ∈ my.fields) (hf_regs : Field.regs ∈ my.fields) (hf_freeIdx : Field.freeIdx ∈ my.fields) (hf_tempSeen : Field.tempSeen ∈
    my.fields) (hf_yew : Field.yew ∈ my.fields) (hf_hq : Field.hq ∈ my.fields) (hf_dropQ : Field.dropQ ∈ my.fields)
    (hf_hirqLow : Field.hirqLow ∈ my.fields) (hf_mbox : Field.mbox ∈ my.fields) (hf_banks : Field.banks ∈ my.fields) (hf_pwm
    : Field.pwm ∈ my.fields) (hf_eng : Field.eng ∈ my.fields) (hf_hostTx : Field.hostTx ∈ my.fields) (hf_lastRead :
    Field.lastRead ∈ my.fields) (hp_4 : 4 ∈ my.pages) (hp_5 : 5 ∈ my.pages) (hall : ∀ n : LaneIx, n ∈ my.lanes) (hany : (∀
    a, my.reg a) ∧ ∀ p, my.page p) : ∃ u, execRd t addr count ready s = .next u ∧ Only my s u := by
  have hs := Only.refl my s
  unfold execRd
  dsimp only
  (repeat' split) <;> exact ⟨_, rfl, by simp +contextual (maxDischargeDepth := 99) [hs, hf_now, hf_regs, hf_freeIdx,
                          hf_tempSeen, hf_yew, hf_hq, hf_dropQ, hf_hirqLow, hf_mbox, hf_banks, hf_pwm, hf_eng, hf_hostTx,
                          hf_lastRead, hp_4, hp_5, hall, hany]⟩

theorem execRdf_only {my : May} (t : Time) (addr : BitVec 24) (count : Fin 64) (ready : Bool) (s : State) (hf_now :
    Field.now ∈ my.fields) (hf_regs : Field.regs ∈ my.fields) (hf_freeIdx : Field.freeIdx ∈ my.fields) (hf_tempSeen :
    Field.tempSeen ∈ my.fields) (hf_yew : Field.yew ∈ my.fields) (hf_hq : Field.hq ∈ my.fields) (hf_dropQ : Field.dropQ ∈
    my.fields) (hf_hirqLow : Field.hirqLow ∈ my.fields) (hf_mbox : Field.mbox ∈ my.fields) (hf_banks : Field.banks ∈
    my.fields) (hf_pwm : Field.pwm ∈ my.fields) (hf_eng : Field.eng ∈ my.fields) (hf_hostTx : Field.hostTx ∈ my.fields)
    (hf_lastRead : Field.lastRead ∈ my.fields) (hp_4 : 4 ∈ my.pages) (hp_5 : 5 ∈ my.pages) (hall : ∀ n : LaneIx, n ∈
    my.lanes) (hany : (∀ a, my.reg a) ∧ ∀ p, my.page p) : ∃ u, execRdf t addr count ready s = .next u ∧ Only my s u := by
  have hs := Only.refl my s
  unfold execRdf
  dsimp only
  (repeat' split) <;> exact ⟨_, rfl, by simp +contextual (maxDischargeDepth := 99) [hs, hf_now, hf_regs, hf_freeIdx,
                          hf_tempSeen, hf_yew, hf_hq, hf_dropQ, hf_hirqLow, hf_mbox, hf_banks, hf_pwm, hf_eng, hf_hostTx,
                          hf_lastRead, hp_4, hp_5, hall, hany]⟩

theorem execUnknownCommand_only {my : May} (t : Time) (code : Byte) (s : State) (hf_now : Field.now ∈ my.fields) (hf_regs :
    Field.regs ∈ my.fields) (hf_hostTx : Field.hostTx ∈ my.fields) (hp_4 : 4 ∈ my.pages) : ∃ u, execUnknownCommand t code s
    = .next u ∧ Only my s u := by
  have hs := Only.refl my s
  unfold execUnknownCommand
  dsimp only
  (repeat' split) <;> exact ⟨_, rfl, by simp +contextual (maxDischargeDepth := 99) [hs, hf_now, hf_regs, hf_hostTx, hp_4]⟩

theorem execQpush_only {my : May} (t : Time) (sel : Byte) (desc : List Byte) (data : List Byte) (crc : Option Word) (s :
    State) (hf_now : Field.now ∈ my.fields) (hf_regs : Field.regs ∈ my.fields) (hf_freeIdx : Field.freeIdx ∈ my.fields)
    (hf_firstSeen : Field.firstSeen ∈ my.fields) (hf_yew : Field.yew ∈ my.fields) (hf_yewPort : Field.yewPort ∈ my.fields)
    (hf_hq : Field.hq ∈ my.fields) (hf_cmpl : Field.cmpl ∈ my.fields) (hf_cmplWait : Field.cmplWait ∈ my.fields) (hf_hirqLow
    : Field.hirqLow ∈ my.fields) (hf_nor : Field.nor ∈ my.fields) (hf_ports : Field.ports ∈ my.fields) (hf_ring : Field.ring
    ∈ my.fields) (hf_hostTx : Field.hostTx ∈ my.fields) (hp_4 : 4 ∈ my.pages) (hp_6 : 6 ∈ my.pages) (hp_7 : 7 ∈ my.pages) :
    ∃ u, execQpush t sel desc data crc s = .next u ∧ Only my s u := by
  have hs := Only.refl my s
  unfold execQpush
  dsimp only
  (repeat' split) <;> exact ⟨_, rfl, by simp +contextual (maxDischargeDepth := 99) [hs, hf_now, hf_regs, hf_freeIdx,
                          hf_firstSeen, hf_yew, hf_yewPort, hf_hq, hf_cmpl, hf_cmplWait, hf_hirqLow, hf_nor, hf_ports,
                          hf_ring, hf_hostTx, hp_4, hp_6, hp_7]⟩

theorem execQpop_only {my : May} (t : Time) (sel : Byte) (ackSeq : BitVec 16) (s : State) (hf_now : Field.now ∈ my.fields)
    (hf_regs : Field.regs ∈ my.fields) (hf_freeIdx : Field.freeIdx ∈ my.fields) (hf_firstSeen : Field.firstSeen ∈ my.fields)
    (hf_yew : Field.yew ∈ my.fields) (hf_yewPort : Field.yewPort ∈ my.fields) (hf_hq : Field.hq ∈ my.fields) (hf_cmpl :
    Field.cmpl ∈ my.fields) (hf_cmplWait : Field.cmplWait ∈ my.fields) (hf_hirqLow : Field.hirqLow ∈ my.fields) (hf_nor :
    Field.nor ∈ my.fields) (hf_map : Field.map ∈ my.fields) (hf_ports : Field.ports ∈ my.fields) (hf_ring : Field.ring ∈
    my.fields) (hf_hostTx : Field.hostTx ∈ my.fields) (hp_4 : 4 ∈ my.pages) (hp_6 : 6 ∈ my.pages) (hp_7 : 7 ∈ my.pages) : ∃
    u, execQpop t sel ackSeq s = .next u ∧ Only my s u := by
  have hs := Only.refl my s
  unfold execQpop
  dsimp only
  (repeat' split) <;> exact ⟨_, rfl, by simp +contextual (maxDischargeDepth := 99) [hs, hf_now, hf_regs, hf_freeIdx,
                          hf_firstSeen, hf_yew, hf_yewPort, hf_hq, hf_cmpl, hf_cmplWait, hf_hirqLow, hf_nor, hf_map,
                          hf_ports, hf_ring, hf_hostTx, hp_4, hp_6, hp_7]⟩

theorem execCmpl_only {my : May} (t : Time) (ackN : Byte) (maxN : Byte) (s : State) (hf_now : Field.now ∈ my.fields)
    (hf_cmpl : Field.cmpl ∈ my.fields) (hf_hostTx : Field.hostTx ∈ my.fields) : ∃ u, execCmpl t ackN maxN s = .next u ∧ Only
    my s u := by
  have hs := Only.refl my s
  unfold execCmpl
  dsimp only
  (repeat' split) <;> exact ⟨_, rfl, by simp +contextual (maxDischargeDepth := 99) [hs, hf_now, hf_cmpl, hf_hostTx]⟩

theorem execQueueAge_only {my : May} (t : Time) (q : Fin 32) (s : State) (hf_now : Field.now ∈ my.fields) (hf_regs :
    Field.regs ∈ my.fields) (hf_hirqLow : Field.hirqLow ∈ my.fields) (hp_4 : 4 ∈ my.pages) : ∃ u, execQueueAge t q s = .next
    u ∧ Only my s u := by
  have hs := Only.refl my s
  unfold execQueueAge
  dsimp only
  (repeat' split) <;> exact ⟨_, rfl, by simp +contextual (maxDischargeDepth := 99) [hs, hf_now, hf_regs, hf_hirqLow, hp_4]⟩

theorem execHirqHoldoffEnd_only {my : May} (t : Time) (s : State) (hf_now : Field.now ∈ my.fields) (hf_hirqLow :
    Field.hirqLow ∈ my.fields) (hf_hirqRose : Field.hirqRose ∈ my.fields) : ∃ u, execHirqHoldoffEnd t s = .next u ∧ Only my
    s u := by
  have hs := Only.refl my s
  unfold execHirqHoldoffEnd
  dsimp only
  (repeat' split) <;> exact ⟨_, rfl, by simp +contextual (maxDischargeDepth := 99) [hs, hf_now, hf_hirqLow, hf_hirqRose]⟩

theorem execTunTimeout_only {my : May} (t : Time) (s : State) (hf_now : Field.now ∈ my.fields) (hf_regs : Field.regs ∈
    my.fields) (hf_hirqLow : Field.hirqLow ∈ my.fields) (hf_rtun : Field.rtun ∈ my.fields) (hp_11 : 11 ∈ my.pages) : ∃ u,
    execTunTimeout t s = .next u ∧ Only my s u := by
  have hs := Only.refl my s
  unfold execTunTimeout
  dsimp only
  (repeat' split) <;> exact ⟨_, rfl, by simp +contextual (maxDischargeDepth := 99) [hs, hf_now, hf_regs, hf_hirqLow,
                          hf_rtun, hp_11]⟩

theorem execIdcode_only {my : May} (t : Time) (s : State) (hf_now : Field.now ∈ my.fields) (hf_tdo : Field.tdo ∈ my.fields)
    (hf_extest : Field.extest ∈ my.fields) : ∃ u, execIdcode t s = .next u ∧ Only my s u := by
  have hs := Only.refl my s
  exact ⟨_, rfl, by simp +contextual (maxDischargeDepth := 99) [hs, hf_now, hf_tdo, hf_extest]⟩

theorem execExtest_only {my : May} (t : Time) (s : State) (hf_now : Field.now ∈ my.fields) (hf_extest : Field.extest ∈
    my.fields) : ∃ u, execExtest t s = .next u ∧ Only my s u := by
  have hs := Only.refl my s
  exact ⟨_, rfl, by simp +contextual (maxDischargeDepth := 99) [hs, hf_now, hf_extest]⟩

theorem execFrameRx_only {my : May} (t : Time) (p : Ring) (f : Frame) (s : State) (ht : (f.tun && isTunRequest f) = false)
    (hf_regs : Field.regs ∈ my.fields) (hf_freeIdx : Field.freeIdx ∈ my.fields) (hf_firstSeen : Field.firstSeen ∈ my.fields)
    (hf_spdRun : Field.spdRun ∈ my.fields) (hf_qualLow : Field.qualLow ∈ my.fields) (hf_yew : Field.yew ∈ my.fields)
    (hf_yewPort : Field.yewPort ∈ my.fields) (hf_hq : Field.hq ∈ my.fields) (hf_cmpl : Field.cmpl ∈ my.fields) (hf_cmplWait
    : Field.cmplWait ∈ my.fields) (hf_hirqLow : Field.hirqLow ∈ my.fields) (hf_nor : Field.nor ∈ my.fields) (hf_pose :
    Field.pose ∈ my.fields) (hf_map : Field.map ∈ my.fields) (hf_ports : Field.ports ∈ my.fields) (hf_ring : Field.ring ∈
    my.fields) (hf_rtun : Field.rtun ∈ my.fields) (hp_4 : 4 ∈ my.pages) (hp_6 : 6 ∈ my.pages) (hp_7 : 7 ∈ my.pages) (hp_8 :
    8 ∈ my.pages) (hp_9 : 9 ∈ my.pages) (hp_11 : 11 ∈ my.pages) (hp_20 : 20 ∈ my.pages) (hp_21 : 21 ∈ my.pages) (hp_25 : 25
    ∈ my.pages) (hf_now : Field.now ∈ my.fields) : ∃ u, execFrameRx t p f s = .next u ∧ Only my s u := by
  have hs := Only.refl my s
  exact ⟨_, rfl, by simp +contextual (maxDischargeDepth := 99) [ht, hs, hf_regs, hf_freeIdx, hf_firstSeen, hf_spdRun,
      hf_qualLow, hf_yew, hf_yewPort, hf_hq, hf_cmpl, hf_cmplWait, hf_hirqLow, hf_nor, hf_pose, hf_map, hf_ports, hf_ring,
      hf_rtun, hp_4, hp_6, hp_7, hp_8, hp_9, hp_11, hp_20, hp_21, hp_25, hf_now]⟩

theorem execRingPoseWord_only {my : May} (t : Time) (p : Ring) (f : Frame) (s : State) (ht : (f.tun && isTunRequest f) =
    false) (hf_regs : Field.regs ∈ my.fields) (hf_freeIdx : Field.freeIdx ∈ my.fields) (hf_firstSeen : Field.firstSeen ∈
    my.fields) (hf_spdRun : Field.spdRun ∈ my.fields) (hf_qualLow : Field.qualLow ∈ my.fields) (hf_yew : Field.yew ∈
    my.fields) (hf_yewPort : Field.yewPort ∈ my.fields) (hf_hq : Field.hq ∈ my.fields) (hf_cmpl : Field.cmpl ∈ my.fields)
    (hf_cmplWait : Field.cmplWait ∈ my.fields) (hf_hirqLow : Field.hirqLow ∈ my.fields) (hf_nor : Field.nor ∈ my.fields)
    (hf_pose : Field.pose ∈ my.fields) (hf_map : Field.map ∈ my.fields) (hf_ports : Field.ports ∈ my.fields) (hf_ring :
    Field.ring ∈ my.fields) (hf_rtun : Field.rtun ∈ my.fields) (hp_4 : 4 ∈ my.pages) (hp_6 : 6 ∈ my.pages) (hp_7 : 7 ∈
    my.pages) (hp_8 : 8 ∈ my.pages) (hp_9 : 9 ∈ my.pages) (hp_11 : 11 ∈ my.pages) (hp_20 : 20 ∈ my.pages) (hp_21 : 21 ∈
    my.pages) (hp_25 : 25 ∈ my.pages) (hf_now : Field.now ∈ my.fields) : ∃ u, execRingPoseWord t p f s = .next u ∧ Only my s
    u := by
  have hs := Only.refl my s
  exact ⟨_, rfl, by simp +contextual (maxDischargeDepth := 99) [ht, hs, hf_regs, hf_freeIdx, hf_firstSeen, hf_spdRun,
      hf_qualLow, hf_yew, hf_yewPort, hf_hq, hf_cmpl, hf_cmplWait, hf_hirqLow, hf_nor, hf_pose, hf_map, hf_ports, hf_ring,
      hf_rtun, hp_4, hp_6, hp_7, hp_8, hp_9, hp_11, hp_20, hp_21, hp_25, hf_now]⟩

theorem execPresence_only {my : May} (t : Time) (p : Ring) (f : Frame) (s : State) (ht : (f.tun && isTunRequest f) = false)
    (hf_regs : Field.regs ∈ my.fields) (hf_freeIdx : Field.freeIdx ∈ my.fields) (hf_firstSeen : Field.firstSeen ∈ my.fields)
    (hf_spdRun : Field.spdRun ∈ my.fields) (hf_qualLow : Field.qualLow ∈ my.fields) (hf_yew : Field.yew ∈ my.fields)
    (hf_yewPort : Field.yewPort ∈ my.fields) (hf_hq : Field.hq ∈ my.fields) (hf_cmpl : Field.cmpl ∈ my.fields) (hf_cmplWait
    : Field.cmplWait ∈ my.fields) (hf_hirqLow : Field.hirqLow ∈ my.fields) (hf_nor : Field.nor ∈ my.fields) (hf_pose :
    Field.pose ∈ my.fields) (hf_map : Field.map ∈ my.fields) (hf_ports : Field.ports ∈ my.fields) (hf_ring : Field.ring ∈
    my.fields) (hf_rtun : Field.rtun ∈ my.fields) (hp_4 : 4 ∈ my.pages) (hp_6 : 6 ∈ my.pages) (hp_7 : 7 ∈ my.pages) (hp_8 :
    8 ∈ my.pages) (hp_9 : 9 ∈ my.pages) (hp_11 : 11 ∈ my.pages) (hp_20 : 20 ∈ my.pages) (hp_21 : 21 ∈ my.pages) (hp_25 : 25
    ∈ my.pages) (hf_now : Field.now ∈ my.fields) : ∃ u, execPresence t p f s = .next u ∧ Only my s u := by
  have hs := Only.refl my s
  exact ⟨_, rfl, by simp +contextual (maxDischargeDepth := 99) [ht, hs, hf_regs, hf_freeIdx, hf_firstSeen, hf_spdRun,
      hf_qualLow, hf_yew, hf_yewPort, hf_hq, hf_cmpl, hf_cmplWait, hf_hirqLow, hf_nor, hf_pose, hf_map, hf_ports, hf_ring,
      hf_rtun, hp_4, hp_6, hp_7, hp_8, hp_9, hp_11, hp_20, hp_21, hp_25, hf_now]⟩

theorem execStrokeFrame_only {my : May} (t : Time) (p : Ring) (f : Frame) (s : State) (ht : (f.tun && isTunRequest f) =
    false) (hf_regs : Field.regs ∈ my.fields) (hf_freeIdx : Field.freeIdx ∈ my.fields) (hf_firstSeen : Field.firstSeen ∈
    my.fields) (hf_spdRun : Field.spdRun ∈ my.fields) (hf_qualLow : Field.qualLow ∈ my.fields) (hf_yew : Field.yew ∈
    my.fields) (hf_yewPort : Field.yewPort ∈ my.fields) (hf_hq : Field.hq ∈ my.fields) (hf_cmpl : Field.cmpl ∈ my.fields)
    (hf_cmplWait : Field.cmplWait ∈ my.fields) (hf_hirqLow : Field.hirqLow ∈ my.fields) (hf_nor : Field.nor ∈ my.fields)
    (hf_pose : Field.pose ∈ my.fields) (hf_map : Field.map ∈ my.fields) (hf_ports : Field.ports ∈ my.fields) (hf_ring :
    Field.ring ∈ my.fields) (hf_rtun : Field.rtun ∈ my.fields) (hp_4 : 4 ∈ my.pages) (hp_6 : 6 ∈ my.pages) (hp_7 : 7 ∈
    my.pages) (hp_8 : 8 ∈ my.pages) (hp_9 : 9 ∈ my.pages) (hp_11 : 11 ∈ my.pages) (hp_20 : 20 ∈ my.pages) (hp_21 : 21 ∈
    my.pages) (hp_25 : 25 ∈ my.pages) (hf_now : Field.now ∈ my.fields) : ∃ u, execStrokeFrame t p f s = .next u ∧ Only my s
    u := by
  have hs := Only.refl my s
  exact ⟨_, rfl, by simp +contextual (maxDischargeDepth := 99) [ht, hs, hf_regs, hf_freeIdx, hf_firstSeen, hf_spdRun,
      hf_qualLow, hf_yew, hf_yewPort, hf_hq, hf_cmpl, hf_cmplWait, hf_hirqLow, hf_nor, hf_pose, hf_map, hf_ports, hf_ring,
      hf_rtun, hp_4, hp_6, hp_7, hp_8, hp_9, hp_11, hp_20, hp_21, hp_25, hf_now]⟩

theorem execEnumFull_only {my : May} (t : Time) (p : Ring) (f : Frame) (s : State) (ht : (f.tun && isTunRequest f) = false)
    (hf_regs : Field.regs ∈ my.fields) (hf_freeIdx : Field.freeIdx ∈ my.fields) (hf_firstSeen : Field.firstSeen ∈ my.fields)
    (hf_spdRun : Field.spdRun ∈ my.fields) (hf_qualLow : Field.qualLow ∈ my.fields) (hf_yew : Field.yew ∈ my.fields)
    (hf_yewPort : Field.yewPort ∈ my.fields) (hf_hq : Field.hq ∈ my.fields) (hf_cmpl : Field.cmpl ∈ my.fields) (hf_cmplWait
    : Field.cmplWait ∈ my.fields) (hf_hirqLow : Field.hirqLow ∈ my.fields) (hf_nor : Field.nor ∈ my.fields) (hf_pose :
    Field.pose ∈ my.fields) (hf_map : Field.map ∈ my.fields) (hf_ports : Field.ports ∈ my.fields) (hf_ring : Field.ring ∈
    my.fields) (hf_rtun : Field.rtun ∈ my.fields) (hp_4 : 4 ∈ my.pages) (hp_6 : 6 ∈ my.pages) (hp_7 : 7 ∈ my.pages) (hp_8 :
    8 ∈ my.pages) (hp_9 : 9 ∈ my.pages) (hp_11 : 11 ∈ my.pages) (hp_20 : 20 ∈ my.pages) (hp_21 : 21 ∈ my.pages) (hp_25 : 25
    ∈ my.pages) (hf_now : Field.now ∈ my.fields) : ∃ u, execEnumFull t p f s = .next u ∧ Only my s u := by
  have hs := Only.refl my s
  exact ⟨_, rfl, by simp +contextual (maxDischargeDepth := 99) [ht, hs, hf_regs, hf_freeIdx, hf_firstSeen, hf_spdRun,
      hf_qualLow, hf_yew, hf_yewPort, hf_hq, hf_cmpl, hf_cmplWait, hf_hirqLow, hf_nor, hf_pose, hf_map, hf_ports, hf_ring,
      hf_rtun, hp_4, hp_6, hp_7, hp_8, hp_9, hp_11, hp_20, hp_21, hp_25, hf_now]⟩

theorem execEnumDone_only {my : May} (t : Time) (p : Ring) (f : Frame) (s : State) (ht : (f.tun && isTunRequest f) = false)
    (hf_regs : Field.regs ∈ my.fields) (hf_freeIdx : Field.freeIdx ∈ my.fields) (hf_firstSeen : Field.firstSeen ∈ my.fields)
    (hf_spdRun : Field.spdRun ∈ my.fields) (hf_qualLow : Field.qualLow ∈ my.fields) (hf_yew : Field.yew ∈ my.fields)
    (hf_yewPort : Field.yewPort ∈ my.fields) (hf_hq : Field.hq ∈ my.fields) (hf_cmpl : Field.cmpl ∈ my.fields) (hf_cmplWait
    : Field.cmplWait ∈ my.fields) (hf_hirqLow : Field.hirqLow ∈ my.fields) (hf_nor : Field.nor ∈ my.fields) (hf_pose :
    Field.pose ∈ my.fields) (hf_map : Field.map ∈ my.fields) (hf_ports : Field.ports ∈ my.fields) (hf_ring : Field.ring ∈
    my.fields) (hf_rtun : Field.rtun ∈ my.fields) (hp_4 : 4 ∈ my.pages) (hp_6 : 6 ∈ my.pages) (hp_7 : 7 ∈ my.pages) (hp_8 :
    8 ∈ my.pages) (hp_9 : 9 ∈ my.pages) (hp_11 : 11 ∈ my.pages) (hp_20 : 20 ∈ my.pages) (hp_21 : 21 ∈ my.pages) (hp_25 : 25
    ∈ my.pages) (hf_now : Field.now ∈ my.fields) : ∃ u, execEnumDone t p f s = .next u ∧ Only my s u := by
  have hs := Only.refl my s
  exact ⟨_, rfl, by simp +contextual (maxDischargeDepth := 99) [ht, hs, hf_regs, hf_freeIdx, hf_firstSeen, hf_spdRun,
      hf_qualLow, hf_yew, hf_yewPort, hf_hq, hf_cmpl, hf_cmplWait, hf_hirqLow, hf_nor, hf_pose, hf_map, hf_ports, hf_ring,
      hf_rtun, hp_4, hp_6, hp_7, hp_8, hp_9, hp_11, hp_20, hp_21, hp_25, hf_now]⟩

theorem execJoin_only {my : May} (t : Time) (p : Ring) (f : Frame) (s : State) (ht : (f.tun && isTunRequest f) = false)
    (hf_regs : Field.regs ∈ my.fields) (hf_freeIdx : Field.freeIdx ∈ my.fields) (hf_firstSeen : Field.firstSeen ∈ my.fields)
    (hf_spdRun : Field.spdRun ∈ my.fields) (hf_qualLow : Field.qualLow ∈ my.fields) (hf_yew : Field.yew ∈ my.fields)
    (hf_yewPort : Field.yewPort ∈ my.fields) (hf_hq : Field.hq ∈ my.fields) (hf_cmpl : Field.cmpl ∈ my.fields) (hf_cmplWait
    : Field.cmplWait ∈ my.fields) (hf_hirqLow : Field.hirqLow ∈ my.fields) (hf_nor : Field.nor ∈ my.fields) (hf_pose :
    Field.pose ∈ my.fields) (hf_map : Field.map ∈ my.fields) (hf_ports : Field.ports ∈ my.fields) (hf_ring : Field.ring ∈
    my.fields) (hf_rtun : Field.rtun ∈ my.fields) (hp_4 : 4 ∈ my.pages) (hp_6 : 6 ∈ my.pages) (hp_7 : 7 ∈ my.pages) (hp_8 :
    8 ∈ my.pages) (hp_9 : 9 ∈ my.pages) (hp_11 : 11 ∈ my.pages) (hp_20 : 20 ∈ my.pages) (hp_21 : 21 ∈ my.pages) (hp_25 : 25
    ∈ my.pages) (hf_now : Field.now ∈ my.fields) : ∃ u, execJoin t p f s = .next u ∧ Only my s u := by
  have hs := Only.refl my s
  exact ⟨_, rfl, by simp +contextual (maxDischargeDepth := 99) [ht, hs, hf_regs, hf_freeIdx, hf_firstSeen, hf_spdRun,
      hf_qualLow, hf_yew, hf_yewPort, hf_hq, hf_cmpl, hf_cmplWait, hf_hirqLow, hf_nor, hf_pose, hf_map, hf_ports, hf_ring,
      hf_rtun, hp_4, hp_6, hp_7, hp_8, hp_9, hp_11, hp_20, hp_21, hp_25, hf_now]⟩

theorem execRingDataFrame_only {my : May} (t : Time) (p : Ring) (f : Frame) (s : State) (ht : (f.tun && isTunRequest f) =
    false) (hf_regs : Field.regs ∈ my.fields) (hf_freeIdx : Field.freeIdx ∈ my.fields) (hf_firstSeen : Field.firstSeen ∈
    my.fields) (hf_spdRun : Field.spdRun ∈ my.fields) (hf_qualLow : Field.qualLow ∈ my.fields) (hf_yew : Field.yew ∈
    my.fields) (hf_yewPort : Field.yewPort ∈ my.fields) (hf_hq : Field.hq ∈ my.fields) (hf_cmpl : Field.cmpl ∈ my.fields)
    (hf_cmplWait : Field.cmplWait ∈ my.fields) (hf_hirqLow : Field.hirqLow ∈ my.fields) (hf_nor : Field.nor ∈ my.fields)
    (hf_pose : Field.pose ∈ my.fields) (hf_map : Field.map ∈ my.fields) (hf_ports : Field.ports ∈ my.fields) (hf_ring :
    Field.ring ∈ my.fields) (hf_rtun : Field.rtun ∈ my.fields) (hp_4 : 4 ∈ my.pages) (hp_6 : 6 ∈ my.pages) (hp_7 : 7 ∈
    my.pages) (hp_8 : 8 ∈ my.pages) (hp_9 : 9 ∈ my.pages) (hp_11 : 11 ∈ my.pages) (hp_20 : 20 ∈ my.pages) (hp_21 : 21 ∈
    my.pages) (hp_25 : 25 ∈ my.pages) (hf_now : Field.now ∈ my.fields) : ∃ u, execRingDataFrame t p f s = .next u ∧ Only my
    s u := by
  have hs := Only.refl my s
  exact ⟨_, rfl, by simp +contextual (maxDischargeDepth := 99) [ht, hs, hf_regs, hf_freeIdx, hf_firstSeen, hf_spdRun,
      hf_qualLow, hf_yew, hf_yewPort, hf_hq, hf_cmpl, hf_cmplWait, hf_hirqLow, hf_nor, hf_pose, hf_map, hf_ports, hf_ring,
      hf_rtun, hp_4, hp_6, hp_7, hp_8, hp_9, hp_11, hp_20, hp_21, hp_25, hf_now]⟩

theorem execAckFrame_only {my : May} (t : Time) (p : Ring) (f : Frame) (s : State) (ht : (f.tun && isTunRequest f) = false)
    (hf_regs : Field.regs ∈ my.fields) (hf_freeIdx : Field.freeIdx ∈ my.fields) (hf_firstSeen : Field.firstSeen ∈ my.fields)
    (hf_spdRun : Field.spdRun ∈ my.fields) (hf_qualLow : Field.qualLow ∈ my.fields) (hf_yew : Field.yew ∈ my.fields)
    (hf_yewPort : Field.yewPort ∈ my.fields) (hf_hq : Field.hq ∈ my.fields) (hf_cmpl : Field.cmpl ∈ my.fields) (hf_cmplWait
    : Field.cmplWait ∈ my.fields) (hf_hirqLow : Field.hirqLow ∈ my.fields) (hf_nor : Field.nor ∈ my.fields) (hf_pose :
    Field.pose ∈ my.fields) (hf_map : Field.map ∈ my.fields) (hf_ports : Field.ports ∈ my.fields) (hf_ring : Field.ring ∈
    my.fields) (hf_rtun : Field.rtun ∈ my.fields) (hp_4 : 4 ∈ my.pages) (hp_6 : 6 ∈ my.pages) (hp_7 : 7 ∈ my.pages) (hp_8 :
    8 ∈ my.pages) (hp_9 : 9 ∈ my.pages) (hp_11 : 11 ∈ my.pages) (hp_20 : 20 ∈ my.pages) (hp_21 : 21 ∈ my.pages) (hp_25 : 25
    ∈ my.pages) (hf_now : Field.now ∈ my.fields) : ∃ u, execAckFrame t p f s = .next u ∧ Only my s u := by
  have hs := Only.refl my s
  exact ⟨_, rfl, by simp +contextual (maxDischargeDepth := 99) [ht, hs, hf_regs, hf_freeIdx, hf_firstSeen, hf_spdRun,
      hf_qualLow, hf_yew, hf_yewPort, hf_hq, hf_cmpl, hf_cmplWait, hf_hirqLow, hf_nor, hf_pose, hf_map, hf_ports, hf_ring,
      hf_rtun, hp_4, hp_6, hp_7, hp_8, hp_9, hp_11, hp_20, hp_21, hp_25, hf_now]⟩

theorem execNakFrame_only {my : May} (t : Time) (p : Ring) (f : Frame) (s : State) (ht : (f.tun && isTunRequest f) = false)
    (hf_regs : Field.regs ∈ my.fields) (hf_freeIdx : Field.freeIdx ∈ my.fields) (hf_firstSeen : Field.firstSeen ∈ my.fields)
    (hf_spdRun : Field.spdRun ∈ my.fields) (hf_qualLow : Field.qualLow ∈ my.fields) (hf_yew : Field.yew ∈ my.fields)
    (hf_yewPort : Field.yewPort ∈ my.fields) (hf_hq : Field.hq ∈ my.fields) (hf_cmpl : Field.cmpl ∈ my.fields) (hf_cmplWait
    : Field.cmplWait ∈ my.fields) (hf_hirqLow : Field.hirqLow ∈ my.fields) (hf_nor : Field.nor ∈ my.fields) (hf_pose :
    Field.pose ∈ my.fields) (hf_map : Field.map ∈ my.fields) (hf_ports : Field.ports ∈ my.fields) (hf_ring : Field.ring ∈
    my.fields) (hf_rtun : Field.rtun ∈ my.fields) (hp_4 : 4 ∈ my.pages) (hp_6 : 6 ∈ my.pages) (hp_7 : 7 ∈ my.pages) (hp_8 :
    8 ∈ my.pages) (hp_9 : 9 ∈ my.pages) (hp_11 : 11 ∈ my.pages) (hp_20 : 20 ∈ my.pages) (hp_21 : 21 ∈ my.pages) (hp_25 : 25
    ∈ my.pages) (hf_now : Field.now ∈ my.fields) : ∃ u, execNakFrame t p f s = .next u ∧ Only my s u := by
  have hs := Only.refl my s
  exact ⟨_, rfl, by simp +contextual (maxDischargeDepth := 99) [ht, hs, hf_regs, hf_freeIdx, hf_firstSeen, hf_spdRun,
      hf_qualLow, hf_yew, hf_yewPort, hf_hq, hf_cmpl, hf_cmplWait, hf_hirqLow, hf_nor, hf_pose, hf_map, hf_ports, hf_ring,
      hf_rtun, hp_4, hp_6, hp_7, hp_8, hp_9, hp_11, hp_20, hp_21, hp_25, hf_now]⟩

theorem execQbrSegment_only {my : May} (t : Time) (p : Ring) (f : Frame) (s : State) (ht : (f.tun && isTunRequest f) =
    false) (hf_regs : Field.regs ∈ my.fields) (hf_freeIdx : Field.freeIdx ∈ my.fields) (hf_firstSeen : Field.firstSeen ∈
    my.fields) (hf_spdRun : Field.spdRun ∈ my.fields) (hf_qualLow : Field.qualLow ∈ my.fields) (hf_yew : Field.yew ∈
    my.fields) (hf_yewPort : Field.yewPort ∈ my.fields) (hf_hq : Field.hq ∈ my.fields) (hf_cmpl : Field.cmpl ∈ my.fields)
    (hf_cmplWait : Field.cmplWait ∈ my.fields) (hf_hirqLow : Field.hirqLow ∈ my.fields) (hf_nor : Field.nor ∈ my.fields)
    (hf_pose : Field.pose ∈ my.fields) (hf_map : Field.map ∈ my.fields) (hf_ports : Field.ports ∈ my.fields) (hf_ring :
    Field.ring ∈ my.fields) (hf_rtun : Field.rtun ∈ my.fields) (hp_4 : 4 ∈ my.pages) (hp_6 : 6 ∈ my.pages) (hp_7 : 7 ∈
    my.pages) (hp_8 : 8 ∈ my.pages) (hp_9 : 9 ∈ my.pages) (hp_11 : 11 ∈ my.pages) (hp_20 : 20 ∈ my.pages) (hp_21 : 21 ∈
    my.pages) (hp_25 : 25 ∈ my.pages) (hf_now : Field.now ∈ my.fields) : ∃ u, execQbrSegment t p f s = .next u ∧ Only my s u
    := by
  have hs := Only.refl my s
  exact ⟨_, rfl, by simp +contextual (maxDischargeDepth := 99) [ht, hs, hf_regs, hf_freeIdx, hf_firstSeen, hf_spdRun,
      hf_qualLow, hf_yew, hf_yewPort, hf_hq, hf_cmpl, hf_cmplWait, hf_hirqLow, hf_nor, hf_pose, hf_map, hf_ports, hf_ring,
      hf_rtun, hp_4, hp_6, hp_7, hp_8, hp_9, hp_11, hp_20, hp_21, hp_25, hf_now]⟩

theorem execTunResponse_only {my : May} (t : Time) (p : Ring) (f : Frame) (s : State) (ht : (f.tun && isTunRequest f) =
    false) (hf_regs : Field.regs ∈ my.fields) (hf_freeIdx : Field.freeIdx ∈ my.fields) (hf_firstSeen : Field.firstSeen ∈
    my.fields) (hf_spdRun : Field.spdRun ∈ my.fields) (hf_qualLow : Field.qualLow ∈ my.fields) (hf_yew : Field.yew ∈
    my.fields) (hf_yewPort : Field.yewPort ∈ my.fields) (hf_hq : Field.hq ∈ my.fields) (hf_cmpl : Field.cmpl ∈ my.fields)
    (hf_cmplWait : Field.cmplWait ∈ my.fields) (hf_hirqLow : Field.hirqLow ∈ my.fields) (hf_nor : Field.nor ∈ my.fields)
    (hf_pose : Field.pose ∈ my.fields) (hf_map : Field.map ∈ my.fields) (hf_ports : Field.ports ∈ my.fields) (hf_ring :
    Field.ring ∈ my.fields) (hf_rtun : Field.rtun ∈ my.fields) (hp_4 : 4 ∈ my.pages) (hp_6 : 6 ∈ my.pages) (hp_7 : 7 ∈
    my.pages) (hp_8 : 8 ∈ my.pages) (hp_9 : 9 ∈ my.pages) (hp_11 : 11 ∈ my.pages) (hp_20 : 20 ∈ my.pages) (hp_21 : 21 ∈
    my.pages) (hp_25 : 25 ∈ my.pages) (hf_now : Field.now ∈ my.fields) : ∃ u, execTunResponse t p f s = .next u ∧ Only my s
    u := by
  have hs := Only.refl my s
  exact ⟨_, rfl, by simp +contextual (maxDischargeDepth := 99) [ht, hs, hf_regs, hf_freeIdx, hf_firstSeen, hf_spdRun,
      hf_qualLow, hf_yew, hf_yewPort, hf_hq, hf_cmpl, hf_cmplWait, hf_hirqLow, hf_nor, hf_pose, hf_map, hf_ports, hf_ring,
      hf_rtun, hp_4, hp_6, hp_7, hp_8, hp_9, hp_11, hp_20, hp_21, hp_25, hf_now]⟩

end Sys2Proof.Machine
end

