-- ==== Sys2Proof/Laws/Vector.lean ====
section
/-! SUPPORT. Reading a vector after one element was set or changed. -/
namespace Sys2Proof.Machine

@[simp] theorem vget_set_self {α : Type} {n : Nat} (v : Vector α n) (i : Fin n) (x : α) : (v.set i x).get i = x := by
  show (v.set i x)[i] = x
  simp

@[simp] theorem vget_set_ne {α : Type} {n : Nat} (v : Vector α n) (i j : Fin n) (x : α) (h : j ≠ i) :
    (v.set i x).get j = v.get j := by
  show (v.set i x)[j] = v[j]
  simp only [Fin.getElem_fin]
  rw [Vector.getElem_set_ne]
  omega

@[simp] theorem vmod_self {α : Type} {n : Nat} (v : Vector α n) (i : Fin n) (f : α → α) : (vmod v i f).get i = f (v.get i) := by
  simp [vmod]

@[simp] theorem vmod_ne {α : Type} {n : Nat} (v : Vector α n) (i j : Fin n) (f : α → α) (h : j ≠ i) :
    (vmod v i f).get j = v.get j := by
  unfold vmod
  exact vget_set_ne _ _ _ _ h

/-- The queue that a change of queue `q` gives, and every other queue. -/
@[simp] theorem State.modQ_q_self (s : State) (q : Nat) (f : Queue → Queue) : (s.modQ q f).q q = f (s.q q) := by
  unfold State.modQ State.q
  exact vmod_self _ _ _

theorem State.modQ_q_ne (s : State) (q r : Nat) (f : Queue → Queue) (h : r % 32 ≠ q % 32) : (s.modQ q f).q r = s.q r := by
  unfold State.modQ State.q
  apply vmod_ne
  intro e
  exact h (congrArg Fin.val e)

end Sys2Proof.Machine
end

