-- ==== Sys2Proof/Laws/Pump.lean ====
section
/-! SUPPORT. What carrying a long command on does to the host queues: it appends items to device-to-host queues and leaves the
sequence numbers and the open item of host-to-device queues. -/
set_option linter.unusedSimpArgs false
set_option linter.unusedVariables false
namespace Sys2Proof.Machine

/-- From the queues `x` to the queues `y`: items are only appended; the sequence number and the open item of a host-to-device
queue stay. -/
def Grown (x y : Vector Queue 32) : Prop :=
  ∀ i : Fin 32, (∃ l, (y.get i).items = (x.get i).items ++ l) ∧
    (qH2D i.val = true → (y.get i).seq = (x.get i).seq ∧ (y.get i).open_ = (x.get i).open_)

/-- Everything but the host queues. -/
def mayButQueues : May :=
  { fields := [.pending, .now, .member, .dev, .prev, .devAt, .devLog, .regs, .frozen, .held, .freeIdx, .firstSeen, .pfail, .pfailBalls, .clockLost,
      .supplySafe, .inRange, .idleDrain, .ctrlDue, .waking, .patchOk, .checking, .sealExp, .sealSnap, .sealFail, .spdRun,
      .qualLow, .romFail, .tempSeen, .yew, .yewPort, .yewCfg, .cmpl, .cmplWait, .dropQ, .hirqLow, .hirqRose, .mbox, .nor, .laurel,
      .lanes, .banks, .pwm, .eng, .fbk, .syncIn, .syncOut, .pose, .imu, .trav, .fpe, .gnss, .time, .map, .ports, .ring,
      .rtime, .rtun, .hostTx, .lastRead, .tdo, .extest],
    pages := List.range 256, lanes := List.finRange 16, cfg := true }

theorem Only.hq_eq {s u : State} (h : Only mayButQueues s u) : u.hq = s.hq := h.hq (by simp [mayButQueues])

theorem mbq_page (p : Nat) : mayButQueues.page p := by
  unfold May.page
  split
  · simpa [mayButQueues] using ‹_›
  · exact ⟨⟨p % 16, by omega⟩, List.mem_finRange _, rfl⟩

theorem mbq_reg (a : Nat) : mayButQueues.reg a := ⟨mbq_page _, Or.inl rfl⟩

theorem Grown.refl (x : Vector Queue 32) : Grown x x := fun _ => ⟨⟨[], by simp⟩, fun _ => ⟨rfl, rfl⟩⟩

theorem Grown.trans {x y z : Vector Queue 32} (h : Grown x y) (k : Grown y z) : Grown x z := by
  intro i
  obtain ⟨⟨l, hl⟩, h2⟩ := h i
  obtain ⟨⟨m, hm⟩, k2⟩ := k i
  exact ⟨⟨l ++ m, by rw [hm, hl, List.append_assoc]⟩, fun q => ⟨(k2 q).1.trans (h2 q).1, (k2 q).2.trans (h2 q).2⟩⟩

/-- An update of one queue that only appends items, and keeps SEQ and the open item where it is host-to-device. -/
theorem grown_modQ (s : State) (q : Nat) (f : Queue → Queue) (hi : ∀ u, ∃ l, (f u).items = u.items ++ l)
    (hs : qH2D (q % 32) = true → ∀ u, (f u).seq = u.seq ∧ (f u).open_ = u.open_) : Grown s.hq (s.modQ q f).hq := by
  intro i
  show (∃ l, ((vmod s.hq (Fin.ofNat 32 q) f).get i).items = _) ∧ _
  by_cases e : i = Fin.ofNat 32 q
  · subst e
    rw [State.modQ, vmod_self]
    exact ⟨hi _, fun h => hs h _⟩
  · rw [State.modQ, vmod_ne _ _ _ _ e]
    exact ⟨⟨[], by simp⟩, fun _ => ⟨rfl, rfl⟩⟩

theorem mbq_mem {f : Field} (h : f ≠ .hq) : f ∈ mayButQueues.fields := by
  cases f <;> first | exact absurd rfl h | simp [mayButQueues]

@[simp] theorem mbq_pending : Field.pending ∈ mayButQueues.fields := mbq_mem nofun
@[simp] theorem mbq_now : Field.now ∈ mayButQueues.fields := mbq_mem nofun
@[simp] theorem mbq_member : Field.member ∈ mayButQueues.fields := mbq_mem nofun
@[simp] theorem mbq_dev : Field.dev ∈ mayButQueues.fields := mbq_mem nofun
@[simp] theorem mbq_prev : Field.prev ∈ mayButQueues.fields := mbq_mem nofun
@[simp] theorem mbq_devAt : Field.devAt ∈ mayButQueues.fields := mbq_mem nofun
@[simp] theorem mbq_devLog : Field.devLog ∈ mayButQueues.fields := mbq_mem nofun
@[simp] theorem mbq_pfailBalls : Field.pfailBalls ∈ mayButQueues.fields := mbq_mem nofun
@[simp] theorem mbq_cmplWait : Field.cmplWait ∈ mayButQueues.fields := mbq_mem nofun
@[simp] theorem mbq_regs : Field.regs ∈ mayButQueues.fields := mbq_mem nofun
@[simp] theorem mbq_frozen : Field.frozen ∈ mayButQueues.fields := mbq_mem nofun
@[simp] theorem mbq_held : Field.held ∈ mayButQueues.fields := mbq_mem nofun
@[simp] theorem mbq_freeIdx : Field.freeIdx ∈ mayButQueues.fields := mbq_mem nofun
@[simp] theorem mbq_firstSeen : Field.firstSeen ∈ mayButQueues.fields := mbq_mem nofun
@[simp] theorem mbq_pfail : Field.pfail ∈ mayButQueues.fields := mbq_mem nofun
@[simp] theorem mbq_clockLost : Field.clockLost ∈ mayButQueues.fields := mbq_mem nofun
@[simp] theorem mbq_supplySafe : Field.supplySafe ∈ mayButQueues.fields := mbq_mem nofun
@[simp] theorem mbq_inRange : Field.inRange ∈ mayButQueues.fields := mbq_mem nofun
@[simp] theorem mbq_idleDrain : Field.idleDrain ∈ mayButQueues.fields := mbq_mem nofun
@[simp] theorem mbq_ctrlDue : Field.ctrlDue ∈ mayButQueues.fields := mbq_mem nofun
@[simp] theorem mbq_waking : Field.waking ∈ mayButQueues.fields := mbq_mem nofun
@[simp] theorem mbq_patchOk : Field.patchOk ∈ mayButQueues.fields := mbq_mem nofun
@[simp] theorem mbq_checking : Field.checking ∈ mayButQueues.fields := mbq_mem nofun
@[simp] theorem mbq_sealExp : Field.sealExp ∈ mayButQueues.fields := mbq_mem nofun
@[simp] theorem mbq_sealSnap : Field.sealSnap ∈ mayButQueues.fields := mbq_mem nofun
@[simp] theorem mbq_sealFail : Field.sealFail ∈ mayButQueues.fields := mbq_mem nofun
@[simp] theorem mbq_spdRun : Field.spdRun ∈ mayButQueues.fields := mbq_mem nofun
@[simp] theorem mbq_qualLow : Field.qualLow ∈ mayButQueues.fields := mbq_mem nofun
@[simp] theorem mbq_romFail : Field.romFail ∈ mayButQueues.fields := mbq_mem nofun
@[simp] theorem mbq_tempSeen : Field.tempSeen ∈ mayButQueues.fields := mbq_mem nofun
@[simp] theorem mbq_yew : Field.yew ∈ mayButQueues.fields := mbq_mem nofun
@[simp] theorem mbq_yewPort : Field.yewPort ∈ mayButQueues.fields := mbq_mem nofun
@[simp] theorem mbq_yewCfg : Field.yewCfg ∈ mayButQueues.fields := mbq_mem nofun
@[simp] theorem mbq_cmpl : Field.cmpl ∈ mayButQueues.fields := mbq_mem nofun
@[simp] theorem mbq_dropQ : Field.dropQ ∈ mayButQueues.fields := mbq_mem nofun
@[simp] theorem mbq_hirqLow : Field.hirqLow ∈ mayButQueues.fields := mbq_mem nofun
@[simp] theorem mbq_hirqRose : Field.hirqRose ∈ mayButQueues.fields := mbq_mem nofun
@[simp] theorem mbq_mbox : Field.mbox ∈ mayButQueues.fields := mbq_mem nofun
@[simp] theorem mbq_nor : Field.nor ∈ mayButQueues.fields := mbq_mem nofun
@[simp] theorem mbq_laurel : Field.laurel ∈ mayButQueues.fields := mbq_mem nofun
@[simp] theorem mbq_lanes : Field.lanes ∈ mayButQueues.fields := mbq_mem nofun
@[simp] theorem mbq_banks : Field.banks ∈ mayButQueues.fields := mbq_mem nofun
@[simp] theorem mbq_pwm : Field.pwm ∈ mayButQueues.fields := mbq_mem nofun
@[simp] theorem mbq_eng : Field.eng ∈ mayButQueues.fields := mbq_mem nofun
@[simp] theorem mbq_fbk : Field.fbk ∈ mayButQueues.fields := mbq_mem nofun
@[simp] theorem mbq_syncIn : Field.syncIn ∈ mayButQueues.fields := mbq_mem nofun
@[simp] theorem mbq_syncOut : Field.syncOut ∈ mayButQueues.fields := mbq_mem nofun
@[simp] theorem mbq_pose : Field.pose ∈ mayButQueues.fields := mbq_mem nofun
@[simp] theorem mbq_imu : Field.imu ∈ mayButQueues.fields := mbq_mem nofun
@[simp] theorem mbq_trav : Field.trav ∈ mayButQueues.fields := mbq_mem nofun
@[simp] theorem mbq_fpe : Field.fpe ∈ mayButQueues.fields := mbq_mem nofun
@[simp] theorem mbq_gnss : Field.gnss ∈ mayButQueues.fields := mbq_mem nofun
@[simp] theorem mbq_time : Field.time ∈ mayButQueues.fields := mbq_mem nofun
@[simp] theorem mbq_map : Field.map ∈ mayButQueues.fields := mbq_mem nofun
@[simp] theorem mbq_ports : Field.ports ∈ mayButQueues.fields := mbq_mem nofun
@[simp] theorem mbq_ring : Field.ring ∈ mayButQueues.fields := mbq_mem nofun
@[simp] theorem mbq_rtime : Field.rtime ∈ mayButQueues.fields := mbq_mem nofun
@[simp] theorem mbq_rtun : Field.rtun ∈ mayButQueues.fields := mbq_mem nofun
@[simp] theorem mbq_hostTx : Field.hostTx ∈ mayButQueues.fields := mbq_mem nofun
@[simp] theorem mbq_lastRead : Field.lastRead ∈ mayButQueues.fields := mbq_mem nofun
@[simp] theorem mbq_tdo : Field.tdo ∈ mayButQueues.fields := mbq_mem nofun
@[simp] theorem mbq_extest : Field.extest ∈ mayButQueues.fields := mbq_mem nofun
@[simp] theorem mbq_pageIx (p : Nat) (h : p < 256) : p ∈ mayButQueues.pages := by simpa [mayButQueues] using h
@[simp] theorem mbq_lane (n : LaneIx) : n ∈ mayButQueues.lanes := List.mem_finRange n

/-- An operation that leaves the host queues. -/
theorem Grown.of_only {s u : State} (h : Only mayButQueues s u) : Grown s.hq u.hq := by
  rw [h.hq_eq]
  exact Grown.refl _

/-- An operation made of one that leaves the queues. -/
theorem Grown.then {z : Vector Queue 32} {s u : State} (g : Grown z s.hq) (h : Only mayButQueues s u) : Grown z u.hq :=
  g.trans (.of_only h)

theorem State.post_grown (s : State) (q : Nat) (tag : BitVec 16) (d : List Byte) (hq : qH2D (q % 32) = false) :
    Grown s.hq (s.post q tag d).2.hq := by
  unfold State.post
  split
  · have k := grown_modQ s q
      (fun u => { u with items := u.items ++ [{ seq := (s.q q).seq, tag := tag, time := s.now, data := d }], seq := u.seq + 1 })
      (fun u => ⟨_, rfl⟩) (fun h => by rw [hq] at h; cases h)
    have f : ∀ (v : State) (c : Bool) (a b : Nat), Only mayButQueues v (if c then (v.thrCross q a b).ageHead q else v.thrCross q a b) := by
      intro v c a b
      have r := Only.refl mayButQueues v
      split <;> simp +contextual (maxDischargeDepth := 99) [r, mbq_regs, mbq_hirqLow, mbq_firstSeen, mbq_yew, mbq_cmpl, mbq_pageIx]
    exact k.then (f _ _ _ _)
  · exact Grown.refl _

theorem State.retire_grown (s : State) (q n st d : Nat) : Grown s.hq (s.retire q n st d).hq := by
  unfold State.retire
  dsimp only
  have f : ∀ (v : State) (a b : Nat) (g : Seg), Only mayButQueues v ((v.thrCross q a b).completeItem q g st d) := by
    intro v a b g
    have r := Only.refl mayButQueues v
    simp +contextual (maxDischargeDepth := 99) [r, mbq_regs, mbq_hirqLow, mbq_firstSeen, mbq_yew, mbq_cmpl, mbq_pageIx]
  have k := grown_modQ s q
    (fun u => { u with segs := u.segs.drop n, taken := u.taken - n, passed := (u.passed + 1) % 4294967296 })
    (fun u => ⟨[], by simp⟩) (fun _ u => ⟨rfl, rfl⟩)
  exact k.then (f _ _ _ _)

theorem State.takeSeg_grown (s : State) (g : Seg) : Grown s.hq (s.takeSeg g).hq := by
  unfold State.takeSeg
  split
  · exact State.retire_grown s 4 1 _ _
  · dsimp only
    have f : ∀ (v : State) (a b : Nat), Only mayButQueues v (v.thrCross 4 a b) := by
      intro v a b
      have r := Only.refl mayButQueues v
      simp +contextual (maxDischargeDepth := 99) [r, mbq_regs, mbq_hirqLow, mbq_firstSeen, mbq_yew, mbq_cmpl, mbq_pageIx]
    have k := grown_modQ s 4 (fun u => { u with segs := u.segs.drop 1 }) (fun u => ⟨[], by simp⟩) (fun _ u => ⟨rfl, rfl⟩)
    exact k.then (f _ _ _)

theorem State.bridgePump_grown (s : State) (q : Nat) : Grown s.hq (s.bridgePump q).hq := by
  unfold State.bridgePump
  split
  · dsimp only
    refine Grown.then (grown_modQ s q (fun u => { u with bridged := u.items.length }) (fun u => ⟨[], by simp⟩) (fun _ u => ⟨rfl, rfl⟩)) ?_
    refine foldl_only _ _ (Only.refl _ _) (fun w x hw => foldl_only _ _ hw (fun v y hv => ?_))
    simp [hv, mbq_ports, mbq_ring]
  · exact Grown.refl _

theorem State.postItem_grown (s : State) (q : Nat) (tag : BitVec 16) (d : List Byte) (hq : qH2D (q % 32) = false) :
    Grown s.hq (s.postItem q tag d).2.hq := by
  have k := State.post_grown s q tag d hq
  unfold State.postItem
  revert k
  rcases s.post q tag d with ⟨b, u⟩
  intro k
  cases b
  · exact k
  · dsimp only
    split
    · exact k.trans (State.bridgePump_grown u q)
    · exact k

theorem State.takePayload_grown {o : State} (s : State) (c : LongCmd) (p l : Nat) (e : s.takePayload c p l = some o) : Grown s.hq o.hq := by
  have r := Only.refl mayButQueues s
  unfold State.takePayload at e
  split at e
  · cases e
  · simp only [Option.some.injEq] at e
    subst e
    exact Grown.of_only (by simp +contextual (maxDischargeDepth := 99) [r, mbq_regs, mbq_nor, mbq_yewPort, mbq_pageIx])
  · simp only [Option.some.injEq] at e
    subst e
    exact (Grown.of_only (by simp +contextual (maxDischargeDepth := 99) [r, mbq_regs, mbq_nor, mbq_yewPort, mbq_pageIx])).trans (State.takeSeg_grown _ _)

theorem State.eraseStep_grown {o : State} (s : State) (c : LongCmd) (e : s.eraseStep c = some o) : Grown s.hq o.hq := by
  have r := Only.refl mayButQueues s
  unfold State.eraseStep at e
  dsimp only at e
  split at e <;> simp only [Option.some.injEq] at e <;> subst e <;> exact Grown.of_only (by simp +contextual (maxDischargeDepth := 99) [r, mbq_regs, mbq_nor, mbq_yewPort, mbq_pageIx])

theorem State.cfgStep_grown {o : State} (s : State) (c : LongCmd) (e : s.cfgStep c = some o) : Grown s.hq o.hq := by
  have r := Only.refl mayButQueues s
  unfold State.cfgStep at e
  dsimp only at e
  (repeat' split at e) <;> simp only [Option.some.injEq] at e <;> subst e <;> exact Grown.of_only (by simp +contextual (maxDischargeDepth := 99) [r, mbq_regs, mbq_nor, mbq_yewPort, mbq_pageIx])

theorem State.writeStep_grown {o : State} (s : State) (c : LongCmd) (e : s.writeStep c = some o) : Grown s.hq o.hq := by
  have r := Only.refl mayButQueues s
  have r := r
  unfold State.writeStep at e
  dsimp only at e
  split at e
  · simp only [Option.some.injEq] at e
    subst e
    exact Grown.of_only (by simp +contextual (maxDischargeDepth := 99) [r, mbq_regs, mbq_nor, mbq_yewPort, mbq_pageIx])
  · split at e
    · exact (Grown.of_only (by simp +contextual (maxDischargeDepth := 99) [r, mbq_regs, mbq_nor, mbq_yewPort, mbq_pageIx])).trans (State.takePayload_grown _ _ _ _ e)
    · simp only [Option.some.injEq] at e
      subst e
      exact Grown.of_only (by simp +contextual (maxDischargeDepth := 99) [r, mbq_regs, mbq_nor, mbq_yewPort, mbq_pageIx])

theorem State.stageStep_grown {o : State} (s : State) (c : LongCmd) (e : s.stageStep c = some o) : Grown s.hq o.hq := by
  have r := Only.refl mayButQueues s
  unfold State.stageStep at e
  dsimp only at e
  (repeat' split at e) <;> first
    | exact State.takePayload_grown _ _ _ _ e
    | exact (Grown.of_only (by simp +contextual (maxDischargeDepth := 99) [r, mbq_regs, mbq_nor, mbq_yewPort, mbq_pageIx])).trans (State.takePayload_grown _ _ _ _ e)
    | (simp only [Option.some.injEq] at e
       subst e
       (try split) <;> exact Grown.of_only (by simp +contextual (maxDischargeDepth := 99) [r, mbq_regs, mbq_nor, mbq_yewPort, mbq_pageIx]))

theorem State.readStep_grown {o : State} (s : State) (c : LongCmd) (e : s.readStep c = some o) : Grown s.hq o.hq := by
  have r := Only.refl mayButQueues s
  unfold State.readStep at e
  dsimp only at e
  split at e
  · simp only [Option.some.injEq] at e
    subst e
    exact Grown.of_only (by simp +contextual (maxDischargeDepth := 99) [r, mbq_regs, mbq_nor, mbq_yewPort, mbq_pageIx])
  · split at e
    · simp only [Option.some.injEq] at e
      subst e
      have k := State.postItem_grown s 11 (BitVec.ofNat 16 c.tag) (s.readNor (c.arg 0 + c.done) (min 4096 (c.arg 1 - c.done))) (of_decide_eq_true rfl)
      refine k.then ?_
      generalize (s.postItem 11 (BitVec.ofNat 16 c.tag) (s.readNor (c.arg 0 + c.done) (min 4096 (c.arg 1 - c.done)))).2 = v
      have r := Only.refl mayButQueues v
      simp +contextual (maxDischargeDepth := 99) [r, mbq_regs, mbq_nor, mbq_yewPort, mbq_pageIx]
    · cases e

theorem State.logZone_grown (n : Nat) (s : State) (c : LongCmd) (roll : Bool) : Grown s.hq (State.logZone n s c roll).2.2.hq := by
  induction n generalizing s c with
  | zero => exact Grown.refl _
  | succ n ih =>
    unfold State.logZone
    split
    · exact Grown.refl _
    · dsimp only
      split
      · exact Grown.refl _
      · rename_i d _
        split
        · exact ih _ _
        · have k := State.postItem_grown s 10 (BitVec.ofNat 16 c.tag) d (of_decide_eq_true rfl)
          revert k
          rcases s.postItem 10 (BitVec.ofNat 16 c.tag) d with ⟨b, u⟩
          intro k
          cases b
          · exact k
          · exact k.trans (ih _ _)

theorem State.logVol_grown (l : List YewRec) (s : State) (c : LongCmd) (next : Nat) : Grown s.hq (State.logVol s c next l).2.2.hq := by
  induction l generalizing s c with
  | nil => exact Grown.refl _
  | cons x xs ih =>
    unfold State.logVol
    split
    · exact Grown.refl _
    · dsimp only
      split
      · exact ih _ _
      · have k := State.postItem_grown s 10 (BitVec.ofNat 16 c.tag) x.bytes (of_decide_eq_true rfl)
        revert k
        rcases s.postItem 10 (BitVec.ofNat 16 c.tag) x.bytes with ⟨b, u⟩
        intro k
        cases b
        · exact k
        · exact k.trans (ih _ _)

theorem State.logEnd_grown {o : State} {z : Vector Queue 32} (x : Bool × LongCmd × State) (c : LongCmd) (pct : Nat → Nat) (k : Grown z x.2.2.hq)
    (e : (if x.1 = true then
        if (c.arg 0).testBit 31 = true then some ((x.2.2.norProg (pct x.2.1.done) x.2.1.pos).setLong { x.2.1 with stage := 1 })
        else some ((x.2.2.norProg (pct x.2.1.done) x.2.1.pos).setLong (x.2.1.ends rsOk 0 [wd x.2.1.posted, wd x.2.1.pos]))
      else if x.2.1.done = c.done then none
      else some ((x.2.2.norProg (pct x.2.1.done) x.2.1.pos).setLong x.2.1)) = some o) : Grown z o.hq := by
  have r := Only.refl mayButQueues x.2.2
  (repeat' split at e) <;> first
    | (cases e; done)
    | (simp only [Option.some.injEq] at e
       subst e
       exact k.then (by simp +contextual (maxDischargeDepth := 99) [r, mbq_regs, mbq_nor, mbq_yewPort, mbq_pageIx]))

theorem State.logStep_grown {o : State} (s : State) (c : LongCmd) (e : s.logStep c = some o) : Grown s.hq o.hq := by
  have r := Only.refl mayButQueues s
  unfold State.logStep at e
  dsimp only at e
  split at e
  · refine State.logEnd_grown _ c (fun d => 10000 * d / max 1 (c.arg 2)) ?_ e
    split
    · exact State.logZone_grown _ _ _ _
    · exact State.logVol_grown _ _ _ _
  · split at e <;> simp only [Option.some.injEq] at e <;> subst e <;> exact Grown.of_only (by simp +contextual (maxDischargeDepth := 99) [r, mbq_regs, mbq_nor, mbq_yewPort, mbq_pageIx])

theorem State.longStep_grown {o : State} (s : State) (c : LongCmd) (e : s.longStep c = some o) : Grown s.hq o.hq := by
  have r := Only.refl mayButQueues s
  unfold State.longStep at e
  dsimp only at e
  (repeat' split at e) <;> first
    | (cases e; done)
    | exact State.readStep_grown _ _ e
    | exact State.eraseStep_grown _ _ e
    | exact State.writeStep_grown _ _ e
    | exact State.stageStep_grown _ _ e
    | exact State.cfgStep_grown _ _ e
    | exact State.logStep_grown _ _ e
    | (simp only [Option.some.injEq] at e
       subst e
       exact Grown.of_only (by simp +contextual (maxDischargeDepth := 99) [r, mbq_regs, mbq_nor, mbq_yewPort, mbq_pageIx]))

/-- Carrying a long command on only appends items to the queues, and leaves SEQ and the open item of those from the host. -/
theorem State.pumpLong_grown (n : Nat) (s : State) : Grown s.hq (s.pumpLong n).hq := by
  induction n generalizing s with
  | zero => exact Grown.refl _
  | succ n ih =>
    unfold State.pumpLong
    split
    · exact Grown.refl _
    · split
      · exact Grown.refl _
      · rename_i o e
        exact (State.longStep_grown _ _ e).trans (ih _)

theorem State.pump_grown (s : State) : Grown s.hq s.pump.hq := State.pumpLong_grown 600 s

/-- With no long command there is nothing to carry on. -/
theorem State.pump_idle (s : State) (h : s.nor.long = none) : s.pump = s := by
  unfold State.pump State.pumpLong
  rw [h]

end Sys2Proof.Machine
end

