-- ==== Sys2Proof/WellFormed.lean ====
section
/-! DEFINITION. Which commands are well-formed: the lengths, ranges and orders of their operands that the types do not say (R373,
R378, R381, R382, R347, Table 1-2, Table 16-2). -/
namespace Sys2Proof

/-- A frame's payload has 0 to 256 bytes (R347). -/
def Frame.wf (f : Frame) : Bool := decide (f.payload.length ≤ 256)

/-- Sampling instants rise along a list of samples. -/
def rising : List Sample → Bool
  | [] => true
  | [_] => true
  | a :: b :: r => decide (a.time < b.time) && rising (b :: r)

/-- AIN conversions, each at a multiple of 1,000 ns, in order, and available by `t` (R253). -/
def ainRun (t : Time) (l : List Sample) : Bool :=
  rising l && l.all (fun x => decide (x.time % 1000000 = 0 ∧ x.time + 500000 ≤ t))

/-- The last conversion is the first at or after `t` (Table 9-1 step 2). -/
def sampleAfter (t : Time) (l : List Sample) : Bool :=
  l.getLast?.any (fun x => decide (t ≤ x.time ∧ x.time < t + 1000000))

/-- The command's operands are in the form and range that the spec gives them. -/
def Instr.wf (i : Instr) : Bool :=
  match i with
  | .powerOn _ => true
  | .porstNRise _ _ _ => true
  | .porstNLow _ => true
  | .bootExit _ r => decide (r.laneTest.length = 16)
  | .softReset _ => true
  | .unseal _ => true
  | .standby _ => true
  | .wake _ => true
  | .wakeComplete _ => true
  | .arm _ => true
  | .disarm _ => true
  | .speedInvalid _ => true
  | .pfailFall _ => true
  | .pfailSetClose _ => true
  | .pfailDone _ => true
  | .clockLoss _ _ => true
  | .serdesUnlock _ _ => true
  | .supplyOor _ _ _ => true
  | .supplyInRange _ _ _ => true
  | .tempRead _ _ _ => true
  | .fence _ _ => true
  | .laneSelfFail _ _ _ => true
  | .autofence _ _ => true
  | .noChargeTimeout _ => true
  | .singleHalfStop _ => true
  | .safeNFall _ _ => true
  | .safeNRise _ _ => true
  | .idleFlitSend _ _ _ => true
  | .idleFlit _ _ _ _ => true
  | .portIdle _ _ _ => true
  | .nak _ _ _ _ => true
  | .resendTimeout _ _ _ => true
  | .linkLost _ _ => true
  | .upQueueHigh _ _ => true
  | .evt _ _ _ _ => true
  | .travelUpdate _ _ fs => decide (fs.length ≤ 17)
  | .epochAdv _ _ _ => true
  | .qend _ _ _ => true
  | .drain _ _ _ => true
  | .drainEnd _ _ => true
  | .drExpired _ _ => true
  | .spDem _ _ _ => true
  | .evtAck _ _ _ => true
  | .evtFull _ _ _ => true
  | .holdReoffer _ => true
  | .fireReport _ _ _ => true
  | .qclr _ _ _ => true
  | .motion _ _ _ => true
  | .dly _ _ _ => true
  | .peakRpt _ _ _ => true
  | .reaim _ _ => true
  | .fire _ _ sm => rising sm
  | .poseWord _ hitch _ => decide (hitch.length = 10)
  | .travelCompute _ => true
  | .ringPoseWord _ _ f => f.wf
  | .ringMiss _ => true
  | .gsEdge t _ _ stamp => decide (stamp ≤ t)
  | .imuInt _ _ => true
  | .imuBurstDone _ d => decide (12 ≤ d.length) && decide (d.length ≤ 32)
  | .imuLost _ => true
  | .solutionLost _ => true
  | .coastExpired _ => true
  | .gnssLost _ _ => true
  | .spdDisagree _ => true
  | .imuCoastEnd _ => true
  | .hitchDisagree _ => true
  | .gnssSolution _ _ _ _ => true
  | .measurement _ ms asg _ => decide (ms.length ≤ 128) && decide (asg.length ≤ 128)
  | .rtcmFrame _ => true
  | .gifClkCheck _ _ => true
  | .agcUpdate _ _ _ => true
  | .burstStart _ => true
  | .burstEnd _ => true
  | .pulsePrepare _ => true
  | .tpulse _ => true
  | .tpulseB _ => true
  | .timeHoldover _ => true
  | .timeExpired _ => true
  | .footprintTick t _ ain0 ain1 => ainRun t ain0 && ainRun t ain1
  | .tileEffect _ _ => true
  | .demandPhase _ => true
  | .decisionPhase _ _ _ => true
  | .strokeForm _ => true
  | .decisionDigest _ _ _ => true
  | .xchkIdentify _ _ _ => true
  | .suspectClear _ => true
  | .noMotion _ _ => true
  | .rateSwap _ => true
  | .tileItem _ _ => true
  | .tileRequestPost _ => true
  | .requestRetry _ _ => true
  | .evictPost _ => true
  | .spillPost _ => true
  | .strokeFrame _ _ f => f.wf
  | .scrub _ _ => true
  | .flush _ => true
  | .advJob _ => true
  | .peakGrant _ _ sm => rising sm
  | .peakWaitTimeout _ _ _ => true
  | .phaseEndCurrent _ _ _ sm => rising sm
  | .phaseEndTime _ _ _ sm => rising sm
  | .peakTmo _ _ _ sm => rising sm
  | .chopToggle _ _ _ sm => rising sm
  | .stepDownEnd _ _ _ sm => rising sm
  | .decayEnd _ _ _ sm => rising sm
  | .decayTmo _ _ _ sm => rising sm
  | .overCurrent _ _ _ sm => rising sm
  | .faultRetry _ _ _ sm => rising sm
  | .faultClr _ _ _ => true
  | .clampDemote _ _ _ _ => true
  | .vbstNotReady _ _ _ _ => true
  | .gridOpening _ _ _ sm => rising sm
  | .pulseClose _ _ _ sm => rising sm
  | .propPeriod _ _ _ sm => rising sm
  | .openWindowStart _ _ _ => true
  | .openWindowEnd _ _ _ => true
  | .closeWindowStart _ _ _ => true
  | .closeWindowEnd _ _ _ => true
  | .dipConfirmed _ _ _ sm => rising sm
  | .kinkFound _ _ _ vs => rising vs
  | .relearn _ _ _ _ => true
  | .valveStuck _ _ _ => true
  | .closeFail _ _ _ => true
  | .reload _ _ _ => true
  | .gCmpWrite _ _ _ _ => true
  | .gPerWrite _ _ _ _ => true
  | .commit _ _ _ => true
  | .gModeWrite _ _ _ _ => true
  | .generatorEnable _ _ _ => true
  | .syncPulse _ _ => true
  | .loopTrigger t _ ain isns => ainRun (t + 1500000) ain && decide (isns.length ≤ 8) && sampleAfter t ain
  | .hallChange _ _ _ => true
  | .commDrStep _ _ => true
  | .loopSwap _ _ _ => true
  | .restart _ _ => true
  | .coefWrite _ _ _ _ => true
  | .quadEdge _ _ _ => true
  | .pulseEdge _ _ _ => true
  | .index _ _ _ => true
  | .wireDisagree _ _ _ _ => true
  | .speedUpdate _ _ => true
  | .posLoad _ _ _ => true
  | .emStep _ _ => true
  | .heartbeatSend _ _ => true
  | .heartbeatCheck _ _ _ => true
  | .heartbeatLoss _ _ => true
  | .selfFault _ _ => true
  | .tokenCopyError _ _ _ _ => true
  | .claim _ => true
  | .conflictEnd _ => true
  | .takeover _ => true
  | .handover _ => true
  | .katNow _ _ _ => true
  | .katPeriodic _ _ _ => true
  | .rejoin _ _ => true
  | .rejoinDone _ _ _ => true
  | .linkDown _ _ _ => true
  | .linkUp _ _ _ => true
  | .rfault _ _ => true
  | .wrap _ _ => true
  | .unwrap _ _ _ => true
  | .topo _ _ _ _ => true
  | .frameRx _ _ f => f.wf
  | .frameSend _ _ => true
  | .enum _ => true
  | .enumJoin _ => true
  | .enumFull _ _ f => f.wf
  | .enumDone _ _ f => f.wf
  | .join _ _ f => f.wf
  | .enumRetry _ => true
  | .presenceSend _ => true
  | .presence _ _ f => f.wf
  | .nodeAbsent _ _ => true
  | .ringDataFrame _ _ f => f.wf
  | .ackFrame _ _ f => f.wf
  | .nakFrame _ _ f => f.wf
  | .ackTimeout _ _ _ => true
  | .strokeReturn _ _ f => match f with | some f => f.wf | none => true
  | .ringItemEgress _ q => decide (16 ≤ q.val ∧ q.val < 24)
  | .qbrSegment _ _ f => f.wf
  | .tunGo _ _ => true
  | .tunRequest _ _ f => f.wf
  | .tunResponse _ _ f => f.wf
  | .tunTimeout _ => true
  | .syncSend _ _ => true
  | .sync _ _ _ => true
  | .rtHold _ => true
  | .delayMeasure _ _ => true
  | .dreq t _ _ t2 => decide (t2 ≤ t)
  | .dresp _ _ _ _ => true
  | .rd _ _ _ _ => true
  | .rdf _ _ _ _ => true
  | .wr _ _ data _ => decide (1 ≤ data.length ∧ data.length ≤ 64)
  | .wrf _ _ data _ => decide (1 ≤ data.length ∧ data.length ≤ 64)
  | .qpush _ _ desc data _ => decide (desc.length = 16) && decide (data.length ≤ 65535)
  | .qpop _ _ _ => true
  | .cmpl _ _ _ => true
  | .unknownCommand _ code => !([0x02, 0x03, 0x0B, 0x0C, 0x38, 0x3B, 0x3E].contains code.toNat)
  | .qFlush _ _ => true
  | .queueAge _ q => decide ((8 ≤ q.val ∧ q.val < 16) ∨ 24 ≤ q.val)
  | .hirqHoldoffEnd _ => true
  | .bulkConfig _ => true
  | .mkTx _ _ _ => true
  | .db _ _ => true
  | .mailboxTaken _ _ => true
  | .mailboxReply _ _ => true
  | .mkRx _ _ => true
  | .getInfo _ _ => true
  | .echo _ _ => true
  | .norRead _ _ => true
  | .norErase _ _ => true
  | .norWrite _ _ => true
  | .norCrc _ _ => true
  | .dirSet _ _ => true
  | .patchStage _ _ => true
  | .patchSelect _ _ => true
  | .cfgSave _ _ => true
  | .cfgClear _ _ => true
  | .logRead _ _ => true
  | .abort _ _ => true
  | .keyRevoke _ _ => true
  | .longCommandEnd _ => true
  | .payloadTimeout _ => true
  | .norOpDone _ => true
  | .norTimeout _ => true
  | .record _ _ _ _ _ _ _ => true
  | .bucketRefill _ => true
  | .yewFlush _ => true
  | .streamPost _ => true
  | .seal _ _ => true
  | .sealDone _ _ => true
  | .pageEnable _ _ => true
  | .pageDrain _ _ _ => true
  | .softRst _ _ => true
  | .freeze _ _ _ => true
  | .registerWrite _ addr _ => decide (addr.toNat % 4 = 0)
  | .rcRead _ addr => decide (addr.toNat % 4 = 0)
  | .poseCur0 _ => true
  | .geomTrvLo _ => true
  | .slotStat _ => true
  | .outLead _ => true
  | .sqE0 _ _ => true
  | .ltrvLo _ _ => true
  | .gPerAct _ _ _ => true
  | .fbkPos _ _ => true
  | .solTimeLo _ _ => true
  | .chStat _ _ => true
  | .tpNextRtLo _ => true
  | .rtNowLo _ => true
  | .flushRtLo _ => true
  | .recW0 _ => true
  | .qItems _ => true
  | .idcode _ => true
  | .extest _ => true
  | .estimatedClosing _ _ _ => true
  | .vbstReady _ _ _ _ => true
  | .demotionEnd _ _ _ _ => true
  | .wireDisagreeEnd _ _ _ => true

end Sys2Proof
end

