-- ==== Sys2Proof/Tests/Slice0.lean ====
section
/-! SUPPORT. The package's own tests: ill-formed terms that the checks of WellFormed refuse, single commands against figures of the
spec, and states and operands that meet the hypotheses of the statements. -/
open Sys2Proof Sys2Proof.Machine

namespace Sys2Proof.Slice0Tests

set_option maxRecDepth 100000
set_option Elab.async false

/-! States. -/

/-- The state after reset with the device in `d`. -/
def sd (d : DevState) : State := { State.reset with dev := d }

/-- Both halves in service, Half A in charge. -/
def sv (d : DevState) : State :=
  { sd d with laurel := { LaurelState.reset with
      half := #v[{ HalfState.reset with role := .charge }, { HalfState.reset with role := .shadow }] } }

/-- A register preset. -/
def wr (s : State) (a v : Nat) : State := s.setReg a (wd v)

/-- A field of a register preset. -/
def wf (s : State) (f : Fld) (v : Nat) : State := s.setFld f v

/-- A queue descriptor. -/
def qd (q fl len seq : Nat) : List Byte := leBytes 1 q ++ leBytes 1 fl ++ leBytes 2 len ++ leBytes 2 seq ++ leBytes 2 7 ++ leBytes 8 0

/-- One whole item in a host-to-device queue. -/
def hq1 (s : State) (q : Nat) (d : List Byte) : State := s.modQ q (fun u => { u with segs := [⟨true, true, true, 3, 7, d⟩] })

/-- One item in a device-to-host queue. -/
def dq1 (s : State) (q : Nat) (d : List Byte) : State := s.modQ q (fun u => { u with items := [⟨3, 7, 0, d⟩, ⟨4, 7, 0, d⟩] })

/-- A command message of epoch 1. -/
def cw (op tag : Nat) (as : List Nat) : List Word :=
  wd (op * 16777216 + as.length * 1048576 + 1) :: wd (tag * 65536) :: as.map wd

/-- A command that waits in a mailbox. -/
def mbx (s : State) (k : Nat) (ws : List Word) : State := s.modMb k (fun m => { m with inbox := some ws })

/-- A flash of 8 MiB. -/
def nors (d : DevState) : State := { sd d with nor := { NorState.reset with present := true, jedec := 0xEF4017 } }

/-- A long command under way. -/
def lc (op : Nat) : LongCmd :=
  { op := op, tag := 5, mailbox := 0, args := [0, 4, 0], done := 0, done2 := 0, done3 := 0, stage := 0, pos := 0, posted := 0,
    buf := [], got := 0, lastSeq := 0, lastTag := 0, aborting := false, final := none, lastSeg := 0 }

/-- An operation of the port. -/
def nop (k : NorKind) (r : Bool) : NorOp := { kind := k, addr := 0x700000, data := [1, 2], recorder := r, recs := [] }

/-- Eight records in the copies. -/
def recs8 (s : State) : State := (List.range 8).foldl (fun s i => s.record Rec.NOR_ERR pgNor (wd i) 0 0) s

/-- One record in the copies. -/
def recs1 (s : State) : State := s.record Rec.NOR_ERR pgNor 5 0 0

/-- The baseband enabled. -/
def gn (d : DevState) : State := wf (sd d) (GNSS.IF_CFG.EN 0) 1

/-- The baseband state changed. -/
def gg (s : State) (f : GnssState → GnssState) : State := { s with gnss := f s.gnss }

/-- An RTCM frame. -/
def rf (p : List Byte) : List Byte :=
  let h := [0xD3, 0, BitVec.ofNat 8 p.length] ++ p
  h ++ beBytes 3 (crc24 h)

/-- Both halves in service, with one lane out of safe state. -/
def lv (d : DevState) (n : LaneIx) : State := ((sv d).setEpoch (pgLane n) 1).modLane n (fun l => { l with safeLow := false })

/-- A flit of epoch 1. -/
def fl (typ seq payload : Nat) : Flit := mkFlit typ (BitVec.ofNat 4 seq) 1 (wd payload)

/-- The flits of a travel update. -/
def trv : List Flit :=
  fl ftTrvHdr 0 7 :: (List.range 8).flatMap (fun k => [fl ftTrvT (2 * k + 1) k, fl ftTrvS (2 * k + 2) (k + 100)])

/-- An entry of a lane's queue. -/
def qe (x : EntryState) (k : OutIx) : QEntry := ⟨x, k, .on, .on, 0, 4096, 0xFFFF00000001, 0, 0, 0, 5, false, 0, false, none⟩

/-- A time solution. -/
def tsol : TimeSol := ⟨1000, 5000000000000, 0, 20, 18, true⟩

theorem ne_succ (w : Word) : w ≠ w + 1 := by
  intro h
  have e : w.toNat = (w.toNat + 1) % 4294967296 := by
    have := congrArg BitVec.toNat h
    simpa [BitVec.toNat_add] using this
  have := w.isLt
  omega

/-- CHECKING the present configuration. -/
def ck : State := { sd .primrose with checking := true }

/-- A CRC that the present configuration does not have. -/
@[irreducible] def badCrc : Word := ck.sealCrc + 1

theorem badCrc_ne : ck.sealCrc ≠ badCrc := by
  unfold badCrc
  exact ne_succ ck.sealCrc

theorem sealCrc_congr (s u : State) (h : s.regs = u.regs) (m : s.member = u.member) : s.sealCrc = u.sealCrc := by
  have e : s.pageBytes = u.pageBytes := by
    funext p
    simp only [State.pageBytes, State.maskedWord, State.reg, h, m]
  simp only [State.sealCrc, m, e]

/-- A heartbeat word for check instant `k`. -/
def hbw (k : Nat) : Word := wd (k % 16 * 16 * 256 + (crc8 (beBytes 3 (k % 16 * 16))).toNat)

/-- Laurel with one half changed. -/
def hf (s : State) (h : Half) (f : HalfState → HalfState) : State :=
  { s with laurel := { s.laurel with half := vmod s.laurel.half h.ix f } }

/-- Bytes of a tile item without cells, for tile (0, 0). -/
def tile (s : State) (typ flags gen : Nat) : List Byte :=
  let h := leBytes 1 typ ++ leBytes 1 flags ++ leBytes 2 (s.epoch pgMap).toNat ++ leBytes 2 gen ++ leBytes 2 (s.slotOf 0 0) ++
    leBytes 8 0 ++ leBytes 2 s.pitch ++ leBytes 6 0 ++ leBytes 4 (crc32 []).toNat
  h ++ leBytes 4 (crc32 h).toNat

/-- Slot 0 in a state. -/
def sl (s : State) (x : SlotSt) : State := s.setSlot 0 { Slot.reset with st := x }

/-- An interface in a mode. -/
def fb (n : LaneIx) (m : Nat) : State :=
  (wf (lv .run n) (FBK.IN_CFG.MODE n) m).modFbk n (fun f => { f with active := true })

/-- A phase of profile 0 of lane 15. -/
def ph (s : State) (q mode fin tgt : Nat) : State :=
  wf (wf (wf s (OUTL.PROF_PH.MODE 15 0 q) mode) (OUTL.PROF_PH.END 15 0 q) fin) (OUTL.PROF_PH.TGT_MA 15 0 q) tgt

/-- Outlet 3 of lane 15 with a shunt, changed. -/
def ou (s : State) (f : OutletState → OutletState) : State :=
  (wf s (OUTL.OUT_CFG.SHUNT_UOHM 15 3) 50000).modOut 15 3 f

/-- The detector of outlet `k` of lane 15, changed. -/
def de (k : OutIx) (f : DetState → DetState) : State := (lv .run 15).modDet 15 k f

theorem sealNe (x : Word) (h : ck.sealCrc ≠ x) :
    ({ ({ ck with sealExp := x } : State) with regs := ({ ck with sealExp := x } : State).sealSnap } : State).sealCrc ≠
      ({ ck with sealExp := x } : State).sealExp := fun e => h ((sealCrc_congr ck _ rfl rfl).trans e)

/-- Node 5 of a ring of 8, both links up. -/
def rg (d : DevState) : State :=
  { sv d with ring := { RingState.reset with nodeId := 5, assigned := true, nNodes := 8 },
              ports := Vector.replicate 2 { PortState.reset with link := .up } }

/-- A frame of node 3 to node 5. -/
def fr (cls : FrameClass) (p : List Byte) (g : Frame → Frame) : Frame := sealFrame (g (newFrame cls 3 5 0 0 9 p))

/-- A sent stream frame. -/
def ofr (q : Nat) : OutFrame := ⟨BitVec.ofNat 16 q, fr .ctrl [1] id, none, 0, 0, false, 0, 0⟩

/-- A stream to node 3 with a frame that is not acknowledged. -/
def txs (c : Nat) : TxStream := ⟨3, .ctrl, 2, [ofr 0, ofr 1], [], c, 0, false, 0⟩

theorem onePage {o : Option (PageKind × Nat)} {k : PageKind} {i : Nat} {P : PageKind → Nat → Prop} (h : o = some (k, i)) (p : P k i) :
    ∀ k' i', o = some (k', i') → P k' i' := by
  intro k' i' h'; rw [h] at h'; cases h'; exact p
theorem noPage {o : Option (PageKind × Nat)} {P : PageKind → Nat → Prop} (h : o = none) : ∀ k' i', o = some (k', i') → P k' i' := by
  intro k' i' h'; rw [h] at h'; cases h'

theorem noneAll {α : Type} {o : Option α} {P : α → Prop} (h : o = none) : ∀ a, o = some a → P a := by
  intro a h'; rw [h] at h'; cases h'

/-! Well-formedness: for each check a term that passes and one that it refuses. -/

/-- A result of BOOT. -/
def bootRes (k : Nat) : BootResult := ⟨true, true, true, 0xFFFF, List.replicate k 0, true, true, true, 0xEF4017, 5⟩

/-- A frame with a payload of `k` bytes. -/
def frameOf (k : Nat) : Frame := newFrame .ctrl 3 5 0 0 9 (List.replicate k 0)

theorem test_wf_boot : (Instr.bootExit 9 (bootRes 16)).wf = true ∧ (Instr.bootExit 9 (bootRes 15)).wf = false := by decide

theorem test_wf_travel : (Instr.travelUpdate 9 0 trv).wf = true ∧ (Instr.travelUpdate 9 0 (trv ++ trv)).wf = false := by decide

theorem test_wf_pose : (Instr.poseWord 9 (List.replicate 10 0) 0).wf = true ∧ (Instr.poseWord 9 [] 0).wf = false := by decide

theorem test_wf_edge : (Instr.gsEdge 9 false true 9).wf = true ∧ (Instr.gsEdge 9 false true 10).wf = false := by decide

theorem test_wf_burst : (Instr.imuBurstDone 9 (List.replicate 12 0)).wf = true ∧ (Instr.imuBurstDone 9 (List.replicate 33 0)).wf = false ∧
    (Instr.imuBurstDone 9 (List.replicate 11 0)).wf = false := by decide

theorem test_wf_dreq : (Instr.dreq 9 .a 0 9).wf = true ∧ (Instr.dreq 9 .a 0 10).wf = false := by decide

theorem test_wf_frame : (Instr.frameRx 9 .a (frameOf 256)).wf = true ∧ (Instr.frameRx 9 .a (frameOf 257)).wf = false := by
  decide +kernel

theorem test_wf_frames : [Instr.ringPoseWord 9 .a (frameOf 257), .strokeFrame 9 .a (frameOf 257), .enumFull 9 .a (frameOf 257),
    .enumDone 9 .a (frameOf 257), .join 9 .a (frameOf 257), .presence 9 .a (frameOf 257), .ringDataFrame 9 .a (frameOf 257),
    .ackFrame 9 .a (frameOf 257), .nakFrame 9 .a (frameOf 257), .strokeReturn 9 .a (some (frameOf 257)),
    .qbrSegment 9 .a (frameOf 257), .tunRequest 9 .a (frameOf 257), .tunResponse 9 .a (frameOf 257)].any Instr.wf = false ∧
    (Instr.strokeReturn 9 .a none).wf = true := by decide +kernel

theorem test_wf_measurement : (Instr.measurement 9 [] [] ⟨1, 2, true, true, 3, 4⟩).wf = true ∧
    (Instr.measurement 9 [] (List.replicate 129 ⟨.a, 0, 0, 0, 0⟩) ⟨1, 2, true, true, 3, 4⟩).wf = false ∧
    (Instr.measurement 9 (List.replicate 129 ⟨.a, 0, true, false, false, 0, 0, 0, 0, 0, 0⟩) [] ⟨1, 2, true, true, 3, 4⟩).wf = false := by
  decide +kernel

theorem test_wf_samples : [Instr.peakGrant 9 0 [⟨1, 5⟩, ⟨2, 5⟩], .loopTrigger 9 0 [⟨1000000, 5⟩] (List.replicate 8 0), .footprintTick 9000000 [] [⟨1000000, 5⟩] []].all Instr.wf = true ∧
    [Instr.peakGrant 9 0 [⟨1, 5⟩, ⟨1, 5⟩], .phaseEndCurrent 9 0 0 [⟨1, 5⟩, ⟨1, 5⟩], .phaseEndTime 9 0 0 [⟨1, 5⟩, ⟨1, 5⟩],
      .peakTmo 9 0 0 [⟨1, 5⟩, ⟨1, 5⟩], .chopToggle 9 0 0 [⟨1, 5⟩, ⟨1, 5⟩], .stepDownEnd 9 0 0 [⟨1, 5⟩, ⟨1, 5⟩],
      .decayEnd 9 0 0 [⟨1, 5⟩, ⟨1, 5⟩], .decayTmo 9 0 0 [⟨1, 5⟩, ⟨1, 5⟩], .overCurrent 9 0 0 [⟨1, 5⟩, ⟨1, 5⟩],
      .pulseClose 9 0 0 [⟨1, 5⟩, ⟨1, 5⟩], .propPeriod 9 0 0 [⟨1, 5⟩, ⟨1, 5⟩], .kinkFound 9 0 6 [⟨2, 5⟩, ⟨1, 5⟩],
      .dipConfirmed 9 0 0 [⟨2, 5⟩, ⟨1, 5⟩], .fire 9 0 [⟨2, 5⟩, ⟨1, 5⟩], .gridOpening 9 0 0 [⟨2, 5⟩, ⟨1, 5⟩],
      .faultRetry 9 0 0 [⟨2, 5⟩, ⟨1, 5⟩], .loopTrigger 9 0 [⟨1000000, 5⟩, ⟨1000000, 5⟩] [], .loopTrigger 9 0 [⟨7, 5⟩] [],
      .loopTrigger 9 0 [] [], .loopTrigger 9 0 [⟨1000000, 5⟩] (List.replicate 9 0), .footprintTick 9000000 [] [⟨9000000, 5⟩] [],
      .footprintTick 9000000 [] [] [⟨7, 5⟩]].any Instr.wf = false := by decide

theorem test_wf_words : (Instr.wr 9 0 (List.replicate 64 0) none).wf = true ∧ (Instr.wr 9 0 [] none).wf = false ∧
    (Instr.wr 9 0 (List.replicate 65 0) none).wf = false ∧ (Instr.wrf 9 0 [7] none).wf = true ∧ (Instr.wrf 9 0 [] none).wf = false ∧
    (Instr.wrf 9 0 (List.replicate 65 0) none).wf = false := by decide

theorem test_wf_push : (Instr.qpush 9 3 (List.replicate 16 0) [] none).wf = true ∧ (Instr.qpush 9 3 (List.replicate 15 0) [] none).wf = false := by
  decide

theorem test_wf_code : (Instr.unknownCommand 9 0x9F).wf = true ∧ (Instr.unknownCommand 9 0x0B).wf = false := by decide

theorem test_wf_queues : (Instr.ringItemEgress 9 16).wf = true ∧ (Instr.ringItemEgress 9 24).wf = false ∧ (Instr.queueAge 9 8).wf = true ∧
    (Instr.queueAge 9 3).wf = false ∧ (Instr.queueAge 9 16).wf = false := by decide

theorem test_wf_addr : (Instr.registerWrite 9 0x4800 0).wf = true ∧ (Instr.registerWrite 9 0x4801 0).wf = false ∧
    (Instr.rcRead 9 0x4800).wf = true ∧ (Instr.rcRead 9 0x4802).wf = false := by decide

/-! Figures that the spec works out. -/

/-- PG_EPOCH of LANE5 lies at 0x0010_5028 (R7). -/
theorem test_host_address : hdr 0x105 HDR.PG_EPOCH = 0x105028 := by decide

/-- A write to a locked register while sealed keeps the register and reports 0x8001_028C (the example after R456). -/
theorem test_locked_write : (match exec (.registerWrite 0 0x11328C 0x28000708) (sd .idle) with
    | .next u => decide (u.reg (hdr 0x113 HDR.PG_ERR_FIRST) = 0x8001028C ∧ u.reg 0x11328C = (sd .idle).reg 0x11328C)
    | _ => false) = true := by decide +kernel

/-- Nozzle 0 of Table 2-5. -/
theorem test_outlet_speed : outSpeed 7766213 (-166668) = 7768001 ∧ outSpeed 5543981 (-166668) = 5546485 ∧
    outSpeed 3344898 (-166668) = 3349047 := by decide +kernel

/-- The three updates of Table 2-6. -/
theorem test_travel_steps : travStep ⟨0, 0, 7768001, 0⟩ 7768001 = ⟨776, 16002, 7768001, 7768001⟩ ∧
    travStep ⟨776, 16002, 7768001, 7768001⟩ 7768001 = ⟨1553, 12004, 7768001, 7768001⟩ ∧
    travStep ⟨1553, 12004, 7768001, 7768001⟩ 7768001 = ⟨2330, 8006, 7768001, 7768001⟩ := by decide +kernel

/-- Steps 1, 2, 4 and 5 of Table 5-6. -/
theorem test_aim : (aimOf 300000 4500000 11111111).map (·.c) = some 9000000 ∧ (aimOf 188989 4500000 11091111).map (·.c) = some 5015873 ∧
    (aimOf 49953 4500000 11066011).map (·.c) = some 5637 ∧ (aimOf 49843 4500000 11065991).map (·.c) = some 1664 := by decide +kernel

/-- Three counts too many and a spurious Z halfway round (the example after R283). -/
theorem test_index_error : idxError 4099 0 4096 = 3 ∧ idxError 2048 0 4096 = -2048 := by decide

/-- 16,000.5 in frame 0 is a period of 16,001 cycles (Table 8-3, step 6). -/
theorem test_period : perOf 0x3E808 0 = 16001 := by decide

/-- The takeover of Table 12-5: the first TMARK at or after g + 2 µs, 1,800 units of 10 ns after t_h. -/
theorem test_takeover : takeoverAt 5000020010000 = 5000030000000 ∧ (takeoverAt 5000020010000 - 5000012000000) / 10000 = 1800 := by decide

/-! Witnesses. -/

/-- States and operands that meet the hypotheses of each clause of StepTakesFront. -/
theorem witness_StepTakesFront :
  (∃ (c : Instr) (cs : List Instr) (s : State), s.pending = c :: cs) ∧
  (∃ (s : State), s.pending = []) :=
  ⟨⟨.tpulse 0, [.reaim 5 0], { State.reset with pending := [.tpulse 0, .reaim 5 0] }, by decide +kernel⟩,
   ⟨State.reset, by decide +kernel⟩⟩

/-- States and operands that meet the hypotheses of each clause of ResetState. -/
theorem witness_ResetState :
  (∃ (k : _) (i : _) (p : _), pageOf State.reset.member p = some (k, i)) :=
  ⟨PageKind.sys, 0, 0, by decide +kernel⟩

/-- States and operands that meet the hypotheses of each clause of StepKeepsSound. -/
theorem witness_StepKeepsSound :
  (∃ (s : State) (u : State), Sound s ∧ step s = .next u) ∧
  (∃ (s : State), Sound s) :=
  ⟨⟨State.reset, State.reset, ⟨by decide +kernel, by decide +kernel⟩, rfl⟩,
   ⟨State.reset, ⟨by decide +kernel, by decide +kernel⟩⟩⟩

/-- States and operands that meet the hypotheses of each clause of RegisterReads. -/
theorem witness_RegisterReads :
  (∃ (a : BitVec 24) (k : PageKind) (i : Nat) (d : RegDef) (s : State), s.canon = true ∧ Readable s a.toNat ∧ pageOf
    s.member (a.toNat / 4096) = some (k, i) ∧ findReg k (a.toNat % 4096) = some d ∧ s.fromCopy k i (a.toNat % 4096) = false
    ∧ ¬(k = .mbox ∧ 0x814 ≤ a.toNat % 4096 ∧ a.toNat % 16 = 4)) ∧
  (∃ (a : BitVec 24) (n : LaneIx) (s : State), s.canon = true ∧ Readable s a.toNat ∧ a.toNat = LANE.SQ_PEAK n ∧ s.hasLane n
    = true ∧ s.fenced n = false) ∧
  (∃ (a : BitVec 24) (s : State), s.running = true ∧ s.romFail = false ∧ (∀ k i, pageOf s.member (a.toNat / 4096) = some
    (k, i) → findReg k (a.toNat % 4096) = none)) ∧
  (∃ (a : BitVec 24) (k : PageKind) (i : Nat) (d : RegDef) (s : State), s.running = true ∧ s.romFail = false ∧ pageOf
    s.member (a.toNat / 4096) = some (k, i) ∧ findReg k (a.toNat % 4096) = some d ∧ 0x800 ≤ a.toNat % 4096 ∧ a.toNat % 4096
    < 0xC00 ∧ (s.reg (hdr (a.toNat / 4096) HDR.PG_CTRL)).toNat.testBit 2 = true) ∧
  (∃ (a : BitVec 24) (k : PageKind) (i : Nat) (d : RegDef) (s : State), Readable s a.toNat ∧ pageOf s.member (a.toNat /
    4096) = some (k, i) ∧ findReg k (a.toNat % 4096) = some d ∧ s.fromCopy k i (a.toNat % 4096) = true) ∧
  (∃ (a : BitVec 24) (s : State), (s.running = false ∨ (s.romFail = true ∧ 4096 ≤ a.toNat))) :=
  ⟨⟨0x004814, .hostq, 0, ((findReg .hostq 0x814).getD { off := 0 }), wr (sd .idle) 0x4814 9, by decide +kernel⟩,
   ⟨0x10F884, 15, (lv .run 15).modLane 15 (fun l => { l with queue := [(0, some (qe .armed 3)), (5, some (qe .waiting 4))] }), by decide +kernel⟩,
   ⟨0xFFFFFC, sd .idle, by decide +kernel, by decide +kernel, noPage (by decide +kernel)⟩,
   ⟨0x00480C, .hostq, 0, ((findReg .hostq 0x80C).getD { off := 0 }), { wr (sd .idle) 0x4004 5 with frozen := [(0x480C, 7)] }, by decide +kernel⟩,
   ⟨0x14F808, .fbk, 15, ((findReg .fbk 0x808).getD { off := 0 }), { (sd .idle).modLane 15 (fun l => { l with fenced := some .host }) with held := [(0x14F808, 9)] }, by decide +kernel⟩,
   ⟨0x000800, sd .off, by decide +kernel⟩⟩

/-- States and operands that meet the hypotheses of each clause of SpineReads. -/
theorem witness_SpineReads :
  (∃ (s : State), s.canon = true ∧ Readable s (POSE.POSE_CUR 0)) ∧
  (∃ (s : State), s.canon = true ∧ Readable s GEOM.GEOM_TRV_LO) ∧
  (∃ (s : State), s.canon = true ∧ Readable s MAP.SLOT_STAT) ∧
  (∃ (x : OutFpe) (s : State), s.canon = true ∧ Readable s FPE.OUT_LEAD ∧ s.fo (s.idxOf FPE.OUT_IDX 128) = x) ∧
  (∃ (h : Half) (s : State) (x : _), s.canon = true ∧ Readable s (GNSS.SOL_TIME_LO h.ix) ∧ h.ix.val < memberHalves s.member
    ∧ s.gnss.sol.get h.ix = some x) ∧
  (∃ (h : Half) (s : State), s.canon = true ∧ Readable s (GNSS.SOL_TIME_LO h.ix) ∧ h.ix.val < memberHalves s.member ∧
    s.gnss.sol.get h.ix = none) ∧
  (∃ (h : Half) (s : State), s.canon = true ∧ Readable s (GNSS.CH_STAT h.ix) ∧ h.ix.val < memberHalves s.member) ∧
  (∃ (s : State), s.canon = true ∧ Readable s TPLS.TP_NEXT_RT_LO) ∧
  (∃ (s : State), s.canon = true ∧ Readable s RTIME.RT_NOW_LO) ∧
  (∃ (s : State), s.canon = true ∧ Readable s YEW.FLUSH_RT_LO) ∧
  (∃ (s : State), s.canon = true ∧ Readable s (YEW.REC_W 0)) ∧
  (∃ (s : State), s.canon = true ∧ Readable s HOSTQ.Q_ITEMS) :=
  ⟨⟨{ sd .run with pose := { PoseState.reset with cur := { PoseState.reset.cur with speed := 7 } } }, by decide +kernel⟩,
   ⟨wr (sd .run) GEOM.GEOM_TRV_IDX 127, by decide +kernel⟩,
   ⟨wr (sd .run) MAP.SLOT_IDX 2047, by decide +kernel⟩,
   ⟨((sd .run).fo 0), sd .run, by decide +kernel⟩,
   ⟨.b, { sd .run with gnss := { GnssState.reset with sol := Vector.replicate 2 (some ⟨0xFFFFFFFFFF,1,2,3,4,5,6,7,8,9,10,11⟩) } }, (⟨0xFFFFFFFFFF,1,2,3,4,5,6,7,8,9,10,11⟩ : Solution), by decide +kernel⟩,
   ⟨.b, sd .run, by decide +kernel⟩,
   ⟨.b, sd .run, by decide +kernel⟩,
   ⟨{ sd .run with time := { TimeState.reset with nextRt := 0x1234567890 } }, by decide +kernel⟩,
   ⟨sd .run, by decide +kernel⟩,
   ⟨{ sd .run with yewPort := { YewPort.reset with flushRt := 0x123456789012345 } }, by decide +kernel⟩,
   ⟨wr (sd .run) YEW.REC_SEL 0, by decide +kernel⟩,
   ⟨wr (sd .run) HOSTQ.Q_IDX 31, by decide +kernel⟩⟩

/-- States and operands that meet the hypotheses of each clause of LaneReads. -/
theorem witness_LaneReads :
  (∃ (n : LaneIx) (s : State), s.canon = true ∧ Readable s (LANE.SQ_E0 n) ∧ s.hasLane n = true ∧ s.fenced n = false ∧
    s.sqSel n = none) ∧
  (∃ (n : LaneIx) (s : State) (e : _), s.canon = true ∧ Readable s (LANE.SQ_E0 n) ∧ s.hasLane n = true ∧ s.fenced n = false
    ∧ s.sqSel n = some e) ∧
  (∃ (n : LaneIx) (s : State), s.canon = true ∧ Readable s (LANE.LTRV_LO n) ∧ s.hasLane n = true ∧ s.fenced n = false) ∧
  (∃ (n : LaneIx) (g : Fin 4) (s : State), s.canon = true ∧ Readable s (PWMG.G_PER_ACT n g) ∧ s.hasLane n = true ∧ s.fenced
    n = false) ∧
  (∃ (n : LaneIx) (s : State), s.canon = true ∧ Readable s (FBK.POS n) ∧ s.hasLane n = true ∧ s.fenced n = false) :=
  ⟨⟨15, sd .run, by decide +kernel⟩,
   ⟨15, (sd .run).modLane 15 (fun l => { l with queue := [(0, some (⟨.armed, 7, .on, .on, 0, 4096, 0xFFFF00000001, -5, 0, 0, 0, false, 0, false, none⟩ : QEntry))], qSnap := [(0, some (⟨.armed, 7, .on, .on, 0, 4096, 0xFFFF00000001, -5, 0, 0, 0, false, 0, false, none⟩ : QEntry))] }), (⟨.armed, 7, .on, .on, 0, 4096, 0xFFFF00000001, -5, 0, 0, 0, false, 0, false, none⟩ : QEntry), by decide +kernel⟩,
   ⟨15, wr (sd .run) (LANE.LTRV_LO 15 - 4) 7, by decide +kernel⟩,
   ⟨15, 3, sd .run, by decide +kernel⟩,
   ⟨15, sd .run, by decide +kernel⟩⟩

/-- States and operands that meet the hypotheses of each clause of RegisterWrites. -/
theorem witness_RegisterWrites :
  (∃ (a : BitVec 24) (k : PageKind) (i : Nat) (d : RegDef) (s : State), s.canon = true ∧ Writable s ∧ pageOf s.member
    (a.toNat / 4096) = some (k, i) ∧ findReg k (a.toNat % 4096) = some d ∧ s.fromCopy k i (a.toNat % 4096) = false ∧
    ((0x100 ≤ a.toNat % 4096 ∧ a.toNat % 4096 < 0x800 ∧ ¬(k = .rate ∧ a.toNat % 4096 = 0x180)) ∨ (k ∈ plainPages ∧ 0x800 ≤
    a.toNat % 4096))) ∧
  (∃ (a : BitVec 24) (k : PageKind) (i : Nat) (s : State), s.canon = true ∧ Writable s ∧ pageOf s.member (a.toNat / 4096) =
    some (k, i) ∧ findReg k (a.toNat % 4096) = none ∧ s.fromCopy k i (a.toNat % 4096) = false ∧ (s.reg (hdr (a.toNat /
    4096) HDR.PG_ERR_FIRST)).toNat.testBit 31 = false) ∧
  (∃ (a : BitVec 24) (s : State), Writable s ∧ (∀ k i, pageOf s.member (a.toNat / 4096) = some (k, i) → s.fromCopy k i
    (a.toNat % 4096) = true)) :=
  ⟨⟨0x012108, .tpls, 0, ((findReg .tpls 0x108).getD { off := 0 }), sd .primrose, by decide +kernel⟩,
   ⟨0x004FFC, .hostq, 0, sd .idle, by decide +kernel⟩,
   ⟨0xFFFFFC, sd .idle, by decide +kernel, noPage (by decide +kernel)⟩⟩

/-- States and operands that meet the hypotheses of each clause of PageControl. -/
theorem witness_PageControl :
  (∃ (p : BitVec 12) (k : PageKind) (i : Nat) (s : State), s.canon = true ∧ Writable s ∧ pageOf s.member p.toNat = some (k,
    i) ∧ k.drains = true) ∧
  (∃ (p : BitVec 12) (k : PageKind) (i : Nat) (s : State), s.canon = true ∧ Writable s ∧ pageOf s.member p.toNat = some (k,
    i) ∧ k.drains = true) ∧
  (∃ (p : BitVec 12) (k : PageKind) (i : Nat) (s : State), s.canon = true ∧ Writable s ∧ pageOf s.member p.toNat = some (k,
    i) ∧ k.drains = false ∧ (s.reg (hdr p.toNat HDR.PG_ERR_FIRST)).toNat.testBit 31 = false) ∧
  (∃ (t : Time) (p : BitVec 12) (k : PageKind) (i : Nat) (s : State), s.canon = true ∧ Writable s ∧ pageOf s.member p.toNat
    = some (k, i) ∧ k ≠ .sys ∧ ((s.at t).settlePage k i).softOk p.toNat k = true) ∧
  (∃ (t : Time) (p : BitVec 12) (k : PageKind) (i : Nat) (s : State), s.canon = true ∧ Writable s ∧ pageOf s.member p.toNat
    = some (k, i) ∧ k ≠ .sys ∧ ((s.at t).settlePage k i).softOk p.toNat k = false ∧ s.en p.toNat = true ∧ (s.reg (hdr
    p.toNat HDR.PG_ERR_FIRST)).toNat.testBit 31 = false) ∧
  (∃ (p : BitVec 12) (s : State), Writable s ∧ p.toNat = 0) ∧
  (∃ (p : BitVec 12) (k : PageKind) (i : Nat) (s : State), s.canon = true ∧ Writable s ∧ pageOf s.member p.toNat = some (k,
    i) ∧ (s.en p.toNat = true ∨ k.drains = true) ∧ (s.reg (hdr p.toNat HDR.PG_CTRL)).toNat.testBit 2 = false) ∧
  (∃ (p : BitVec 12) (k : PageKind) (i : Nat) (s : State), s.canon = true ∧ Writable s ∧ pageOf s.member p.toNat = some (k,
    i) ∧ (s.en p.toNat = true ∨ k.drains = true)) :=
  ⟨⟨0x004, .hostq, 0, wr (sd .idle) 0x4004 0, by decide +kernel⟩,
   ⟨0x004, .hostq, 0, (wr (sd .idle) 0x4004 1).modQ 3 (fun q => { q with segs := [⟨true, true, true, 0, 0, []⟩] }), by decide +kernel⟩,
   ⟨0x000, .sys, 0, sd .idle, by decide +kernel⟩,
   ⟨0, 0x014, .pose, 0, wr (sd .idle) 0x14804 7, by decide +kernel⟩,
   ⟨0, 0x014, .pose, 0, sd .run, by decide +kernel⟩,
   ⟨0x000, sd .idle, by decide +kernel⟩,
   ⟨0x004, .hostq, 0, wr (sd .idle) 0x480C 5, by decide +kernel⟩,
   ⟨0x004, .hostq, 0, { wr (sd .idle) 0x4004 5 with frozen := [(0x480C, 7)] }, by decide +kernel⟩⟩

/-- States and operands that meet the hypotheses of each clause of RegisterTransactions. -/
theorem witness_RegisterTransactions :
  (∃ (a : BitVec 24) (c : Fin 64) (s : State), s.hostLive = true ∧ burstOk a.toNat (c.val + 1) false = false) ∧
  (∃ (a : BitVec 24) (c : Fin 64) (s : State), s.hostLive = true ∧ burstOk a.toNat (c.val + 1) true = false) ∧
  (∃ (a : BitVec 24) (c : Fin 64) (s : State), s.hostLive = true ∧ s.canon = true ∧ (s.answers a.toNat = false ∨ s.laneRead
    a.toNat = true) ∧ burstOk a.toNat (c.val + 1) false = true) ∧
  (∃ (a : BitVec 24) (c : Fin 64) (s : State), s.hostLive = true ∧ s.canon = true ∧ (s.answers a.toNat = false ∨ s.laneRead
    a.toNat = true) ∧ burstOk a.toNat (c.val + 1) true = true) ∧
  (∃ (a : BitVec 24) (c : Fin 64) (ready : Bool) (s : State), s.hostLive = true ∧ s.answers a.toNat = true ∧ (ready = true
    ∨ s.laneRead a.toNat = false) ∧ burstOk a.toNat (c.val + 1) false = true) ∧
  (∃ (a : BitVec 24) (c : Fin 64) (ready : Bool) (s : State), s.hostLive = true ∧ s.answers a.toNat = true ∧ (ready = true
    ∨ s.laneRead a.toNat = false) ∧ burstOk a.toNat (c.val + 1) true = true) ∧
  (∃ (a : BitVec 24) (ws : List Word) (s : State), s.hostLive = true ∧ s.answers a.toNat = true ∧ (pageOf s.member (a.toNat
    / 4096)).isSome = true ∧ burstOk a.toNat ws.length false = true) ∧
  (∃ (a : BitVec 24) (ws : List Word) (s : State), s.hostLive = true ∧ s.answers a.toNat = true ∧ (pageOf s.member (a.toNat
    / 4096)).isSome = true ∧ burstOk a.toNat ws.length true = true) ∧
  (∃ (a : BitVec 24) (ws : List Word) (s : State), s.canon = true ∧ s.hostLive = true ∧ (burstOk a.toNat ws.length false =
    false ∨ pageOf s.member (a.toNat / 4096) = none ∨ s.answers a.toNat = false)) ∧
  (∃ (a : BitVec 24) (ws : List Word) (s : State), s.canon = true ∧ s.hostLive = true ∧ (burstOk a.toNat ws.length true =
    false ∨ pageOf s.member (a.toNat / 4096) = none ∨ s.answers a.toNat = false)) ∧
  (∃ (a : BitVec 24) (ws : List Word) (b : Byte) (fixed : Bool) (s : State), s.canon = true ∧ s.hostLive = true ∧ b ≠ crc8
    (regHead (if fixed then 0x03 else 0x02) a.toNat ws.length ++ wordBytes ws)) ∧
  (∃ (s : State), s.canon = true ∧ s.hostLive = true) ∧
  (∃ (b : Byte) (s : State), s.canon = true ∧ s.hostLive = true ∧ b.toNat ∉ [0x0B, 0x0C, 0x02, 0x03, 0x38, 0x3B, 0x3E]) ∧
  (∃ (c : Instr) (t : Time) (a : BitVec 24) (n : Fin 64) (ready : Bool) (ws : List Word) (x : Option Byte) (s : State),
    s.hostLive = false ∧ (c = .rd t a n ready ∨ c = .rdf t a n ready ∨ c = .wr t a ws x ∨ c = .wrf t a ws x)) :=
  ⟨⟨0x000FFC, 1, sd .idle, by decide +kernel⟩,
   ⟨0x004001, 63, sd .idle, by decide +kernel⟩,
   ⟨0x14F808, 63, sd .idle, by decide +kernel⟩,
   ⟨0x14F808, 63, sd .idle, by decide +kernel⟩,
   ⟨0x004800, 1, false, sd .idle, by decide +kernel⟩,
   ⟨0x004800, 2, false, sd .idle, by decide +kernel⟩,
   ⟨0x004FF8, [1,2], sd .idle, by decide +kernel⟩,
   ⟨0x004FF8, [1,2], sd .idle, by decide +kernel⟩,
   ⟨0x004FF8, [1,2,3], sd .idle, by decide +kernel⟩,
   ⟨0x004FF9, [1,2,3], sd .idle, by decide +kernel⟩,
   ⟨0x004FF8, [1], 0, false, sd .idle, by decide +kernel⟩,
   ⟨sd .idle, by decide +kernel⟩,
   ⟨0xFF, sd .idle, by decide +kernel⟩,
   ⟨.rd 0 0 0 true, 0, 0, 0, true, [], none, sd .reset, by decide +kernel⟩⟩

/-- States and operands that meet the hypotheses of each clause of QueuePushes. -/
theorem witness_QueuePushes :
  (∃ (sel : Byte) (desc : List Byte) (data : List Byte) (q : Nat) (s : State), s.canon = true ∧ s.hostLive = true ∧
    desc.length = 16 ∧ data.length = leAt desc 2 2 ∧ q = sel.toNat % 32 ∧ s.pushCheck q sel.toNat desc data.length = .done) ∧
  (∃ (sel : Byte) (desc : List Byte) (data : List Byte) (q : Nat) (s : State) (a : _), s.canon = true ∧ s.hostLive = true ∧
    desc.length = 16 ∧ data.length = leAt desc 2 2 ∧ q = sel.toNat % 32 ∧ s.pushCheck q sel.toNat desc data.length = a ∧ a
    ≠ .done) ∧
  (∃ (sel : Byte) (desc : List Byte) (data : List Byte) (c : Word) (s : State), s.canon = true ∧ s.hostLive = true ∧
    desc.length = 16 ∧ data.length = leAt desc 2 2 ∧ c ≠ crc32 ([0x38, sel] ++ desc ++ data)) ∧
  (∃ (q : Nat), qAssigned q = false) ∧
  (∃ (q : Nat), qAssigned q = true ∧ qH2D q = false) ∧
  (∃ (q : Nat) (s : State), qAssigned q = true ∧ qH2D q = true ∧ s.hostDraining = true) ∧
  (∃ (q : Nat) (sel : Nat) (desc : List Byte) (s : State), qAssigned q = true ∧ qH2D q = true ∧ s.hostDraining = false ∧
    (leAt desc 0 1 ≠ sel ∨ 32 ≤ sel ∨ 8192 < leAt desc 2 2 ∨ 8 ≤ leAt desc 1 1)) ∧
  (∃ (q : Nat) (sel : Nat) (desc : List Byte) (s : State), qAssigned q = true ∧ qH2D q = true ∧ s.hostDraining = false ∧
    leAt desc 0 1 = sel ∧ sel < 32 ∧ leAt desc 2 2 ≤ 8192 ∧ leAt desc 1 1 < 8 ∧ BitVec.ofNat 16 (leAt desc 4 2) + 1 = (s.q
    q).seq) ∧
  (∃ (q : Nat) (sel : Nat) (desc : List Byte) (s : State), qAssigned q = true ∧ qH2D q = true ∧ s.hostDraining = false ∧
    leAt desc 0 1 = sel ∧ sel < 32 ∧ leAt desc 2 2 ≤ 8192 ∧ leAt desc 1 1 < 8 ∧ BitVec.ofNat 16 (leAt desc 4 2) + 1 ≠ (s.q
    q).seq ∧ BitVec.ofNat 16 (leAt desc 4 2) ≠ (s.q q).seq) ∧
  (∃ (q : Nat) (sel : Nat) (desc : List Byte) (s : State), qAssigned q = true ∧ qH2D q = true ∧ s.hostDraining = false ∧
    leAt desc 0 1 = sel ∧ sel < 32 ∧ leAt desc 2 2 ≤ 8192 ∧ leAt desc 1 1 < 8 ∧ BitVec.ofNat 16 (leAt desc 4 2) = (s.q
    q).seq ∧ (leAt desc 1 1).testBit 0 = (s.q q).open_) ∧
  (∃ (q : Nat) (sel : Nat) (desc : List Byte) (s : State), qAssigned q = true ∧ qH2D q = true ∧ s.hostDraining = false ∧
    leAt desc 0 1 = sel ∧ sel < 32 ∧ leAt desc 2 2 ≤ 8192 ∧ leAt desc 1 1 < 8 ∧ BitVec.ofNat 16 (leAt desc 4 2) = (s.q
    q).seq ∧ (leAt desc 1 1).testBit 0 ≠ (s.q q).open_) :=
  ⟨⟨3, qd 3 7 2 0, [1,2], 3, sd .idle, by decide +kernel⟩,
   ⟨3, qd 3 7 2 5, [1,2], 3, sd .idle, Ack.seqErr, by decide +kernel⟩,
   ⟨3, qd 3 7 2 0, [1,2], 0, sd .idle, by decide +kernel⟩,
   ⟨15, by decide +kernel⟩,
   ⟨24, by decide +kernel⟩,
   ⟨3, wr (sd .idle) 0x4004 0, by decide +kernel⟩,
   ⟨3, 3, qd 3 8 0 0, sd .idle, by decide +kernel⟩,
   ⟨3, 3, qd 3 3 0 65535, sd .idle, by decide +kernel⟩,
   ⟨3, 3, qd 3 3 0 1, sd .idle, by decide +kernel⟩,
   ⟨3, 3, qd 3 2 0 0, sd .idle, by decide +kernel⟩,
   ⟨3, 3, qd 3 3 8192 0, sd .idle, by decide +kernel⟩⟩

/-- States and operands that meet the hypotheses of each clause of QueuePops. -/
theorem witness_QueuePops :
  (∃ (sel : Byte) (s : State), s.hostLive = true ∧ qH2D (sel.toNat % 32) = false ∧ sel.toNat.testBit 7 = false) ∧
  (∃ (sel : Byte) (ack : BitVec 16) (s : State) (i : _) (r : _), s.hostLive = true ∧ qH2D (sel.toNat % 32) = false ∧
    sel.toNat.testBit 7 = true ∧ (s.q (sel.toNat % 32)).items = i :: r ∧ i.seq = ack) ∧
  (∃ (sel : Byte) (ack : BitVec 16) (s : State), s.hostLive = true ∧ qH2D (sel.toNat % 32) = false ∧ sel.toNat.testBit 7 =
    true ∧ (∀ i r, (s.q (sel.toNat % 32)).items = i :: r → i.seq ≠ ack)) ∧
  (∃ (sel : Byte) (s : State), s.hostLive = true ∧ qH2D (sel.toNat % 32) = true) :=
  ⟨⟨8, dq1 (sd .idle) 8 [1,2], by decide +kernel⟩,
   ⟨0x88, 3, dq1 (sd .idle) 8 [1,2], (⟨3, 7, 0, [1,2]⟩ : DItem), [⟨4, 7, 0, [1,2]⟩], by decide +kernel⟩,
   ⟨0x88, 4, dq1 (sd .idle) 8 [1,2], by decide +kernel, by decide +kernel, by decide +kernel, by intro i r h; cases h; decide⟩,
   ⟨3, sd .idle, by decide +kernel⟩⟩

/-- States and operands that meet the hypotheses of each clause of CompletionReads. -/
theorem witness_CompletionReads :
  (∃ (ackN : Byte) (maxN : Byte) (s : State), s.hostLive = true ∧ ackN.toNat ≤ 32 ∧ 1 ≤ maxN.toNat ∧ maxN.toNat ≤ 32) :=
  ⟨1, 32, { sd .idle with cmpl := [⟨3,0,1,2,0⟩, ⟨3,1,2,2,0⟩] }, by decide +kernel⟩

/-- States and operands that meet the hypotheses of each clause of QueueUpkeep. -/
theorem witness_QueueUpkeep :
  (∃ (v : Word) (q : Nat) (s : State), Writable s ∧ q < 32 ∧ v.toNat.testBit q = true ∧ qH2D q = true) ∧
  (∃ (v : Word) (q : Nat) (s : State), Writable s ∧ q < 32 ∧ v.toNat.testBit q = true ∧ qH2D q = false ∧ s.nor.long = none) ∧
  (∃ (v : Word) (q : Nat) (s : State) (gs : _), Writable s ∧ q < 32 ∧ v.toNat.testBit q = true ∧ v.toNat = 2 ^ q ∧ q ≠ 4 ∧
    qH2D q = true ∧ s.cmpl.length < 512 ∧ (s.q q).segs = gs ∧ splitItem gs = some (gs, [])) ∧
  (∃ (t : Time) (q : Fin 32) (i : DItem) (r : List DItem) (s : State), s.canon = true ∧ s.running = true ∧ qH2D q.val =
    false ∧ (s.q q.val).items = i :: r ∧ s.fld (HOSTQ.Q_CFG.AGE_MS q.val) ≠ 0 ∧ i.time + s.fld (HOSTQ.Q_CFG.AGE_MS q.val) *
    msPs ≤ max s.now t) ∧
  (∃ (t : Time) (s : State), s.running = true ∧ s.hpOff = false ∧ s.flag HOSTQ.HP_CFG.HIRQ_EN = true ∧ s.irqAny = true ∧
    (s.hirqLow = true ∨ s.hirqRose + s.fld HOSTQ.HP_CFG.HOLDOFF_US * usPs ≤ max s.now t)) ∧
  (∃ (s : State), s.running = true ∧ s.hpOff = false ∧ s.flag HOSTQ.HP_CFG.HIRQ_EN = true ∧ s.irqAny = false ∧ s.hirqLow =
    true) ∧
  (∃ (maxN : Byte) (s : State), s.hostLive = true ∧ (maxN = 0 ∨ 32 < maxN.toNat)) :=
  ⟨⟨0x800008, 3, hq1 (sd .idle) 3 [1], by decide +kernel⟩,
   ⟨0x80000100, 31, dq1 (sd .idle) 8 [1], by decide +kernel⟩,
   ⟨8, 3, hq1 (sd .idle) 3 [1], [(⟨true, true, true, 3, 7, [1]⟩ : Seg)], by decide +kernel⟩,
   ⟨0x100000000000, 8, ⟨3,7,0,[1]⟩, [⟨4,7,0,[1]⟩], wf (dq1 (sd .idle) 8 [1]) (HOSTQ.Q_CFG.AGE_MS 8) 5, by decide +kernel⟩,
   ⟨100000000, wr (wr (wf (sd .idle) HOSTQ.HP_CFG.HIRQ_EN 1) 0x400C 1) 0x4010 1, by decide +kernel⟩,
   ⟨{ wf (sd .idle) HOSTQ.HP_CFG.HIRQ_EN 1 with hirqLow := true }, by decide +kernel⟩,
   ⟨0, { sd .idle with cmpl := [⟨3,0,1,2,0⟩, ⟨3,1,2,2,0⟩] }, by decide +kernel⟩⟩

/-- States and operands that meet the hypotheses of each clause of BulkItems. -/
theorem witness_BulkItems :
  (∃ (gs : List Seg) (rest : List (List Seg)) (r : CfgRec) (s : State), s.canon = true ∧ s.up = true ∧ (s.q 3).whole = gs
    :: rest ∧ takeRec (itemData gs) = some (r, []) ∧ burstOk r.addr r.words.length false = true ∧ (pageOf s.member (r.addr
    / 4096)).isSome = true ∧ 0x100 ≤ r.addr % 4096 ∧ r.addr % 4096 + 4 * r.words.length ≤ 0x800 ∧ r.addr / 4096 ≠ 0x1B ∧
    s.cmpl.length < 512 ∧ s.sealed = false) ∧
  (∃ (gs : List Seg) (rest : List (List Seg)) (r : CfgRec) (s : State) (k : _) (i : _) (d : _), s.canon = true ∧ s.up =
    true ∧ (s.q 3).whole = gs :: rest ∧ takeRec (itemData gs) = some (r, []) ∧ burstOk r.addr r.words.length false = true ∧
    (pageOf s.member (r.addr / 4096)).isSome = true ∧ 0x100 ≤ r.addr % 4096 ∧ r.addr % 4096 + 4 * r.words.length ≤ 0x800 ∧
    r.addr / 4096 ≠ 0x1B ∧ s.cmpl.length < 512 ∧ s.sealed = true ∧ pageOf s.member (r.addr / 4096) = some (k, i) ∧ findReg
    k (r.addr % 4096) = some d ∧ d.rwl ≠ 0) ∧
  (∃ (gs : List Seg) (rest : List (List Seg)) (s : State), s.up = true ∧ (s.q 3).whole = gs :: rest ∧ itemData gs ≠ [] ∧
    takeRec (itemData gs) = none ∧ s.cmpl.length < 512) :=
  ⟨⟨[(⟨true, true, true, 3, 7, leBytes 4 (0x12108 / 4 * 1024 + 0) ++ leBytes 4 0xFFFF⟩ : Seg)], [], ⟨0x12108, [0xFFFF]⟩, hq1 (sd .primrose) 3 (leBytes 4 (0x12108 / 4 * 1024 + 0) ++ leBytes 4 0xFFFF), by decide +kernel⟩,
   ⟨[(⟨true, true, true, 3, 7, leBytes 4 (0x12108 / 4 * 1024 + 0) ++ leBytes 4 0xFFFF⟩ : Seg)], [], ⟨0x12108, [0xFFFF]⟩, hq1 (sd .idle) 3 (leBytes 4 (0x12108 / 4 * 1024 + 0) ++ leBytes 4 0xFFFF), PageKind.tpls, 0, ((findReg .tpls 0x108).getD { off := 0 }), by decide +kernel⟩,
   ⟨[(⟨true, true, true, 3, 7, [1,2,3]⟩ : Seg)], [], hq1 (sd .idle) 3 [1,2,3], by decide +kernel⟩⟩

/-- States and operands that meet the hypotheses of each clause of Mailboxes. -/
theorem witness_Mailboxes :
  (∃ (k : Fin 8) (s : State), s.running = true ∧ 6 ≤ k.val) ∧
  (∃ (k : Fin 8) (s : State), s.running = true ∧ k.val < 6 ∧ (s.mb k.val).txPend = false ∧ (s.mb k.val).tx.length < 16) ∧
  (∃ (k : Fin 8) (s : State), s.running = true ∧ k.val < 6 ∧ ((s.mb k.val).txPend = true ∨ 16 ≤ (s.mb k.val).tx.length)) ∧
  (∃ (k : Fin 8) (s : State), s.running = true ∧ k.val < 6 ∧ (s.mb k.val).tx ≠ [] ∧ (s.mb k.val).txPend = false) ∧
  (∃ (k : Fin 8) (r : List Word) (rs : List (List Word)) (s : State), s.up = true ∧ (s.mb k.val).replies = r :: rs ∧ (s.mb
    k.val).rx = []) ∧
  (∃ (s : State), s.running = true) ∧
  (∃ (k : Fin 8) (h : Half) (c : Cmd) (s : State), s.mbHalf k.val = some h ∧ s.up = true ∧ s.runs h = true ∧ (s.mb
    k.val).txPend = true ∧ (s.mb k.val).inbox = none ∧ c = parseCmd k.val (s.mb k.val).tx) :=
  ⟨⟨6, sd .idle, by decide +kernel⟩,
   ⟨5, (sd .idle).modMb 5 (fun m => { m with tx := List.replicate 15 1 }), by decide +kernel⟩,
   ⟨5, (sd .idle).modMb 5 (fun m => { m with tx := List.replicate 16 1 }), by decide +kernel⟩,
   ⟨0, (sd .idle).modMb 0 (fun m => { m with tx := [1] }), by decide +kernel⟩,
   ⟨5, [1,2], [[3]], (sd .idle).modMb 5 (fun m => { m with replies := [[1,2],[3]] }), by decide +kernel⟩,
   ⟨(sd .idle).modMb 5 (fun m => { m with rx := [1,2], rxReady := true }), by decide +kernel⟩,
   ⟨0, .a, parseCmd 0 (cw opEcho 9 []), (sd .idle).modMb 0 (fun m => { m with tx := cw opEcho 9 [], txPend := true }), by decide +kernel⟩⟩

/-- States and operands that meet the hypotheses of each clause of ShortCommands. -/
theorem witness_ShortCommands :
  (∃ (k : Fin 8) (c : Cmd) (s : State), CmdWaits s k opGetInfo c ∧ s.cmdCheck c = none) ∧
  (∃ (k : Fin 8) (c : Cmd) (s : State), CmdWaits s k opEcho c ∧ s.cmdCheck c = none) ∧
  (∃ (k : Fin 8) (c : Cmd) (s : State), CmdWaits s k opDirSet c ∧ s.cmdCheck c = none ∧ s.nor.present = true) ∧
  (∃ (k : Fin 8) (c : Cmd) (s : State), s.canon = true ∧ CmdWaits s k opPatchSelect c ∧ s.cmdCheck c = none ∧ s.nor.present
    = true) ∧
  (∃ (k : Fin 8) (c : Cmd) (s : State), CmdWaits s k opCfgClear c ∧ s.cmdCheck c = none ∧ s.nor.present = true) ∧
  (∃ (k : Fin 8) (c : Cmd) (l : LongCmd) (s : State), CmdWaits s k opAbort c ∧ s.cmdCheck c = none ∧ s.nor.long = some l ∧
    l.final = none) ∧
  (∃ (k : Fin 8) (c : Cmd) (s : State), CmdWaits s k opKeyRevoke c ∧ s.cmdCheck c = none) :=
  ⟨⟨0, parseCmd 0 (cw opGetInfo 9 []), mbx (nors .idle) 0 (cw opGetInfo 9 []), by decide +kernel⟩,
   ⟨0, parseCmd 0 (cw opEcho 9 []), mbx (nors .idle) 0 (cw opEcho 9 []), by decide +kernel⟩,
   ⟨0, parseCmd 0 (cw opDirSet 9 [0x01000302, 0x500000, 0x20000]), mbx (nors .primrose) 0 (cw opDirSet 9 [0x01000302, 0x500000, 0x20000]), by decide +kernel⟩,
   ⟨0, parseCmd 0 (cw opPatchSelect 9 [1]), mbx (nors .idle) 0 (cw opPatchSelect 9 [1]), by decide +kernel⟩,
   ⟨0, parseCmd 0 (cw opCfgClear 9 []), mbx (nors .idle) 0 (cw opCfgClear 9 []), by decide +kernel⟩,
   ⟨0, parseCmd 0 (cw opAbort 9 [5]), lc opNorRead, mbx ({ nors .run with nor := { (nors .run).nor with long := some (lc opNorRead) } }) 0 (cw opAbort 9 [5]), by decide +kernel⟩,
   ⟨0, parseCmd 0 (cw opKeyRevoke 9 [3]), mbx (sd .primrose) 0 (cw opKeyRevoke 9 [3]), by decide +kernel⟩⟩

/-- States and operands that meet the hypotheses of each clause of LongCommands. -/
theorem witness_LongCommands :
  (∃ (k : Fin 8) (c : Cmd) (s : State), s.canon = true ∧ CmdWaits s k opNorRead c ∧ s.cmdCheck c = none) ∧
  (∃ (k : Fin 8) (c : Cmd) (s : State), s.canon = true ∧ CmdWaits s k opNorErase c ∧ s.cmdCheck c = none) ∧
  (∃ (k : Fin 8) (c : Cmd) (s : State), s.canon = true ∧ CmdWaits s k opNorWrite c ∧ s.cmdCheck c = none) ∧
  (∃ (k : Fin 8) (c : Cmd) (s : State), s.canon = true ∧ CmdWaits s k opNorCrc c ∧ s.cmdCheck c = none) ∧
  (∃ (k : Fin 8) (c : Cmd) (s : State), s.canon = true ∧ CmdWaits s k opPatchStage c ∧ s.cmdCheck c = none) ∧
  (∃ (k : Fin 8) (c : Cmd) (s : State), s.canon = true ∧ CmdWaits s k opCfgSave c ∧ s.cmdCheck c = none) ∧
  (∃ (k : Fin 8) (c : Cmd) (s : State), s.canon = true ∧ CmdWaits s k opLogRead c ∧ s.cmdCheck c = none) :=
  ⟨⟨0, parseCmd 0 (cw opNorRead 9 [0x7FFFFF, 1]), mbx (nors .idle) 0 (cw opNorRead 9 [0x7FFFFF, 1]), by decide +kernel⟩,
   ⟨0, parseCmd 0 (cw opNorErase 9 [0x7FF000, 4096]), mbx (nors .idle) 0 (cw opNorErase 9 [0x7FF000, 4096]), by decide +kernel⟩,
   ⟨0, parseCmd 0 (cw opNorWrite 9 [0x7FFFF0, 16, 65535]), mbx (nors .idle) 0 (cw opNorWrite 9 [0x7FFFF0, 16, 65535]), by decide +kernel⟩,
   ⟨3, parseCmd 3 (cw opNorCrc 9 [0x7FFFF0, 16]), mbx (nors .run) 3 (cw opNorCrc 9 [0x7FFFF0, 16]), by decide +kernel⟩,
   ⟨0, parseCmd 0 (cw opPatchStage 9 [65535, 1]), mbx (nors .idle) 0 (cw opPatchStage 9 [65535, 1]), by decide +kernel⟩,
   ⟨0, parseCmd 0 (cw opCfgSave 9 []), mbx (nors .idle) 0 (cw opCfgSave 9 []), by decide +kernel⟩,
   ⟨0, parseCmd 0 (cw opLogRead 9 [2, 0xFFFFFFFF, 1]), mbx (nors .idle) 0 (cw opLogRead 9 [2, 0xFFFFFFFF, 1]), by decide +kernel⟩⟩

/-- States and operands that meet the hypotheses of each clause of CommandChecks. -/
theorem witness_CommandChecks :
  (∃ (t : Time) (k : Fin 8) (c : Cmd) (st : Nat) (d : Nat) (op : Nat) (i : Instr) (s : State), CmdWaits s k op c ∧
    s.cmdCheck c = some (st, d) ∧ (op, i) ∈ [(opGetInfo, Instr.getInfo t k), (opEcho, .echo t k), (opNorRead, .norRead t
    k), (opNorErase, .norErase t k), (opNorWrite, .norWrite t k), (opNorCrc, .norCrc t k), (opDirSet, .dirSet t k),
    (opPatchStage, .patchStage t k), (opPatchSelect, .patchSelect t k), (opCfgSave, .cfgSave t k), (opCfgClear, .cfgClear t
    k), (opLogRead, .logRead t k), (opAbort, .abort t k), (opKeyRevoke, .keyRevoke t k)]) :=
  ⟨0, 0, parseCmd 0 (cw opKeyRevoke 9 [4]), rsBadArg, 0, opKeyRevoke, .keyRevoke 0 0, mbx (sd .primrose) 0 (cw opKeyRevoke 9 [4]), by decide +kernel⟩

/-- States and operands that meet the hypotheses of each clause of PortEvents. -/
theorem witness_PortEvents :
  (∃ (o : NorOp) (s : State), s.nor.cur = some o ∧ s.nor.long = none) ∧
  (∃ (o : NorOp) (s : State), s.nor.cur = some o ∧ o.recorder = true ∧ s.nor.long = none) ∧
  (∃ (o : NorOp) (c : LongCmd) (s : State), s.nor.cur = some o ∧ o.recorder = false ∧ s.nor.long = some c ∧ c.op =
    opNorErase ∧ c.final = none ∧ c.aborting = false ∧ s.nor.present = true ∧ s.nor.cmdQ = [] ∧ s.nor.recQ = [] ∧
    s.nor.suspended = none ∧ c.arg 1 ≤ c.done + o.size) ∧
  (∃ (t : Time) (o : NorOp) (s : State) (c : _), s.canon = true ∧ s.nor.cur = some o ∧ s.nor.curSince + s.fld
    NOR.NOR_CFG.OP_TMO_MS * msPs ≤ max s.now t ∧ o.recorder = false ∧ s.nor.long = some c) ∧
  (∃ (t : Time) (o : NorOp) (s : State), s.canon = true ∧ s.nor.cur = some o ∧ s.nor.curSince + s.fld NOR.NOR_CFG.OP_TMO_MS
    * msPs ≤ max s.now t ∧ s.nor.long = none) ∧
  (∃ (c : LongCmd) (st : Nat) (d : Nat) (r : List Word) (s : State), s.canon = true ∧ s.nor.long = some c ∧ c.final = some
    (st, d, r)) ∧
  (∃ (t : Time) (c : LongCmd) (s : State), s.nor.long = some c ∧ c.op = opNorWrite ∧ c.buf = [] ∧ c.final = none ∧ c.got <
    c.arg 1 ∧ s.cmdOpBusy = false ∧ c.lastSeg + secPs ≤ max s.now t) :=
  ⟨⟨nop .erase4 false, { sd .idle with nor := { NorState.reset with present := true, cur := some (nop .erase4 false), long := none } }, by decide +kernel⟩,
   ⟨{ nop .program true with recs := [(.a, 0)] }, { recs8 (sv .idle) with nor := { NorState.reset with present := true, cur := some { nop .program true with recs := [(.a, 0)] } } }, by decide +kernel⟩,
   ⟨nop .erase4 false, { lc opNorErase with args := [0, 4096] }, { sd .idle with nor := { NorState.reset with present := true, cur := some (nop .erase4 false), long := some { lc opNorErase with args := [0, 4096] } } }, by decide +kernel⟩,
   ⟨0xFFFFFFFFFFFFFF, nop .program false, { sd .idle with nor := { NorState.reset with present := true, cur := some (nop .program false), long := some (lc opNorWrite) } }, lc opNorWrite, by decide +kernel⟩,
   ⟨0xFFFFFFFFFFFFFF, nop .program true, { sd .idle with nor := { NorState.reset with present := true, cur := some (nop .program true), long := none } }, by decide +kernel⟩,
   ⟨{ lc opNorWrite with final := some (rsOk, 7, [9]) }, rsOk, 7, [9], { sd .idle with nor := { NorState.reset with present := true, cur := none, long := some { lc opNorWrite with final := some (rsOk, 7, [9]) } } }, by decide +kernel⟩,
   ⟨1000000000000, { lc opNorWrite with args := [0, 4, 0] }, { sd .idle with nor := { NorState.reset with present := true, cur := none, long := some { lc opNorWrite with args := [0, 4, 0] } } }, by decide +kernel⟩⟩

/-- States and operands that meet the hypotheses of each clause of RecorderEvents. -/
theorem witness_RecorderEvents :
  (∃ (code : BitVec 10) (h : Half) (g : Half) (c : RecCode) (s : State) (i : _) (ow : _), recOf code.toNat = some c ∧
    s.running = true ∧ s.runs g = true ∧ (c.origin = .own → g = h) ∧ (bucketTake ((s.codeCfg c.num).testBit 31) c.sev
    (Sparse.get bucketFull (s.copy g).buckets c.num)).1 = true ∧ placeSlot (s.copy g) c.sev = some (i, ow)) ∧
  (∃ (code : BitVec 10) (h : Half) (g : Half) (c : RecCode) (s : State), recOf code.toNat = some c ∧ s.running = true ∧
    s.runs g = true ∧ (c.origin = .own → g = h) ∧ (bucketTake ((s.codeCfg c.num).testBit 31) c.sev (Sparse.get bucketFull
    (s.copy g).buckets c.num)).1 = false) ∧
  (∃ (code : BitVec 10) (h : Half) (g : Half) (c : RecCode) (s : State), recOf code.toNat = some c ∧ s.running = true ∧
    s.runs g = true ∧ (c.origin = .own → g = h) ∧ (bucketTake ((s.codeCfg c.num).testBit 31) c.sev (Sparse.get bucketFull
    (s.copy g).buckets c.num)).1 = true ∧ placeSlot (s.copy g) c.sev = none) ∧
  (∃ (t : Time) (h : Half) (s : State), max s.now t % msPs = 0 ∧ s.running = true ∧ Sparse.wf bucketFull (s.copy h).buckets
    = true ∧ s.canon = true) ∧
  (∃ (t : Time) (rs : List Held) (s : State), rs = (s.at t).unflushed.filter (s.at t).eligible ∧ s.up = true ∧ s.drives =
    true ∧ s.yewPort.logOk = true ∧ s.pfail = false ∧ 8 ≤ rs.length ∧ s.yewPort.roll.full = false) ∧
  (∃ (t : Time) (h : Half) (i : Nat) (r : YewRec) (s : State), (s.at t).streamRecs.find? (fun r => !r.2.2.streamed && (s.at
    t).eligible r) = some (h, i, r) ∧ s.up = true ∧ s.drives = true) :=
  ⟨⟨BitVec.ofNat 10 Rec.NOR_ERR.num, .a, .b, Rec.NOR_ERR, sv .idle, 0, false, by decide +kernel⟩,
   ⟨BitVec.ofNat 10 Rec.NOR_ERR.num, .a, .b, Rec.NOR_ERR, { sv .idle with yew := Vector.replicate 2 { YewCopy.reset with buckets := [(Rec.NOR_ERR.num, 0)] } }, by decide +kernel⟩,
   ⟨BitVec.ofNat 10 Rec.NOR_ERR.num, .a, .b, Rec.NOR_ERR, { sv .idle with yew := Vector.replicate 2 { YewCopy.reset with slots := (List.range 2048).map (fun i => (i, some ⟨i,0,0,7,0,.a,0,false,false,.own,0,0,0,false,false⟩)) } }, by decide +kernel⟩,
   ⟨1000000000, .b, { sv .idle with yew := Vector.replicate 2 { YewCopy.reset with buckets := [(Rec.NOR_ERR.num, 0)] } }, by decide +kernel⟩,
   ⟨1000000000, ((({ recs8 (sv .idle) with yewPort := { YewPort.reset with logOk := true } } : State).at 1000000000).unflushed.filter (({ recs8 (sv .idle) with yewPort := { YewPort.reset with logOk := true } } : State).at 1000000000).eligible), { recs8 (sv .idle) with yewPort := { YewPort.reset with logOk := true } }, by decide +kernel⟩,
   ⟨1000000000, .a, 0, ((Sparse.get noRec ((recs8 (sv .idle)).copy .a).slots 0).getD ⟨0,0,0,0,0,.a,0,false,false,.own,0,0,0,false,false⟩), wf (wf (recs8 (sv .idle)) YEW.YEW_CFG.STREAM_EN 1) YEW.YEW_CFG.STREAM_MIN_SEV 0, by decide +kernel⟩⟩

/-- States and operands that meet the hypotheses of each clause of GnssEvents. -/
theorem witness_GnssEvents :
  (∃ (c : BitVec 17) (s : State), s.canon = true ∧ s.up = true ∧ 51998 ≤ c.toNat ∧ c.toNat ≤ 52002) ∧
  (∃ (c : BitVec 17) (s : State), s.canon = true ∧ s.up = true ∧ (c.toNat < 51998 ∨ 52002 < c.toNat)) ∧
  (∃ (l1 : IfCounts) (l5 : IfCounts) (c1 : Nat × Nat) (c5 : Nat × Nat) (m : Nat) (d : Nat) (s : State), s.canon = true ∧
    s.up = true ∧ (s.dev ≠ .standby ∨ s.gnss.burst = true) ∧ c1 = s.ifCount (s.flag (GNSS.IF_CFG.L1_QINV 0)) l1 ∧ c5 =
    s.ifCount (s.flag (GNSS.IF_CFG.L5_QINV 0)) l5 ∧ s.gnss.gifOk = true ∧ s.fld (GNSS.AGC_CFG.BAND 0) < 3 ∧ m = (if s.fld
    (GNSS.AGC_CFG.BAND 0) = 0 then percent c1.1 c1.2 else if s.fld (GNSS.AGC_CFG.BAND 0) = 1 then percent c5.1 c5.2 else
    percent (c1.1 + c5.1) (c1.2 + c5.2)) ∧ d = (if s.flag (GNSS.AGC_CFG.MODE 0) = true then s.fld (GNSS.AGC_CFG.DUTY_FIX 0)
    else agcDuty s.gnss.duty (s.fld (GNSS.AGC_CFG.TARGET_PCT 0)) m (s.fld (GNSS.AGC_CFG.GAIN 0)))) ∧
  (∃ (l1 : IfCounts) (l5 : IfCounts) (c1 : Nat × Nat) (c5 : Nat × Nat) (s : State), s.canon = true ∧ s.up = true ∧ (s.dev ≠
    .standby ∨ s.gnss.burst = true) ∧ c1 = s.ifCount (s.flag (GNSS.IF_CFG.L1_QINV 0)) l1 ∧ c5 = s.ifCount (s.flag
    (GNSS.IF_CFG.L5_QINV 0)) l5 ∧ s.gnss.gifOk = false ∧ s.flag (GNSS.AGC_CFG.MODE 0) = false) ∧
  (∃ (t : Time) (ms : List ChanMeas) (h : Half) (s : State), s.canon = true ∧ s.up = true ∧ (s.at t).measInstant = true ∧
    s.inCharge = some h ∧ s.flag (GNSS.MEAS_CFG.OBS_EN 0) = true ∧ s.credit 13 (32 + 32 * ms.length) = true) ∧
  (∃ (t : Time) (m : ChanMeas) (s : State), Sparse.wf noChan s.gnss.chans = true ∧ s.up = true ∧ (s.at t).measInstant =
    true ∧ s.gnss.gifOk = true ∧ s.gnss.advance = false ∧ s.basebandOn m.half = true ∧ poolIx m.half m.ch.toNat ∈
    s.assigned m.half ∧ (s.chan (poolIx m.half m.ch.toNat)).st ≠ .burstHold) ∧
  (∃ (t : Time) (b : List Byte) (len : Nat) (s : State) (v : State), s.canon = true ∧ s.up = true ∧ s.halves.any
    s.basebandOn = true ∧ v = State.takeQ2 (s.q 2).segs.length (s.at t) ∧ b = seekPreamble v.gnss.buf ∧ len = bf (beNat
    ((b.drop 1).take 2)) 9 0 ∧ b.length < len + 6) ∧
  (∃ (t : Time) (b : List Byte) (len : Nat) (s : State) (v : State), s.canon = true ∧ s.up = true ∧ s.halves.any
    s.basebandOn = true ∧ v = State.takeQ2 (s.q 2).segs.length (s.at t) ∧ b = seekPreamble v.gnss.buf ∧ len = bf (beNat
    ((b.drop 1).take 2)) 9 0 ∧ len + 6 ≤ b.length ∧ crc24 (b.take (len + 3)) = beNat ((b.drop (len + 3)).take 3)) ∧
  (∃ (t : Time) (b : List Byte) (len : Nat) (s : State) (v : State), s.canon = true ∧ s.up = true ∧ s.halves.any
    s.basebandOn = true ∧ v = State.takeQ2 (s.q 2).segs.length (s.at t) ∧ b = seekPreamble v.gnss.buf ∧ len = bf (beNat
    ((b.drop 1).take 2)) 9 0 ∧ len + 6 ≤ b.length ∧ crc24 (b.take (len + 3)) ≠ beNat ((b.drop (len + 3)).take 3)) ∧
  (∃ (t : Time) (h : Half) (s : State), s.canon = true ∧ s.basebandOn h = true ∧ s.gnss.lost.get h.ix = false ∧
    s.gnss.solAt.get h.ix + 1000 * msPs ≤ max s.now t) ∧
  (∃ (t : Time) (h : Half) (x : Solution) (s : State), s.basebandOn h = true ∧ x.time.toNat * nsPs ≤ max s.now t) ∧
  (∃ (t : Time) (h : Half) (s : State), s.canon = true ∧ Sparse.wf noChan s.gnss.chans = true ∧ s.dev = .standby ∧
    s.inCharge = some h ∧ s.gnss.burst = false ∧ max s.now t % secPs < 60 * msPs) ∧
  (∃ (t : Time) (s : State), s.canon = true ∧ Sparse.wf noChan s.gnss.chans = true ∧ s.dev = .standby ∧ s.gnss.burst = true
    ∧ 60 * msPs ≤ max s.now t % secPs) :=
  ⟨⟨51998, sd .idle, by decide +kernel⟩,
   ⟨51997, sd .idle, by decide +kernel⟩,
   ⟨(⟨#v[1,2,3,4], #v[5,6,7,8]⟩ : IfCounts), (⟨#v[1,2,3,9], #v[5,6,7,8]⟩ : IfCounts), ((gg (wf (wf (wf (sv .idle) (GNSS.AGC_CFG.BAND 0) 0) (GNSS.AGC_CFG.MODE 0) 0) (GNSS.AGC_CFG.DUTY_FIX 0) 0) (fun g => { g with gifOk := true, dutyRun := 99 })).ifCount ((gg (wf (wf (wf (sv .idle) (GNSS.AGC_CFG.BAND 0) 0) (GNSS.AGC_CFG.MODE 0) 0) (GNSS.AGC_CFG.DUTY_FIX 0) 0) (fun g => { g with gifOk := true, dutyRun := 99 })).flag (GNSS.IF_CFG.L1_QINV 0)) (⟨#v[1,2,3,4], #v[5,6,7,8]⟩ : IfCounts)), ((gg (wf (wf (wf (sv .idle) (GNSS.AGC_CFG.BAND 0) 0) (GNSS.AGC_CFG.MODE 0) 0) (GNSS.AGC_CFG.DUTY_FIX 0) 0) (fun g => { g with gifOk := true, dutyRun := 99 })).ifCount ((gg (wf (wf (wf (sv .idle) (GNSS.AGC_CFG.BAND 0) 0) (GNSS.AGC_CFG.MODE 0) 0) (GNSS.AGC_CFG.DUTY_FIX 0) 0) (fun g => { g with gifOk := true, dutyRun := 99 })).flag (GNSS.IF_CFG.L5_QINV 0)) (⟨#v[1,2,3,9], #v[5,6,7,8]⟩ : IfCounts)), (percent ((gg (wf (wf (wf (sv .idle) (GNSS.AGC_CFG.BAND 0) 0) (GNSS.AGC_CFG.MODE 0) 0) (GNSS.AGC_CFG.DUTY_FIX 0) 0) (fun g => { g with gifOk := true, dutyRun := 99 })).ifCount ((gg (wf (wf (wf (sv .idle) (GNSS.AGC_CFG.BAND 0) 0) (GNSS.AGC_CFG.MODE 0) 0) (GNSS.AGC_CFG.DUTY_FIX 0) 0) (fun g => { g with gifOk := true, dutyRun := 99 })).flag (GNSS.IF_CFG.L1_QINV 0)) (⟨#v[1,2,3,4], #v[5,6,7,8]⟩ : IfCounts)).1 ((gg (wf (wf (wf (sv .idle) (GNSS.AGC_CFG.BAND 0) 0) (GNSS.AGC_CFG.MODE 0) 0) (GNSS.AGC_CFG.DUTY_FIX 0) 0) (fun g => { g with gifOk := true, dutyRun := 99 })).ifCount ((gg (wf (wf (wf (sv .idle) (GNSS.AGC_CFG.BAND 0) 0) (GNSS.AGC_CFG.MODE 0) 0) (GNSS.AGC_CFG.DUTY_FIX 0) 0) (fun g => { g with gifOk := true, dutyRun := 99 })).flag (GNSS.IF_CFG.L1_QINV 0)) (⟨#v[1,2,3,4], #v[5,6,7,8]⟩ : IfCounts)).2), (if (gg (wf (wf (wf (sv .idle) (GNSS.AGC_CFG.BAND 0) 0) (GNSS.AGC_CFG.MODE 0) 0) (GNSS.AGC_CFG.DUTY_FIX 0) 0) (fun g => { g with gifOk := true, dutyRun := 99 })).flag (GNSS.AGC_CFG.MODE 0) = true then (gg (wf (wf (wf (sv .idle) (GNSS.AGC_CFG.BAND 0) 0) (GNSS.AGC_CFG.MODE 0) 0) (GNSS.AGC_CFG.DUTY_FIX 0) 0) (fun g => { g with gifOk := true, dutyRun := 99 })).fld (GNSS.AGC_CFG.DUTY_FIX 0) else agcDuty (gg (wf (wf (wf (sv .idle) (GNSS.AGC_CFG.BAND 0) 0) (GNSS.AGC_CFG.MODE 0) 0) (GNSS.AGC_CFG.DUTY_FIX 0) 0) (fun g => { g with gifOk := true, dutyRun := 99 })).gnss.duty ((gg (wf (wf (wf (sv .idle) (GNSS.AGC_CFG.BAND 0) 0) (GNSS.AGC_CFG.MODE 0) 0) (GNSS.AGC_CFG.DUTY_FIX 0) 0) (fun g => { g with gifOk := true, dutyRun := 99 })).fld (GNSS.AGC_CFG.TARGET_PCT 0)) (percent ((gg (wf (wf (wf (sv .idle) (GNSS.AGC_CFG.BAND 0) 0) (GNSS.AGC_CFG.MODE 0) 0) (GNSS.AGC_CFG.DUTY_FIX 0) 0) (fun g => { g with gifOk := true, dutyRun := 99 })).ifCount ((gg (wf (wf (wf (sv .idle) (GNSS.AGC_CFG.BAND 0) 0) (GNSS.AGC_CFG.MODE 0) 0) (GNSS.AGC_CFG.DUTY_FIX 0) 0) (fun g => { g with gifOk := true, dutyRun := 99 })).flag (GNSS.IF_CFG.L1_QINV 0)) (⟨#v[1,2,3,4], #v[5,6,7,8]⟩ : IfCounts)).1 ((gg (wf (wf (wf (sv .idle) (GNSS.AGC_CFG.BAND 0) 0) (GNSS.AGC_CFG.MODE 0) 0) (GNSS.AGC_CFG.DUTY_FIX 0) 0) (fun g => { g with gifOk := true, dutyRun := 99 })).ifCount ((gg (wf (wf (wf (sv .idle) (GNSS.AGC_CFG.BAND 0) 0) (GNSS.AGC_CFG.MODE 0) 0) (GNSS.AGC_CFG.DUTY_FIX 0) 0) (fun g => { g with gifOk := true, dutyRun := 99 })).flag (GNSS.IF_CFG.L1_QINV 0)) (⟨#v[1,2,3,4], #v[5,6,7,8]⟩ : IfCounts)).2) ((gg (wf (wf (wf (sv .idle) (GNSS.AGC_CFG.BAND 0) 0) (GNSS.AGC_CFG.MODE 0) 0) (GNSS.AGC_CFG.DUTY_FIX 0) 0) (fun g => { g with gifOk := true, dutyRun := 99 })).fld (GNSS.AGC_CFG.GAIN 0))), gg (wf (wf (wf (sv .idle) (GNSS.AGC_CFG.BAND 0) 0) (GNSS.AGC_CFG.MODE 0) 0) (GNSS.AGC_CFG.DUTY_FIX 0) 0) (fun g => { g with gifOk := true, dutyRun := 99 }), by decide +kernel⟩,
   ⟨(⟨#v[1,2,3,4], #v[5,6,7,8]⟩ : IfCounts), (⟨#v[1,2,3,9], #v[5,6,7,8]⟩ : IfCounts), ((gg (wf (wf (wf (sv .idle) (GNSS.AGC_CFG.BAND 0) 0) (GNSS.AGC_CFG.MODE 0) 0) (GNSS.AGC_CFG.DUTY_FIX 0) 0) (fun g => { g with gifOk := false, dutyRun := 99 })).ifCount ((gg (wf (wf (wf (sv .idle) (GNSS.AGC_CFG.BAND 0) 0) (GNSS.AGC_CFG.MODE 0) 0) (GNSS.AGC_CFG.DUTY_FIX 0) 0) (fun g => { g with gifOk := false, dutyRun := 99 })).flag (GNSS.IF_CFG.L1_QINV 0)) (⟨#v[1,2,3,4], #v[5,6,7,8]⟩ : IfCounts)), ((gg (wf (wf (wf (sv .idle) (GNSS.AGC_CFG.BAND 0) 0) (GNSS.AGC_CFG.MODE 0) 0) (GNSS.AGC_CFG.DUTY_FIX 0) 0) (fun g => { g with gifOk := false, dutyRun := 99 })).ifCount ((gg (wf (wf (wf (sv .idle) (GNSS.AGC_CFG.BAND 0) 0) (GNSS.AGC_CFG.MODE 0) 0) (GNSS.AGC_CFG.DUTY_FIX 0) 0) (fun g => { g with gifOk := false, dutyRun := 99 })).flag (GNSS.IF_CFG.L5_QINV 0)) (⟨#v[1,2,3,9], #v[5,6,7,8]⟩ : IfCounts)), gg (wf (wf (wf (sv .idle) (GNSS.AGC_CFG.BAND 0) 0) (GNSS.AGC_CFG.MODE 0) 0) (GNSS.AGC_CFG.DUTY_FIX 0) 0) (fun g => { g with gifOk := false, dutyRun := 99 }), by decide +kernel⟩,
   ⟨0, [], .a, wf (wf (sv .idle) (GNSS.IF_CFG.EN 0) 1) (GNSS.MEAS_CFG.OBS_EN 0) 1, by decide +kernel⟩,
   ⟨0, (⟨.a, 3, true, true, false, 5, 1, 2, 3, 4, 6⟩ : ChanMeas), gg (gn .idle) (fun g => { g with gifOk := true, chans := [(3, { Chan.reset with st := .acq, sig := 1 })] }), by decide +kernel⟩,
   ⟨0, (seekPreamble (State.takeQ2 ((hq1 (gn .idle) 2 ([0xD3, 0])).q 2).segs.length ((hq1 (gn .idle) 2 ([0xD3, 0])).at 0)).gnss.buf), (bf (beNat (((seekPreamble (State.takeQ2 ((hq1 (gn .idle) 2 ([0xD3, 0])).q 2).segs.length ((hq1 (gn .idle) 2 ([0xD3, 0])).at 0)).gnss.buf).drop 1).take 2)) 9 0), hq1 (gn .idle) 2 ([0xD3, 0]), (State.takeQ2 ((hq1 (gn .idle) 2 ([0xD3, 0])).q 2).segs.length ((hq1 (gn .idle) 2 ([0xD3, 0])).at 0)), by decide +kernel, by decide +kernel, by decide +kernel, rfl, by decide +kernel⟩,
   ⟨0, (seekPreamble (State.takeQ2 ((hq1 (gn .idle) 2 (rf [0x3E, 0xD0])).q 2).segs.length ((hq1 (gn .idle) 2 (rf [0x3E, 0xD0])).at 0)).gnss.buf), (bf (beNat (((seekPreamble (State.takeQ2 ((hq1 (gn .idle) 2 (rf [0x3E, 0xD0])).q 2).segs.length ((hq1 (gn .idle) 2 (rf [0x3E, 0xD0])).at 0)).gnss.buf).drop 1).take 2)) 9 0), hq1 (gn .idle) 2 (rf [0x3E, 0xD0]), (State.takeQ2 ((hq1 (gn .idle) 2 (rf [0x3E, 0xD0])).q 2).segs.length ((hq1 (gn .idle) 2 (rf [0x3E, 0xD0])).at 0)), by decide +kernel, by decide +kernel, by decide +kernel, rfl, by decide +kernel⟩,
   ⟨0, (seekPreamble (State.takeQ2 ((hq1 (gn .idle) 2 ([0xD3, 0, 0, 1, 2, 3])).q 2).segs.length ((hq1 (gn .idle) 2 ([0xD3, 0, 0, 1, 2, 3])).at 0)).gnss.buf), (bf (beNat (((seekPreamble (State.takeQ2 ((hq1 (gn .idle) 2 ([0xD3, 0, 0, 1, 2, 3])).q 2).segs.length ((hq1 (gn .idle) 2 ([0xD3, 0, 0, 1, 2, 3])).at 0)).gnss.buf).drop 1).take 2)) 9 0), hq1 (gn .idle) 2 ([0xD3, 0, 0, 1, 2, 3]), (State.takeQ2 ((hq1 (gn .idle) 2 ([0xD3, 0, 0, 1, 2, 3])).q 2).segs.length ((hq1 (gn .idle) 2 ([0xD3, 0, 0, 1, 2, 3])).at 0)), by decide +kernel, by decide +kernel, by decide +kernel, rfl, by decide +kernel⟩,
   ⟨1000000000000, .b, gn .idle, by decide +kernel⟩,
   ⟨0x5000000, .a, ⟨5,1,2,3,4,5,6,7,2,9,10,11⟩, gn .idle, by decide +kernel⟩,
   ⟨0, .a, gg (wf (sv .standby) (GNSS.IF_CFG.EN 0) 1) (fun g => { g with gifOk := true, chans := [(3, { Chan.reset with st := .burstHold, sig := 1 })], burst := false }), by decide +kernel⟩,
   ⟨60000000000, gg (wf (sv .standby) (GNSS.IF_CFG.EN 0) 1) (fun g => { g with gifOk := true, chans := [(3, { Chan.reset with st := .track, sig := 1 })], burst := true }), by decide +kernel⟩⟩

/-- States and operands that meet the hypotheses of each clause of TimeEvents. -/
theorem witness_TimeEvents :
  (∃ (t : Time) (s : State), s.canon = true ∧ s.up = true ∧ s.time.val = .locked ∧ s.time.solAt + max (1000 * msPs) (2 *
    s.measPs) ≤ max s.now t) ∧
  (∃ (t : Time) (s : State), s.canon = true ∧ s.up = true ∧ s.time.val = .holdover ∧ s.fld TPLS.TP_HOLD.HOLD_S ≠ 0 ∧ 1000 *
    s.fld TPLS.TP_HOLD.HOLD_S ≤ (s.at t).holdMs) ∧
  (∃ (t : Time) (m : TimeSol) (s : State), s.canon = true ∧ s.time.model = some m ∧ s.up = true ∧ s.flag TPLS.TP_CFG.EN =
    true ∧ s.en pgTpls = true ∧ s.time.stopped = false ∧ s.time.val ≠ .none ∧ s.idealAt m ((s.at t).nextSecond m) ≤ ((max
    s.now t : Nat) : Int) + 200000000000) ∧
  (∃ (t : Time) (p : Prepared) (s : State), s.canon = true ∧ s.time.next = some p ∧ s.up = true ∧ p.edge ≤ max s.now t) ∧
  (∃ (t : Time) (i0 : Time) (e : Time) (m : TimeSol) (s : State), s.time.lastSecIdeal = some i0 ∧ s.time.model = some m ∧
    s.up = true ∧ s.fld TPLS.TPB_CFG.MODE = 1 ∧ s.time.stopped = false ∧ s.time.subN * s.fld TPLS.TPB_CFG.PB_MS < 1000 ∧ e
    = (nearestCycle ((i0 : Int) + ringSpan m ((s.time.subN * s.fld TPLS.TPB_CFG.PB_MS * msPs : Nat) : Int))).toNat ∧ e ≤
    max s.now t) :=
  ⟨⟨0xFFFFFFFFFFFFFFFF, { gn .idle with time := { TimeState.reset with val := .locked, model := some tsol } }, by decide +kernel⟩,
   ⟨0xFFFFFFFFFFFFFFFF, { wf (wf (sd .idle) TPLS.TP_HOLD.HOLD_S 1) TPLS.TP_CFG.STOP_EXP 1 with time := { TimeState.reset with val := .holdover, model := some tsol } }, by decide +kernel⟩,
   ⟨4800000000000, tsol, { wf (wf (sd .idle) TPLS.TP_CFG.EN 1) ⟨0x12004, 0, 0⟩ 1 with time := { TimeState.reset with val := .locked, model := some tsol } }, by decide +kernel⟩,
   ⟨5000000000000, ⟨1000, 5000000000000, 4999999999000⟩, { gn .idle with time := { TimeState.reset with val := .locked, model := some tsol, next := some ⟨1000, 5000000000000, 4999999999000⟩ } }, by decide +kernel⟩,
   ⟨6000000000000, 5000000000000, ((nearestCycle ((5000000000000 : Int) + ringSpan tsol ((1 * 100 * msPs : Nat) : Int))).toNat), tsol, { wf (wf (sd .idle) TPLS.TPB_CFG.MODE 1) TPLS.TPB_CFG.PB_MS 100 with time := { TimeState.reset with val := .locked, model := some tsol, lastSecIdeal := some 5000000000000, subN := 1, subLast := some 5000000000000 } }, by decide +kernel⟩⟩

/-- States and operands that meet the hypotheses of each clause of LinkEvents. -/
theorem witness_LinkEvents :
  (∃ (t : Time) (n : LaneIx) (typ : Nat) (s : State), s.canon = true ∧ s.laneLive n = true ∧ (s.lane n).dn.lastLinkSend +
    usPs ≤ max s.now t ∧ typ = (if s.laurel.grant.isSome = true then ftPortIdle else ftIdle) ∧ (s.laurel.grant.isSome =
    true ∨ s.inCharge.isSome = true ∨ s.laurel.conflict.isSome = true)) ∧
  (∃ (t : Time) (n : LaneIx) (typ : Nat) (s : State), s.canon = true ∧ s.laneLive n = true ∧ (s.lane n).dn.lastLinkSend +
    usPs ≤ max s.now t ∧ typ = (if s.laurel.grant.isSome = true then ftPortIdle else ftIdle) ∧ s.laurel.grant = none ∧
    s.inCharge = none ∧ s.laurel.conflict = none) ∧
  (∃ (t : Time) (n : LaneIx) (s : State), s.laneLive n = true ∧ (s.lane n).up.lastLinkSend + usPs ≤ max s.now t) ∧
  (∃ (n : LaneIx) (f : Flit) (s : State), s.canon = true ∧ s.laneLive n = true ∧ flitGood f = true ∧ f.typ.toNat = ftIdle) ∧
  (∃ (n : LaneIx) (f : Flit) (s : State), s.canon = true ∧ s.laneLive n = true ∧ flitGood f = true ∧ f.typ.toNat = ftIdle ∧
    (s.lane n).halfQ = []) ∧
  (∃ (n : LaneIx) (f : Flit) (s : State), s.laneLive n = true ∧ flitGood f = true ∧ f.typ.toNat = ftPortIdle) ∧
  (∃ (n : LaneIx) (f : Flit) (q : BitVec 4) (s : State), s.canon = true ∧ s.laneLive n = true ∧ flitGood f = true ∧
    f.typ.toNat = ftNak ∧ q = f.payload.setWidth 4 ∧ (s.lane n).halfQ = []) ∧
  (∃ (n : LaneIx) (f : Flit) (q : BitVec 4) (s : State), s.canon = true ∧ s.laneLive n = true ∧ flitGood f = true ∧
    f.typ.toNat = ftNak ∧ q = f.payload.setWidth 4 ∧ (s.lane n).qclrWait = none) ∧
  (∃ (n : LaneIx) (f : Flit) (s : State), s.laneLive n = true ∧ 2 < f.typ.toNat ∧ f.typ.toNat ≠ ftEpochAdv ∧ (flitGood f =
    false ∨ f.seq ≠ (s.lane n).dn.rxLast + 1)) ∧
  (∃ (n : LaneIx) (f : Flit) (s : State), s.laneLive n = true ∧ 2 < f.typ.toNat ∧ (flitGood f = false ∨ f.seq ≠ (s.lane
    n).up.rxLast + 1)) ∧
  (∃ (t : Time) (n : LaneIx) (f : TxFlit) (fs : List TxFlit) (s : State), s.laneLive n = true ∧ (s.lane n).dn.held = f ::
    fs ∧ (s.lane n).dn.ackAt + 4 * usPs ≤ max s.now t) ∧
  (∃ (t : Time) (n : LaneIx) (f : TxFlit) (fs : List TxFlit) (s : State), s.laneLive n = true ∧ (s.lane n).up.held = f ::
    fs ∧ (s.lane n).up.ackAt + 4 * usPs ≤ max s.now t) ∧
  (∃ (t : Time) (n : LaneIx) (s : State), s.canon = true ∧ s.laneLive n = true ∧ (s.lane n).lost = false ∧ (s.lane
    n).lastDn + 4 * usPs ≤ max s.now t) :=
  ⟨⟨1000000, 15, ftIdle, lv .run 15, by decide +kernel⟩,
   ⟨1000000, 15, ftIdle, { lv .run 15 with laurel := { (lv .run 15).laurel with declared := true } }, by decide +kernel⟩,
   ⟨1000000, 15, lv .run 15, by decide +kernel⟩,
   ⟨15, fl ftIdle 0 15, lv .run 15, by decide +kernel⟩,
   ⟨0, fl ftIdle 0 15, (lv .run 0).modLane 0 (fun l => { l with dn := (l.dn.push ftQend 1 0).pump 0 16 |>.1 }), by decide +kernel⟩,
   ⟨15, fl ftPortIdle 0 15, (lv .run 15).modLane 15 (fun l => { l with lost := true }), by decide +kernel⟩,
   ⟨0, fl ftNak 0 1, 1, (lv .run 0).modLane 0 (fun l => { l with dn := (((l.dn.push ftQend 1 0).push ftQend 1 1).pump 0 16).1 }), by decide +kernel⟩,
   ⟨0, fl ftNak 0 1, 1, lv .run 0, by decide +kernel⟩,
   ⟨15, fl ftQend 5 0, lv .run 15, by decide +kernel⟩,
   ⟨15, fl fuDly 5 0, lv .run 15, by decide +kernel⟩,
   ⟨4000000, 0, (⟨0xA, 0, 1, 0, 0, 0⟩ : TxFlit), [], (lv .run 0).modLane 0 (fun l => { l with dn := ((l.dn.push ftQend 1 0).pump 0 16).1 }), by decide +kernel⟩,
   ⟨4000000, 0, (⟨0xA, 0, 1, 0, 0, 0⟩ : TxFlit), [], (lv .run 0).modLane 0 (fun l => { l with up := ((l.up.push ftQend 1 0).pump 0 16).1 }), by decide +kernel⟩,
   ⟨4000000, 15, lv .run 15, by decide +kernel⟩⟩

/-- States and operands that meet the hypotheses of each clause of EventAdmission. -/
theorem witness_EventAdmission :
  (∃ (n : LaneIx) (a : Flit) (b : Flit) (typ : EvtType) (i : Nat) (s : State), EvtPair s n a b ∧ a.epoch = s.epoch (pgLane
    n) ∧ (s.lane n).draining = none ∧ (s.lane n).disabled = false ∧ (s.lane n).safeLow = false ∧ evtTypeOf (bf
    b.payload.toNat 28 27) = some typ ∧ bf b.payload.toNat 26 24 ≤ 3 ∧ evtTwin s n a b typ = false ∧ (s.lane n).freeEntry =
    some i) ∧
  (∃ (n : LaneIx) (a : Flit) (b : Flit) (typ : EvtType) (s : State), s.canon = true ∧ EvtPair s n a b ∧ a.epoch = s.epoch
    (pgLane n) ∧ (s.lane n).draining = none ∧ evtTypeOf (bf b.payload.toNat 28 27) = some typ ∧ bf b.payload.toNat 26 24 ≤
    3 ∧ evtTwin s n a b typ = true) ∧
  (∃ (n : LaneIx) (a : Flit) (b : Flit) (typ : EvtType) (s : State), s.canon = true ∧ EvtPair s n a b ∧ a.epoch = s.epoch
    (pgLane n) ∧ (s.lane n).draining = none ∧ evtTypeOf (bf b.payload.toNat 28 27) = some typ ∧ bf b.payload.toNat 26 24 ≤
    3 ∧ evtTwin s n a b typ = false ∧ (s.lane n).freeEntry = none) ∧
  (∃ (n : LaneIx) (a : Flit) (b : Flit) (s : State), s.canon = true ∧ EvtPair s n a b ∧ epochCheck a.epoch (s.epoch (pgLane
    n)) = .stale) ∧
  (∃ (n : LaneIx) (a : Flit) (b : Flit) (s : State), s.canon = true ∧ EvtPair s n a b ∧ epochCheck a.epoch (s.epoch (pgLane
    n)) = .ahead) ∧
  (∃ (n : LaneIx) (a : Flit) (b : Flit) (s : State), s.canon = true ∧ EvtPair s n a b ∧ a.epoch = s.epoch (pgLane n) ∧
    (s.lane n).draining.isSome = true) ∧
  (∃ (n : LaneIx) (a : Flit) (b : Flit) (s : State), s.canon = true ∧ EvtPair s n a b ∧ a.epoch = s.epoch (pgLane n) ∧
    (s.lane n).pendA = none ∧ (evtTypeOf (bf b.payload.toNat 28 27) = none ∨ 3 < bf b.payload.toNat 26 24)) ∧
  (∃ (n : LaneIx) (f : Flit) (s : State), s.canon = true ∧ s.laneLive n = true ∧ flitGood f = true ∧ f.seq = (s.lane
    n).dn.rxLast + 1 ∧ (s.lane n).pendA = none ∧ f.typ.toNat = ftEvtA) ∧
  (∃ (n : LaneIx) (f : Flit) (s : State), s.canon = true ∧ s.laneLive n = true ∧ flitGood f = true ∧ f.seq = (s.lane
    n).dn.rxLast + 1 ∧ (s.lane n).pendA = none ∧ f.typ.toNat = ftEvtB) :=
  ⟨⟨15, fl ftEvtA 0 0x123456, fl ftEvtB 1 (7 * 536870912 + 3 * 16777216 + 0xFFFFFF), .on, 0, lv .run 15, by decide +kernel⟩,
   ⟨15, fl ftEvtA 0 0x123456, fl ftEvtB 1 (3 * 536870912 + 4096), .on, (lv .run 15).modLane 15 (fun l => { l with queue := [(0, some { qe .waiting 3 with xv := nearest48 0 0x123456 })] }), by decide +kernel⟩,
   ⟨15, fl ftEvtA 0 0x123456, fl ftEvtB 1 (7 * 536870912 + 3 * 16777216 + 0xFFFFFF), .on, (lv .run 15).modLane 15 (fun l => { l with queue := (List.range 64).map (fun i => (i, some (qe .waiting 2))) }), by decide +kernel⟩,
   ⟨15, mkFlit ftEvtA 0 0 (wd (5)), mkFlit ftEvtB 1 0 (wd (5)), lv .run 15, by decide +kernel⟩,
   ⟨15, mkFlit ftEvtA 0 2 (wd (5)), mkFlit ftEvtB 1 2 (wd (5)), lv .run 15, by decide +kernel⟩,
   ⟨15, fl ftEvtA 0 0x123456, fl ftEvtB 1 (7 * 536870912 + 3 * 16777216 + 0xFFFFFF), (lv .run 15).modLane 15 (fun l => { l with draining := some 0 }), by decide +kernel⟩,
   ⟨15, fl ftEvtA 0 0x123456, fl ftEvtB 1 (3 * 134217728), lv .run 15, by decide +kernel⟩,
   ⟨15, fl ftEvtA 0 0x123456, lv .run 15, by decide +kernel⟩,
   ⟨15, fl ftEvtB 0 5, lv .run 15, by decide +kernel⟩⟩

/-- States and operands that meet the hypotheses of each clause of LaneFlits. -/
theorem witness_LaneFlits :
  (∃ (n : LaneIx) (fs : List Flit) (ps : List (Word × Word)) (h : Flit) (r : List Flit) (s : State), s.laneLive n = true ∧
    (s.lane n).trvAsm ++ fs = h :: r ∧ fs.head?.map (·.seq) = some ((s.lane n).dn.rxLast + 1) ∧ fs.all flitGood = true ∧
    h.typ.toNat = ftTrvHdr ∧ trvPairs h.epoch 8 h.seq r = some ps ∧ h.epoch = s.epoch (pgLane n)) ∧
  (∃ (n : LaneIx) (f : Flit) (s : State), s.canon = true ∧ s.laneLive n = true ∧ flitGood f = true ∧ f.typ.toNat =
    ftEpochAdv ∧ f.payload.toNat = f.epoch.toNat ∧ 0 < epochDiff f.epoch (s.epoch (pgLane n))) ∧
  (∃ (n : LaneIx) (f : Flit) (s : State), s.canon = true ∧ s.laneLive n = true ∧ flitGood f = true ∧ f.seq = (s.lane
    n).dn.rxLast + 1 ∧ f.typ.toNat = ftDrain ∧ f.epoch = s.epoch (pgLane n)) ∧
  (∃ (n : LaneIx) (f : Flit) (s : State), s.canon = true ∧ s.laneLive n = true ∧ flitGood f = true ∧ f.seq = (s.lane
    n).dn.rxLast + 1 ∧ f.typ.toNat = ftSpDem ∧ f.epoch = s.epoch (pgLane n)) ∧
  (∃ (t : Time) (n : LaneIx) (f : Flit) (s : State), s.canon = true ∧ s.laneLive n = true ∧ flitGood f = true ∧ f.seq =
    (s.lane n).dn.rxLast + 1 ∧ f.typ.toNat = ftQend ∧ f.epoch = s.epoch (pgLane n) ∧ (∀ k : OutIx, s.isOpen n k = false ∧
    (s.lane n).onDue k (max s.now t) = false)) ∧
  (∃ (n : LaneIx) (f : Flit) (k : OutIx) (s : State), s.canon = true ∧ s.laneLive n = true ∧ flitGood f = true ∧ f.seq =
    (s.lane n).dn.rxLast + 1 ∧ f.typ.toNat = ftQend ∧ f.epoch = s.epoch (pgLane n) ∧ s.isOpen n k = true ∧ (s.lane n).queue
    = []) :=
  ⟨⟨15, trv, ((List.range 8).map (fun k => (wd k, wd (k + 100)))), fl ftTrvHdr 0 7, trv.drop 1, lv .run 15, by decide +kernel⟩,
   ⟨15, mkFlit ftEpochAdv 5 7 7, lv .run 15, by decide +kernel⟩,
   ⟨15, fl ftDrain 0 0, lv .run 15, by decide +kernel⟩,
   ⟨15, fl ftSpDem 0 77, lv .run 15, by decide +kernel⟩,
   ⟨9, 15, fl ftQend 0 0, lv .run 15, by decide +kernel⟩,
   ⟨15, fl ftQend 0 0, 3, (lv .run 15).modOut 15 3 (fun o => { o with st := .phase }), by decide +kernel⟩⟩

/-- States and operands that meet the hypotheses of each clause of LaneTimers. -/
theorem witness_LaneTimers :
  (∃ (t : Time) (a : Time) (n : LaneIx) (s : State), s.canon = true ∧ s.laneLive n = true ∧ (s.lane n).draining = some a ∧
    a + s.fld SCHED.SCHED_CFG.DRAIN_MS * msPs ≤ max s.now t) ∧
  (∃ (t : Time) (n : LaneIx) (s : State), s.canon = true ∧ s.laneLive n = true ∧ (s.lane n).drExpired = false ∧ (s.lane
    n).updAt + s.fld SCHED.SCHED_CFG.DR_MS * msPs ≤ max s.now t) ∧
  (∃ (n : LaneIx) (s : State), s.canon = true ∧ s.laneLive n = true ∧ (s.lane n).drExpired = false ∧ 992 ≤ (s.lane
    n).up.held.length + (s.lane n).up.waiting.length) ∧
  (∃ (t : Time) (n : LaneIx) (s : State), s.laneLive n = true ∧ max s.now t % (10 * usPs) = 0) ∧
  (∃ (t : Time) (n : LaneIx) (i : Nat) (x : Nat) (e : QEntry) (s : State), s.canon = true ∧ s.laneLive n = true ∧ s.inSafe
    n = false ∧ (s.at t).cancelNow n = false ∧ (s.lane n).nextFire (max s.now t) = some (i, e) ∧ x = (s.lane n).tl e.outlet
    (max s.now t)) :=
  ⟨⟨0xFFFFFFFFFFFF, 0, 15, (lv .run 15).modLane 15 (fun l => { l with draining := some 0, queue := [(0, some (qe .waiting 3))] }), by decide +kernel⟩,
   ⟨0xFFFFFFFFFFFF, 15, (lv .run 15).modLane 15 (fun l => { l with queue := [(0, some (qe .waiting 3))] }), by decide +kernel⟩,
   ⟨15, (lv .run 15).modLane 15 (fun l => { l with up := { l.up with waiting := List.replicate 992 ⟨4, 0, 1, 0, 0, 0⟩ } }), by decide +kernel⟩,
   ⟨10000000, 15, (lv .run 15).modLane 15 (fun l => { l with queue := [(0, some (qe .waiting 3))] }), by decide +kernel⟩,
   ⟨5, 15, 0, 0, qe .armed 3, (lv .run 15).modLane 15 (fun l => { l with queue := [(0, some (qe .armed 3))] }), by decide +kernel⟩⟩

/-- States and operands that meet the hypotheses of each clause of UpReports. -/
theorem witness_UpReports :
  (∃ (n : LaneIx) (f : Flit) (s : State), s.canon = true ∧ TakenUp s n f fuAck) ∧
  (∃ (n : LaneIx) (f : Flit) (e : FEvent) (s : State), TakenUp s n f fuFull ∧ (s.fpe.posted.get n).find? (ackNames n
    f.payload.toNat) = some e ∧ (s.fpe.hold.get n).length < s.fld SCHED.SCHED_HOLD.HOLD_MAX ∧ e.typ ≠ evRate) ∧
  (∃ (s : State), s.up = true ∧ s.maySend = true) ∧
  (∃ (n : LaneIx) (a : Flit) (b : Flit) (j : Nat) (s : State), s.canon = true ∧ TakenUp s n a fuFireA ∧ flitGood b = true ∧
    b.seq = a.seq + 1 ∧ b.typ.toNat = fuFireB ∧ j = payOut n b.payload.toNat) ∧
  (∃ (n : LaneIx) (f : Flit) (s : State), TakenUp s n f fuQclr) ∧
  (∃ (n : LaneIx) (a : Flit) (b : Flit) (s : State), TakenUp s n a fuMotionA ∧ flitGood b = true ∧ b.seq = a.seq + 1 ∧
    b.typ.toNat = fuMotionB ∧ b.payload.toNat.testBit 25 = true) ∧
  (∃ (n : LaneIx) (f : Flit) (s : State), TakenUp s n f fuDly) ∧
  (∃ (n : LaneIx) (f : Flit) (s : State), TakenUp s n f fuPeakRpt) :=
  ⟨⟨15, fl fuAck 0 (3 * 536870912 + 0x123456), { lv .run 15 with fpe := { FpeState.reset with posted := Vector.replicate 16 [⟨123, 0, 0, 5, 0x123456, 0⟩], hold := Vector.replicate 16 [⟨123, 0, 0, 5, 0x123456, 0⟩] } }, by decide +kernel⟩,
   ⟨15, fl fuFull 0 (3 * 536870912 + 0x123456), ⟨123, 0, 0, 5, 0x123456, 0⟩, { lv .run 15 with fpe := { FpeState.reset with posted := Vector.replicate 16 [⟨123, 0, 0, 5, 0x123456, 0⟩] } }, by decide +kernel⟩,
   ⟨{ lv .run 15 with fpe := { FpeState.reset with hold := Vector.replicate 16 [⟨123, 0, 0, 5, 0x123456, 0⟩] } }, by decide +kernel⟩,
   ⟨15, fl fuFireA 0 77, fl fuFireB 1 (3 * 536870912 + 134217728), 123, lv .run 15, by decide +kernel⟩,
   ⟨15, fl fuQclr 0 0x208, { lv .run 15 with fpe := { FpeState.reset with posted := Vector.replicate 16 [⟨123, 0, 0, 5, 0x123456, 0⟩], hold := Vector.replicate 16 [⟨123, 0, 0, 5, 0x123456, 0⟩] } }, by decide +kernel⟩,
   ⟨15, fl fuMotionA 0 77, fl fuMotionB 1 (3 * 536870912 + 0x2000000), lv .run 15, by decide +kernel⟩,
   ⟨15, fl fuDly 0 (3 * 536870912 + 0xFFFFFFF), lv .run 15, by decide +kernel⟩,
   ⟨15, fl fuPeakRpt 0 (3 * 536870912 + 0xFFFFFF), lv .run 15, by decide +kernel⟩⟩

/-- States and operands that meet the hypotheses of each clause of LaneFences. -/
theorem witness_LaneFences :
  (∃ (s : State), s.canon = true ∧ s.running = true) ∧
  (∃ (n : LaneIx) (s : State), s.canon = true ∧ s.laneLive n = true) ∧
  (∃ (n : LaneIx) (s : State), s.canon = true ∧ s.laneLive n = true ∧ s.faultBurst n = true) :=
  ⟨⟨(lv .run 15).modLane 15 (fun l => { l with queue := [(0, some (qe .waiting 3))] }), by decide +kernel⟩,
   ⟨15, lv .run 15, by decide +kernel⟩,
   ⟨15, wf (wf ((lv .run 15).modLane 15 (fun l => { l with faultTimes := [0, secPs] })) (LANE.LINK_CFG.FENCE_THR 15) 2) (LANE.LINK_CFG.AUTOFENCE 15) 1, by decide +kernel⟩⟩

/-- States and operands that meet the hypotheses of each clause of SafeStateEvents. -/
theorem witness_SafeStateEvents :
  (∃ (t : Time) (n : LaneIx) (s : State), s.canon = true ∧ s.laneLive n = true ∧ (s.at t).safeNLow n = true ∧ (s.lane
    n).safeLow = false) ∧
  (∃ (t : Time) (n : LaneIx) (s : State), s.laneLive n = true ∧ (s.at t).safeNLow n = false ∧ (s.lane n).safeLow = true) ∧
  (∃ (t : Time) (s : State) (a : Time), s.up = true ∧ s.laurel.noChargeAt = some a ∧ s.bothInService = true ∧ a + 20 * usPs
    ≤ max s.now t) ∧
  (∃ (t : Time) (s : State), s.up = true ∧ (∀ n, (s.at t).safeNLow n = false)) ∧
  (∃ (t : Time) (s : State), s.up = true ∧ (∀ n, (s.at t).safeNLow n = false)) ∧
  (∃ (t : Time) (s : State) (a : Time), s.up = true ∧ s.laurel.singleStopAt = some a ∧ s.bothInService = false ∧ a + s.fld
    SCHED.SCHED_CFG.DR_MS * msPs ≤ max s.now t) ∧
  (∃ (s : State), s.canon = true ∧ s.running = true ∧ s.pfail = false) ∧
  (∃ (s : State), s.canon = true ∧ s.running = true) ∧
  (∃ (i : Supply) (s : State), s.canon = true ∧ s.running = true ∧ s.inRange.get i = true) :=
  ⟨⟨9, 15, { (lv .run 15).modLane 15 (fun l => { l with queue := [(0, some (qe .waiting 3))] }) with pfail := true }, by decide +kernel⟩,
   ⟨9, 15, sv .run, by decide +kernel⟩,
   ⟨20000000, { lv .run 15 with laurel := { (lv .run 15).laurel with noChargeAt := some 0 } }, 0, by decide +kernel⟩,
   ⟨20000000, lv .run 15, by decide +kernel⟩,
   ⟨20000000, lv .run 15, by decide +kernel⟩,
   ⟨0xFFFFFFFFFFFF, { (lv .run 15).modLane 15 (fun l => l) with laurel := { ((lv .run 15).modLane 15 (fun l => l)).laurel with singleStopAt := some 0, half := #v[{ HalfState.reset with role := .quarantined }, { HalfState.reset with role := .charge }] } }, 0, by decide +kernel⟩,
   ⟨lv .run 15, by decide +kernel⟩,
   ⟨lv .run 15, by decide +kernel⟩,
   ⟨5, lv .run 15, by decide +kernel⟩⟩

/-- States and operands that meet the hypotheses of each clause of MonitorEvents. -/
theorem witness_MonitorEvents :
  (∃ (s : State), s.canon = true ∧ s.running = true) ∧
  (∃ (s : State), s.canon = true ∧ s.running = true) ∧
  (∃ (p : Ring) (s : State), s.canon = true ∧ s.ringLive p = true ∧ (s.port p).link = .up) ∧
  (∃ (t : Time) (s : State), s.pfail = true ∧ s.yewPort.pfailActive = true ∧ s.yewPort.pfailClosed = false ∧
    s.yewPort.pfailAt + msPs ≤ max s.now t) ∧
  (∃ (s : State), s.canon = true ∧ s.yewPort.pfailActive = true ∧ s.yewPort.pfailClosed = true ∧ s.nor.recQ = [] ∧ (∀ o,
    s.nor.cur = some o → o.recorder = false)) :=
  ⟨⟨sd .run, by decide +kernel⟩,
   ⟨sd .run, by decide +kernel⟩,
   ⟨.b, { sd .run with ports := Vector.replicate 2 { PortState.reset with link := .up } }, by decide +kernel⟩,
   ⟨1000000000, { recs8 (sv .idle) with pfail := true, yewPort := { YewPort.reset with logOk := true, pfailActive := true } }, by decide +kernel⟩,
   ⟨{ sv .idle with pfail := true, yewPort := { YewPort.reset with logOk := true, pfailActive := true, pfailClosed := true } }, by decide +kernel⟩⟩

/-- States and operands that meet the hypotheses of each clause of ResetEvents. -/
theorem witness_ResetEvents :
  (∃ (s : State), s.dev = .off) ∧
  (∃ (s : State), s.dev = .reset) ∧
  (∃ (s : State), s.running = true) ∧
  (∃ (t : Time) (s : State), s.canon = true ∧ s.running = true ∧ (s.at t).pfailNow = false) ∧
  (∃ (t : Time) (s : State), s.canon = true ∧ s.running = true ∧ (s.at t).pfailNow = true ∧ NoError s 0) ∧
  (∃ (t : Time) (s : State), s.dev = .boot ∧ s.romFail = false ∧ (s.at t).mayChange = true) :=
  ⟨⟨sd .off, by decide +kernel⟩,
   ⟨sd .reset, by decide +kernel⟩,
   ⟨sv .run, by decide +kernel⟩,
   ⟨9, lv .run 15, by decide +kernel⟩,
   ⟨0, ({ sd .run with pending := [.pfailFall 0] } : State), by decide +kernel⟩,
   ⟨9, State.reset, by decide +kernel⟩⟩

/-- States and operands that meet the hypotheses of each clause of StateChanges. -/
theorem witness_StateChanges :
  (∃ (t : Time) (s : State), s.dev = .idle ∧ (s.at t).runOpen = true ∧ (s.at t).wokeNow = false) ∧
  (∃ (t : Time) (s : State), (s.dev = .armed ∨ s.dev = .run) ∧ (s.at t).runOpen = true) ∧
  (∃ (t : Time) (s : State), s.dev = .idle ∧ (s.at t).runOpen = true) ∧
  (∃ (t : Time) (s : State), s.dev = .idle ∧ (s.at t).runOpen = true) ∧
  (∃ (t : Time) (s : State), s.dev = .standby ∧ (s.at t).runOpen = true) ∧
  (∃ (t : Time) (s : State), s.dev = .standby ∧ s.waking.isSome = true ∧ (s.at t).mayChange = true) ∧
  (∃ (t : Time) (s : State), s.dev = .run ∧ (s.at t).mayChange = true ∧ (s.at t).disarmNow = false ∧ (s.pose.cur.spdValid =
    false ∨ (∃ a, s.qualLow = some a ∧ a + 2 * secPs ≤ max s.now t))) ∧
  (∃ (t : Time) (i : Instr) (s : State), s.canon = true ∧ s.running = true ∧ (s.at t).runOpen = false ∧ NoError s 0 ∧ i ∈
    [Instr.arm t, .disarm t, .unseal t, .standby t, .wake t]) :=
  ⟨⟨9, lv .idle 15, by decide +kernel⟩,
   ⟨9, lv .run 15, by decide +kernel⟩,
   ⟨9, lv .idle 15, by decide +kernel⟩,
   ⟨9, lv .idle 15, by decide +kernel⟩,
   ⟨9, lv .standby 15, by decide +kernel⟩,
   ⟨9, { lv .standby 15 with waking := some 0 }, by decide +kernel⟩,
   ⟨9, { lv .run 15 with pose := { PoseState.reset with cur := { PoseState.reset.cur with quality := 0 } } }, by decide +kernel⟩,
   ⟨0, .arm 0, { lv .idle 15 with pfail := true }, by decide +kernel⟩⟩

/-- States and operands that meet the hypotheses of each clause of SealEvents. -/
theorem witness_SealEvents :
  (∃ (t : Time) (s : State), s.canon = true ∧ s.dev = .primrose ∧ (s.at t).mayChange = true ∧ s.checking = false) ∧
  (∃ (t : Time) (s : State), s.canon = true ∧ s.running = true ∧ (s.dev ≠ .primrose ∨ s.checking = true ∨ (s.at
    t).mayChange = false) ∧ NoError s 0) ∧
  (∃ (t : Time) (s : State), (s.checking = false ∨ (s.at t).mayChange = false)) ∧
  (∃ (t : Time) (s : State), s.canon = true ∧ s.checking = true ∧ (s.at t).mayChange = true ∧ ({ s with regs := s.sealSnap
    } : State).sealCrc ≠ s.sealExp) ∧
  (∃ (t : Time) (p : Nat) (o : Nat) (s : State), s.canon = true ∧ s.checking = true ∧ (s.at t).mayChange = true ∧ ({ s with
    regs := s.sealSnap } : State).sealCrc = s.sealExp ∧ s.sealFail = some (p, o)) ∧
  (∃ (t : Time) (s : State), s.canon = true ∧ s.checking = true ∧ (s.at t).mayChange = true ∧ ({ s with regs := s.sealSnap
    } : State).sealCrc = s.sealExp ∧ s.sealFail = none) :=
  ⟨⟨9, lv .primrose 15, by decide +kernel⟩,
   ⟨9, sd .idle, by decide +kernel⟩,
   ⟨9, sd .primrose, by decide +kernel⟩,
   ⟨9, { ck with sealExp := badCrc }, by decide +kernel, rfl, by decide +kernel, sealNe badCrc badCrc_ne⟩,
   ⟨9, 3, 4, { ck with sealExp := ck.sealCrc, sealFail := some (3, 4) }, by decide +kernel, rfl, by decide +kernel, sealCrc_congr _ ck rfl rfl, rfl⟩,
   ⟨9, { ck with sealExp := ck.sealCrc }, by decide +kernel, rfl, by decide +kernel, sealCrc_congr _ ck rfl rfl, rfl⟩⟩

/-- States and operands that meet the hypotheses of each clause of Heartbeats. -/
theorem witness_Heartbeats :
  (∃ (h : Half) (s : State), s.up = true ∧ s.serving h = true) ∧
  (∃ (t : Time) (h : Half) (arr : HbArrivals) (s : State), s.up = true ∧ s.serving h = true ∧ (s.hbEn 0 && hbGood (max
    s.now t / hbPs) arr.laurel0 || s.hbEn 1 && hbGood (max s.now t / hbPs) arr.laurel1) = true ∧ (arr.laurel0.getD
    0).toNat.testBit 8 = false ∧ (arr.laurel1.getD 0).toNat.testBit 8 = false) ∧
  (∃ (t : Time) (h : Half) (arr : HbArrivals) (s : State), s.up = true ∧ s.serving h = true ∧ (s.hbEn 0 && hbGood (max
    s.now t / hbPs) arr.laurel0 || s.hbEn 1 && hbGood (max s.now t / hbPs) arr.laurel1) = false ∧ (s.half h).lostLaurel =
    false) ∧
  (∃ (h : Half) (s : State), s.canon = true ∧ s.up = true ∧ s.serving h = true ∧ 4 ≤ (s.half h).missLaurel ∧ (s.half
    h).lostLaurel = false) ∧
  (∃ (h : Half) (s : State), s.canon = true ∧ s.up = true ∧ s.serving h = true ∧ s.twoHalves = true ∧ 4 ≤ (s.half
    h).missOther ∧ (s.half h).lostOther = false ∧ s.serving h.other = true ∧ s.role h = .shadow ∧ s.tokenHolder = h.other ∧
    s.inCharge = some h.other) ∧
  (∃ (h : Half) (s : State), s.canon = true ∧ s.up = true ∧ s.serving h = true ∧ s.twoHalves = true ∧ 4 ≤ (s.half
    h).missOther ∧ (s.half h).lostOther = false ∧ s.serving h.other = true ∧ s.role h = .charge ∧ s.tokenHolder = h ∧
    s.role h.other = .shadow) ∧
  (∃ (h : Half) (s : State), s.up = true ∧ s.serving h = true) :=
  ⟨⟨.a, sv .run, by decide +kernel⟩,
   ⟨2 * hbPs, .b, ⟨none, some (hbw 2), none, none⟩, hf (sv .run) .b (fun x => { x with missLaurel := 3, lostLaurel := true }), by decide +kernel⟩,
   ⟨2 * hbPs, .b, ⟨none, some (hbw 3), none, none⟩, hf (sv .run) .b (fun x => { x with missLaurel := 3 }), by decide +kernel⟩,
   ⟨.a, hf (sv .run) .a (fun x => { x with missLaurel := 4 }), by decide +kernel⟩,
   ⟨.b, hf (sv .run) .b (fun x => { x with missOther := 4 }), by decide +kernel⟩,
   ⟨.a, hf (sv .run) .a (fun x => { x with missOther := 4 }), by decide +kernel⟩,
   ⟨.a, sv .run, by decide +kernel⟩⟩

/-- States and operands that meet the hypotheses of each clause of TokenEvents. -/
theorem witness_TokenEvents :
  (∃ (a : TokenCopy) (b : TokenCopy) (c : TokenCopy) (s : State) (h : _) (e : _), s.up = true ∧ s.twoHalves = true ∧ vote {
    s.laurel with copies := Vector.ofFn (fun i : Fin 3 => if i = 0 then a else if i = 1 then b else c) } = some (h, e)) ∧
  (∃ (a : TokenCopy) (b : TokenCopy) (c : TokenCopy) (s : State), s.up = true ∧ s.twoHalves = true ∧ vote { s.laurel with
    copies := Vector.ofFn (fun i : Fin 3 => if i = 0 then a else if i = 1 then b else c) } = none ∧ s.laurel.valid = true) ∧
  (∃ (h : Half) (e : Epoch) (s : State), s.laurel.conflict = none ∧ s.claimHeard (h, e) = true ∧ (s.laurel.valid = false ∨
    0 < epochDiff e s.tokenEpoch) ∧ s.laurel.claims = [(h, e)]) ∧
  (∃ (h : Half) (e : Epoch) (s : State), s.laurel.conflict = none ∧ s.claimHeard (h, e) = true ∧ (s.laurel.valid = false ∨
    0 < epochDiff e s.tokenEpoch) ∧ s.laurel.claims = [(.a, e), (.b, e)] ∧ s.claimHeard (.a, e) = true ∧ s.claimHeard (.b,
    e) = true) ∧
  (∃ (t : Time) (c : Time) (e : Epoch) (s : State), s.canon = true ∧ s.laurel.conflict = some (c, e) ∧ c + 4 * usPs ≤ max
    s.now t) ∧
  (∃ (t : Time) (g : Grant) (s : State), s.canon = true ∧ s.laurel.grant = some g ∧ s.laurel.conflict = none ∧ takeoverAt
    g.time ≤ max s.now t) ∧
  (∃ (t : Time) (h : Half) (s : State), s.running = true ∧ s.twoHalves = true ∧ s.inCharge = some h ∧ s.role h.other =
    .shadow ∧ (∀ m, s.laurel.lastMismatch = some m → m + secPs < max s.now t) ∧ (s.half h).resign = false) ∧
  (∃ (h : Half) (s : State), s.canon = true ∧ s.running = true ∧ s.twoHalves = true ∧ NoError s pgLaurel ∧ (s.inCharge =
    none ∨ (s.inCharge = some h ∧ s.role h.other ≠ .shadow))) :=
  ⟨⟨(TokenCopy.mk' .b 7), (TokenCopy.mk' .b 7), ⟨.a, 3, 0⟩, sv .run, .b, 7, by decide +kernel⟩,
   ⟨(TokenCopy.mk' .b 7), (TokenCopy.mk' .a 7), ⟨.a, 3, 0⟩, sv .run, by decide +kernel⟩,
   ⟨.b, 2, { sv .run with laurel := { (sv .run).laurel with declared := true, claims := [(.b, 2)] } }, by decide +kernel⟩,
   ⟨.b, 2, { sv .run with laurel := { (sv .run).laurel with valid := false, claims := [(.a, 2), (.b, 2)] } }, by decide +kernel⟩,
   ⟨4000005, 5, 3, { sv .run with laurel := { (sv .run).laurel with conflict := some (5, 3) } }, by decide +kernel⟩,
   ⟨100000000, ⟨5, .a, .b, 4, false, false, true⟩, { sv .run with laurel := { (sv .run).laurel with grant := some ⟨5, .a, .b, 4, false, false, true⟩ } }, by decide +kernel⟩,
   ⟨5, .a, sv .run, by decide +kernel, by decide +kernel, by decide +kernel, by decide +kernel, (by intro m h; cases h), by decide +kernel⟩,
   ⟨.a, { sv .run with laurel := { (sv .run).laurel with valid := false } }, by decide +kernel⟩⟩

/-- States and operands that meet the hypotheses of each clause of FaultyHalves. -/
theorem witness_FaultyHalves :
  (∃ (t : Time) (okA : Bool) (okB : Bool) (f : Nat) (st : Nat) (r : Nat) (s : State), s.canon = true ∧ s.laurel.ident =
    some f ∧ s.up = true ∧ s.bothInService = true ∧ s.identify f okA okB = (st, r) ∧ (st = 1 ∨ tickStart s.laurel.identAt +
    4 * tickPs + 250 * usPs ≤ max s.now t)) ∧
  (∃ (t : Time) (s : State), s.up = true ∧ (∀ m, s.laurel.lastMismatch = some m → m + 60 * secPs ≤ max s.now t)) ∧
  (∃ (s : State), s.canon = true ∧ s.running = true) ∧
  (∃ (t : Time) (s : State), s.canon = true ∧ s.up = true ∧ s.fld LAUREL.KAT_CFG.KAT_S ≠ 0 ∧ s.laurel.katAt + s.fld
    LAUREL.KAT_CFG.KAT_S * secPs ≤ max s.now t) ∧
  (∃ (h : Half) (s : State), s.running = true ∧ s.twoHalves = true ∧ s.role h = .quarantined ∧ s.role h.other = .charge) ∧
  (∃ (h : Half) (s : State), s.running = true ∧ s.twoHalves = true ∧ (s.role h ≠ .quarantined ∨ s.role h.other ≠ .charge)) ∧
  (∃ (h : Half) (s : State), s.canon = true ∧ s.up = true ∧ s.role h = .rejoin ∧ s.twoHalves = true) ∧
  (∃ (h : Half) (s : State), s.canon = true ∧ s.up = true ∧ s.role h = .rejoin ∧ s.twoHalves = true) :=
  ⟨⟨5000000000, true, false, 3, 2, 2, { sv .run with laurel := { (sv .run).laurel with ident := some 3 } }, by decide +kernel⟩,
   ⟨60000000000001, { hf (sv .run) .b (fun x => { x with suspect := true }) with laurel := { (hf (sv .run) .b (fun x => { x with suspect := true })).laurel with lastMismatch := some 1 } }, by decide +kernel, (by intro m h; cases h; decide +kernel)⟩,
   ⟨sv .run, by decide +kernel⟩,
   ⟨0xFFFFFFFFFFFFFFFFFF, wf (sv .run) LAUREL.KAT_CFG.KAT_S 5, by decide +kernel⟩,
   ⟨.b, { sd .run with laurel := { LaurelState.reset with half := #v[{ HalfState.reset with role := .charge }, { HalfState.reset with role := .quarantined }] } }, by decide +kernel⟩,
   ⟨.b, sv .run, by decide +kernel⟩,
   ⟨.b, { sl (sd .run) .requested with laurel := { LaurelState.reset with half := #v[{ HalfState.reset with role := .charge }, { HalfState.reset with role := .rejoin }] } }, by decide +kernel⟩,
   ⟨.b, { sd .run with laurel := { LaurelState.reset with half := #v[{ HalfState.reset with role := .charge }, { HalfState.reset with role := .rejoin }] } }, by decide +kernel⟩⟩

/-- States and operands that meet the hypotheses of each clause of MapCommands. -/
theorem witness_MapCommands :
  (∃ (s : State), s.canon = true ∧ s.up = true ∧ s.flag MAP.SCRUB_CFG.EN = true) ∧
  (∃ (cov : Bool) (gs : List Seg) (s : State), s.canon = true ∧ s.up = true ∧ (s.q (covQ cov)).whole[(s.verdicts
    cov).length]? = some gs ∧ s.tileCheck cov (itemData gs) = none) ∧
  (∃ (cov : Bool) (gs : List Seg) (s : State) (k : _), s.canon = true ∧ s.up = true ∧ (s.q (covQ cov)).whole[(s.verdicts
    cov).length]? = some gs ∧ s.tileCheck cov (itemData gs) = some k ∧ s.verdicts cov = []) ∧
  (∃ (t : Time) (a : Time) (cov : Bool) (r : List Verdict) (gs : List Seg) (w : List (List Seg)) (i : TileItem) (s :
    State), s.up = true ∧ Sparse.wf noSlot s.map.slots = true ∧ s.verdicts cov = { at_ := a, discard := none } :: r ∧ (s.q
    (covQ cov)).whole = gs :: w ∧ a < tickStart (max s.now t) ∧ i = parseTile (itemData gs) ∧ s.tileCheck45 cov i = none) ∧
  (∃ (t : Time) (a : Time) (cov : Bool) (r : List Verdict) (gs : List Seg) (w : List (List Seg)) (i : TileItem) (s :
    State), s.up = true ∧ Sparse.wf noSlot s.map.slots = true ∧ s.verdicts cov = { at_ := a, discard := none } :: r ∧ (s.q
    (covQ cov)).whole = gs :: w ∧ a < tickStart (max s.now t) ∧ i = parseTile (itemData gs) ∧ s.tileCheck45 cov i ≠ none) ∧
  (∃ (t : Time) (i : Nat) (g : Nat) (r : List (Nat × Nat)) (s : State), s.liveRequests = (i, g) :: r ∧ s.up = true ∧
    s.drives = true ∧ (if s.map.reqTick = tickOf (max s.now t) then s.map.reqN else 0) < s.fld MAP.WIN_REQ.REQ_PER_TICK ∧
    s.credit 9 (s.requestItem i (s.slot i)).length = true) ∧
  (∃ (t : Time) (a : Time) (k : BitVec 11) (s : State), Sparse.wf noSlot s.map.slots = true ∧ s.up = true ∧ (s.slot
    k.toNat).reqAt = some a ∧ (s.slot k.toNat).st = .requested ∧ ((s.slot k.toNat).covOk && (s.slot k.toNat).prxOk) = false
    ∧ a + s.fld MAP.WIN_REQ.RETRY_MS * msPs ≤ max s.now t) ∧
  (∃ (h : Half) (i : Nat) (is : List Nat) (s : State), s.up = true ∧ s.inCharge = some h ∧ s.slotsWith (fun x => decide
    (x.st = .evicting) && !x.posted) = i :: is ∧ s.credit 8 (s.evictItem i (s.slot i) h).length = true) ∧
  (∃ (p : Spill) (r : List Spill) (s : State), s.map.spills = p :: r ∧ s.up = true ∧ s.drives = true ∧ s.credit 14
    (spillItem p).length = true) ∧
  (∃ (s : State), s.running = true ∧ s.dev = .run) ∧
  (∃ (s : State), s.running = true ∧ s.dev ≠ .run ∧ s.canon = true ∧ Sparse.wf noSlot s.map.slots = true) ∧
  (∃ (s : State), s.canon = true ∧ s.running = true) :=
  ⟨⟨wr (wf (sv .run) MAP.SCRUB_CFG.EN 1) MAP.SCRUB_POS ((sv .run).nSlots * 384 - 1), by decide +kernel⟩,
   ⟨true, [⟨true, true, true, 3, 7, tile (sv .run) 1 1 0⟩], hq1 (sl (sv .run) .requested) 1 (tile (sv .run) 1 1 0), by decide +kernel⟩,
   ⟨true, [⟨true, true, true, 3, 7, [1,2]⟩], hq1 (sl (sv .run) .requested) 1 [1,2], 1, by decide +kernel⟩,
   ⟨2000000000, 5, true, [], [⟨true, true, true, 3, 7, tile (sv .run) 1 1 0⟩], [], parseTile (tile (sv .run) 1 1 0), { hq1 (sl (sv .run) .requested) 1 (tile (sv .run) 1 1 0) with map := { (hq1 (sl (sv .run) .requested) 1 (tile (sv .run) 1 1 0) : State).map with verdicts := #v[[], [⟨5, none⟩]] } }, by decide +kernel⟩,
   ⟨2000000000, 5, true, [], [⟨true, true, true, 3, 7, tile (sv .run) 1 1 0⟩], [], parseTile (tile (sv .run) 1 1 0), { hq1 (sv .run) 1 (tile (sv .run) 1 1 0) with map := { (hq1 (sv .run) 1 (tile (sv .run) 1 1 0) : State).map with verdicts := #v[[], [⟨5, none⟩]] } }, by decide +kernel⟩,
   ⟨5, 0, 0, [], { sl (sv .run) .requested with map := { (sl (sv .run) .requested : State).map with reqQ := [(0, 0)] } }, by decide +kernel⟩,
   ⟨0xFFFFFFFFFFFF, 5, 0, (sv .run).setSlot 0 { Slot.reset with st := .requested, reqAt := some 5 }, by decide +kernel⟩,
   ⟨.a, 0, [], sl (sv .run) .evicting, by decide +kernel⟩,
   ⟨⟨0, 0, 1, 0, []⟩, [], { sv .run with map := { (sv .run : State).map with spills := [⟨0, 0, 1, 0, []⟩] } }, by decide +kernel⟩,
   ⟨sl (sv .run) .requested, by decide +kernel⟩,
   ⟨wf (sl (sv .idle) .resident) MAP.MAP_CFG.COV_EN 1, by decide +kernel⟩,
   ⟨sv .idle, by decide +kernel⟩⟩

/-- States and operands that meet the hypotheses of each clause of GeneratorEvents. -/
theorem witness_GeneratorEvents :
  (∃ (t : Time) (n : LaneIx) (g : Fin 4) (h : Fin 4) (c : Nat) (s : State) (v : State), c = (s.gen n g).base + (s.gen n
    g).len ∧ v = (s.at t).setsUntil n (c - 1) ∧ s.canon = true ∧ s.laneLive n = true ∧ (s.gen n g).running = true ∧ (s.gen
    n g).halted = false ∧ s.ownCounter n g = true ∧ c ≤ max s.now t / tclkPs ∧ (s.gen n g).reAt ≠ c ∧ h ∈ s.reloadGroup n g
    ∧ (s.gen n h).running = true ∧ (s.gen n h).draining = true) ∧
  (∃ (t : Time) (n : LaneIx) (g : Fin 4) (h : Fin 4) (c : Nat) (s : State) (v : State), c = (s.gen n g).base + (s.gen n
    g).len ∧ v = (s.at t).setsUntil n (c - 1) ∧ s.canon = true ∧ s.laneLive n = true ∧ (s.gen n g).running = true ∧ (s.gen
    n g).halted = false ∧ s.ownCounter n g = true ∧ c ≤ max s.now t / tclkPs ∧ (s.gen n g).reAt ≠ c ∧ h ∈ s.reloadGroup n g
    ∧ (s.gen n h).running = true ∧ (s.gen n h).draining = false) ∧
  (∃ (t : Time) (n : LaneIx) (s : State), s.laneLive n = true ∧ (s.pwm.get n).sets = [] ∧ (∀ h : Fin 4, (s.gen n h).running
    = true → max s.now t / tclkPs < (s.gen n h).base + (s.gen n h).len)) ∧
  (∃ (t : Time) (n : LaneIx) (g : Fin 4) (s : State) (v : State), v = (s.at t).pwmNow n ∧ s.canon = true ∧ v.laneLive n =
    true ∧ v.loopOwned n g = false) ∧
  (∃ (t : Time) (n : LaneIx) (g : Fin 4) (s : State) (v : State), v = (s.at t).pwmNow n ∧ s.canon = true ∧ v.laneLive n =
    true ∧ v.loopOwned n g = true) ∧
  (∃ (t : Time) (n : LaneIx) (s : State) (v : State), v = (s.at t).pwmNow n ∧ s.canon = true ∧ v.laneLive n = true) ∧
  (∃ (t : Time) (n : LaneIx) (s : State) (v : State), v = (s.at t).pwmNow n ∧ v.laneLive n = true) ∧
  (∃ (t : Time) (n : LaneIx) (g : Fin 4) (s : State) (v : State), v = (s.at t).pwmNow n ∧ s.canon = true ∧ v.laneLive n =
    true ∧ v.loopOwned n g = false) ∧
  (∃ (t : Time) (n : LaneIx) (g : Fin 4) (s : State) (v : State), v = (s.at t).pwmNow n ∧ s.canon = true ∧ v.laneLive n =
    true ∧ v.loopOwned n g = true) ∧
  (∃ (t : Time) (n : LaneIx) (s : State) (v : State), v = (s.at t).pwmNow n ∧ s.canon = true ∧ s.laneLive n = true ∧
    s.sealed = false) ∧
  (∃ (t : Time) (n : LaneIx) (s : State) (v : State), v = (s.at t).pwmNow n ∧ s.canon = true ∧ s.laneLive n = true ∧
    s.sealed = true) ∧
  (∃ (t : Time) (s : State) (a : _), s.syncIn = some a ∧ max s.now t < a + 64 * tclkPs) ∧
  (∃ (t : Time) (s : State), (∀ a, s.syncIn = some a → a + 64 * tclkPs ≤ max s.now t)) ∧
  (∃ (t : Time) (m : LaneIx) (s : State), s.laneLive m = true ∧ 2 ≤ s.syncSel m ∧ (s.gen m (if s.syncSel m = 2 then 0 else
    3)).zero0.map (· + 4) = some (max s.now t / tclkPs)) ∧
  (∃ (t : Time) (n : LaneIx) (r : List LaneIx) (g : Fin 4) (x : GenState) (c : Nat) (p : Nat) (s : State), s.canon = true ∧
    (∀ a, s.syncIn = some a → a + 64 * tclkPs ≤ max s.now t) ∧ (s.syncReach s.laneList).1 = n :: r ∧ s.laneLive n = true ∧
    (s.pwm.get n).sets = [] ∧ (∀ h : Fin 4, (s.gen n h).running = true → max s.now t / tclkPs < (s.gen n h).base + (s.gen n
    h).len) ∧ x = s.gen n g ∧ c = max s.now t / tclkPs ∧ x.running = true ∧ s.ownCounter n g = true ∧ (s.fld
    (PWMG.SYNC_CFG.IN_EN n)).testBit g.val = true ∧ p = (if g = 3 then s.fld (PWMG.SYNC_PH_G3.PHASE n) else s.fld
    (PWMG.SYNC_PH_BR.PHASE n)) + 4 ∧ p % max 1 x.len = c - x.base) ∧
  (∃ (t : Time) (n : LaneIx) (r : List LaneIx) (g : Fin 4) (x : GenState) (c : Nat) (p : Nat) (s : State), s.canon = true ∧
    (∀ a, s.syncIn = some a → a + 64 * tclkPs ≤ max s.now t) ∧ (s.syncReach s.laneList).1 = n :: r ∧ s.laneLive n = true ∧
    (s.pwm.get n).sets = [] ∧ (∀ h : Fin 4, (s.gen n h).running = true → max s.now t / tclkPs < (s.gen n h).base + (s.gen n
    h).len) ∧ x = s.gen n g ∧ c = max s.now t / tclkPs ∧ x.running = true ∧ s.ownCounter n g = true ∧ (s.fld
    (PWMG.SYNC_CFG.IN_EN n)).testBit g.val = true ∧ p = (if g = 3 then s.fld (PWMG.SYNC_PH_G3.PHASE n) else s.fld
    (PWMG.SYNC_PH_BR.PHASE n)) + 4 ∧ p % max 1 x.len ≠ c - x.base ∧ p % max 1 x.len = (c - x.base + 1) % max 1 x.len) ∧
  (∃ (t : Time) (n : LaneIx) (r : List LaneIx) (g : Fin 4) (x : GenState) (c : Nat) (p : Nat) (s : State), s.canon = true ∧
    (∀ a, s.syncIn = some a → a + 64 * tclkPs ≤ max s.now t) ∧ (s.syncReach s.laneList).1 = n :: r ∧ s.laneLive n = true ∧
    (s.pwm.get n).sets = [] ∧ (∀ h : Fin 4, (s.gen n h).running = true → max s.now t / tclkPs < (s.gen n h).base + (s.gen n
    h).len) ∧ x = s.gen n g ∧ c = max s.now t / tclkPs ∧ x.running = true ∧ s.ownCounter n g = true ∧ (s.fld
    (PWMG.SYNC_CFG.IN_EN n)).testBit g.val = true ∧ p = (if g = 3 then s.fld (PWMG.SYNC_PH_G3.PHASE n) else s.fld
    (PWMG.SYNC_PH_BR.PHASE n)) + 4 ∧ p % max 1 x.len ≠ c - x.base ∧ p % max 1 x.len ≠ (c - x.base + 1) % max 1 x.len ∧ c -
    x.base = (p % max 1 x.len + 1) % max 1 x.len) ∧
  (∃ (t : Time) (n : LaneIx) (r : List LaneIx) (g : Fin 4) (x : GenState) (c : Nat) (p : Nat) (s : State), s.canon = true ∧
    (∀ a, s.syncIn = some a → a + 64 * tclkPs ≤ max s.now t) ∧ (s.syncReach s.laneList).1 = n :: r ∧ s.laneLive n = true ∧
    (s.pwm.get n).sets = [] ∧ (∀ h : Fin 4, (s.gen n h).running = true → max s.now t / tclkPs < (s.gen n h).base + (s.gen n
    h).len) ∧ x = s.gen n g ∧ c = max s.now t / tclkPs ∧ x.running = true ∧ s.ownCounter n g = true ∧ (s.fld
    (PWMG.SYNC_CFG.IN_EN n)).testBit g.val = true ∧ p = (if g = 3 then s.fld (PWMG.SYNC_PH_G3.PHASE n) else s.fld
    (PWMG.SYNC_PH_BR.PHASE n)) + 4 ∧ p % max 1 x.len ≠ c - x.base ∧ p % max 1 x.len ≠ (c - x.base + 1) % max 1 x.len ∧ c -
    x.base ≠ (p % max 1 x.len + 1) % max 1 x.len ∧ x.draining = false) :=
  ⟨⟨1000000, 15, 3, 3, ((((lv .run 15).modGen 15 3 (fun x => { x with running := true, len := 100, perAct := 1600, draining := true })).gen 15 3).base + (((lv .run 15).modGen 15 3 (fun x => { x with running := true, len := 100, perAct := 1600, draining := true })).gen 15 3).len), (lv .run 15).modGen 15 3 (fun x => { x with running := true, len := 100, perAct := 1600, draining := true }), ((((lv .run 15).modGen 15 3 (fun x => { x with running := true, len := 100, perAct := 1600, draining := true })).at 1000000).setsUntil 15 (((((lv .run 15).modGen 15 3 (fun x => { x with running := true, len := 100, perAct := 1600, draining := true })).gen 15 3).base + (((lv .run 15).modGen 15 3 (fun x => { x with running := true, len := 100, perAct := 1600, draining := true })).gen 15 3).len) - 1)), by decide +kernel, rfl, by decide +kernel⟩,
   ⟨1000000, 15, 3, 3, ((((lv .run 15).modGen 15 3 (fun x => { x with running := true, len := 100, perAct := 1600, j := 15 })).gen 15 3).base + (((lv .run 15).modGen 15 3 (fun x => { x with running := true, len := 100, perAct := 1600, j := 15 })).gen 15 3).len), (lv .run 15).modGen 15 3 (fun x => { x with running := true, len := 100, perAct := 1600, j := 15 }), ((((lv .run 15).modGen 15 3 (fun x => { x with running := true, len := 100, perAct := 1600, j := 15 })).at 1000000).setsUntil 15 (((((lv .run 15).modGen 15 3 (fun x => { x with running := true, len := 100, perAct := 1600, j := 15 })).gen 15 3).base + (((lv .run 15).modGen 15 3 (fun x => { x with running := true, len := 100, perAct := 1600, j := 15 })).gen 15 3).len) - 1)), by decide +kernel, rfl, by decide +kernel⟩,
   ⟨5, 15, (lv .run 15).modGen 15 3 (fun x => { x with running := true, len := 100, perAct := 1600 }), by decide +kernel⟩,
   ⟨5, 15, 3, wf (lv .run 15) (PWMG.BRIDGE_CFG.CMP_SRC 15) 1, (((wf (lv .run 15) (PWMG.BRIDGE_CFG.CMP_SRC 15) 1).at 5).pwmNow 15), rfl, by decide +kernel⟩,
   ⟨5, 15, 2, wf (lv .run 15) (PWMG.BRIDGE_CFG.CMP_SRC 15) 1, (((wf (lv .run 15) (PWMG.BRIDGE_CFG.CMP_SRC 15) 1).at 5).pwmNow 15), rfl, by decide +kernel⟩,
   ⟨5, 15, wf (lv .run 15) (PWMG.BRIDGE_CFG.CMP_SRC 15) 1, (((wf (lv .run 15) (PWMG.BRIDGE_CFG.CMP_SRC 15) 1).at 5).pwmNow 15), rfl, by decide +kernel⟩,
   ⟨5, 15, wf ((lv .run 15).modGen 15 3 (fun x => { x with perW := true })) (PWMG.G_CFG.COMMIT 15 3) 1, (((wf ((lv .run 15).modGen 15 3 (fun x => { x with perW := true })) (PWMG.G_CFG.COMMIT 15 3) 1).at 5).pwmNow 15), rfl, by decide +kernel⟩,
   ⟨5, 15, 3, wf (lv .run 15) (PWMG.BRIDGE_CFG.CMP_SRC 15) 1, (((wf (lv .run 15) (PWMG.BRIDGE_CFG.CMP_SRC 15) 1).at 5).pwmNow 15), rfl, by decide +kernel⟩,
   ⟨5, 15, 2, wf (lv .run 15) (PWMG.BRIDGE_CFG.CMP_SRC 15) 1, (((wf (lv .run 15) (PWMG.BRIDGE_CFG.CMP_SRC 15) 1).at 5).pwmNow 15), rfl, by decide +kernel⟩,
   ⟨5, 15, lv .primrose 15, (((lv .primrose 15).at 5).pwmNow 15), rfl, by decide +kernel⟩,
   ⟨5, 15, lv .run 15, (((lv .run 15).at 5).pwmNow 15), rfl, by decide +kernel⟩,
   ⟨5, { lv .run 15 with syncIn := some 5 }, 5, by decide +kernel⟩,
   ⟨5, lv .run 15, by intro a h; cases h⟩,
   ⟨104 * tclkPs, 15, wf ((lv .run 15).modGen 15 3 (fun x => { x with running := true, base := 100, len := 5000, zero0 := some 100 })) (PWMG.SYNC_CFG.OUT_SEL 15) 3, by decide +kernel⟩,
   ⟨250000, 0, [1,2,3,4,5,6,7,8,9,10,11,12,13,14,15], 3, ((wf (wf ((lv .run 0).modGen 0 3 (fun x => { x with running := true, len := 1000, perAct := 16000, base := 0 })) (PWMG.SYNC_CFG.IN_EN 0) 8) (PWMG.SYNC_PH_G3.PHASE 0) 96).gen 0 3), 100, 100, wf (wf ((lv .run 0).modGen 0 3 (fun x => { x with running := true, len := 1000, perAct := 16000, base := 0 })) (PWMG.SYNC_CFG.IN_EN 0) 8) (PWMG.SYNC_PH_G3.PHASE 0) 96, by decide +kernel, noneAll (by decide +kernel), by decide +kernel⟩,
   ⟨250000, 0, [1,2,3,4,5,6,7,8,9,10,11,12,13,14,15], 3, ((wf (wf ((lv .run 0).modGen 0 3 (fun x => { x with running := true, len := 1000, perAct := 16000, base := 0 })) (PWMG.SYNC_CFG.IN_EN 0) 8) (PWMG.SYNC_PH_G3.PHASE 0) 97).gen 0 3), 100, 101, wf (wf ((lv .run 0).modGen 0 3 (fun x => { x with running := true, len := 1000, perAct := 16000, base := 0 })) (PWMG.SYNC_CFG.IN_EN 0) 8) (PWMG.SYNC_PH_G3.PHASE 0) 97, by decide +kernel, noneAll (by decide +kernel), by decide +kernel⟩,
   ⟨250000, 0, [1,2,3,4,5,6,7,8,9,10,11,12,13,14,15], 3, ((wf (wf ((lv .run 0).modGen 0 3 (fun x => { x with running := true, len := 1000, perAct := 16000, base := 0 })) (PWMG.SYNC_CFG.IN_EN 0) 8) (PWMG.SYNC_PH_G3.PHASE 0) 95).gen 0 3), 100, 99, wf (wf ((lv .run 0).modGen 0 3 (fun x => { x with running := true, len := 1000, perAct := 16000, base := 0 })) (PWMG.SYNC_CFG.IN_EN 0) 8) (PWMG.SYNC_PH_G3.PHASE 0) 95, by decide +kernel, noneAll (by decide +kernel), by decide +kernel⟩,
   ⟨1250000, 0, [1,2,3,4,5,6,7,8,9,10,11,12,13,14,15], 3, ((wf (wf ((lv .run 0).modGen 0 3 (fun x => { x with running := true, len := 1000, perAct := 16000, base := 0 })) (PWMG.SYNC_CFG.IN_EN 0) 8) (PWMG.SYNC_PH_G3.PHASE 0) 96).gen 0 3), 500, 100, wf (wf ((lv .run 0).modGen 0 3 (fun x => { x with running := true, len := 1000, perAct := 16000, base := 0 })) (PWMG.SYNC_CFG.IN_EN 0) 8) (PWMG.SYNC_PH_G3.PHASE 0) 96, by decide +kernel, noneAll (by decide +kernel), by decide +kernel⟩⟩

/-- States and operands that meet the hypotheses of each clause of EngineEvents. -/
theorem witness_EngineEvents :
  (∃ (t : Time) (n : LaneIx) (s : State) (v : State), v = (s.at t).pwmNow n ∧ v.laneLive n = true ∧ v.trigNow n = false) ∧
  (∃ (t : Time) (n : LaneIx) (s : State) (v : State) (a : _), v = (s.at t).pwmNow n ∧ v.laneLive n = true ∧ v.trigNow n =
    true ∧ v.canon = true ∧ v.flag (LOOP.ENG_CFG.EN n) = true ∧ (v.engOf n).lastTrig = some a ∧ max s.now t < a + 25000000) ∧
  (∃ (t : Time) (n : LaneIx) (s : State) (v : State), v = (s.at t).pwmNow n ∧ v.laneLive n = true ∧ v.trigNow n = true ∧
    v.flag (LOOP.ENG_CFG.EN n) = true ∧ (∀ a, (v.engOf n).lastTrig = some a → a + 25000000 ≤ max s.now t) ∧ (v.engOf
    n).running = false ∧ v.engMayStart n = false) ∧
  (∃ (t : Time) (n : LaneIx) (s : State) (v : State), v = (s.at t).pwmNow n ∧ v.laneLive n = true ∧ v.trigNow n = true ∧
    v.flag (LOOP.ENG_CFG.EN n) = true ∧ (∀ a, (v.engOf n).lastTrig = some a → a + 25000000 ≤ max s.now t) ∧ (v.engOf
    n).running = false ∧ v.engMayStart n = true ∧ (v.engOf n).draining = false) ∧
  (∃ (t : Time) (n : LaneIx) (s : State) (v : State), v = (s.at t).pwmNow n ∧ v.laneLive n = true ∧ v.trigNow n = true ∧
    v.flag (LOOP.ENG_CFG.EN n) = true ∧ (∀ a, (v.engOf n).lastTrig = some a → a + 25000000 ≤ max s.now t) ∧ (v.engOf
    n).running = true ∧ (v.engOf n).stopped = false ∧ (v.engOf n).draining = false) ∧
  (∃ (t : Time) (n : LaneIx) (ain : List Sample) (s : State) (v : State) (w : State), v = (s.at t).pwmNow n ∧ w =
    ((((v.engHold n).ainTrigger n ain).modEng n (fun e => { e with lastTrig := some (max s.now t) })).fbkTaken n) ∧
    v.laneLive n = true ∧ v.trigNow n = true ∧ v.flag (LOOP.ENG_CFG.EN n) = true ∧ (∀ a, (v.engOf n).lastTrig = some a → a
    + 25000000 ≤ max s.now t) ∧ (v.engOf n).running = true ∧ (v.engOf n).stopped = false ∧ (v.engOf n).draining = false ∧
    v.fld (LOOP.ENG_CFG.TOP n) = 0 ∧ v.flag (LOOP.SP_CFG.ZERO_OFF n) = false ∧ (v.loopSt n 0).swapPend = false) ∧
  (∃ (t : Time) (d : Time) (n : LaneIx) (s : State) (v : State), v = (s.at t).pwmNow n ∧ v.laneLive n = true ∧ (v.engOf
    n).hallInt = some d ∧ v.driving n = true ∧ (v.engOf n).commLost = true ∧ v.flag (LOOP.COMM_CFG.COMM_DR n) = true ∧
    (v.engOf n).drAt + d ≤ max s.now t) ∧
  (∃ (t : Time) (d : Time) (n : LaneIx) (s : State) (v : State), v = (s.at t).pwmNow n ∧ v.laneLive n = true ∧ (v.engOf
    n).hallInt = some d ∧ v.driving n = true ∧ (v.engOf n).commLost = true ∧ v.flag (LOOP.COMM_CFG.COMM_DR n) = true ∧
    (v.engOf n).drAt + d ≤ max s.now t ∧ (v.engOf n).drSteps + 1 < v.fld (LOOP.COMM_CFG.DR_MAX n) ∧ v.canon = true) ∧
  (∃ (t : Time) (d : Time) (n : LaneIx) (s : State) (v : State), v = (s.at t).pwmNow n ∧ v.laneLive n = true ∧ (v.engOf
    n).hallInt = some d ∧ v.driving n = true ∧ (v.engOf n).commLost = true ∧ v.flag (LOOP.COMM_CFG.COMM_DR n) = true ∧
    (v.engOf n).drAt + d ≤ max s.now t ∧ v.fld (LOOP.COMM_CFG.DR_MAX n) ≤ (v.engOf n).drSteps + 1 ∧ v.canon = true) ∧
  (∃ (n : LaneIx) (s : State), s.laneLive n = true) ∧
  (∃ (n : LaneIx) (s : State), s.laneLive n = true) ∧
  (∃ (n : LaneIx) (l : Fin 3) (s : State), s.laneLive n = true ∧ bf (s.reg (LOOP.COEF_SEL n)).toNat 5 4 = l.val ∧
    ((s.loopSt n l).bank.val ≠ (s.reg (LOOP.COEF_SEL n)).toNat % 2 ∨ (s.fld (LOOP.BANK_LIVE.LIVE n)).testBit l.val = true)) ∧
  (∃ (n : LaneIx) (l : Fin 3) (s : State), s.laneLive n = true ∧ bf (s.reg (LOOP.COEF_SEL n)).toNat 5 4 = l.val ∧ (s.loopSt
    n l).bank.val = (s.reg (LOOP.COEF_SEL n)).toNat % 2 ∧ (s.fld (LOOP.BANK_LIVE.LIVE n)).testBit l.val = false) :=
  ⟨⟨25000005, 15, lv .run 15, (((lv .run 15).at 25000005).pwmNow 15), rfl, by decide +kernel⟩,
   ⟨25000005, 15, ((wf (lv .run 15) (LOOP.ENG_CFG.EN 15) 1).modGen 15 0 (fun x => { x with running := true, base := 10000, len := 1000000, zeroAt := some 10000 })).modEng 15 (fun e => { e with lastTrig := some 7 }), (((((wf (lv .run 15) (LOOP.ENG_CFG.EN 15) 1).modGen 15 0 (fun x => { x with running := true, base := 10000, len := 1000000, zeroAt := some 10000 })).modEng 15 (fun e => { e with lastTrig := some 7 })).at 25000005).pwmNow 15), 7, rfl, by decide +kernel⟩,
   ⟨25000005, 15, ((wf (lv .run 15) (LOOP.ENG_CFG.EN 15) 1).modGen 15 0 (fun x => { x with running := true, base := 10000, len := 1000000, zeroAt := some 10000 })).modEng 15 (fun e => { e with lastTrig := some 5, safeStop := true }), (((((wf (lv .run 15) (LOOP.ENG_CFG.EN 15) 1).modGen 15 0 (fun x => { x with running := true, base := 10000, len := 1000000, zeroAt := some 10000 })).modEng 15 (fun e => { e with lastTrig := some 5, safeStop := true })).at 25000005).pwmNow 15), rfl, by decide +kernel, by decide +kernel, by decide +kernel, by intro a h; cases h; decide, by decide +kernel⟩,
   ⟨25000005, 15, ((wf (lv .run 15) (LOOP.ENG_CFG.EN 15) 1).modGen 15 0 (fun x => { x with running := true, base := 10000, len := 1000000, zeroAt := some 10000 })).modEng 15 (fun e => { e with lastTrig := some 5 }), (((((wf (lv .run 15) (LOOP.ENG_CFG.EN 15) 1).modGen 15 0 (fun x => { x with running := true, base := 10000, len := 1000000, zeroAt := some 10000 })).modEng 15 (fun e => { e with lastTrig := some 5 })).at 25000005).pwmNow 15), rfl, by decide +kernel, by decide +kernel, by decide +kernel, by intro a h; cases h; decide, by decide +kernel⟩,
   ⟨25000005, 15, ((wf (lv .run 15) (LOOP.ENG_CFG.EN 15) 1).modGen 15 0 (fun x => { x with running := true, base := 10000, len := 1000000, zeroAt := some 10000 })).modEng 15 (fun e => { e with running := true, lastTrig := some 5, i := 7 }), (((((wf (lv .run 15) (LOOP.ENG_CFG.EN 15) 1).modGen 15 0 (fun x => { x with running := true, base := 10000, len := 1000000, zeroAt := some 10000 })).modEng 15 (fun e => { e with running := true, lastTrig := some 5, i := 7 })).at 25000005).pwmNow 15), rfl, by decide +kernel, by decide +kernel, by decide +kernel, by intro a h; cases h; decide, by decide +kernel⟩,
   ⟨25000005, 15, [], ((wf (wf (lv .run 15) (LOOP.ENG_CFG.EN 15) 1) (LOOP.SP_SLEW.SLEW_UP 15) 1000).modGen 15 0 (fun x => { x with running := true, base := 10000, len := 1000000, zeroAt := some 10000 })).modEng 15 (fun e => { e with running := true, lastTrig := some 5, i := 7 }), (((((wf (wf (lv .run 15) (LOOP.ENG_CFG.EN 15) 1) (LOOP.SP_SLEW.SLEW_UP 15) 1000).modGen 15 0 (fun x => { x with running := true, base := 10000, len := 1000000, zeroAt := some 10000 })).modEng 15 (fun e => { e with running := true, lastTrig := some 5, i := 7 })).at 25000005).pwmNow 15), (((((((((wf (wf (lv .run 15) (LOOP.ENG_CFG.EN 15) 1) (LOOP.SP_SLEW.SLEW_UP 15) 1000).modGen 15 0 (fun x => { x with running := true, base := 10000, len := 1000000, zeroAt := some 10000 })).modEng 15 (fun e => { e with running := true, lastTrig := some 5, i := 7 })).at 25000005).pwmNow 15).engHold 15).ainTrigger 15 []).modEng 15 (fun e => { e with lastTrig := some (max (((wf (wf (lv .run 15) (LOOP.ENG_CFG.EN 15) 1) (LOOP.SP_SLEW.SLEW_UP 15) 1000).modGen 15 0 (fun x => { x with running := true, base := 10000, len := 1000000, zeroAt := some 10000 })).modEng 15 (fun e => { e with running := true, lastTrig := some 5, i := 7 })).now 25000005) })).fbkTaken 15), rfl, rfl, by decide +kernel, by decide +kernel, by decide +kernel, by intro a h; cases h; decide, by decide +kernel⟩,
   ⟨0xFFFFFFFFFF, 5, 15, (wf (wf (lv .run 15) (LOOP.COMM_CFG.COMM_DR 15) 1) (LOOP.ENG_CFG.OUT_MODE 15) 1).modEng 15 (fun e => { e with running := true, commLost := true, hallInt := some 5, dirNeg := true }), ((((wf (wf (lv .run 15) (LOOP.COMM_CFG.COMM_DR 15) 1) (LOOP.ENG_CFG.OUT_MODE 15) 1).modEng 15 (fun e => { e with running := true, commLost := true, hallInt := some 5, dirNeg := true })).at 0xFFFFFFFFFF).pwmNow 15), rfl, by decide +kernel⟩,
   ⟨0xFFFFFFFFFF, 5, 15, wf ((wf (wf (lv .run 15) (LOOP.COMM_CFG.COMM_DR 15) 1) (LOOP.ENG_CFG.OUT_MODE 15) 1).modEng 15 (fun e => { e with running := true, commLost := true, hallInt := some 5, dirNeg := true })) (LOOP.COMM_CFG.DR_MAX 15) 3, (((wf ((wf (wf (lv .run 15) (LOOP.COMM_CFG.COMM_DR 15) 1) (LOOP.ENG_CFG.OUT_MODE 15) 1).modEng 15 (fun e => { e with running := true, commLost := true, hallInt := some 5, dirNeg := true })) (LOOP.COMM_CFG.DR_MAX 15) 3).at 0xFFFFFFFFFF).pwmNow 15), rfl, by decide +kernel⟩,
   ⟨0xFFFFFFFFFF, 5, 15, ((wf (wf (lv .run 15) (LOOP.COMM_CFG.COMM_DR 15) 1) (LOOP.ENG_CFG.OUT_MODE 15) 1).modEng 15 (fun e => { e with running := true, commLost := true, hallInt := some 5, dirNeg := true })).modEng 15 (fun e => { e with drSteps := 250 }), (((((wf (wf (lv .run 15) (LOOP.COMM_CFG.COMM_DR 15) 1) (LOOP.ENG_CFG.OUT_MODE 15) 1).modEng 15 (fun e => { e with running := true, commLost := true, hallInt := some 5, dirNeg := true })).modEng 15 (fun e => { e with drSteps := 250 })).at 0xFFFFFFFFFF).pwmNow 15), rfl, by decide +kernel⟩,
   ⟨15, lv .run 15, by decide +kernel⟩,
   ⟨15, (lv .run 15).modEng 15 (fun e => { e with safeStop := true }), by decide +kernel⟩,
   ⟨15, 2, wr (lv .run 15) (LOOP.COEF_SEL 15) 0x21, by decide +kernel⟩,
   ⟨15, 2, wr (lv .run 15) (LOOP.COEF_SEL 15) 0x20, by decide +kernel⟩⟩

/-- States and operands that meet the hypotheses of each clause of FeedbackInputs. -/
theorem witness_FeedbackInputs :
  (∃ (t : Time) (n : LaneIx) (x : Legs) (h : BitVec 3) (s : State) (v : State), v = (s.at t).pwmNow n ∧ h = v.filtered n x
    ∧ v.canon = true ∧ v.fbkIn n 1 = true ∧ (v.fbkOf n).lvl = h) ∧
  (∃ (t : Time) (n : LaneIx) (x : Legs) (h : BitVec 3) (s : State) (v : State), v = (s.at t).pwmNow n ∧ h = v.filtered n x
    ∧ v.canon = true ∧ v.fbkIn n 1 = true ∧ (v.fbkOf n).lvl ≠ h ∧ sectorOf h = none) ∧
  (∃ (t : Time) (n : LaneIx) (x : Legs) (h : BitVec 3) (s : State) (v : State) (σ : _), v = (s.at t).pwmNow n ∧ h =
    v.filtered n x ∧ v.canon = true ∧ v.fbkIn n 1 = true ∧ (v.fbkOf n).lvl ≠ h ∧ sectorOf h = some σ) ∧
  (∃ (t : Time) (n : LaneIx) (x : Legs) (h : BitVec 3) (s : State) (v : State) (σ : _) (σ' : _) (δ : _), v = (s.at
    t).pwmNow n ∧ h = v.filtered n x ∧ v.canon = true ∧ v.fbkIn n 1 = true ∧ (v.fbkOf n).lvl ≠ h ∧ sectorOf h = some σ ∧
    (v.fbkOf n).sigmaLast = some σ' ∧ δ = (σ + 6 - σ') % 6 ∧ (δ = 0 ∨ δ = 3)) ∧
  (∃ (t : Time) (n : LaneIx) (x : Legs) (h : BitVec 3) (s : State) (v : State) (σ : _) (σ' : _) (δ : _), v = (s.at
    t).pwmNow n ∧ h = v.filtered n x ∧ v.canon = true ∧ v.fbkIn n 1 = true ∧ (v.fbkOf n).lvl ≠ h ∧ sectorOf h = some σ ∧
    (v.fbkOf n).sigmaLast = some σ' ∧ δ = (σ + 6 - σ') % 6 ∧ 2 ≤ δ ∧ δ ≤ 4) ∧
  (∃ (t : Time) (n : LaneIx) (x : Legs) (h : BitVec 3) (s : State) (v : State) (σ : _) (σ' : _) (δ : _), v = (s.at
    t).pwmNow n ∧ h = v.filtered n x ∧ v.canon = true ∧ v.fbkIn n 1 = true ∧ (v.fbkOf n).lvl ≠ h ∧ sectorOf h = some σ ∧
    (v.fbkOf n).sigmaLast = some σ' ∧ δ = (σ + 6 - σ') % 6 ∧ (δ = 1 ∨ δ = 5)) ∧
  (∃ (t : Time) (n : LaneIx) (x : Legs) (h : BitVec 3) (s : State) (v : State) (σ : _) (σ' : _) (δ : _), v = (s.at
    t).pwmNow n ∧ h = v.filtered n x ∧ v.canon = true ∧ v.fbkIn n 1 = true ∧ (v.fbkOf n).lvl ≠ h ∧ sectorOf h = some σ ∧
    (v.fbkOf n).sigmaLast = some σ' ∧ δ = (σ + 6 - σ') % 6 ∧ (δ = 2 ∨ δ = 4)) ∧
  (∃ (n : LaneIx) (x : Legs) (old : BitVec 3) (new : BitVec 3) (d : Nat) (s : State), s.fbkIn n 2 = true ∧ old = (s.fbkOf
    n).lvl ∧ new = s.filtered n x ∧ d = (quadIx (new.toNat % 4) + 4 - quadIx (old.toNat % 4)) % 4 ∧ d = 0) ∧
  (∃ (n : LaneIx) (x : Legs) (old : BitVec 3) (new : BitVec 3) (d : Nat) (s : State), s.fbkIn n 2 = true ∧ old = (s.fbkOf
    n).lvl ∧ new = s.filtered n x ∧ d = (quadIx (new.toNat % 4) + 4 - quadIx (old.toNat % 4)) % 4 ∧ (d = 1 ∨ d = 3) ∧
    (old.getLsbD 2 = new.getLsbD 2 ∨ s.flag (FBK.IDX_CFG.IDX_EN n) = false)) ∧
  (∃ (n : LaneIx) (x : Legs) (old : BitVec 3) (new : BitVec 3) (d : Nat) (s : State), s.fbkIn n 2 = true ∧ old = (s.fbkOf
    n).lvl ∧ new = s.filtered n x ∧ d = (quadIx (new.toNat % 4) + 4 - quadIx (old.toNat % 4)) % 4 ∧ d = 2 ∧ (old.getLsbD 2
    = new.getLsbD 2 ∨ s.flag (FBK.IDX_CFG.IDX_EN n) = false) ∧ s.canon = true) ∧
  (∃ (n : LaneIx) (x : Legs) (a : Bool) (b : Bool) (s : State), s.fbkIn n 3 = true ∧ a = (s.filtered n x).getLsbD 0 ∧ b =
    (s.filtered n x).getLsbD 1 ∧ (s.fbkOf n).lvl.getLsbD 0 ≠ a ∧ (s.fld (FBK.PULSE_CFG.EDGE n) = 2 ∨ s.fld
    (FBK.PULSE_CFG.EDGE n) = (if a = true then 0 else 1))) ∧
  (∃ (n : LaneIx) (x : Legs) (a : Bool) (b : Bool) (s : State), s.fbkIn n 3 = true ∧ a = (s.filtered n x).getLsbD 0 ∧ b =
    (s.filtered n x).getLsbD 1 ∧ ((s.fbkOf n).lvl.getLsbD 0 = a ∨ (s.fld (FBK.PULSE_CFG.EDGE n) ≠ 2 ∧ s.fld
    (FBK.PULSE_CFG.EDGE n) ≠ (if a = true then 0 else 1)))) ∧
  (∃ (t : Time) (n : LaneIx) (x : Legs) (old : BitVec 3) (new : BitVec 3) (e : Int) (s : State) (v : State) (w : State),
    s.fbkIn n 2 = true ∧ v = (s.at t).fbkInput n x ∧ old = (s.fbkOf n).lvl ∧ new = (v.fbkOf n).lvl ∧ w = v.quadCount n
    (old.toNat % 4) (new.toNat % 4) ∧ old.getLsbD 2 ≠ new.getLsbD 2 ∧ e = idxError (w.fbkOf n).c (w.fld ⟨FBK.IDX_POS n, 23,
    0⟩) (w.fld (FBK.IDX_CFG.CPR n)) ∧ (w.flag (FBK.IDX_CFG.IDX_EN n) = false ∨ new.getLsbD 2 = (w.fbkOf n).dNeg ∨ w.flag
    (FBK.IDX_CFG.GATE_EN n) = true ∧ new.toNat % 4 ≠ w.fld (FBK.IDX_CFG.GATE_AB n))) ∧
  (∃ (t : Time) (n : LaneIx) (x : Legs) (old : BitVec 3) (new : BitVec 3) (e : Int) (s : State) (v : State) (w : State),
    s.fbkIn n 2 = true ∧ v = (s.at t).fbkInput n x ∧ old = (s.fbkOf n).lvl ∧ new = (v.fbkOf n).lvl ∧ w = v.quadCount n
    (old.toNat % 4) (new.toNat % 4) ∧ old.getLsbD 2 ≠ new.getLsbD 2 ∧ e = idxError (w.fbkOf n).c (w.fld ⟨FBK.IDX_POS n, 23,
    0⟩) (w.fld (FBK.IDX_CFG.CPR n)) ∧ w.flag (FBK.IDX_CFG.IDX_EN n) = true ∧ new.getLsbD 2 = (!(w.fbkOf n).dNeg) ∧ (w.flag
    (FBK.IDX_CFG.GATE_EN n) = false ∨ new.toNat % 4 = w.fld (FBK.IDX_CFG.GATE_AB n))) ∧
  (∃ (t : Time) (n : LaneIx) (x : Legs) (old : BitVec 3) (new : BitVec 3) (e : Int) (s : State) (v : State) (w : State),
    s.fbkIn n 2 = true ∧ v = (s.at t).fbkInput n x ∧ old = (s.fbkOf n).lvl ∧ new = (v.fbkOf n).lvl ∧ w = v.quadCount n
    (old.toNat % 4) (new.toNat % 4) ∧ old.getLsbD 2 ≠ new.getLsbD 2 ∧ e = idxError (w.fbkOf n).c (w.fld ⟨FBK.IDX_POS n, 23,
    0⟩) (w.fld (FBK.IDX_CFG.CPR n)) ∧ old.toNat % 4 ≠ new.toNat % 4) :=
  ⟨⟨5, 15, (⟨1, 0, #v[999,999,999]⟩ : Legs), (((((fb 15 1).modFbk 15 (fun f => { f with lvl := 1, sigmaLast := sectorOf 1 })).at 5).pwmNow 15).filtered 15 (⟨1, 0, #v[999,999,999]⟩ : Legs)), (fb 15 1).modFbk 15 (fun f => { f with lvl := 1, sigmaLast := sectorOf 1 }), ((((fb 15 1).modFbk 15 (fun f => { f with lvl := 1, sigmaLast := sectorOf 1 })).at 5).pwmNow 15), rfl, by decide +kernel⟩,
   ⟨5, 15, (⟨7, 0, #v[999,999,999]⟩ : Legs), (((((fb 15 1).modFbk 15 (fun f => { f with lvl := 1, sigmaLast := sectorOf 1 })).at 5).pwmNow 15).filtered 15 (⟨7, 0, #v[999,999,999]⟩ : Legs)), (fb 15 1).modFbk 15 (fun f => { f with lvl := 1, sigmaLast := sectorOf 1 }), ((((fb 15 1).modFbk 15 (fun f => { f with lvl := 1, sigmaLast := sectorOf 1 })).at 5).pwmNow 15), rfl, by decide +kernel⟩,
   ⟨5, 15, (⟨3, 0, #v[999,999,999]⟩ : Legs), (((((fb 15 1).modFbk 15 (fun f => { f with lvl := 1, sigmaLast := sectorOf 1 })).at 5).pwmNow 15).filtered 15 (⟨3, 0, #v[999,999,999]⟩ : Legs)), (fb 15 1).modFbk 15 (fun f => { f with lvl := 1, sigmaLast := sectorOf 1 }), ((((fb 15 1).modFbk 15 (fun f => { f with lvl := 1, sigmaLast := sectorOf 1 })).at 5).pwmNow 15), ((sectorOf (((((fb 15 1).modFbk 15 (fun f => { f with lvl := 1, sigmaLast := sectorOf 1 })).at 5).pwmNow 15).filtered 15 (⟨3, 0, #v[999,999,999]⟩ : Legs))).getD 9), rfl, by decide +kernel⟩,
   ⟨5, 15, (⟨1, 0, #v[999,999,999]⟩ : Legs), (((((fb 15 1).modFbk 15 (fun f => { f with lvl := 7, sigmaLast := sectorOf 1 })).at 5).pwmNow 15).filtered 15 (⟨1, 0, #v[999,999,999]⟩ : Legs)), (fb 15 1).modFbk 15 (fun f => { f with lvl := 7, sigmaLast := sectorOf 1 }), ((((fb 15 1).modFbk 15 (fun f => { f with lvl := 7, sigmaLast := sectorOf 1 })).at 5).pwmNow 15), ((sectorOf (((((fb 15 1).modFbk 15 (fun f => { f with lvl := 7, sigmaLast := sectorOf 1 })).at 5).pwmNow 15).filtered 15 (⟨1, 0, #v[999,999,999]⟩ : Legs))).getD 9), ((sectorOf 1).getD 9), ((((sectorOf (((((fb 15 1).modFbk 15 (fun f => { f with lvl := 7, sigmaLast := sectorOf 1 })).at 5).pwmNow 15).filtered 15 (⟨1, 0, #v[999,999,999]⟩ : Legs))).getD 9) + 6 - ((sectorOf 1).getD 9)) % 6), rfl, by decide +kernel⟩,
   ⟨5, 15, (⟨2, 0, #v[999,999,999]⟩ : Legs), (((((fb 15 1).modFbk 15 (fun f => { f with lvl := 1, sigmaLast := sectorOf 1 })).at 5).pwmNow 15).filtered 15 (⟨2, 0, #v[999,999,999]⟩ : Legs)), (fb 15 1).modFbk 15 (fun f => { f with lvl := 1, sigmaLast := sectorOf 1 }), ((((fb 15 1).modFbk 15 (fun f => { f with lvl := 1, sigmaLast := sectorOf 1 })).at 5).pwmNow 15), ((sectorOf (((((fb 15 1).modFbk 15 (fun f => { f with lvl := 1, sigmaLast := sectorOf 1 })).at 5).pwmNow 15).filtered 15 (⟨2, 0, #v[999,999,999]⟩ : Legs))).getD 9), ((sectorOf 1).getD 9), ((((sectorOf (((((fb 15 1).modFbk 15 (fun f => { f with lvl := 1, sigmaLast := sectorOf 1 })).at 5).pwmNow 15).filtered 15 (⟨2, 0, #v[999,999,999]⟩ : Legs))).getD 9) + 6 - ((sectorOf 1).getD 9)) % 6), rfl, by decide +kernel⟩,
   ⟨5, 15, (⟨3, 0, #v[999,999,999]⟩ : Legs), (((((fb 15 1).modFbk 15 (fun f => { f with lvl := 1, sigmaLast := sectorOf 1 })).at 5).pwmNow 15).filtered 15 (⟨3, 0, #v[999,999,999]⟩ : Legs)), (fb 15 1).modFbk 15 (fun f => { f with lvl := 1, sigmaLast := sectorOf 1 }), ((((fb 15 1).modFbk 15 (fun f => { f with lvl := 1, sigmaLast := sectorOf 1 })).at 5).pwmNow 15), ((sectorOf (((((fb 15 1).modFbk 15 (fun f => { f with lvl := 1, sigmaLast := sectorOf 1 })).at 5).pwmNow 15).filtered 15 (⟨3, 0, #v[999,999,999]⟩ : Legs))).getD 9), ((sectorOf 1).getD 9), ((((sectorOf (((((fb 15 1).modFbk 15 (fun f => { f with lvl := 1, sigmaLast := sectorOf 1 })).at 5).pwmNow 15).filtered 15 (⟨3, 0, #v[999,999,999]⟩ : Legs))).getD 9) + 6 - ((sectorOf 1).getD 9)) % 6), rfl, by decide +kernel⟩,
   ⟨5, 15, (⟨2, 0, #v[999,999,999]⟩ : Legs), (((((fb 15 1).modFbk 15 (fun f => { f with lvl := 1, sigmaLast := sectorOf 1 })).at 5).pwmNow 15).filtered 15 (⟨2, 0, #v[999,999,999]⟩ : Legs)), (fb 15 1).modFbk 15 (fun f => { f with lvl := 1, sigmaLast := sectorOf 1 }), ((((fb 15 1).modFbk 15 (fun f => { f with lvl := 1, sigmaLast := sectorOf 1 })).at 5).pwmNow 15), ((sectorOf (((((fb 15 1).modFbk 15 (fun f => { f with lvl := 1, sigmaLast := sectorOf 1 })).at 5).pwmNow 15).filtered 15 (⟨2, 0, #v[999,999,999]⟩ : Legs))).getD 9), ((sectorOf 1).getD 9), ((((sectorOf (((((fb 15 1).modFbk 15 (fun f => { f with lvl := 1, sigmaLast := sectorOf 1 })).at 5).pwmNow 15).filtered 15 (⟨2, 0, #v[999,999,999]⟩ : Legs))).getD 9) + 6 - ((sectorOf 1).getD 9)) % 6), rfl, by decide +kernel⟩,
   ⟨15, (⟨0, 0, #v[999,999,999]⟩ : Legs), ((fb 15 2).fbkOf 15).lvl, ((fb 15 2).filtered 15 (⟨0, 0, #v[999,999,999]⟩ : Legs)), ((quadIx (((fb 15 2).filtered 15 (⟨0, 0, #v[999,999,999]⟩ : Legs)).toNat % 4) + 4 - quadIx (((fb 15 2).fbkOf 15).lvl.toNat % 4)) % 4), fb 15 2, by decide +kernel⟩,
   ⟨15, (⟨1, 0, #v[999,999,999]⟩ : Legs), ((fb 15 2).fbkOf 15).lvl, ((fb 15 2).filtered 15 (⟨1, 0, #v[999,999,999]⟩ : Legs)), ((quadIx (((fb 15 2).filtered 15 (⟨1, 0, #v[999,999,999]⟩ : Legs)).toNat % 4) + 4 - quadIx (((fb 15 2).fbkOf 15).lvl.toNat % 4)) % 4), fb 15 2, by decide +kernel⟩,
   ⟨15, (⟨3, 0, #v[999,999,999]⟩ : Legs), ((fb 15 2).fbkOf 15).lvl, ((fb 15 2).filtered 15 (⟨3, 0, #v[999,999,999]⟩ : Legs)), ((quadIx (((fb 15 2).filtered 15 (⟨3, 0, #v[999,999,999]⟩ : Legs)).toNat % 4) + 4 - quadIx (((fb 15 2).fbkOf 15).lvl.toNat % 4)) % 4), fb 15 2, by decide +kernel⟩,
   ⟨15, (⟨1, 0, #v[999,999,999]⟩ : Legs), ((fb 15 3).filtered 15 (⟨1, 0, #v[999,999,999]⟩ : Legs)).getLsbD 0, ((fb 15 3).filtered 15 (⟨1, 0, #v[999,999,999]⟩ : Legs)).getLsbD 1, fb 15 3, by decide +kernel⟩,
   ⟨15, (⟨0, 0, #v[999,999,999]⟩ : Legs), ((fb 15 3).filtered 15 (⟨0, 0, #v[999,999,999]⟩ : Legs)).getLsbD 0, ((fb 15 3).filtered 15 (⟨0, 0, #v[999,999,999]⟩ : Legs)).getLsbD 1, fb 15 3, by decide +kernel⟩,
   ⟨5, 15, (⟨4, 0, #v[999,999,999]⟩ : Legs), ((fb 15 2).fbkOf 15).lvl, ((((fb 15 2).at 5).fbkInput 15 (⟨4, 0, #v[999,999,999]⟩ : Legs)).fbkOf 15).lvl, (idxError (((((fb 15 2).at 5).fbkInput 15 (⟨4, 0, #v[999,999,999]⟩ : Legs)).quadCount 15 (((fb 15 2).fbkOf 15).lvl.toNat % 4) (((((fb 15 2).at 5).fbkInput 15 (⟨4, 0, #v[999,999,999]⟩ : Legs)).fbkOf 15).lvl.toNat % 4)).fbkOf 15).c (((((fb 15 2).at 5).fbkInput 15 (⟨4, 0, #v[999,999,999]⟩ : Legs)).quadCount 15 (((fb 15 2).fbkOf 15).lvl.toNat % 4) (((((fb 15 2).at 5).fbkInput 15 (⟨4, 0, #v[999,999,999]⟩ : Legs)).fbkOf 15).lvl.toNat % 4)).fld ⟨FBK.IDX_POS 15, 23, 0⟩) (((((fb 15 2).at 5).fbkInput 15 (⟨4, 0, #v[999,999,999]⟩ : Legs)).quadCount 15 (((fb 15 2).fbkOf 15).lvl.toNat % 4) (((((fb 15 2).at 5).fbkInput 15 (⟨4, 0, #v[999,999,999]⟩ : Legs)).fbkOf 15).lvl.toNat % 4)).fld (FBK.IDX_CFG.CPR 15))), fb 15 2, (((fb 15 2).at 5).fbkInput 15 (⟨4, 0, #v[999,999,999]⟩ : Legs)), ((((fb 15 2).at 5).fbkInput 15 (⟨4, 0, #v[999,999,999]⟩ : Legs)).quadCount 15 (((fb 15 2).fbkOf 15).lvl.toNat % 4) (((((fb 15 2).at 5).fbkInput 15 (⟨4, 0, #v[999,999,999]⟩ : Legs)).fbkOf 15).lvl.toNat % 4)), by decide +kernel, rfl, by decide +kernel, by decide +kernel, rfl, by decide +kernel⟩,
   ⟨5, 15, (⟨4, 0, #v[999,999,999]⟩ : Legs), ((wf (wf (wf ((fb 15 2).modFbk 15 (fun f => { f with c := 0, p := 0 })) (FBK.IDX_CFG.IDX_EN 15) 1) (FBK.IDX_CFG.POLICY 15) 1) (FBK.IDX_CFG.CPR 15) 100).fbkOf 15).lvl, ((((wf (wf (wf ((fb 15 2).modFbk 15 (fun f => { f with c := 0, p := 0 })) (FBK.IDX_CFG.IDX_EN 15) 1) (FBK.IDX_CFG.POLICY 15) 1) (FBK.IDX_CFG.CPR 15) 100).at 5).fbkInput 15 (⟨4, 0, #v[999,999,999]⟩ : Legs)).fbkOf 15).lvl, (idxError (((((wf (wf (wf ((fb 15 2).modFbk 15 (fun f => { f with c := 0, p := 0 })) (FBK.IDX_CFG.IDX_EN 15) 1) (FBK.IDX_CFG.POLICY 15) 1) (FBK.IDX_CFG.CPR 15) 100).at 5).fbkInput 15 (⟨4, 0, #v[999,999,999]⟩ : Legs)).quadCount 15 (((wf (wf (wf ((fb 15 2).modFbk 15 (fun f => { f with c := 0, p := 0 })) (FBK.IDX_CFG.IDX_EN 15) 1) (FBK.IDX_CFG.POLICY 15) 1) (FBK.IDX_CFG.CPR 15) 100).fbkOf 15).lvl.toNat % 4) (((((wf (wf (wf ((fb 15 2).modFbk 15 (fun f => { f with c := 0, p := 0 })) (FBK.IDX_CFG.IDX_EN 15) 1) (FBK.IDX_CFG.POLICY 15) 1) (FBK.IDX_CFG.CPR 15) 100).at 5).fbkInput 15 (⟨4, 0, #v[999,999,999]⟩ : Legs)).fbkOf 15).lvl.toNat % 4)).fbkOf 15).c (((((wf (wf (wf ((fb 15 2).modFbk 15 (fun f => { f with c := 0, p := 0 })) (FBK.IDX_CFG.IDX_EN 15) 1) (FBK.IDX_CFG.POLICY 15) 1) (FBK.IDX_CFG.CPR 15) 100).at 5).fbkInput 15 (⟨4, 0, #v[999,999,999]⟩ : Legs)).quadCount 15 (((wf (wf (wf ((fb 15 2).modFbk 15 (fun f => { f with c := 0, p := 0 })) (FBK.IDX_CFG.IDX_EN 15) 1) (FBK.IDX_CFG.POLICY 15) 1) (FBK.IDX_CFG.CPR 15) 100).fbkOf 15).lvl.toNat % 4) (((((wf (wf (wf ((fb 15 2).modFbk 15 (fun f => { f with c := 0, p := 0 })) (FBK.IDX_CFG.IDX_EN 15) 1) (FBK.IDX_CFG.POLICY 15) 1) (FBK.IDX_CFG.CPR 15) 100).at 5).fbkInput 15 (⟨4, 0, #v[999,999,999]⟩ : Legs)).fbkOf 15).lvl.toNat % 4)).fld ⟨FBK.IDX_POS 15, 23, 0⟩) (((((wf (wf (wf ((fb 15 2).modFbk 15 (fun f => { f with c := 0, p := 0 })) (FBK.IDX_CFG.IDX_EN 15) 1) (FBK.IDX_CFG.POLICY 15) 1) (FBK.IDX_CFG.CPR 15) 100).at 5).fbkInput 15 (⟨4, 0, #v[999,999,999]⟩ : Legs)).quadCount 15 (((wf (wf (wf ((fb 15 2).modFbk 15 (fun f => { f with c := 0, p := 0 })) (FBK.IDX_CFG.IDX_EN 15) 1) (FBK.IDX_CFG.POLICY 15) 1) (FBK.IDX_CFG.CPR 15) 100).fbkOf 15).lvl.toNat % 4) (((((wf (wf (wf ((fb 15 2).modFbk 15 (fun f => { f with c := 0, p := 0 })) (FBK.IDX_CFG.IDX_EN 15) 1) (FBK.IDX_CFG.POLICY 15) 1) (FBK.IDX_CFG.CPR 15) 100).at 5).fbkInput 15 (⟨4, 0, #v[999,999,999]⟩ : Legs)).fbkOf 15).lvl.toNat % 4)).fld (FBK.IDX_CFG.CPR 15))), wf (wf (wf ((fb 15 2).modFbk 15 (fun f => { f with c := 0, p := 0 })) (FBK.IDX_CFG.IDX_EN 15) 1) (FBK.IDX_CFG.POLICY 15) 1) (FBK.IDX_CFG.CPR 15) 100, (((wf (wf (wf ((fb 15 2).modFbk 15 (fun f => { f with c := 0, p := 0 })) (FBK.IDX_CFG.IDX_EN 15) 1) (FBK.IDX_CFG.POLICY 15) 1) (FBK.IDX_CFG.CPR 15) 100).at 5).fbkInput 15 (⟨4, 0, #v[999,999,999]⟩ : Legs)), ((((wf (wf (wf ((fb 15 2).modFbk 15 (fun f => { f with c := 0, p := 0 })) (FBK.IDX_CFG.IDX_EN 15) 1) (FBK.IDX_CFG.POLICY 15) 1) (FBK.IDX_CFG.CPR 15) 100).at 5).fbkInput 15 (⟨4, 0, #v[999,999,999]⟩ : Legs)).quadCount 15 (((wf (wf (wf ((fb 15 2).modFbk 15 (fun f => { f with c := 0, p := 0 })) (FBK.IDX_CFG.IDX_EN 15) 1) (FBK.IDX_CFG.POLICY 15) 1) (FBK.IDX_CFG.CPR 15) 100).fbkOf 15).lvl.toNat % 4) (((((wf (wf (wf ((fb 15 2).modFbk 15 (fun f => { f with c := 0, p := 0 })) (FBK.IDX_CFG.IDX_EN 15) 1) (FBK.IDX_CFG.POLICY 15) 1) (FBK.IDX_CFG.CPR 15) 100).at 5).fbkInput 15 (⟨4, 0, #v[999,999,999]⟩ : Legs)).fbkOf 15).lvl.toNat % 4)), by decide +kernel, rfl, by decide +kernel, by decide +kernel, rfl, by decide +kernel⟩,
   ⟨5, 15, (⟨5, 0, #v[999,999,999]⟩ : Legs), ((wf (wf (wf ((fb 15 2).modFbk 15 (fun f => { f with c := 3, p := 3 })) (FBK.IDX_CFG.IDX_EN 15) 1) (FBK.IDX_CFG.POLICY 15) 1) (FBK.IDX_CFG.CPR 15) 100).fbkOf 15).lvl, ((((wf (wf (wf ((fb 15 2).modFbk 15 (fun f => { f with c := 3, p := 3 })) (FBK.IDX_CFG.IDX_EN 15) 1) (FBK.IDX_CFG.POLICY 15) 1) (FBK.IDX_CFG.CPR 15) 100).at 5).fbkInput 15 (⟨5, 0, #v[999,999,999]⟩ : Legs)).fbkOf 15).lvl, (idxError (((((wf (wf (wf ((fb 15 2).modFbk 15 (fun f => { f with c := 3, p := 3 })) (FBK.IDX_CFG.IDX_EN 15) 1) (FBK.IDX_CFG.POLICY 15) 1) (FBK.IDX_CFG.CPR 15) 100).at 5).fbkInput 15 (⟨5, 0, #v[999,999,999]⟩ : Legs)).quadCount 15 (((wf (wf (wf ((fb 15 2).modFbk 15 (fun f => { f with c := 3, p := 3 })) (FBK.IDX_CFG.IDX_EN 15) 1) (FBK.IDX_CFG.POLICY 15) 1) (FBK.IDX_CFG.CPR 15) 100).fbkOf 15).lvl.toNat % 4) (((((wf (wf (wf ((fb 15 2).modFbk 15 (fun f => { f with c := 3, p := 3 })) (FBK.IDX_CFG.IDX_EN 15) 1) (FBK.IDX_CFG.POLICY 15) 1) (FBK.IDX_CFG.CPR 15) 100).at 5).fbkInput 15 (⟨5, 0, #v[999,999,999]⟩ : Legs)).fbkOf 15).lvl.toNat % 4)).fbkOf 15).c (((((wf (wf (wf ((fb 15 2).modFbk 15 (fun f => { f with c := 3, p := 3 })) (FBK.IDX_CFG.IDX_EN 15) 1) (FBK.IDX_CFG.POLICY 15) 1) (FBK.IDX_CFG.CPR 15) 100).at 5).fbkInput 15 (⟨5, 0, #v[999,999,999]⟩ : Legs)).quadCount 15 (((wf (wf (wf ((fb 15 2).modFbk 15 (fun f => { f with c := 3, p := 3 })) (FBK.IDX_CFG.IDX_EN 15) 1) (FBK.IDX_CFG.POLICY 15) 1) (FBK.IDX_CFG.CPR 15) 100).fbkOf 15).lvl.toNat % 4) (((((wf (wf (wf ((fb 15 2).modFbk 15 (fun f => { f with c := 3, p := 3 })) (FBK.IDX_CFG.IDX_EN 15) 1) (FBK.IDX_CFG.POLICY 15) 1) (FBK.IDX_CFG.CPR 15) 100).at 5).fbkInput 15 (⟨5, 0, #v[999,999,999]⟩ : Legs)).fbkOf 15).lvl.toNat % 4)).fld ⟨FBK.IDX_POS 15, 23, 0⟩) (((((wf (wf (wf ((fb 15 2).modFbk 15 (fun f => { f with c := 3, p := 3 })) (FBK.IDX_CFG.IDX_EN 15) 1) (FBK.IDX_CFG.POLICY 15) 1) (FBK.IDX_CFG.CPR 15) 100).at 5).fbkInput 15 (⟨5, 0, #v[999,999,999]⟩ : Legs)).quadCount 15 (((wf (wf (wf ((fb 15 2).modFbk 15 (fun f => { f with c := 3, p := 3 })) (FBK.IDX_CFG.IDX_EN 15) 1) (FBK.IDX_CFG.POLICY 15) 1) (FBK.IDX_CFG.CPR 15) 100).fbkOf 15).lvl.toNat % 4) (((((wf (wf (wf ((fb 15 2).modFbk 15 (fun f => { f with c := 3, p := 3 })) (FBK.IDX_CFG.IDX_EN 15) 1) (FBK.IDX_CFG.POLICY 15) 1) (FBK.IDX_CFG.CPR 15) 100).at 5).fbkInput 15 (⟨5, 0, #v[999,999,999]⟩ : Legs)).fbkOf 15).lvl.toNat % 4)).fld (FBK.IDX_CFG.CPR 15))), wf (wf (wf ((fb 15 2).modFbk 15 (fun f => { f with c := 3, p := 3 })) (FBK.IDX_CFG.IDX_EN 15) 1) (FBK.IDX_CFG.POLICY 15) 1) (FBK.IDX_CFG.CPR 15) 100, (((wf (wf (wf ((fb 15 2).modFbk 15 (fun f => { f with c := 3, p := 3 })) (FBK.IDX_CFG.IDX_EN 15) 1) (FBK.IDX_CFG.POLICY 15) 1) (FBK.IDX_CFG.CPR 15) 100).at 5).fbkInput 15 (⟨5, 0, #v[999,999,999]⟩ : Legs)), ((((wf (wf (wf ((fb 15 2).modFbk 15 (fun f => { f with c := 3, p := 3 })) (FBK.IDX_CFG.IDX_EN 15) 1) (FBK.IDX_CFG.POLICY 15) 1) (FBK.IDX_CFG.CPR 15) 100).at 5).fbkInput 15 (⟨5, 0, #v[999,999,999]⟩ : Legs)).quadCount 15 (((wf (wf (wf ((fb 15 2).modFbk 15 (fun f => { f with c := 3, p := 3 })) (FBK.IDX_CFG.IDX_EN 15) 1) (FBK.IDX_CFG.POLICY 15) 1) (FBK.IDX_CFG.CPR 15) 100).fbkOf 15).lvl.toNat % 4) (((((wf (wf (wf ((fb 15 2).modFbk 15 (fun f => { f with c := 3, p := 3 })) (FBK.IDX_CFG.IDX_EN 15) 1) (FBK.IDX_CFG.POLICY 15) 1) (FBK.IDX_CFG.CPR 15) 100).at 5).fbkInput 15 (⟨5, 0, #v[999,999,999]⟩ : Legs)).fbkOf 15).lvl.toNat % 4)), by decide +kernel, rfl, by decide +kernel, by decide +kernel, rfl, by decide +kernel⟩⟩

/-- States and operands that meet the hypotheses of each clause of FeedbackUpdates. -/
theorem witness_FeedbackUpdates :
  (∃ (n : LaneIx) (c : Fin 3) (h : Nat) (s : State), s.canon = true ∧ s.wireWatched n c = true ∧ (s.fbkOf n).wire.getLsbD
    c.val = false ∧ s.fld (FBK.WIRE_CFG.WIRE_CYC n) < h) ∧
  (∃ (n : LaneIx) (c : Fin 3) (h : Nat) (s : State), s.canon = true ∧ s.wireWatched n c = true ∧ (s.fbkOf n).wire.getLsbD
    c.val = false ∧ h ≤ s.fld (FBK.WIRE_CFG.WIRE_CYC n)) ∧
  (∃ (n : LaneIx) (c : Fin 3) (s : State), s.laneLive n = true ∧ (s.fbkOf n).wire.getLsbD c.val = true) ∧
  (∃ (t : Time) (n : LaneIx) (f : FbkState) (s : State), f = s.fbkOf n ∧ s.laneLive n = true ∧ f.active = true ∧ s.fld
    (FBK.IN_CFG.MODE n) ≠ 0 ∧ max s.now t % (s.fld (FBK.SPD_CFG.UPD_US n) * usPs) = 0) ∧
  (∃ (t : Time) (n : LaneIx) (f : FbkState) (s : State) (r : _) (l : _) (d : _), f = s.fbkOf n ∧ s.laneLive n = true ∧
    f.active = true ∧ s.fld (FBK.IN_CFG.MODE n) ≠ 0 ∧ max s.now t % (s.fld (FBK.SPD_CFG.UPD_US n) * usPs) = 0 ∧ f.refAt =
    some r ∧ f.lastAt = some l ∧ 0 < f.n ∧ d = (l - r) / tclkPs) ∧
  (∃ (t : Time) (n : LaneIx) (f : FbkState) (s : State) (r : _) (l : _) (e : _), f = s.fbkOf n ∧ s.laneLive n = true ∧
    f.active = true ∧ s.fld (FBK.IN_CFG.MODE n) ≠ 0 ∧ max s.now t % (s.fld (FBK.SPD_CFG.UPD_US n) * usPs) = 0 ∧ f.refAt =
    some r ∧ f.lastAt = some l ∧ f.n = 0 ∧ e = (max s.now t - l) / tclkPs ∧ 400000 * s.fld (FBK.SPD_CFG.TMO_MS n) < e) ∧
  (∃ (t : Time) (n : LaneIx) (f : FbkState) (s : State) (r : _) (l : _) (e : _), f = s.fbkOf n ∧ s.laneLive n = true ∧
    f.active = true ∧ s.fld (FBK.IN_CFG.MODE n) ≠ 0 ∧ max s.now t % (s.fld (FBK.SPD_CFG.UPD_US n) * usPs) = 0 ∧ f.refAt =
    some r ∧ f.lastAt = some l ∧ f.n = 0 ∧ e = (max s.now t - l) / tclkPs ∧ e ≤ 400000 * s.fld (FBK.SPD_CFG.TMO_MS n) ∧ e ≤
    f.eLast) ∧
  (∃ (t : Time) (n : LaneIx) (f : FbkState) (s : State) (r : _) (l : _) (e : _), f = s.fbkOf n ∧ s.laneLive n = true ∧
    f.active = true ∧ s.fld (FBK.IN_CFG.MODE n) ≠ 0 ∧ max s.now t % (s.fld (FBK.SPD_CFG.UPD_US n) * usPs) = 0 ∧ f.refAt =
    some r ∧ f.lastAt = some l ∧ f.n = 0 ∧ e = (max s.now t - l) / tclkPs ∧ e ≤ 400000 * s.fld (FBK.SPD_CFG.TMO_MS n) ∧
    f.eLast < e) ∧
  (∃ (n : LaneIx) (s : State), s.laneLive n = true) ∧
  (∃ (t : Time) (n : LaneIx) (s : State), s.laneLive n = true ∧ (s.fbkOf n).active = true ∧ s.flag (FBK.EM_CFG.EN n) = true
    ∧ s.inSafe n = false ∧ s.emTarget n ≠ (s.fbkOf n).emO ∧ (s.fbkOf n).emAt + s.fld (FBK.EM_CFG.MINT n) * tclkPs ≤ max
    s.now t) :=
  ⟨⟨15, 2, 9999, wf (wf (fb 15 2) (FBK.WIRE_CFG.WIRE_EN 15) 1) (FBK.IN_CFG.DIFF 15) 4, by decide +kernel⟩,
   ⟨15, 2, 3, wf (wf (wf (fb 15 2) (FBK.WIRE_CFG.WIRE_EN 15) 1) (FBK.IN_CFG.DIFF 15) 4) (FBK.WIRE_CFG.WIRE_CYC 15) 3, by decide +kernel⟩,
   ⟨15, 2, (fb 15 2).modFbk 15 (fun f => { f with wire := 4 }), by decide +kernel⟩,
   ⟨1000000000, 15, (((fb 15 2).modFbk 15 (fun f => { f with refAt := some 5, lastAt := some 250005, n := 10, p := 10, refP := 0 })).fbkOf 15), (fb 15 2).modFbk 15 (fun f => { f with refAt := some 5, lastAt := some 250005, n := 10, p := 10, refP := 0 }), by decide +kernel⟩,
   ⟨1000000000, 15, (((fb 15 2).modFbk 15 (fun f => { f with refAt := some 5, lastAt := some 250005, n := 10, p := 10, refP := 0 })).fbkOf 15), (fb 15 2).modFbk 15 (fun f => { f with refAt := some 5, lastAt := some 250005, n := 10, p := 10, refP := 0 }), 5, 250005, 100, by decide +kernel⟩,
   ⟨281474976000000000000, 15, (((fb 15 2).modFbk 15 (fun f => { f with refAt := some 5, lastAt := some 250005, n := 0, p := 10 })).fbkOf 15), (fb 15 2).modFbk 15 (fun f => { f with refAt := some 5, lastAt := some 250005, n := 0, p := 10 }), 5, 250005, 112589990399999899, by decide +kernel⟩,
   ⟨1000000000, 15, (((fb 15 2).modFbk 15 (fun f => { f with refAt := some 5, lastAt := some 250005, n := 0, p := 10, eLast := 9999999, spd := 7 })).fbkOf 15), (fb 15 2).modFbk 15 (fun f => { f with refAt := some 5, lastAt := some 250005, n := 0, p := 10, eLast := 9999999, spd := 7 }), 5, 250005, 399899, by decide +kernel⟩,
   ⟨1000000000, 15, (((fb 15 2).modFbk 15 (fun f => { f with refAt := some 5, lastAt := some 250005, n := 0, p := 10, eLast := 9, spd := -7 })).fbkOf 15), (fb 15 2).modFbk 15 (fun f => { f with refAt := some 5, lastAt := some 250005, n := 0, p := 10, eLast := 9, spd := -7 }), 5, 250005, 399899, by decide +kernel⟩,
   ⟨15, fb 15 2, by decide +kernel⟩,
   ⟨0xFFFFFFFFFF, 15, wf (wf (wf ((fb 15 2).modFbk 15 (fun f => { f with p := 10 })) (FBK.EM_CFG.EN 15) 1) (FBK.EM_RATIO.NUM 15) 3) (FBK.EM_RATIO.DEN 15) 2, by decide +kernel⟩⟩

/-- States and operands that meet the hypotheses of each clause of OutletPhases. -/
theorem witness_OutletPhases :
  (∃ (t : Time) (n : LaneIx) (k : OutIx) (sm : List Sample) (s : State) (v : State), v = (s.at t).outletEvent n k sm ∧
    s.laneLive n = true ∧ (v.out n k).st = .phase ∧ (v.out n k).decay = .none ∧ v.phEnd n (v.out n k).prof (v.out n k).ph =
    0 ∧ v.phMode n (v.out n k).prof (v.out n k).ph ≠ modeOff ∧ (v.out n k).entry ≤ (v.out n k).regAt ∧ v.codeOf n k
    (v.tgtMa n (v.out n k).prof (v.out n k).ph) ≤ (v.out n k).reg) ∧
  (∃ (t : Time) (n : LaneIx) (k : OutIx) (sm : List Sample) (s : State) (v : State), v = (s.at t).outletEvent n k sm ∧
    s.laneLive n = true ∧ (v.out n k).st = .phase ∧ v.phEnd n (v.out n k).prof (v.out n k).ph = 1 ∧ v.phMode n (v.out n
    k).prof (v.out n k).ph ≠ modeOff ∧ (v.out n k).entry + v.fld (OUTL.PROF_PH_T.DUR_US n (v.out n k).prof (min (v.out n
    k).ph 5)) * usPs ≤ v.now) ∧
  (∃ (t : Time) (n : LaneIx) (k : OutIx) (sm : List Sample) (s : State) (v : State), v = (s.at t).outletEvent n k sm ∧
    s.canon = true ∧ s.laneLive n = true ∧ (v.out n k).st = .phase ∧ v.phEnd n (v.out n k).prof (v.out n k).ph = 0 ∧
    v.phMode n (v.out n k).prof (v.out n k).ph ≠ modeOff ∧ (v.out n k).entry + v.fld (OUTL.PROF_PH_T.TMAX_US n (v.out n
    k).prof (min (v.out n k).ph 5)) * usPs ≤ v.now) ∧
  (∃ (t : Time) (n : LaneIx) (k : OutIx) (sm : List Sample) (s : State) (v : State), v = (s.at t).outletEvent n k sm ∧
    s.canon = true ∧ s.laneLive n = true ∧ (v.out n k).st = .phase ∧ v.phEnd n (v.out n k).prof (v.out n k).ph = 0 ∧
    v.phMode n (v.out n k).prof (v.out n k).ph ≠ modeOff ∧ (v.out n k).entry + v.fld (OUTL.PROF_PH_T.TMAX_US n (v.out n
    k).prof (min (v.out n k).ph 5)) * usPs ≤ v.now ∧ (v.out n k).phMax < v.codeOf n k (v.tgtMa n (v.out n k).prof (v.out n
    k).ph) / 4) ∧
  (∃ (t : Time) (n : LaneIx) (k : OutIx) (sm : List Sample) (s : State) (v : State), v = (s.at t).outletEvent n k sm ∧
    s.laneLive n = true ∧ (v.out n k).st = .phase ∧ v.chopped n k = true ∧ (v.out n k).lg = true ∧ (if isPeakMode (v.phMode
    n (v.out n k).prof (v.out n k).ph) && !(v.out n k).reached then v.codeOf n k (v.tgtMa n (v.out n k).prof (v.out n
    k).ph) else v.upper n k (v.out n k).prof (v.out n k).ph) ≤ (v.out n k).reg) ∧
  (∃ (t : Time) (n : LaneIx) (k : OutIx) (sm : List Sample) (s : State) (v : State), v = (s.at t).outletEvent n k sm ∧
    s.laneLive n = true ∧ (v.out n k).st = .phase ∧ v.chopped n k = true ∧ (v.out n k).lg = false ∧ (v.out n k).decay =
    .chop ∧ (v.out n k).reg ≤ v.lower n k (v.out n k).prof (v.out n k).ph) ∧
  (∃ (t : Time) (n : LaneIx) (k : OutIx) (sm : List Sample) (s : State) (v : State), v = (s.at t).outletEvent n k sm ∧
    s.laneLive n = true ∧ (v.out n k).st = .phase ∧ (v.out n k).decay = .stepDown ∧ (v.out n k).reg ≤ v.entryCode n k
    (v.out n k).prof (v.out n k).ph ∧ v.phMode n (v.out n k).prof (v.out n k).ph ≠ modeProp) ∧
  (∃ (t : Time) (n : LaneIx) (k : OutIx) (sm : List Sample) (s : State) (v : State), v = (s.at t).outletEvent n k sm ∧
    s.laneLive n = true ∧ (v.out n k).st = .phase ∧ (v.out n k).decay = .stepDown ∧ (v.out n k).reg ≤ v.entryCode n k
    (v.out n k).prof (v.out n k).ph ∧ v.phMode n (v.out n k).prof (v.out n k).ph = modeProp) ∧
  (∃ (t : Time) (n : LaneIx) (k : OutIx) (sm : List Sample) (per : Nat) (m : Nat) (tgt : Nat) (e : Int) (o : OutletState)
    (s : State) (v : State), v = (s.at t).outletEvent n k sm ∧ o = v.out n k ∧ per = v.fld (OUTL.PROP_CFG.PROP_PER_US n) ∧
    s.laneLive n = true ∧ o.st = .phase ∧ v.phMode n o.prof o.ph = modeProp ∧ o.decay ≠ .stepDown ∧ o.propAt + per * usPs ≤
    v.now ∧ m = (if o.propCnt = 0 then o.propM else o.propSum / o.propCnt) ∧ tgt = propTarget (v.tgtMa n o.prof o.ph)
    (v.fld (OUTL.PROF_PROP_MAP.I0_MA n o.prof)) (v.fld (OUTL.PROF_PROP_MAP.SLOPE n o.prof)) ((v.lane n).inForce.get k).val
    (v.fld (OUTL.PROF_DITH.DITH_HZ n o.prof)) (v.fld (OUTL.PROF_DITH.DITH_MA n o.prof)) per o.propN ∧ e = (v.codeOf n k tgt
    : Int) - (m : Int)) ∧
  (∃ (t : Time) (n : LaneIx) (k : OutIx) (sm : List Sample) (s : State) (v : State), v = (s.at t).outletEvent n k sm ∧
    s.canon = true ∧ s.laneLive n = true ∧ v.inSafe n = false ∧ v.kind n k = 0 ∧ v.gridO n k ((v.out n k).pulse + 1) ≤
    v.now ∧ (v.out n k).st = .pulseOff) ∧
  (∃ (t : Time) (n : LaneIx) (k : OutIx) (sm : List Sample) (s : State) (v : State), v = (s.at t).outletEvent n k sm ∧
    s.canon = true ∧ s.laneLive n = true ∧ v.inSafe n = false ∧ v.kind n k = 0 ∧ v.gridO n k ((v.out n k).pulse + 1) ≤
    v.now ∧ ((v.out n k).st = .phase ∨ (v.out n k).st = .peakWait) ∧ (v.out n k).closeAt = none) ∧
  (∃ (t : Time) (n : LaneIx) (k : OutIx) (sm : List Sample) (c : Time) (s : State) (v : State), v = (s.at t).outletEvent n
    k sm ∧ s.laneLive n = true ∧ (v.out n k).st = .phase ∧ (v.out n k).closeAt = some c ∧ c ≤ v.now) :=
  ⟨⟨9, 15, 3, [], ou (ph (ph (lv .run 15) 0 1 0 1000) 1 3 2 500) (fun o => { o with st := .phase, reg := 4095, regAt := 9 }), ((ou (ph (ph (lv .run 15) 0 1 0 1000) 1 3 2 500) (fun o => { o with st := .phase, reg := 4095, regAt := 9 })).at 9).outletEvent 15 3 [], rfl, by decide +kernel⟩,
   ⟨0xFFFFFFFFFFFF, 15, 3, [], ou (ph (ph (lv .run 15) 0 3 1 1000) 1 0 0 0) (fun o => { o with st := .phase, reg := 4095, regAt := 9 }), ((ou (ph (ph (lv .run 15) 0 3 1 1000) 1 0 0 0) (fun o => { o with st := .phase, reg := 4095, regAt := 9 })).at 0xFFFFFFFFFFFF).outletEvent 15 3 [], rfl, by decide +kernel⟩,
   ⟨0xFFFFFFFFFFFF, 15, 3, [], ou (ph (ph (lv .run 15) 0 1 0 1000) 1 3 2 500) (fun o => { o with st := .phase, phMax := 4095 }), ((ou (ph (ph (lv .run 15) 0 1 0 1000) 1 3 2 500) (fun o => { o with st := .phase, phMax := 4095 })).at 0xFFFFFFFFFFFF).outletEvent 15 3 [], rfl, by decide +kernel⟩,
   ⟨0xFFFFFFFFFFFF, 15, 3, [], ou (ph (ph (lv .run 15) 0 1 0 1000) 1 3 2 500) (fun o => { o with st := .phase }), ((ou (ph (ph (lv .run 15) 0 1 0 1000) 1 3 2 500) (fun o => { o with st := .phase })).at 0xFFFFFFFFFFFF).outletEvent 15 3 [], rfl, by decide +kernel⟩,
   ⟨9, 15, 3, [], ou (ph (ph (lv .run 15) 0 3 1 1000) 1 0 0 0) (fun o => { o with st := .phase, lg := true, reg := 4095, regAt := 9 }), ((ou (ph (ph (lv .run 15) 0 3 1 1000) 1 0 0 0) (fun o => { o with st := .phase, lg := true, reg := 4095, regAt := 9 })).at 9).outletEvent 15 3 [], rfl, by decide +kernel⟩,
   ⟨9, 15, 3, [], ou (ph (ph (lv .run 15) 0 3 1 1000) 1 0 0 0) (fun o => { o with st := .phase, decay := .chop }), ((ou (ph (ph (lv .run 15) 0 3 1 1000) 1 0 0 0) (fun o => { o with st := .phase, decay := .chop })).at 9).outletEvent 15 3 [], rfl, by decide +kernel⟩,
   ⟨9, 15, 3, [], ou (ph (ph (lv .run 15) 0 3 1 1000) 1 0 0 0) (fun o => { o with st := .phase, decay := .stepDown }), ((ou (ph (ph (lv .run 15) 0 3 1 1000) 1 0 0 0) (fun o => { o with st := .phase, decay := .stepDown })).at 9).outletEvent 15 3 [], rfl, by decide +kernel⟩,
   ⟨9, 15, 3, [], ou (ph (lv .run 15) 0 4 2 1000) (fun o => { o with st := .phase, decay := .stepDown }), ((ou (ph (lv .run 15) 0 4 2 1000) (fun o => { o with st := .phase, decay := .stepDown })).at 9).outletEvent 15 3 [], rfl, by decide +kernel⟩,
   ⟨1000000000, 15, 3, [], ((((ou (ph (lv .run 15) 0 4 2 1000) (fun o => { o with st := .phase })).at 1000000000).outletEvent 15 3 []).fld (OUTL.PROP_CFG.PROP_PER_US 15)), (if ((((ou (ph (lv .run 15) 0 4 2 1000) (fun o => { o with st := .phase })).at 1000000000).outletEvent 15 3 []).out 15 3).propCnt = 0 then ((((ou (ph (lv .run 15) 0 4 2 1000) (fun o => { o with st := .phase })).at 1000000000).outletEvent 15 3 []).out 15 3).propM else ((((ou (ph (lv .run 15) 0 4 2 1000) (fun o => { o with st := .phase })).at 1000000000).outletEvent 15 3 []).out 15 3).propSum / ((((ou (ph (lv .run 15) 0 4 2 1000) (fun o => { o with st := .phase })).at 1000000000).outletEvent 15 3 []).out 15 3).propCnt), (propTarget ((((ou (ph (lv .run 15) 0 4 2 1000) (fun o => { o with st := .phase })).at 1000000000).outletEvent 15 3 []).tgtMa 15 ((((ou (ph (lv .run 15) 0 4 2 1000) (fun o => { o with st := .phase })).at 1000000000).outletEvent 15 3 []).out 15 3).prof ((((ou (ph (lv .run 15) 0 4 2 1000) (fun o => { o with st := .phase })).at 1000000000).outletEvent 15 3 []).out 15 3).ph) ((((ou (ph (lv .run 15) 0 4 2 1000) (fun o => { o with st := .phase })).at 1000000000).outletEvent 15 3 []).fld (OUTL.PROF_PROP_MAP.I0_MA 15 ((((ou (ph (lv .run 15) 0 4 2 1000) (fun o => { o with st := .phase })).at 1000000000).outletEvent 15 3 []).out 15 3).prof)) ((((ou (ph (lv .run 15) 0 4 2 1000) (fun o => { o with st := .phase })).at 1000000000).outletEvent 15 3 []).fld (OUTL.PROF_PROP_MAP.SLOPE 15 ((((ou (ph (lv .run 15) 0 4 2 1000) (fun o => { o with st := .phase })).at 1000000000).outletEvent 15 3 []).out 15 3).prof)) (((((ou (ph (lv .run 15) 0 4 2 1000) (fun o => { o with st := .phase })).at 1000000000).outletEvent 15 3 []).lane 15).inForce.get 3).val ((((ou (ph (lv .run 15) 0 4 2 1000) (fun o => { o with st := .phase })).at 1000000000).outletEvent 15 3 []).fld (OUTL.PROF_DITH.DITH_HZ 15 ((((ou (ph (lv .run 15) 0 4 2 1000) (fun o => { o with st := .phase })).at 1000000000).outletEvent 15 3 []).out 15 3).prof)) ((((ou (ph (lv .run 15) 0 4 2 1000) (fun o => { o with st := .phase })).at 1000000000).outletEvent 15 3 []).fld (OUTL.PROF_DITH.DITH_MA 15 ((((ou (ph (lv .run 15) 0 4 2 1000) (fun o => { o with st := .phase })).at 1000000000).outletEvent 15 3 []).out 15 3).prof)) ((((ou (ph (lv .run 15) 0 4 2 1000) (fun o => { o with st := .phase })).at 1000000000).outletEvent 15 3 []).fld (OUTL.PROP_CFG.PROP_PER_US 15)) ((((ou (ph (lv .run 15) 0 4 2 1000) (fun o => { o with st := .phase })).at 1000000000).outletEvent 15 3 []).out 15 3).propN), (((((ou (ph (lv .run 15) 0 4 2 1000) (fun o => { o with st := .phase })).at 1000000000).outletEvent 15 3 []).codeOf 15 3 (propTarget ((((ou (ph (lv .run 15) 0 4 2 1000) (fun o => { o with st := .phase })).at 1000000000).outletEvent 15 3 []).tgtMa 15 ((((ou (ph (lv .run 15) 0 4 2 1000) (fun o => { o with st := .phase })).at 1000000000).outletEvent 15 3 []).out 15 3).prof ((((ou (ph (lv .run 15) 0 4 2 1000) (fun o => { o with st := .phase })).at 1000000000).outletEvent 15 3 []).out 15 3).ph) ((((ou (ph (lv .run 15) 0 4 2 1000) (fun o => { o with st := .phase })).at 1000000000).outletEvent 15 3 []).fld (OUTL.PROF_PROP_MAP.I0_MA 15 ((((ou (ph (lv .run 15) 0 4 2 1000) (fun o => { o with st := .phase })).at 1000000000).outletEvent 15 3 []).out 15 3).prof)) ((((ou (ph (lv .run 15) 0 4 2 1000) (fun o => { o with st := .phase })).at 1000000000).outletEvent 15 3 []).fld (OUTL.PROF_PROP_MAP.SLOPE 15 ((((ou (ph (lv .run 15) 0 4 2 1000) (fun o => { o with st := .phase })).at 1000000000).outletEvent 15 3 []).out 15 3).prof)) (((((ou (ph (lv .run 15) 0 4 2 1000) (fun o => { o with st := .phase })).at 1000000000).outletEvent 15 3 []).lane 15).inForce.get 3).val ((((ou (ph (lv .run 15) 0 4 2 1000) (fun o => { o with st := .phase })).at 1000000000).outletEvent 15 3 []).fld (OUTL.PROF_DITH.DITH_HZ 15 ((((ou (ph (lv .run 15) 0 4 2 1000) (fun o => { o with st := .phase })).at 1000000000).outletEvent 15 3 []).out 15 3).prof)) ((((ou (ph (lv .run 15) 0 4 2 1000) (fun o => { o with st := .phase })).at 1000000000).outletEvent 15 3 []).fld (OUTL.PROF_DITH.DITH_MA 15 ((((ou (ph (lv .run 15) 0 4 2 1000) (fun o => { o with st := .phase })).at 1000000000).outletEvent 15 3 []).out 15 3).prof)) ((((ou (ph (lv .run 15) 0 4 2 1000) (fun o => { o with st := .phase })).at 1000000000).outletEvent 15 3 []).fld (OUTL.PROP_CFG.PROP_PER_US 15)) ((((ou (ph (lv .run 15) 0 4 2 1000) (fun o => { o with st := .phase })).at 1000000000).outletEvent 15 3 []).out 15 3).propN) : Int) - ((if ((((ou (ph (lv .run 15) 0 4 2 1000) (fun o => { o with st := .phase })).at 1000000000).outletEvent 15 3 []).out 15 3).propCnt = 0 then ((((ou (ph (lv .run 15) 0 4 2 1000) (fun o => { o with st := .phase })).at 1000000000).outletEvent 15 3 []).out 15 3).propM else ((((ou (ph (lv .run 15) 0 4 2 1000) (fun o => { o with st := .phase })).at 1000000000).outletEvent 15 3 []).out 15 3).propSum / ((((ou (ph (lv .run 15) 0 4 2 1000) (fun o => { o with st := .phase })).at 1000000000).outletEvent 15 3 []).out 15 3).propCnt) : Int)), ((((ou (ph (lv .run 15) 0 4 2 1000) (fun o => { o with st := .phase })).at 1000000000).outletEvent 15 3 []).out 15 3), ou (ph (lv .run 15) 0 4 2 1000) (fun o => { o with st := .phase }), (((ou (ph (lv .run 15) 0 4 2 1000) (fun o => { o with st := .phase })).at 1000000000).outletEvent 15 3 []), rfl, by decide +kernel⟩,
   ⟨0xFFFFFFFFFFFF, 15, 3, [], ou (wf (ph (lv .run 15) 0 5 2 1000) (FPE.OUT_CFG.KIND 123) 0) (fun o => { o with st := .pulseOff }), ((ou (wf (ph (lv .run 15) 0 5 2 1000) (FPE.OUT_CFG.KIND 123) 0) (fun o => { o with st := .pulseOff })).at 0xFFFFFFFFFFFF).outletEvent 15 3 [], rfl, by decide +kernel⟩,
   ⟨0xFFFFFFFFFFFF, 15, 3, [], ou (wf (ph (lv .run 15) 0 5 2 1000) (FPE.OUT_CFG.KIND 123) 0) (fun o => { o with st := .phase }), ((ou (wf (ph (lv .run 15) 0 5 2 1000) (FPE.OUT_CFG.KIND 123) 0) (fun o => { o with st := .phase })).at 0xFFFFFFFFFFFF).outletEvent 15 3 [], rfl, by decide +kernel⟩,
   ⟨9, 15, 3, [], 9, ou (ph (ph (lv .run 15) 0 3 1 1000) 1 0 0 0) (fun o => { o with st := .phase, closeAt := some 9 }), ((ou (ph (ph (lv .run 15) 0 3 1 1000) 1 0 0 0) (fun o => { o with st := .phase, closeAt := some 9 })).at 9).outletEvent 15 3 [], rfl, by decide +kernel⟩⟩

/-- States and operands that meet the hypotheses of each clause of OutletDecaysAndFaults. -/
theorem witness_OutletDecaysAndFaults :
  (∃ (t : Time) (n : LaneIx) (k : OutIx) (sm : List Sample) (s : State) (v : State), v = (s.at t).outletEvent n k sm ∧
    s.laneLive n = true ∧ (v.out n k).decay = .turnOff ∧ 8 ≤ (v.out n k).decRun) ∧
  (∃ (t : Time) (n : LaneIx) (k : OutIx) (sm : List Sample) (s : State) (v : State), v = (s.at t).outletEvent n k sm ∧
    s.canon = true ∧ s.laneLive n = true ∧ (v.out n k).decay = .turnOff ∧ (v.out n k).decayAt + v.fld
    (OUTL.DECAY_CFG.DECAY_TMAX_US n) * usPs ≤ v.now) ∧
  (∃ (t : Time) (n : LaneIx) (k : OutIx) (sm : List Sample) (s : State) (v : State), v = (s.at t).outletEvent n k sm ∧
    s.canon = true ∧ s.laneLive n = true ∧ v.kind n k ≠ 2 ∧ (v.out n k).st ≠ .fault ∧ 0 < v.fld (OUTL.OUT_PROT.OC_N n k) ∧
    v.fld (OUTL.OUT_PROT.OC_N n k) ≤ (v.out n k).ocRun) ∧
  (∃ (t : Time) (n : LaneIx) (k : OutIx) (sm : List Sample) (p : Nat) (s : State) (v : State), v = (s.at t).outletEvent n k
    sm ∧ s.canon = true ∧ s.laneLive n = true ∧ v.inSafe n = false ∧ (v.out n k).st = .fault ∧ (v.out n k).lastOn = true ∧
    (v.out n k).retries < v.fld (OUTL.OUT_PROT.OC_RETRY n k) ∧ (v.out n k).faultAt + v.fld (OUTL.OUT_PROT.RETRY_MS n k) *
    msPs ≤ v.now ∧ p = v.fld (OUTL.OUT_CFG.PROF n k)) ∧
  (∃ (n : LaneIx) (s : State), s.laneLive n = true) :=
  ⟨⟨9, 15, 3, [], ou (lv .run 15) (fun o => { o with st := .decay, decay := .turnOff, decRun := 8 }), ((ou (lv .run 15) (fun o => { o with st := .decay, decay := .turnOff, decRun := 8 })).at 9).outletEvent 15 3 [], rfl, by decide +kernel⟩,
   ⟨0xFFFFFFFFFFFF, 15, 3, [], ou (lv .run 15) (fun o => { o with st := .decay, decay := .turnOff }), ((ou (lv .run 15) (fun o => { o with st := .decay, decay := .turnOff })).at 0xFFFFFFFFFFFF).outletEvent 15 3 [], rfl, by decide +kernel⟩,
   ⟨9, 15, 3, [], ou (wf (lv .run 15) (OUTL.OUT_PROT.OC_N 15 3) 2) (fun o => { o with st := .phase, ocRun := 2, lg := true }), ((ou (wf (lv .run 15) (OUTL.OUT_PROT.OC_N 15 3) 2) (fun o => { o with st := .phase, ocRun := 2, lg := true })).at 9).outletEvent 15 3 [], rfl, by decide +kernel⟩,
   ⟨0xFFFFFFFFFFFF, 15, 3, [], ((((ou (wf (ph (ph (lv .run 15) 0 1 0 1000) 1 3 2 500) (OUTL.OUT_PROT.OC_RETRY 15 3) 2) (fun o => { o with st := .fault, lastOn := true, retries := 1 })).at 0xFFFFFFFFFFFF).outletEvent 15 3 []).fld (OUTL.OUT_CFG.PROF 15 3)), ou (wf (ph (ph (lv .run 15) 0 1 0 1000) 1 3 2 500) (OUTL.OUT_PROT.OC_RETRY 15 3) 2) (fun o => { o with st := .fault, lastOn := true, retries := 1 }), (((ou (wf (ph (ph (lv .run 15) 0 1 0 1000) 1 3 2 500) (OUTL.OUT_PROT.OC_RETRY 15 3) 2) (fun o => { o with st := .fault, lastOn := true, retries := 1 })).at 0xFFFFFFFFFFFF).outletEvent 15 3 []), rfl, by decide +kernel⟩,
   ⟨15, ou (lv .run 15) (fun o => { o with st := .fault, lastOn := true }), by decide +kernel⟩⟩

/-- States and operands that meet the hypotheses of each clause of BankEvents. -/
theorem witness_BankEvents :
  (∃ (t : Time) (n : LaneIx) (k : OutIx) (sm : List Sample) (o : OutletState) (nr : Nat) (s : State) (v : State), (s.at
    t).nextReq n = some k ∧ v = (s.at t).outletEvent n k sm ∧ s.laneLive n = true ∧ o = v.out n k ∧ nr = v.fld
    (OUTL.PROF_CFG.BOOST_NR n o.prof) ∧ v.nextReq n = some k ∧ (v.bank n).owner = none ∧ (v.bank n).row1 = false ∧
    (v.phMode n o.prof o.ph = modeBoost → (v.bank n).vbstReady = false → nr = 1 ∨ nr = 2 ∧ o.reqTrain = false)) ∧
  (∃ (t : Time) (n : LaneIx) (k : OutIx) (sm : List Sample) (o : OutletState) (nr : Nat) (s : State) (v : State), (s.at
    t).nextReq n = some k ∧ v = (s.at t).outletEvent n k sm ∧ s.laneLive n = true ∧ o = v.out n k ∧ nr = v.fld
    (OUTL.PROF_CFG.BOOST_NR n o.prof) ∧ v.nextReq n = some k ∧ s.canon = true ∧ (v.bank n).owner = none ∧ (v.bank n).row1 =
    false ∧ v.phMode n o.prof o.ph = modeBoost ∧ (v.bank n).vbstReady = false ∧ nr = 2 ∧ o.reqTrain = true) ∧
  (∃ (t : Time) (n : LaneIx) (k : OutIx) (sm : List Sample) (o : OutletState) (nr : Nat) (s : State) (v : State), (s.at
    t).nextReq n = some k ∧ v = (s.at t).outletEvent n k sm ∧ s.laneLive n = true ∧ o = v.out n k ∧ nr = v.fld
    (OUTL.PROF_CFG.BOOST_NR n o.prof) ∧ v.nextReq n = some k ∧ ((v.bank n).owner.isSome = true ∨ (v.bank n).row1 = true ∨
    v.phMode n o.prof o.ph = modeBoost ∧ (v.bank n).vbstReady = false ∧ nr ≠ 1 ∧ nr ≠ 2)) ∧
  (∃ (t : Time) (n : LaneIx) (k : OutIx) (s : State), s.canon = true ∧ s.laneLive n = true ∧ (s.out n k).st = .peakWait ∧
    (s.out n k).lateFlag = false ∧ (s.out n k).reqAt + s.fld (OUTL.BANK_CFG.PEAK_WAIT_US n) * usPs ≤ max s.now t) ∧
  (∃ (n : LaneIx) (vb : BitVec 12) (s : State), s.canon = true ∧ s.laneLive n = true ∧ (s.bank n).demote = false ∧ s.fld
    (OUTL.SUP_CFG.VBST_OV n) * 10 ≤ vb.toNat * 7200 / 4096) ∧
  (∃ (n : LaneIx) (vb : BitVec 12) (s : State), s.canon = true ∧ s.laneLive n = true ∧ (s.bank n).demote = true ∧ vb.toNat
    * 7200 / 4096 + s.fld (OUTL.SUP_CFG.VBST_HYST n) * 10 < s.fld (OUTL.SUP_CFG.VBST_OV n) * 10) ∧
  (∃ (n : LaneIx) (vb : BitVec 12) (s : State), s.laneLive n = true ∧ (s.bank n).vbstReady = true ∧ vb.toNat * 7200 / 4096
    < s.fld (OUTL.SUP_CFG.VBST_MIN n) * 10) ∧
  (∃ (n : LaneIx) (vb : BitVec 12) (s : State), s.laneLive n = true ∧ (s.bank n).vbstReady = false ∧ (s.fld
    (OUTL.SUP_CFG.VBST_MIN n) + s.fld (OUTL.SUP_CFG.VBST_HYST n)) * 10 ≤ vb.toNat * 7200 / 4096) :=
  ⟨⟨9, 15, 3, [], (((((ou (ph (ph (lv .run 15) 0 2 0 1000) 1 3 2 500) (fun o => { o with st := .peakWait })).modBank 15 (fun b => { b with requests := [3] })).at 9).outletEvent 15 3 []).out 15 3), (((((ou (ph (ph (lv .run 15) 0 2 0 1000) 1 3 2 500) (fun o => { o with st := .peakWait })).modBank 15 (fun b => { b with requests := [3] })).at 9).outletEvent 15 3 []).fld (OUTL.PROF_CFG.BOOST_NR 15 (((((ou (ph (ph (lv .run 15) 0 2 0 1000) 1 3 2 500) (fun o => { o with st := .peakWait })).modBank 15 (fun b => { b with requests := [3] })).at 9).outletEvent 15 3 []).out 15 3).prof)), (ou (ph (ph (lv .run 15) 0 2 0 1000) 1 3 2 500) (fun o => { o with st := .peakWait })).modBank 15 (fun b => { b with requests := [3] }), ((((ou (ph (ph (lv .run 15) 0 2 0 1000) 1 3 2 500) (fun o => { o with st := .peakWait })).modBank 15 (fun b => { b with requests := [3] })).at 9).outletEvent 15 3 []), by decide +kernel, rfl, by decide +kernel⟩,
   ⟨9, 15, 3, [], ((((wf ((ou (ph (ph (lv .run 15) 0 1 0 1000) 1 3 2 500) (fun o => { o with st := .peakWait, reqTrain := true })).modBank 15 (fun b => { b with requests := [3], vbstReady := false })) (OUTL.PROF_CFG.BOOST_NR 15 0) 2).at 9).outletEvent 15 3 []).out 15 3), ((((wf ((ou (ph (ph (lv .run 15) 0 1 0 1000) 1 3 2 500) (fun o => { o with st := .peakWait, reqTrain := true })).modBank 15 (fun b => { b with requests := [3], vbstReady := false })) (OUTL.PROF_CFG.BOOST_NR 15 0) 2).at 9).outletEvent 15 3 []).fld (OUTL.PROF_CFG.BOOST_NR 15 ((((wf ((ou (ph (ph (lv .run 15) 0 1 0 1000) 1 3 2 500) (fun o => { o with st := .peakWait, reqTrain := true })).modBank 15 (fun b => { b with requests := [3], vbstReady := false })) (OUTL.PROF_CFG.BOOST_NR 15 0) 2).at 9).outletEvent 15 3 []).out 15 3).prof)), wf ((ou (ph (ph (lv .run 15) 0 1 0 1000) 1 3 2 500) (fun o => { o with st := .peakWait, reqTrain := true })).modBank 15 (fun b => { b with requests := [3], vbstReady := false })) (OUTL.PROF_CFG.BOOST_NR 15 0) 2, (((wf ((ou (ph (ph (lv .run 15) 0 1 0 1000) 1 3 2 500) (fun o => { o with st := .peakWait, reqTrain := true })).modBank 15 (fun b => { b with requests := [3], vbstReady := false })) (OUTL.PROF_CFG.BOOST_NR 15 0) 2).at 9).outletEvent 15 3 []), by decide +kernel, rfl, by decide +kernel⟩,
   ⟨9, 15, 3, [], (((((ou (ph (ph (lv .run 15) 0 2 0 1000) 1 3 2 500) (fun o => { o with st := .peakWait })).modBank 15 (fun b => { b with requests := [3], owner := some 5 })).at 9).outletEvent 15 3 []).out 15 3), (((((ou (ph (ph (lv .run 15) 0 2 0 1000) 1 3 2 500) (fun o => { o with st := .peakWait })).modBank 15 (fun b => { b with requests := [3], owner := some 5 })).at 9).outletEvent 15 3 []).fld (OUTL.PROF_CFG.BOOST_NR 15 (((((ou (ph (ph (lv .run 15) 0 2 0 1000) 1 3 2 500) (fun o => { o with st := .peakWait })).modBank 15 (fun b => { b with requests := [3], owner := some 5 })).at 9).outletEvent 15 3 []).out 15 3).prof)), (ou (ph (ph (lv .run 15) 0 2 0 1000) 1 3 2 500) (fun o => { o with st := .peakWait })).modBank 15 (fun b => { b with requests := [3], owner := some 5 }), ((((ou (ph (ph (lv .run 15) 0 2 0 1000) 1 3 2 500) (fun o => { o with st := .peakWait })).modBank 15 (fun b => { b with requests := [3], owner := some 5 })).at 9).outletEvent 15 3 []), by decide +kernel, rfl, by decide +kernel⟩,
   ⟨0xFFFFFFFFFFFF, 15, 3, (ou (ph (ph (lv .run 15) 0 1 0 1000) 1 3 2 500) (fun o => { o with st := .peakWait, reqTrain := true })).modBank 15 (fun b => { b with requests := [3] }), by decide +kernel⟩,
   ⟨15, 4095, lv .run 15, by decide +kernel⟩,
   ⟨15, 0, (lv .run 15).modBank 15 (fun b => { b with demote := true }), by decide +kernel⟩,
   ⟨15, 0, wf (lv .run 15) (OUTL.SUP_CFG.VBST_MIN 15) 10, by decide +kernel⟩,
   ⟨15, 4095, (lv .run 15).modBank 15 (fun b => { b with vbstReady := false }), by decide +kernel⟩⟩

/-- States and operands that meet the hypotheses of each clause of DetectorEvents. -/
theorem witness_DetectorEvents :
  (∃ (t : Time) (n : LaneIx) (k : OutIx) (s : State), s.laneLive n = true ∧ (s.det n k).st = .openWait ∧ (s.det n k).winLo
    ≤ max s.now t) ∧
  (∃ (t : Time) (n : LaneIx) (k : OutIx) (s : State), s.laneLive n = true ∧ ((s.det n k).st = .openWait ∨ (s.det n k).st =
    .openSearch) ∧ (s.det n k).winHi ≤ max s.now t) ∧
  (∃ (t : Time) (n : LaneIx) (k : OutIx) (s : State), s.laneLive n = true ∧ (s.det n k).st = .closeWait ∧ ((s.det n
    k).decayEnd.isSome = true ∨ s.kind n k = 2) ∧ (s.det n k).winLo ≤ max s.now t) ∧
  (∃ (t : Time) (n : LaneIx) (k : OutIx) (s : State), s.laneLive n = true ∧ ((s.det n k).st = .closeWait ∨ (s.det n k).st =
    .closeSearch) ∧ (s.det n k).winHi ≤ max s.now t) ∧
  (∃ (t : Time) (n : LaneIx) (k : OutIx) (sm : List Sample) (d : DetState) (s : State) (v : State) (tm : _), v = (s.at
    t).outletEvent n k sm ∧ s.laneLive n = true ∧ d = v.det n k ∧ d.st = .openSearch ∧ d.dip = some tm) ∧
  (∃ (t : Time) (n : LaneIx) (k : OutIx) (sm : List Sample) (d : DetState) (s : State) (v : State), v = (s.at
    t).outletEvent n k sm ∧ s.laneLive n = true ∧ d = v.det n k ∧ d.st = .openSearch ∧ d.dip = none) ∧
  (∃ (t : Time) (n : LaneIx) (k : OutIx) (vs : List Sample) (w : List Sample) (hit : Nat → Bool) (i : Nat) (s : State),
    s.laneLive n = true ∧ (s.det n k).st = .closeSearch ∧ 6 ≤ k.val ∧ w = vs.filter (fun x => inWin (s.det n k) x.time &&
    onVsns k x.time && decide (x.time ≤ max s.now t)) ∧ hit = (fun i => decide ((w[i]?.map (·.time)).getD 0 = (w[i -
    19]?.map (·.time)).getD 0 + 19 * usPs) && (if s.flag (SNAP.SNAP_CFG.KINK_POL n) = true then decide (kinkD (w.map
    (·.code.toNat)) i ≤ -(s.fld (SNAP.SNAP_CFG.KINK_THR n) : Int)) else decide ((s.fld (SNAP.SNAP_CFG.KINK_THR n) : Int) ≤
    kinkD (w.map (·.code.toNat)) i))) ∧ 19 ≤ i ∧ i < w.length ∧ hit i = true ∧ (∀ j, 19 ≤ j → j < i → hit j = false)) ∧
  (∃ (n : LaneIx) (k : OutIx) (s : State), s.laneLive n = true ∧ 0 < s.fld (SNAP.SNAP_CFG.REJ_MAX n) ∧ s.fld
    (SNAP.SNAP_CFG.REJ_MAX n) ≤ (s.det n k).don.run ∧ (s.det n k).don.relearn = false) ∧
  (∃ (n : LaneIx) (k : OutIx) (s : State), s.laneLive n = true ∧ 0 < s.fld (SNAP.SNAP_CFG.REJ_MAX n) ∧ s.fld
    (SNAP.SNAP_CFG.REJ_MAX n) ≤ (s.det n k).doff.run ∧ (s.det n k).doff.relearn = false ∧ s.ownOff n k = true) ∧
  (∃ (n : LaneIx) (k : OutIx) (s : State), s.canon = true ∧ s.laneLive n = true ∧ 0 < s.fld (SNAP.SNAP_CFG.STUCK_N n) ∧
    s.fld (SNAP.SNAP_CFG.STUCK_N n) ≤ (s.det n k).stuckRun ∧ (s.det n k).stuck = false) ∧
  (∃ (n : LaneIx) (k : OutIx) (s : State), s.canon = true ∧ s.laneLive n = true ∧ 6 ≤ k.val ∧ 0 < s.fld
    (SNAP.SNAP_CFG.STUCK_N n) ∧ s.fld (SNAP.SNAP_CFG.STUCK_N n) ≤ (s.det n k).doff.run ∧ (s.det n k).closeFail = false) ∧
  (∃ (t : Time) (n : LaneIx) (k : OutIx) (s : State), s.laneLive n = true ∧ (s.det n k).pendEst = true ∧ s.estAt n k ≤ max
    s.now t) :=
  ⟨⟨9, 15, 7, de 7 (fun d => { d with st := .openWait, winLo := 9 }), by decide +kernel⟩,
   ⟨9, 15, 7, de 7 (fun d => { d with st := .openSearch, winHi := 9 }), by decide +kernel⟩,
   ⟨9, 15, 7, de 7 (fun d => { d with st := .closeWait, winLo := 9, decayEnd := some 3 }), by decide +kernel⟩,
   ⟨9, 15, 7, de 7 (fun d => { d with st := .closeSearch, winHi := 9 }), by decide +kernel⟩,
   ⟨90, 15, 7, [], (((de 7 (fun d => { d with st := .openSearch, winHi := 90, dip := some 20 })).at 90).outletEvent 15 7 []).det 15 7, de 7 (fun d => { d with st := .openSearch, winHi := 90, dip := some 20 }), ((de 7 (fun d => { d with st := .openSearch, winHi := 90, dip := some 20 })).at 90).outletEvent 15 7 [], 20, rfl, by decide +kernel⟩,
   ⟨90, 15, 7, [], (((de 7 (fun d => { d with st := .openSearch, winHi := 90 })).at 90).outletEvent 15 7 []).det 15 7, de 7 (fun d => { d with st := .openSearch, winHi := 90 }), ((de 7 (fun d => { d with st := .openSearch, winHi := 90 })).at 90).outletEvent 15 7 [], rfl, by decide +kernel⟩,
   ⟨90000000, 15, 6, ((List.range 20).map (fun i => (⟨i * 1000000, BitVec.ofNat 12 (i * i)⟩ : Sample))), (((List.range 20).map (fun i => (⟨i * 1000000, BitVec.ofNat 12 (i * i)⟩ : Sample))).filter (fun x => inWin ((wf (wf (de 6 (fun d => { d with st := .closeSearch, winHi := 90000000 })) (SNAP.SNAP_CFG.KINK_THR 15) 1) (SNAP.SNAP_CFG.KINK_POL 15) 0).det 15 6) x.time && onVsns 6 x.time && decide (x.time ≤ max (wf (wf (de 6 (fun d => { d with st := .closeSearch, winHi := 90000000 })) (SNAP.SNAP_CFG.KINK_THR 15) 1) (SNAP.SNAP_CFG.KINK_POL 15) 0).now 90000000))), (fun i => decide (((((List.range 20).map (fun i => (⟨i * 1000000, BitVec.ofNat 12 (i * i)⟩ : Sample))).filter (fun x => inWin ((wf (wf (de 6 (fun d => { d with st := .closeSearch, winHi := 90000000 })) (SNAP.SNAP_CFG.KINK_THR 15) 1) (SNAP.SNAP_CFG.KINK_POL 15) 0).det 15 6) x.time && onVsns 6 x.time && decide (x.time ≤ max (wf (wf (de 6 (fun d => { d with st := .closeSearch, winHi := 90000000 })) (SNAP.SNAP_CFG.KINK_THR 15) 1) (SNAP.SNAP_CFG.KINK_POL 15) 0).now 90000000)))[i]?.map (·.time)).getD 0 = ((((List.range 20).map (fun i => (⟨i * 1000000, BitVec.ofNat 12 (i * i)⟩ : Sample))).filter (fun x => inWin ((wf (wf (de 6 (fun d => { d with st := .closeSearch, winHi := 90000000 })) (SNAP.SNAP_CFG.KINK_THR 15) 1) (SNAP.SNAP_CFG.KINK_POL 15) 0).det 15 6) x.time && onVsns 6 x.time && decide (x.time ≤ max (wf (wf (de 6 (fun d => { d with st := .closeSearch, winHi := 90000000 })) (SNAP.SNAP_CFG.KINK_THR 15) 1) (SNAP.SNAP_CFG.KINK_POL 15) 0).now 90000000)))[i - 19]?.map (·.time)).getD 0 + 19 * usPs) && (if (wf (wf (de 6 (fun d => { d with st := .closeSearch, winHi := 90000000 })) (SNAP.SNAP_CFG.KINK_THR 15) 1) (SNAP.SNAP_CFG.KINK_POL 15) 0).flag (SNAP.SNAP_CFG.KINK_POL 15) = true then decide (kinkD ((((List.range 20).map (fun i => (⟨i * 1000000, BitVec.ofNat 12 (i * i)⟩ : Sample))).filter (fun x => inWin ((wf (wf (de 6 (fun d => { d with st := .closeSearch, winHi := 90000000 })) (SNAP.SNAP_CFG.KINK_THR 15) 1) (SNAP.SNAP_CFG.KINK_POL 15) 0).det 15 6) x.time && onVsns 6 x.time && decide (x.time ≤ max (wf (wf (de 6 (fun d => { d with st := .closeSearch, winHi := 90000000 })) (SNAP.SNAP_CFG.KINK_THR 15) 1) (SNAP.SNAP_CFG.KINK_POL 15) 0).now 90000000))).map (·.code.toNat)) i ≤ -((wf (wf (de 6 (fun d => { d with st := .closeSearch, winHi := 90000000 })) (SNAP.SNAP_CFG.KINK_THR 15) 1) (SNAP.SNAP_CFG.KINK_POL 15) 0).fld (SNAP.SNAP_CFG.KINK_THR 15) : Int)) else decide (((wf (wf (de 6 (fun d => { d with st := .closeSearch, winHi := 90000000 })) (SNAP.SNAP_CFG.KINK_THR 15) 1) (SNAP.SNAP_CFG.KINK_POL 15) 0).fld (SNAP.SNAP_CFG.KINK_THR 15) : Int) ≤ kinkD ((((List.range 20).map (fun i => (⟨i * 1000000, BitVec.ofNat 12 (i * i)⟩ : Sample))).filter (fun x => inWin ((wf (wf (de 6 (fun d => { d with st := .closeSearch, winHi := 90000000 })) (SNAP.SNAP_CFG.KINK_THR 15) 1) (SNAP.SNAP_CFG.KINK_POL 15) 0).det 15 6) x.time && onVsns 6 x.time && decide (x.time ≤ max (wf (wf (de 6 (fun d => { d with st := .closeSearch, winHi := 90000000 })) (SNAP.SNAP_CFG.KINK_THR 15) 1) (SNAP.SNAP_CFG.KINK_POL 15) 0).now 90000000))).map (·.code.toNat)) i))), 19, wf (wf (de 6 (fun d => { d with st := .closeSearch, winHi := 90000000 })) (SNAP.SNAP_CFG.KINK_THR 15) 1) (SNAP.SNAP_CFG.KINK_POL 15) 0, by decide +kernel, by decide +kernel, by decide +kernel, rfl, rfl, by decide +kernel, by decide +kernel, by decide +kernel, by intro j a b; omega⟩,
   ⟨15, 3, wf (de 3 (fun d => { d with don := { d.don with run := 5, ref := some 3 } })) (SNAP.SNAP_CFG.REJ_MAX 15) 5, by decide +kernel⟩,
   ⟨15, 6, wf (de 6 (fun d => { d with doff := { d.doff with run := 5, ref := some 3 } })) (SNAP.SNAP_CFG.REJ_MAX 15) 5, by decide +kernel⟩,
   ⟨15, 3, wf (de 3 (fun d => { d with stuckRun := 5 })) (SNAP.SNAP_CFG.STUCK_N 15) 5, by decide +kernel⟩,
   ⟨15, 6, wf (de 6 (fun d => { d with doff := { d.doff with run := 5 } })) (SNAP.SNAP_CFG.STUCK_N 15) 5, by decide +kernel⟩,
   ⟨0xFFFFFFFFFFFF, 15, 3, de 3 (fun d => { d with pendEst := true }), by decide +kernel⟩⟩

/-- States and operands that meet the hypotheses of each clause of SensorEvents. -/
theorem witness_SensorEvents :
  (∃ (t : Time) (g : Time) (b : Bool) (acc : Time) (s : State), s.up = true ∧ g ≤ max s.now t ∧ acc = g + s.fld (gsMinw b)
    * usPs ∧ max s.now t < acc) ∧
  (∃ (t : Time) (g : Time) (b : Bool) (acc : Time) (s : State), s.up = true ∧ g ≤ max s.now t ∧ acc = g + s.fld (gsMinw b)
    * usPs ∧ acc ≤ max s.now t) ∧
  (∃ (t : Time) (g : Time) (b : Bool) (acc : Time) (s : State), s.up = true ∧ g ≤ max s.now t ∧ acc = g + s.fld (gsMinw b)
    * usPs ∧ acc ≤ max s.now t) ∧
  (∃ (t : Time) (i : Fin 3) (d : Disagree) (s : State), s.canon = true ∧ s.up = true ∧ s.pose.dis.get i = some d ∧ d.seen =
    false ∧ d.since + s.fld POSE.POSE_SPD_TIME.DIS_MS * msPs ≤ max s.now t ∧ (∀ j e, j < i → s.pose.dis.get j = some e →
    e.seen = true ∨ max s.now t < e.since + s.fld POSE.POSE_SPD_TIME.DIS_MS * msPs)) ∧
  (∃ (t : Time) (a : Time) (s : State), s.canon = true ∧ s.pose.hBad = some a ∧ s.up = true ∧ s.hitchMode = 3 ∧ s.pose.hDis
    = false ∧ a + 200 * msPs ≤ max s.now t) ∧
  (∃ (rise : Bool) (s : State), s.up = true ∧ s.flag IMU.IMU_CFG.EN = true ∧ rise ≠ s.flag IMU.IMU_CFG.INT_EDGE ∧
    s.imu.busy = none) ∧
  (∃ (rise : Bool) (s : State), s.up = true ∧ s.flag IMU.IMU_CFG.EN = true ∧ (rise = s.flag IMU.IMU_CFG.INT_EDGE ∨
    s.imu.busy.isSome = true)) ∧
  (∃ (t : Time) (b : ImuBurst) (bs : List Byte) (m : Nat) (s : State), s.imu.busy = some b ∧ s.up = true ∧ bs.length =
    b.len ∧ b.start + (1 + b.len) * 8 * (2 * b.half) * 2500 ≤ max s.now t ∧ m = (s.reg IMU.IMU_MAP).toNat) ∧
  (∃ (t : Time) (b : ImuBurst) (bs : List Byte) (m : Nat) (s : State), s.imu.busy = some b ∧ s.up = true ∧ bs.length =
    b.len ∧ b.start + (1 + b.len) * 8 * (2 * b.half) * 2500 ≤ max s.now t ∧ m = (s.reg IMU.IMU_MAP).toNat ∧ s.fld
    IMU.IMU_LAYOUT.GYRO_OFS + 6 ≤ bs.length ∧ bf m 3 0 % 4 ≠ 3 ∧ bf m 7 4 % 4 ≠ 3 ∧ bf m 11 8 % 4 ≠ 3) ∧
  (∃ (t : Time) (s : State), s.canon = true ∧ s.up = true ∧ s.flag IMU.IMU_CFG.EN = true ∧ s.fld IMU.IMU_TIMING.ODR_HZ ≠ 0
    ∧ 5 * secPs ≤ (max s.now t - s.imu.lastRead) * s.fld IMU.IMU_TIMING.ODR_HZ ∧ s.imu.lost = false) ∧
  (∃ (t : Time) (s : State), s.canon = true ∧ s.up = true ∧ s.flag IMU.IMU_CFG.EN = true ∧ s.fld IMU.IMU_TIMING.ODR_HZ ≠ 0
    ∧ 5 * secPs ≤ (max s.now t - s.imu.lastRead) * s.fld IMU.IMU_TIMING.ODR_HZ ∧ s.imu.lost = true) :=
  ⟨⟨9, 9, false, (9 + (wf (wf (sd .run) GSPD.GSA_CFG.EN 1) GSPD.GSA_CFG.MINW_US 1).fld (gsMinw false) * usPs), wf (wf (sd .run) GSPD.GSA_CFG.EN 1) GSPD.GSA_CFG.MINW_US 1, by decide +kernel⟩,
   ⟨9000000, 5, true, (5 + (wf (wf (wf (sd .run) GSPD.GSB_CFG.EN 1) GSPD.GSB_CFG.MODE 1) GSPD.GSB_CFG.MINW_US 1).fld (gsMinw true) * usPs), wf (wf (wf (sd .run) GSPD.GSB_CFG.EN 1) GSPD.GSB_CFG.MODE 1) GSPD.GSB_CFG.MINW_US 1, by decide +kernel⟩,
   ⟨9000000000, 5005, false, (5005 + (wf (wf (sd .run) GSPD.GSA_CFG.EN 1) GSPD.GSA_CFG.EDGE 0).fld (gsMinw false) * usPs), wf (wf (sd .run) GSPD.GSA_CFG.EN 1) GSPD.GSA_CFG.EDGE 0, by decide +kernel⟩,
   ⟨0xFFFFFFFFFFFFFF, 2, ⟨0, false⟩, { sd .run with pose := { PoseState.reset with dis := #v[none, none, some ⟨0, false⟩] } }, by decide +kernel, by decide +kernel, by decide +kernel, by decide +kernel, by decide +kernel, (by intro j e h h2; match j, h, h2 with | 0, _, h2 => cases h2 | 1, _, h2 => cases h2 | 2, h, _ => exact absurd h (by decide))⟩,
   ⟨200000000009, 9, { wf (sd .run) POSE.POSE_HITCH_CFG.MODE 3 with pose := { PoseState.reset with hBad := some 9 } }, by decide +kernel⟩,
   ⟨false, wf (wf (sd .run) IMU.IMU_CFG.EN 1) IMU.IMU_CFG.INT_EDGE 1, by decide +kernel⟩,
   ⟨false, wf (sd .run) IMU.IMU_CFG.EN 1, by decide +kernel⟩,
   ⟨9000000, (⟨5, 5, 0, 4, false, 1⟩ : ImuBurst), List.replicate 4 1, ({ wf (sd .run) IMU.IMU_CFG.EN 1 with imu := { ImuState.reset with busy := some (⟨5, 5, 0, 4, false, 1⟩ : ImuBurst), run := 9, lost := true } }).reg IMU.IMU_MAP |>.toNat, { wf (sd .run) IMU.IMU_CFG.EN 1 with imu := { ImuState.reset with busy := some (⟨5, 5, 0, 4, false, 1⟩ : ImuBurst), run := 9, lost := true } }, by decide +kernel⟩,
   ⟨9000000, (⟨5, 5, 0, 20, false, 1⟩ : ImuBurst), ((List.range 20).map (fun i => BitVec.ofNat 8 (7 * i))), ({ wr (wf (sd .run) IMU.IMU_CFG.EN 1) IMU.IMU_MAP 0x210 with imu := { ImuState.reset with busy := some (⟨5, 5, 0, 20, false, 1⟩ : ImuBurst) } }).reg IMU.IMU_MAP |>.toNat, { wr (wf (sd .run) IMU.IMU_CFG.EN 1) IMU.IMU_MAP 0x210 with imu := { ImuState.reset with busy := some (⟨5, 5, 0, 20, false, 1⟩ : ImuBurst) } }, by decide +kernel⟩,
   ⟨0xFFFFFFFFFFFFFF, wf (wf (sd .run) IMU.IMU_CFG.EN 1) IMU.IMU_TIMING.ODR_HZ 100, by decide +kernel⟩,
   ⟨0xFFFFFFFFFFFFFF, { wf (wf (sd .run) IMU.IMU_CFG.EN 1) IMU.IMU_TIMING.ODR_HZ 100 with imu := { ImuState.reset with lost := true, run := 4 } }, by decide +kernel⟩⟩

/-- States and operands that meet the hypotheses of each clause of PoseWords. -/
theorem witness_PoseWords :
  (∃ (t : Time) (s : State), s.canon = true ∧ s.up = true ∧ s.poseRing = false ∧ s.pose.cur.k < max s.now t / posePs) ∧
  (∃ (t : Time) (s : State), s.canon = true ∧ s.up = true ∧ s.poseRing = false ∧ s.pose.cur.k < max s.now t / posePs ∧
    s.lineFrame = false ∧ s.imu.ok = false ∧ (∀ x, x ∈ s.pose.sols → max s.now t / posePs * posePs < x.1)) ∧
  (∃ (t : Time) (s : State), s.canon = true ∧ s.up = true ∧ s.poseRing = false ∧ max s.now t / posePs ≤ s.pose.cur.k) ∧
  (∃ (s : State), s.canon = true ∧ s.up = true ∧ s.poseRing = true) ∧
  (∃ (t : Time) (p : Ring) (f : Frame) (w : PoseWord) (s : State), s.canon = true ∧ Taken s p f ∧ f.enum_ = false ∧
    s.paceDup f = false ∧ isPace f 0 = true ∧ s.poseRing = true ∧ parsePose f.payload = (w, true) ∧ w.node = s.fld
    POSE.POSE_CFG.RING_NODE ∧ w.k * posePs ≤ max s.now t ∧ max s.now t ≤ w.k * posePs + s.fld POSE.POSE_RING_TMO.ACCEPT_US
    * usPs ∧ s.pose.cur.k < w.k) ∧
  (∃ (t : Time) (p : Ring) (f : Frame) (w : PoseWord) (s : State), s.canon = true ∧ Taken s p f ∧ f.enum_ = false ∧
    s.paceDup f = false ∧ isPace f 0 = true ∧ s.poseRing = true ∧ parsePose f.payload = (w, true) ∧ w.node = s.fld
    POSE.POSE_CFG.RING_NODE ∧ w.k * posePs + s.fld POSE.POSE_RING_TMO.ACCEPT_US * usPs < max s.now t) ∧
  (∃ (t : Time) (k : Nat) (s : State), s.canon = true ∧ s.up = true ∧ s.poseRing = true ∧ k = (max s.now t - s.fld
    POSE.POSE_RING_TMO.ACCEPT_US * usPs) / posePs ∧ s.pose.cur.k < k) ∧
  (∃ (t : Time) (a : Time) (s : State), s.pose.goodAt = some a ∧ s.up = true ∧ s.pose.coastAt = none ∧ a + s.lossPs ≤ max
    s.now t) ∧
  (∃ (t : Time) (a : Time) (s : State), s.pose.coastAt = some a ∧ s.up = true ∧ a + s.fld POSE.POSE_COAST.COAST_MS * msPs ≤
    max s.now t) ∧
  (∃ (t : Time) (a : Time) (s : State), s.pose.spdCoast = some a ∧ s.up = true ∧ s.pose.spdCoastDone = false ∧ a + s.fld
    POSE.POSE_SPD_TIME.IMU_COAST_MS * msPs ≤ max s.now t) ∧
  (∃ (run : Bool) (new : Fin 128 → OutTrav) (s : State), s.up = true ∧ s.trav.k < s.pose.cur.k ∧ (run = decide (s.devAtTime
    (s.pose.cur.k * posePs) = .armed ∨ s.devAtTime (s.pose.cur.k * posePs) = .run)) ∧ new = (fun j => let v := (outSpeed
    (s.outVel s.pose.cur s.pose.ux s.pose.wi j.val).1 (s.outVel s.pose.cur s.pose.ux s.pose.wi j.val).2); if s.geomEn j.val
    = true then (if run = true then travStep (s.trav.outs.get j) v else { s.trav.outs.get j with s := v }) else
    OutTrav.reset) ∧ (∀ z, s.trav.zeroK = some z → s.pose.cur.k < z)) ∧
  (∃ (run : Bool) (new : Fin 128 → OutTrav) (s : State) (z : _), s.up = true ∧ s.trav.k < s.pose.cur.k ∧ (run = decide
    (s.devAtTime (s.pose.cur.k * posePs) = .armed ∨ s.devAtTime (s.pose.cur.k * posePs) = .run)) ∧ new = (fun j => let v :=
    (outSpeed (s.outVel s.pose.cur s.pose.ux s.pose.wi j.val).1 (s.outVel s.pose.cur s.pose.ux s.pose.wi j.val).2); if
    s.geomEn j.val = true then (if run = true then travStep (s.trav.outs.get j) v else { s.trav.outs.get j with s := v })
    else OutTrav.reset) ∧ s.trav.zeroK = some z ∧ z ≤ s.pose.cur.k) :=
  ⟨⟨100000000, sv .run, by decide +kernel⟩,
   ⟨100000000, sd .run, by decide +kernel, by decide +kernel, by decide +kernel, by decide +kernel, by decide +kernel, by decide +kernel, by intro x h; cases h⟩,
   ⟨100000000, { sd .run with pose := { PoseState.reset with cur := { PoseState.reset.cur with k := 999999 } } }, by decide +kernel⟩,
   ⟨wf (sv .run) POSE.POSE_CFG.SRC 1, by decide +kernel⟩,
   ⟨(9 * posePs + 5), .a, fr .pace ({ PoseState.reset.cur with k := 9, east := -5, heading := 77, node := 3, quality := 0x8003 } : PoseWord).bytes (fun f => { f with port := 0 }), ({ PoseState.reset.cur with k := 9, east := -5, heading := 77, node := 3, quality := 0x8003 } : PoseWord), wf (wf (rg .run) POSE.POSE_CFG.SRC 1) POSE.POSE_CFG.RING_NODE 3, by decide +kernel⟩,
   ⟨0xFFFFFFFFFFFFFF, .a, fr .pace ({ PoseState.reset.cur with k := 9, east := -5, heading := 77, node := 3, quality := 0x8003 } : PoseWord).bytes (fun f => { f with port := 0 }), ({ PoseState.reset.cur with k := 9, east := -5, heading := 77, node := 3, quality := 0x8003 } : PoseWord), wf (wf (rg .run) POSE.POSE_CFG.SRC 1) POSE.POSE_CFG.RING_NODE 3, by decide +kernel⟩,
   ⟨900000000, (900000000 - (wf (sv .run) POSE.POSE_CFG.SRC 1).fld POSE.POSE_RING_TMO.ACCEPT_US * usPs) / posePs, wf (sv .run) POSE.POSE_CFG.SRC 1, by decide +kernel⟩,
   ⟨0xFFFFFFFFFFFFFF, 5, { sd .run with pose := { PoseState.reset with goodAt := some 5 } }, by decide +kernel⟩,
   ⟨0xFFFFFFFFFFFFFF, 5, { sd .run with pose := { PoseState.reset with coastAt := some 5 } }, by decide +kernel⟩,
   ⟨0xFFFFFFFFFFFFFF, 5, { sd .run with pose := { PoseState.reset with spdCoast := some 5, cur := { PoseState.reset.cur with quality := 0xFFFF, speed := 7 } } }, by decide +kernel⟩,
   ⟨(decide (({ wf (sd .run) (GEOM.GEOM_OUT_ATTR.EN 127) 1 with pose := { PoseState.reset with cur := { PoseState.reset.cur with k := 1, speed := 7000 } } }).devAtTime (({ wf (sd .run) (GEOM.GEOM_OUT_ATTR.EN 127) 1 with pose := { PoseState.reset with cur := { PoseState.reset.cur with k := 1, speed := 7000 } } }).pose.cur.k * posePs) = .armed ∨ ({ wf (sd .run) (GEOM.GEOM_OUT_ATTR.EN 127) 1 with pose := { PoseState.reset with cur := { PoseState.reset.cur with k := 1, speed := 7000 } } }).devAtTime (({ wf (sd .run) (GEOM.GEOM_OUT_ATTR.EN 127) 1 with pose := { PoseState.reset with cur := { PoseState.reset.cur with k := 1, speed := 7000 } } }).pose.cur.k * posePs) = .run)), (fun j => (fun v => if ({ wf (sd .run) (GEOM.GEOM_OUT_ATTR.EN 127) 1 with pose := { PoseState.reset with cur := { PoseState.reset.cur with k := 1, speed := 7000 } } }).geomEn j.val = true then (if (decide (({ wf (sd .run) (GEOM.GEOM_OUT_ATTR.EN 127) 1 with pose := { PoseState.reset with cur := { PoseState.reset.cur with k := 1, speed := 7000 } } }).devAtTime (({ wf (sd .run) (GEOM.GEOM_OUT_ATTR.EN 127) 1 with pose := { PoseState.reset with cur := { PoseState.reset.cur with k := 1, speed := 7000 } } }).pose.cur.k * posePs) = .armed ∨ ({ wf (sd .run) (GEOM.GEOM_OUT_ATTR.EN 127) 1 with pose := { PoseState.reset with cur := { PoseState.reset.cur with k := 1, speed := 7000 } } }).devAtTime (({ wf (sd .run) (GEOM.GEOM_OUT_ATTR.EN 127) 1 with pose := { PoseState.reset with cur := { PoseState.reset.cur with k := 1, speed := 7000 } } }).pose.cur.k * posePs) = .run)) = true then travStep (({ wf (sd .run) (GEOM.GEOM_OUT_ATTR.EN 127) 1 with pose := { PoseState.reset with cur := { PoseState.reset.cur with k := 1, speed := 7000 } } }).trav.outs.get j) v else { ({ wf (sd .run) (GEOM.GEOM_OUT_ATTR.EN 127) 1 with pose := { PoseState.reset with cur := { PoseState.reset.cur with k := 1, speed := 7000 } } }).trav.outs.get j with s := v }) else OutTrav.reset) (outSpeed (({ wf (sd .run) (GEOM.GEOM_OUT_ATTR.EN 127) 1 with pose := { PoseState.reset with cur := { PoseState.reset.cur with k := 1, speed := 7000 } } }).outVel ({ wf (sd .run) (GEOM.GEOM_OUT_ATTR.EN 127) 1 with pose := { PoseState.reset with cur := { PoseState.reset.cur with k := 1, speed := 7000 } } }).pose.cur ({ wf (sd .run) (GEOM.GEOM_OUT_ATTR.EN 127) 1 with pose := { PoseState.reset with cur := { PoseState.reset.cur with k := 1, speed := 7000 } } }).pose.ux ({ wf (sd .run) (GEOM.GEOM_OUT_ATTR.EN 127) 1 with pose := { PoseState.reset with cur := { PoseState.reset.cur with k := 1, speed := 7000 } } }).pose.wi j.val).1 (({ wf (sd .run) (GEOM.GEOM_OUT_ATTR.EN 127) 1 with pose := { PoseState.reset with cur := { PoseState.reset.cur with k := 1, speed := 7000 } } }).outVel ({ wf (sd .run) (GEOM.GEOM_OUT_ATTR.EN 127) 1 with pose := { PoseState.reset with cur := { PoseState.reset.cur with k := 1, speed := 7000 } } }).pose.cur ({ wf (sd .run) (GEOM.GEOM_OUT_ATTR.EN 127) 1 with pose := { PoseState.reset with cur := { PoseState.reset.cur with k := 1, speed := 7000 } } }).pose.ux ({ wf (sd .run) (GEOM.GEOM_OUT_ATTR.EN 127) 1 with pose := { PoseState.reset with cur := { PoseState.reset.cur with k := 1, speed := 7000 } } }).pose.wi j.val).2)), { wf (sd .run) (GEOM.GEOM_OUT_ATTR.EN 127) 1 with pose := { PoseState.reset with cur := { PoseState.reset.cur with k := 1, speed := 7000 } } }, by decide +kernel, by decide +kernel, by decide +kernel, rfl, noneAll (by decide +kernel)⟩,
   ⟨(decide (({ { wf (sd .run) (GEOM.GEOM_OUT_ATTR.EN 127) 1 with pose := { PoseState.reset with cur := { PoseState.reset.cur with k := 1, speed := 7000 } } } with trav := { TravState.reset with zeroK := some 1 } }).devAtTime (({ { wf (sd .run) (GEOM.GEOM_OUT_ATTR.EN 127) 1 with pose := { PoseState.reset with cur := { PoseState.reset.cur with k := 1, speed := 7000 } } } with trav := { TravState.reset with zeroK := some 1 } }).pose.cur.k * posePs) = .armed ∨ ({ { wf (sd .run) (GEOM.GEOM_OUT_ATTR.EN 127) 1 with pose := { PoseState.reset with cur := { PoseState.reset.cur with k := 1, speed := 7000 } } } with trav := { TravState.reset with zeroK := some 1 } }).devAtTime (({ { wf (sd .run) (GEOM.GEOM_OUT_ATTR.EN 127) 1 with pose := { PoseState.reset with cur := { PoseState.reset.cur with k := 1, speed := 7000 } } } with trav := { TravState.reset with zeroK := some 1 } }).pose.cur.k * posePs) = .run)), (fun j => (fun v => if ({ { wf (sd .run) (GEOM.GEOM_OUT_ATTR.EN 127) 1 with pose := { PoseState.reset with cur := { PoseState.reset.cur with k := 1, speed := 7000 } } } with trav := { TravState.reset with zeroK := some 1 } }).geomEn j.val = true then (if (decide (({ { wf (sd .run) (GEOM.GEOM_OUT_ATTR.EN 127) 1 with pose := { PoseState.reset with cur := { PoseState.reset.cur with k := 1, speed := 7000 } } } with trav := { TravState.reset with zeroK := some 1 } }).devAtTime (({ { wf (sd .run) (GEOM.GEOM_OUT_ATTR.EN 127) 1 with pose := { PoseState.reset with cur := { PoseState.reset.cur with k := 1, speed := 7000 } } } with trav := { TravState.reset with zeroK := some 1 } }).pose.cur.k * posePs) = .armed ∨ ({ { wf (sd .run) (GEOM.GEOM_OUT_ATTR.EN 127) 1 with pose := { PoseState.reset with cur := { PoseState.reset.cur with k := 1, speed := 7000 } } } with trav := { TravState.reset with zeroK := some 1 } }).devAtTime (({ { wf (sd .run) (GEOM.GEOM_OUT_ATTR.EN 127) 1 with pose := { PoseState.reset with cur := { PoseState.reset.cur with k := 1, speed := 7000 } } } with trav := { TravState.reset with zeroK := some 1 } }).pose.cur.k * posePs) = .run)) = true then travStep (({ { wf (sd .run) (GEOM.GEOM_OUT_ATTR.EN 127) 1 with pose := { PoseState.reset with cur := { PoseState.reset.cur with k := 1, speed := 7000 } } } with trav := { TravState.reset with zeroK := some 1 } }).trav.outs.get j) v else { ({ { wf (sd .run) (GEOM.GEOM_OUT_ATTR.EN 127) 1 with pose := { PoseState.reset with cur := { PoseState.reset.cur with k := 1, speed := 7000 } } } with trav := { TravState.reset with zeroK := some 1 } }).trav.outs.get j with s := v }) else OutTrav.reset) (outSpeed (({ { wf (sd .run) (GEOM.GEOM_OUT_ATTR.EN 127) 1 with pose := { PoseState.reset with cur := { PoseState.reset.cur with k := 1, speed := 7000 } } } with trav := { TravState.reset with zeroK := some 1 } }).outVel ({ { wf (sd .run) (GEOM.GEOM_OUT_ATTR.EN 127) 1 with pose := { PoseState.reset with cur := { PoseState.reset.cur with k := 1, speed := 7000 } } } with trav := { TravState.reset with zeroK := some 1 } }).pose.cur ({ { wf (sd .run) (GEOM.GEOM_OUT_ATTR.EN 127) 1 with pose := { PoseState.reset with cur := { PoseState.reset.cur with k := 1, speed := 7000 } } } with trav := { TravState.reset with zeroK := some 1 } }).pose.ux ({ { wf (sd .run) (GEOM.GEOM_OUT_ATTR.EN 127) 1 with pose := { PoseState.reset with cur := { PoseState.reset.cur with k := 1, speed := 7000 } } } with trav := { TravState.reset with zeroK := some 1 } }).pose.wi j.val).1 (({ { wf (sd .run) (GEOM.GEOM_OUT_ATTR.EN 127) 1 with pose := { PoseState.reset with cur := { PoseState.reset.cur with k := 1, speed := 7000 } } } with trav := { TravState.reset with zeroK := some 1 } }).outVel ({ { wf (sd .run) (GEOM.GEOM_OUT_ATTR.EN 127) 1 with pose := { PoseState.reset with cur := { PoseState.reset.cur with k := 1, speed := 7000 } } } with trav := { TravState.reset with zeroK := some 1 } }).pose.cur ({ { wf (sd .run) (GEOM.GEOM_OUT_ATTR.EN 127) 1 with pose := { PoseState.reset with cur := { PoseState.reset.cur with k := 1, speed := 7000 } } } with trav := { TravState.reset with zeroK := some 1 } }).pose.ux ({ { wf (sd .run) (GEOM.GEOM_OUT_ATTR.EN 127) 1 with pose := { PoseState.reset with cur := { PoseState.reset.cur with k := 1, speed := 7000 } } } with trav := { TravState.reset with zeroK := some 1 } }).pose.wi j.val).2)), { { wf (sd .run) (GEOM.GEOM_OUT_ATTR.EN 127) 1 with pose := { PoseState.reset with cur := { PoseState.reset.cur with k := 1, speed := 7000 } } } with trav := { TravState.reset with zeroK := some 1 } }, 1, by decide +kernel, by decide +kernel, by decide +kernel, rfl, by decide +kernel, by decide +kernel⟩⟩

/-- States and operands that meet the hypotheses of each clause of TickPhases. -/
theorem witness_TickPhases :
  (∃ (t : Time) (s : State), s.canon = true ∧ s.up = true ∧ s.fpe.tick < tickOf (max s.now t)) ∧
  (∃ (s : State), s.up = true ∧ s.engaged = true) ∧
  (∃ (s : State), s.up = true ∧ s.engaged = false) ∧
  (∃ (t : Time) (s : State) (v : State), v = (s.at t).publishWindow.armCheck ∧ s.up = true ∧ v.engaged = true ∧
    v.fpe.prepOk = true ∧ v.fpe.decided = false) ∧
  (∃ (t : Time) (s : State) (v : State), v = (s.at t).publishWindow.armCheck ∧ s.up = true ∧ (v.engaged = false ∨
    v.fpe.prepOk = false ∨ v.fpe.decided = true)) ∧
  (∃ (t : Time) (s : State) (v : State), v = (s.at t).publishWindow.armCheck ∧ s.up = true ∧ s.dev = .armed ∧ (s.at
    t).publishWindow.armStat = 31 ∧ (s.at t).mayChange = true ∧ (s.at t).disarmNow = false) ∧
  (∃ (t : Time) (s : State) (v : State), v = (s.at t).publishWindow.armCheck ∧ s.up = true ∧ s.dev = .armed ∧ ((s.at
    t).publishWindow.armStat ≠ 31 ∨ (s.at t).mayChange = false ∨ (s.at t).disarmNow = true)) ∧
  (∃ (s : State), s.canon = true ∧ s.up = true ∧ s.engaged = true ∧ s.fpe.decided = true) ∧
  (∃ (dec : Word) (slots : Word) (s : State), s.canon = true ∧ s.up = true ∧ s.bothInService = true ∧ s.fpe.decided = true
    ∧ slots = s.map.slotCrc ∧ dec = s.decisionCrc) ∧
  (∃ (dec : Word) (slots : Word) (s : State), s.canon = true ∧ s.up = true ∧ s.bothInService = true ∧ s.fpe.decided = true
    ∧ slots = s.map.slotCrc ∧ dec ≠ s.decisionCrc ∧ s.laurel.decRun + 1 < s.fld FPE.XCHK_CFG.LIMIT) ∧
  (∃ (dec : Word) (slots : Word) (s : State), s.canon = true ∧ s.up = true ∧ s.bothInService = true ∧ s.fpe.decided = true
    ∧ slots = s.map.slotCrc ∧ dec ≠ s.decisionCrc ∧ s.fld FPE.XCHK_CFG.LIMIT ≤ s.laurel.decRun + 1) ∧
  (∃ (dec : Word) (slots : Word) (s : State), s.canon = true ∧ s.up = true ∧ s.bothInService = true ∧ s.fpe.decided = true
    ∧ slots ≠ s.map.slotCrc ∧ dec = s.decisionCrc ∧ s.laurel.slotRun + 1 < s.fld LAUREL.LAUREL_CFG.SLOT_LIMIT) ∧
  (∃ (dec : Word) (slots : Word) (s : State), s.canon = true ∧ s.up = true ∧ s.bothInService = true ∧ s.fpe.decided = true
    ∧ slots ≠ s.map.slotCrc ∧ s.fld LAUREL.LAUREL_CFG.SLOT_LIMIT ≤ s.laurel.slotRun + 1 ∧ dec = s.decisionCrc) ∧
  (∃ (t : Time) (a : Time) (d : Time) (j : GOut) (s : State), s.canon = true ∧ (s.fo j.val).onFired = some (a, d) ∧ s.up =
    true ∧ a + s.fld FPE.PAINT_CFG.CONF_TMO_MS * msPs ≤ max s.now t) ∧
  (∃ (s : State), s.canon = true ∧ s.running = true) :=
  ⟨⟨2000000000, { sv .run with fpe := { FpeState.reset with swapPend := true, bank := 1 } }, by decide +kernel⟩,
   ⟨sv .run, by decide +kernel⟩,
   ⟨sv .idle, by decide +kernel⟩,
   ⟨9, { sv .run with fpe := { FpeState.reset with prepOk := true, decMax := 60 } }, (({ sv .run with fpe := { FpeState.reset with prepOk := true, decMax := 60 } }).at 9).publishWindow.armCheck, rfl, by decide +kernel⟩,
   ⟨9, { sv .run with fpe := { FpeState.reset with prepOk := true, decided := true } }, (({ sv .run with fpe := { FpeState.reset with prepOk := true, decided := true } }).at 9).publishWindow.armCheck, rfl, by decide +kernel⟩,
   ⟨9, { wf (sv .armed) POSE.POSE_CFG.MIN_QUAL 0 with spdRun := 2000, map := { MapState.reset with readyNext := true } }, (({ wf (sv .armed) POSE.POSE_CFG.MIN_QUAL 0 with spdRun := 2000, map := { MapState.reset with readyNext := true } }).at 9).publishWindow.armCheck, rfl, by decide +kernel⟩,
   ⟨9, sv .armed, ((sv .armed).at 9).publishWindow.armCheck, rfl, by decide +kernel⟩,
   ⟨{ sv .run with fpe := { FpeState.reset with decided := true } }, by decide +kernel⟩,
   ⟨(({ { sv .run with fpe := { FpeState.reset with decided := true } } with laurel := { ({ sv .run with fpe := { FpeState.reset with decided := true } }).laurel with decRun := 1 } }).decisionCrc), (({ { sv .run with fpe := { FpeState.reset with decided := true } } with laurel := { ({ sv .run with fpe := { FpeState.reset with decided := true } }).laurel with decRun := 1 } }).map.slotCrc), { { sv .run with fpe := { FpeState.reset with decided := true } } with laurel := { ({ sv .run with fpe := { FpeState.reset with decided := true } }).laurel with decRun := 1 } }, by decide +kernel⟩,
   ⟨((wf ({ sv .run with fpe := { FpeState.reset with decided := true } }) FPE.XCHK_CFG.LIMIT 2).decisionCrc + 1), ((wf ({ sv .run with fpe := { FpeState.reset with decided := true } }) FPE.XCHK_CFG.LIMIT 2).map.slotCrc), wf ({ sv .run with fpe := { FpeState.reset with decided := true } }) FPE.XCHK_CFG.LIMIT 2, by decide +kernel⟩,
   ⟨((wf ({ sv .run with fpe := { FpeState.reset with decided := true } }) FPE.XCHK_CFG.LIMIT 1).decisionCrc + 1), ((wf ({ sv .run with fpe := { FpeState.reset with decided := true } }) FPE.XCHK_CFG.LIMIT 1).map.slotCrc), wf ({ sv .run with fpe := { FpeState.reset with decided := true } }) FPE.XCHK_CFG.LIMIT 1, by decide +kernel⟩,
   ⟨((wf ({ sv .run with fpe := { FpeState.reset with decided := true } }) LAUREL.LAUREL_CFG.SLOT_LIMIT 2).decisionCrc), ((wf ({ sv .run with fpe := { FpeState.reset with decided := true } }) LAUREL.LAUREL_CFG.SLOT_LIMIT 2).map.slotCrc + 1), wf ({ sv .run with fpe := { FpeState.reset with decided := true } }) LAUREL.LAUREL_CFG.SLOT_LIMIT 2, by decide +kernel⟩,
   ⟨((wf ({ sv .run with fpe := { FpeState.reset with decided := true } }) LAUREL.LAUREL_CFG.SLOT_LIMIT 1).decisionCrc), ((wf ({ sv .run with fpe := { FpeState.reset with decided := true } }) LAUREL.LAUREL_CFG.SLOT_LIMIT 1).map.slotCrc + 1), wf ({ sv .run with fpe := { FpeState.reset with decided := true } }) LAUREL.LAUREL_CFG.SLOT_LIMIT 1, by decide +kernel⟩,
   ⟨0xFFFFFFFFFFFFFF, 5, 6, 127, { sv .run with fpe := { FpeState.reset with outs := vmod FpeState.reset.outs 127 (fun o => { o with onFired := some (5, 6) }) } }, by decide +kernel⟩,
   ⟨sv .run, by decide +kernel⟩⟩

/-- States and operands that meet the hypotheses of each clause of RingSending. -/
theorem witness_RingSending :
  (∃ (t : Time) (p : Ring) (f : Frame) (fs : List Frame) (s : State), s.ringLive p = true ∧ (s.port p).busyUntil ≤ max
    s.now t ∧ s.pfail = false ∧ (s.port p).transit = f :: fs ∧ (∀ e, e ∈ (s.port p).txq → max s.now t < e.1 + 20 * usPs)) ∧
  (∃ (t : Time) (p : Ring) (i : Nat) (f : Frame) (s : State), s.ringLive p = true ∧ (s.port p).busyUntil ≤ max s.now t ∧
    s.pfail = false ∧ ((s.port p).transit = [] ∨ (∃ e, e ∈ (s.port p).txq ∧ e.1 + 20 * usPs ≤ max s.now t)) ∧ pickOwn
    (s.port p).txq = some (i, f) ∧ s.ringEn p = true ∧ s.drives = true) ∧
  (∃ (t : Time) (p : Ring) (s : State), (s.ringLive p = false ∨ max s.now t < (s.port p).busyUntil ∨ s.pfail = true)) ∧
  (∃ (t : Time) (dst : BitVec 10) (cls : FrameClass) (x : TxStream) (s : State), x = s.txStream dst.toNat cls ∧ s.canon =
    true ∧ s.up = true ∧ x.out ≠ [] ∧ x.progressAt + s.fld (RTX.REL_CFG.ACK_TMO_US 0) * usPs ≤ max s.now t ∧ x.credit = 0) ∧
  (∃ (t : Time) (dst : BitVec 10) (cls : FrameClass) (x : TxStream) (s : State), x = s.txStream dst.toNat cls ∧ s.canon =
    true ∧ s.up = true ∧ x.out ≠ [] ∧ x.progressAt + s.fld (RTX.REL_CFG.ACK_TMO_US 0) * usPs ≤ max s.now t ∧ x.credit ≠ 0 ∧
    x.retries < s.fld (RTX.REL_CFG.RETRY_MAX 0)) ∧
  (∃ (t : Time) (dst : BitVec 10) (cls : FrameClass) (x : TxStream) (s : State), x = s.txStream dst.toNat cls ∧ s.canon =
    true ∧ s.up = true ∧ x.out ≠ [] ∧ x.progressAt + s.fld (RTX.REL_CFG.ACK_TMO_US 0) * usPs ≤ max s.now t ∧ x.credit ≠ 0 ∧
    s.fld (RTX.REL_CFG.RETRY_MAX 0) ≤ x.retries) ∧
  (∃ (t : Time) (dst : BitVec 10) (cls : FrameClass) (x : TxStream) (o : OutFrame) (w : List OutFrame) (s : State), x =
    s.txStream dst.toNat cls ∧ s.up = true ∧ x.out = [] ∧ x.credit = 0 ∧ x.wait = o :: w ∧ x.progressAt + s.fld
    (RTX.REL_CFG.ACK_TMO_US 0) * usPs ≤ max s.now t) ∧
  (∃ (t : Time) (p : Ring) (o : OutFrame) (os : List OutFrame) (s : State), s.canon = true ∧ s.ringLive p = true ∧
    s.ring.strokeOut = o :: os ∧ o.sentAt + s.fld (RTX.REL_CFG.ACK_TMO_US 0) * usPs ≤ max s.now t ∧ o.tries < s.fld
    (RTX.REL_CFG.RETRY_MAX 0)) ∧
  (∃ (t : Time) (p : Ring) (o : OutFrame) (os : List OutFrame) (s : State), s.canon = true ∧ s.ringLive p = true ∧
    s.ring.strokeOut = o :: os ∧ o.sentAt + s.fld (RTX.REL_CFG.ACK_TMO_US 0) * usPs ≤ max s.now t ∧ s.fld
    (RTX.REL_CFG.RETRY_MAX 0) ≤ o.tries ∧ s.ring.strokeHeld = []) ∧
  (∃ (p : Ring) (f : Frame) (i : Nat) (s : State), s.ringLive p = true ∧ hcrcGood f = true ∧ crcGood f = true ∧ f.eofBad =
    false ∧ f.cls = .stroke ∧ f.src = s.ring.nodeId ∧ s.ring.assigned = true ∧ f.turns.toNat % 2 = 0 ∧
    s.ring.strokeOut.findIdx? (fun o => decide (o.fseq = f.fseq)) = some i ∧ s.ring.strokeHeld = [] ∧ fsMiss f.fs = false) ∧
  (∃ (p : Ring) (f : Frame) (i : Nat) (s : State) (o : _), s.ringLive p = true ∧ hcrcGood f = true ∧ crcGood f = true ∧
    f.eofBad = false ∧ f.cls = .stroke ∧ f.src = s.ring.nodeId ∧ s.ring.assigned = true ∧ f.turns.toNat % 2 = 0 ∧
    s.ring.strokeOut.findIdx? (fun o => decide (o.fseq = f.fseq)) = some i ∧ s.ring.strokeHeld = [] ∧ fsMiss f.fs = true ∧
    s.canon = true ∧ s.ring.strokeOut[i]? = some o ∧ o.tries < s.fld (RTX.REL_CFG.RETRY_MAX 0)) ∧
  (∃ (q : Fin 32) (gs : List Seg) (r : List (List Seg)) (d : List Byte) (cls : FrameClass) (s : State), (s.q q.val).whole =
    gs :: r ∧ d = itemData gs ∧ s.up = true ∧ s.ballsRun = true ∧ 16 ≤ q.val ∧ q.val < 24 ∧ (∀ i, i < q.val → (if q.val <
    20 then 16 else 20) ≤ i → (s.q i).whole = []) ∧ cls = (if q.val < 20 then .ctrl else .bulk)) ∧
  (∃ (q : Fin 32) (gs : List Seg) (r : List (List Seg)) (d : List Byte) (cls : FrameClass) (s : State), (s.q q.val).whole =
    gs :: r ∧ d = itemData gs ∧ s.up = true ∧ s.ballsRun = true ∧ 16 ≤ q.val ∧ q.val < 24 ∧ (∀ i, i < q.val → (if q.val <
    20 then 16 else 20) ≤ i → (s.q i).whole = []) ∧ cls = (if q.val < 20 then .ctrl else .bulk) ∧ leAt d 2 1 = cls.code ∧
    leAt d 4 2 ≤ 256 ∧ d.length = 16 + leAt d 4 2 ∧ (leAt d 0 2).testBit 15 = false) ∧
  (∃ (v : Word) (s : State), Writable s ∧ v.toNat.testBit 31 = true ∧ s.rtun.busy = false ∧ (bf v.toNat 17 16 = 1 ∨ bf
    v.toNat 17 16 = 2) ∧ 1 ≤ bf v.toNat 4 0 ∧ bf v.toNat 4 0 ≤ 16) ∧
  (∃ (v : Word) (s : State), Writable s ∧ v.toNat.testBit 31 = true ∧ s.rtun.busy = true) :=
  ⟨⟨9, .b, fr .ctrl [1] id, [], (rg .idle).modPort .b (fun x => { x with transit := [fr .ctrl [1] id] }), by decide +kernel, by decide +kernel, by decide +kernel, by decide +kernel, (by intro e h; cases h)⟩,
   ⟨9, .a, 0, fr .ctrl [1] id, (rg .idle).modPort .a (fun x => { x with txq := [(9, fr .ctrl [1] id)] }), by decide +kernel⟩,
   ⟨9, .a, { rg .idle with pfail := true }, by decide +kernel⟩,
   ⟨0xFFFFFFFFFFFF, 3, .ctrl, (({ rg .idle with ring := { (rg .idle : State).ring with tx := [txs 0] } }).txStream 3 .ctrl), { rg .idle with ring := { (rg .idle : State).ring with tx := [txs 0] } }, by decide +kernel⟩,
   ⟨0xFFFFFFFFFFFF, 3, .ctrl, (({ rg .idle with ring := { (rg .idle : State).ring with tx := [txs 9] } }).txStream 3 .ctrl), { rg .idle with ring := { (rg .idle : State).ring with tx := [txs 9] } }, by decide +kernel⟩,
   ⟨0xFFFFFFFFFFFF, 3, .ctrl, ((wr ({ rg .idle with ring := { (rg .idle : State).ring with tx := [{ txs 9 with retries := 15 }] } }) (RTX.REL_CFG 0) 0).txStream 3 .ctrl), wr ({ rg .idle with ring := { (rg .idle : State).ring with tx := [{ txs 9 with retries := 15 }] } }) (RTX.REL_CFG 0) 0, by decide +kernel⟩,
   ⟨0xFFFFFFFFFFFF, 3, .ctrl, (({ rg .idle with ring := { (rg .idle : State).ring with tx := [{ txs 0 with out := [], wait := [ofr 3, ofr 4] }] } }).txStream 3 .ctrl), ofr 3, [ofr 4], { rg .idle with ring := { (rg .idle : State).ring with tx := [{ txs 0 with out := [], wait := [ofr 3, ofr 4] }] } }, by decide +kernel⟩,
   ⟨0xFFFFFFFFFFFF, .a, ofr 0, [ofr 1], { rg .idle with ring := { (rg .idle : State).ring with strokeOut := [ofr 0, ofr 1] } }, by decide +kernel⟩,
   ⟨0xFFFFFFFFFFFF, .a, ofr 0, [], wr ({ rg .idle with ring := { (rg .idle : State).ring with strokeOut := [ofr 0] } }) (RTX.REL_CFG 0) 0, by decide +kernel⟩,
   ⟨.a, fr .stroke [1] (fun f => { f with src := 5, fs := 1 }), 1, { rg .idle with ring := { (rg .idle : State).ring with strokeOut := [ofr 1, ofr 0] } }, by decide +kernel⟩,
   ⟨.a, fr .stroke [1] (fun f => { f with src := 5, fs := 0xFF }), 1, { rg .idle with ring := { (rg .idle : State).ring with strokeOut := [ofr 1, ofr 0] } }, ofr 0, by decide +kernel⟩,
   ⟨16, [⟨true, true, true, 3, 7, (leBytes 2 3 ++ leBytes 1 1 ++ leBytes 1 0 ++ leBytes 2 2 ++ leBytes 2 9 ++ leBytes 8 0 ++ List.replicate 2 7)⟩], [], (leBytes 2 3 ++ leBytes 1 1 ++ leBytes 1 0 ++ leBytes 2 2 ++ leBytes 2 9 ++ leBytes 8 0 ++ List.replicate 2 7), .ctrl, hq1 (rg .idle) 16 (leBytes 2 3 ++ leBytes 1 1 ++ leBytes 1 0 ++ leBytes 2 2 ++ leBytes 2 9 ++ leBytes 8 0 ++ List.replicate 2 7), by decide +kernel⟩,
   ⟨16, [⟨true, true, true, 3, 7, (leBytes 2 3 ++ leBytes 1 1 ++ leBytes 1 0 ++ leBytes 2 2 ++ leBytes 2 9 ++ leBytes 8 0 ++ List.replicate 2 7)⟩], [], (leBytes 2 3 ++ leBytes 1 1 ++ leBytes 1 0 ++ leBytes 2 2 ++ leBytes 2 9 ++ leBytes 8 0 ++ List.replicate 2 7), .ctrl, hq1 (rg .idle) 16 (leBytes 2 3 ++ leBytes 1 1 ++ leBytes 1 0 ++ leBytes 2 2 ++ leBytes 2 9 ++ leBytes 8 0 ++ List.replicate 2 7), by decide +kernel⟩,
   ⟨0x80010001, sv .idle, by decide +kernel⟩,
   ⟨0x80010001, { sv .idle with rtun := { RTunState.reset with busy := true } }, by decide +kernel⟩⟩

/-- States and operands that meet the hypotheses of each clause of RingNodes. -/
theorem witness_RingNodes :
  (∃ (s : State), s.canon = true ∧ s.running = true ∧ (s.dev = .primrose ∨ s.dev = .idle ∨ s.dev = .standby) ∧ s.ring.root
    = true) ∧
  (∃ (s : State), s.canon = true ∧ s.running = true ∧ (s.dev = .primrose ∨ s.dev = .idle ∨ s.dev = .standby) ∧ s.ring.root
    = false) ∧
  (∃ (s : State), s.canon = true ∧ s.running = true ∧ s.dev ≠ .primrose ∧ s.dev ≠ .idle ∧ s.dev ≠ .standby ∧ NoError s
    0x008) ∧
  (∃ (v : Word) (s : State), s.running = true ∧ s.ring.root = true ∧ s.ring.nonce = some v ∧ s.ballsRun = true) ∧
  (∃ (t : Time) (a : Time) (s : State), s.canon = true ∧ s.ring.enumAt = some a ∧ a + 10 * msPs ≤ max s.now t ∧
    s.ring.enumTries < 3) ∧
  (∃ (t : Time) (a : Time) (s : State), s.canon = true ∧ s.ring.enumAt = some a ∧ a + 10 * msPs ≤ max s.now t ∧ 3 ≤
    s.ring.enumTries) ∧
  (∃ (t : Time) (s : State), s.up = true ∧ s.ring.assigned = true ∧ s.ring.presAt + s.fld (RTX.RING_CFG.PRES_MS 0) * msPs ≤
    max s.now t) ∧
  (∃ (t : Time) (node : BitVec 10) (e : Nat × Time) (s : State), s.canon = true ∧ s.ring.present.find? (fun p => decide
    (p.1 = node.toNat)) = some e ∧ s.up = true ∧ node ≠ s.ring.nodeId ∧ e.2 + 3 * s.fld (RTX.RING_CFG.PRES_MS 0) * msPs ≤
    max s.now t) :=
  ⟨⟨{ rg .primrose with ring := { (rg .primrose : State).ring with root := true } }, by decide +kernel⟩,
   ⟨rg .idle, by decide +kernel⟩,
   ⟨rg .run, by decide +kernel⟩,
   ⟨7, { rg .idle with ring := { (rg .idle : State).ring with root := true, nonce := some 7 } }, by decide +kernel⟩,
   ⟨10000000009, 9, { rg .idle with ring := { (rg .idle : State).ring with root := true, enumAt := some 9, enumTries := 2 } }, by decide +kernel⟩,
   ⟨10000000009, 9, { rg .idle with ring := { (rg .idle : State).ring with root := true, enumAt := some 9, enumTries := 3 } }, by decide +kernel⟩,
   ⟨0xFFFFFFFFFFFF, rg .idle, by decide +kernel⟩,
   ⟨0xFFFFFFFFFFFF, 3, (3, 0), { rg .idle with ring := { (rg .idle : State).ring with present := [(3, 0), (4, 0)] } }, by decide +kernel⟩⟩

/-- States and operands that meet the hypotheses of each clause of RingLinks. -/
theorem witness_RingLinks :
  (∃ (p : Ring) (x : LineLoss) (s : State), s.canon = true ∧ s.ringLive p = true ∧ (x.los = true ∨ 4000 ≤ x.quiet ∨ 16 ≤
    x.burst) ∧ (s.port p).link = .up) ∧
  (∃ (p : Ring) (x : LineLoss) (s : State), s.canon = true ∧ s.ringLive p = true ∧ (x.los = true ∨ 4000 ≤ x.quiet ∨ 16 ≤
    x.burst) ∧ (s.port p).link ≠ .up) ∧
  (∃ (p : Ring) (x : LineLoss) (s : State), s.canon = true ∧ s.ringLive p = true ∧ x.los = false ∧ x.quiet < 4000 ∧ x.burst
    < 16) ∧
  (∃ (p : Ring) (n : Nat) (s : State), s.ringLive p = true ∧ s.hopDown p = true ∧ 64 ≤ n) ∧
  (∃ (p : Ring) (n : Nat) (s : State), s.ringLive p = true ∧ s.hopDown p = true ∧ n < 64) ∧
  (∃ (p : Ring) (s : State), s.ringLive p = true) ∧
  (∃ (t : Time) (p : Ring) (s : State), s.canon = true ∧ s.ringLive p = true ∧ memberRings s.member = 2 ∧ s.flag
    (RTX.LINK_CFG.WRAP_EN p.ix) = true ∧ s.hopDown p = true ∧ (s.port p).wrapped = false ∧ (s.port p).since + s.fld
    (RTX.LINK_CFG.WRAP_HOLD_US p.ix) * usPs ≤ max s.now t) ∧
  (∃ (t : Time) (p : Ring) (s : State), s.canon = true ∧ s.ringLive p = true ∧ (s.port p).wrapped = true ∧ s.hopDown p =
    false ∧ (s.port p).since + s.fld (RTX.LINK_CFG.UNWRAP_US p.ix) * usPs ≤ max s.now t) ∧
  (∃ (t : Time) (p : Ring) (s : State), s.canon = true ∧ s.ringLive p = true ∧ (s.port p).wrapped = true ∧ s.hopDown p =
    false ∧ (s.port p).since + s.fld (RTX.LINK_CFG.UNWRAP_US p.ix) * usPs ≤ max s.now t) ∧
  (∃ (p : Ring) (g : Epoch) (s : State), s.canon = true ∧ s.ringLive p = true ∧ 0 < epochDiff g s.ring.topoGen) ∧
  (∃ (p : Ring) (g : Epoch) (s : State), s.canon = true ∧ s.ringLive p = true ∧ epochDiff g s.ring.topoGen ≤ 0) :=
  ⟨⟨.b, (⟨true, 0, 0, 9⟩ : LineLoss), rg .idle, by decide +kernel⟩,
   ⟨.b, (⟨true, 0, 0, 9⟩ : LineLoss), (rg .idle).modPort .b (fun x => { x with link := .aligning }), by decide +kernel⟩,
   ⟨.b, (⟨false, 3999, 15, 9⟩ : LineLoss), rg .idle, by decide +kernel⟩,
   ⟨.b, 64, (rg .idle).modPort .b (fun x => { x with link := .down }), by decide +kernel⟩,
   ⟨.b, 63, (rg .idle).modPort .b (fun x => { x with link := .down }), by decide +kernel⟩,
   ⟨.b, rg .idle, by decide +kernel⟩,
   ⟨0xFFFFFFFFFFFF, .b, wf ((rg .idle).modPort .b (fun x => { x with link := .down, transit := [fr .ctrl [1] id] })) (RTX.LINK_CFG.WRAP_EN 1) 1, by decide +kernel⟩,
   ⟨0xFFFFFFFFFFFF, .b, (rg .idle).modPort .b (fun x => { x with wrapped := true }), by decide +kernel⟩,
   ⟨0xFFFFFFFFFFFF, .b, (rg .idle).modPort .b (fun x => { x with wrapped := true }), by decide +kernel⟩,
   ⟨.b, 1, rg .idle, by decide +kernel⟩,
   ⟨.b, 0, rg .idle, by decide +kernel⟩⟩

/-- States and operands that meet the hypotheses of each clause of RingTime. -/
theorem witness_RingTime :
  (∃ (p : Ring) (s : State), s.ringLive p = true ∧ s.ringEn p = true ∧ (s.hasRing p.other = false ∨ s.hopDown p.other =
    false)) ∧
  (∃ (t : Time) (p : Ring) (w : BitVec 48) (s : State) (v : State), s.ringLive p = true ∧ v = { (s.at t).heardSet p with
    rtime := { s.rtime with heard := s.rtime.heard.set p.ix (some (w.toNat / 68719476736, max s.now t)) } } ∧ (s.ring.root
    = true ∨ v.syncSrc ≠ some p)) ∧
  (∃ (t : Time) (p : Ring) (w : BitVec 48) (s : State) (v : State) (dep : _) (e : _), s.ringLive p = true ∧ v = { (s.at
    t).heardSet p with rtime := { s.rtime with heard := s.rtime.heard.set p.ix (some (w.toNat / 68719476736, max s.now t))
    } } ∧ s.ring.root = false ∧ v.syncSrc = some p ∧ dep = nearUnits (max s.now t) (w.toNat % 68719476736) ∧ e = ((max
    s.now t : Nat) : Int) - ((dep + s.hopDelay p : Nat) : Int) ∧ e.natAbs ≤ 1000000) ∧
  (∃ (t : Time) (p : Ring) (w : BitVec 48) (s : State) (v : State) (dep : _) (e : _), s.ringLive p = true ∧ v = { (s.at
    t).heardSet p with rtime := { s.rtime with heard := s.rtime.heard.set p.ix (some (w.toNat / 68719476736, max s.now t))
    } } ∧ s.ring.root = false ∧ v.syncSrc = some p ∧ dep = nearUnits (max s.now t) (w.toNat % 68719476736) ∧ e = ((max
    s.now t : Nat) : Int) - ((dep + s.hopDelay p : Nat) : Int) ∧ 1000000 < e.natAbs ∧ (s.dev = .primrose ∨ s.dev = .idle ∨
    s.dev = .standby)) ∧
  (∃ (t : Time) (p : Ring) (w : BitVec 48) (s : State) (v : State) (dep : _) (e : _), s.ringLive p = true ∧ v = { (s.at
    t).heardSet p with rtime := { s.rtime with heard := s.rtime.heard.set p.ix (some (w.toNat / 68719476736, max s.now t))
    } } ∧ s.ring.root = false ∧ v.syncSrc = some p ∧ dep = nearUnits (max s.now t) (w.toNat % 68719476736) ∧ e = ((max
    s.now t : Nat) : Int) - ((dep + s.hopDelay p : Nat) : Int) ∧ 1000000 < e.natAbs ∧ s.dev ≠ .primrose ∧ s.dev ≠ .idle ∧
    s.dev ≠ .standby) ∧
  (∃ (t : Time) (a : Time) (s : State), s.canon = true ∧ s.rtime.lastSync = some a ∧ s.up = true ∧ s.ring.root = false ∧
    s.rtime.hold = false ∧ a + 100 * usPs ≤ max s.now t) ∧
  (∃ (p : Ring) (s : State), s.ringLive p = true ∧ s.ringEn p = true ∧ memberRings s.member = 2) ∧
  (∃ (p : Ring) (s : State), s.ringLive p = true ∧ s.ringEn p.other = true) ∧
  (∃ (t1 : Time) (p : Ring) (q : BitVec 16) (s : State), s.ringLive p = true ∧ (s.port p.other).dreqAt = some t1 ∧ (s.port
    p.other).dreqSeq = q) :=
  ⟨⟨.b, rg .idle, by decide +kernel⟩,
   ⟨9, .a, 5, { rg .idle with ring := { (rg .idle : State).ring with root := true } }, { ({ rg .idle with ring := { (rg .idle : State).ring with root := true } } : State).at 9 with rtime := { ({ rg .idle with ring := { (rg .idle : State).ring with root := true } } : State).rtime with heard := ({ rg .idle with ring := { (rg .idle : State).ring with root := true } } : State).rtime.heard.set 0 (some (((5 : BitVec 48)).toNat / 68719476736, max ({ rg .idle with ring := { (rg .idle : State).ring with root := true } } : State).now 9)) } }, by decide +kernel, rfl, by decide +kernel⟩,
   ⟨4000000, .a, (3 * 68719476736 + 9990), rg .idle, { (rg .idle : State).at 4000000 with rtime := { (rg .idle : State).rtime with heard := (rg .idle : State).rtime.heard.set 0 (some ((((3 * 68719476736 + 9990) : BitVec 48)).toNat / 68719476736, max (rg .idle : State).now 4000000)) } }, (nearUnits 4000000 (((3 * 68719476736 + 9990) : BitVec 48).toNat % 68719476736)), (((4000000 : Nat) : Int) - (((nearUnits 4000000 (((3 * 68719476736 + 9990) : BitVec 48).toNat % 68719476736)) + (rg .idle).hopDelay .a : Nat) : Int)), by decide +kernel, rfl, by decide +kernel⟩,
   ⟨4000000, .a, (3 * 68719476736 + 99900), rg .idle, { (rg .idle : State).at 4000000 with rtime := { (rg .idle : State).rtime with heard := (rg .idle : State).rtime.heard.set 0 (some ((((3 * 68719476736 + 99900) : BitVec 48)).toNat / 68719476736, max (rg .idle : State).now 4000000)) } }, (nearUnits 4000000 (((3 * 68719476736 + 99900) : BitVec 48).toNat % 68719476736)), (((4000000 : Nat) : Int) - (((nearUnits 4000000 (((3 * 68719476736 + 99900) : BitVec 48).toNat % 68719476736)) + (rg .idle).hopDelay .a : Nat) : Int)), by decide +kernel, rfl, by decide +kernel⟩,
   ⟨4000000, .a, (3 * 68719476736 + 99900), rg .run, { (rg .run : State).at 4000000 with rtime := { (rg .run : State).rtime with heard := (rg .run : State).rtime.heard.set 0 (some ((((3 * 68719476736 + 99900) : BitVec 48)).toNat / 68719476736, max (rg .run : State).now 4000000)) } }, (nearUnits 4000000 (((3 * 68719476736 + 99900) : BitVec 48).toNat % 68719476736)), (((4000000 : Nat) : Int) - (((nearUnits 4000000 (((3 * 68719476736 + 99900) : BitVec 48).toNat % 68719476736)) + (rg .run).hopDelay .a : Nat) : Int)), by decide +kernel, rfl, by decide +kernel⟩,
   ⟨100000009, 9, { rg .run with rtime := { RTimeState.reset with lastSync := some 9, lock := true } }, by decide +kernel⟩,
   ⟨.b, rg .idle, by decide +kernel⟩,
   ⟨.b, rg .idle, by decide +kernel⟩,
   ⟨9, .b, 7, (rg .idle).modPort .a (fun x => { x with dreqAt := some 9, dreqSeq := 7 }), by decide +kernel⟩⟩

/-- States and operands that meet the hypotheses of each clause of RingReception. -/
theorem witness_RingReception :
  (∃ (t : Time) (p : Ring) (f : Frame) (s : State), s.ringLive p = true ∧ hcrcGood f = true ∧ f.hops ≠ 0 ∧ f.turns ≠ 3 ∧ ¬
    (s.ring.assigned = true ∧ f.src = s.ring.nodeId) ∧ s.copies f = false ∧ crcGood f = true ∧ (s.port p.other).wrapped =
    false ∧ (s.port p).busyUntil ≤ max s.now t ∧ (s.port p).transit = [] ∧ s.pfail = false) ∧
  (∃ (p : Ring) (f : Frame) (s : State), Taken s p f ∧ f.enum_ = false ∧ s.paceDup f = false ∧ isPace f 0 = true) ∧
  (∃ (p : Ring) (f : Frame) (s : State), Taken s p f ∧ f.enum_ = false ∧ s.paceDup f = false ∧ isPace f 1 = true) ∧
  (∃ (p : Ring) (f : Frame) (s : State), s.canon = true ∧ Taken s p f ∧ f.enum_ = false ∧ isStroke f = true ∧ s.strokeMine
    f = true ∧ s.strokeMiss f = false ∧ (f.flag = true ∨ (∀ e, e ∈ s.ring.strokeRx → e.1 = f.src.toNat → e.2 = f.fseq)) ∧
    s.ring.strokeRx.length < 7) ∧
  (∃ (p : Ring) (f : Frame) (s : State), s.canon = true ∧ Taken s p f ∧ f.enum_ = false ∧ isStroke f = true ∧ s.strokeMine
    f = true ∧ s.strokeMiss f = false ∧ (f.flag = true ∨ (∀ e, e ∈ s.ring.strokeRx → e.1 = f.src.toNat → e.2 = f.fseq)) ∧
    s.ring.strokeRx.length < 7 ∧ f.flag = false ∧ leAt f.payload 0 2 % 1024 ≠ s.ring.nodeId.toNat ∧ leAt f.payload 8 4 =
    s.orgCrc.toNat ∧ (∀ k, k ∈ strokesOf (leAt f.payload 3 1) (f.payload.drop 16) → epochCheck (BitVec.ofNat 16 k.job)
    (s.epoch pgMap) = .accepted) ∧ (∀ e, e ∈ s.map.senders → e.1 ≠ leAt f.payload 0 2 % 1024) ∧ s.map.senders.length < 7) ∧
  (∃ (p : Ring) (f : Frame) (g : Epoch) (s : State), s.canon = true ∧ s.ringLive p = true ∧ hcrcGood f = true ∧ f.hops ≠ 0
    ∧ f.turns ≠ 3 ∧ s.copies f = true ∧ s.ring.root = false ∧ g = BitVec.ofNat 16 (leAt f.payload 8 2) ∧ isEnum f 0 = true
    ∧ s.ring.enumSeen ≠ some g ∧ leAt f.payload 6 2 < 1024) ∧
  (∃ (p : Ring) (f : Frame) (g : Epoch) (s : State), s.canon = true ∧ s.ringLive p = true ∧ hcrcGood f = true ∧ f.hops ≠ 0
    ∧ f.turns ≠ 3 ∧ s.copies f = true ∧ s.ring.root = false ∧ g = BitVec.ofNat 16 (leAt f.payload 8 2) ∧ isEnum f 1 = true
    ∧ s.ring.enumSeen = some g) ∧
  (∃ (p : Ring) (f : Frame) (g : Epoch) (s : State) (i : _), s.canon = true ∧ s.ringLive p = true ∧ hcrcGood f = true ∧
    f.hops ≠ 0 ∧ f.turns ≠ 3 ∧ s.copies f = true ∧ s.ring.root = false ∧ g = BitVec.ofNat 16 (leAt f.payload 8 2) ∧ isEnum
    f 2 = true ∧ s.ring.assigned = false ∧ freeId (f.payload.drop 16) = some i) ∧
  (∃ (p : Ring) (f : Frame) (s : State), s.canon = true ∧ Taken s p f ∧ NextOfStream s f ∧ f.tun = false ∧ s.bridged f =
    false ∧ s.credit (ingressQ f) (16 + f.payload.length) = true) ∧
  (∃ (p : Ring) (f : Frame) (x : TxStream) (s : State), s.canon = true ∧ Taken s p f ∧ x = s.txStream f.src.toNat (ackClass
    f) ∧ x.wait = [] ∧ isAck f false = true) ∧
  (∃ (p : Ring) (f : Frame) (x : TxStream) (s : State) (o : _) (os : _), s.canon = true ∧ Taken s p f ∧ x = s.txStream
    f.src.toNat (ackClass f) ∧ x.wait = [] ∧ isAck f true = true ∧ x.retries < s.fld (RTX.REL_CFG.RETRY_MAX 0) ∧ x.out = o
    :: os ∧ (BitVec.ofNat 16 (leAt f.payload 2 2) - o.fseq).toInt ≤ 0) ∧
  (∃ (p : Ring) (f : Frame) (s : State), s.canon = true ∧ Taken s p f ∧ NextOfStream s f ∧ f.tun = false ∧ s.bridged f =
    true ∧ f.src.toNat = s.fld (RTX.PROXY_CFG.PROXY_NODE 0) ∧ leAt f.payload 0 1 % 16 < 8 ∧ qAssigned (leAt f.payload 0 1 %
    16) = true ∧ (leAt f.payload 1 1).testBit 0 = true ∧ (leAt f.payload 1 1).testBit 1 = false ∧ leAt f.payload 2 2 = 0 ∧
    (f.payload.drop 8).length ≤ leAt f.payload 4 2) ∧
  (∃ (p : Ring) (f : Frame) (s : State), s.canon = true ∧ Taken s p f ∧ NextOfStream s f ∧ isTunRequest f = true ∧ 8 ≤
    f.payload.length ∧ leAt f.payload 0 1 = 1 ∧ 0 < leAt f.payload 1 1 ∧ leAt f.payload 1 1 ≤ 16) ∧
  (∃ (p : Ring) (f : Frame) (s : State), s.canon = true ∧ Taken s p f ∧ NextOfStream s f ∧ isTunRequest f = true ∧ 8 ≤
    f.payload.length ∧ leAt f.payload 0 1 = 2 ∧ s.flag RTUN.TUN_CFG.ALLOW_WR = false) ∧
  (∃ (p : Ring) (f : Frame) (s : State), Taken s p f ∧ NextOfStream s f ∧ isTunResponse f = true ∧ s.rtun.busy = true ∧
    leAt f.payload 2 2 = s.rtun.tag.toNat ∧ leAt f.payload 0 1 = s.rtun.op + 128) ∧
  (∃ (t : Time) (s : State), s.up = true ∧ s.rtun.busy = true ∧ s.rtun.sentAt + s.fld RTUN.TUN_CFG.TMO_MS * msPs ≤ max
    s.now t) :=
  ⟨⟨9, .a, fr .ctrl [1] (fun f => { f with dst := 6 }), rg .idle, by decide +kernel⟩,
   ⟨.a, fr .pace (List.replicate 64 0) (fun f => { f with bcast := true }), rg .idle, by decide +kernel⟩,
   ⟨.a, fr .pace [1, 2] (fun f => { f with bcast := true, port := 1 }), rg .idle, by decide +kernel⟩,
   ⟨.a, fr .stroke (List.replicate 64 0) (fun f => { f with bcast := true, flag := true }), wf (wf ((rg .idle)) MAP.GRP_CFG.STROKE_RX 1) MAP.GRP_CFG.GROUP 0, by decide +kernel, by decide +kernel, by decide +kernel, by decide +kernel, by decide +kernel, by decide +kernel, .inl (by decide +kernel), by decide +kernel⟩,
   ⟨.a, fr .stroke (leBytes 2 3 ++ [0, 0] ++ leBytes 4 77 ++ leBytes 4 (wf (wf ((rg .idle)) MAP.GRP_CFG.STROKE_RX 1) MAP.GRP_CFG.GROUP 0).orgCrc.toNat ++ List.replicate 4 0) (fun f => { f with bcast := true }), wf (wf ((rg .idle)) MAP.GRP_CFG.STROKE_RX 1) MAP.GRP_CFG.GROUP 0, by decide +kernel, by decide +kernel, by decide +kernel, by decide +kernel, by decide +kernel, by decide +kernel, .inr (by intro e h; cases h), by decide +kernel, by decide +kernel, by decide +kernel, by decide +kernel, (by intro k h; revert h; revert k; decide +kernel), (by intro e h; cases h), by decide +kernel⟩,
   ⟨.a, fr .ctrl (enumPayload 7 0 1023 1 (List.replicate 128 0)) (fun f => { f with bcast := true, enum_ := true }), 1, rg .idle, by decide +kernel⟩,
   ⟨.a, fr .ctrl (enumPayload 7 1 9 1 (List.replicate 128 0)) (fun f => { f with bcast := true, enum_ := true }), 1, { rg .idle with ring := { (rg .idle : State).ring with enumSeen := some 1, assigned := false } }, by decide +kernel⟩,
   ⟨.a, fr .ctrl (enumPayload 7 2 9 1 (List.replicate 128 0)) (fun f => { f with bcast := true, enum_ := true }), 1, { rg .idle with ring := { (rg .idle : State).ring with assigned := false } }, 0, by decide +kernel⟩,
   ⟨.a, fr .ctrl [1, 2] id, rg .idle, by decide +kernel⟩,
   ⟨.a, fr .ctrl [0, 77, 0, 0, 0, 0, 0, 0] (fun f => { f with ack := true }), ({ rg .idle with ring := { (rg .idle : State).ring with tx := [txs 9] } }).txStream 3 .ctrl, { rg .idle with ring := { (rg .idle : State).ring with tx := [txs 9] } }, by decide +kernel⟩,
   ⟨.a, fr .ctrl [0, 77, 0, 0, 0, 0, 0, 0] (fun f => { f with ack := true, flag := true }), ({ rg .idle with ring := { (rg .idle : State).ring with tx := [txs 9] } }).txStream 3 .ctrl, { rg .idle with ring := { (rg .idle : State).ring with tx := [txs 9] } }, ofr 0, [ofr 1], by decide +kernel⟩,
   ⟨.a, fr .bulk [3, 1, 0, 0, 2, 0, 0, 0, 7, 8] (fun f => { f with qbr := true }), wf (wf (rg .idle) (RTX.PROXY_CFG.PROXY_EN 0) 1) (RTX.PROXY_CFG.PROXY_NODE 0) 3, by decide +kernel⟩,
   ⟨.a, fr .ctrl [1, 1, 0, 0, 0, 8, 0, 0] (fun f => { f with tun := true }), rg .idle, by decide +kernel⟩,
   ⟨.a, fr .ctrl [2, 1, 0, 0, 0, 8, 0, 0, 1, 2, 3, 4] (fun f => { f with tun := true }), wf (rg .idle) RTUN.TUN_CFG.ALLOW_WR 0, by decide +kernel⟩,
   ⟨.a, fr .ctrl [129, 17, 5, 0, 0, 0, 0, 0, 1, 2, 3, 4] (fun f => { f with tun := true }), { rg .idle with rtun := { RTunState.reset with busy := true, tag := 5, op := 1 } }, by decide +kernel⟩,
   ⟨0xFFFFFFFFFFFFFF, { rg .idle with rtun := { RTunState.reset with busy := true, tag := 5, op := 1 } }, by decide +kernel⟩⟩

/-- States and operands that meet the hypotheses of each clause of LaneFrames. -/
theorem witness_LaneFrames :
  (∃ (f : Flit), (f.typ.toNat = ftQend ∨ f.typ.toNat = ftDrain ∨ f.typ.toNat = ftEpochAdv)) ∧
  (∃ (f : Flit), f.typ.toNat = ftSpDem) ∧
  (∃ (fs : List Flit), (∀ f ∈ fs, f.typ.toNat = ftTrvHdr ∨ f.typ.toNat = ftTrvT ∨ f.typ.toNat = ftTrvS)) ∧
  (∃ (f : Flit), f.typ.toNat = ftIdle) ∧
  (∃ (f : Flit), f.typ.toNat = ftPortIdle) ∧
  (∃ (f : Flit), f.typ.toNat = ftNak) ∧
  (∃ (f : Flit), f.typ.toNat = fuAck) ∧
  (∃ (f : Flit), (f.typ.toNat = fuQclr ∨ f.typ.toNat = fuDly)) ∧
  (∃ (f : Flit), f.typ.toNat = fuPeakRpt) ∧
  (∃ (fs : List Flit), (∀ f ∈ fs, f.typ.toNat = fuFireA ∨ f.typ.toNat = fuFireB)) ∧
  (∃ (fs : List Flit), (∀ f ∈ fs, f.typ.toNat = fuMotionA ∨ f.typ.toNat = fuMotionB)) :=
  ⟨⟨fl ftQend 1 0, by decide +kernel⟩,
   ⟨fl ftSpDem 1 77, by decide +kernel⟩,
   ⟨trv, by decide +kernel⟩,
   ⟨fl ftIdle 0 0, by decide +kernel⟩,
   ⟨fl ftPortIdle 0 0, by decide +kernel⟩,
   ⟨fl ftNak 0 1, by decide +kernel⟩,
   ⟨fl fuAck 1 0, by decide +kernel⟩,
   ⟨fl fuDly 1 0, by decide +kernel⟩,
   ⟨fl fuPeakRpt 1 0, by decide +kernel⟩,
   ⟨[fl fuFireA 1 0, fl fuFireB 2 0], by decide +kernel⟩,
   ⟨[fl fuMotionA 1 0, fl fuMotionB 2 0], by decide +kernel⟩⟩

/-- States and operands that meet the hypotheses of each clause of ControlFrames. -/
theorem witness_ControlFrames :
  (∃ (f : Frame), (f.tun && isTunRequest f) = false) :=
  ⟨fr .ctrl [1] id, by decide +kernel⟩

end Sys2Proof.Slice0Tests
end

/-! Registers: what a read gives after a write, and which registers have no second address. -/
namespace Sys2Proof.Machine

theorem State.canon_regs {s : State} (h : s.canon = true) : Sparse.wf regReset s.regs = true := by
  simp only [State.canon, Bool.and_eq_true] at h
  obtain ⟨⟨⟨⟨⟨hregs, -⟩, -⟩, -⟩, -⟩, -⟩ := h
  exact hregs

/-- A register read depends on the register file alone. -/
theorem State.reg_congr {s u : State} (h : u.regs = s.regs) (a : Nat) : u.reg a = s.reg a := by
  rw [State.reg, State.reg, h]

theorem State.fld_congr {s u : State} (h : u.regs = s.regs) (f : Fld) : u.fld f = s.fld f := by
  rw [State.fld, State.fld, State.reg_congr h]

@[simp] theorem State.reg_at (s : State) (t : Time) (a : Nat) : (s.at t).reg a = s.reg a := rfl

theorem State.setReg_regs_wf {s : State} (h : Sparse.wf regReset s.regs = true) (a : Nat) (w : Word) :
    Sparse.wf regReset (s.setReg a w).regs = true := Sparse.wf_set h

theorem State.reg_setReg {s : State} (h : Sparse.wf regReset s.regs = true) (a b : Nat) (w : Word) :
    (s.setReg a w).reg b = if home b = home a then w else s.reg b := by
  unfold State.reg State.setReg
  split
  · next e => rw [e]; exact Sparse.get_set_self h
  · next e => exact Sparse.get_set_ne h e

theorem State.reg_setReg_self {s : State} (h : Sparse.wf regReset s.regs = true) (a : Nat) (w : Word) :
    (s.setReg a w).reg a = w := by
  rw [State.reg_setReg h, if_pos rfl]

theorem State.reg_setReg_ne {s : State} (h : Sparse.wf regReset s.regs = true) {a b : Nat} (w : Word)
    (hab : home b ≠ home a) : (s.setReg a w).reg b = s.reg b := by
  rw [State.reg_setReg h, if_neg hab]

/-- What `Only` says of one register: outside those that may change it reads as before. -/
theorem Only.reg_eq {m : May} {s u : State} (h : Only m s u) (c : Sparse.wf regReset s.regs = true) {a : Nat}
    (ha : ¬ m.reg a) : u.reg a = s.reg a := (h.regs.2 c).2 a ha

theorem Only.regs_wf {m : May} {s u : State} (h : Only m s u) (c : Sparse.wf regReset s.regs = true) :
    Sparse.wf regReset u.regs = true := (h.regs.2 c).1

/-- A second address differs from its home in the page only. -/
theorem home_mod (a : Nat) : home a % 4096 = a % 4096 := by
  unfold home
  split
  · omega
  · split <;> omega

/-- The header's registers have no second address. -/
theorem home_hdr (p : Nat) {o : Nat} (ho : o < 256) : home (hdr p o) = hdr p o := by
  unfold home hdr
  rw [if_neg (by omega), if_neg (by omega)]

theorem hdr_div_mod (a : Nat) : hdr (a / 4096) (a % 4096) = a := by
  unfold hdr
  omega

/-- The register and the fifteen after it have no second address. -/
def Unshared (a : Nat) : Prop := ∀ j, j < 16 → home (a + 4 * j) = a + 4 * j

theorem unshared_of_far {a : Nat} (h : 0x11800 ≤ a ∨ a + 64 ≤ 0x9100 ∨ (0x9808 < a ∧ a + 64 ≤ 0x11100)) : Unshared a := by
  intro j hj
  unfold home
  rw [if_neg (by omega), if_neg (by omega)]

/-! The pages of a lane. -/

theorem pageKind_lane : ∀ n : LaneIx, pageKind (0x100 + n.val) = some (.lane, n.val) := by decide
theorem pageKind_pwmg : ∀ n : LaneIx, pageKind (0x120 + n.val) = some (.pwmg, n.val) := by decide
theorem pageKind_fbk : ∀ n : LaneIx, pageKind (0x140 + n.val) = some (.fbk, n.val) := by decide

theorem pageOf_laneKind {m : Member} {p : Nat} {k : PageKind} {n : LaneIx} (h : pageKind p = some (k, n.val))
    (hk : k.isLane = true) (hn : n.val < memberLanes m) : pageOf m p = some (k, n.val) := by
  unfold pageOf
  rw [h]
  cases k <;> simp_all [PageKind.isLane]

@[simp] theorem ofNat_laneIx (n : LaneIx) : Fin.ofNat 16 n.val = n := Fin.ofNat_val_eq_self n

/-- Only the runtime region and the windows of a FENCED lane are answered from the spine's copy. -/
theorem State.fromCopy_unfenced {s : State} {k : PageKind} {n : LaneIx} (h : s.fenced n = false) (o : Nat) :
    s.fromCopy k n.val o = false := by
  simp [State.fromCopy, State.pageFenced, h]

theorem State.fromCopy_spine (s : State) {k : PageKind} (hk : k.isLane = false) (i o : Nat) : s.fromCopy k i o = false := by
  simp [State.fromCopy, State.pageFenced, hk]

end Sys2Proof.Machine

/-! What a host read does. -/
namespace Sys2Proof.Machine

/-! Settling a page before the host sees it. -/

/-- What settling the page of a lane may change. -/
def maySettle : May :=
  { fields := [.regs, .hirqLow, .banks, .pwm, .eng], pages := [], lanes := List.finRange 16 }

theorem State.settlePage_maySettle (s : State) (k : PageKind) (i : Nat) : Only maySettle s (s.settlePage k i) :=
  State.settlePage_only s k i (Only.refl _ _) (by decide) (by decide) (by decide) (by decide) (by decide)
    (fun n => List.mem_finRange n)

theorem State.settlePage_canon {s : State} (h : s.canon = true) (k : PageKind) (i : Nat) :
    (s.settlePage k i).canon = true := (State.settlePage_kept s k i (Kept.refl s)).canon h

@[simp] theorem State.settlePage_lanes (s : State) (k : PageKind) (i : Nat) : (s.settlePage k i).lanes = s.lanes :=
  (s.settlePage_maySettle k i).lanes.1 (by decide)

@[simp] theorem State.settlePage_member (s : State) (k : PageKind) (i : Nat) : (s.settlePage k i).member = s.member :=
  (s.settlePage_maySettle k i).member (by decide)

theorem State.settlePage_fromCopy (s : State) (k : PageKind) (i o : Nat) :
    (s.settlePage k i).fromCopy k i o = s.fromCopy k i o := by
  simp only [State.fromCopy, State.pageFenced, State.fenced, State.lane, State.settlePage_lanes]

/-- Settling a page writes runtime registers only. -/
theorem State.settlePage_reg {s : State} (h : s.canon = true) (k : PageKind) (i : Nat) {a : Nat}
    (ha : runtimeOff (a % 4096) = false) : (s.settlePage k i).reg a = s.reg a := by
  refine (s.settlePage_maySettle k i).reg_eq (State.canon_regs h) ?_
  rintro ⟨-, hcfg | hrun⟩
  · exact absurd hcfg (by decide)
  · rw [home_mod, ha] at hrun
    exact absurd hrun (by decide)

theorem State.settlePage_pageCtrl {s : State} (h : s.canon = true) (k : PageKind) (i p : Nat) :
    (s.settlePage k i).reg (hdr p HDR.PG_CTRL) = s.reg (hdr p HDR.PG_CTRL) := by
  apply State.settlePage_reg h
  rw [show hdr p HDR.PG_CTRL % 4096 = 4 by unfold hdr HDR.PG_CTRL; omega]
  decide

/-! The words that a read latches. -/

@[simp] theorem State.latchWords_nil (s : State) (a : Nat) : s.latchWords a [] = s := rfl

@[simp] theorem State.latchWords_cons (s : State) (a : Nat) (w : Word) (ws : List Word) :
    s.latchWords a (w :: ws) = (s.setReg a w).latchWords (a + 4) ws := rfl

theorem State.latchWords_regs_wf {s : State} (h : Sparse.wf regReset s.regs = true) (a : Nat) (ws : List Word) :
    Sparse.wf regReset (s.latchWords a ws).regs = true := by
  induction ws generalizing s a with
  | nil => exact h
  | cons w ws ih => exact ih (State.setReg_regs_wf h a w) (a + 4)

/-- A register below those that are latched keeps its word. -/
theorem State.latchWords_reg_below {s : State} (h : Sparse.wf regReset s.regs = true) {a b : Nat} (ws : List Word)
    (hb : home b < a) (hhome : ∀ j, j < ws.length → home (a + 4 * j) = a + 4 * j) :
    (s.latchWords a ws).reg b = s.reg b := by
  induction ws generalizing s a with
  | nil => rfl
  | cons w ws ih =>
    have ha : home a = a := hhome 0 (by simp)
    rw [State.latchWords_cons, ih (State.setReg_regs_wf h a w) (by omega) fun j hj => ?_]
    · exact State.reg_setReg_ne h w (by omega)
    · have := hhome (j + 1) (by simpa using hj)
      rw [show a + 4 + 4 * j = a + 4 * (j + 1) by omega, this]

/-- Each latched word stands in its register. -/
theorem State.latchWords_word {s : State} (h : Sparse.wf regReset s.regs = true) {a j : Nat} {w : Word} {ws : List Word}
    (hhome : ∀ j, j < ws.length → home (a + 4 * j) = a + 4 * j) (hw : ws[j]? = some w) :
    (s.latchWords a ws).reg (a + 4 * j) = w := by
  induction ws generalizing s a j with
  | nil => simp at hw
  | cons x ws ih =>
    have hrest : ∀ j, j < ws.length → home (a + 4 + 4 * j) = a + 4 + 4 * j := fun j hj => by
      have := hhome (j + 1) (by simpa using hj)
      rw [show a + 4 + 4 * j = a + 4 * (j + 1) by omega, this]
    rw [State.latchWords_cons]
    cases j with
    | zero =>
      obtain rfl : x = w := by simpa using hw
      have ha : home a = a := hhome 0 (by simp)
      show ((s.setReg a x).latchWords (a + 4) ws).reg a = x
      rw [State.latchWords_reg_below (State.setReg_regs_wf h a x) ws (by omega) hrest]
      exact State.reg_setReg_self h a x
    | succ j =>
      have := ih (State.setReg_regs_wf h a x) hrest (by simpa using hw)
      rwa [show a + 4 + 4 * j = a + 4 * (j + 1) by omega] at this

/-! What a block's own counters do at a read. -/

/-- A block's counters leave the register file as it is, except for LANEn.SQ_PEAK (R179). -/
theorem State.readBlock_regs (s : State) {k : PageKind} (i : Nat) {o : Nat} (w : Word) (h : ¬(k = .lane ∧ o = 0x884)) :
    (s.readBlock k i o w).regs = s.regs := by
  unfold State.readBlock
  split
  · rfl
  · cases k with
    | lane => simp_all
    | yew | pwr | hostq | clk | loop => dsimp only; (repeat' split) <;> rfl
    | _ => rfl

theorem State.readBlock_sqPeak (s : State) (n : LaneIx) (w : Word) :
    s.readBlock .lane n.val 0x884 w = s.setFld ⟨LANE.SQ_PEAK n, 6, 0⟩ (s.lane n).occ := by
  simp [State.readBlock, State.progOpen, HDR.PG_PROG_PCT]

theorem State.readSide_regs (s : State) (p : Nat) {k : PageKind} (i : Nat) {o : Nat} (d : RegDef) (w : Word)
    (h : ¬(k = .lane ∧ o = 0x884)) :
    (s.readSide p k i o d w).regs = (if d.rc = 0 then s.latchWords (p * 4096 + o + 4) (s.latched k i o)
      else (s.latchWords (p * 4096 + o + 4) (s.latched k i o)).clearBits (p * 4096 + o) d.rc).regs := by
  unfold State.readSide
  rw [State.readBlock_regs _ _ _ h]

/-! A read that the block itself answers (R11, R14). -/
section LiveRead

variable {s : State} {a : Nat} {k : PageKind} {i : Nat} {d : RegDef}

/-- The word that the block answers a read of the address with. -/
def State.liveWord (s : State) (a : Nat) (k : PageKind) (i : Nat) : Word :=
  (s.settlePage k i).liveView (a / 4096) k i (a % 4096)

/-- A register that the host may read live, of a page that answers from the block itself, and not a mailbox's MBXk_RX. -/
structure LiveRead (s : State) (a : Nat) (k : PageKind) (i : Nat) (d : RegDef) : Prop where
  canon : s.canon = true
  running : s.running = true
  rom : s.romFail = false
  unfrozen : a % 4096 < 0xC00 → (s.reg (hdr (a / 4096) HDR.PG_CTRL)).toNat.testBit 2 = false
  page : pageOf s.member (a / 4096) = some (k, i)
  reg : findReg k (a % 4096) = some d
  live : s.fromCopy k i (a % 4096) = false
  notRx : ¬(k = .mbox ∧ 0x814 ≤ a % 4096 ∧ a % 4096 % 16 = 4)

theorem LiveRead.at (h : LiveRead s a k i d) (t : Time) : LiveRead (s.at t) a k i d :=
  ⟨h.canon, h.running, h.rom, h.unfrozen, h.page, h.reg, h.live, h.notRx⟩

theorem LiveRead.view_eq (h : LiveRead s a k i d) :
    (s.settlePage k i).view (a / 4096) k i (a % 4096) = s.liveWord a k i := by
  have hfreeze := h.unfrozen
  rw [← State.settlePage_pageCtrl h.canon k i] at hfreeze
  unfold State.view State.liveWord
  rw [if_neg (by rintro ⟨hbit, -, hlt⟩; rw [hfreeze hlt] at hbit; cases hbit), State.settlePage_fromCopy, h.live]
  rfl

theorem LiveRead.not_quiet (h : LiveRead s a k i d) : s.readQuiet (a / 4096) k i (a % 4096) = false := by
  have hfreeze := h.unfrozen
  simp only [State.readQuiet, h.live, Bool.or_false, Bool.and_eq_false_iff, decide_eq_false_iff_not]
  by_cases hlt : a % 4096 < 0xC00
  · exact Or.inl (Or.inl (hfreeze hlt))
  · exact Or.inr hlt

/-- Such a read answers the live word of the settled page and has the read's side effects. -/
theorem LiveRead.rowRead_eq (h : LiveRead s a k i d) :
    s.rowRead a = { (s.settlePage k i).readSide (a / 4096) k i (a % 4096) d (s.liveWord a k i) with
      lastRead := s.liveWord a k i } := by
  unfold State.rowRead State.hostRead
  rw [if_pos (by simp [h.running, State.answers, h.rom]), h.page]
  dsimp only
  rw [h.reg]
  dsimp only
  rw [h.not_quiet, if_neg Bool.false_ne_true, if_neg h.notRx, h.view_eq]

theorem LiveRead.lastRead_eq (h : LiveRead s a k i d) : (s.rowRead a).lastRead = s.liveWord a k i := by
  rw [h.rowRead_eq]

theorem LiveRead.regs_eq (h : LiveRead s a k i d) : (s.rowRead a).regs =
    ((s.settlePage k i).readSide (a / 4096) k i (a % 4096) d (s.liveWord a k i)).regs := by
  rw [h.rowRead_eq]

theorem LiveRead.settled_wf (h : LiveRead s a k i d) : Sparse.wf regReset (s.settlePage k i).regs = true :=
  State.canon_regs (State.settlePage_canon h.canon k i)

theorem addr_div_mod (a : Nat) : a / 4096 * 4096 + a % 4096 = a := by omega

/-- RC fields read 0 after the read. -/
theorem LiveRead.rc_cleared (h : LiveRead s a k i d) (hk : ¬(k = .lane ∧ a % 4096 = 0x884)) :
    (s.rowRead a).reg a &&& wd d.rc = 0 := by
  have hregs := h.regs_eq.trans (State.readSide_regs _ _ _ _ _ hk)
  rw [State.reg_congr hregs, addr_div_mod]
  split
  · next hrc => rw [hrc]; exact BitVec.and_zero
  · rw [State.clearBits, State.reg_setReg_self (State.latchWords_regs_wf h.settled_wf _ _)]
    ext b
    simp

/-- The registers after it hold the latched words. -/
theorem LiveRead.latched_reg (h : LiveRead s a k i d) (hk : ¬(k = .lane ∧ a % 4096 = 0x884)) (hrc : d.rc = 0)
    (hun : Unshared a) (hlen : ((s.settlePage k i).latched k i (a % 4096)).length < 16) {j : Nat} {w : Word}
    (hw : ((s.settlePage k i).latched k i (a % 4096))[j]? = some w) : (s.rowRead a).reg (a + 4 * (j + 1)) = w := by
  have hregs := h.regs_eq.trans (State.readSide_regs _ _ _ _ _ hk)
  rw [State.reg_congr hregs, if_pos hrc, addr_div_mod, show a + 4 * (j + 1) = a + 4 + 4 * j by omega]
  refine State.latchWords_word h.settled_wf (fun j hj => ?_) hw
  have := hun (j + 1) (by omega)
  rw [show a + 4 + 4 * j = a + 4 * (j + 1) by omega, this]

end LiveRead

end Sys2Proof.Machine

/-! Reads that latch: what the read answers and what the registers after it hold (R11). -/
namespace Sys2Proof.Machine

variable {s : State} {a : Nat} {k : PageKind} {i : Nat} {d : RegDef} {w : Word}

/-- A readable register of a page of the spine. -/
theorem LiveRead.spine (hc : s.canon = true) (hr : Readable s a) (hp : pageOf s.member (a / 4096) = some (k, i))
    (hd : findReg k (a % 4096) = some d) (hk : k.isLane = false) (hm : k ≠ .mbox) : LiveRead s a k i d :=
  ⟨hc, hr.1, hr.2.1, hr.2.2, hp, hd, State.fromCopy_spine s hk _ _, fun h => hm h.1⟩

/-- A readable register of a page of a lane that is not FENCED. -/
theorem LiveRead.lane {p o : Nat} {n : LaneIx} (hc : s.canon = true) (hr : Readable s a) (ha : a = p * 4096 + o)
    (ho : o < 4096) (hp : pageKind p = some (k, n.val)) (hk : k.isLane = true) (hn : s.hasLane n = true)
    (hf : s.fenced n = false) (hd : findReg k o = some d) : LiveRead s a k n.val d := by
  have hdiv : a / 4096 = p := by omega
  have hmod : a % 4096 = o := by omega
  refine ⟨hc, hr.1, hr.2.1, hr.2.2, ?_, ?_, State.fromCopy_unfenced hf _, ?_⟩
  · rw [hdiv]; exact pageOf_laneKind hp hk (of_decide_eq_true hn)
  · rw [hmod]; exact hd
  · rintro ⟨rfl, -⟩; cases hk

/-- No read latches more than fifteen words. -/
theorem State.latched_length_lt (s : State) (k : PageKind) (i o : Nat) : (s.latched k i o).length < 16 := by
  have hsq : ∀ e, (sqWords e).length < 16 := by rintro (_ | e) <;> simp [sqWords]
  have hsol : ∀ x, (solWords x).length < 16 := by rintro (_ | x) <;> simp [solWords]
  cases k with
  | lane =>
    simp only [State.latched]
    split
    · exact hsq _
    · split <;> simp
  | gnss =>
    simp only [State.latched]
    split
    · exact hsol _
    · split <;> simp
  | _ => simp only [State.latched]; (repeat' split) <;> simp

/-- A register without WO bits answers the live value that its block reports, or its stored word. -/
theorem LiveRead.liveWord_getD {o : Nat} (h : LiveRead s a k i d) (ho : a % 4096 = o) (hlo : 0x2C ≤ o) (hwo : d.wo = 0) :
    s.liveWord a k i = ((s.settlePage k i).liveReg k i o).getD ((s.settlePage k i).reg a) := by
  have hreg := h.reg
  unfold State.liveWord State.liveView
  rw [addr_div_mod, ho] at *
  rw [if_neg (by omega), hreg]
  show _ &&& ~~~ (wd d.wo) = _
  rw [hwo]
  exact BitVec.and_allOnes

/-- A latching register without WO and RC bits: the read answers the live value, and the registers after it hold the words
that the same state gives. -/
theorem LiveRead.latching {o : Nat} (h : LiveRead s a k i d) (ho : a % 4096 = o) (hlo : 0x2C ≤ o) (hpeak : o ≠ 0x884)
    (hwo : d.wo = 0) (hrc : d.rc = 0) (hun : Unshared a) (hw : (s.settlePage k i).liveReg k i o = some w) :
    (s.rowRead a).lastRead = w ∧
      ∀ j x, ((s.settlePage k i).latched k i o)[j]? = some x → (s.rowRead a).reg (a + 4 * (j + 1)) = x := by
  have hword : s.liveWord a k i = w := by rw [h.liveWord_getD ho hlo hwo, hw, Option.getD_some]
  refine ⟨h.lastRead_eq.trans hword, fun j x hx => ?_⟩
  exact h.latched_reg (fun e => hpeak (ho ▸ e.2)) hrc hun (State.latched_length_lt _ _ _ _) (ho ▸ hx)

/-! The pages of the spine. -/

/-- Settling changes nothing on a page that is neither an outlet page nor a generator page. -/
theorem State.settlePage_eq (s : State) {k : PageKind} (i : Nat) (h1 : k ≠ .outl) (h2 : k ≠ .pwmg) :
    s.settlePage k i = s := by
  cases k with
  | outl => exact absurd rfl h1
  | pwmg => exact absurd rfl h2
  | _ => rfl

/-- A latching read of a spine page with registers of its own (no second address). -/
theorem spineRead {o : Nat} (hc : s.canon = true) (hr : Readable s a) (hp : pageOf s.member (a / 4096) = some (k, i))
    (ho : a % 4096 = o) (hd : findReg k o = some d) (hk : k.isLane = false) (hm : k ≠ .mbox)
    (hlo : 0x2C ≤ o ∧ o ≠ 0x884 ∧ d.wo = 0 ∧ d.rc = 0) (hun : Unshared a) (hw : s.liveReg k i o = some w) :
    (s.rowRead a).lastRead = w ∧ ∀ j x, (s.latched k i o)[j]? = some x → (s.rowRead a).reg (a + 4 * (j + 1)) = x := by
  have hset : s.settlePage k i = s := s.settlePage_eq i (by rintro rfl; cases hk) (by rintro rfl; cases hk)
  have h := (LiveRead.spine hc hr hp (ho ▸ hd) hk hm).latching ho hlo.1 hlo.2.1 hlo.2.2.1 hlo.2.2.2 hun
    (hset.symm ▸ hw)
  rwa [hset] at h

end Sys2Proof.Machine

namespace Sys2Proof.Machine

/-! The latching registers of the spine (R66, R78, R118, R150, R304, R319, R320, R371, R406, R425, R427). -/
section Spine

variable (t : Time) {s : State}

theorem poseCur0_answers (hc : s.canon = true) (hr : Readable s (POSE.POSE_CUR 0)) :
    Answers (.poseCur0 t) s fun u => u.lastRead = wd (leAt s.pose.cur.bytes 0 4) ∧
      ∀ m, 1 ≤ m → m < 16 → u.reg (POSE.POSE_CUR m) = wd (leAt s.pose.cur.bytes (4 * m) 4) := by
  obtain ⟨hlast, hlatch⟩ := spineRead (s := s.at t) (k := .pose) (i := 0) (o := 0x840) hc hr rfl rfl rfl rfl nofun
    (by decide) (unshared_of_far (by decide)) rfl
  refine ⟨_, rfl, hlast, fun m hm hm' => ?_⟩
  obtain ⟨m, rfl⟩ : ∃ j, m = j + 1 := ⟨m - 1, by omega⟩
  exact hlatch m _ (by simp [State.latched, List.getElem?_range (show m < 15 by omega)])

theorem geomTrvLo_answers (hc : s.canon = true) (hr : Readable s GEOM.GEOM_TRV_LO) :
    Answers (.geomTrvLo t) s fun u => u.lastRead = wd s.trvSel.t ∧ u.reg GEOM.GEOM_TRV_HI = wd (s.trvSel.t / 4294967296) ∧
      u.reg 0x1AC0C = wdI s.trvSel.s ∧ u.reg GEOM.GEOM_TRV_RES = wd s.trvSel.r := by
  obtain ⟨hlast, hlatch⟩ := spineRead (s := s.at t) (k := .geom) (i := 0) (o := 0xC04) hc hr rfl rfl rfl rfl nofun
    (by decide) (unshared_of_far (by decide)) rfl
  exact ⟨_, rfl, hlast, hlatch 0 _ rfl, hlatch 1 _ rfl, hlatch 2 _ rfl⟩

theorem slotStat_answers (hc : s.canon = true) (hr : Readable s MAP.SLOT_STAT) :
    Answers (.slotStat t) s fun u => u.lastRead = slotStatWord s.slotSel ∧ u.reg MAP.SLOT_COL = wdI s.slotSel.tc ∧
      u.reg MAP.SLOT_ROW = wdI s.slotSel.tr := by
  obtain ⟨hlast, hlatch⟩ := spineRead (s := s.at t) (k := .map) (i := 0) (o := 0xC04) hc hr rfl rfl rfl rfl nofun
    (by decide) (unshared_of_far (by decide)) rfl
  exact ⟨_, rfl, hlast, hlatch 0 _ rfl, hlatch 1 _ rfl⟩

theorem outLead_answers {x : OutFpe} (hc : s.canon = true) (hr : Readable s FPE.OUT_LEAD)
    (hx : s.fo (s.idxOf FPE.OUT_IDX 128) = x) :
    Answers (.outLead t) s fun u => u.lastRead = wd x.lead ∧ u.reg FPE.OUT_FLOW = wd x.flow ∧ u.reg FPE.OUT_VALUE = wd x.duty ∧
      u.reg FPE.OUT_FREE = wd x.free ∧ u.reg FPE.OUT_WIN_LO = wd (x.win.getD 0) ∧
      u.reg FPE.OUT_WIN_HI = wd (x.win.getD 0 / 4294967296 % 65536) := by
  subst hx
  obtain ⟨hlast, hlatch⟩ := spineRead (s := s.at t) (k := .fpe) (i := 0) (o := 0xC04) hc hr rfl rfl rfl rfl nofun
    (by decide) (unshared_of_far (by decide)) rfl
  exact ⟨_, rfl, hlast, hlatch 0 _ rfl, hlatch 1 _ rfl, hlatch 2 _ rfl, hlatch 3 _ rfl, hlatch 4 _ rfl⟩

/-- The page of a half's GNSS port, with its index. -/
theorem pageOf_gnss {m : Member} {h : Half} (hm : h.ix.val < memberHalves m) :
    pageOf m (0x10 + h.ix.val) = some (.gnss, h.ix.val) := by
  cases h <;> exact if_pos hm

@[simp] theorem halfIx_ix (h : Half) : halfIx h.ix.val = h := by cases h <;> rfl

/-- A read that latches on the page of a half's GNSS port. -/
theorem gnssRead {h : Half} {o : Nat} {d : RegDef} {w : Word} (hc : s.canon = true)
    (hr : Readable s ((0x10 + h.ix.val) * 4096 + o)) (hm : h.ix.val < memberHalves s.member)
    (ho : 0x800 ≤ o ∧ o + 64 ≤ 4096) (hd : findReg .gnss o = some d) (hp : o ≠ 0x884 ∧ d.wo = 0 ∧ d.rc = 0)
    (hw : s.viewGnss h o = some w) :
    (s.rowRead ((0x10 + h.ix.val) * 4096 + o)).lastRead = w ∧
      ∀ j x, (s.latched .gnss h.ix.val o)[j]? = some x →
        (s.rowRead ((0x10 + h.ix.val) * 4096 + o)).reg ((0x10 + h.ix.val) * 4096 + o + 4 * (j + 1)) = x := by
  have hix : h.ix.val < 2 := h.ix.isLt
  refine spineRead (k := .gnss) (i := h.ix.val) hc hr ?_ (by omega) hd rfl nofun ⟨by omega, hp⟩
    (unshared_of_far (by omega)) ?_
  · rw [show ((0x10 + h.ix.val) * 4096 + o) / 4096 = 0x10 + h.ix.val by omega]
    exact pageOf_gnss hm
  · rw [State.liveReg, halfIx_ix]
    exact hw

theorem solTimeLo_answers {h : Half} (hc : s.canon = true) (hr : Readable s (GNSS.SOL_TIME_LO h.ix))
    (hm : h.ix.val < memberHalves s.member) :
    (∀ x, s.gnss.sol.get h.ix = some x → Answers (.solTimeLo t h) s fun u => u.lastRead = x.time.setWidth 32 ∧
      u.reg (GNSS.SOL_TIME_HI h.ix) = wd (x.time.toNat / 4294967296) ∧ u.reg (GNSS.SOL_E h.ix) = x.e ∧
      u.reg (GNSS.SOL_N h.ix) = x.n ∧ u.reg (GNSS.SOL_U h.ix) = x.u ∧
      u.reg (GNSS.SOL_ACC h.ix) = wd (x.vAcc.toNat * 65536 + x.hAcc.toNat) ∧
      u.reg (GNSS.SOL_AGE h.ix) = wd (x.refStn.toNat * 65536 + x.corrAge.toNat)) ∧
    (s.gnss.sol.get h.ix = none → Answers (.solTimeLo t h) s fun u => u.lastRead = 0 ∧ u.reg (GNSS.SOL_E h.ix) = 0) := by
  obtain ⟨hlast, hlatch⟩ := gnssRead (s := s.at t) (h := h) (o := 0x810) hc hr hm (by decide) rfl (by decide) rfl
  have hwords : (s.at t).latched .gnss h.ix.val 0x810 = solWords (s.gnss.sol.get h.ix) := by
    simp [State.latched]
  rw [hwords] at hlatch
  constructor
  · intro x hx
    simp only [State.at_gnss, hx] at hlast hlatch
    exact ⟨_, rfl, hlast, hlatch 0 _ rfl, hlatch 1 _ rfl, hlatch 2 _ rfl, hlatch 3 _ rfl, hlatch 4 _ rfl, hlatch 5 _ rfl⟩
  · intro hx
    simp only [State.at_gnss, hx] at hlast hlatch
    exact ⟨_, rfl, hlast, hlatch 1 _ rfl⟩

theorem chStat_answers {h : Half} (hc : s.canon = true) (hr : Readable s (GNSS.CH_STAT h.ix))
    (hm : h.ix.val < memberHalves s.member) :
    Answers (.chStat t h) s fun u =>
      u.lastRead = wd ((s.chSel h).epoch.toNat * 65536 + (s.chSel h).st.code * 8192 + (s.chSel h).sig % 16 * 256 + (s.chSel h).sv % 256) ∧
      u.reg (GNSS.CH_MEAS h.ix) = wd ((s.chSel h).cn0 * 65536 + (s.chSel h).lock % 65536) := by
  obtain ⟨hlast, hlatch⟩ := gnssRead (s := s.at t) (h := h) (o := 0xC04) hc hr hm (by decide) rfl (by decide) rfl
  exact ⟨_, rfl, hlast, hlatch 0 _ (by simp [State.latched]; rfl)⟩

theorem tpNextRtLo_answers (hc : s.canon = true) (hr : Readable s TPLS.TP_NEXT_RT_LO) :
    Answers (.tpNextRtLo t) s fun u => u.lastRead = wd s.time.nextRt ∧
      u.reg TPLS.TP_NEXT_RT_HI = wd (s.time.nextRt / 4294967296) := by
  obtain ⟨hlast, hlatch⟩ := spineRead (s := s.at t) (k := .tpls) (i := 0) (o := 0x814) hc hr rfl rfl rfl rfl nofun
    (by decide) (unshared_of_far (by decide)) rfl
  exact ⟨_, rfl, hlast, hlatch 0 _ rfl⟩

theorem rtNowLo_answers (hc : s.canon = true) (hr : Readable s RTIME.RT_NOW_LO) :
    Answers (.rtNowLo t) s fun u => u.lastRead = wd (max s.now t / 1000) ∧
      u.reg RTIME.RT_NOW_HI = wd (max s.now t / 1000 / 4294967296) := by
  obtain ⟨hlast, hlatch⟩ := spineRead (s := s.at t) (k := .rtime) (i := 0) (o := 0x808) hc hr rfl rfl rfl rfl nofun
    (by decide) (unshared_of_far (by decide)) rfl
  exact ⟨_, rfl, hlast, hlatch 0 _ rfl⟩

theorem flushRtLo_answers (hc : s.canon = true) (hr : Readable s YEW.FLUSH_RT_LO) :
    Answers (.flushRtLo t) s fun u => u.lastRead = wd (s.yewPort.flushRt / nsPs) ∧
      u.reg YEW.FLUSH_RT_HI = wd (s.yewPort.flushRt / nsPs / 4294967296) := by
  obtain ⟨hlast, hlatch⟩ := spineRead (s := s.at t) (k := .yew) (i := 0) (o := 0x820) hc hr rfl rfl rfl rfl nofun
    (by decide) (unshared_of_far (by decide)) rfl
  exact ⟨_, rfl, hlast, hlatch 0 _ rfl⟩

theorem recW0_answers (hc : s.canon = true) (hr : Readable s (YEW.REC_W 0)) :
    Answers (.recW0 t) s fun u => u.lastRead = s.recWord 0 ∧ ∀ j, 1 ≤ j → j < 8 → u.reg (YEW.REC_W j) = s.recWord j := by
  obtain ⟨hlast, hlatch⟩ := spineRead (s := s.at t) (k := .yew) (i := 0) (o := 0xC14) hc hr rfl rfl rfl rfl nofun
    (by decide) (unshared_of_far (by decide)) rfl
  refine ⟨_, rfl, hlast, fun j hj hj' => ?_⟩
  obtain ⟨j, rfl⟩ : ∃ i, j = i + 1 := ⟨j - 1, by omega⟩
  have hword : ((s.at t).latched .yew 0 0xC14)[j]? = some ((s.at t).recWord (j + 1)) := by
    simp [State.latched, List.getElem?_range (show j < 7 by omega)]
  exact hlatch j _ hword

theorem qItems_answers (hc : s.canon = true) (hr : Readable s HOSTQ.Q_ITEMS) :
    Answers (.qItems t) s fun u => u.lastRead = wd (s.q s.qIdx).passed ∧ u.reg HOSTQ.Q_DROP = wd (s.q s.qIdx).drops ∧
      u.dropQ = s.qIdx := by
  obtain ⟨hlast, hlatch⟩ := spineRead (s := s.at t) (k := .hostq) (i := 0) (o := 0xC04) hc hr rfl rfl rfl rfl nofun
    (by decide) (unshared_of_far (by decide)) rfl
  refine ⟨_, rfl, hlast, hlatch 0 _ rfl, ?_⟩
  have h : LiveRead (s.at t) HOSTQ.Q_ITEMS .hostq 0 _ := LiveRead.spine hc hr rfl rfl rfl nofun
  rw [h.rowRead_eq]
  show ((s.at t).setReg HOSTQ.Q_DROP _).qIdx = s.qIdx
  unfold State.qIdx State.idxOf
  rw [State.reg_setReg_ne (s := s.at t) (State.canon_regs hc) _ (by decide), State.reg_at]

end Spine

/-- Settles O6: each read is a latching read of its page (`spineRead`). -/
theorem spineReads : Obligations.SpineReads := by
  unfold Obligations.SpineReads
  exact ⟨fun t _ hc hr => poseCur0_answers t hc hr, fun t _ hc hr => geomTrvLo_answers t hc hr,
    fun t _ hc hr => slotStat_answers t hc hr, fun t _ _ hc hr hx => outLead_answers t hc hr hx,
    fun t _ _ hc hr hm => solTimeLo_answers t hc hr hm, fun t _ _ hc hr hm => chStat_answers t hc hr hm,
    fun t _ hc hr => tpNextRtLo_answers t hc hr, fun t _ hc hr => rtNowLo_answers t hc hr,
    fun t _ hc hr => flushRtLo_answers t hc hr, fun t _ hc hr => recW0_answers t hc hr,
    fun t _ hc hr => qItems_answers t hc hr⟩

/-! The latching registers of a lane's pages (R179, R249, R293). -/
section Lane

variable (t : Time) {s : State} {n : LaneIx}

/-- A latching read of a page of a lane that is not FENCED, other than its outlet and generator pages. -/
theorem lanePageRead {k : PageKind} {p o : Nat} {d : RegDef} {w : Word} (hc : s.canon = true)
    (hr : Readable s (p * 4096 + o)) (hn : s.hasLane n = true) (hf : s.fenced n = false) (hp : pageKind p = some (k, n.val))
    (hk : k.isLane = true ∧ k ≠ .outl ∧ k ≠ .pwmg) (hfar : 0x12 ≤ p) (hd : findReg k o = some d)
    (ho : 0x2C ≤ o ∧ o < 4096 ∧ o ≠ 0x884 ∧ d.wo = 0 ∧ d.rc = 0) (hw : s.liveReg k n.val o = some w) :
    (s.rowRead (p * 4096 + o)).lastRead = w ∧
      ∀ j x, (s.latched k n.val o)[j]? = some x → (s.rowRead (p * 4096 + o)).reg (p * 4096 + o + 4 * (j + 1)) = x := by
  obtain ⟨hlo, hhi, hpeak, hwo, hrc⟩ := ho
  have hset : s.settlePage k n.val = s := s.settlePage_eq n.val hk.2.1 hk.2.2
  have h := (LiveRead.lane hc hr rfl hhi hp hk.1 hn hf hd).latching (o := o) (by omega) hlo hpeak hwo hrc
    (unshared_of_far (by omega)) (hset.symm ▸ hw)
  rwa [hset] at h

/-- The fields of SQ_E1 as its word packs them. -/
theorem sqE1_fields {w : Word} {st o ty c x : Nat} (hst : st < 4) (ho : o < 8) (hty : ty < 4) (hc : c < 8) (hx : x < 65536)
    (hw : w = wd (st * 1073741824 + o * 67108864 + ty * 16777216 + c * 2097152 + x)) :
    w.toNat / 1073741824 = st ∧ bf w.toNat 28 26 = o ∧ bf w.toNat 25 24 = ty ∧ bf w.toNat 23 21 = c ∧
      w.toNat % 65536 = x := by
  have hnat : w.toNat = st * 1073741824 + o * 67108864 + ty * 16777216 + c * 2097152 + x := by
    rw [hw, wd, BitVec.toNat_ofNat]
    exact Nat.mod_eq_of_lt (by omega)
  simp only [hnat, bf, Nat.shiftRight_eq_div_pow]
  simp only [Nat.reducePow, Nat.reduceAdd, Nat.reduceSub]
  omega

theorem sqE0_answers (hc : s.canon = true) (hr : Readable s (LANE.SQ_E0 n)) (hn : s.hasLane n = true)
    (hf : s.fenced n = false) :
    (s.sqSel n = none → Answers (.sqE0 t n) s fun u => u.lastRead = 0 ∧ u.reg (LANE.SQ_E1 n) = 0 ∧ u.reg (LANE.SQ_E2 n) = 0 ∧
      u.reg (LANE.SQ_E3 n) = 0) ∧
    (∀ e, s.sqSel n = some e → Answers (.sqE0 t n) s fun u => u.lastRead = wd e.xv ∧
      (u.reg (LANE.SQ_E1 n)).toNat / 1073741824 = (match e.st with | .waiting => 1 | .armed => 2) ∧
      bf (u.reg (LANE.SQ_E1 n)).toNat 28 26 = e.outlet.val ∧ bf (u.reg (LANE.SQ_E1 n)).toNat 25 24 = e.typ.code ∧
      bf (u.reg (LANE.SQ_E1 n)).toNat 23 21 = e.cls.toNat ∧ (u.reg (LANE.SQ_E1 n)).toNat % 65536 = e.xv / 4294967296 % 65536 ∧
      u.reg (LANE.SQ_E2 n) = wd (e.val % 16777216) ∧ u.reg (LANE.SQ_E3 n) = wdI (satS 32 e.c)) := by
  obtain ⟨hlast, hlatch⟩ := lanePageRead (s := s.at t) (k := .lane) (o := 0xC04) hc hr hn hf (pageKind_lane n) (by decide)
    (by omega) rfl (by decide) (by rw [State.liveReg, ofNat_laneIx]; rfl)
  have hwords : (s.at t).latched .lane n.val 0xC04 = sqWords (s.sqSel n) := by
    simp [State.latched]
    rfl
  rw [hwords] at hlatch
  have hsel : (s.at t).sqSel n = s.sqSel n := rfl
  constructor
  · intro he
    rw [he] at hlatch hsel
    simp only [hsel] at hlast
    exact ⟨_, rfl, hlast, hlatch 0 _ rfl, hlatch 1 _ rfl, hlatch 2 _ rfl⟩
  · intro e he
    rw [he] at hlatch hsel
    simp only [hsel] at hlast
    have hst : (match e.st with | .waiting => 1 | .armed => 2) < 4 := by cases e.st <;> decide
    have hty : e.typ.code < 4 := by cases e.typ <;> decide
    obtain ⟨hstate, hout, htyp, hcls, hxv⟩ :=
      sqE1_fields hst e.outlet.isLt hty e.cls.isLt (Nat.mod_lt (e.xv / 4294967296) (by decide)) (hlatch 0 _ rfl)
    exact ⟨_, rfl, hlast, hstate, hout, htyp, hcls, hxv, hlatch 1 _ rfl, hlatch 2 _ rfl⟩

theorem ltrvLo_answers (hc : s.canon = true) (hr : Readable s (LANE.LTRV_LO n)) (hn : s.hasLane n = true)
    (hf : s.fenced n = false) :
    Answers (.ltrvLo t n) s fun u => u.lastRead = wd (s.ltrvSel n).tl ∧
      u.reg (LANE.LTRV_HI n) = wd ((s.ltrvSel n).tl / 4294967296) ∧ u.reg (LANE.LTRV_SPD n) = wdI (s.ltrvSel n).sk := by
  obtain ⟨hlast, hlatch⟩ := lanePageRead (s := s.at t) (k := .lane) (o := 0xC24) hc hr hn hf (pageKind_lane n) (by decide)
    (by omega) rfl (by decide) (by rw [State.liveReg, ofNat_laneIx]; rfl)
  have hwords : (s.at t).latched .lane n.val 0xC24 = [wd ((s.ltrvSel n).tl / 4294967296), wdI (s.ltrvSel n).sk] := by
    simp [State.latched]
    exact ⟨rfl, rfl⟩
  rw [hwords] at hlatch
  exact ⟨_, rfl, hlast, hlatch 0 _ rfl, hlatch 1 _ rfl⟩

theorem findReg_perAct (g : Fin 4) : findReg .pwmg (0x880 + 8 * g.val) =
    some { off := 0x880, n1 := 4, s1 := 8, rst := 320000 } := by
  revert g
  decide

theorem State.viewPwmg_perAct (s : State) (n : LaneIx) (g : Fin 4) :
    s.viewPwmg n (0x880 + 8 * g.val) = some (wd (s.gen n g).perAct) := by
  match g with
  | 0 | 1 | 2 | 3 => rfl

theorem State.latched_perAct (s : State) (n : LaneIx) (g : Fin 4) :
    s.latched .pwmg n.val (0x880 + 8 * g.val) = [wd (s.gen n g).cmpAct] := by
  rw [State.latched, ofNat_laneIx]
  match g with
  | 0 | 1 | 2 | 3 => rfl

/-- The generators are settled before the host sees them (R239, R249). -/
theorem gPerAct_answers {g : Fin 4} (hc : s.canon = true) (hr : Readable s (PWMG.G_PER_ACT n g)) (hn : s.hasLane n = true)
    (hf : s.fenced n = false) :
    Answers (.gPerAct t n g) s fun u => u.lastRead = wd (((s.at t).pwmNow n).gen n g).perAct ∧
      u.reg (PWMG.G_CMP_ACT n g) = wd (((s.at t).pwmNow n).gen n g).cmpAct := by
  have haddr : PWMG.G_PER_ACT n g = (0x120 + n.val) * 4096 + (0x880 + 8 * g.val) := by unfold PWMG.G_PER_ACT; omega
  have hnext : PWMG.G_CMP_ACT n g = PWMG.G_PER_ACT n g + 4 * (0 + 1) := by
    unfold PWMG.G_CMP_ACT PWMG.G_PER_ACT
    omega
  have hset : (s.at t).settlePage .pwmg n.val = (s.at t).pwmNow n := by simp [State.settlePage]
  have h : LiveRead (s.at t) (PWMG.G_PER_ACT n g) .pwmg n.val _ :=
    LiveRead.lane hc hr haddr (by omega) (pageKind_pwmg n) rfl hn hf (findReg_perAct g)
  obtain ⟨hlast, hlatch⟩ := h.latching (o := 0x880 + 8 * g.val) (by omega) (by omega) (by omega) rfl rfl
    (unshared_of_far (by omega)) (by rw [hset, State.liveReg, ofNat_laneIx]; exact State.viewPwmg_perAct _ n g)
  rw [hset, State.latched_perAct] at hlatch
  exact ⟨_, rfl, hlast, hnext ▸ hlatch 0 _ rfl⟩

theorem fbkPos_answers (hc : s.canon = true) (hr : Readable s (FBK.POS n)) (hn : s.hasLane n = true)
    (hf : s.fenced n = false) :
    Answers (.fbkPos t n) s fun u => u.lastRead = wdI (s.fbkOf n).posPub ∧ u.reg (FBK.SPD n) = wdI (s.fbkOf n).spd ∧
      u.reg (FBK.FREQ n) = wd (s.fbkOf n).freq := by
  obtain ⟨hlast, hlatch⟩ := lanePageRead (s := s.at t) (k := .fbk) (o := 0x808) hc hr hn hf (pageKind_fbk n) (by decide)
    (by omega) rfl (by decide) (by rw [State.liveReg, ofNat_laneIx]; rfl)
  have hwords : (s.at t).latched .fbk n.val 0x808 = [wdI (s.fbkOf n).spd, wd (s.fbkOf n).freq] := by
    rw [State.latched, ofNat_laneIx]
    rfl
  rw [hwords] at hlatch
  exact ⟨_, rfl, hlast, hlatch 0 _ rfl, hlatch 1 _ rfl⟩

end Lane

/-- Settles O7: each read is a latching read of its lane's page; the generators' page is settled first. -/
theorem laneReads : Obligations.LaneReads := by
  unfold Obligations.LaneReads
  exact ⟨fun t _ _ hc hr hn hf => sqE0_answers t hc hr hn hf, fun t _ _ hc hr hn hf => ltrvLo_answers t hc hr hn hf,
    fun t _ _ _ hc hr hn hf => gPerAct_answers t hc hr hn hf, fun t _ _ hc hr hn hf => fbkPos_answers t hc hr hn hf⟩

end Sys2Proof.Machine

namespace Sys2Proof.Machine

/-! Fields: what a field reads after it was set. -/

/-- The number with its bits [hi:lo] replaced, as quotient, new bits and remainder. -/
theorem setBf_eq (x hi lo v : Nat) : setBf x hi lo v =
    (x / 2 ^ lo / 2 ^ (hi + 1 - lo) * 2 ^ (hi + 1 - lo) + v % 2 ^ (hi + 1 - lo)) * 2 ^ lo + x % 2 ^ lo := by
  unfold setBf bf
  simp only [Nat.shiftLeft_eq, Nat.shiftRight_eq_div_pow]
  generalize hL : 2 ^ lo = L
  generalize hW : 2 ^ (hi + 1 - lo) = W
  have hx : x = (x / L / W * W + x / L % W) * L + x % L := by
    rw [Nat.div_add_mod', Nat.div_add_mod']
  have hsplit : x - x / L % W * L = x / L / W * W * L + x % L := by
    rw [Nat.add_mul] at hx
    omega
  rw [hsplit, Nat.add_mul]
  omega

theorem bf_setBf (x hi lo v : Nat) : bf (setBf x hi lo v) hi lo = v % 2 ^ (hi + 1 - lo) := by
  rw [setBf_eq, bf, Nat.shiftRight_eq_div_pow, Nat.add_comm, Nat.add_mul_div_right _ _ (Nat.two_pow_pos lo),
    Nat.div_eq_of_lt (Nat.mod_lt _ (Nat.two_pow_pos lo)), Nat.zero_add, Nat.mul_add_mod', Nat.mod_mod]

theorem setBf_lt {x hi lo : Nat} (v : Nat) (hx : x < 2 ^ 32) (hlo : lo ≤ hi) (hhi : hi < 32) : setBf x hi lo v < 2 ^ 32 := by
  rw [setBf_eq, Nat.div_div_eq_div_mul, ← Nat.pow_add, show lo + (hi + 1 - lo) = hi + 1 by omega]
  have hq : x / 2 ^ (hi + 1) + 1 ≤ 2 ^ (31 - hi) := by
    rw [Nat.add_one_le_iff, Nat.div_lt_iff_lt_mul (Nat.two_pow_pos _), ← Nat.pow_add, show 31 - hi + (hi + 1) = 32 by omega]
    exact hx
  have hv : v % 2 ^ (hi + 1 - lo) + 1 ≤ 2 ^ (hi + 1 - lo) := Nat.mod_lt _ (Nat.two_pow_pos _)
  have hr : x % 2 ^ lo < 2 ^ lo := Nat.mod_lt _ (Nat.two_pow_pos _)
  calc (x / 2 ^ (hi + 1) * 2 ^ (hi + 1 - lo) + v % 2 ^ (hi + 1 - lo)) * 2 ^ lo + x % 2 ^ lo
      < (x / 2 ^ (hi + 1) * 2 ^ (hi + 1 - lo) + (v % 2 ^ (hi + 1 - lo) + 1)) * 2 ^ lo := by
        rw [← Nat.add_assoc, Nat.add_one_mul]
        omega
    _ ≤ ((x / 2 ^ (hi + 1) + 1) * 2 ^ (hi + 1 - lo)) * 2 ^ lo := by
        rw [Nat.add_one_mul]
        exact Nat.mul_le_mul_right _ (Nat.add_le_add_left hv _)
    _ ≤ (2 ^ (31 - hi) * 2 ^ (hi + 1 - lo)) * 2 ^ lo := Nat.mul_le_mul_right _ (Nat.mul_le_mul_right _ hq)
    _ = 2 ^ 32 := by
        rw [← Nat.pow_add, ← Nat.pow_add]
        congr 1
        omega

/-- A field that was set reads the value's low bits. -/
theorem State.fld_setFld {s : State} (h : Sparse.wf regReset s.regs = true) {f : Fld} (v : Nat) (hlo : f.lo ≤ f.hi)
    (hhi : f.hi < 32) : (s.setFld f v).fld f = v % 2 ^ (f.hi + 1 - f.lo) := by
  rw [State.fld, State.setFld, State.reg_setReg_self h, wd, BitVec.toNat_ofNat,
    Nat.mod_eq_of_lt (setBf_lt v (s.reg f.addr).isLt hlo hhi), bf_setBf]

/-! Reads that have no effect, and reads that nothing answers (R2, R11, R452, R488). -/
section Quiet

variable {s : State} {a : Nat} {k : PageKind} {i : Nat} {d : RegDef}

theorem State.rowRead_of_hostRead {w : Word} {u : State} (h : s.running = true) (hrom : s.romFail = false)
    (hread : s.hostRead a = (w, u)) : s.rowRead a = { u with lastRead := w } := by
  unfold State.rowRead
  rw [if_pos (by simp [h, State.answers, hrom]), hread]

theorem State.rowRead_unanswered (h : s.running = false ∨ (s.romFail = true ∧ 4096 ≤ a)) : s.rowRead a = s := by
  unfold State.rowRead
  refine if_neg ?_
  rcases h with h | ⟨hrom, ha⟩
  · simp [h]
  · simp [State.answers, hrom]
    omega

theorem State.hostRead_undefined (h : ∀ k i, pageOf s.member (a / 4096) = some (k, i) → findReg k (a % 4096) = none) :
    s.hostRead a = (0, s) := by
  unfold State.hostRead
  split
  · rfl
  · next k i hp =>
    dsimp only
    rw [h k i hp]

theorem State.hostRead_quiet (hp : pageOf s.member (a / 4096) = some (k, i)) (hd : findReg k (a % 4096) = some d)
    (hq : s.readQuiet (a / 4096) k i (a % 4096) = true) : s.hostRead a = (s.view (a / 4096) k i (a % 4096), s) := by
  unfold State.hostRead
  rw [hp]
  dsimp only
  rw [hd]
  dsimp only
  rw [if_pos hq]

theorem State.view_frozen {p i o : Nat} (hlo : 0x800 ≤ o) (hhi : o < 0xC00)
    (h : (s.reg (hdr p HDR.PG_CTRL)).toNat.testBit 2 = true) : s.view p k i o = Sparse.get noWord s.frozen (p * 4096 + o) :=
  if_pos ⟨h, hlo, hhi⟩

theorem State.view_copy {p i o : Nat} (hz : o < 0xC00 → (s.reg (hdr p HDR.PG_CTRL)).toNat.testBit 2 = false)
    (h : s.fromCopy k i o = true) : s.view p k i o = Sparse.get noWord s.held (p * 4096 + o) := by
  unfold State.view
  rw [if_neg (by rintro ⟨hbit, -, hlt⟩; rw [hz hlt] at hbit; cases hbit), if_pos h]

end Quiet

/-! LANEn.SQ_PEAK (R179). -/

/-- SQ_PEAK answers its word, and starts again from the present occupancy. -/
theorem sqPeak_answers (t : Time) {a : BitVec 24} {n : LaneIx} {s : State} (hc : s.canon = true) (hr : Readable s a.toNat)
    (ha : a.toNat = LANE.SQ_PEAK n) (hn : s.hasLane n = true) (hf : s.fenced n = false) :
    Answers (.rcRead t a) s fun u => u.lastRead = s.reg (LANE.SQ_PEAK n) ∧
      u.fld ⟨LANE.SQ_PEAK n, 6, 0⟩ = (s.lane n).occ % 128 := by
  have hmod : LANE.SQ_PEAK n % 4096 = 0x884 := by unfold LANE.SQ_PEAK; omega
  have h : LiveRead (s.at t) (LANE.SQ_PEAK n) .lane n.val { off := 0x884, rc := 127 } :=
    LiveRead.lane hc (ha ▸ hr) rfl (by decide) (pageKind_lane n) rfl hn hf rfl
  have hset : (s.at t).settlePage .lane n.val = s.at t := State.settlePage_eq _ _ nofun nofun
  have hnone : (s.at t).liveReg .lane n.val 0x884 = none := by
    rw [State.liveReg, ofNat_laneIx]
    rfl
  have hlatched : (s.at t).latched .lane n.val 0x884 = [] := by
    rw [State.latched, ofNat_laneIx]
    rfl
  have hexec : exec (.rcRead t a) s = .next ((s.at t).rowRead (LANE.SQ_PEAK n)) := by rw [← ha]; rfl
  refine ⟨_, hexec, ?_, ?_⟩
  · rw [h.lastRead_eq, h.liveWord_getD hmod (by decide) rfl]
    rw [hset, hnone, Option.getD_none, State.reg_at]
  · have hregs := h.regs_eq
    rw [hset, hmod, State.readSide, hlatched, State.latchWords_nil, if_neg (by decide), State.readBlock_sqPeak] at hregs
    rw [State.fld_congr hregs]
    exact State.fld_setFld (State.setReg_regs_wf (State.canon_regs hc) _ _) _ (Nat.zero_le 6) (show 6 < 32 by decide)

/-- Settles O5: by the case of the read. A live read answers the block's word and clears the RC bits, a snapshot and the
spine's copy answer without effect, and what nothing answers leaves the state as it is. -/
theorem registerReads : Obligations.RegisterReads := by
  unfold Obligations.RegisterReads
  refine ⟨?live, fun t a n s => sqPeak_answers t, ?undefined, ?frozen, ?copy, ?unanswered⟩
  case live =>
    intro t a k i d s hc ⟨hrun, hrom, hz⟩ hp hd hf hm
    have h : LiveRead (s.at t) a.toNat k i d :=
      ⟨hc, hrun, hrom, hz, hp, hd, hf, fun e => hm ⟨e.1, e.2.1, by omega⟩⟩
    exact ⟨_, rfl, h.lastRead_eq, h.rc_cleared⟩
  case undefined =>
    intro t a s hrun hrom hnone
    have h := State.rowRead_of_hostRead (s := s.at t) hrun hrom (State.hostRead_undefined hnone)
    exact ⟨_, rfl, (congrArg State.lastRead h :), (congrArg State.regs h :)⟩
  case frozen =>
    intro t a k i d s hrun hrom hp hd hlo hhi hz
    have hq : (s.at t).readQuiet (a.toNat / 4096) k i (a.toNat % 4096) = true := by
      simp [State.readQuiet, hz, hlo, hhi]
    have h := State.rowRead_of_hostRead (s := s.at t) hrun hrom (State.hostRead_quiet hp hd hq)
    rw [State.view_frozen (s := s.at t) hlo hhi hz, addr_div_mod] at h
    exact ⟨_, rfl, (congrArg State.lastRead h :), (congrArg State.regs h :)⟩
  case copy =>
    intro t a k i d s ⟨hrun, hrom, hz⟩ hp hd hf
    have hq : (s.at t).readQuiet (a.toNat / 4096) k i (a.toNat % 4096) = true := by
      rw [State.readQuiet, show (s.at t).fromCopy k i (a.toNat % 4096) = true from hf, Bool.or_true]
    have h := State.rowRead_of_hostRead (s := s.at t) hrun hrom (State.hostRead_quiet hp hd hq)
    rw [State.view_copy (s := s.at t) hz hf, addr_div_mod] at h
    exact ⟨_, rfl, (congrArg State.lastRead h :), (congrArg State.regs h :), (congrArg State.held h :)⟩
  case unanswered =>
    intro t a s h
    exact ⟨_, rfl, State.rowRead_unanswered (s := s.at t) h⟩

end Sys2Proof.Machine

/-! PG_ERR_FIRST (R454): what a block does on its own leaves the first-error registers as they are. -/
namespace Sys2Proof.Machine

/-- From `s` to `u` every page's PG_ERR_FIRST keeps its word, and the register file its canonical form. -/
structure ErrKept (s u : State) : Prop where
  regs_wf : Sparse.wf regReset s.regs = true → Sparse.wf regReset u.regs = true
  err : Sparse.wf regReset s.regs = true → ∀ p, u.reg (hdr p HDR.PG_ERR_FIRST) = s.reg (hdr p HDR.PG_ERR_FIRST)

section ErrKept

variable {z : State} (s : State)

theorem ErrKept.refl (s : State) : ErrKept s s := ⟨id, fun _ _ => rfl⟩

/-- It is a property of the register file. -/
theorem ErrKept.of_regs {u v : State} (h : ErrKept z u) (e : v.regs = u.regs) : ErrKept z v :=
  ⟨fun c => e ▸ h.regs_wf c, fun c p => (State.reg_congr e _).trans (h.err c p)⟩

theorem State.setReg_errKept {a : Nat} (w : Word) (h : ErrKept z s) (ha : a % 4096 ≠ 0x18) : ErrKept z (s.setReg a w) := by
  refine ⟨fun c => State.setReg_regs_wf (h.regs_wf c) a w, fun c p => ?_⟩
  rw [State.reg_setReg_ne (h.regs_wf c) w, h.err c p]
  intro e
  have hmod := congrArg (· % 4096) e
  simp only [home_mod, hdr, HDR.PG_ERR_FIRST] at hmod
  omega

theorem overList_errKept {α : Type} (l : List α) (f : α → State → State) (h : ErrKept z s)
    (hf : ∀ x w, ErrKept z w → ErrKept z (f x w)) : ErrKept z (overList l f s) := by
  unfold overList
  induction l generalizing s with
  | nil => exact h
  | cons x l ih => exact ih (f x s) (hf x s h)

theorem errKept_ite {c : Prop} [Decidable c] {x y : State} (hx : ErrKept z x) (hy : ErrKept z y) :
    ErrKept z (if c then x else y) := by
  split
  · exact hx
  · exact hy

/-! Fields, counters and flags outside PG_ERR_FIRST. -/

theorem State.setFld_errKept {f : Fld} (v : Nat) (h : ErrKept z s) (hf : f.addr % 4096 ≠ 0x18) : ErrKept z (s.setFld f v) :=
  State.setReg_errKept s _ h hf

theorem State.bumpReg_errKept {a : Nat} (n : Nat) (h : ErrKept z s) (ha : a % 4096 ≠ 0x18) : ErrKept z (s.bumpReg a n) :=
  State.setReg_errKept s _ h ha

theorem hdr_mod (p : Nat) {o : Nat} (ho : o < 4096) : hdr p o % 4096 = o := by
  unfold hdr
  omega

theorem State.setRaw_errKept (p i : Nat) (h : ErrKept z s) : ErrKept z (s.setRaw p i) := by
  have hset := State.setReg_errKept s (s.reg (hdr p HDR.PG_IRQ_RAW) ||| wd (1 <<< i)) (a := hdr p HDR.PG_IRQ_RAW) h
    (by rw [hdr_mod p (by decide)]; decide)
  unfold State.setRaw
  exact errKept_ite (hset.of_regs rfl) hset

theorem State.setEvt_errKept {f : Fld} (h : ErrKept z s) (hf : f.addr % 4096 ≠ 0x18) : ErrKept z (s.setEvt f) := by
  unfold State.setEvt
  exact errKept_ite h (State.setRaw_errKept _ _ _ (State.setFld_errKept s 1 h hf))

theorem State.setFault_errKept (p : Nat) (h : ErrKept z s) : ErrKept z (s.setFault p) := by
  unfold State.setFault
  exact errKept_ite h (State.setRaw_errKept _ _ _ (State.setReg_errKept s _ h (by rw [hdr_mod p (by decide)]; decide)))

theorem State.setDrained_errKept (p : Nat) (h : ErrKept z s) : ErrKept z (s.setDrained p) := by
  unfold State.setDrained
  exact errKept_ite h (State.setRaw_errKept _ _ _ (State.setReg_errKept s _ h (by rw [hdr_mod p (by decide)]; decide)))

/-! Records (R411 to R414, R453). -/

theorem State.recHalf_errKept (x : Half) (c : RecCode) (p : Nat) (a b d : Word) (h : ErrKept z s) :
    ErrKept z (s.recHalf x c p a b d) := by
  have hmod : ∀ f, ErrKept z (s.modCopy x f) := fun f => h.of_regs rfl
  unfold State.recHalf
  dsimp only
  split
  · split
    · exact State.setEvt_errKept _ (hmod _) (by decide)
    · refine errKept_ite (State.setEvt_errKept _ ?_ (by decide)) ?_
      all_goals exact errKept_ite (State.setEvt_errKept _ (hmod _) (by decide)) (hmod _)
  · exact State.setEvt_errKept _ (hmod _) (by decide)

theorem State.record_errKept (c : RecCode) (p : Nat) (a b d : Word) (h : ErrKept z s) : ErrKept z (s.record c p a b d) := by
  have hfault : ErrKept z (s.faultFor c p) := errKept_ite (State.setFault_errKept s p h) h
  have hA := errKept_ite (c := (s.faultFor c p).runs .a = true) (State.recHalf_errKept _ .a c p a b d hfault) hfault
  exact errKept_ite (State.recHalf_errKept _ .b c p a b d hA) hA

/-! The outlets' page settles (R189 to R192, R204). -/

theorem State.evalHs_errKept (n : LaneIx) (h : ErrKept z s) : ErrKept z (s.evalHs n) := by
  have hmod : ∀ f, ErrKept z (s.modBank n f) := fun f => h.of_regs rfl
  unfold State.evalHs
  refine errKept_ite (errKept_ite (State.setEvt_errKept _ (hmod _) ?_) (hmod _))
    (errKept_ite (hmod _) (errKept_ite (hmod _) (errKept_ite (hmod _) (hmod _))))
  show ((0x110 + n.val) * 4096 + 0x804) % 4096 ≠ 0x18
  omega

theorem State.decayFrom_errKept (n : LaneIx) (k : OutIx) (d : DecayKind) (y : Style) (t : Time) (h : ErrKept z s) :
    ErrKept z (s.decayFrom n k d y t) := by
  unfold State.decayFrom
  refine ErrKept.of_regs (errKept_ite (State.setEvt_errKept _ (State.bumpReg_errKept s 1 h ?_) ?_) h) rfl
  · show ((0x110 + n.val) * 4096 + 0x820) % 4096 ≠ 0x18
    omega
  · show ((0x110 + n.val) * 4096 + 0x804) % 4096 ≠ 0x18
    omega

theorem State.settleBank_errKept (n : LaneIx) (h : ErrKept z s) : ErrKept z (s.settleBank n) :=
  overList_errKept s _ _ h fun k w hw =>
    errKept_ite (State.evalHs_errKept _ n (State.decayFrom_errKept w n k _ _ _ hw)) hw

/-! The generators' page settles (R235, R239, R242, R246). -/

theorem State.modGen_errKept (n : LaneIx) (g : Fin 4) (f : GenState → GenState) (h : ErrKept z s) :
    ErrKept z (s.modGen n g f) := h.of_regs rfl

/-- A byte address whose offset in its page is not that of PG_ERR_FIRST. -/
theorem page_add_mod_ne (k : Nat) {o : Nat} (ho : o < 4096) (hne : o ≠ 0x18) : (k * 4096 + o) % 4096 ≠ 0x18 := by
  rwa [Nat.mul_add_mod', Nat.mod_eq_of_lt ho]

theorem State.periodFlags_errKept (n : LaneIx) (g : Fin 4) (h : ErrKept z s) : ErrKept z (s.periodFlags n g) := by
  have hevt := page_add_mod_ne (0x120 + n.val) (o := 0x804) (by decide) (by decide)
  have hcnt := page_add_mod_ne (0x120 + n.val) (o := 0x81c) (by decide) (by decide)
  have hmin := errKept_ite (c := s.ownCounter n g ∧ bf (s.gen n g).perAct 19 4 < 16)
    (State.setEvt_errKept s (f := PWMG.EVT.PER_MIN n) h hevt) h
  exact errKept_ite (State.setEvt_errKept _ (State.bumpReg_errKept _ 1 hmin hcnt) hevt) hmin

theorem State.pwmDrained_errKept (n : LaneIx) (h : ErrKept z s) : ErrKept z (s.pwmDrained n) :=
  errKept_ite (State.setDrained_errKept s _ h) h

theorem State.applySet_errKept (n : LaneIx) (e : EngSet) (h : ErrKept z s) : ErrKept z (s.applySet n e) := by
  unfold State.applySet
  dsimp only
  have hcmp : ∀ u : State, ErrKept z u → ∀ (l : List (Fin 4)) (w : State → Word) (f : GenState → GenState),
      ErrKept z (overList l (fun g s => (s.setReg (PWMG.G_CMP n g) (w s)).modGen n g f) u) := by
    intro u hu l w f
    refine overList_errKept u _ _ hu fun g v hv => State.modGen_errKept _ n g f (State.setReg_errKept v _ hv ?_)
    have hcmp := page_add_mod_ne (0x120 + n.val) (o := 0x844 + 0x10 * g.val) (by omega) (by omega)
    rwa [← Nat.add_assoc] at hcmp
  have hset : ErrKept z (match e.u with
      | some u => s.modEng n (fun x => { x with cmpLast := u * (s.gen n 0).perAct / 65536 })
      | none => s) := by
    split
    · exact h.of_regs rfl
    · exact h
  split
  · exact hcmp _ hset _ _ _
  · exact State.modGen_errKept _ n 2 _ (State.modGen_errKept _ n 1 _ (State.modGen_errKept _ n 0 _ (hcmp _ hset _ _ _)))

theorem State.setsUntil_errKept (n : LaneIx) (cyc : Nat) (h : ErrKept z s) : ErrKept z (s.setsUntil n cyc) :=
  overList_errKept _ _ _ (h.of_regs rfl) fun e w hw => State.applySet_errKept w n e hw

theorem State.reloadGen_errKept (n : LaneIx) (g : Fin 4) (cyc : Nat) (ph : Option Nat) (h : ErrKept z s) :
    ErrKept z (s.reloadGen n g cyc ph) := by
  have hone : ErrKept z (if decide ((s.gen n g).reAt = cyc) then s
      else overList (s.reloadGroup n g) (fun h s => s.reloadOne n cyc h) s) :=
    errKept_ite h (overList_errKept s _ _ h fun x w hw =>
      errKept_ite (State.modGen_errKept w n x _ hw) (State.modGen_errKept w n x _ hw))
  unfold State.reloadGen
  refine overList_errKept _ _ _ hone fun x w hw => errKept_ite ?_ hw
  exact errKept_ite (State.modGen_errKept w n x _ hw) (State.periodFlags_errKept _ n x (State.modGen_errKept w n x _ hw))

theorem State.pwmNow_errKept (n : LaneIx) (h : ErrKept z s) : ErrKept z (s.pwmNow n) := by
  refine State.setsUntil_errKept _ n _ (overList_errKept s _ _ h fun g w hw => errKept_ite ?_ hw)
  exact State.pwmDrained_errKept _ n (State.reloadGen_errKept _ n g _ _ (State.setsUntil_errKept w n _ hw))

theorem State.settlePage_errKept (k : PageKind) (i : Nat) (h : ErrKept z s) : ErrKept z (s.settlePage k i) := by
  cases k with
  | outl => exact State.settleBank_errKept s _ h
  | pwmg => exact State.pwmNow_errKept s _ h
  | _ => exact h

/-! What a configuration write starts or stops (R73, R74, R236, R246, R290). -/

theorem State.follow_errKept (n : LaneIx) (cyc : Nat) (g : Fin 4) (h : ErrKept z s) : ErrKept z (s.follow n cyc g) := by
  have hmod : ∀ f, ErrKept z (s.modGen n g f) := fun f => State.modGen_errKept s n g f h
  exact errKept_ite h (errKept_ite (State.periodFlags_errKept _ n g (hmod _)) (errKept_ite (hmod _) (hmod _)))

theorem State.followers_errKept (n : LaneIx) (cyc : Nat) (h : ErrKept z s) : ErrKept z (s.followers n cyc) :=
  State.follow_errKept _ n cyc 2 (State.follow_errKept s n cyc 1 h)

theorem State.startGen_errKept (n : LaneIx) (g : Fin 4) (cyc : Nat) (h : ErrKept z s) : ErrKept z (s.startGen n g cyc) := by
  have hmod : ∀ (u : State) f, ErrKept z u → ErrKept z (u.modGen n g f) := fun u f hu => State.modGen_errKept u n g f hu
  unfold State.startGen
  dsimp only
  split
  · refine State.followers_errKept _ n cyc (errKept_ite ?_ (State.follow_errKept _ n cyc g (hmod s _ h)))
    exact State.periodFlags_errKept _ n g (hmod _ _ (hmod s _ h))
  · exact errKept_ite (State.periodFlags_errKept _ n g (hmod _ _ (hmod s _ h))) (State.follow_errKept _ n cyc g (hmod s _ h))

theorem State.stopGen_errKept (n : LaneIx) (g : Fin 4) (h : ErrKept z s) : ErrKept z (s.stopGen n g) := by
  have hmod := State.modGen_errKept s n g GenState.stop h
  exact State.pwmDrained_errKept _ n (errKept_ite (State.followers_errKept _ n _ hmod) hmod)

theorem State.emCheck_errKept (n : LaneIx) (h : ErrKept z s) : ErrKept z (s.emCheck n) := by
  have hmod : ∀ f, ErrKept z (s.modFbk n f) := fun f => h.of_regs rfl
  refine errKept_ite (errKept_ite (State.record_errKept _ _ _ _ _ _ (State.setEvt_errKept _ (hmod _) ?_)) (hmod _)) h
  show ((0x140 + n.val) * 4096 + 0x804) % 4096 ≠ 0x18
  omega

theorem State.imuEnable_errKept (on : Bool) (h : ErrKept z s) : ErrKept z (s.imuEnable on) :=
  errKept_ite (h.of_regs rfl) (State.setReg_errKept _ _ (h.of_regs rfl) (by decide))

theorem State.cfgSide_errKept (k : PageKind) (i o was : Nat) (h : ErrKept z s) : ErrKept z (s.cfgSide k i o was) := by
  unfold State.cfgSide
  refine errKept_ite ?gen (errKept_ite ?link (errKept_ite ?em (errKept_ite ?imu h)))
  case gen =>
    exact errKept_ite h (errKept_ite (errKept_ite h (State.startGen_errKept s _ _ _ h)) (State.stopGen_errKept s _ _ h))
  case link =>
    refine errKept_ite h (errKept_ite (State.followers_errKept s _ _ h) (overList_errKept s _ _ h fun g w hw => ?_))
    exact State.modGen_errKept w _ g _ hw
  case em =>
    refine errKept_ite h (errKept_ite (State.emCheck_errKept _ _ ?_) (State.emCheck_errKept s _ h))
    exact h.of_regs rfl
  case imu => exact errKept_ite h (State.imuEnable_errKept s _ h)

end ErrKept

end Sys2Proof.Machine

/-! Register writes (R11 to R15): what a write by access code makes of a register, of PG_ERR_FIRST and of the rest. -/
namespace Sys2Proof.Machine

section Fields

variable {s : State} {p o : Nat} {d : RegDef} {v : Word}

/-- The word that a write of `v` by the access codes of Table 0-3 makes of `old`. -/
def State.codeWord (s : State) (d : RegDef) (old v : Word) : Word :=
  let m := wd (d.rw ||| (if s.sealed then 0 else d.rwl))
  ((old &&& ~~~m) ||| (v &&& m)) &&& ~~~(v &&& wd d.w1c)

theorem wd_getLsbD (n : Nat) {b : Nat} (hb : b < 32) : (wd n).getLsbD b = n.testBit b := by
  rw [wd, BitVec.getLsbD_ofNat, decide_eq_true hb, Bool.true_and]

theorem code_bit : ∀ old m v w1c : Bool, (((old && !m) || (v && m)) && !(v && w1c)) =
    if w1c && v then false else if m then v else old := by decide

/-- Each bit follows its code: W1C, then RW and unsealed RWL, then unchanged. -/
theorem State.codeWord_getLsbD (s : State) (d : RegDef) (old v : Word) {b : Nat} (hb : b < 32) :
    (s.codeWord d old v).getLsbD b =
      if d.w1c.testBit b && v.getLsbD b then false
      else if d.rw.testBit b || (d.rwl.testBit b && !s.sealed) then v.getLsbD b else old.getLsbD b := by
  have hm : (wd (d.rw ||| (if s.sealed then 0 else d.rwl))).getLsbD b = (d.rw.testBit b || (d.rwl.testBit b && !s.sealed)) := by
    rw [wd_getLsbD _ hb, Nat.testBit_or]
    cases s.sealed <;> simp
  simp only [State.codeWord, BitVec.getLsbD_and, BitVec.getLsbD_or, BitVec.getLsbD_not, hm, wd_getLsbD _ hb, hb, decide_true,
    Bool.true_and]
  exact code_bit _ _ _ _

theorem State.codeWord_congr {u : State} (h : u.sealed = s.sealed) (d : RegDef) (old v : Word) :
    u.codeWord d old v = s.codeWord d old v := by
  rw [State.codeWord, State.codeWord, h]

/-! PG_ERR_FIRST takes the first error of its page (R454). -/

theorem State.err_first (page off : Nat) (c : ErrCode) (h : (s.reg (hdr page HDR.PG_ERR_FIRST)).toNat.testBit 31 = false) :
    s.err page off c = s.setReg (hdr page HDR.PG_ERR_FIRST) (wd (0x80000000 + c.code * 65536 + off % 4096)) := by
  simp [State.err, h]

theorem State.err_reg_ne (hw : Sparse.wf regReset s.regs = true) (page off : Nat) (c : ErrCode) {b : Nat}
    (hb : home b ≠ home (hdr page HDR.PG_ERR_FIRST)) : (s.err page off c).reg b = s.reg b := by
  unfold State.err
  dsimp only
  split
  · rfl
  · exact State.reg_setReg_ne hw _ hb

theorem State.err_regs_wf (hw : Sparse.wf regReset s.regs = true) (page off : Nat) (c : ErrCode) :
    Sparse.wf regReset (s.err page off c).regs = true := by
  unfold State.err
  dsimp only
  split
  · exact hw
  · exact State.setReg_regs_wf hw _ _

/-! The write of a register's fields. -/

theorem State.writeFields_eq (s : State) (p : Nat) (d : RegDef) (o : Nat) (v : Word) : s.writeFields p d o v =
    if s.sealed && decide (d.rwl ≠ 0) then (s.setReg (hdr p o) (s.codeWord d (s.reg (hdr p o)) v)).err p o .lockedWrite
    else s.setReg (hdr p o) (s.codeWord d (s.reg (hdr p o)) v) := rfl

theorem State.writeFields_regs_wf (hw : Sparse.wf regReset s.regs = true) (p : Nat) (d : RegDef) (o : Nat) (v : Word) :
    Sparse.wf regReset (s.writeFields p d o v).regs = true := by
  rw [State.writeFields_eq]
  split
  · exact State.err_regs_wf (State.setReg_regs_wf hw _ _) _ _ _
  · exact State.setReg_regs_wf hw _ _

/-- Registers at different offsets of their pages are different ones. -/
theorem home_ne_of_mod {a b : Nat} (h : a % 4096 ≠ b % 4096) : home a ≠ home b := by
  intro e
  rw [← home_mod a, ← home_mod b, e] at h
  exact h rfl

theorem home_hdr_ne_errFirst (p q : Nat) (ho : o < 4096) (hne : o ≠ HDR.PG_ERR_FIRST) :
    home (hdr p o) ≠ home (hdr q HDR.PG_ERR_FIRST) := by
  apply home_ne_of_mod
  rwa [hdr_mod p ho, hdr_mod q (by decide)]

theorem State.writeFields_reg_self (hw : Sparse.wf regReset s.regs = true) (p : Nat) (d : RegDef) (v : Word)
    (ho : o < 4096) (hne : o ≠ HDR.PG_ERR_FIRST) :
    (s.writeFields p d o v).reg (hdr p o) = s.codeWord d (s.reg (hdr p o)) v := by
  rw [State.writeFields_eq]
  split
  · rw [State.err_reg_ne (State.setReg_regs_wf hw _ _) _ _ _ (home_hdr_ne_errFirst p p ho hne), State.reg_setReg_self hw]
  · exact State.reg_setReg_self hw _ _

theorem State.writeFields_reg_ne (hw : Sparse.wf regReset s.regs = true) (d : RegDef) (v : Word) {b : Nat}
    (hb : home b ≠ home (hdr p o)) (he : home b ≠ home (hdr p HDR.PG_ERR_FIRST)) :
    (s.writeFields p d o v).reg b = s.reg b := by
  rw [State.writeFields_eq]
  split
  · rw [State.err_reg_ne (State.setReg_regs_wf hw _ _) _ _ _ he, State.reg_setReg_ne hw _ hb]
  · exact State.reg_setReg_ne hw _ hb

theorem State.writeFields_locked (hw : Sparse.wf regReset s.regs = true) (v : Word) (ho : o < 4096)
    (hne : o ≠ HDR.PG_ERR_FIRST) (hs : s.sealed = true) (hl : d.rwl ≠ 0)
    (h : (s.reg (hdr p HDR.PG_ERR_FIRST)).toNat.testBit 31 = false) :
    (s.writeFields p d o v).reg (hdr p HDR.PG_ERR_FIRST) = wd (0x80000000 + ErrCode.lockedWrite.code * 65536 + o) := by
  have hw' := State.setReg_regs_wf hw (hdr p o) (s.codeWord d (s.reg (hdr p o)) v)
  have hne' := (home_hdr_ne_errFirst (o := o) p p ho hne).symm
  rw [State.writeFields_eq, if_pos (by simp [hs, hl]), State.err_first, State.reg_setReg_self hw', Nat.mod_eq_of_lt ho]
  rwa [State.reg_setReg_ne hw _ hne']

end Fields

/-! The host's write of one word. -/
section HostWord

variable {s : State} {a : Nat} {v : Word} {k : PageKind} {i : Nat} {d : RegDef}

/-- The writes that go by access code alone: a configuration register, but not the swap of RATE, and a runtime register of
a page whose writes have no action of their own. -/
def ByCode (k : PageKind) (o : Nat) : Prop :=
  (0x100 ≤ o ∧ o < 0x800 ∧ ¬(k = .rate ∧ o = 0x180)) ∨ (k ∈ plainPages ∧ 0x800 ≤ o)

theorem State.rowWrite_eq (h : s.running = true) (hrom : s.romFail = false) :
    s.rowWrite a v = (s.hostWord a v).1.hirqSettle := by
  unfold State.rowWrite
  rw [if_pos (by simp [h, State.answers, hrom]), State.hostWrite]

theorem State.hirqSettle_regs (s : State) : s.hirqSettle.regs = s.regs := by
  unfold State.hirqSettle
  split <;> split <;> rfl

theorem State.hirqSettle_held (s : State) : s.hirqSettle.held = s.held := by
  unfold State.hirqSettle
  split <;> split <;> rfl

/-- A runtime write starts nothing in a block. -/
theorem State.cfgSide_runtime (s : State) (k : PageKind) (i : Nat) {o : Nat} (was : Nat) (ho : 0x800 ≤ o) :
    s.cfgSide k i o was = s := by
  unfold State.cfgSide
  rw [if_neg (by omega), if_neg (by omega), if_neg (by omega), if_neg (by omega)]

theorem State.cfgSide_quiet (s : State) {k : PageKind} (i : Nat) {o : Nat} (was : Nat) (h : quietWrite k o = true) :
    s.cfgSide k i o was = s := by
  simp only [quietWrite, Bool.and_eq_true, Bool.not_eq_true', ← Bool.decide_and, decide_eq_true_eq, decide_eq_false_iff_not] at h
  obtain ⟨⟨⟨hpwmg, -⟩, hfbk⟩, himu⟩ := h
  unfold State.cfgSide
  rw [if_neg (fun e => hpwmg e.1), if_neg (fun e => hpwmg e.1), if_neg hfbk, if_neg himu]

theorem State.settlePage_quiet (s : State) (i : Nat) {o : Nat} (h : quietWrite k o = true) : s.settlePage k i = s := by
  simp only [quietWrite, Bool.and_eq_true, decide_eq_true_eq] at h
  obtain ⟨⟨⟨hpwmg, houtl⟩, -⟩, -⟩ := h
  exact State.settlePage_eq s i houtl hpwmg

theorem State.settlePage_plain (s : State) (i : Nat) (h : k ∈ plainPages) : s.settlePage k i = s := by
  apply State.settlePage_eq
  all_goals
    rintro rfl
    exact absurd h (by decide)

theorem State.writeRun_plain (s : State) (p i o : Nat) (d : RegDef) (v : Word) (h : k ∈ plainPages) :
    s.writeRun p k i d o v = s.writeFields p d o v := by
  simp only [plainPages, List.mem_cons, List.not_mem_nil, or_false] at h
  rcases h with rfl | rfl | rfl | rfl | rfl | rfl | rfl | rfl | rfl | rfl | rfl | rfl | rfl | rfl <;> rfl

/-- A write that goes by access code settles the page, writes the fields and starts what the configuration starts. -/
theorem State.hostWord_byCode (hp : pageOf s.member (a / 4096) = some (k, i)) (hd : findReg k (a % 4096) = some d)
    (hf : s.fromCopy k i (a % 4096) = false) (ho : ByCode k (a % 4096)) :
    ∃ was, (s.hostWord a v).1 = ((s.settlePage k i).writeFields (a / 4096) d (a % 4096) v).cfgSide k i (a % 4096) was := by
  have hctrl : a % 4096 ≠ HDR.PG_CTRL ∧ ¬ a % 4096 < 0x100 := by
    unfold HDR.PG_CTRL
    unfold ByCode at ho
    omega
  simp only [State.hostWord, hp, hf, hd, hctrl.1, hctrl.2, Bool.false_eq_true, if_false]
  rcases ho with ⟨-, hlt, hrate⟩ | ⟨hk, hge⟩
  · rw [if_pos hlt, if_neg hrate, State.writeCfg, hd]
    exact ⟨_, rfl⟩
  · rw [if_neg (by omega)]
    exact ⟨0, by rw [State.writeRun_plain _ _ _ _ _ _ hk, State.cfgSide_runtime _ _ _ _ hge]⟩

theorem State.hostWord_undefined (hp : pageOf s.member (a / 4096) = some (k, i)) (hd : findReg k (a % 4096) = none)
    (hf : s.fromCopy k i (a % 4096) = false) :
    (s.hostWord a v).1 = (s.settlePage k i).err (a / 4096) (a % 4096) .undefWrite := by
  simp only [State.hostWord, hp, hf, hd, Bool.false_eq_true, if_false]

theorem State.hostWord_ignored (h : ∀ k i, pageOf s.member (a / 4096) = some (k, i) → s.fromCopy k i (a % 4096) = true) :
    (s.hostWord a v).1 = s := by
  unfold State.hostWord
  dsimp only
  split
  · rfl
  · next k i hp => rw [if_pos (h k i hp)]

/-! What settling and starting leave of the register and of PG_ERR_FIRST. -/

theorem runtimeOff_config {o : Nat} (h : 0x100 ≤ o) (h' : o < 0x800) : runtimeOff o = false := by
  simp only [runtimeOff, Bool.or_eq_false_iff, decide_eq_false_iff_not, List.contains_cons, List.contains_nil, beq_eq_false_iff_ne,
    and_true]
  omega

/-- What starts or stops with a configuration write: no configuration register. -/
def mayStart : May :=
  { fields := [.regs, .yew, .hirqLow, .pwm, .fbk, .imu], pages := List.range 256, lanes := List.finRange 16 }

theorem State.cfgSide_mayStart (s : State) (k : PageKind) (i o was : Nat) : Only mayStart s (s.cfgSide k i o was) :=
  State.cfgSide_only s k i o was (Only.refl _ _) (by decide) (by decide) (by decide) (by decide) (by decide) (by decide)
    (by decide) (by decide) fun n => List.mem_finRange n

theorem State.cfgSide_reg (hw : Sparse.wf regReset s.regs = true) (i was : Nat) (ho : ByCode k (a % 4096)) :
    (s.cfgSide k i (a % 4096) was).reg a = s.reg a := by
  rcases ho with ⟨hge, hlt, -⟩ | ⟨-, hge⟩
  · refine (s.cfgSide_mayStart k i (a % 4096) was).reg_eq hw ?_
    rintro ⟨-, hcfg | hrun⟩
    · exact absurd hcfg (by decide)
    · rw [home_mod, runtimeOff_config hge hlt] at hrun
      exact absurd hrun (by decide)
  · rw [State.cfgSide_runtime _ _ _ _ hge]

theorem State.settlePage_reg_byCode (hc : s.canon = true) (i : Nat) (ho : ByCode k (a % 4096)) :
    (s.settlePage k i).reg a = s.reg a := by
  rcases ho with ⟨hge, hlt, -⟩ | ⟨hk, -⟩
  · exact State.settlePage_reg hc k i (runtimeOff_config hge hlt)
  · rw [State.settlePage_plain s i hk]

theorem State.settlePage_sealed (s : State) (k : PageKind) (i : Nat) : (s.settlePage k i).sealed = s.sealed := by
  have hdev := (s.settlePage_maySettle k i).dev (by decide)
  have hchecking := (s.settlePage_maySettle k i).checking (by decide)
  rw [State.sealed, State.sealed, hdev, hchecking]

theorem State.settlePage_errFirst (hc : s.canon = true) (k : PageKind) (i p : Nat) :
    (s.settlePage k i).reg (hdr p HDR.PG_ERR_FIRST) = s.reg (hdr p HDR.PG_ERR_FIRST) :=
  (State.settlePage_errKept s k i (.refl s)).err (State.canon_regs hc) p

theorem State.settlePage_regs_wf (hc : s.canon = true) (k : PageKind) (i : Nat) :
    Sparse.wf regReset (s.settlePage k i).regs = true := State.canon_regs (State.settlePage_canon hc k i)

end HostWord

/-! The bounds on what a write by access code may change. -/

/-- The bound that names every page, every lane and the configuration. -/
abbrev mayAllRegs (fields : List Field) : May := ⟨fields, List.range 256, List.finRange 16, true⟩

theorem mayAllRegs_page (fields : List Field) (p : Nat) : (mayAllRegs fields).page p := by
  unfold May.page
  split
  · simpa [mayAllRegs] using ‹p < 256›
  · exact ⟨⟨p % 16, Nat.mod_lt p (by decide)⟩, List.mem_finRange _, rfl⟩

theorem mayAllRegs_reg (fields : List Field) : (∀ a, (mayAllRegs fields).reg a) ∧ ∀ p, (mayAllRegs fields).page p :=
  ⟨fun _ => ⟨mayAllRegs_page fields _, .inl rfl⟩, mayAllRegs_page fields⟩

/-- What a write may change that starts nothing in a block. -/
abbrev mayWriteQuiet : May := mayAllRegs [.now, .regs, .hirqLow, .hirqRose]

/-- What any write by access code may change. -/
abbrev mayWrite : May := mayAllRegs [.now, .regs, .yew, .banks, .pwm, .eng, .fbk, .imu, .hirqLow, .hirqRose]

section RegisterWrite

variable {s : State} {a : Nat} {v : Word} {k : PageKind} {i was : Nat} {d : RegDef}

/-- The state of a write by access code before HIRQ_N follows: the page settled, the fields written, the block's start. -/
abbrev State.byCode (s : State) (a : Nat) (v : Word) (k : PageKind) (i : Nat) (d : RegDef) (was : Nat) : State :=
  ((s.settlePage k i).writeFields (a / 4096) d (a % 4096) v).cfgSide k i (a % 4096) was

theorem ByCode.offset (ho : ByCode k (a % 4096)) : a % 4096 < 4096 ∧ a % 4096 ≠ HDR.PG_ERR_FIRST := by
  unfold HDR.PG_ERR_FIRST
  unfold ByCode at ho
  omega

theorem State.byCode_reg (hc : s.canon = true) (ho : ByCode k (a % 4096)) :
    (s.byCode a v k i d was).reg a = s.codeWord d (s.reg a) v := by
  have hw := State.settlePage_regs_wf hc k i
  have hself := State.writeFields_reg_self hw (a / 4096) d v ho.offset.1 ho.offset.2
  rw [hdr_div_mod] at hself
  rw [State.cfgSide_reg (State.writeFields_regs_wf hw _ _ _ _) _ _ ho, hself, State.settlePage_reg_byCode hc i ho]
  exact State.codeWord_congr (State.settlePage_sealed s k i) _ _ _

theorem State.byCode_locked (hc : s.canon = true) (ho : ByCode k (a % 4096)) (hs : s.sealed = true) (hl : d.rwl ≠ 0)
    (h : (s.reg (hdr (a / 4096) HDR.PG_ERR_FIRST)).toNat.testBit 31 = false) :
    (s.byCode a v k i d was).reg (hdr (a / 4096) HDR.PG_ERR_FIRST) =
      wd (0x80000000 + ErrCode.lockedWrite.code * 65536 + a % 4096) := by
  have hw := State.settlePage_regs_wf hc k i
  rw [(State.cfgSide_errKept _ k i (a % 4096) was (.refl _)).err (State.writeFields_regs_wf hw _ _ _ _)]
  apply State.writeFields_locked hw v ho.offset.1 ho.offset.2 ((State.settlePage_sealed s k i).trans hs) hl
  rwa [State.settlePage_errFirst hc]

theorem State.byCode_quiet (h : quietWrite k (a % 4096) = true) :
    s.byCode a v k i d was = s.writeFields (a / 4096) d (a % 4096) v := by
  rw [State.byCode, State.cfgSide_quiet _ _ _ h, State.settlePage_quiet s i h]

theorem State.byCode_reg_ne (hc : s.canon = true) (h : quietWrite k (a % 4096) = true) {b : Nat} (hb : home b ≠ home a)
    (he : home b ≠ home (hdr (a / 4096) HDR.PG_ERR_FIRST)) : (s.byCode a v k i d was).reg b = s.reg b := by
  rw [State.byCode_quiet h]
  refine State.writeFields_reg_ne (State.canon_regs hc) d v ?_ he
  rwa [hdr_div_mod]

theorem State.byCode_onlyQuiet {z : State} (hz : Only mayWriteQuiet z s) (h : quietWrite k (a % 4096) = true) :
    Only mayWriteQuiet z (s.byCode a v k i d was) := by
  rw [State.byCode_quiet h]
  exact State.writeFields_only _ _ _ _ _ hz (mayAllRegs_reg _) (by decide)

theorem State.byCode_only {z : State} (hz : Only mayWrite z s) : Only mayWrite z (s.byCode a v k i d was) := by
  have hsettle := State.settlePage_only s k i hz (by decide) (by decide) (by decide) (by decide) (by decide)
    fun n => List.mem_finRange n
  have hwrite := State.writeFields_only _ (a / 4096) d (a % 4096) v hsettle (mayAllRegs_reg _) (by decide)
  exact State.cfgSide_only _ k i (a % 4096) was hwrite (by decide) (by decide) (by decide) (by decide) (by decide) (by decide)
    (by decide) (by decide) fun n => List.mem_finRange n

end RegisterWrite

theorem exec_registerWrite (t : Time) (a : BitVec 24) (v : Word) {s : State} (h : Writable s) :
    exec (.registerWrite t a v) s = .next ((s.at t).hostWord a.toNat v).1.hirqSettle :=
  congrArg Host.Outcome.next (State.rowWrite_eq (s := s.at t) h.1 h.2)

/-- Settles O8: a write settles its page, writes the fields by `State.codeWord` and starts what the configuration starts;
neither end touches the register or PG_ERR_FIRST. -/
theorem registerWrites : Obligations.RegisterWrites := by
  unfold Obligations.RegisterWrites
  refine ⟨?byCode, ?undefined, ?ignored⟩
  case byCode =>
    intro t a v k i d s hc hr hp hd hf ho
    obtain ⟨was, hword⟩ := State.hostWord_byCode (s := s.at t) (v := v) hp hd hf ho
    have hat : (s.at t).canon = true := hc
    have hregs : ∀ b, ((s.at t).byCode a.toNat v k i d was).hirqSettle.reg b = ((s.at t).byCode a.toNat v k i d was).reg b :=
      State.reg_congr (State.hirqSettle_regs _)
    rw [Answers, exec_registerWrite t a v hr, hword]
    refine ⟨_, rfl, fun b hb => ?_, fun hs hl herr => ?_, fun hq => ⟨fun b hb he => ?_, ?_⟩, ?_⟩
    · rw [hregs, State.byCode_reg hat ho]
      exact State.codeWord_getLsbD (s.at t) d (s.reg a.toNat) v hb
    · rw [hregs]
      exact State.byCode_locked hat ho hs hl herr
    · rw [hregs]
      exact State.byCode_reg_ne hat hq hb he
    · exact State.hirqSettle_only _ (State.byCode_onlyQuiet (State.at_only (.refl _ s) t (by decide)) hq) (by decide) (by decide)
    · exact State.hirqSettle_only _ (State.byCode_only (State.at_only (.refl _ s) t (by decide))) (by decide) (by decide)
  case undefined =>
    intro t a v k i s hc hr hp hd hf herr
    have hat : (s.at t).canon = true := hc
    have hclear : (((s.at t).settlePage k i).reg (hdr (a.toNat / 4096) HDR.PG_ERR_FIRST)).toNat.testBit 31 = false := by
      rwa [State.settlePage_errFirst hat]
    refine ⟨_, exec_registerWrite t a v hr, ?_⟩
    dsimp only
    rw [State.hirqSettle_regs, State.hostWord_undefined (s := s.at t) hp hd hf, State.err_first _ _ _ hclear, Nat.mod_mod]
  case ignored =>
    intro t a v s hr h
    refine ⟨_, exec_registerWrite t a v hr, ?_⟩
    rw [State.hostWord_ignored (s := s.at t) h]
    exact ⟨rfl, State.hirqSettle_regs _, State.hirqSettle_held _⟩

end Sys2Proof.Machine

/-! SAFE_N (R24, R25, R175): the single half that stops, over a register file that is not in its canonical form. -/
namespace Sys2Proof.Machine

/-- A state whose register file is out of order: the entry of lane 0's CANCEL_CNT stands, with its reset value, before that
of SCHED_CFG (byte address 0x1C100). SCHED_CFG reads its reset value, so DR_MS is 50; once a write cancels lane 0 and
puts its count in order, SCHED_CFG reads the stray word, so DR_MS is 65535. Both halves are quarantined and the
single half in charge has stopped at time 0. -/
def strayRegs : State := { State.reset with
  dev := .run
  regs := [(LANE.CANCEL_CNT 0, 0), (SCHED.SCHED_CFG.DR_MS.addr, 0xFFFFFFFF)]
  laurel := { State.reset.laurel with
    singleStopAt := some 0
    half := Vector.replicate 2 { HalfState.reset with role := .quarantined } }
  lanes := Vector.replicate 16 { LaneState.reset with safeLow := false } }

/-- One second: after DR_MS as `strayRegs` reads it, and before 65535 ms. -/
def strayStop : Time := 1000 * msPs

theorem strayRegs_not_canon : strayRegs.canon = false := by decide +kernel

theorem strayRegs_up : strayRegs.up = true := by decide +kernel

theorem strayRegs_bothInService : strayRegs.bothInService = false := by decide +kernel

theorem strayRegs_singleStopAt : strayRegs.laurel.singleStopAt = some 0 := by decide +kernel

theorem strayRegs_stopped : 0 + strayRegs.fld SCHED.SCHED_CFG.DR_MS * msPs ≤ max strayRegs.now strayStop := by decide +kernel

theorem strayRegs_laneLive : strayRegs.laneLive 1 = true := by decide +kernel

/-- The stop takes lane 0 to safe state and leaves lane 1 out of it. -/
theorem strayRegs_lane_one_not_safe :
    (match exec (.singleHalfStop strayStop) strayRegs with
      | .next u => (u.lane 1).safeLow
      | _ => true) = false := by decide +kernel

/-- Refutes O30: the clause of SINGLE_HALF_STOP has no `s.canon`. In `strayRegs` the cancel count of lane 0 displaces
SCHED_CFG, so the lanes after lane 0 read a DR_MS that has not passed and stay out of safe state. -/
theorem not_safeStateEvents : ¬ Obligations.SafeStateEvents := by
  unfold Obligations.SafeStateEvents
  rintro ⟨-, -, -, -, hstop, -⟩
  obtain ⟨u, hnext, hsafe⟩ :=
    hstop strayStop strayRegs 0 strayRegs_up strayRegs_singleStopAt strayRegs_bothInService strayRegs_stopped
  have hlow := strayRegs_lane_one_not_safe
  rw [hnext] at hlow
  exact absurd (hsafe 1 strayRegs_laneLive).1 (by simp [hlow])

end Sys2Proof.Machine
